-- ==== Sys2Proof/Word.lean ====
section
/-! DEFINITION. The words of the machine: a control-space or Cuff word is 32 bits (R11, R325), a byte 8 (R6). -/

namespace Sys2Proof

/-- A 32-bit word: a control-space register word or a Cuff core register. -/
abbrev Word := BitVec 32

/-- A byte of a Pocket, of HBM or of host memory. -/
abbrev Byte := BitVec 8

/-- A logical tile ID (R21). -/
abbrev TileId := Fin 256
/-- A task slot of a tile, or a suit slot (R324, R271). -/
abbrev SlotId := Fin 4
/-- A Placket queue of a tile (R237). -/
abbrev QueueId := Fin 16
/-- A panel (R21). -/
abbrev PanelId := Fin 4
/-- A partition, which is also a host slot (R32). -/
abbrev PartId := Fin 8
/-- A fabric or mirror port: 0-15 are OP00-OP15, 16 and 17 are MP0 and MP1 (R397, R434). -/
abbrev PortId := Fin 18
/-- A window of a tile (R361). -/
abbrev WinId := Fin 16
/-- A hardware lock, numbered 0-127 over the module (R376). -/
abbrev LockId := Fin 128

end Sys2Proof
end

