-- ==== Sys2Proof/Syntax.lean ====
section
/-! DEFINITION. The commands: one constructor per row of spec/opcode_table.json, with the operands that say which
unit acts and what comes from outside the module. -/

namespace Sys2Proof

/-- Who makes a control-space access (R584, R585): a Collar core, BAR0, or a task of a tile. -/
inductive Requester where
  | collar (c : Fin 8)
  | bar0
  | task (t : TileId) (k : SlotId)
deriving DecidableEq, Repr

/-- The originator that every mesh request carries (R361): module, tile (0 for an edge unit), requester index (R362)
and source partition. -/
structure Origin where
  module : Nat
  tile : Nat
  req : Nat
  part : Nat
deriving DecidableEq, Repr

/-- A request or an answer on the mesh or the fabric (R361, R409): the header fields, and the payload with its byte
enables. In an ACCUMULATE the payload holds source elements, `addr` is the first destination element's (high-plane)
address and `addrLo` its low-plane address. `part` is the source partition as presented at the destination (R361). -/
structure Packet where
  kind : Nat
  cls : Nat
  vcset : Bool
  dstModule : Nat
  srcModule : Nat
  srcTile : Nat
  req : Nat
  dstTile : Nat
  hops : Nat
  jobTag : Nat
  txn : Nat
  addr : Nat
  addrLo : Nat
  len : Nat
  tagged : Bool
  win : Nat
  epoch : Nat
  aux : Nat
  part : Nat
  data : List (Option Byte)
deriving DecidableEq, Repr

/-- Who uses a lock: a task of a tile or a Collar core (R376). -/
inductive LockUser where
  | task (t k : Nat)
  | collar (c : Nat)
deriving DecidableEq, Repr


/-- A wide access of a local unit for task slot `task` (R68, R75): its requester index (R362), the slot-relative start
offset, the number of words, and for a write the bytes with their enables. -/
structure WideReq where
  task : SlotId
  req : Nat
  off : Nat
  words : Nat
  wr : Option (List (Option Byte))
deriving DecidableEq, Repr

/-- What WP1 presents in a cycle (R67): an access of the tile's own Placket unit, or the oldest admitted inbound
access. -/
inductive Wp1Req where
  | own (r : WideReq)
  | inbound
deriving DecidableEq, Repr

/-- A word whose stored bits fail their check: the syndrome, and whether it is uncorrectable (R80). -/
structure WordErr where
  double : Bool
  syndrome : Nat
deriving DecidableEq, Repr

/-- Who issues LKACQ or LKREL (R376): a task, whose instruction names the lock, or a Collar core on lock `l`. -/
inductive LockReq where
  | task (t : TileId) (k : SlotId)
  | collar (c : Fin 8) (l : LockId)
deriving DecidableEq, Repr

/-- What the host answers to a read or write of its memory (R467): the data of a read, or the completion status of a
failed request (0xFFFF for a timeout). -/
inductive HostAns where
  | ok (data : List Byte)
  | error (status : Nat)
deriving DecidableEq, Repr

/-- An arbiter (R383): a Pocket port (0 WP0, 1 WP1, 2 NP), a router output (0 N, 1 E, 2 S, 3 W, 4 eject), a stitch
crossing, an HBM controller port. -/
inductive ArbSite where
  | port (t : TileId) (p : Fin 3)
  | router (t : TileId) (out : Fin 5)
  | stitch (edge : Fin 4) (x : Fin 8)
  | hbm (c : Fin 8)
deriving DecidableEq, Repr

/-- A request raised at an arbiter (R384, R385): the input it stands at (routers and crossings), its originator, and
the class it carries; none for a requester at its own tile's port. -/
structure ArbReq where
  input : Nat
  module : Nat
  tile : Nat
  req : Nat
  cls : Option Nat
deriving DecidableEq, Repr

/-- What the mesh's code finds in a request's flits (R357). -/
inductive FlitErr where
  | none
  | corrected
  | uncorrectable
deriving DecidableEq, Repr

/-! ## Operands of the fabric, the mirror, the host interface and the supplies -/

/-- A flit as the receiving port decodes it (R403-R405): its sequence and acknowledgement numbers, its credit returns,
the codewords in which an error was corrected, whether a codeword is uncorrectable or the CRC fails, and the packets
whose last unit it carries, in order. -/
structure Flit where
  seq : Nat
  ack : Nat
  credits : List Nat
  corrected : Fin 3
  bad : Bool
  pkts : List Packet
deriving DecidableEq, Repr

/-- Where a packet stands that the router takes next (R412): at the die edge, or in the receive buffer of a port. -/
inductive PktAt where
  | edge
  | port (p : Fin 18)
deriving DecidableEq, Repr

/-- A fault as the modules of a job tell one another (R539, R540). -/
structure FaultInfo where
  code : Nat
  sub : Nat
  unit : Nat
  module : Nat
  step : Nat
deriving DecidableEq, Repr

/-- The decision of step 2 of R448: what the coordinator has collected (for each module not lost the epoch it last
committed, and the modules lost), or a decision received, with the first fault that the coordinator learned of. -/
inductive Decision where
  | collected (epochs : List (Nat × Nat)) (lost : List Nat)
  | received (epoch : Nat) (lost : List Nat) (fault : FaultInfo)
deriving DecidableEq, Repr

/-- What the coordinator finds about a candidate spare (R449): its ID, and whether it is reachable, unloaded, without
an alias and at the job's levels. -/
structure SpareInfo where
  id : Nat
  eligible : Bool
deriving DecidableEq, Repr

/-- An entry of the command ring (R471): SLOT, the reserved bytes, TAG and the arguments. -/
structure CmdEntry where
  slot : Nat
  resv : Nat
  tag : Nat
  arg0 : Nat
  arg1 : Nat
  arg2 : Nat
deriving DecidableEq, Repr

/-- An entry of the sequence ring (R478), without KIND. -/
structure SeqEntry where
  input : Nat
  nstop : Nat
  maxNew : Nat
  key : Nat
  addr : Nat
  len : Nat
  temp : Nat
  topK : Nat
  topP : Nat
  stops : List Nat
  resv : Nat
deriving DecidableEq, Repr

/-- A request of the module to host memory that failed (R467, R488): a read of the command ring, a write of the status
area, a read or write for a ring of slot `q`, or a transfer of queue `n` of a tile. -/
inductive HostReq where
  | command
  | status
  | sequence (q : PartId)
  | output (q : PartId)
  | partialCopy (q : PartId)
  | dma (t : TileId) (n : QueueId) (txn : Nat)
deriving DecidableEq, Repr

/-- A commit record of the image of record (R61): the STEP and the epoch of the commit, its groups, and the live words
of those groups after it. -/
structure CommitRec where
  step : Nat
  epoch : Nat
  mask : Nat
  words : List (Nat × Word)
deriving DecidableEq, Repr

/-- The telemetry of a refresh (R566, R515): the LINEAR11 words of READ_VIN, READ_IIN, READ_TEMPERATURE_1,
READ_TEMPERATURE_2 and READ_PIN, the word of PWR_INPUT, and CAL_STATUS.CHARGE. -/
structure Telemetry where
  vin : BitVec 16
  iin : BitVec 16
  temp1 : BitVec 16
  temp2 : BitVec 16
  pin : BitVec 16
  input : Word
  charge : Fin 101
deriving DecidableEq, Repr

/-- What SPARE_RETRY brings (R449): at the coordinator what it finds about the candidates, at any other module (a spare
among them) the choice made: lost modules, each with its spare; none where too few are eligible. -/
inductive SpareFind where
  | found (l : List SpareInfo)
  | told (choice : List (Nat × Nat))
deriving DecidableEq, Repr

/-- The commands of the module, in the order of the table. -/
inductive Instr where
  /-- STRUCT_LOAD_START (R46). A write of START to STRUCT_LOAD_CTRL begins a load into the named partition, or is refused with BUSY_REFUSED or PARTITION_BUSY. -/
  | structLoadStart (p : PartId)
  /-- IMAGE_CHECKS_PASSED (R48). The loader finishes reading an image with every check of R48 passed and starts the partition reset or the application. -/
  | imageChecksPassed (img : List Byte) (commits : List CommitRec)
  /-- IMAGE_REJECTED (R49). The loader stops at the first failed check, leaves the module unchanged, reports the reason and writes an IMAGE_REJECTED record. -/
  | imageRejected (img : List Byte)
  /-- IMAGE_APPLY (R51). Once the checks have passed and any partition reset has ended, the loader writes staged and live fields and copies the CODE and DATA bodies. -/
  | imageApply
  /-- IMAGE_APPLIED (R51). Application completes: windows open at epoch 0, the image of record is kept, STATE becomes DONE and the slot becomes READY. -/
  | imageApplied
  /-- REGISTER_WRITE (R53). A write to a register that has no row of its own takes effect when its unit defines, or is refused under R54. -/
  | registerWrite (u : Requester) (a : Word) (v : Word)
  /-- STAGED_FIELD_WRITE (R55). A write to a STAGED field changes only its staged copy and sets DIRTY, or is dropped while its group is pending. -/
  | stagedFieldWrite (u : Requester) (a : Word) (v : Word)
  /-- STRUCT_STAGE_DATA_READ (R55). A read of STRUCT_STAGE_DATA returns the staged copy of the register named in STRUCT_STAGE_ADDR. -/
  | structStageDataRead
  /-- STRUCT_COMMIT_GO (R57). A write of GO to STRUCT_COMMIT_CTRL makes a commit request PENDING, or APPLIED at once for an empty mask, or is refused while a request is pending. -/
  | structCommitGo (q : PartId) (v : Word)
  /-- STRUCT_COMMIT_ABORT (R60). A write of ABORT ends a pending commit with REASON ABORTED; where GO is set in the same write, a new request follows. -/
  | structCommitAbort (q : PartId) (v : Word)
  /-- GROUP_COMMIT_APPLY (R59). At the chosen quiescent point or step target, the groups of the mask are checked and then applied together, or the commit fails with FAILED_GROUP. -/
  | groupCommitApply (q : PartId)
  /-- POCKET_WIDE_ACCESS (R68). The accesses chosen for WP0 and WP1 in a cycle are granted whole when all their banks are free; a conflict holds the later access. -/
  | pocketWideAccess (t : TileId) (a0 : Option WideReq) (a1 : Option Wp1Req)
  /-- HELD_ACCESS_GRANT (R72). A held wide access is granted whole in the first cycle in which all its banks are free. -/
  | heldAccessGrant (t : TileId)
  /-- POCKET_READ_DATA (R69). A granted read, checked by its code, returns its data to the requester 3 cycles after a wide grant or 2 after a narrow one. -/
  | pocketReadData (t : TileId) (errs : List (Nat × WordErr))
  /-- NARROW_ACCESS (R70). A narrow access takes its bank in a cycle in which no wide port holds the bank, and a narrow write holds the bank for two cycles. -/
  | narrowAccess (t : TileId)
  /-- NARROW_FORCE (R74). A narrow access that has waited 16 cycles takes its bank and holds any wide access that needs it for one cycle. -/
  | narrowForce (t : TileId)
  /-- CE_WRITE_BACK (R80). A corrected word is written back in the next cycle in which its bank is free, unless a port has written the word first. -/
  | ceWriteBack (t : TileId)
  /-- SCRUB_STEP (R83). Paced by the always-on clock, the scrub engine reads the next word in a free bank cycle and writes back a corrected word. -/
  | scrubStep (t : TileId) (err : Option WordErr)
  /-- WIPE_DONE (R87). The wipe and the group wakes of a tile complete: WIPING clears, WIPE_DONE sets and the tile returns to the free pool. -/
  | wipeDone (t : TileId)
  /-- BANK_GROUP_WAKE_DONE (R78). A bank group finishes waking and zeroing: its ON bit becomes 1, and a commit waiting on it becomes APPLIED. -/
  | bankGroupWakeDone (t : TileId) (g : Fin 8)
  /-- POCKET_ACC_READ (R92). A read of POCKET_ACC_DATA makes a narrow read of the word at POCKET_ACC_ADDR and advances the address. -/
  | pocketAccRead (t : TileId)
  /-- POCKET_ACC_WRITE (R92). A write of POCKET_ACC_DATA makes a narrow write of the word at POCKET_ACC_ADDR and advances the address. -/
  | pocketAccWrite (t : TileId) (v : Word)
  /-- POCKET_CTR_CLEAR_CONFLICT (R95). Writing CONFLICT clears POCKET_CONFLICT_COUNT and POCKET_CONFLICT_INFO. -/
  | pocketCtrClearConflict (t : TileId)
  /-- POCKET_CTR_CLEAR_CE (R95). Writing CE clears POCKET_CE_COUNT. -/
  | pocketCtrClearCe (t : TileId)
  /-- POCKET_CTR_CLEAR_UE (R95). Writing UE clears POCKET_UE_COUNT. -/
  | pocketCtrClearUe (t : TileId)
  /-- POCKET_CTR_CLEAR_NARROW (R95). Writing NARROW clears POCKET_NARROW_FORCE_COUNT. -/
  | pocketCtrClearNarrow (t : TileId)
  /-- SEAM_STAGE_START (R133). The Seam unit takes the SEAM stage of the next suit in issue order and starts its operation. -/
  | seamStageStart (t : TileId)
  /-- SEAM_KBLOCK_SCAN (R136). GINT or GUNION scans one K block, forming the K-unions and the GRECs of the kept granules. -/
  | seamKblockScan (t : TileId)
  /-- NMDEC_DECODE (R140). NMDEC decodes the N:M positions of the A rows into NRECs. -/
  | nmdecDecode (t : TileId)
  /-- SEAM_MERGE_CYCLE (R144). EINT or EUNION compares its two coordinate windows, emits the records up to lim and consumes them. -/
  | seamMergeCycle (t : TileId)
  /-- SEAM_RECORD_WRITE (R150). Pending records are written into the hand-over buffer against credits; the rest are held. -/
  | seamRecordWrite (t : TileId)
  /-- SEAM_CTR_CLEAR (R157). Writing ALL clears every SEAM_STAT counter. -/
  | seamCtrClear (t : TileId)
  /-- SLEEVE_STAGE_START (R283). The SLEEVE stage of the next suit starts in the cycle after the previous suit's stage has handed its last row. -/
  | sleeveStageStart (t : TileId)
  /-- SLEEVE_CYCLE (R162). In a fed cycle the array forms and sums its products, or waits for operands. -/
  | sleeveCycle (t : TileId)
  /-- SLEEVE_TILE_END (R181). After the last cycle of an output tile, the last chunk sum is promoted into the running total. -/
  | sleeveTileEnd (t : TileId)
  /-- SLEEVE_DRAIN_ROW (R181). The shadow set drains one output row to REDUCE and loads the row of tile t + 2. -/
  | sleeveDrainRow (t : TileId)
  /-- SAMPLED_TILE_RERUN (R228). A sampled tile is recomputed in SEQ_WIDE and its elements are binned in SAMPLER_HIST. -/
  | sampledTileRerun (t : TileId)
  /-- SLEEVE_CTR_CLEAR_ALL (R196). Writing ALL clears the seven SLEEVE_STAT counters. -/
  | sleeveCtrClearAll (t : TileId)
  /-- SLEEVE_CTR_CLEAR_SAT (R196). Writing SAT clears SLEEVE_SAT_MAP and SLEEVE_SAT_COUNT. -/
  | sleeveCtrClearSat (t : TileId)
  /-- SAMPLER_CTR_CLEAR (R236). Writing a bit clears the sampler counters and SAMPLER_DIVERGED of that partition. -/
  | samplerCtrClear (p : PanelId) (mask : BitVec 8)
  /-- SUIT_ISSUE_CHECKS (R282). In the cycle after the operand block is delivered, the issue checks run and the suit either aborts or goes on. -/
  | suitIssueChecks (t : TileId) (i : SlotId)
  /-- SUIT_RUNNING (R283). A suit whose input ranges no longer overlap a pending output range enters RUNNING. -/
  | suitRunning (t : TileId) (i : SlotId)
  /-- FETCH_SLOT_BIND (R281). FETCH finds the slot at HEAD of its bound queue filled and takes it as the base of that side. -/
  | fetchSlotBind (t : TileId) (b : Bool)
  /-- FETCH_BLOCK (R285). FETCH reads one K block of operand values into its buffer once there is room. -/
  | fetchBlock (t : TileId)
  /-- REDUCE_ROW_READ (R286). REDUCE loads a running-total row ahead into its buffer through WP0. -/
  | reduceRowRead (t : TileId)
  /-- REDUCE_ROW_WRITEBACK (R286). REDUCE writes a drained row back to TOTAL and hands it on to CONVERT. -/
  | reduceRowWriteback (t : TileId)
  /-- CONVERT_ROW (R211). CONVERT computes the stored results of a row, choosing scales by the recipe. -/
  | convertRow (t : TileId)
  /-- STORE_ROW (R287). STORE writes an output row to OUT or to the OUTBOUND ring, committing full slots. -/
  | storeRow (t : TileId)
  /-- STORE_POST (R287). After its last write is visible, STORE issues the post descriptor to its queue. -/
  | storePost (t : TileId)
  /-- SUIT_DONE (R288). All stages, writes, releases and the post descriptor are done, so the suit becomes DONE and its output ranges leave the scoreboard. -/
  | suitDone (t : TileId) (i : SlotId)
  /-- SUIT_CTRL_CANCEL (R290). Writing a CANCEL bit cancels that suit slot, its stages and its queues. -/
  | suitCtrlCancel (t : TileId) (i : SlotId)
  /-- SUIT_CTR_CLEAR (R293). Writing ALL clears the four SUIT_STAT counters. -/
  | suitCtrClear (t : TileId)
  /-- PLACKET_Q_CTRL_RELEASE (R242). Writing RELEASE releases slots of an INBOUND ring, or is dropped with a record on underflow. -/
  | placketQCtrlRelease (t : TileId) (q : QueueId) (n : Nat) (u : Requester)
  /-- PLACKET_Q_CTRL_COMMIT (R243). Writing COMMIT commits slots of an OUTBOUND ring, or is dropped with a record on underflow. -/
  | placketQCtrlCommit (t : TileId) (q : QueueId) (n : Nat) (u : Requester)
  /-- PLACKET_Q_CTRL_CANCEL (R264). Writing CANCEL cancels the queue. -/
  | placketQCtrlCancel (t : TileId) (q : QueueId)
  /-- DESCRIPTOR_START (R240). The next descriptor of a queue starts, after a fence or a free generator context or staging buffer where needed. -/
  | descriptorStart (t : TileId) (q : QueueId)
  /-- TRANSFER_ISSUE (R239). A queue with a credit and room under its limit issues its next transfer of at most 128 B. -/
  | transferIssue (t : TileId) (q : QueueId)
  /-- TRANSFER_READ_DATA (R246). The read data of a transfer are delivered and the outstanding count falls. -/
  | transferReadData (t : TileId) (q : QueueId) (host : HostAns)
  /-- WRITE_LANDED (R243). A transfer's write lands or is acknowledged, and an OUTBOUND slot's credit returns when all its writes have landed. -/
  | writeLanded (t : TileId) (q : QueueId) (host : HostAns)
  /-- MERGE_BUFFER_FLUSH (R256). The merge buffer is flushed as one access, for example 8 cycles after its first byte entered. -/
  | mergeBufferFlush (t : TileId) (q : QueueId)
  /-- QUEUE_CANCEL_ACK (R264). In the cycle after a cancellation arrives, the queue discards its FIFO, resets its counters and starts CANCELLING. -/
  | queueCancelAck (t : TileId) (q : QueueId)
  /-- QUEUE_CANCEL_DONE (R264). The last outstanding transfer completes, CANCELLING clears and EMPTY sets. -/
  | queueCancelDone (t : TileId) (q : QueueId)
  /-- PLACKET_CTR_CLEAR (R270). Writing ALL clears every PLACKET_STAT counter. -/
  | placketCtrClear (t : TileId)
  /-- AGP_ADD (R261). Generator instruction RD := RA + RB. -/
  | agpAdd (t : TileId) (x : Fin 4)
  /-- AGP_SUB (R261). Generator instruction RD := RA − RB. -/
  | agpSub (t : TileId) (x : Fin 4)
  /-- AGP_ADDI (R261). Generator instruction adding a sign-extended immediate. -/
  | agpAddi (t : TileId) (x : Fin 4)
  /-- AGP_MULI (R261). Generator instruction multiplying by a sign-extended immediate. -/
  | agpMuli (t : TileId) (x : Fin 4)
  /-- AGP_SHLI (R261). Generator instruction shifting left by an immediate. -/
  | agpShli (t : TileId) (x : Fin 4)
  /-- AGP_SHRI (R261). Generator instruction shifting right, logical, by an immediate. -/
  | agpShri (t : TileId) (x : Fin 4)
  /-- AGP_ANDI (R261). Generator instruction ANDing with a zero-extended immediate. -/
  | agpAndi (t : TileId) (x : Fin 4)
  /-- AGP_LUI (R261). Generator instruction loading the upper immediate over RA's low half. -/
  | agpLui (t : TileId) (x : Fin 4)
  /-- AGP_POPC (R261). Generator instruction counting the set bits of RA[15:0]. -/
  | agpPopc (t : TileId) (x : Fin 4)
  /-- AGP_LD16 (R262). Generator instruction loading a 16-bit word at an index base, waiting on a line miss. -/
  | agpLd16 (t : TileId) (x : Fin 4)
  /-- AGP_LDP (R262). Generator instruction loading a pointer pair entry from B0 and B1. -/
  | agpLdp (t : TileId) (x : Fin 4)
  /-- AGP_EMIT (R262). Generator instruction handing transfers of 1–64 elements to the queue, waiting for a credit or limit room. -/
  | agpEmit (t : TileId) (x : Fin 4)
  /-- AGP_BEQ (R261). Generator branch if equal. -/
  | agpBeq (t : TileId) (x : Fin 4)
  /-- AGP_BNE (R261). Generator branch if not equal. -/
  | agpBne (t : TileId) (x : Fin 4)
  /-- AGP_BLT (R261). Generator branch if less, signed. -/
  | agpBlt (t : TileId) (x : Fin 4)
  /-- AGP_BGE (R261). Generator branch if greater or equal, signed. -/
  | agpBge (t : TileId) (x : Fin 4)
  /-- AGP_JMP (R261). Generator jump. -/
  | agpJmp (t : TileId) (x : Fin 4)
  /-- AGP_END (R261). Generator instruction ending the stream. -/
  | agpEnd (t : TileId) (x : Fin 4)
  /-- AGP_RESERVED_OPCODE (R262). A reserved opcode, bad field or bad branch target in a program aborts the owner task. -/
  | agpReservedOpcode (t : TileId) (x : Fin 4)
  /-- YOKE_CUT_DONE (R300). The lead Yoke finishes reading the counts and computing the cut, and the first piece becomes takeable. -/
  | yokeCutDone (q : PartId) (a : Fin 16)
  /-- YOKE_TAKE_SERVED (R306). A waiting take is served when a piece becomes takeable, or returns VALID = 0 when every piece has been taken. -/
  | yokeTakeServed (q : PartId) (a : Fin 16)
  /-- CHAIN_RESERVATION_EXPIRE (R302). A chain part reserved for a tile becomes free to others after 64 cycles without a take. -/
  | chainReservationExpire (q : PartId) (a : Fin 16) (p : Nat)
  /-- SHAWL_SEND (R313). The mover sends a released segment to its successor's slot once the credit arrives. -/
  | shawlSend (t : TileId)
  /-- SHAWL_SEGMENT_ARRIVE (R314). A segment lands and counts in AVAIL or NEXT, and ACTIVE clears at the end of a revolution. -/
  | shawlSegmentArrive (t : TileId)
  /-- YOKE_CTR_CLEAR (R323). Writing ALL clears the Yoke and Shawl counters of the panel. -/
  | yokeCtrClear (p : PanelId)
  /-- ADD (R329). RD := RA + RB. -/
  | add (t : TileId) (k : SlotId)
  /-- SUB (R329). RD := RA − RB. -/
  | sub (t : TileId) (k : SlotId)
  /-- AND (R329). RD := RA AND RB. -/
  | and (t : TileId) (k : SlotId)
  /-- OR (R329). RD := RA OR RB. -/
  | or (t : TileId) (k : SlotId)
  /-- XOR (R329). RD := RA XOR RB. -/
  | xor (t : TileId) (k : SlotId)
  /-- SHL (R329). Left shift by RB[4:0]. -/
  | shl (t : TileId) (k : SlotId)
  /-- SHR (R329). Logical right shift by RB[4:0]. -/
  | shr (t : TileId) (k : SlotId)
  /-- SRA (R329). Arithmetic right shift by RB[4:0]. -/
  | sra (t : TileId) (k : SlotId)
  /-- SLT (R329). Set if less, signed. -/
  | slt (t : TileId) (k : SlotId)
  /-- SLTU (R329). Set if less, unsigned. -/
  | sltu (t : TileId) (k : SlotId)
  /-- MUL (R329). Low 32 bits of the product. -/
  | mul (t : TileId) (k : SlotId)
  /-- MULH (R329). High 32 bits of the product, signed. -/
  | mulh (t : TileId) (k : SlotId)
  /-- MULHU (R329). High 32 bits of the product, unsigned. -/
  | mulhu (t : TileId) (k : SlotId)
  /-- MIN (R329). Smaller of RA and RB, signed. -/
  | min (t : TileId) (k : SlotId)
  /-- MAX (R329). Larger of RA and RB, signed. -/
  | max (t : TileId) (k : SlotId)
  /-- MINU (R329). Smaller of RA and RB, unsigned. -/
  | minu (t : TileId) (k : SlotId)
  /-- MAXU (R329). Larger of RA and RB, unsigned. -/
  | maxu (t : TileId) (k : SlotId)
  /-- POPC (R329). Count of the set bits of RA. -/
  | popc (t : TileId) (k : SlotId)
  /-- CLZ (R329). Count of the leading zero bits of RA. -/
  | clz (t : TileId) (k : SlotId)
  /-- CTZ (R329). Count of the trailing zero bits of RA. -/
  | ctz (t : TileId) (k : SlotId)
  /-- ADDI (R330). Add a sign-extended immediate. -/
  | addi (t : TileId) (k : SlotId)
  /-- ANDI (R330). AND with a zero-extended immediate. -/
  | andi (t : TileId) (k : SlotId)
  /-- ORI (R330). OR with a zero-extended immediate. -/
  | ori (t : TileId) (k : SlotId)
  /-- XORI (R330). XOR with a zero-extended immediate. -/
  | xori (t : TileId) (k : SlotId)
  /-- SLTI (R330). Set if less than the immediate, signed. -/
  | slti (t : TileId) (k : SlotId)
  /-- SLTIU (R330). Set if less than the immediate, unsigned. -/
  | sltiu (t : TileId) (k : SlotId)
  /-- SHLI (R330). Left shift by an immediate. -/
  | shli (t : TileId) (k : SlotId)
  /-- SHRI (R330). Logical right shift by an immediate. -/
  | shri (t : TileId) (k : SlotId)
  /-- SRAI (R330). Arithmetic right shift by an immediate. -/
  | srai (t : TileId) (k : SlotId)
  /-- LUI (R330). RD := IMM16 × 65,536. -/
  | lui (t : TileId) (k : SlotId)
  /-- LB (R331). Load a sign-extended byte through the narrow port. -/
  | lb (t : TileId) (k : SlotId)
  /-- LBU (R331). Load a zero-extended byte. -/
  | lbu (t : TileId) (k : SlotId)
  /-- LH (R331). Load a sign-extended 16-bit word. -/
  | lh (t : TileId) (k : SlotId)
  /-- LHU (R331). Load a zero-extended 16-bit word. -/
  | lhu (t : TileId) (k : SlotId)
  /-- LW (R331). Load a 32-bit word. -/
  | lw (t : TileId) (k : SlotId)
  /-- SB (R331). Store a byte, posted. -/
  | sb (t : TileId) (k : SlotId)
  /-- SH (R331). Store a 16-bit word, posted. -/
  | sh (t : TileId) (k : SlotId)
  /-- SW (R331). Store a 32-bit word, posted. -/
  | sw (t : TileId) (k : SlotId)
  /-- BEQ (R332). Branch if equal. -/
  | beq (t : TileId) (k : SlotId)
  /-- BNE (R332). Branch if not equal. -/
  | bne (t : TileId) (k : SlotId)
  /-- BLT (R332). Branch if less, signed. -/
  | blt (t : TileId) (k : SlotId)
  /-- BGE (R332). Branch if greater or equal, signed. -/
  | bge (t : TileId) (k : SlotId)
  /-- BLTU (R332). Branch if less, unsigned. -/
  | bltu (t : TileId) (k : SlotId)
  /-- BGEU (R332). Branch if greater or equal, unsigned. -/
  | bgeu (t : TileId) (k : SlotId)
  /-- JMP (R332). Jump relative. -/
  | jmp (t : TileId) (k : SlotId)
  /-- JAL (R332). Jump relative and link in c31. -/
  | jal (t : TileId) (k : SlotId)
  /-- JR (R332). Jump to the address in a register and link. -/
  | jr (t : TileId) (k : SlotId)
  /-- CSRR (R333). Read a word of the task's own tile control-space block. -/
  | csrr (t : TileId) (k : SlotId)
  /-- CSRW (R333). Write a word of the task's own tile control-space block, after earlier stores are granted. -/
  | csrw (t : TileId) (k : SlotId)
  /-- SUIT (R277). Issue a suit into the lowest free suit slot, waiting for a slot, for the operand block, for the checks and for scoreboard entries. -/
  | suit (t : TileId) (k : SlotId)
  /-- SUCAN (R334). Cancel a suit slot that holds a suit this task issued. -/
  | sucan (t : TileId) (k : SlotId)
  /-- SUWAIT (R334). Wait until a suit slot is neither WAITING nor RUNNING, then return its status. -/
  | suwait (t : TileId) (k : SlotId)
  /-- SUSTAT (R334). Return the SUIT_STATUS of a suit slot. -/
  | sustat (t : TileId) (k : SlotId)
  /-- QISSUE (R254). Check a descriptor at issue and place it in a queue FIFO, waiting for FIFO room and scoreboard entries. -/
  | qissue (t : TileId) (k : SlotId)
  /-- QREL (R242). Release slots of an INBOUND ring. -/
  | qrel (t : TileId) (k : SlotId)
  /-- QCOMMIT (R243). Commit slots of an OUTBOUND ring. -/
  | qcommit (t : TileId) (k : SlotId)
  /-- QCANCEL (R264). Cancel a queue. -/
  | qcancel (t : TileId) (k : SlotId)
  /-- QCRED (R334). Return a queue's credits. -/
  | qcred (t : TileId) (k : SlotId)
  /-- QWAIT (R334). Wait on a queue for EMPTY, a filled head slot or a credit. -/
  | qwait (t : TileId) (k : SlotId)
  /-- YSTART (R298). Start or join an instance of an assignment. -/
  | ystart (t : TileId) (k : SlotId)
  /-- YTAKE (R304). Take a piece by the rules of R304, waiting where none is takeable. -/
  | ytake (t : TileId) (k : SlotId)
  /-- YDONE (R306). Report a piece done, making the next chain part takeable. -/
  | ydone (t : TileId) (k : SlotId)
  /-- YRET (R319). Return a held piece to the head of its home list. -/
  | yret (t : TileId) (k : SlotId)
  /-- SHBEG (R312). Begin a Shawl revolution and issue the first spill descriptors. -/
  | shbeg (t : TileId) (k : SlotId)
  /-- SHREL (R312). Release the next segment to the mover, in order. -/
  | shrel (t : TileId) (k : SlotId)
  /-- SHQRY (R334). Return the tile's SHAWL_STATUS. -/
  | shqry (t : TileId) (k : SlotId)
  /-- SHWAIT (R314). Wait until AVAIL exceeds the operand. -/
  | shwait (t : TileId) (k : SlotId)
  /-- LKACQ (R377). Acquire a lock at once when it is FREE or ORPHANED, or wait in its queue. -/
  | lkacq (u : LockReq)
  /-- LKREL (R379). Release a lock, handled by its state and owner. -/
  | lkrel (u : LockReq)
  /-- BAR (R343). Arrive at the layer barrier. -/
  | bar (t : TileId) (k : SlotId)
  /-- BARS (R344). Arrive at the layer barrier and mark the point a step boundary. -/
  | bars (t : TileId) (k : SlotId)
  /-- TEND (R349). End the task once its suits and queues are idle. -/
  | tend (t : TileId) (k : SlotId)
  /-- WFI (R335). Wait until an enabled interrupt is pending. -/
  | wfi (t : TileId) (k : SlotId)
  /-- IRET (R335). Return from the interrupt handler to EPC. -/
  | iret (t : TileId) (k : SlotId)
  /-- NOP (R335). No effect. -/
  | nop (t : TileId) (k : SlotId)
  /-- RESERVED_INSTRUCTION (R328). A reserved opcode or a non-zero unused field aborts the task before any effect. -/
  | reservedInstruction (t : TileId) (k : SlotId)
  /-- TASK_ENDED (R349). A waiting TEND finds its condition met and the task becomes ENDED. -/
  | taskEnded (t : TileId) (k : SlotId)
  /-- INTERRUPT_TAKE (R345). At an instruction boundary with an enabled pending cause, the task saves EPC and jumps to CUFF_INT_VEC. -/
  | interruptTake (t : TileId) (k : SlotId)
  /-- TASK_TIMER_EXPIRE (R345). CUFF_TASK_TIMER passes from 1 to 0 and sets the TIMER cause. -/
  | taskTimerExpire (t : TileId) (k : SlotId)
  /-- CUFF_DOORBELL (R345). Writing a RING bit sets DOORBELL pending for that task. -/
  | cuffDoorbell (t : TileId) (ring : BitVec 4)
  /-- CUFF_TASK_START (R348). Writing START starts a FREE, ENDED or CANCELLED task with a valid entry, or sets START_REFUSED. -/
  | cuffTaskStart (t : TileId) (k : SlotId)
  /-- CUFF_TASK_CANCEL (R350). Writing CANCEL cancels a RUNNING or WAITING task, its suits, queues and locks. -/
  | cuffTaskCancel (t : TileId) (k : SlotId)
  /-- SCOREBOARD_FULL (R341). An instruction that has waited SB_TIMEOUT cycles for free entries aborts its task. -/
  | scoreboardFull (t : TileId) (k : SlotId)
  /-- CUFF_CTR_CLEAR (R356). Writing ALL clears the three CUFF_STAT counters. -/
  | cuffCtrClear (t : TileId)
  /-- LAYER_BARRIER_RELEASE (R343). Once all conditions hold, every arrived task of the partition is released and STEP rises at a step boundary. -/
  | layerBarrierRelease (q : PartId)
  /-- WIN_CTRL_OPEN (R364). Writing OPEN opens a CLOSED window that meets the opening conditions, or is refused with WINDOW_REFUSED. -/
  | winCtrlOpen (t : TileId) (w : WinId) (u : Requester)
  /-- WIN_CTRL_CLOSE (R364). Writing CLOSE moves an OPEN window to CLOSING and increments its epoch. -/
  | winCtrlClose (t : TileId) (w : WinId)
  /-- OPENING_ACCESS (R367). An opening remote access is checked against the windows of the destination, and its answer fills the sender's grant entry. -/
  | openingAccess (t : TileId) (e : FlitErr)
  /-- TAGGED_ACCESS (R368). A tagged remote access is checked for epoch, mode, mask and bound. -/
  | taggedAccess (t : TileId) (e : FlitErr)
  /-- REFUSAL_ANSWER (R369). A refusal code reaches the sender, whose queue's owner task aborts and whose queue stops. -/
  | refusalAnswer (t : TileId) (q : QueueId)
  /-- REMOTE_ACKNOWLEDGE (R360). The acknowledgement of a landed remote write or accumulate reaches its originator. -/
  | remoteAcknowledge (t : TileId) (q : QueueId)
  /-- REMOTE_ACCUMULATE (R258). The destination Placket performs an admitted accumulate in REMOTE cycles, indivisibly. -/
  | remoteAccumulate (t : TileId)
  /-- CREDIT_GRANT_REQUEST (R374). A privileged source asks for a span; it is granted when an entry is free and the span is in scope, and otherwise waits. -/
  | creditGrantRequest (t : TileId) (src : Origin) (off : Nat) (len : Nat)
  /-- CREDIT_GRANT (R374). A waiting grant request receives an entry once one frees. -/
  | creditGrant (t : TileId)
  /-- CREDITED_WRITE (R375). A write under a grant lands, or is answered with CREDIT_UNDERFLOW outside every grant. -/
  | creditedWrite (t : TileId) (src : Origin) (off : Nat) (data : List (Option Byte))
  /-- CREDIT_END_MARK (R374). A source ends its grant after its last write. -/
  | creditEndMark (t : TileId) (src : Origin)
  /-- CREDIT_ENTRY_FREE (R374). The grant entry frees once every write sent before the end mark has landed. -/
  | creditEntryFree (t : TileId) (e : Fin 8)
  /-- LOCK_GRANT (R378). A release or orphaning passes the lock to the first waiter in the next cycle. -/
  | lockGrant (l : LockId)
  /-- LOCK_LEASE_EXPIRE (R380). A lease runs out on a HELD lock, which turns ORPHANED, cause LEASE. -/
  | lockLeaseExpire (l : LockId)
  /-- LOCK_CTRL_ORPHAN (R377). Writing ORPHAN turns a HELD lock ORPHANED, cause FORCED. -/
  | lockCtrlOrphan (p : PanelId) (i : Fin 32)
  /-- ARBITRATION_ROUND (R385). An arbiter grants the highest raised class, round robin within the class, and counts waits. -/
  | arbitrationRound (site : ArbSite) (reqs : List ArbReq) (ms : Nat)
  /-- WIN_CTR_CLEAR_ALL (R394). Writing ALL clears the four window and credit counters. -/
  | winCtrClearAll (t : TileId)
  /-- WIN_CTR_CLEAR_STARVE (R394). Writing STARVE clears ARB_STARVE_COUNT. -/
  | winCtrClearStarve (t : TileId)
  /-- LOCK_CTR_CLEAR (R394). Writing ALL clears both lock counters of the panel. -/
  | lockCtrClear (p : PanelId)
  /-- MESH_CTR_CLEAR (R394). Writing ALL clears MESH_STARVE_COUNT and MESH_STAT_CE. -/
  | meshCtrClear
  /-- FAB_PORT_ENABLE (R400). Writing ENABLE disables a port, or with 0 then 1 takes it out of FAILED to DOWN. -/
  | fabPortEnable (p : PortId) (b : Bool)
  /-- FAB_PORT_RETRAIN (R402). Writing RETRAIN sends an ACTIVE port to RETRAIN. -/
  | fabPortRetrain (p : PortId) (us : Nat)
  /-- LINK_TRAINING_START (R400). Peer light on every lane and a valid module ID move a DOWN port to TRAINING. -/
  | linkTrainingStart (p : PortId)
  /-- LINK_TRAINING_DONE (R401). Training ends with identities exchanged: the port becomes ACTIVE or FAILED with its cause. -/
  | linkTrainingDone (p : PortId)
  /-- LANE_LOCK_TIMEOUT (R401). A lane does not lock within 20 ms, so the port fails with cause LANE. -/
  | laneLockTimeout (p : PortId) (lanes : BitVec 16)
  /-- LANE_LOCK_LOSS (R402). A lane loses lock and the ACTIVE port enters RETRAIN. -/
  | laneLockLoss (p : PortId) (lane : Fin 16) (us : Nat)
  /-- RETRAIN_DONE (R402). A retraining port relocks and returns to ACTIVE with no flit lost. -/
  | retrainDone (p : PortId)
  /-- RETRAIN_TIMEOUT (R402). A port that fails to relock within 50 µs, or retrains a fourth time in 1 s, becomes FAILED. -/
  | retrainTimeout (p : PortId)
  /-- PEER_ORDERLY_CLOSE (R507). A peer's orderly close moves the port to DOWN without LINK_FAIL. -/
  | peerOrderlyClose (p : PortId)
  /-- FLIT_DATA (R405). A DATA flit is decoded and checked, acknowledged and its packets delivered, or discarded with a NAK. -/
  | flitData (p : PortId) (f : Flit)
  /-- FLIT_IDLE (R403). An IDLE flit carries acknowledgements and credit returns. -/
  | flitIdle (p : PortId) (f : Flit)
  /-- FLIT_NAK (R405). A NAK makes the sender replay from the named SEQ, entering RETRAIN after 8 consecutive replays. -/
  | flitNak (p : PortId) (f : Flit) (us : Nat)
  /-- FLIT_TRAIN (R401). A TRAIN flit carries the training exchange. -/
  | flitTrain (p : PortId) (id : Fin 2048) (coll : BitVec 16) (mir : BitVec 16)
  /-- READ (R417). A READ packet is forwarded by the routing table or admitted at this module and answered. -/
  | read (place : PktAt)
  /-- WRITE (R417). A WRITE packet is forwarded or admitted by the job tag and the windows or regions. -/
  | write (place : PktAt)
  /-- ACCUMULATE (R418). An ACCUMULATE packet is forwarded or admitted and applied with the local recipe. -/
  | accumulate (place : PktAt)
  /-- PAGE (R452). A PAGE packet on a mirror port lands one 64 KiB page and is acknowledged; on a fabric port it is dropped. -/
  | page (place : PktAt)
  /-- READ_DATA (R410). An answer with read data is routed to, or delivered at, its originator. -/
  | readData (place : PktAt)
  /-- ACK (R410). An acknowledgement is routed to, or delivered at, its originator. -/
  | ack (place : PktAt)
  /-- REFUSE (R419). A refusal answer reaches its originator, as LINK_FAIL for code 0x0D or else under R369. -/
  | refuse (place : PktAt)
  /-- BARRIER_ARRIVE (R423). A child's arrival is counted by its parent, which checks for mismatch and arrives upward when complete. -/
  | barrierArrive (place : PktAt)
  /-- BARRIER_RELEASE (R423). A release is passed to the children and releases the local barrier, with COMMIT and DRAIN marks acted on. -/
  | barrierRelease (place : PktAt)
  /-- EPOCH_SENT (R443). The partner's EPOCH_SENT is answered with EPOCH_LANDED once every page has landed. -/
  | epochSent (place : PktAt)
  /-- EPOCH_LANDED (R443). Receipt of EPOCH_LANDED lets the partition become PREPARED and arrive with AUX[1] = 1. -/
  | epochLanded (place : PktAt)
  /-- LOST (R447). LOST from the partner marks it lost, writes a REMOTE record, begins restart and sends JOB_STOP. -/
  | lost (place : PktAt)
  /-- RESTORE_BEGIN (R451). The spare begins receiving a restore at the decided epoch. -/
  | restoreBegin (place : PktAt) (q : PartId) (step : Word)
  /-- RESTORE_DONE (R451). The partner ends the restore and the spare answers once the last page has landed. -/
  | restoreDone (place : PktAt)
  /-- JOB_STOP (R539). A received JOB_STOP writes a REMOTE record and begins step 1 of the restart. -/
  | jobStop (place : PktAt)
  /-- REQUEST_TIMEOUT (R419). A request unanswered after FAB_TIMEOUT raises LINK_FAIL TIMEOUT against its originator's job. -/
  | requestTimeout (txn : Nat)
  /-- FAB_MODULE_ID_WRITE (R407). The first write of FAB_MODULE_ID sets ID and VALID; later writes set WRITE_IGNORED. -/
  | fabModuleIdWrite (v : Word)
  /-- FAB_PORT_CTR_CLEAR (R434). Writing ALL clears the port's counters. -/
  | fabPortCtrClear (p : PortId)
  /-- FAB_CTR_CLEAR (R434). Writing ALL clears the module fabric counters. -/
  | fabCtrClear
  /-- EPOCH_BOUNDARY (R443). At an epoch boundary the partition applies pending commits and admissions, sends its dirty pages and writes its Pocket slots. -/
  | epochBoundary (q : PartId)
  /-- BEFORE_IMAGE_COPY (R441). The first write in an epoch to a clean HBM mirror-set page waits while the page is copied to the undo area, then lands. -/
  | beforeImageCopy (page : Nat)
  /-- MIRROR_PORTS_DOWN_TIMEOUT (R446). Both of the partner's mirror ports stay out of ACTIVE for 10 ms, so the partner is declared lost. -/
  | mirrorPortsDownTimeout
  /-- COORDINATOR_ANSWER_TIMEOUT (R446). A module that has not answered the coordinator within 100 ms is declared lost. -/
  | coordinatorAnswerTimeout (q : PartId) (m : Fin 2048)
  /-- EPOCH_DECISION (R448). The coordinator, having collected the epoch states, decides the epoch and sends it with the first fault to every module. -/
  | epochDecision (q : PartId) (d : Decision)
  /-- ROLLBACK_DONE (R448). A module finishes rolling back to the decided epoch and clears its dirty bits. -/
  | rollbackDone (q : PartId)
  /-- SPARE_RETRY (R449). With too few spares, the coordinator retries every 1 s. -/
  | spareRetry (q : PartId) (f : SpareFind)
  /-- MIRROR_RECONNECT_TIMEOUT (R450). The mirror ports do not reach ACTIVE in time, so MIRROR_FAIL RECONNECT is raised and the next spare is tried. -/
  | mirrorReconnectTimeout (q : PartId)
  /-- RESTART_BARRIER_RELEASE (R448). The coordinator releases the restart barrier, partitions enter RUNNING and tasks start. -/
  | restartBarrierRelease (q : PartId)
  /-- MIRROR_CTRL_PLANNED (R458). Writing PLANNED requests a planned restart at the next epoch boundary. -/
  | mirrorCtrlPlanned (q : PartId)
  /-- FIRMWARE_ACTIVATE (R457). An armed slot is verified and activated when the conditions of R457 hold, or FAILED is set. -/
  | firmwareActivate (armed : Bool)
  /-- MIRROR_CTR_CLEAR (R463). Writing ALL clears the three mirror counters. -/
  | mirrorCtrClear (q : PartId)
  /-- HOST_CMD_TAIL_WRITE (R471). The host advances the command tail; an overrun is dropped with OVERRUN. -/
  | hostCmdTailWrite (v : Word)
  /-- LOAD (R471). Command LOAD hands the image to the loader in ring order. -/
  | load (e : CmdEntry)
  /-- RUN (R468). Command RUN starts a READY slot, resumes a drained slot or resumes a held restart. -/
  | run (e : CmdEntry)
  /-- DRAIN (R470). Command DRAIN marks barriers so that every module stops at the next epoch. -/
  | drain (e : CmdEntry)
  /-- KILL (R469). Command KILL abandons any load and resets the partition with a wipe. -/
  | kill (e : CmdEntry)
  /-- COPY_IN (R471). Command COPY_IN copies host memory into the slot's HBM through a copy engine. -/
  | copyIn (e : CmdEntry)
  /-- COPY_OUT (R471). Command COPY_OUT copies HBM to host memory. -/
  | copyOut (e : CmdEntry)
  /-- COMMAND_NOP (R471). Command NOP does nothing and completes. -/
  | commandNop (op : BitVec 8) (e : CmdEntry)
  /-- HBM_COPY_DONE (R472). A copy command finishes and its completion is written. -/
  | hbmCopyDone (n : Word) (ans : HostAns)
  /-- STATUS_PAGE_REWRITE (R473). The Collar rewrites a status page under SEQ at least once per ms and after a change. -/
  | statusPageRewrite (p : Fin 9)
  /-- HOST_STATUS_ENABLE (R473). Writing ENABLE from 0 to 1 restarts SEQ at 0 and starts page rewrites. -/
  | hostStatusEnable (b : Bool)
  /-- HOST_RING_ENABLE (R488). Clearing and setting a ring's ENABLE resumes it at its head or SEQ_HEAD. -/
  | hostRingEnable (r : Option PartId) (b : Bool)
  /-- HOST_SEQ_TAIL_WRITE (R478). The host advances the sequence tail. -/
  | hostSeqTailWrite (q : PartId) (v : Word)
  /-- SUBMIT (R479). A SUBMIT entry is read, tokenised and checked, and waits for admission or is rejected. -/
  | submit (q : PartId) (e : SeqEntry) (prompt : HostAns)
  /-- CANCEL (R480). A CANCEL entry is read and applied at the next epoch boundary. -/
  | cancel (q : PartId) (e : SeqEntry)
  /-- STEP_BOUNDARY_SERVICE (R481). At a step boundary the Collar holds the barrier, draws and delivers tokens, frees pages, assigns rows and writes the service tensors. -/
  | stepBoundaryService (q : PartId) (us : Nat)
  /-- PARTIAL_HOST_COPY (R487). After the barrier releases, the staging copy is copied to HOST_PART_BASE. -/
  | partialHostCopy (q : PartId)
  /-- HOST_OUT_HEAD_WRITE (R482). The host reports consumption of output entries, freeing room for held entries. -/
  | hostOutHeadWrite (q : PartId) (v : Word)
  /-- BAR2_READ (R466). A BAR2 read is translated and admitted, or completes with zero data and sets REFUSED. -/
  | bar2Read (off : Nat) (len : Nat)
  /-- BAR2_WRITE (R466). A BAR2 write is translated and admitted, setting dirty bits, or is dropped. -/
  | bar2Write (off : Nat) (data : List (Option Byte))
  /-- FUNCTION_LEVEL_RESET (R489). A PCIe function level reset resets the host interface registers and abandons ring traffic, and jobs keep running. -/
  | functionLevelReset
  /-- PERST_ASSERT (R564). PERST# is asserted and acts as a function level reset. -/
  | perstAssert
  /-- TILE_CLOCK_STOP (R492). A tile branch with no work for 64 cycles stops. -/
  | tileClockStop (t : TileId)
  /-- OPERATING_POINT_SELECT (R498). Writing CLK_PANEL_POINT.INDEX starts a transition, or keeps the value pending during one. -/
  | operatingPointSelect (p : PanelId) (i : Fin 4)
  /-- SUPPLY_RAMP_DONE (R498). The supply ramp of a transition ends, leading to the clock pause or ending the transition. -/
  | supplyRampDone (p : PanelId)
  /-- CLOCK_PAUSE_END (R498). The PLL relocks and the new frequency runs; a pending point then starts its transition. -/
  | clockPauseEnd (p : PanelId)
  /-- DEEP_IDLE_ENTER (R507). Writing DEEP_IDLE = 1 when allowed closes ports and switches domains off, or is refused. -/
  | deepIdleEnter
  /-- DEEP_IDLE_LEAVE (R508). Writing DEEP_IDLE = 0, or a LOAD, starts the wake of the deep-idle domains. -/
  | deepIdleLeave
  /-- POWER_DOMAIN_WAKE_DONE (R501). A waking power domain is on, holding the content R501 states. -/
  | powerDomainWakeDone (d : Fin 30)
  /-- COMPUTE_IDLE_OFF (R504). A panel compute domain idle for IDLE_US µs switches off. -/
  | computeIdleOff (p : PanelId)
  /-- CAL_CTRL_SET (R511). Writing SET requests that CAL_SET be loaded. -/
  | calCtrlSet
  /-- CAL_SET_LOAD (R511). At the next calendar edge the whole value is loaded and VALID becomes 1. -/
  | calSetLoad
  /-- CLK_CTR_CLEAR (R516). Writing ALL clears CLK_STAT_TRANSITIONS. -/
  | clkCtrClear
  /-- PWR_CTR_CLEAR (R516). Writing ALL clears PWR_STAT_WAKE_WAIT. -/
  | pwrCtrClear
  /-- RAIL_RISE (R561). The input rises through 48 V after having been below 44 V, so conversion starts and boot begins at step 1. -/
  | railRise
  /-- CONVERSION_STOP (R561). The input falls below 44 V, stays below 48 V for 2 ms or exceeds 56 V: the rail is lost and the input monitor trips. -/
  | conversionStop (high : Bool)
  /-- BOOT_STEP_COMPLETE (R517). A boot step completes and the next begins, or boot halts. -/
  | bootStepComplete
  /-- BOOT_RECOVERY_GO (R523). Writing GO in recovery mode makes the ROM read a firmware image from host memory. -/
  | bootRecoveryGo
  /-- RECOVERY_IMAGE_VERIFIED (R523). The recovery image is verified and written to slot A with a warm reset, or refused. -/
  | recoveryImageVerified (img : List Byte)
  /-- FW_UPDATE_GO (R524). Writing GO starts a write of the inactive slot, or is refused with BUSY. -/
  | fwUpdateGo
  /-- FW_UPDATE_VERIFIED (R524). The written slot is verified, giving DONE or FAILED. -/
  | fwUpdateVerified (img : List Byte)
  /-- SEC_KEY_GO (R526). Writing GO submits a key record, which is accepted or refused with RESULT. -/
  | secKeyGo (rec : List Byte)
  /-- SVN_COMMIT (R521). Writing SVN_COMMIT with the key raises SVN_MIN when both slots qualify, or sets COMMIT_REFUSED. -/
  | svnCommit (v : Word)
  /-- TILE_RESET (R531). RST_CTRL KIND 1 resets one tile when allowed. -/
  | tileReset (key : BitVec 16) (t : TileId)
  /-- PARTITION_RESET (R532). RST_CTRL KIND 2 resets a partition as a KILL. -/
  | partitionReset (key : BitVec 16) (q : PartId)
  /-- WARM_MODULE_RESET (R531). RST_CTRL KIND 3 sends LOST and reruns boot steps 2–7. -/
  | warmModuleReset (key : BitVec 16)
  /-- COLD_RESET (R531). RST_CTRL KIND 4 sends LOST, clears the log and backup domain, and reruns boot. -/
  | coldReset (key : BitVec 16)
  /-- PARTITION_RESET_DONE (R532). The wipes and HBM zeroing end, resources return to the pool and the slot becomes IDLE or stays LOADING. -/
  | partitionResetDone (q : PartId)
  /-- WARM_RST_PIN (R565). WARM_RST# low for 10 µs or more requests a warm reset at its rising edge. -/
  | warmRstPin (low : Bool) (us : Nat)
  /-- COLD_RST_PIN (R565). COLD_RST# low for 10 µs or more requests a cold reset at its rising edge. -/
  | coldRstPin (low : Bool) (us : Nat)
  /-- COLLAR_HANG_TIMEOUT (R530). A Collar firmware hang of 2 s seen by the management domain causes a warm module reset. -/
  | collarHangTimeout
  /-- FAULT_JOB_STOP (R539). After a class T or J code, the Collar writes the record, begins the restart and sends JOB_STOP. -/
  | faultJobStop
  /-- ENV_MONITOR_TRIP (R546). A monitored quantity stays outside its limits for its filter time and raises ENV_OUT_OF_SPEC. -/
  | envMonitorTrip (high : BitVec 9) (below : BitVec 9)
  /-- FAULT_RECORD_WRITE (R551). The log writes the next queued record into its ring, at most one per 0.5 µs. -/
  | faultRecordWrite
  /-- FLOG_CTRL_CLEAR (R553). Writing CLEAR with the key empties the log. -/
  | flogCtrlClear (v : Word)
  /-- HBM_SCRUB_STEP (R543). The background pass reads an HBM word, correcting it or charging an uncorrectable word. -/
  | hbmScrubStep (w : Nat) (err : Option Bool)
  /-- HBM_CTR_CLEAR (R556). Writing ALL clears both HBM error counters. -/
  | hbmCtrClear (c : Fin 8)
  /-- CLEAR_FAULTS (R566). PMBus command clearing the STATUS registers and releasing PMB_ALERT#. -/
  | clearFaults
  /-- CAPABILITY (R566). PMBus read of 0xB0. -/
  | capability
  /-- STATUS_WORD (R566). PMBus read of the status summary. -/
  | statusWord
  /-- STATUS_INPUT (R566). PMBus read of the input fault bits. -/
  | statusInput
  /-- STATUS_TEMPERATURE (R566). PMBus read of the temperature fault bits. -/
  | statusTemperature
  /-- STATUS_CML (R566). PMBus read of the communication faults. -/
  | statusCml
  /-- READ_VIN (R566). PMBus read of the input voltage. -/
  | readVin
  /-- READ_IIN (R566). PMBus read of the input current. -/
  | readIin
  /-- READ_TEMPERATURE_1 (R566). PMBus read of the coolant inlet temperature. -/
  | readTemperature1
  /-- READ_TEMPERATURE_2 (R566). PMBus read of the hottest junction temperature. -/
  | readTemperature2
  /-- READ_PIN (R566). PMBus read of the input power. -/
  | readPin
  /-- PMBUS_REVISION (R566). PMBus read of 0x44. -/
  | pmbusRevision
  /-- MFR_ID (R566). PMBus block read of TERBOR. -/
  | mfrId
  /-- MFR_MODEL (R566). PMBus block read of the order code. -/
  | mfrModel
  /-- MFR_SERIAL (R566). PMBus block read of the serial. -/
  | mfrSerial
  /-- PMBUS_UNSUPPORTED_COMMAND (R566). An unsupported PMBus command is NACKed and sets CML. -/
  | pmbusUnsupportedCommand (code : BitVec 8)
  /-- PMBUS_TELEMETRY_REFRESH (R566). Telemetry values are refreshed every 1 ms. -/
  | pmbusTelemetryRefresh (x : Telemetry)
  /-- BYPASS (R567). JTAG BYPASS instruction. -/
  | bypass
  /-- SAMPLE_PRELOAD (R567). JTAG SAMPLE/PRELOAD instruction. -/
  | samplePreload
  /-- EXTEST (R567). JTAG EXTEST drives the M lands only while the module is held in reset. -/
  | extest
  /-- IDCODE (R567). JTAG IDCODE reads 0x1A71_C001. -/
  | idcode
  /-- SUPERCAPACITOR_HOLD_LOST (R512). While the rail is absent, the supercapacitor voltage falls below the hold threshold and the backup domain loses the calendar count and backup memory. -/
  | supercapacitorHoldLost
  /-- ENV_WITHIN_LIMITS (R547). Every monitored quantity has been within its limits for its filter time, so a module waiting in boot step 2 proceeds. -/
  | envWithinLimits
  /-- PERST_RELEASE (R564). PERST# is released and the endpoint trains the PCIe link. -/
  | perstRelease
  /-- PCIE_LINK_DOWN (R530). The PCIe link goes down, which acts as a function level reset and stops status page writes. -/
  | pcieLinkDown
  /-- PCIE_COMPLETION_TIMEOUT (R467). A device request to host memory gets no completion in time, so the Placket owner task aborts or the Collar ring is disabled. -/
  | pcieCompletionTimeout (r : HostReq) (status : BitVec 16)
  /-- PCIE_CONFIGURATION_REQUEST (R517). A host configuration request is answered with Request Retry Status before boot step 5 and normally afterwards, including power-state writes. -/
  | pcieConfigurationRequest (d3 : Option Bool)
deriving DecidableEq, Repr

end Sys2Proof
end

