-- ==== Sys2Proof/Config.lean ====
section
/-! DEFINITION. What the module's makers fix and the spec leaves open, and the free values: opaque constants, of which
no value can be proved. -/

namespace Sys2Proof

/-- The HBM controller and stack that hold an HBM word: the spec gives no map of HBM offsets onto the eight stacks. -/
opaque Config.hbmStack : Nat → Fin 8

/-- The integer that a scatter adds for a NaN (R225 states none): by free-value number. -/
opaque Config.nanAsInt : Nat → Int

/-- The SAT_INDEX under which a saturating scatter is shown (R225 names none): by free-value number. -/
opaque Config.scatterSatIndex : Nat → Fin 1024

/-- A word whose value the spec leaves open: by free-value number. -/
opaque Config.freeWord : Nat → BitVec 32

/-- The bytes that firmware keeps for a commit record in the image of record (R61 gives their content, no layout). -/
opaque Config.commitBytes : CommitRec → List (BitVec 8)

/-- The commit records that firmware reads back from the bytes that follow the image in the image of record: from the
bytes that are not zero, by offset. -/
opaque Config.commitsOf : List (Nat × BitVec 8) → List CommitRec

/-- The place of a page of the image of record in the HBM of the module that it is sent to (R61, R451 give none). -/
opaque Config.recordPlace : Nat → Nat

/-- The code of a record for which the spec names none: R488 and R466 ask for a record of unit 13. Codes run from 0x01 to
0x19 (R536). -/
opaque Config.freeCode : Nat → Fin 25

/-- Which of several free slot numbers or KV pages the Collar takes: R480 and R481 state no order. The list is what is
free; the choice is a function of it, so that a restart repeats it (R481). -/
opaque Config.pick : List Nat → Nat

/-- The OFFSET of an item in the partial-results copy: R487 states no placement. From the item sizes and the index. -/
opaque Config.partialOffset : List Nat → Nat → Nat

/-- Word `i` of the identity fuses (R533). -/
opaque Config.idFuse : Nat → BitVec 32

/-- The fused hash of Terbor key `k`, as a 384-bit number (R520). -/
opaque Config.keyHash : Nat → Nat

/-- A firmware slot as the module is delivered (R519): 0 A, 1 B. -/
opaque Config.fwFactory : Nat → List (BitVec 8)

end Sys2Proof
end

