-- ==== Sys2Proof/Machine/Tab.lean ====
section
/-! DEFINITION. Tables of plain data keyed by a number, and byte memories in canonical form: the containers that
State uses. A table lists the keys that have been written, in rising order; a byte memory lists the bytes that are
not zero. -/

namespace Sys2Proof.Machine

/-- The value listed for key `k`, if any. -/
def tfind {α : Type} : List (Nat × α) → Nat → Option α
  | [], _ => none
  | (k', v) :: t, k => if k' = k then some v else tfind t k

/-- The value at key `k`, where an unlisted key holds `d`. -/
def tget {α : Type} (t : List (Nat × α)) (d : α) (k : Nat) : α := (tfind t k).getD d

/-- The table with `v` at key `k`, keys kept in rising order. -/
def tset {α : Type} : List (Nat × α) → Nat → α → List (Nat × α)
  | [], k, v => [(k, v)]
  | (k', v') :: t, k, v =>
    if k = k' then (k, v) :: t
    else if k < k' then (k, v) :: (k', v') :: t
    else (k', v') :: tset t k v

/-- The table without key `k`. -/
def tdel {α : Type} (t : List (Nat × α)) (k : Nat) : List (Nat × α) := t.filter (fun p => p.1 != k)

/-- The byte at address `a`; a byte that nothing has written since it was zeroed reads 0. -/
def mget (m : List Host.Cell) (a : Nat) : Byte := tget m 0 a

/-- The memory with byte `b` at address `a`, in canonical form: a zero byte is not listed. -/
def mset (m : List Host.Cell) (a : Nat) (b : Byte) : List Host.Cell :=
  if b = 0 then tdel m a else tset m a b

/-- The `n` bytes from address `a` upward. -/
def mread (m : List Host.Cell) (a : Nat) : Nat → List Byte
  | 0 => []
  | n + 1 => mget m a :: mread m (a + 1) n

/-- Stores the bytes from address `a` upward. -/
def mwrite (m : List Host.Cell) (a : Nat) : List Byte → List Host.Cell
  | [] => m
  | b :: bs => mwrite (mset m a b) (a + 1) bs

/-- Stores the enabled bytes (`some`) from address `a` upward and leaves the others. -/
def mwriteEn (m : List Host.Cell) (a : Nat) : List (Option Byte) → List Host.Cell
  | [] => m
  | some b :: bs => mwriteEn (mset m a b) (a + 1) bs
  | none :: bs => mwriteEn m (a + 1) bs

/-- Zeroes every byte of `[a, a + n)`. -/
def mzero (m : List Host.Cell) (a n : Nat) : List Host.Cell := m.filter (fun p => p.1 < a || a + n ≤ p.1)

/-- The canonical form of a byte memory: addresses strictly rising and no zero byte listed. -/
def Memory.wf : List Host.Cell → Bool
  | [] => true
  | [(_, b)] => b != 0
  | (a, b) :: (a', b') :: t => b != 0 && a < a' && Memory.wf ((a', b') :: t)

/-- The little-endian number that bytes spell (R9). -/
def leNat : List Byte → Nat
  | [] => 0
  | b :: bs => b.toNat + 256 * leNat bs

/-- The `n` little-endian bytes of a number (R9). -/
def leBytes : Nat → Nat → List Byte
  | 0, _ => []
  | n + 1, v => BitVec.ofNat 8 v :: leBytes n (v / 256)

/-- The big-endian number that bytes spell (R9, the ECDSA integers). -/
def beNat (bs : List Byte) : Nat := leNat bs.reverse

/-- The `n`-byte little-endian number at `a`. -/
def mreadNat (m : List Host.Cell) (a n : Nat) : Nat := leNat (mread m a n)

/-- Bits `[lo + len - 1 : lo]` of a word, as a number (R8). -/
def fieldOf (w : Word) (lo len : Nat) : Nat := (w.extractLsb' lo len).toNat

/-- The mask of `len` bits from bit `lo` up. -/
def fieldMask (lo len : Nat) : Word := BitVec.ofNat 32 ((2 ^ len - 1) * 2 ^ lo)

/-- The word with bits `[lo + len - 1 : lo]` replaced by the low bits of `v`. -/
def putField (w : Word) (lo len v : Nat) : Word :=
  (w &&& ~~~ fieldMask lo len) ||| (BitVec.ofNat 32 (v * 2 ^ lo) &&& fieldMask lo len)

/-- Bits `[lo + len - 1 : lo]` of a number. -/
def bitsOf (n lo len : Nat) : Nat := n / 2 ^ lo % 2 ^ len

/-- Bit `i` of a number. -/
def bitOf (n i : Nat) : Bool := n.testBit i

/-- The numbers below `n` whose bit is set in `m`, rising. -/
def setBits (m n : Nat) : List Nat := (List.range n).filter (fun i => m.testBit i)

/-- The number with bit `i` set to `b`. -/
def putBit (m i : Nat) (b : Bool) : Nat :=
  if b then m ||| 2 ^ i else if m.testBit i then m - 2 ^ i else m

/-- A signed reading of the low `n` bits of a number. -/
def signedOf (v n : Nat) : Int := if v % 2 ^ n < 2 ^ (n - 1) then (v % 2 ^ n : Nat) else (v % 2 ^ n : Nat) - (2 ^ n : Nat)

/-- The low `n` bits of a signed number. -/
def unsignedOf (v : Int) (n : Nat) : Nat := (v % (2 ^ n : Nat)).toNat

end Sys2Proof.Machine
end

