-- ==== Sys2Proof/Machine/RegMap.lean ====
section
/-! DEFINITION. The register map of the control space: the address of every register (R581, R583, R586 and the
register tables of the chapters), its width, its reset value, and which of its bits are RW, W1C, WO or STAGED (R13,
R14, R587). An address that no row names is unassigned (R15). -/

namespace Sys2Proof.Machine

/-! ## Addresses

One function per register, named after it; its arguments are the indices of the register's row in the index of
R586, in the order of the row's terms (tile or panel first). -/

namespace Reg

def idLotLo : Nat := 0x0
def idLotHi : Nat := 0x4
def idDie : Nat := 0x8
def idRepair (i : Nat) : Nat := 0x10 + 0x4 * i
def idSerial (i : Nat) : Nat := 0x20 + 0x4 * i
def idCrc : Nat := 0x3C
def bootStatus : Nat := 0x100
def bootRecoveryAddr : Nat := 0x110
def bootRecoveryCtrl : Nat := 0x118
def fwUpdateAddr : Nat := 0x200
def fwUpdateLen : Nat := 0x208
def fwUpdateCtrl : Nat := 0x20C
def fwUpdateStatus : Nat := 0x210
def secKeyAddr : Nat := 0x300
def secKeyCtrl : Nat := 0x308
def secKeyStatus : Nat := 0x30C
def secKeyCounter : Nat := 0x310
def secSvn : Nat := 0x314
def secCtrl : Nat := 0x318
def rstCtrl : Nat := 0x400
def rstStatus : Nat := 0x404
def clkPointTable (i j : Nat) : Nat := 0x10000 + 0x20 * i + 0x4 * j
def clkPanelPoint (i : Nat) : Nat := 0x10010 + 0x20 * i
def clkPanelStatus (i : Nat) : Nat := 0x10014 + 0x20 * i
def clkDomainRun : Nat := 0x10100
def clkGateCfg : Nat := 0x10104
def clkStatTransitions : Nat := 0x10108
def clkCtrClear : Nat := 0x1010C
def pwrState : Nat := 0x20000
def pwrCtrl : Nat := 0x20004
def pwrDomainOn : Nat := 0x20008
def pwrDomainWaking : Nat := 0x2000C
def pwrComputeAuto : Nat := 0x20010
def pwrInput : Nat := 0x20020
def pwrStatWakeWait : Nat := 0x20024
def pwrCtrClear : Nat := 0x20028
def calNow : Nat := 0x30000
def calSet : Nat := 0x30008
def calCtrl : Nat := 0x30010
def calStatus : Nat := 0x30014
def backupMem (i : Nat) : Nat := 0x30100 + 0x4 * i
def flogNext : Nat := 0x40000
def flogDropped : Nat := 0x40004
def flogCtrl : Nat := 0x40008
def envStatus : Nat := 0x40100
def envTrip : Nat := 0x40104
def meshClassSrc : Nat := 0xE0000
def meshClassCopy : Nat := 0xE0004
def meshClassFabric : Nat := 0xE0008
def meshThreshRouter : Nat := 0xE0010
def meshThreshStitch : Nat := 0xE0014
def meshThreshHbm : Nat := 0xE0018
def meshStarveInfo : Nat := 0xE0020
def meshStarveLoc : Nat := 0xE0024
def meshStarveCount : Nat := 0xE0028
def meshStatCe : Nat := 0xE002C
def meshCtrClear : Nat := 0xE0030
/-- FLOG_RECORD, entry `i`, word `j` (R555, R583). -/
def flogRecord (i j : Nat) : Nat :=
  if 3072 ≤ i ∧ i < 3104 then 0x50000 + 0x80 * (i - 3072) + 4 * j else 0x80000 + 0x80 * i + 4 * j
def structLevelsFmt : Nat := 0x100000
def structLevelsLink : Nat := 0x100004
def structLevelsNum : Nat := 0x100008
def structLoadAddr : Nat := 0x100010
def structLoadLen : Nat := 0x100018
def structLoadCtrl : Nat := 0x100020
def structLoadStatus : Nat := 0x100024
def structRejectOffset : Nat := 0x100028
def structShortfallMax : Nat := 0x100030
def structShortfallWorst : Nat := 0x100034
def structCommitCtrl (i : Nat) : Nat := 0x100040 + 0x10 * i
def structCommitStatus (i : Nat) : Nat := 0x100044 + 0x10 * i
def structCommitDirty (i : Nat) : Nat := 0x100048 + 0x10 * i
def structCommitStep (i : Nat) : Nat := 0x10004C + 0x10 * i
def structStageAddr : Nat := 0x1000C0
def structStageData : Nat := 0x1000C4
def structShortfallTable (i : Nat) : Nat := 0x101000 + 0x4 * i
def pocketCfg (i : Nat) : Nat := 0x1000000 + 0x10000 * i
def pocketPwrMask (i : Nat) : Nat := 0x1000004 + 0x10000 * i
def pocketPwrStatus (i : Nat) : Nat := 0x1000008 + 0x10000 * i
def pocketSlotBase (i j : Nat) : Nat := 0x1000010 + 0x10000 * i + 0x8 * j
def pocketSlotBound (i j : Nat) : Nat := 0x1000014 + 0x10000 * i + 0x8 * j
def pocketStatus (i : Nat) : Nat := 0x1000040 + 0x10000 * i
def pocketConflictCount (i : Nat) : Nat := 0x1000044 + 0x10000 * i
def pocketConflictInfo (i : Nat) : Nat := 0x1000048 + 0x10000 * i
def pocketCeCount (i : Nat) : Nat := 0x100004C + 0x10000 * i
def pocketUeCount (i : Nat) : Nat := 0x1000050 + 0x10000 * i
def pocketErrAddr (i : Nat) : Nat := 0x1000054 + 0x10000 * i
def pocketNarrowForceCount (i : Nat) : Nat := 0x1000058 + 0x10000 * i
def pocketCtrClear (i : Nat) : Nat := 0x100005C + 0x10000 * i
def pocketScrubCtrl (i : Nat) : Nat := 0x1000060 + 0x10000 * i
def pocketScrubPtr (i : Nat) : Nat := 0x1000064 + 0x10000 * i
def pocketScrubPasses (i : Nat) : Nat := 0x1000068 + 0x10000 * i
def pocketDirty (i : Nat) : Nat := 0x1000070 + 0x10000 * i
def pocketAccAddr (i : Nat) : Nat := 0x1000080 + 0x10000 * i
def pocketAccData (i : Nat) : Nat := 0x1000084 + 0x10000 * i
def pocketAccStatus (i : Nat) : Nat := 0x1000088 + 0x10000 * i
def placketStatus (i : Nat) : Nat := 0x1001000 + 0x10000 * i
def placketBwSplit (i : Nat) : Nat := 0x1001004 + 0x10000 * i
def placketErrInfo (i : Nat) : Nat := 0x1001008 + 0x10000 * i
def placketErrPos (i : Nat) : Nat := 0x100100C + 0x10000 * i
def placketCtrClear (i : Nat) : Nat := 0x1001010 + 0x10000 * i
def placketStatRd (i : Nat) : Nat := 0x1001020 + 0x10000 * i
def placketStatWr (i : Nat) : Nat := 0x1001024 + 0x10000 * i
def placketStatRemoteIn (i : Nat) : Nat := 0x1001028 + 0x10000 * i
def placketStatMerged (i : Nat) : Nat := 0x100102C + 0x10000 * i
def placketStatNocredit (i : Nat) : Nat := 0x1001030 + 0x10000 * i
def placketStatLimit (i : Nat) : Nat := 0x1001034 + 0x10000 * i
def placketStatAgpInstr (i : Nat) : Nat := 0x1001038 + 0x10000 * i
def placketStatStaged (i : Nat) : Nat := 0x100103C + 0x10000 * i
def placketQCfg (i j : Nat) : Nat := 0x1001100 + 0x10000 * i + 0x20 * j
def placketQBase (i j : Nat) : Nat := 0x1001104 + 0x10000 * i + 0x20 * j
def placketQLimit (i j : Nat) : Nat := 0x1001108 + 0x10000 * i + 0x20 * j
def placketQStatus (i j : Nat) : Nat := 0x100110C + 0x10000 * i + 0x20 * j
def placketQCredits (i j : Nat) : Nat := 0x1001110 + 0x10000 * i + 0x20 * j
def placketQHeadlen (i j : Nat) : Nat := 0x1001114 + 0x10000 * i + 0x20 * j
def placketQCtrl (i j : Nat) : Nat := 0x1001118 + 0x10000 * i + 0x20 * j
def placketProg (i j : Nat) : Nat := 0x1001800 + 0x10000 * i + 0x4 * j
def seamStatus (i : Nat) : Nat := 0x1002000 + 0x10000 * i
def seamBufStatus (i : Nat) : Nat := 0x1002004 + 0x10000 * i
def seamErrInfo (i : Nat) : Nat := 0x1002008 + 0x10000 * i
def seamErrPos (i : Nat) : Nat := 0x100200C + 0x10000 * i
def seamCtrClear (i : Nat) : Nat := 0x1002010 + 0x10000 * i
def seamStatKblocks (i : Nat) : Nat := 0x1002020 + 0x10000 * i
def seamStatGranA (i : Nat) : Nat := 0x1002024 + 0x10000 * i
def seamStatGranB (i : Nat) : Nat := 0x1002028 + 0x10000 * i
def seamStatGranOut (i : Nat) : Nat := 0x100202C + 0x10000 * i
def seamStatNull (i : Nat) : Nat := 0x1002030 + 0x10000 * i
def seamStatNrecOut (i : Nat) : Nat := 0x1002034 + 0x10000 * i
def seamStatCoordIn (i : Nat) : Nat := 0x1002038 + 0x10000 * i
def seamStatElemOut (i : Nat) : Nat := 0x100203C + 0x10000 * i
def seamStatStallOut (i : Nat) : Nat := 0x1002040 + 0x10000 * i
def seamStatStallIn (i : Nat) : Nat := 0x1002044 + 0x10000 * i
def sleeveStatus (i : Nat) : Nat := 0x1003000 + 0x10000 * i
def sleeveCfg (i : Nat) : Nat := 0x1003004 + 0x10000 * i
def sleeveErrInfo (i : Nat) : Nat := 0x1003008 + 0x10000 * i
def sleeveErrPos (i : Nat) : Nat := 0x100300C + 0x10000 * i
def sleeveCtrClear (i : Nat) : Nat := 0x1003010 + 0x10000 * i
def sleeveStatActive (i : Nat) : Nat := 0x1003020 + 0x10000 * i
def sleeveStatWaitIn (i : Nat) : Nat := 0x1003024 + 0x10000 * i
def sleeveStatWaitDrain (i : Nat) : Nat := 0x1003028 + 0x10000 * i
def sleeveStatTiles (i : Nat) : Nat := 0x100302C + 0x10000 * i
def sleeveStatNull (i : Nat) : Nat := 0x1003030 + 0x10000 * i
def sleeveStatPlaneSkip (i : Nat) : Nat := 0x1003034 + 0x10000 * i
def sleeveStatSeq (i : Nat) : Nat := 0x1003038 + 0x10000 * i
def sleeveSatCount (i : Nat) : Nat := 0x100303C + 0x10000 * i
def sleeveSatMap (i j : Nat) : Nat := 0x1003080 + 0x10000 * i + 0x4 * j
def cuffStatus (i : Nat) : Nat := 0x1004000 + 0x10000 * i
def cuffIntRoute (i : Nat) : Nat := 0x1004004 + 0x10000 * i
def cuffDoorbell (i : Nat) : Nat := 0x1004008 + 0x10000 * i
def cuffStep (i : Nat) : Nat := 0x100400C + 0x10000 * i
def cuffStatInstr (i : Nat) : Nat := 0x1004010 + 0x10000 * i
def cuffStatIdle (i : Nat) : Nat := 0x1004014 + 0x10000 * i
def cuffStatSbWait (i : Nat) : Nat := 0x1004018 + 0x10000 * i
def cuffCtrClear (i : Nat) : Nat := 0x100401C + 0x10000 * i
def cuffTaskCtrl (i j : Nat) : Nat := 0x1004100 + 0x10000 * i + 0x40 * j
def cuffTaskStatus (i j : Nat) : Nat := 0x1004104 + 0x10000 * i + 0x40 * j
def cuffTaskEntry (i j : Nat) : Nat := 0x1004108 + 0x10000 * i + 0x40 * j
def cuffTaskArg (i j : Nat) : Nat := 0x100410C + 0x10000 * i + 0x40 * j
def cuffTaskErr (i j : Nat) : Nat := 0x1004110 + 0x10000 * i + 0x40 * j
def cuffTaskErrPc (i j : Nat) : Nat := 0x1004114 + 0x10000 * i + 0x40 * j
def cuffIntEn (i j : Nat) : Nat := 0x1004118 + 0x10000 * i + 0x40 * j
def cuffIntPend (i j : Nat) : Nat := 0x100411C + 0x10000 * i + 0x40 * j
def cuffIntVec (i j : Nat) : Nat := 0x1004120 + 0x10000 * i + 0x40 * j
def cuffIntEpc (i j : Nat) : Nat := 0x1004124 + 0x10000 * i + 0x40 * j
def cuffTaskTimer (i j : Nat) : Nat := 0x1004128 + 0x10000 * i + 0x40 * j
def cuffTaskReg (i j k : Nat) : Nat := 0x1004200 + 0x10000 * i + 0x80 * j + 0x4 * k
def suitStatus (i j : Nat) : Nat := 0x1004800 + 0x10000 * i + 0x10 * j
def suitErr (i j : Nat) : Nat := 0x1004804 + 0x10000 * i + 0x10 * j
def suitOpaddr (i j : Nat) : Nat := 0x1004808 + 0x10000 * i + 0x10 * j
def suitCtrl (i : Nat) : Nat := 0x1004840 + 0x10000 * i
def suitStatIssued (i : Nat) : Nat := 0x1004844 + 0x10000 * i
def suitStatDone (i : Nat) : Nat := 0x1004848 + 0x10000 * i
def suitStatAborted (i : Nat) : Nat := 0x100484C + 0x10000 * i
def suitStatCancelled (i : Nat) : Nat := 0x1004850 + 0x10000 * i
def suitCtrClear (i : Nat) : Nat := 0x1004854 + 0x10000 * i
def suitTplW0 (i j : Nat) : Nat := 0x1004C00 + 0x10000 * i + 0x20 * j
def suitTplW1 (i j : Nat) : Nat := 0x1004C04 + 0x10000 * i + 0x20 * j
def suitTplW2 (i j : Nat) : Nat := 0x1004C08 + 0x10000 * i + 0x20 * j
def suitTplW3 (i j : Nat) : Nat := 0x1004C0C + 0x10000 * i + 0x20 * j
def winBase (i j : Nat) : Nat := 0x1005000 + 0x10000 * i + 0x20 * j
def winBound (i j : Nat) : Nat := 0x1005004 + 0x10000 * i + 0x20 * j
def winCfg (i j : Nat) : Nat := 0x1005008 + 0x10000 * i + 0x20 * j
def winCtrl (i j : Nat) : Nat := 0x100500C + 0x10000 * i + 0x20 * j
def winStatus (i j : Nat) : Nat := 0x1005010 + 0x10000 * i + 0x20 * j
def winErrInfo (i : Nat) : Nat := 0x1005200 + 0x10000 * i
def winErrSrc (i : Nat) : Nat := 0x1005204 + 0x10000 * i
def winErrAddr (i : Nat) : Nat := 0x1005208 + 0x10000 * i
def creditStatus (i : Nat) : Nat := 0x100520C + 0x10000 * i
def winStatAdmitted (i : Nat) : Nat := 0x1005210 + 0x10000 * i
def winStatRefused (i : Nat) : Nat := 0x1005214 + 0x10000 * i
def creditStatGrants (i : Nat) : Nat := 0x1005218 + 0x10000 * i
def creditStatRefused (i : Nat) : Nat := 0x100521C + 0x10000 * i
def winCtrClear (i : Nat) : Nat := 0x1005220 + 0x10000 * i
def sbStatus (i : Nat) : Nat := 0x1006000 + 0x10000 * i
def sbTimeout (i : Nat) : Nat := 0x1006004 + 0x10000 * i
def sbEntryLo (i j : Nat) : Nat := 0x1006100 + 0x10000 * i + 0x8 * j
def sbEntryHi (i j : Nat) : Nat := 0x1006104 + 0x10000 * i + 0x8 * j
def arbClassWp0 (i : Nat) : Nat := 0x1007000 + 0x10000 * i
def arbClassQueue (i : Nat) : Nat := 0x1007004 + 0x10000 * i
def arbClassMisc (i : Nat) : Nat := 0x1007008 + 0x10000 * i
def arbThreshWp (i : Nat) : Nat := 0x1007010 + 0x10000 * i
def arbThreshNp (i : Nat) : Nat := 0x1007014 + 0x10000 * i
def arbStarveInfo (i : Nat) : Nat := 0x1007020 + 0x10000 * i
def arbStarveCount (i : Nat) : Nat := 0x1007024 + 0x10000 * i
def cuffImem (i j : Nat) : Nat := 0x1008000 + 0x10000 * i + 0x4 * j
def yokeStatus (i : Nat) : Nat := 0x2000000 + 0x10000 * i
def yokeErrInfo (i : Nat) : Nat := 0x2000004 + 0x10000 * i
def yokeCtrClear (i : Nat) : Nat := 0x2000008 + 0x10000 * i
def yokeStatPieces (i : Nat) : Nat := 0x2000010 + 0x10000 * i
def yokeStatStealLocal (i : Nat) : Nat := 0x2000014 + 0x10000 * i
def yokeStatStealRemote (i : Nat) : Nat := 0x2000018 + 0x10000 * i
def yokeStatSplit (i : Nat) : Nat := 0x200001C + 0x10000 * i
def yokeStatTakeWait (i : Nat) : Nat := 0x2000020 + 0x10000 * i
def yokeEnsCfg (i j k : Nat) : Nat := 0x2001000 + 0x10000 * i + 0x200 * j + 0x40 * k
def yokeEnsMask (i j k l : Nat) : Nat := 0x2001020 + 0x10000 * i + 0x200 * j + 0x40 * k + 0x4 * l
def yokeAsgW (i j k l : Nat) : Nat := 0x2004000 + 0x10000 * i + 0x400 * j + 0x40 * k + 0x4 * l
def shawlTileW (i j k : Nat) : Nat := 0x2006000 + 0x10000 * i + 0x20 * j + 0x4 * k
def shawlStatus (i j : Nat) : Nat := 0x2006800 + 0x10000 * i + 0x10 * j
def shawlProgress (i j : Nat) : Nat := 0x2006804 + 0x10000 * i + 0x10 * j
def shawlStatSpill (i j : Nat) : Nat := 0x2006808 + 0x10000 * i + 0x10 * j
def shawlStatTurns (i j : Nat) : Nat := 0x200680C + 0x10000 * i + 0x10 * j
def recipeW0 (i j k : Nat) : Nat := 0x2008000 + 0x10000 * i + 0x200 * j + 0x10 * k
def recipeW1 (i j k : Nat) : Nat := 0x2008004 + 0x10000 * i + 0x200 * j + 0x10 * k
def recipeW2 (i j k : Nat) : Nat := 0x2008008 + 0x10000 * i + 0x200 * j + 0x10 * k
def samplerRate (i j : Nat) : Nat := 0x2009000 + 0x10000 * i + 0x40 * j
def samplerKinds (i j : Nat) : Nat := 0x2009004 + 0x10000 * i + 0x40 * j
def samplerThr (i j k : Nat) : Nat := 0x2009008 + 0x10000 * i + 0x40 * j + 0x4 * k
def samplerTiles (i j : Nat) : Nat := 0x2009200 + 0x10000 * i + 0x10 * j
def samplerSatSkipped (i j : Nat) : Nat := 0x2009204 + 0x10000 * i + 0x10 * j
def samplerDiverged (i j : Nat) : Nat := 0x2009208 + 0x10000 * i + 0x10 * j
def samplerCtrClear (i : Nat) : Nat := 0x2009300 + 0x10000 * i
def samplerHist (i j k l : Nat) : Nat := 0x200A000 + 0x10000 * i + 0x200 * j + 0x40 * k + 0x4 * l
def lockState (i j : Nat) : Nat := 0x200C000 + 0x10000 * i + 0x4 * j
def lockLease (i j : Nat) : Nat := 0x200C080 + 0x10000 * i + 0x4 * j
def lockCfg (i j : Nat) : Nat := 0x200C100 + 0x10000 * i + 0x4 * j
def lockCtrl (i : Nat) : Nat := 0x200C180 + 0x10000 * i
def lockErrInfo (i : Nat) : Nat := 0x200C184 + 0x10000 * i
def lockStatOrphan (i : Nat) : Nat := 0x200C188 + 0x10000 * i
def lockStatAcq (i : Nat) : Nat := 0x200C18C + 0x10000 * i
def lockCtrClear (i : Nat) : Nat := 0x200C190 + 0x10000 * i
def fabPortCtrl (i : Nat) : Nat := 0x3000000 + 0x1000 * i
def fabPortStatus (i : Nat) : Nat := 0x3000004 + 0x1000 * i
def fabPortPeer (i : Nat) : Nat := 0x3000008 + 0x1000 * i
def fabPortLanes (i : Nat) : Nat := 0x300000C + 0x1000 * i
def fabPortStatCe (i : Nat) : Nat := 0x3000010 + 0x1000 * i
def fabPortStatReplay (i : Nat) : Nat := 0x3000014 + 0x1000 * i
def fabPortStatRetrain (i : Nat) : Nat := 0x3000018 + 0x1000 * i
def fabPortCtrClear (i : Nat) : Nat := 0x300001C + 0x1000 * i
def fabRoute (i : Nat) : Nat := 0x3020000 + 0x4 * i
def fabModuleId : Nat := 0x3030000
def fabTimeout : Nat := 0x3030004
def fabErrInfo : Nat := 0x3030008
def fabErrSrc : Nat := 0x303000C
def fabStatNoroute : Nat := 0x3030010
def fabStatTimeout : Nat := 0x3030014
def fabStatLate : Nat := 0x3030018
def fabCtrClear : Nat := 0x303001C
def fabJobtag (i : Nat) : Nat := 0x3030040 + 0x4 * i
def fabJobmap (i j : Nat) : Nat := 0x3031000 + 0x100 * i + 0x4 * j
def mirrorLinkCtrl : Nat := 0x3100000
def mirrorLinkStatus : Nat := 0x3100004
def mirrorAlias : Nat := 0x3100008
def mirrorReconnectTimeout : Nat := 0x310000C
def mirrorFwArm : Nat := 0x3100010
def mirrorCfg (i : Nat) : Nat := 0x3101000 + 0x100 * i
def mirrorCtrl (i : Nat) : Nat := 0x3101004 + 0x100 * i
def mirrorStatus (i : Nat) : Nat := 0x3101008 + 0x100 * i
def mirrorEpochStep (i : Nat) : Nat := 0x310100C + 0x100 * i
def mirrorDirty (i : Nat) : Nat := 0x3101010 + 0x100 * i
def mirrorUndoUsed (i : Nat) : Nat := 0x3101014 + 0x100 * i
def mirrorErrInfo (i : Nat) : Nat := 0x3101018 + 0x100 * i
def mirrorStatPages (i : Nat) : Nat := 0x3101020 + 0x100 * i
def mirrorStatCommits (i : Nat) : Nat := 0x3101024 + 0x100 * i
def mirrorStatRestarts (i : Nat) : Nat := 0x3101028 + 0x100 * i
def mirrorCtrClear (i : Nat) : Nat := 0x310102C + 0x100 * i
def mirrorAreaBase (i : Nat) : Nat := 0x3101040 + 0x100 * i
def mirrorAreaBytes (i : Nat) : Nat := 0x3101048 + 0x100 * i
def mirrorUndoBase (i : Nat) : Nat := 0x3101050 + 0x100 * i
def mirrorUndoBytes (i : Nat) : Nat := 0x3101058 + 0x100 * i
def mirrorSpare (i j : Nat) : Nat := 0x3101080 + 0x100 * i + 0x4 * j
def mirrorRegionAddr (i j : Nat) : Nat := 0x3108000 + 0x1000 * i + 0x10 * j
def mirrorRegionPages (i j : Nat) : Nat := 0x3108008 + 0x1000 * i + 0x10 * j
def hbmErrInfo (i : Nat) : Nat := 0x3201000 + 0x20000 * i
def hbmErrAddr (i : Nat) : Nat := 0x3201008 + 0x20000 * i
def hbmCeCount (i : Nat) : Nat := 0x3201010 + 0x20000 * i
def hbmUeCount (i : Nat) : Nat := 0x3201014 + 0x20000 * i
def hbmCtrClear (i : Nat) : Nat := 0x3201018 + 0x20000 * i
def hostStatusBase : Nat := 0x4000000
def hostCmdBase : Nat := 0x4000008
def hostCmdCfg : Nat := 0x4000010
def hostCmdTail : Nat := 0x4000014
def hostCmdHead : Nat := 0x4000018
def hostErr : Nat := 0x400001C
def hostApertureBase : Nat := 0x4000020
def hostApertureCfg : Nat := 0x4000028
def hostApertureStatus : Nat := 0x400002C
def collarStatus : Nat := 0x4000030
def hostSeqBase (i : Nat) : Nat := 0x4001000 + 0x80 * i
def hostOutBase (i : Nat) : Nat := 0x4001008 + 0x80 * i
def hostPartBase (i : Nat) : Nat := 0x4001010 + 0x80 * i
def hostDmaBase (i : Nat) : Nat := 0x4001018 + 0x80 * i
def hostDmaLimit (i : Nat) : Nat := 0x4001020 + 0x80 * i
def hostRingCfg (i : Nat) : Nat := 0x4001028 + 0x80 * i
def hostSeqTail (i : Nat) : Nat := 0x400102C + 0x80 * i
def hostOutHead (i : Nat) : Nat := 0x4001030 + 0x80 * i
def hostSlotErr (i : Nat) : Nat := 0x4001034 + 0x80 * i
def collarSvcW (i j : Nat) : Nat := 0x4002000 + 0x80 * i + 0x4 * j

end Reg

/-- One row of the register index: `base` plus the index terms (`dims`, stride and count), the width in bits, the
reset value, and the bits of each access type (R13, R14). `group` is the paired group of its staged fields (R587). -/
structure RegRow where
  base : Nat
  dims : List (Nat × Nat)
  width : Nat
  reset : Nat
  rw : Nat
  w1c : Nat
  wo : Nat
  staged : Nat
  group : Option Nat
deriving DecidableEq, Repr


/-- Register rows: 12, 16, 17, 18. -/
def moduleRowsA : List RegRow := [
  ⟨0x0, [], 32, 0, 0, 0, 0, 0, none⟩,  -- ID_LOT_LO
  ⟨0x4, [], 32, 0, 0, 0, 0, 0, none⟩,  -- ID_LOT_HI
  ⟨0x8, [], 32, 0, 0, 0, 0, 0, none⟩,  -- ID_DIE
  ⟨0x10, [(0x4, 4)], 32, 0, 0, 0, 0, 0, none⟩,  -- ID_REPAIR
  ⟨0x20, [(0x4, 4)], 32, 0, 0, 0, 0, 0, none⟩,  -- ID_SERIAL
  ⟨0x3C, [], 32, 0, 0, 0, 0, 0, none⟩,  -- ID_CRC
  ⟨0x100, [], 32, 0, 0, 0, 0, 0, none⟩,  -- BOOT_STATUS
  ⟨0x110, [], 64, 0, 0xFFFFFFFFFFFFFFFF, 0, 0, 0, none⟩,  -- BOOT_RECOVERY_ADDR
  ⟨0x118, [], 32, 0, 0x1FFF, 0, 0x80000000, 0, none⟩,  -- BOOT_RECOVERY_CTRL
  ⟨0x200, [], 64, 0, 0xFFFFFFFFFFFFFFFF, 0, 0, 0, none⟩,  -- FW_UPDATE_ADDR
  ⟨0x208, [], 32, 0, 0x3FFFFFF, 0, 0, 0, none⟩,  -- FW_UPDATE_LEN
  ⟨0x20C, [], 32, 0, 0, 0, 0x1, 0, none⟩,  -- FW_UPDATE_CTRL
  ⟨0x210, [], 32, 0, 0, 0, 0, 0, none⟩,  -- FW_UPDATE_STATUS
  ⟨0x300, [], 64, 0, 0xFFFFFFFFFFFFFFFF, 0, 0, 0, none⟩,  -- SEC_KEY_ADDR
  ⟨0x308, [], 32, 0, 0, 0, 0x1, 0, none⟩,  -- SEC_KEY_CTRL
  ⟨0x30C, [], 32, 0, 0, 0, 0, 0, none⟩,  -- SEC_KEY_STATUS
  ⟨0x310, [], 32, 0, 0, 0, 0, 0, none⟩,  -- SEC_KEY_COUNTER
  ⟨0x314, [], 32, 0, 0, 0x80000000, 0, 0, none⟩,  -- SEC_SVN
  ⟨0x318, [], 32, 0, 0, 0, 0xFFFF0001, 0, none⟩,  -- SEC_CTRL
  ⟨0x400, [], 32, 0, 0, 0, 0xFFFF07FF, 0, none⟩  -- RST_CTRL
]
/-- Continues the rows above. -/
def moduleRowsB : List RegRow := [
  ⟨0x404, [], 32, 0, 0, 0x8000000, 0, 0, none⟩,  -- RST_STATUS
  ⟨0x10000, [(0x20, 4), (0x4, 4)], 32, 0, 0, 0, 0, 0, none⟩,  -- CLK_POINT_TABLE
  ⟨0x10010, [(0x20, 4)], 32, 0, 0x3, 0, 0, 0, none⟩,  -- CLK_PANEL_POINT
  ⟨0x10014, [(0x20, 4)], 32, 0x26C0384, 0, 0, 0, 0, none⟩,  -- CLK_PANEL_STATUS
  ⟨0x10100, [], 32, 0x3, 0, 0, 0, 0, none⟩,  -- CLK_DOMAIN_RUN
  ⟨0x10104, [], 32, 0, 0xF, 0, 0, 0, none⟩,  -- CLK_GATE_CFG
  ⟨0x10108, [], 32, 0, 0, 0, 0, 0, none⟩,  -- CLK_STAT_TRANSITIONS
  ⟨0x1010C, [], 32, 0, 0, 0, 0x1, 0, none⟩,  -- CLK_CTR_CLEAR
  ⟨0x20000, [], 32, 0, 0, 0, 0, 0, none⟩,  -- PWR_STATE
  ⟨0x20004, [], 32, 0, 0x1, 0x2, 0, 0, none⟩,  -- PWR_CTRL
  ⟨0x20008, [], 32, 0x3, 0, 0, 0, 0, none⟩,  -- PWR_DOMAIN_ON
  ⟨0x2000C, [], 32, 0, 0, 0, 0, 0, none⟩,  -- PWR_DOMAIN_WAKING
  ⟨0x20010, [], 32, 0, 0xFFFFF, 0, 0, 0, none⟩,  -- PWR_COMPUTE_AUTO
  ⟨0x20020, [], 32, 0, 0, 0, 0, 0, none⟩,  -- PWR_INPUT
  ⟨0x20024, [], 32, 0, 0, 0, 0, 0, none⟩,  -- PWR_STAT_WAKE_WAIT
  ⟨0x20028, [], 32, 0, 0, 0, 0x1, 0, none⟩,  -- PWR_CTR_CLEAR
  ⟨0x30000, [], 64, 0, 0, 0, 0, 0, none⟩,  -- CAL_NOW
  ⟨0x30008, [], 64, 0, 0xFFFFFFFFFFFFFFFF, 0, 0, 0, none⟩,  -- CAL_SET
  ⟨0x30010, [], 32, 0, 0, 0, 0x1, 0, none⟩,  -- CAL_CTRL
  ⟨0x30014, [], 32, 0, 0, 0x50000000, 0, 0, none⟩  -- CAL_STATUS
]
/-- Continues the rows above. -/
def moduleRowsC : List RegRow := [
  ⟨0x30100, [(0x4, 64)], 32, 0, 0xFFFFFFFF, 0, 0, 0, none⟩,  -- BACKUP_MEM
  ⟨0x40000, [], 32, 0, 0, 0, 0, 0, none⟩,  -- FLOG_NEXT
  ⟨0x40004, [], 32, 0, 0, 0, 0, 0, none⟩,  -- FLOG_DROPPED
  ⟨0x40008, [], 32, 0, 0, 0, 0xFFFF0001, 0, none⟩,  -- FLOG_CTRL
  ⟨0x40100, [], 32, 0, 0, 0, 0, 0, none⟩,  -- ENV_STATUS
  ⟨0x40104, [], 32, 0, 0, 0x1FF, 0, 0, none⟩,  -- ENV_TRIP
  ⟨0xE0000, [], 32, 0x55555, 0xFFFFF, 0, 0, 0, none⟩,  -- MESH_CLASS_SRC
  ⟨0xE0004, [], 32, 0x5555, 0xFFFF, 0, 0, 0, none⟩,  -- MESH_CLASS_COPY
  ⟨0xE0008, [], 32, 0x55555555, 0xFFFFFFFF, 0, 0, 0, none⟩,  -- MESH_CLASS_FABRIC
  ⟨0xE0010, [], 32, 0x1000, 0xFFFF, 0, 0, 0, none⟩,  -- MESH_THRESH_ROUTER
  ⟨0xE0014, [], 32, 0x1000, 0xFFFF, 0, 0, 0, none⟩,  -- MESH_THRESH_STITCH
  ⟨0xE0018, [], 32, 0x1000, 0xFFFF, 0, 0, 0, none⟩,  -- MESH_THRESH_HBM
  ⟨0xE0020, [], 32, 0, 0, 0x80000000, 0, 0, none⟩,  -- MESH_STARVE_INFO
  ⟨0xE0024, [], 32, 0, 0, 0, 0, 0, none⟩,  -- MESH_STARVE_LOC
  ⟨0xE0028, [], 32, 0, 0, 0, 0, 0, none⟩,  -- MESH_STARVE_COUNT
  ⟨0xE002C, [], 32, 0, 0, 0, 0, 0, none⟩,  -- MESH_STAT_CE
  ⟨0xE0030, [], 32, 0, 0, 0, 0x1, 0, none⟩,  -- MESH_CTR_CLEAR
  ⟨0x80000, [(0x80, 3072), (0x4, 32)], 32, 0, 0, 0, 0, 0, none⟩,  -- FLOG_RECORD
  ⟨0x50000, [(0x80, 32), (0x4, 32)], 32, 0, 0, 0, 0, 0, none⟩,  -- FLOG_RECORD
  ⟨0xE1000, [(0x80, 992), (0x4, 32)], 32, 0, 0, 0, 0, 0, none⟩  -- FLOG_RECORD
]
/-- All the rows of the block. -/
def moduleRows : List RegRow := moduleRowsA ++ moduleRowsB ++ moduleRowsC
/-- Register rows: 02. -/
def structRows : List RegRow := [
  ⟨0x100000, [], 32, 0, 0, 0, 0, 0, none⟩,  -- STRUCT_LEVELS_FMT
  ⟨0x100004, [], 32, 0, 0, 0, 0, 0, none⟩,  -- STRUCT_LEVELS_LINK
  ⟨0x100008, [], 32, 0x1, 0, 0, 0, 0, none⟩,  -- STRUCT_LEVELS_NUM
  ⟨0x100010, [], 64, 0, 0xFFFFFFFFFFFFFFFF, 0, 0, 0, none⟩,  -- STRUCT_LOAD_ADDR
  ⟨0x100018, [], 64, 0, 0xFFFFFFFFFFFFFFFF, 0, 0, 0, none⟩,  -- STRUCT_LOAD_LEN
  ⟨0x100020, [], 32, 0, 0xE, 0, 0x1, 0, none⟩,  -- STRUCT_LOAD_CTRL
  ⟨0x100024, [], 32, 0, 0, 0x10, 0, 0, none⟩,  -- STRUCT_LOAD_STATUS
  ⟨0x100028, [], 64, 0, 0, 0, 0, 0, none⟩,  -- STRUCT_REJECT_OFFSET
  ⟨0x100030, [], 32, 0, 0, 0, 0, 0, none⟩,  -- STRUCT_SHORTFALL_MAX
  ⟨0x100034, [], 32, 0, 0, 0, 0, 0, none⟩,  -- STRUCT_SHORTFALL_WORST
  ⟨0x100040, [(0x10, 8)], 32, 0, 0x3FF0004, 0, 0x3, 0, none⟩,  -- STRUCT_COMMIT_CTRL
  ⟨0x100044, [(0x10, 8)], 32, 0xFF0000, 0, 0xC, 0, 0, none⟩,  -- STRUCT_COMMIT_STATUS
  ⟨0x100048, [(0x10, 8)], 32, 0, 0, 0, 0, 0, none⟩,  -- STRUCT_COMMIT_DIRTY
  ⟨0x10004C, [(0x10, 8)], 32, 0, 0xFFFFFFFF, 0, 0, 0, none⟩,  -- STRUCT_COMMIT_STEP
  ⟨0x1000C0, [], 32, 0, 0xFFFFFFFC, 0, 0, 0, none⟩,  -- STRUCT_STAGE_ADDR
  ⟨0x1000C4, [], 32, 0, 0, 0, 0, 0, none⟩,  -- STRUCT_STAGE_DATA
  ⟨0x101000, [(0x4, 256)], 32, 0, 0, 0, 0, 0, none⟩  -- STRUCT_SHORTFALL_TABLE
]
/-- Register rows: 03. -/
def pocketRows : List RegRow := [
  ⟨0x1000000, [(0x10000, 256)], 32, 0, 0, 0, 0, 0x1, some 0⟩,  -- POCKET_CFG
  ⟨0x1000004, [(0x10000, 256)], 32, 0xFF, 0, 0, 0, 0xFF, some 0⟩,  -- POCKET_PWR_MASK
  ⟨0x1000008, [(0x10000, 256)], 32, 0xFF, 0, 0, 0, 0, none⟩,  -- POCKET_PWR_STATUS
  ⟨0x1000010, [(0x10000, 256), (0x8, 4)], 32, 0, 0, 0, 0, 0x3FF000, some 0⟩,  -- POCKET_SLOT_BASE
  ⟨0x1000014, [(0x10000, 256), (0x8, 4)], 32, 0, 0, 0, 0, 0x7FF000, some 0⟩,  -- POCKET_SLOT_BOUND
  ⟨0x1000040, [(0x10000, 256)], 32, 0, 0, 0x7E, 0, 0, none⟩,  -- POCKET_STATUS
  ⟨0x1000044, [(0x10000, 256)], 32, 0, 0, 0, 0, 0, none⟩,  -- POCKET_CONFLICT_COUNT
  ⟨0x1000048, [(0x10000, 256)], 32, 0, 0, 0, 0, 0, none⟩,  -- POCKET_CONFLICT_INFO
  ⟨0x100004C, [(0x10000, 256)], 32, 0, 0, 0, 0, 0, none⟩,  -- POCKET_CE_COUNT
  ⟨0x1000050, [(0x10000, 256)], 32, 0, 0, 0, 0, 0, none⟩,  -- POCKET_UE_COUNT
  ⟨0x1000054, [(0x10000, 256)], 32, 0, 0, 0, 0, 0, none⟩,  -- POCKET_ERR_ADDR
  ⟨0x1000058, [(0x10000, 256)], 32, 0, 0, 0, 0, 0, none⟩,  -- POCKET_NARROW_FORCE_COUNT
  ⟨0x100005C, [(0x10000, 256)], 32, 0, 0, 0, 0xF, 0, none⟩,  -- POCKET_CTR_CLEAR
  ⟨0x1000060, [(0x10000, 256)], 32, 0x1, 0x1, 0, 0, 0, none⟩,  -- POCKET_SCRUB_CTRL
  ⟨0x1000064, [(0x10000, 256)], 32, 0, 0, 0, 0, 0, none⟩,  -- POCKET_SCRUB_PTR
  ⟨0x1000068, [(0x10000, 256)], 32, 0, 0, 0, 0, 0, none⟩,  -- POCKET_SCRUB_PASSES
  ⟨0x1000070, [(0x10000, 256)], 64, 0, 0, 0, 0, 0, none⟩,  -- POCKET_DIRTY
  ⟨0x1000080, [(0x10000, 256)], 32, 0, 0x3FFFFC, 0, 0, 0, none⟩,  -- POCKET_ACC_ADDR
  ⟨0x1000084, [(0x10000, 256)], 32, 0, 0xFFFFFFFF, 0, 0, 0, none⟩,  -- POCKET_ACC_DATA
  ⟨0x1000088, [(0x10000, 256)], 32, 0, 0, 0x7, 0, 0, none⟩  -- POCKET_ACC_STATUS
]
/-- Register rows: 05, 08. -/
def placketRowsA : List RegRow := [
  ⟨0x1001000, [(0x10000, 256)], 32, 0, 0, 0, 0, 0, none⟩,  -- PLACKET_STATUS
  ⟨0x1001004, [(0x10000, 256)], 32, 0x60604, 0, 0, 0, 0x1F1F1F, some 1⟩,  -- PLACKET_BW_SPLIT
  ⟨0x1001008, [(0x10000, 256)], 32, 0, 0, 0x80000000, 0, 0, none⟩,  -- PLACKET_ERR_INFO
  ⟨0x100100C, [(0x10000, 256)], 32, 0, 0, 0, 0, 0, none⟩,  -- PLACKET_ERR_POS
  ⟨0x1001010, [(0x10000, 256)], 32, 0, 0, 0, 0x1, 0, none⟩,  -- PLACKET_CTR_CLEAR
  ⟨0x1001020, [(0x10000, 256)], 32, 0, 0, 0, 0, 0, none⟩,  -- PLACKET_STAT_RD
  ⟨0x1001024, [(0x10000, 256)], 32, 0, 0, 0, 0, 0, none⟩,  -- PLACKET_STAT_WR
  ⟨0x1001028, [(0x10000, 256)], 32, 0, 0, 0, 0, 0, none⟩,  -- PLACKET_STAT_REMOTE_IN
  ⟨0x100102C, [(0x10000, 256)], 32, 0, 0, 0, 0, 0, none⟩,  -- PLACKET_STAT_MERGED
  ⟨0x1001030, [(0x10000, 256)], 32, 0, 0, 0, 0, 0, none⟩,  -- PLACKET_STAT_NOCREDIT
  ⟨0x1001034, [(0x10000, 256)], 32, 0, 0, 0, 0, 0, none⟩,  -- PLACKET_STAT_LIMIT
  ⟨0x1001038, [(0x10000, 256)], 32, 0, 0, 0, 0, 0, none⟩,  -- PLACKET_STAT_AGP_INSTR
  ⟨0x100103C, [(0x10000, 256)], 32, 0, 0, 0, 0, 0, none⟩,  -- PLACKET_STAT_STAGED
  ⟨0x1001100, [(0x10000, 256), (0x20, 16)], 32, 0, 0x3DF1F, 0, 0, 0, none⟩,  -- PLACKET_Q_CFG
  ⟨0x1001104, [(0x10000, 256), (0x20, 16)], 32, 0, 0x3FFC00, 0, 0, 0, none⟩,  -- PLACKET_Q_BASE
  ⟨0x1001108, [(0x10000, 256), (0x20, 16)], 32, 0x10, 0x7F, 0, 0, 0, none⟩,  -- PLACKET_Q_LIMIT
  ⟨0x100110C, [(0x10000, 256), (0x20, 16)], 32, 0x40000000, 0, 0, 0, 0, none⟩,  -- PLACKET_Q_STATUS
  ⟨0x1001110, [(0x10000, 256), (0x20, 16)], 32, 0, 0, 0, 0, 0, none⟩,  -- PLACKET_Q_CREDITS
  ⟨0x1001114, [(0x10000, 256), (0x20, 16)], 32, 0, 0, 0, 0, 0, none⟩,  -- PLACKET_Q_HEADLEN
  ⟨0x1001118, [(0x10000, 256), (0x20, 16)], 32, 0, 0, 0, 0x801F001F, 0, none⟩  -- PLACKET_Q_CTRL
]
/-- Continues the rows above. -/
def placketRowsB : List RegRow := [
  ⟨0x1001800, [(0x10000, 256), (0x4, 512)], 32, 0, 0xFFFFFFFF, 0, 0, 0, none⟩,  -- PLACKET_PROG
  ⟨0x1002000, [(0x10000, 256)], 32, 0, 0, 0, 0, 0, none⟩,  -- SEAM_STATUS
  ⟨0x1002004, [(0x10000, 256)], 32, 0, 0, 0, 0, 0, none⟩,  -- SEAM_BUF_STATUS
  ⟨0x1002008, [(0x10000, 256)], 32, 0, 0, 0x80000000, 0, 0, none⟩,  -- SEAM_ERR_INFO
  ⟨0x100200C, [(0x10000, 256)], 32, 0, 0, 0, 0, 0, none⟩,  -- SEAM_ERR_POS
  ⟨0x1002010, [(0x10000, 256)], 32, 0, 0, 0, 0x1, 0, none⟩,  -- SEAM_CTR_CLEAR
  ⟨0x1002020, [(0x10000, 256)], 32, 0, 0, 0, 0, 0, none⟩,  -- SEAM_STAT_KBLOCKS
  ⟨0x1002024, [(0x10000, 256)], 32, 0, 0, 0, 0, 0, none⟩,  -- SEAM_STAT_GRAN_A
  ⟨0x1002028, [(0x10000, 256)], 32, 0, 0, 0, 0, 0, none⟩,  -- SEAM_STAT_GRAN_B
  ⟨0x100202C, [(0x10000, 256)], 32, 0, 0, 0, 0, 0, none⟩,  -- SEAM_STAT_GRAN_OUT
  ⟨0x1002030, [(0x10000, 256)], 32, 0, 0, 0, 0, 0, none⟩,  -- SEAM_STAT_NULL
  ⟨0x1002034, [(0x10000, 256)], 32, 0, 0, 0, 0, 0, none⟩,  -- SEAM_STAT_NREC_OUT
  ⟨0x1002038, [(0x10000, 256)], 32, 0, 0, 0, 0, 0, none⟩,  -- SEAM_STAT_COORD_IN
  ⟨0x100203C, [(0x10000, 256)], 32, 0, 0, 0, 0, 0, none⟩,  -- SEAM_STAT_ELEM_OUT
  ⟨0x1002040, [(0x10000, 256)], 32, 0, 0, 0, 0, 0, none⟩,  -- SEAM_STAT_STALL_OUT
  ⟨0x1002044, [(0x10000, 256)], 32, 0, 0, 0, 0, 0, none⟩  -- SEAM_STAT_STALL_IN
]
/-- All the rows of the block. -/
def placketRows : List RegRow := placketRowsA ++ placketRowsB
/-- Register rows: 06. -/
def sleeveRows : List RegRow := [
  ⟨0x1003000, [(0x10000, 256)], 32, 0, 0, 0, 0, 0, none⟩,  -- SLEEVE_STATUS
  ⟨0x1003004, [(0x10000, 256)], 32, 0, 0x3, 0, 0, 0, none⟩,  -- SLEEVE_CFG
  ⟨0x1003008, [(0x10000, 256)], 32, 0, 0, 0x80000000, 0, 0, none⟩,  -- SLEEVE_ERR_INFO
  ⟨0x100300C, [(0x10000, 256)], 32, 0, 0, 0, 0, 0, none⟩,  -- SLEEVE_ERR_POS
  ⟨0x1003010, [(0x10000, 256)], 32, 0, 0, 0, 0x3, 0, none⟩,  -- SLEEVE_CTR_CLEAR
  ⟨0x1003020, [(0x10000, 256)], 32, 0, 0, 0, 0, 0, none⟩,  -- SLEEVE_STAT_ACTIVE
  ⟨0x1003024, [(0x10000, 256)], 32, 0, 0, 0, 0, 0, none⟩,  -- SLEEVE_STAT_WAIT_IN
  ⟨0x1003028, [(0x10000, 256)], 32, 0, 0, 0, 0, 0, none⟩,  -- SLEEVE_STAT_WAIT_DRAIN
  ⟨0x100302C, [(0x10000, 256)], 32, 0, 0, 0, 0, 0, none⟩,  -- SLEEVE_STAT_TILES
  ⟨0x1003030, [(0x10000, 256)], 32, 0, 0, 0, 0, 0, none⟩,  -- SLEEVE_STAT_NULL
  ⟨0x1003034, [(0x10000, 256)], 32, 0, 0, 0, 0, 0, none⟩,  -- SLEEVE_STAT_PLANE_SKIP
  ⟨0x1003038, [(0x10000, 256)], 32, 0, 0, 0, 0, 0, none⟩,  -- SLEEVE_STAT_SEQ
  ⟨0x100303C, [(0x10000, 256)], 32, 0, 0, 0, 0, 0, none⟩,  -- SLEEVE_SAT_COUNT
  ⟨0x1003080, [(0x10000, 256), (0x4, 32)], 32, 0, 0, 0xFFFFFFFF, 0, 0, none⟩  -- SLEEVE_SAT_MAP
]
/-- Register rows: 11. -/
def cuffRows : List RegRow := [
  ⟨0x1004000, [(0x10000, 256)], 32, 0, 0, 0, 0, 0, none⟩,  -- CUFF_STATUS
  ⟨0x1004004, [(0x10000, 256)], 32, 0, 0x3, 0, 0, 0, none⟩,  -- CUFF_INT_ROUTE
  ⟨0x1004008, [(0x10000, 256)], 32, 0, 0, 0, 0xF, 0, none⟩,  -- CUFF_DOORBELL
  ⟨0x100400C, [(0x10000, 256)], 32, 0, 0, 0, 0, 0, none⟩,  -- CUFF_STEP
  ⟨0x1004010, [(0x10000, 256)], 32, 0, 0, 0, 0, 0, none⟩,  -- CUFF_STAT_INSTR
  ⟨0x1004014, [(0x10000, 256)], 32, 0, 0, 0, 0, 0, none⟩,  -- CUFF_STAT_IDLE
  ⟨0x1004018, [(0x10000, 256)], 32, 0, 0, 0, 0, 0, none⟩,  -- CUFF_STAT_SB_WAIT
  ⟨0x100401C, [(0x10000, 256)], 32, 0, 0, 0, 0x1, 0, none⟩,  -- CUFF_CTR_CLEAR
  ⟨0x1004100, [(0x10000, 256), (0x40, 4)], 32, 0, 0, 0, 0x3, 0, none⟩,  -- CUFF_TASK_CTRL
  ⟨0x1004104, [(0x10000, 256), (0x40, 4)], 32, 0, 0, 0x800000, 0, 0, none⟩,  -- CUFF_TASK_STATUS
  ⟨0x1004108, [(0x10000, 256), (0x40, 4)], 32, 0, 0x80000FFF, 0, 0, 0, none⟩,  -- CUFF_TASK_ENTRY
  ⟨0x100410C, [(0x10000, 256), (0x40, 4)], 32, 0, 0xFFFFFFFF, 0, 0, 0, none⟩,  -- CUFF_TASK_ARG
  ⟨0x1004110, [(0x10000, 256), (0x40, 4)], 32, 0, 0, 0x80000000, 0, 0, none⟩,  -- CUFF_TASK_ERR
  ⟨0x1004114, [(0x10000, 256), (0x40, 4)], 32, 0, 0, 0, 0, 0, none⟩,  -- CUFF_TASK_ERR_PC
  ⟨0x1004118, [(0x10000, 256), (0x40, 4)], 32, 0, 0xF, 0, 0, 0, none⟩,  -- CUFF_INT_EN
  ⟨0x100411C, [(0x10000, 256), (0x40, 4)], 32, 0, 0, 0xF, 0, 0, none⟩,  -- CUFF_INT_PEND
  ⟨0x1004120, [(0x10000, 256), (0x40, 4)], 32, 0, 0xFFF, 0, 0, 0, none⟩,  -- CUFF_INT_VEC
  ⟨0x1004124, [(0x10000, 256), (0x40, 4)], 32, 0, 0xFFF, 0, 0, 0, none⟩,  -- CUFF_INT_EPC
  ⟨0x1004128, [(0x10000, 256), (0x40, 4)], 32, 0, 0xFFFFFFFF, 0, 0, 0, none⟩,  -- CUFF_TASK_TIMER
  ⟨0x1004204, [(0x10000, 256), (0x80, 4), (0x4, 31)], 32, 0, 0, 0, 0, 0, none⟩  -- CUFF_TASK_REG
]
/-- Register rows: 09. -/
def suitRows : List RegRow := [
  ⟨0x1004800, [(0x10000, 256), (0x10, 4)], 32, 0, 0, 0, 0, 0, none⟩,  -- SUIT_STATUS
  ⟨0x1004804, [(0x10000, 256), (0x10, 4)], 32, 0, 0, 0x80000000, 0, 0, none⟩,  -- SUIT_ERR
  ⟨0x1004808, [(0x10000, 256), (0x10, 4)], 32, 0, 0, 0, 0, 0, none⟩,  -- SUIT_OPADDR
  ⟨0x1004840, [(0x10000, 256)], 32, 0, 0, 0, 0xF, 0, none⟩,  -- SUIT_CTRL
  ⟨0x1004844, [(0x10000, 256)], 32, 0, 0, 0, 0, 0, none⟩,  -- SUIT_STAT_ISSUED
  ⟨0x1004848, [(0x10000, 256)], 32, 0, 0, 0, 0, 0, none⟩,  -- SUIT_STAT_DONE
  ⟨0x100484C, [(0x10000, 256)], 32, 0, 0, 0, 0, 0, none⟩,  -- SUIT_STAT_ABORTED
  ⟨0x1004850, [(0x10000, 256)], 32, 0, 0, 0, 0, 0, none⟩,  -- SUIT_STAT_CANCELLED
  ⟨0x1004854, [(0x10000, 256)], 32, 0, 0, 0, 0x1, 0, none⟩,  -- SUIT_CTR_CLEAR
  ⟨0x1004C00, [(0x10000, 256), (0x20, 32)], 32, 0, 0, 0, 0, 0xFFFFFFFF, some 4⟩,  -- SUIT_TPL_W0
  ⟨0x1004C04, [(0x10000, 256), (0x20, 32)], 32, 0, 0, 0, 0, 0xFFFFFFFF, some 4⟩,  -- SUIT_TPL_W1
  ⟨0x1004C08, [(0x10000, 256), (0x20, 32)], 32, 0, 0, 0, 0, 0xFFFFFFFF, some 4⟩,  -- SUIT_TPL_W2
  ⟨0x1004C0C, [(0x10000, 256), (0x20, 32)], 32, 0, 0, 0, 0, 0xFFFFFFFF, some 4⟩  -- SUIT_TPL_W3
]
/-- Register rows: 11, 12. -/
def windowRowsA : List RegRow := [
  ⟨0x1005000, [(0x10000, 256), (0x20, 16)], 32, 0, 0x3FFF80, 0, 0, 0, none⟩,  -- WIN_BASE
  ⟨0x1005004, [(0x10000, 256), (0x20, 16)], 32, 0, 0x7FFF80, 0, 0, 0, none⟩,  -- WIN_BOUND
  ⟨0x1005008, [(0x10000, 256), (0x20, 16)], 32, 0, 0x3FF, 0, 0, 0, none⟩,  -- WIN_CFG
  ⟨0x100500C, [(0x10000, 256), (0x20, 16)], 32, 0, 0, 0, 0x3, 0, none⟩,  -- WIN_CTRL
  ⟨0x1005010, [(0x10000, 256), (0x20, 16)], 32, 0, 0, 0, 0, 0, none⟩,  -- WIN_STATUS
  ⟨0x1005200, [(0x10000, 256)], 32, 0, 0, 0x80000000, 0, 0, none⟩,  -- WIN_ERR_INFO
  ⟨0x1005204, [(0x10000, 256)], 32, 0, 0, 0, 0, 0, none⟩,  -- WIN_ERR_SRC
  ⟨0x1005208, [(0x10000, 256)], 32, 0, 0, 0, 0, 0, none⟩,  -- WIN_ERR_ADDR
  ⟨0x100520C, [(0x10000, 256)], 32, 0, 0, 0, 0, 0, none⟩,  -- CREDIT_STATUS
  ⟨0x1005210, [(0x10000, 256)], 32, 0, 0, 0, 0, 0, none⟩,  -- WIN_STAT_ADMITTED
  ⟨0x1005214, [(0x10000, 256)], 32, 0, 0, 0, 0, 0, none⟩,  -- WIN_STAT_REFUSED
  ⟨0x1005218, [(0x10000, 256)], 32, 0, 0, 0, 0, 0, none⟩,  -- CREDIT_STAT_GRANTS
  ⟨0x100521C, [(0x10000, 256)], 32, 0, 0, 0, 0, 0, none⟩,  -- CREDIT_STAT_REFUSED
  ⟨0x1005220, [(0x10000, 256)], 32, 0, 0, 0, 0x3, 0, none⟩,  -- WIN_CTR_CLEAR
  ⟨0x1006000, [(0x10000, 256)], 32, 0x10, 0, 0, 0, 0, none⟩,  -- SB_STATUS
  ⟨0x1006004, [(0x10000, 256)], 32, 0x100000, 0xFFFFFFFF, 0, 0, 0, none⟩,  -- SB_TIMEOUT
  ⟨0x1006100, [(0x10000, 256), (0x8, 16)], 32, 0, 0, 0, 0, 0, none⟩,  -- SB_ENTRY_LO
  ⟨0x1006104, [(0x10000, 256), (0x8, 16)], 32, 0, 0, 0, 0, 0, none⟩,  -- SB_ENTRY_HI
  ⟨0x1007000, [(0x10000, 256)], 32, 0x1555, 0x3FFF, 0, 0, 0, none⟩,  -- ARB_CLASS_WP0
  ⟨0x1007004, [(0x10000, 256)], 32, 0x55555555, 0xFFFFFFFF, 0, 0, 0, none⟩  -- ARB_CLASS_QUEUE
]
/-- Continues the rows above. -/
def windowRowsB : List RegRow := [
  ⟨0x1007008, [(0x10000, 256)], 32, 0x555, 0xFFF, 0, 0, 0, none⟩,  -- ARB_CLASS_MISC
  ⟨0x1007010, [(0x10000, 256)], 32, 0x10001000, 0xFFFFFFFF, 0, 0, 0, none⟩,  -- ARB_THRESH_WP
  ⟨0x1007014, [(0x10000, 256)], 32, 0x1000, 0xFFFF, 0, 0, 0, none⟩,  -- ARB_THRESH_NP
  ⟨0x1007020, [(0x10000, 256)], 32, 0, 0, 0x80000000, 0, 0, none⟩,  -- ARB_STARVE_INFO
  ⟨0x1007024, [(0x10000, 256)], 32, 0, 0, 0, 0, 0, none⟩,  -- ARB_STARVE_COUNT
  ⟨0x1008000, [(0x10000, 256), (0x4, 4096)], 32, 0, 0xFFFFFFFF, 0, 0, 0, none⟩  -- CUFF_IMEM
]
/-- All the rows of the block. -/
def windowRows : List RegRow := windowRowsA ++ windowRowsB
/-- Register rows: 07, 10, 12. -/
def panelRowsA : List RegRow := [
  ⟨0x2000000, [(0x10000, 4)], 32, 0, 0, 0, 0, 0, none⟩,  -- YOKE_STATUS
  ⟨0x2000004, [(0x10000, 4)], 32, 0, 0, 0x80000000, 0, 0, none⟩,  -- YOKE_ERR_INFO
  ⟨0x2000008, [(0x10000, 4)], 32, 0, 0, 0, 0x1, 0, none⟩,  -- YOKE_CTR_CLEAR
  ⟨0x2000010, [(0x10000, 4)], 32, 0, 0, 0, 0, 0, none⟩,  -- YOKE_STAT_PIECES
  ⟨0x2000014, [(0x10000, 4)], 32, 0, 0, 0, 0, 0, none⟩,  -- YOKE_STAT_STEAL_LOCAL
  ⟨0x2000018, [(0x10000, 4)], 32, 0, 0, 0, 0, 0, none⟩,  -- YOKE_STAT_STEAL_REMOTE
  ⟨0x200001C, [(0x10000, 4)], 32, 0, 0, 0, 0, 0, none⟩,  -- YOKE_STAT_SPLIT
  ⟨0x2000020, [(0x10000, 4)], 32, 0, 0, 0, 0, 0, none⟩,  -- YOKE_STAT_TAKE_WAIT
  ⟨0x2001000, [(0x10000, 4), (0x200, 8), (0x40, 8)], 32, 0, 0, 0, 0, 0x80000001, some 2⟩,  -- YOKE_ENS_CFG
  ⟨0x2001020, [(0x10000, 4), (0x200, 8), (0x40, 8), (0x4, 8)], 32, 0, 0, 0, 0, 0xFFFFFFFF, some 2⟩,  -- YOKE_ENS_MASK
  ⟨0x2004000, [(0x10000, 4), (0x400, 8), (0x40, 16), (0x4, 12)], 32, 0, 0, 0, 0, 0xFFFFFFFF, some 2⟩,  -- YOKE_ASG_W
  ⟨0x2006000, [(0x10000, 4), (0x20, 64), (0x4, 8)], 32, 0, 0, 0, 0, 0xFFFFFFFF, some 5⟩,  -- SHAWL_TILE_W
  ⟨0x2006800, [(0x10000, 4), (0x10, 64)], 32, 0, 0, 0, 0, 0, none⟩,  -- SHAWL_STATUS
  ⟨0x2006804, [(0x10000, 4), (0x10, 64)], 32, 0, 0, 0, 0, 0, none⟩,  -- SHAWL_PROGRESS
  ⟨0x2006808, [(0x10000, 4), (0x10, 64)], 32, 0, 0, 0, 0, 0, none⟩,  -- SHAWL_STAT_SPILL
  ⟨0x200680C, [(0x10000, 4), (0x10, 64)], 32, 0, 0, 0, 0, 0, none⟩,  -- SHAWL_STAT_TURNS
  ⟨0x2008000, [(0x10000, 4), (0x200, 8), (0x10, 32)], 32, 0, 0, 0, 0, 0xFFFF0701, some 3⟩,  -- RECIPE_W0
  ⟨0x2008004, [(0x10000, 4), (0x200, 8), (0x10, 32)], 32, 0, 0, 0, 0, 0xFFFF0707, some 3⟩,  -- RECIPE_W1
  ⟨0x2008008, [(0x10000, 4), (0x200, 8), (0x10, 32)], 32, 0, 0, 0, 0, 0xFFFF, some 3⟩,  -- RECIPE_W2
  ⟨0x2009000, [(0x10000, 4), (0x40, 8)], 32, 0x1000, 0, 0, 0, 0x1FFFFF, some 6⟩  -- SAMPLER_RATE
]
/-- Continues the rows above. -/
def panelRowsB : List RegRow := [
  ⟨0x2009004, [(0x10000, 4), (0x40, 8)], 32, 0x7F, 0, 0, 0, 0x7F, some 6⟩,  -- SAMPLER_KINDS
  ⟨0x2009008, [(0x10000, 4), (0x40, 8), (0x4, 7)], 32, 0xF0000, 0, 0, 0, 0xFFFFF, some 6⟩,  -- SAMPLER_THR
  ⟨0x2009200, [(0x10000, 4), (0x10, 8)], 32, 0, 0, 0, 0, 0, none⟩,  -- SAMPLER_TILES
  ⟨0x2009204, [(0x10000, 4), (0x10, 8)], 32, 0, 0, 0, 0, 0, none⟩,  -- SAMPLER_SAT_SKIPPED
  ⟨0x2009208, [(0x10000, 4), (0x10, 8)], 32, 0, 0, 0, 0, 0, none⟩,  -- SAMPLER_DIVERGED
  ⟨0x2009300, [(0x10000, 4)], 32, 0, 0, 0, 0xFF, 0, none⟩,  -- SAMPLER_CTR_CLEAR
  ⟨0x200A000, [(0x10000, 4), (0x200, 8), (0x40, 7), (0x4, 16)], 32, 0, 0, 0, 0, 0, none⟩,  -- SAMPLER_HIST
  ⟨0x200C000, [(0x10000, 4), (0x4, 32)], 32, 0, 0, 0, 0, 0, none⟩,  -- LOCK_STATE
  ⟨0x200C080, [(0x10000, 4), (0x4, 32)], 32, 0xFFFFFFFF, 0, 0, 0, 0xFFFFFFFF, some 8⟩,  -- LOCK_LEASE
  ⟨0x200C100, [(0x10000, 4), (0x4, 32)], 32, 0, 0, 0, 0, 0, none⟩,  -- LOCK_CFG
  ⟨0x200C180, [(0x10000, 4)], 32, 0, 0, 0, 0x8000001F, 0, none⟩,  -- LOCK_CTRL
  ⟨0x200C184, [(0x10000, 4)], 32, 0, 0, 0x80000000, 0, 0, none⟩,  -- LOCK_ERR_INFO
  ⟨0x200C188, [(0x10000, 4)], 32, 0, 0, 0, 0, 0, none⟩,  -- LOCK_STAT_ORPHAN
  ⟨0x200C18C, [(0x10000, 4)], 32, 0, 0, 0, 0, 0, none⟩,  -- LOCK_STAT_ACQ
  ⟨0x200C190, [(0x10000, 4)], 32, 0, 0, 0, 0x1, 0, none⟩  -- LOCK_CTR_CLEAR
]
/-- All the rows of the block. -/
def panelRows : List RegRow := panelRowsA ++ panelRowsB
/-- Register rows: 13. -/
def fabricRows : List RegRow := [
  ⟨0x3000000, [(0x1000, 18)], 32, 0x1, 0x1, 0, 0x2, 0, none⟩,  -- FAB_PORT_CTRL
  ⟨0x3000004, [(0x1000, 18)], 32, 0x20000000, 0, 0, 0, 0, none⟩,  -- FAB_PORT_STATUS
  ⟨0x3000008, [(0x1000, 18)], 32, 0, 0, 0, 0, 0, none⟩,  -- FAB_PORT_PEER
  ⟨0x300000C, [(0x1000, 18)], 32, 0, 0, 0, 0, 0, none⟩,  -- FAB_PORT_LANES
  ⟨0x3000010, [(0x1000, 18)], 32, 0, 0, 0, 0, 0, none⟩,  -- FAB_PORT_STAT_CE
  ⟨0x3000014, [(0x1000, 18)], 32, 0, 0, 0, 0, 0, none⟩,  -- FAB_PORT_STAT_REPLAY
  ⟨0x3000018, [(0x1000, 18)], 32, 0, 0, 0, 0, 0, none⟩,  -- FAB_PORT_STAT_RETRAIN
  ⟨0x300001C, [(0x1000, 18)], 32, 0, 0, 0, 0x1, 0, none⟩,  -- FAB_PORT_CTR_CLEAR
  ⟨0x3020000, [(0x4, 2048)], 32, 0, 0xC000FFFF, 0, 0, 0, none⟩,  -- FAB_ROUTE
  ⟨0x3030000, [], 32, 0, 0x7FF, 0x40000000, 0, 0, none⟩,  -- FAB_MODULE_ID
  ⟨0x3030004, [], 32, 0xBB80, 0x7FFFFF, 0, 0, 0, none⟩,  -- FAB_TIMEOUT
  ⟨0x3030008, [], 32, 0, 0, 0x80000000, 0, 0, none⟩,  -- FAB_ERR_INFO
  ⟨0x303000C, [], 32, 0, 0, 0, 0, 0, none⟩,  -- FAB_ERR_SRC
  ⟨0x3030010, [], 32, 0, 0, 0, 0, 0, none⟩,  -- FAB_STAT_NOROUTE
  ⟨0x3030014, [], 32, 0, 0, 0, 0, 0, none⟩,  -- FAB_STAT_TIMEOUT
  ⟨0x3030018, [], 32, 0, 0, 0, 0, 0, none⟩,  -- FAB_STAT_LATE
  ⟨0x303001C, [], 32, 0, 0, 0, 0x1, 0, none⟩,  -- FAB_CTR_CLEAR
  ⟨0x3030040, [(0x4, 8)], 32, 0, 0, 0, 0, 0, none⟩,  -- FAB_JOBTAG
  ⟨0x3031000, [(0x100, 8), (0x4, 64)], 32, 0, 0, 0, 0, 0, none⟩  -- FAB_JOBMAP
]
/-- Register rows: 14. -/
def mirrorRowsA : List RegRow := [
  ⟨0x3100000, [], 32, 0, 0x1, 0, 0, 0, none⟩,  -- MIRROR_LINK_CTRL
  ⟨0x3100004, [], 32, 0, 0, 0, 0, 0, none⟩,  -- MIRROR_LINK_STATUS
  ⟨0x3100008, [], 32, 0, 0x800007FF, 0, 0, 0, none⟩,  -- MIRROR_ALIAS
  ⟨0x310000C, [], 32, 0x2DC6C00, 0xFFFFFFFF, 0, 0, 0, none⟩,  -- MIRROR_RECONNECT_TIMEOUT
  ⟨0x3100010, [], 32, 0, 0x3, 0x4, 0, 0, none⟩,  -- MIRROR_FW_ARM
  ⟨0x3101000, [(0x100, 8)], 32, 0, 0, 0, 0, 0x1FFFFF, some 7⟩,  -- MIRROR_CFG
  ⟨0x3101004, [(0x100, 8)], 32, 0, 0, 0, 0x1, 0, none⟩,  -- MIRROR_CTRL
  ⟨0x3101008, [(0x100, 8)], 32, 0, 0, 0, 0, 0, none⟩,  -- MIRROR_STATUS
  ⟨0x310100C, [(0x100, 8)], 32, 0, 0, 0, 0, 0, none⟩,  -- MIRROR_EPOCH_STEP
  ⟨0x3101010, [(0x100, 8)], 32, 0, 0, 0, 0, 0, none⟩,  -- MIRROR_DIRTY
  ⟨0x3101014, [(0x100, 8)], 32, 0, 0, 0, 0, 0, none⟩,  -- MIRROR_UNDO_USED
  ⟨0x3101018, [(0x100, 8)], 32, 0, 0, 0x80000000, 0, 0, none⟩,  -- MIRROR_ERR_INFO
  ⟨0x3101020, [(0x100, 8)], 32, 0, 0, 0, 0, 0, none⟩,  -- MIRROR_STAT_PAGES
  ⟨0x3101024, [(0x100, 8)], 32, 0, 0, 0, 0, 0, none⟩,  -- MIRROR_STAT_COMMITS
  ⟨0x3101028, [(0x100, 8)], 32, 0, 0, 0, 0, 0, none⟩,  -- MIRROR_STAT_RESTARTS
  ⟨0x310102C, [(0x100, 8)], 32, 0, 0, 0, 0x1, 0, none⟩,  -- MIRROR_CTR_CLEAR
  ⟨0x3101040, [(0x100, 8)], 64, 0, 0, 0, 0, 0, none⟩,  -- MIRROR_AREA_BASE
  ⟨0x3101048, [(0x100, 8)], 64, 0, 0, 0, 0, 0, none⟩,  -- MIRROR_AREA_BYTES
  ⟨0x3101050, [(0x100, 8)], 64, 0, 0, 0, 0, 0, none⟩,  -- MIRROR_UNDO_BASE
  ⟨0x3101058, [(0x100, 8)], 64, 0, 0, 0, 0, 0, none⟩  -- MIRROR_UNDO_BYTES
]
/-- Continues the rows above. -/
def mirrorRowsB : List RegRow := [
  ⟨0x3101080, [(0x100, 8), (0x4, 16)], 32, 0, 0x800007FF, 0, 0, 0, none⟩,  -- MIRROR_SPARE
  ⟨0x3108000, [(0x1000, 8), (0x10, 256)], 64, 0, 0, 0, 0, 0xFFFFFFFFFFFFFFFF, some 7⟩,  -- MIRROR_REGION_ADDR
  ⟨0x3108008, [(0x1000, 8), (0x10, 256)], 32, 0, 0, 0, 0, 0xFFFFFFFF, some 7⟩  -- MIRROR_REGION_PAGES
]
/-- All the rows of the block. -/
def mirrorRows : List RegRow := mirrorRowsA ++ mirrorRowsB
/-- Register rows: 15, 18. -/
def hostRowsA : List RegRow := [
  ⟨0x3201000, [(0x20000, 8)], 32, 0, 0, 0x80000000, 0, 0, none⟩,  -- HBM_ERR_INFO
  ⟨0x3201008, [(0x20000, 8)], 64, 0, 0, 0, 0, 0, none⟩,  -- HBM_ERR_ADDR
  ⟨0x3201010, [(0x20000, 8)], 32, 0, 0, 0, 0, 0, none⟩,  -- HBM_CE_COUNT
  ⟨0x3201014, [(0x20000, 8)], 32, 0, 0, 0, 0, 0, none⟩,  -- HBM_UE_COUNT
  ⟨0x3201018, [(0x20000, 8)], 32, 0, 0, 0, 0x1, 0, none⟩,  -- HBM_CTR_CLEAR
  ⟨0x4000000, [], 64, 0, 0xFFFFFFFFFFFFF001, 0, 0, 0, none⟩,  -- HOST_STATUS_BASE
  ⟨0x4000008, [], 64, 0, 0xFFFFFFFFFFFFF000, 0, 0, 0, none⟩,  -- HOST_CMD_BASE
  ⟨0x4000010, [], 32, 0, 0x8000000F, 0, 0, 0, none⟩,  -- HOST_CMD_CFG
  ⟨0x4000014, [], 32, 0, 0xFFFFFFFF, 0, 0, 0, none⟩,  -- HOST_CMD_TAIL
  ⟨0x4000018, [], 32, 0, 0, 0, 0, 0, none⟩,  -- HOST_CMD_HEAD
  ⟨0x400001C, [], 32, 0, 0, 0x80000000, 0, 0, none⟩,  -- HOST_ERR
  ⟨0x4000020, [], 64, 0, 0x7FC0000000, 0, 0, 0, none⟩,  -- HOST_APERTURE_BASE
  ⟨0x4000028, [], 32, 0, 0xC0000007, 0, 0, 0, none⟩,  -- HOST_APERTURE_CFG
  ⟨0x400002C, [], 32, 0, 0, 0x1, 0, 0, none⟩,  -- HOST_APERTURE_STATUS
  ⟨0x4000030, [], 32, 0, 0, 0, 0, 0, none⟩,  -- COLLAR_STATUS
  ⟨0x4001000, [(0x80, 8)], 64, 0, 0xFFFFFFFFFFFFF000, 0, 0, 0, none⟩,  -- HOST_SEQ_BASE
  ⟨0x4001008, [(0x80, 8)], 64, 0, 0xFFFFFFFFFFFFF000, 0, 0, 0, none⟩,  -- HOST_OUT_BASE
  ⟨0x4001010, [(0x80, 8)], 64, 0, 0xFFFFFFFFFFFFF000, 0, 0, 0, none⟩,  -- HOST_PART_BASE
  ⟨0x4001018, [(0x80, 8)], 64, 0, 0xFFFFFFFFFFFFF000, 0, 0, 0, none⟩,  -- HOST_DMA_BASE
  ⟨0x4001020, [(0x80, 8)], 64, 0, 0xFFFFFFFFFFFFF000, 0, 0, 0, none⟩  -- HOST_DMA_LIMIT
]
/-- Continues the rows above. -/
def hostRowsB : List RegRow := [
  ⟨0x4001028, [(0x80, 8)], 32, 0, 0x8FF0FFFF, 0, 0, 0, none⟩,  -- HOST_RING_CFG
  ⟨0x400102C, [(0x80, 8)], 32, 0, 0xFFFFFFFF, 0, 0, 0, none⟩,  -- HOST_SEQ_TAIL
  ⟨0x4001030, [(0x80, 8)], 32, 0, 0xFFFFFFFF, 0, 0, 0, none⟩,  -- HOST_OUT_HEAD
  ⟨0x4001034, [(0x80, 8)], 32, 0, 0, 0x80000000, 0, 0, none⟩,  -- HOST_SLOT_ERR
  ⟨0x4002000, [(0x80, 8), (0x4, 32)], 32, 0, 0, 0, 0, 0xFFFFFFFF, some 9⟩  -- COLLAR_SVC_W
]
/-- All the rows of the block. -/
def hostRows : List RegRow := hostRowsA ++ hostRowsB

/-- What is left of an offset once the index terms of a row are taken off it, outermost first; `none` when an index
runs past its count. -/
def RegRow.rest : List (Nat × Nat) → Nat → Option Nat
  | [], x => some x
  | (stride, count) :: ds, x => if x / stride < count then RegRow.rest ds (x % stride) else none

/-- The byte within the register (0, or 4 for the high word of a 64-bit one) that address `a` names, when row `r`
names `a` at all. -/
def RegRow.wordOf (r : RegRow) (a : Nat) : Option Nat :=
  if a < r.base then none
  else match RegRow.rest r.dims (a - r.base) with
    | some 0 => some 0
    | some 4 => if r.width = 64 then some 4 else none
    | _ => none

/-- The first row of `rows` that names `a`, and the word of it. -/
def findRow : List RegRow → Nat → Option (RegRow × Nat)
  | [], _ => none
  | r :: rs, a => match r.wordOf a with
    | some w => some (r, w)
    | none => findRow rs a

/-- The rows that can hold address `a`, by the ranges of R581. -/
def rowsAt (a : Nat) : List RegRow :=
  if a < 0x100000 then moduleRows
  else if a < 0x200000 then structRows
  else if a < 0x1000000 then []
  else if a < 0x2000000 then
    let o := a % 0x10000
    if o < 0x1000 then pocketRows
    else if o < 0x3000 then placketRows
    else if o < 0x4000 then sleeveRows
    else if o < 0x4800 then cuffRows
    else if o < 0x5000 then suitRows
    else windowRows
  else if a < 0x2040000 then panelRows
  else if a < 0x3000000 then []
  else if a < 0x3100000 then fabricRows
  else if a < 0x3200000 then mirrorRows
  else if a < 0x4100000 then hostRows
  else []

/-- The register and word at control-space address `a`; `none` where the address is unassigned (R15). -/
def regAt (a : Nat) : Option (RegRow × Nat) := findRow (rowsAt a) a

/-- The word `w` (0 low, 4 high) of a 64-bit mask or value. -/
def wordPart (v w : Nat) : BitVec 32 := BitVec.ofNat 32 (if w = 0 then v else v / 0x100000000)

/-- The value a register word holds at reset; an unassigned address reads 0 (R15). -/
def regReset (a : Nat) : BitVec 32 :=
  match regAt a with
  | some (r, w) => wordPart r.reset w
  | none => 0

/-- The paired group of the staged fields at `a`, if the register there has any (R587). -/
def regGroup (a : Nat) : Option Nat :=
  match regAt a with
  | some (r, _) => r.group
  | none => none

end Sys2Proof.Machine
end

