-- ==== Sys2Proof/Machine/State.lean ====
section
/-! DEFINITION. The state of the module as plain data: control-space registers (live words, staged copies and the
latches of R12), the three memories, what each unit holds beside its registers, the queue of waiting commands, and
the state at reset. -/

namespace Sys2Proof.Machine

/-! ## Mesh and Pocket ports -/

/-- Who makes a Pocket access, which decides how a refusal is charged (R79, R81, R88). -/
inductive PSrc where
  /-- a local unit for the task in slot `k`; `req` is its requester index (R362) -/
  | task (k : Nat) (req : Nat)
  /-- an inbound access admitted by window `win` -/
  | remote (p : Packet) (win : Nat)
deriving DecidableEq, Repr

/-- A wide or narrow Pocket access at a physical offset: a read of `len` bytes, or the write of the enabled bytes. -/
structure PAccess where
  src : PSrc
  off : Nat
  len : Nat
  wr : Option (List (Option Byte))
deriving DecidableEq, Repr

/-- An access that its wide port holds (R72): its port, and the task slot to abort once it has completed (R73). -/
structure HeldAccess where
  port : Nat
  acc : PAccess
  charge : Option Nat
deriving DecidableEq, Repr

/-- A read that has been granted and not yet delivered (R69, R70): the bytes as they stood at the grant. -/
structure ReadPend where
  port : Nat
  acc : PAccess
  data : List Byte
  charge : Option Nat
deriving DecidableEq, Repr

/-- A narrow access raised and not yet granted, with the cycles it has waited (R74). -/
structure NarrowReq where
  acc : PAccess
  waits : Nat
deriving DecidableEq, Repr

/-- The ports of a Pocket between cycles (R67-R74). -/
structure Ports where
  /-- wide accesses held, the earlier first -/
  held : List HeldAccess
  /-- banks whose second cycle of a partial or narrow write comes next (R69, R70) -/
  merging : List Nat
  /-- banks that the wide ports hold in the present cycle -/
  busy : List Nat
  /-- granted reads, oldest first -/
  reads : List ReadPend
  /-- narrow accesses raised and not granted, oldest first: the posted stores of R331 -/
  posted : List NarrowReq
  /-- words waiting for the write-back of R80, as word numbers -/
  ceBack : List Nat
  /-- the last data delivered, with their requester -/
  delivered : Option (PSrc × List Byte)
deriving DecidableEq, Repr

/-! ## Cuff core -/

/-- What a task holds beside the registers of its context (R325, R343). -/
structure Task where
  /-- arrived at the layer barrier -/
  arrived : Bool
  /-- arrived with BARS -/
  bars : Bool
  /-- the suit slot that its waiting SUIT has taken (R334), with the suit's place in the issue order -/
  suit : Option (Nat × Nat)
deriving DecidableEq, Repr

/-! ## Placket unit -/

/-- An entry of a queue's grant table (R366): target, access kind (1 read, 2 write, 3 accumulate), window, epoch. -/
structure QGrant where
  module : Nat
  tile : Nat
  kind : Nat
  win : Nat
  epoch : Nat
deriving DecidableEq, Repr

/-- One element move of a transfer: source and destination addresses, and the low-plane destination of an I32PAIR. A
local or ring end carries the slot-relative offset, any other end the global data address. -/
structure Move where
  src : Nat
  dst : Nat
  dstLo : Nat
deriving DecidableEq, Repr

/-- A transfer that has been issued and is outstanding (R239, R246). -/
structure Xfer where
  txn : Nat
  /-- stream position of the first element -/
  pos : Nat
  moves : List Move
  /-- the ring slot its bytes come from or go to -/
  slot : Option Nat
  /-- the read data have been delivered -/
  read : Bool
  /-- its read was sent to this module and tile -/
  remote : Option (Nat × Nat)
  /-- its read was sent as an opening access (R366) -/
  opening : Bool
deriving DecidableEq, Repr

/-- A merge buffer (R256), or a flushed write that has not landed: an aligned 128 B block of destination bytes, or of
destination elements under ACCUMULATE. -/
structure MergeBuf where
  /-- the block is a global data address; otherwise a slot-relative offset of the local Pocket -/
  glob : Bool
  block : Nat
  blockLo : Nat
  /-- bytes of the block, or of the source elements (one for each destination element) -/
  data : List (Option Byte)
  /-- the ACC word of an ACCUMULATE (R249); none for a plain write -/
  acc : Option Nat
  pos : Nat
  /-- the transfers whose last byte it carries -/
  txns : List Nat
  /-- ring bytes it carries: slot and number of bytes -/
  slots : List (Nat × Nat)
  /-- the transaction it was sent under, once sent -/
  sent : Option Nat
  opening : Bool
  /-- scoreboard entries to free when it lands: it is the last write of its descriptor (R339) -/
  frees : List Nat
  /-- the suit slot whose post descriptor it writes for (R288) -/
  suit : Option Nat
deriving DecidableEq, Repr

/-- A descriptor in a FIFO or running: its 128 bytes, and where it came from. -/
structure Desc where
  bytes : List Byte
  /-- issued by STORE of this suit slot as a post descriptor (R287) -/
  suit : Option Nat
  /-- a spill descriptor of the Shawl mover (R317) -/
  spill : Bool
  /-- the scoreboard entries it has taken (R339) -/
  entries : List Nat
deriving DecidableEq, Repr

/-- A ring slot in fill (INBOUND) or in drain (OUTBOUND): bytes issued and landed, the bytes it takes in all once that
is known, and whether it ends the descriptor. -/
structure SlotFill where
  slot : Nat
  issued : Nat
  landed : Nat
  total : Option Nat
  last : Bool
deriving DecidableEq, Repr

/-- A running descriptor (R240). -/
structure Run where
  desc : Desc
  /-- the ring slot at which its stream begins -/
  first : Nat
  /-- next stream position, in elements -/
  pos : Nat
  /-- generator context of an address-generating descriptor -/
  ctx : Option Nat
  /-- moves handed over by EMIT and not yet issued (R262) -/
  emitted : List Move
  /-- no element follows those issued or handed over -/
  ended : Bool
  /-- an in-place copy: its elements go through the staging buffer (R253) -/
  staged : Bool
  /-- the elements read into the staging buffer, with their moves -/
  staging : List (Move × List Byte)
deriving DecidableEq, Repr

/-- What a Placket queue holds beside its registers. -/
structure Queue where
  fifo : List Desc
  run : Option Run
  /-- INBOUND: slots in fill, in ring order. OUTBOUND: slots in drain or whose writes have not all landed -/
  fill : List SlotFill
  /-- length and end mark of each filled slot of an INBOUND ring, from HEAD on -/
  slotLens : List (Nat × Bool)
  xfers : List Xfer
  merge : Option MergeBuf
  /-- flushed writes that have not landed, oldest first -/
  writes : List MergeBuf
  /-- most recently used first, at most 4 -/
  grants : List QGrant
  /-- targets and kinds whose opening access is unanswered (R366) -/
  opening : List (Nat × Nat × Nat)
  /-- a cancellation has reached the unit and is not yet acknowledged (R264) -/
  cancelReq : Bool
deriving DecidableEq, Repr

/-- A generator context (R259, R260): its queue, program copy, registers g0-g7, program counter and line tags. -/
structure AgpCtx where
  queue : Nat
  prog : List Word
  regs : List Word
  pc : Nat
  /-- per base, the 128-byte line held: its physical offset and bytes -/
  lines : List (Option (Nat × List Byte))
  bases : List Nat
deriving DecidableEq, Repr

/-! ## Windows, credits, arbiters -/

/-- A grant entry of a credited channel (R374). -/
structure CreditGrant where
  src : Origin
  off : Nat
  len : Nat
  /-- writes sent and not landed -/
  pending : Nat
  /-- the end mark has arrived -/
  ended : Bool
deriving DecidableEq, Repr

/-- A waiting request for a credited grant (R374). -/
structure CreditReq where
  src : Origin
  off : Nat
  len : Nat
deriving DecidableEq, Repr

/-- An arbiter between rounds (R385, R387): the last requester granted in each class, and the wait counters. -/
structure Arb where
  last : List (Nat × Nat)
  waits : List (Nat × Nat)
  /-- requesters whose episode has already raised STARVATION -/
  raised : List Nat
  /-- the step or millisecond in which the last record was written -/
  recorded : Option Nat
deriving DecidableEq, Repr

/-! ## Shawl -/

/-- A segment on its way to a tile (R313): the turn and number of the segment, the receiver's slot, the bytes. -/
structure Segment where
  turn : Nat
  seg : Nat
  slot : Nat
  /-- the sending tile -/
  src : Nat
  data : List Byte
deriving DecidableEq, Repr

/-- What the Shawl mover of a tile holds beside SHAWL_STATUS and SHAWL_PROGRESS (R311-R314). -/
structure Shawl where
  /-- segments released and not yet read out: turn and number -/
  sends : List (Nat × Nat)
  /-- segment slots that are free -/
  free : List Nat
  /-- segments granted a credit and not yet landed here -/
  arriving : List Segment
  /-- segments sent by this tile that have not landed at its successor -/
  flying : Nat
  /-- the revolution has ended -/
  ended : Bool
deriving DecidableEq, Repr

/-! ## Yoke and locks -/

/-- Where a piece of an instance stands (R302-R306). -/
inductive PieceState where
  /-- a part whose predecessor has not been reported done -/
  | chained
  /-- untaken and takeable (subject to a reservation) -/
  | ready
  /-- held by task `k` of tile `t` -/
  | held (t k : Nat)
  | done
deriving DecidableEq, Repr

/-- A piece of an assignment instance (R298, R301-R303). -/
structure Piece where
  rowFirst : Nat
  rows : Nat
  kLo : Nat
  kHi : Nat
  chain : Bool
  part : Nat
  partsLog2 : Nat
  home : Nat
  prev : Nat
  state : PieceState
  /-- the tile a chain part is reserved for (R302) -/
  reserved : Option Nat
deriving DecidableEq, Repr

/-- An open assignment instance (R298, R303). -/
structure Inst where
  /-- member tiles, rising -/
  members : List Nat
  lead : Nat
  steal : Nat
  starter : Nat × Nat
  /-- the lead Yoke is still computing the cut (R300) -/
  computing : Bool
  pieces : List (Nat × Piece)
  /-- home list of each member tile: the untaken piece numbers, head first -/
  lists : List (Nat × List Nat)
  /-- tasks whose take waits -/
  waiting : List (Nat × Nat)
deriving DecidableEq, Repr

/-! ## Faults -/

/-- A fault record before it is written to the ring (R548); SEQ is given when it is written. -/
structure FaultRec where
  code : Nat
  cls : Nat
  promoted : Bool
  noJob : Bool
  unit : Nat
  sub : Nat
  tile : Option Nat
  part : Option Nat
  slot : Option Nat
  module : Nat
  epoch : Nat
  step : Nat
  jobId : Nat
  addr : Nat
  ctx0 : Nat
  ctx1 : Nat
  cal : Nat
  calValid : Bool
deriving DecidableEq, Repr

/-- A class T or J code (or a promoted warning) whose job stop the Collar has still to begin (R539). -/
structure StopReq where
  part : Nat
  code : Nat
  cls : Nat
  sub : Nat
  unit : Nat
  seq : Nat
deriving DecidableEq, Repr

/-! ## Suits -/

/-- A record of the Seam unit (R146-R148), as far as the stages that take it use it. -/
inductive SRec where
  /-- granule `kg`, NULL, row masks, value bases of rows 0-15 and 16-31, and the OFF bytes of each side -/
  | grec (kg : Nat) (null : Bool) (am bm : Nat) (ab bb : Nat × Nat) (ao bo : List Nat)
  /-- first column, first kept product of a row, ZERO, and for each row the positions of its products (none for a row
  that is masked or EMPTY) -/
  | nrec (kcol p : Nat) (zero : Bool) (pos : List (List Nat))
  /-- value indices, and the column -/
  | erec (a b : Option Nat) (col : Nat)
deriving DecidableEq, Repr

/-- A record of operation `op` of its stage; `last` is END. -/
structure SeamRec where
  op : Nat
  last : Bool
  r : SRec
deriving DecidableEq, Repr

/-- An operand element as it is fed: stored bits, scale exponent (R163), and the POCC byte of its plane block. -/
structure Opnd where
  v : Nat
  sc : Int
  pocc : Nat
deriving DecidableEq, Repr

/-- One position of the product sequence of every cell (R177), or one element of a sum: the A operand of each row, the
B operands of each row for the columns of the record's span, and the column each A row takes. An absent operand is
fed as zero. -/
structure Slice where
  a : List (Option Opnd)
  b : List (List (Option Opnd))
  pos : List Nat
deriving DecidableEq, Repr

/-- What FETCH has delivered for one record (or, in DENSE mode, for a run of columns within one chunk). -/
structure FedRec where
  op : Nat
  last : Bool
  /-- first column -/
  col : Nat
  null : Bool
  slices : List Slice
deriving DecidableEq, Repr

/-- A running total: an INT32, or value and carry words (R159). -/
inductive Tot where
  | int (x : Int)
  | pair (v c : Nat)
deriving DecidableEq, Repr

/-- A result handed on: a total, or an exact sum of GUNION or MERGE (R170, R173), whose zero may be negative. -/
inductive Res where
  | tot (x : Tot)
  /-- m × 2^e, and whether a zero is negative -/
  | sum (m e : Int) (nz : Bool)
  | inf (neg : Bool)
  | nan
deriving DecidableEq, Repr

/-- A row handed between stages: its tile (or pair), its output coordinates, its column in the A and B rows' scales,
its results, and whether it is the tile's last. -/
structure ORow where
  tile : Nat
  row : Nat
  col : Nat
  arow : Nat
  brow : Nat
  vals : List Res
  last : Bool
deriving DecidableEq, Repr

/-- A converted row on its way to STORE: the stored words of each plane, and the scale bytes to write (address and
byte). -/
structure StRow where
  tile : Nat
  row : Nat
  col : Nat
  vals : List (Nat × Nat)
  scales : List (Nat × Nat)
  last : Bool
deriving DecidableEq, Repr

/-- A cell of the array for one set (R159): products taken of the present chunk, the INT32 accumulator, the chunk
accumulator (as mantissa, exponent and sign of a zero; or an infinity or NaN), and the total register. -/
structure Cell where
  n : Nat
  int : Int
  ch : Res
  v : Nat
  c : Nat
deriving DecidableEq, Repr

/-- An accumulator set (R159, R181). -/
structure ASet where
  /-- the tile it serves -/
  tile : Nat
  cells : List Cell
  /-- parts that have received a chunk -/
  got : List Nat
  /-- the tile has ended: it drains -/
  ended : Bool
  /-- rows drained -/
  dr : Nat
  /-- the tile whose totals it loads next, and the rows loaded -/
  ldTile : Nat
  ld : List (List Tot)
  sat : Bool
deriving DecidableEq, Repr

/-- A part of the array (R176, R177): its queue of sequence positions, each with its chunk and whether it ends a
record, and the planes left of the span at its front (R174), or the cycles left of a NULL record. -/
structure Part where
  q : List (Nat × Bool × Slice)
  planes : Option (List Nat)
  nulls : List Nat
deriving DecidableEq, Repr

/-- What the sampler keeps of a sampled tile (R228). -/
structure Sample where
  tile : Nat
  loaded : List (List Tot)
  drained : List (List Tot)
  tape : List Slice
  sat : Bool
deriving DecidableEq, Repr

/-- The stages of a RUNNING suit (R271, R286). A stage is 0 not started, 1 running, 2 ended. -/
structure SuitRun where
  /-- ring slot bound to each side (R281), and whether it has been released -/
  bindA : Option Nat
  bindB : Option Nat
  relA : Bool
  relB : Bool
  seam : Nat
  /-- operation within the SEAM stage, and the next K block, column or column block of it -/
  sOp : Nat
  sPos : Nat
  /-- value bases of the K block to come: A rows 0-15 and 16-31, then B (R138) -/
  sBase : List Nat
  /-- a merge's cursors: segment of the column block, next value index there, and the last coordinate consumed -/
  curA : Option (Nat × Nat × Option Nat)
  curB : Option (Nat × Nat × Option Nat)
  pend : List SeamRec
  hand : List SeamRec
  /-- DENSE: next tile and column to fetch -/
  fOp : Nat
  fPos : Nat
  fed : List FedRec
  /-- stored values kept by the operand hold (R165), by value index -/
  holdA : List (Nat × Opnd)
  holdB : List (Nat × Opnd)
  sleeve : Nat
  /-- SEQ of the stage, after SEQ_FORCE (R185) -/
  seq : Nat
  tile : Nat
  /-- products of the tile taken into the parts -/
  seqPos : Nat
  /-- the tile's last record has been taken -/
  allIn : Bool
  parts : List Part
  sets : List ASet
  /-- rows loaded ahead (R286), and the next row to load -/
  ahead : List (Nat × List Tot)
  redPos : Nat
  red : List ORow
  cvt : List ORow
  /-- CONVERT's rows of the present tile under MAXABS -/
  held : List ORow
  sto : List StRow
  sample : Option Sample
  /-- tiles that have raised TILE_SAT -/
  satTiles : List Nat
  /-- a tile with a CONVERT saturation that has not been raised yet -/
  cvtSat : Bool
  /-- values written to the CROW output, and pairs whose end pointer has been written -/
  outN : Nat
  outPairs : Nat
  /-- bytes written to the present OUTBOUND slot -/
  ring : Nat
  posted : Bool
deriving DecidableEq, Repr

/-- A suit in a suit slot (R277). -/
structure Suit where
  task : Nat
  /-- its place in the tile's issue order -/
  order : Nat
  tplIdx : Nat
  /-- template words W0-W3 as copied at issue -/
  tpl : List Nat
  opOff : Nat
  /-- the operand block, once delivered -/
  op : List Byte
  checked : Bool
  /-- its output ranges have been entered in the scoreboard -/
  entered : Bool
  run : SuitRun
deriving DecidableEq, Repr

/-- Everything a tile holds beside its registers and its Pocket bytes. -/
structure Tile where
  ports : Ports
  tasks : List (Nat × Task)
  queues : List (Nat × Queue)
  /-- generator contexts in use (R259) -/
  ctxs : List (Nat × AgpCtx)
  /-- the queue whose in-place copy holds the staging buffer (R253) -/
  stagingBy : Option Nat
  /-- grant entries of the credited channel, 0-7 (R374) -/
  grants : List (Nat × CreditGrant)
  creditWait : List CreditReq
  /-- admitted inbound accesses not yet granted at WP1 or performed, with their windows (R370) -/
  inbound : List (Packet × Nat)
  shawl : Shawl
  suits : List (Nat × Suit)
  /-- suits issued: the place of the next in the issue order -/
  suitSeq : Nat
  /-- warnings that have written their record since the last step boundary (R73, R184, R207, R387) -/
  stepRecs : List Nat
  /-- the tile branch of the panel tile clock is stopped (R492) -/
  clockStopped : Bool
deriving DecidableEq, Repr

/-! ## Barriers and the host services of a partition -/

/-- A barrier message (R423, R443): the child it comes from (none for a release), its STEP, its count and AUX. -/
structure BarMsg where
  src : Nat
  step : Nat
  count : Nat
  aux : Nat
deriving DecidableEq, Repr

/-- A submission that has been read, tokenised and checked (R478-R480): its ring count and its fields. -/
structure Sub where
  idx : Nat
  key : Nat
  maxNew : Nat
  temp : Nat
  topK : Nat
  topP : Nat
  stops : List Nat
  prompt : List Nat
deriving DecidableEq, Repr, Inhabited

/-- An admitted sequence (R480, R481): its submission, its slot number, its place in the admission order, the tokens
generated, the positions whose rows have been assigned, and its KV pages, block by block. -/
structure Seq where
  sub : Sub
  slot : Nat
  order : Nat
  gen : List Nat
  pos : Nat
  pages : List Nat
  /-- cancelled: nothing more is delivered; its row goes at the next epoch boundary -/
  cancelled : Bool
deriving DecidableEq, Repr, Inhabited

/-- A batch row (R481, R486): the sequence's slot number, the position of the row, and whether a token is drawn. -/
structure BatchRow where
  slot : Nat
  pos : Nat
  draw : Bool
deriving DecidableEq, Repr, Inhabited

/-- The batching state of a slot, which its service area holds (R480, R481): the next ring entry to be applied, the
submissions waiting, the admitted sequences, the rows of the present step, and the next place in the admission
order. -/
structure Service where
  head : Nat
  waiting : List Sub
  seqs : List Seq
  rows : List BatchRow
  order : Nat
  /-- the COLLAR_SERVICE words under which the rows were assigned -/
  cfg : List Word
deriving DecidableEq, Repr, Inhabited

def Service.init : Service := { head := 0, waiting := [], seqs := [], rows := [], order := 0, cfg := [] }

/-! ## Partitions -/

/-- The states of a host slot, which is a partition (R468). -/
inductive SlotState where
  | idle | loading | ready | running | draining | stopped | faulted | restoring
deriving DecidableEq, Repr

/-- What the Collar holds for partition `q` (R468, R527, R477). -/
structure Slot where
  state : SlotState
  /-- bit t: tile t belongs to the partition -/
  tiles : Nat
  locks : Nat
  taskSlots : Nat
  /-- HBM regions: base and length -/
  regions : List (Nat × Nat)
  promote : Nat
  jobId : Nat
  seed : Nat
  step : Nat
  /-- last committed mirror epoch (R444) -/
  epoch : Nat
  /-- FAULT, FAULT_SUBCODE, FAULT_UNIT, FAULT_MODULE and FAULT_STEP of the status page (R477) -/
  fault : Nat
  faultSub : Nat
  faultUnit : Nat
  faultModule : Nat
  faultStep : Nat
  /-- a code was charged while the slot was STOPPED (R542) -/
  damaged : Bool
  /-- GROUP_MASK and ANY_POINT of the pending commit request (R57) -/
  goMask : Nat
  goAny : Bool
  /-- an applied commit waits for bank groups to wake (R58, R59) -/
  commitWait : Bool
  /-- the mirror set in force: global data address and 64 KiB pages of each region (R437, R438) -/
  mset : List (Nat × Nat)
  /-- tensor descriptors and owner tables by TENSOR_ID, as the image of record holds them (R123-R125) -/
  tensors : List (Nat × List Byte)
  owners : List (Nat × List Byte)
  /-- a partition reset runs (R532) -/
  resetting : Bool
  /-- the image of record (R61): the loaded image and its commit records, oldest first -/
  image : List Byte
  commits : List CommitRec
  /-- barriers since job start or restart (R423) -/
  barriers : Nat
  /-- arrivals received from the children at the present barrier (R423) -/
  kids : List BarMsg
  /-- this module has sent its arrival, or as node 0 its release -/
  arrivedUp : Bool
  /-- AUX of the release received or sent for the present barrier -/
  released : Option Nat
  /-- the start barrier (R444) or the restart barrier (R448) stands -/
  atStart : Bool
  /-- a DRAIN was commanded here, and a release that carries AUX[3] has been received (R470) -/
  drainAsked : Bool
  drainSeen : Bool
  /-- a planned restart is requested here (R458), and one has been released (AUX[2]) -/
  planned : Bool
  /-- the next step boundary is an epoch boundary: the first after a resume (R442), or that of a drain (R470) -/
  epochNext : Bool
  /-- the whole mirror set is sent at the next boundary (R438, R444, R451) -/
  sendAll : Bool
  /-- progress of an epoch boundary (R443): 0 none, 1 admissions applied, 2 pages and EPOCH_SENT sent, 3 PREPARED -/
  phase : Nat
  /-- transactions of PAGE packets sent and not yet answered -/
  pagesOut : List Nat
  /-- pages sent to the partner in this transfer, and EPOCH_LANDED received for it -/
  pagesSent : Nat
  gotLanded : Bool
  /-- pages received from the partner and not yet claimed by an EPOCH_SENT; its EPOCH_SENT (epoch and count) while it is
  unanswered; and the epoch last answered with EPOCH_LANDED -/
  pagesIn : Nat
  peerSent : Option (Nat × Nat)
  answered : Option Nat
  /-- STEP of the epoch boundary in progress, as it stands after the release -/
  preStep : Nat
  /-- bytes of the image of record that the partner has been sent -/
  recSent : Nat
  /-- STEP and barrier count of the last committed epoch (R443) -/
  epochStep : Nat
  epochCount : Nat
  /-- progress of a restart (R448): 0 none, 1 stopped, 2 decided, 3 rolled back and waiting for spares, 4 waiting for the
  connection to the spare, 5 restoring the spare, 6 at the restart barrier -/
  restart : Nat
  /-- a decision stands (R448), and the modules lost -/
  decided : Option Nat
  lost : List Nat
  /-- how the slot became STOPPED (R468): 1 by a drain, 2 waiting for spares, 3 at RESTART_LIMIT -/
  stoppedBy : Nat
  /-- the restart in progress is not counted under R454 -/
  uncounted : Bool
  /-- the batching state, and its copy as of the last committed epoch (R480, R481) -/
  svc : Service
  svcSaved : Service
  /-- sequence entries read (R478), and cancellations read and not applied: ring count and key -/
  seqRead : Nat
  cancels : List (Nat × Nat)
  /-- output entries held for want of room (R482), and the count of entries written -/
  outHeld : List (List Byte)
  outTail : Nat
  /-- generated tokens delivered, replays excluded; for each key, the first position not yet delivered (R476, R482) -/
  tokens : Nat
  delivered : List (Nat × Nat)
  /-- the Collar holds the present step barrier for its services (R481); they have been done for it -/
  served : Bool
  /-- the staging copy waits to be copied to the host; SEQ of the staging copy and of the host copy; PARTIAL_VALID -/
  partDue : Bool
  partSeq : Nat
  partHostSeq : Nat
  partValid : Bool
  /-- microseconds for which the last step barrier was held (R476) -/
  holdUs : Nat
deriving DecidableEq, Repr

/-! ## Mirror -/

/-- A before-image in the undo area (R441): the HBM page, the committed epoch whose content it holds, and its bytes by
offset in the page. -/
structure UndoRec where
  part : Nat
  page : Nat
  epoch : Nat
  data : List Host.Cell
deriving DecidableEq, Repr

/-! ## Fabric ports -/

/-- The link layer of a port (R402, R405, R406). -/
structure FabPort where
  /-- SEQ of the next DATA flit, and the DATA flits sent and not acknowledged, each with the packet that ends in it -/
  sendSeq : Nat
  unacked : List (Nat × Option Packet)
  /-- the SEQ expected next, and a NAK for it has been sent -/
  recvSeq : Nat
  nakSent : Bool
  /-- consecutive replays -/
  replays : Nat
  /-- credits held for each virtual channel, in units of 16 bytes -/
  credits : List Nat
  /-- packets waiting to be sent, with the units of each not yet sent -/
  tx : List (Packet × Nat)
  /-- packets received and not yet taken on, oldest first -/
  inbox : List Packet
  /-- the times, in µs, of the last entries into RETRAIN -/
  retrains : List Nat
  /-- the peer's module ID and levels, as its TRAIN flits gave them: ID, collective level, mirror level -/
  peer : Option (Nat × Nat × Nat)
deriving DecidableEq, Repr

def FabPort.init : FabPort :=
  { sendSeq := 0, unacked := [], recvSeq := 0, nakSent := false, replays := 0, credits := List.replicate 6 256, tx := [],
    inbox := [], retrains := [], peer := none }

/-- A request that has left through a fabric port and has no answer yet (R419). -/
structure FabReq where
  txn : Nat
  part : Nat
  tile : Nat
  req : Nat
  kind : Nat
  dst : Nat
deriving DecidableEq, Repr

/-! ## Loader, command ring, supplies, buses -/

/-- A load in progress (R45-R51). -/
structure Load where
  part : Nat
  /-- a restore load of R451 -/
  restore : Bool
  addr : Nat
  len : Nat
  /-- the state of the slot before the load -/
  prior : SlotState
  /-- the image once its checks have passed, and the commit records of a restore load -/
  image : List Byte
  commits : List CommitRec
  /-- its fields and bodies have been applied -/
  applied : Bool
  /-- a class T or J code has been charged to the slot meanwhile, so that the load is refused (R542) -/
  charged : Bool
deriving DecidableEq, Repr

/-- A command of the ring that has been read and is not complete (R471, R472). -/
structure HostCmd where
  n : Nat
  op : Nat
  entry : CmdEntry
  /-- it has been begun; otherwise it waits behind an earlier command of its slot, or for the loader -/
  begun : Bool
deriving DecidableEq, Repr

/-- A change of operating point (R498, R499): 0 none, 1 ramp up, 2 pause, 3 ramp down; its target, and the point written
meanwhile. -/
structure PanelClk where
  phase : Nat
  target : Nat
  next : Option Nat
deriving DecidableEq, Repr

/-- The PMBus status bytes and telemetry words (R566). -/
structure Pmbus where
  input : BitVec 8
  temp : BitVec 8
  cml : BitVec 8
  vin : BitVec 16
  iin : BitVec 16
  temp1 : BitVec 16
  temp2 : BitVec 16
  pin : BitVec 16
deriving DecidableEq, Repr

/-- The instructions of the test access port (R567). -/
inductive TapInstr where
  | bypass | samplePreload | extest | idcode
deriving DecidableEq, Repr

/-- The two slots of a Pocket page of the mirror set in the undo area (R441): the epoch of each and its bytes by offset
in the page. -/
structure PageSlots where
  e0 : Nat
  d0 : List Host.Cell
  e1 : Nat
  d1 : List Host.Cell
deriving DecidableEq, Repr

/-! ## The module -/

structure State where
  /-- live register words by control-space address; an unlisted word holds its reset value -/
  regs : List (Nat × Word)
  /-- staged copies of register words (R14, R55) -/
  staged : List (Nat × Word)
  /-- high words latched by a low-word read, by requester and register (R12, R585) -/
  latched : List (Nat × Word)
  /-- low words held by a low-word write, by requester and register (R12, R585) -/
  heldLow : List (Nat × Word)
  /-- Pocket bytes: tile t's offset o at t × 2^22 + o -/
  pocket : List Host.Cell
  /-- Pocket words that fail their check: tile t's word w at t × 2^19 + w -/
  pocketErr : List (Nat × WordErr)
  /-- the module's HBM, 384·10⁹ bytes -/
  hbm : List Host.Cell
  /-- 32-byte HBM words that fail their check (R543): by word number, true where uncorrectable -/
  hbmErr : List (Nat × Bool)
  /-- dirty HBM pages of mirror sets and mirror areas, rising (R440) -/
  hbmDirty : List Nat
  undo : List UndoRec
  /-- the host-memory bytes that the module has written -/
  host : List Host.Cell
  tiles : List (Nat × Tile)
  /-- open assignment instances, by partition × 16 + assignment -/
  insts : List (Nat × Inst)
  /-- acquirers waiting for each lock, first come first (R378) -/
  lockWait : List (Nat × List LockUser)
  slots : List (Nat × Slot)
  /-- records waiting to be written to the log (R551) -/
  flogQ : List FaultRec
  stops : List StopReq
  /-- remote requests on their way to a tile or HBM of this module, oldest first -/
  net : List Packet
  /-- answers on their way to a requester of this module, oldest first -/
  answers : List Packet
  /-- packets at the die edge that the fabric has still to route (R412), oldest first -/
  fabOut : List Packet
  /-- the transaction number of the next request (R409) -/
  nextTxn : Nat
  /-- arbiters between rounds, by site (R385, R387) -/
  arbs : List (Nat × Arb)
  /-- the sampler's counts of the present step (R230), by panel × 64 + partition × 8 + kind: elements at or above THR_BIN,
  highest bin, and whether the divergence has been raised -/
  sampler : List (Nat × Nat × Nat × Bool)
  /-- the model's own counter that numbers free values -/
  freeCtr : Nat
  /-- the data that the last read from outside returned (BAR0, BAR2, PMBus, JTAG) -/
  reply : List Byte
  /-- the LOST messages, by mirror port, that left the module as its last reset began or its rail failed (R531) -/
  lostSent : List (Nat × Packet)
  /-- the link layers of ports 0-17 (R397) -/
  fabPorts : List (Nat × FabPort)
  /-- requests unanswered, oldest first, and those that timed out (R419) -/
  fabWait : List FabReq
  fabLate : List Nat
  /-- slots of Pocket pages in the undo areas, by tile × 64 + page -/
  pageSlots : List (Nat × PageSlots)
  loading : Option Load
  cmds : List HostCmd
  /-- SEQ of the status pages 0-8, and the last 16 completions by index (R472, R473) -/
  pageSeq : List (Nat × Nat)
  completions : List (Nat × List Byte)
  /-- the status pages are written no more (R475) -/
  pagesFinal : Bool
  /-- conversion runs (R561); the reset lands are low (R565); PERST# is asserted (R564); the PCIe link is up -/
  rail : Bool
  warmLow : Bool
  coldLow : Bool
  perst : Bool
  linkUp : Bool
  /-- the function is in D3hot (R464) -/
  d3 : Bool
  /-- the kind of the module reset whose boot steps run: 3 warm, 4 cold, 5 a rise of the rail; 0 for none (R531) -/
  resetKind : Nat
  /-- stopped with class M (R545) -/
  stopped : Bool
  /-- firmware slots as written in the field (0 A, 1 B), by slot; an unlisted slot is as delivered (R519) -/
  fwSlots : List (Nat × List Byte)
  selector : Nat
  /-- the boot ROM reads a recovery image (R523) -/
  recovering : Bool
  /-- fuse counts: SVN_MIN, and the revoked Terbor keys (R520, R521) -/
  svnMin : Nat
  revoked : Nat
  /-- Terbor key hash fuses by key index (R520), as numbers of 384 bits; an unlisted one is as the makers blew it -/
  keyFuses : List (Nat × Nat)
  /-- the key store (R525): slots and counter -/
  custKeys : List (Nat × List Byte)
  keyCount : Nat
  /-- operating-point changes by panel -/
  panelClks : List (Nat × PanelClk)
  /-- the value of a SET that waits for the calendar's edge (R511) -/
  calSet : Option Nat
  /-- backup words whose stored parity is wrong (R514) -/
  backupBad : List Nat
  pmbus : Pmbus
  tap : TapInstr
  /-- commands waiting, first in first out -/
  pending : List Instr
deriving DecidableEq, Repr

/-- Why the machine stops with a fault. -/
inductive Fault where
  /-- raised by no meaning: the spec stops the module nowhere without describing the state it leaves. Safe. -/
  | none
deriving DecidableEq, Repr

/-- Why a command is refused. -/
inductive Refusal where
  /-- the command has no meaning yet; safe: nothing is claimed of it -/
  | notModelled (mnemonic : String)
deriving DecidableEq, Repr

/-! ## Reset -/

def Ports.init : Ports :=
  { held := [], merging := [], busy := [], reads := [], posted := [], ceBack := [], delivered := none }

def Task.init : Task := { arrived := false, bars := false, suit := none }

def Queue.init : Queue :=
  { fifo := [], run := none, fill := [], slotLens := [], xfers := [], merge := none, writes := [], grants := [],
    opening := [], cancelReq := false }

def Arb.init : Arb := { last := [], waits := [], raised := [], recorded := none }

def Shawl.init : Shawl := { sends := [], free := [], arriving := [], flying := 0, ended := false }

def Tile.init : Tile :=
  { ports := Ports.init, tasks := [], queues := [], ctxs := [], stagingBy := none, grants := [], creditWait := [],
    inbound := [], shawl := Shawl.init, suits := [], suitSeq := 0, stepRecs := [], clockStopped := false }

def Slot.init : Slot :=
  { state := .idle, tiles := 0, locks := 0, taskSlots := 0, regions := [], promote := 0, jobId := 0, seed := 0,
    step := 0, epoch := 0, fault := 0, faultSub := 0, faultUnit := 0, faultModule := 0, faultStep := 0, damaged := false,
    goMask := 0, goAny := false, commitWait := false, mset := [], tensors := [], owners := [], resetting := false, image := [], commits := [],
    barriers := 0, kids := [], arrivedUp := false, released := none, atStart := false, drainAsked := false, drainSeen := false,
    planned := false, epochNext := false, sendAll := false, phase := 0, pagesOut := [], pagesSent := 0,
    gotLanded := false, pagesIn := 0, peerSent := none, answered := none, preStep := 0, recSent := 0, epochStep := 0, epochCount := 0, restart := 0,
    decided := none, lost := [], stoppedBy := 0, uncounted := false, svc := Service.init, svcSaved := Service.init,
    seqRead := 0, cancels := [], outHeld := [], outTail := 0, tokens := 0, delivered := [], served := false,
    partDue := false, partSeq := 0, partHostSeq := 0, partValid := false, holdUs := 0 }

def PanelClk.init : PanelClk := { phase := 0, target := 0, next := none }

def Pmbus.init : Pmbus := { input := 0, temp := 0, cml := 0, vin := 0, iin := 0, temp1 := 0, temp2 := 0, pin := 0 }

/-- The module right after reset: the rail has not come up, every register stands at its reset value, nothing is loaded
and no command waits. -/
def State.reset : State :=
  { regs := [], staged := [], latched := [], heldLow := [], pocket := [], pocketErr := [], hbm := [], hbmErr := [],
    hbmDirty := [], undo := [], host := [], tiles := [], insts := [], lockWait := [], slots := [], flogQ := [],
    stops := [], net := [], answers := [], fabOut := [], nextTxn := 0, arbs := [], sampler := [], freeCtr := 0,
    reply := [], lostSent := [], fabPorts := [], fabWait := [], fabLate := [], pageSlots := [], loading := none, cmds := [], pageSeq := [],
    completions := [], pagesFinal := false, rail := false, warmLow := false, coldLow := false, perst := false,
    linkUp := false, d3 := false, resetKind := 0, stopped := false, fwSlots := [], selector := 0, recovering := false, svnMin := 0,
    revoked := 0, keyFuses := [], custKeys := [], keyCount := 0, panelClks := [], calSet := none, backupBad := [],
    pmbus := Pmbus.init, tap := .bypass, pending := [] }

end Sys2Proof.Machine
end

