-- ==== Sys2Proof/Machine/Ops.lean ====
section
/-! DEFINITION. The shared operations: reading and writing register words, finding a unit's state, and raising and
charging fault and warning codes, with the abort of a task. -/

namespace Sys2Proof.Machine

/-! ## Register words -/

/-- The live word at control-space address `a`; an unlisted word holds its reset value (R13, R15). -/
def State.rd (s : State) (a : Nat) : Word := tget s.regs (regReset a) a

/-- Sets the live word at `a`, as the hardware does: no access rule is applied. -/
def State.wr (s : State) (a : Nat) (v : Word) : State := { s with regs := tset s.regs a v }

/-- The number in bits `[lo + len - 1 : lo]` of the live word at `a`. -/
def State.fld (s : State) (a lo len : Nat) : Nat := fieldOf (s.rd a) lo len

/-- Sets bits `[lo + len - 1 : lo]` of the live word at `a`. -/
def State.setFld (s : State) (a lo len v : Nat) : State := s.wr a (putField (s.rd a) lo len v)

/-- A one-bit field. -/
def State.bit (s : State) (a i : Nat) : Bool := (s.rd a).getLsbD i

def State.setBit (s : State) (a i : Nat) (b : Bool) : State := s.setFld a i 1 (if b then 1 else 0)

/-- The live value of a 64-bit register, low word first (R12). -/
def State.rd64 (s : State) (a : Nat) : Nat := (s.rd a).toNat + 0x100000000 * (s.rd (a + 4)).toNat

def State.wr64 (s : State) (a v : Nat) : State :=
  (s.wr a (BitVec.ofNat 32 v)).wr (a + 4) (BitVec.ofNat 32 (v / 0x100000000))

/-- Adds to a counter that stops at 0xFFFF_FFFF. -/
def State.count (s : State) (a : Nat) (n : Nat) : State :=
  s.wr a (BitVec.ofNat 32 (min 0xFFFFFFFF ((s.rd a).toNat + n)))

/-- Sets several words to zero. -/
def State.clear (s : State) : List Nat → State
  | [] => s
  | a :: as => (s.wr a 0).clear as

/-- Sets several words to their reset values. -/
def State.toReset (s : State) : List Nat → State
  | [] => s
  | a :: as => (s.wr a (regReset a)).toReset as

/-- The staged copy of the word at `a` (R55). -/
def State.rdStaged (s : State) (a : Nat) : Word := tget s.staged (regReset a) a

def State.wrStaged (s : State) (a : Nat) (v : Word) : State := { s with staged := tset s.staged a v }

/-- Sets a word live and staged, as the loader and resets do. -/
def State.wrBoth (s : State) (a : Nat) (v : Word) : State := (s.wr a v).wrStaged a v

/-! ## Unit state -/

def State.tile (s : State) (t : Nat) : Tile := tget s.tiles Tile.init t
def State.setTile (s : State) (t : Nat) (x : Tile) : State := { s with tiles := tset s.tiles t x }
def State.task (s : State) (t k : Nat) : Task := tget (s.tile t).tasks Task.init k
def State.setTask (s : State) (t k : Nat) (x : Task) : State :=
  s.setTile t { s.tile t with tasks := tset (s.tile t).tasks k x }
def State.queue (s : State) (t q : Nat) : Queue := tget (s.tile t).queues Queue.init q
def State.setQueue (s : State) (t q : Nat) (x : Queue) : State :=
  s.setTile t { s.tile t with queues := tset (s.tile t).queues q x }
def State.ports (s : State) (t : Nat) : Ports := (s.tile t).ports
def State.setPorts (s : State) (t : Nat) (p : Ports) : State := s.setTile t { s.tile t with ports := p }
def State.suit (s : State) (t i : Nat) : Option Suit := tfind (s.tile t).suits i
def State.setSuit (s : State) (t i : Nat) (x : Suit) : State :=
  s.setTile t { s.tile t with suits := tset (s.tile t).suits i x }
def State.dropSuit (s : State) (t i : Nat) : State :=
  s.setTile t { s.tile t with suits := tdel (s.tile t).suits i }
def State.shawl (s : State) (t : Nat) : Shawl := (s.tile t).shawl
def State.setShawl (s : State) (t : Nat) (x : Shawl) : State := s.setTile t { s.tile t with shawl := x }
def State.slot (s : State) (q : Nat) : Slot := tget s.slots Slot.init q
def State.setSlot (s : State) (q : Nat) (x : Slot) : State := { s with slots := tset s.slots q x }

/-- The partition that holds tile `t`, if any. -/
def State.partOf (s : State) (t : Nat) : Option Nat :=
  (List.range 8).find? (fun q => (s.slot q).tiles.testBit t)

/-- The tiles of partition `q`, rising. -/
def State.tilesOf (s : State) (q : Nat) : List Nat := setBits (s.slot q).tiles 256

/-- The ID that was written to FAB_MODULE_ID (R407). -/
def State.ownId (s : State) : Nat := s.fld Reg.fabModuleId 0 11

/-- The ID under which the module's jobs run: its own, or that of the module whose place it has taken (R450). -/
def State.moduleId (s : State) : Nat := if s.bit Reg.mirrorAlias 31 then s.fld Reg.mirrorAlias 0 11 else s.ownId

/-- Whether the module answers to an ID (R407, R450). -/
def State.isMe (s : State) (m : Nat) : Bool := (m == s.ownId) || m == s.moduleId

/-- Whether power domain `d` is on (R501). -/
def State.domainOn (s : State) (d : Nat) : Bool := s.bit Reg.pwrDomainOn (d - 1)

/-- Whether power domain `d` is waking. -/
def State.domainWaking (s : State) (d : Nat) : Bool := s.bit Reg.pwrDomainWaking (d - 1)

/-- Whether the unit that holds the register at `a` has power (R502): panel control for tile and panel blocks, the
global mesh for its registers, the stack for an HBM controller's. -/
def State.regOn (s : State) (a : Nat) : Bool :=
  if 0xE0000 ≤ a ∧ a < 0xE1000 then s.domainOn 17
  else if 0x1000000 ≤ a ∧ a < 0x2000000 then s.domainOn (13 + (a - 0x1000000) / 0x400000)
  else if 0x2000000 ≤ a ∧ a < 0x2040000 then s.domainOn (13 + (a - 0x2000000) / 0x10000)
  else if 0x3200000 ≤ a ∧ a < 0x3300000 then s.domainOn (18 + (a - 0x3200000) / 0x20000)
  else true

/-- An access to the register at `a` from outside its unit: dropped where the unit has no power (R502). -/
def State.ctl (s : State) (a : Nat) (f : State → State) : State := if s.regOn a then f s else s

/-- Returns the words that `p` selects to their reset values, live and staged, and drops what is latched or held of
them. -/
def State.forget (s : State) (p : Nat → Bool) : State :=
  { s with regs := s.regs.filter (fun x => !p x.1), staged := s.staged.filter (fun x => !p x.1) }

/-! ## Tasks -/

def taskFree : Nat := 0
def taskRunning : Nat := 1
def taskWaiting : Nat := 2
def taskEnded : Nat := 3
def taskAborted : Nat := 4
def taskCancelled : Nat := 5

/-- CUFF_TASK_STATUS.STATE (R347). -/
def State.taskState (s : State) (t k : Nat) : Nat := s.fld (Reg.cuffTaskStatus t k) 29 3

/-- Sets a task's state and wait reason, and its bit of CUFF_STATUS.ACTIVE. -/
def State.setTaskState (s : State) (t k st reason : Nat) : State :=
  ((s.setFld (Reg.cuffTaskStatus t k) 29 3 st).setFld (Reg.cuffTaskStatus t k) 25 4 reason).setBit
    (Reg.cuffStatus t) k (st == taskRunning || st == taskWaiting)

/-- The PC of a task (R325), shown in CUFF_TASK_STATUS.PC. -/
def State.pc (s : State) (t k : Nat) : Nat := s.fld (Reg.cuffTaskStatus t k) 0 12
def State.setPc (s : State) (t k v : Nat) : State := s.setFld (Reg.cuffTaskStatus t k) 0 12 v

/-- Register c`i` of a task; c0 reads as 0 (R325). -/
def State.creg (s : State) (t k i : Nat) : Word := if i = 0 then 0 else s.rd (Reg.cuffTaskReg t k i)

/-- Writes register c`i`; writes to c0 are ignored (R325). -/
def State.setCreg (s : State) (t k i : Nat) (v : Word) : State := if i = 0 then s else s.wr (Reg.cuffTaskReg t k i) v

/-- Changes CUFF_TASK_STATUS.LOCKS. -/
def State.setLocks (s : State) (t k n : Nat) : State := s.setFld (Reg.cuffTaskStatus t k) 12 8 (min 255 n)

/-! ## The fault log -/

/-- The identity record (R533): the 16 words from 0x0000_0000. -/
def State.identity (s : State) : List Word := (List.range 16).map (fun i => s.rd (4 * i))

/-- The physical tile number of logical tile `t` (R534). -/
def State.physTile (s : State) (t : Nat) : Nat :=
  let p := t / 64
  let j := t % 64
  let w := (s.rd (Reg.idRepair p)).toNat
  match (List.range 4).find? (fun k => bitsOf w (8 * k) 8 == 0x80 + j) with
  | some k => 68 * p + 64 + k
  | none => 68 * p + j

/-- Queues a record (R551): 64 entries, one of them kept for a class M record; a record that finds no room is dropped
and counted. -/
def State.pushRec (s : State) (r : FaultRec) : State :=
  if s.flogQ.length < 63 || (r.cls == 3 && s.flogQ.length < 64) then { s with flogQ := s.flogQ ++ [r] }
  else s.count Reg.flogDropped 1

/-- The record of an event at this moment, with the fields of the partition and tile named (R548). -/
def State.record (s : State) (code cls unit sub : Nat) (tile part slot : Option Nat) (addr ctx0 ctx1 : Nat) : FaultRec :=
  let q := part.map s.slot
  { code := code, cls := cls, promoted := false, noJob := false, unit := unit, sub := sub, tile := tile, part := part,
    slot := slot, module := s.moduleId, epoch := (q.map (·.epoch)).getD 0, step := (q.map (·.step)).getD 0,
    jobId := (q.map (·.jobId)).getD 0, addr := addr, ctx0 := ctx0, ctx1 := ctx1, cal := s.rd64 Reg.calNow,
    calValid := s.bit Reg.calStatus 31 }

/-- The SEQ that a record queued now will get (R551). -/
def State.nextSeq (s : State) : Nat := (s.rd Reg.flogNext).toNat + s.flogQ.length

/-- Sets the FAULT fields of a slot's status page (R540, R542). -/
def State.setFault (s : State) (q code sub unit module : Nat) : State :=
  let x := s.slot q
  s.setSlot q { x with fault := code, faultSub := sub, faultUnit := unit, faultModule := module, faultStep := x.step }

/-- Charges a class T or J code to the job of partition `q`, by the state of its slot (R539, R542). The record has
been queued already, as the record before SEQ `seq`. -/
def State.stopJob (s : State) (q code cls sub unit seq : Nat) : State :=
  match (s.slot q).state with
  | .running | .draining | .restoring =>
    { s with stops := s.stops ++ [{ part := q, code := code, cls := cls, sub := sub, unit := unit, seq := seq }] }
  | .ready =>
    let s := s.setFault q code sub unit s.moduleId
    s.setSlot q { s.slot q with state := .faulted }
  | .stopped =>
    let s := s.setFault q code sub unit s.moduleId
    s.setSlot q { s.slot q with damaged := true }
  | .loading =>
    { s.setFault q code sub unit s.moduleId with
      loading := s.loading.map (fun l => if l.part = q then { l with charged := true } else l) }
  | .idle | .faulted => s

/-- A code raised where no job is charged (R538): a record marked NO_JOB, and nothing stops. -/
def State.recordOnly (s : State) (code unit sub : Nat) (tile part : Option Nat) (addr ctx0 ctx1 : Nat) (cls : Nat := 1) :
    State :=
  s.pushRec { s.record code cls unit sub tile part none addr ctx0 ctx1 with noJob := true }

/-- A class J or T code charged to the job of partition `q`, no task named (R537). -/
def State.jobFault (s : State) (q code cls unit sub : Nat) (tile : Option Nat) (addr ctx0 ctx1 : Nat) : State :=
  let seq := s.nextSeq
  (s.pushRec (s.record code cls unit sub tile (some q) none addr ctx0 ctx1)).stopJob q code cls sub unit seq

/-- A class W code of partition `q` with its record; PROMOTE bit `pb` turns it into a job stop (R528). -/
def State.warnJob (s : State) (q code pb unit sub : Nat) (tile slot : Option Nat) (addr ctx0 ctx1 : Nat) : State :=
  let seq := s.nextSeq
  if (s.slot q).promote.testBit pb then
    (s.pushRec { s.record code 2 unit sub tile (some q) slot addr ctx0 ctx1 with promoted := true }).stopJob q code 2 sub unit seq
  else s.pushRec (s.record code 0 unit sub tile (some q) slot addr ctx0 ctx1)

/-! ## Stopping a task's work -/

/-- SB_STATUS from the entries: IN_USE and FREE (R339). -/
def State.refreshSb (s : State) (t : Nat) : State :=
  let used := (List.range 16).filter (fun e => s.bit (Reg.sbEntryLo t e) 31)
  (s.setFld (Reg.sbStatus t) 5 16 (used.foldl (fun m e => m + 2 ^ e) 0)).setFld (Reg.sbStatus t) 0 5 (16 - used.length)

/-- Frees scoreboard entries (R339). -/
def State.sbFreeAt (s : State) (t : Nat) (es : List Nat) : State :=
  if es = [] then s
  else (es.foldl (fun s e => (s.wr (Reg.sbEntryLo t e) 0).wr (Reg.sbEntryHi t e) 0) s).refreshSb t

/-- The scoreboard entries taken by a suit (`kind` 0) or by descriptors of a queue (`kind` 1) numbered `id`. -/
def State.sbOf (s : State) (t kind id : Nat) : List Nat :=
  (List.range 16).filter (fun e =>
    s.bit (Reg.sbEntryLo t e) 31 && s.fld (Reg.sbEntryHi t e) 29 1 == kind && s.fld (Reg.sbEntryHi t e) 25 4 == id)

/-- Frees every scoreboard entry of a suit or queue. -/
def State.sbFree (s : State) (t kind id : Nat) : State := s.sbFreeAt t (s.sbOf t kind id)

/-- SB_STATUS.MODE. -/
def State.sbMode (s : State) (t : Nat) : Bool := s.bit (Reg.sbStatus t) 31

/-- A pending output range overlaps `[off, off + len)`; the entries in `own`, taken by the command itself, are not
compared (R340). -/
def State.sbOverlap (s : State) (t off len : Nat) (own : List Nat) : Bool :=
  (List.range 16).any (fun e =>
    let lo := s.rd (Reg.sbEntryLo t e)
    let b := fieldOf lo 0 22
    lo.getLsbD 31 && !own.contains e && b < off + len && off < b + s.fld (Reg.sbEntryHi t e) 0 23)

/-- The free entries, lowest first. -/
def State.sbFreeList (s : State) (t : Nat) : List Nat :=
  (List.range 16).filter (fun e => !s.bit (Reg.sbEntryLo t e) 31)

/-- Takes one entry for each range (physical offset and length) of a command (R339): the entries taken come first. -/
def State.sbTake (s : State) (t slot kind id : Nat) (ranges : List (Nat × Nat)) : List Nat × State :=
  let es := (s.sbFreeList t).take ranges.length
  (es, ((es.zip ranges).foldl (fun s (e, (off, len)) =>
    (s.wr (Reg.sbEntryLo t e) (BitVec.ofNat 32 (0x80000000 + off))).wr (Reg.sbEntryHi t e)
      (BitVec.ofNat 32 (slot * 0x40000000 + kind * 0x20000000 + id * 0x2000000 + len))) s).refreshSb t)

/-- One cycle in which a task or suit of the tile waits on an overlap (R340). -/
def State.sbWaitCycle (s : State) (t : Nat) : State := s.count (Reg.cuffStatSbWait t) 1

/-- PLACKET_Q_CFG fields (R270). -/
def State.qMode (s : State) (t q : Nat) : Nat := s.fld (Reg.placketQCfg t q) 16 2
def State.qOwner (s : State) (t q : Nat) : Nat := s.fld (Reg.placketQCfg t q) 14 2
def State.qSlots (s : State) (t q : Nat) : Nat := s.fld (Reg.placketQCfg t q) 8 5
def State.qSlotBytes (s : State) (t q : Nat) : Nat := 2 ^ s.fld (Reg.placketQCfg t q) 0 5
def State.qHead (s : State) (t q : Nat) : Nat := s.fld (Reg.placketQStatus t q) 20 4
def State.qTail (s : State) (t q : Nat) : Nat := s.fld (Reg.placketQStatus t q) 16 4
def State.qFilled (s : State) (t q : Nat) : Nat := s.fld (Reg.placketQStatus t q) 24 5
def State.qCancelling (s : State) (t q : Nat) : Bool := s.bit (Reg.placketQStatus t q) 31

/-- Slots that are in fill, or in drain and no longer counted in FILLED. -/
def State.qInFill (s : State) (t q : Nat) : Nat := (s.queue t q).fill.length

/-- Whether a queue is empty (R247). -/
def State.qEmpty (s : State) (t q : Nat) : Bool :=
  let x := s.queue t q
  x.fifo.isEmpty && x.run.isNone && s.qFilled t q == 0 && x.fill.isEmpty && x.xfers.isEmpty && x.writes.isEmpty
    && x.merge.isNone && !s.qCancelling t q && !x.cancelReq

/-- An OUTBOUND slot in drain whose bytes have not all been taken: it still counts in FILLED. -/
def SlotFill.draining (f : SlotFill) : Bool := match f.total with
  | some n => f.issued < n
  | none => true

/-- The credits that PLACKET_Q_CREDITS shows (R242, R243). -/
def State.qCredits (s : State) (t q : Nat) : Nat :=
  let x := s.queue t q
  if s.qMode t q = 1 then s.qSlots t q - s.qFilled t q - x.fill.length
  else if s.qMode t q = 2 then s.qSlots t q - s.qFilled t q - (x.fill.filter (fun f => !f.draining)).length else 0

/-- Rewrites the status words of queue `q` from its state: EMPTY, ACTIVE, DESC_PENDING, OUTSTANDING, the credits and
the head length (R242, R243, R247, R270). HEAD, TAIL, FILLED and CANCELLING stand in PLACKET_Q_STATUS itself. -/
def State.refreshQ (s : State) (t q : Nat) : State :=
  let x := s.queue t q
  let st := Reg.placketQStatus t q
  let credits := s.qCredits t q
  let empty := s.qEmpty t q
  let head : Nat :=
    if s.qMode t q = 2 then (if s.qFilled t q = 0 then 0 else 0x80000000 + s.qSlotBytes t q % 0x80000)
    else match x.slotLens with
      | (n, e) :: _ => 0x80000000 + (if e then 0x40000000 else 0) + n % 0x80000
      | [] => 0
  let s := s.setBit st 30 empty
  let s := s.setBit st 29 x.run.isSome
  let s := s.setFld st 8 3 x.fifo.length
  let s := s.setFld st 0 7 x.xfers.length
  let s := s.wr (Reg.placketQCredits t q) (BitVec.ofNat 32 credits)
  let s := s.wr (Reg.placketQHeadlen t q) (BitVec.ofNat 32 head)
  s.setBit (Reg.placketStatus t) q (!empty)

/-- A cancellation of a queue reaches the Placket unit (R264); it is acknowledged in the next cycle. A queue already
cancelling goes on. -/
def State.reqCancel (s : State) (t q : Nat) : State :=
  if s.qCancelling t q then s else (s.setQueue t q { s.queue t q with cancelReq := true }).refreshQ t q

/-- Cancels every queue that task slot `k` owns (R265, R350). -/
def State.cancelOwned (s : State) (t k : Nat) : State :=
  (List.range 16).foldl (fun s q => if s.qOwner t q = k && !s.qEmpty t q then s.reqCancel t q else s) s

/-- The queues a suit's template names (R290): those bound, the ring written and the post queue. -/
def Suit.queues (x : Suit) : List Nat :=
  let w1 := x.tpl.getD 1 0
  let w3 := x.tpl.getD 3 0
  (if w1.testBit 31 then [bitsOf w1 27 4] else []) ++ (if w1.testBit 26 then [bitsOf w1 22 4] else []) ++
    (if bitsOf w3 30 2 = 1 then [bitsOf w3 26 4] else []) ++ (if w3.testBit 25 then [bitsOf w3 21 4] else [])

def suitFree : Nat := 0
def suitWaiting : Nat := 1
def suitRunning : Nat := 2
def suitDone : Nat := 3
def suitAborted : Nat := 4
def suitCancelled : Nat := 5

def State.suitState (s : State) (t i : Nat) : Nat := s.fld (Reg.suitStatus t i) 29 3
def State.suitTask (s : State) (t i : Nat) : Nat := s.fld (Reg.suitStatus t i) 16 2
/-- A suit slot that is WAITING or RUNNING. -/
def State.suitLive (s : State) (t i : Nat) : Bool := s.suitState t i == suitWaiting || s.suitState t i == suitRunning

/-- Ends a suit in state `st` (ABORTED or CANCELLED): its queues stop, its stages and scoreboard entries go (R289,
R290, R339), and the counter of that end moves (R293). -/
def State.endSuit (s : State) (t i st : Nat) : State :=
  let qs := ((s.suit t i).map Suit.queues).getD []
  let s := qs.foldl (fun s q => s.reqCancel t q) s
  let s := (s.setFld (Reg.suitStatus t i) 29 3 st).setFld (Reg.suitStatus t i) 18 6 0
  let s := if s.bit (Reg.seamStatus t) 7 && s.fld (Reg.seamStatus t) 0 2 == i then s.wr (Reg.seamStatus t) 0 else s
  let s := if s.bit (Reg.sleeveStatus t) 15 && s.fld (Reg.sleeveStatus t) 0 2 == i then s.wr (Reg.sleeveStatus t) 0 else s
  let s := if (s.suit t i).any (fun x => !x.run.hand.isEmpty) then s.wr (Reg.seamBufStatus t) 0 else s
  let s := (s.sbFree t 0 i).dropSuit t i
  s.count (if st = suitAborted then Reg.suitStatAborted t else Reg.suitStatCancelled t) 1

/-- Latches SUIT_ERR of a slot while its VALID is 0 (R289, R293). -/
def State.latchSuitErr (s : State) (t i stage code sub : Nat) : State :=
  if s.bit (Reg.suitErr t i) 31 then s
  else s.wr (Reg.suitErr t i) (BitVec.ofNat 32 (0x80000000 + stage * 0x10000000 + code * 0x10000 + sub * 0x100))

/-- Ends every live suit of task slot `k` (R289, R350). -/
def State.endSuitsOf (s : State) (t k st : Nat) : State :=
  (List.range 4).foldl (fun s i => if s.suitLive t i && s.suitTask t i == k then s.endSuit t i st else s) s

/-- OWNER field of a lock user (R395). -/
def lockOwner : LockUser → Nat
  | .task t k => 4 * t + k
  | .collar c => c

def lockIsCollar : LockUser → Bool
  | .task _ _ => false
  | .collar _ => true

/-- LOCK_STATE of lock `l`, of panel `l / 32` (R376). -/
def lockReg (l : Nat) : Nat := Reg.lockState (l / 32) (l % 32)

def lockFree : Nat := 0
def lockHeld : Nat := 1
def lockOrphaned : Nat := 2

def State.lockStateOf (s : State) (l : Nat) : Nat := s.fld (lockReg l) 30 2

/-- Whether `u` is the owner that lock `l` names. -/
def State.lockOwnedBy (s : State) (l : Nat) (u : LockUser) : Bool :=
  s.fld (lockReg l) 0 10 == lockOwner u && s.bit (lockReg l) 16 == lockIsCollar u

/-- Turns a lock ORPHANED with a cause, and takes it off its holder's count (R377, R379). -/
def State.orphanLock (s : State) (l cause : Nat) : State :=
  let o := s.fld (lockReg l) 0 10
  let s := if s.bit (lockReg l) 16 then s
    else s.setLocks (o / 4) (o % 4) (s.fld (Reg.cuffTaskStatus (o / 4) (o % 4)) 12 8 - 1)
  (s.setFld (lockReg l) 30 2 lockOrphaned).setFld (lockReg l) 28 2 cause

/-- Turns every lock that a task holds ORPHANED, cause OWNER_LOST (R350). -/
def State.orphanLocksOf (s : State) (t k : Nat) : State :=
  (List.range 128).foldl
    (fun s l => if s.lockStateOf l == lockHeld && s.lockOwnedBy l (.task t k) then s.orphanLock l 1 else s) s

/-- The acquirers waiting for lock `l`. -/
def State.waiters (s : State) (l : Nat) : List LockUser := tget s.lockWait [] l
def State.setWaiters (s : State) (l : Nat) (ws : List LockUser) : State :=
  { s with lockWait := if ws = [] then tdel s.lockWait l else tset s.lockWait l ws }.setFld (lockReg l) 20 8
    (min 255 ws.length)

/-- Takes a task out of every lock queue and every Yoke queue it waits in (R345, R350, R378). -/
def State.withdraw (s : State) (t k : Nat) : State :=
  let s := s.lockWait.foldl (fun s (l, ws) => if ws.contains (.task t k) then s.setWaiters l (ws.filter (· != .task t k)) else s) s
  { s with insts := s.insts.map (fun (i, x) => (i, { x with waiting := x.waiting.filter (· != (t, k)) })) }

/-- What R350 and R351 stop in common: no instruction issues, ungranted stores and undelivered loads go, waits end,
queues are cancelled, locks turn orphaned and the Shawl mover sends no more. -/
def State.stopTask (s : State) (t k suitEnd : Nat) : State :=
  let p := s.ports t
  let mine (x : PAccess) : Bool := match x.src with | .task k' r => k' == k && 0x30 ≤ r && r < 0x34 | _ => false
  let s := s.setPorts t { p with posted := p.posted.filter (fun n => !mine n.acc), reads := p.reads.filter (fun r => !mine r.acc) }
  let s := s.endSuitsOf t k suitEnd
  let s := s.cancelOwned t k
  let s := s.orphanLocksOf t k
  let s := s.withdraw t k
  let s := if s.fld (Reg.shawlTileW (t / 64) (t % 64) 1) 8 2 = k then s.setShawl t { s.shawl t with sends := [] } else s
  s.setTask t k Task.init

/-- Cancellation of a RUNNING or WAITING task (R350). -/
def State.cancelTask (s : State) (t k : Nat) : State :=
  if s.taskState t k == taskRunning || s.taskState t k == taskWaiting then
    (s.stopTask t k suitCancelled).setTaskState t k taskCancelled 0
  else s

/-- Latches CUFF_TASK_ERR and CUFF_TASK_ERR_PC while VALID is 0 (R351, R352). -/
def State.latchTaskErr (s : State) (t k unit code sub : Nat) : State :=
  if s.bit (Reg.cuffTaskErr t k) 31 then s
  else (s.wr (Reg.cuffTaskErr t k) (BitVec.ofNat 32
      (0x80000000 + unit * 0x1000000 + code * 0x10000 + (if unit = 0 then sub * 0x100 else 0)))).wr
    (Reg.cuffTaskErrPc t k) (BitVec.ofNat 32 (s.pc t k))

/-- A task that has ended ABORTED or CANCELLED, to which no code is charged any more (R541). -/
def State.taskOver (s : State) (t k : Nat) : Bool := s.taskState t k == taskAborted || s.taskState t k == taskCancelled

/-- A class T fault charged to task `k` of tile `t` (R351, R537): the task's work stops, its suits and itself become
ABORTED, the fault is latched and recorded, and the job is to stop. `latch` sets the reporting unit's own error
registers, before the record takes them; it is not applied where the fault is not raised (R541). -/
def State.chargeTask (s : State) (t k unit code sub : Nat) (latch : State → State)
    (ctx : State → Nat × Nat × Nat) : State :=
  if s.taskOver t k then s
  else
    let s := (latch s).latchTaskErr t k unit code sub
    let (addr, c0, c1) := ctx s
    let seq := s.nextSeq
    let part := s.partOf t
    let s := s.pushRec { s.record code 1 unit sub (some t) part (some k) addr c0 c1 with noJob := part.isNone }
    let s := (s.stopTask t k suitAborted).setTaskState t k taskAborted 0
    match part with
    | some q => s.stopJob q code 1 sub unit seq
    | none => s

/-- A fault that the Cuff core finds itself (R352). -/
def State.cuffFault (s : State) (t k code sub : Nat) : State :=
  s.chargeTask t k 0 code sub id
    (fun s => (0, (s.rd (Reg.cuffTaskErr t k)).toNat, (s.rd (Reg.cuffTaskErrPc t k)).toNat))

/-- ILLEGAL_INSTRUCTION with a core subcode (R352). -/
def State.illegal (s : State) (t k sub : Nat) : State := s.cuffFault t k 0x12 sub

/-- A class W code charged to a task: its WARN cause is set (R345) and, with `rec`, a record is written; PROMOTE bit
`pb` turns it into a job stop (R528). -/
def State.warnTask (s : State) (t k code pb unit sub : Nat) (rec : Bool) (addr c0 c1 : Nat) : State :=
  if s.taskOver t k then s
  else
    let s := s.setBit (Reg.cuffIntPend t k) 1 true
    match s.partOf t with
    | some q => if rec || (s.slot q).promote.testBit pb then s.warnJob q code pb unit sub (some t) (some k) addr c0 c1 else s
    | none => if rec then s.pushRec { s.record code 0 unit sub (some t) none (some k) addr c0 c1 with noJob := true } else s

/-- Whether warning `key` of a tile has still to write its record since the last step boundary. -/
def State.firstInStep (s : State) (t key : Nat) : Bool := !(s.tile t).stepRecs.contains key

def State.markStep (s : State) (t key : Nat) : State :=
  if s.firstInStep t key then s.setTile t { s.tile t with stepRecs := (s.tile t).stepRecs ++ [key] } else s

end Sys2Proof.Machine
end

