-- ==== Sys2Proof/Machine/HbmOps.lean ====
section
/-! DEFINITION. Global data addresses (R408) and accesses to the module's HBM: regions and areas (R238, R436, R527), the
check of words (R543), dirty pages and before-images (R440, R441). -/

namespace Sys2Proof.Machine

/-! ## Global data addresses (R408) -/

def gaSpace (a : Nat) : Nat := bitsOf a 62 2
/-- The module of a Pocket or HBM address. -/
def gaModule (a : Nat) : Nat := if gaSpace a = 0 then bitsOf a 30 11 else bitsOf a 39 11
def gaTile (a : Nat) : Nat := bitsOf a 22 8
def gaPocketOff (a : Nat) : Nat := bitsOf a 0 22
def gaHbmOff (a : Nat) : Nat := bitsOf a 0 39
def gaHostAddr (a : Nat) : Nat := bitsOf a 0 62

def gaPocket (m t off : Nat) : Nat := m * 0x40000000 + t * 0x400000 + off
def gaHbm (m off : Nat) : Nat := 0x4000000000000000 + m * 0x8000000000 + off
def gaHost (a : Nat) : Nat := 0x8000000000000000 + a

/-- Bytes of the module's HBM. -/
def hbmBytes : Nat := 384000000000

/-- No bit outside the address's fields is set, and it lies in its memory. -/
def gaValid (a : Nat) : Bool :=
  match gaSpace a with
  | 0 => a < 0x20000000000
  | 1 => a < 0x4004000000000000 && gaHbmOff a < hbmBytes
  | 2 => a < 0xC000000000000000
  | _ => false

/-! ## Regions and areas -/

def inRange (base n off len : Nat) : Bool := base ≤ off && off + len ≤ base + n

def rangesMeet (a n b m : Nat) : Bool := a < b + m && b < a + n && 0 < n && 0 < m

/-- Every byte of `[off, off + len)` lies in some range of `rs`; the first argument bounds the number of ranges met. -/
def covered (rs : List (Nat × Nat)) : Nat → Nat → Nat → Bool
  | _, _, 0 => true
  | 0, _, _ => false
  | k + 1, off, len => match rs.find? (fun (b, n) => decide (b ≤ off) && decide (off < b + n)) with
    | some (b, n) => if off + len ≤ b + n then true else covered rs k (b + n) (len - (b + n - off))
    | none => false

/-- Every byte of `[off, off + len)` lies in the HBM regions of partition `q`; while the partition is being reset its
regions admit nothing (R532). -/
def State.inRegion (s : State) (q off len : Nat) : Bool :=
  !(s.slot q).resetting && covered (s.slot q).regions 17 off len

/-- The mirror area of partition `q`: base and bytes (R436, R462). -/
def State.mirrorArea (s : State) (q : Nat) : Nat × Nat := (s.rd64 (Reg.mirrorAreaBase q), s.rd64 (Reg.mirrorAreaBytes q))
def State.undoArea (s : State) (q : Nat) : Nat × Nat := (s.rd64 (Reg.mirrorUndoBase q), s.rd64 (Reg.mirrorUndoBytes q))

/-- The partition whose mirror or undo area meets `[off, off + len)`. -/
def State.areaOf (s : State) (off len : Nat) : Option Nat :=
  (List.range 8).find? (fun q =>
    rangesMeet (s.mirrorArea q).1 (s.mirrorArea q).2 off len || rangesMeet (s.undoArea q).1 (s.undoArea q).2 off len)

/-- A partition's access to this module's HBM is admitted (R238, R417). -/
def State.hbmAdmits (s : State) (q off len : Nat) : Bool := s.inRegion q off len && (s.areaOf off len).isNone

/-! ## MIRROR_FAIL -/

/-- MIRROR_FAIL with a subcode, charged to the job of partition `q` (R456). After an error of an area the whole sets are
sent at the next epoch (R455). -/
def State.mirrorFail (s : State) (q sub module : Nat) : State :=
  let s := if sub = 3 then s.setSlot q { s.slot q with sendAll := true } else s
  let s := if s.bit (Reg.mirrorErrInfo q) 31 then s
    else s.wr (Reg.mirrorErrInfo q) (BitVec.ofNat 32 (0x80000000 + module * 0x10000 + sub * 0x100 + 0x18))
  s.jobFault q 0x18 2 11 sub none 0 (s.rd (Reg.mirrorErrInfo q)).toNat (s.rd (Reg.mirrorStatus q)).toNat

/-! ## Dirty pages and before-images (R440, R441) -/

/-- The partition that mirrors HBM page `p`, or that keeps its partner's pages there. -/
def State.mirrorPart (s : State) (p : Nat) : Option Nat :=
  (List.range 8).find? (fun q =>
    (s.slot q).mset.any (fun (a, n) => gaSpace a = 1 && inRange (gaHbmOff a / 0x10000) n p 1) ||
      inRange ((s.mirrorArea q).1 / 0x10000) ((s.mirrorArea q).2 / 0x10000) p 1)

/-- Pages of the undo area in use: two slots for each Pocket page of the mirror set, and the before-images. -/
def State.undoUsed (s : State) (q : Nat) : Nat :=
  ((s.slot q).mset.foldl (fun n (a, k) => if gaSpace a = 0 then n + 2 * k else n) 0) +
    (s.undo.filter (fun u => u.part == q)).length

def State.refreshUndo (s : State) (q : Nat) : State := s.wr (Reg.mirrorUndoUsed q) (BitVec.ofNat 32 (s.undoUsed q))

/-- Pages of `[off, off + len)`. -/
def pagesOf (off len : Nat) : List Nat :=
  if len = 0 then [] else (List.range ((off + len - 1) / 0x10000 - off / 0x10000 + 1)).map (fun i => off / 0x10000 + i)

/-- The epoch whose content partition `q`'s pages hold before their first change (R441): the last committed one, and, for
a page of its own mirror set once the boundary's pages have been taken (R443), the epoch being committed. Before epoch 0
it is numbered 65,535. -/
def State.imageEpoch (s : State) (q p : Nat) : Nat :=
  let x := s.slot q
  let base := if x.atStart || x.state == .ready then 65535 else x.epoch
  if 2 ≤ x.phase && !inRange ((s.mirrorArea q).1 / 0x10000) ((s.mirrorArea q).2 / 0x10000) p 1 then (base + 1) % 0x10000
  else base

/-- Whether the before-image of page `p` has been taken in this epoch. -/
def State.hasImage (s : State) (p : Nat) : Bool :=
  match s.mirrorPart p with
  | some q => s.undo.any (fun u => u.page == p && u.epoch == s.imageEpoch q p)
  | none => false

/-- The pages that a write of `[off, off + len)` would be the first of the epoch to change. -/
def State.needImage (s : State) (off len : Nat) : List Nat :=
  (pagesOf off len).filter (fun p => (s.mirrorPart p).isSome && !s.hasImage p)

/-- Copies page `p` to the undo area of its partition; a full area raises UNDO_FULL and takes nothing. -/
def State.beforeImage (s : State) (p : Nat) : State :=
  match s.mirrorPart p with
  | none => s
  | some q =>
    if s.hasImage p then s
    else if (s.undoArea q).2 / 0x10000 ≤ s.undoUsed q then s.mirrorFail q 2 (s.moduleId ^^^ 1)
    else
      let cells := (s.hbm.filter (fun c => p * 0x10000 ≤ c.1 && c.1 < (p + 1) * 0x10000)).map
        (fun c => (c.1 - p * 0x10000, c.2))
      State.refreshUndo { s with undo := s.undo ++ [{ part := q, page := p, epoch := s.imageEpoch q p, data := cells }] } q

/-- Marks mirrored pages dirty (R440). -/
def State.markHbm (s : State) (ps : List Nat) : State :=
  ps.foldl (fun s p =>
    match s.mirrorPart p with
    | some _ =>
      if s.hbmDirty.contains p then s
      else { s with hbmDirty := (s.hbmDirty.filter (· < p)) ++ [p] ++ (s.hbmDirty.filter (p < ·)) }
    | none => s) s

/-- The 32-byte words that bytes `[off, off + len)` touch. -/
def hbmWordsOf (off len : Nat) : List Nat :=
  if len = 0 then [] else (List.range ((off + len - 1) / 32 - off / 32 + 1)).map (fun i => off / 32 + i)

/-- Writes enabled bytes to HBM. A first write to a clean mirrored page takes its before-image first; where the undo
area is full the write does not land. A word that is written in full becomes correct (R543). -/
def State.hbmWrite (s : State) (off : Nat) (bytes : List (Option Byte)) : State :=
  let s := (s.needImage off bytes.length).foldl State.beforeImage s
  if (s.needImage off bytes.length).isEmpty then
    let m := mwriteEn s.hbm off bytes
    let changed := (pagesOf off bytes.length).filter (fun p =>
      (List.range bytes.length).any (fun i => (off + i) / 0x10000 == p && mget s.hbm (off + i) != mget m (off + i)))
    let full (w : Nat) : Bool := off ≤ 32 * w && 32 * w + 32 ≤ off + bytes.length &&
      ((bytes.drop (32 * w - off)).take 32).all Option.isSome
    State.markHbm { s with hbm := m, hbmErr := s.hbmErr.filter (fun e => !full e.1) } changed
  else s

/-! ## The check of HBM words (R543) -/

/-- The HBM controller that holds the word at an offset: the spec does not say how offsets are spread. -/
def hbmController (off : Nat) : Nat := (Config.hbmStack (off / 32)).val

/-- Where an HBM offset lies (HBM_ERR_INFO.WHERE) and the partition concerned: a region, a mirror area, an undo area, or
nowhere. -/
def State.hbmWhere (s : State) (off : Nat) : Nat × Nat :=
  match (List.range 8).find? (fun q => s.inRegion q off 32),
      (List.range 8).find? (fun q => rangesMeet (s.mirrorArea q).1 (s.mirrorArea q).2 off 32),
      (List.range 8).find? (fun q => rangesMeet (s.undoArea q).1 (s.undoArea q).2 off 32) with
  | some q, _, _ => (0, q)
  | none, some q, _ => (1, q)
  | none, none, some q => (2, q)
  | none, none, none => (4, 0)

/-- HBM_ERR_INFO and HBM_ERR_ADDR latch an uncorrectable word while VALID is 0. -/
def State.latchHbm (s : State) (off : Nat) (scrub : Bool) : State :=
  let c := hbmController off
  let p := s.hbmWhere off
  if s.bit (Reg.hbmErrInfo c) 31 then s
  else (s.wr (Reg.hbmErrInfo c) (BitVec.ofNat 32 (0x80000000 + p.1 * 0x10000000 + (if scrub then 0x8000000 else 0) +
    p.2 * 0x1000000))).wr64 (Reg.hbmErrAddr c) (gaHbm s.moduleId off)

/-- The word is written to zero with correct check bits. -/
def State.zeroHbmWord (s : State) (w : Nat) : State :=
  { s with hbm := mzero s.hbm (32 * w) 32, hbmErr := tdel s.hbmErr w }

/-- An uncorrectable word is counted, latched and charged by its place (R543). -/
def State.hbmBad (s : State) (w : Nat) (scrub : Bool) : State :=
  let off := 32 * w
  let p := s.hbmWhere off
  let s := (s.count (Reg.hbmUeCount (hbmController off)) 1).latchHbm off scrub
  let info := (s.rd (Reg.hbmErrInfo (hbmController off))).toNat
  if p.1 = 0 then s.jobFault p.2 0x0E 2 9 0 none (gaHbm s.moduleId off) info 0
  else if p.1 = 4 then (s.recordOnly 0x0E 9 0 none none (gaHbm s.moduleId off) info 0 2).zeroHbmWord w
  else s.mirrorFail p.2 3 (s.moduleId ^^^ 1)

/-- Reads and checks words: a corrected word is counted and written back, an uncorrectable one is charged. Answers
whether every word can be delivered. -/
def State.hbmCheck (s : State) (scrub : Bool) : List Nat → State × Bool
  | [] => (s, true)
  | w :: ws =>
    match tfind s.hbmErr w with
    | none => s.hbmCheck scrub ws
    | some false =>
      (State.count { s with hbmErr := tdel s.hbmErr w } (Reg.hbmCeCount (hbmController (32 * w))) 1).hbmCheck scrub ws
    | some true =>
      let (s, _) := (s.hbmBad w scrub).hbmCheck scrub ws
      (s, false)

/-- Reads HBM bytes; `none` where an uncorrectable word delivers nothing. -/
def State.hbmRead (s : State) (off len : Nat) : State × Option (List Byte) :=
  let (s, ok) := s.hbmCheck false (hbmWordsOf off len)
  (s, if ok then some (mread s.hbm off len) else none)

end Sys2Proof.Machine
end

