-- ==== Sys2Proof/Machine/Num.lean ====
section
/-! DEFINITION. The arithmetic of spec 07 on exact dyadic numbers: formats, rounding to nearest even and keyed, the
chunk format, running-total pairs, promotion, conversion, lining, scales and the keyed hash. -/

namespace Sys2Proof.Machine

/-! ## Exact numbers -/

/-- An exact value m × 2^e, an infinity or a NaN. `nz` marks a zero as negative (R204). -/
inductive FNum where
  | nan
  | inf (neg : Bool)
  | fin (m : Int) (e : Int) (nz : Bool)
deriving DecidableEq, Repr

def FNum.zero : FNum := .fin 0 0 false

/-- An integer as an exact value. -/
def FNum.ofInt (m : Int) : FNum := .fin m 0 false

/-- Whether the sign is negative. -/
def FNum.neg : FNum → Bool
  | .nan => false
  | .inf n => n
  | .fin m _ nz => if m = 0 then nz else m < 0

/-- The mantissas of two values over their common (lower) exponent. -/
def align (m₁ e₁ m₂ e₂ : Int) : Int × Int × Int :=
  if e₁ ≤ e₂ then (m₁, m₂ * 2 ^ (e₂ - e₁).toNat, e₁) else (m₁ * 2 ^ (e₁ - e₂).toNat, m₂, e₂)

/-- The exact sum (R204). -/
def FNum.add : FNum → FNum → FNum
  | .nan, _ => .nan
  | _, .nan => .nan
  | .inf a, .inf b => if a = b then .inf a else .nan
  | .inf a, .fin _ _ _ => .inf a
  | .fin _ _ _, .inf b => .inf b
  | .fin m₁ e₁ z₁, .fin m₂ e₂ z₂ =>
    let (a, b, e) := align m₁ e₁ m₂ e₂
    .fin (a + b) e (m₁ == 0 && m₂ == 0 && z₁ && z₂)

/-- The exact product (R204). -/
def FNum.mul : FNum → FNum → FNum
  | .nan, _ => .nan
  | _, .nan => .nan
  | .inf a, .inf b => .inf (a != b)
  | .inf a, .fin m e z => if m = 0 then .nan else .inf (a != (FNum.fin m e z).neg)
  | .fin m e z, .inf b => if m = 0 then .nan else .inf (b != (FNum.fin m e z).neg)
  | .fin m₁ e₁ z₁, .fin m₂ e₂ z₂ =>
    .fin (m₁ * m₂) (e₁ + e₂) ((FNum.fin m₁ e₁ z₁).neg != (FNum.fin m₂ e₂ z₂).neg)

/-- x × 2^k. -/
def FNum.scale (x : FNum) (k : Int) : FNum :=
  match x with
  | .fin m e z => .fin m (e + k) z
  | y => y

def FNum.negate : FNum → FNum
  | .nan => .nan
  | .inf n => .inf !n
  | .fin m e z => .fin (-m) e (m == 0 && !z)

/-- |a| ≤ |b| for finite values. -/
def magLe (m₁ e₁ m₂ e₂ : Int) : Bool :=
  let (a, b, _) := align m₁ e₁ m₂ e₂
  a.natAbs ≤ b.natAbs

/-- floor(log2 |m × 2^e|) for m ≠ 0. -/
def expOf (m e : Int) : Int := (Nat.log2 m.natAbs : Int) + e

/-! ## Rounding -/

/-- A magnitude m × 2^e in steps of 2^g: rounded to nearest even, or keyed with a noise value (R210). The second
component says whether it was on the grid. -/
def roundMag (noise : Option Nat) (m : Nat) (e g : Int) : Nat × Bool :=
  if g ≤ e then (m * 2 ^ (e - g).toNat, true)
  else
    let d := 2 ^ (g - e).toNat
    let q := m / d
    let r := m % d
    if r = 0 then (q, true)
    else match noise with
      | none => (if 2 * r > d || (2 * r == d && q % 2 == 1) then q + 1 else q, false)
      | some n => (if 65536 * r / d + n ≥ 65536 then q + 1 else q, false)

/-- A signed value rounded to an integer. -/
def roundInt (noise : Option Nat) (m e : Int) : Int :=
  let q := (roundMag noise m.natAbs e 0).1
  if m < 0 then -(q : Int) else q

/-- A floating-point format (R103, R199): precision, smallest normal exponent, largest exponent, and whether it has
infinities. -/
structure Fmt where
  prec : Nat
  emin : Int
  emax : Int
  bits : Nat
  infs : Bool
deriving DecidableEq, Repr

def fmtE4M3 : Fmt := { prec := 4, emin := -6, emax := 8, bits := 8, infs := false }
def fmtE5M2 : Fmt := { prec := 3, emin := -14, emax := 15, bits := 8, infs := true }
def fmtFP16 : Fmt := { prec := 11, emin := -14, emax := 15, bits := 16, infs := true }
def fmtBF16 : Fmt := { prec := 8, emin := -126, emax := 127, bits := 16, infs := true }

/-- The largest finite magnitude of a format: m × 2^e. FP8_E4M3 stops at 448. -/
def Fmt.maxMag (f : Fmt) : Nat × Int :=
  if f.infs then (2 ^ f.prec - 1, f.emax - f.prec + 1) else (2 ^ f.prec - 2, f.emax - f.prec + 1)

/-- The exponent of ulp(v) for a magnitude m × 2^e (R199). -/
def Fmt.ulpExp (f : Fmt) (m : Nat) (e : Int) : Int :=
  (if m = 0 then f.emin else max (expOf m e) f.emin) - f.prec + 1

/-- The value rounded to the format (R205, R210, R211), and whether an FP8_E4M3 result saturated (R212). -/
def Fmt.round (f : Fmt) (noise : Option Nat) (x : FNum) : FNum × Bool :=
  match x with
  | .nan => (.nan, false)
  | .inf n => if f.infs then (.inf n, false) else
      let (mm, me) := f.maxMag
      (.fin (if n then -(mm : Int) else mm) me false, true)
  | .fin m e z =>
    let a := m.natAbs
    if a = 0 then (.fin 0 f.emin z, false)
    else
      let (mm, me) := f.maxMag
      let sgn (k : Nat) (g : Int) : FNum := .fin (if m < 0 then -(k : Int) else k) g (m < 0)
      let big : Bool := !magLe a e mm me
      if big && !f.infs then (sgn mm me, true)
      else if big && magLe (2 * mm + 1 : Nat) (me - 1) a e then (.inf (m < 0), false)
      else if big then (sgn mm me, false)
      else
        let g := f.ulpExp a e
        (sgn (roundMag noise a e g).1 g, false)

/-- The encoding of a value that lies on the format's grid; NaN is canonical (R204). -/
def Fmt.encode (f : Fmt) (x : FNum) : Nat :=
  let fb := f.prec - 1
  let sign (n : Bool) : Nat := if n then 2 ^ (f.bits - 1) else 0
  let top : Nat := 2 ^ (f.bits - 1 - fb) - 1
  match x with
  | .nan => if f.infs then top * 2 ^ fb + 2 ^ (fb - 1) else 0x7F
  | .inf n => sign n + top * 2 ^ fb
  | .fin m e z =>
    if m = 0 then sign z
    else
      let ex := max (expOf m e) f.emin
      let g := ex - fb
      let k := (roundMag none m.natAbs e g).1
      -- normal: k has its leading bit at position fb; subnormal: below it
      let field : Nat := if k < 2 ^ fb then k else (ex - f.emin + 1).toNat * 2 ^ fb + (k - 2 ^ fb)
      sign (m < 0) + field

/-- The value that bits encode (R102, R103). -/
def Fmt.decode (f : Fmt) (b : Nat) : FNum :=
  let fb := f.prec - 1
  let frac := b % 2 ^ fb
  let top : Nat := 2 ^ (f.bits - 1 - fb) - 1
  let ex := b / 2 ^ fb % (top + 1)
  let n := b.testBit (f.bits - 1)
  let sg (k : Nat) : Int := if n then -(k : Int) else k
  if f.infs && ex == top then (if frac = 0 then .inf n else .nan)
  else if !f.infs && ex == top && frac == 2 ^ fb - 1 then .nan
  else if ex = 0 then .fin (sg frac) (f.emin - fb) n
  else .fin (sg (frac + 2 ^ fb)) (f.emin + ex - 1 - fb) n

/-! ## Element types (R101) -/

def tyI8 : Nat := 0
def tyU8 : Nat := 1
def tyI16 : Nat := 2
def tyE4M3 : Nat := 3
def tyE5M2 : Nat := 4
def tyFP16 : Nat := 5
def tyBF16 : Nat := 6
def tySPlane : Nat := 7
def tyUPlane : Nat := 8
def tyI32Pair : Nat := 9
def tyBFPair : Nat := 10
def tyHFPair : Nat := 11

/-- Bytes of one stored value; a word of each plane for a pair. -/
def tySize (ty : Nat) : Nat := if ty = tyI8 ∨ ty = tyU8 ∨ ty = tyE4M3 ∨ ty = tyE5M2 then 1 else 2

/-- The floating-point format of a type, pairs by their value plane. -/
def tyFmt (ty : Nat) : Option Fmt :=
  if ty = tyE4M3 then some fmtE4M3 else if ty = tyE5M2 then some fmtE5M2
  else if ty = tyFP16 ∨ ty = tyHFPair then some fmtFP16
  else if ty = tyBF16 ∨ ty = tyBFPair then some fmtBF16 else none

/-- The exact value of an element that is not a plane or pair type. -/
def tyDecode (ty b : Nat) : FNum :=
  match tyFmt ty with
  | some f => f.decode b
  | none => if ty = tyI8 then .ofInt (signedOf b 8) else if ty = tyI16 then .ofInt (signedOf b 16) else .ofInt b

/-- The integer range of a type: plane types of width w. -/
def tyRange (ty w : Nat) : Int × Int :=
  if ty = tyI8 then (-128, 127) else if ty = tyU8 then (0, 255) else if ty = tyI16 then (-32768, 32767)
  else if ty = tySPlane then (-(2 ^ (w - 1) : Nat), (2 ^ (w - 1) : Nat) - 1) else (0, (2 ^ w : Nat) - 1)

/-! ## The chunk format (R202, R203) -/

/-- The exact sum rounded to 26 significant bits, then the overflow and underflow rules. -/
def toChunk (x : FNum) : FNum :=
  match x with
  | .fin m e z =>
    if m = 0 then .fin 0 0 z
    else
      let g := expOf m e - 25
      let k := (roundMag none m.natAbs e g).1
      if 512 ≤ expOf k g then .inf (m < 0)
      else if expOf k g < -510 then .fin 0 0 (m < 0)
      else .fin (if m < 0 then -(k : Int) else k) g (m < 0)
  | y => y

/-! ## Integer sums (R183) -/

def maxI32 : Int := 2147483647
def minI32 : Int := -2147483648

/-- Saturation to INT32, and whether it acted. -/
def satI32 (x : Int) : Int × Bool :=
  if maxI32 < x then (maxI32, true) else if x < minI32 then (minI32, true) else (x, false)

/-- I32PAIR (R198). -/
def i32Of (h l : Nat) : Int := signedOf h 16 * 65536 + l
def i32Hi (x : Int) : Nat := unsignedOf (x / 65536) 16
def i32Lo (x : Int) : Nat := unsignedOf x 16

/-! ## Floating-point totals (R200, R205) -/

/-- The exact value of a total with value word V and carry word C. -/
def totalOf (f : Fmt) (v c : Nat) : FNum :=
  match f.decode v with
  | .fin m e z => (FNum.fin m e z).add
      (if signedOf c 16 = 0 then .fin 0 0 z else .fin (signedOf c 16) (f.ulpExp m.natAbs e - 15) false)
  | y => y

/-- A promotion: the exact X = T + S as (V', C'). -/
def promoteX (f : Fmt) (noise : Option Nat) (x : FNum) : Nat × Nat :=
  match x with
  | .nan => (f.encode .nan, 0)
  | .inf n => (f.encode (.inf n), 0)
  | .fin m e z =>
    match (f.round noise (.fin m e z)).1 with
    | .fin vm ve vz =>
      let g := f.ulpExp vm.natAbs ve
      let (a, b, d) := align m e vm ve
      let c := roundInt none (a - b) (d - g + 15)
      (f.encode (.fin vm ve vz), unsignedOf (max (-32767) (min 32767 c)) 16)
    | y => (f.encode y, 0)

def promote (f : Fmt) (noise : Option Nat) (v c : Nat) (x : FNum) : Nat × Nat := promoteX f noise ((totalOf f v c).add x)

/-! ## The keyed hash (R208) -/

def mix64 (x : BitVec 64) : BitVec 64 :=
  let x := x ^^^ (x >>> 32)
  let x := x * 0xB5E39A476C1D2F8B#64
  let x := x ^^^ (x >>> 29)
  let x := x * 0x8F29C6D14E73A055#64
  x ^^^ (x >>> 32)

def keyhash (seed purpose tensor step index : Nat) : BitVec 64 :=
  let h := mix64 (BitVec.ofNat 64 seed ^^^ 0x4C494E494E470001#64)
  let h := mix64 (h + BitVec.ofNat 64 (purpose * 2 ^ 48) + BitVec.ofNat 64 (tensor * 2 ^ 32) + BitVec.ofNat 64 step)
  mix64 (h + BitVec.ofNat 64 index)

/-- The 16-bit noise. -/
def keyNoise (seed purpose tensor step index : Nat) : Nat := (keyhash seed purpose tensor step index).toNat / 2 ^ 48

/-! ## Conversion (R211, R212) -/

/-- An exact value converted to a type of width w: the stored bits and whether it is a saturating event. -/
def convertTo (ty w : Nat) (noise : Option Nat) (x : FNum) : Nat × Bool :=
  match tyFmt ty with
  | some f =>
    let (y, sat) := f.round noise x
    (f.encode y, sat)
  | none =>
    let (lo, hi) := tyRange ty w
    let n := if ty = tySPlane ∨ ty = tyUPlane then w else 8
    match x with
    | .fin m e _ =>
      let v := roundInt noise m e
      if v < lo then (unsignedOf lo n, true) else if hi < v then (unsignedOf hi n, true) else (unsignedOf v n, false)
    | .inf true => (unsignedOf lo n, true)
    | .inf false => (unsignedOf hi n, true)
    | .nan => (0, false)

/-- FMAX of a type (R214): m × 2^e. -/
def tyFmax (ty w : Nat) : Nat × Int :=
  match tyFmt ty with
  | some f => f.maxMag
  | none => ((tyRange ty w).2.toNat, 0)

/-- The block exponent under MAXABS: the smallest E with m ≤ FMAX × 2^E, plus MARGIN, clamped (R214). -/
def maxabsExp (ty w : Nat) (minExp margin : Int) (m : Nat) (e : Int) : Int :=
  if m = 0 then minExp
  else
    let (fm, fe) := tyFmax ty w
    if fm = 0 then 127
    else
      let e0 := expOf m e - expOf fm fe
      let fits (k : Int) : Bool := magLe m e fm (fe + k)
      let k := if fits (e0 - 1) then e0 - 1 else if fits e0 then e0 else e0 + 1
      max (-128) (min 127 (k + margin))

/-! ## The lining tensor (R218) -/

/-- The update of weight word `w` and lining word `l` by `u`: (w', L'). -/
def lining (f : Fmt) (noise : Nat) (w l : Nat) (u : FNum) : Nat × Nat :=
  match f.decode w, u with
  | .fin wm we wz, .fin um ue uz =>
    let g := f.ulpExp wm.natAbs we
    let lv : FNum := .fin (signedOf l 8) (g - 7) false
    let x := ((FNum.fin wm we wz).add lv).add (.fin um ue uz)
    let delta (m e vm ve g : Int) : Int :=
      let (a, b, d) := align m e vm ve
      roundInt (some noise) (a - b) (d - g + 7)
    match x with
    | .fin xm xe xz =>
      let k := delta xm xe wm we g
      if -127 ≤ k ∧ k ≤ 127 then (w, unsignedOf k 8)
      else match (f.round none (.fin xm xe xz)).1 with
        | .fin vm ve vz =>
          let g' := f.ulpExp vm.natAbs ve
          (f.encode (.fin vm ve vz), unsignedOf (max (-127) (min 127 (delta xm xe vm ve g'))) 8)
        | y => (f.encode y, 0)
    | y => (f.encode y, 0)
  | a, b => (f.encode (a.add b), 0)

/-! ## The agreement sampler (R229) -/

/-- The bin of a distance m × 2^e. -/
def sampleBin (m : Nat) (e : Int) : Nat :=
  if m = 0 then 0
  else if magLe m e 1 (-10) then 1
  else match (List.range 13).find? (fun (b : Nat) => magLe m e 1 ((b : Int) + 2 - 11)) with
    | some b => b + 2
    | none => 15

/-- The bin for a drained total and a reference, both exact; `ulp` is the exponent of ulp(V_R). -/
def totalBin (t r : FNum) (ulp : Int) : Nat :=
  match t, r with
  | .nan, .nan => 0
  | .inf a, .inf b => if a = b then 0 else 15
  | .fin m₁ e₁ _, .fin m₂ e₂ _ =>
    let (a, b, e) := align m₁ e₁ m₂ e₂
    sampleBin (a - b).natAbs (e - ulp)
  | _, _ => 15

/-! ## Scatter with accumulation (R225, R226, R257) -/

/-- The integer q that a scatter adds to an I32PAIR, or none for a NaN; and whether it saturated. -/
def scatterInt (x : FNum) : Option Int × Bool :=
  match x with
  | .nan => (none, false)
  | .inf n => (some (if n then minI32 else maxI32), true)
  | .fin m e _ =>
    let (v, sat) := satI32 (roundInt none m e)
    (some v, sat)

end Sys2Proof.Machine
end

