-- ==== Sys2Proof/Machine/PocketOps.lean ====
section
/-! DEFINITION. Accesses to the Pockets: address mapping, the refusals of R75, R79 and R88, the check of stored words
(R80-R82), dirty bits (R93), and the landing of remote accesses (R360, R370). -/

namespace Sys2Proof

/-- The Pocket offset a request names (R408). -/
def Packet.off (p : Packet) : Nat := p.addr % 0x400000

/-- The originator that a request carries (R361). -/
def Packet.origin (p : Packet) : Origin := { module := p.srcModule, tile := p.srcTile, req := p.req, part := p.part }

end Sys2Proof

namespace Sys2Proof.Machine

/-- Bytes of a Pocket (R64). -/
def pocketBytes : Nat := 0x400000

/-- The key of tile `t`'s Pocket offset `o`. -/
def pkey (t o : Nat) : Nat := t * pocketBytes + o

/-- The key of tile `t`'s word `w`. -/
def wkey (t w : Nat) : Nat := t * 0x80000 + w

/-- The banks that `n` words from offset `off` need (R68). -/
def banksOf (off n : Nat) : List Nat := (List.range n).map (fun i => (off / 8 + i) % 32)

/-- The words that bytes `[off, off + len)` touch. -/
def wordsOf (off len : Nat) : List Nat :=
  if len = 0 then [] else (List.range ((off + len - 1) / 8 - off / 8 + 1)).map (fun i => off / 8 + i)

/-- The code that refuses every access to these bytes, if any: WIPE_PENDING while a wipe runs (R88), then
POCKET_POWERED_DOWN where a group is not ON (R79). -/
def State.pocketRefusal (s : State) (t off len : Nat) : Option Nat :=
  if s.bit (Reg.pocketStatus t) 7 then some 0x11
  else if (wordsOf off len).all (fun w => s.bit (Reg.pocketPwrStatus t) (w / 0x10000)) then none
  else some 0x03

/-- The physical offset of a slot-relative access, or `none` where it fails the test of R75. -/
def State.slotPhys (s : State) (t k o len : Nat) : Option Nat :=
  if o + len ≤ (s.rd (Reg.pocketSlotBound t k)).toNat then some ((s.rd (Reg.pocketSlotBase t k)).toNat + o) else none

def State.wordErr (s : State) (t w : Nat) : Option WordErr := tfind s.pocketErr (wkey t w)

/-- The physical offset that a record of a failed access names (R81, R550): the first uncorrectable word of its words, or
for another code its first byte `off`. -/
def State.failOff (s : State) (t code off : Nat) (ws : List Nat) : Nat :=
  if code = 0x02 then ((ws.find? (fun w => (s.wordErr t w).any (·.double))).map (8 * ·)).getD off else off

/-- Makes a word correct again, and drops a write-back that waits for it (R80, R81). -/
def State.fixWord (s : State) (t w : Nat) : State :=
  let s := { s with pocketErr := tdel s.pocketErr (wkey t w) }
  if (s.ports t).ceBack.contains w then s.setPorts t { s.ports t with ceBack := (s.ports t).ceBack.filter (· != w) } else s

/-- POCKET_ERR_ADDR takes the latest error (R80, R95). -/
def State.latchErrAddr (s : State) (t w : Nat) (e : WordErr) : State :=
  s.wr (Reg.pocketErrAddr t)
    (BitVec.ofNat 32 (0x80000000 + (if e.double then 0x40000000 else 0) + e.syndrome % 256 * 0x400000 + 8 * w))

/-- A corrected word is counted and latched, and its write-back waits (R80). -/
def State.noteCe (s : State) (t w : Nat) (e : WordErr) : State :=
  let s := ((s.count (Reg.pocketCeCount t) 1).setBit (Reg.pocketStatus t) 4 true).latchErrAddr t w e
  if (s.ports t).ceBack.contains w then s else s.setPorts t { s.ports t with ceBack := (s.ports t).ceBack ++ [w] }

/-- An uncorrectable word is counted and latched (R80). -/
def State.noteUe (s : State) (t w : Nat) (e : WordErr) : State :=
  ((s.count (Reg.pocketUeCount t) 1).setBit (Reg.pocketStatus t) 5 true).latchErrAddr t w e

/-- A record that names a Pocket word and stops nothing (R82, R538). -/
def State.pocketRecord (s : State) (t code off : Nat) (ctx : Nat) : State :=
  s.recordOnly code 1 0 (some t) (s.partOf t) off ctx 0

/-- A word that fails its check in a tile of no partition: a record, and the word becomes zero (R82). -/
def State.zeroBadWord (s : State) (t w : Nat) : State :=
  let s := s.pocketRecord t 0x02 (8 * w) (s.rd (Reg.pocketErrAddr t)).toNat
  let s := s.fixWord t w
  { s with pocket := mzero s.pocket (pkey t (8 * w)) 8 }

/-- The check of the words of a read (R80): corrections are counted, uncorrectable words are counted too and, in a
tile of no partition, rewritten (R82). The first component of the answer says whether every word can be delivered;
the second whether the failure is to be charged. -/
def State.checkWords (s : State) (t : Nat) : List Nat → State × Bool × Bool
  | [] => (s, true, false)
  | w :: ws =>
    match s.wordErr t w with
    | none => s.checkWords t ws
    | some e =>
      if e.double then
        let s := s.noteUe t w e
        if (s.partOf t).isNone then
          let (s, _, c) := (s.zeroBadWord t w).checkWords t ws
          (s, false, c)
        else
          let (s, _, _) := s.checkWords t ws
          (s, false, true)
      else (s.noteCe t w e).checkWords t ws

/-- Reads `len` bytes at a physical offset: the data, or the code that refuses or fails the read (0 where nothing is
delivered and nothing charged, R82). -/
def State.pocketRead (s : State) (t off len : Nat) : State × Except Nat (List Byte) :=
  match s.pocketRefusal t off len with
  | some c => (s, .error c)
  | none =>
    let (s, ok, charge) := s.checkWords t (wordsOf off len)
    if ok then (s, .ok (mread s.pocket (pkey t off) len))
    else (s, .error (if charge then 0x02 else 0))

/-- The mirror pages in which some byte of `[o, o + n)` differs between two memories of tile `t` (R93). -/
def changedPages (m m' : List Host.Cell) (t o n : Nat) : List Nat :=
  (((List.range n).filter (fun i => mget m (pkey t (o + i)) != mget m' (pkey t (o + i)))).map
    (fun i => (o + i) / 0x10000)).dedup

/-- Sets the dirty bits of pages (R93). -/
def State.markDirty (s : State) (t : Nat) : List Nat → State
  | [] => s
  | p :: ps => (s.wr64 (Reg.pocketDirty t) (s.rd64 (Reg.pocketDirty t) ||| 2 ^ p)).markDirty t ps

/-- The enabled bytes of word `w` are stored, and the word is correct. -/
def State.putWord (s : State) (t w : Nat) (bytes : List (Option Byte)) : State :=
  let s := s.fixWord t w
  { s with pocket := mwriteEn s.pocket (pkey t (8 * w)) bytes }

/-- Writes one word's enabled bytes (R69, R80, R81): a partly enabled word is checked first, a full one is not. The
answer says whether the word was left as it was because it is uncorrectable. -/
def State.writeWord (s : State) (t w : Nat) (bytes : List (Option Byte)) : State × Bool :=
  if bytes.all Option.isNone then (s, false)
  else if bytes.all Option.isSome then (s.putWord t w bytes, false)
    else match s.wordErr t w with
      | none => (s.putWord t w bytes, false)
      | some e =>
        if e.double then
          let s := s.noteUe t w e
          if (s.partOf t).isNone then (s.zeroBadWord t w, false) else (s, true)
        else ((s.noteCe t w e).putWord t w bytes, false)

/-- The bytes of a write cut into words from word `w` on; `skip` bytes of the first word come before it. -/
def cutWords : Nat → List (Option Byte) → List (List (Option Byte))
  | 0, _ => []
  | n + 1, bs => bs.take 8 :: cutWords n (bs.drop 8)

def State.writeWords (s : State) (t : Nat) : List (Nat × List (Option Byte)) → State × Bool
  | [] => (s, false)
  | (w, bs) :: ws =>
    let (s, bad) := s.writeWord t w bs
    let (s, bad') := s.writeWords t ws
    (s, bad || bad')

/-- Writes enabled bytes at a physical offset: the code that refuses the write, or 0x02 where a partly enabled word is
uncorrectable (R81), or 0. `mark` is false for the mirror engine's own writes (R93). -/
def State.pocketWrite (s : State) (t off : Nat) (bytes : List (Option Byte)) (mark : Bool := true) : State × Nat :=
  match s.pocketRefusal t off bytes.length with
  | some c => (s, c)
  | none =>
    let pre := off % 8
    let all := List.replicate pre none ++ bytes
    let all := all ++ List.replicate ((8 - all.length % 8) % 8) none
    let ws := wordsOf off bytes.length
    let (s', bad) := s.writeWords t (ws.zip (cutWords ws.length all))
    let pages := if mark then changedPages s.pocket s'.pocket t off bytes.length else []
    (s'.markDirty t pages, if bad then 0x02 else 0)

/-! ## Remote accesses at the destination -/

/-- Sends the answer to a request: READ_DATA, ACK or REFUSE (R360, R411). It carries the window and epoch under which
the request was admitted (R366), and in AUX the code of a refusal. -/
def State.answer (s : State) (p : Packet) (kind code : Nat) (data : List Byte) : State :=
  let a : Packet := { p with kind := kind, dstModule := p.srcModule, dstTile := p.srcTile, srcModule := s.moduleId,
                             srcTile := p.dstTile, hops := 0, vcset := false, aux := code, data := data.map some }
  if p.srcModule = s.moduleId then { s with answers := s.answers ++ [a] } else { s with fabOut := s.fabOut ++ [a] }

/-- Latches a refusal at the destination and counts it (R369). -/
def State.latchRefusal (s : State) (t : Nat) (o : Origin) (credited : Bool) (win code off : Nat) : State :=
  let s := s.count (if credited then Reg.creditStatRefused t else Reg.winStatRefused t) 1
  if s.bit (Reg.winErrInfo t) 31 then s
  else
    let s := s.wr (Reg.winErrInfo t) (BitVec.ofNat 32 (0x80000000 + code * 0x10000 + win * 0x1000))
    let s := s.wr (Reg.winErrSrc t) (BitVec.ofNat 32
      ((if credited then 0x80000000 else 0) + o.part * 0x10000000 + o.module * 0x10000 + o.req * 0x100 + o.tile))
    s.wr (Reg.winErrAddr t) (BitVec.ofNat 32 (off % pocketBytes))

/-- Refuses a request at tile `t` (R369): nothing is written, the code goes to the sender, and the refusal is counted
and latched here. -/
def State.refuseRemote (s : State) (t : Nat) (p : Packet) (win code : Nat) : State :=
  (s.latchRefusal t p.origin false win code p.off).answer p 0x13 code []

/-- An admitted access leaves the window's count: granted at WP1, performed, or refused after admission (R370). A
CLOSING window with none left becomes CLOSED (R364). -/
def State.leaveWindow (s : State) (t w : Nat) : State :=
  let a := Reg.winStatus t w
  let n := s.fld a 16 8 - 1
  let s := s.setFld a 16 8 n
  if s.fld a 30 2 = 2 ∧ n = 0 then s.setFld a 30 2 0 else s

/-- The entries of CREDIT_STATUS.IN_USE (R374). -/
def State.refreshCredits (s : State) (t : Nat) : State :=
  s.wr (Reg.creditStatus t) (BitVec.ofNat 32 ((s.tile t).grants.foldl (fun m (e, _) => m + 2 ^ e) 0))

/-- One write under credit entry `e` has landed (R374). -/
def State.creditLanded (s : State) (t e : Nat) : State :=
  match tfind (s.tile t).grants e with
  | none => s
  | some g => s.setTile t { s.tile t with grants := tset (s.tile t).grants e { g with pending := g.pending - 1 } }

/-- Charges a failed Pocket access by its source (R79, R81, R88); `off` is its offset (R550). -/
def State.chargeAccess (s : State) (t : Nat) (src : PSrc) (code off : Nat) : State :=
  match src with
  | .task k _ =>
    if code = 0 then s else s.chargeTask t k 1 code 0 id (fun s => (off, (s.rd (Reg.pocketErrAddr t)).toNat, 0))
  | .remote p w =>
    let s := s.leaveWindow t w
    if code = 0x02 then
      let s := s.answer p 0x13 code []
      match s.partOf t with
      | some q => s.jobFault q 0x02 1 1 0 (some t) off (s.rd (Reg.pocketErrAddr t)).toNat 0
      | none => s
    else if code = 0 then s.answer p 0x11 0 (mread s.pocket (pkey t p.off) p.len)
    else s.refuseRemote t p w code

/-- An admitted inbound access has been granted at WP1 or performed (R360, R370): it leaves the window's count and is
answered. -/
def State.remoteLanded (s : State) (t : Nat) (src : PSrc) (data : List Byte) : State :=
  match src with
  | .remote p w =>
    (s.leaveWindow t w).answer p (if p.kind = 1 then 0x11 else 0x12) 0 data
  | .task _ _ => s

end Sys2Proof.Machine
end

