-- ==== Sys2Proof/Machine/Operands.lean ====
section
/-! DEFINITION. The Cuff core's shared operations: instruction words and their decoding (R327-R335), issue and
completion, waits, narrow accesses (R336) and the scoreboard (R339, R340). -/

namespace Sys2Proof.Machine

/-! ## Instruction words (R327) -/

def opOf (w : Word) : Nat := fieldOf w 26 6
def rdOf (w : Word) : Nat := fieldOf w 21 5
def raOf (w : Word) : Nat := fieldOf w 16 5
def rbOf (w : Word) : Nat := fieldOf w 11 5
def fnOf (w : Word) : Nat := fieldOf w 0 11
/-- In form B the two registers stand in [25:21] and [20:16]. -/
def raB (w : Word) : Nat := fieldOf w 21 5
def rbB (w : Word) : Nat := fieldOf w 16 5
/-- IMM16 sign-extended to 32 bits, and zero-extended. -/
def sext16 (w : Word) : Word := (w.setWidth 16).signExtend 32
def zext16 (w : Word) : Word := (w.setWidth 16).setWidth 32
def immB (w : Word) : Int := (w.setWidth 16).toInt
def immJ (w : Word) : Int := (w.setWidth 26).toInt

/-- The number that names an instruction: its opcode, and for OP 0x01, 0x38 and 0x3F its function. -/
def code (op fn : Nat) : Nat := op * 2048 + fn

/-- Which of RD, RA and RB an OP 0x38 function uses (R334). -/
def unitUses : Nat → Option (Bool × Bool × Bool)
  | 0x000 => some (true, true, true)
  | 0x001 => some (false, true, false)
  | 0x002 => some (true, true, false)
  | 0x003 => some (true, true, false)
  | 0x010 => some (false, true, true)
  | 0x011 => some (false, true, true)
  | 0x012 => some (false, true, true)
  | 0x013 => some (false, true, false)
  | 0x014 => some (true, true, false)
  | 0x015 => some (true, true, true)
  | 0x020 => some (false, true, false)
  | 0x021 => some (true, true, false)
  | 0x022 => some (false, true, false)
  | 0x023 => some (false, true, false)
  | 0x030 => some (false, false, false)
  | 0x031 => some (false, true, false)
  | 0x032 => some (true, false, false)
  | 0x033 => some (false, true, false)
  | 0x040 => some (true, true, false)
  | 0x041 => some (false, true, false)
  | _ => none

/-- The instruction that a word encodes, as `code op fn`; `none` for a reserved opcode or function and for a non-zero
unused register or field (R328-R335). -/
def cuffCode (w : Word) : Option Nat :=
  let op := opOf w
  let fn := fnOf w
  if op = 0x01 then
    if fn ≤ 0x10 then some (code 1 fn)
    else if fn ≤ 0x13 ∧ rbOf w = 0 then some (code 1 fn) else none
  else if 0x02 ≤ op ∧ op ≤ 0x07 then some (code op 0)
  else if 0x08 ≤ op ∧ op ≤ 0x0A then if fieldOf w 5 11 = 0 then some (code op 0) else none
  else if op = 0x0B then if raOf w = 0 then some (code op 0) else none
  else if (0x10 ≤ op ∧ op ≤ 0x14) ∨ (0x18 ≤ op ∧ op ≤ 0x1A) then some (code op 0)
  else if 0x20 ≤ op ∧ op ≤ 0x27 then some (code op 0)
  else if op = 0x28 then if rbOf w = 0 ∧ fn = 0 then some (code op 0) else none
  else if op = 0x30 ∨ op = 0x31 then some (code op 0)
  else if op = 0x38 then
    match unitUses fn with
    | some (d, a, b) =>
      if (d ∨ rdOf w = 0) ∧ (a ∨ raOf w = 0) ∧ (b ∨ rbOf w = 0) then some (code op fn) else none
    | none => none
  else if op = 0x3F then
    if fn ≤ 5 ∧ rdOf w = 0 ∧ raOf w = 0 ∧ rbOf w = 0 then some (code op fn) else none
  else none

/-! ## Issue -/

/-- The instruction word at the task's PC (R326). -/
def State.fetch (s : State) (t k : Nat) : Word := s.rd (Reg.cuffImem t (s.pc t k))

/-- The task can issue the instruction at its PC, or goes on with it while it waits in it. -/
def State.canIssue (s : State) (t k : Nat) : Bool := s.taskState t k == taskRunning || s.taskState t k == taskWaiting

/-- Issues the instruction at the task's PC when it is the one that `c` names: `f` is its effect. In any other state
the core does not issue that instruction and nothing changes. CUFF_STAT_INSTR counts an instruction once, and
CUFF_STAT_IDLE a cycle in which a waiting task tries its instruction again and none issues (R356). -/
def State.issue (s : State) (t k c : Nat) (f : Word → State → State) : State :=
  if s.canIssue t k && cuffCode (s.fetch t k) == some c then
    f (s.fetch t k) (s.count (if s.taskState t k = taskRunning then Reg.cuffStatInstr t else Reg.cuffStatIdle t) 1)
  else s

/-- The task goes on at word `p`; a target outside the store aborts it (R332). -/
def State.goto (s : State) (t k : Nat) (p : Int) : State :=
  if 0 ≤ p ∧ p < 4096 then (s.setPc t k p.toNat).setTaskState t k taskRunning 0 else s.illegal t k 0x03

/-- The instruction completes and the task goes on with the next; running past word 4,095 aborts it (R332). -/
def State.complete (s : State) (t k : Nat) : State := s.goto t k (s.pc t k + 1)

/-- The task waits in its instruction (R347). -/
def State.wait (s : State) (t k reason : Nat) : State := s.setTaskState t k taskWaiting reason

/-- The values of the registers that a form A or I word names. -/
def State.opA (s : State) (t k : Nat) (w : Word) : Word := s.creg t k (raOf w)
def State.opB (s : State) (t k : Nat) (w : Word) : Word := s.creg t k (rbOf w)

/-- RD := v, and the instruction completes. -/
def State.setRd (s : State) (t k : Nat) (w : Word) (v : Word) : State := (s.setCreg t k (rdOf w) v).complete t k

/-! ## Narrow accesses (R336) -/

/-- A store of task `k` waits to be granted. -/
def ownPosted (k : Nat) (r : NarrowReq) : Bool := match r.acc.src with | .task k' _ => k' == k | _ => false

/-- A task's earlier store has not been granted. -/
def State.storesWait (s : State) (t k : Nat) : Bool := (s.ports t).posted.any (ownPosted k)

/-- Grants the posted stores of a task in program order, as comes before its next load. -/
def State.drainStores (s : State) (t k : Nat) : State :=
  if !s.storesWait t k then s
  else
    let p := s.ports t
    let mine := p.posted.filter (ownPosted k)
    let s := s.setPorts t { p with posted := p.posted.filter (fun r => !ownPosted k r) }
    mine.foldl (fun s r =>
      if s.taskOver t k then s
      else
        let (s, c) := s.pocketWrite t r.acc.off (r.acc.wr.getD [])
        s.chargeAccess t r.acc.src c (s.failOff t c r.acc.off (wordsOf r.acc.off (r.acc.wr.getD []).length))) s

/-- The checks that come before a narrow access (R336): alignment, slot bound and the scoreboard wait; then `f` with
the physical offset. -/
def State.narrow (s : State) (t k : Nat) (w : Word) (len : Nat) (f : State → Nat → State) : State :=
  let o := (s.opA t k w + sext16 w).toNat
  if o % len ≠ 0 then s.illegal t k 0x02
  else match s.slotPhys t k o len with
    | none => s.cuffFault t k 0x10 0x09
    | some off =>
      if s.sbMode t && s.sbOverlap t off len [] then (s.sbWaitCycle t).wait t k 4
      else f s off

/-- A load of `len` bytes; `ext` extends the number read to a register value (R331). -/
def State.load (s : State) (t k : Nat) (w : Word) (len : Nat) (ext : Nat → Word) : State :=
  s.narrow t k w len (fun s off =>
    let s := s.drainStores t k
    if s.taskOver t k then s
    else match s.pocketRead t off len with
      | (s, .ok d) => s.setRd t k w (ext (leNat d))
      | (s, .error 0) => s.setRd t k w (ext (mreadNat s.pocket (pkey t off) len))
      | (s, .error c) => s.chargeAccess t (.task k (0x30 + k)) c (s.failOff t c off (wordsOf off len)))

/-- A store of the low `len` bytes of RB (here [25:21]), posted (R331). -/
def State.store (s : State) (t k : Nat) (w : Word) (len : Nat) : State :=
  s.narrow t k w len (fun s off =>
    let acc : PAccess := { src := .task k (0x30 + k), off := off, len := len,
                           wr := some ((leBytes len (s.creg t k (rdOf w)).toNat).map some) }
    let p := s.ports t
    (s.setPorts t { p with posted := p.posted ++ [{ acc := acc, waits := 0 }] }).complete t k)

/-! ## Conditions on a task's work -/

/-- A queue has a descriptor pending, running or cancelling, or a transfer outstanding (R343). -/
def State.queueBusy (s : State) (t q : Nat) : Bool :=
  let x := s.queue t q
  !x.fifo.isEmpty || x.run.isSome || s.qCancelling t q || x.cancelReq || !x.xfers.isEmpty || !x.writes.isEmpty
    || x.merge.isSome

/-- Condition 1 of R343: every suit of the task has ended and none of its queues is busy. -/
def State.workEnded (s : State) (t k : Nat) : Bool :=
  (List.range 4).all (fun i => !(s.suitLive t i && s.suitTask t i == k)) &&
    (List.range 16).all (fun q => !(s.qOwner t q == k && s.queueBusy t q))

/-- A task holds a Yoke piece. -/
def State.holdsPiece (s : State) (t k : Nat) : Bool :=
  s.insts.any (fun (_, x) => x.pieces.any (fun (_, p) => p.state == .held t k))

/-- The task slot that owns the tile's Shawl ring, when the tile is in one (R309, R312). -/
def State.shawlSlot (s : State) (t : Nat) : Option Nat :=
  if (List.range 8).all (fun i => s.rd (Reg.shawlTileW (t / 64) (t % 64) i) == 0) then none
  else some (s.fld (Reg.shawlTileW (t / 64) (t % 64) 1) 8 2)

def State.shawlActive (s : State) (t : Nat) : Bool := s.bit (Reg.shawlStatus (t / 64) (t % 64)) 31

/-- What TEND forbids (R349): a piece, a lock, or an ACTIVE Shawl revolution of the task's. -/
def State.tendForbidden (s : State) (t k : Nat) : Bool :=
  s.holdsPiece t k || s.fld (Reg.cuffTaskStatus t k) 12 8 != 0 || (s.shawlSlot t == some k && s.shawlActive t)

/-- An enabled interrupt is pending (R345). -/
def State.intReady (s : State) (t k : Nat) : Bool := (s.rd (Reg.cuffIntPend t k) &&& s.rd (Reg.cuffIntEn t k)) != 0

/-- The tile has work, so its clock branch runs (R492). -/
def State.wakeTile (s : State) (t : Nat) : State := s.setTile t { s.tile t with clockStopped := false }

/-- START of CUFF_TASK_CTRL (R348, R527). -/
def State.startTask (s : State) (t k : Nat) : State :=
  let st := s.taskState t k
  let slotOk := match s.partOf t with
    | some q => k < (s.slot q).taskSlots
    | none => true
  if (st == taskFree || st == taskEnded || st == taskCancelled) && s.bit (Reg.cuffTaskEntry t k) 31 && slotOk then
    let s := (List.range 32).foldl (fun s i => s.setCreg t k i 0) s
    let s := s.setCreg t k 1 (s.rd (Reg.cuffTaskArg t k))
    let s := (s.wr (Reg.cuffIntPend t k) 0).setBit (Reg.cuffTaskStatus t k) 24 false
    let s := (s.setPc t k (s.fld (Reg.cuffTaskEntry t k) 0 12)).setTask t k Task.init
    (s.setTaskState t k taskRunning 0).wakeTile t
  else s.setBit (Reg.cuffTaskStatus t k) 23 true

end Sys2Proof.Machine
end

