-- ==== Sys2Proof/Machine/MeshOps.lean ====
section
/-! DEFINITION. Shared operations of spec 12: refused register writes (R54), windows and the checks of inbound accesses
(R363-R370), locks (R376-R381) and arbiters (R383-R387). -/

namespace Sys2Proof.Machine

/-! ## Refused writes (R54) -/

/-- A write that fails its precondition: a task receives the code and aborts; for firmware and the host a record is
written and nothing stops. `ctx` gives the record's ADDR and context fields. -/
def State.refuseWrite (s : State) (u : Requester) (tile : Option Nat) (unit code sub : Nat) (ctx : Nat × Nat × Nat) : State :=
  match u with
  | .task t k => s.chargeTask t.val k.val unit code sub id (fun _ => ctx)
  | _ => s.recordOnly code unit sub tile (tile.bind s.partOf) ctx.1 ctx.2.1 ctx.2.2

/-! ## Windows -/

def winClosed : Nat := 0
def winOpen : Nat := 1
def winClosing : Nat := 2

def State.winState (s : State) (t w : Nat) : Nat := s.fld (Reg.winStatus t w) 30 2
def State.winEpoch (s : State) (t w : Nat) : Nat := s.fld (Reg.winStatus t w) 0 16
def State.winMode (s : State) (t w : Nat) : Nat := s.fld (Reg.winCfg t w) 8 2
def State.winMask (s : State) (t w : Nat) : Nat := s.fld (Reg.winCfg t w) 0 8
def State.winLo (s : State) (t w : Nat) : Nat := (s.rd (Reg.winBase t w)).toNat
def State.winHi (s : State) (t w : Nat) : Nat := (s.rd (Reg.winBound t w)).toNat

/-- The context a record of unit 7 about a window holds (R550). -/
def State.winCtx (s : State) (t : Nat) : Nat × Nat × Nat :=
  ((s.rd (Reg.winErrAddr t)).toNat, (s.rd (Reg.winErrInfo t)).toNat, (s.rd (Reg.winErrSrc t)).toNat)

/-- The opening conditions of R364. -/
def State.winMayOpen (s : State) (t w : Nat) : Bool :=
  s.winLo t w < s.winHi t w && s.winHi t w ≤ pocketBytes && s.winMode t w != 0 && s.winMask t w != 0

/-- A write of OPEN (R364). -/
def State.openWindow (s : State) (u : Requester) (t w : Nat) : State :=
  if s.winState t w = winClosed then
    if s.winMayOpen t w then s.setFld (Reg.winStatus t w) 30 2 winOpen
    else s.refuseWrite u (some t) 7 0x04 0 (s.winCtx t)
  else s

/-- A write of CLOSE (R364): the epoch moves on at once, and the window is CLOSING until what it admitted has landed. -/
def State.closeWindow (s : State) (t w : Nat) : State :=
  if s.winState t w = winOpen then
    let s := s.setFld (Reg.winStatus t w) 0 16 (s.winEpoch t w + 1)
    s.setFld (Reg.winStatus t w) 30 2 (if s.fld (Reg.winStatus t w) 16 8 = 0 then winClosed else winClosing)
  else s

/-! ## Inbound accesses -/

/-- The type code and size of the elements an ACCUMULATE carries, and its destination type (R249). -/
def accSrcTy (acc : Nat) : Nat := bitsOf acc 28 4
def accDstTy (acc : Nat) : Nat := bitsOf acc 24 4

/-- The bytes of the destination Pocket that a request covers: offset and length of each plane (R258). -/
def reqRanges (p : Packet) : List (Nat × Nat) :=
  if p.kind = 3 then
    let n := p.data.length / tySize (accSrcTy p.aux)
    (p.off, 2 * n) :: (if accDstTy p.aux = tyI32Pair then [(p.addrLo % pocketBytes, 2 * n)] else [])
  else [(p.off, p.len)]

/-- Every byte of the request lies in the window. -/
def State.winCovers (s : State) (t w : Nat) (p : Packet) : Bool :=
  (reqRanges p).all (fun (o, n) => s.winLo t w ≤ o && o + n ≤ s.winHi t w)

/-- The lowest-numbered window that can admit an opening access (R367). -/
def State.winFor (s : State) (t : Nat) (p : Packet) : Option Nat :=
  (List.range 16).find? (fun w =>
    s.winState t w == winOpen && s.winMode t w == p.kind && (s.winMask t w).testBit p.part &&
      s.winLo t w ≤ p.off && p.off < s.winHi t w)

/-- The window's answer to a request (R367, R368): the window and the code that refuses it, or the window alone. -/
def State.winCheck (s : State) (t : Nat) (p : Packet) : Nat × Option Nat :=
  if p.tagged then
    let w := p.win
    if p.epoch ≠ s.winEpoch t w then (w, some 0x0F)
    else if s.winMode t w ≠ p.kind ∨ (s.winMask t w).testBit p.part = false then (w, some 0x04)
    else if s.winCovers t w p then (w, none) else (w, some 0x10)
  else match s.winFor t p with
    | none => (0, some 0x04)
    | some w => if s.winCovers t w p then (w, none) else (w, some 0x10)

/-- The check of a request at tile `t`: refused (R369), or admitted under the window's epoch and counted (R370); the
refusals of R79 and R88 come after admission. -/
def State.checkInbound (s : State) (t : Nat) (p : Packet) : State :=
  match s.winCheck t p with
  | (w, some code) => s.refuseRemote t p w code
  | (w, none) =>
    match (reqRanges p).findSome? (fun (o, n) => s.pocketRefusal t o n) with
    | some code => s.refuseRemote t p w code
    | none =>
      let p := { p with win := w, epoch := s.winEpoch t w }
      let s := s.count (Reg.winStatAdmitted t) 1
      let s := s.setFld (Reg.winStatus t w) 16 8 (s.fld (Reg.winStatus t w) 16 8 + 1)
      s.setTile t { s.tile t with inbound := (s.tile t).inbound ++ [(p, w)] }

/-- The oldest request on the mesh for the Pocket of tile `t`, and the rest. -/
def takeFor (t : Nat) : List Packet → Option (Packet × List Packet)
  | [] => none
  | p :: ps =>
    if gaSpace p.addr = 0 ∧ p.dstTile = t then some (p, ps)
    else (takeFor t ps).map (fun (x, r) => (x, p :: r))

/-- A request reaches tile `t` through the mesh: its flits are corrected and counted, or dropped with its originator
charged (R357); otherwise it is checked. -/
def State.arriveAt (s : State) (t : Nat) (p : Packet) (e : FlitErr) : State :=
  match e with
  | .none => s.checkInbound t p
  | .corrected => (s.count Reg.meshStatCe 1).checkInbound t p
  | .uncorrectable => s.answer p 0x13 0x02 []

/-! ## Locks -/

/-- Latches LOCK_ERR_INFO of the lock's panel while VALID is 0 (R381). -/
def State.latchLockErr (s : State) (l tile slot sub : Nat) : State :=
  if s.bit (Reg.lockErrInfo (l / 32)) 31 then s
  else s.wr (Reg.lockErrInfo (l / 32)) (BitVec.ofNat 32 (0x80000000 + slot * 0x1000000 + 0x120000 + sub * 0x100 + tile))

/-- A refused lock operation (R381): a task aborts; a Collar core's operation writes a record only. -/
def State.refuseLock (s : State) (l : Nat) (u : LockUser) (sub : Nat) : State :=
  match u with
  | .task t k => s.chargeTask t k 7 0x12 sub (fun s => s.latchLockErr l t k sub)
      (fun s => (0, (s.rd (Reg.lockErrInfo (l / 32))).toNat, 0))
  | .collar _ =>
    let s := s.latchLockErr l 0 0 sub
    s.recordOnly 0x12 7 sub none none 0 (s.rd (Reg.lockErrInfo (l / 32))).toNat 0

/-- The partition of a lock user; 0 for a Collar core. -/
def State.userPart (s : State) : LockUser → Nat
  | .task t _ => (s.partOf t).getD 0
  | .collar _ => 0

/-- Gives lock `l` to `u` (R377): the state after, and the status 1 when it was ORPHANED. -/
def State.takeLock (s : State) (l : Nat) (u : LockUser) : State × Nat :=
  let orphan := s.lockStateOf l == lockOrphaned
  let r := lockReg l
  let s := ((s.setFld r 30 2 lockHeld).setFld r 28 2 0).setFld r 17 3 (s.userPart u)
  let s := (s.setBit r 16 (lockIsCollar u)).setFld r 0 10 (lockOwner u)
  let s := s.count (Reg.lockStatAcq (l / 32)) 1
  let s := match u with
    | .task t k => s.setLocks t k (s.fld (Reg.cuffTaskStatus t k) 12 8 + 1)
    | .collar _ => s
  if orphan then
    let s := s.count (Reg.lockStatOrphan (l / 32)) 1
    let info := (s.rd (Reg.lockErrInfo (l / 32))).toNat
    (match u with
      | .task t k => s.warnTask t k 0x0C 2 7 0 true 0 info 0
      | .collar _ => s.recordOnly 0x0C 7 0 none none 0 info 0 0, 1)
  else (s, 0)

/-- Whether `u` may use lock `l` (R376). -/
def State.lockUsable (s : State) (l : Nat) (u : LockUser) : Bool :=
  match u with
  | .task t _ =>
    let cfg := Reg.lockCfg (l / 32) (l % 32)
    s.bit cfg 31 && s.partOf t == some (s.fld cfg 0 3)
  | .collar _ => true

/-- LKACQ (R377, R381): refused; granted with its status; or left waiting in the lock's queue. -/
def State.acquire (s : State) (l : Nat) (u : LockUser) (refused granted : State → Nat → State) (waits : State → State) :
    State :=
  if !s.lockUsable l u then refused s 1
  else if s.lockStateOf l == lockHeld && s.lockOwnedBy l u then refused s 2
  else if (s.lockStateOf l == lockHeld) || !(s.waiters l).isEmpty then
    waits (if (s.waiters l).contains u then s else s.setWaiters l (s.waiters l ++ [u]))
  else let (s, st) := s.takeLock l u; granted s st

/-- LKREL (R379, R381). -/
def State.releaseLock (s : State) (l : Nat) (u : LockUser) : State :=
  if !s.lockUsable l u then s.refuseLock l u 1
  else if s.lockOwnedBy l u && s.lockStateOf l == lockHeld then
    let s := s.setFld (lockReg l) 30 2 lockFree
    match u with
    | .task t k => s.setLocks t k (s.fld (Reg.cuffTaskStatus t k) 12 8 - 1)
    | .collar _ => s
  else if s.lockOwnedBy l u && s.lockStateOf l == lockOrphaned then s
  else s.refuseLock l u 3

/-! ## Arbiters -/

/-- The key of an arbiter. -/
def siteKey : ArbSite → Nat
  | .port t p => 3 * t.val + p.val
  | .router t out => 0x1000 + 5 * t.val + out.val
  | .stitch e x => 0x2000 + 8 * e.val + x.val
  | .hbm c => 0x3000 + c.val

/-- The place of a requester in an arbiter's order (R385). -/
def arbOrder : ArbSite → ArbReq → Nat
  | .port _ _, r => (r.module * 0x100 + r.tile) * 0x100 + r.req
  | .router _ _, r => r.input
  | .stitch _ _, r => r.input
  | .hbm _, r => if r.req < 0x40 then r.tile * 0x100 + r.req else 0x10000 + r.req

/-- The class of a local requester from its tile's registers (R384). -/
def State.localClass (s : State) (t req : Nat) : Nat :=
  if req < 7 then s.fld (Reg.arbClassWp0 t) (2 * req) 2
  else if 0x10 ≤ req ∧ req < 0x20 then s.fld (Reg.arbClassQueue t) (2 * (req - 0x10)) 2
  else if req = 0x20 then s.fld (Reg.arbClassMisc t) 0 2
  else if 0x30 ≤ req ∧ req < 0x34 then s.fld (Reg.arbClassMisc t) (2 * (req - 0x30) + 2) 2
  else if req = 0x34 then s.fld (Reg.arbClassMisc t) 10 2
  else 0

/-- The class of an edge unit's requests from the MESH_CLASS registers; the loader's is 0 (R384, R396). -/
def State.edgeClass (s : State) (req : Nat) : Nat :=
  if 0x40 ≤ req ∧ req < 0x48 then s.fld Reg.meshClassSrc (2 * (req - 0x40)) 2
  else if 0x48 ≤ req ∧ req < 0x50 then s.fld Reg.meshClassCopy (2 * (req - 0x48)) 2
  else if req = 0x50 then s.fld Reg.meshClassSrc 16 2
  else if req = 0x51 then s.fld Reg.meshClassSrc 18 2
  else if 0x60 ≤ req ∧ req < 0x70 then s.fld Reg.meshClassFabric (2 * (req - 0x60)) 2
  else 0

/-- The class with which a request is decided: the carried one, or a local requester's. -/
def State.arbClass (s : State) (site : ArbSite) (r : ArbReq) : Nat :=
  match r.cls, site with
  | some c, _ => c % 4
  | none, .port t _ => s.localClass t.val r.req
  | none, _ => s.edgeClass r.req

/-- The threshold of an arbiter in rounds; 0 disables (R387). -/
def State.arbThreshold (s : State) : ArbSite → Nat
  | .port t p => if p = 0 then s.fld (Reg.arbThreshWp t.val) 0 16 else if p = 1 then s.fld (Reg.arbThreshWp t.val) 16 16
      else s.fld (Reg.arbThreshNp t.val) 0 16
  | .router _ _ => s.fld Reg.meshThreshRouter 0 16
  | .stitch _ _ => s.fld Reg.meshThreshStitch 0 16
  | .hbm _ => s.fld Reg.meshThreshHbm 0 16

def State.arb (s : State) (site : ArbSite) : Arb := tget s.arbs Arb.init (siteKey site)
def State.setArb (s : State) (site : ArbSite) (a : Arb) : State := { s with arbs := tset s.arbs (siteKey site) a }

/-- The order number granted in a round (R385): the highest class raised, and in it the first requester after the last
one granted in the class. -/
def State.arbWinner (s : State) (site : ArbSite) (reqs : List ArbReq) : Option (Nat × Nat) :=
  match reqs with
  | [] => none
  | _ =>
    let cls := reqs.foldl (fun c r => max c (s.arbClass site r)) 0
    let os := (reqs.filter (fun r => s.arbClass site r == cls)).map (arbOrder site)
    let least (l : List Nat) : Option Nat := l.foldl (fun m o => some (match m with | some x => min x o | none => o)) none
    let next := match tfind (s.arb site).last cls with
      | some o => (least (os.filter (o < ·))).or (least os)
      | none => least os
    next.map (fun o => (cls, o))

/-- STARVATION for requester `r` of an arbiter (R387); `ms` is the millisecond of the always-on clock. -/
def State.starve (s : State) (site : ArbSite) (r : ArbReq) (ms : Nat) : State :=
  match site with
  | .port t p =>
    let s := s.count (Reg.arbStarveCount t) 1
    let s := if s.bit (Reg.arbStarveInfo t) 31 then s
      else s.wr (Reg.arbStarveInfo t)
        (BitVec.ofNat 32 (0x80000000 + p.val * 0x20000000 + r.module * 0x40000 + r.req * 0x100 + r.tile))
    let k := s.fld (Reg.cuffIntRoute t) 0 2
    let s := s.setBit (Reg.cuffIntPend t k) 0 true
    let info := (s.rd (Reg.arbStarveInfo t)).toNat
    let key := 0x1900 + p.val
    let first := s.firstInStep t key
    let s := match s.partOf t with
      | some q => if first || (s.slot q).promote.testBit 5 then s.warnJob q 0x19 5 7 0 (some t.val) none 0 info 0 else s
      | none => if first then s.recordOnly 0x19 7 0 (some t.val) none 0 info 0 0 else s
    s.markStep t key
  | _ =>
    let loc : Nat × Nat := match site with
      | .router t out => (0, out.val * 0x100 + t.val)
      | .stitch e x => (1, e.val * 0x100 + x.val)
      | .hbm c => (2, c.val)
      | .port _ _ => (0, 0)
    let s := s.count Reg.meshStarveCount 1
    let s := if s.bit Reg.meshStarveInfo 31 then s
      else (s.wr Reg.meshStarveInfo (BitVec.ofNat 32
        (0x80000000 + loc.1 * 0x10000000 + r.module * 0x10000 + r.req * 0x100 + r.tile))).wr
        Reg.meshStarveLoc (BitVec.ofNat 32 loc.2)
    let a := s.arb site
    if a.recorded == some ms then s
    else
      let s := s.recordOnly 0x19 7 0 none none 0 (s.rd Reg.meshStarveInfo).toNat (s.rd Reg.meshStarveLoc).toNat 0
      s.setArb site { a with recorded := some ms }

/-- One arbitration round (R385-R387). -/
def State.arbRound (s : State) (site : ArbSite) (reqs : List ArbReq) (ms : Nat) : State :=
  match s.arbWinner site reqs with
  | none => s.setArb site { s.arb site with waits := [], raised := [] }
  | some (cls, o) =>
    let a := s.arb site
    let losers := reqs.filter (fun r => arbOrder site r != o)
    let waits := losers.foldl (fun (m : List (Nat × Nat)) r =>
      tset m (arbOrder site r) (tget a.waits 0 (arbOrder site r) + 1)) []
    let raised := a.raised.filter (fun x => losers.any (fun r => arbOrder site r == x))
    let th := s.arbThreshold site
    let flagged := losers.filter (fun r =>
      th != 0 && th ≤ tget waits 0 (arbOrder site r) && !raised.contains (arbOrder site r))
    let s := s.setArb site { a with last := tset a.last cls o, waits := waits,
                                    raised := raised ++ flagged.map (arbOrder site) }
    flagged.foldl (fun s r => s.starve site r ms) s

end Sys2Proof.Machine
end

