-- ==== Sys2Proof/Machine/PlacketOps.lean ====
section
/-! DEFINITION. The Placket unit's shared operations (spec 08): descriptors and their checks, streams and transfers,
rings, merge buffers and writes, grants, accumulation, cancellation and faults. -/

namespace Sys2Proof.Machine

/-! ## Descriptors (R249, R250, R260) -/

def Desc.num (d : Desc) (off n : Nat) : Nat := leNat ((d.bytes.drop off).take n)
def Desc.ctrl (d : Desc) : Nat := d.num 0 4
def Desc.agp (d : Desc) : Bool := bitsOf d.ctrl 30 2 == 1
/-- 0 OVERWRITE, 1 ACCUMULATE, 2 LAST. -/
def Desc.wmode (d : Desc) : Nat := bitsOf d.ctrl 28 2
def Desc.accum (d : Desc) : Bool := d.wmode == 1
def Desc.dims (d : Desc) : Nat := bitsOf d.ctrl 25 3
def Desc.esize (d : Desc) : Nat := 2 ^ bitsOf d.ctrl 23 2
def Desc.srcLocal (d : Desc) : Bool := d.ctrl.testBit 22
def Desc.dstLocal (d : Desc) : Bool := d.ctrl.testBit 21
def Desc.fence (d : Desc) : Bool := d.ctrl.testBit 20
def Desc.acc (d : Desc) : Nat := d.num 4 4
def Desc.src (d : Desc) : Nat := d.num 0x08 8
def Desc.dst (d : Desc) : Nat := d.num 0x10 8
def Desc.dstLo (d : Desc) : Nat := d.num 0x18 8
def Desc.cnt (d : Desc) (i : Nat) : Nat := d.num (0x20 + 4 * i) 4
def Desc.sstride (d : Desc) (i : Nat) : Int := signedOf (d.num (0x34 + 4 * i) 4) 32
def Desc.dstride (d : Desc) (i : Nat) : Int := signedOf (d.num (0x48 + 4 * i) 4) 32
def Desc.progStart (d : Desc) : Nat := d.num 0x20 2
def Desc.progLen (d : Desc) : Nat := d.num 0x22 2
def Desc.init (d : Desc) (i : Nat) : Nat := d.num (0x24 + 4 * i) 4
def Desc.base (d : Desc) (i : Nat) : Nat := d.num (0x60 + 8 * i) 8
/-- Destination element size (R250, R251). -/
def Desc.dsize (d : Desc) : Nat := if d.accum then 2 else d.esize
/-- The destination is a plane pair. -/
def Desc.pair (d : Desc) : Bool := d.accum && accDstTy d.acc == tyI32Pair
/-- Elements of an affine stream. -/
def Desc.total (d : Desc) : Nat := (List.range 5).foldl (fun n i => n * d.cnt i) 1

/-! ## Queue geometry -/

/-- The source (destination) of queue `q`'s descriptors is its ring. -/
def State.srcRing (s : State) (t q : Nat) : Bool := s.qMode t q == 2
def State.dstRing (s : State) (t q : Nat) : Bool := s.qMode t q == 1
/-- The source (destination) is a global data address. -/
def State.srcGlob (s : State) (t q : Nat) (d : Desc) : Bool := !s.srcRing t q && !d.srcLocal
def State.dstGlob (s : State) (t q : Nat) (d : Desc) : Bool := !s.dstRing t q && !d.dstLocal
/-- The slot-relative offset of stream byte `b` of a descriptor whose first slot is `first` (R241, R251). -/
def State.ringOff (s : State) (t q first b : Nat) : Nat :=
  let n := s.qSlotBytes t q
  (s.rd (Reg.placketQBase t q)).toNat + (first + b / n) % s.qSlots t q * n + b % n
/-- The outstanding limit: 0 counts as 1, above 64 as 64 (R246). -/
def State.qLimit (s : State) (t q : Nat) : Nat := max 1 (min 64 (s.fld (Reg.placketQLimit t q) 0 7))

def State.setHead (s : State) (t q v : Nat) : State := s.setFld (Reg.placketQStatus t q) 20 4 v
def State.setTail (s : State) (t q v : Nat) : State := s.setFld (Reg.placketQStatus t q) 16 4 v
def State.setFilled (s : State) (t q v : Nat) : State := s.setFld (Reg.placketQStatus t q) 24 5 v

/-! ## Faults (R266) -/

/-- A Placket fault charged to task slot `k`: subcode, code and the value of PLACKET_ERR_POS. -/
def State.placketFault (s : State) (t q k code sub pos : Nat) : State :=
  s.chargeTask t k 2 code sub
    (fun s => if s.bit (Reg.placketErrInfo t) 31 then s
      else (s.wr (Reg.placketErrInfo t) (BitVec.ofNat 32
        (0x80000000 + q * 0x1000000 + code * 0x10000 + sub * 0x100 + k))).wr (Reg.placketErrPos t) (BitVec.ofNat 32 pos))
    (fun s => (0, (s.rd (Reg.placketErrInfo t)).toNat, (s.rd (Reg.placketErrPos t)).toNat))

/-- A fault charged to the queue's owner. -/
def State.queueFault (s : State) (t q code sub pos : Nat) : State := s.placketFault t q (s.qOwner t q) code sub pos

/-! ## Issue-time checks (R249-R254, R257, R259, R266) -/

/-- The alias check of R252: dimensions with more than one index, ordered by |stride| then number, must each step over
the reach of those before. -/
def aliasPass (dims : List (Nat × Int)) : Bool :=
  let ds := dims.filter (fun p => 1 < p.1)
  let sorted := ds.foldl (fun (l : List (Nat × Int)) x =>
    l.filter (fun y => y.2.natAbs ≤ x.2.natAbs) ++ [x] ++ l.filter (fun y => x.2.natAbs < y.2.natAbs)) []
  ds.all (fun p => p.2 != 0) &&
    (sorted.foldl (fun (st : Bool × Nat) p =>
      if p.2.natAbs ≤ st.2 then (false, st.2) else (st.1, st.2 + (p.1 - 1) * p.2.natAbs)) (true, 0)).1

/-- Lowest and highest element offsets of an affine end. -/
def spanOf (dims : List (Nat × Int)) : Int × Int :=
  dims.foldl (fun (a : Int × Int) p =>
    let x := ((p.1 : Int) - 1) * p.2
    (a.1 + min 0 x, a.2 + max 0 x)) (0, 0)

def Desc.sdims (d : Desc) : List (Nat × Int) := (List.range 5).map (fun i => (d.cnt i, d.sstride i))
def Desc.ddims (d : Desc) : List (Nat × Int) := (List.range 5).map (fun i => (d.cnt i, d.dstride i))

/-- A memory and a range in it: (space, module, tile), low and end (R253). -/
structure Foot where
  space : Nat
  module : Nat
  tile : Nat
  lo : Int
  hi : Int
deriving DecidableEq, Repr

def Foot.meets (a b : Foot) : Bool :=
  a.space == b.space && a.module == b.module && a.tile == b.tile && a.lo < b.hi && b.lo < a.hi

/-- The footprint of an end: at slot-relative offset or global address `a`, over element offsets `sp` of `size` bytes. -/
def State.footOf (s : State) (t k : Nat) (glob : Bool) (a size : Nat) (sp : Int × Int) : Foot :=
  let lo : Int := size * sp.1
  let hi : Int := size * sp.2 + size
  if glob then
    let (m, tl, o) : Nat × Nat × Nat := match gaSpace a with
      | 0 => (gaModule a, gaTile a, gaPocketOff a)
      | 1 => (gaModule a, 0, gaHbmOff a)
      | _ => (0, 0, gaHostAddr a)
    { space := gaSpace a, module := m, tile := tl, lo := o + lo, hi := o + hi }
  else
    let o : Nat := (s.rd (Reg.pocketSlotBase t k)).toNat + a
    { space := 0, module := s.moduleId, tile := t, lo := o + lo, hi := o + hi }

/-- The footprint of the queue's ring. -/
def State.ringFoot (s : State) (t q : Nat) : Foot :=
  let o : Nat := (s.rd (Reg.pocketSlotBase t (s.qOwner t q))).toNat + (s.rd (Reg.placketQBase t q)).toNat
  { space := 0, module := s.moduleId, tile := t, lo := o, hi := o + s.qSlots t q * s.qSlotBytes t q }

def State.srcFoot (s : State) (t q : Nat) (d : Desc) : Foot :=
  if s.srcRing t q then s.ringFoot t q
  else s.footOf t (s.qOwner t q) (s.srcGlob t q d) d.src d.esize (spanOf d.sdims)

def State.dstFeet (s : State) (t q : Nat) (d : Desc) : List Foot :=
  if s.dstRing t q then [s.ringFoot t q]
  else
    let f (a : Nat) : Foot := s.footOf t (s.qOwner t q) (s.dstGlob t q d) a d.dsize (spanOf d.ddims)
    f d.dst :: (if d.pair then [f d.dstLo] else [])

/-- The affine end stays in the memory of its base (R251). -/
def State.inMemory (s : State) (t k : Nat) (glob : Bool) (a size : Nat) (dims : List (Nat × Int)) : Bool :=
  let f := s.footOf t k glob a size (spanOf dims)
  let top : Int := if glob then (match gaSpace a with
    | 0 => (pocketBytes : Int)
    | 1 => (hbmBytes : Int)
    | _ => (0x4000000000000000 : Int)) else (s.rd (Reg.pocketSlotBase t k)).toNat + (pocketBytes : Int)
  let bot : Int := if glob then 0 else (s.rd (Reg.pocketSlotBase t k)).toNat
  bot ≤ f.lo && f.hi ≤ top

/-- An in-place copy (R253). -/
def State.inPlace (s : State) (t q : Nat) (d : Desc) : Bool :=
  !d.agp && d.wmode == 0 && s.qMode t q == 0 && d.src == d.dst && d.srcLocal == d.dstLocal &&
    d.cnt 0 == d.cnt 1 && 2 ≤ d.cnt 0 && d.cnt 0 ≤ 64 && d.cnt 2 == 1 && d.cnt 3 == 1 && d.cnt 4 == 1 &&
    ((d.dstride 0 == d.sstride 0 && d.dstride 1 == d.sstride 1) ||
      (d.dstride 0 == d.sstride 1 && d.dstride 1 == d.sstride 0)) && aliasPass d.ddims

/-- DESC_FIELD: a reserved value, a field that R249-R251 or R260 bind, an address outside the form of R408. -/
def State.descFieldBad (s : State) (t q : Nat) (d : Desc) : Bool :=
  let k := s.qOwner t q
  let zeros (off n : Nat) : Bool := d.num off n == 0
  let common :=
    2 ≤ bitsOf d.ctrl 30 2 || d.wmode == 3 || bitsOf d.ctrl 0 20 != 0 ||
    (if d.accum then bitsOf d.acc 0 11 != 0 else d.acc != 0) ||
    (!d.pair && d.dstLo != 0) ||
    (s.srcRing t q && d.src != 0) || (s.dstRing t q && (d.dst != 0 || d.dstLo != 0)) ||
    (s.qMode t q != 0 && d.wmode != 0 && !(s.dstRing t q && d.accum)) ||
    (s.srcGlob t q d && !gaValid d.src) || (s.dstGlob t q d && (!gaValid d.dst || (d.pair && !gaValid d.dstLo)))
  if common then true
  else if d.agp then d.dims != 0 || d.init 0 != 0 || !zeros 0x44 28
  else
    d.dims == 0 || 5 < d.dims || !zeros 0x5C 36 ||
    (List.range 5).any (fun i => d.dims ≤ i && (d.cnt i != 1 || d.sstride i != 0 || d.dstride i != 0)) ||
    0xFFFFFFFF < d.total ||
    (s.srcRing t q && (List.range 5).any (fun i => d.sstride i != 0)) ||
    (s.dstRing t q && (List.range 5).any (fun i => d.dstride i != 0)) ||
    (d.total != 0 && !s.srcRing t q && !s.inMemory t k (s.srcGlob t q d) d.src d.esize d.sdims) ||
    (d.total != 0 && !s.dstRing t q && (!s.inMemory t k (s.dstGlob t q d) d.dst d.dsize d.ddims ||
      (d.pair && !s.inMemory t k (s.dstGlob t q d) d.dstLo d.dsize d.ddims)))

/-- The recipe words of partition `q` as tile `t`'s panel holds them (R216). -/
def State.recipeW0 (s : State) (t q r : Nat) : Nat := (s.rd (Reg.recipeW0 (t / 64) q r)).toNat
def State.recipeW1 (s : State) (t q r : Nat) : Nat := (s.rd (Reg.recipeW1 (t / 64) q r)).toNat

/-- FIXED_EXP of recipe `r` of the tile's partition (R215). -/
def State.fixedExp (s : State) (t r : Nat) : Int :=
  match s.partOf t with
  | some q => signedOf (bitsOf (s.recipeW1 t q r) 24 8) 8
  | none => 0

/-- ACC_TYPE: the types, element size or recipe of an ACCUMULATE break R257. -/
def State.accTypeBad (s : State) (t : Nat) (d : Desc) : Bool :=
  let st := accSrcTy d.acc
  let dt := accDstTy d.acc
  let r := bitsOf d.acc 11 5
  let recipeOk := match s.partOf t with
    | some q => (s.recipeW0 t q r).testBit 0 && !(s.recipeW1 t q r).testBit 2
    | none => false
  6 < st || tySize st != d.esize || (dt != tyI32Pair && dt != tyFP16 && dt != tyBF16) || !recipeOk

/-- The first issue-time check a descriptor fails, in ascending subcode: subcode and code (R266). `by` is the slot of
the task that issues it. -/
def State.descCheck (s : State) (t q byk : Nat) (d : Desc) : Option (Nat × Nat) :=
  let aligned (a n : Nat) : Bool := a % n == 0
  if s.descFieldBad t q d then some (0x01, 0x12)
  else if !aligned d.src d.esize || !aligned d.dst d.dsize || !aligned d.dstLo 2 ||
      (d.agp && (List.range 4).any (fun i => !aligned (d.base i) 2)) then some (0x02, 0x12)
  else if byk ≠ s.qOwner t q then some (0x03, 0x12)
  else if d.accum && (s.dstRing t q || (s.dstGlob t q d && gaSpace d.dst != 0)) then some (0x04, 0x12)
  else if !d.agp && d.wmode == 0 && !s.dstRing t q && !aliasPass d.ddims then some (0x05, 0x05)
  else if !d.agp && d.total != 0 && (s.dstFeet t q d).any (s.srcFoot t q d).meets && !s.inPlace t q d then some (0x06, 0x06)
  else if d.accum && s.accTypeBad t d then some (0x07, 0x07)
  else if d.agp && (d.progLen == 0 || 64 < d.progLen || 512 < d.progStart + d.progLen) then some (0x08, 0x12)
  else none

/-! ## Streams -/

/-- Element `p` of an affine stream (R251). -/
def State.affineMove (s : State) (t q : Nat) (r : Run) (p : Nat) : Move :=
  let d := r.desc
  let step (f : Nat → Int) : Int :=
    ((List.range 5).foldl (fun (st : Int × Nat) i =>
      (st.1 + ((st.2 % d.cnt i : Nat) : Int) * f i, st.2 / d.cnt i)) (0, p)).1
  let at' (a : Nat) (size : Nat) (f : Nat → Int) : Nat := ((a : Int) + size * step f).toNat
  { src := if s.srcRing t q then s.ringOff t q r.first (p * d.esize) else at' d.src d.esize d.sstride,
    dst := if s.dstRing t q then s.ringOff t q r.first (p * d.esize) else at' d.dst d.dsize d.dstride,
    dstLo := if d.pair then at' d.dstLo 2 d.dstride else 0 }

/-- The next moves of a running descriptor, at most 128. -/
def State.nextMoves (s : State) (t q : Nat) (r : Run) : List Move :=
  if r.desc.agp then r.emitted.take 128
  else (List.range (min 128 (r.desc.total - r.pos))).map (fun i => s.affineMove t q r (r.pos + i))

/-- The longest run of moves that one transfer carries: one aligned 128 B block at either end, at most 128 B (R239). -/
def transferPrefix (esize dsize : Nat) (ms : List Move) : List Move :=
  match ms with
  | [] => []
  | m :: _ =>
    (ms.takeWhile (fun x => x.src / 128 == m.src / 128 && x.dst / 128 == m.dst / 128 && x.dstLo / 128 == m.dstLo / 128)).take
      (max 1 (128 / max esize dsize))

/-- Whether the bytes of one end may be reached: the slot bound (R75), the partition's HBM regions (R238), its host
range (R467); a remote Pocket or HBM decides for itself. -/
def State.endAdmits (s : State) (t q : Nat) (glob : Bool) (a n : Nat) : Bool :=
  if !glob then (s.slotPhys t (s.qOwner t q) a n).isSome
  else if !gaValid a then false
  else match gaSpace a, s.partOf t with
    | 0, _ => true
    | 1, some p => gaModule a != s.moduleId || s.hbmAdmits p (gaHbmOff a) n
    | 2, some p => s.rd64 (Reg.hostDmaBase p) ≤ gaHostAddr a && gaHostAddr a + n ≤ s.rd64 (Reg.hostDmaLimit p)
    | _, _ => false

/-- An end that is reached by a packet: the Pocket of a tile, or the HBM of another module. -/
def State.isRemote (s : State) (glob : Bool) (a : Nat) : Bool :=
  glob && (gaSpace a == 0 || (gaSpace a == 1 && gaModule a != s.moduleId))

/-! ## Requests and grants (R366) -/

/-- The grant entry for a target and kind, which becomes the most recently used. -/
def Queue.grantFor (x : Queue) (m tile kind : Nat) : Option QGrant × Queue :=
  match x.grants.find? (fun g => g.module == m && g.tile == tile && g.kind == kind) with
  | some g => (some g, { x with grants := g :: x.grants.filter (· != g) })
  | none => (none, x)

/-- An admitted opening access fills an entry; the least recently used of four is replaced. -/
def Queue.fillGrant (x : Queue) (m tile kind win epoch : Nat) : Queue :=
  let x := { x with opening := x.opening.filter (· != (m, tile, kind)) }
  { x with grants := ({ module := m, tile := tile, kind := kind, win := win, epoch := epoch } :: x.grants).take 4 }

/-- The table is cleared; an opening access still unanswered fills nothing (R366). -/
def Queue.clearGrants (x : Queue) : Queue :=
  { x with grants := [], opening := [], xfers := x.xfers.map (fun f => { f with opening := false }),
           writes := x.writes.map (fun w => { w with opening := false }) }

/-- Sends a request of queue `q` to a remote Pocket or HBM: tagged under a matching grant, else as an opening access.
Answers its transaction number and whether it opens. -/
def State.sendRequest (s : State) (t q kind addr addrLo aux len : Nat) (data : List (Option Byte)) : State × Nat × Bool :=
  let m := gaModule addr
  let pocket := gaSpace addr == 0
  let (g, x) := if pocket then (s.queue t q).grantFor m (gaTile addr) kind else (none, s.queue t q)
  let opens := pocket && g.isNone
  let x := if opens then { x with opening := x.opening ++ [(m, gaTile addr, kind)] } else x
  let part := s.partOf t
  let p : Packet := {
    kind := kind, cls := s.localClass t (0x10 + q), vcset := false, dstModule := m,
    srcModule := s.moduleId, srcTile := t, req := 0x10 + q, dstTile := if pocket then gaTile addr else 0, hops := 0,
    jobTag := (part.map (fun p => (s.slot p).jobId % 65536)).getD 0, txn := s.nextTxn, addr := addr, addrLo := addrLo,
    len := len, tagged := g.isSome, win := (g.map (·.win)).getD 0, epoch := (g.map (·.epoch)).getD 0, aux := aux,
    part := part.getD 0, data := data }
  let n := s.nextTxn
  let s := s.setQueue t q x
  (if m = s.moduleId then { s with net := s.net ++ [p], nextTxn := n + 1 }
   else { s with fabOut := s.fabOut ++ [p], nextTxn := n + 1 }, n, opens)

/-! ## Ring bookkeeping (R242, R243) -/

/-- Counts `n` landed bytes of a ring slot. -/
def landSlot (fs : List SlotFill) (slot n : Nat) : List SlotFill :=
  fs.map (fun f => if f.slot = slot then { f with landed := f.landed + n } else f)

/-- Slots in fill at the front that are complete become filled; OUTBOUND slots whose writes have all landed give their
credit back. -/
def State.settleRing (s : State) (t q : Nat) : State :=
  let x := s.queue t q
  let full (f : SlotFill) : Bool := f.total == some f.landed
  if s.qMode t q = 1 then
    let done := x.fill.takeWhile full
    let s := s.setQueue t q { x with fill := x.fill.drop done.length,
                                     slotLens := x.slotLens ++ done.map (fun f => (f.landed, f.last)) }
    s.setFilled t q (s.qFilled t q + done.length)
  else s.setQueue t q { x with fill := x.fill.filter (fun f => !full f) }

/-- The ring slot of a stream byte. -/
def State.slotOf (s : State) (t q first b : Nat) : Nat := (first + b / s.qSlotBytes t q) % s.qSlots t q

/-- Whether the ring lets a transfer of stream byte `b` issue: its slot is in use already, or a slot is free to fill
(INBOUND) or committed (OUTBOUND). -/
def State.ringReady (s : State) (t q : Nat) (r : Run) (b : Nat) : Bool :=
  let x := s.queue t q
  let open' := match x.fill.getLast? with
    | some f => f.slot == s.slotOf t q r.first b && f.draining
    | none => false
  if s.qMode t q = 1 then open' || x.fill.length + s.qFilled t q < s.qSlots t q
  else if s.qMode t q = 2 then open' || 0 < s.qFilled t q
  else true

/-- Accounts `n` issued bytes at stream byte `b` to their slot, taking a new one where needed: a slot taken into fill
moves TAIL on; a slot whose bytes have all been taken moves HEAD on and leaves FILLED. -/
def State.ringIssue (s : State) (t q : Nat) (r : Run) (b n : Nat) : State :=
  if s.qMode t q = 0 then s
  else
    let size := s.qSlotBytes t q
    let sl := s.slotOf t q r.first b
    let whole := r.desc.total * r.desc.esize
    let x := s.queue t q
    let fresh := b % size == 0
    let total : Option Nat := if r.desc.agp then none else some (min size (whole - b / size * size))
    let last : Bool := !r.desc.agp && whole ≤ (b / size + 1) * size
    let fill := if fresh then x.fill ++ [{ slot := sl, issued := 0, landed := 0, total := total, last := last }] else x.fill
    let bump (f : SlotFill) : SlotFill :=
      let f := { f with issued := f.issued + n }
      if f.total.isNone && f.issued == size then { f with total := some size } else f
    let fill := match fill.getLast? with
      | some f => fill.dropLast ++ [bump f]
      | none => fill
    let s := s.setQueue t q { x with fill := fill }
    if s.qMode t q = 1 then
      if fresh then s.setTail t q ((s.qTail t q + 1) % s.qSlots t q) else s
    else match fill.getLast? with
      | some f => if f.draining then s
        else (s.setHead t q ((s.qHead t q + 1) % s.qSlots t q)).setFilled t q (s.qFilled t q - 1)
      | none => s

/-- The stream of an address-generating descriptor has ended: its last slot is complete with what it holds. -/
def State.ringEnd (s : State) (t q : Nat) : State :=
  let x := s.queue t q
  if s.qMode t q = 0 then s
  else match x.fill.getLast? with
    | some f =>
      let s := s.setQueue t q { x with fill := x.fill.dropLast ++ [{ f with total := some f.issued, last := true }] }
      let s := if s.qMode t q = 2 && f.draining then
        (s.setHead t q ((s.qHead t q + 1) % s.qSlots t q)).setFilled t q (s.qFilled t q - 1) else s
      s.settleRing t q
    | none => match x.slotLens.getLast? with
      | some (n, _) => s.setQueue t q { x with slotLens := x.slotLens.dropLast ++ [(n, true)] }
      | none => s

/-! ## Writes (R240, R256) -/

/-- Bounds of the enabled entries of a block. -/
def enabledSpan (bs : List (Option Byte)) : Nat × Nat :=
  let lo := (bs.takeWhile Option.isNone).length
  (lo, bs.length - (bs.reverse.takeWhile Option.isNone).length)

/-- Source bytes for each destination element of a block under ACCUMULATE; 1 for a plain write. -/
def MergeBuf.unit (m : MergeBuf) : Nat := match m.acc with
  | some a => tySize (accSrcTy a)
  | none => 1

/-- The first destination byte a write covers, its low-plane counterpart, and its payload. -/
def MergeBuf.span (m : MergeBuf) : Nat × Nat × List (Option Byte) :=
  let (lo, hi) := enabledSpan m.data
  match m.acc with
  | none => (m.block + lo, 0, (m.data.take hi).drop lo)
  | some _ =>
    let i := lo / m.unit
    let j := (hi + m.unit - 1) / m.unit
    (m.block + 2 * i, m.blockLo + 2 * i, (m.data.take (j * m.unit)).drop (i * m.unit))

/-- The kind of the access a write travels as. -/
def MergeBuf.kind (m : MergeBuf) : Nat := if m.acc.isSome then 3 else 2

/-- Sends the flushed writes to remote memories, in order, as far as the rules let them go: a write waits for an
earlier one to its block (R240), and for an unanswered opening access to its target (R366). -/
def State.sendWrites (s : State) (t q : Nat) : State :=
  let step (st : State × List MergeBuf × Bool) (m : MergeBuf) : State × List MergeBuf × Bool :=
    let (s, done, stop) := st
    let blocked := done.any (fun e => e.glob == m.glob && e.block == m.block) ||
      ((s.queue t q).opening).contains (gaModule m.block, gaTile m.block, m.kind)
    if stop || m.sent.isSome || !s.isRemote m.glob m.block then (s, done ++ [m], stop)
    else if blocked then (s, done ++ [m], true)
    else
      let (a, aLo, data) := m.span
      let (s, n, opens) := s.sendRequest t q m.kind a aLo (m.acc.getD 0) data.length data
      (s, done ++ [{ m with sent := some n, opening := opens }], false)
  let (s', ws, _) := (s.queue t q).writes.foldl step (s, [], false)
  s'.setQueue t q { s'.queue t q with writes := ws }

/-- Flushes the merge buffer of a queue as one access (R256). -/
def State.flushMerge (s : State) (t q : Nat) : State :=
  let x := s.queue t q
  match x.merge with
  | none => s
  | some m => (s.setQueue t q { x with merge := none, writes := x.writes ++ [m] }).sendWrites t q

/-- One element's write joins the merge buffer, which is flushed first where it holds another block, or the byte
already under ACCUMULATE. -/
def State.pushElem (s : State) (t q : Nat) (glob : Bool) (acc : Option Nat) (pos : Nat) (slot : Option Nat) (mv : Move)
    (data : List Byte) : State :=
  let unit := match acc with | some a => tySize (accSrcTy a) | none => 1
  let block := mv.dst / 128 * 128
  let blockLo := mv.dstLo / 128 * 128
  let at' := if acc.isSome then mv.dst % 128 / 2 * unit else mv.dst % 128
  let fits (m : MergeBuf) : Bool := m.glob == glob && m.block == block && m.blockLo == blockLo && m.acc == acc &&
    !(acc.isSome && ((m.data.drop at').take unit).any Option.isSome)
  let s := match (s.queue t q).merge with
    | some m => if fits m then s else s.flushMerge t q
    | none => s
  let x := s.queue t q
  let m := x.merge.getD {
    glob := glob, block := block, blockLo := blockLo,
    data := List.replicate (if acc.isSome then 64 * unit else 128) none, acc := acc, pos := pos, txns := [], slots := [],
    sent := none, opening := false, frees := [], suit := x.run.bind (·.desc.suit) }
  let bytes := m.data.take at' ++ data.map some ++ m.data.drop (at' + data.length)
  let slots := match slot with
    | none => m.slots
    | some i => if m.slots.any (fun p => p.1 == i) then m.slots.map (fun p => if p.1 = i then (i, p.2 + data.length) else p)
        else m.slots ++ [(i, data.length)]
  s.setQueue t q { x with merge := some { m with data := bytes, slots := slots } }

/-- The elements of a transfer enter the write path in stream order; `txn` is the transfer that ends there. -/
def State.pushTransfer (s : State) (t q : Nat) (d : Desc) (pos : Nat) (slot : Option Nat) (es : List (Move × List Byte))
    (txn : Option Nat) : State :=
  let glob := s.dstGlob t q d
  let acc := if d.accum then some d.acc else none
  let joined : Bool := match es, (s.queue t q).merge with
    | (mv, _) :: _, some m => m.glob == glob && m.block == mv.dst / 128 * 128 && m.blockLo == mv.dstLo / 128 * 128
    | _, _ => false
  let s := if joined then s.count (Reg.placketStatMerged t) 1 else s
  let s := (es.foldl (fun (st : State × Nat) (mv, bs) =>
    (st.1.pushElem t q glob acc st.2 slot mv bs, st.2 + 1)) (s, pos)).1
  let x := s.queue t q
  match x.merge, txn with
  | some m, some n => s.setQueue t q { x with merge := some { m with txns := m.txns ++ [n] } }
  | _, _ => s

/-! ## Accumulation (R225, R226, R257, R258) -/

/-- A saturating scatter at tile `t` (R184, R225); `task` is the local task slot that scatters, if any. -/
def State.scatterSat (s : State) (t : Nat) (task : Option Nat) : State :=
  let i := (Config.scatterSatIndex s.freeCtr).val
  let s := { s with freeCtr := s.freeCtr + 1 }
  let s := s.setBit (Reg.sleeveSatMap t (i / 32)) (i % 32) true
  let s := s.count (Reg.sleeveSatCount t) 1
  let first := s.firstInStep t 0x09
  let info := (s.rd (Reg.sleeveErrInfo t)).toNat
  let pos := (s.rd (Reg.sleeveErrPos t)).toNat
  let s := match task, s.partOf t with
    | some k, _ => s.warnTask t k 0x09 1 4 0 first 0 info pos
    | none, some q => if first || (s.slot q).promote.testBit 1 then s.warnJob q 0x09 1 4 0 (some t) none 0 info pos else s
    | none, none => if first then s.recordOnly 0x09 4 0 (some t) none 0 info pos 0 else s
  s.markStep t 0x09

/-- Adds one arrival `x` to the element at physical offsets `o` (and `oLo`): its read, add and write are indivisible.
Answers the code that refuses or fails it, or 0. -/
def State.accElem (s : State) (t : Nat) (acc o oLo : Nat) (task : Option Nat) (bs : List Byte) : State × Nat :=
  let e := s.fixedExp t (bitsOf acc 11 5)
  let x := (tyDecode (accSrcTy acc) (leNat bs)).scale (signedOf (bitsOf acc 16 8) 8 - e)
  let rd (s : State) (o : Nat) : State × Except Nat Nat :=
    match s.pocketRead t o 2 with
    | (s, .ok d) => (s, .ok (leNat d))
    | (s, .error 0) => (s, .ok (mreadNat s.pocket (pkey t o) 2))
    | (s, .error c) => (s, .error c)
  let wr (s : State) (o v : Nat) : State × Nat := s.pocketWrite t o ((leBytes 2 v).map some)
  match rd s o with
  | (s, .error c) => (s, c)
  | (s, .ok h) =>
    if accDstTy acc = tyI32Pair then
      match rd s oLo with
      | (s, .error c) => (s, c)
      | (s, .ok l) =>
        let (v, sat) := scatterInt x
        let (n, s) := match v with
          | some n => (n, s)
          | none => (Config.nanAsInt s.freeCtr, { s with freeCtr := s.freeCtr + 1 })
        let r := i32Of h l + n
        let s := if sat then s.scatterSat t task else s
        let (s, c) := wr s o (i32Hi r)
        if c ≠ 0 then (s, c) else wr s oLo (i32Lo r)
    else
      let f := if accDstTy acc = tyFP16 then fmtFP16 else fmtBF16
      wr s o (f.encode (f.round none ((f.decode h).add x)).1)

/-- Adds every element of a payload, in order, at physical offsets from `o` and `oLo` up. -/
def State.accAll (s : State) (t acc : Nat) (task : Option Nat) : Nat → Nat → Nat → List (Option Byte) → State × Nat
  | 0, _, _, _ => (s, 0)
  | n + 1, o, oLo, bs =>
    let u := tySize (accSrcTy acc)
    let e := bs.take u
    let (s, c) := if e.all Option.isSome && !e.isEmpty then s.accElem t acc o oLo task (e.filterMap id) else (s, 0)
    if c ≠ 0 then (s, c) else s.accAll t acc task n (o + 2) (oLo + 2) (bs.drop u)

/-! ## Landing -/

/-- A write has landed or been acknowledged: its transfers are no longer outstanding, its ring bytes have landed, and
a descriptor whose last write it was leaves the scoreboard. -/
def State.landWrite (s : State) (t q : Nat) (m : MergeBuf) : State :=
  let x := s.queue t q
  let x := { x with writes := x.writes.filter (· != m), xfers := x.xfers.filter (fun f => !m.txns.contains f.txn) }
  let x := if s.qCancelling t q then x
    else { x with fill := m.slots.foldl (fun fs (i, n) => landSlot fs i n) x.fill }
  let s := ((s.setQueue t q x).sbFreeAt t m.frees).settleRing t q
  let s := if (s.tile t).stagingBy == some q && (s.queue t q).writes.isEmpty && (s.queue t q).run.isNone then
    s.setTile t { s.tile t with stagingBy := none } else s
  (s.sendWrites t q).refreshQ t q

/-- A write that a memory refused or failed is dropped with its transfers. -/
def State.dropWrite (s : State) (t q : Nat) (m : MergeBuf) : State :=
  let x := s.queue t q
  (s.setQueue t q { x with writes := x.writes.filter (· != m),
                           xfers := x.xfers.filter (fun f => !m.txns.contains f.txn) }).refreshQ t q

/-- Frees generator context `c`. -/
def State.freeCtx (s : State) (t : Nat) (c : Option Nat) : State :=
  match c with
  | none => s
  | some i =>
    (s.setTile t { s.tile t with ctxs := tdel (s.tile t).ctxs i }).setBit (Reg.placketStatus t) (16 + i) false

/-- A running descriptor whose every element has been read ends: the merge buffer is flushed, its grants and its
context go, and its scoreboard entries leave with its last write (R256, R339, R366). -/
def State.finishRun (s : State) (t q : Nat) : State :=
  let x := s.queue t q
  match x.run with
  | none => s.refreshQ t q
  | some r =>
    if r.ended && r.emitted.isEmpty && x.xfers.all (·.read) && r.staging.isEmpty then
      let s := s.flushMerge t q
      let s := if r.desc.agp then s.ringEnd t q else s
      let x := s.queue t q
      let (ws, now) := match x.writes.getLast? with
        | some w => (x.writes.dropLast ++ [{ w with frees := w.frees ++ r.desc.entries }], [])
        | none => ([], r.desc.entries)
      let s := s.setQueue t q { x with writes := ws, run := none }
      let s := s.setQueue t q (s.queue t q).clearGrants
      let s := (s.freeCtx t r.ctx).sbFreeAt t now
      let s := if (s.tile t).stagingBy == some q && (s.queue t q).writes.isEmpty then
        s.setTile t { s.tile t with stagingBy := none } else s
      s.refreshQ t q
    else s.refreshQ t q

/-! ## Issue -/

/-- A descriptor enters its queue's FIFO (R254). -/
def State.enqueue (s : State) (t q : Nat) (d : Desc) : State :=
  (s.setQueue t q { s.queue t q with fifo := (s.queue t q).fifo ++ [d] }).refreshQ t q

/-- Releases `n` slots of an INBOUND ring; `none` where R244 forbids it. A queue that is cancelling ignores it (R264). -/
def State.release (s : State) (t q n : Nat) : Option State :=
  if s.qCancelling t q then some s
  else if s.qMode t q ≠ 1 ∨ s.qFilled t q < n then none
  else
    let x := s.queue t q
    let s := s.setQueue t q { x with slotLens := x.slotLens.drop n }
    let s := s.setHead t q ((s.qHead t q + n) % s.qSlots t q)
    some ((s.setFilled t q (s.qFilled t q - n)).refreshQ t q)

/-- Commits `n` slots of an OUTBOUND ring; `none` where R244 forbids it. -/
def State.commit (s : State) (t q n : Nat) : Option State :=
  if s.qCancelling t q then some s
  else if s.qMode t q ≠ 2 ∨ s.qCredits t q < n then none
  else
    let s := s.setTail t q ((s.qTail t q + n) % s.qSlots t q)
    some ((s.setFilled t q (s.qFilled t q + n)).refreshQ t q)

/-- A release or commit by firmware or the host through PLACKET_Q_CTRL, or by a task's CSRW: refused under R54 with
CREDIT_UNDERFLOW, which a task outside the owner slot meets with ILLEGAL_INSTRUCTION (R237, R244). -/
def State.ringWrite (s : State) (u : Requester) (t q n : Nat) (f : State → Nat → Nat → Nat → Option State) : State :=
  if n = 0 then s
  else match u with
    | .task _ k =>
      if k.val ≠ s.qOwner t q then s.placketFault t q k.val 0x12 0x03 0
      else (f s t q n).getD (s.queueFault t q 0x0A 0x12 0)
    | _ => (f s t q n).getD (s.recordOnly 0x0A 2 0x12 (some t) (s.partOf t) 0 (s.rd (Reg.placketErrInfo t)).toNat
        (s.rd (Reg.placketErrPos t)).toNat)

/-- HOST_SLOT_ERR of slot `q` latches an error while VALID is 0: the ring, the kind and the PCIe status. -/
def State.latchSlotErr (s : State) (q ring kind status : Nat) : State :=
  if s.bit (Reg.hostSlotErr q) 31 then s
  else s.wr (Reg.hostSlotErr q) (BitVec.ofNat 32 (0x80000000 + ring * 0x1000000 + kind * 0x10000 + status % 65536))

/-- A tile transfer whose request to host memory failed (R467): HOST_SLOT_ERR latches, and the owner task aborts. -/
def State.hostFail (s : State) (t q pos status : Nat) : State :=
  let s := match s.partOf t with
    | some p => s.latchSlotErr p 5 1 status
    | none => s
  s.queueFault t q 0x04 0 pos

end Sys2Proof.Machine
end

