-- ==== Sys2Proof/Machine/Agp.lean ====
section
/-! DEFINITION. Address-generating programs (R259-R263). A command names a tile and a generator context; it acts when
the context's next instruction is the one that the command names. -/

namespace Sys2Proof.Machine

/-- Instruction fields (R261). -/
def agpOpc (w : Word) : Nat := fieldOf w 26 6
def agpRd (w : Word) : Nat := fieldOf w 23 3
def agpRa (w : Word) : Nat := fieldOf w 20 3
def agpRb (w : Word) : Nat := fieldOf w 17 3
def agpImm (w : Word) : Nat := fieldOf w 0 16
def agpSext (w : Word) : Word := (w.setWidth 16).signExtend 32

/-- The operations of R261. -/
def agpOpcodes : List Nat :=
  [0x01, 0x02, 0x03, 0x04, 0x05, 0x06, 0x07, 0x08, 0x09, 0x10, 0x11, 0x18, 0x20, 0x21, 0x22, 0x23, 0x24, 0x3F]

/-- A reserved opcode, or a reserved field that is not 0. -/
def agpBad (w : Word) : Bool :=
  !agpOpcodes.contains (agpOpc w) || w.getLsbD 16 || (agpOpc w == 0x10 && 4 ≤ agpRb w) ||
    (agpOpc w == 0x18 && (128 ≤ agpImm w || agpImm w == 0 || 64 < agpImm w))

def State.ctx (s : State) (t x : Nat) : Option AgpCtx := tfind (s.tile t).ctxs x
def State.setCtx (s : State) (t x : Nat) (c : AgpCtx) : State :=
  s.setTile t { s.tile t with ctxs := tset (s.tile t).ctxs x c }

/-- Register g`i`; g0 reads 0 (R260). -/
def AgpCtx.reg (c : AgpCtx) (i : Nat) : Word := if i = 0 then 0 else c.regs.getD i 0
def AgpCtx.setReg (c : AgpCtx) (i : Nat) (v : Word) : AgpCtx := if i = 0 then c else { c with regs := c.regs.set i v }

/-- Generator fault: subcode AGP with the program counter (R262, R266). -/
def State.agpFault (s : State) (t : Nat) (c : AgpCtx) : State := s.queueFault t c.queue 0x12 0x10 c.pc

/-- Executes the next instruction of context `x` when its opcode is `opc`. -/
def State.agp (s : State) (t x opc : Nat) (f : Word → AgpCtx → State → State) : State :=
  match s.ctx t x with
  | none => s
  | some c =>
    match c.prog[c.pc]? with
    | none => s
    | some w =>
      if agpOpc w = opc ∧ agpBad w = false ∧ (s.queue t c.queue).cancelReq = false then
        f w c (s.count (Reg.placketStatAgpInstr t) 1)
      else s

/-- RD := v, and on to the next instruction. -/
def State.agpSet (s : State) (t x : Nat) (w : Word) (c : AgpCtx) (v : Word) : State :=
  s.setCtx t x { c.setReg (agpRd w) v with pc := c.pc + 1 }

def State.agpAlu (s : State) (t x opc : Nat) (f : Word → Word → Word → Word) : State :=
  s.agp t x opc (fun w c s => s.agpSet t x w c (f w (c.reg (agpRa w)) (c.reg (agpRb w))))

/-- A branch: a taken target outside the program aborts the owner task (R262). -/
def State.agpBranch (s : State) (t x opc : Nat) (cond : Word → Word → Bool) : State :=
  s.agp t x opc (fun w c s =>
    if cond (c.reg (agpRa w)) (c.reg (agpRb w)) then
      let p : Int := c.pc + (agpSext w).toInt
      if 0 ≤ p ∧ p < c.prog.length then s.setCtx t x { c with pc := p.toNat } else s.agpFault t c
    else s.setCtx t x { c with pc := c.pc + 1 })

/-- AGP_ADD. -/
def execAgpAdd (t : TileId) (x : Fin 4) (s : State) : Host.Outcome State Fault Refusal :=
  .next (s.agpAlu t x 0x01 (fun _ a b => a + b))

/-- AGP_SUB. -/
def execAgpSub (t : TileId) (x : Fin 4) (s : State) : Host.Outcome State Fault Refusal :=
  .next (s.agpAlu t x 0x02 (fun _ a b => a - b))

/-- AGP_ADDI. -/
def execAgpAddi (t : TileId) (x : Fin 4) (s : State) : Host.Outcome State Fault Refusal :=
  .next (s.agpAlu t x 0x03 (fun w a _ => a + agpSext w))

/-- AGP_MULI. -/
def execAgpMuli (t : TileId) (x : Fin 4) (s : State) : Host.Outcome State Fault Refusal :=
  .next (s.agpAlu t x 0x04 (fun w a _ => a * agpSext w))

/-- AGP_SHLI. -/
def execAgpShli (t : TileId) (x : Fin 4) (s : State) : Host.Outcome State Fault Refusal :=
  .next (s.agpAlu t x 0x05 (fun w a _ => a <<< (agpImm w % 32)))

/-- AGP_SHRI. -/
def execAgpShri (t : TileId) (x : Fin 4) (s : State) : Host.Outcome State Fault Refusal :=
  .next (s.agpAlu t x 0x06 (fun w a _ => a >>> (agpImm w % 32)))

/-- AGP_ANDI. -/
def execAgpAndi (t : TileId) (x : Fin 4) (s : State) : Host.Outcome State Fault Refusal :=
  .next (s.agpAlu t x 0x07 (fun w a _ => a &&& BitVec.ofNat 32 (agpImm w)))

/-- AGP_LUI. -/
def execAgpLui (t : TileId) (x : Fin 4) (s : State) : Host.Outcome State Fault Refusal :=
  .next (s.agpAlu t x 0x08 (fun w a _ => BitVec.ofNat 32 (agpImm w * 65536) + (a &&& 0xFFFF)))

/-- AGP_POPC. -/
def execAgpPopc (t : TileId) (x : Fin 4) (s : State) : Host.Outcome State Fault Refusal :=
  .next (s.agpAlu t x 0x09 (fun _ a _ => BitVec.ofNat 32 (setBits a.toNat 16).length))

/-- Reads the line at `line` and keeps it as that of base `b`; answers the word that `word` takes from it. `none` where the
read fails, and its fault has been charged. -/
def State.agpLine (s : State) (t : Nat) (c : AgpCtx) (b line : Nat) (word : List Byte → Nat) : State × Option (Nat × AgpCtx) :=
  match (s.count (Reg.placketStatRd t) 1).pocketRead t line 128 with
  | (s, .ok bs) => (s, some (word bs, { c with lines := c.lines.set b (some (line, bs)) }))
  | (s, .error 0) =>
    let bs := mread s.pocket (pkey t line) 128
    (s, some (word bs, { c with lines := c.lines.set b (some (line, bs)) }))
  | (s, .error e) => (s.queueFault t c.queue e 0x14 (((s.queue t c.queue).run.map (·.pos)).getD 0), none)

/-- The 16-bit word at slot-relative offset `o`, through the line of base `b` (R262): a line that does not hold it is
read first. `none` where the read is refused or fails, and its fault has been charged. -/
def State.agpLoad (s : State) (t : Nat) (c : AgpCtx) (b o : Nat) : State × Option (Nat × AgpCtx) :=
  let q := c.queue
  let pos := ((s.queue t q).run.map (·.pos)).getD 0
  match s.slotPhys t (s.qOwner t q) o 2 with
  | none => (s.queueFault t q 0x10 0x11 pos, none)
  | some off =>
    let line := off / 128 * 128
    let word (bs : List Byte) : Nat := leNat ((bs.drop (off - line)).take 2)
    match c.lines.getD b none with
    | some (l, bs) => if l = line then (s, some (word bs, c)) else s.agpLine t c b line word
    | none => s.agpLine t c b line word

/-- AGP_LD16. -/
def execAgpLd16 (t : TileId) (x : Fin 4) (s : State) : Host.Outcome State Fault Refusal :=
  .next (s.agp t x 0x10 (fun w c s =>
    let b := agpRb w % 4
    match s.agpLoad t c b (c.bases.getD b 0 + 2 * (c.reg (agpRa w)).toNat) with
    | (s, some (v, c)) => s.agpSet t x w c (BitVec.ofNat 32 v)
    | (s, none) => s))

/-- AGP_LDP. -/
def execAgpLdp (t : TileId) (x : Fin 4) (s : State) : Host.Outcome State Fault Refusal :=
  .next (s.agp t x 0x11 (fun w c s =>
    let i := 2 * (c.reg (agpRa w)).toNat
    match s.agpLoad t c 0 (c.bases.getD 0 0 + i) with
    | (s, some (h, c)) =>
      match s.agpLoad t c 1 (c.bases.getD 1 0 + i) with
      | (s, some (l, c)) => s.agpSet t x w c (BitVec.ofNat 32 (h * 65536 + l))
      | (s, none) => s
    | (s, none) => s))

/-- The moves an EMIT hands over: element j from source index RA + j to destination index RB + j, or the next ring
positions (R261). -/
def State.emitMoves (s : State) (t q : Nat) (r : Run) (a b : Int) (n : Nat) : List Move :=
  let d := r.desc
  let base := r.pos + r.emitted.length
  let addr (x : Nat) (size : Nat) (i : Int) : Nat := (((x : Int) + size * i) % (2 ^ 64 : Nat)).toNat
  (List.range n).map (fun j =>
    { src := if s.srcRing t q then s.ringOff t q r.first ((base + j) * d.esize) else addr d.src d.esize (a + j),
      dst := if s.dstRing t q then s.ringOff t q r.first ((base + j) * d.esize) else addr d.dst d.dsize (b + j),
      dstLo := if d.pair then addr d.dstLo 2 (b + j) else 0 })

/-- AGP_EMIT: waits while the queue still has moves to issue, no credit or no room under its limit (R262). -/
def execAgpEmit (t : TileId) (x : Fin 4) (s : State) : Host.Outcome State Fault Refusal :=
  match s.ctx t x with
  | none => .next s
  | some c =>
    match (s.queue t c.queue).run with
    | none => .next s
    | some r =>
      if !r.emitted.isEmpty || s.qLimit t c.queue ≤ (s.queue t c.queue).xfers.length ||
          !s.ringReady t c.queue r (r.pos * r.desc.esize) then .next s
      else .next (s.agp t x 0x18 (fun w c s =>
        let ms := s.emitMoves t c.queue r (c.reg (agpRa w)).toInt (c.reg (agpRb w)).toInt (agpImm w % 128)
        let s := s.setQueue t c.queue { s.queue t c.queue with run := some { r with emitted := ms } }
        s.setCtx t x { c with pc := c.pc + 1 }))

/-- AGP_BEQ. -/
def execAgpBeq (t : TileId) (x : Fin 4) (s : State) : Host.Outcome State Fault Refusal :=
  .next (s.agpBranch t x 0x20 (fun a b => a == b))

/-- AGP_BNE. -/
def execAgpBne (t : TileId) (x : Fin 4) (s : State) : Host.Outcome State Fault Refusal :=
  .next (s.agpBranch t x 0x21 (fun a b => a != b))

/-- AGP_BLT. -/
def execAgpBlt (t : TileId) (x : Fin 4) (s : State) : Host.Outcome State Fault Refusal :=
  .next (s.agpBranch t x 0x22 (fun a b => a.slt b))

/-- AGP_BGE. -/
def execAgpBge (t : TileId) (x : Fin 4) (s : State) : Host.Outcome State Fault Refusal :=
  .next (s.agpBranch t x 0x23 (fun a b => b.sle a))

/-- AGP_JMP. -/
def execAgpJmp (t : TileId) (x : Fin 4) (s : State) : Host.Outcome State Fault Refusal :=
  .next (s.agpBranch t x 0x24 (fun _ _ => true))

/-- AGP_END: the stream ends. -/
def execAgpEnd (t : TileId) (x : Fin 4) (s : State) : Host.Outcome State Fault Refusal :=
  .next (s.agp t x 0x3F (fun _ c s =>
    let q := c.queue
    match (s.queue t q).run with
    | some r => (s.setQueue t q { s.queue t q with run := some { r with ended := true } }).finishRun t q
    | none => s))

/-- AGP_RESERVED_OPCODE: the next instruction is reserved, has a bad field, or lies past the last one (R262). -/
def execAgpReservedOpcode (t : TileId) (x : Fin 4) (s : State) : Host.Outcome State Fault Refusal :=
  match s.ctx t x with
  | none => .next s
  | some c =>
    match c.prog[c.pc]? with
    | none => .next (s.agpFault t c)
    | some w => .next (if agpBad w then s.agpFault t c else s)

end Sys2Proof.Machine
end

