-- ==== Sys2Proof/Machine/Crypto.lean ====
section
/-! DEFINITION. The digests and signatures that images carry: CRC-32 (R35), and SHA-384 and ECDSA on P-384, which the
spec takes from FIPS 180-4 and FIPS 186-5 (R42). PRESUMED: the constants of those two standards. -/

namespace Sys2Proof.Machine

/-! ## CRC-32 (R35) -/

def crcBit (c : BitVec 32) : BitVec 32 := if c.getLsbD 0 then (c >>> 1) ^^^ 0xEDB88320#32 else c >>> 1

def crcByte (c : BitVec 32) (b : Byte) : BitVec 32 := (List.range 8).foldl (fun c _ => crcBit c) (c ^^^ b.setWidth 32)

/-- The CRC-32 of IEEE 802.3, reflected. -/
def crc32 (bs : List Byte) : Nat := (~~~ bs.foldl crcByte 0xFFFFFFFF#32).toNat

/-! ## SHA-384 -/

/-- The first `n` primes from `k` up, below 23²; `fuel` bounds the numbers tried. -/
def primesFrom : Nat → Nat → Nat → List Nat
  | 0, _, _ => []
  | fuel + 1, n, k =>
    if n = 0 then []
    else if [2, 3, 5, 7, 11, 13, 17, 19].all (fun d => k ≤ d || k % d != 0) then k :: primesFrom fuel (n - 1) (k + 1)
    else primesFrom fuel n (k + 1)

/-- The largest x below 2^67 with x^e ≤ v, by Newton's steps from above: each step falls until it is reached. -/
def rootOf (e v : Nat) : Nat :=
  (List.range 16).foldl (fun x _ => min x (((e - 1) * x + v / x ^ (e - 1)) / e)) (2 ^ 67)

/-- The first 64 bits of the fractional parts of cube roots of the first 80 primes. -/
def shaK : List (BitVec 64) := (primesFrom 420 80 2).map (fun p => BitVec.ofNat 64 (rootOf 3 (p * 2 ^ 192)))

/-- The first 64 bits of the fractional parts of square roots of the ninth to sixteenth primes. -/
def shaInit : List (BitVec 64) :=
  ((primesFrom 60 16 2).drop 8).map (fun p => BitVec.ofNat 64 (rootOf 2 (p * 2 ^ 128)))

/-- Big-endian 64-bit words. -/
def beWords : Nat → List Byte → List (BitVec 64)
  | 0, _ => []
  | n + 1, bs => BitVec.ofNat 64 (beNat (bs.take 8)) :: beWords n (bs.drop 8)

/-- The message schedule: the last 16 words, newest first, and the words so far, newest first. -/
def shaSchedule : Nat → List (BitVec 64) → List (BitVec 64)
  | 0, ws => ws
  | n + 1, ws =>
    let w15 := ws.getD 14 0
    let w2 := ws.getD 1 0
    let s0 := w15.rotateRight 1 ^^^ w15.rotateRight 8 ^^^ (w15 >>> 7)
    let s1 := w2.rotateRight 19 ^^^ w2.rotateRight 61 ^^^ (w2 >>> 6)
    shaSchedule n ((ws.getD 15 0 + s0 + ws.getD 6 0 + s1) :: ws)

def shaRound (h : List (BitVec 64)) (kw : BitVec 64 × BitVec 64) : List (BitVec 64) :=
  let a := h.getD 0 0
  let b := h.getD 1 0
  let c := h.getD 2 0
  let e := h.getD 4 0
  let s1 := e.rotateRight 14 ^^^ e.rotateRight 18 ^^^ e.rotateRight 41
  let ch := (e &&& h.getD 5 0) ^^^ (~~~ e &&& h.getD 6 0)
  let t1 := h.getD 7 0 + s1 + ch + kw.1 + kw.2
  let s0 := a.rotateRight 28 ^^^ a.rotateRight 34 ^^^ a.rotateRight 39
  let maj := (a &&& b) ^^^ (a &&& c) ^^^ (b &&& c)
  [t1 + s0 + maj, a, b, c, h.getD 3 0 + t1, e, h.getD 5 0, h.getD 6 0]

def shaBlock (h : List (BitVec 64)) (block : List Byte) : List (BitVec 64) :=
  let ws := (shaSchedule 64 (beWords 16 block).reverse).reverse
  (h.zip ((shaK.zip ws).foldl shaRound h)).map (fun (x, y) => x + y)

def shaBlocks : Nat → List (BitVec 64) → List Byte → List (BitVec 64)
  | 0, h, _ => h
  | n + 1, h, bs => shaBlocks n (shaBlock h (bs.take 128)) (bs.drop 128)

/-- Big-endian bytes of a number. -/
def beBytes (n v : Nat) : List Byte := (leBytes n v).reverse

/-- The SHA-384 digest as a number of 384 bits. -/
def sha384 (m : List Byte) : Nat :=
  let pad := m ++ [0x80#8] ++ List.replicate ((239 - m.length % 128) % 128) 0 ++ beBytes 16 (8 * m.length)
  let h := shaBlocks (pad.length / 128) shaInit pad
  (h.take 6).foldl (fun n w => n * 2 ^ 64 + w.toNat) 0

/-! ## ECDSA on P-384 -/

def p384P : Nat := 2 ^ 384 - 2 ^ 128 - 2 ^ 96 + 2 ^ 32 - 1
def p384N : Nat :=
  0xffffffffffffffffffffffffffffffffffffffffffffffffc7634d81f4372ddf581a0db248b0a77aecec196accc52973
def p384B : Nat :=
  0xb3312fa7e23ee7e4988e056be3f82d19181d9c6efe8141120314088f5013875ac656398d8a2ed19d2a85c8edd3ec2aef
def p384G : Nat × Nat :=
  (0xaa87ca22be8b05378eb1c71ef320ad746e1d3b628ba79b9859f741e082542a385502f25dbf55296c3a545e3872760ab7,
   0x3617de4a96262c6f5d9e98bf9292dc29f8f41dbd289a147ce9da3113b5f0b8c00a60b1ce1d7e819d7a431d7c90ea0e5f)

/-- x^e modulo m, over the low 384 bits of e. -/
def powMod (m x e : Nat) : Nat :=
  (List.range 384).foldl (fun acc i => let a := acc * acc % m; if e.testBit (383 - i) then a * x % m else a) 1

/-- The inverse modulo a prime. -/
def invMod (m x : Nat) : Nat := powMod m x (m - 2)

/-- A point (X, Y, Z) stands for x = X / Z², y = Y / Z³; Z = 0 is the point at infinity. -/
abbrev Jac := Nat × Nat × Nat

/-- Doubles a point, on a curve with a = -3. -/
def ecDouble (a : Jac) : Jac :=
  let p := p384P
  let (x, y, z) := a
  let zz := z * z % p
  let yy := y * y % p
  let b := x * yy % p
  let m := 3 * (x + p - zz) * (x + zz) % p
  let u := (m * m + 8 * (p - b)) % p
  (u, (m * (4 * b + p - u) + 8 * (p - yy) * yy) % p, 2 * y * z % p)

/-- Adds two points. -/
def ecAdd (a b : Jac) : Jac :=
  let p := p384P
  let (x1, y1, z1) := a
  let (x2, y2, z2) := b
  if z1 = 0 then b
  else if z2 = 0 then a
  else
    let u1 := x1 * z2 * z2 % p
    let s1 := y1 * z2 * z2 * z2 % p
    let h := (x2 * z1 * z1 + p - u1) % p
    let r := (y2 * z1 * z1 * z1 + p - s1) % p
    if h = 0 then (if r = 0 then ecDouble a else (1, 1, 0))
    else
      let hh := h * h % p
      let v := u1 * hh % p
      let hhh := hh * h % p
      let u := (r * r + (p - hhh) + 2 * (p - v)) % p
      (u, (r * (v + p - u) + (p - s1) * hhh) % p, h * z1 * z2 % p)

def ecMul (k : Nat) (a : Nat × Nat) : Jac :=
  (List.range 384).foldl (fun acc i => let d := ecDouble acc; if k.testBit (383 - i) then ecAdd d (a.1, a.2, 1) else d)
    (1, 1, 0)

def onCurve (q : Nat × Nat) : Bool :=
  q.1 < p384P && q.2 < p384P && q.2 * q.2 % p384P == (q.1 * q.1 * q.1 + (p384P - 3) * q.1 + p384B) % p384P

/-- Whether (r, s) is a signature of the digest `e` under the public key. -/
def ecdsaVerify (key : Nat × Nat) (r s e : Nat) : Bool :=
  if onCurve key && 1 ≤ r && r < p384N && 1 ≤ s && s < p384N then
    let w := invMod p384N s
    let (x, _, z) := ecAdd (ecMul (e * w % p384N) p384G) (ecMul (r * w % p384N) key)
    z != 0 && x * invMod p384P (z * z % p384P) % p384P % p384N == r
  else false

end Sys2Proof.Machine
end

