-- ==== Sys2Proof/Machine/FabOps.lean ====
section
/-! DEFINITION. The shared operations of the fabric (spec 13): the link layer of a port, routing, the packets the
module itself sends, and LINK_FAIL. -/

namespace Sys2Proof

/-! ## Packets and virtual channels -/

/-- The channel class of a KIND (R411): 0 REQ, 1 RSP, 2 CTRL. -/
def kindClass (k : Nat) : Nat := min 2 (k / 16)

/-- The virtual channel of a packet (R406): two for each class, chosen by VCSET. -/
def Packet.vc (p : Packet) : Nat := 2 * kindClass p.kind + (if p.vcset then 1 else 0)

/-- The units of 16 bytes that a packet takes on a link (R409): its header and its padded payload. -/
def Packet.units (p : Packet) : Nat := 2 + (p.data.length + 15) / 16

end Sys2Proof

namespace Sys2Proof.Machine

/-! ## Ports -/

def portDisabled : Nat := 0
def portDown : Nat := 1
def portTraining : Nat := 2
def portActive : Nat := 3
def portRetrain : Nat := 4
def portFailed : Nat := 5

/-- FAB_PORT_STATUS.STATE (R400). -/
def State.portState (s : State) (p : Nat) : Nat := s.fld (Reg.fabPortStatus p) 29 3

/-- Moves a port to a state with a cause; MIRROR_LINK_STATUS follows the mirror ports (R463). -/
def State.setPort (s : State) (p st cause : Nat) : State :=
  let s := (s.setFld (Reg.fabPortStatus p) 29 3 st).setFld (Reg.fabPortStatus p) 26 3 cause
  if 16 ≤ p then s.setBit Reg.mirrorLinkStatus (p - 16) (st == portActive) else s

def State.fab (s : State) (p : Nat) : FabPort := tget s.fabPorts FabPort.init p
def State.setFab (s : State) (p : Nat) (x : FabPort) : State := { s with fabPorts := tset s.fabPorts p x }

/-- The power domain of a port (R22, R501). -/
def portDomain (p : Nat) : Nat := if p < 16 then 26 + p / 4 else 30

/-- The first packet waiting at a port that may go on: the oldest of its virtual channel, with a credit held. Answers the
packet, the units it sends now, whether these are its last, and the packets waiting after that. -/
def takeSend (credits : List Nat) : List Nat → List (Packet × Nat) → Option (Packet × Nat × Bool × List (Packet × Nat))
  | _, [] => none
  | seen, (p, n) :: ts =>
    if seen.contains p.vc || credits.getD p.vc 0 == 0 then
      (takeSend credits (p.vc :: seen) ts).map (fun (q, k, e, ts') => (q, k, e, (p, n) :: ts'))
    else
      let k := min 15 (min n (credits.getD p.vc 0))
      some (p, k, k == n, if k = n then ts else (p, n - k) :: ts)

/-- One new DATA flit (R403, R405, R406): units of one packet, against its credits, under the next SEQ. -/
def FabPort.sendOne (x : FabPort) : Option FabPort :=
  if 512 ≤ x.unacked.length then none
  else (takeSend x.credits [] x.tx).map (fun (p, k, e, ts) =>
    { x with tx := ts, credits := x.credits.set p.vc (x.credits.getD p.vc 0 - k), sendSeq := (x.sendSeq + 1) % 4096,
             unacked := x.unacked ++ [(x.sendSeq, if e then some p else none)] })

/-- Sends DATA flits until nothing more may go. -/
def FabPort.pump : Nat → FabPort → FabPort
  | 0, x => x
  | n + 1, x => match x.sendOne with
    | some y => FabPort.pump n y
    | none => x

/-- Lets an ACTIVE port send (R400). -/
def State.pump (s : State) (p : Nat) : State :=
  if s.portState p = portActive then s.setFab p ((s.fab p).pump 512) else s

/-- Hands a packet to a port; it leaves this module through it, which counts a hop (R414). -/
def State.sendVia (s : State) (p : Nat) (pkt : Packet) : State :=
  let pkt := { pkt with hops := pkt.hops + 1 }
  State.pump (s.setFab p { s.fab p with tx := (s.fab p).tx ++ [(pkt, pkt.units)] }) p

/-! ## Routing (R412-R414) -/

/-- The port a packet leaves by, and whether the entry is a dateline; none where the entry cannot carry it. -/
def State.routeOf (s : State) (pkt : Packet) : Option (Nat × Bool) :=
  let e := Reg.fabRoute pkt.dstModule
  let ports := setBits (s.fld e 0 16) 16
  let k := (pkt.srcModule + pkt.srcTile + pkt.dstTile + pkt.req) % ports.length
  if s.bit e 31 then
    (ports[k]?).bind (fun p => if s.portState p = portActive ∨ s.portState p = portRetrain then some (p, s.bit e 30) else none)
  else none

/-- A packet that cannot be carried is dropped and counted; a request is answered with REFUSE, code LINK_FAIL (R412). -/
def State.dropPacket (s : State) (pkt : Packet) : State :=
  let s := s.count Reg.fabStatNoroute 1
  if pkt.kind < 0x10 then
    { s with fabOut := s.fabOut ++ [{ pkt with
        kind := 0x13, dstModule := pkt.srcModule, dstTile := pkt.srcTile, srcModule := s.moduleId, srcTile := pkt.dstTile,
        hops := 0, vcset := false, aux := 0x0D, data := [] }] }
  else s

/-- Forwards a packet to its next module. -/
def State.forward (s : State) (pkt : Packet) : State :=
  if 32 ≤ pkt.hops then s.dropPacket pkt
  else match s.routeOf pkt with
    | some (p, dateline) => s.sendVia p { pkt with vcset := pkt.vcset || dateline }
    | none => s.dropPacket pkt

/-- The packets of R411 and R452: a KIND of the table, and for MGMT a code of the table or JOB_STOP. -/
def knownPacket (p : Packet) : Bool :=
  [0x01, 0x02, 0x03, 0x04, 0x11, 0x12, 0x13, 0x21, 0x22].contains p.kind ||
    (p.kind == 0x31 && [0x01, 0x02, 0x03, 0x04, 0x05, 0x10].contains (p.aux % 256))

/-- A received packet that no rule gives a meaning: forwarded where its class is known (R429), dropped where it is
addressed to this module or its class is reserved. -/
def State.passUnknown (s : State) (p : Packet) : State :=
  if s.isMe p.dstModule || 4 ≤ p.kind / 16 then s else s.forward p

/-! ## Job tags and maps (R417, R430) -/

/-- Whether module `m` holds a partition of the job of partition `q`. -/
def State.inJob (s : State) (q m : Nat) : Bool := s.bit (Reg.fabJobmap q (m / 32)) (m % 32)

/-- The modules of the job of partition `q`, rising. -/
def State.jobModules (s : State) (q : Nat) : List Nat :=
  (List.range 64).flatMap (fun i =>
    let w := s.rd (Reg.fabJobmap q i)
    if w = 0 then [] else ((List.range 32).filter w.getLsbD).map (32 * i + ·))

/-- The partition for which a packet is admitted (R417). -/
def State.jobPart (s : State) (p : Packet) : Option Nat :=
  (List.range 8).find? (fun q => s.bit (Reg.fabJobtag q) 31 && s.fld (Reg.fabJobtag q) 0 16 == p.jobTag && s.inJob q p.srcModule)

/-! ## Packets the module sends -/

/-- A control packet of partition `q` (R409, R423, R452). -/
def State.ctrlPacket (s : State) (q kind dst addr aux : Nat) : Packet :=
  { kind := kind, cls := 0, vcset := false, dstModule := dst, srcModule := s.moduleId, srcTile := 0, req := 0x50,
    dstTile := 0, hops := 0, jobTag := s.fld (Reg.fabJobtag q) 0 16, txn := 0, addr := addr, addrLo := 0, len := 0,
    tagged := false, win := 0, epoch := 0, aux := aux, part := q, data := [] }

/-- Sends a barrier or management message through the fabric. -/
def State.sendCtrl (s : State) (q kind dst addr aux : Nat) : State :=
  { s with fabOut := s.fabOut ++ [s.ctrlPacket q kind dst addr aux] }

/-- The partner of this module (R407). -/
def State.partner (s : State) : Nat := s.moduleId ^^^ 1

/-- The ACTIVE mirror ports. -/
def State.mirrorPorts (s : State) : List Nat := [16, 17].filter (fun p => s.portState p == portActive)

/-- Sends a message to the partner over a mirror port (R452); with none ACTIVE it is lost. -/
def State.sendMirror (s : State) (q code addr : Nat) : State :=
  match s.mirrorPorts with
  | p :: _ => s.sendVia p (s.ctrlPacket q 0x31 s.partner addr code)
  | [] => s

/-- Sends LOST on every ACTIVE mirror port (R545). -/
def State.sendLost (s : State) (q code : Nat) : State :=
  s.mirrorPorts.foldl (fun s p => s.sendVia p (s.ctrlPacket q 0x31 s.partner code 0x03)) s

/-- Sends one page to the partner; the pages of a transfer alternate between two ACTIVE ports (R435). -/
def State.sendPage (s : State) (q place : Nat) (bytes : List Byte) : State :=
  let ps := s.mirrorPorts
  let n := s.nextTxn
  let x := s.slot q
  let pkt := { s.ctrlPacket q 0x04 s.partner place 0 with txn := n, data := bytes.map some }
  let s := { s with nextTxn := n + 1 }
  let s := s.setSlot q { x with pagesOut := x.pagesOut ++ [n], pagesSent := x.pagesSent + 1 }
  let s := s.count (Reg.mirrorStatPages q) 1
  match ps[x.pagesSent % ps.length]? with
  | some p => s.sendVia p pkt
  | none => s

/-- Sends JOB_STOP to every other module of the job (R539). -/
def State.sendJobStop (s : State) (q code cls module seq : Nat) (except : List Nat) : State :=
  (s.jobModules q).foldl (fun s m =>
    if s.isMe m || except.contains m then s
    else s.sendCtrl q 0x31 m (code + cls * 0x100 + module * 0x10000 + seq * 0x100000000) 0x10) s

/-! ## LINK_FAIL (R422) -/

/-- The partitions that hold an image. -/
def State.loaded (s : State) : List Nat :=
  (List.range 8).filter (fun q => (s.slot q).tiles != 0)

/-- Latches FAB_ERR_INFO and FAB_ERR_SRC while VALID is 0. -/
def State.latchFabErr (s : State) (q sub port dst req tile : Nat) : State :=
  if s.bit Reg.fabErrInfo 31 then s
  else (s.wr Reg.fabErrInfo (BitVec.ofNat 32 (0x80000000 + q * 0x1000000 + 0xD0000 + sub * 0x100 + port))).wr Reg.fabErrSrc
    (BitVec.ofNat 32 (dst * 0x10000 + req * 0x100 + tile))

/-- LINK_FAIL charged to the job of partition `q`. -/
def State.linkFail (s : State) (q sub dst req tile : Nat) : State :=
  let s := s.latchFabErr q sub 0 dst req tile
  s.jobFault q 0x0D 2 10 sub none 0 (s.rd Reg.fabErrInfo).toNat (s.rd Reg.fabErrSrc).toNat

/-- PORT_FAILED: every job with a partition on this module; with none loaded a record alone (R538). -/
def State.portFailedFault (s : State) (p : Nat) : State :=
  let qs := s.loaded
  let s := s.latchFabErr (qs.headD 0) 1 p 0 0 0
  if qs = [] then s.recordOnly 0x0D 10 1 none none 0 (s.rd Reg.fabErrInfo).toNat (s.rd Reg.fabErrSrc).toNat 2
  else qs.foldl (fun s q => s.jobFault q 0x0D 2 10 1 none 0 (s.rd Reg.fabErrInfo).toNat (s.rd Reg.fabErrSrc).toNat) s

/-- A port stops carrying packets: what it holds is lost (R421). -/
def State.dropLink (s : State) (p : Nat) : State :=
  s.setFab p { FabPort.init with retrains := (s.fab p).retrains }

/-- A port becomes FAILED; from ACTIVE or RETRAIN it raises PORT_FAILED (R402). -/
def State.failPort (s : State) (p cause : Nat) : State :=
  let live := s.portState p == portActive || s.portState p == portRetrain
  let s := (s.setPort p portFailed cause).dropLink p
  if live then s.portFailedFault p else s

/-- An ACTIVE port enters RETRAIN at time `us`; for the fourth time within any 1 s it fails with cause RETRAIN (R402). -/
def State.enterRetrain (s : State) (p us : Nat) : State :=
  if s.portState p = portActive then
    let s := s.count (Reg.fabPortStatRetrain p) 1
    let ts := (s.fab p).retrains.filter (fun t => us < t + 1000000) ++ [us]
    let s := s.setFab p { s.fab p with retrains := ts, replays := 0 }
    if 4 ≤ ts.length then s.failPort p 5 else s.setPort p portRetrain 0
  else s

/-- The state of a port whose supply or ENABLE has changed (R400). -/
def State.settlePort (s : State) (p : Nat) : State :=
  if s.bit (Reg.fabPortCtrl p) 0 && s.domainOn (portDomain p) then
    if s.portState p = portDisabled then s.setPort p portDown 0 else s
  else if s.portState p = portDisabled then s
  else (s.setPort p portDisabled 0).dropLink p

/-- The orderly close of a port, or its loss of power (R507). -/
def State.closePort (s : State) (p : Nat) : State := (s.setPort p portDisabled 0).dropLink p

end Sys2Proof.Machine
end

