-- ==== Sys2Proof/Machine/FabPkt.lean ====
section
/-! DEFINITION. Packets that the router takes on: requests and answers (R410-R420), and requests that time out. -/

namespace Sys2Proof.Machine

/-! ## Where packets stand -/

def State.pktsAt (s : State) : PktAt → List Packet
  | .edge => s.fabOut
  | .port p => (s.fab p.val).inbox

def State.setPktsAt (s : State) (place : PktAt) (l : List Packet) : State :=
  match place with
  | .edge => { s with fabOut := l }
  | .port p => s.setFab p.val { s.fab p.val with inbox := l }

/-- The first packet of `want` that stands at the head of its virtual channel, and the packets left. -/
def takeHead (want : Packet → Bool) : List Nat → List Packet → Option (Packet × List Packet)
  | _, [] => none
  | seen, p :: ps =>
    if !seen.contains p.vc && want p then some (p, ps)
    else (takeHead want (p.vc :: seen) ps).map (fun (x, r) => (x, p :: r))

/-- A message of the mirror link (R452). -/
def mirrorMsg (p : Packet) : Bool := p.kind == 0x31 && p.aux % 256 ≤ 5

/-- A packet that a mirror port carries (R411, R452): pages, their answers and the mirror-link messages. -/
def mirrorTraffic (p : Packet) : Bool := p.kind == 0x04 || p.kind == 0x12 || p.kind == 0x13 || mirrorMsg p

/-- Takes the next packet of `want` at a place (R412): `deliver` acts on one addressed to this module, any other is
forwarded. A request of this module is tracked while it is unanswered; with 4,096 tracked it waits (R419). A page on a
fabric port, and anything but mirror traffic on a mirror port, is dropped (R411); so is a packet that arrives at a fabric
port with HOPS at 32, whatever its destination, a request with an answer (R414). -/
def State.onPacket (s : State) (place : PktAt) (want : Packet → Bool) (deliver : Packet → State → State) : State :=
  match takeHead want [] (s.pktsAt place) with
  | none => s
  | some (p, rest) =>
    let t := s.setPktsAt place rest
    match place with
    | .edge =>
      if s.isMe p.dstModule then (if mirrorMsg p then t else deliver p t)
      else if p.kind < 0x10 && s.isMe p.srcModule then
        if 4096 ≤ s.fabWait.length then s
        else State.forward { t with fabWait := t.fabWait ++
          [{ txn := p.txn, part := p.part, tile := p.srcTile, req := p.req, kind := p.kind, dst := p.dstModule }] } p
      else t.forward p
    | .port i =>
      if 16 ≤ i.val then (if s.isMe p.dstModule && mirrorTraffic p then deliver p t else t)
      else if p.kind = 0x04 then t
      else if 32 ≤ p.hops then t.dropPacket p
      else if s.isMe p.dstModule then (if mirrorMsg p then t else deliver p t)
      else t.forward p

/-! ## Requests (R417, R418) -/

/-- An HBM-space request of partition `q` (R417). -/
def State.remoteHbm (s : State) (q : Nat) (p : Packet) : State :=
  let off := gaHbmOff p.addr
  if !gaValid p.addr || !s.hbmAdmits q off p.len then s.answer p 0x13 0x10 []
  else if p.kind = 0x01 then
    match s.hbmRead off p.len with
    | (s, some d) => s.answer p 0x11 0 d
    | (s, none) => s
  else if p.kind = 0x02 then
    if (s.needImage off p.len).foldl State.beforeImage s |>.needImage off p.len |>.isEmpty then
      (s.hbmWrite off p.data).answer p 0x12 0 []
    else s.hbmWrite off p.data
  else s.answer p 0x13 0x10 []

/-- A request that has arrived for this module (R417). -/
def State.takeRequest (s : State) (p : Packet) : State :=
  match s.jobPart p with
  | none => s.answer p 0x13 0x04 []
  | some q =>
    let p := { p with part := q }
    if gaSpace p.addr = 0 then { s with net := s.net ++ [p] }
    else if gaSpace p.addr = 1 then s.remoteHbm q p
    else s.answer p 0x13 0x10 []

/-- READ. -/
def execRead (place : PktAt) (s : State) : Host.Outcome State Fault Refusal :=
  .next (s.onPacket place (fun p => p.kind == 0x01) (fun p s => s.takeRequest p))

/-- WRITE. -/
def execWrite (place : PktAt) (s : State) : Host.Outcome State Fault Refusal :=
  .next (s.onPacket place (fun p => p.kind == 0x02) (fun p s => s.takeRequest p))

/-- ACCUMULATE. -/
def execAccumulate (place : PktAt) (s : State) : Host.Outcome State Fault Refusal :=
  .next (s.onPacket place (fun p => p.kind == 0x03) (fun p s => s.takeRequest p))

/-! ## Answers (R410, R419, R422) -/

/-- An answer to a request of this module: delivered to its originator; a refusal with LINK_FAIL stops the job; one that
comes after its timeout is discarded and counted. -/
def State.takeAnswer (s : State) (p : Packet) : State :=
  match s.fabWait.find? (fun r => r.txn == p.txn) with
  | some r =>
    let s := { s with fabWait := s.fabWait.filter (fun x => x.txn != p.txn) }
    if p.kind = 0x13 ∧ p.aux % 256 = 0x0D then s.linkFail r.part 2 r.dst r.req r.tile
    else { s with answers := s.answers ++ [p] }
  | none =>
    if s.fabLate.contains p.txn then
      State.count { s with fabLate := s.fabLate.filter (· != p.txn) } Reg.fabStatLate 1
    else s

/-- The partition that has a page under this transaction number on its way to the partner (R452). -/
def State.pageOwner (s : State) (txn : Nat) : Option Nat :=
  (List.range 8).find? (fun q => (s.slot q).pagesOut.contains txn)

/-- The answer to a page: it has landed, or the partner refused it, which raises AREA_SIZE, or RESTORE while a spare is
being restored (R436, R451, R456). -/
def State.pageAnswered (s : State) (p : Packet) : State :=
  match s.pageOwner p.txn with
  | none => s.takeAnswer p
  | some q =>
    let s := s.setSlot q { s.slot q with pagesOut := (s.slot q).pagesOut.filter (· != p.txn) }
    if p.kind = 0x13 then s.mirrorFail q (if (s.slot q).restart = 5 then 5 else 8) s.partner else s

/-- READ_DATA. -/
def execReadData (place : PktAt) (s : State) : Host.Outcome State Fault Refusal :=
  .next (s.onPacket place (fun p => p.kind == 0x11) (fun p s => s.takeAnswer p))

/-- REFUSE. -/
def execRefuse (place : PktAt) (s : State) : Host.Outcome State Fault Refusal :=
  .next (s.onPacket place (fun p => p.kind == 0x13) (fun p s => s.pageAnswered p))

/-- REQUEST_TIMEOUT (R419): no answer has come within FAB_TIMEOUT. -/
def execRequestTimeout (txn : Nat) (s : State) : Host.Outcome State Fault Refusal :=
  .next (match s.fabWait.find? (fun r => r.txn == txn) with
    | none => s
    | some r =>
      let s := { s with fabWait := s.fabWait.filter (fun x => x.txn != txn), fabLate := s.fabLate ++ [txn] }
      (s.count Reg.fabStatTimeout 1).linkFail r.part 3 r.dst r.req r.tile)

end Sys2Proof.Machine
end

