-- ==== Sys2Proof/Machine/Fabric.lean ====
section
/-! DEFINITION. The commands of the fabric's ports and link layer (R397-R407, R433-R434). -/

namespace Sys2Proof.Machine

/-! ## Port control and link states -/

/-- FAB_PORT_CTRL.ENABLE written 0 or 1 (R400). An enabled port of an optical group that is off wakes it (R505). -/
def State.enablePort (s : State) (p : Nat) (b : Bool) : State :=
  let d := portDomain p
  let s := s.setBit (Reg.fabPortCtrl p) 0 b
  let s := if b && !s.domainOn d && !s.bit Reg.pwrCtrl 0 then s.setBit Reg.pwrDomainWaking (d - 1) true else s
  s.settlePort p

/-- FAB_PORT_ENABLE. -/
def execFabPortEnable (p : PortId) (b : Bool) (s : State) : Host.Outcome State Fault Refusal :=
  .next (s.enablePort p.val b)

/-- FAB_PORT_RETRAIN, at `us` µs of the always-on clock (R402). -/
def execFabPortRetrain (p : PortId) (us : Nat) (s : State) : Host.Outcome State Fault Refusal :=
  .next (s.enterRetrain p us)

/-- LINK_TRAINING_START (R400, R407). -/
def execLinkTrainingStart (p : PortId) (s : State) : Host.Outcome State Fault Refusal :=
  .next (if s.portState p = portDown ∧ s.bit Reg.fabModuleId 31 = true then
      ((s.setPort p portTraining 0).dropLink p).wr (Reg.fabPortLanes p) 0
    else s)

/-- The cause with which training fails, in the order of the table of R401; 0 where it succeeds. -/
def State.trainCause (s : State) (p id coll mir : Nat) : Nat :=
  let own := s.fld Reg.structLevelsLink 16 16
  if own + 1 < coll ∨ coll + 1 < own then 1
  else if (if p < 16 then id = s.ownId else id ≠ s.partner) then 2
  else if 16 ≤ p ∧ mir ≠ s.fld Reg.structLevelsLink 0 16 then 3
  else 0

/-- Training ends (R401). -/
def State.trained (s : State) (p : Nat) : State :=
  match (s.fab p).peer with
  | some (id, coll, mir) =>
    if s.portState p = portTraining then
      let c := s.trainCause p id coll mir
      if c = 0 then ((s.setPort p portActive 0).setFld (Reg.fabPortLanes p) 0 16 0xFFFF).pump p else s.failPort p c
    else s
  | none => s

/-- LANE_LOCK_TIMEOUT: the lanes of `lanes` have not locked in time (R401). -/
def execLaneLockTimeout (p : PortId) (lanes : BitVec 16) (s : State) : Host.Outcome State Fault Refusal :=
  .next (if s.portState p = portTraining ∧ lanes ≠ 0 then
      (s.failPort p 4).setFld (Reg.fabPortLanes p) 0 16 (0xFFFF - lanes.toNat)
    else s)

/-- LANE_LOCK_LOSS (R402). -/
def execLaneLockLoss (p : PortId) (lane : Fin 16) (us : Nat) (s : State) : Host.Outcome State Fault Refusal :=
  .next (if s.portState p = portActive ∨ s.portState p = portRetrain then
      ((s.setBit (Reg.fabPortLanes p) lane.val false).setBit (Reg.fabPortLanes p) (16 + lane.val) true).enterRetrain p us
    else s)

/-- RETRAIN_DONE (R402): what was held goes on in order. -/
def execRetrainDone (p : PortId) (s : State) : Host.Outcome State Fault Refusal :=
  .next (if s.portState p = portRetrain then
      ((s.setPort p portActive 0).setFld (Reg.fabPortLanes p) 0 16 0xFFFF).pump p
    else s)

/-- RETRAIN_TIMEOUT (R402). -/
def execRetrainTimeout (p : PortId) (s : State) : Host.Outcome State Fault Refusal :=
  .next (if s.portState p = portRetrain then s.failPort p 5 else s)

/-- PEER_ORDERLY_CLOSE (R507). -/
def execPeerOrderlyClose (p : PortId) (s : State) : Host.Outcome State Fault Refusal :=
  .next (if s.portState p = portTraining ∨ s.portState p = portActive ∨ s.portState p = portRetrain then
      (s.setPort p portDown 0).dropLink p
    else s)

/-! ## Flits -/

/-- The DATA flits up to `ack` are acknowledged (R405); any progress ends a run of consecutive replays. -/
def FabPort.acked (x : FabPort) (ack : Nat) : FabPort :=
  match x.unacked.findIdx? (fun f => f.1 == ack) with
  | some i => { x with unacked := x.unacked.drop (i + 1), replays := 0 }
  | none => x

/-- Credits returned (R406): no more than the 256 units of a receive buffer are ever held. -/
def FabPort.credited (x : FabPort) (cs : List Nat) : FabPort :=
  { x with credits := (List.range 6).map (fun v => min 256 (x.credits.getD v 0 + cs.getD v 0)) }

/-- What a good flit says of the other direction, and what may then be sent. -/
def State.flitBack (s : State) (p : Nat) (f : Flit) : State :=
  (s.setFab p (((s.fab p).acked f.ack).credited f.credits)).pump p

/-- FLIT_DATA (R405): corrected codewords are counted (R404); a bad flit is discarded with every flit after it, and one
NAK names the expected SEQ. -/
def execFlitData (p : PortId) (f : Flit) (s : State) : Host.Outcome State Fault Refusal :=
  .next (if s.portState p = portActive then
      let s := s.count (Reg.fabPortStatCe p) f.corrected.val
      if !f.bad && f.seq == (s.fab p).recvSeq then
        let s := s.flitBack p f
        let x := s.fab p
        let s := s.setFab p { x with recvSeq := (x.recvSeq + 1) % 4096, nakSent := false,
                                     inbox := x.inbox ++ f.pkts.filter knownPacket }
        if p < 16 then (f.pkts.filter (fun k => !knownPacket k)).foldl State.passUnknown s else s
      else s.setFab p { s.fab p with nakSent := true }
    else s)

/-- FLIT_IDLE (R403). -/
def execFlitIdle (p : PortId) (f : Flit) (s : State) : Host.Outcome State Fault Refusal :=
  .next (if s.portState p = portActive then
      let s := s.count (Reg.fabPortStatCe p) f.corrected.val
      if f.bad then s else s.flitBack p f
    else s)

/-- FLIT_NAK (R405): the flits before SEQ have arrived; the rest are sent again. The eighth replay in a row enters
RETRAIN (R402). -/
def execFlitNak (p : PortId) (f : Flit) (us : Nat) (s : State) : Host.Outcome State Fault Refusal :=
  .next (if s.portState p = portActive then
      let s := s.count (Reg.fabPortStatCe p) f.corrected.val
      if f.bad then s
      else
        let x := ((s.fab p).acked ((f.seq + 4095) % 4096)).credited f.credits
        let s := (s.setFab p { x with replays := x.replays + 1 }).count (Reg.fabPortStatReplay p) x.unacked.length
        if 8 ≤ (s.fab p).replays then s.enterRetrain p us else s.pump p
    else s)

/-- FLIT_TRAIN (R401): the peer's identity and levels. -/
def execFlitTrain (p : PortId) (id : Fin 2048) (coll mir : BitVec 16) (s : State) : Host.Outcome State Fault Refusal :=
  .next (if s.portState p = portTraining then
      let s := s.setFab p { s.fab p with peer := some (id.val, coll.toNat, mir.toNat) }
      let s := s.setFld (Reg.fabPortStatus p) 0 12 (0x800 + id.val)
      s.wr (Reg.fabPortPeer p) (BitVec.ofNat 32 (coll.toNat * 0x10000 + mir.toNat))
    else s)

/-! ## Module ID and counters -/

/-- FAB_MODULE_ID_WRITE (R407, R434): the first write sets ID and VALID, later ones WRITE_IGNORED, which a write of 1
clears. -/
def State.writeModuleId (s : State) (v : Word) : State :=
  if s.bit Reg.fabModuleId 31 then s.setBit Reg.fabModuleId 30 (!v.getLsbD 30)
  else (s.setFld Reg.fabModuleId 0 11 (fieldOf v 0 11)).setBit Reg.fabModuleId 31 true

/-- FAB_MODULE_ID_WRITE. -/
def execFabModuleIdWrite (v : Word) (s : State) : Host.Outcome State Fault Refusal :=
  .next (s.writeModuleId v)

/-- The counters of a port, and those of the fabric as a whole. -/
def fabPortCtrs (p : Nat) : List Nat := [Reg.fabPortStatCe p, Reg.fabPortStatReplay p, Reg.fabPortStatRetrain p]
def fabCtrs : List Nat := [Reg.fabStatNoroute, Reg.fabStatTimeout, Reg.fabStatLate]

/-- FAB_PORT_CTR_CLEAR (R434). -/
def execFabPortCtrClear (p : PortId) (s : State) : Host.Outcome State Fault Refusal :=
  .next (s.clear (fabPortCtrs p.val))

/-- FAB_CTR_CLEAR (R434). -/
def execFabCtrClear (s : State) : Host.Outcome State Fault Refusal :=
  .next (s.clear fabCtrs)

end Sys2Proof.Machine
end

