-- ==== Sys2Proof/Machine/BarOps.lean ====
section
/-! DEFINITION. The layer barrier of a partition as this module sees it (R343, R344), and which of its points are step
boundaries and epoch boundaries (R442). -/

namespace Sys2Proof.Machine

/-- Task `k` of tile `t` counts as arrived (condition 3 of R343). -/
def State.countsArrived (s : State) (t k : Nat) : Bool :=
  [taskFree, taskEnded, taskCancelled].contains (s.taskState t k) ||
    (s.taskState t k == taskWaiting && (s.task t k).arrived)

/-- Task `k` of tile `t` waits at the barrier. -/
def State.atBarrier (s : State) (t k : Nat) : Bool := s.taskState t k == taskWaiting && (s.task t k).arrived

/-- The tasks of partition `q`. -/
def State.tasksOf (s : State) (q : Nat) : List (Nat × Nat) :=
  (s.tilesOf q).flatMap (fun t => (List.range 4).map (fun k => (t, k)))

/-- A Yoke instance of partition `q` is open (R306). -/
def State.instOpen (s : State) (q : Nat) : Bool := s.insts.any (fun i => i.1 / 16 == q && i.2.pieces.any (fun p => p.2.state != .done))

/-- Conditions 1 to 4 of R343; at the start barrier no task runs and every task counts as arrived (R444). -/
def State.quiet (s : State) (q : Nat) : Bool :=
  (s.slot q).atStart ||
    ((s.tasksOf q).any (fun (t, k) => s.atBarrier t k) &&
      (s.tasksOf q).all (fun (t, k) => s.countsArrived t k && (!s.atBarrier t k || s.workEnded t k)) &&
      !s.instOpen q && (s.tilesOf q).all (fun t => !s.shawlActive t))

/-- No task of the partition is RUNNING or WAITING (R58). -/
def State.noTask (s : State) (q : Nat) : Bool :=
  (s.tasksOf q).all (fun (t, k) => s.taskState t k != taskRunning && s.taskState t k != taskWaiting)

/-- The point is a step boundary (R344). -/
def State.atStep (s : State) (q : Nat) : Bool :=
  !(s.slot q).atStart && (s.tasksOf q).any (fun (t, k) => s.atBarrier t k && (s.task t k).bars)

/-- STEP as it stands after the release of the present point. -/
def State.stepAfter (s : State) (q : Nat) : Nat :=
  if s.atStep q then ((s.slot q).step + 1) % 0x100000000 else (s.slot q).step

/-- The point is an epoch boundary (R442, R444, R470). -/
def State.epochPoint (s : State) (q : Nat) : Bool :=
  let x := s.slot q
  let every := s.fld (Reg.mirrorCfg q) 0 16
  x.atStart || (x.epochNext && s.atStep q) ||
    (every != 0 && (if s.bit (Reg.mirrorCfg q) 20 then x.barriers % every == 0 else s.atStep q && s.stepAfter q % every == 0))

/-- The epoch that the next boundary commits: epoch 0 at the start barrier, otherwise one more than the last (R444). -/
def State.nextEpoch (s : State) (q : Nat) : Nat :=
  if (s.slot q).atStart || (s.slot q).state == .ready then 0 else ((s.slot q).epoch + 1) % 0x10000

/-- The pending commit applies at the present point (R58); once the epoch's pages are being taken, it waits for the next. -/
def State.commitDue (s : State) (q : Nat) : Bool :=
  let x := s.slot q
  s.fld (Reg.structCommitStatus q) 0 2 == 1 && !x.commitWait && x.phase == 0 && s.quiet q &&
    (x.goAny || (s.atStep q && (s.rd (Reg.structCommitStep q)).toNat ≤ s.stepAfter q))

/-- A commit holds the present point (R58, R59). -/
def State.commitHolds (s : State) (q : Nat) : Bool := s.commitDue q || (s.slot q).commitWait

end Sys2Proof.Machine
end

