-- ==== Sys2Proof/Machine/Credit.lean ====
section
/-! DEFINITION. Credited channels (R373-R375): grants, credited writes and end marks of the privileged sources. -/

namespace Sys2Proof.Machine

/-! ## The Shawl ring of a tile, as its tile words hold it (R309) -/

/-- Word `i` of tile `t`'s RESIDENCY entry. -/
def State.shW (s : State) (t i : Nat) : Nat := (s.rd (Reg.shawlTileW (t / 64) (t % 64) i)).toNat
def State.shPos (s : State) (t : Nat) : Nat := bitsOf (s.shW t 0) 16 8
def State.shRlen (s : State) (t : Nat) : Nat := bitsOf (s.shW t 0) 24 8 + 1
def State.shF (s : State) (t : Nat) : Nat := bitsOf (s.shW t 1) 0 8
def State.shSlot (s : State) (t : Nat) : Nat := bitsOf (s.shW t 1) 8 2
def State.shQueue (s : State) (t : Nat) : Nat := bitsOf (s.shW t 1) 12 4
def State.shSucc (s : State) (t : Nat) : Nat := bitsOf (s.shW t 1) 16 8
def State.shPred (s : State) (t : Nat) : Nat := bitsOf (s.shW t 1) 24 8
/-- Bytes of a segment, and the number of resident segments (R310). -/
def State.shG (s : State) (t : Nat) : Nat := s.shW t 2 / 256
def State.shNseg (s : State) (t : Nat) : Nat := 256 - s.shF t
def State.shSpillBase (s : State) (t : Nat) : Nat := s.shW t 6 + 0x100000000 * s.shW t 7
def State.shTurn (s : State) (t : Nat) : Nat := s.fld (Reg.shawlStatus (t / 64) (t % 64)) 23 8

/-- The physical offset of segment slot `k` (R311): slot NSEG is the landing slot. -/
def State.shSlotOff (s : State) (t k : Nat) : Nat :=
  (s.rd (Reg.pocketSlotBase t (s.shSlot t))).toNat +
    (if k = s.shNseg t then s.shW t 5 else s.shW t 4 + k * s.shG t)

/-! ## Scope (R373) -/

/-- The span of a request lies in the Pocket and in the source's scope. -/
def State.creditScope (s : State) (t : Nat) (o : Origin) (off len : Nat) : Bool :=
  0 < len && len ≤ 0x40000 && off + len ≤ pocketBytes &&
    (if (0x40 ≤ o.req && o.req < 0x48) || o.req == 0x52 then true
     else if 0x48 ≤ o.req && o.req < 0x50 then s.partOf t == some o.part
     else if o.req = 0x50 then
       (s.slot o.part).mset.any (fun (a, n) =>
         gaSpace a == 0 && gaTile a == t && inRange (gaPocketOff a) (0x10000 * n) off len)
     else if o.req = 0x20 then
       o.module == s.moduleId && s.shawlSlot t == some (s.shSlot t) && s.shPred t == o.tile && len == s.shG t &&
         (List.range (s.shNseg t + 1)).any (fun k => s.shSlotOff t k == off)
     else false)

/-- A Shawl grant is given only while its slot is free (R374). -/
def State.creditSlotFree (s : State) (t : Nat) (o : Origin) (off : Nat) : Bool :=
  o.req != 0x20 || (s.shawl t).free.any (fun k => s.shSlotOff t k == off)

/-- The lowest free grant entry of tile `t`. -/
def State.creditFree (s : State) (t : Nat) : Option Nat :=
  (List.range 8).find? (fun e => (tfind (s.tile t).grants e).isNone)

/-- Gives a grant for the span; `pending` writes are under way. -/
def State.giveCredit (s : State) (t e : Nat) (o : Origin) (off len pending : Nat) (ended : Bool) : State :=
  let g : CreditGrant := { src := o, off := off, len := len, pending := pending, ended := ended }
  let s := s.setTile t { s.tile t with grants := tset (s.tile t).grants e g }
  (s.refreshCredits t).count (Reg.creditStatGrants t) 1

/-- A request that is refused transfers no byte (R375): it is counted and latched at the destination; a Shawl mover's
task aborts, and for any other source a record is written. -/
def State.creditRefuse (s : State) (t : Nat) (o : Origin) (off len code unit : Nat) : State :=
  let s := s.latchRefusal t o true 0 code off
  if o.req = 0x20 then
    s.chargeTask o.tile (s.shSlot o.tile) 6 code 0 id (fun s => s.winCtx t)
  else if unit = 1 then s.pocketRecord t code (s.failOff t code off (wordsOf off len)) (s.rd (Reg.pocketErrAddr t)).toNat
  else s.recordOnly code unit 0 (some t) (s.partOf t) (s.winCtx t).1 (s.winCtx t).2.1 (s.winCtx t).2.2

/-- An entry that holds a grant of `o` for the bytes. -/
def State.creditHeld (s : State) (t : Nat) (o : Origin) (off len : Nat) : Bool :=
  (s.tile t).grants.any (fun (_, g) => g.src == o && !g.ended && inRange g.off g.len off len)

/-- Grants the first waiting request that can have an entry. -/
def State.creditServe (s : State) (t : Nat) : List CreditReq → List CreditReq → State
  | _, [] => s
  | done, r :: rest =>
    match s.creditFree t with
    | none => s
    | some e =>
      if s.creditSlotFree t r.src r.off then
        let s := s.setTile t { s.tile t with creditWait := done ++ rest }
        s.giveCredit t e r.src r.off r.len 0 false
      else s.creditServe t (done ++ [r]) rest

/-- Frees the entries whose grants have ended with every write landed (R374). -/
def State.freeEntry (s : State) (t e : Nat) : State :=
  (s.setTile t { s.tile t with grants := tdel (s.tile t).grants e }).refreshCredits t

/-- Aligned 128 B blocks of a span: WP1 accesses. -/
def blocksOf (off len : Nat) : Nat := if len = 0 then 0 else (off + len - 1) / 128 - off / 128 + 1

/-! ## Commands -/

/-- CREDIT_GRANT_REQUEST (R374, R375). -/
def execCreditGrantRequest (t : TileId) (src : Origin) (off len : Nat) (s : State) : Host.Outcome State Fault Refusal :=
  .next (
    if !s.creditScope t src off len then s.creditRefuse t src off len 0x0A 7
    else match s.creditFree t with
      | some e =>
        if s.creditSlotFree t src off && (s.tile t).creditWait.isEmpty then s.giveCredit t e src off len 0 false
        else s.setTile t { s.tile t with creditWait := (s.tile t).creditWait ++ [{ src := src, off := off, len := len }] }
      | none => s.setTile t { s.tile t with creditWait := (s.tile t).creditWait ++ [{ src := src, off := off, len := len }] })

/-- CREDIT_GRANT: a waiting request receives an entry. -/
def execCreditGrant (t : TileId) (s : State) : Host.Outcome State Fault Refusal :=
  .next (s.creditServe t [] (s.tile t).creditWait)

/-- CREDITED_WRITE (R375): a write outside every grant of its source is answered with CREDIT_UNDERFLOW; R79, R81 and R88
apply after the grant check. -/
def execCreditedWrite (t : TileId) (src : Origin) (off : Nat) (data : List (Option Byte)) (s : State) :
    Host.Outcome State Fault Refusal :=
  .next (
    if !s.creditHeld t src off data.length then s.creditRefuse t src off data.length 0x0A 7
    else
      match (s.count (Reg.placketStatRemoteIn t) (blocksOf off data.length)).pocketWrite t off data (src.req != 0x50) with
      | (s, 0) => s
      | (s, c) =>
        let s := s.creditRefuse t src off data.length c 1
        match c, s.partOf t with
        | 0x02, some q => s.jobFault q 0x02 1 1 0 (some t)
            (s.failOff t 0x02 off (wordsOf off data.length)) (s.rd (Reg.pocketErrAddr t)).toNat 0
        | _, _ => s)

/-- CREDIT_END_MARK: the source's oldest grant that has not ended. -/
def execCreditEndMark (t : TileId) (src : Origin) (s : State) : Host.Outcome State Fault Refusal :=
  .next (match (s.tile t).grants.find? (fun (_, g) => g.src == src && !g.ended) with
    | none => s
    | some (e, g) => s.setTile t { s.tile t with grants := tset (s.tile t).grants e { g with ended := true } })

/-- CREDIT_ENTRY_FREE. -/
def execCreditEntryFree (t : TileId) (e : Fin 8) (s : State) : Host.Outcome State Fault Refusal :=
  .next (match tfind (s.tile t).grants e with
    | none => s
    | some g => if g.ended && g.pending = 0 then s.freeEntry t e else s)

end Sys2Proof.Machine
end

