-- ==== Sys2Proof/Machine/TensorOps.lean ====
section
/-! DEFINITION. Tensor descriptors and owner tables (R96, R105-R127). -/

namespace Sys2Proof.Machine

/-- A tensor descriptor's 128 bytes (R119). -/
structure TDesc where
  bytes : List Byte
deriving DecidableEq, Repr

def TDesc.num (d : TDesc) (off n : Nat) : Nat := leNat ((d.bytes.drop off).take n)
def TDesc.id (d : TDesc) : Nat := d.num 0 2
def TDesc.elem (d : TDesc) : Nat := d.num 2 1 / 16
def TDesc.format (d : TDesc) : Nat := d.num 2 1 % 16
def TDesc.dist (d : TDesc) : Bool := (d.num 3 1).testBit 7
def TDesc.kind (d : TDesc) : Nat := bitsOf (d.num 3 1) 3 3
/-- Plane width w; 1 for types without planes. -/
def TDesc.width (d : TDesc) : Nat := bitsOf (d.num 3 1) 0 3 + 1
def TDesc.recipe (d : TDesc) : Nat := d.num 4 1
def TDesc.nmCode (d : TDesc) : Nat := d.num 5 1
def TDesc.rank (d : TDesc) : Nat := d.num 6 1
def TDesc.shape (d : TDesc) (i : Nat) : Nat := d.num (8 + 4 * i) 4
/-- STRIDE1, STRIDE2 and STRIDE3, numbered from 0. -/
def TDesc.stride (d : TDesc) (i : Nat) : Nat := d.num (0x18 + 4 * i) 4
def TDesc.nvalCap (d : TDesc) : Nat := d.num 0x24 4
def TDesc.base (d : TDesc) : Nat := d.num 0x28 8
def TDesc.val0 (d : TDesc) : Nat := d.num 0x30 8
def TDesc.val1 (d : TDesc) : Nat := d.num 0x38 8
def TDesc.map (d : TDesc) : Nat := d.num 0x40 8
def TDesc.ptrHi (d : TDesc) : Nat := d.num 0x48 8
def TDesc.ptrLo (d : TDesc) : Nat := d.num 0x50 8
def TDesc.idxCol (d : TDesc) : Nat := d.num 0x58 8
def TDesc.idxRow (d : TDesc) : Nat := d.num 0x60 8
def TDesc.gmap (d : TDesc) : Nat := d.num 0x68 8
def TDesc.pocc (d : TDesc) : Nat := d.num 0x70 8
def TDesc.scale (d : TDesc) : Nat := d.num 0x78 8
/-- Columns and rows of the matrix view (R96). -/
def TDesc.nc (d : TDesc) : Nat := d.shape 0
def TDesc.nr (d : TDesc) : Nat := d.shape 1 * d.shape 2 * d.shape 3

/-- The value index of element (r, c) of a DENSE tensor that is not distributed (R107). -/
def TDesc.denseAt (d : TDesc) (r c : Nat) : Nat :=
  c + r % d.shape 1 * d.stride 0 + r / d.shape 1 % d.shape 2 * d.stride 1 + r / d.shape 1 / d.shape 2 * d.stride 2

/-- An absent plane or address. -/
def noneAddr : Nat := 0xFFFFFFFFFFFFFFFF

def fmtDense : Nat := 0
def fmtBmap : Nat := 1
def fmtNm : Nat := 2
def fmtClist : Nat := 3
def fmtCrow : Nat := 4

def ceilDiv (a b : Nat) : Nat := (a + b - 1) / b

/-- N and M of an NM_CODE (R110). -/
def nmRatio : Nat → Nat × Nat
  | 1 => (1, 4)
  | 2 => (2, 4)
  | 3 => (1, 8)
  | 4 => (2, 8)
  | 5 => (4, 8)
  | 6 => (4, 16)
  | _ => (1, 1)

/-- The descriptor of TENSOR_ID `i` in partition `q`. -/
def State.tensor (s : State) (q i : Nat) : Option TDesc := (tfind (s.slot q).tensors i).map (fun b => { bytes := b })

/-- An owner table's body (R125). -/
structure OTable where
  bytes : List Byte
deriving DecidableEq, Repr

def OTable.num (o : OTable) (off n : Nat) : Nat := leNat ((o.bytes.drop off).take n)
def OTable.blockRows (o : OTable) : Nat := o.num 4 4
def OTable.blockCols (o : OTable) : Nat := o.num 8 4
def OTable.gridRows (o : OTable) : Nat := o.num 0x0C 4
def OTable.gridCols (o : OTable) : Nat := o.num 0x10 4
def OTable.blockBytes (o : OTable) : Nat := o.num 0x14 4
def OTable.entry (o : OTable) (i : Nat) : Nat := o.num (0x20 + 8 * i) 8

def State.owner (s : State) (q i : Nat) : Option OTable := (tfind (s.slot q).owners i).map (fun b => { bytes := b })

/-- Bytes of this module's memory at a global data address, without checks. -/
def State.gaBytes (s : State) (a n : Nat) : List Byte :=
  if gaSpace a = 0 then mread s.pocket (pkey (gaTile a) (gaPocketOff a)) n else mread s.hbm (gaHbmOff a) n

end Sys2Proof.Machine
end

