-- ==== Sys2Proof/Machine/Yoke.lean ====
section
/-! DEFINITION. The Yokes (spec 10): assignments, the cut and its K-splits, taking, stealing, chains, done and return. -/

namespace Sys2Proof.Machine

/-! ## Assignments (R294, R295) -/

/-- Word `i` of assignment `a` of partition `q` in panel `p`'s table. -/
def State.asgW (s : State) (p q a i : Nat) : Word := s.rd (Reg.yokeAsgW p q a i)
def State.asgEns (s : State) (p q a : Nat) : Nat := fieldOf (s.asgW p q a 0) 8 8
def State.asgSource (s : State) (p q a : Nat) : Nat := fieldOf (s.asgW p q a 0) 16 8
def State.asgQlog2 (s : State) (p q a : Nat) : Nat := fieldOf (s.asgW p q a 0) 24 8
def State.asgTensor (s : State) (p q a : Nat) : Nat := fieldOf (s.asgW p q a 1) 0 16
def State.asgPpt (s : State) (p q a : Nat) : Nat := fieldOf (s.asgW p q a 1) 16 8
def State.asgSteal (s : State) (p q a : Nat) : Nat := fieldOf (s.asgW p q a 1) 24 8
def State.asgValid (s : State) (p q a : Nat) : Bool := (s.asgW p q a 9).getLsbD 0

/-- The members of ensemble `e` of partition `q`, rising (R294). -/
def State.ensMembers (s : State) (p q e : Nat) : List Nat :=
  if s.bit (Reg.yokeEnsCfg p q e) 31 then
    (List.range 256).filter (fun t => s.bit (Reg.yokeEnsMask p q e (t / 32)) (t % 32))
  else []

def instKey (q a : Nat) : Nat := 16 * q + a
def State.inst (s : State) (q a : Nat) : Option Inst := tfind s.insts (instKey q a)
def State.setInst (s : State) (q a : Nat) (x : Inst) : State := { s with insts := tset s.insts (instKey q a) x }

/-- Tile `t` is a member of the ensemble that assignment `a` serves. -/
def State.isMember (s : State) (t q a : Nat) : Bool :=
  s.asgValid (t / 64) q a && (s.ensMembers (t / 64) q (s.asgEns (t / 64) q a)).contains t

/-! ## Faults (R320) -/

def State.latchYokeErr (s : State) (t code sub : Nat) : State :=
  if s.bit (Reg.yokeErrInfo (t / 64)) 31 then s
  else s.wr (Reg.yokeErrInfo (t / 64)) (BitVec.ofNat 32 (0x80000000 + code * 0x10000 + sub * 0x100 + t))

/-- A Yoke or Shawl fault charged to a task. -/
def State.yokeFault (s : State) (t k code sub : Nat) : State :=
  s.chargeTask t k 6 code sub (fun s => s.latchYokeErr t code sub)
    (fun s => (0, (s.rd (Reg.yokeErrInfo (t / 64))).toNat, (s.rd (Reg.shawlStatus (t / 64) (t % 64))).toNat))

/-! ## The cut (R297, R298, R301) -/

/-- The fields of an assignment that the cut depends on. -/
structure CutArgs where
  members : List Nat
  ppt : Nat
  qrows : Nat
  rowFirst : Nat
  rows : Nat
  kLo : Nat
  kHi : Nat
  overhead : Nat
  splitLimit : Nat
  splitMax : Nat
  maxParts : Nat
  kstep : Nat
deriving DecidableEq, Repr

def State.cutArgs (s : State) (p q a : Nat) : CutArgs :=
  let w (i : Nat) : Nat := (s.asgW p q a i).toNat
  { members := s.ensMembers p q (s.asgEns p q a), ppt := s.asgPpt p q a, qrows := 2 ^ s.asgQlog2 p q a,
    rowFirst := w 2, rows := w 3, kLo := w 4, kHi := w 5, overhead := w 6, splitLimit := w 7,
    splitMax := bitsOf (w 8) 0 16, maxParts := bitsOf (w 8) 16 8, kstep := 2 ^ bitsOf (w 8) 24 8 }

def CutArgs.quanta (c : CutArgs) : Nat := ceilDiv c.rows c.qrows

/-- The part count of a split quantum: 1 where it is not split. -/
def CutArgs.parts (c : CutArgs) (w : Nat) : Nat :=
  if c.splitLimit = 0 ∨ w ≤ c.splitLimit then 1
  else
    let need := ceilDiv w c.splitLimit
    let p := min (if need ≤ 2 then 2 else if need ≤ 4 then 4 else 8) c.maxParts
    let n := ceilDiv (c.kHi - c.kLo) c.kstep
    let halve (p : Nat) : Nat := if n < p then p / 2 else p
    max 1 (halve (halve (halve p)))

/-- The part count of every quantum, in ascending order, at most SPLIT_MAX of them split. -/
def CutArgs.splits (c : CutArgs) : Nat → List Nat → List Nat
  | _, [] => []
  | left, w :: ws =>
    let p := c.parts w
    if left = 0 ∨ p ≤ 1 then 1 :: c.splits left ws else p :: c.splits (left - 1) ws

/-- Prefix sums. -/
def prefixSums (ws : List Nat) : List Nat := ws.foldl (fun ps w => ps ++ [ps.getLastD 0 + w]) [0]

/-- A run of quanta [a, b) as a piece of the whole K range. -/
def CutArgs.plain (c : CutArgs) (home a b : Nat) : Piece :=
  { rowFirst := c.rowFirst + a * c.qrows, rows := min (b * c.qrows) c.rows - a * c.qrows, kLo := c.kLo, kHi := c.kHi,
    chain := false, part := 0, partsLog2 := 0, home := home, prev := 0, state := .ready, reserved := none }

/-- The parts of a split quantum. -/
def CutArgs.chainOf (c : CutArgs) (home a p : Nat) : List Piece :=
  let n := ceilDiv (c.kHi - c.kLo) c.kstep
  let start (j : Nat) : Nat := if j = p then c.kHi else c.kLo + c.kstep * (j * n / p)
  (List.range p).map (fun j =>
    { c.plain home a (a + 1) with kLo := start j, kHi := start (j + 1), chain := true, part := j,
                                  partsLog2 := Nat.log2 p, state := if j = 0 then .ready else .chained })

/-- The pieces of the quanta [a, b) of one cut piece: runs between split quanta, and the parts of those. -/
def CutArgs.carve (c : CutArgs) (home : Nat) (ps : List Nat) : Nat → Nat → Nat → List Piece
  | 0, a, b => if a < b then [c.plain home a b] else []
  | n + 1, a, b =>
    match (List.range (b - a)).find? (fun i => 1 < ps.getD (a + i) 1) with
    | none => if a < b then [c.plain home a b] else []
    | some i =>
      (if i = 0 then [] else [c.plain home a (a + i)]) ++ c.chainOf home (a + i) (ps.getD (a + i) 1) ++
        c.carve home ps n (a + i + 1) b

/-- The numbered pieces of an instance from the work counts (R298, R301), and the number of quanta split. -/
def CutArgs.pieces (c : CutArgs) (counts : List Nat) : List (Nat × Piece) × Nat :=
  let ws := counts.map (· + c.overhead)
  let pre := prefixSums ws
  let total := pre.getLastD 0
  let np := c.members.length * c.ppt
  let bound (k : Nat) : Nat := ((List.range (c.quanta + 1)).find? (fun q => k * total ≤ np * pre.getD q 0)).getD c.quanta
  let ps := c.splits c.splitMax ws
  let all := ((List.range np).map (fun k =>
    c.carve (c.members.getD (k / c.ppt) 0) ps c.splitMax (bound k) (bound (k + 1)))).flatten
  ((List.range all.length).zip all, (ps.filter (1 < ·)).length)

/-! ## The counts (R297) -/

/-- Entry `e` of a pointer pair at global base `b` (R100). -/
def State.ptrAt (s : State) (d : TDesc) (e : Nat) : Nat :=
  leNat (s.gaBytes (d.base + d.ptrHi + 2 * e) 2) * 65536 + leNat (s.gaBytes (d.base + d.ptrLo + 2 * e) 2)

/-- The counts of every quantum; an error names the subcode of R320. -/
def State.workCounts (s : State) (p q a : Nat) : Except Nat (List Nat) :=
  let c := s.cutArgs p q a
  let src := s.asgSource p q a
  let n := c.quanta
  if src = 0 then .ok (List.replicate n 0)
  else match s.tensor q (s.asgTensor p q a) with
    | none => .error 0x03
    | some d =>
      let here := d.base != noneAddr && gaSpace d.base ≤ 1 && gaModule d.base == s.moduleId && !d.dist
      let rowsOf (i : Nat) : Nat × Nat := (c.rowFirst + i * c.qrows, c.rowFirst + min ((i + 1) * c.qrows) c.rows)
      if !here then .error 0x03
      else if src = 3 then
        if d.nc < n then .error 0x03
        else
          let v (i : Nat) : Int := i32Of (leNat (s.gaBytes (d.base + d.val0 + 2 * i) 2)) (leNat (s.gaBytes (d.base + d.val1 + 2 * i) 2))
          if (List.range n).any (fun i => v i < 0) then .error 0x04 else .ok ((List.range n).map (fun i => (v i).toNat))
      else if d.nr < c.rowFirst + c.rows then .error 0x03
      else
        let entries := if src = 1 then ceilDiv d.nc 65536 * d.nr + 1 else ceilDiv d.nr 16 + 1
        let bad := (List.range (entries - 1)).any (fun e => s.ptrAt d (e + 1) < s.ptrAt d e) ||
          d.nvalCap < s.ptrAt d (entries - 1)
        if bad then .error 0x04
        else if src = 1 then
          .ok ((List.range n).map (fun i =>
            let (lo, hi) := rowsOf i
            (List.range (ceilDiv d.nc 65536)).foldl (fun x b => x + (s.ptrAt d (b * d.nr + hi) - s.ptrAt d (b * d.nr + lo))) 0))
        else
          .ok ((List.range n).map (fun i =>
            let (lo, hi) := rowsOf i
            s.ptrAt d ((hi - 1) / 16 + 1) - s.ptrAt d (lo / 16)))

/-! ## Instances -/

/-- Pieces not yet reported done. -/
def Inst.openPieces (x : Inst) : Nat := (x.pieces.filter (fun p => p.2.state != .done)).length

/-- YOKE_STATUS.PIECES_OPEN of panel `p`: pieces of the instances it leads. -/
def State.refreshYoke (s : State) (p : Nat) : State :=
  s.setFld (Reg.yokeStatus p) 0 13 ((s.insts.filter (fun i => i.2.lead == p)).foldl (fun n i => n + i.2.openPieces) 0)

/-- Task `k` of tile `t` holds an unreported piece of the instance. -/
def Inst.holds (x : Inst) (t k : Nat) : Bool := x.pieces.any (fun p => p.2.state == .held t k)

/-- No piece is left to hand out. -/
def Inst.allTaken (x : Inst) : Bool := x.pieces.all (fun p => p.2.state != .ready && p.2.state != .chained)

/-- Piece `n` is takeable by tile `t`. -/
def Inst.takeable (x : Inst) (t n : Nat) : Bool :=
  match tfind x.pieces n with
  | some p => p.state == .ready && (p.reserved.isNone || p.reserved == some t)
  | none => false

/-- The highest takeable piece in the steal queue of panel `p`. -/
def Inst.stealFrom (x : Inst) (t p : Nat) : Option Nat :=
  (((x.lists.filter (fun l => l.1 / 64 == p)).map (·.2)).flatten.filter (x.takeable t)).foldl
    (fun m n => some (match m with | some k => max k n | none => n)) none

/-- The piece that a take of tile `t` is served with (R304). -/
def Inst.pick (x : Inst) (t : Nat) : Option Nat :=
  let own := match (tget x.lists [] t).head? with
    | some n => if x.takeable t n then some n else none
    | none => none
  let p := t / 64
  let local' := if x.steal = 0 then none else x.stealFrom t p
  let far := if x.steal = 2 then
      ((x.stealFrom t (p ^^^ 1)).or (x.stealFrom t (p ^^^ 2))).or (x.stealFrom t (p ^^^ 3)) else none
  (own.or local').or far

/-- The tile in whose list a piece waits. -/
def Inst.listOf (x : Inst) (n : Nat) : Nat := ((x.lists.find? (fun l => l.2.contains n)).map (·.1)).getD 0

/-- The words of R303 for a piece taken by tile `t`. -/
def pieceWords (t n : Nat) (p : Piece) : List Word :=
  [BitVec.ofNat 32 (0x80000000 + (if p.home = t then 0 else 0x40000000) + (if p.chain then 0x20000000 else 0) +
      p.part * 0x4000000 + p.partsLog2 * 0x1000000 + n * 0x800 + p.prev),
   BitVec.ofNat 32 p.rowFirst, BitVec.ofNat 32 p.rows, BitVec.ofNat 32 p.kLo, BitVec.ofNat 32 p.kHi]

/-- Writes cRD to cRD + 4, and the take completes. -/
def State.finishTake (s : State) (t k : Nat) (ws : List Word) : State :=
  let rd := rdOf (s.fetch t k)
  ((List.range 5).foldl (fun s i => s.setCreg t k (rd + i) (ws.getD i 0)) s).complete t k

/-- Serves a take: hands out a piece, answers VALID = 0 where none is left (the other fields of that answer are free),
or leaves the take waiting (R304, R306). The second component says whether it was served. -/
def State.serveTake (s : State) (q a t k : Nat) (x : Inst) : State × Bool :=
  let drop (y : Inst) : Inst := { y with waiting := y.waiting.filter (· != (t, k)) }
  if x.computing then (s, false)
  else match x.pick t with
    | some n =>
      match tfind x.pieces n with
      | none => (s, false)
      | some p =>
        let owner := x.listOf n
        let clear (pp : Nat × Piece) : Nat × Piece :=
          if pp.2.reserved = some t then (pp.1, { pp.2 with reserved := none }) else pp
        let x := { x with lists := x.lists.map (fun l => (l.1, l.2.filter (· != n))),
                          pieces := (tset x.pieces n { p with state := .held t k, reserved := none }).map clear }
        let s := s.setInst q a (drop x)
        let s := s.count (Reg.yokeStatPieces (owner / 64)) 1
        let s := if p.home = t then s
          else s.count (if owner / 64 = t / 64 then Reg.yokeStatStealLocal (owner / 64) else Reg.yokeStatStealRemote (owner / 64)) 1
        (s.finishTake t k (pieceWords t n p), true)
    | none =>
      if x.allTaken then
        let n := s.freeCtr
        let w0 := (Config.freeWord n) &&& 0x7FFFF8FF
        let s := { s with freeCtr := n + 5 }
        ((s.setInst q a (drop x)).finishTake t k
          (w0 :: (List.range 4).map (fun i => Config.freeWord (n + 1 + i))), true)
      else (s, false)

/-- A waiting take counts a cycle of R305. -/
def State.takeWaits (s : State) (t : Nat) : State := s.count (Reg.yokeStatTakeWait (t / 64)) 1

/-- The first task in a list whose take can be served is served. -/
def State.serveFirst (s : State) (q a : Nat) (x : Inst) : List (Nat × Nat) → State
  | [] => s
  | (t, k) :: ws => match s.serveTake q a t k x with
    | (s', true) => s'
    | (_, false) => (s.takeWaits t).serveFirst q a x ws

/-- Waiting takes in the order they are served: ascending tile (R305). -/
def sortTakes (ws : List (Nat × Nat)) : List (Nat × Nat) :=
  ws.foldl (fun l x => l.filter (fun y => 4 * y.1 + y.2 ≤ 4 * x.1 + x.2) ++ [x] ++
    l.filter (fun y => 4 * x.1 + x.2 < 4 * y.1 + y.2)) []

/-- Puts a piece at the head of a tile's list. -/
def Inst.putHead (x : Inst) (t n : Nat) : Inst :=
  let ls := x.lists.map (fun l => (l.1, l.2.filter (· != n)))
  { x with lists := tset ls t (n :: tget ls [] t) }

/-! ## Commands -/

/-- YSTART (R298). -/
def execYstart (t : TileId) (k : SlotId) (s : State) : Host.Outcome State Fault Refusal :=
  .next (s.issue t k (code 0x38 0x020) (fun w s =>
    let a := (s.opA t k w).toNat % 16
    match s.partOf t with
    | none => s.yokeFault t k 0x12 0x01
    | some q =>
      if !s.isMember t q a then s.yokeFault t k 0x12 0x01
      else match s.inst q a with
        | some _ => s.complete t k
        | none =>
          let ms := s.ensMembers (t / 64) q (s.asgEns (t / 64) q a)
          let lead := ms.headD 0 / 64
          let s := s.setInst q a { members := ms, lead := lead, steal := s.asgSteal (t / 64) q a, starter := (t, k),
                                   computing := true, pieces := [], lists := [], waiting := [] }
          let s := (s.setFld (Reg.yokeStatus lead) 24 4 a).setFld (Reg.yokeStatus lead) 28 3 q
          (s.setBit (Reg.yokeStatus lead) 31 true).complete t k))

/-- YOKE_CUT_DONE (R298-R301): the lead Yoke has read the counts; a fault is charged to the starting task. -/
def execYokeCutDone (q : PartId) (a : Fin 16) (s : State) : Host.Outcome State Fault Refusal :=
  match s.inst q a with
  | none => .next s
  | some x =>
    if !x.computing then .next s
    else
      let s := s.setBit (Reg.yokeStatus x.lead) 31 false
      match s.workCounts x.lead q a with
      | .error sub =>
        let s := { s with insts := tdel s.insts (instKey q a) }
        .next (s.yokeFault x.starter.1 x.starter.2 0x07 sub)
      | .ok cs =>
        let (ps, split) := (s.cutArgs x.lead q a).pieces cs
        let lists := x.members.map (fun m => (m, (ps.filter (fun p => p.2.home == m)).map (·.1)))
        let s := s.setInst q a { x with computing := false, pieces := ps, lists := lists }
        .next ((s.count (Reg.yokeStatSplit x.lead) split).refreshYoke x.lead)

/-- YTAKE (R303, R304, R307). -/
def execYtake (t : TileId) (k : SlotId) (s : State) : Host.Outcome State Fault Refusal :=
  .next (s.issue t k (code 0x38 0x021) (fun w s =>
    let a := (s.opA t k w).toNat % 16
    if rdOf w = 0 ∨ 27 < rdOf w then s.illegal t k 0x05
    else match s.partOf t with
      | none => s.yokeFault t k 0x12 0x01
      | some q =>
        if !s.isMember t q a then s.yokeFault t k 0x12 0x01
        else match s.inst q a with
          | none => s.yokeFault t k 0x12 0x02
          | some x =>
            if x.holds t k then s.yokeFault t k 0x12 0x02
            else match s.serveTake q a t k x with
              | (s', true) => s'
              | (_, false) =>
                let ws := if x.waiting.contains (t.val, k.val) then x.waiting else x.waiting ++ [(t.val, k.val)]
                ((s.setInst q a { x with waiting := ws }).takeWaits t).wait t k 5))

/-- YOKE_TAKE_SERVED (R305, R306). -/
def execYokeTakeServed (q : PartId) (a : Fin 16) (s : State) : Host.Outcome State Fault Refusal :=
  match s.inst q a with
  | none => .next s
  | some x => .next (s.serveFirst q a x (sortTakes x.waiting))

/-- The open instance of partition `q` in which the task holds piece `n`. -/
def State.heldInst (s : State) (q t k n : Nat) : Option (Nat × Inst) :=
  (List.range 16).findSome? (fun a => match s.inst q a with
    | some x => if (tfind x.pieces n).any (fun p => p.state == .held t k) then some (a, x) else none
    | none => none)

/-- A done or return report for a piece the task does not hold (R307, R320). -/
def State.notHeld (s : State) (t k q : Nat) : State :=
  let member := (List.range 16).any (fun a => (s.inst q a).any (fun x => x.members.contains t))
  let openInst := (List.range 16).any (fun a => (s.inst q a).isSome)
  s.yokeFault t k 0x12 (if openInst && !member then 0x01 else 0x02)

/-- YDONE (R302, R306): the next chain part becomes takeable and is reserved for this tile; the instance closes with its
last piece. -/
def execYdone (t : TileId) (k : SlotId) (s : State) : Host.Outcome State Fault Refusal :=
  .next (s.issue t k (code 0x38 0x022) (fun w s =>
    let n := (s.opA t k w).toNat % 8192
    match s.partOf t with
    | none => s.yokeFault t k 0x12 0x01
    | some q =>
      match s.heldInst q t k n with
      | none => s.notHeld t k q
      | some (a, x) =>
        match tfind x.pieces n with
        | none => s.notHeld t k q
        | some p =>
          let x := { x with pieces := tset x.pieces n { p with state := .done } }
          let x := match tfind x.pieces (n + 1) with
            | some p' =>
              if p.chain && p'.chain && p'.state == .chained && p'.part == p.part + 1 then
                Inst.putHead { x with pieces := tset x.pieces (n + 1)
                                          { p' with state := .ready, prev := t.val, reserved := some t.val } } t (n + 1)
              else x
            | none => x
          let s := if x.openPieces = 0 then { s with insts := tdel s.insts (instKey q a) } else s.setInst q a x
          (s.refreshYoke x.lead).complete t k))

/-- YRET (R319): the piece goes back to the head of its home list; a chain part to the tile it is reserved for. -/
def execYret (t : TileId) (k : SlotId) (s : State) : Host.Outcome State Fault Refusal :=
  .next (s.issue t k (code 0x38 0x023) (fun w s =>
    let n := (s.opA t k w).toNat % 8192
    match s.partOf t with
    | none => s.yokeFault t k 0x12 0x01
    | some q =>
      match s.heldInst q t k n with
      | none => s.notHeld t k q
      | some (a, x) =>
        match tfind x.pieces n with
        | none => s.notHeld t k q
        | some p =>
          let later := p.chain && p.part != 0
          let y : Piece := { p with state := .ready, reserved := if later then some p.prev else none }
          let x := { x with pieces := tset x.pieces n y }
          (s.setInst q a (x.putHead (if later then p.prev else p.home) n)).complete t k))

/-- CHAIN_RESERVATION_EXPIRE (R302). -/
def execChainReservationExpire (q : PartId) (a : Fin 16) (p : Nat) (s : State) : Host.Outcome State Fault Refusal :=
  match s.inst q a with
  | none => .next s
  | some x => match tfind x.pieces p with
    | none => .next s
    | some y => .next (s.setInst q a { x with pieces := tset x.pieces p { y with reserved := none } })

/-- The counters that YOKE_CTR_CLEAR clears. -/
def yokeCtrs (p : Nat) : List Nat :=
  ([Reg.yokeStatPieces p, Reg.yokeStatStealLocal p, Reg.yokeStatStealRemote p, Reg.yokeStatSplit p,
    Reg.yokeStatTakeWait p] ++ ((List.range 64).map (fun j => [Reg.shawlStatSpill p j, Reg.shawlStatTurns p j])).flatten)

/-- YOKE_CTR_CLEAR.ALL (R323): the counters of the panel and its tiles. -/
def execYokeCtrClear (p : PanelId) (s : State) : Host.Outcome State Fault Refusal :=
  .next (s.ctl (Reg.yokeCtrClear p) (fun s => s.clear (yokeCtrs p.val)))

end Sys2Proof.Machine
end

