-- ==== Sys2Proof/Machine/Shawl.lean ====
section
/-! DEFINITION. Shawl rings (R309-R318): begin, release, query, wait, the mover's sends, and the spill descriptors. -/

namespace Sys2Proof.Machine

def shStat (t : Nat) : Nat := Reg.shawlStatus (t / 64) (t % 64)
def shProg (t : Nat) : Nat := Reg.shawlProgress (t / 64) (t % 64)

/-- The spill descriptor of turn `h` (R317): one affine dimension of 8-byte elements. -/
def State.spillDesc (s : State) (t turn : Nat) : Desc :=
  let h := (s.shPos t + s.shRlen t - turn % s.shRlen t) % s.shRlen t
  let n := s.shF t * s.shG t
  let cnt (i : Nat) : Nat := if i = 0 then n / 8 else 1
  let bytes := leBytes 4 (1 * 0x2000000 + 3 * 0x800000) ++ leBytes 4 0 ++ leBytes 8 (s.shSpillBase t + h * n) ++
    leBytes 8 0 ++ leBytes 8 0 ++ ((List.range 5).map (fun i => leBytes 4 (cnt i))).flatten ++
    leBytes 4 1 ++ List.replicate 72 0
  { bytes := bytes, suit := none, spill := true, entries := [] }

/-- Issues the spill descriptor of a turn, checked as any other (R254); a queue whose FIFO is full takes it when a place
is free, since the FIFO of a spill queue is the mover's. -/
def State.issueSpill (s : State) (t turn : Nat) : State :=
  if s.shF t = 0 then s
  else
    let q := s.shQueue t
    let d := s.spillDesc t turn
    match s.descCheck t q (s.shSlot t) d with
    | some (sub, code) => s.queueFault t q code sub 0
    | none => s.enqueue t q d

/-- ACTIVE clears when the revolution has ended, every send has landed, and AVAIL is NSEG (R314). No slot is free for the
predecessor's next turn 0 before this tile's own begin (R313). -/
def State.shSettle (s : State) (t : Nat) : State :=
  let x := s.shawl t
  if x.ended && x.sends.isEmpty && x.flying == 0 && s.fld (shStat t) 9 9 == s.shNseg t then
    (s.setShawl t { x with free := [] }).setBit (shStat t) 31 false
  else s

/-- PENDING_SENDS follows the mover's list. -/
def State.setSends (s : State) (t : Nat) (x : Shawl) : State :=
  (s.setShawl t x).setFld (shProg t) 0 9 x.sends.length

/-- The four ring operations are for the ring's slot only (R312). -/
def State.shOwn (s : State) (t k : Nat) (f : State → State) : State :=
  if s.shawlSlot t = some k then f s else s.yokeFault t k 0x12 0x10

/-- SHBEG (R312, R317): the revolution begins at turn 0 with every resident segment in place. -/
def execShbeg (t : TileId) (k : SlotId) (s : State) : Host.Outcome State Fault Refusal :=
  .next (s.issue t k (code 0x38 0x030) (fun _ s => s.shOwn t k (fun s =>
    if s.shawlActive t then s.yokeFault t k 0x12 0x10
    else if s.shF t ≠ 0 ∧ ¬ (s.qMode t (s.shQueue t) = 1 ∧ s.qOwner t (s.shQueue t) = k) then s.yokeFault t k 0x12 0x10
    else
      let s := s.wr (shStat t) (BitVec.ofNat 32 (0x80000000 + s.shNseg t * 0x200))
      let s := (s.wr (shProg t) 0).setShawl t { Shawl.init with free := [s.shNseg t] }
      let s := s.issueSpill t 0
      let s := if s.taskOver t k || s.shRlen t ≤ 1 then s else s.issueSpill t 1
      if s.taskOver t k then s else s.complete t k)))

/-- The turn advances after its last segment is released (R312, R314, R317). -/
def State.shAdvance (s : State) (t : Nat) : State :=
  let turn := s.shTurn t + 1
  let over' := turn == s.shRlen t
  let next := if over' then 0 else turn
  let n := s.fld (shStat t) 0 9
  let s := ((s.setFld (shStat t) 23 8 next).setFld (shStat t) 9 9 n).setFld (shStat t) 0 9 0
  let s := (s.setFld (shProg t) 9 9 0).count (Reg.shawlStatTurns (t / 64) (t % 64)) 1
  let s := if over' then s.setShawl t { s.shawl t with ended := true }
    else if turn + 1 < s.shRlen t then s.issueSpill t (turn + 1) else s
  s.shSettle t

/-- SHREL (R312): the next segment of the turn, in order. -/
def execShrel (t : TileId) (k : SlotId) (s : State) : Host.Outcome State Fault Refusal :=
  .next (s.issue t k (code 0x38 0x031) (fun w s => s.shOwn t k (fun s =>
    let j := (s.opA t k w).toNat % 512
    let rel := s.fld (shProg t) 9 9
    if !s.shawlActive t || (s.shawl t).ended then s.yokeFault t k 0x12 0x10
    else if j ≠ rel ∨ s.shNseg t ≤ j then s.yokeFault t k 0x0A 0x11
    else
      let x := s.shawl t
      let s := s.setSends t { x with sends := x.sends ++ [(s.shTurn t, j)] }
      let s := s.setFld (shProg t) 9 9 (j + 1)
      let s := if j + 1 = s.shNseg t then s.shAdvance t else s
      if s.taskOver t k then s else s.complete t k)))

/-- SHQRY. -/
def execShqry (t : TileId) (k : SlotId) (s : State) : Host.Outcome State Fault Refusal :=
  .next (s.issue t k (code 0x38 0x032) (fun w s => s.shOwn t k (fun s => s.setRd t k w (s.rd (shStat t)))))

/-- SHWAIT (R314). -/
def execShwait (t : TileId) (k : SlotId) (s : State) : Host.Outcome State Fault Refusal :=
  .next (s.issue t k (code 0x38 0x033) (fun w s => s.shOwn t k (fun s =>
    if (s.opA t k w).toNat % 512 < s.fld (shStat t) 9 9 then s.complete t k else s.wait t k 6)))

/-- SHAWL_SEND (R313): the oldest released segment is read out once its slot at the successor is free and a grant entry
can be had; its own slot is then free. -/
def execShawlSend (t : TileId) (s : State) : Host.Outcome State Fault Refusal :=
  .next (match (s.shawl t).sends with
  | [] => s
  | (turn, j) :: rest =>
    let n := s.shNseg t + 1
    let u := s.shSucc t
    let here := (j + n * 256 - turn) % n
    let there := (j + n * 256 - turn - 1) % n
    let o : Origin := { module := s.moduleId, tile := t, req := 0x20, part := (s.partOf t).getD 0 }
    if !(s.shawl u).free.contains there then s
    else match s.creditFree u with
      | none => s
      | some e =>
        let off := s.shSlotOff t here
        match (s.count (Reg.placketStatRd t) (blocksOf off (s.shG t))).pocketRead t off (s.shG t) with
        | (s, .error 0) => s
        | (s, .error c) => s.chargeTask t (s.shSlot t) 1 c 0 id (fun s =>
            (s.failOff t c off (wordsOf off (s.shG t)), (s.rd (Reg.pocketErrAddr t)).toNat, 0))
        | (s, .ok data) =>
          let s := s.giveCredit u e o (s.shSlotOff u there) (s.shG t) 1 true
          let y := s.shawl u
          let s := s.setShawl u { y with free := y.free.filter (· != there),
                                         arriving := y.arriving ++ [{ turn := turn, seg := j, slot := there,
                                                                      src := t, data := data }] }
          let x := s.shawl t
          s.setSends t { x with sends := rest, free := x.free ++ [here], flying := x.flying + 1 })

/-- SHAWL_SEGMENT_ARRIVE (R314): the oldest segment on its way lands in its slot; a refusal of this Pocket aborts the
sending ring's task. -/
def execShawlSegmentArrive (t : TileId) (s : State) : Host.Outcome State Fault Refusal :=
  .next (match (s.shawl t).arriving with
  | [] => s
  | g :: rest =>
    let off := s.shSlotOff t g.slot
    let s := s.setShawl t { s.shawl t with arriving := rest }
    let s := match (s.tile t).grants.find? (fun (_, x) => x.src.req == 0x20 && x.src.tile == g.src && x.off == off) with
      | some (e, _) => s.freeEntry t e
      | none => s
    let s := s.setShawl g.src { s.shawl g.src with flying := (s.shawl g.src).flying - 1 }
    match (s.count (Reg.placketStatRemoteIn t) (blocksOf off g.data.length)).pocketWrite t off (g.data.map some) with
    | (s, 0) =>
      let s := if (g.turn + 1) % s.shRlen t = s.shTurn t then s.setFld (shStat t) 9 9 (s.fld (shStat t) 9 9 + 1)
        else s.setFld (shStat t) 0 9 (s.fld (shStat t) 0 9 + 1)
      (s.shSettle t).shSettle g.src
    | (s, c) =>
      let o : Origin := { module := s.moduleId, tile := g.src, req := 0x20, part := (s.partOf g.src).getD 0 }
      s.creditRefuse t o off g.data.length c 1)

end Sys2Proof.Machine
end

