-- ==== Sys2Proof/Machine/SuitOps.lean ====
section
/-! DEFINITION. What the stages of a suit share (spec 09): templates and operand blocks, the placement of an operand's
planes in the tile's Pocket, reading its values, pointers, maps and scales, the geometry of tiles, and faults. -/

namespace Sys2Proof.Machine

/-! ## Templates (R273, R274) -/

/-- Bits of a template word. -/
def Suit.w (x : Suit) (i lo n : Nat) : Nat := bitsOf (x.tpl.getD i 0) lo n

def stFetch : Nat := 1
def stSeam : Nat := 2
def stSleeve : Nat := 3
def stReduce : Nat := 4
def stConvert : Nat := 5
def stStore : Nat := 6

def Suit.has (x : Suit) (stage : Nat) : Bool := x.w 0 (23 + stage) 1 == 1
def Suit.seamOp (x : Suit) : Nat := x.w 0 21 3
def Suit.mode (x : Suit) : Nat := x.w 0 18 3
def Suit.plane (x : Suit) : Bool := x.w 0 17 1 == 1
def Suit.shape (x : Suit) : Nat := x.w 0 15 2
def Suit.seqField (x : Suit) : Nat := x.w 0 13 2
def Suit.init (x : Suit) : Bool := x.w 0 12 1 == 1
def Suit.hold (x : Suit) (side : Nat) : Bool := x.w 0 (11 - side) 1 == 1
def Suit.bind (x : Suit) (side : Nat) : Bool := x.w 1 (if side = 0 then 31 else 26) 1 == 1
def Suit.bindQ (x : Suit) (side : Nat) : Nat := x.w 1 (if side = 0 then 27 else 22) 4
def Suit.writeback (x : Suit) : Bool := x.w 2 31 1 == 1
def Suit.lining (x : Suit) : Bool := x.w 2 30 1 == 1
def Suit.toRing (x : Suit) : Bool := x.w 3 30 2 == 1
def Suit.queueOut (x : Suit) : Nat := x.w 3 26 4
def Suit.post (x : Suit) : Bool := x.w 3 25 1 == 1
def Suit.queuePost (x : Suit) : Nat := x.w 3 21 4

def opGint : Nat := 1
def opGunion : Nat := 2
def opNmdec : Nat := 3
def opEint : Nat := 4
def opEunion : Nat := 5

def modeDense : Nat := 0
def modeCompact : Nat := 1
def modeNm : Nat := 2
def modeMerge : Nat := 3

/-- DOT and MERGE, GUNION: functions of R272. -/
def Suit.isDot (x : Suit) : Bool := x.seamOp == opEint
def Suit.isMerge (x : Suit) : Bool := x.seamOp == opEunion
def Suit.isUnion (x : Suit) : Bool := x.seamOp == opGunion
/-- A sum has no REDUCE and uses no accumulator set. -/
def Suit.isSum (x : Suit) : Bool := x.isUnion || x.isMerge

/-- The template checks of R274 over words W0-W7; a template that is not VALID passes. -/
def tplOk (w : List Nat) : Bool :=
  let x : Nat → Nat → Nat → Nat := fun i lo n => bitsOf (w.getD i 0) lo n
  let st : Nat → Bool := fun c => x 0 (23 + c) 1 == 1
  let seam := x 0 21 3
  let mode := x 0 18 3
  let product := st stSleeve && st stReduce && (x 2 31 1 == 1 || st stStore) && (!st stConvert || st stStore)
  let stages :=
    if !st stSeam then product && mode == modeDense && seam == 0
    else if seam == opGint then product && mode == modeCompact
    else if seam == opNmdec then product && mode == modeNm
    else if seam == opEint then product && mode == modeMerge
    else if seam == opGunion then st stSleeve && !st stReduce && st stStore && mode == modeCompact
    else if seam == opEunion then st stSleeve && !st stReduce && st stStore && mode == modeMerge
    else false
  x 0 31 1 == 0 ||
    (stages && x 0 13 2 != 3 && !(seam == opGunion && x 0 17 1 == 1) && !(mode == modeMerge && x 0 15 2 != 0) &&
      (st stFetch || x 1 22 10 == 0) && (st stReduce || x 2 31 1 == 0) && (st stConvert || x 2 30 1 == 0) &&
      x 3 30 2 ≤ 1 && (x 3 30 2 == 1 || x 3 26 4 == 0) && (st stStore || (x 3 21 5 == 0 && x 3 30 2 == 0)) &&
      (x 3 25 1 == 0 || x 3 30 2 == 0) &&
      x 0 30 1 == 0 && x 0 0 10 == 0 && x 1 0 22 == 0 && x 2 0 30 == 0 && x 3 0 21 == 0 &&
      (w.drop 4).all (· == 0))

/-! ## The operand block (R278) -/

def Suit.num (x : Suit) (off n : Nat) : Nat := leNat ((x.op.drop off).take n)
def Suit.tid (x : Suit) (side : Nat) : Nat := x.num (2 * side) 2
def Suit.totalTid (x : Suit) : Nat := x.num 4 2
def Suit.outTid (x : Suit) : Nat := x.num 6 2
def Suit.liningTid (x : Suit) : Nat := x.num 8 2
def Suit.satIndex (x : Suit) : Nat := x.num 0x0A 2 % 1024
def Suit.ktotal (x : Suit) : Nat := x.num 0x0C 4
def Suit.rs (x : Suit) (side : Nat) : Nat := x.num (0x10 + 8 * side) 4
def Suit.rows (x : Suit) (side : Nat) : Nat := x.num (0x14 + 8 * side) 4
def Suit.kLo (x : Suit) : Nat := x.num 0x20 4
def Suit.kHi (x : Suit) : Nat := x.num 0x24 4
def Suit.orow (x : Suit) : Nat := x.num 0x28 4
def Suit.ocol (x : Suit) : Nat := x.num 0x2C 4
def Suit.list (x : Suit) : Nat := x.num 0x30 4
def Suit.pairs (x : Suit) : Nat := x.num 0x34 1
def Suit.scalars (x : Suit) : Nat := x.num 0x38 4
def Suit.vstart (x : Suit) : Nat := x.num 0x3C 4
def Suit.postDesc (x : Suit) : Nat := x.num 0x40 4
/-- RANGE i: offset, VALID, OUT, length. -/
def Suit.range (x : Suit) (i : Nat) : Nat × Bool × Bool × Nat :=
  let w := x.num (0x64 + 8 * i) 4
  (x.num (0x60 + 8 * i) 4, w.testBit 31, w.testBit 30, bitsOf w 0 22)

/-! ## Geometry (R176, R279) -/

/-- Rows and columns of an output tile, and the number of parts, for a SHAPE. -/
def shapeOf : Nat → Nat × Nat × Nat
  | 0 => (32, 32, 1)
  | 1 => (32, 16, 2)
  | 2 => (16, 32, 2)
  | _ => (16, 16, 4)

def Suit.tm (x : Suit) : Nat := (shapeOf x.shape).1
def Suit.tn (x : Suit) : Nat := (shapeOf x.shape).2.1
/-- Parts: 1 in sequential order mode (R185). -/
def Suit.tparts (x : Suit) : Nat := if x.run.seq = 0 then (shapeOf x.shape).2.2 else 1
/-- Tile columns of a product's grid. -/
def Suit.tb (x : Suit) : Nat := ceilDiv (x.rows 1) x.tn
/-- Output tiles of a product: one for DOT. -/
def Suit.tiles (x : Suit) : Nat := if x.isDot then 1 else ceilDiv (x.rows 0) x.tm * x.tb
/-- Operations of the SEAM stage: one for each tile, block of rows or pair. -/
def Suit.ops (x : Suit) : Nat :=
  if x.isDot || x.isMerge then x.pairs else if x.isUnion then ceilDiv (x.rows 0) 32 else x.tiles

/-- First row and row count of a side in operation `o` of a product or GUNION. -/
def Suit.opRows (x : Suit) (side o : Nat) : Nat × Nat :=
  if x.isUnion then (x.rs side + 32 * o, min 32 (x.rows side - 32 * o))
  else if side = 0 then (x.rs 0 + x.tm * (o / x.tb), min x.tm (x.rows 0 - x.tm * (o / x.tb)))
  else (x.rs 1 + x.tn * (o % x.tb), min x.tn (x.rows 1 - x.tn * (o % x.tb)))

/-- Rows drained for a tile. -/
def Suit.drainRows (x : Suit) : Nat := if x.isDot then 1 else x.tm

/-! ## Faults -/

/-- A fault of a stage: stage code, unit (R549), code, subcode, side and position. -/
structure Flt where
  stage : Nat
  unit : Nat
  code : Nat
  sub : Nat
  side : Nat
  pos : Nat
deriving DecidableEq, Repr

/-- Charges a stage fault to the task of suit `i` (R289): the stage's own registers and SUIT_ERR latch it. -/
def State.suitFault (s : State) (t i : Nat) (f : Flt) : State :=
  match s.suit t i with
  | none => s
  | some x =>
    let latch (s : State) : State :=
      let s := if f.unit = 3 && !s.bit (Reg.seamErrInfo t) 31 then
          (s.wr (Reg.seamErrInfo t) (BitVec.ofNat 32 (0x80000000 + f.side * 0x40000000 + x.seamOp * 0x8000000 +
            f.code * 0x10000 + f.sub * 0x100))).wr (Reg.seamErrPos t) (BitVec.ofNat 32 f.pos)
        else if f.unit = 4 && !s.bit (Reg.sleeveErrInfo t) 31 then
          (s.wr (Reg.sleeveErrInfo t) (BitVec.ofNat 32 (0x80000000 + f.side * 0x40000000 + x.mode * 0x8000000 +
            f.code * 0x10000 + f.sub * 0x100))).wr (Reg.sleeveErrPos t) (BitVec.ofNat 32 f.pos)
        else s
      s.latchSuitErr t i f.stage f.code f.sub
    s.chargeTask t x.task f.unit f.code f.sub latch (fun s =>
      match f.unit with
      | 1 => (f.pos, (s.rd (Reg.pocketErrAddr t)).toNat, 0)
      | 3 => (0, (s.rd (Reg.seamErrInfo t)).toNat, (s.rd (Reg.seamErrPos t)).toNat)
      | 4 => (0, (s.rd (Reg.sleeveErrInfo t)).toNat, (s.rd (Reg.sleeveErrPos t)).toNat)
      | _ => (0, (s.rd (Reg.suitErr t i)).toNat, (s.rd (Reg.suitOpaddr t i)).toNat))

def seamErr (sub code side pos : Nat) : Flt := { stage := stSeam, unit := 3, code := code, sub := sub, side := side, pos := pos }
def sleeveErr (sub side pos : Nat) : Flt := { stage := stSleeve, unit := 4, code := 0x07, sub := sub, side := side, pos := pos }

/-- A step of a stage: the state after it, and its answer or the fault found. -/
abbrev Step' (α : Type) : Type := State × Except Flt α

def andThen {α β : Type} (r : Step' α) (f : State → α → Step' β) : Step' β :=
  match r with
  | (s, .ok a) => f s a
  | (s, .error e) => (s, .error e)

def each {α β : Type} (f : State → α → Step' β) : State → List α → Step' (List β)
  | s, [] => (s, .ok [])
  | s, a :: as => andThen (f s a) (fun s b => andThen (each f s as) (fun s bs => (s, .ok (b :: bs))))

/-! ## Placement (R121, R125, R131) -/

/-- The image of a tensor that holds an element: the whole tensor, or an owner block. -/
structure Img where
  d : TDesc
  /-- an EMPTY owner block (R127) -/
  empty : Bool
  /-- the planes are slot-relative -/
  rel : Bool
  base : Nat
  /-- a ring slot's bytes: every plane must lie within -/
  lim : Option Nat
  r0 : Nat
  c0 : Nat
  nr : Nat
  nc : Nat
deriving DecidableEq, Repr

/-- The image of `d` that holds (r, c), when it reaches the unit by one of the three means of R131. `side` is 0 or 1 for
an operand, which a ring slot may bind (R281), and 2 for any other tensor. -/
def State.img (s : State) (t : Nat) (x : Suit) (side : Nat) (d : TDesc) (r c : Nat) : Option Img :=
  if d.dist then
    match (s.partOf t).bind (fun q => s.owner q d.id) with
    | none => none
    | some o =>
      let br := r / o.blockRows
      let bc := c / o.blockCols
      let e := o.entry (br * o.gridCols + bc)
      let g : Img := { d := d, empty := e == noneAddr, rel := false, base := gaPocketOff e, lim := none,
                       r0 := br * o.blockRows, c0 := bc * o.blockCols,
                       nr := min o.blockRows (d.nr - br * o.blockRows), nc := min o.blockCols (d.nc - bc * o.blockCols) }
      if g.empty || (gaSpace e == 0 && gaModule e == s.moduleId && gaTile e == t) then some g else none
  else
    let g : Img := { d := d, empty := false, rel := true, base := 0, lim := none, r0 := 0, c0 := 0, nr := d.nr, nc := d.nc }
    if d.base = noneAddr then
      if side < 2 && x.bind side then
        let q := x.bindQ side
        (if side = 0 then x.run.bindA else x.run.bindB).map (fun sl =>
          { g with base := (s.rd (Reg.placketQBase t q)).toNat + sl * s.qSlotBytes t q, lim := some (s.qSlotBytes t q) })
      else some g
    else if gaSpace d.base = 0 ∧ gaModule d.base = s.moduleId ∧ gaTile d.base = t then
      some { g with rel := false, base := gaPocketOff d.base }
    else none

/-- The placement of every owner block that rows [r0, r1) and columns [c0, c1) touch meets R131; a side that a ring
will bind does. -/
def State.placed (s : State) (t : Nat) (x : Suit) (side : Nat) (d : TDesc) (r0 r1 c0 c1 : Nat) : Bool :=
  if !d.dist then
    if d.base = noneAddr then true else (s.img t x side d 0 0).isSome
  else match (s.partOf t).bind (fun q => s.owner q d.id) with
    | none => false
    | some o =>
      r1 ≤ r0 || c1 ≤ c0 ||
      (List.range ((r1 - 1) / o.blockRows + 1)).all (fun br => br < r0 / o.blockRows ||
        (List.range ((c1 - 1) / o.blockCols + 1)).all (fun bc => bc < c0 / o.blockCols ||
          (s.img t x side d (br * o.blockRows) (bc * o.blockCols)).isSome))

/-- The physical offset of `n` bytes at `off` of a plane; BOUND_VIOLATION outside the slot or the ring slot. -/
def State.planeAt (s : State) (t : Nat) (x : Suit) (g : Img) (plane off n : Nat) : Option Nat :=
  let inLim := match g.lim with
    | some l => plane + off + n ≤ l
    | none => true
  if !inLim then none
  else if g.rel then s.slotPhys t x.task (g.base + plane + off) n
  else if g.base + plane + off + n ≤ pocketBytes then some (g.base + plane + off) else none

/-- Reads bytes at a physical offset for a stage. -/
def State.stageRead (s : State) (t stage off n : Nat) : Step' (List Byte) :=
  match s.pocketRead t off n with
  | (s, .ok bs) => (s, .ok bs)
  | (s, .error 0) => (s, .ok (mread s.pocket (pkey t off) n))
  | (s, .error c) => (s, .error { stage := stage, unit := 1, code := c, sub := 0, side := 0,
                                  pos := s.failOff t c off (wordsOf off n) })

/-- Reads `n` bytes at `off` of a plane. -/
def State.planeRead (s : State) (t : Nat) (x : Suit) (stage : Nat) (g : Img) (plane off n : Nat) : Step' (List Byte) :=
  match s.planeAt t x g plane off n with
  | some o => s.stageRead t stage o n
  | none => (s, .error { stage := stage, unit := 5, code := 0x10, sub := 0, side := 0, pos := 0 })

/-- Reads a number of `n` bytes. -/
def State.planeNat (s : State) (t : Nat) (x : Suit) (stage : Nat) (g : Img) (plane off n : Nat) : Step' Nat :=
  andThen (s.planeRead t x stage g plane off n) (fun s bs => (s, .ok (leNat bs)))

/-- Entry `e` of a pointer pair (R100). -/
def State.ptrEntry (s : State) (t : Nat) (x : Suit) (g : Img) (e : Nat) : Step' Nat :=
  andThen (s.planeNat t x stSeam g g.d.ptrHi (2 * e) 2) (fun s h =>
    andThen (s.planeNat t x stSeam g g.d.ptrLo (2 * e) 2) (fun s l => (s, .ok (h * 65536 + l))))

/-- Bytes at a slot-relative offset of the suit's task. -/
def State.slotRead (s : State) (t : Nat) (x : Suit) (stage o n : Nat) : Step' (List Byte) :=
  match s.slotPhys t x.task o n with
  | some p => s.stageRead t stage p n
  | none => (s, .error { stage := stage, unit := 5, code := 0x10, sub := 0, side := 0, pos := 0 })

/-- Entry `l` of the pair list: A row and B row (R279). -/
def State.pairAt (s : State) (t : Nat) (x : Suit) (stage l : Nat) : Step' (Nat × Nat) :=
  andThen (s.slotRead t x stage (x.list + 8 * l) 8) (fun s bs => (s, .ok (leNat (bs.take 4), leNat (bs.drop 4))))

/-! ## Values -/

/-- The value index of a DENSE element (R107). -/
def Img.dense (g : Img) (r c : Nat) : Nat :=
  let lr := r - g.r0
  let lc := c - g.c0
  if g.d.dist then lc + lr * g.d.stride 0 else g.d.denseAt lr lc

/-- Plane types (R101). -/
def isPlane (ty : Nat) : Bool := ty == tySPlane || ty == tyUPlane
def isPair (ty : Nat) : Bool := ty == tyI32Pair || ty == tyBFPair || ty == tyHFPair

/-- Rising value indices cut into runs of at most `n` (R285): first index and length. -/
def runsOf (n : Nat) : List Nat → List (Nat × Nat)
  | [] => []
  | i :: is =>
    match runsOf n is with
    | (j, k) :: rs => if j = i + 1 ∧ k < n then (i, k + 1) :: rs else (i, 1) :: (j, k) :: rs
    | [] => [(i, 1)]

/-- The low `w` bits that planes give, value by value: `recs` holds the bytes of each plane's record from bit `k` on. -/
def planeVals (recs : List (Nat × List Byte)) (k n : Nat) : List Nat :=
  (List.range n).map (fun j =>
    recs.foldl (fun v (p, bs) => if ((bs.getD ((k % 8 + j) / 8) 0).toNat).testBit ((k % 8 + j) % 8) then v + 2 ^ p else v) 0)

/-- Reads a run of values. For a plane type, the POCC byte is read first and `skip` leaves out the planes it clears
(R117); a POCC bit at or above w is a fault (R190). The answer pairs each index with its element. -/
def State.readRun (s : State) (t : Nat) (x : Suit) (side stage : Nat) (g : Img) (skip : Bool) (run : Nat × Nat) :
    Step' (List (Nat × Opnd)) :=
  let (i, n) := run
  let ty := g.d.elem
  if g.d.nvalCap < i + n then (s, .error (sleeveErr 0x11 side (max i g.d.nvalCap)))
  else if isPlane ty then
    let w := g.d.width
    let blk := i / 256
    andThen (if skip then s.planeNat t x stage g g.d.pocc blk 1 else (s, .ok (2 ^ w - 1))) (fun s occ =>
      if 2 ^ w ≤ occ then (s, .error (sleeveErr 0x10 side blk))
      else
        let k := i % 256
        andThen (each (fun s p =>
            andThen (s.planeRead t x stage g g.d.val0 ((blk * w + p) * 32 + k / 8) ((k % 8 + n + 7) / 8))
              (fun s bs => (s, .ok (p, bs)))) s (setBits occ w)) (fun s recs =>
          (s, .ok (((List.range n).zip (planeVals recs k n)).map (fun (j, v) => (i + j, { v := v, sc := 0, pocc := occ }))))))
  else
    let z := tySize ty
    andThen (s.planeRead t x stage g g.d.val0 (z * i) (z * n)) (fun s bs =>
      let lo (j : Nat) : Nat := leNat ((bs.drop (z * j)).take z)
      if isPair ty then
        andThen (s.planeRead t x stage g g.d.val1 (2 * i) (2 * n)) (fun s cs =>
          (s, .ok ((List.range n).map (fun j =>
            (i + j, { v := lo j * 65536 + leNat ((cs.drop (2 * j)).take 2), sc := 0, pocc := 0 })))))
      else (s, .ok ((List.range n).map (fun j => (i + j, { v := lo j, sc := 0, pocc := 0 })))))

/-- Values of one access: at most 128 B, and within a plane block. -/
def runCap (ty : Nat) : Nat := 128 / tySize ty

/-- Cuts runs of plane values at plane blocks. -/
def cutBlocks (ty : Nat) (rs : List (Nat × Nat)) : List (Nat × Nat) :=
  if isPlane ty then
    (rs.map (fun (i, n) => if i / 256 = (i + n - 1) / 256 then [(i, n)]
      else [(i, 256 - i % 256), (i / 256 * 256 + 256, n - (256 - i % 256))])).flatten
  else rs

/-- Reads the values at rising indices of one image. -/
def State.readVals (s : State) (t : Nat) (x : Suit) (side stage : Nat) (g : Img) (skip : Bool) (is : List Nat) :
    Step' (List (Nat × Opnd)) :=
  andThen (each (fun s r => s.readRun t x side stage g skip r) s (cutBlocks g.d.elem (runsOf (runCap g.d.elem) is)))
    (fun s vs => (s, .ok vs.flatten))

/-! ## Scales (R118, R163, R213) -/

def State.recipeSc (s : State) (t q r : Nat) : Nat := s.fld (Reg.recipeW2 (t / 64) q r) 0 16

/-- Scale block rows and columns of a tensor's recipe in tile `t`'s panel; (0, 0) without scale blocks. -/
def State.scaleBlock (s : State) (t : Nat) (d : TDesc) : Nat × Nat :=
  match s.partOf t with
  | some q => if d.scale = noneAddr then (0, 0) else (bitsOf (s.recipeW0 t q d.recipe) 16 16, s.recipeSc t q d.recipe)
  | none => (0, 0)

/-- The offset in the SCALE plane of the byte for element (r, c). -/
def scaleIdx (sb : Nat × Nat) (g : Img) (r c : Nat) : Nat := (r - g.r0) / sb.1 * ceilDiv g.nc sb.2 + (c - g.c0) / sb.2

/-- The scale exponent of (r, c): 0 without scale blocks. -/
def State.scaleAt (s : State) (t : Nat) (x : Suit) (stage : Nat) (g : Img) (r c : Nat) : Step' Int :=
  let sb := s.scaleBlock t g.d
  if sb.1 = 0 ∨ sb.2 = 0 then (s, .ok 0)
  else andThen (s.planeNat t x stage g g.d.scale (scaleIdx sb g r c) 1) (fun s b => (s, .ok (signedOf b 8)))

/-- Floating-point element types are scaled as they are fed (R163). -/
def isFloat (ty : Nat) : Bool := (tyFmt ty).isSome

/-- The exact value of an element as it is fed: planes and integers whole, floats with their scale. -/
def Opnd.val (d : TDesc) (o : Opnd) : FNum :=
  if d.elem = tySPlane then .ofInt (signedOf o.v d.width)
  else if d.elem = tyUPlane then .ofInt o.v
  else (tyDecode d.elem o.v).scale o.sc

/-- The integer that a fed element of an integer or plane type stands for. -/
def Opnd.int (d : TDesc) (o : Opnd) : Int :=
  if d.elem = tySPlane then signedOf o.v d.width else if d.elem = tyI8 then signedOf o.v 8 else o.v

/-! ## The descriptors a suit names -/

def State.suitTensor (s : State) (t i : Nat) : Option TDesc := (s.partOf t).bind (fun q => s.tensor q i)

/-- The descriptor of an operand side, once the issue checks have passed. -/
def State.sideDesc (s : State) (t : Nat) (x : Suit) (side : Nat) : TDesc := (s.suitTensor t (x.tid side)).getD { bytes := [] }
def State.totalDesc (s : State) (t : Nat) (x : Suit) : TDesc := (s.suitTensor t x.totalTid).getD { bytes := [] }
def State.outDesc (s : State) (t : Nat) (x : Suit) : TDesc := (s.suitTensor t x.outTid).getD { bytes := [] }

/-- The plane side of a product under the PLANE overlay: 0 A, 1 B. -/
def State.planeSide (s : State) (t : Nat) (x : Suit) : Nat := if isPlane (s.sideDesc t x 0).elem then 0 else 1

/-! ## Stages and their registers -/

def SuitRun.init : SuitRun :=
  { bindA := none, bindB := none, relA := false, relB := false, seam := 0, sOp := 0, sPos := 0, sBase := [], curA := none,
    curB := none, pend := [], hand := [], fOp := 0, fPos := 0, fed := [], holdA := [], holdB := [], sleeve := 0, seq := 0,
    tile := 0, seqPos := 0, allIn := false, parts := [], sets := [], ahead := [], redPos := 0, red := [], cvt := [],
    held := [], sto := [], sample := none, satTiles := [], cvtSat := false, outN := 0, outPairs := 0, ring := 0,
    posted := false }

/-- Suits of the tile that are RUNNING, in issue order. -/
def State.runningSuits (s : State) (t : Nat) : List (Nat × Suit) :=
  ((s.tile t).suits.filter (fun p => s.suitState t p.1 == suitRunning)).foldl
    (fun l p => l.filter (fun y => y.2.order ≤ p.2.order) ++ [p] ++ l.filter (fun y => p.2.order < y.2.order)) []

/-- A side is bound where it must be. -/
def Suit.bound (x : Suit) : Bool := (!x.bind 0 || x.run.bindA.isSome) && (!x.bind 1 || x.run.bindB.isSome)

/-- FETCH has delivered all that the suit needs. -/
def Suit.fetchDone (x : Suit) : Bool :=
  if x.has stSeam then x.run.seam == 2 && x.run.hand.length + x.run.pend.length == x.run.fed.length else x.run.fOp == x.tiles

/-- REDUCE, CONVERT and STORE have nothing left after the SLEEVE stage. -/
def Suit.drained (x : Suit) : Bool :=
  x.run.sleeve == 2 && x.run.red.isEmpty && x.run.cvt.isEmpty && x.run.held.isEmpty && x.run.sto.isEmpty &&
    (!x.isMerge || x.toRing || x.run.outPairs == x.pairs + 1) && (!x.toRing || x.run.ring == 0)

/-- The bits of STAGES_RUNNING. -/
def Suit.running (x : Suit) : Nat :=
  (if x.has stFetch && !x.fetchDone then 1 else 0) + (if x.run.seam = 1 then 2 else 0) +
    (if x.run.sleeve = 1 then 4 else 0) + (if x.has stReduce && !x.drained then 8 else 0) +
    (if x.has stConvert && !x.drained then 16 else 0) + (if x.has stStore && !x.drained then 32 else 0)

/-- Occupancy of the hand-over buffer of the earliest suit that has one. -/
def State.refreshBuf (s : State) (t : Nat) : State :=
  match (s.runningSuits t).find? (fun p => !p.2.run.hand.isEmpty) with
  | none => s.wr (Reg.seamBufStatus t) 0
  | some (_, x) =>
    let n := x.run.hand.length
    s.wr (Reg.seamBufStatus t) (BitVec.ofNat 32
      (if x.seamOp = opNmdec then n * 0x100 else if x.seamOp = opEint ∨ x.seamOp = opEunion then n * 0x10000 else n))

/-- SEAM_STATUS, SLEEVE_STATUS, SEAM_BUF_STATUS and SUIT_STATUS.STAGES_RUNNING follow the suits. -/
def State.refreshSuits (s : State) (t : Nat) : State :=
  let rs := s.runningSuits t
  let s := rs.foldl (fun s (i, x) => s.setFld (Reg.suitStatus t i) 18 6 x.running) s
  let s := match rs.find? (fun p => p.2.run.seam == 1) with
    | some (i, x) => s.wr (Reg.seamStatus t) (BitVec.ofNat 32 (0x80 + x.seamOp * 0x10 + x.task * 4 + i))
    | none => s.wr (Reg.seamStatus t) 0
  let s := match rs.find? (fun p => p.2.run.sleeve == 1) with
    | some (i, x) =>
      let act := x.run.tile % 2
      let shadow := x.run.sets.getD (1 - act) { tile := 0, cells := [], got := [], ended := true, dr := 0, ldTile := 0,
                                                ld := [], sat := false }
      let busy := !x.isSum && (shadow.dr < x.drainRows || (shadow.ldTile < x.tiles && shadow.ld.length < x.drainRows))
      let held := 0 < x.run.tile && (!x.run.holdA.isEmpty || !x.run.holdB.isEmpty)
      s.wr (Reg.sleeveStatus t) (BitVec.ofNat 32 (0x8000 + x.run.seq * 0x2000 + x.mode * 0x400 +
        (if x.plane then 0x200 else 0) + x.shape * 0x80 + act * 0x40 + (if busy then 0x20 else 0) +
        (if held then 0x10 else 0) + x.task * 4 + i))
    | none => s.wr (Reg.sleeveStatus t) 0
  s.refreshBuf t

/-- Keeps the stages of suit `i`. -/
def State.putRun (s : State) (t i : Nat) (x : Suit) (r : SuitRun) : State :=
  (s.setSuit t i { x with run := r }).refreshSuits t

/-- Keeps what a stage step answers, or charges its fault. -/
def keepRun (t i : Nat) (x : Suit) (r : Step' SuitRun) : State :=
  match r with
  | (s', .ok r) => s'.putRun t i x r
  | (s', .error f) => (s'.suitFault t i f).refreshSuits t

/-! ## The compute domain (R501, R504) -/

/-- A stage start of tile `t` while the compute domain of its panel is off: the domain wakes, and the start waits. -/
def State.needCompute (s : State) (t : Nat) : State :=
  let d := 5 + t / 64
  if s.domainWaking d then s
  else (s.setBit Reg.pwrDomainWaking (d - 1) true).count Reg.pwrStatWakeWait 1

end Sys2Proof.Machine
end

