-- ==== Sys2Proof/Machine/SuitIssue.lean ====
section
/-! DEFINITION. Issuing a suit, its checks, and its end (R277-R283, R288, R290, R334). -/

namespace Sys2Proof.Machine

/-! ## Issue (R277) -/

/-- The lowest suit slot that no live suit holds. -/
def State.freeSuit (s : State) (t : Nat) : Option Nat := (List.range 4).find? (fun i => !s.suitLive t i)

/-- A suit of task `k` takes slot `i`: the slot shows WAITING. -/
def State.takeSuit (s : State) (t k i tpl off : Nat) : State :=
  let n := (s.tile t).suitSeq
  let x : Suit := {
    task := k, order := n, tplIdx := tpl,
    tpl := [(s.rd (Reg.suitTplW0 t tpl)).toNat, (s.rd (Reg.suitTplW1 t tpl)).toNat, (s.rd (Reg.suitTplW2 t tpl)).toNat,
            (s.rd (Reg.suitTplW3 t tpl)).toNat],
    opOff := off, op := [], checked := false, entered := false, run := SuitRun.init }
  let s := s.setTile t { s.tile t with suitSeq := n + 1, suits := tset (s.tile t).suits i x }
  let s := s.wr (Reg.suitStatus t i) (BitVec.ofNat 32 (suitWaiting * 0x20000000 + tpl * 0x1000000 + k * 0x10000))
  let s := s.wr (Reg.suitOpaddr t i) (BitVec.ofNat 32 (off / 128 % 0x8000 * 128))
  s.count (Reg.suitStatIssued t) 1

/-! ## The checks (R282, R152, R190) -/

def bad (b : Bool) (f : Flt) : Option Flt := if b then some f else none

def suitErr (sub code : Nat) : Flt := { stage := 0, unit := 5, code := code, sub := sub, side := 0, pos := 0 }

/-- OPBLOCK: a reserved or unused field not as R278 requires. -/
def Suit.fieldsBad (x : Suit) : Bool :=
  let z (off n : Nat) : Bool := x.num off n != 0
  let merge := x.isDot || x.isMerge
  let noId (need : Bool) (id : Nat) : Bool := !need && id != 0xFFFF
  noId (x.has stReduce) x.totalTid || noId (x.has stStore) x.outTid || noId x.lining x.liningTid ||
    x.num 0x0A 2 / 1024 != 0 || (merge && z 0x10 16) || (x.isMerge && z 0x2C 4) || (!merge && z 0x30 5) || z 0x35 3 ||
    (!x.isMerge && z 0x38 8) || (!x.post && z 0x40 4) || z 0x44 28 ||
    (List.range 4).any (fun i => bitsOf (x.num (0x64 + 8 * i) 4) 22 8 != 0)

/-- OPBOUND: the pair list, the scalars or the post descriptor outside the slot, or misaligned. -/
def State.opBoundBad (s : State) (t : Nat) (x : Suit) : Bool :=
  let out (o n : Nat) : Bool := (s.slotPhys t x.task o n).isNone
  ((x.isDot || x.isMerge) && out x.list (8 * min 32 x.pairs)) || (x.isMerge && out x.scalars 64) ||
    (x.post && out x.postDesc 128)

/-- A field of R278 whose alignment the layout fixes. -/
def Suit.alignBad (x : Suit) : Bool :=
  ((x.isDot || x.isMerge) && x.list % 8 != 0) || (x.isMerge && x.scalars % 8 != 0) || (x.post && x.postDesc % 128 != 0)

/-- Output rows and columns the suit writes (R279). -/
def Suit.outRows (x : Suit) : Nat := if x.isDot then 1 else if x.isMerge then x.pairs else x.rows 0
def Suit.outCols (x : Suit) : Nat :=
  if x.isDot then x.pairs else if x.isUnion then x.kHi - x.kLo else x.rows 1

/-- TENSOR: a missing descriptor, a bound side that is not bound at issue, or an output plane outside the Pocket. -/
def State.tensorBad (s : State) (t : Nat) (x : Suit) : Bool :=
  let miss (need : Bool) (id : Nat) : Bool := need && (s.suitTensor t id).isNone
  let unbound (side : Nat) : Bool := x.bind side && ((s.sideDesc t x side).base != noneAddr || (s.sideDesc t x side).dist)
  let away (need : Bool) (id : Nat) : Bool := need &&
    !s.placed t x 2 ((s.suitTensor t id).getD { bytes := [] }) x.orow (x.orow + x.outRows) x.ocol (x.ocol + x.outCols)
  miss true (x.tid 0) || miss true (x.tid 1) || miss (x.has stReduce) x.totalTid || miss (x.has stStore) x.outTid ||
    miss x.lining x.liningTid || unbound 0 || unbound 1 ||
    away (x.has stReduce) x.totalTid || away (x.has stStore && !x.toRing) x.outTid || away x.lining x.liningTid

/-- The pair types that R161 accepts for a running total. -/
def totalTypes (a b : Nat) : List Nat := if isFloat a || isFloat b then [tyBFPair, tyHFPair] else [tyI32Pair]

/-- The types R211 lets CONVERT write from a total. -/
def cvtTypes (total : Nat) : List Nat :=
  if total = tyI32Pair then [tyI8, tyU8, tySPlane, tyUPlane, tyBF16, tyFP16, tyE4M3, tyE5M2, tyI32Pair]
  else [tyBF16, tyFP16, tyE4M3, tyE5M2, total]

/-- The types of a GUNION or MERGE result. -/
def sumTypes (a b : Nat) : List Nat := if isPair a then [a] else if isPair b then [b] else [a, b]

/-- OUTTYPE: the types and formats of TOTAL, OUT and LINING (R161, R211, R217, R280). -/
def State.outTypeBad (s : State) (t : Nat) (x : Suit) : Bool :=
  let ta := (s.sideDesc t x 0).elem
  let tb := (s.sideDesc t x 1).elem
  let tot := s.totalDesc t x
  let out := s.outDesc t x
  (x.has stReduce && (tot.format != fmtDense || !(totalTypes ta tb).contains tot.elem)) ||
    (x.has stStore &&
      ((if x.isMerge then out.format != fmtCrow || 65536 < out.nc else out.format != fmtDense) ||
        (if x.isSum then !(sumTypes ta tb).contains out.elem
         else if x.has stConvert then !(cvtTypes tot.elem).contains out.elem else out.elem != tot.elem))) ||
    (x.lining &&
      let ln := (s.suitTensor t x.liningTid).getD { bytes := [] }
      ln.kind != 5 || ln.elem != tyI8 || ln.format != out.format || ln.nvalCap != out.nvalCap ||
        (List.range 4).any (fun i => ln.shape i != out.shape i) || (out.elem != tyBF16 && out.elem != tyFP16))

/-- QUEUE: a named queue of another slot, or in the wrong mode. -/
def State.suitQueueBad (s : State) (t : Nat) (x : Suit) : Bool :=
  let wrong (need : Bool) (q mode : Nat) : Bool := need && (s.qOwner t q != x.task || s.qMode t q != mode)
  wrong (x.bind 0) (x.bindQ 0) 1 || wrong (x.bind 1) (x.bindQ 1) 1 || wrong x.toRing x.queueOut 2 ||
    wrong x.post x.queuePost 0

/-- OUT's recipe uses MAXABS (R214). -/
def State.outMaxabs (s : State) (t : Nat) (x : Suit) : Bool :=
  let d := s.outDesc t x
  x.has stConvert && d.scale != noneAddr && (match s.partOf t with
    | some q => (s.recipeW1 t q d.recipe).testBit 2
    | none => false)

/-- Row or column blocks of `b` that tiles of `m` from `o` over `n` would cut; `top` is the tensor's end. -/
def cutsBlocks (b m o n top : Nat) : Bool :=
  b != 0 && (List.range (ceilDiv n m)).any (fun i =>
    (o + m * i) % b != 0 || (let e := o + min n (m * (i + 1)); e % b != 0 && e != top))

/-- SCALE_TILE. -/
def State.scaleTileBad (s : State) (t : Nat) (x : Suit) : Bool :=
  let d := s.outDesc t x
  let sb := s.scaleBlock t d
  let (m, n) := if x.isSum then (x.outRows, x.outCols) else (x.tm, x.tn)
  s.outMaxabs t x && (cutsBlocks sb.1 (max 1 m) x.orow x.outRows d.nr || cutsBlocks sb.2 (max 1 n) x.ocol x.outCols d.nc)

/-- ROWS: a row count of 0, PAIRS outside 1-32, or an output coordinate beyond TOTAL or OUT. -/
def State.rowsBad (s : State) (t : Nat) (x : Suit) : Bool :=
  let beyond (need : Bool) (d : TDesc) : Bool := need &&
    (d.nr < x.orow + x.outRows || (!x.isMerge && d.nc < x.ocol + x.outCols))
  (if x.isDot || x.isMerge then x.pairs == 0 || 32 < x.pairs
   else x.rows 0 == 0 || x.rows 1 == 0) ||
    beyond (x.has stReduce) (s.totalDesc t x) || beyond (x.has stStore && !x.toRing) (s.outDesc t x)

/-- A format as R134 tells them apart: BMAP, DENSE with GMAP, DENSE, NM, CLIST or CROW. -/
inductive SideKind where
  | bmap | gmap | dense | nm | list
deriving DecidableEq, Repr

def TDesc.sideKind (d : TDesc) : Option SideKind :=
  if d.format = fmtBmap then some .bmap
  else if d.format = fmtDense then some (if d.gmap = noneAddr then .dense else .gmap)
  else if d.format = fmtNm then some .nm
  else if d.format = fmtClist ∨ d.format = fmtCrow then some .list else none

def mapBearing (k : Option SideKind) : Bool := k == some .bmap || k == some .gmap

/-- The format pair is one of R134. -/
def pairOk (op : Nat) (a b : TDesc) : Bool :=
  let ka := a.sideKind
  let kb := b.sideKind
  if op = opGint ∨ op = opGunion then
    (mapBearing ka && (mapBearing kb || kb == some .dense)) || (ka == some .dense && kb == some .dense)
  else if op = opNmdec then ka == some .nm && (kb == some .dense || kb == some .gmap) && 1 ≤ a.nmCode && a.nmCode ≤ 6
  else ka == some .list && kb == some .list

/-- RANGE: rows and K range of the operation (R135, R140, R143); the side at fault. -/
def Suit.rangeBad (x : Suit) (a b : TDesc) : Option Nat :=
  let lo := x.kLo
  let hi := x.kHi
  let nc := a.nc
  if x.seamOp = opGint ∨ x.seamOp = opGunion then
    if lo % 256 ≠ 0 ∨ hi ≤ lo ∨ (hi % 256 ≠ 0 ∧ hi ≠ nc) ∨ 256 * ceilDiv nc 256 < hi then some 0
    else if mapBearing a.sideKind ∧ x.rs 0 % 16 ≠ 0 then some 0
    else if mapBearing b.sideKind ∧ x.rs 1 % 16 ≠ 0 then some 1
    else if x.isUnion ∧ x.rows 0 ≠ x.rows 1 then some 1 else none
  else if x.seamOp = opNmdec then
    let (n, m) := nmRatio a.nmCode
    let g := 16 * m / n
    if lo % g ≠ 0 ∨ hi ≤ lo ∨ (hi % g ≠ 0 ∧ hi ≠ nc) ∨ ceilDiv nc g * g < hi then some 0 else none
  else if hi ≤ lo ∨ nc < hi then some 0 else none

/-- Both operands lie where the stages can read them; the side at fault. -/
def State.awaySide (s : State) (t : Nat) (x : Suit) : Option Nat :=
  (List.range 2).find? (fun side =>
    let d := s.sideDesc t x side
    let rows := if x.isDot || x.isMerge then (0, 0) else (x.rs side, min d.nr (x.rs side + x.rows side))
    !s.placed t x side d rows.1 rows.2 x.kLo (min d.nc x.kHi))

/-- The Seam unit's issue-time checks (R152). -/
def State.seamChecks (s : State) (t : Nat) (x : Suit) : Option Flt :=
  let a := s.sideDesc t x 0
  let b := s.sideDesc t x 1
  if !pairOk x.seamOp a b then some (seamErr 0x01 0x07 (if a.sideKind.isSome && b.sideKind.isNone then 1 else 0) 0)
  else if a.nc ≠ b.nc then some (seamErr 0x02 0x07 1 0)
  else match x.rangeBad a b with
    | some side => some (seamErr 0x03 0x07 side 0)
    | none => (s.awaySide t x).map (fun side => seamErr 0x06 0x07 side 0)

/-- The element type pair is one of R161 or R173. -/
def typesOk (x : Suit) (a b : Nat) : Bool :=
  let int (k : Nat) : Bool := k == tyI8 || k == tyU8
  let fp8 (k : Nat) : Bool := k == tyE4M3 || k == tyE5M2
  let f16 (k : Nat) : Bool := k == tyBF16 || k == tyFP16
  if x.isMerge && isPair a then
    if a = tyI32Pair then int b || isPlane b else fp8 b || f16 b
  else (int a && int b) || (isPlane a && int b) || (int a && isPlane b) || (fp8 a && fp8 b) || (f16 a && f16 b)

/-- An integer or plane operand's scale blocks do not cover the K range (R163). -/
def State.scaleShort (s : State) (t : Nat) (x : Suit) (side : Nat) : Bool :=
  let d := s.sideDesc t x side
  let sc := (s.scaleBlock t d).2
  !isFloat d.elem && !isPair d.elem && sc != 0 && x.kLo < x.kHi && x.kLo / sc != (x.kHi - 1) / sc

/-- The SLEEVE stage's issue-time checks (R190). -/
def State.sleeveChecks (s : State) (t : Nat) (x : Suit) : Option Flt :=
  let a := s.sideDesc t x 0
  let b := s.sideDesc t x 1
  let planes := isPlane a.elem || isPlane b.elem
  if !typesOk x a.elem b.elem then some (sleeveErr 0x01 0 0)
  else if planes != x.plane || (x.mode == modeDense && (a.format != fmtDense || b.format != fmtDense)) ||
      (x.mode == modeNm && isPlane b.elem) then some (sleeveErr 0x02 0 0)
  else if x.mode = modeDense ∧ a.nc ≠ b.nc then some (sleeveErr 0x04 0 0)
  else match s.awaySide t x with
    | some side => some (sleeveErr 0x05 side 0)
    | none => ((List.range 2).find? (s.scaleShort t x)).map (fun side => sleeveErr 0x06 side 0)

/-- The checks after the operand block has been read, in order. -/
def State.suitChecks (s : State) (t : Nat) (x : Suit) : Option Flt :=
  if x.fieldsBad || x.alignBad then some (suitErr 0x02 0x12)
  else if s.opBoundBad t x then some (suitErr 0x03 0x10)
  else if s.tensorBad t x then some (suitErr 0x04 0x07)
  else if s.outTypeBad t x then some (suitErr 0x05 0x07)
  else if s.suitQueueBad t x then some (suitErr 0x06 0x12)
  else if s.scaleTileBad t x then some (suitErr 0x07 0x07)
  else if s.rowsBad t x then some (suitErr 0x08 0x07)
  else (if x.has stSeam then s.seamChecks t x else none).or (s.sleeveChecks t x)

/-- LENGTH_EXCEEDED (R207): the stage runs; the first of the tile in a step writes a record. -/
def State.lengthWarn (s : State) (t : Nat) (x : Suit) : State :=
  let span := x.kHi - x.kLo
  if 0x2000000 < x.ktotal ∨ 0x2000000 < span ∨ (x.ktotal ≠ 0 ∧ x.ktotal < span) then
    (s.warnTask t x.task 0x15 4 4 0 (s.firstInStep t 0x15) 0 (s.rd (Reg.sleeveErrInfo t)).toNat
      (s.rd (Reg.sleeveErrPos t)).toNat).markStep t 0x15
  else s

/-- The suit's physical ranges (R278): outputs where `out`, else inputs. -/
def State.suitRanges (s : State) (t : Nat) (x : Suit) (out : Bool) : List (Nat × Nat) :=
  ((List.range 4).map x.range).filterMap (fun (o, v, isOut, n) =>
    if v && isOut == out then some ((s.rd (Reg.pocketSlotBase t x.task)).toNat + o, n) else none)

/-- Enters the suit's output ranges (R339): `none` while too few entries are free. -/
def State.enterSuit (s : State) (t i : Nat) (x : Suit) : Option State :=
  let rs := s.suitRanges t x true
  if (s.sbFreeList t).length < rs.length then none
  else some ((s.sbTake t x.task 0 i rs).2.setSuit t i { x with entered := true })

/-- The suit enters RUNNING. -/
def State.runSuit (s : State) (t i : Nat) : State :=
  (s.setFld (Reg.suitStatus t i) 29 3 suitRunning).refreshSuits t

/-- After its checks a suit enters RUNNING at once, or in scoreboard mode once its ranges are entered and no input range
overlaps a pending output range (R282, R283). -/
def State.passSuit (s : State) (t i : Nat) (x : Suit) : State :=
  let s := s.lengthWarn t x
  if s.taskOver t x.task then s
  else
    let x := { x with checked := true }
    if s.sbMode t then
      match s.enterSuit t i x with
      | some s => s
      | none => s.setSuit t i x
    else (s.setSuit t i { x with entered := true }).runSuit t i

/-- SUIT_ISSUE_CHECKS: the operand block has been delivered and the checks run (R277, R282). -/
def execSuitIssueChecks (t : TileId) (i : SlotId) (s : State) : Host.Outcome State Fault Refusal :=
  match s.suit t i with
  | none => .next s
  | some x =>
    if s.suitState t i ≠ suitWaiting ∨ x.checked then .next s
    else if x.w 0 31 1 = 0 then .next (s.suitFault t i (suitErr 0x01 0x12))
    else if x.opOff % 128 ≠ 0 then .next (s.suitFault t i (suitErr 0x02 0x12))
    else match s.slotPhys t x.task x.opOff 128 with
      | none => .next (s.suitFault t i (suitErr 0x03 0x10))
      | some off =>
        match s.stageRead t 0 off 128 with
        | (s, .error f) => .next (s.suitFault t i f)
        | (s, .ok bs) =>
          let x := { x with op := bs }
          let s := s.setSuit t i x
          match s.suitChecks t x with
          | some f => .next (s.suitFault t i f)
          | none => .next (s.passSuit t i x)

/-- SUIT_RUNNING (R283): a suit that waits in scoreboard mode, whose input ranges overlap no pending output range. -/
def execSuitRunning (t : TileId) (i : SlotId) (s : State) : Host.Outcome State Fault Refusal :=
  match s.suit t i with
  | none => .next s
  | some x =>
    if s.suitState t i ≠ suitWaiting ∨ !x.checked ∨ !x.entered then .next s
    else if (s.suitRanges t x false).any (fun (o, n) => s.sbOverlap t o n (s.sbOf t 0 i)) then .next (s.sbWaitCycle t)
    else .next (s.runSuit t i)

/-! ## Cuff instructions (R334) -/

/-- SUIT: takes the lowest free slot, and completes once the checks have passed and the ranges are entered. -/
def execSuit (t : TileId) (k : SlotId) (s : State) : Host.Outcome State Fault Refusal :=
  .next (s.issue t k (code 0x38 0x000) (fun w s =>
    match (s.task t k).suit with
    | none =>
      if s.storesWait t k then s.wait t k 11
      else match s.freeSuit t with
        | none => s.wait t k 1
        | some i =>
          let n := (s.tile t).suitSeq
          let s := s.takeSuit t k i ((s.opB t k w).toNat % 32) (s.opA t k w).toNat
          (s.setTask t k { s.task t k with suit := some (i, n) }).wait t k 1
    | some (i, n) =>
      let finish (s : State) : State :=
        (s.setTask t k { s.task t k with suit := none }).setRd t k w (BitVec.ofNat 32 i)
      match s.suit t i with
      | none => finish s
      | some x =>
        if x.order ≠ n then finish s
        else if !x.checked then s.wait t k 1
        else if x.entered then finish s
        else match s.enterSuit t i x with
          | some s => finish s
          | none => s.wait t k 3))

/-- SUCAN (R290, R334). -/
def execSucan (t : TileId) (k : SlotId) (s : State) : Host.Outcome State Fault Refusal :=
  .next (s.issue t k (code 0x38 0x001) (fun w s =>
    let i := (s.opA t k w).toNat % 4
    if s.suitLive t i then
      if s.suitTask t i = k then ((s.endSuit t i suitCancelled).refreshSuits t).complete t k else s.illegal t k 0x05
    else s.complete t k))

/-- SUWAIT. -/
def execSuwait (t : TileId) (k : SlotId) (s : State) : Host.Outcome State Fault Refusal :=
  .next (s.issue t k (code 0x38 0x002) (fun w s =>
    let i := (s.opA t k w).toNat % 4
    if s.suitLive t i then s.wait t k 10 else s.setRd t k w (s.rd (Reg.suitStatus t i))))

/-- SUSTAT. -/
def execSustat (t : TileId) (k : SlotId) (s : State) : Host.Outcome State Fault Refusal :=
  .next (s.issue t k (code 0x38 0x003) (fun w s =>
    s.setRd t k w (s.rd (Reg.suitStatus t ((s.opA t k w).toNat % 4)))))

/-! ## The end of a suit -/

/-- The post descriptor has landed every write (R288). -/
def State.postLanded (s : State) (t i : Nat) (x : Suit) : Bool :=
  !x.post || (x.run.posted &&
    (let y := s.queue t x.queuePost
     let mine (d : Desc) : Bool := d.suit == some i
     !y.fifo.any mine && !(y.run.any (fun r => mine r.desc)) && !(y.merge.any (fun m => m.suit == some i)) &&
       !y.writes.any (fun m => m.suit == some i)))

/-- SUIT_DONE (R288): the suit becomes DONE and its output ranges leave the scoreboard. -/
def execSuitDone (t : TileId) (i : SlotId) (s : State) : Host.Outcome State Fault Refusal :=
  match s.suit t i with
  | none => .next s
  | some x =>
    let released := (!x.bind 0 || x.run.relA) && (!x.bind 1 || x.run.relB)
    if s.suitState t i = suitRunning ∧ x.drained ∧ released ∧ s.postLanded t i x then
      let s := (s.sbFree t 0 i).dropSuit t i
      let s := (s.setFld (Reg.suitStatus t i) 29 3 suitDone).setFld (Reg.suitStatus t i) 18 6 0
      .next ((s.count (Reg.suitStatDone t) 1).refreshSuits t)
    else .next s

/-- A cancellation of suit slot `i` (R290): without effect where it is neither WAITING nor RUNNING. -/
def State.cancelSuit (s : State) (t i : Nat) : State :=
  if s.suitLive t i then (s.endSuit t i suitCancelled).refreshSuits t else s

/-- SUIT_CTRL.CANCEL of one slot (R290). -/
def execSuitCtrlCancel (t : TileId) (i : SlotId) (s : State) : Host.Outcome State Fault Refusal :=
  .next (s.ctl (Reg.suitCtrl t) (fun s => s.cancelSuit t.val i.val))

/-- The counters that SUIT_CTR_CLEAR clears. -/
def suitCtrs (t : Nat) : List Nat :=
  [Reg.suitStatIssued t, Reg.suitStatDone t, Reg.suitStatAborted t, Reg.suitStatCancelled t]

/-- SUIT_CTR_CLEAR.ALL (R293). -/
def execSuitCtrClear (t : TileId) (s : State) : Host.Outcome State Fault Refusal :=
  .next (s.ctl (Reg.suitCtrClear t) (fun s => s.clear (suitCtrs t.val)))

end Sys2Proof.Machine
end

