-- ==== Sys2Proof/Machine/Groups.lean ====
section
/-! DEFINITION. The paired groups (R56): which partition a staged word belongs to, the consistency rules over live
words, the mirror set and the image of record as lists of pages (R437, R438, R61), and the extents of tensors (R105-R118)
that the rules and the loader share. -/

namespace Sys2Proof.Machine

/-! ## Whose word it is -/

/-- The partition that the panel word at offset `o` of panel `p` belongs to. -/
def State.panelWordPart (s : State) (p o : Nat) : Option Nat :=
  if 0x1000 ≤ o ∧ o < 0x2000 then some ((o - 0x1000) / 0x200)
  else if 0x4000 ≤ o ∧ o < 0x6000 then some ((o - 0x4000) / 0x400)
  else if 0x6000 ≤ o ∧ o < 0x6800 then s.partOf (64 * p + (o - 0x6000) / 0x20)
  else if 0x8000 ≤ o ∧ o < 0x9000 then some ((o - 0x8000) / 0x200)
  else if 0x9000 ≤ o ∧ o < 0x9200 then some ((o - 0x9000) / 0x40)
  else if 0xC080 ≤ o ∧ o < 0xC100 then
    (List.range 8).find? (fun q => (s.slot q).locks.testBit (32 * p + (o - 0xC080) / 4))
  else none

/-- The partition to which a staged word belongs (R56). -/
def State.wordPart' (s : State) (a : Nat) : Option Nat :=
  if 0x1000000 ≤ a ∧ a < 0x2000000 then s.partOf ((a - 0x1000000) / 0x10000)
  else if 0x2000000 ≤ a ∧ a < 0x2040000 then s.panelWordPart ((a - 0x2000000) / 0x10000) (a % 0x10000)
  else if 0x3101000 ≤ a ∧ a < 0x3101800 then some ((a - 0x3101000) / 0x100)
  else if 0x3108000 ≤ a ∧ a < 0x3110000 then some ((a - 0x3108000) / 0x1000)
  else if 0x4002000 ≤ a ∧ a < 0x4002400 then some ((a - 0x4002000) / 0x80)
  else none

/-- The staged bits of the word at `a`. -/
def stagedMask (a : Nat) : Word := match regAt a with
  | some (r, w) => wordPart r.staged w
  | none => 0

/-- The staged words of partition `q` in the groups of `mask`: address and the value the live word would take. -/
def State.groupWords (s : State) (q mask : Nat) : List (Nat × Word) :=
  (s.staged.filter (fun e => s.wordPart' e.1 == some q && (regGroup e.1).any mask.testBit)).map
    (fun e => (e.1, (s.rd e.1 &&& ~~~ stagedMask e.1) ||| (e.2 &&& stagedMask e.1)))

/-- The state with the staged copies of the groups of `mask` live. -/
def State.withGroups (s : State) (q mask : Nat) : State :=
  (s.groupWords q mask).foldl (fun s (a, v) => s.wr a v) s

/-- Panels that hold a tile of partition `q`. -/
def State.panelsOf (s : State) (q : Nat) : List Nat :=
  (List.range 4).filter (fun p => bitsOf (s.slot q).tiles (64 * p) 64 != 0)

/-! ## Groups 0, 1, 4, 6, 8 -/

/-- A slot range lies in the Pocket and in powered bank groups (R77). -/
def slotRangeOk (base size powered : Nat) : Bool :=
  size == 0 || (base + size ≤ pocketBytes &&
    (List.range 8).all (fun g => !(base < 0x80000 * (g + 1) && 0x80000 * g < base + size) || powered.testBit g))

def State.layoutOk (s : State) (t k : Nat) : Bool :=
  slotRangeOk (s.rd (Reg.pocketSlotBase t k)).toNat (s.rd (Reg.pocketSlotBound t k)).toNat (s.fld (Reg.pocketPwrMask t) 0 8)

def State.splitOk (s : State) (t : Nat) : Bool :=
  let a := Reg.placketBwSplit t
  s.fld a 16 5 + s.fld a 8 5 + s.fld a 0 5 == 16

/-- Template `i` of tile `t` passes R274. -/
def State.templateOk (s : State) (t i : Nat) : Bool := 
  tplOk ([Reg.suitTplW0 t i, Reg.suitTplW1 t i, Reg.suitTplW2 t i, Reg.suitTplW3 t i].map (fun a => (s.rd a).toNat))

/-! ## Group 2 -/

/-- On panel `p`: every VALID ensemble of partition `q` has a member, and no tile is in two (R296). -/
def State.ensemblesOk (s : State) (p q : Nat) : Bool :=
  let es := ((List.range 8).filter (fun e => s.bit (Reg.yokeEnsCfg p q e) 31)).map (fun e => s.ensMembers p q e)
  es.all (fun ms => !ms.isEmpty) && (List.range 256).all (fun t => (es.filter (fun ms => ms.contains t)).length ≤ 1)

/-- SB_STATUS.MODE of the tiles of `q`, from the ensembles that hold them (R338). -/
def State.refreshModes (s : State) (q : Nat) : State :=
  (s.tilesOf q).foldl (fun s t =>
    let p := t / 64
    let e := (List.range 8).find? (fun e => s.bit (Reg.yokeEnsCfg p q e) 31 && (s.ensMembers p q e).contains t)
    s.setBit (Reg.sbStatus t) 31 (e.any (fun e => s.bit (Reg.yokeEnsCfg p q e) 0))) s

/-! ## Group 5 (R52, R310) -/

/-- A RESIDENCY entry: its tile and its eight words. -/
structure RingEntry where
  words : List Nat
deriving DecidableEq, Repr

def RingEntry.w (e : RingEntry) (i lo n : Nat) : Nat := bitsOf (e.words.getD i 0) lo n
def RingEntry.tile (e : RingEntry) : Nat := e.w 0 0 8
def RingEntry.ring (e : RingEntry) : Nat := e.w 0 8 8
def RingEntry.pos (e : RingEntry) : Nat := e.w 0 16 8
def RingEntry.rlen (e : RingEntry) : Nat := e.w 0 24 8 + 1
def RingEntry.spill (e : RingEntry) : Nat := e.w 1 0 8
def RingEntry.slotByte (e : RingEntry) : Nat := e.w 1 8 8
def RingEntry.succ (e : RingEntry) : Nat := e.w 1 16 8
def RingEntry.pred (e : RingEntry) : Nat := e.w 1 24 8
def RingEntry.shard (e : RingEntry) : Nat := e.w 2 0 32
def RingEntry.space (e : RingEntry) : Nat := e.w 3 0 32
def RingEntry.resBase (e : RingEntry) : Nat := e.w 4 0 32
def RingEntry.landing (e : RingEntry) : Nat := e.w 5 0 32
def RingEntry.spillBase (e : RingEntry) : Nat := e.w 6 0 32 + 0x100000000 * e.w 7 0 32
def RingEntry.seg (e : RingEntry) : Nat := e.shard / 256

/-- The shortfall D_t of R52. -/
def RingEntry.shortfall (e : RingEntry) : Nat := (e.shard - e.shard * e.spill / 256) - e.space

/-- The first tile of a ring among `es`, at position `pos`. -/
def ringAt (es : List RingEntry) (ring pos : Nat) : Option RingEntry :=
  es.find? (fun e => e.ring == ring && e.pos == pos)

/-- What R310 refuses about entry `e` of the entries `es` of partition `q`; SIZE is read live. -/
def State.ringBad (s : State) (q : Nat) (es : List RingEntry) (e : RingEntry) : Bool :=
  let size := (s.rd (Reg.pocketSlotBound e.tile (e.slotByte % 4))).toNat
  let lead := (ringAt es e.ring 0).getD e
  let same := (es.filter (fun f => f.ring == e.ring)).length
  !(s.tilesOf q).contains e.tile || 31 < e.ring || (es.filter (fun f => f.tile == e.tile)).length != 1 || e.rlen < 2 ||
    e.rlen ≤ e.pos || same != e.rlen || (es.filter (fun f => f.ring == e.ring && f.pos == e.pos)).length != 1 ||
    (ringAt es e.ring ((e.pos + 1) % e.rlen)).map (·.tile) != some e.succ ||
    (ringAt es e.ring ((e.pos + e.rlen - 1) % e.rlen)).map (·.tile) != some e.pred ||
    e.shard != lead.shard || e.spill != lead.spill || e.rlen != lead.rlen || e.slotByte != lead.slotByte ||
    e.spillBase != lead.spillBase || e.shard == 0 || e.shard % 32768 != 0 || 128 < e.spill || e.slotByte / 4 % 4 != 0 ||
    e.resBase % 128 != 0 || e.landing % 128 != 0 || size < e.resBase + e.space || size < e.landing + e.seg ||
    rangesMeet e.resBase e.space e.landing e.seg ||
    (if e.spill = 0 then e.spillBase != 0
     else e.spillBase % 128 != 0 || gaSpace e.spillBase != 1 || !gaValid e.spillBase || !s.isMe (gaModule e.spillBase) ||
       !s.inRegion q (gaHbmOff e.spillBase) (e.rlen * e.spill * e.seg))

/-- The entries of partition `q` as the live words hold them. -/
def State.rings (s : State) (q : Nat) : List RingEntry :=
  ((s.tilesOf q).map (fun t => (⟨(List.range 8).map (fun i => s.shW t i)⟩ : RingEntry))).filter
    (fun e => e.words.any (· != 0))

def State.residencyOk (s : State) (q : Nat) : Bool :=
  let es := s.rings q
  es.all (fun e => !s.ringBad q es e && e.shortfall == 0)

/-! ## Group 7: the mirror set and the image of record (R437, R438, R61) -/

/-- The regions that the live words list: global data address and pages. -/
def State.regionList (s : State) (q : Nat) : List (Nat × Nat) :=
  ((List.range 256).map (fun r => (s.rd64 (Reg.mirrorRegionAddr q r), (s.rd (Reg.mirrorRegionPages q r)).toNat))).filter
    (fun e => e.2 != 0)

/-- A region lies in the partition, 64 KiB aligned (R437). -/
def State.mirrorRegionOk (s : State) (q : Nat) (e : Nat × Nat) : Bool :=
  let n := 0x10000 * e.2
  gaValid e.1 && e.1 % 0x10000 == 0 && s.isMe (gaModule e.1) && n != 0 &&
    (if gaSpace e.1 = 0 then (s.tilesOf q).contains (gaTile e.1) && gaPocketOff e.1 + n ≤ pocketBytes
     else gaSpace e.1 == 1 && s.inRegion q (gaHbmOff e.1) n)

/-- Regions, none of which meets an earlier one. -/
def disjointRegions : List (Nat × Nat) → Bool
  | [] => true
  | (a, n) :: es => es.all (fun (b, m) => !rangesMeet a (0x10000 * n) b (0x10000 * m)) && disjointRegions es

/-- The bytes of the image of record: the loaded image, then its commit records, as firmware keeps them (R61). -/
def recordBytes (img : List Byte) (cs : List CommitRec) : List Byte := img ++ cs.flatMap Config.commitBytes

def pagesFor (n : Nat) : Nat := (n + 0xFFFF) / 0x10000

/-- The mirror set fits MIRROR_BYTES together with the image of record of these commit records (R437). -/
def State.mirrorFits (s : State) (q : Nat) (img : List Byte) (cs : List CommitRec) : Bool :=
  ((s.regionList q).foldl (fun n e => n + e.2) 0 + pagesFor (recordBytes img cs).length) * 0x10000 ≤ (s.mirrorArea q).2

def State.mirrorSetOk (s : State) (q : Nat) : Bool :=
  (s.regionList q).all (s.mirrorRegionOk q) && disjointRegions (s.regionList q)

/-! ## Tensor extents -/

/-- Entries of the pointer planes (R109, R112, R113). -/
def TDesc.ptrEntries (d : TDesc) (nr nc : Nat) : Nat :=
  if d.format = fmtBmap then ceilDiv nr 16 + 1
  else if d.format = fmtCrow then ceilDiv nc 65536 * nr + 1
  else ceilDiv nr 65536 * ceilDiv nc 65536 + 1

/-- Bits of a metadata field of NM (R110). -/
def nmBits (m : Nat) : Nat := if m = 4 then 2 else if m = 8 then 3 else 4

/-- Bytes of the MAP plane (R108, R111). -/
def TDesc.mapBytes (d : TDesc) (nr nc : Nat) : Nat :=
  if d.format = fmtBmap then ceilDiv nr 16 * ceilDiv nc 256 * 32
  else
    let (n, m) := nmRatio d.nmCode
    nr * (ceilDiv (nc / m * n * nmBits m) 64 * 8)

/-- The planes that are present: field offset in the descriptor, plane offset, bytes. The tensor has `nr` rows and `nc`
columns, and scale blocks of `sb` (R118). -/
def TDesc.planes (d : TDesc) (nr nc : Nat) (sb : Nat × Nat) : List (Nat × Nat × Nat) :=
  let cap := d.nvalCap
  let maps := ceilDiv nr 16 * ceilDiv nc 256 * 32
  let ptr := 2 * d.ptrEntries nr nc
  ([(0x30, d.val0, if isPlane d.elem then ceilDiv cap 256 * d.width * 32 else cap * tySize d.elem), (0x38, d.val1, 2 * cap),
    (0x40, d.map, d.mapBytes nr nc), (0x48, d.ptrHi, ptr), (0x50, d.ptrLo, ptr), (0x58, d.idxCol, 2 * cap),
    (0x60, d.idxRow, 2 * cap), (0x68, d.gmap, maps), (0x70, d.pocc, ceilDiv cap 256),
    (0x78, d.scale, if sb.1 = 0 then 0 else ceilDiv nr sb.1 * ceilDiv nc sb.2)]).filter (fun p => p.2.1 != noneAddr)

/-- Scale block of recipe `r` of partition `q`, as panel `p` holds it: rows and columns (R215). -/
def State.recipeBlock (s : State) (p q r : Nat) : Nat × Nat :=
  (s.fld (Reg.recipeW0 p q r) 16 16, s.fld (Reg.recipeW2 p q r) 0 16)

/-- The bytes `[a, a + n)` of a global data address lie in tiles or regions of partition `q` of this module. -/
def State.inPart (s : State) (q a n : Nat) : Bool :=
  if gaSpace a = 0 then (s.tilesOf q).contains (gaTile a) && gaPocketOff a + n ≤ pocketBytes
  else gaSpace a == 1 && s.inRegion q (gaHbmOff a) n

/-! ## Group 9: the Collar services (R485) -/

/-- The COLLAR_SERVICE settings, from their 128 bytes or 32 words. -/
structure Svc where
  words : List Nat
deriving DecidableEq, Repr

def Svc.n (x : Svc) (off : Nat) (len : Nat) : Nat :=
  bitsOf (x.words.getD (off / 4) 0 + 0x100000000 * x.words.getD (off / 4 + 1) 0) (8 * (off % 4)) (8 * len)
def Svc.maxSeqs (x : Svc) : Nat := x.n 0 2
def Svc.batchRows (x : Svc) : Nat := x.n 2 2
def Svc.prefillRows (x : Svc) : Nat := x.n 4 2
def Svc.serve (x : Svc) : Bool := (x.n 6 2).testBit 0
def Svc.context (x : Svc) : Nat := x.n 8 4
def Svc.vocabCount (x : Svc) : Nat := x.n 0x0C 4
def Svc.mergeCount (x : Svc) : Nat := x.n 0x10 4
def Svc.kvPages (x : Svc) : Nat := x.n 0x14 4
def Svc.pageBytes (x : Svc) : Nat := x.n 0x18 4
def Svc.partialBytes (x : Svc) : Nat := x.n 0x1C 4
def Svc.vocabAddr (x : Svc) : Nat := x.n 0x20 8
def Svc.stringsAddr (x : Svc) : Nat := x.n 0x28 8
def Svc.mergeAddr (x : Svc) : Nat := x.n 0x30 8
def Svc.kvBase (x : Svc) : Nat := x.n 0x38 8
def Svc.serviceAddr (x : Svc) : Nat := x.n 0x40 8
def Svc.serviceBytes (x : Svc) : Nat := x.n 0x48 8
/-- Tensor `i` of LOGITS, TOKENS, POS, ROWMAP, PAGETAB. -/
def Svc.tid (x : Svc) (i : Nat) : Nat := x.n (0x50 + 2 * i) 2
def Svc.partialCount (x : Svc) : Nat := x.n 0x5A 1
def Svc.partialEvery (x : Svc) : Nat := x.n 0x5B 1
def Svc.partialTid (x : Svc) (i : Nat) : Nat := x.n (0x60 + 2 * i) 2

/-- The live settings of partition `q`. -/
def State.svc (s : State) (q : Nat) : Svc := ⟨(List.range 32).map (fun i => (s.rd (Reg.collarSvcW q i)).toNat)⟩

/-- An area of the service in HBM space lies in the partition's regions. -/
def State.svcArea (s : State) (q a n : Nat) : Bool :=
  gaSpace a == 1 && gaValid a && s.isMe (gaModule a) && s.inRegion q (gaHbmOff a) n

/-- Every byte of `[a, a + n)` lies in some region of the mirror set. -/
def State.mirrored (s : State) (q a n : Nat) : Bool :=
  covered ((s.regionList q).map (fun e => (e.1, 0x10000 * e.2))) 257 a n

/-- A service or partial tensor: DENSE, not distributed, with a base (R485). -/
def State.svcTensorOk (s : State) (q i : Nat) : Bool :=
  match s.tensor q i with
  | some d => d.format == fmtDense && !d.dist && d.base != noneAddr
  | none => false

/-- Every plane of a service tensor lies in the mirror set. -/
def State.svcTensorMirrored (s : State) (q i : Nat) : Bool :=
  match s.tensor q i with
  | some d => (d.planes d.nr d.nc (s.recipeBlock ((s.panelsOf q).headD 0) q d.recipe)).all (fun p => s.mirrored q (d.base + p.2.1) p.2.2)
  | none => false

/-- What R485 and R486 refuse about the settings: the offset of the field, and whether it is bad; in rising offset. -/
def State.svcBad (s : State) (q : Nat) (x : Svc) : List (Nat × Bool) :=
  let sv := x.serve
  let used := sv || 0 < x.partialCount
  let ts (i : Nat) : Bool :=
    if sv then !s.svcTensorOk q (x.tid i) || !s.svcTensorMirrored q (x.tid i) else x.tid i != 0xFFFF
  [(0x00, if sv then !(1 ≤ x.maxSeqs && x.maxSeqs ≤ 4096) else x.maxSeqs != 0),
   (0x02, if sv then !(1 ≤ x.batchRows && x.batchRows ≤ 4096) else x.batchRows != 0),
   (0x04, if sv then !(1 ≤ x.prefillRows && x.prefillRows ≤ x.batchRows) else x.prefillRows != 0),
   (0x06, 1 < x.n 6 2),
   (0x08, if sv then x.context == 0 || x.context % 64 != 0 || 1048576 < x.context else x.context != 0),
   (0x0C, if sv then !(256 ≤ x.vocabCount && x.vocabCount ≤ 1048576) else x.vocabCount != 0),
   (0x10, if sv then false else x.mergeCount != 0),
   (0x14, if sv then false else x.kvPages != 0),
   (0x18, if sv then x.pageBytes % 128 != 0 else x.pageBytes != 0),
   (0x1C, x.partialBytes % 4096 != 0 || (x.partialCount == 0 && x.partialBytes != 0)),
   (0x20, if sv then !s.svcArea q x.vocabAddr (8 * x.vocabCount) else x.vocabAddr != 0),
   (0x28, if sv then !s.svcArea q x.stringsAddr 1 else x.stringsAddr != 0),
   (0x30, if sv then !s.svcArea q x.mergeAddr (12 * x.mergeCount) else x.mergeAddr != 0),
   (0x38, if sv then !s.svcArea q x.kvBase (x.kvPages * x.pageBytes) || !s.mirrored q x.kvBase (x.kvPages * x.pageBytes)
     else x.kvBase != 0),
   (0x40, if used then !s.svcArea q x.serviceAddr x.serviceBytes || !s.mirrored q x.serviceAddr x.serviceBytes
     else x.serviceAddr != 0),
   (0x48, if used then x.serviceBytes < x.partialBytes + 1024 * (if sv then x.maxSeqs else 0) + 0x100000
     else x.serviceBytes != 0),
   (0x50, ts 0), (0x52, ts 1), (0x54, ts 2), (0x56, ts 3), (0x58, ts 4),
   (0x5A, 16 < x.partialCount),
   (0x5B, if x.partialCount = 0 then x.partialEvery != 0 else x.partialEvery == 0),
   (0x5C, x.n 0x5C 4 != 0)] ++
  (List.range 16).map (fun i => (0x60 + 2 * i,
    if i < x.partialCount then !s.svcTensorOk q (x.partialTid i) else x.partialTid i != 0xFFFF))

/-- The module limits of R485, partition `q` counting with settings `x`. -/
def State.svcLimits (s : State) (q : Nat) (x : Svc) : Bool :=
  let others := (List.range 8).filter (fun r => r != q && (s.slot r).tiles != 0)
  let ms := x.maxSeqs :: others.map (fun r => (s.svc r).maxSeqs)
  ms.foldl (· + ·) 0 ≤ 4096 && (ms.foldl (fun n m => n + 524288 + 1024 * m) 0) ≤ 12582912

/-! ## The rules (R56) -/

/-- The consistency rule of group `g` for partition `q`, on the live words of a state. -/
def State.groupOk (s : State) (q g : Nat) : Bool :=
  match g with
  | 0 => (s.tilesOf q).all (fun t => (List.range 4).all (fun k => s.layoutOk t k))
  | 1 => (s.tilesOf q).all (fun t => s.splitOk t)
  | 2 => (s.panelsOf q).all (fun p => s.ensemblesOk p q)
  | 3 => (s.panelsOf q).all (fun p => (s.slot q).tensors.all (fun d =>
      s.bit (Reg.recipeW0 p q (TDesc.recipe ⟨d.2⟩)) 0 && TDesc.recipe ⟨d.2⟩ < 32))
  | 4 => (s.tilesOf q).all (fun t => (List.range 32).all (fun i => s.templateOk t i))
  | 5 => s.residencyOk q
  | 6 => (s.panelsOf q).all (fun p => 1 ≤ s.fld (Reg.samplerRate p q) 0 21)
  | 7 => s.mirrorSetOk q
  | 8 => (setBits (s.slot q).locks 128).all (fun l => s.rd (Reg.lockLease (l / 32) (l % 32)) != 0)
  | 9 => (s.svcBad q (s.svc q)).all (fun c => !c.2) && s.svcLimits q (s.svc q)
  | _ => true

end Sys2Proof.Machine
end

