-- ==== Sys2Proof/Machine/Pocket.lean ====
section
/-! DEFINITION. The Pocket ports, scrub, wipe and POCKET_ACC (spec 03). A command of a wide or narrow port is one
cycle of the panel tile clock. -/

namespace Sys2Proof.Machine

/-! ## The wide ports -/

/-- A task's access as its port chooses it for the cycle: the bound test (R75) and the refusals of R79 and R88 come
first; a refused access is charged and goes no further. -/
def State.admitWide (s : State) (t : Nat) (r : WideReq) : State × Option PAccess :=
  let len := 8 * r.words
  match s.slotPhys t r.task r.off len with
  | none => (s.chargeTask t r.task 1 0x10 0 id (fun _ => (r.off, 0, 0)), none)
  | some off =>
    match s.pocketRefusal t off len with
    | some c => (s.chargeAccess t (.task r.task r.req) c off, none)
    | none => (s, some { src := .task r.task r.req, off := off, len := len, wr := r.wr })

/-- The oldest admitted inbound read or write, taken by WP1 (R248, R370); the refusals of R79 and R88 come first. An
accumulate is performed by the Placket unit instead (R258). -/
def State.admitInbound (s : State) (t : Nat) : State × Option PAccess :=
  match (s.tile t).inbound with
  | (p, w) :: rest =>
    if p.kind = 3 then (s, none)
    else
      let s := (s.setTile t { s.tile t with inbound := rest }).count (Reg.placketStatRemoteIn t) 1
      match s.pocketRefusal t p.off p.len with
      | some c => (s.chargeAccess t (.remote p w) c p.off, none)
      | none =>
        (s, some { src := .remote p w, off := p.off, len := p.len, wr := if p.kind = 2 then some p.data else none })
  | [] => (s, none)

/-- The banks an access needs (R68). -/
def PAccess.banks (a : PAccess) : List Nat := (wordsOf a.off a.len).map (· % 32)

/-- The banks of words that a write enables only in part: they are busy in the next cycle too (R69). -/
def mergeBanks (a : PAccess) : List Nat :=
  match a.wr with
  | none => []
  | some bs =>
    let pre := List.replicate (a.off % 8) none ++ bs
    let ws := cutWords a.banks.length (pre ++ List.replicate ((8 - pre.length % 8) % 8) none)
    (a.banks.zip ws).filterMap (fun (b, w) => if w.any Option.isSome && !w.all Option.isSome then some b else none)

/-- A granted access: a write lands, a read captures its data (R69). An access that was held under ABORT aborts the
task charged once it has completed (R73). -/
def State.grantWide (s : State) (t : Nat) (h : HeldAccess) : State :=
  match h.acc.wr with
  | some bs =>
    let (s, code) := s.pocketWrite t h.acc.off bs
    let s := if code = 0 then s.remoteLanded t h.acc.src [] else s.chargeAccess t h.acc.src code
      (s.failOff t code h.acc.off (wordsOf h.acc.off bs.length))
    match h.charge with
    | some k => s.chargeTask t k 1 0x01 0 id (fun s => (h.acc.off, (s.rd (Reg.pocketConflictInfo t)).toNat, 0))
    | none => s
  | none =>
    let p := s.ports t
    s.setPorts t { p with reads := p.reads ++ [{ port := h.port, acc := h.acc,
                                                 data := mread s.pocket (pkey t h.acc.off) h.acc.len, charge := h.charge }] }

/-- The task charged with a conflict: the one whose access is held, or the local one when the held access is inbound
(R73). -/
def conflictTask (held earlier : PAccess) : Option Nat :=
  match held.src, earlier.src with
  | .task k _, _ => some k
  | _, .task k _ => some k
  | _, _ => none

/-- A bank conflict (R72, R73): counted, latched, and charged by CONFLICT_ACTION. The answer is the task to abort
when the held access completes. -/
def State.conflict (s : State) (t : Nat) (held earlier : PAccess) : State × Option Nat :=
  let common := held.banks.filter earlier.banks.contains
  let bank := common.foldl min 31
  let who := conflictTask held earlier
  let remote := match held.src with | .task _ _ => 0 | _ => 0x40000000
  let s := s.count (Reg.pocketConflictCount t) 1
  let s := s.setBit (Reg.pocketStatus t) 3 true
  let s := s.wr (Reg.pocketConflictInfo t)
    (BitVec.ofNat 32 (0x80000000 + remote + (who.getD 0) * 0x10000000 + bank * 0x400000 + held.off))
  if s.bit (Reg.pocketCfg t) 0 then
    match who with
    | none => (s, none)
    | some k =>
      let s := s.warnTask t k 0x01 0 1 0 (s.firstInStep t 0x01) held.off (s.rd (Reg.pocketConflictInfo t)).toNat 0
      (s.markStep t 0x01, none)
  else (s, who)

/-- One cycle of the wide ports with the accesses they present, the earlier first: each is granted whole when its
banks are free of the second cycles of writes and of the earlier access, and held otherwise (R68, R71, R72). -/
def State.wideCycle (s : State) (t : Nat) (as : List HeldAccess) : State :=
  let merging := (s.ports t).merging
  let s := s.setPorts t { s.ports t with held := [], merging := [], busy := merging }
  let step (st : State × List PAccess) (h : HeldAccess) : State × List PAccess :=
    let (s, before) := st
    let bs := h.acc.banks
    let clash := before.find? (fun e => e.banks.any bs.contains)
    match clash with
    | some e =>
      let (s, who) := s.conflict t h.acc e
      let p := s.ports t
      (s.setPorts t { p with held := p.held ++ [{ h with charge := h.charge.or who }] }, before)
    | none =>
      let p := s.ports t
      if merging.any bs.contains then (s.setPorts t { p with held := p.held ++ [h] }, before ++ [h.acc])
      else
        let s := s.setPorts t { p with busy := p.busy ++ bs, merging := p.merging ++ mergeBanks h.acc }
        (s.grantWide t h, before ++ [h.acc])
  (as.foldl step (s, [])).1

/-- POCKET_WIDE_ACCESS: the accesses chosen for WP0 and WP1 in a cycle. A port whose access is held presents that one
and takes no other. -/
def execPocketWideAccess (t : TileId) (a0 : Option WideReq) (a1 : Option Wp1Req) (s : State) :
    Host.Outcome State Fault Refusal :=
  let holds (s : State) (port : Nat) : Bool := (s.ports t).held.any (fun h => h.port == port)
  let present (port : Nat) (r : State × Option PAccess) : State × List HeldAccess :=
    (r.1, (r.2.map (fun a => { port := port, acc := a, charge := none })).toList)
  let (s, n0) := match a0 with
    | some r => if holds s 0 then (s, []) else present 0 (s.admitWide t r)
    | none => (s, [])
  let (s, n1) := match a1 with
    | some (.own r) => if holds s 1 then (s, []) else present 1 (s.admitWide t r)
    | some .inbound => if holds s 1 then (s, []) else present 1 (s.admitInbound t)
    | none => (s, [])
  .next (s.wideCycle t ((s.ports t).held ++ n0 ++ n1))

/-- HELD_ACCESS_GRANT: a cycle in which the wide ports present the accesses they hold and no new one (R72). -/
def execHeldAccessGrant (t : TileId) (s : State) : Host.Outcome State Fault Refusal :=
  .next (s.wideCycle t (s.ports t).held)

/-- Marks words that were found damaged, as cell faults that the read meets. -/
def State.damage (s : State) (t : Nat) (words : List Nat) (errs : List (Nat × WordErr)) : State :=
  { s with pocketErr := errs.foldl (fun m (w, e) => if words.contains w then tset m (wkey t w) e else m) s.pocketErr }

/-- POCKET_READ_DATA: the oldest granted read is checked and delivered (R69, R70, R80, R81). `errs` are the words of
it whose stored bits have come to fail their check. -/
def execPocketReadData (t : TileId) (errs : List (Nat × WordErr)) (s : State) : Host.Outcome State Fault Refusal :=
  match (s.ports t).reads with
  | [] => .next s
  | r :: rs =>
    let s := s.setPorts t { s.ports t with reads := rs }
    let ws := wordsOf r.acc.off r.acc.len
    let (s, ok, charge) := (s.damage t ws errs).checkWords t ws
    let s := if ok then
        (s.setPorts t { s.ports t with delivered := some (r.acc.src, r.data) }).remoteLanded t r.acc.src r.data
      else s.chargeAccess t r.acc.src (if charge then 0x02 else 0) (s.failOff t 0x02 r.acc.off ws)
    .next (match r.charge with
      | some k => s.chargeTask t k 1 0x01 0 id (fun s => (r.acc.off, (s.rd (Reg.pocketConflictInfo t)).toNat, 0))
      | none => s)

/-! ## The narrow port -/

/-- The oldest narrow access is granted: its write lands and holds its bank for two cycles (R70). -/
def State.grantNarrow (s : State) (t : Nat) (r : NarrowReq) (rest : List NarrowReq) : State :=
  let s := s.setPorts t { s.ports t with posted := rest, merging := banksOf r.acc.off 1 }
  let (s, code) := s.pocketWrite t r.acc.off (r.acc.wr.getD [])
  s.chargeAccess t r.acc.src code (s.failOff t code r.acc.off (wordsOf r.acc.off (r.acc.wr.getD []).length))

/-- NARROW_ACCESS: the oldest narrow access takes its bank when no wide port holds it, and waits otherwise (R70,
R74). -/
def execNarrowAccess (t : TileId) (s : State) : Host.Outcome State Fault Refusal :=
  match (s.ports t).posted with
  | [] => .next s
  | r :: rest =>
    let b := r.acc.off / 8 % 32
    if (s.ports t).busy.contains b || (s.ports t).merging.contains b then
      .next (s.setPorts t { s.ports t with posted := { r with waits := r.waits + 1 } :: rest })
    else .next (s.grantNarrow t r rest)

/-- NARROW_FORCE: a narrow access that has waited 16 cycles takes its bank; a wide access that needs it in this cycle
is held (R74). -/
def execNarrowForce (t : TileId) (s : State) : Host.Outcome State Fault Refusal :=
  match (s.ports t).posted with
  | [] => .next s
  | r :: rest =>
    if r.waits < 16 then .next s
    else
      let s := s.count (Reg.pocketNarrowForceCount t) 1
      .next ((s.setBit (Reg.pocketStatus t) 2 true).grantNarrow t r rest)

/-! ## Check bits, scrub, wipe and wake -/

/-- CE_WRITE_BACK: the oldest corrected word that no port has written since is written back once its bank is free
(R80). -/
def execCeWriteBack (t : TileId) (s : State) : Host.Outcome State Fault Refusal :=
  match (s.ports t).ceBack with
  | [] => .next s
  | w :: _ =>
    if (s.ports t).busy.contains (w % 32) || (s.ports t).merging.contains (w % 32) then .next s
    else .next (s.fixWord t w)

/-- The first word at or after `w` in a group that is ON, wrapping past the end; `none` when no group is ON. -/
def State.scrubNext (s : State) (t w : Nat) : Option Nat :=
  let on (g : Nat) : Bool := s.bit (Reg.pocketPwrStatus t) (g % 8)
  if on (w / 0x10000) then some w
  else ((List.range 8).find? (fun i => on (w / 0x10000 + 1 + i))).map (fun i => (w / 0x10000 + 1 + i) * 0x10000)

/-- Moves the scrub pointer to the word after `w`; the wrap completes a pass (R83, R84). -/
def State.scrubAdvance (s : State) (t w : Nat) : State :=
  let s := s.wr (Reg.pocketScrubPtr t) (BitVec.ofNat 32 (8 * ((w + 1) % 0x80000)))
  if 0x80000 ≤ w + 1 then
    (s.wr (Reg.pocketScrubPasses t) (s.rd (Reg.pocketScrubPasses t) + 1)).setBit (Reg.pocketStatus t) 1 true
  else s

/-- SCRUB_STEP: the scrub engine reads the next word in a cycle in which its bank is free (R83-R85). `err` is what
has come to be wrong with the word. A step starts the tile's clock on demand. -/
def execScrubStep (t : TileId) (err : Option WordErr) (s : State) : Host.Outcome State Fault Refusal :=
  if !s.bit (Reg.pocketScrubCtrl t) 0 || s.bit (Reg.pocketStatus t) 7 then .next s
  else match s.scrubNext t (s.fld (Reg.pocketScrubPtr t) 3 19) with
    | none => .next s
    | some w0 =>
      let w := w0 % 0x80000
      if (s.ports t).busy.contains (w % 32) || (s.ports t).merging.contains (w % 32) then .next s
      else
        let s := s.setTile t { s.tile t with clockStopped := false }
        let s := match err with
          | some e => s.damage t [w] [(w, e)]
          | none => s
        let wrapped := if w0 = w then s else
          (s.wr (Reg.pocketScrubPasses t) (s.rd (Reg.pocketScrubPasses t) + 1)).setBit (Reg.pocketStatus t) 1 true
        let (s, _, charge) := wrapped.checkWords t [w]
        let s := match charge, s.partOf t with
          | true, some q => s.jobFault q 0x02 1 1 0 (some t.val) (8 * w) (s.rd (Reg.pocketErrAddr t)).toNat 0
          | _, _ => s
        .next (s.scrubAdvance t w)

/-- Zeroes a range of a Pocket with correct check bits (R78, R86): no dirty bit is set (R89). -/
def State.zeroPocket (s : State) (t off len : Nat) : State :=
  { s with pocket := mzero s.pocket (pkey t off) len,
           pocketErr := s.pocketErr.filter (fun p => p.1 < wkey t (off / 8) || wkey t ((off + len) / 8) ≤ p.1) }

/-- The start of a wipe (R86-R88): accesses are refused from here on, POCKET_PWR_MASK returns to its reset value live
and staged, groups that are not ON begin to wake, and what is in flight is discarded (R90). -/
def State.startWipe (s : State) (t : Nat) : State :=
  let off := 0xFF - s.fld (Reg.pocketPwrStatus t) 0 8
  let s := (s.setBit (Reg.pocketStatus t) 7 true).wrBoth (Reg.pocketPwrMask t) 0xFF
  let s := s.setFld (Reg.pocketPwrStatus t) 8 8 off
  (s.zeroPocket t 0 pocketBytes).setPorts t { Ports.init with delivered := (s.ports t).delivered }

/-- WIPE_DONE: the wipe and the wakes of the tile are complete (R87); counters, status and latched errors are cleared
(R90). -/
def execWipeDone (t : TileId) (s : State) : Host.Outcome State Fault Refusal :=
  if !s.bit (Reg.pocketStatus t) 7 then .next s
  else
    let s := (s.zeroPocket t 0 pocketBytes).clear [Reg.pocketStatus t, Reg.pocketConflictCount t, Reg.pocketConflictInfo t,
      Reg.pocketCeCount t, Reg.pocketUeCount t, Reg.pocketErrAddr t, Reg.pocketNarrowForceCount t, Reg.pocketScrubPtr t]
    .next ((s.setBit (Reg.pocketStatus t) 6 true).wr (Reg.pocketPwrStatus t) 0xFF)

/-- A commit that waits for bank groups becomes APPLIED once every group of the partition's tiles is ON (R59). -/
def State.commitWoken (s : State) (q : Nat) : State :=
  if (s.slot q).commitWait && (s.tilesOf q).all (fun t => s.fld (Reg.pocketPwrStatus t) 8 8 == 0) then
    (s.setSlot q { s.slot q with commitWait := false }).setFld (Reg.structCommitStatus q) 0 2 2
  else s

/-- BANK_GROUP_WAKE_DONE: every word of the group is zero and the group is ON (R78). -/
def execBankGroupWakeDone (t : TileId) (g : Fin 8) (s : State) : Host.Outcome State Fault Refusal :=
  if !s.bit (Reg.pocketPwrStatus t) (8 + g) then .next s
  else
    let s := s.zeroPocket t (g * 0x80000) 0x80000
    let s := (s.setBit (Reg.pocketPwrStatus t) (8 + g) false).setBit (Reg.pocketPwrStatus t) g true
    .next (match s.partOf t with
      | some q => s.commitWoken q
      | none => s)

/-! ## POCKET_ACC -/

/-- POCKET_ACC_ADDR after an access (R92). -/
def State.accAdvance (s : State) (t : Nat) : State :=
  s.wr (Reg.pocketAccAddr t) (BitVec.ofNat 32 (((s.rd (Reg.pocketAccAddr t)).toNat + 4) % pocketBytes))

/-- A POCKET_ACC access that is refused: its status bit, and a record that stops nothing (R79, R88, R92). -/
def State.accRefused (s : State) (t code off : Nat) : State :=
  let s := s.setBit (Reg.pocketAccStatus t) (if code = 0x11 then 2 else if code = 0x03 then 1 else 0) true
  s.pocketRecord t code off (s.rd (Reg.pocketAccStatus t)).toNat

/-- A read of POCKET_ACC_DATA (R92): the data answered, and the state after. -/
def State.accRead (s : State) (t : Nat) : State × Word :=
  let off := (s.rd (Reg.pocketAccAddr t)).toNat
  match s.pocketRefusal t off 4 with
  | some c => (s.accRefused t c off, 0)
  | none =>
    let (s, ok, charge) := s.checkWords t (wordsOf off 4)
    if ok then (s.accAdvance t, BitVec.ofNat 32 (mreadNat s.pocket (pkey t off) 4))
    else
      let s := s.setBit (Reg.pocketAccStatus t) 0 true
      (if charge then s.pocketRecord t 0x02 (s.failOff t 0x02 off (wordsOf off 4)) (s.rd (Reg.pocketAccStatus t)).toNat else s, 0)

/-- A write of POCKET_ACC_DATA (R92). -/
def State.accWrite (s : State) (t : Nat) (v : Word) : State :=
  let off := (s.rd (Reg.pocketAccAddr t)).toNat
  let (s', code) := s.pocketWrite t off ((leBytes 4 v.toNat).map some)
  if code = 0 then s'.accAdvance t else s'.accRefused t code (s'.failOff t code off (wordsOf off 4))

/-- POCKET_ACC_READ: the data read go to the requester. -/
def execPocketAccRead (t : TileId) (s : State) : Host.Outcome State Fault Refusal :=
  if !s.regOn (Reg.pocketAccData t) then .next { s with reply := leBytes 4 0 }
  else
    let (s, v) := s.accRead t
    .next { s with reply := leBytes 4 v.toNat }

/-- POCKET_ACC_WRITE. -/
def execPocketAccWrite (t : TileId) (v : Word) (s : State) : Host.Outcome State Fault Refusal :=
  .next (s.ctl (Reg.pocketAccData t) (fun s => s.accWrite t v))

/-! ## Counters -/

/-- The counters that POCKET_CTR_CLEAR clears. -/
def pocketConflictCtrs (t : Nat) : List Nat :=
  [Reg.pocketConflictCount t, Reg.pocketConflictInfo t]

/-- POCKET_CTR_CLEAR.CONFLICT (R95). -/
def execPocketCtrClearConflict (t : TileId) (s : State) : Host.Outcome State Fault Refusal :=
  .next (s.ctl (Reg.pocketCtrClear t) (fun s => s.clear (pocketConflictCtrs t.val)))

/-- The counters that POCKET_CTR_CLEAR clears. -/
def pocketCeCtrs (t : Nat) : List Nat :=
  [Reg.pocketCeCount t]

/-- POCKET_CTR_CLEAR.CE (R95). -/
def execPocketCtrClearCe (t : TileId) (s : State) : Host.Outcome State Fault Refusal :=
  .next (s.ctl (Reg.pocketCtrClear t) (fun s => s.clear (pocketCeCtrs t.val)))

/-- The counters that POCKET_CTR_CLEAR clears. -/
def pocketUeCtrs (t : Nat) : List Nat :=
  [Reg.pocketUeCount t]

/-- POCKET_CTR_CLEAR.UE (R95). -/
def execPocketCtrClearUe (t : TileId) (s : State) : Host.Outcome State Fault Refusal :=
  .next (s.ctl (Reg.pocketCtrClear t) (fun s => s.clear (pocketUeCtrs t.val)))

/-- The counters that POCKET_CTR_CLEAR clears. -/
def pocketNarrowCtrs (t : Nat) : List Nat :=
  [Reg.pocketNarrowForceCount t]

/-- POCKET_CTR_CLEAR.NARROW (R95). -/
def execPocketCtrClearNarrow (t : TileId) (s : State) : Host.Outcome State Fault Refusal :=
  .next (s.ctl (Reg.pocketCtrClear t) (fun s => s.clear (pocketNarrowCtrs t.val)))

end Sys2Proof.Machine
end

