-- ==== Sys2Proof/Machine/Commit.lean ====
section
/-! DEFINITION. The group commit (R55-R61). -/

namespace Sys2Proof.Machine

/-! ## Requests (R57, R60) -/

/-- The GROUP_MASK and ANY_POINT of a STRUCT_COMMIT_CTRL word. -/
def goMaskOf (v : Word) : Nat := fieldOf v 16 10

/-- A write of the RW fields of STRUCT_COMMIT_CTRL. -/
def State.putCommitCtrl (s : State) (q : Nat) (v : Word) : State := s.wr (Reg.structCommitCtrl q) (v &&& 0x03FF0004)

/-- A write with GO = 1 (R57). -/
def State.commitGo (s : State) (q : Nat) (v : Word) : State :=
  let a := Reg.structCommitStatus q
  if s.fld a 0 2 = 1 then s.setBit a 2 true
  else
    let s := (s.putCommitCtrl q v).setFld a 8 8 0
    let s := s.setFld a 16 8 0xFF
    if goMaskOf v = 0 then s.setFld a 0 2 2
    else (s.setFld a 0 2 1).setSlot q { s.slot q with goMask := goMaskOf v, goAny := v.getLsbD 2 }

/-- A write with ABORT = 1 (R60). -/
def State.commitAbort (s : State) (q : Nat) : State :=
  let a := Reg.structCommitStatus q
  if s.fld a 0 2 = 1 && !(s.slot q).commitWait then (s.setFld a 0 2 3).setFld a 8 8 2 else s

/-- A write of STRUCT_COMMIT_CTRL: ABORT acts first, then GO (R60). -/
def State.writeCommitCtrl (s : State) (q : Nat) (v : Word) : State :=
  let s := if v.getLsbD 1 then s.commitAbort q else s
  if v.getLsbD 0 then s.commitGo q v else s.putCommitCtrl q v

/-- STRUCT_COMMIT_GO: a write of GO without ABORT. -/
def execStructCommitGo (q : PartId) (v : Word) (s : State) : Host.Outcome State Fault Refusal :=
  .next (s.writeCommitCtrl q.val (v &&& ~~~ 3#32 ||| 1#32))

/-- STRUCT_COMMIT_ABORT: a write of ABORT, with or without GO. -/
def execStructCommitAbort (q : PartId) (v : Word) (s : State) : Host.Outcome State Fault Refusal :=
  .next (s.writeCommitCtrl q.val (v ||| 2#32))

/-! ## Application (R58, R59, R61) -/

/-- The live word of POCKET_PWR_MASK has changed (R78): a group taken off loses its contents at once, a group put on
wakes. -/
def State.applyPower (s : State) (t : Nat) : State :=
  let mask := s.fld (Reg.pocketPwrMask t) 0 8
  (List.range 8).foldl (fun s g =>
    let on := s.bit (Reg.pocketPwrStatus t) g
    let waking := s.bit (Reg.pocketPwrStatus t) (8 + g)
    if mask.testBit g then (if on || waking then s else s.setBit (Reg.pocketPwrStatus t) (8 + g) true)
    else if on || waking then
      ((s.setBit (Reg.pocketPwrStatus t) g false).setBit (Reg.pocketPwrStatus t) (8 + g) false).zeroPocket t (g * 0x80000) 0x80000
    else s) s

/-- What follows when groups become live: bank groups change power (R78), tiles change scoreboard mode (R338). -/
def State.afterGroups (s : State) (q mask : Nat) : State :=
  let s := if mask.testBit 0 then (s.tilesOf q).foldl State.applyPower s else s
  if mask.testBit 2 then s.refreshModes q else s

/-- The record that the pending commit would append (R61). -/
def State.commitRec (s : State) (q step : Nat) : CommitRec :=
  { step := step, epoch := s.nextEpoch q, mask := (s.slot q).goMask, words := s.groupWords q (s.slot q).goMask }

/-- The lowest group that fails (R59): a rule of a group of the mask, or the size of the mirror set with the new record,
which fails as group 7 whatever the mask (R437). -/
def State.failingGroup (s : State) (q step : Nat) : Option Nat :=
  let x := s.slot q
  let s' := s.withGroups q x.goMask
  let fits := x.image.isEmpty || s'.mirrorFits q x.image (x.commits ++ [s.commitRec q step])
  (List.range 10).find? (fun g => (x.goMask.testBit g && !s'.groupOk q g) || (g == 7 && !fits))

/-- Applies the pending commit, or fails it (R59). -/
def State.applyCommit (s : State) (q step : Nat) : State :=
  let a := Reg.structCommitStatus q
  match s.failingGroup q step with
  | some g => ((s.setFld a 0 2 3).setFld a 8 8 1).setFld a 16 8 g
  | none =>
    let x := s.slot q
    let rec' := s.commitRec q step
    let s := (s.withGroups q x.goMask).afterGroups q x.goMask
    let s := s.wr (Reg.structCommitDirty q) (s.rd (Reg.structCommitDirty q) &&& ~~~ BitVec.ofNat 32 x.goMask)
    let s := s.setSlot q { s.slot q with commits := if x.image.isEmpty then x.commits else x.commits ++ [rec'], commitWait := true }
    s.commitWoken q

/-- GROUP_COMMIT_APPLY: the pending request meets its point (R58): the barrier, or a partition with no task running. -/
def execGroupCommitApply (q : PartId) (s : State) : Host.Outcome State Fault Refusal :=
  .next (
    let x := s.slot q
    if s.commitDue q then s.applyCommit q (s.stepAfter q)
    else if s.fld (Reg.structCommitStatus q) 0 2 == 1 && !x.commitWait && x.phase == 0 && !x.atStart && s.noTask q &&
        (x.goAny || (s.rd (Reg.structCommitStep q)).toNat ≤ x.step) then s.applyCommit q x.step
    else s)

/-! ## Staged copies (R55) -/

/-- What a read of STRUCT_STAGE_DATA returns: the staged fields of the register named by STRUCT_STAGE_ADDR, with its
LIVE fields live; 0 where it holds no staged field. -/
def State.stageData (s : State) : Word :=
  let a := (s.rd Reg.structStageAddr).toNat
  let m := stagedMask a
  if m = 0 then 0 else (s.rd a &&& ~~~ m) ||| (s.rdStaged a &&& m)

/-- STRUCT_STAGE_DATA_READ. -/
def execStructStageDataRead (s : State) : Host.Outcome State Fault Refusal :=
  .next { s with reply := leBytes 4 s.stageData.toNat }

end Sys2Proof.Machine
end

