-- ==== Sys2Proof/Machine/PowerOps.lean ====
section
/-! DEFINITION. Shared operations of spec 16: operating points (R495-R499), power domains (R501-R505) and the module's
power state (R506). -/

namespace Sys2Proof.Machine

/-! ## Operating points -/

/-- The supply in mV for a frequency in MHz (R495): the row of the next higher frequency listed. -/
def voltFor (f : Nat) : Nat :=
  (([(400, 520), (500, 540), (600, 560), (700, 580), (800, 600), (900, 620), (1000, 660), (1100, 700), (1200, 740)] :
    List (Nat × Nat)).find? (fun r => f ≤ r.1)).elim 760 (·.2)

/-- Frequency and supply of point `i` of panel `p`; the energy point where the entry is not VALID (R497). -/
def State.pointOf (s : State) (p i : Nat) : Nat × Nat :=
  let a := Reg.clkPointTable p i
  if s.bit a 31 then (s.fld a 0 11, s.fld a 16 10) else (900, 620)

def State.panelClk (s : State) (p : Nat) : PanelClk := tget s.panelClks PanelClk.init p
def State.setPanelClk (s : State) (p : Nat) (c : PanelClk) : State := { s with panelClks := tset s.panelClks p c }

/-- Begins a transition to point `i` (R498). -/
def State.beginPoint (s : State) (p i : Nat) : State :=
  let up := s.fld (Reg.clkPanelStatus p) 16 10 < (s.pointOf p i).2
  (s.setBit (Reg.clkPanelStatus p) 31 true).setPanelClk p { phase := if up then 1 else 2, target := i, next := none }

/-- A write of CLK_PANEL_POINT.INDEX (R498, R499). -/
def State.selectPoint (s : State) (p i : Nat) : State :=
  let s := s.setFld (Reg.clkPanelPoint p) 0 2 i
  let c := s.panelClk p
  if c.phase = 0 then s.beginPoint p i else s.setPanelClk p { c with next := some i }

/-- The end of a transition (R499): the last value written meanwhile begins the next, unless it has just been reached. -/
def State.endPoint (s : State) (p : Nat) : State :=
  let c := s.panelClk p
  let s := s.count Reg.clkStatTransitions 1
  match c.next with
  | some j => if j = c.target then (s.setBit (Reg.clkPanelStatus p) 31 false).setPanelClk p { c with phase := 0, next := none }
      else s.beginPoint p j
  | none => (s.setBit (Reg.clkPanelStatus p) 31 false).setPanelClk p { c with phase := 0, next := none }

/-! ## Power domains -/

/-- A loaded partition holds a tile on panel `p`. -/
def State.panelHeld (s : State) (p : Nat) : Bool := (List.range 8).any (fun q => bitsOf (s.slot q).tiles (64 * p) 64 != 0)

/-- A domain loses its power, and with it everything it holds (R501). -/
def State.domainOff (s : State) (d : Nat) : State :=
  let s := (s.setBit Reg.pwrDomainOn (d - 1) false).setBit Reg.pwrDomainWaking (d - 1) false
  if 9 ≤ d ∧ d ≤ 12 then
    (List.range 64).foldl (fun s j =>
      let t := 64 * (d - 9) + j
      (s.zeroPocket t 0 pocketBytes).setFld (Reg.pocketPwrStatus t) 0 16 0) s
  else if 13 ≤ d ∧ d ≤ 16 then
    let p := d - 13
    let mine (t : Nat) : Bool := t / 64 == p
    let s := s.forget (fun a => (0x1000000 + 0x400000 * p ≤ a && a < 0x1000000 + 0x400000 * (p + 1)) ||
      (0x2000000 + 0x10000 * p ≤ a && a < 0x2000000 + 0x10000 * (p + 1)))
    { s with tiles := s.tiles.filter (fun e => !mine e.1),
             insts := s.insts.filter (fun e => !e.2.members.any mine),
             lockWait := s.lockWait.filter (fun e => e.1 / 32 != p) }
  else if 26 ≤ d then
    (List.range 18).foldl (fun s p => if portDomain p = d then s.settlePort p else s) s
  else s

/-- Starts the wake of a domain that is off. -/
def State.wakeDomain (s : State) (d : Nat) : State :=
  if s.domainOn d then s else s.setBit Reg.pwrDomainWaking (d - 1) true

def State.wakeDomains (s : State) (ds : List Nat) : State := ds.foldl State.wakeDomain s
def State.domainsOff (s : State) (ds : List Nat) : State := ds.foldl State.domainOff s
def State.domainsOn (s : State) (ds : List Nat) : Bool := ds.all s.domainOn

/-- A domain is on again, with the content of R501. -/
def State.domainUp (s : State) (d : Nat) : State :=
  let s := (s.setBit Reg.pwrDomainOn (d - 1) true).setBit Reg.pwrDomainWaking (d - 1) false
  if 9 ≤ d ∧ d ≤ 12 then
    (List.range 64).foldl (fun s j =>
      let t := 64 * (d - 9) + j
      s.setFld (Reg.pocketPwrStatus t) 0 16 (s.fld (Reg.pocketPwrMask t) 0 8)) s
  else if 26 ≤ d then
    (List.range 18).foldl (fun s p => if portDomain p = d then s.settlePort p else s) s
  else s

/-- R503: the compute and Pocket domains of a panel on which no loaded partition holds a tile switch off, while no load
is in progress. -/
def State.settlePanels (s : State) : State :=
  if s.loading.isSome then s
  else (List.range 4).foldl (fun s p => if s.panelHeld p then s
    else if s.domainOn (5 + p) || s.domainOn (9 + p) || s.domainWaking (5 + p) || s.domainWaking (9 + p) then
      s.domainsOff [5 + p, 9 + p] else s) s

/-- Some task of the module is RUNNING or WAITING. -/
def State.anyTask (s : State) : Bool :=
  (List.range 256).any (fun t => (List.range 4).any (fun k =>
    s.taskState t k == taskRunning || s.taskState t k == taskWaiting))

/-- The domains that deep idle switches off (R507). -/
def idleDomains : List Nat := (List.range 12).map (· + 5) ++ [26, 27, 28, 29]

/-- The module leaves deep idle (R508): PWR_STATE shows WAKING while the domains wake. -/
def State.leaveIdle (s : State) : State :=
  if s.bit Reg.pwrCtrl 0 then
    ((s.setBit Reg.pwrCtrl 0 false).wr Reg.pwrState 3).wakeDomains idleDomains
  else s

/-- PWR_STATE.STATE (R506). With nothing loaded and deep idle not requested it shows IDLE. -/
def State.pwrState (s : State) : Nat :=
  if s.bit Reg.pwrCtrl 0 then 2
  else if idleDomains.any s.domainWaking && s.fld Reg.pwrState 0 2 == 3 then 3
  else if s.anyTask then 0
  else 1

end Sys2Proof.Machine
end

