-- ==== Sys2Proof/Machine/Image.lean ====
section
/-! DEFINITION. Structure images (spec 02): the header, the directory and the section bodies, the register words that a
section gives, and the field rules of each section (step 10 of R48). -/

namespace Sys2Proof.Machine

/-! ## Bytes (R32-R38) -/

/-- An image, or the body of a section. -/
structure Image where
  bytes : List Byte
deriving DecidableEq, Repr

/-- The little-endian number of `len` bytes at `off`. -/
def Image.n (b : Image) (off len : Nat) : Nat := leNat ((b.bytes.drop off).take len)
def Image.size (b : Image) : Nat := b.bytes.length

/-- A directory entry (R36). -/
structure Sec where
  idx : Nat
  ty : Nat
  ver : Nat
  flags : Nat
  off : Nat
  len : Nat
  crc : Nat
  resv : Nat
deriving DecidableEq, Repr

def Image.secCount (b : Image) : Nat := b.n 0x0E 2
def Image.length (b : Image) : Nat := b.n 0x10 8
def Image.jobId (b : Image) : Nat := b.n 0x20 8
def Image.module (b : Image) : Nat := b.n 0x28 2
def Image.signed (b : Image) : Bool := (b.n 0x2B 1).testBit 0

def Image.sec (b : Image) (i : Nat) : Sec :=
  let o := 0x100 + 32 * i
  { idx := i, ty := b.n o 2, ver := b.n (o + 2) 2, flags := b.n (o + 4) 4, off := b.n (o + 8) 8, len := b.n (o + 16) 8,
    crc := b.n (o + 24) 4, resv := b.n (o + 28) 4 }

def Image.secs (b : Image) : List Sec := (List.range b.secCount).map b.sec
def Image.dirEnd (b : Image) : Nat := 0x100 + 32 * b.secCount

/-- The body of a section. -/
def Image.body (b : Image) (x : Sec) : Image := ⟨(b.bytes.drop x.off).take x.len⟩

/-- Section types (R38). -/
def secPartition : Nat := 0x01
def secEnsemble : Nat := 0x02
def secPocket : Nat := 0x03
def secWindow : Nat := 0x04
def secArbiter : Nat := 0x05
def secRing : Nat := 0x06
def secTemplate : Nat := 0x07
def secRecipe : Nat := 0x08
def secSampler : Nat := 0x09
def secResidency : Nat := 0x0A
def secOwner : Nat := 0x0B
def secDescriptor : Nat := 0x0C
def secRouting : Nat := 0x0D
def secMirror : Nat := 0x0E
def secClock : Nat := 0x0F
def secLease : Nat := 0x10
def secService : Nat := 0x11
def secCode : Nat := 0x12
def secData : Nat := 0x13
def secSignature : Nat := 0xFF

/-- The least and greatest number of sections of a type; none for an unknown type. -/
def secRange (ty : Nat) : Option (Nat × Nat) :=
  if ty = secCode then some (1, 255)
  else if ty = secData ∨ ty = secOwner then some (0, 255)
  else if ty = secSignature then some (0, 1)
  else if [secWindow, secArbiter, secSampler, secResidency, secRouting, secLease].contains ty then some (0, 1)
  else if 1 ≤ ty ∧ ty ≤ 0x13 then some (1, 1)
  else none

def Image.ofType (b : Image) (ty : Nat) : List Sec := b.secs.filter (fun x => x.ty == ty)

/-- The body of the first section of a type; empty where there is none. -/
def Image.first (b : Image) (ty : Nat) : Image :=
  match b.ofType ty with
  | x :: _ => b.body x
  | [] => ⟨[]⟩

/-- Offsets of the entries of a body: `count` of them from `hdr` on, `sz` bytes each, as far as the body reaches. -/
def Image.entries (b : Image) (hdr sz count : Nat) : List Nat :=
  (List.range (min count ((b.size - hdr) / sz))).map (fun i => hdr + sz * i)

/-- The offsets of the entries of a body whose header begins with COUNT. -/
def Image.list (b : Image) (hdr sz : Nat) : List Nat := b.entries hdr sz (b.n 0 4)

/-! ## What the sections name -/

/-- PARTITION (R527). -/
def Image.tiles (b : Image) : Nat := (b.first secPartition).n 0 32
def Image.locks (b : Image) : Nat := (b.first secPartition).n 0x20 16
def Image.taskSlots (b : Image) : Nat := (b.first secPartition).n 0x30 1
def Image.promote (b : Image) : Nat := (b.first secPartition).n 0x32 2
def Image.regions (b : Image) : List (Nat × Nat) :=
  let p := b.first secPartition
  (p.entries 0x40 16 (p.n 0x31 1)).map (fun o => (p.n o 8, p.n (o + 8) 8))

/-- The areas of MIRROR_SET (R436, R460). -/
def Image.mirrorArea (b : Image) : Nat × Nat :=
  let m := b.first secMirror
  (m.n 0x08 8, if m.n 0x10 8 = 0 then 128000000000 else m.n 0x10 8)
def Image.undoArea (b : Image) : Nat × Nat := ((b.first secMirror).n 0x18 8, (b.first secMirror).n 0x20 8)

/-- Descriptors and owner tables by TENSOR_ID (R123, R125). -/
def Image.tensors (b : Image) : List (Nat × List Byte) :=
  let d := b.first secDescriptor
  (d.list 32 128).foldl (fun m o => tset m (d.n o 2) ((d.bytes.drop o).take 128)) []
def Image.owners (b : Image) : List (Nat × List Byte) :=
  (b.ofType secOwner).foldl (fun m x => tset m ((b.body x).n 0 2) (b.body x).bytes) []

/-- The job map (R430): bit m for module m. -/
def Image.jobMap (b : Image) : Nat :=
  if b.ofType secRouting = [] then 2 ^ b.module ||| 2 ^ (b.module ^^^ 1) else (b.first secRouting).n 32 256

/-- Panels on which the image names a tile. -/
def Image.panels (b : Image) : List Nat := (List.range 4).filter (fun p => bitsOf b.tiles (64 * p) 64 != 0)
def Image.tileList (b : Image) : List Nat := setBits b.tiles 256

/-! ## The words of each section (R51, steps 1 and 2) -/

/-- POCKET_LAYOUT (R591): a tile that no entry names takes the reset values. -/
def Image.pocketWords (b : Image) : List (Nat × Nat) :=
  let d := b.first secPocket
  let es := d.list 32 48
  b.tileList.flatMap (fun t =>
    (Reg.pocketCfg t, d.n 4 1) :: match es.find? (fun o => d.n o 1 == t) with
      | some o => (Reg.pocketPwrMask t, d.n (o + 1) 1) :: (List.range 4).flatMap (fun k =>
          [(Reg.pocketSlotBase t k, d.n (o + 0x10 + 8 * k) 4), (Reg.pocketSlotBound t k, d.n (o + 0x14 + 8 * k) 4)])
      | none => (Reg.pocketPwrMask t, 0xFF) :: (List.range 4).flatMap (fun k =>
          [(Reg.pocketSlotBase t k, 0), (Reg.pocketSlotBound t k, 0)]))

/-- RING (R267). -/
def Image.ringWords (b : Image) : List (Nat × Nat) :=
  let d := b.first secRing
  (d.list 32 16).flatMap (fun o =>
    let t := d.n o 1
    let q := d.n (o + 1) 1
    if q = 0xFF then [(Reg.placketBwSplit t, d.n (o + 4) 4)]
    else [(Reg.placketQCfg t q, d.n (o + 4) 4), (Reg.placketQBase t q, d.n (o + 8) 4), (Reg.placketQLimit t q, d.n (o + 12) 4)])

/-- SUIT_TEMPLATE (R275): templates from COUNT on are written with VALID = 0. -/
def Image.templateWords (b : Image) : List (Nat × Nat) :=
  let d := b.first secTemplate
  b.tileList.flatMap (fun t => (List.range 32).flatMap (fun i =>
    let w (j : Nat) : Nat := if i < d.n 0 4 then d.n (32 + 32 * i + 4 * j) 4 else 0
    [(Reg.suitTplW0 t i, w 0), (Reg.suitTplW1 t i, w 1), (Reg.suitTplW2 t i, w 2), (Reg.suitTplW3 t i, w 3)]))

/-- ENSEMBLE (R294-R296). -/
def Image.ensembleOffs (b : Image) : List Nat := let d := b.first secEnsemble; d.entries 32 48 (d.n 0 4)
def Image.assignOffs (b : Image) : List Nat :=
  let d := b.first secEnsemble
  d.entries (32 + 48 * d.n 0 4) 48 (d.n 4 4)
def Image.ensembleWords (b : Image) (q : Nat) : List (Nat × Nat) :=
  let d := b.first secEnsemble
  b.panels.flatMap (fun p =>
    b.ensembleOffs.flatMap (fun o => let e := d.n o 1
      (Reg.yokeEnsCfg p q e, 0x80000000 + d.n (o + 1) 1 % 2) ::
        (List.range 8).map (fun i => (Reg.yokeEnsMask p q e i, d.n (o + 0x10 + 4 * i) 4))) ++
    b.assignOffs.flatMap (fun o => (List.range 12).map (fun i => (Reg.yokeAsgW p q (d.n o 1) i, d.n (o + 4 * i) 4))))

/-- RECIPE (R215). -/
def Image.recipeWords (b : Image) (q : Nat) : List (Nat × Nat) :=
  let d := b.first secRecipe
  b.panels.flatMap (fun p => (d.list 32 16).flatMap (fun o => let r := d.n o 1
    [(Reg.recipeW0 p q r, d.n (o + 2) 2 * 0x10000 + d.n (o + 1) 1 % 8 * 0x100 + 1),
     (Reg.recipeW1 p q r, d.n (o + 9) 1 * 0x1000000 + d.n (o + 8) 1 * 0x10000 + d.n (o + 7) 1 % 8 * 0x100 + d.n (o + 6) 1 % 8),
     (Reg.recipeW2 p q r, d.n (o + 4) 2)]))

/-- SAMPLER (R231). -/
def Image.samplerWords (b : Image) (q : Nat) : List (Nat × Nat) :=
  let d := b.first secSampler
  let has := b.ofType secSampler != []
  b.panels.flatMap (fun p => (Reg.samplerRate p q, if has then d.n 0 4 else 4096) ::
    (Reg.samplerKinds p q, if has then d.n 4 4 else 0x7F) ::
    (List.range 7).map (fun k => (Reg.samplerThr p q k, if has then d.n (8 + 4 * k) 4 else 0xF0000)))

/-- RESIDENCY (R309). -/
def Image.residencyWords (b : Image) : List (Nat × Nat) :=
  let d := b.first secResidency
  (d.list 32 32).flatMap (fun o => let t := d.n o 1
    (List.range 8).map (fun i => (Reg.shawlTileW (t / 64) (t % 64) i, d.n (o + 4 * i) 4)))

/-- WINDOW (R388). -/
def Image.windowWords (b : Image) : List (Nat × Nat) :=
  let d := b.first secWindow
  (d.list 32 16).flatMap (fun o => let t := d.n o 1; let w := d.n (o + 1) 1
    [(Reg.winBase t w, d.n (o + 4) 4), (Reg.winBound t w, d.n (o + 8) 4),
     (Reg.winCfg t w, d.n (o + 2) 1 % 4 * 0x100 + d.n (o + 3) 1)])

/-- ARBITER (R389). -/
def Image.arbiterWords (b : Image) : List (Nat × Nat) :=
  let d := b.first secArbiter
  (d.list 32 32).flatMap (fun o => let t := d.n o 1
    [(Reg.arbClassWp0 t, d.n (o + 4) 4), (Reg.arbClassQueue t, d.n (o + 8) 4), (Reg.arbClassMisc t, d.n (o + 12) 4),
     (Reg.arbThreshWp t, d.n (o + 16) 4), (Reg.arbThreshNp t, d.n (o + 20) 4)])

/-- LOCK_LEASE (R390), and LOCK_CFG of every lock of the partition (R395). -/
def Image.lockWords (b : Image) (q : Nat) : List (Nat × Nat) :=
  let d := b.first secLease
  (setBits b.locks 128).flatMap (fun l =>
    [(Reg.lockCfg (l / 32) (l % 32), 0x80000000 + q),
     (Reg.lockLease (l / 32) (l % 32), match (d.list 32 8).find? (fun o => d.n o 1 == l) with
       | some o => d.n (o + 4) 4
       | none => 0xFFFFFFFF)])

/-- MIRROR_SET (R460). -/
def Image.mirrorWords (b : Image) (q : Nat) : List (Nat × Nat) :=
  let d := b.first secMirror
  let lo (v : Nat) : Nat := v % 0x100000000
  let hi (v : Nat) : Nat := v / 0x100000000
  [(Reg.mirrorCfg q, d.n 4 1 % 2 * 0x100000 + d.n 5 1 % 16 * 0x10000 + d.n 6 2),
   (Reg.mirrorAreaBase q, lo b.mirrorArea.1), (Reg.mirrorAreaBase q + 4, hi b.mirrorArea.1),
   (Reg.mirrorAreaBytes q, lo b.mirrorArea.2), (Reg.mirrorAreaBytes q + 4, hi b.mirrorArea.2),
   (Reg.mirrorUndoBase q, lo b.undoArea.1), (Reg.mirrorUndoBase q + 4, hi b.undoArea.1),
   (Reg.mirrorUndoBytes q, lo b.undoArea.2), (Reg.mirrorUndoBytes q + 4, hi b.undoArea.2)] ++
  (List.range 16).map (fun i => (Reg.mirrorSpare q i, if i < d.n 0x28 1 then 0x80000000 + d.n (0x30 + 2 * i) 2 % 2048 else 0)) ++
  ((d.list 96 16).zipIdx).flatMap (fun (o, r) =>
    [(Reg.mirrorRegionAddr q r, d.n o 4), (Reg.mirrorRegionAddr q r + 4, d.n (o + 4) 4), (Reg.mirrorRegionPages q r, d.n (o + 8) 4)])

/-- COLLAR_SERVICE (R490). -/
def Image.svcWords (b : Image) (q : Nat) : List (Nat × Nat) :=
  (List.range 32).map (fun i => (Reg.collarSvcW q i, (b.first secService).n (4 * i) 4))

/-- ROUTING, with the job tag and the job map (R430). -/
def Image.routeWords (b : Image) (q : Nat) : List (Nat × Nat) :=
  let d := b.first secRouting
  (Reg.fabJobtag q, 0x80000000 + b.jobId % 0x10000) ::
  (List.range 64).map (fun i => (Reg.fabJobmap q i, bitsOf b.jobMap (32 * i) 32)) ++
  (d.list 288 8).map (fun o => (Reg.fabRoute (d.n o 2), 0x80000000 + d.n (o + 2) 1 % 2 * 0x40000000 + d.n (o + 4) 2))

/-- CLOCK_POINT (R496), for the panels of the partition. -/
def Image.clockWords (b : Image) : List (Nat × Nat) :=
  let d := b.first secClock
  b.panels.flatMap (fun p => (List.range 4).map (fun j =>
    let f := d.n (0x10 * p + 2 * j) 2
    (Reg.clkPointTable p j, 0x80000000 + voltFor f * 0x10000 + f % 2048)))

/-- The entry points of CODE (R354). -/
def Image.entryWords (b : Image) : List (Nat × Nat) :=
  (b.ofType secCode).flatMap (fun x => let d := b.body x
    (setBits (d.n 0x10 32) 256).flatMap (fun t => (setBits (d.n 8 1) 4).map (fun k =>
      (Reg.cuffTaskEntry t k, 0x80000000 + (d.n 0 4 % 0x10000 - 0x8000) / 4))))

/-- Every register word of the image for partition `q`. -/
def Image.words (b : Image) (q : Nat) : List (Nat × Nat) :=
  b.pocketWords ++ b.ringWords ++ b.templateWords ++ b.ensembleWords q ++ b.recipeWords q ++ b.samplerWords q ++
    b.residencyWords ++ b.windowWords ++ b.arbiterWords ++ b.lockWords q ++ b.mirrorWords q ++ b.svcWords q ++
    b.routeWords q ++ b.clockWords ++ b.entryWords

/-- Sets a register word as the loader does: live, and staged too where the register has staged fields (R51). -/
def State.put (s : State) (a v : Nat) : State :=
  if (regGroup a).isSome then s.wrBoth a (BitVec.ofNat 32 v) else s.wr a (BitVec.ofNat 32 v)

def State.putAll (s : State) (ws : List (Nat × Nat)) : State := ws.foldl (fun s (a, v) => s.put a v) s

/-- Gives the slot what the image names, and the image's words their values. -/
def State.withImage (s : State) (q : Nat) (b : Image) : State :=
  (s.setSlot q { s.slot q with
    tiles := b.tiles, locks := b.locks, taskSlots := b.taskSlots, regions := b.regions, promote := b.promote,
    jobId := b.jobId, seed := b.n 0x18 8, step := 0, epoch := 0, tensors := b.tensors, owners := b.owners,
    resetting := false }).putAll (b.words q)

/-- The words of a CODE body: address offset within the tile block, and value. -/
def codeWords (d : Image) : List (Nat × Nat) :=
  (List.range ((d.size - 48) / 4)).map (fun i => (d.n 0 4 % 0x10000 + 4 * i, d.n (48 + 4 * i) 4))

/-! ## Field rules (step 10 of R48)

An item is an offset within the body and whether it is bad. -/

/-- A list of items. -/
def its (l : List (Nat × Bool)) : List (Nat × Bool) := l

/-- Reserved bytes. -/
def Image.zeros (d : Image) (off n : Nat) : List (Nat × Bool) := (List.range n).map (fun i => (off + i, d.n (off + i) 1 != 0))

/-- A body whose LENGTH disagrees with its counts, named by its start. -/
def Image.lenIs (d : Image) (n : Nat) : Nat × Bool := (0, d.size != n)

/-- Keys that do not strictly ascend, named by the later entry. -/
def ascending (off : Nat → Nat) : List (Nat × Nat) → List (Nat × Bool)
  | (_, k) :: (o, l) :: es => (off o, l ≤ k) :: ascending off ((o, l) :: es)
  | _ => []

def Image.ascends (_d : Image) (os : List Nat) (key : Nat → Nat) : List (Nat × Bool) := ascending id (os.map (fun o => (o, key o)))

/-- PARTITION (R527). -/
def Image.badPartition (d : Image) : List (Nat × Bool) :=
  [d.lenIs (64 + 16 * d.n 0x31 1), (0, d.n 0 32 == 0), (0x30, !(1 ≤ d.n 0x30 1 && d.n 0x30 1 ≤ 4)), (0x31, 16 < d.n 0x31 1),
   (0x32, 64 ≤ d.n 0x32 2)] ++ d.zeros 0x34 12 ++
  (d.entries 0x40 16 (d.n 0x31 1)).flatMap (fun o =>
    its [(o, d.n o 8 % 0x10000 != 0), (o + 8, d.n (o + 8) 8 == 0 || d.n (o + 8) 8 % 0x10000 != 0)])

/-- Whether the tensor of an assignment is one that SOURCE accepts (R296, R297). -/
def asgTensorOk (ds : List (Nat × List Byte)) (source tid rowFirst rows qlog2 : Nat) : Bool :=
  if source = 0 then tid == 0xFFFF
  else match tfind ds tid with
    | none => false
    | some bs =>
      let d : TDesc := ⟨bs⟩
      !d.dist && d.base != noneAddr &&
        (if source = 1 then d.format == fmtCrow && rowFirst + rows ≤ d.nr
         else if source = 2 then d.format == fmtBmap && rowFirst + rows ≤ d.nr
         else d.format == fmtDense && d.elem == tyI32Pair && d.rank == 1 && ceilDiv rows (2 ^ qlog2) ≤ d.shape 0)

/-- ENSEMBLE (R294-R297). -/
def Image.badEnsemble (b : Image) (d : Image) : List (Nat × Bool) :=
  let es := b.ensembleOffs
  let asgs := b.assignOffs
  let members (e : Nat) : Nat := match es.find? (fun o => d.n o 1 == e) with
    | some o => (setBits (d.n (o + 0x10) 32) 256).length
    | none => 0
  [d.lenIs (32 + 48 * (d.n 0 4 + d.n 4 4)), (0, !(1 ≤ d.n 0 4 && d.n 0 4 ≤ 8)), (4, 16 < d.n 4 4)] ++ d.zeros 8 24 ++
  d.ascends es (fun o => d.n o 1) ++ d.ascends asgs (fun o => d.n o 1) ++
  es.flatMap (fun o => its [(o, 7 < d.n o 1), (o + 1, 1 < d.n (o + 1) 1)] ++ d.zeros (o + 2) 14 ++
    its [(o + 0x10, d.n (o + 0x10) 32 &&& b.tiles != d.n (o + 0x10) 32)]) ++
  asgs.flatMap (fun o =>
    let src := d.n (o + 2) 1
    let ql := d.n (o + 3) 1
    let rows := d.n (o + 12) 4
    its [(o, 15 < d.n o 1), (o + 1, !es.any (fun e => d.n e 1 == d.n (o + 1) 1)), (o + 2, 3 < src),
     (o + 3, 5 < ql || (src == 2 && ql != 4 && ql != 5)),
     (o + 4, !asgTensorOk b.tensors src (d.n (o + 4) 2) (d.n (o + 8) 4) rows ql),
     (o + 6, !(1 ≤ d.n (o + 6) 1 && d.n (o + 6) 1 ≤ 16)), (o + 7, 2 < d.n (o + 7) 1),
     (o + 12, rows == 0 || 1048576 < ceilDiv rows (2 ^ ql)), (o + 0x18, d.n (o + 0x18) 4 == 0),
     (o + 0x20, 8192 < members (d.n (o + 1) 1) * d.n (o + 6) 1 + 9 * d.n (o + 0x20) 2),
     (o + 0x22, !([1, 2, 4, 8].contains (d.n (o + 0x22) 1))), (o + 0x23, !(7 ≤ d.n (o + 0x23) 1 && d.n (o + 0x23) 1 ≤ 16)),
     (o + 0x24, d.n (o + 0x24) 1 != 1)] ++ d.zeros (o + 0x25) 11)

/-- POCKET_LAYOUT (R591). -/
def Image.badPocket (b : Image) (d : Image) : List (Nat × Bool) :=
  let es := d.list 32 48
  let sizeBad (v : Nat) : Bool := v % 4096 != 0 || 0x400000 < v
  [d.lenIs (32 + 48 * d.n 0 4), (0, 256 < d.n 0 4), (4, 1 < d.n 4 1)] ++ d.zeros 5 27 ++ d.ascends es (fun o => d.n o 1) ++
  es.flatMap (fun o => (o, !b.tiles.testBit (d.n o 1)) :: d.zeros (o + 2) 14 ++ (List.range 4).flatMap (fun k =>
    let size := d.n (o + 0x14 + 8 * k) 4
    its [(o + 0x10 + 8 * k, sizeBad (d.n (o + 0x10 + 8 * k) 4)),
     (o + 0x14 + 8 * k, sizeBad size || (b.taskSlots ≤ k && size != 0))]))

/-- WINDOW (R388, R391). -/
def Image.badWindow (b : Image) (d : Image) : List (Nat × Bool) :=
  let es := d.list 32 16
  [d.lenIs (32 + 16 * d.n 0 4), (0, !(1 ≤ d.n 0 4 && d.n 0 4 ≤ 4096))] ++ d.zeros 4 28 ++
  d.ascends es (fun o => 256 * d.n o 1 + d.n (o + 1) 1) ++
  es.flatMap (fun o =>
    let lo := d.n (o + 4) 4
    let hi := d.n (o + 8) 4
    its [(o, !b.tiles.testBit (d.n o 1)), (o + 1, 15 < d.n (o + 1) 1), (o + 2, !(1 ≤ d.n (o + 2) 1 && d.n (o + 2) 1 ≤ 3)),
     (o + 3, d.n (o + 3) 1 == 0), (o + 4, lo % 128 != 0), (o + 8, hi % 128 != 0 || hi ≤ lo || pocketBytes < hi)] ++
    d.zeros (o + 12) 4)

/-- ARBITER (R389, R391). -/
def Image.badArbiter (b : Image) (d : Image) : List (Nat × Bool) :=
  let es := d.list 32 32
  [d.lenIs (32 + 32 * d.n 0 4), (0, !(1 ≤ d.n 0 4 && d.n 0 4 ≤ 256))] ++ d.zeros 4 28 ++ d.ascends es (fun o => d.n o 1) ++
  es.flatMap (fun o => (o, !b.tiles.testBit (d.n o 1)) :: d.zeros (o + 1) 3 ++
    its [(o + 4, 2 ^ 14 ≤ d.n (o + 4) 4), (o + 12, 2 ^ 12 ≤ d.n (o + 12) 4), (o + 0x14, 2 ^ 16 ≤ d.n (o + 0x14) 4)] ++
    d.zeros (o + 0x18) 8)

/-- LOCK_LEASE (R390, R391). -/
def Image.badLease (b : Image) (d : Image) : List (Nat × Bool) :=
  let es := d.list 32 8
  [d.lenIs (32 + 8 * d.n 0 4), (0, !(1 ≤ d.n 0 4 && d.n 0 4 ≤ 128))] ++ d.zeros 4 28 ++ d.ascends es (fun o => d.n o 1) ++
  es.flatMap (fun o => (o, 127 < d.n o 1 || !b.locks.testBit (d.n o 1)) :: d.zeros (o + 1) 3)

/-- The Pocket range of the ring at entry `o` of RING, and whether it lies in its owner's slot; `s` holds the image's
layout. -/
def State.ringSpan (s : State) (d : Image) (o : Nat) : (Nat × Nat) × Bool :=
  let t := d.n o 1
  let cfg := d.n (o + 4) 4
  let k := bitsOf cfg 14 2
  let n := if bitsOf cfg 16 2 = 0 then 0 else bitsOf cfg 8 5 * 2 ^ bitsOf cfg 0 5
  let off := d.n (o + 8) 4
  ((pkey t ((s.rd (Reg.pocketSlotBase t k)).toNat + off), n), off + n ≤ (s.rd (Reg.pocketSlotBound t k)).toNat)

/-- RING (R267). -/
def State.badRing (s : State) (b : Image) (d : Image) : List (Nat × Bool) :=
  let es := d.list 32 16
  [d.lenIs (32 + 16 * d.n 0 4), (0, !(1 ≤ d.n 0 4 && d.n 0 4 ≤ 4352))] ++ d.zeros 4 28 ++
  d.ascends es (fun o => 256 * d.n o 1 + d.n (o + 1) 1) ++
  es.flatMap (fun o =>
    let q := d.n (o + 1) 1
    let cfg := d.n (o + 4) 4
    let mode := bitsOf cfg 16 2
    let slots := bitsOf cfg 8 5
    let log := bitsOf cfg 0 5
    let base := d.n (o + 8) 4
    let limit := d.n (o + 12) 4
    let span := s.ringSpan d o
    let meets := es.any (fun p => p < o && d.n p 1 == d.n o 1 && d.n (p + 1) 1 != 0xFF &&
      rangesMeet (s.ringSpan d p).1.1 (s.ringSpan d p).1.2 span.1.1 span.1.2)
    its [(o, !b.tiles.testBit (d.n o 1)), (o + 1, 15 < q && q != 0xFF)] ++ d.zeros (o + 2) 2 ++
    (if q = 0xFF then
      its [(o + 4, cfg &&& 0x1F1F1F != cfg || 16 < bitsOf cfg 16 5 || 16 < bitsOf cfg 8 5 || 16 < bitsOf cfg 0 5),
       (o + 8, base != 0), (o + 12, limit != 0)]
    else
      its [(o + 4, cfg &&& 0x3DF1F != cfg || mode == 3 ||
          (if mode = 0 then slots != 0 || log != 0 else !(3 ≤ slots && slots ≤ 16 && 10 ≤ log && log ≤ 18))),
       (o + 8, base &&& 0x3FFC00 != base || (mode != 0 && (!span.2 || meets))),
       (o + 12, !(1 ≤ limit && limit ≤ 64))]))

/-- SUIT_TEMPLATE, its header (R275). -/
def Image.badTemplate (d : Image) : List (Nat × Bool) :=
  [d.lenIs (32 + 32 * d.n 0 4), (0, !(1 ≤ d.n 0 4 && d.n 0 4 ≤ 32))] ++ d.zeros 4 28

/-- RECIPE (R215). -/
def Image.badRecipe (b : Image) (d : Image) : List (Nat × Bool) :=
  let es := d.list 32 16
  [d.lenIs (32 + 16 * d.n 0 4), (0, !(1 ≤ d.n 0 4 && d.n 0 4 ≤ 32))] ++ d.zeros 4 28 ++ d.ascends es (fun o => d.n o 1) ++
  es.flatMap (fun o =>
    let r := d.n o 1
    let kind := d.n (o + 1) 1
    let sr := d.n (o + 2) 2
    let sc := d.n (o + 4) 2
    its [(o, 31 < r), (o + 1, 6 < kind || b.tensors.any (fun e => TDesc.recipe ⟨e.2⟩ == r && TDesc.kind ⟨e.2⟩ != kind)),
     (o + 2, kind == 5 && sr != 0), (o + 4, (sr == 0) != (sc == 0)), (o + 6, 7 < d.n (o + 6) 1), (o + 7, 7 < d.n (o + 7) 1)] ++
    d.zeros (o + 10) 6)

/-- SAMPLER (R231). -/
def Image.badSampler (d : Image) : List (Nat × Bool) :=
  [d.lenIs 64, (0, !(1 ≤ d.n 0 4 && d.n 0 4 ≤ 1048576)), (4, 128 ≤ d.n 4 4)] ++
  (List.range 7).map (fun k => (8 + 4 * k, decide (2 ^ 20 ≤ d.n (8 + 4 * k) 4))) ++ d.zeros 0x24 28

/-- The RESIDENCY entries. -/
def Image.ringEntries (b : Image) : List (Nat × RingEntry) :=
  let d := b.first secResidency
  (d.list 32 32).map (fun o => (o, ⟨(List.range 8).map (fun i => d.n (o + 4 * i) 4)⟩))

/-- RESIDENCY (R309, R310); `s` holds the image's layout. -/
def State.badResidency (s : State) (q : Nat) (b : Image) (d : Image) : List (Nat × Bool) :=
  let es := b.ringEntries
  [d.lenIs (32 + 32 * d.n 0 4), (0, !(1 ≤ d.n 0 4 && d.n 0 4 ≤ 256))] ++ d.zeros 4 28 ++
  d.ascends (d.list 32 32) (fun o => d.n o 1) ++ es.map (fun (o, e) => (o, s.ringBad q (es.map (·.2)) e))

/-! ### Descriptors and owner tables (R125-R128) -/

/-- Rows and columns that tie the extents: the tensor's own, or one full owner block's (R126). -/
def TDesc.extentShape (d : TDesc) (o : Option OTable) : Nat × Nat :=
  match o with
  | some t => (t.blockRows, t.blockCols)
  | none => (d.nr, d.nc)

/-- Whether a plane field is absent though required (some true) or present though forbidden (some false), per format
and type (R120): true where it must be present, false where it must be NONE, none where it may be either. -/
def TDesc.planeRule (d : TDesc) (field : Nat) (scaled : Bool) : Option Bool :=
  let f := d.format
  if field = 0x30 then some true
  else if field = 0x38 then some (isPair d.elem)
  else if field = 0x40 then some (f == fmtBmap || f == fmtNm)
  else if field = 0x48 ∨ field = 0x50 then some (f == fmtBmap || f == fmtClist || f == fmtCrow)
  else if field = 0x58 then some (f == fmtClist || f == fmtCrow)
  else if field = 0x60 then some (f == fmtClist)
  else if field = 0x68 then (if f = fmtBmap then some false else none)
  else if field = 0x70 then some (isPlane d.elem)
  else some scaled

/-- One descriptor at body offset `o` (R119, R128). -/
def State.badDesc (s : State) (q : Nat) (b : Image) (o : Nat) (d : TDesc) : List (Nat × Bool) :=
  let own := (b.ofType secOwner).filter (fun x => (b.body x).n 0 2 == d.id)
  let table : Option OTable := match own with
    | [x] => some ⟨(b.body x).bytes⟩
    | _ => none
  let r := b.first secRecipe
  let recipe := (r.list 32 16).find? (fun e => r.n e 1 == d.recipe)
  let sb := (recipe.map (fun e => (r.n (e + 2) 2, r.n (e + 4) 2))).getD (0, 0)
  let (nr, nc) := d.extentShape (if d.dist then table else none)
  let (n, m) := nmRatio d.nmCode
  let s0 := if d.dist then nc else d.shape 0
  let s1 := if d.dist then nr else d.shape 1
  let s2 := if d.dist then 1 else d.shape 2
  let s3 := if d.dist then 1 else d.shape 3
  let top := s0 - 1 + (s1 - 1) * d.stride 0 + (s2 - 1) * d.stride 1 + (s3 - 1) * d.stride 2
  let planes := d.planes nr nc sb
  let planeBad (f : Nat) : Bool :=
    let v := d.num f 8
    let ext := ((planes.find? (fun p => p.1 == f)).map (·.2.2)).getD 0
    (match d.planeRule f (sb.1 != 0) with
      | some true => v == noneAddr
      | some false => v != noneAddr
      | none => false) ||
    (v != noneAddr && (v % 32 != 0 ||
      (if d.dist then false
       else if d.base = noneAddr then pocketBytes < v + ext
       else if gaSpace d.base = 0 then pocketBytes < gaPocketOff d.base + v + ext || (gaModule d.base == b.module && !s.inPart q (d.base + v) ext)
       else hbmBytes < gaHbmOff d.base + v + ext || (gaModule d.base == b.module && !s.inPart q (d.base + v) ext))))
  its [(o, d.id == 0xFFFF), (o + 2, 0xB < d.elem || 4 < d.format),
   (o + 3, (d.num 3 1).testBit 6 || d.kind == 7 || (!isPlane d.elem && d.width != 1) || (d.dist && own.length != 1)),
   (o + 4, recipe.isNone), (o + 5, if d.format = fmtNm then !(1 ≤ d.nmCode && d.nmCode ≤ 6) else d.nmCode != 0),
   (o + 6, !(1 ≤ d.rank && d.rank ≤ 4) || (d.dist && d.rank != 2)), (o + 7, d.num 7 1 != 0)] ++
  (List.range 4).map (fun i => (o + 8 + 4 * i, d.shape i == 0 || (d.rank ≤ i && d.shape i != 1) ||
    (i == 0 && d.format == fmtNm && d.nc % 16 != 0) || (i == 1 && 0xFFFFFFFF < d.nr))) ++
  its [(o + 0x18, if d.format = fmtDense then d.stride 0 < s0 else d.stride 0 != 0),
   (o + 0x1C, if d.format = fmtDense then d.stride 1 < d.stride 0 * s1 else d.stride 1 != 0),
   (o + 0x20, if d.format = fmtDense then d.stride 2 < d.stride 1 * s2 else d.stride 2 != 0),
   (o + 0x24, d.nvalCap == 0 || (d.format == fmtDense && d.nvalCap < top + 1) ||
     (d.format == fmtNm && d.nvalCap * m != nr * nc * n)),
   (o + 0x28, if d.dist then d.base != noneAddr else d.base != noneAddr && (!gaValid d.base || 1 < gaSpace d.base))] ++
  (List.range 10).map (fun i => (o + 0x30 + 8 * i, planeBad (0x30 + 8 * i)))

/-- DESCRIPTOR (R123, R128). -/
def State.badDescriptor (s : State) (q : Nat) (b : Image) (d : Image) : List (Nat × Bool) :=
  let es := d.list 32 128
  [d.lenIs (32 + 128 * d.n 0 4), (0, !(1 ≤ d.n 0 4 && d.n 0 4 ≤ 16384))] ++ d.zeros 4 28 ++ d.ascends es (fun o => d.n o 2) ++
  es.flatMap (fun o => s.badDesc q b o ⟨(d.bytes.drop o).take 128⟩)

/-- OWNER_TABLE, the body of section `x` (R125-R128). -/
def State.badOwner (s : State) (q : Nat) (b : Image) (x : Sec) (d : Image) : List (Nat × Bool) :=
  let t : OTable := ⟨d.bytes⟩
  let earlier := (b.ofType secOwner).any (fun y => y.idx < x.idx && (b.body y).n 0 2 == d.n 0 2)
  match tfind b.tensors (d.n 0 2) with
  | none => its [(0, true)]
  | some bs =>
    let td : TDesc := ⟨bs⟩
    let r := b.first secRecipe
    let sb := (((r.list 32 16).find? (fun e => r.n e 1 == td.recipe)).map (fun e => (r.n (e + 2) 2, r.n (e + 4) 2))).getD (0, 0)
    let granular := td.format == fmtNm || (td.format == fmtDense && td.gmap != noneAddr)
    its [(0, !td.dist || earlier), d.lenIs (32 + 8 * (t.gridRows * t.gridCols))] ++ d.zeros 2 2 ++
    its [(4, t.blockRows == 0 || (td.format == fmtBmap && t.blockRows % 16 != 0)),
     (8, t.blockCols == 0 || (td.format == fmtBmap && t.blockCols % 256 != 0) || (granular && t.blockCols % 16 != 0)),
     (0x0C, t.gridRows != ceilDiv td.nr t.blockRows), (0x10, t.gridCols != ceilDiv td.nc t.blockCols),
     (0x14, t.blockBytes % 32 != 0 || (td.planes t.blockRows t.blockCols sb).any (fun p => t.blockBytes < p.2.1 + p.2.2))] ++
    d.zeros 0x18 8 ++
    (d.entries 0x20 8 (t.gridRows * t.gridCols)).map (fun o =>
      let a := d.n o 8
      (o, a != noneAddr && (!gaValid a || 1 < gaSpace a || a % 32 != 0 ||
        (gaModule a == b.module && !s.inPart q a t.blockBytes))))

/-- ROUTING (R430, R431). -/
def Image.badRouting (b : Image) (d : Image) : List (Nat × Bool) :=
  let es := d.list 288 8
  let map := d.n 32 256
  [d.lenIs (288 + 8 * d.n 0 4), (0, 2047 < d.n 0 4)] ++ d.zeros 4 28 ++
  its [(0x20, !map.testBit b.module || (setBits map 2048).any (fun m => !map.testBit (m ^^^ 1)))] ++ d.ascends es (fun o => d.n o 2) ++
  es.flatMap (fun o => its [(o, 2047 < d.n o 2 || d.n o 2 == b.module), (o + 2, 1 < d.n (o + 2) 1), (o + 3, d.n (o + 3) 1 != 0),
    (o + 4, d.n (o + 4) 2 == 0)] ++ d.zeros (o + 6) 2)

/-- MIRROR_SET (R436, R460). -/
def Image.badMirror (d : Image) : List (Nat × Bool) :=
  let es := d.list 96 16
  let pocketPages := es.foldl (fun n o => if gaSpace (d.n o 8) = 0 then n + d.n (o + 8) 4 else n) 0
  [d.lenIs (96 + 16 * d.n 0 4), (0, !(1 ≤ d.n 0 4 && d.n 0 4 ≤ 256)), (4, 1 < d.n 4 1), (5, !(1 ≤ d.n 5 1 && d.n 5 1 ≤ 15)),
   (6, d.n 6 2 == 0), (8, d.n 8 8 % 0x10000 != 0), (0x10, d.n 0x10 8 % 0x10000 != 0), (0x18, d.n 0x18 8 % 0x10000 != 0),
   (0x20, d.n 0x20 8 % 0x10000 != 0 || d.n 0x20 8 < 2 * 0x10000 * pocketPages + 0x10000000), (0x28, 16 < d.n 0x28 1)] ++
  d.zeros 0x29 7 ++
  (List.range 16).map (fun i => (0x30 + 2 * i, if i < d.n 0x28 1 then decide (2047 < d.n (0x30 + 2 * i) 2) else d.n (0x30 + 2 * i) 2 != 0)) ++
  d.zeros 0x50 16 ++ es.flatMap (fun o => (o + 8, d.n (o + 8) 4 == 0) :: d.zeros (o + 12) 4)

/-- CLOCK_POINT (R495, R496). -/
def Image.badClock (b : Image) (d : Image) : List (Nat × Bool) :=
  d.lenIs 64 :: (List.range 4).flatMap (fun p => let o := 0x10 * p
    if b.panels.contains p then
      (List.range 4).map (fun j => let f := d.n (o + 2 * j) 2
        (o + 2 * j, !(400 ≤ f && f ≤ 1250 && f % 25 == 0))) ++ its [(o + 8, 3 < d.n (o + 8) 1)] ++ d.zeros (o + 9) 7
    else d.zeros o 16)

/-- CODE (R354). -/
def Image.badCode (b : Image) (d : Image) : List (Nat × Bool) :=
  let a := d.n 0 4
  let n := d.n 4 4
  let mask := d.n 0x10 32
  let o := a % 0x10000
  let cuff := 0x8000 ≤ o && o + n ≤ 0xC000
  let prog := 0x1800 ≤ o && o + n ≤ 0x2000
  its [(0, a % 4 != 0 || (setBits mask 256).head?.map (fun t => 0x1000000 + 0x10000 * t) != some (a - o) || !(cuff || prog)),
   (4, d.size != 48 + n || n == 0 || n % 4 != 0),
   (8, 16 ≤ d.n 8 1 || (prog && d.n 8 1 != 0) || 2 ^ b.taskSlots ≤ d.n 8 1)] ++ d.zeros 9 7 ++
  its [(0x10, mask == 0 || mask &&& b.tiles != mask)]

/-- DATA (R39, R40); `s` holds the image's layout. -/
def State.badData (s : State) (q : Nat) (b : Image) (d : Image) : List (Nat × Bool) :=
  let a := d.n 0 8
  let n := d.n 8 8
  its [(0, d.size < 16 || !gaValid a || 1 < gaSpace a || gaModule a != b.module || !s.inPart q a n ||
      (gaSpace a == 0 && !slotRangeOk (gaPocketOff a) n (s.fld (Reg.pocketPwrMask (gaTile a)) 0 8))),
   (8, n + 16 != d.size)]

/-- The field rules of a section; `s` holds the image's words and partition. -/
def State.badFields (s : State) (q : Nat) (b : Image) (x : Sec) : List (Nat × Bool) :=
  let d := b.body x
  if x.ty = secPartition then d.badPartition
  else if x.ty = secEnsemble then b.badEnsemble d
  else if x.ty = secPocket then b.badPocket d
  else if x.ty = secWindow then b.badWindow d
  else if x.ty = secArbiter then b.badArbiter d
  else if x.ty = secRing then s.badRing b d
  else if x.ty = secTemplate then d.badTemplate
  else if x.ty = secRecipe then b.badRecipe d
  else if x.ty = secSampler then d.badSampler
  else if x.ty = secResidency then s.badResidency q b d
  else if x.ty = secOwner then s.badOwner q b x d
  else if x.ty = secDescriptor then s.badDescriptor q b d
  else if x.ty = secRouting then b.badRouting d
  else if x.ty = secMirror then d.badMirror
  else if x.ty = secClock then b.badClock d
  else if x.ty = secLease then b.badLease d
  else if x.ty = secService then d.lenIs 128 :: s.svcBad q (s.svc q)
  else if x.ty = secCode then b.badCode d
  else if x.ty = secData then s.badData q b d
  else []

/-- The consistency rules of the paired groups, by the item of each section that breaks one (R56). -/
def State.badGroups (s : State) (q : Nat) (b : Image) (x : Sec) : List (Nat × Bool) :=
  let d := b.body x
  if x.ty = secPocket then
    (d.list 32 48).flatMap (fun o => (List.range 4).map (fun k =>
      (o + 0x10 + 8 * k, !slotRangeOk (d.n (o + 0x10 + 8 * k) 4) (d.n (o + 0x14 + 8 * k) 4) (d.n (o + 1) 1))))
  else if x.ty = secRing then
    (d.list 32 16).map (fun o => let c := d.n (o + 4) 4
      (o + 4, d.n (o + 1) 1 == 0xFF && bitsOf c 16 5 + bitsOf c 8 5 + bitsOf c 0 5 != 16))
  else if x.ty = secEnsemble then
    b.ensembleOffs.map (fun o => let m := d.n (o + 0x10) 32
      (o + 0x10, m == 0 || b.ensembleOffs.any (fun p => p < o && m &&& d.n (p + 0x10) 32 != 0)))
  else if x.ty = secTemplate then
    (d.list 32 32).map (fun o => (o, !tplOk ((List.range 8).map (fun i => d.n (o + 4 * i) 4))))
  else if x.ty = secMirror then
    let os := d.list 96 16
    let ok (o : Nat) : Bool := s.mirrorRegionOk q (d.n o 8, d.n (o + 8) 4) &&
      os.all (fun p => p ≥ o || !rangesMeet (d.n p 8) (0x10000 * d.n (p + 8) 4) (d.n o 8) (0x10000 * d.n (o + 8) 4))
    (0x10, !s.mirrorFits q b.bytes []) :: os.map (fun o => (o, !ok o))
  else if x.ty = secLease then (d.list 32 8).map (fun o => (o + 4, d.n (o + 4) 4 == 0))
  else []

end Sys2Proof.Machine
end

