-- ==== Sys2Proof/Machine/Reset.lean ====
section
/-! DEFINITION. What tile and partition resets do to the units of a tile and to what a partition owns (R90, R193, R268,
R291, R321, R353, R392, R432, R461, R489, R530, R532). -/

namespace Sys2Proof.Machine

/-- The offset of `a` in the tile block of tile `t`, when it lies there (R581). -/
def tileOff (t a : Nat) : Option Nat :=
  if 0x1000000 + 0x10000 * t ≤ a ∧ a < 0x1000000 + 0x10000 * (t + 1) then some (a - 0x1000000 - 0x10000 * t) else none

/-- The words of a tile that a tile reset returns to their reset values: task status, registers, EPC, interrupt enables,
pending bits and timers (R353), suit slots and the stages' status (R193, R291). -/
def tileResetWord (o : Nat) : Bool :=
  o == 0x4000 || (0x4200 ≤ o && o < 0x4400) || o == 0x2000 || o == 0x2004 || o == 0x3000 ||
    (0x4100 ≤ o && o < 0x4200 && [0x04, 0x18, 0x1C, 0x24, 0x28].contains (o % 0x40)) ||
    (0x4800 ≤ o && o < 0x4840 && [0x0, 0x8].contains (o % 0x10))

/-- Discards the open instances that have a member tile in `ts` (R321). -/
def State.dropInsts (s : State) (ts : List Nat) : State :=
  let s := { s with insts := s.insts.filter (fun i => !i.2.members.any (fun m => ts.contains m)) }
  (List.range 4).foldl State.refreshYoke s

/-- The windows of a tile close as R364 states, and what they admitted and have not been granted is discarded (R392). -/
def State.closeWindows (s : State) (t : Nat) : State :=
  let s := s.setTile t { s.tile t with inbound := [], grants := [], creditWait := [] }
  let s := (List.range 16).foldl (fun s w =>
    let s := (s.setFld (Reg.winStatus t w) 16 8 0).closeWindow t w
    if s.winState t w = winClosing then s.setFld (Reg.winStatus t w) 30 2 winClosed else s) s
  s.refreshCredits t

/-- The Placket unit of a tile emptied; its configuration is kept (R268). -/
def State.emptyPlacket (s : State) (t : Nat) : State :=
  let s := s.setTile t { s.tile t with queues := [], ctxs := [], stagingBy := none }
  (List.range 16).foldl (fun s q =>
    (s.wr (Reg.placketQStatus t q) (regReset (Reg.placketQStatus t q))).refreshQ t q) s

/-- Frees every scoreboard entry of a tile (R353). -/
def State.emptySb (s : State) (t : Nat) : State :=
  ((List.range 16).foldl (fun s e => (s.wr (Reg.sbEntryLo t e) 0).wr (Reg.sbEntryHi t e) 0) s).refreshSb t

/-- The reset of one tile (R90, R193, R268, R291, R321, R353, R392, R432). Locks that its tasks hold turn ORPHANED. -/
def State.tileReset (s : State) (t : Nat) : State :=
  let s := (List.range 4).foldl (fun s k => (s.orphanLocksOf t k).withdraw t k) s
  let s := s.dropInsts [t]
  let s := s.closeWindows t
  let s := s.emptyPlacket t
  let s := s.emptySb t
  let s := s.setTile t { s.tile t with ports := { Ports.init with ceBack := (s.ports t).ceBack }, tasks := [],
                                       shawl := Shawl.init, suits := [] }
  let s := (s.wr (shStat t) 0).wr (shProg t) 0
  let s := { s with fabWait := s.fabWait.filter (fun r => r.tile != t), answers := s.answers.filter (fun p => p.dstTile != t) }
  s.forget (fun a => (tileOff t a).any tileResetWord)

/-- Returns the partition's locks to FREE (R382, R448). -/
def State.freeLocks (s : State) (q : Nat) : State :=
  (setBits (s.slot q).locks 128).foldl (fun s l => (s.setWaiters l []).wr (lockReg l) 0) s

/-- Step 1 of R448: every tile of the partition is reset as R90 and R353 state, its windows close with their geometry
kept, and its locks become FREE. -/
def State.stopPartition (s : State) (q : Nat) : State :=
  ((s.tilesOf q).foldl State.tileReset s).freeLocks q

/-! ## Partition reset -/

/-- The words of a tile that a partition reset keeps, or leaves to the end of the wipe: SLEEVE_CFG (R193), and of the
Pocket block the power state, status, counters and latched errors (R90). -/
def keepWord (o : Nat) : Bool :=
  o == 0x3004 || [0x0004, 0x0008, 0x0040, 0x0044, 0x0048, 0x004C, 0x0050, 0x0054, 0x0058, 0x0080, 0x0088].contains o

/-- The panel words of partition `q`: ensembles and assignments (R321), recipes and sampler (R216, R231). -/
def panelPartWord (q a : Nat) : Bool :=
  0x2000000 ≤ a && a < 0x2040000 &&
    let o := a % 0x10000
    (0x1000 + 0x200 * q ≤ o && o < 0x1000 + 0x200 * (q + 1)) || (0x4000 + 0x400 * q ≤ o && o < 0x4000 + 0x400 * (q + 1)) ||
    (0x8000 + 0x200 * q ≤ o && o < 0x8000 + 0x200 * (q + 1)) || (0x9000 + 0x40 * q ≤ o && o < 0x9000 + 0x40 * (q + 1)) ||
    (0x9200 + 0x10 * q ≤ o && o < 0x9200 + 0x10 * (q + 1)) || (0xA000 + 0x200 * q ≤ o && o < 0xA000 + 0x200 * (q + 1))

/-- The Shawl words of tile `t` (R321), and LOCK_STATE, LOCK_LEASE and LOCK_CFG of lock `l` (R392). -/
def shawlWord (t a : Nat) : Bool :=
  (List.range 8).any (fun i => a == Reg.shawlTileW (t / 64) (t % 64) i) ||
    [shStat t, shProg t, Reg.shawlStatSpill (t / 64) (t % 64), Reg.shawlStatTurns (t / 64) (t % 64)].contains a
def lockWord (l a : Nat) : Bool :=
  [lockReg l, Reg.lockLease (l / 32) (l % 32), Reg.lockCfg (l / 32) (l % 32)].contains a

/-- The words of partition `q` outside its tiles: job tag and map (R432), mirror registers and region list (R461),
Collar service words (R490). The area registers hold until the areas are free (R527). -/
def partWord (q a : Nat) : Bool :=
  panelPartWord q a || a == Reg.fabJobtag q || (Reg.fabJobmap q 0 ≤ a && a < Reg.fabJobmap q 64) ||
    (0x3101000 + 0x100 * q ≤ a && a < 0x3101000 + 0x100 * (q + 1) && !(0x40 ≤ a % 0x100 && a % 0x100 < 0x60)) ||
    (0x3108000 + 0x1000 * q ≤ a && a < 0x3108000 + 0x1000 * (q + 1)) ||
    (0x4002000 + 0x80 * q ≤ a && a < 0x4002000 + 0x80 * (q + 1))

/-- A commit that is pending when the job stops ends (R60). -/
def State.endCommit (s : State) (q reason : Nat) : State :=
  if s.fld (Reg.structCommitStatus q) 0 2 = 1 then
    ((s.setFld (Reg.structCommitStatus q) 0 2 3).setFld (Reg.structCommitStatus q) 8 8 reason).setSlot q
      { s.slot q with commitWait := false }
  else s

/-- HBM bytes of a range zeroed with correct check bits. -/
def State.zeroHbm (s : State) (b n : Nat) : State :=
  { s with hbm := mzero s.hbm b n, hbmErr := s.hbmErr.filter (fun e => e.1 < b / 32 || (b + n) / 32 ≤ e.1) }

/-- The HBM ranges of a partition: its regions and its two areas. -/
def State.partHbm (s : State) (q : Nat) : List (Nat × Nat) := (s.slot q).regions ++ [s.mirrorArea q, s.undoArea q]

/-- A request or answer of partition `q` that its own tiles have sent. -/
def State.ofPart (s : State) (q : Nat) (p : Packet) : Bool := s.isMe p.srcModule && p.part == q && p.kind < 0x10

/-- Actions 1 to 4 of R532 as far as they take effect at once: windows close, everything stops, every wipe begins, the
HBM of the partition is zeroed, and what the resets tables name returns to reset values. The slot keeps its resources
until the wipes end. -/
def State.beginPartReset (s : State) (q : Nat) : State :=
  let ts := s.tilesOf q
  let s := (s.setFld Reg.rstStatus 28 4 0xA).setFld Reg.rstStatus 0 8 q
  let s := (s.endCommit q 3).wr (Reg.structCommitDirty q) 0
  let s := s.stopPartition q
  let s := { s with
    net := s.net.filter (fun p => !s.ofPart q p), fabOut := s.fabOut.filter (fun p => !s.ofPart q p),
    fabWait := s.fabWait.filter (fun r => r.part != q), stops := s.stops.filter (fun r => r.part != q),
    undo := s.undo.filter (fun u => u.part != q),
    hbmDirty := s.hbmDirty.filter (fun p => s.mirrorPart p != some q),
    pageSlots := s.pageSlots.filter (fun e => !ts.contains (e.1 / 64)) }
  let s := (s.partHbm q).foldl (fun s (b, n) => s.zeroHbm b n) s
  let ls := setBits (s.slot q).locks 128
  let s := s.forget (fun a => partWord q a || ts.any (fun t => shawlWord t a || (tileOff t a).any (fun o => !keepWord o)) ||
    ls.any (fun l => lockWord l a))
  let s := (List.range 4).foldl (fun s p =>
    let s := if ts.contains (s.fld (Reg.yokeErrInfo p) 0 8) then s.wr (Reg.yokeErrInfo p) 0 else s
    if ts.contains (s.fld (Reg.lockErrInfo p) 0 8) then s.wr (Reg.lockErrInfo p) 0 else s) s
  let s := { s with sampler := s.sampler.filter (fun e => e.1 / 8 % 8 != q) }
  let s := ts.foldl (fun s t => (s.setTile t { s.tile t with suitSeq := 0, stepRecs := [] }).startWipe t) s
  s.setSlot q { s.slot q with resetting := true, mset := [], damaged := false }

/-- Whether action 3 of R532 has ended: no Pocket of the partition is still being wiped. -/
def State.wipesDone (s : State) (q : Nat) : Bool := (s.tilesOf q).all (fun t => !s.bit (Reg.pocketStatus t) 7)

end Sys2Proof.Machine
end

