-- ==== Sys2Proof/Machine/LoadOps.lean ====
section
/-! DEFINITION. The loader (spec 02): the start of a load (R45-R47), the checks of R48 in their order with what a refusal
names (R592), the refusal (R49), the residency shortfall (R52) and the application (R51). -/

namespace Sys2Proof.Machine

/-! ## Checks (R48) -/

/-- A refusal: its reason (R50), and the SECTION and offset that it names (R592). -/
structure Rej where
  reason : Nat
  sec : Nat
  off : Nat
deriving DecidableEq, Repr

/-- The lowest bad item. -/
def lowest (l : List (Nat × Bool)) : Option Nat :=
  (l.filter (·.2)).foldl (fun m x => match m with | none => some x.1 | some y => some (min x.1 y)) none

/-- The first bad item of the sections in directory order. -/
def firstBad (reason : Nat) (items : Sec → List (Nat × Bool)) : List Sec → Option Rej
  | [] => none
  | x :: xs => match lowest (items x) with
    | some o => some { reason := reason, sec := x.idx, off := x.off + o }
    | none => firstBad reason items xs

/-- A check of the header or the directory. -/
def must (ok : Bool) (reason off : Nat) : Option Rej := if ok then none else some { reason := reason, sec := 0xFF, off := off }

/-- A check that names a directory entry. -/
def mustEntry (ok : Bool) (reason : Nat) (x : Sec) : Option Rej :=
  if ok then none else some { reason := reason, sec := x.idx, off := 0x100 + 32 * x.idx }

/-- The first check that fails. -/
def firstOf : List (Option Rej) → Option Rej
  | [] => none
  | some r :: _ => some r
  | none :: rs => firstOf rs

/-- R45: the image lies in this module's HBM or in host memory. -/
def State.sourceOk (s : State) (a len : Nat) : Bool :=
  gaValid a && (gaSpace a == 2 || (gaSpace a == 1 && s.isMe (gaModule a) && gaHbmOff a + len ≤ hbmBytes))

/-- The bytes with some ranges counted as zero. -/
def zeroed (bs : List Byte) (rs : List (Nat × Nat)) : List Byte :=
  (bs.zipIdx).map (fun (b, i) => if rs.any (fun r => r.1 ≤ i && i < r.1 + r.2) then 0 else b)

/-- Step 1. -/
def State.checkHeader (s : State) (l : Load) (b : Image) : Option Rej :=
  firstOf ([must (s.sourceOk l.addr l.len) 0x01 0, must (l.len == b.length && 0x140 ≤ b.length) 0x02 0x10,
    must (b.n 0 4 == 0x474B5349) 0x03 0, must (b.n 0x0C 2 == 0x100) 0x03 0x0C, must (b.n 0x2B 1 < 2) 0x03 0x2B] ++
    ((List.range 256).filter (fun i => (0x2C ≤ i && i < 0x30) || 0x48 ≤ i)).map (fun i => must (b.n i 1 == 0) 0x03 i) ++
    [must (crc32 (zeroed (b.bytes.take 256) [(0x44, 4)]) == b.n 0x44 4) 0x04 0x44,
     must (1 ≤ b.secCount && b.secCount ≤ 255) 0x03 0x0E, must (b.dirEnd ≤ b.length) 0x02 0x10])

/-- The partner has reported the mirror format level of its firmware as `lv` (R41). -/
def State.partnerLevel (s : State) (lv : Nat) : Bool :=
  [16, 17].any (fun p => s.bit (Reg.fabPortStatus p) 11 && s.fld (Reg.fabPortStatus p) 0 11 == s.partner &&
    s.fld (Reg.fabPortPeer p) 0 16 == lv)

/-- Step 2 (R41). A restore load does not compare the stamps of the collective and mirror levels (R459). -/
def State.checkLevels (s : State) (l : Load) (b : Image) : Option Rej :=
  firstOf [must (s.fld Reg.structLevelsFmt 0 16 ≤ b.n 4 2 && b.n 4 2 ≤ s.fld Reg.structLevelsFmt 16 16) 0x05 4,
    must (l.restore || b.n 6 2 == s.fld Reg.structLevelsLink 16 16) 0x06 6,
    must (l.restore || (b.n 8 2 == s.fld Reg.structLevelsLink 0 16 && s.partnerLevel (b.n 8 2))) 0x07 8,
    must (b.n 10 2 == s.fld Reg.structLevelsNum 0 16) 0x08 10]

/-- Step 3: the validity window (R44), MODULE_ID and PARTITION. -/
def State.checkWindow (s : State) (l : Load) (b : Image) : Option Rej :=
  let lo := b.n 0x30 8
  let hi := b.n 0x38 8
  let now := s.rd64 Reg.calNow / 0x8000
  let module := if l.restore then s.bit Reg.mirrorAlias 31 && b.module == s.fld Reg.mirrorAlias 0 11
    else s.bit Reg.fabModuleId 31 && b.module == s.ownId
  firstOf [must ((lo == 0 && hi == 0) || s.bit Reg.calStatus 31) 0x09 (if lo = 0 then 0x38 else 0x30),
    must (lo == 0 || lo ≤ now) 0x0A 0x30, must (hi == 0 || now ≤ hi) 0x0A 0x38,
    must module 0x0B 0x28, must (b.n 0x2A 1 == l.part) 0x0B 0x2A]

/-- The placement rules of R37 for an entry. -/
def Image.placed (b : Image) (x : Sec) : Bool :=
  let last := x.idx + 1 == b.secCount
  let prev := b.sec (x.idx - 1)
  x.off % 64 == 0 && b.dirEnd ≤ x.off && (x.idx == 0 || (prev.off < x.off && prev.off + prev.len ≤ x.off)) &&
    (!last || x.off + x.len == b.length) && (x.ty != secSignature || last)

/-- Step 4. -/
def Image.checkDirectory (b : Image) : Option Rej :=
  let xs := b.secs
  firstOf (must (crc32 ((b.bytes.drop 0x100).take (32 * b.secCount)) == b.n 0x40 4) 0x0C 0x40 ::
    xs.map (fun x => mustEntry (x.flags < 2 && x.resv == 0) 0x0D x) ++ xs.map (fun x => mustEntry (b.placed x) 0x0D x) ++
    [must (b.signed == (b.ofType secSignature != [])) 0x0D 0x2B] ++
    (b.ofType secSignature).map (fun x => mustEntry (x.len == 112 && (b.body x).n 1 15 == 0) 0x0D x))

/-- Step 5, each reason over the whole directory before the next. -/
def Image.checkTypes (b : Image) : Option Rej :=
  let xs := b.secs
  let earlier (x : Sec) : Nat := (xs.filter (fun y => y.idx < x.idx && y.ty == x.ty)).length
  firstOf (xs.map (fun x => mustEntry (!((secRange x.ty).isNone && x.flags.testBit 0)) 0x0E x) ++
    xs.map (fun x => mustEntry ((secRange x.ty).isNone || x.ver == 1) 0x0F x) ++
    xs.map (fun x => mustEntry (((secRange x.ty).map (fun r => decide (earlier x < r.2))).getD true) 0x10 x) ++
    ((List.range 0x14).map (fun ty => must (((secRange ty).map (fun r => decide (r.1 ≤ (b.ofType ty).length))).getD true) 0x11 0x100)))

/-- Step 6. -/
def Image.checkCrcs (b : Image) : Option Rej :=
  firstOf (b.secs.map (fun x => if crc32 (b.body x).bytes = x.crc then none
    else some { reason := 0x12, sec := x.idx, off := x.off }))

/-- The signature of the SIGNATURE section `x` verifies (R42). -/
def State.signatureOk (s : State) (b : Image) (x : Sec) : Bool :=
  let d := b.body x
  match tfind s.custKeys (d.n 0 1) with
  | none => false
  | some k =>
    let msg := zeroed (b.bytes.take x.off) [(0x40, 4), (0x44, 4), (0x100 + 32 * x.idx + 0x18, 4)]
    ecdsaVerify (beNat (k.take 48), beNat ((k.drop 48).take 48)) (beNat ((d.bytes.drop 0x10).take 48))
      (beNat ((d.bytes.drop 0x40).take 48)) (sha384 msg)

/-- Step 7 (R43). -/
def State.checkSignature (s : State) (b : Image) : Option Rej :=
  if s.custKeys = [] then none
  else match b.ofType secSignature with
    | [] => some { reason := 0x13, sec := 0xFF, off := 0x2B }
    | x :: _ => if s.signatureOk b x then none else some { reason := 0x14, sec := x.idx, off := x.off }

/-- The SIG field for an image that passes step 7 (R43). -/
def State.sigField (s : State) (b : Image) : Nat :=
  if b.ofType secSignature = [] then 0 else if s.custKeys = [] then 2 else 1

/-- Slot states in which a load is refused (R46). -/
def SlotState.busy : SlotState → Bool
  | .loading | .running | .draining | .restoring => true
  | _ => false

/-- The partitions whose resources are taken: loaded or under reset, the one that the load replaces counting as free
(R46, R532). -/
def State.takers (s : State) (q : Nat) : List Nat :=
  s.loaded.filter (fun r => r != q || (s.slot r).resetting)

/-- Step 8. -/
def State.checkResources (s : State) (l : Load) (b : Image) : Option Rej :=
  let ts := s.takers l.part
  let held := ts.flatMap s.partHbm
  let areas := [b.mirrorArea, b.undoArea]
  let overlaps (r : Nat × Nat) (xs : List (Nat × Nat)) : Bool := xs.any (fun y => rangesMeet r.1 r.2 y.1 y.2)
  let outside (r : Nat × Nat) : Bool := hbmBytes < r.1 + r.2
  let regionItems : List (Nat × Bool) := (b.regions.zipIdx).map (fun (r, i) =>
    (0x40 + 16 * i, outside r || overlaps r (b.regions.take i) || overlaps r held || overlaps r areas))
  let areaItems : List (Nat × Bool) :=
    [(0x08, outside b.mirrorArea || overlaps b.mirrorArea held),
     (0x18, outside b.undoArea || overlaps b.undoArea (b.mirrorArea :: held))]
  firstOf [
    if !l.restore && l.prior.busy then some { reason := 0x15, sec := 0xFF, off := 0 } else none,
    firstBad 0x16 (fun _ => [(0, ts.any (fun r => b.tiles &&& (s.slot r).tiles != 0))]) (b.ofType secPartition),
    firstBad 0x17 (fun x => if x.ty = secPartition then regionItems else if x.ty = secMirror then areaItems else []) b.secs,
    firstBad 0x18 (fun _ => [(0x20, ts.any (fun r => b.locks &&& (s.slot r).locks != 0))]) (b.ofType secPartition)]

/-- Step 9 (R33, R48, R431, R485, R497). `s'` holds the image. -/
def State.checkShared (s s' : State) (l : Load) (b : Image) : Option Rej :=
  let ts := s.takers l.part
  let shared (p : Nat) : Bool := ts.any (fun r => bitsOf (s.slot r).tiles (64 * p) 64 != 0)
  let clocks (d : Image) : List (Nat × Bool) := (b.panels.filter shared).map (fun p => (0x10 * p, (List.range 4).any (fun j =>
    !(s.bit (Reg.clkPointTable p j) 31 && s.fld (Reg.clkPointTable p j) 0 11 == d.n (0x10 * p + 2 * j) 2))))
  let jobBad := ts.any (fun r => (s.slot r).jobId % 0x10000 == b.jobId % 0x10000)
  let routes (d : Image) : List (Nat × Bool) := (d.list 288 8).map (fun o =>
    let a := Reg.fabRoute (d.n o 2)
    (o, s.bit a 31 && !(s.fld a 0 16 == d.n (o + 4) 2 && s.bit a 30 == (d.n (o + 2) 1).testBit 0)))
  firstOf [
    firstBad 0x19 (fun x => clocks (b.body x)) (b.ofType secClock),
    if jobBad then some { reason := 0x1A, sec := 0xFF, off := 0x20 } else none,
    firstBad 0x1A (fun x => routes (b.body x)) (b.ofType secRouting),
    firstBad 0x1B (fun _ => [(0, !s'.svcLimits l.part (s'.svc l.part))]) (b.ofType secService)]

/-- The tiles of the partition with their shortfall (R52). -/
def Image.shortfalls (b : Image) : List (Nat × Nat) := b.ringEntries.map (fun (_, e) => (e.tile, e.shortfall))

/-- The largest shortfall, and the lowest tile that has it. -/
def Image.worst (b : Image) : Nat × Nat :=
  b.shortfalls.foldl (fun m x => if m.2 < x.2 ∨ (m.2 = x.2 ∧ x.1 < m.1) then x else m) (0, 0)

/-- Step 11. -/
def Image.checkResidency (b : Image) : Option Rej :=
  let w := b.worst
  if w.2 = 0 then none
  else match b.ofType secResidency, b.ringEntries.find? (fun e => e.2.tile == w.1) with
    | x :: _, some e => some { reason := 0x1E, sec := x.idx, off := x.off + e.1 }
    | _, _ => none

/-- Steps 8 to 11. -/
def State.checkRest (s : State) (l : Load) (b : Image) : Option Rej :=
  let s' := s.withImage l.part b
  firstOf [s.checkResources l b, s.checkShared s' l b, firstBad 0x1C (s'.badFields l.part b) b.secs,
    firstBad 0x1D (s'.badGroups l.part b) b.secs, b.checkResidency]

/-- The first check of R48 that fails. -/
def State.verdict (s : State) (l : Load) (b : Image) : Option Rej :=
  match s.checkHeader l b with
  | some r => some r
  | none => match firstOf [s.checkLevels l b, s.checkWindow l b, b.checkDirectory, b.checkTypes, b.checkCrcs, s.checkSignature b] with
    | some r => some r
    | none => s.checkRest l b

/-- The image that the loader reads: from this module's HBM the bytes that stand there, from host memory those that the
host delivers. -/
def State.sourceImage (s : State) (l : Load) (img : List Byte) : Image :=
  if gaSpace l.addr = 1 && s.sourceOk l.addr l.len && !l.restore then ⟨mread s.hbm (gaHbmOff l.addr) l.len⟩ else ⟨img⟩

/-- The bytes can be those of the load: as many as STRUCT_LOAD_LEN says, or a prefix that reaches past the header where
the header is refused, or any where the source itself is refused and nothing is read. -/
def State.readable (s : State) (l : Load) (b : Image) : Bool :=
  b.size == l.len || !s.sourceOk l.addr l.len || ((s.checkHeader l b).isSome && min l.len 256 ≤ b.size)

/-! ## The course of a load -/

def loadIdle : Nat := 0
def loadChecking : Nat := 1
def loadApplying : Nat := 2
def loadDone : Nat := 3
def loadRejected : Nat := 4

def State.loadState (s : State) : Nat := s.fld Reg.structLoadStatus 0 3

/-- Sets STRUCT_LOAD_STATUS.STATE, with REASON, SECTION and SIG (R49, R592); BUSY_REFUSED stays. -/
def State.setLoad (s : State) (st reason sec sig : Nat) : State :=
  (((s.setFld Reg.structLoadStatus 0 3 st).setFld Reg.structLoadStatus 24 8 reason).setFld Reg.structLoadStatus 16 8 sec).setFld
    Reg.structLoadStatus 5 2 sig

/-- The shortfall registers hold 0 on any outcome but RESIDENCY_SHORTFALL (R52). -/
def State.clearShortfall (s : State) : State :=
  s.clear (Reg.structShortfallMax :: Reg.structShortfallWorst :: (List.range 256).map Reg.structShortfallTable)

/-- The loader takes a load of partition `q` (R46, R47): the slot shows LOADING where the load is accepted. -/
def State.startLoad (s : State) (q : Nat) : State :=
  let x := s.slot q
  let s := (s.setFld Reg.structLoadCtrl 1 3 q).setLoad loadChecking 0 0 0
  let s := s.setSlot q (if x.state.busy then x else { x with state := .loading })
  { s with loading := some { part := q, restore := false, addr := s.rd64 Reg.structLoadAddr, len := s.rd64 Reg.structLoadLen,
                             prior := x.state, image := [], commits := [], applied := false,
                             charged := false } }

/-- A write of START (R46, R47). A stopped module carries out no load (R545). -/
def State.writeStart (s : State) (q : Nat) : State :=
  if s.stopped then s
  else if s.loading.isSome then s.setBit Reg.structLoadStatus 4 true else (s.setFld Reg.structLoadCtrl 1 3 q).startLoad q

/-- The domains that a load wakes before step 8 (R503). -/
def Image.domains (b : Image) : List Nat := b.panels.flatMap (fun p => [5 + p, 9 + p, 13 + p])

/-- The loader ends without an image applied. -/
def State.endLoad (s : State) : State := State.settlePanels { s with loading := none }

/-- The loader refuses (R49), with a reason and what it names; `busy` is PARTITION_BUSY, which leaves the slot alone. A
restore load that is refused raises MIRROR_FAIL, subcode RESTORE, at the partner, which the spare answers with REFUSE
(R451). A slot whose image is gone cannot return to its state: it becomes FAULTED. -/
def State.refuseLoad (s : State) (l : Load) (reason sec off : Nat) (busy : Bool) : State :=
  let s := (s.setLoad loadRejected reason sec 0).wr64 Reg.structRejectOffset off
  let rec' := s.record 0x17 2 12 reason none (some l.part) none 0
    (s.rd Reg.structLoadStatus).toNat (s.rd64 Reg.structRejectOffset)
  let s := s.pushRec { rec' with noJob := busy }
  let s := if busy then s
    else if l.restore then (s.setFld (Reg.mirrorStatus l.part) 28 4 8).setSlot l.part { s.slot l.part with state := l.prior }
    else
      let s := s.setFault l.part 0x17 reason 12 s.moduleId
      s.setSlot l.part { s.slot l.part with state := if l.prior = .idle ∨ l.image ≠ [] then .faulted else l.prior }
  s.endLoad

/-- A refusal of the checks; at step 11 the shortfall registers are filled (R52). -/
def State.rejectLoad (s : State) (l : Load) (b : Image) (r : Rej) : State :=
  let s := s.clearShortfall
  let s := if r.reason = 0x1E then
      let s := b.shortfalls.foldl (fun s x => s.wr (Reg.structShortfallTable x.1) (BitVec.ofNat 32 x.2)) s
      (s.wr Reg.structShortfallMax (BitVec.ofNat 32 b.worst.2)).wr Reg.structShortfallWorst (BitVec.ofNat 32 (0x100 + b.worst.1))
    else s
  s.refuseLoad l r.reason r.sec r.off (r.reason == 0x15)

/-- Every check has passed: the partition reset that precedes application begins where the partition held an image
(R46, R51). -/
def State.passLoad (s : State) (l : Load) (b : Image) (commits : List CommitRec) : State :=
  let s := (s.clearShortfall).setLoad loadApplying 0 0 (s.sigField b)
  let s := { s with loading := some { l with image := b.bytes, commits := commits } }
  match l.prior with
  | .ready | .stopped | .faulted => if l.restore || (s.slot l.part).tiles == 0 then s else s.beginPartReset l.part
  | _ => s

/-- The points of CLOCK_POINT on a panel that no other loaded partition holds (R497). -/
def State.initialPoints (s : State) (q : Nat) (b : Image) : State :=
  let d := b.first secClock
  b.panels.foldl (fun s p =>
    if (List.range 8).any (fun r => r != q && bitsOf (s.slot r).tiles (64 * p) 64 != 0) then s
    else s.selectPoint p (d.n (0x10 * p + 8) 1 % 4)) s

/-- Steps 1 and 2 of R51. -/
def State.applyFields (s : State) (q : Nat) (b : Image) : State :=
  let s := (s.withImage q b).initialPoints q b
  (s.afterGroups q 0x005).setSlot q { s.slot q with image := [], commits := [], damaged := false }

/-- A DATA body is placed (R39). -/
def State.placeData (s : State) (d : Image) : State :=
  let a := d.n 0 8
  let bytes := (d.bytes.drop 16).map some
  if gaSpace a = 0 then (s.pocketWrite (gaTile a) (gaPocketOff a) bytes).1 else s.hbmWrite (gaHbmOff a) bytes

/-- Step 3 of R51: CODE and DATA in directory order. A restore load places no DATA (R451). -/
def State.placeBodies (s : State) (b : Image) (restore : Bool) : State :=
  b.secs.foldl (fun s x =>
    let d := b.body x
    if x.ty = secCode then (setBits (d.n 0x10 32) 256).foldl (fun s t =>
        (codeWords d).foldl (fun s (o, v) => s.wr (0x1000000 + 0x10000 * t + o) (BitVec.ofNat 32 v)) s) s
    else if x.ty = secData && !restore then s.placeData d
    else s) s

/-- The live and staged words of commit records, in order (R61, R451). -/
def State.applyCommits (s : State) (cs : List CommitRec) : State :=
  cs.foldl (fun s c => c.words.foldl (fun s (a, v) => s.wrBoth a v) s) s

/-- Step 4 of R51: the windows of WINDOW open, at epoch 0 or, in a restart, at their current epochs (R448). -/
def State.openWindows (s : State) (b : Image) (keepEpoch : Bool) : State :=
  let d := b.first secWindow
  (d.list 32 16).foldl (fun s o =>
    let a := Reg.winStatus (d.n o 1) (d.n (o + 1) 1)
    (if keepEpoch then s else s.setFld a 0 16 0).setFld a 30 2 1) s

/-- No bank group of the partition is waking. -/
def State.groupsUp (s : State) (q : Nat) : Bool := (s.tilesOf q).all (fun t => s.fld (Reg.pocketPwrStatus t) 8 8 == 0)

end Sys2Proof.Machine
end

