-- ==== Sys2Proof/Machine/HostOps.lean ====
section
/-! DEFINITION. Shared operations of the host interface (spec 15): writes to host memory, the errors of rings (R488), the
output ring (R482) and free values. -/

namespace Sys2Proof.Machine

/-- A free word, and the state with the next free value to come. -/
def State.freeW (s : State) : Word × State := (Config.freeWord s.freeCtr, { s with freeCtr := s.freeCtr + 1 })

/-- The device can issue requests to host memory (R464, R475, R564). -/
def State.hostUp (s : State) : Bool := s.linkUp && !s.perst && !s.d3

/-- A posted write to host memory. -/
def State.hostStore (s : State) (a : Nat) (bytes : List Byte) : State :=
  if s.hostUp then { s with host := mwrite s.host a bytes } else s

/-- HOST_ERR latches an error while VALID is 0. -/
def State.latchHostErr (s : State) (ring kind status : Nat) : State :=
  if s.bit Reg.hostErr 31 then s
  else s.wr Reg.hostErr (BitVec.ofNat 32 (0x80000000 + ring * 0x1000000 + kind * 0x10000 + status % 65536))

/-- HOST_SLOT_ERR of slot `q` latches an error while VALID is 0. -/
def State.latchRingErr (s : State) (q ring kind status : Nat) : State :=
  if s.bit (Reg.hostSlotErr q) 31 then s
  else s.wr (Reg.hostSlotErr q) (BitVec.ofNat 32 (0x80000000 + ring * 0x1000000 + kind * 0x10000 + status % 65536))

/-- The record of an error of the host interface (R488, R466), which stops nothing; no rule names its code. -/
def State.hostRecord (s : State) (part : Option Nat) (ctx : Nat) : State :=
  let code := (Config.freeCode s.freeCtr).val + 1
  State.recordOnly { s with freeCtr := s.freeCtr + 1 } code 13 0 none part 0 ctx 0

/-- A request for a ring has failed (R488): its ENABLE clears, the error is latched and recorded. -/
def State.ringFails (s : State) (r : HostReq) (status : Nat) : State :=
  let slot (q ring : Nat) : State :=
    let s := (s.setBit (Reg.hostRingCfg q) 31 false).latchRingErr q ring 1 status
    s.hostRecord (some q) (s.rd (Reg.hostSlotErr q)).toNat
  match r with
  | .command =>
    let s := (s.setBit Reg.hostCmdCfg 31 false).latchHostErr 0 1 status
    s.hostRecord none (s.rd Reg.hostErr).toNat
  | .status =>
    let s := (s.setBit Reg.hostStatusBase 0 false).latchHostErr 1 1 status
    s.hostRecord none (s.rd Reg.hostErr).toNat
  | .sequence q => slot q.val 2
  | .output q => slot q.val 3
  | .partialCopy q => slot q.val 4
  | .dma _ _ _ => s

/-! ## Rings -/

def State.cmdOn (s : State) : Bool := s.bit Reg.hostCmdCfg 31
def State.ringOn (s : State) (q : Nat) : Bool := s.bit (Reg.hostRingCfg q) 31

/-- Entries of the rings (R471, R478, R482). -/
def State.cmdSize (s : State) : Nat := 2 ^ s.fld Reg.hostCmdCfg 0 4
def State.seqSize (s : State) (q : Nat) : Nat := 2 ^ s.fld (Reg.hostRingCfg q) 24 4
def State.outSize (s : State) (q : Nat) : Nat := 2 ^ (s.fld (Reg.hostRingCfg q) 20 4 + 6)

/-- A free-running 32-bit count less another. -/
def sub32 (a b : Nat) : Nat := (a + 0x100000000 - b % 0x100000000) % 0x100000000

/-! ## The output ring (R482) -/

/-- An output entry of 32 bytes. -/
def outEntry (key pos tok reason nbytes : Nat) (cont replay fin : Bool) (text : List Byte) : List Byte :=
  let b (x : Bool) (n : Nat) : Nat := if x then n else 0
  leBytes 8 key ++ leBytes 4 pos ++
    leBytes 4 (tok % 0x100000 + reason * 0x100000 + nbytes * 0x1000000 + b cont 0x20000000 + b replay 0x40000000 +
      b fin 0x80000000) ++ text ++ List.replicate (16 - text.length) 0

/-- A token's text in pieces of at most 16 bytes, the first one present even when it is empty. -/
def textPieces : Nat → List Byte → List (List Byte)
  | 0, _ => []
  | n + 1, t => t.take 16 :: (if t.length ≤ 16 then [] else textPieces n (t.drop 16))

/-- The entries of one token. -/
def tokenEntries (key pos tok reason : Nat) (replay fin : Bool) (text : List Byte) : List (List Byte) :=
  ((textPieces 16 text).zipIdx).map (fun (t, i) => outEntry key pos tok reason t.length (i != 0) replay fin t)

/-- What an entry written to the ring counts for: the first entry of a token that is no replay is a token delivered. -/
def State.countEntry (s : State) (q : Nat) (e : List Byte) : State :=
  let w := leNat ((e.drop 12).take 4)
  let key := leNat (e.take 8)
  if w.testBit 29 || w.testBit 30 || 4 ≤ bitsOf w 20 4 then s
  else s.setSlot q { s.slot q with tokens := (s.slot q).tokens + 1,
                                   delivered := tset (s.slot q).delivered key (leNat ((e.drop 8).take 4) + 1) }

/-- Writes entries while the ring is enabled and has room; the others are held. -/
def State.flushGo (s : State) (q : Nat) : List (List Byte) → State
  | [] => s.setSlot q { s.slot q with outHeld := [] }
  | e :: es =>
    let x := s.slot q
    if s.ringOn q && s.hostUp && sub32 x.outTail (s.rd (Reg.hostOutHead q)).toNat < s.outSize q then
      let s := s.hostStore (s.rd64 (Reg.hostOutBase q) + 32 * (x.outTail % s.outSize q)) e
      let s := s.setSlot q { x with outTail := (x.outTail + 1) % 0x100000000 }
      (s.countEntry q e).flushGo q es
    else s.setSlot q { x with outHeld := e :: es }

def State.flushOut (s : State) (q : Nat) : State := s.flushGo q (s.slot q).outHeld

/-- Hands entries to the output ring. -/
def State.output (s : State) (q : Nat) (es : List (List Byte)) : State :=
  (s.setSlot q { s.slot q with outHeld := (s.slot q).outHeld ++ es }).flushOut q

end Sys2Proof.Machine
end

