-- ==== Sys2Proof/Machine/SvcOps.lean ====
section
/-! DEFINITION. The Collar's services of a partition: submissions and admission (R478-R480), keyed sampling (R483),
tokenising (R484), batch rows and the service tensors (R481, R486), and the partial-results copy (R487). -/

namespace Sys2Proof.Machine

/-- The batching state that a spare takes up from the service area it has been sent: R486 and R481 give the area no layout.
By free-value number. -/
opaque Config.freeService : Nat → Service

/-! ## Memory as the Collar reads and writes it -/

/-- Reads bytes of this module's memory; `none` where a word fails its check, which is charged to the job (R81, R543). -/
def State.collarRead (s : State) (q a n : Nat) : State × Option (List Byte) :=
  if gaSpace a = 0 then
    match s.pocketRead (gaTile a) (gaPocketOff a) n with
    | (s, .ok d) => (s, some d)
    | (s, .error 0x02) =>
      (s.jobFault q 0x02 1 1 0 (some (gaTile a))
        (s.failOff (gaTile a) 0x02 (gaPocketOff a) (wordsOf (gaPocketOff a) n))
        (s.rd (Reg.pocketErrAddr (gaTile a))).toNat 0, none)
    | (s, .error _) => (s, none)
  else s.hbmRead (gaHbmOff a) n

def State.collarWrite (s : State) (a : Nat) (bytes : List Byte) : State :=
  if gaSpace a = 0 then (s.pocketWrite (gaTile a) (gaPocketOff a) (bytes.map some)).1
  else s.hbmWrite (gaHbmOff a) (bytes.map some)

/-- Writes element (r, c) of an I32PAIR tensor (R198). -/
def State.putPair (s : State) (d : TDesc) (r c : Nat) (x : Int) : State :=
  let i := 2 * d.denseAt r c
  (s.collarWrite (d.base + d.val0 + i) (leBytes 2 (i32Hi x))).collarWrite (d.base + d.val1 + i) (leBytes 2 (i32Lo x))

/-! ## Sampling (R483) -/

/-- The integer nearest 2^31 × 2^(-j/256): the largest n with (2n - 1)^256 ≤ 2^(8192 - j). -/
def fracOf (j : Nat) : Nat :=
  (List.range 32).foldl (fun n i =>
    let c := n + 2 ^ (31 - i)
    if (2 * c - 1) ^ 256 ≤ 2 ^ (8192 - j) then c else n) 0

/-- q[i] of a BF16 word; none for a NaN. -/
def logitQ (z : Nat) : Option Int :=
  match fmtBF16.decode z with
  | .nan => none
  | .inf n => some (if n then minI32 else maxI32)
  | .fin m e _ => some (max minI32 (min maxI32 (roundInt none m (e + 8))))

/-- Puts a candidate in its place: larger q first, ties to the one already there. -/
def putCand (c : Int × Nat) : List (Int × Nat) → List (Int × Nat)
  | [] => [c]
  | d :: ds => if d.1 < c.1 then c :: d :: ds else d :: putCand c ds

/-- The `k` candidates of largest q, in order. -/
def topCands (k : Nat) (zs : List Nat) : List (Int × Nat) :=
  (zs.zipIdx).foldl (fun cs (z, i) => match logitQ z with
    | some q => (putCand (q, i) cs).take k
    | none => cs) []

/-- The weight of a candidate. -/
def weightOf (q0 q : Int) (temp : Nat) : Nat :=
  let r := ((q0 - q).toNat * 94548) / (256 * temp)
  if 32 ≤ r / 256 then 0 else fracOf (r % 256) / 2 ^ (r / 256)

/-- The shortest prefix of the weighted candidates that reaches the top-p share. -/
def topPrefix (topP w : Nat) : Nat → List (Nat × Nat) → List (Nat × Nat)
  | _, [] => []
  | acc, (i, x) :: cs => (i, x) :: (if topP * w ≤ 65536 * (acc + x) then [] else topPrefix topP w (acc + x) cs)

/-- The first candidate at which the running sum exceeds `t`. -/
def runTo (t : Nat) : Nat → List (Nat × Nat) → Option Nat
  | _, [] => none
  | acc, (i, x) :: cs => if t < acc + x then some i else runTo t (acc + x) cs

/-- The draw; none where no logit is a candidate. -/
def drawToken (zs : List Nat) (temp topK topP u : Nat) : Option Nat :=
  if temp = 0 then ((topCands 1 zs).head?).map (·.2)
  else match topCands topK zs with
    | [] => none
    | (q0, i0) :: cs =>
      let ws := ((q0, i0) :: cs).map (fun (q, i) => (i, weightOf q0 q temp))
      let p := topPrefix topP (ws.foldl (fun n x => n + x.2) 0) 0 ws
      runTo (u * p.foldl (fun n x => n + x.2) 0 / 2 ^ 32) 0 p

/-! ## Tokenising (R484) -/

/-- A merge table: left, right and result IDs, in rank order. -/
def mergeTable : Nat → List Byte → List (Nat × Nat × Nat)
  | 0, _ => []
  | n + 1, bs => (leNat (bs.take 4), leNat ((bs.drop 4).take 4), leNat ((bs.drop 8).take 4)) :: mergeTable n (bs.drop 12)

/-- Replaces the pair left to right. -/
def mergeAll (l r x : Nat) : Nat → List Nat → List Nat
  | 0, ts => ts
  | n + 1, a :: b :: ts => if a = l ∧ b = r then x :: mergeAll l r x n ts else a :: mergeAll l r x n (b :: ts)
  | _ + 1, ts => ts

/-- The adjacent pairs of a token list. -/
def pairsOf (ts : List Nat) : List (Nat × Nat) := ts.zip (ts.drop 1)

/-- Applies the lowest-ranked pair that occurs until none does; each round shortens the list. -/
def tokenise (ms : List (Nat × Nat × Nat)) : Nat → List Nat → List Nat
  | 0, ts => ts
  | n + 1, ts =>
    match ms.find? (fun (l, r, _) => (pairsOf ts).contains (l, r)) with
    | some (l, r, x) => tokenise ms n (mergeAll l r x ts.length ts)
    | none => ts

/-! ## Submissions (R478-R480) -/

/-- Pages of 64 tokens that a submission needs (R480). -/
def Sub.pagesNeeded (u : Sub) (ctx : Nat) : Nat := ceilDiv (min (u.prompt.length + u.maxNew) ctx) 64

/-- Free pages of the pool, rising. -/
def freePages (x : Svc) (v : Service) : List Nat :=
  (List.range x.kvPages).filter (fun p => !v.seqs.any (fun e => e.pages.contains p))

def freeSlots (x : Svc) (v : Service) : List Nat :=
  (List.range x.maxSeqs).filter (fun k => !v.seqs.any (fun e => e.slot == k))

/-- What R479 rejects. -/
def subBad (x : Svc) (v : Service) (e : SeqEntry) (toks : List Nat) : Bool :=
  1 < e.input || 4 < e.nstop || e.resv != 0 || e.maxNew == 0 || e.len == 0 || e.topK == 0 || 1024 < e.topK ||
    e.topP == 0 || 65536 < e.topP || (e.stops.take e.nstop).any (fun t => x.vocabCount ≤ t) ||
    toks.any (fun t => x.vocabCount ≤ t) || x.context ≤ toks.length ||
    v.waiting.any (fun u => u.key == e.key) || v.seqs.any (fun u => u.sub.key == e.key) ||
    x.kvPages < ceilDiv (min (toks.length + e.maxNew) x.context) 64

/-- Takes `n` of the free pages. -/
def pickPages : Nat → List Nat → List Nat
  | 0, _ => []
  | n + 1, free =>
    match free[Config.pick free % free.length]? with
    | some p => p :: pickPages n (free.filter (· != p))
    | none => []

/-- Admits waiting submissions in ring order until the first that does not fit. -/
def admitGo (x : Svc) (v : Service) : List Sub → Service
  | [] => { v with waiting := [] }
  | u :: us =>
    let fs := freeSlots x v
    let ps := freePages x v
    match fs[Config.pick fs % fs.length]? with
    | some k =>
      if u.pagesNeeded x.context ≤ ps.length then
        let e : Seq := { sub := u, slot := k, order := v.order, gen := [], pos := 0,
                         pages := pickPages (u.pagesNeeded x.context) ps, cancelled := false }
        admitGo x { v with seqs := v.seqs ++ [e], order := v.order + 1 } us
      else { v with waiting := u :: us }
    | none => { v with waiting := u :: us }

/-- The entry that ends a sequence without a token (R479, R482): its token ID is open. -/
def State.endEntry (s : State) (q key pos reason : Nat) : State :=
  let (w, s) := s.freeW
  s.output q [outEntry key pos w.toNat reason 0 false false true []]

/-- One cancellation (R480): a waiting submission goes, or an admitted sequence with its row and pages. -/
def State.cancelSeq (s : State) (q key : Nat) : State :=
  let v := (s.slot q).svc
  if v.waiting.any (fun u => u.key == key) || v.seqs.any (fun e => e.sub.key == key) then
    let (w, s) := s.freeW
    let v' := { v with waiting := v.waiting.filter (fun u => u.key != key), seqs := v.seqs.filter (fun e => e.sub.key != key) }
    (s.setSlot q { s.slot q with svc := v' }).endEntry q key w.toNat 4
  else s

/-- Step 1 of R443 for the services: cancellations, then admissions (R480). -/
def State.applyAdmissions (s : State) (q : Nat) : State :=
  let s := (s.slot q).cancels.foldl (fun s c => s.cancelSeq q c.2) s
  let x := s.slot q
  let v := admitGo (s.svc q) x.svc x.svc.waiting
  let head := match v.waiting with
    | u :: _ => u.idx
    | [] => x.seqRead
  s.setSlot q { x with cancels := [], svc := { v with head := head } }

/-! ## The step boundary (R481, R486) -/

/-- The settings under which rows were assigned. -/
def Service.svc (v : Service) : Svc := ⟨v.cfg.map BitVec.toNat⟩

/-- The vocabulary string of a token (R593): none where it is not read. -/
def State.tokenText (s : State) (q tok : Nat) (x : Svc) : State × List Byte :=
  match s.collarRead q (x.vocabAddr + 8 * tok) 8 with
  | (s, none) => (s, [])
  | (s, some bs) =>
    let a := x.stringsAddr + leNat (bs.take 4)
    let n := leNat ((bs.drop 4).take 1) + 1
    if s.svcArea q a n then
      match s.collarRead q a n with
      | (s, some t) => (s, t)
      | (s, none) => (s, [])
    else
      let (c0, s) := s.freeW
      let (c1, s) := s.freeW
      let (a, s) := s.freeW
      (s.recordOnly 0x10 15 0 none (some q) a.toNat c0.toNat c1.toNat, [])

/-- The value words of the logits of row `r`. -/
def State.logits (s : State) (q r : Nat) (x : Svc) : State × Option (List Nat) :=
  match s.tensor q (x.tid 0) with
  | none => (s, none)
  | some d =>
    match s.collarRead q (d.base + d.val0 + 2 * d.denseAt r 0) (2 * x.vocabCount) with
    | (s, some bs) => (s, some ((List.range x.vocabCount).map (fun i => leNat ((bs.drop (2 * i)).take 2))))
    | (s, none) => (s, none)

/-- The reason for which a sequence ends after a token; 0 where it goes on. -/
def endReason (e : Seq) (tok ctx : Nat) : Nat :=
  if e.sub.stops.contains tok then 1
  else if e.sub.maxNew ≤ e.gen.length then 2
  else if ctx ≤ e.sub.prompt.length + e.gen.length then 3
  else 0

/-- Draws and delivers for batch row `r` (R481, step 1). -/
def State.drawRow (s : State) (q r : Nat) (row : BatchRow) : State :=
  let x := (s.slot q).svc.svc
  match (s.slot q).svc.seqs.find? (fun e => e.slot == row.slot) with
  | none => s
  | some e =>
    match s.logits q r x with
    | (s, none) => s
    | (s, some zs) =>
      let pos := row.pos + 1
      let u := (keyhash (s.slot q).seed 4 0 pos e.sub.key).toNat / 2 ^ 32
      let (tok, s) : Nat × State := match drawToken zs e.sub.temp e.sub.topK e.sub.topP u with
        | some t => (t, s)
        | none => let (w, s) := s.freeW; (w.toNat % x.vocabCount, s)
      let e := { e with gen := e.gen ++ [tok] }
      let why := endReason e tok x.context
      let v := (s.slot q).svc
      let seqs := if why ≠ 0 && !e.cancelled then v.seqs.filter (fun f => f.slot != e.slot)
        else v.seqs.map (fun f => if f.slot = e.slot then e else f)
      let s := s.setSlot q { s.slot q with svc := { v with seqs := seqs } }
      if e.cancelled then s
      else
        let (s, text) := s.tokenText q tok x
        let replay := pos < tget (s.slot q).delivered 0 e.sub.key
        s.output q (tokenEntries e.sub.key pos tok why replay (why != 0) text)

/-- The rows a sequence takes, at most `room` (R481, step 3), and the sequence afterwards. -/
def rowsFor (x : Svc) (room : Nat) (e : Seq) : List BatchRow × Seq :=
  let p := e.sub.prompt.length
  let n := if e.pos < p then min (min x.prefillRows (p - e.pos)) room
    else if e.pos < p + e.gen.length ∧ e.pos < min (p + e.sub.maxNew) x.context then min 1 room else 0
  ((List.range n).map (fun i => { slot := e.slot, pos := e.pos + i, draw := p ≤ e.pos + i + 1 }),
    { e with pos := e.pos + n })

/-- Assigns rows in ascending admission order. -/
def assignGo (x : Svc) : Nat → List Seq → List BatchRow × List Seq
  | _, [] => ([], [])
  | room, e :: es =>
    let (rs, e) := rowsFor x room e
    let (rs', es) := assignGo x (room - rs.length) es
    (rs ++ rs', e :: es)

/-- The token at position `i` of a sequence. -/
def Seq.token (e : Seq) (i : Nat) : Nat := (e.sub.prompt ++ e.gen).getD i 0

/-- Writes the service tensors for the next step (R486). The TOKENS and POS elements of an idle row are open. -/
def State.writeTensors (s : State) (q : Nat) (x : Svc) : State :=
  let v := (s.slot q).svc
  match s.tensor q (x.tid 1), s.tensor q (x.tid 2), s.tensor q (x.tid 3), s.tensor q (x.tid 4) with
  | some dt, some dp, some dr, some dg =>
    let s := (List.range x.batchRows).foldl (fun s r =>
      match v.rows[r]? with
      | some b =>
        let tok := ((v.seqs.find? (fun e => e.slot == b.slot)).map (fun e => e.token b.pos)).getD 0
        (((s.putPair dt r 0 tok).putPair dp r 0 b.pos).putPair dr r 0 b.slot).putPair dr r 1 (if b.draw then 1 else 0)
      | none =>
        let (a, s) := s.freeW
        let (b, s) := s.freeW
        (((s.putPair dt r 0 a.toInt).putPair dp r 0 b.toInt).putPair dr r 0 (-1)).putPair dr r 1 0) s
    (List.range x.maxSeqs).foldl (fun s k =>
      let ps := ((v.seqs.find? (fun e => e.slot == k)).map (·.pages)).getD []
      (List.range (x.context / 64)).foldl (fun s i =>
        s.putPair dg k i (match ps[i]? with | some p => p | none => -1)) s) s
  | _, _, _, _ => s

/-- Steps 1 to 4 of R481. -/
def State.serveStep (s : State) (q : Nat) : State :=
  let x := s.slot q
  -- a cancelled sequence is delivered no more
  let v := { x.svc with seqs := x.svc.seqs.map (fun e => if x.cancels.any (fun c => c.2 == e.sub.key) then { e with cancelled := true } else e) }
  let s := s.setSlot q { x with svc := v }
  let s := (v.rows.zipIdx).foldl (fun s (b, r) => if b.draw then s.drawRow q r b else s) s
  let cfg := s.svc q
  if cfg.serve then
    let v := (s.slot q).svc
    let (rows, seqs) := assignGo cfg cfg.batchRows v.seqs
    let s := s.setSlot q { s.slot q with svc := { v with rows := rows, seqs := seqs,
                                                         cfg := (List.range 32).map (fun i => s.rd (Reg.collarSvcW q i)) } }
    s.writeTensors q cfg
  else s.setSlot q { s.slot q with svc := { (s.slot q).svc with rows := [] } }

/-! ## Partial results (R487) -/

/-- A partial copy is due at the present step boundary. -/
def State.partialDue (s : State) (q : Nat) : Bool :=
  let x := s.svc q
  x.partialCount != 0 && x.partialEvery != 0 && s.stepAfter q % x.partialEvery == 0

/-- The planes of an item: address and bytes, VAL0 first. -/
def State.partialPlanes (s : State) (q i : Nat) : List (Nat × Nat) :=
  match s.tensor q i with
  | some d => ((d.planes d.nr d.nc (0, 0)).filter (fun p => p.1 == 0x30 || p.1 == 0x38)).map (fun p => (d.base + p.2.1, p.2.2))
  | none => []

/-- Writes the staging copy at SERVICE_ADDR under its SEQ. -/
def State.writePartial (s : State) (q : Nat) : State :=
  let x := s.svc q
  let items := (List.range x.partialCount).map (fun i => (x.partialTid i, s.partialPlanes q (x.partialTid i)))
  let sizes := items.map (fun it => it.2.foldl (fun n p => n + p.2) 0)
  let seq := (s.slot q).partSeq + 2
  let head := leBytes 8 seq ++ leBytes 4 (s.stepAfter q) ++ leBytes 2 (s.slot q).epoch ++ leBytes 2 x.partialCount
  let s := s.collarWrite x.serviceAddr head
  let s := (items.zipIdx).foldl (fun s ((tid, ps), i) =>
    let off := Config.partialOffset sizes i
    let n := sizes.getD i 0
    let fits := off + n ≤ x.partialBytes
    let s := s.collarWrite (x.serviceAddr + 0x10 + 16 * i)
      (leBytes 2 tid ++ leBytes 2 0 ++ leBytes 4 off ++ leBytes 8 (if fits then n else 0))
    if fits then
      (ps.foldl (fun (st : State × Nat) p =>
        match st.1.collarRead q p.1 p.2 with
        | (s, some d) => (s.collarWrite (x.serviceAddr + st.2) d, st.2 + p.2)
        | (s, none) => (s, st.2 + p.2)) (s, off)).1
    else s) s
  s.setSlot q { s.slot q with partSeq := seq, partDue := true }

/-- The Collar has services to perform at the present step boundary (R481, R487) and has not performed them. -/
def State.svcHolds (s : State) (q : Nat) : Bool :=
  s.atStep q && !(s.slot q).served && ((s.svc q).serve || !(s.slot q).svc.rows.isEmpty || s.partialDue q)

end Sys2Proof.Machine
end

