-- ==== Sys2Proof/Machine/MirrorOps.lean ====
section
/-! DEFINITION. The barrier of a job (R423, R424), epochs (R442-R445) and restarts (R446-R459). -/

namespace Sys2Proof.Machine

/-! ## The barrier tree (R423) -/

/-- The node number of this module in the tree of the job of partition `q`. -/
def State.rank (s : State) (q : Nat) : Nat := (s.jobModules q).findIdx (fun m => m == s.moduleId)

/-- The parent of this node; none for node 0. -/
def State.barParent (s : State) (q : Nat) : Option Nat :=
  if s.rank q = 0 then none else (s.jobModules q)[(s.rank q - 1) / 16]?

def State.barKids (s : State) (q : Nat) : List Nat := ((s.jobModules q).drop (16 * s.rank q + 1)).take 16

/-- AUX of this module's arrival: the step boundary, PREPARED (R443), a planned restart (R458) and a drain (R470). -/
def State.barAux (s : State) (q : Nat) : Nat :=
  let x := s.slot q
  let b (c : Bool) (n : Nat) : Nat := if c then n else 0
  let kid (i : Nat) : Bool := x.kids.any (fun k => k.aux.testBit i)
  b (s.atStep q) 1 + b (s.epochPoint q) 2 + b ((x.planned && s.epochPoint q) || kid 2) 4 + b (x.drainAsked || kid 3) 8

/-- ADDR of a barrier message: STEP and the count of barriers. -/
def State.barAddr (s : State) (q : Nat) : Nat := (s.slot q).step + (s.slot q).barriers * 0x100000000

/-- A child's arrival differs from this module's own in STEP, count, the step-boundary bit or PREPARED (R424, R442). -/
def State.barMismatch (s : State) (q : Nat) (b : BarMsg) : Bool :=
  b.step != (s.slot q).step || b.count != (s.slot q).barriers || b.aux % 4 != s.barAux q % 4

/-- MIRROR_STATUS.STATE. -/
def State.setMirror (s : State) (q v : Nat) : State := s.setFld (Reg.mirrorStatus q) 28 4 v

/-- The slot runs, and neither a restart nor a partition reset is in progress. -/
def Slot.going (x : Slot) : Bool := (x.state == .running || x.state == .draining) && x.restart == 0 && !x.resetting

/-! ## Commit and release -/

/-- COMMIT has been received (step 6 of R443): epoch `n` is recorded with the STEP and the count of its point, and the
undo records of the epoch before are discarded. -/
def State.commitEpoch (s : State) (q n : Nat) : State :=
  let x := s.slot q
  let keys := x.svc.seqs.map (fun e => e.sub.key) ++ x.svc.waiting.map (fun u => u.key)
  let s := s.setSlot q { x with
    epoch := n, epochStep := x.preStep, epochCount := x.barriers, svcSaved := x.svc, phase := 0, epochNext := x.epochNext && !s.atStep q,
    sendAll := false, gotLanded := false, pagesSent := 0, delivered := x.delivered.filter (fun d => keys.contains d.1) }
  let s := State.refreshUndo { s with undo := s.undo.filter (fun u => u.part != q || u.epoch == n) } q
  let s := s.wr (Reg.mirrorStatus q) (BitVec.ofNat 32 (0x10000000 + n))
  (s.wr (Reg.mirrorEpochStep q) (BitVec.ofNat 32 x.preStep)).count (Reg.mirrorStatCommits q) 1

/-- Every task slot of the partition with an entry starts (R348). -/
def State.startAll (s : State) (q : Nat) : State :=
  (s.tasksOf q).foldl (fun s (t, k) => if s.bit (Reg.cuffTaskEntry t k) 31 then s.startTask t k else s) s

/-- CUFF_STEP of every tile of the partition shows STEP. -/
def State.putStep (s : State) (q step : Nat) : State :=
  (s.tilesOf q).foldl (fun s t => s.wr (Reg.cuffStep t) (BitVec.ofNat 32 step)) (s.setSlot q { s.slot q with step := step })

/-- What a new step clears: the once-a-step records of warnings (R73, R184, R207) and the sampler's counts (R230). -/
def State.newStep (s : State) (q : Nat) : State :=
  let s := (s.tilesOf q).foldl (fun s t => s.setTile t { s.tile t with stepRecs := [] }) s
  { s with sampler := s.sampler.filter (fun e => e.1 / 8 % 8 != q) }

/-- A task that waits at the barrier goes on with its next instruction. -/
def State.releaseTask (s : State) (t k : Nat) : State :=
  if s.atBarrier t k then (s.setTask t k { s.task t k with arrived := false, bars := false }).complete t k else s

/-- The local release, once the job has released the point and neither a commit nor the Collar's services hold it
(conditions 5 of R343, R444, R481, R482). -/
def State.tryRelease (s : State) (q : Nat) : State :=
  let x := s.slot q
  if x.released.isSome && x.going && !s.commitHolds q && !s.svcHolds q && x.outHeld.isEmpty then
    let step := s.stepAfter q
    let atStep := s.atStep q
    let s := s.setSlot q { x with barriers := (x.barriers + 1) % 0x100000000, released := none, arrivedUp := false,
                                  served := false, atStart := false }
    if x.atStart then s.startAll q
    else
      let s := if atStep then (s.putStep q step).newStep q else s
      (s.tasksOf q).foldl (fun s (t, k) => s.releaseTask t k) s
  else s

/-! ## Restart, step 1 (R448, R454) -/

/-- MIRROR_FAIL whose outcome is STOPPED or FAULTED (R456): latched and recorded, and no restart begins. -/
def State.mirrorEnd (s : State) (q sub module : Nat) (st : SlotState) (how : Nat) : State :=
  let s := if s.bit (Reg.mirrorErrInfo q) 31 then s
    else s.wr (Reg.mirrorErrInfo q) (BitVec.ofNat 32 (0x80000000 + module * 0x10000 + sub * 0x100 + 0x18))
  let s := s.pushRec (s.record 0x18 2 11 sub none (some q) none 0 (s.rd (Reg.mirrorErrInfo q)).toNat
    (s.rd (Reg.mirrorStatus q)).toNat)
  let s := s.setFault q 0x18 sub 11 s.moduleId
  (s.setSlot q { s.slot q with state := st, stoppedBy := how }).setMirror q 8

/-- A code as a module of the job learns of it: code, subcode, unit and module. -/
abbrev Cause := Option (Nat × Nat × Nat × Nat)

/-- Step 1 of R448 for a partition. A restart beyond RESTART_MAX is not performed (R454). During a restart the decision
stands once it has been made, and before it the first fault stays (R540, R541). -/
def State.beginStop (s : State) (q : Nat) (why : Cause) (counted : Bool) : State :=
  let x := s.slot q
  let fault (s : State) : State := match why with
    | some (c, sub, unit, m) => s.setFault q c sub unit m
    | none => s
  let remote := (why.map (fun c => c.2.2.1 == 16)).getD false
  if x.resetting then s
  else match x.state with
  | .restoring =>
    if x.restart ≤ 1 || (x.restart = 5 && remote) then s
    else ((fault s).stopPartition q).setSlot q { (fault s).slot q with restart := 2 }
  | .running | .draining =>
    let made := s.fld (Reg.mirrorStatus q) 20 8
    let s := (s.endCommit q 3).stopPartition q
    let s := s.setSlot q { s.slot q with restart := 1, kids := [], arrivedUp := false, released := none, served := false,
                                         uncounted := !counted, planned := false, decided := none, drainSeen := false }
    if counted && s.fld (Reg.mirrorCfg q) 16 4 ≤ made then s.mirrorEnd q 6 s.partner .stopped 3
    else
      let s := if counted then s.setFld (Reg.mirrorStatus q) 20 8 (made + 1) else s
      let s := fault s
      s.setSlot q { s.slot q with state := .restoring }
  | _ => s

/-- A module of the job is lost (R446). Both members of a pair, or the partner that restores a spare: the job does not
resume (R455). -/
def State.addLost (s : State) (q m : Nat) : State :=
  let x := s.slot q
  let ms := if x.lost.contains m then x.lost else x.lost ++ [m]
  let s := s.setSlot q { x with lost := ms }
  if ms.contains (m ^^^ 1) && (x.state == .restoring || x.state == .running || x.state == .draining) then
    s.mirrorEnd q 1 m .faulted 0
  else s

/-- Modules lost, in turn. -/
def State.addAllLost (s : State) (q : Nat) (ms : List Nat) : State := ms.foldl (fun s m => s.addLost q m) s

/-! ## Arrival and release of the job's barrier -/

/-- A release has been received, or given by node 0 (R423, R443, R458, R470). -/
def State.onRelease (s : State) (q aux : Nat) : State :=
  let x := s.slot q
  if !x.arrivedUp || x.released.isSome || !x.going then s
  else
    let s := (s.barKids q).foldl (fun s m => s.sendCtrl q 0x22 m (s.barAddr q) aux) s
    if aux.testBit 1 != s.epochPoint q then s.linkFail q 4 ((s.barParent q).getD s.moduleId) 0x50 0
    else
      let n := s.nextEpoch q
      let atStep := s.atStep q
      let s := if aux.testBit 1 then s.commitEpoch q n else s
      if aux.testBit 1 && aux.testBit 2 then s.beginStop q none false
      else
        let y := s.slot q
        if aux.testBit 1 && atStep && y.drainSeen then
          s.setSlot q { y with state := .stopped, stoppedBy := 1, drainAsked := false, drainSeen := false,
                               released := some aux }
        else
          let drain := aux.testBit 3 && !y.drainSeen
          let y := { y with released := some aux, state := if drain then .draining else y.state,
                            epochNext := y.epochNext || drain, drainSeen := y.drainSeen || drain }
          (s.setSlot q y).tryRelease q

/-- The arrival of this module, once its own conditions hold, it is PREPARED where the point is an epoch boundary, and
every child has arrived (R423, R443). -/
def State.tryArrive (s : State) (q : Nat) : State :=
  let x := s.slot q
  if x.going && !x.arrivedUp && x.released.isNone && s.quiet q && (!s.epochPoint q || x.phase == 3) &&
      (s.barKids q).all (fun m => x.kids.any (fun b => b.src == m)) then
    let aux := s.barAux q
    let addr := s.barAddr q
    let bad := x.kids.find? (s.barMismatch q)
    let parent := s.barParent q
    let s := s.setSlot q { x with kids := [], arrivedUp := true }
    match bad, parent with
    | some b, _ => s.linkFail q 4 b.src 0x50 0
    | none, some m => s.sendCtrl q 0x21 m addr aux
    | none, none => s.onRelease q aux
  else s

/-- What the Collar does at the barrier of a partition as soon as it can. -/
def State.barrier (s : State) (q : Nat) : State := (s.tryArrive q).tryRelease q

/-! ## The epoch boundary (R443) -/

/-- Bytes of a page of the image of record (R61, R438). -/
def recordPage (bytes : List Byte) (k : Nat) : List Byte :=
  let b := (bytes.drop (65536 * k)).take 65536
  b ++ List.replicate (65536 - b.length) 0

/-- The cells of one 64 KiB page, by offset. -/
def pageCells (m : List Host.Cell) (base : Nat) : List Host.Cell :=
  (m.filter (fun c => base ≤ c.1 && c.1 < base + 0x10000)).map (fun c => (c.1 - base, c.2))

/-- Puts a page's content in place. -/
def putPage (m : List Host.Cell) (base : Nat) (cells : List Host.Cell) : List Host.Cell :=
  cells.foldl (fun m c => mset m (base + c.1) c.2) (mzero m base 0x10000)

/-- The committed slot of a page is the second (R441). -/
def PageSlots.second (w : PageSlots) (e : Nat) : Bool :=
  let d0 := (e + 65536 - w.e0) % 65536
  let d1 := (e + 65536 - w.e1) % 65536
  if d0 = 65535 then true else if d1 = 65535 then false else d1 < d0

/-- Writes Pocket page `p` of tile `t` to its slot that does not hold the committed content, tagged `m` (R441). -/
def State.savePage (s : State) (t p m : Nat) : State :=
  let key := 64 * t + p
  let cells := pageCells s.pocket (pkey t (0x10000 * p))
  let w : PageSlots := match tfind s.pageSlots key with
    | none => { e0 := m, d0 := cells, e1 := (m + 65535) % 65536, d1 := cells }
    | some w => if w.second ((m + 65535) % 65536) then { w with e0 := m, d0 := cells } else { w with e1 := m, d1 := cells }
  { s with pageSlots := tset s.pageSlots key w }

/-- Whether the page at a global data address is dirty (R440). -/
def State.pageDirty (s : State) (a : Nat) : Bool :=
  if gaSpace a = 0 then (s.rd64 (Reg.pocketDirty (gaTile a))).testBit (gaPocketOff a / 0x10000)
  else s.hbmDirty.contains (gaHbmOff a / 0x10000)

def State.clearDirty (s : State) (a : Nat) : State :=
  if gaSpace a = 0 then
    s.wr64 (Reg.pocketDirty (gaTile a)) (putBit (s.rd64 (Reg.pocketDirty (gaTile a))) (gaPocketOff a / 0x10000) false)
  else { s with hbmDirty := s.hbmDirty.filter (fun p => p != gaHbmOff a / 0x10000) }

/-- The pages of a region list, in the order of R438. -/
def regionPages (rs : List (Nat × Nat)) : List Nat :=
  rs.flatMap (fun (a, n) => (List.range n).map (fun i => a + 0x10000 * i))

/-- Sends one page of the mirror set; a dirty Pocket page also goes to its slot. -/
def State.sendSetPage (s : State) (q place m a : Nat) : State :=
  let s := s.clearDirty a
  let s := if gaSpace a = 0 then s.savePage (gaTile a) (gaPocketOff a / 0x10000) m else s
  match s.collarRead q a 0x10000 with
  | (s, some bytes) => s.sendPage q place bytes
  | (s, none) => s

/-- Steps 2 and 3 of R443. Where the image of record has grown by a page, every page has a new mirror offset. -/
def State.sendEpoch (s : State) (q : Nat) : State :=
  let x := s.slot q
  let m := s.nextEpoch q
  let rec' := recordBytes x.image x.commits
  let n := pagesFor rec'.length
  let all := x.sendAll || n != pagesFor x.recSent
  let first := if all then 0 else if x.recSent = rec'.length then n else x.recSent / 65536
  let s := s.setSlot q { x with pagesOut := [], pagesSent := 0, gotLanded := false, recSent := rec'.length,
                                preStep := s.stepAfter q, phase := 2 }
  let s := ((List.range n).drop first).foldl (fun s k => s.sendPage q (65536 * k) (recordPage rec' k)) s
  let s := ((regionPages x.mset).zipIdx).foldl (fun s (a, i) =>
    if all || s.pageDirty a then s.sendSetPage q (65536 * (n + i)) m a else s) s
  (s.sendMirror q 0x01 (m + (s.slot q).pagesSent * 0x100000000)).setMirror q 2

/-- Answers the partner's EPOCH_SENT once all its pages have landed. -/
def State.tryLanded (s : State) (q : Nat) : State :=
  let x := s.slot q
  match x.peerSent with
  | some (e, c) =>
    if c ≤ x.pagesIn then
      (s.setSlot q { x with pagesIn := x.pagesIn - c, peerSent := none, answered := some e }).sendMirror q 0x02 e
    else s
  | none => s

/-- The epoch boundary goes on (R443). -/
def State.epochStep (s : State) (q : Nat) : State :=
  let x := s.slot q
  if x.going && !x.arrivedUp && x.released.isNone && s.quiet q && s.epochPoint q then
    match x.phase with
    | 0 =>
      if s.commitHolds q then s
      else
        let l := s.regionList q
        let s := s.setSlot q { x with mset := l, sendAll := x.sendAll || l != x.mset, phase := 1 }
        s.applyAdmissions q
    | 1 => if s.svcHolds q then s else s.sendEpoch q
    | 2 =>
      if x.gotLanded && x.answered == some (s.nextEpoch q) then
        ((s.setSlot q { x with phase := 3 }).setMirror q 3).barrier q
      else s
    | _ => s
  else s

/-! ## Pages that arrive -/

/-- The answer to a page goes back over the port it came by. -/
def State.pageReply (s : State) (place : PktAt) (p : Packet) (kind code : Nat) : State :=
  let r := { p with kind := kind, dstModule := p.srcModule, srcModule := s.moduleId, dstTile := p.srcTile,
                    srcTile := p.dstTile, hops := 0, vcset := false, aux := code, data := [] }
  match place with
  | .port i => s.sendVia i.val r
  | .edge => { s with fabOut := s.fabOut ++ [r] }

/-- A page of the partner lands in the mirror area, its before-image first; the mirror engine's own write sets no dirty
bit (R440, R441). -/
def State.landPage (s : State) (place : PktAt) (q : Nat) (p : Packet) : State :=
  let (b, n) := s.mirrorArea q
  if n < p.addr + p.data.length then s.pageReply place p 0x13 0x10
  else if 3 ≤ (s.slot q).restart then s.pageReply place p 0x12 0
  else
    let off := b + p.addr
    let s := (s.needImage off p.data.length).foldl State.beforeImage s
    if (s.needImage off p.data.length).isEmpty then
      let s := { s with hbm := mwriteEn s.hbm off p.data,
                        hbmErr := s.hbmErr.filter (fun e => e.1 < off / 32 || (off + p.data.length) / 32 ≤ e.1) }
      let s := s.setSlot q { s.slot q with pagesIn := (s.slot q).pagesIn + 1 }
      (s.pageReply place p 0x12 0).tryLanded q
    else s

/-- The partition that is RECEIVING as a spare (R451). -/
def State.receiving (s : State) : Option Nat := (List.range 8).find? (fun q => s.fld (Reg.mirrorStatus q) 28 4 == 6)

/-- The image and commit records of a partition that is being restored, once they are known. -/
def State.restoreRecord (s : State) (q : Nat) : Option (List Byte) :=
  match s.loading with
  | some l => if l.part = q && l.restore then (if l.image = [] then none else some (recordBytes l.image l.commits))
    else some (recordBytes (s.slot q).image (s.slot q).commits)
  | none => some (recordBytes (s.slot q).image (s.slot q).commits)

/-- A page waits at the spare until its loader knows the image, and a page of a region until the load is applied. -/
def State.pageWaits (s : State) (q : Nat) : Bool :=
  match s.restoreRecord q with
  | none => true
  | some r => pagesFor r.length ≤ (s.slot q).pagesIn && s.loading.any (fun l => l.part == q && l.restore)

/-- A page at the spare (R451): those of the image of record have gone to the loader, the others go to their place, a
Pocket page also to both slots under the decided epoch. -/
def State.restorePage (s : State) (place : PktAt) (q : Nat) (p : Packet) : State :=
  let x := s.slot q
  let nrec := ((s.restoreRecord q).map (fun r => pagesFor r.length)).getD 0
  let took (s : State) : State :=
    (s.setSlot q { s.slot q with pagesIn := (s.slot q).pagesIn + 1 }).pageReply place p 0x12 0
  if x.pagesIn < nrec then took s
  else if !gaValid p.addr || !s.isMe (gaModule p.addr) || !s.inPart q p.addr p.data.length then s.pageReply place p 0x13 0x10
  else if gaSpace p.addr = 0 then
    let t := gaTile p.addr
    let (s, code) := s.pocketWrite t (gaPocketOff p.addr) p.data false
    if code != 0 then s.pageReply place p 0x13 code
    else
      let e := x.decided.getD 0
      let cells := pageCells s.pocket (pkey t (gaPocketOff p.addr))
      took { s with pageSlots := tset s.pageSlots (64 * t + gaPocketOff p.addr / 0x10000)
                      { e0 := e, d0 := cells, e1 := e, d1 := cells } }
  else
    let off := gaHbmOff p.addr
    took { s with hbm := mwriteEn s.hbm off p.data,
                  hbmErr := s.hbmErr.filter (fun e => e.1 < off / 32 || (off + p.data.length) / 32 ≤ e.1) }

/-! ## Rollback (step 3 of R448, R544) -/

/-- The image of record without the commits of the epoch after `e` (R61). -/
def Slot.commitsTo (x : Slot) (e : Nat) : List CommitRec := x.commits.filter (fun c => c.epoch != (e + 1) % 0x10000)

/-- The module-wide words of an image, which a restart leaves: FAB_ROUTE and the clock tables. -/
def moduleWord (a : Nat) : Bool :=
  (Reg.fabRoute 0 ≤ a && a < Reg.fabRoute 2048) || (0x10000 ≤ a && a < 0x10100)

/-- The fields of the partition as its image of record holds them, live and staged (R61, R448). -/
def State.restoreFields (s : State) (q : Nat) : State :=
  let x := s.slot q
  (s.putAll (((⟨x.image⟩ : Image).words q).filter (fun w => !moduleWord w.1))).applyCommits x.commits

/-- A word of Pocket page `p` of tile `t` is uncorrectable. -/
def State.pageBad (s : State) (t p : Nat) : Bool :=
  s.pocketErr.any (fun e => wkey t (0x2000 * p) ≤ e.1 && e.1 < wkey t (0x2000 * (p + 1)) && e.2.double)

/-- Copies the committed slot into a Pocket page. -/
def State.revertPage (s : State) (t p e : Nat) : State :=
  match tfind s.pageSlots (64 * t + p) with
  | none => s
  | some w =>
    let newer := w.e0 == (e + 1) % 65536 || w.e1 == (e + 1) % 65536
    if (s.rd64 (Reg.pocketDirty t)).testBit p || newer || s.pageBad t p then
      { s with pocket := putPage s.pocket (pkey t (0x10000 * p)) (if w.second e then w.d1 else w.d0),
               pocketErr := s.pocketErr.filter (fun x => x.1 < wkey t (0x2000 * p) || wkey t (0x2000 * (p + 1)) ≤ x.1),
               pageSlots := tset s.pageSlots (64 * t + p)
                 (if w.second e then { w with e0 := w.e1, d0 := w.d1 } else { w with e1 := w.e0, d1 := w.d0 }) }
    else s

/-- Copies a before-image back; its words are correct again. -/
def State.revertHbm (s : State) (u : UndoRec) : State :=
  { s with hbm := putPage s.hbm (u.page * 0x10000) u.data,
           hbmErr := s.hbmErr.filter (fun e => e.1 < u.page * 0x800 || (u.page + 1) * 0x800 ≤ e.1) }

/-- Step 3 of R448: rollback to the decided epoch `e`, which may be the one that this module has prepared and not yet
recorded. Before epoch 0 there is nothing to roll back. -/
def State.rollback (s : State) (q e : Nat) : State :=
  let s := if e = s.nextEpoch q && (s.slot q).phase == 3 then
      State.setSlot (s.commitEpoch q e) q { (s.commitEpoch q e).slot q with atStart := false }
    else s
  let x := s.slot q
  let s := s.setSlot q { x with phase := 0, pagesOut := [], pagesSent := 0, gotLanded := false, pagesIn := 0, peerSent := none,
                                answered := none }
  if x.atStart then s
  else
    let commits := x.commitsTo e
    let s := s.setSlot q { s.slot q with commits := commits, recSent := min x.recSent (recordBytes x.image commits).length }
    let mset := (s.restoreFields q).regionList q
    let s := s.setSlot q { s.slot q with mset := mset }
    let us := s.undo.filter (fun u => u.part == q && (u.epoch + 65536 - e) % 65536 ≤ 1)
    let s := ((us.filter (fun u => u.epoch != e)) ++ us.filter (fun u => u.epoch == e)).foldl State.revertHbm s
    let s := (regionPages mset).foldl (fun s a =>
      if gaSpace a = 0 then s.revertPage (gaTile a) (gaPocketOff a / 0x10000) e else s) s
    let s := { s with hbmDirty := s.hbmDirty.filter (fun p => s.mirrorPart p != some q) }
    let s := (s.tilesOf q).foldl (fun s t => s.wr64 (Reg.pocketDirty t) 0) s
    let s := State.refreshUndo { s with undo := s.undo.filter (fun u => u.part != q) } q
    let y := s.slot q
    s.setSlot q { y with svc := { y.svcSaved with waiting := [] }, seqRead := y.svcSaved.head, cancels := [], outHeld := [],
                         partDue := false }

/-! ## Spares and the end of a restart -/

/-- Step 6 of R448: STEP and the fields of the epoch, windows open, and the module at the restart barrier. Before epoch 0
the fields stand as the load left them. -/
def State.toBarrier (s : State) (q : Nat) : State :=
  let x := s.slot q
  let s := (s.restoreFields q).afterGroups q 0x005
  let s := s.wr (Reg.structCommitDirty q) 0
  let s := s.putStep q (if x.atStart then 0 else x.epochStep)
  let s := s.openWindows ⟨x.image⟩ true
  s.setSlot q { s.slot q with barriers := 0, restart := 6 }

/-- The partition goes on after its rollback: to the restart barrier, or to wait for spares (R448). -/
def State.afterRollback (s : State) (q : Nat) : State :=
  if (s.slot q).lost = [] then s.toBarrier q else s.setSlot q { s.slot q with restart := 3 }

/-- The coordinator of the job: its lowest module that is not lost. -/
def State.coordinator (s : State) (q : Nat) : Bool :=
  ((s.jobModules q).find? (fun m => !(s.slot q).lost.contains m)) == some s.moduleId

/-- R450 for one lost module `f` and its spare, as every module of the system performs it. -/
def State.takeSpare (s : State) (f sp : Nat) : State :=
  let s := s.wr (Reg.fabRoute f) (s.rd (Reg.fabRoute sp))
  let s := (List.range 16).foldl (fun s p =>
    if s.bit (Reg.fabPortStatus p) 11 && s.fld (Reg.fabPortStatus p) 0 11 == f then s.enablePort p false else s) s
  let s := if sp = s.ownId && !s.bit Reg.mirrorAlias 31 && s.loaded.isEmpty then
      s.wr Reg.mirrorAlias (BitVec.ofNat 32 (0x80000000 + f)) else s
  if f = s.partner then
    ((s.setBit Reg.mirrorLinkCtrl 0 true).enablePort 16 false).enablePort 17 false
  else s

/-- The partition goes on with step 4 of R448 under a choice of spares. -/
def State.takeSpares (s : State) (q : Nat) (choice : List (Nat × Nat)) : State :=
  let s := choice.foldl (fun s (f, sp) => s.takeSpare f sp) s
  let x := s.slot q
  if x.restart = 3 && (x.state == .restoring || x.state == .stopped) then
    let s := s.setSlot q { x with state := .restoring }
    if x.lost.contains s.partner then (s.setSlot q { s.slot q with restart := 4 }).setMirror q 7 else s.toBarrier q
  else s

/-- Too few spares: the job stays STOPPED with its rolled-back state (R449). -/
def State.noSpare (s : State) (q : Nat) : State :=
  let x := s.slot q
  if x.restart = 3 && (x.state == .restoring || x.state == .stopped) then
    (s.setSlot q { x with state := .stopped, stoppedBy := 2 }).setMirror q 7
  else s

/-- The image of record of the lost partner, as the mirror area of partition `q` holds it. -/
def State.lostRecord (s : State) (q : Nat) : Image × List CommitRec :=
  let (b, n) := s.mirrorArea q
  let len := leNat (mread s.hbm (b + 0x10) 8)
  (⟨mread s.hbm b (min len n)⟩,
    Config.commitsOf ((s.hbm.filter (fun c => b + len ≤ c.1 && c.1 < b + n)).map (fun c => (c.1 - (b + len), c.2))))

/-- The pages of the lost partner's mirror set after its image of record. -/
def State.lostPages (s : State) (b : Image) (cs : List CommitRec) : List Nat :=
  let p := b.n 0x2A 1 % 8
  regionPages (((s.putAll (b.words p)).applyCommits cs).regionList p)

/-- The partner begins to restore the spare (steps 1 and 2 of R451). -/
def State.beginRestore (s : State) (q : Nat) : State :=
  let (b, cs) := s.lostRecord q
  let n := pagesFor (recordBytes b.bytes cs).length
  let base := (s.mirrorArea q).1
  let s := s.setSlot q { s.slot q with restart := 5, pagesOut := [], pagesSent := 0, gotLanded := false }
  let s := s.setMirror q 5
  let s := s.sendMirror q 0x04 ((s.slot q).decided.getD 0 + (n + (s.lostPages b cs).length) * 0x100000000)
  (List.range n).foldl (fun s k =>
    s.sendPage q (gaHbm s.partner (Config.recordPlace k)) (mread s.hbm (base + 65536 * k) 65536)) s

/-- Steps 3 and 4 of R451, each once every page before it has landed. -/
def State.restoreNext (s : State) (q : Nat) : State :=
  let x := s.slot q
  if x.restart = 5 && x.pagesOut.isEmpty && !x.gotLanded && s.fld (Reg.mirrorStatus q) 28 4 == 5 then
    let (b, cs) := s.lostRecord q
    let n := pagesFor (recordBytes b.bytes cs).length
    let ps := s.lostPages b cs
    let base := (s.mirrorArea q).1
    if x.pagesSent = n + ps.length then
      (s.setSlot q { x with gotLanded := true }).sendMirror q 0x05 (x.pagesSent * 0x100000000)
    else if x.pagesSent = n then
      (ps.zipIdx).foldl (fun s (a, i) => s.sendPage q a (mread s.hbm (base + 65536 * (n + i)) 65536)) s
    else s
  else s

/-- The spare has every page of its restore: it answers RESTORE_DONE and goes to the restart barrier (R451). -/
def State.tryRestored (s : State) (q : Nat) : State :=
  let x := s.slot q
  match x.peerSent with
  | some (_, c) =>
    if s.fld (Reg.mirrorStatus q) 28 4 == 6 && c ≤ x.pagesIn then
      let v := Config.freeService s.freeCtr
      let s := State.setSlot { s with freeCtr := s.freeCtr + 1 } q
        { x with peerSent := none, pagesIn := 0, sendAll := true, svc := v, svcSaved := v, seqRead := v.head }
      ((s.sendMirror q 0x05 (c * 0x100000000)).setMirror q 4).toBarrier q
    else s
  | none => s

end Sys2Proof.Machine
end

