-- ==== Sys2Proof/Machine/HostCmd.lean ====
section
/-! DEFINITION. The command ring (R468-R472): what each command does when its turn comes, and when it is complete. -/

namespace Sys2Proof.Machine

/-! ## Slots -/

/-- The Collar cluster carries out commands (boot step 7, R517; R545). -/
def State.collarRuns (s : State) : Bool := s.fld Reg.collarStatus 30 2 == 2 && !s.stopped

/-- A slot that holds nothing: the counts of its rings, whose registers are kept, stand (R489). -/
def Slot.freed (x : Slot) : Slot :=
  { Slot.init with outTail := x.outTail, seqRead := x.svcSaved.head, svc := { Service.init with head := x.svcSaved.head },
                   svcSaved := { Service.init with head := x.svcSaved.head }, partSeq := x.partSeq,
                   partHostSeq := x.partHostSeq }

/-- KILL, or a partition reset through RST_CTRL (R468, R469, R531): a load of the slot is abandoned, and what the
partition holds is reset; a slot that holds nothing becomes IDLE at once. -/
def State.killSlot (s : State) (q : Nat) : State :=
  let s := if s.loading.any (fun l => l.part == q) then
      { s.setLoad loadIdle 0 0 0 with loading := none } else s
  if (s.slot q).resetting then s
  else if (s.slot q).tiles = 0 then (s.setSlot q (s.slot q).freed).settlePanels
  else s.beginPartReset q

/-- RUN from READY: every page of the mirror set is dirty, and the partition stands at the start barrier (R444). -/
def State.runReady (s : State) (q : Nat) : State :=
  (s.setSlot q { s.slot q with
    state := .running, atStart := true, sendAll := true, barriers := 0, restart := 0, released := none, arrivedUp := false,
    kids := [], phase := 0, drainAsked := false, drainSeen := false, planned := false, epochNext := false,
    lost := [], decided := none }).setMirror q 1

/-- RUN from STOPPED (R468, R542). A drained slot releases its held barrier; a slot with a damaged word begins R448 at
step 1 with this module lost; any other goes on with the restart at which it stopped. -/
def State.runStopped (s : State) (q : Nat) : State :=
  let x := s.slot q
  if x.damaged then
    let s := s.stopPartition q
    (s.setSlot q { s.slot q with state := .restoring, restart := 1, damaged := false, decided := none, released := none,
                                 arrivedUp := false, kids := [], served := false, uncounted := true }).addLost q s.moduleId
  else if x.stoppedBy = 1 then (s.setSlot q { x with state := .running, stoppedBy := 0, epochNext := true }).tryRelease q
  else (s.setSlot q { x with state := .restoring, stoppedBy := 0, uncounted := true }).setMirror q (if x.stoppedBy = 3 then 4 else 7)

/-- Every optical engine group that wakes is on, and no enabled port trains (R508). -/
def State.linksUp (s : State) : Bool :=
  ([26, 27, 28, 29] : List Nat).all (fun d => !s.domainWaking d) &&
    (List.range 16).all (fun p => !s.bit (Reg.fabPortCtrl p) 0 || s.portState p != portTraining)

/-! ## Completions (R472) -/

/-- The completion of a command; it leaves the queue of commands in progress. -/
def State.finishCmd (s : State) (c : HostCmd) (result reason : Nat) : State :=
  let bytes := leBytes 8 c.entry.tag ++ leBytes 4 c.n ++ leBytes 1 c.op ++ leBytes 1 result ++ leBytes 1 reason ++
    leBytes 1 c.entry.slot
  { s with cmds := s.cmds.filter (fun d => d.n != c.n), completions := tset s.completions (c.n % 16) bytes }

/-- A completion whose RESULT and REASON no rule states: of a command that another ends. -/
def State.finishOpen (s : State) (c : HostCmd) : State :=
  let (w, s) := s.freeW
  s.finishCmd c (fieldOf w 0 8) (fieldOf w 8 8)

def State.markBegun (s : State) (c : HostCmd) : State :=
  { s with cmds := s.cmds.map (fun d => if d.n = c.n then { d with begun := true } else d) }

def resOk : Nat := 0
def resOpcode : Nat := 1
def resState : Nat := 2
def resField : Nat := 3
def resRejected : Nat := 4
def resPcie : Nat := 5

/-- The HBM end of a copy: offset and bytes; in a COPY_IN the destination comes second (R471). -/
def HostCmd.copyHbm (c : HostCmd) : Nat := if c.op = 5 then c.entry.arg1 else c.entry.arg0
def HostCmd.copyHost (c : HostCmd) : Nat := if c.op = 5 then c.entry.arg0 else c.entry.arg1

/-- The HBM end of a copy lies in the slot's regions. -/
def State.copyOk (s : State) (c : HostCmd) : Bool :=
  let a := c.copyHbm
  gaSpace a == 1 && gaValid a && s.isMe (gaModule a) && s.hbmAdmits c.entry.slot (gaHbmOff a) c.entry.arg2

/-! ## Beginning a command -/

/-- The effect of a command whose turn has come, by the state of its slot. -/
def State.beginCmd (s : State) (c : HostCmd) : State :=
  let q := c.entry.slot
  let x := s.slot q
  if c.op = 0 || 7 < c.op then s.finishCmd c resOpcode 0
  else if c.entry.resv != 0 || 7 < q then s.finishCmd c resField 0
  else if c.op = 7 then s.finishCmd c resOk 0
  else if c.op = 1 then
    if x.state.busy then s.finishCmd c resState 0
    else if s.loading.isSome || x.resetting then s
    else
      let s := s.leaveIdle
      let s := (s.wr64 Reg.structLoadAddr c.entry.arg0).wr64 Reg.structLoadLen c.entry.arg1
      (s.markBegun c).startLoad q
  else if c.op = 2 then
    if x.state != .ready && x.state != .stopped then s.finishCmd c resState 0
    else if !s.linksUp then s
    else if x.state == .ready then (s.runReady q).finishCmd c resOk 0
    else (s.runStopped q).finishCmd c resOk 0
  else if c.op = 3 then
    if x.state != .running then s.finishCmd c resState 0
    else (s.setSlot q { x with state := .draining, drainAsked := true }).markBegun c
  else if c.op = 4 then
    if x.state == .idle then s.finishCmd c resState 0 else (s.killSlot q).markBegun c
  else if c.op = 5 then
    if x.state != .ready && x.state != .stopped then s.finishCmd c resState 0
    else if !s.copyOk c then s.finishCmd c resField 0
    else s.markBegun c
  else
    if x.state == .idle || x.state == .loading then s.finishCmd c resState 0
    else if !s.copyOk c then s.finishCmd c resField 0
    else s.markBegun c

/-- Whether a command waits for an earlier one: of its slot, unless it is a KILL, or an earlier LOAD for the one
loader. -/
def State.cmdWaits (s : State) (c : HostCmd) : Bool :=
  (s.cmds.takeWhile (fun d => d.n != c.n)).any (fun d =>
    (d.entry.slot == c.entry.slot && c.op != 4) || (c.op == 1 && d.op == 1))

/-- Completes a command that has been begun, where its condition holds. -/
def State.endCmd (s : State) (c : HostCmd) : State :=
  let x := s.slot c.entry.slot
  if c.op = 1 then
    if s.loading.any (fun l => l.part == c.entry.slot) then s
    else if s.loadState = loadDone then s.finishCmd c resOk 0
    else if s.loadState = loadRejected then s.finishCmd c resRejected (s.fld Reg.structLoadStatus 24 8)
    else s.finishOpen c
  else if c.op = 3 then
    match x.state with
    | .stopped => s.finishCmd c resOk 0
    | .running | .draining | .restoring => s
    | _ => s.finishOpen c
  else if c.op = 4 then if x.resetting then s else s.finishCmd c resOk 0
  else s

/-- One command of the queue. -/
def State.settleCmd (s : State) (n : Nat) : State :=
  match s.cmds.find? (fun c => c.n == n) with
  | none => s
  | some c =>
    if c.begun then s.endCmd c
    else if s.cmdWaits c then s
    else
      let s := s.beginCmd c
      match s.cmds.find? (fun c => c.n == n && c.begun) with
      | some c => s.endCmd c
      | none => s

/-- The Collar goes through the commands that it has read, in ring order; a KILL may have ended what an earlier one waits
for, so it does so twice. -/
def State.settleCmds (s : State) : State :=
  let s := (s.cmds.map (·.n)).foldl State.settleCmd s
  (s.cmds.map (·.n)).foldl State.settleCmd s

/-! ## Reading the ring (R471) -/

/-- The Collar reads the entry at HEAD, which is `e` with opcode `op`. -/
def State.readCmd (s : State) (op : Nat) (e : CmdEntry) : State :=
  let head := (s.rd Reg.hostCmdHead).toNat
  if s.collarRuns && s.cmdOn && s.hostUp && head != (s.rd Reg.hostCmdTail).toNat then
    let s := s.wr Reg.hostCmdHead (BitVec.ofNat 32 (head + 1))
    State.settleCmds { s with cmds := s.cmds ++ [{ n := head, op := op, entry := e, begun := false }] }
  else s

end Sys2Proof.Machine
end

