-- ==== Sys2Proof/Machine/Host.lean ====
section
/-! DEFINITION. The commands of the host interface and the Collar's services (spec 15): the command ring, the status
pages, sequences and output, partial results, BAR2, and what the PCIe link does. -/

namespace Sys2Proof.Machine

/-! ## The command ring (R471, R472) -/

/-- HOST_CMD_TAIL_WRITE (R471, R488). -/
def State.writeCmdTail (s : State) (v : Word) : State :=
  if s.cmdSize < sub32 v.toNat (s.rd Reg.hostCmdHead).toNat then s.latchHostErr 0 2 0 else s.wr Reg.hostCmdTail v

/-- HOST_CMD_TAIL_WRITE. -/
def execHostCmdTailWrite (v : Word) (s : State) : Host.Outcome State Fault Refusal := .next (s.writeCmdTail v)

/-- LOAD (R471). -/
def execLoad (e : CmdEntry) (s : State) : Host.Outcome State Fault Refusal := .next (s.readCmd 1 e)

/-- RUN (R468). -/
def execRun (e : CmdEntry) (s : State) : Host.Outcome State Fault Refusal := .next (s.readCmd 2 e)

/-- DRAIN (R470). -/
def execDrain (e : CmdEntry) (s : State) : Host.Outcome State Fault Refusal := .next (s.readCmd 3 e)

/-- KILL (R468, R469). -/
def execKill (e : CmdEntry) (s : State) : Host.Outcome State Fault Refusal := .next (s.readCmd 4 e)

/-- COPY_IN (R471). -/
def execCopyIn (e : CmdEntry) (s : State) : Host.Outcome State Fault Refusal := .next (s.readCmd 5 e)

/-- COPY_OUT (R471). -/
def execCopyOut (e : CmdEntry) (s : State) : Host.Outcome State Fault Refusal := .next (s.readCmd 6 e)

/-- COMMAND_NOP: an entry with opcode NOP, or with one that no other command has. -/
def execCommandNop (op : BitVec 8) (e : CmdEntry) (s : State) : Host.Outcome State Fault Refusal :=
  .next (if 1 ≤ op.toNat ∧ op.toNat ≤ 6 then s else s.readCmd op.toNat e)

/-- The copy engine moves the bytes of a command (R471). A word that its check does not deliver leaves the completion of a
COPY_OUT open. -/
def State.copyDone (s : State) (c : HostCmd) (ans : HostAns) : State :=
  let off := gaHbmOff c.copyHbm
  match ans with
  | .error _ => s.finishCmd c resPcie 0
  | .ok data =>
    if c.op = 5 then (s.hbmWrite off ((data.take c.entry.arg2).map some)).finishCmd c resOk 0
    else match s.hbmRead off c.entry.arg2 with
      | (s, some bs) => (s.hostStore c.copyHost bs).finishCmd c resOk 0
      | (s, none) => s.finishOpen c

/-- HBM_COPY_DONE: command `n` of the ring ends; `ans` is what the host answered. -/
def execHbmCopyDone (n : Word) (ans : HostAns) (s : State) : Host.Outcome State Fault Refusal :=
  .next (match s.cmds.find? (fun c => c.n == n.toNat) with
    | some c => if c.begun && (c.op == 5 || c.op == 6) then (s.copyDone c ans).settleCmds else s
    | none => s)

/-! ## The status area (R473-R477) -/

/-- The codes of STATE (R477). -/
def SlotState.code : SlotState → Nat
  | .idle => 0
  | .loading => 1
  | .ready => 2
  | .running => 3
  | .draining => 4
  | .stopped => 5
  | .restoring => 6
  | .faulted => 7

/-- The status word (R477). -/
def Slot.statusWord (x : Slot) : Nat :=
  x.state.code * 2 ^ 60 + x.fault % 256 * 2 ^ 52 + x.epoch % 65536 * 2 ^ 36 + x.step % 2 ^ 32 * 16 +
    (if x.partValid then 1 else 0)

/-- Bins of SAMPLER_HIST of a slot, summed over the panels. -/
def State.samplerSum (s : State) (q k b : Nat) : Nat :=
  min 0xFFFFFFFF ((List.range 4).foldl (fun n p => n + (s.rd (Reg.samplerHist p q k b)).toNat) 0)

def padTo (n : Nat) (bs : List Byte) : List Byte := bs ++ List.replicate (n - bs.length) 0

/-- Bytes 0x008 onward of the page of slot `q` (R476). -/
def State.slotPage (s : State) (q : Nat) : List Byte :=
  let x := s.slot q
  let head := leBytes 8 x.statusWord ++ leBytes 8 x.jobId ++ leBytes 8 (s.rd64 Reg.calNow / 0x8000) ++
    leBytes 1 x.faultSub ++ leBytes 1 x.faultUnit ++ leBytes 2 x.faultModule ++ leBytes 4 x.faultStep ++
    leBytes 4 x.svcSaved.head ++ leBytes 4 x.outTail ++ leBytes 8 x.tokens ++ leBytes 2 x.svc.seqs.length ++
    leBytes 2 x.svc.waiting.length ++ leBytes 4 (freePages (s.svc q) x.svc).length ++ leBytes 4 x.holdUs
  padTo 4088 (padTo 0xF8 head ++ ((List.range 7).flatMap (fun k => (List.range 16).flatMap (fun b => leBytes 4 (s.samplerSum q k b)))))

/-- Bytes 0x008 onward of the module page (R476, R472). -/
def State.modulePage (s : State) : List Byte :=
  let head := leBytes 4 (s.rd Reg.hostCmdHead).toNat ++ leBytes 4 (s.rd Reg.collarStatus).toNat ++
    leBytes 8 (s.rd64 Reg.calNow / 0x8000) ++ leBytes 2 s.ownId
  padTo 4088 (padTo 0xF8 head ++ (List.range 16).flatMap (fun i => tget s.completions (List.replicate 16 0) i))

/-- Rewrites page `p` (R473). -/
def State.rewritePage (s : State) (p : Nat) : State :=
  let seq := tget s.pageSeq 0 p + 2
  let base := (s.rd64 Reg.hostStatusBase) / 4096 * 4096 + 4096 * p
  let body := if p = 0 then s.modulePage else s.slotPage (p - 1)
  { s.hostStore base (leBytes 8 seq ++ body) with pageSeq := tset s.pageSeq p seq }

/-- A Collar core runs firmware. -/
def State.collarUp (s : State) : Bool := s.fld Reg.collarStatus 0 8 != 0

/-- The Collar rewrites status pages. -/
def State.pagesOn (s : State) : Bool := s.bit Reg.hostStatusBase 0 && s.hostUp && !s.pagesFinal && s.collarUp

/-- STATUS_PAGE_REWRITE (R473, R475). -/
def execStatusPageRewrite (p : Fin 9) (s : State) : Host.Outcome State Fault Refusal :=
  .next (if s.pagesOn then s.rewritePage p else s)

/-- A write of HOST_STATUS_BASE.ENABLE (R473). -/
def State.enableStatus (s : State) (b : Bool) : State :=
  let s := if b && !s.bit Reg.hostStatusBase 0 then { s with pageSeq := [] } else s
  s.setBit Reg.hostStatusBase 0 b

/-- HOST_STATUS_ENABLE. -/
def execHostStatusEnable (b : Bool) (s : State) : Host.Outcome State Fault Refusal := .next (s.enableStatus b)

/-! ## Rings of a slot -/

/-- A write of a ring's ENABLE (R488): the command ring goes on at its head, a sequence ring at SEQ_HEAD, and held output
is written again. -/
def State.enableRing (s : State) (r : Option PartId) (b : Bool) : State :=
  match r with
  | none => s.setBit Reg.hostCmdCfg 31 b
  | some q =>
    let on := b && !s.ringOn q
    let s := s.setBit (Reg.hostRingCfg q) 31 b
    if on then
      let x := s.slot q
      let head := x.svc.head
      let s := s.setSlot q { x with seqRead := head, cancels := x.cancels.filter (fun c => c.1 < head),
                                    svc := { x.svc with waiting := x.svc.waiting.filter (fun u => u.idx < head) } }
      ((s.flushOut q).tryRelease q).settleCmds
    else s

/-- HOST_RING_ENABLE. -/
def execHostRingEnable (r : Option PartId) (b : Bool) (s : State) : Host.Outcome State Fault Refusal :=
  .next (s.enableRing r b)

/-- A write of HOST_SEQ_TAIL (R478, R488). -/
def State.writeSeqTail (s : State) (q : Nat) (v : Word) : State :=
  if s.seqSize q < sub32 v.toNat (s.slot q).svcSaved.head then s.latchRingErr q 2 2 0 else s.wr (Reg.hostSeqTail q) v

/-- HOST_SEQ_TAIL_WRITE. -/
def execHostSeqTailWrite (q : PartId) (v : Word) (s : State) : Host.Outcome State Fault Refusal :=
  .next (s.writeSeqTail q v)

/-- A write of HOST_OUT_HEAD: held entries go out, and a barrier that waits for them releases (R482). -/
def State.writeOutHead (s : State) (q : Nat) (v : Word) : State :=
  (((s.wr (Reg.hostOutHead q) v).flushOut q).tryRelease q).settleCmds

/-- HOST_OUT_HEAD_WRITE. -/
def execHostOutHeadWrite (q : PartId) (v : Word) (s : State) : Host.Outcome State Fault Refusal :=
  .next (s.writeOutHead q v)

/-- The Collar reads a sequence entry of the slot (R480). -/
def State.seqReady (s : State) (q : Nat) : Bool :=
  s.collarRuns && s.ringOn q && s.hostUp && (s.svc q).serve && (s.slot q).tiles != 0 && !(s.slot q).resetting &&
    (s.slot q).seqRead != (s.rd (Reg.hostSeqTail q)).toNat

/-- The tokens of a prompt (R484): of bytes, merged by the slot's table; or of 32-bit IDs. -/
def State.promptTokens (s : State) (q : Nat) (e : SeqEntry) (data : List Byte) : State × List Nat :=
  if e.input = 1 then
    (s, (List.range e.len).map (fun i => leNat ((data.drop (4 * i)).take 4)))
  else
    let x := s.svc q
    let bytes := (data.take e.len).map BitVec.toNat
    match s.collarRead q x.mergeAddr (12 * x.mergeCount) with
    | (s, some bs) => (s, tokenise (mergeTable x.mergeCount bs) bytes.length bytes)
    | (s, none) => (s, bytes)

/-- SUBMIT (R478-R480): the entry at the read position, with what the host answers for its prompt. -/
def execSubmit (q : PartId) (e : SeqEntry) (prompt : HostAns) (s : State) : Host.Outcome State Fault Refusal :=
  .next (
    if !s.seqReady q then s
    else match prompt with
      | .error st => s.ringFails (.sequence q) st
      | .ok data =>
        let (s, toks) := s.promptTokens q e data
        let x := s.slot q
        let s := s.setSlot q { x with seqRead := (x.seqRead + 1) % 0x100000000 }
        if subBad (s.svc q) x.svc e toks then (s.endEntry q e.key 0 5).settleCmds
        else
          let u : Sub := { idx := x.seqRead, key := e.key, maxNew := e.maxNew, temp := e.temp, topK := e.topK,
                           topP := e.topP, stops := e.stops.take e.nstop, prompt := toks }
          s.setSlot q { s.slot q with svc := { x.svc with waiting := x.svc.waiting ++ [u] } })

/-- CANCEL (R478, R480). An entry with another field set is no cancellation that the ring defines: it is passed over. -/
def execCancel (q : PartId) (e : SeqEntry) (s : State) : Host.Outcome State Fault Refusal :=
  .next (
    if !s.seqReady q then s
    else
      let x := s.slot q
      let plain := e.input == 0 && e.nstop == 0 && e.maxNew == 0 && e.addr == 0 && e.len == 0 && e.temp == 0 &&
        e.topK == 0 && e.topP == 0 && e.stops.all (· == 0) && e.resv == 0
      s.setSlot q { x with seqRead := (x.seqRead + 1) % 0x100000000,
                           cancels := if plain then x.cancels ++ [(x.seqRead, e.key)] else x.cancels })

/-! ## The step boundary -/

/-- STEP_BOUNDARY_SERVICE (R481, R487): the Collar holds the barrier for `us` µs. At an epoch boundary the admissions
come first (R443, R480). -/
def execStepBoundaryService (q : PartId) (us : Nat) (s : State) : Host.Outcome State Fault Refusal :=
  .next (
    let x := s.slot q
    if s.collarRuns && x.going && s.quiet q && s.svcHolds q && (!s.epochPoint q || x.phase == 1) then
      let s := if (s.svc q).serve || !x.svc.rows.isEmpty then s.serveStep q else s
      let s := if s.partialDue q then s.writePartial q else s
      let s := s.setSlot q { s.slot q with served := true, holdUs := us }
      (s.tryRelease q).settleCmds
    else s)

/-- PARTIAL_HOST_COPY (R487): after the release, the staging copy goes to the host under its own SEQ. -/
def execPartialHostCopy (q : PartId) (s : State) : Host.Outcome State Fault Refusal :=
  .next (
    let x := s.slot q
    let c := s.svc q
    if !x.partDue || x.served || !s.ringOn q || !s.hostUp then s
    else
      let s := s.setSlot q { x with partDue := false }
      if s.fld (Reg.hostRingCfg q) 0 16 * 4096 < c.partialBytes then s.latchRingErr q 4 3 0
      else match s.collarRead q c.serviceAddr c.partialBytes with
        | (s, none) => s
        | (s, some bs) =>
          let seq := x.partHostSeq + 2
          let s := s.hostStore (s.rd64 (Reg.hostPartBase q) / 4096 * 4096) (leBytes 8 seq ++ bs.drop 8)
          s.setSlot q { s.slot q with partHostSeq := seq, partValid := true })

/-! ## BAR2 (R466) -/

/-- The HBM offset that BAR2 offset `off` reaches. -/
def State.apertureOff (s : State) (off : Nat) : Nat := (s.rd64 Reg.hostApertureBase) / 2 ^ 30 * 2 ^ 30 + off

/-- The aperture admits an access. -/
def State.apertureOk (s : State) (off len : Nat) (write : Bool) : Bool :=
  s.bit Reg.hostApertureCfg 31 && (!write || s.bit Reg.hostApertureCfg 30) &&
    s.hbmAdmits (s.fld Reg.hostApertureCfg 0 3) (s.apertureOff off) len

/-- A refused access: REFUSED, and a record where the aperture is open. -/
def State.apertureRefused (s : State) : State :=
  let s := s.setBit Reg.hostApertureStatus 0 true
  if s.bit Reg.hostApertureCfg 31 then s.hostRecord none (s.rd Reg.hostErr).toNat else s

/-- BAR2_READ (R466, R543): a refused or undeliverable read completes with zero data; in D3hot it returns ones (R464). -/
def execBar2Read (off len : Nat) (s : State) : Host.Outcome State Fault Refusal :=
  .next (
    if s.d3 then { s with reply := List.replicate len 0xFF }
    else if !s.apertureOk off len false then { s.apertureRefused with reply := List.replicate len 0 }
    else match s.hbmRead (s.apertureOff off) len with
      | (s, some bs) => { s with reply := bs }
      | (s, none) => { s with reply := List.replicate len 0 })

/-- BAR2_WRITE (R466). -/
def execBar2Write (off : Nat) (data : List (Option Byte)) (s : State) : Host.Outcome State Fault Refusal :=
  .next (
    if s.d3 then s
    else if !s.apertureOk off data.length true then s.apertureRefused
    else s.hbmWrite (s.apertureOff off) data)

/-! ## The link (R464, R489, R564) -/

/-- The HOST_* registers of the module and of every slot. -/
def hostWord (a : Nat) : Bool :=
  (0x4000000 ≤ a && a < 0x4000030) || (0x4001000 ≤ a && a < 0x4001400)

/-- A function level reset (R489): host registers return to their reset values, and what the Collar was reading or
writing is abandoned. Jobs run on. -/
def State.functionReset (s : State) : State :=
  { s.forget hostWord with cmds := [], d3 := false }

/-- FUNCTION_LEVEL_RESET. -/
def execFunctionLevelReset (s : State) : Host.Outcome State Fault Refusal := .next s.functionReset

/-- PERST_ASSERT (R564): without effect while the rail is out of range. -/
def execPerstAssert (s : State) : Host.Outcome State Fault Refusal :=
  .next (if s.rail then { s.functionReset with perst := true, linkUp := false } else s)

/-- PERST_RELEASE (R564): the endpoint trains the link. -/
def execPerstRelease (s : State) : Host.Outcome State Fault Refusal :=
  .next (if s.rail then { s with perst := false, linkUp := s.domainOn 30 } else s)

/-- PCIE_LINK_DOWN (R475, R530). -/
def execPcieLinkDown (s : State) : Host.Outcome State Fault Refusal :=
  .next { s.functionReset with linkUp := false }

/-- The stream position of the transfer of a queue that was sent under `txn`. -/
def State.hostXferPos (s : State) (t q txn : Nat) : Option Nat :=
  let x := s.queue t q
  match x.xfers.find? (fun f => f.txn == txn && !f.read) with
  | some f => some f.pos
  | none => (x.writes.find? (fun w => w.sent == some txn)).map (·.pos)

/-- PCIE_COMPLETION_TIMEOUT (R467, R488): a request of the device gets no completion, or one with an error. -/
def execPcieCompletionTimeout (r : HostReq) (status : BitVec 16) (s : State) : Host.Outcome State Fault Refusal :=
  .next (match r with
    | .dma t n txn =>
      match s.hostXferPos t n txn with
      | some pos => s.hostFail t n pos status.toNat
      | none => s
    | r => s.ringFails r status.toNat)

/-- PCIE_CONFIGURATION_REQUEST (R464, R517): Request Retry Status before boot step 5; afterwards it completes, and a write
of the power state takes effect. A request that arrives shows that the link is up. -/
def execPcieConfigurationRequest (d3 : Option Bool) (s : State) : Host.Outcome State Fault Refusal :=
  .next (
    if !s.domainOn 30 || s.perst then s
    else if s.fld Reg.bootStatus 29 3 < 5 then { s with reply := [2], linkUp := true }
    else { s with reply := [0], linkUp := true, d3 := d3.getD s.d3 })

end Sys2Proof.Machine
end

