-- ==== Sys2Proof/Machine/Power.lean ====
section
/-! DEFINITION. The commands of clocks, power and the calendar (spec 16). -/

namespace Sys2Proof.Machine

/-! ## Tile clocks (R492) -/

/-- The tile has work that keeps its branch of the tile clock running. A task that waits at the barrier or in WFI expects
no unit's answer. -/
def State.tileBusy (s : State) (t : Nat) : Bool :=
  let x := s.tile t
  (List.range 4).any (fun k => s.taskState t k == taskRunning ||
      (s.taskState t k == taskWaiting && !([8, 9] : List Nat).contains (s.fld (Reg.cuffTaskStatus t k) 25 4))) ||
    (List.range 4).any (fun i => s.suitState t i == suitRunning) ||
    x.queues.any (fun q => !q.2.xfers.isEmpty || !q.2.writes.isEmpty) || !x.ctxs.isEmpty ||
    !x.shawl.sends.isEmpty || !x.shawl.arriving.isEmpty || 0 < x.shawl.flying ||
    !x.ports.held.isEmpty || !x.ports.posted.isEmpty || !x.ports.reads.isEmpty || !x.inbound.isEmpty

/-- The tile's branch runs: NO_GATE holds it, or it has work, or it has not yet stopped (R492, R494). -/
def State.branchRuns (s : State) (t : Nat) : Bool :=
  s.bit Reg.clkGateCfg (t / 64) || !(s.tile t).clockStopped || s.tileBusy t

/-- TILE_CLOCK_STOP: 64 cycles without work have passed. -/
def execTileClockStop (t : TileId) (s : State) : Host.Outcome State Fault Refusal :=
  .next (if s.tileBusy t || s.bit Reg.clkGateCfg (t.val / 64) then s else s.setTile t { s.tile t with clockStopped := true })

/-! ## Operating points (R498, R499) -/

/-- OPERATING_POINT_SELECT. -/
def execOperatingPointSelect (p : PanelId) (i : Fin 4) (s : State) : Host.Outcome State Fault Refusal :=
  .next (s.selectPoint p i)

/-- The target of a transition has been reached. -/
def State.reachPoint (s : State) (p : Nat) : State :=
  let i := (s.panelClk p).target
  ((s.setFld (Reg.clkPanelStatus p) 28 2 i).setBit (Reg.clkPanelStatus p) 30 (!s.bit (Reg.clkPointTable p i) 31)).endPoint p

/-- SUPPLY_RAMP_DONE: after a ramp up the clock pauses; a ramp down ends the transition. -/
def execSupplyRampDone (p : PanelId) (s : State) : Host.Outcome State Fault Refusal :=
  .next (
    let c := s.panelClk p
    let v := (s.pointOf p c.target).2
    if c.phase = 1 then (s.setFld (Reg.clkPanelStatus p) 16 10 v).setPanelClk p { c with phase := 2 }
    else if c.phase = 3 then (s.setFld (Reg.clkPanelStatus p) 16 10 v).reachPoint p
    else s)

/-- CLOCK_PAUSE_END: the new frequency runs; a supply above that of the point ramps down. -/
def execClockPauseEnd (p : PanelId) (s : State) : Host.Outcome State Fault Refusal :=
  .next (
    let c := s.panelClk p
    let (f, v) := s.pointOf p c.target
    if c.phase = 2 then
      let s := s.setFld (Reg.clkPanelStatus p) 0 11 f
      if v < s.fld (Reg.clkPanelStatus p) 16 10 then s.setPanelClk p { c with phase := 3 } else s.reachPoint p
    else s)

/-! ## Deep idle (R507, R508) -/

/-- Every job slot is IDLE. -/
def State.allIdle (s : State) : Bool := (List.range 8).all (fun q => (s.slot q).state == .idle)

/-- A write of DEEP_IDLE = 1. -/
def State.enterIdle (s : State) : State :=
  if s.bit Reg.pwrCtrl 0 then s
  else if s.allIdle && s.loading.isNone && s.pwrState != 3 then
    let s := (List.range 16).foldl (fun s p => if s.bit (Reg.fabPortCtrl p) 0 then s.closePort p else s) s
    ((s.domainsOff idleDomains).setBit Reg.pwrCtrl 0 true).wr Reg.pwrState 2
  else s.setBit Reg.pwrCtrl 1 true

/-- DEEP_IDLE_ENTER. -/
def execDeepIdleEnter (s : State) : Host.Outcome State Fault Refusal := .next s.enterIdle

/-- DEEP_IDLE_LEAVE: a write of DEEP_IDLE = 0. -/
def execDeepIdleLeave (s : State) : Host.Outcome State Fault Refusal := .next s.leaveIdle

/-- POWER_DOMAIN_WAKE_DONE (R501): domain `d + 1` is on. Once all are, panels that nothing loaded uses switch off again
(R503), and a RUN that waited for the links goes on (R508). -/
def execPowerDomainWakeDone (d : Fin 30) (s : State) : Host.Outcome State Fault Refusal :=
  .next (
    if s.domainWaking (d.val + 1) then
      let s := s.domainUp (d.val + 1)
      let s := if idleDomains.any s.domainWaking then s else s.settlePanels
      s.settleCmds
    else s)

/-- COMPUTE_IDLE_OFF (R504). -/
def execComputeIdleOff (p : PanelId) (s : State) : Host.Outcome State Fault Refusal :=
  .next (
    if s.fld Reg.pwrComputeAuto 0 20 != 0 && (List.range 64).all (fun j =>
        !s.bit (Reg.seamStatus (64 * p.val + j)) 7 && !s.bit (Reg.sleeveStatus (64 * p.val + j)) 15) then
      s.domainOff (5 + p.val)
    else s)

/-! ## The calendar (R511, R512) -/

/-- CAL_CTRL_SET. -/
def State.requestCal (s : State) : State := { s with calSet := some (s.rd64 Reg.calSet) }

/-- CAL_CTRL_SET. -/
def execCalCtrlSet (s : State) : Host.Outcome State Fault Refusal := .next s.requestCal

/-- CAL_SET_LOAD: the next edge of the calendar clock. -/
def execCalSetLoad (s : State) : Host.Outcome State Fault Refusal :=
  .next (match s.calSet with
    | some v => ({ s with calSet := none }.wr64 Reg.calNow v).setBit Reg.calStatus 31 true
    | none => s)

/-- The backup domain's words (R515). -/
def backupWord (a : Nat) : Bool := 0x30000 ≤ a && a < 0x30200

/-- The backup domain loses its state (R512, R513): the count restarts from 0, VALID is 0 and backup memory reads zero.
CHARGE and ON_BACKUP are the supercapacitor's. -/
def State.loseBackup (s : State) (lost : Bool) : State :=
  let c := s.rd Reg.calStatus &&& 0x200000FF
  ({ s.forget backupWord with calSet := none, backupBad := [] }.wr Reg.calStatus c).setBit Reg.calStatus 30 lost

/-- SUPERCAPACITOR_HOLD_LOST. -/
def execSupercapacitorHoldLost (s : State) : Host.Outcome State Fault Refusal :=
  .next (if s.rail then s else s.loseBackup true)

/-! ## Counters (R516) -/

/-- CLK_CTR_CLEAR. -/
def execClkCtrClear (s : State) : Host.Outcome State Fault Refusal := .next (s.clear [Reg.clkStatTransitions])

/-- PWR_CTR_CLEAR. -/
def execPwrCtrClear (s : State) : Host.Outcome State Fault Refusal := .next (s.clear [Reg.pwrStatWakeWait])

end Sys2Proof.Machine
end

