-- ==== Sys2Proof/Machine/BootOps.lean ====
section
/-! DEFINITION. Boot, the module's resets, firmware slots and the module stop: the shared operations of spec 17 to 19. -/

namespace Sys2Proof.Machine

/-! ## Firmware slots (R519, R520) -/

/-- The stored bytes of a firmware slot. -/
def State.fwSlot (s : State) (i : Nat) : List Byte := (tfind s.fwSlots i).getD (Config.fwFactory i)

/-- The fused hash of Terbor key `k` (R520). -/
def State.keyFuse (s : State) (k : Nat) : Nat := (tfind s.keyFuses k).getD (Config.keyHash k)

def fwOk : Nat := 1

/-- The result code of a slot image under R520. -/
def State.verifyFw (s : State) (bytes : List Byte) : Nat :=
  let n (off len : Nat) : Nat := leNat ((bytes.drop off).take len)
  let zero (off len : Nat) : Bool := ((bytes.drop off).take len).all (· == 0)
  let body := n 4 4
  let key := n 9 1
  let pub := (bytes.drop 0x40).take 96
  let signed := bytes.take 0x1A0 ++ (bytes.drop 512).take body
  if bytes.length < 512 || (1 ≤ body && body ≤ 33553920 && bytes.length < 512 + body) then 2
  else if n 0 4 != 0x4B465731 || body == 0 || 33553920 < body || n 0x14 2 != 1 || 1 < n 0x0A 1 || !zero 0x0B 1 ||
      !zero 0x16 2 || !zero 0x20 32 || !zero 0xA0 256 then 3
  else if s.revoked.testBit key then 4
  else if 1 < key || sha384 pub != s.keyFuse key then 5
  else if !ecdsaVerify (beNat (pub.take 48), beNat (pub.drop 48)) (beNat ((bytes.drop 0x1A0).take 48))
      (beNat ((bytes.drop 0x1D0).take 48)) (sha384 signed) then 6
  else if n 8 1 < s.svnMin then 7
  else fwOk

/-- The active firmware slot. -/
def State.fwActive (s : State) : Nat := s.fld Reg.bootStatus 26 1

/-- SEC_SVN shows the fuses and the SVN of the active slot; COMMIT_REFUSED stays. -/
def State.showSvn (s : State) : State :=
  let svn := leNat (((s.fwSlot s.fwActive).drop 8).take 1)
  ((s.setFld Reg.secSvn 0 6 s.svnMin).setFld Reg.secSvn 8 6 svn).setFld Reg.secSvn 16 2 s.revoked

/-- The Collar cluster starts on slot `i` (R63, R517, R522): its levels, its SVN, the boot counter. -/
def State.startCollar (s : State) (i : Nat) : State :=
  let h := s.fwSlot i
  let n (off : Nat) : Nat := leNat ((h.drop off).take 2)
  let s := s.setFld Reg.bootStatus 26 1 i
  let s := (s.setFld Reg.collarStatus 8 1 i).setFld Reg.collarStatus 0 8 0xFF
  let s := s.wr Reg.structLevelsFmt (BitVec.ofNat 32 (n 0x0C + n 0x0E * 65536))
  let s := s.wr Reg.structLevelsLink (BitVec.ofNat 32 (n 0x12 + n 0x10 * 65536))
  let s := s.wr Reg.structLevelsNum (BitVec.ofNat 32 (n 0x14))
  (s.wr (Reg.backupMem 0) (s.rd (Reg.backupMem 0) + 1)).showSvn

/-! ## Module resets (R461, R489, R513, R516, R530, R531) -/

/-- LOST to the partner for every loaded partition of a multi-module job (R531, R545). -/
def State.tellPartner (s : State) (code : Nat) : State :=
  (s.loaded.filter (fun q => 1 < (s.jobModules q).length)).foldl (fun s q => s.sendLost q code) s

/-- The LOST messages that leave on the mirror ports before a reset or a loss of the rail takes them (R531). -/
def State.lostNow (s : State) (code : Nat) : List (Nat × Packet) :=
  (s.loaded.filter (fun q => 1 < (s.jobModules q).length)).flatMap (fun q =>
    s.mirrorPorts.map (fun p => (p, s.ctrlPacket q 0x31 s.partner code 0x03)))

/-- The words of the fault log. -/
def logWord (a : Nat) : Bool :=
  (0x40000 ≤ a && a < 0x40100) || (0x50000 ≤ a && a < 0x51000) || (0x80000 ≤ a && a < 0xE0000) || (0xE1000 ≤ a && a < 0x100000)

/-- The state with everything that a loss of power, or a module reset, takes away; words that `keep` selects stay. What
lies outside the module, fuses, flash and keys, the backup domain's requests and the model's own counter stay. -/
def State.lose (s : State) (keep : Nat → Bool) (log : Bool) : State :=
  { State.reset with
    regs := s.regs.filter (fun x => keep x.1), host := s.host, freeCtr := s.freeCtr, reply := s.reply,
    flogQ := if log then s.flogQ else [], rail := s.rail, warmLow := s.warmLow, coldLow := s.coldLow, perst := s.perst,
    fwSlots := s.fwSlots, selector := s.selector, svnMin := s.svnMin, revoked := s.revoked,
    keyFuses := s.keyFuses, custKeys := s.custKeys,
    keyCount := s.keyCount, calSet := s.calSet, backupBad := s.backupBad, tap := s.tap, pending := s.pending }

/-- Boot begins: step 1 is complete, the Collar waits for its firmware. -/
def State.beginBoot (s : State) (kind : Nat) : State :=
  ({ s with resetKind := kind }.wr Reg.bootStatus 0x20000000).wr Reg.collarStatus 0x40000000

/-- A warm module reset: the log, the backup domain, the identity, ENV_TRIP and the armed slot stay. -/
def State.warmReset (s : State) : State :=
  let keep (a : Nat) : Bool := a < 0x40 || backupWord a || logWord a || a == Reg.envStatus || a == Reg.envTrip || a == Reg.mirrorFwArm
  (({ s.lose keep true with lostSent := s.lostNow 0 }).setBit Reg.mirrorFwArm 2 false).beginBoot 3

/-- A cold reset: the log and the backup domain are cleared as well. -/
def State.coldReset (s : State) : State :=
  let keep (a : Nat) : Bool := a < 0x40 || backupWord a || a == Reg.envStatus
  (({ s.lose keep false with lostSent := s.lostNow 0 }).loseBackup false).beginBoot 4

/-! ## Module stop (R545) -/

/-- Class M: every task stops, LOST and JOB_STOP go out, the record is queued, the pages are rewritten once more, and the
domains and fabric ports go off. What the ports have been given to send stands in their link layers. -/
def State.moduleStop (s : State) (pages : Bool) : State :=
  let qs := s.loaded
  let s := qs.foldl State.stopPartition s
  let s := s.tellPartner 0x14
  let seq := s.nextSeq
  let s := s.pushRec (s.record 0x14 3 14 0 none none none 0 (s.rd Reg.envTrip).toNat (s.rd Reg.envStatus).toNat)
  let s := qs.foldl (fun s q =>
    let s := (s.setFault q 0x14 0 14 s.moduleId).endCommit q 3
    (s.setSlot q { s.slot q with state := .faulted }).sendJobStop q 0x14 3 s.moduleId seq []) s
  let s := s.fabOut.foldl State.forward { s with fabOut := [] }
  let s := if pages && s.pagesOn then (List.range 9).foldl State.rewritePage s else s
  let s := (List.range 16).foldl (fun s p => s.setPort p portDisabled 0) s
  let s := { s with stopped := true, pagesFinal := true, stops := [], loading := none }
  s.domainsOff idleDomains

/-- A write of RST_CTRL is dropped. -/
def State.rstRefused (s : State) : State := s.setBit Reg.rstStatus 27 true

/-- The scope of the reset in progress (R531): 2 a partition reset, 3 a warm and 4 a cold reset or a power-up, 0 none. A
module that has halted or stopped has none in progress. -/
def State.rstScope (s : State) : Nat :=
  if s.stopped || s.bit Reg.bootStatus 28 then 0
  else if s.resetKind = 3 then 3
  else if s.resetKind ≠ 0 then 4
  else if (List.range 8).any (fun q => (s.slot q).resetting) then 2
  else 0

/-- A reset request of scope `k` through RST_CTRL. -/
def State.rstCtrl (s : State) (key : BitVec 16) (k : Nat) (f : State → State) : State :=
  if key.toNat != 0xA5C3 || (s.rstScope != 0 && k ≤ s.rstScope) then s.rstRefused else f s

end Sys2Proof.Machine
end

