-- ==== Sys2Proof/Machine/Boot.lean ====
section
/-! DEFINITION. The commands of boot, firmware, keys and resets (spec 17), and of the supply (R561). -/

namespace Sys2Proof.Machine

/-! ## The supply (R561) -/

/-- RAIL_RISE: boot step 1. -/
def execRailRise (s : State) : Host.Outcome State Fault Refusal :=
  .next (if s.rail then s else (({ s with rail := true }.setBit Reg.calStatus 29 false).beginBoot 5))

/-- CONVERSION_STOP: the input monitor trips, the module stop sends LOST while the internal rails hold, and then the rail
is lost: the backup domain runs from the supercapacitor. `high` tells whether the input exceeds its range. -/
def execConversionStop (_high : Bool) (s : State) : Host.Outcome State Fault Refusal :=
  .next (
    if !s.rail then s
    else
      let out := if s.stopped then [] else s.lostNow 0x14
      let s := if s.stopped then s else s.moduleStop false
      { s.lose backupWord false with rail := false, lostSent := out }.setBit Reg.calStatus 29 true)

/-! ## Boot steps (R517, R518) -/

/-- Step 3: the fuses are read; a bad record halts. -/
def State.bootFuses (s : State) : State :=
  let s := (List.range 16).foldl (fun s i => if i = 3 then s else s.wr (4 * i) (Config.idFuse i)) s
  let bytes := (List.range 15).flatMap (fun i => leBytes 4 (s.rd (4 * i)).toNat)
  if crc32 bytes = (s.rd Reg.idCrc).toNat then
    let s := s.setFld Reg.secKeyStatus 0 4 (s.custKeys.foldl (fun m k => m + 2 ^ k.1) 0)
    let s := s.wr Reg.secKeyCounter (BitVec.ofNat 32 s.keyCount)
    ((s.setFld Reg.secSvn 0 6 s.svnMin).setFld Reg.secSvn 16 2 s.revoked).setFld Reg.bootStatus 29 3 3
  else (s.setBit Reg.bootStatus 28 true).setBit Reg.bootStatus 25 true

/-- Step 4: the slot that the selector names, then the other; with neither the ROM waits in recovery mode. -/
def State.bootVerify (s : State) : State :=
  let a := s.selector % 2
  let put (s : State) (i c : Nat) : State := s.setFld Reg.bootStatus (if i = 0 then 20 else 16) 4 c
  let c := s.verifyFw (s.fwSlot a)
  let s := put s a c
  if c = fwOk then (s.setFld Reg.bootStatus 26 1 a).setFld Reg.bootStatus 29 3 4
  else
    let d := s.verifyFw (s.fwSlot (1 - a))
    let s := put s (1 - a) d
    if d = fwOk then ((s.setFld Reg.bootStatus 26 1 (1 - a)).setBit Reg.bootStatus 27 true).setFld Reg.bootStatus 29 3 4
    else (s.setBit Reg.bootStatus 28 true).setBit Reg.bootStatus 24 true

/-- Step 6: the tiles leave reset with their Pockets wiped, and HBM is zeroed. -/
def State.bootTiles (s : State) : State :=
  let s := ((List.range 12).map (· + 5)).foldl State.domainUp s
  let s := (List.range 256).foldl (fun s t => s.wr (Reg.pocketStatus t) 0x40) s
  State.settlePanels { s with hbm := [], hbmErr := [], pocket := [], pocketErr := [] }

/-- The step after `n` completes. -/
def State.bootStep (s : State) (n : Nat) : State :=
  match n with
  | 1 =>
    let s := (s.domainUp 4).domainUp 30
    { s.setFld Reg.bootStatus 29 3 2 with linkUp := !s.perst }
  | 2 => s.bootFuses
  | 3 => s.bootVerify
  | 4 =>
    let s := (3 :: (List.range 13).map (· + 17)).foldl State.domainUp s
    let s := (s.startCollar s.fwActive).setFld Reg.bootStatus 29 3 5
    s.wr (Reg.backupMem 1) (s.rd Reg.bootStatus)
  | 5 => s.bootTiles.setFld Reg.bootStatus 29 3 6
  | 6 => State.settleCmds { (s.setFld Reg.collarStatus 30 2 2).setFld Reg.bootStatus 29 3 7 with resetKind := 0 }
  | _ => s

/-- BOOT_STEP_COMPLETE (R517, R518, R547, R563, R565): held while a reset land is low, and in step 2 until every monitor is
within its limits. -/
def execBootStepComplete (s : State) : Host.Outcome State Fault Refusal :=
  .next (
    let n := s.fld Reg.bootStatus 29 3
    if !s.rail || s.warmLow || s.coldLow || s.stopped || s.bit Reg.bootStatus 28 then s
    else if n = 1 ∧ s.rd Reg.envStatus ≠ 0 then s
    else s.bootStep n)

/-- COLLAR_HANG_TIMEOUT (R530). -/
def execCollarHangTimeout (s : State) : Host.Outcome State Fault Refusal :=
  .next (if s.collarUp then s.warmReset else s)

/-! ## Recovery and firmware (R457, R521, R523, R524) -/

/-- A write of BOOT_RECOVERY_CTRL.GO: ignored outside recovery mode (R523). -/
def State.recoveryGo (s : State) : State := if s.bit Reg.bootStatus 24 then { s with recovering := true } else s

/-- BOOT_RECOVERY_GO. -/
def execBootRecoveryGo (s : State) : Host.Outcome State Fault Refusal := .next s.recoveryGo

/-- RECOVERY_IMAGE_VERIFIED: a passing image is written to slot A, and a warm reset follows. An image that is not of the
length asked for could not be read. -/
def execRecoveryImageVerified (img : List Byte) (s : State) : Host.Outcome State Fault Refusal :=
  .next (
    if !s.recovering then s
    else
      let len := s.fld Reg.bootRecoveryCtrl 0 13
      let want := 4096 * (if len = 0 then 8192 else len)
      let c := if img.length < want then 2 else s.verifyFw (img.take want)
      let s := { s with recovering := false }
      if c = fwOk then State.warmReset { s with fwSlots := tset s.fwSlots 0 (img.take want), selector := 0 }
      else s.setFld Reg.bootRecoveryCtrl 24 4 c)

/-- The slot that is not active. -/
def State.fwInactive (s : State) : Nat := 1 - s.fwActive

/-- FW_UPDATE_CTRL.GO (R524). -/
def State.fwGo (s : State) : State :=
  let st := s.fld Reg.fwUpdateStatus 29 3
  if st = 1 ∨ st = 2 then s.setFld Reg.fwUpdateStatus 24 4 9
  else
    let i := s.fwInactive
    let s := s.setFld Reg.fwUpdateStatus 28 1 i
    if s.sourceOk (s.rd64 Reg.fwUpdateAddr) (s.rd Reg.fwUpdateLen).toNat then
      let s := (s.setFld Reg.fwUpdateStatus 29 3 1).setFld Reg.fwUpdateStatus 24 4 0
      if s.fld Reg.mirrorFwArm 1 1 = i then s.setBit Reg.mirrorFwArm 0 false else s
    else (s.setFld Reg.fwUpdateStatus 29 3 4).setFld Reg.fwUpdateStatus 24 4 8

/-- FW_UPDATE_GO. -/
def execFwUpdateGo (s : State) : Host.Outcome State Fault Refusal := .next (if s.collarUp then s.fwGo else s)

/-- The bytes at a source of R45: this module's HBM, or what the host delivers. -/
def State.sourceBytes (s : State) (a len : Nat) (host : List Byte) : List Byte :=
  if gaSpace a = 1 then mread s.hbm (gaHbmOff a) len else host.take len

/-- FW_UPDATE_VERIFIED: the written slot passes, or its header is erased. -/
def execFwUpdateVerified (img : List Byte) (s : State) : Host.Outcome State Fault Refusal :=
  .next (
    let st := s.fld Reg.fwUpdateStatus 29 3
    if st ≠ 1 ∧ st ≠ 2 then s
    else
      let bytes := s.sourceBytes (s.rd64 Reg.fwUpdateAddr) (s.rd Reg.fwUpdateLen).toNat img
      let i := s.fld Reg.fwUpdateStatus 28 1
      let c := s.verifyFw bytes
      let s := s.setFld Reg.fwUpdateStatus 24 4 c
      if c = fwOk then { s.setFld Reg.fwUpdateStatus 29 3 3 with fwSlots := tset s.fwSlots i bytes }
      else { s.setFld Reg.fwUpdateStatus 29 3 4 with fwSlots := tset s.fwSlots i (List.replicate 512 0 ++ bytes.drop 512) })

/-- A restart of a job of this module stands after its rollback, and no other partition runs (R457). -/
def State.mayActivate (s : State) : Bool :=
  s.loaded.isEmpty ||
    (s.loaded.any (fun q => (s.slot q).state == .restoring && 3 ≤ (s.slot q).restart) &&
      s.loaded.all (fun q => (s.slot q).state != .running))

/-- FIRMWARE_ACTIVATE (R457): `armed` tells that every other module that must activate with this one is armed, and where
nothing is loaded here that the partner holds nothing either. -/
def execFirmwareActivate (armed : Bool) (s : State) : Host.Outcome State Fault Refusal :=
  .next (
    if s.collarUp && armed && s.bit Reg.mirrorFwArm 0 && s.mayActivate then
      let i := s.fld Reg.mirrorFwArm 1 1
      if s.verifyFw (s.fwSlot i) = fwOk then
        { (s.startCollar i).setBit Reg.mirrorFwArm 0 false with selector := i }
      else s.setBit Reg.mirrorFwArm 2 true
    else s)

/-- SEC_CTRL with SVN_COMMIT (R521). -/
def State.svnCommit (s : State) (v : Word) : State :=
  if fieldOf v 16 16 != 0xA5C3 || !v.getLsbD 0 then s
  else
    let h (i : Nat) : List Byte := s.fwSlot i
    let svn (i : Nat) : Nat := leNat (((h i).drop 8).take 1)
    let n := svn s.fwActive
    if [0, 1].all (fun i => s.verifyFw (h i) == fwOk && n ≤ svn i) then
      let a := h s.fwActive
      let revoke := leNat ((a.drop 9).take 1) == 1 && (leNat ((a.drop 10).take 1)).testBit 0
      State.showSvn { s with svnMin := n, revoked := if revoke then s.revoked ||| 1 else s.revoked }
    else s.setBit Reg.secSvn 31 true

/-- SVN_COMMIT. -/
def execSvnCommit (v : Word) (s : State) : Host.Outcome State Fault Refusal :=
  .next (if s.collarUp then s.svnCommit v else s)

/-! ## The key store (R525, R526) -/

/-- The RESULT of a key record: the first rule it breaks, or 0. -/
def State.keyResult (s : State) (rec' : List Byte) : Nat :=
  let n (off len : Nat) : Nat := leNat ((rec'.drop off).take len)
  let zero (off len : Nat) : Bool := ((rec'.drop off).take len).all (· == 0)
  let op := n 0 1
  let slot := n 1 1
  let signer := n 2 1
  let serial := (List.range 4).flatMap (fun i => leBytes 4 (s.rd (Reg.idSerial i)).toNat)
  let ld := s.loadState
  if !s.allIdle || ld == loadChecking || ld == loadApplying then 7
  else if rec'.length != 256 || (op != 1 && op != 2) || 3 < slot || !zero 3 1 || !zero 0x18 8 || !zero 0xE0 32 ||
      (op == 2 && !zero 0x20 96) || !s.sourceOk (s.rd64 Reg.secKeyAddr) 256 then 1
  else if (rec'.drop 8).take 16 != serial then 2
  else if n 4 4 != s.keyCount then 3
  else if signer == 0xFF then
    if op != 1 || !s.custKeys.isEmpty then 4 else 0
  else match tfind s.custKeys signer with
    | none => 4
    | some k =>
      if !ecdsaVerify (beNat (k.take 48), beNat (k.drop 48)) (beNat ((rec'.drop 0x80).take 48))
          (beNat ((rec'.drop 0xB0).take 48)) (sha384 (rec'.take 0x80)) then 5
      else if op == 1 then (if (tfind s.custKeys slot).isSome then 6 else 0)
      else if (tfind s.custKeys slot).isNone then 6 else 0

/-- SEC_KEY_GO: `rec'` is the record as the host delivers it. -/
def execSecKeyGo (rec' : List Byte) (s : State) : Host.Outcome State Fault Refusal :=
  .next (
    if !s.collarUp then s
    else
      let r := s.sourceBytes (s.rd64 Reg.secKeyAddr) 256 rec'
      let c := s.keyResult r
      let s := s.setFld Reg.secKeyStatus 24 4 c
      if c != 0 then s.setFld Reg.secKeyStatus 30 2 3
      else
        let slot := leNat ((r.drop 1).take 1)
        let keys := if leNat (r.take 1) = 1 then tset s.custKeys slot ((r.drop 0x20).take 96) else tdel s.custKeys slot
        let s := { s with custKeys := keys, keyCount := (s.keyCount + 1) % 0x100000000 }
        let s := s.wr Reg.secKeyCounter (BitVec.ofNat 32 s.keyCount)
        (s.setFld Reg.secKeyStatus 0 4 (keys.foldl (fun m k => m + 2 ^ k.1) 0)).setFld Reg.secKeyStatus 30 2 2)

/-! ## Resets (R530-R532, R565) -/

/-- The tile may be reset alone: its partition, if it has one, is READY, STOPPED, RESTORING or FAULTED. -/
def State.tileResettable (s : State) (t : Nat) : Bool :=
  match s.partOf t with
  | none => true
  | some q => [SlotState.ready, .stopped, .restoring, .faulted].contains (s.slot q).state

/-- RST_CTRL, KIND 1. -/
def State.rstTile (s : State) (key : BitVec 16) (t : Nat) : State :=
  s.rstCtrl key 1 (fun s =>
    if s.tileResettable t then ((s.tileReset t).setFld Reg.rstStatus 28 4 1).setFld Reg.rstStatus 0 8 t else s.rstRefused)

/-- TILE_RESET. -/
def execTileReset (key : BitVec 16) (t : TileId) (s : State) : Host.Outcome State Fault Refusal := .next (s.rstTile key t)

/-- RST_CTRL, KIND 2: as KILL; an IDLE slot has none. -/
def State.rstPart (s : State) (key : BitVec 16) (q : Nat) : State :=
  s.rstCtrl key 2 (fun s => if (s.slot q).state == .idle then s.rstRefused
    else ((s.setFld Reg.rstStatus 28 4 2).setFld Reg.rstStatus 0 8 q).killSlot q)

/-- PARTITION_RESET. -/
def execPartitionReset (key : BitVec 16) (q : PartId) (s : State) : Host.Outcome State Fault Refusal :=
  .next (s.rstPart key q).settleCmds

/-- WARM_MODULE_RESET. -/
def execWarmModuleReset (key : BitVec 16) (s : State) : Host.Outcome State Fault Refusal :=
  .next (s.rstCtrl key 3 State.warmReset)

/-- COLD_RESET. -/
def execColdReset (key : BitVec 16) (s : State) : Host.Outcome State Fault Refusal :=
  .next (s.rstCtrl key 4 State.coldReset)

/-- CLK_POINT_TABLE returns to its reset values where nothing loaded holds a tile of the panel any more, which then runs
at the energy point (R497). -/
def State.freePoints (s : State) (tiles : Nat) : State :=
  (List.range 4).foldl (fun s p =>
    if bitsOf tiles (64 * p) 64 != 0 && !s.panelHeld p then
      let s := s.toReset ((List.range 4).map (Reg.clkPointTable p))
      if s.fld (Reg.clkPanelStatus p) 0 11 = 900 then s else s.selectPoint p (s.fld (Reg.clkPanelPoint p) 0 2)
    else s) s

/-- PARTITION_RESET_DONE (R532 step 5): tiles, locks and areas return to the pool, and the slot is IDLE, or stays LOADING
where the reset runs inside a load. A KILL clears the FAULT fields (R477). -/
def execPartitionResetDone (q : PartId) (s : State) : Host.Outcome State Fault Refusal :=
  .next (
    let x := s.slot q
    if x.resetting && s.wipesDone q then
      let s := s.forget (fun a => 0x3101040 + 0x100 * q.val ≤ a && a < 0x3101060 + 0x100 * q.val)
      let s := match s.loading with
        | some l =>
          if l.part = q.val then
            State.setSlot { s with loading := some (if l.image = [] then { l with prior := .idle } else l) } q
              { x.freed with state := .loading, fault := x.fault, faultSub := x.faultSub, faultUnit := x.faultUnit,
                             faultModule := x.faultModule, faultStep := x.faultStep }
          else s.setSlot q x.freed
        | none => s.setSlot q x.freed
      let s := (s.freePoints x.tiles).settlePanels
      let s := if (List.range 8).any (fun r => (s.slot r).resetting) then s else s.setBit Reg.rstStatus 31 false
      s.settleCmds
    else s)

/-- A reset land is held low for `us` µs, or rises after having been low for so long: shorter than 10 µs is ignored; the
module is in reset while the land is low, and the rising edge lets boot begin. -/
def State.resetPin (s : State) (low held : Bool) (us : Nat) (hold : State → Bool → State) (reset : State → State) : State :=
  if low then
    if us < 10 || held then s else if s.rail then hold (reset s) true else hold s true
  else if held then hold s false
  else if us < 10 || !s.rail then s else reset s

/-- WARM_RST_PIN. -/
def execWarmRstPin (low : Bool) (us : Nat) (s : State) : Host.Outcome State Fault Refusal :=
  .next (s.resetPin low s.warmLow us (fun s b => { s with warmLow := b }) State.warmReset)

/-- COLD_RST_PIN. -/
def execColdRstPin (low : Bool) (us : Nat) (s : State) : Host.Outcome State Fault Refusal :=
  .next (s.resetPin low s.coldLow us (fun s b => { s with coldLow := b }) State.coldReset)

end Sys2Proof.Machine
end

