-- ==== Sys2Proof/Machine/Bus.lean ====
section
/-! DEFINITION. The PMBus (R566) and the test access port (R567). A read leaves its bytes in `reply`; a NACK leaves
none. -/

namespace Sys2Proof.Machine

/-- The management domain answers on the PMBus and the test access port, from boot step 2. -/
def State.busUp (s : State) : Bool := s.rail && 2 ≤ s.fld Reg.bootStatus 29 3

/-- A PMBus command: NACKed before boot step 2. -/
def State.pmb (s : State) (f : State → State) : State := if s.busUp then f s else { s with reply := [] }

def State.answerBytes (s : State) (bs : List Byte) : State := { s with reply := bs }

/-- A block read: the number of bytes, then the bytes. -/
def block (bs : List Byte) : List Byte := BitVec.ofNat 8 bs.length :: bs

/-- The bytes of ASCII text. -/
def ascii (cs : List Nat) : List Byte := cs.map (BitVec.ofNat 8)

/-- CLEAR_FAULTS. -/
def execClearFaults (s : State) : Host.Outcome State Fault Refusal :=
  .next (s.pmb (fun s => { s with reply := [], pmbus := { s.pmbus with input := 0, temp := 0, cml := 0 } }))

/-- CAPABILITY. -/
def execCapability (s : State) : Host.Outcome State Fault Refusal := .next (s.pmb (fun s => s.answerBytes [0xB0]))

/-- STATUS_WORD, by the summary bits of PMBus 1.4. -/
def Pmbus.statusWord (p : Pmbus) : Nat :=
  let b (x : Bool) (v : Nat) : Nat := if x then v else 0
  let uv := p.input.getLsbD 4
  b (p.input != 0) 0x2000 + b uv 0x08 + b (p.temp != 0) 0x04 + b (p.cml != 0) 0x02 +
    b (p.input != 0 && !uv && p.temp == 0 && p.cml == 0) 0x01

/-- STATUS_WORD. -/
def execStatusWord (s : State) : Host.Outcome State Fault Refusal :=
  .next (s.pmb (fun s => s.answerBytes (leBytes 2 s.pmbus.statusWord)))

/-- STATUS_INPUT. -/
def execStatusInput (s : State) : Host.Outcome State Fault Refusal := .next (s.pmb (fun s => s.answerBytes [s.pmbus.input]))

/-- STATUS_TEMPERATURE. -/
def execStatusTemperature (s : State) : Host.Outcome State Fault Refusal := .next (s.pmb (fun s => s.answerBytes [s.pmbus.temp]))

/-- STATUS_CML. -/
def execStatusCml (s : State) : Host.Outcome State Fault Refusal := .next (s.pmb (fun s => s.answerBytes [s.pmbus.cml]))

/-- READ_VIN. -/
def execReadVin (s : State) : Host.Outcome State Fault Refusal :=
  .next (s.pmb (fun s => s.answerBytes (leBytes 2 s.pmbus.vin.toNat)))

/-- READ_IIN. -/
def execReadIin (s : State) : Host.Outcome State Fault Refusal :=
  .next (s.pmb (fun s => s.answerBytes (leBytes 2 s.pmbus.iin.toNat)))

/-- READ_TEMPERATURE_1. -/
def execReadTemperature1 (s : State) : Host.Outcome State Fault Refusal :=
  .next (s.pmb (fun s => s.answerBytes (leBytes 2 s.pmbus.temp1.toNat)))

/-- READ_TEMPERATURE_2. -/
def execReadTemperature2 (s : State) : Host.Outcome State Fault Refusal :=
  .next (s.pmb (fun s => s.answerBytes (leBytes 2 s.pmbus.temp2.toNat)))

/-- READ_PIN. -/
def execReadPin (s : State) : Host.Outcome State Fault Refusal :=
  .next (s.pmb (fun s => s.answerBytes (leBytes 2 s.pmbus.pin.toNat)))

/-- PMBUS_REVISION. -/
def execPmbusRevision (s : State) : Host.Outcome State Fault Refusal := .next (s.pmb (fun s => s.answerBytes [0x44]))

/-- MFR_ID: TERBOR. -/
def execMfrId (s : State) : Host.Outcome State Fault Refusal :=
  .next (s.pmb (fun s => s.answerBytes (block (ascii [0x54, 0x45, 0x52, 0x42, 0x4F, 0x52]))))

/-- MFR_MODEL: AL-GK256-H384-C. -/
def execMfrModel (s : State) : Host.Outcome State Fault Refusal :=
  .next (s.pmb (fun s => s.answerBytes (block (ascii
    [0x41, 0x4C, 0x2D, 0x47, 0x4B, 0x32, 0x35, 0x36, 0x2D, 0x48, 0x33, 0x38, 0x34, 0x2D, 0x43]))))

/-- MFR_SERIAL: the characters of ID_SERIAL without their padding. -/
def execMfrSerial (s : State) : Host.Outcome State Fault Refusal :=
  .next (s.pmb (fun s => s.answerBytes (block
    (((List.range 4).flatMap (fun i => leBytes 4 (s.rd (Reg.idSerial i)).toNat)).filter (· != 0)))))

/-- The command codes that the module supports. -/
def pmbusCodes : List Nat :=
  [0x03, 0x19, 0x79, 0x7C, 0x7D, 0x7E, 0x88, 0x89, 0x8D, 0x8E, 0x97, 0x98, 0x99, 0x9A, 0x9E]

/-- PMBUS_UNSUPPORTED_COMMAND: NACKed, and the unsupported-command bit of STATUS_CML is set. -/
def execPmbusUnsupportedCommand (code : BitVec 8) (s : State) : Host.Outcome State Fault Refusal :=
  .next (
    if pmbusCodes.contains code.toNat then s
    else s.pmb (fun s => { s with reply := [], pmbus := { s.pmbus with cml := s.pmbus.cml ||| 0x80 } }))

/-- PMBUS_TELEMETRY_REFRESH: the telemetry words, PWR_INPUT, and the charge of the supercapacitor. -/
def execPmbusTelemetryRefresh (x : Telemetry) (s : State) : Host.Outcome State Fault Refusal :=
  .next (
    if s.busUp then
      let s := (s.wr Reg.pwrInput x.input).setFld Reg.calStatus 0 8 x.charge.val
      { s with pmbus := { s.pmbus with vin := x.vin, iin := x.iin, temp1 := x.temp1, temp2 := x.temp2, pin := x.pin } }
    else s)

/-! ## The test access port -/

/-- Loads an instruction of the test access port, with what its register reads. -/
def State.setTap (s : State) (i : TapInstr) (bs : List Byte) : State :=
  if s.busUp then { s with tap := i, reply := bs } else s

/-- BYPASS. -/
def execBypass (s : State) : Host.Outcome State Fault Refusal := .next (s.setTap .bypass [])

/-- SAMPLE_PRELOAD. -/
def execSamplePreload (s : State) : Host.Outcome State Fault Refusal := .next (s.setTap .samplePreload [])

/-- EXTEST: while a reset land holds the module in reset it drives the lands, at other times it acts as SAMPLE/PRELOAD. -/
def execExtest (s : State) : Host.Outcome State Fault Refusal :=
  .next (if s.warmLow || s.coldLow then { s with tap := .extest, reply := [] } else s.setTap .samplePreload [])

/-- IDCODE. -/
def execIdcode (s : State) : Host.Outcome State Fault Refusal := .next (s.setTap .idcode (leBytes 4 0x1A71C001))

end Sys2Proof.Machine
end

