-- ==== Sys2Proof/Machine/Flags.lean ====
section
/-! DEFINITION. The results and conditions that the Cuff core computes: the arithmetic functions of R329 and R330 and
the branch conditions of R332. The core has no flag register; a comparison leaves its result in RD or decides a
branch. -/

namespace Sys2Proof.Machine

/-- ADD (R329). -/
def aluAdd (a b : Word) : Word := a + b

/-- SUB (R329). -/
def aluSub (a b : Word) : Word := a - b

/-- AND (R329). -/
def aluAnd (a b : Word) : Word := a &&& b

/-- OR (R329). -/
def aluOr (a b : Word) : Word := a ||| b

/-- XOR (R329). -/
def aluXor (a b : Word) : Word := a ^^^ b

/-- SHL (R329). -/
def aluShl (a b : Word) : Word := a <<< (fieldOf b 0 5)

/-- SHR (R329). -/
def aluShr (a b : Word) : Word := a >>> (fieldOf b 0 5)

/-- SRA (R329). -/
def aluSra (a b : Word) : Word := a.sshiftRight (fieldOf b 0 5)

/-- SLT (R329). -/
def aluSlt (a b : Word) : Word := if a.slt b then 1 else 0

/-- SLTU (R329). -/
def aluSltu (a b : Word) : Word := if a.ult b then 1 else 0

/-- MUL (R329). -/
def aluMul (a b : Word) : Word := a * b

/-- MULH (R329). -/
def aluMulh (a b : Word) : Word := BitVec.ofInt 32 (a.toInt * b.toInt / 0x100000000)

/-- MULHU (R329). -/
def aluMulhu (a b : Word) : Word := BitVec.ofNat 32 (a.toNat * b.toNat / 0x100000000)

/-- MIN (R329). -/
def aluMin (a b : Word) : Word := if a.slt b then a else b

/-- MAX (R329). -/
def aluMax (a b : Word) : Word := if a.slt b then b else a

/-- MINU (R329). -/
def aluMinu (a b : Word) : Word := if a.ult b then a else b

/-- MAXU (R329). -/
def aluMaxu (a b : Word) : Word := if a.ult b then b else a

/-- Leading and trailing zero bits of a word, 32 for zero (R329). -/
def leadingZeros (a : Word) : Nat :=
  ((List.range 32).takeWhile (fun i => !a.getLsbD (31 - i))).length
def trailingZeros (a : Word) : Nat := ((List.range 32).takeWhile (fun i => !a.getLsbD i)).length

/-- POPC (R329). -/
def aluPopc (a : Word) : Word := BitVec.ofNat 32 (setBits a.toNat 32).length

/-- CLZ (R329). -/
def aluClz (a : Word) : Word := BitVec.ofNat 32 (leadingZeros a)

/-- CTZ (R329). -/
def aluCtz (a : Word) : Word := BitVec.ofNat 32 (trailingZeros a)

/-- ADDI (R330): `w` is the instruction word that carries the immediate. -/
def aluAddi (a w : Word) : Word := a + sext16 w

/-- ANDI (R330): `w` is the instruction word that carries the immediate. -/
def aluAndi (a w : Word) : Word := a &&& zext16 w

/-- ORI (R330): `w` is the instruction word that carries the immediate. -/
def aluOri (a w : Word) : Word := a ||| zext16 w

/-- XORI (R330): `w` is the instruction word that carries the immediate. -/
def aluXori (a w : Word) : Word := a ^^^ zext16 w

/-- SLTI (R330): `w` is the instruction word that carries the immediate. -/
def aluSlti (a w : Word) : Word := if a.slt (sext16 w) then 1 else 0

/-- SLTIU (R330): `w` is the instruction word that carries the immediate. -/
def aluSltiu (a w : Word) : Word := if a.ult (sext16 w) then 1 else 0

/-- SHLI (R330): `w` is the instruction word that carries the immediate. -/
def aluShli (a w : Word) : Word := a <<< (fieldOf w 0 5)

/-- SHRI (R330): `w` is the instruction word that carries the immediate. -/
def aluShri (a w : Word) : Word := a >>> (fieldOf w 0 5)

/-- SRAI (R330): `w` is the instruction word that carries the immediate. -/
def aluSrai (a w : Word) : Word := a.sshiftRight (fieldOf w 0 5)

/-- The condition of BEQ (R332). -/
def condBeq (a b : Word) : Bool := a == b

/-- The condition of BNE (R332). -/
def condBne (a b : Word) : Bool := a != b

/-- The condition of BLT (R332). -/
def condBlt (a b : Word) : Bool := a.slt b

/-- The condition of BGE (R332). -/
def condBge (a b : Word) : Bool := !a.slt b

/-- The condition of BLTU (R332). -/
def condBltu (a b : Word) : Bool := a.ult b

/-- The condition of BGEU (R332). -/
def condBgeu (a b : Word) : Bool := !a.ult b

end Sys2Proof.Machine
end

