-- ==== Sys2Proof/Machine/Cuff.lean ====
section
/-! DEFINITION. The Cuff core's instructions and events (spec 11), except those of the units that own a command. A
command names the tile and task; what the task issues is the word at its PC in the instruction store. -/

namespace Sys2Proof.Machine

/-- A conditional branch: PC + sext(IMM16) when taken (R332). -/
def State.branch (s : State) (t k : Nat) (w : Word) (c : Bool) : State :=
  if c then s.goto t k (s.pc t k + immB w) else s.complete t k

/-- ADD: RD := aluAdd RA RB (R329). -/
def execAdd (t : TileId) (k : SlotId) (s : State) : Host.Outcome State Fault Refusal :=
  .next (s.issue t k (code 0x01 0x000) (fun w s => s.setRd t k w (aluAdd (s.opA t k w) (s.opB t k w))))

/-- SUB: RD := aluSub RA RB (R329). -/
def execSub (t : TileId) (k : SlotId) (s : State) : Host.Outcome State Fault Refusal :=
  .next (s.issue t k (code 0x01 0x001) (fun w s => s.setRd t k w (aluSub (s.opA t k w) (s.opB t k w))))

/-- AND: RD := aluAnd RA RB (R329). -/
def execAnd (t : TileId) (k : SlotId) (s : State) : Host.Outcome State Fault Refusal :=
  .next (s.issue t k (code 0x01 0x002) (fun w s => s.setRd t k w (aluAnd (s.opA t k w) (s.opB t k w))))

/-- OR: RD := aluOr RA RB (R329). -/
def execOr (t : TileId) (k : SlotId) (s : State) : Host.Outcome State Fault Refusal :=
  .next (s.issue t k (code 0x01 0x003) (fun w s => s.setRd t k w (aluOr (s.opA t k w) (s.opB t k w))))

/-- XOR: RD := aluXor RA RB (R329). -/
def execXor (t : TileId) (k : SlotId) (s : State) : Host.Outcome State Fault Refusal :=
  .next (s.issue t k (code 0x01 0x004) (fun w s => s.setRd t k w (aluXor (s.opA t k w) (s.opB t k w))))

/-- SHL: RD := aluShl RA RB (R329). -/
def execShl (t : TileId) (k : SlotId) (s : State) : Host.Outcome State Fault Refusal :=
  .next (s.issue t k (code 0x01 0x005) (fun w s => s.setRd t k w (aluShl (s.opA t k w) (s.opB t k w))))

/-- SHR: RD := aluShr RA RB (R329). -/
def execShr (t : TileId) (k : SlotId) (s : State) : Host.Outcome State Fault Refusal :=
  .next (s.issue t k (code 0x01 0x006) (fun w s => s.setRd t k w (aluShr (s.opA t k w) (s.opB t k w))))

/-- SRA: RD := aluSra RA RB (R329). -/
def execSra (t : TileId) (k : SlotId) (s : State) : Host.Outcome State Fault Refusal :=
  .next (s.issue t k (code 0x01 0x007) (fun w s => s.setRd t k w (aluSra (s.opA t k w) (s.opB t k w))))

/-- SLT: RD := aluSlt RA RB (R329). -/
def execSlt (t : TileId) (k : SlotId) (s : State) : Host.Outcome State Fault Refusal :=
  .next (s.issue t k (code 0x01 0x008) (fun w s => s.setRd t k w (aluSlt (s.opA t k w) (s.opB t k w))))

/-- SLTU: RD := aluSltu RA RB (R329). -/
def execSltu (t : TileId) (k : SlotId) (s : State) : Host.Outcome State Fault Refusal :=
  .next (s.issue t k (code 0x01 0x009) (fun w s => s.setRd t k w (aluSltu (s.opA t k w) (s.opB t k w))))

/-- MUL: RD := aluMul RA RB (R329). -/
def execMul (t : TileId) (k : SlotId) (s : State) : Host.Outcome State Fault Refusal :=
  .next (s.issue t k (code 0x01 0x00A) (fun w s => s.setRd t k w (aluMul (s.opA t k w) (s.opB t k w))))

/-- MULH: RD := aluMulh RA RB (R329). -/
def execMulh (t : TileId) (k : SlotId) (s : State) : Host.Outcome State Fault Refusal :=
  .next (s.issue t k (code 0x01 0x00B) (fun w s => s.setRd t k w (aluMulh (s.opA t k w) (s.opB t k w))))

/-- MULHU: RD := aluMulhu RA RB (R329). -/
def execMulhu (t : TileId) (k : SlotId) (s : State) : Host.Outcome State Fault Refusal :=
  .next (s.issue t k (code 0x01 0x00C) (fun w s => s.setRd t k w (aluMulhu (s.opA t k w) (s.opB t k w))))

/-- MIN: RD := aluMin RA RB (R329). -/
def execMin (t : TileId) (k : SlotId) (s : State) : Host.Outcome State Fault Refusal :=
  .next (s.issue t k (code 0x01 0x00D) (fun w s => s.setRd t k w (aluMin (s.opA t k w) (s.opB t k w))))

/-- MAX: RD := aluMax RA RB (R329). -/
def execMax (t : TileId) (k : SlotId) (s : State) : Host.Outcome State Fault Refusal :=
  .next (s.issue t k (code 0x01 0x00E) (fun w s => s.setRd t k w (aluMax (s.opA t k w) (s.opB t k w))))

/-- MINU: RD := aluMinu RA RB (R329). -/
def execMinu (t : TileId) (k : SlotId) (s : State) : Host.Outcome State Fault Refusal :=
  .next (s.issue t k (code 0x01 0x00F) (fun w s => s.setRd t k w (aluMinu (s.opA t k w) (s.opB t k w))))

/-- MAXU: RD := aluMaxu RA RB (R329). -/
def execMaxu (t : TileId) (k : SlotId) (s : State) : Host.Outcome State Fault Refusal :=
  .next (s.issue t k (code 0x01 0x010) (fun w s => s.setRd t k w (aluMaxu (s.opA t k w) (s.opB t k w))))

/-- POPC: RD := aluPopc RA (R329). -/
def execPopc (t : TileId) (k : SlotId) (s : State) : Host.Outcome State Fault Refusal :=
  .next (s.issue t k (code 0x01 0x011) (fun w s => s.setRd t k w (aluPopc (s.opA t k w))))

/-- CLZ: RD := aluClz RA (R329). -/
def execClz (t : TileId) (k : SlotId) (s : State) : Host.Outcome State Fault Refusal :=
  .next (s.issue t k (code 0x01 0x012) (fun w s => s.setRd t k w (aluClz (s.opA t k w))))

/-- CTZ: RD := aluCtz RA (R329). -/
def execCtz (t : TileId) (k : SlotId) (s : State) : Host.Outcome State Fault Refusal :=
  .next (s.issue t k (code 0x01 0x013) (fun w s => s.setRd t k w (aluCtz (s.opA t k w))))

/-- ADDI: RD := aluAddi RA IMM16 (R330). -/
def execAddi (t : TileId) (k : SlotId) (s : State) : Host.Outcome State Fault Refusal :=
  .next (s.issue t k (code 0x02 0) (fun w s => s.setRd t k w (aluAddi (s.opA t k w) w)))

/-- ANDI: RD := aluAndi RA IMM16 (R330). -/
def execAndi (t : TileId) (k : SlotId) (s : State) : Host.Outcome State Fault Refusal :=
  .next (s.issue t k (code 0x03 0) (fun w s => s.setRd t k w (aluAndi (s.opA t k w) w)))

/-- ORI: RD := aluOri RA IMM16 (R330). -/
def execOri (t : TileId) (k : SlotId) (s : State) : Host.Outcome State Fault Refusal :=
  .next (s.issue t k (code 0x04 0) (fun w s => s.setRd t k w (aluOri (s.opA t k w) w)))

/-- XORI: RD := aluXori RA IMM16 (R330). -/
def execXori (t : TileId) (k : SlotId) (s : State) : Host.Outcome State Fault Refusal :=
  .next (s.issue t k (code 0x05 0) (fun w s => s.setRd t k w (aluXori (s.opA t k w) w)))

/-- SLTI: RD := aluSlti RA IMM16 (R330). -/
def execSlti (t : TileId) (k : SlotId) (s : State) : Host.Outcome State Fault Refusal :=
  .next (s.issue t k (code 0x06 0) (fun w s => s.setRd t k w (aluSlti (s.opA t k w) w)))

/-- SLTIU: RD := aluSltiu RA IMM16 (R330). -/
def execSltiu (t : TileId) (k : SlotId) (s : State) : Host.Outcome State Fault Refusal :=
  .next (s.issue t k (code 0x07 0) (fun w s => s.setRd t k w (aluSltiu (s.opA t k w) w)))

/-- SHLI: RD := aluShli RA IMM16 (R330). -/
def execShli (t : TileId) (k : SlotId) (s : State) : Host.Outcome State Fault Refusal :=
  .next (s.issue t k (code 0x08 0) (fun w s => s.setRd t k w (aluShli (s.opA t k w) w)))

/-- SHRI: RD := aluShri RA IMM16 (R330). -/
def execShri (t : TileId) (k : SlotId) (s : State) : Host.Outcome State Fault Refusal :=
  .next (s.issue t k (code 0x09 0) (fun w s => s.setRd t k w (aluShri (s.opA t k w) w)))

/-- SRAI: RD := aluSrai RA IMM16 (R330). -/
def execSrai (t : TileId) (k : SlotId) (s : State) : Host.Outcome State Fault Refusal :=
  .next (s.issue t k (code 0x0A 0) (fun w s => s.setRd t k w (aluSrai (s.opA t k w) w)))

/-- LUI: RD := IMM16 × 65,536 (R330). -/
def execLui (t : TileId) (k : SlotId) (s : State) : Host.Outcome State Fault Refusal :=
  .next (s.issue t k (code 0x0B 0) (fun w s => s.setRd t k w (zext16 w <<< 16)))

/-- LB (R331, R336). -/
def execLb (t : TileId) (k : SlotId) (s : State) : Host.Outcome State Fault Refusal :=
  .next (s.issue t k (code 0x10 0) (fun w s => s.load t k w 1 (fun v => (BitVec.ofNat 8 v).signExtend 32)))

/-- LBU (R331, R336). -/
def execLbu (t : TileId) (k : SlotId) (s : State) : Host.Outcome State Fault Refusal :=
  .next (s.issue t k (code 0x11 0) (fun w s => s.load t k w 1 (BitVec.ofNat 32)))

/-- LH (R331, R336). -/
def execLh (t : TileId) (k : SlotId) (s : State) : Host.Outcome State Fault Refusal :=
  .next (s.issue t k (code 0x12 0) (fun w s => s.load t k w 2 (fun v => (BitVec.ofNat 16 v).signExtend 32)))

/-- LHU (R331, R336). -/
def execLhu (t : TileId) (k : SlotId) (s : State) : Host.Outcome State Fault Refusal :=
  .next (s.issue t k (code 0x13 0) (fun w s => s.load t k w 2 (BitVec.ofNat 32)))

/-- LW (R331, R336). -/
def execLw (t : TileId) (k : SlotId) (s : State) : Host.Outcome State Fault Refusal :=
  .next (s.issue t k (code 0x14 0) (fun w s => s.load t k w 4 (BitVec.ofNat 32)))

/-- SB (R331, R336). -/
def execSb (t : TileId) (k : SlotId) (s : State) : Host.Outcome State Fault Refusal :=
  .next (s.issue t k (code 0x18 0) (fun w s => s.store t k w 1))

/-- SH (R331, R336). -/
def execSh (t : TileId) (k : SlotId) (s : State) : Host.Outcome State Fault Refusal :=
  .next (s.issue t k (code 0x19 0) (fun w s => s.store t k w 2))

/-- SW (R331, R336). -/
def execSw (t : TileId) (k : SlotId) (s : State) : Host.Outcome State Fault Refusal :=
  .next (s.issue t k (code 0x1A 0) (fun w s => s.store t k w 4))

/-- BEQ (R332). -/
def execBeq (t : TileId) (k : SlotId) (s : State) : Host.Outcome State Fault Refusal :=
  .next (s.issue t k (code 0x20 0) (fun w s => s.branch t k w (condBeq (s.creg t k (raB w)) (s.creg t k (rbB w)))))

/-- BNE (R332). -/
def execBne (t : TileId) (k : SlotId) (s : State) : Host.Outcome State Fault Refusal :=
  .next (s.issue t k (code 0x21 0) (fun w s => s.branch t k w (condBne (s.creg t k (raB w)) (s.creg t k (rbB w)))))

/-- BLT (R332). -/
def execBlt (t : TileId) (k : SlotId) (s : State) : Host.Outcome State Fault Refusal :=
  .next (s.issue t k (code 0x22 0) (fun w s => s.branch t k w (condBlt (s.creg t k (raB w)) (s.creg t k (rbB w)))))

/-- BGE (R332). -/
def execBge (t : TileId) (k : SlotId) (s : State) : Host.Outcome State Fault Refusal :=
  .next (s.issue t k (code 0x23 0) (fun w s => s.branch t k w (condBge (s.creg t k (raB w)) (s.creg t k (rbB w)))))

/-- BLTU (R332). -/
def execBltu (t : TileId) (k : SlotId) (s : State) : Host.Outcome State Fault Refusal :=
  .next (s.issue t k (code 0x24 0) (fun w s => s.branch t k w (condBltu (s.creg t k (raB w)) (s.creg t k (rbB w)))))

/-- BGEU (R332). -/
def execBgeu (t : TileId) (k : SlotId) (s : State) : Host.Outcome State Fault Refusal :=
  .next (s.issue t k (code 0x25 0) (fun w s => s.branch t k w (condBgeu (s.creg t k (raB w)) (s.creg t k (rbB w)))))
/-- JMP (R332). -/
def execJmp (t : TileId) (k : SlotId) (s : State) : Host.Outcome State Fault Refusal :=
  .next (s.issue t k (code 0x26 0) (fun w s => s.goto t k (s.pc t k + immJ w)))

/-- A jump that links: `r` := PC + 1 and PC := `p`; a target outside the store aborts with no register written
(R332). -/
def State.jumpLink (s : State) (t k r : Nat) (p : Int) : State :=
  if 0 ≤ p ∧ p < 4096 then (s.setCreg t k r (BitVec.ofNat 32 (s.pc t k + 1))).goto t k p else s.goto t k p

/-- JAL: c31 := PC + 1 (R332). -/
def execJal (t : TileId) (k : SlotId) (s : State) : Host.Outcome State Fault Refusal :=
  .next (s.issue t k (code 0x27 0) (fun w s => s.jumpLink t k 31 (s.pc t k + immJ w)))

/-- JR: RD := PC + 1; PC := RA (R332). -/
def execJr (t : TileId) (k : SlotId) (s : State) : Host.Outcome State Fault Refusal :=
  .next (s.issue t k (code 0x28 0) (fun w s => s.jumpLink t k (rdOf w) (s.opA t k w).toNat))

/-- Arrival at the layer barrier (R343): the task waits until the release of its partition's barrier. -/
def State.arrive (s : State) (t k : Nat) (bars : Bool) : State :=
  (s.setTask t k { s.task t k with arrived := true, bars := bars }).wait t k 8

/-- BAR (R343). -/
def execBar (t : TileId) (k : SlotId) (s : State) : Host.Outcome State Fault Refusal :=
  .next (s.issue t k (code 0x3F 0) (fun _ s => s.arrive t k false))

/-- BARS (R343, R344). -/
def execBars (t : TileId) (k : SlotId) (s : State) : Host.Outcome State Fault Refusal :=
  .next (s.issue t k (code 0x3F 1) (fun _ s => s.arrive t k true))

/-- TEND (R349). -/
def execTend (t : TileId) (k : SlotId) (s : State) : Host.Outcome State Fault Refusal :=
  .next (s.issue t k (code 0x3F 2) (fun _ s =>
    if s.tendForbidden t k then s.illegal t k 0x08
    else if s.workEnded t k then s.setTaskState t k taskEnded 0
    else s.wait t k 10))

/-- WFI (R335, R345). -/
def execWfi (t : TileId) (k : SlotId) (s : State) : Host.Outcome State Fault Refusal :=
  .next (s.issue t k (code 0x3F 3) (fun _ s =>
    if s.rd (Reg.cuffIntEn t k) = 0 then s.illegal t k 0x07
    else if s.intReady t k then s.complete t k
    else s.wait t k 9))

/-- IRET (R335). -/
def execIret (t : TileId) (k : SlotId) (s : State) : Host.Outcome State Fault Refusal :=
  .next (s.issue t k (code 0x3F 4) (fun _ s =>
    if s.bit (Reg.cuffTaskStatus t k) 24 then
      (s.setBit (Reg.cuffTaskStatus t k) 24 false).goto t k (s.fld (Reg.cuffIntEpc t k) 0 12)
    else s.illegal t k 0x06))

/-- NOP (R335). -/
def execNop (t : TileId) (k : SlotId) (s : State) : Host.Outcome State Fault Refusal :=
  .next (s.issue t k (code 0x3F 5) (fun _ s => s.complete t k))

/-- RESERVED_INSTRUCTION: the word at the PC is reserved, or a field it does not use is not 0 (R328). -/
def execReservedInstruction (t : TileId) (k : SlotId) (s : State) : Host.Outcome State Fault Refusal :=
  .next (if s.canIssue t k && cuffCode (s.fetch t k) == none then
    (if s.taskState t k = taskRunning then s.count (Reg.cuffStatInstr t) 1 else s).illegal t k 0x01 else s)

/-! ## Events -/

/-- TASK_ENDED: a waiting TEND finds its condition met (R349). -/
def execTaskEnded (t : TileId) (k : SlotId) (s : State) : Host.Outcome State Fault Refusal :=
  .next (if s.taskState t k == taskWaiting && cuffCode (s.fetch t k) == some (code 0x3F 2) && s.workEnded t k then
    s.setTaskState t k taskEnded 0 else s)

/-- INTERRUPT_TAKE (R345): EPC and PC change, and a wait that has had no effect is withdrawn. A SUIT that has taken
its slot completes first. -/
def execInterruptTake (t : TileId) (k : SlotId) (s : State) : Host.Outcome State Fault Refusal :=
  if s.canIssue t k && !s.bit (Reg.cuffTaskStatus t k) 24 && s.intReady t k && (s.task t k).suit.isNone then
    let s := (s.withdraw t k).setTask t k { s.task t k with arrived := false, bars := false }
    let s := s.setFld (Reg.cuffIntEpc t k) 0 12 (s.pc t k)
    let s := s.setPc t k (s.fld (Reg.cuffIntVec t k) 0 12)
    .next ((s.setBit (Reg.cuffTaskStatus t k) 24 true).setTaskState t k taskRunning 0)
  else .next s

/-- TASK_TIMER_EXPIRE: the timer passes from 1 to 0 (R345). -/
def execTaskTimerExpire (t : TileId) (k : SlotId) (s : State) : Host.Outcome State Fault Refusal :=
  if s.rd (Reg.cuffTaskTimer t k) = 0 then .next s
  else .next (((s.wr (Reg.cuffTaskTimer t k) 0).setBit (Reg.cuffIntPend t k) 3 true).wakeTile t)

/-- A write of CUFF_DOORBELL (R345). -/
def State.doorbell (s : State) (t ring : Nat) : State :=
  ((List.range 4).foldl (fun s k => if ring.testBit k then s.setBit (Reg.cuffIntPend t k) 2 true else s) s).wakeTile t

/-- CUFF_DOORBELL. -/
def execCuffDoorbell (t : TileId) (ring : BitVec 4) (s : State) : Host.Outcome State Fault Refusal :=
  .next (s.ctl (Reg.cuffDoorbell t) (fun s => s.doorbell t ring.toNat))

/-- CUFF_TASK_START (R348). -/
def execCuffTaskStart (t : TileId) (k : SlotId) (s : State) : Host.Outcome State Fault Refusal :=
  .next (s.ctl (Reg.cuffTaskCtrl t k) (fun s => s.startTask t k))

/-- CUFF_TASK_CANCEL (R350). -/
def execCuffTaskCancel (t : TileId) (k : SlotId) (s : State) : Host.Outcome State Fault Refusal :=
  .next (s.ctl (Reg.cuffTaskCtrl t k) (fun s => s.cancelTask t k))

/-- SCOREBOARD_FULL: the instruction has waited SB_TIMEOUT cycles for free entries (R341). -/
def execScoreboardFull (t : TileId) (k : SlotId) (s : State) : Host.Outcome State Fault Refusal :=
  .next (if s.taskState t k == taskWaiting && s.fld (Reg.cuffTaskStatus t k) 25 4 == 3 then s.cuffFault t k 0x0B 0x0A
    else s)

/-- The counters that CUFF_CTR_CLEAR clears. -/
def cuffCtrs (t : Nat) : List Nat :=
  [Reg.cuffStatInstr t, Reg.cuffStatIdle t, Reg.cuffStatSbWait t]

/-- CUFF_CTR_CLEAR (R356). -/
def execCuffCtrClear (t : TileId) (s : State) : Host.Outcome State Fault Refusal :=
  .next (s.ctl (Reg.cuffCtrClear t) (fun s => s.clear (cuffCtrs t.val)))

end Sys2Proof.Machine
end

