-- ==== Sys2Proof/Machine/Faults.lean ====
section
/-! DEFINITION. The commands of the fault log, job stops, the environment monitors and the HBM pass (spec 18). -/

namespace Sys2Proof.Machine

/-! ## Job stops (R539) -/

/-- FAULT_JOB_STOP: the Collar takes the oldest code of class T or J that asks for a stop, begins step 1 of R448 and tells
the other modules. A second code before the decision finds the stop under way (R541). -/
def execFaultJobStop (s : State) : Host.Outcome State Fault Refusal :=
  .next (match s.stops with
    | [] => s
    | r :: rest =>
      let s := { s with stops := rest }
      let x := s.slot r.part
      let begins := x.going || (x.state == .restoring && 2 ≤ x.restart)
      let s := s.beginStop r.part (some (r.code, r.sub, r.unit, s.moduleId)) true
      (if begins then s.sendJobStop r.part r.code r.cls s.moduleId r.seq [] else s).settleCmds)

/-! ## The log (R548-R553) -/

/-- The bytes of a record under SEQ `n` (R548). -/
def State.recordBytes (s : State) (r : FaultRec) (n : Nat) : List Byte :=
  let b (x : Bool) (v : Nat) : Nat := if x then v else 0
  leBytes 8 r.cal ++ leBytes 4 n ++ leBytes 1 r.code ++
    leBytes 1 (r.cls + b r.promoted 4 + b r.calValid 8 + b r.noJob 16) ++ leBytes 1 r.unit ++ leBytes 1 r.sub ++
    leBytes 2 ((r.tile.map s.physTile).getD 0xFFFF) ++ leBytes 1 (r.tile.getD 0) ++
    leBytes 1 (((r.part.map (fun p => 0x80 + 0x10 * p)).getD 0) + ((r.slot.map (fun k => 8 + k)).getD 0)) ++
    leBytes 2 r.module ++ leBytes 2 r.epoch ++ leBytes 4 r.step ++ leBytes 4 0 ++ leBytes 8 r.jobId ++ leBytes 8 r.addr ++
    leBytes 8 r.ctx0 ++ leBytes 8 r.ctx1 ++ s.identity.flatMap (fun w => leBytes 4 w.toNat)

/-- FAULT_RECORD_WRITE (R551). -/
def execFaultRecordWrite (s : State) : Host.Outcome State Fault Refusal :=
  .next (match s.flogQ with
    | [] => s
    | r :: rest =>
      let n := (s.rd Reg.flogNext).toNat
      let bytes := s.recordBytes r n
      let s := (List.range 32).foldl (fun s i =>
        s.wr (Reg.flogRecord (n % 4096) i) (BitVec.ofNat 32 (leNat ((bytes.drop (4 * i)).take 4)))) { s with flogQ := rest }
      s.wr Reg.flogNext (BitVec.ofNat 32 (n + 1)))

/-- A write of FLOG_CTRL (R553): with the key, CLEAR empties the log; records that wait are kept. -/
def State.clearLog (s : State) (v : Word) : State :=
  if fieldOf v 16 16 = 0xA5C3 ∧ v.getLsbD 0 = true then s.forget logWord else s

/-- FLOG_CTRL_CLEAR. -/
def execFlogCtrlClear (v : Word) (s : State) : Host.Outcome State Fault Refusal := .next (s.clearLog v)

/-! ## Environment monitors (R546, R547, R572) -/

/-- The monitors that are armed: from boot step 2; those of LI1 and LI3 from step 5 while their engine group is on. -/
def State.armed (s : State) : Nat :=
  let n := s.fld Reg.bootStatus 29 3
  if n < 2 then 0
  else 0x1FF - (if 5 ≤ n ∧ s.domainOn 27 then 0 else 0x10) - (if 5 ≤ n ∧ s.domainOn 29 then 0 else 0x40)

/-- ENV_MONITOR_TRIP: the quantities of `high` are above, those of `below` below their limits for their filter times
(R546). The PMBus shows an input, coolant or junction trip (R566). -/
def execEnvMonitorTrip (high below : BitVec 9) (s : State) : Host.Outcome State Fault Refusal :=
  .next (
    if !s.rail then s
    else
      let out := (high ||| below).toNat
      let trips := out &&& s.armed
      let s := s.wr Reg.envStatus (s.rd Reg.envStatus ||| BitVec.ofNat 32 out)
      if trips = 0 then s
      else
        let s := s.wr Reg.envTrip (s.rd Reg.envTrip ||| BitVec.ofNat 32 trips)
        let b (x : Bool) (v : BitVec 8) : BitVec 8 := if x then v else 0
        let p := s.pmbus
        let s := { s with pmbus := { p with
          input := p.input ||| b (high.getLsbD 0) 0x80 ||| b (below.getLsbD 0) 0x10,
          temp := p.temp ||| b (high.getLsbD 1 || high.getLsbD 2) 0x80 ||| b (below.getLsbD 1) 0x10 } }
        if s.stopped then
          s.pushRec (s.record 0x14 3 14 0 none none none 0 (s.rd Reg.envTrip).toNat (s.rd Reg.envStatus).toNat)
        else s.moduleStop true)

/-- ENV_WITHIN_LIMITS (R547, R563). -/
def execEnvWithinLimits (s : State) : Host.Outcome State Fault Refusal :=
  .next (s.wr Reg.envStatus 0)

/-! ## HBM (R543, R556) -/

/-- HBM_SCRUB_STEP: the pass reads word `w`; `err` is what has come to be wrong with it (true: uncorrectable). -/
def execHbmScrubStep (w : Nat) (err : Option Bool) (s : State) : Host.Outcome State Fault Refusal :=
  .next (
    if hbmBytes ≤ 32 * w || !s.domainOn (18 + hbmController (32 * w)) then s
    else
      let s := match err with
        | some e => { s with hbmErr := tset s.hbmErr w (e || (tfind s.hbmErr w).getD false) }
        | none => s
      (s.hbmCheck true [w]).1)

/-- HBM_CTR_CLEAR. -/
def execHbmCtrClear (c : Fin 8) (s : State) : Host.Outcome State Fault Refusal :=
  .next (s.ctl (Reg.hbmCtrClear c) (fun s => s.clear [Reg.hbmCeCount c, Reg.hbmUeCount c]))

end Sys2Proof.Machine
end

