-- ==== Sys2Proof/Machine/Seam.lean ====
section
/-! DEFINITION. The Seam unit (spec 05): granule intersection and union, N:M decoding, element merges, and the hand-over
of records. -/

namespace Sys2Proof.Machine

/-! ## Stage start -/

/-- Live suits of the tile in issue order. -/
def State.liveSuits (s : State) (t : Nat) : List (Nat × Suit) :=
  ((s.tile t).suits.filter (fun p => s.suitLive t p.1)).foldl
    (fun l p => l.filter (fun y => y.2.order ≤ p.2.order) ++ [p] ++ l.filter (fun y => p.2.order < y.2.order)) []

/-- The next suit in issue order that a unit has still to serve, when it is RUNNING (R283). -/
def State.nextSuit (s : State) (t : Nat) (left : Suit → Bool) : Option (Nat × Suit) :=
  match (s.liveSuits t).find? (fun p => left p.2) with
  | some (i, x) => if s.suitState t i = suitRunning then some (i, x) else none
  | none => none

/-- The suit that the Seam unit serves. -/
def State.seamSuit (s : State) (t : Nat) : Option (Nat × Suit) :=
  (s.runningSuits t).find? (fun p => p.2.run.seam == 1)

/-- Where an operation begins: K block, kept product or column block. -/
def State.seamFirst (s : State) (t : Nat) (x : Suit) : Nat :=
  if x.seamOp = opGint ∨ x.seamOp = opGunion then x.kLo / 256
  else if x.seamOp = opNmdec then
    let (n, m) := nmRatio (s.sideDesc t x 0).nmCode
    x.kLo * n / m
  else x.kLo / 65536

/-- SEAM_STAGE_START (R133, R283). -/
def execSeamStageStart (t : TileId) (s : State) : Host.Outcome State Fault Refusal :=
  .next (match s.seamSuit t, s.nextSuit t (fun x => x.has stSeam && x.run.seam != 2) with
  | none, some (i, x) =>
    if !x.bound then s
    else if s.domainOn (5 + t / 64) then s.putRun t i x { x.run with seam := 1, sPos := s.seamFirst t x }
    else s.needCompute t
  | _, _ => s)

/-- The operation is over: the next begins, and the stage ends after the last once every record has been written. -/
def State.nextOp (s : State) (t : Nat) (x : Suit) (r : SuitRun) : SuitRun :=
  { r with sOp := r.sOp + 1, sPos := s.seamFirst t x, sBase := [], curA := none, curB := none,
           seam := if r.sOp + 1 = x.ops ∧ r.pend = [] then 2 else r.seam }

/-! ## Granules (R135-R139) -/

def popcount16 (w : Nat) : Nat := (setBits w 16).length

/-- Granules of K block `kb` that begin below NC. -/
def granMask (nc kb : Nat) : Nat :=
  (List.range 16).foldl (fun m g => if 256 * kb + 16 * g < nc then m + 2 ^ g else m) 0

/-- Reads a map of a BMAP or GMAP plane as sixteen words and checks every bit outside the shape (R108, R152). -/
def State.mapAt (s : State) (t : Nat) (x : Suit) (side : Nat) (g : Img) (br bc : Nat) : Step' (List Nat) :=
  let gbc := ceilDiv g.nc 256
  let plane := if g.d.format = fmtBmap then g.d.map else g.d.gmap
  andThen (s.planeRead t x stSeam g plane ((br * gbc + bc) * 32) 32) (fun s bs =>
    let ws := (List.range 16).map (fun i => leNat ((bs.drop (2 * i)).take 2))
    let outside := (List.range 16).any (fun i =>
      let w := ws.getD i 0
      if g.nr ≤ 16 * br + i then w != 0 else w &&& granMask g.nc bc != w)
    if outside then (s, .error (seamErr 0x05 0x07 side (br * gbc + bc))) else (s, .ok ws))

/-- Valid rows of a side in operation `o`: row number in the block and row of the tensor. -/
def Suit.validRows (x : Suit) (d : TDesc) (side o : Nat) : List (Nat × Nat) :=
  let (rs, rc) := x.opRows side o
  ((List.range 32).filter (fun i => i < rc && rs + i < d.nr)).map (fun i => (i, rs + i))

/-- A map of an image: first row and column of the image, block row and block. -/
abbrev MapKey : Type := Nat × Nat × Nat × Nat

/-- The map that tells of granule `g` of row `r`, when its image is not EMPTY. -/
def State.mapKey (s : State) (t : Nat) (x : Suit) (side : Nat) (d : TDesc) (r g : Nat) : Option (MapKey × Img) :=
  match s.img t x side d r (16 * g) with
  | none => none
  | some im => if im.empty then none
      else some ((im.r0, im.c0, (r - im.r0) / 16, (16 * g - im.c0) / 256), im)

/-- The operand bears maps. -/
def TDesc.bearsMaps (d : TDesc) : Bool := d.format == fmtBmap || d.gmap != noneAddr

/-- Presence words of the 32 rows of a side in K block `kb`, and the maps read. -/
def State.scanRows (s : State) (t : Nat) (x : Suit) (side o kb : Nat) : Step' (List Nat × List (MapKey × List Nat)) :=
  let d := s.sideDesc t x side
  let rows := x.validRows d side o
  let gs := setBits (granMask d.nc kb) 16
  if d.bearsMaps then
    let keys := rows.foldl (fun (ks : List (MapKey × Img)) (_, r) => gs.foldl (fun (ks : List (MapKey × Img)) g =>
      match s.mapKey t x side d r (16 * kb + g) with
      | some (k, im) => if ks.any (fun p => p.1 == k) then ks else ks ++ [(k, im)]
      | none => ks) ks) ([] : List (MapKey × Img))
    andThen (each (fun s (p : MapKey × Img) =>
        andThen (s.mapAt t x side p.2 p.1.2.2.1 p.1.2.2.2) (fun s ws => (s, .ok (p.1, ws)))) s keys) (fun s maps =>
      let word (r : Nat) : Nat := gs.foldl (fun m g =>
        match s.mapKey t x side d r (16 * kb + g) with
        | some (k, im) =>
          match maps.find? (fun p => p.1 == k) with
          | some (_, ws) =>
            if (ws.getD ((r - im.r0) % 16) 0).testBit ((16 * (16 * kb + g) - im.c0) / 16 % 16) then m + 2 ^ g else m
          | none => m
        | none => m) 0
      (s, .ok ((List.range 32).map (fun i => match rows.find? (fun p => p.1 == i) with
        | some (_, r) => word r
        | none => 0), maps)))
  else
    let there (r c : Nat) : Bool := (s.img t x side d r c).any (fun im => !im.empty)
    (s, .ok ((List.range 32).map (fun i => match rows.find? (fun p => p.1 == i) with
      | some (_, r) => gs.foldl (fun m g =>
          let c := 256 * kb + 16 * g
          if !d.dist || there r c || there r (min (c + 15) (d.nc - 1)) then m + 2 ^ g else m) 0
      | none => 0), []))

/-- The position of the first value of map block (`br`, `bc`), its row's pointer plus the values of the blocks before it,
and that pointer. `below` is the pointer of the half before, read from the same image; `last` says that no further half
reads a pointer of this image (R152). -/
def State.freshBase (s : State) (t : Nat) (x : Suit) (side : Nat) (im : Img) (br bc : Nat) (below : Option Nat) (last : Bool) :
    Step' (Nat × Option Nat) :=
  andThen (s.ptrEntry t x im br) (fun s p =>
    if below.any (fun q => p < q) ∨ (last ∧ im.d.nvalCap < p) then (s, .error (seamErr 0x04 0x07 side br))
    else andThen (each (fun s j => s.mapAt t x side im br j) s (List.range bc)) (fun s maps =>
      (s, .ok (p + 16 * (maps.foldl (fun n ws => n + (ws.map popcount16).sum) 0), some p))))

/-- The map of the first row of half `h` of a BMAP side at K block `kb`, when the half holds an unmasked row (R138). -/
def State.halfKey (s : State) (t : Nat) (x : Suit) (side o kb h : Nat) : Option (MapKey × Img) :=
  let d := s.sideDesc t x side
  if d.format ≠ fmtBmap ∨ !(x.validRows d side o).any (fun p => p.1 / 16 == h) then none
  else s.mapKey t x side d ((x.opRows side o).1 + 16 * h) (16 * kb)

/-- The value base of half `h` of a BMAP side at K block `kb` (R138): from the block before, or at the first block of the
operation or of an image from the pointer and the maps before it (R139). -/
def State.halfBase (s : State) (t : Nat) (x : Suit) (side o kb h : Nat) (prev below : Option Nat) (last : Bool) :
    Step' (Nat × Option Nat) :=
  match s.halfKey t x side o kb h with
  | none => (s, .ok (0, none))
  | some ((_, c0, br, bc), im) =>
    match prev with
    | some b => if c0 = 256 * kb ∧ kb ≠ x.kLo / 256 then s.freshBase t x side im br bc below last else (s, .ok (b, none))
    | none => s.freshBase t x side im br bc below last

/-- The value bases of the two halves of a side. -/
def State.sideBases (s : State) (t : Nat) (x : Suit) (o kb : Nat) (prev : Nat → Option Nat) (side : Nat) : Step' (List Nat) :=
  let img (h : Nat) : Option (Nat × Nat) := (s.halfKey t x side o kb h).map (fun k => (k.1.1, k.1.2.1))
  let same := img 0 == img 1
  andThen (s.halfBase t x side o kb 0 (prev (2 * side)) none (!same)) (fun s b0 =>
    andThen (s.halfBase t x side o kb 1 (prev (2 * side + 1)) (if same then b0.2 else none) true) (fun s b1 =>
      (s, .ok [b0.1, b1.1])))

/-- Set bits below granule `g` of row `i` in the map of its half: the OFF byte of R138. -/
def offByte (ws : List Nat) (i g : Nat) : Nat :=
  ((ws.take (i % 16)).map popcount16).sum + popcount16 (ws.getD (i % 16) 0 % 2 ^ g)

/-- The map of half `h` of a BMAP side among those read. -/
def State.halfMap (s : State) (t : Nat) (x : Suit) (side o kb h : Nat) (maps : List (MapKey × List Nat)) : List Nat :=
  match s.mapKey t x side (s.sideDesc t x side) ((x.opRows side o).1 + 16 * h) (16 * kb) with
  | some (k, _) => ((maps.find? (fun p => p.1 == k)).map (·.2)).getD []
  | none => []

/-- The records of one K block (R136-R138), and the bases for the next. -/
def State.scanBlock (s : State) (t : Nat) (x : Suit) : Step' SuitRun :=
  let r := x.run
  let o := r.sOp
  let kb := r.sPos
  let prev (j : Nat) : Option Nat := if r.sBase = [] then none else some (r.sBase.getD j 0)
  andThen (each (fun s side => s.sideBases t x o kb prev side) s [0, 1]) (fun s bases =>
    let base := bases.flatten
    let b (j : Nat) : Nat := base.getD j 0
    andThen (s.scanRows t x 0 o kb) (fun s (wa, ma) => andThen (s.scanRows t x 1 o kb) (fun s (wb, mb) =>
      let union (ws : List Nat) : Nat := ws.foldl (fun m w => m ||| w) 0
      let ua := union wa
      let ub := union wb
      let kept := setBits (if x.seamOp = opGint then ua &&& ub else ua ||| ub) 16
      let hm := (List.range 4).map (fun j => s.halfMap t x (j / 2) o kb (j % 2) (if j < 2 then ma else mb))
      let bm (side : Nat) : Bool := (s.sideDesc t x side).format == fmtBmap
      let mask (ws : List Nat) (g : Nat) : Nat :=
        (List.range 32).foldl (fun m i => if (ws.getD i 0).testBit g then m + 2 ^ i else m) 0
      let offs (side : Nat) (ws : List Nat) (g : Nat) : List Nat := (List.range 32).map (fun i =>
        if bm side && (ws.getD i 0).testBit g then offByte (hm.getD (2 * side + i / 16) []) i g else 0)
      let lastBlock := kb + 1 = ceilDiv x.kHi 256
      let recs : List SRec := if kept = [] then [.grec (16 * kb) true 0 0 (b 0, b 1) (b 2, b 3) [] []]
        else kept.map (fun g => .grec (16 * kb + g) false (mask wa g) (mask wb g) (b 0, b 1) (b 2, b 3) (offs 0 wa g) (offs 1 wb g))
      let pend := recs.map (fun q => ({ op := o, last := false, r := q } : SeamRec))
      let pend := match pend.getLast? with
        | some q => if lastBlock then pend.dropLast ++ [{ q with last := true }] else pend
        | none => pend
      let s := ((s.count (Reg.seamStatKblocks t) 1).count (Reg.seamStatGranA t) (popcount16 ua)).count
        (Reg.seamStatGranB t) (popcount16 ub)
      let next := (List.range 4).map (fun j => b j + 16 * ((hm.getD j []).map popcount16).sum)
      let r := { r with pend := pend, sPos := kb + 1, sBase := next }
      (s, .ok (if lastBlock then s.nextOp t x r else r)))))

/-- SEAM_KBLOCK_SCAN (R136): one K block; it waits while records of the block before are held (R150). -/
def execSeamKblockScan (t : TileId) (s : State) : Host.Outcome State Fault Refusal :=
  .next (match s.seamSuit t with
  | none => s
  | some (i, x) =>
    if (x.seamOp ≠ opGint ∧ x.seamOp ≠ opGunion) ∨ x.ops ≤ x.run.sOp then s
    else if x.run.pend ≠ [] then s.count (Reg.seamStatStallOut t) 1
    else keepRun t i x (s.scanBlock t x))

/-! ## N:M positions (R110, R111, R140-R142) -/

/-- Width of a position field. -/
def nmWidth (m : Nat) : Nat := Nat.log2 m

/-- Field `f` of local row `lr` of an NM image. -/
def State.nmField (s : State) (t : Nat) (x : Suit) (g : Img) (lr f : Nat) : Step' Nat :=
  let (n, m) := nmRatio g.d.nmCode
  let w := nmWidth m
  let sm := ceilDiv (g.nc / m * n * w) 64 * 8
  let bit := w * f
  let bytes := (bit % 8 + w + 7) / 8
  andThen (s.planeNat t x stSeam g g.d.map (lr * sm + bit / 8) bytes) (fun s v => (s, .ok (bitsOf v (bit % 8) w)))

/-- The columns of products `p` to `p + k - 1` of row `r`; none where the row's image is EMPTY. Every group that begins
there is checked. -/
def State.nmRow (s : State) (t : Nat) (x : Suit) (d : TDesc) (r p k : Nat) : Step' (List Nat) :=
  let (n, m) := nmRatio d.nmCode
  match s.img t x 0 d r (p / n * m) with
  | none => (s, .error (seamErr 0x06 0x07 0 0))
  | some g =>
    if g.empty then (s, .ok [])
    else
      let lr := r - g.r0
      let first := g.c0 / m * n
      let check (s : State) (grp : Nat) : Step' Unit :=
        andThen (each (fun s j => s.nmField t x g lr (grp * n - first + j)) s (List.range n)) (fun s ps =>
          match (List.range (n - 1)).find? (fun j => ps.getD (j + 1) 0 ≤ ps.getD j 0) with
          | some j => (s, .error (seamErr 0x12 0x08 0 (lr * (g.nc / m * n) + (grp * n - first) + j + 1)))
          | none => (s, .ok ()))
      let groups := ((List.range k).filter (fun j => (p + j) % n == 0)).map (fun j => (p + j) / n)
      andThen (each check s groups) (fun s _ =>
        each (fun s j => andThen (s.nmField t x g lr (p + j - first)) (fun s f => (s, .ok ((p + j) / n * m + f)))) s (List.range k))

/-- Products of an NREC (R140). -/
def State.nmCount (s : State) (t : Nat) (x : Suit) : Nat := if tySize (s.sideDesc t x 1).elem = 1 then 4 else 1

/-- One NREC, or none at the operation's end. -/
def State.nmRecord (s : State) (t : Nat) (x : Suit) (r : SuitRun) : Step' SuitRun :=
  let d := s.sideDesc t x 0
  let (n, m) := nmRatio d.nmCode
  let top := min x.kHi d.nc * n / m
  let p := r.sPos
  let k := min (s.nmCount t x) (top - p)
  if x.ops ≤ r.sOp then (s, .ok r)
  else
    let rows := x.validRows d 0 r.sOp
    andThen (each (fun s i => match rows.find? (fun q => q.1 == i) with
        | some (_, row) => s.nmRow t x d row p k
        | none => (s, .ok [])) s (List.range 32)) (fun s cols =>
      let kcol := p / n * m
      let last := top ≤ p + k
      let q : SeamRec := { op := r.sOp, last := last,
                           r := .nrec kcol p (cols.all List.isEmpty) (cols.map (fun cs => cs.map (· - kcol))) }
      let r := { r with pend := r.pend ++ [q], sPos := p + k }
      (s, .ok (if last then s.nextOp t x r else r)))

/-- NMDEC_DECODE: at most two NRECs (R134). -/
def execNmdecDecode (t : TileId) (s : State) : Host.Outcome State Fault Refusal :=
  .next (match s.seamSuit t with
  | none => s
  | some (i, x) =>
    if x.seamOp ≠ opNmdec ∨ x.ops ≤ x.run.sOp then s
    else if x.run.pend ≠ [] then s.count (Reg.seamStatStallOut t) 1
    else keepRun t i x (andThen (s.nmRecord t x x.run) (fun s r =>
      if r.sOp = x.run.sOp then s.nmRecord t x r else (s, .ok r))))

/-! ## Merges (R143-R145) -/

/-- A stretch of a row within a column block: image, column block of the image, and the columns it covers. -/
structure Seg where
  g : Img
  b : Nat
  lo : Nat
  hi : Nat
deriving DecidableEq, Repr

/-- The stretches of row `r` within columns [lo, hi), in ascending column. -/
def State.segsOf (s : State) (t : Nat) (x : Suit) (side : Nat) (d : TDesc) (r lo hi : Nat) : List Seg :=
  let cut (g : Img) : List Seg :=
    if g.empty || hi ≤ lo then []
    else
      let a := max lo g.c0
      let e := min hi (g.c0 + g.nc)
      (List.range (ceilDiv g.nc 65536)).filterMap (fun b =>
        let p := max a (g.c0 + b * 65536)
        let q := min e (g.c0 + (b + 1) * 65536)
        if p < q then some { g := g, b := b, lo := p, hi := q } else none)
  if d.nr ≤ r then []
  else if !d.dist then (match s.img t x side d r lo with
    | some g => cut g
    | none => [])
  else match (s.partOf t).bind (fun q => s.owner q d.id) with
    | none => []
    | some o => ((List.range o.gridCols).filterMap (fun bc => s.img t x side d r (bc * o.blockCols))).flatMap cut

/-- The pointer entry that begins a stretch's span (R112, R113). -/
def Seg.entry (g : Seg) (r : Nat) : Nat :=
  if g.g.d.format = fmtCrow then g.b * g.g.nr + (r - g.g.r0)
  else (r - g.g.r0) / 65536 * ceilDiv g.g.nc 65536 + g.b

/-- The span of value indices of a stretch, its pointers checked. -/
def State.segSpan (s : State) (t : Nat) (x : Suit) (side : Nat) (g : Seg) (r : Nat) : Step' (Nat × Nat) :=
  let e := g.entry r
  andThen (s.ptrEntry t x g.g e) (fun s a => andThen (s.ptrEntry t x g.g (e + 1)) (fun s b =>
    if b < a ∨ g.g.d.nvalCap < b then (s, .error (seamErr 0x04 0x07 side (e + 1))) else (s, .ok (a, b))))

/-- A coordinate in a window: column, value index, and the cursor after it. -/
abbrev Coord : Type := Nat × Nat × (Nat × Nat × Option Nat)

/-- Fills a window from a cursor (stretch, next index, last coordinate there): the coordinates, the cursor at which they
begin, and whether the row is exhausted. `start` marks a stretch not yet entered. -/
def State.fillWin (s : State) (t : Nat) (x : Suit) (side r : Nat) (segs : List Seg) :
    Nat → Nat → Option Nat → Option Nat → List Coord → Step' (List Coord × Bool)
  | 0, _, _, _, acc => (s, .ok (acc, false))
  | fuel + 1, j, idx, prev, acc =>
    if acc.length = 16 then (s, .ok (acc, false))
    else match segs[j]? with
      | none => (s, .ok (acc, true))
      | some g =>
        match s.segSpan t x side g r with
        | (s, .error f) => (s, .error f)
        | (s, .ok (a, b)) =>
          let i := idx.getD a
          if b ≤ i then s.fillWin t x side r segs fuel (j + 1) none none acc
          else
            let d := g.g.d
            match s.planeNat t x stSeam g.g d.idxCol (2 * i) 2 with
            | (s, .error f) => (s, .error f)
            | (s, .ok c) =>
              let row : Step' Nat := if d.format = fmtClist then s.planeNat t x stSeam g.g d.idxRow (2 * i) 2 else (s, .ok 0)
              match row with
              | (s, .error f) => (s, .error f)
              | (s, .ok ro) =>
                let lr := r - g.g.r0
                let outside := g.g.nc ≤ 65536 * g.b + c ||
                  (d.format == fmtClist && g.g.nr ≤ lr / 65536 * 65536 + ro)
                let key := ro * 65536 + c
                if outside then (s, .error (seamErr 0x05 0x07 side i))
                else if prev.any (fun p => key ≤ p) then
                  (s, .error (seamErr (if d.format = fmtClist then 0x11 else 0x10) 0x08 side i))
                else
                  let col := g.g.c0 + 65536 * g.b + c
                  if d.format = fmtClist ∧ lr % 65536 < ro then s.fillWin t x side r segs fuel (j + 1) none none acc
                  else if (d.format = fmtClist ∧ ro < lr % 65536) ∨ col < g.lo then
                    s.fillWin t x side r segs fuel j (some (i + 1)) (some key) acc
                  else if g.hi ≤ col then s.fillWin t x side r segs fuel (j + 1) none none acc
                  else s.fillWin t x side r segs fuel j (some (i + 1)) (some key)
                    (acc ++ [(col, i, (j, i + 1, some key))])

/-- The window of a side from its cursor. -/
def State.window (s : State) (t : Nat) (x : Suit) (side r : Nat) (segs : List Seg) (cur : Option (Nat × Nat × Option Nat)) :
    Step' (List Coord × Bool) :=
  match cur with
  | none => s.fillWin t x side r segs 40 0 none none []
  | some (j, i, p) => s.fillWin t x side r segs 40 j (some i) p []

/-- Sorted insertion of union columns. -/
def mergeCols (a b : List Nat) : List Nat :=
  (a ++ b.filter (fun c => !a.contains c)).foldl
    (fun l c => l.filter (· < c) ++ [c] ++ l.filter (c < ·)) []

/-- One compare cycle (R144): records up to lim, both windows consumed up to lim. -/
def State.mergeCycle (s : State) (t : Nat) (x : Suit) : Step' SuitRun :=
  let r := x.run
  let kb := r.sPos
  let a := s.sideDesc t x 0
  let b := s.sideDesc t x 1
  let lo := max x.kLo (65536 * kb)
  let hi := min x.kHi (65536 * (kb + 1))
  andThen (s.pairAt t x stSeam r.sOp) (fun s (ra, rb) =>
    let sa := s.segsOf t x 0 a ra lo hi
    let sb := s.segsOf t x 1 b rb lo hi
    andThen (s.window t x 0 ra sa r.curA) (fun s (wa, ea) => andThen (s.window t x 1 rb sb r.curB) (fun s (wb, eb) =>
      let doneA := wa.isEmpty && ea
      let doneB := wb.isEmpty && eb
      let finished := if x.isDot then doneA || doneB else doneA && doneB
      if finished then
        let r := { r with sPos := kb + 1, curA := none, curB := none }
        (s, .ok (if x.kHi ≤ 65536 * (kb + 1) then s.nextOp t x r else r))
      else if (wa.isEmpty && !ea) || (wb.isEmpty && !eb) then (s, .ok r)
      else
        let la := (wa.getLast?.map (·.1)).getD 0
        let lb := (wb.getLast?.map (·.1)).getD 0
        let lim := if doneA then lb else if doneB then la else min la lb
        let ca := wa.filter (fun c => c.1 ≤ lim)
        let cb := wb.filter (fun c => c.1 ≤ lim)
        let find (l : List Coord) (c : Nat) : Option Nat := (l.find? (fun q => q.1 == c)).map (fun q => q.2.1)
        let cols := if x.isDot then (ca.map (·.1)).filter (fun c => (find cb c).isSome)
          else mergeCols (ca.map (·.1)) (cb.map (·.1))
        let recs := cols.map (fun c => ({ op := r.sOp, last := false, r := .erec (find ca c) (find cb c) c } : SeamRec))
        let after (l : List Coord) (cur : Option (Nat × Nat × Option Nat)) : Option (Nat × Nat × Option Nat) :=
          match l.getLast? with
          | some q => some q.2.2
          | none => cur
        let s := s.count (Reg.seamStatCoordIn t) (ca.length + cb.length)
        (s, .ok { r with pend := recs, curA := after ca r.curA, curB := after cb r.curB }))))

/-- SEAM_MERGE_CYCLE (R144, R145). -/
def execSeamMergeCycle (t : TileId) (s : State) : Host.Outcome State Fault Refusal :=
  .next (match s.seamSuit t with
  | none => s
  | some (i, x) =>
    if (!x.isDot ∧ !x.isMerge) ∨ x.ops ≤ x.run.sOp then s
    else if x.run.pend ≠ [] then s.count (Reg.seamStatStallOut t) 1
    else keepRun t i x (s.mergeCycle t x))

/-! ## Hand-over (R150) -/

/-- Entries of the hand-over buffer, and records written in one cycle. -/
def Suit.handCap (x : Suit) : Nat := if x.isDot || x.isMerge then 64 else 8
def Suit.handRate (x : Suit) : Nat := if x.isDot then 16 else if x.isMerge then 32 else if x.seamOp = opNmdec then 2 else 8

/-- The counter of a written record. -/
def SeamRec.stat (t : Nat) (q : SeamRec) : Nat :=
  match q.r with
  | .grec _ true _ _ _ _ _ _ => Reg.seamStatNull t
  | .grec _ false _ _ _ _ _ _ => Reg.seamStatGranOut t
  | .nrec _ _ _ _ => Reg.seamStatNrecOut t
  | .erec _ _ _ => Reg.seamStatElemOut t

/-- SEAM_RECORD_WRITE: as many pending records as credits allow, in order. -/
def execSeamRecordWrite (t : TileId) (s : State) : Host.Outcome State Fault Refusal :=
  .next (match s.seamSuit t with
  | none => s
  | some (i, x) =>
    let r := x.run
    let n := min (x.handRate) (x.handCap - r.hand.length)
    let out := r.pend.take n
    let s := out.foldl (fun s q => s.count (q.stat t) 1) s
    let left := r.pend.drop n
    s.putRun t i x { r with hand := r.hand ++ out, pend := left,
                            seam := if left = [] ∧ r.sOp = x.ops then 2 else r.seam })

/-- The counters that SEAM_CTR_CLEAR clears. -/
def seamCtrs (t : Nat) : List Nat :=
  [Reg.seamStatKblocks t, Reg.seamStatGranA t, Reg.seamStatGranB t, Reg.seamStatGranOut t,
    Reg.seamStatNull t, Reg.seamStatNrecOut t, Reg.seamStatCoordIn t, Reg.seamStatElemOut t, Reg.seamStatStallOut t,
    Reg.seamStatStallIn t]

/-- SEAM_CTR_CLEAR.ALL (R157). -/
def execSeamCtrClear (t : TileId) (s : State) : Host.Outcome State Fault Refusal :=
  .next (s.ctl (Reg.seamCtrClear t) (fun s => s.clear (seamCtrs t.val)))

end Sys2Proof.Machine
end

