-- ==== Sys2Proof/Machine/Fetch.lean ====
section
/-! DEFINITION. The FETCH stage (spec 09): binding ring slots, and delivering the operand values of records and of
DENSE columns to the Sleeve engine. -/

namespace Sys2Proof.Machine

/-! ## Ring slots (R281) -/

/-- The earliest running suit with a FETCH stage and `side` still to bind. -/
def State.bindSuit (s : State) (t side : Nat) : Option (Nat × Suit) :=
  (s.runningSuits t).find? (fun p =>
    p.2.has stFetch && p.2.bind side && (if side = 0 then p.2.run.bindA else p.2.run.bindB).isNone)

/-- FETCH_SLOT_BIND: the slot at HEAD of the bound queue is filled and becomes the base of side B (`b`) or A. -/
def execFetchSlotBind (t : TileId) (b : Bool) (s : State) : Host.Outcome State Fault Refusal :=
  let side := if b then 1 else 0
  .next (match s.bindSuit t side with
  | none => s
  | some (i, x) =>
    let q := x.bindQ side
    if s.qFilled t q = 0 then s
    else s.putRun t i x (if b then { x.run with bindB := some (s.qHead t q) } else { x.run with bindA := some (s.qHead t q) }))

/-! ## Values of one row -/

/-- An element that FETCH needs: its image, value index, row and column. -/
structure Want where
  g : Img
  idx : Nat
  row : Nat
  col : Nat
deriving DecidableEq, Repr

/-- The values wanted of one row, cut where the image changes. -/
def wantGroups : List Want → List (Img × List Want)
  | [] => []
  | w :: ws =>
    match wantGroups ws with
    | (g, vs) :: rest => if g = w.g then (g, w :: vs) :: rest else (w.g, [w]) :: (g, vs) :: rest
    | [] => [(w.g, [w])]

/-- Gives a floating-point element its scale exponent (R163). -/
def State.withScale (s : State) (t : Nat) (x : Suit) (w : Want) (o : Opnd) : Step' Opnd :=
  if isFloat w.g.d.elem then andThen (s.scaleAt t x stSleeve w.g w.row w.col) (fun s e => (s, .ok { o with sc := e }))
  else (s, .ok o)

/-- Reads the wanted elements of one row; each comes with its column. -/
def State.fetchRow (s : State) (t : Nat) (x : Suit) (side : Nat) (skip : Bool) (ws : List Want) : Step' (List (Nat × Opnd)) :=
  andThen (each (fun s (p : Img × List Want) =>
      andThen (s.readVals t x side stSleeve p.1 skip (p.2.map (·.idx))) (fun s vs =>
        each (fun s w => andThen (s.withScale t x w ((tfind vs w.idx).getD { v := 0, sc := 0, pocc := 0 }))
          (fun s o => (s, .ok (w.col, o)))) s p.2)) s (wantGroups ws))
    (fun s l => (s, .ok l.flatten))

/-! ## The operand hold (R165) -/

def SuitRun.hold (r : SuitRun) (side : Nat) : List (Nat × Opnd) := if side = 0 then r.holdA else r.holdB

/-- Bits of a stored value. -/
def TDesc.valueBits (d : TDesc) : Nat := if isPlane d.elem then d.width else 8 * tySize d.elem

/-- Whether a side uses the hold: its stored values for the K range take at most 32 KiB. -/
def State.holds (s : State) (t : Nat) (x : Suit) (side : Nat) : Bool :=
  let d := s.sideDesc t x side
  let k := min x.kHi d.nc - x.kLo
  let (n, m) := if d.format = fmtNm then nmRatio d.nmCode else (1, 1)
  x.hold side && !x.isSum && !x.isDot &&
    (d.format == fmtBmap || (x.opRows side 0).2 * (k * n / m) * d.valueBits ≤ 0x40000)

/-- Key of an element in the hold. -/
def holdKey (row col : Nat) : Nat := row * 0x100000000 + col

/-- The values of several rows of a side for operation `o`: row number in the block, with each value's column. A side
that holds the rows of the stage's first tile replays what it has kept. -/
def State.fetchSide (s : State) (t : Nat) (x : Suit) (r : SuitRun) (side o : Nat) (skip : Bool)
    (rows : List (Nat × List Want)) : Step' (SuitRun × List (Nat × List (Nat × Opnd))) :=
  let d := s.sideDesc t x side
  let keep := s.holds t x side && x.opRows side o == x.opRows side 0
  let old := r.hold side
  let held (w : Want) : Option Opnd := if keep && 0 < o then tfind old (holdKey w.row w.col) else none
  andThen (each (fun s (p : Nat × List Want) =>
      andThen (s.fetchRow t x side skip (p.2.filter (fun w => (held w).isNone))) (fun s vs =>
        (s, .ok (p.1, p.2.filterMap (fun w => ((held w).or (tfind vs w.col)).map (fun v => (w.col, v))))))) s rows)
    (fun s got =>
      let fresh : List (Nat × Opnd) := (rows.zip got).flatMap (fun (p, g) => p.2.filterMap (fun w =>
        if (held w).isSome then none else (tfind g.2 w.col).map (fun v => (holdKey w.row w.col, v))))
      let r := if !keep then r
        else
          let h := (old ++ fresh).take (0x40000 / d.valueBits)
          if side = 0 then { r with holdA := h } else { r with holdB := h }
      (s, .ok (r, got)))

/-- A fetched element. -/
def fetched (tab : List (Nat × List (Nat × Opnd))) (i c : Nat) : Option Opnd := (tfind tab i).bind (fun l => tfind l c)

/-! ## What a record needs (R138, R140, R169-R173) -/

/-- The elements of granule `kg` of local row `i` of a side. -/
def State.granWants (s : State) (t : Nat) (x : Suit) (side row kg base off : Nat) : List Want :=
  let d := s.sideDesc t x side
  let cols := (List.range 16).filter (fun e => 16 * kg + e < d.nc)
  if d.format = fmtBmap then
    match s.img t x side d row (16 * kg) with
    | some g => cols.map (fun e => { g := g, idx := base + 16 * off + e, row := row, col := 16 * kg + e })
    | none => []
  else cols.filterMap (fun e =>
    match s.img t x side d row (16 * kg + e) with
    | some g => if g.empty then none else some { g := g, idx := g.dense row (16 * kg + e), row := row, col := 16 * kg + e }
    | none => none)

/-- The elements of a DENSE row at the columns given. -/
def State.denseWants (s : State) (t : Nat) (x : Suit) (side row : Nat) (cols : List Nat) : List Want :=
  let d := s.sideDesc t x side
  if d.nr ≤ row then []
  else (cols.filter (· < d.nc)).filterMap (fun c =>
    match s.img t x side d row c with
    | some g => if g.empty then none else some { g := g, idx := g.dense row c, row := row, col := c }
    | none => none)

/-- The kept values that an NREC names in row `row`, at their columns. -/
def State.nmWants (s : State) (t : Nat) (x : Suit) (row kcol p : Nat) (pos : List Nat) : List Want :=
  let d := s.sideDesc t x 0
  let (n, m) := nmRatio d.nmCode
  match s.img t x 0 d row kcol with
  | some g =>
    if g.empty then []
    else ((List.range pos.length).zip pos).map (fun (j, e) =>
      { g := g, idx := (row - g.r0) * (g.nc / m * n) + (p + j - g.c0 / m * n), row := row, col := kcol + e })
  | none => []

/-- Position lists of an NREC that bring products, by local row. -/
def nmUsed (pos : List (List Nat)) : List Nat := (pos.flatten).eraseDups

/-- The elements of one record and one side, by local row; `pr` is the pair of an element merge. -/
def State.recWants (s : State) (t : Nat) (x : Suit) (side : Nat) (pr : Nat × Nat) (q : SeamRec) : List (Nat × List Want) :=
  let d := s.sideDesc t x side
  let rows := x.validRows d side q.op
  match q.r with
  | .grec kg _ am bm ab bb ao bo =>
    let (m, (b0, b1), off) := if side = 0 then (am, ab, ao) else (bm, bb, bo)
    rows.filterMap (fun (i, row) => if m.testBit i then
      some (i, s.granWants t x side row kg (if i < 16 then b0 else b1) (off.getD i 0)) else none)
  | .nrec kcol p zero pos =>
    if zero then []
    else if side = 0 then rows.map (fun (i, row) => (i, s.nmWants t x row kcol p (pos.getD i [])))
    else
      let cols := (List.range 32).filter (fun e => (nmUsed pos).contains e)
      rows.map (fun (i, row) => (i, s.denseWants t x 1 row (cols.map (kcol + ·))))
  | .erec a b col =>
    match if side = 0 then a else b with
    | none => []
    | some idx =>
      let row := if side = 0 then pr.1 else pr.2
      match s.img t x side d row col with
      | some g => [(0, [{ g := g, idx := idx, row := row, col := col }])]
      | none => []

/-- Joins the elements of several records row by row, each column once. -/
def joinWants (ls : List (List (Nat × List Want))) : List (Nat × List Want) :=
  (List.range 32).filterMap (fun i =>
    let ws := ls.flatMap (fun l => (tfind l i).getD [])
    if ws = [] then none else some (i, ws.foldl (fun (acc : List Want) w =>
      if acc.any (fun v => v.col == w.col) then acc else acc ++ [w]) []))

/-- The sequence positions that a record feeds, once its values are there. -/
def Suit.slicesOf (x : Suit) (nc : Nat) (ta tb : List (Nat × List (Nat × Opnd))) (scalar : Opnd) (q : SeamRec) : List Slice :=
  let na := if x.isUnion then 32 else x.tm
  let nb := if x.isUnion then 32 else x.tn
  match q.r with
  | .grec kg null _ _ _ _ _ _ =>
    if null then []
    else ((List.range 16).filter (fun e => 16 * kg + e < nc)).map (fun e =>
      { a := (List.range na).map (fun i => fetched ta i (16 * kg + e)),
        b := (List.range nb).map (fun j => [fetched tb j (16 * kg + e)]), pos := [] })
  | .nrec kcol _ zero pos =>
    let n := ((pos.map List.length).foldl max 0)
    let span := (nmUsed pos).foldl max 0 + 1
    (List.range (max 1 n)).map (fun j =>
      { a := (List.range na).map (fun i => if zero then none else ((pos.getD i [])[j]?).bind (fun e => fetched ta i (kcol + e))),
        b := (List.range nb).map (fun i => (List.range span).map (fun e => fetched tb i (kcol + e))),
        pos := (List.range na).map (fun i => (pos.getD i []).getD j 0) })
  | .erec _ _ col => [{ a := [fetched ta 0 col], b := [[fetched tb 0 col], [some scalar]], pos := [] }]

/-- First column of a record. -/
def SeamRec.col (q : SeamRec) : Nat :=
  match q.r with
  | .grec kg _ _ _ _ _ _ _ => 16 * kg
  | .nrec kcol _ _ _ => kcol
  | .erec _ _ col => col

def SeamRec.null (q : SeamRec) : Bool :=
  match q.r with
  | .grec _ n _ _ _ _ _ _ => n
  | _ => false

/-- Products of a ZERO record: all rows EMPTY leave no positions to count. -/
def State.zeroCount (s : State) (t : Nat) (x : Suit) (q : SeamRec) : Nat :=
  let d := s.sideDesc t x 0
  let (n, m) := nmRatio d.nmCode
  match q.r with
  | .nrec _ p _ _ => min (s.nmCount t x) (min x.kHi d.nc * n / m - p)
  | _ => 0

/-- Delivers the records `qs`, all of one operation. -/
def State.fetchRecs (s : State) (t : Nat) (x : Suit) (r : SuitRun) (qs : List SeamRec) : Step' SuitRun :=
  let o := (qs.map (·.op)).headD 0
  let merge := x.isDot || x.isMerge
  andThen (if merge then s.pairAt t x stSleeve o else (s, .ok (0, 0))) (fun s pr =>
    andThen (if x.isMerge then andThen (s.slotRead t x stSleeve (x.scalars + 2 * o) 2) (fun s bs => (s, .ok (leNat bs)))
      else (s, .ok 0)) (fun s k =>
    let side (s : State) (r : SuitRun) (j : Nat) : Step' (SuitRun × List (Nat × List (Nat × Opnd))) :=
      s.fetchSide t x r j o (!merge) (joinWants (qs.map (s.recWants t x j pr)))
    andThen (side s r 0) (fun s (r, ta) => andThen (side s r 1) (fun s (r, tb) =>
      let nc := (s.sideDesc t x 0).nc
      let fed := qs.map (fun q =>
        let ss := x.slicesOf nc ta tb { v := k, sc := 0, pocc := 0 } q
        let ss := match q.r, ss with
          | .nrec _ _ true _, z :: _ => List.replicate (s.zeroCount t x q) z
          | _, _ => ss
        ({ op := q.op, last := q.last, col := q.col, null := q.null, slices := ss } : FedRec))
      (s, .ok { r with fed := r.fed ++ fed })))))

/-! ## Blocks (R285) -/

/-- The K block of a record. -/
def SeamRec.block (q : SeamRec) : Nat := q.col / 256

/-- The next block of a suit with a SEAM stage: the records formed and not yet fed, of one operation and K block. -/
def State.fetchSparse (s : State) (t : Nat) (x : Suit) (r : SuitRun) : Step' SuitRun :=
  match (r.hand ++ r.pend).drop r.fed.length with
  | [] => (s, .ok r)
  | q :: rest => s.fetchRecs t x r (q :: rest.takeWhile (fun p => p.op == q.op && p.block == q.block))

/-- Cuts columns at chunks of 128 counted from K_LO. -/
def chunkCuts (lo : Nat) (cols : List Nat) : List (List Nat) :=
  let ks := (cols.map (fun c => (c - lo) / 128)).eraseDups
  ks.map (fun k => cols.filter (fun c => (c - lo) / 128 == k))

/-- The next block of a DENSE tile. -/
def State.fetchDense (s : State) (t : Nat) (x : Suit) (r : SuitRun) : Step' SuitRun :=
  if x.tiles ≤ r.fOp then (s, .ok r)
  else
    let o := r.fOp
    let lo := x.kLo + r.fPos
    let hi := min x.kHi (lo / 256 * 256 + 256)
    let cols := (List.range (hi - lo)).map (lo + ·)
    let wants (s : State) (side : Nat) : List (Nat × List Want) :=
      (x.validRows (s.sideDesc t x side) side o).map (fun (i, row) => (i, s.denseWants t x side row cols))
    andThen (s.fetchSide t x r 0 o true (wants s 0)) (fun s (r, ta) =>
      andThen (s.fetchSide t x r 1 o true (wants s 1)) (fun s (r, tb) =>
        let slice (c : Nat) : Slice :=
          { a := (List.range x.tm).map (fun i => fetched ta i c), b := (List.range x.tn).map (fun j => [fetched tb j c]), pos := [] }
        let last := x.kHi ≤ hi
        let runs := match chunkCuts x.kLo cols with
          | [] => [[]]
          | l => l
        let fed := runs.map (fun cs =>
          ({ op := o, last := false, col := cs.headD lo, null := false, slices := cs.map slice } : FedRec))
        let fed := match fed.getLast? with
          | some f => fed.dropLast ++ [{ f with last := last }]
          | none => fed
        (s, .ok { r with fed := r.fed ++ fed, fOp := if last then o + 1 else o, fPos := if last then 0 else hi - x.kLo })))

def State.fetchStep (s : State) (t : Nat) (x : Suit) : Step' SuitRun :=
  if x.has stSeam then s.fetchSparse t x x.run else s.fetchDense t x x.run

/-- Bits of one side's values in the buffer; a side under HOLD takes no room (R285). -/
def fedBits (d : TDesc) (side : Nat) (fed : List FedRec) : Nat :=
  d.valueBits * ((fed.flatMap (·.slices)).map (fun z =>
    if side = 0 then (z.a.filter Option.isSome).length else (((z.b.map (fun l => l.filter Option.isSome)).map List.length)).sum)).sum

/-- Both sides of the buffer, 16 KiB each, have room for what `r` adds. -/
def State.fedFits (s : State) (t : Nat) (x : Suit) (fed : List FedRec) : Bool :=
  (List.range 2).all (fun side => x.hold side || fedBits (s.sideDesc t x side) side fed ≤ 0x20000)

/-- FETCH_BLOCK (R285): one block of the suit that FETCH serves, when the buffer has room for it. -/
def execFetchBlock (t : TileId) (s : State) : Host.Outcome State Fault Refusal :=
  .next (match s.nextSuit t (fun x => x.has stFetch && !x.fetchDone) with
  | none => s
  | some (i, x) =>
    if !x.bound then s
    else match s.fetchStep t x with
      | (s', .ok r) => if x.run.fed = [] ∨ s'.fedFits t x r.fed then s'.putRun t i x r else s
      | (s', .error f) => keepRun t i x (s', .error f))

end Sys2Proof.Machine
end

