-- ==== Sys2Proof/Machine/Load.lean ====
section
/-! DEFINITION. The commands of the loader (R45-R52, R451). -/

namespace Sys2Proof.Machine

/-- STRUCT_LOAD_START (R46, R47). -/
def execStructLoadStart (p : PartId) (s : State) : Host.Outcome State Fault Refusal :=
  .next (s.writeStart p.val)

/-- A load of a spare is as long as the image of record that has been sent. -/
def Load.sized (l : Load) (img : List Byte) : Load := if l.restore then { l with len := img.length } else l

/-- IMAGE_CHECKS_PASSED (R48). Step 8 waits for the power domains of the panels that the image names (R503). -/
def execImageChecksPassed (img : List Byte) (commits : List CommitRec) (s : State) : Host.Outcome State Fault Refusal :=
  .next (match s.loading with
    | none => s
    | some l =>
      let l := l.sized img
      let b := s.sourceImage l img
      if s.loadState = loadChecking ∧ l.image = [] ∧ l.charged = false ∧ s.readable l b = true ∧ s.verdict l b = none then
        if s.domainsOn b.domains then State.settleCmds (s.passLoad l b (if l.restore then commits else []))
        else s.wakeDomains b.domains
      else s)

/-- A load to whose slot a fault has been charged is refused (R542); no rule names the reason. -/
def State.refuseCharged (s : State) (l : Load) : State :=
  let (w, s) := s.freeW
  let (o, s) := s.freeW
  (s.clearShortfall).refuseLoad l (fieldOf w 0 8) (fieldOf w 8 8) o.toNat false

/-- IMAGE_REJECTED (R49). -/
def execImageRejected (img : List Byte) (s : State) : Host.Outcome State Fault Refusal :=
  .next (match s.loading with
    | none => s
    | some l =>
      let l := l.sized img
      let b := s.sourceImage l img
      if l.charged then (s.refuseCharged l).settleCmds
      else if s.loadState = loadChecking ∧ l.image = [] ∧ s.readable l b = true then
        match s.verdict l b with
        | some r => (s.rejectLoad l b r).settleCmds
        | none => s
      else s)

/-- IMAGE_APPLY (R51): the fields, and once every bank group is ON the bodies; a restore load then applies its commit
records in order (R451). -/
def execImageApply (s : State) : Host.Outcome State Fault Refusal :=
  .next (match s.loading with
    | none => s
    | some l =>
      let q := l.part
      let b : Image := ⟨l.image⟩
      if s.loadState = loadApplying ∧ l.image ≠ [] ∧ l.applied = false ∧ l.charged = false ∧ (s.slot q).resetting = false then
        let s := if (s.slot q).tiles = 0 then s.applyFields q b else s
        if s.groupsUp q then
          let s := s.placeBodies b l.restore
          let s := if l.restore then s.applyCommits l.commits else s
          { s with loading := some { l with applied := true } }
        else s
      else s)

/-- IMAGE_APPLIED (R51, R477): windows open, the image of record is kept, and the slot is READY; a spare goes on
receiving. -/
def execImageApplied (s : State) : Host.Outcome State Fault Refusal :=
  .next (match s.loading with
    | none => s
    | some l =>
      let q := l.part
      let b : Image := ⟨l.image⟩
      if l.applied = false then s
      else if l.charged then (s.refuseCharged l).settleCmds
      else
        let s := s.openWindows b false
        let s := s.wr (Reg.structCommitDirty q) 0
        let x := s.slot q
        let s := s.setSlot q { x with
          state := if l.restore then .restoring else .ready, image := l.image, commits := l.commits,
          mset := s.regionList q, epoch := if l.restore then x.decided.getD 0 else 0,
          fault := 0, faultSub := 0, faultUnit := 0, faultModule := 0, faultStep := 0 }
        let s := if l.restore then
            (s.setFld (Reg.mirrorStatus q) 0 16 (x.decided.getD 0)).wr (Reg.mirrorEpochStep q) (BitVec.ofNat 32 x.epochStep)
          else s
        (s.setLoad loadDone 0 0 (s.fld Reg.structLoadStatus 5 2)).endLoad.settleCmds)

end Sys2Proof.Machine
end

