-- ==== Sys2Proof/Machine/Mesh.lean ====
section
/-! DEFINITION. Windows, the checks of remote accesses, locks and arbitration (spec 12). -/

namespace Sys2Proof.Machine

/-! ## Windows -/

/-- WIN_CTRL_OPEN. -/
def execWinCtrlOpen (t : TileId) (w : WinId) (u : Requester) (s : State) : Host.Outcome State Fault Refusal :=
  .next (s.ctl (Reg.winCtrl t w) (fun s => s.openWindow u t w))

/-- WIN_CTRL_CLOSE. -/
def execWinCtrlClose (t : TileId) (w : WinId) (s : State) : Host.Outcome State Fault Refusal :=
  .next (s.ctl (Reg.winCtrl t w) (fun s => s.closeWindow t w))

/-- OPENING_ACCESS: the oldest request for the tile, when it is an opening access, is checked (R367). -/
def execOpeningAccess (t : TileId) (e : FlitErr) (s : State) : Host.Outcome State Fault Refusal :=
  match takeFor t s.net with
  | some (p, rest) => .next (if p.tagged then s else State.arriveAt { s with net := rest } t p e)
  | none => .next s

/-- TAGGED_ACCESS: the oldest request for the tile, when it is tagged, is checked (R368). -/
def execTaggedAccess (t : TileId) (e : FlitErr) (s : State) : Host.Outcome State Fault Refusal :=
  match takeFor t s.net with
  | some (p, rest) => .next (if p.tagged then State.arriveAt { s with net := rest } t p e else s)
  | none => .next s

/-! ## Locks -/

/-- LKACQ (R334, R376-R378, R381): by the task whose instruction it is, or by a Collar core. -/
def execLkacq (u : LockReq) (s : State) : Host.Outcome State Fault Refusal :=
  match u with
  | .task t k => .next (s.issue t k (code 0x38 0x040) (fun w s =>
      let l := (s.opA t k w).toNat % 128
      s.acquire l (.task t k) (fun s sub => s.refuseLock l (.task t k) sub)
        (fun s st => s.setRd t k w (BitVec.ofNat 32 st)) (fun s => s.wait t k 7)))
  | .collar c l => .next (s.acquire l (.collar c) (fun s sub => s.refuseLock l (.collar c) sub)
      (fun s st => { s with reply := leBytes 4 st }) id)

/-- LKREL (R334, R379, R381). -/
def execLkrel (u : LockReq) (s : State) : Host.Outcome State Fault Refusal :=
  match u with
  | .task t k => .next (s.issue t k (code 0x38 0x041) (fun w s =>
      let s := s.releaseLock ((s.opA t k w).toNat % 128) (.task t k)
      if s.taskOver t k then s else s.complete t k))
  | .collar c l => .next (s.releaseLock l (.collar c))

/-- LOCK_GRANT: a FREE or ORPHANED lock passes to its first waiter, whose LKACQ completes (R378). -/
def execLockGrant (l : LockId) (s : State) : Host.Outcome State Fault Refusal :=
  match s.waiters l with
  | [] => .next s
  | u :: us =>
    if s.lockStateOf l == lockHeld then .next s
    else
      let (s, st) := (s.setWaiters l us).takeLock l u
      .next (match u with
        | .task t k => if s.taskOver t k then s else s.setRd t k (s.fetch t k) (BitVec.ofNat 32 st)
        | .collar _ => { s with reply := leBytes 4 st })

/-- LOCK_LEASE_EXPIRE (R380). -/
def execLockLeaseExpire (l : LockId) (s : State) : Host.Outcome State Fault Refusal :=
  if s.lockStateOf l == lockHeld && s.rd (Reg.lockLease (l / 32) (l % 32)) != 0xFFFFFFFF then
    let o := s.fld (lockReg l) 0 10
    let collar := s.bit (lockReg l) 16
    let s := s.orphanLock l 2
    let info := (s.rd (Reg.lockErrInfo (l / 32))).toNat
    .next (if collar then s.recordOnly 0x0C 7 0 none none 0 info 0 0
      else s.warnTask (o / 4) (o % 4) 0x0C 2 7 0 true 0 info 0)
  else .next s

/-- LOCK_CTRL.ORPHAN (R377). -/
def State.forceOrphan (s : State) (l : Nat) : State := if s.lockStateOf l == lockHeld then s.orphanLock l 3 else s

/-- LOCK_CTRL_ORPHAN. -/
def execLockCtrlOrphan (p : PanelId) (i : Fin 32) (s : State) : Host.Outcome State Fault Refusal :=
  .next (s.ctl (Reg.lockCtrl p) (fun s => s.forceOrphan (32 * p + i)))

/-! ## Arbitration and counters -/

/-- ARBITRATION_ROUND: the requests raised at one arbiter in one round. -/
def execArbitrationRound (site : ArbSite) (reqs : List ArbReq) (ms : Nat) (s : State) : Host.Outcome State Fault Refusal :=
  .next (s.arbRound site reqs ms)

/-- The counters that WIN_CTR_CLEAR clears. -/
def winCtrs (t : Nat) : List Nat :=
  [Reg.winStatAdmitted t, Reg.winStatRefused t, Reg.creditStatGrants t, Reg.creditStatRefused t]

/-- WIN_CTR_CLEAR.ALL (R394). -/
def execWinCtrClearAll (t : TileId) (s : State) : Host.Outcome State Fault Refusal :=
  .next (s.ctl (Reg.winCtrClear t) (fun s => s.clear (winCtrs t.val)))

/-- The counters that WIN_CTR_CLEAR clears. -/
def winStarveCtrs (t : Nat) : List Nat :=
  [Reg.arbStarveCount t]

/-- WIN_CTR_CLEAR.STARVE (R394). -/
def execWinCtrClearStarve (t : TileId) (s : State) : Host.Outcome State Fault Refusal :=
  .next (s.ctl (Reg.winCtrClear t) (fun s => s.clear (winStarveCtrs t.val)))

/-- The counters that LOCK_CTR_CLEAR clears. -/
def lockCtrs (p : Nat) : List Nat :=
  [Reg.lockStatOrphan p, Reg.lockStatAcq p]

/-- LOCK_CTR_CLEAR.ALL (R394). -/
def execLockCtrClear (p : PanelId) (s : State) : Host.Outcome State Fault Refusal :=
  .next (s.ctl (Reg.lockCtrClear p) (fun s => s.clear (lockCtrs p.val)))

/-- The counters that MESH_CTR_CLEAR clears. -/
def meshCtrs : List Nat :=
  [Reg.meshStarveCount, Reg.meshStatCe]

/-- MESH_CTR_CLEAR.ALL (R394). -/
def execMeshCtrClear (s : State) : Host.Outcome State Fault Refusal :=
  .next (s.ctl Reg.meshCtrClear (fun s => s.clear meshCtrs))

end Sys2Proof.Machine
end

