-- ==== Sys2Proof/Machine/Mirror.lean ====
section
/-! DEFINITION. The commands of the job's barrier (R343, R423), of mirror epochs (R441-R443) and of restarts
(R446-R458), and the messages of the mirror link (R452). -/

namespace Sys2Proof.Machine

/-! ## The barrier -/

/-- LAYER_BARRIER_RELEASE (R343, R344): once its conditions hold the module arrives, and it releases its tasks when the
job has released the point. -/
def execLayerBarrierRelease (q : PartId) (s : State) : Host.Outcome State Fault Refusal :=
  .next (s.barrier q.val).settleCmds

/-- BARRIER_ARRIVE (R423, R424). -/
def execBarrierArrive (place : PktAt) (s : State) : Host.Outcome State Fault Refusal :=
  .next (s.onPacket place (fun p => p.kind == 0x21) (fun p s =>
    match s.jobPart p with
    | none => s
    | some q =>
      let x := s.slot q
      let b : BarMsg := { src := p.srcModule, step := p.addr % 0x100000000, count := p.addr / 0x100000000, aux := p.aux }
      (s.setSlot q { x with kids := x.kids.filter (fun k => k.src != b.src) ++ [b] }).barrier q)).settleCmds

/-- BARRIER_RELEASE (R423, R443, R458, R470). -/
def execBarrierRelease (place : PktAt) (s : State) : Host.Outcome State Fault Refusal :=
  .next (s.onPacket place (fun p => p.kind == 0x22) (fun p s =>
    match s.jobPart p with
    | none => s
    | some q => s.onRelease q p.aux)).settleCmds

/-! ## Epochs -/

/-- EPOCH_BOUNDARY (R443): the boundary goes on by one stage. -/
def execEpochBoundary (q : PartId) (s : State) : Host.Outcome State Fault Refusal :=
  .next (s.epochStep q.val).settleCmds

/-- BEFORE_IMAGE_COPY (R441). -/
def execBeforeImageCopy (page : Nat) (s : State) : Host.Outcome State Fault Refusal :=
  .next (s.beforeImage page)

/-- The partition becomes PREPARED as soon as it can. -/
def State.prepare (s : State) (q : Nat) : State := if (s.slot q).phase = 2 then s.epochStep q else s

/-- PAGE (R436, R451, R452): in the mirror area, or at a spare in its place. -/
def execPage (place : PktAt) (s : State) : Host.Outcome State Fault Refusal :=
  .next (
    if (s.receiving.map s.pageWaits).getD false then s
    else State.settleCmds (s.onPacket place (fun p => p.kind == 0x04) (fun p s =>
      match s.receiving, s.jobPart p with
      | some q, _ => (s.restorePage place q p).tryRestored q
      | none, some q => (s.landPage place q p).prepare q
      | none, none => s.pageReply place p 0x13 0x10)))

/-- A message of R452 with code `c`. -/
def isMsg (c : Nat) (p : Packet) : Bool := p.kind == 0x31 && p.aux % 256 == c

/-- EPOCH_SENT (R443). -/
def execEpochSent (place : PktAt) (s : State) : Host.Outcome State Fault Refusal :=
  .next (s.onPacket place (isMsg 0x01) (fun p s =>
    match s.jobPart p with
    | none => s
    | some q =>
      let s := s.setSlot q { s.slot q with peerSent := some (p.addr % 65536, p.addr / 0x100000000) }
      (s.tryLanded q).prepare q)).settleCmds

/-- EPOCH_LANDED (R443). -/
def execEpochLanded (place : PktAt) (s : State) : Host.Outcome State Fault Refusal :=
  .next (s.onPacket place (isMsg 0x02) (fun p s =>
    match s.jobPart p with
    | none => s
    | some q =>
      if (s.slot q).phase = 2 ∧ p.addr % 65536 = s.nextEpoch q then
        (s.setSlot q { s.slot q with gotLanded := true }).prepare q
      else s)).settleCmds

/-- ACK: an acknowledgement, of a page among others; a restore goes on once its pages have landed (R451). -/
def execAck (place : PktAt) (s : State) : Host.Outcome State Fault Refusal :=
  .next (s.onPacket place (fun p => p.kind == 0x12) (fun p s =>
    (List.range 8).foldl State.restoreNext (s.pageAnswered p)))

/-! ## Stops -/

/-- The class of a code as R536 gives it. -/
def codeClass (c : Nat) : Nat :=
  if [0x09, 0x0C, 0x13, 0x15, 0x19].contains c then 0
  else if [0x0D, 0x0E, 0x17, 0x18].contains c then 2
  else if c = 0x14 then 3 else 1

/-- The record of a stop learned from another module (R447, R539). -/
def State.remoteRecord (s : State) (q : Option Nat) (code cls module ctx : Nat) : State :=
  s.pushRec { s.record code cls 16 0 none q none 0 ctx 0 with module := module }

/-- LOST (R447): one record, and for every partition of a job shared with the partner a stop that is passed on. -/
def execLost (place : PktAt) (s : State) : Host.Outcome State Fault Refusal :=
  .next (s.onPacket place (isMsg 0x03) (fun p s =>
    let code := if p.addr % 256 = 0 then 0x0D else p.addr % 256
    let cls := codeClass code
    let m := p.srcModule
    let qs := s.loaded.filter (fun q => s.inJob q m)
    let seq := s.nextSeq
    let s := s.remoteRecord qs.head? code cls m p.addr
    qs.foldl (fun s q =>
      let s := (s.beginStop q (some (code, 0, 16, m)) true).addLost q m
      s.sendJobStop q code cls m seq [m]) s)).settleCmds

/-- JOB_STOP (R539, R541). A class M stop loses its module. -/
def execJobStop (place : PktAt) (s : State) : Host.Outcome State Fault Refusal :=
  .next (s.onPacket place (isMsg 0x10) (fun p s =>
    let code := p.addr % 256
    let cls := p.addr / 256 % 4
    let m := p.addr / 65536 % 2048
    let q := s.jobPart p
    let s := s.remoteRecord q code cls m p.addr
    match q with
    | none => s
    | some q =>
      let s := s.beginStop q (some (code, 0, 16, m)) true
      if cls = 3 then s.addLost q m else s)).settleCmds

/-- MIRROR_PORTS_DOWN_TIMEOUT: the partner is lost (R446). -/
def execMirrorPortsDownTimeout (s : State) : Host.Outcome State Fault Refusal :=
  .next (
    if s.mirrorPorts ≠ [] then s
    else State.settleCmds ((s.loaded.filter (fun q => s.inJob q s.partner)).foldl (fun s q =>
      let x := s.slot q
      if x.going then (s.linkFail q 1 s.partner 0x50 0).addLost q s.partner
      else if x.state == .restoring && !x.lost.contains s.partner then
        (s.setSlot q { x with restart := min 3 x.restart }).addLost q s.partner
      else s) s))

/-- COORDINATOR_ANSWER_TIMEOUT (R446). -/
def execCoordinatorAnswerTimeout (q : PartId) (m : Fin 2048) (s : State) : Host.Outcome State Fault Refusal :=
  .next (
    let x := s.slot q
    if x.state == .restoring && x.restart == 1 && s.coordinator q && s.inJob q m && !s.isMe m then
      State.settleCmds (s.addLost q.val m.val)
    else s)

/-! ## Restart -/

/-- The decision of step 2 for a partition: the epoch, and ROLLBACK. A restore in progress goes on (R455). -/
def State.decide (s : State) (q e : Nat) : State :=
  let x := s.slot q
  if x.state == .restoring && x.restart != 5 then
    (s.setSlot q { x with decided := some e, restart := 2 }).setMirror q 4
  else s

/-- EPOCH_DECISION (R448 step 2, R540): made by the coordinator, or received. A decision already made stands. -/
def execEpochDecision (q : PartId) (d : Decision) (s : State) : Host.Outcome State Fault Refusal :=
  .next (
    let x := s.slot q
    if x.state != .restoring || x.restart == 0 then s
    else
      let n := s.nextEpoch q
      match d with
      | .collected epochs lost =>
        if !s.coordinator q then s
        else
          let s := s.addAllLost q lost
          let own := if x.atStart then 65535 else x.epoch
          let e := x.decided.getD (if epochs.any (fun m => m.2 == n && !(s.slot q).lost.contains m.1) then n else own)
          (s.decide q e).settleCmds
      | .received e lost f =>
        let s := s.addAllLost q lost
        let s := s.setSlot q { s.slot q with fault := f.code, faultSub := f.sub, faultUnit := f.unit, faultModule := f.module,
                                             faultStep := f.step }
        (s.decide q (x.decided.getD e)).settleCmds)

/-- ROLLBACK_DONE (R448 step 3). -/
def execRollbackDone (q : PartId) (s : State) : Host.Outcome State Fault Refusal :=
  .next (
    let x := s.slot q
    match x.decided with
    | some e => if x.state == .restoring && x.restart == 2 then (s.rollback q e).afterRollback q else s
    | none => s)

/-- The spares that the coordinator finds eligible (R449), rising: IDs of MIRROR_SPARE outside the job. -/
def State.spares (s : State) (q : Nat) (l : List SpareInfo) : List Nat :=
  let ids := (List.range 16).filterMap (fun i =>
    if s.bit (Reg.mirrorSpare q i) 31 then some (s.fld (Reg.mirrorSpare q i) 0 11) else none)
  (List.range 2048).filter (fun m => ids.contains m && l.any (fun c => c.id == m && c.eligible))

/-- SPARE_RETRY (R448 step 4, R449, R450). -/
def execSpareRetry (q : PartId) (f : SpareFind) (s : State) : Host.Outcome State Fault Refusal :=
  .next (State.settleCmds (match f with
    | .found l =>
      if s.coordinator q && (s.slot q).restart == 3 then
        let lost := (List.range 2048).filter (fun m => (s.slot q).lost.contains m)
        let sp := s.spares q l
        if sp.length < lost.length then s.noSpare q else s.takeSpares q (lost.zip sp)
      else s
    | .told [] => s.noSpare q
    | .told c => s.takeSpares q c))

/-- MIRROR_RECONNECT_TIMEOUT (R450, R456). -/
def execMirrorReconnectTimeout (q : PartId) (s : State) : Host.Outcome State Fault Refusal :=
  .next (if (s.slot q).restart = 4 ∧ s.mirrorPorts = [] then s.mirrorFail q 4 s.partner else s)

/-- LINK_TRAINING_DONE (R401). The mirror ports of a partner that waits for its spare are up: the restore begins. -/
def execLinkTrainingDone (p : PortId) (s : State) : Host.Outcome State Fault Refusal :=
  .next (
    let s := s.trained p
    if 16 ≤ p.val ∧ s.portState p = portActive then
      (List.range 8).foldl (fun s q => if (s.slot q).restart = 4 ∧ (s.slot q).state = .restoring then s.beginRestore q else s) s
    else s)

/-- RESTORE_BEGIN at a spare (R451): the slot shows RESTORING, and the loader takes the restore load. `step` is the STEP
of the decided epoch. It waits while the loader is busy. -/
def execRestoreBegin (place : PktAt) (q : PartId) (step : Word) (s : State) : Host.Outcome State Fault Refusal :=
  .next (
    if s.loading.isSome then s
    else s.onPacket place (isMsg 0x04) (fun p s =>
      let x := s.slot q
      if s.bit Reg.mirrorAlias 31 && x.tiles == 0 && !x.resetting then
        let e := p.addr % 65536
        let s := s.setSlot q { x with state := .restoring, restart := 5, decided := some e, epochStep := step.toNat,
                                      pagesIn := 0, peerSent := none, lost := [] }
        let s := (s.setFld (Reg.structLoadCtrl) 1 3 q).setLoad loadChecking 0 0 0
        State.setMirror { s with loading := some { part := q, restore := true, addr := gaHbm s.ownId 0, len := 0,
                                                   prior := x.state, image := [], commits := [], applied := false,
                                                   charged := false } } q 6
      else s))

/-- RESTORE_DONE (R451): the spare answers once every page has landed; the partner goes on to the restart barrier. -/
def execRestoreDone (place : PktAt) (s : State) : Host.Outcome State Fault Refusal :=
  .next (s.onPacket place (isMsg 0x05) (fun p s =>
    match s.receiving with
    | some q => (s.setSlot q { s.slot q with peerSent := some (0, p.addr / 0x100000000) }).tryRestored q
    | none =>
      match s.jobPart p with
      | none => s
      | some q =>
        let x := s.slot q
        if x.restart = 5 ∧ x.gotLanded = true then
          ((s.setSlot q { x with lost := x.lost.filter (fun m => m != s.partner), sendAll := true, gotLanded := false,
                                 pagesSent := 0 }).setMirror q 4).toBarrier q
        else s))

/-- RESTART_BARRIER_RELEASE (R448 step 7). A job that had not committed epoch 0 stands at its start barrier again. -/
def execRestartBarrierRelease (q : PartId) (s : State) : Host.Outcome State Fault Refusal :=
  .next (
    let x := s.slot q
    if x.state == .restoring && x.restart == 6 then
      let s := s.setSlot q { x with
        state := .running, restart := 0, lost := [], decided := none, stoppedBy := 0, barriers := if x.atStart then 0 else 1,
        epochNext := !x.atStart, kids := [], arrivedUp := false, released := none, served := false,
        sendAll := x.sendAll || x.atStart }
      let s := (s.count (Reg.mirrorStatRestarts q) 1).setMirror q 1
      State.settleCmds (if x.atStart then s else s.startAll q)
    else s)

/-- A planned restart of the job of partition `q` is requested here (R458). -/
def State.askPlanned (s : State) (q : Nat) : State :=
  if (s.slot q).tiles = 0 then s else s.setSlot q { s.slot q with planned := true }

/-- The counters that MIRROR_CTR_CLEAR clears. -/
def mirrorCtrs (q : Nat) : List Nat := [Reg.mirrorStatPages q, Reg.mirrorStatCommits q, Reg.mirrorStatRestarts q]

/-- MIRROR_CTRL_PLANNED (R458). -/
def execMirrorCtrlPlanned (q : PartId) (s : State) : Host.Outcome State Fault Refusal := .next (s.askPlanned q.val)

/-- MIRROR_CTR_CLEAR (R463). -/
def execMirrorCtrClear (q : PartId) (s : State) : Host.Outcome State Fault Refusal :=
  .next (s.clear (mirrorCtrs q.val))

end Sys2Proof.Machine
end

