-- ==== Sys2Proof/Machine/Placket.lean ====
section
/-! DEFINITION. The Placket unit (spec 08): ring operations, descriptors, transfers, writes, cancellation, the answers to
its remote accesses, the accumulates it performs for others, and the Cuff instructions that use its queues. -/

namespace Sys2Proof.Machine

/-! ## PLACKET_Q_CTRL -/

/-- PLACKET_Q_CTRL_RELEASE. -/
def execPlacketQCtrlRelease (t : TileId) (q : QueueId) (n : Nat) (u : Requester) (s : State) :
    Host.Outcome State Fault Refusal :=
  .next (s.ctl (Reg.placketQCtrl t q) (fun s => s.ringWrite u t q (n % 32) State.release))

/-- PLACKET_Q_CTRL_COMMIT. -/
def execPlacketQCtrlCommit (t : TileId) (q : QueueId) (n : Nat) (u : Requester) (s : State) :
    Host.Outcome State Fault Refusal :=
  .next (s.ctl (Reg.placketQCtrl t q) (fun s => s.ringWrite u t q (n % 32) State.commit))

/-- PLACKET_Q_CTRL_CANCEL (R264). -/
def execPlacketQCtrlCancel (t : TileId) (q : QueueId) (s : State) : Host.Outcome State Fault Refusal :=
  .next (s.ctl (Reg.placketQCtrl t q) (fun s => s.reqCancel t q))

/-- The counters that PLACKET_CTR_CLEAR clears. -/
def placketCtrs (t : Nat) : List Nat :=
  [Reg.placketStatRd t, Reg.placketStatWr t, Reg.placketStatRemoteIn t, Reg.placketStatMerged t,
    Reg.placketStatNocredit t, Reg.placketStatLimit t, Reg.placketStatAgpInstr t, Reg.placketStatStaged t]

/-- PLACKET_CTR_CLEAR.ALL (R270). -/
def execPlacketCtrClear (t : TileId) (s : State) : Host.Outcome State Fault Refusal :=
  .next (s.ctl (Reg.placketCtrClear t) (fun s => s.clear (placketCtrs t.val)))

/-! ## Descriptors and transfers -/

/-- The first free generator context. -/
def State.freeCtxOf (s : State) (t : Nat) : Option Nat :=
  (List.range 4).find? (fun i => (tfind (s.tile t).ctxs i).isNone)

/-- A new context with a copy of the descriptor's program and its initial registers (R259, R260). -/
def State.newCtx (s : State) (t q : Nat) (d : Desc) : AgpCtx :=
  { queue := q, prog := (List.range d.progLen).map (fun i => s.rd (Reg.placketProg t (d.progStart + i))),
    regs := (List.range 8).map (fun i => BitVec.ofNat 32 (d.init i)), pc := 0, lines := List.replicate 4 none,
    bases := (List.range 4).map d.base }

/-- DESCRIPTOR_START (R240, R253, R259, R340): the descriptor at the head of the FIFO starts, unless a fence, a running
staging buffer, busy contexts or a pending output range holds it there. -/
def execDescriptorStart (t : TileId) (q : QueueId) (s : State) : Host.Outcome State Fault Refusal :=
  let x := s.queue t q
  match x.fifo, x.run with
  | d :: rest, none =>
    if s.qCancelling t q || x.cancelReq then .next s
    else if d.fence && !(x.writes.isEmpty && x.merge.isNone) then .next s
    else if s.inPlace t q d && (s.tile t).stagingBy.isSome then .next s
    else if s.sbMode t && !d.agp && d.srcLocal && !s.srcRing t q && d.total != 0 &&
        s.sbOverlap t (s.srcFoot t q d).lo.toNat ((s.srcFoot t q d).hi - (s.srcFoot t q d).lo).toNat d.entries then
      .next (s.sbWaitCycle t)
    else
      let first := if s.qMode t q = 1 then s.qTail t q else s.qHead t q
      let start (s : State) (ctx : Option Nat) : State :=
        let staged := s.inPlace t q d
        let run : Run := { desc := d, first := first, pos := 0, ctx := ctx, emitted := [], ended := !d.agp && d.total == 0,
                           staged := staged, staging := [] }
        let s := s.setQueue t q { x with fifo := rest, run := some run }
        let s := if staged then (s.setTile t { s.tile t with stagingBy := some q.val }).count (Reg.placketStatStaged t) 1 else s
        s.finishRun t q
      if d.agp then
        match s.freeCtxOf t with
        | none => .next s
        | some i =>
          let s' := s.setTile t { s.tile t with ctxs := tset (s.tile t).ctxs i (s.newCtx t q d) }
          .next (start (s'.setBit (Reg.placketStatus t) (16 + i) true) (some i))
      else .next (start s none)
  | _, _ => .next s

/-- TRANSFER_ISSUE (R239, R245, R246): the running descriptor's next transfer is issued when the ring, the outstanding
limit and the grants let it; a cycle held by a credit or the limit is counted. -/
def execTransferIssue (t : TileId) (q : QueueId) (s : State) : Host.Outcome State Fault Refusal :=
  let x := s.queue t q
  match x.run with
  | none => .next s
  | some r =>
    let d := r.desc
    let glob := s.srcGlob t q d
    let dglob := s.dstGlob t q d
    let ms := transferPrefix d.esize d.dsize (s.nextMoves t q r)
    match ms with
    | [] => .next s
    | m0 :: _ =>
      let n := ms.length
      let b := r.pos * d.esize
      if s.qCancelling t q || x.cancelReq then .next s
      else if !s.ringReady t q r b then .next (if s.qMode t q = 1 then s.count (Reg.placketStatNocredit t) 1 else s)
      else if s.qLimit t q ≤ x.xfers.length then .next (s.count (Reg.placketStatLimit t) 1)
      else
        let remote := s.isRemote glob m0.src
        let target := if remote then some (gaModule m0.src, if gaSpace m0.src = 0 then gaTile m0.src else 0) else none
        if remote && gaSpace m0.src == 0 && x.opening.contains (gaModule m0.src, gaTile m0.src, 1) then .next s
        else
          let bad := (List.range n).find? (fun i => match ms[i]? with
            | some m => !s.endAdmits t q glob m.src d.esize || !s.endAdmits t q dglob m.dst d.dsize ||
                (d.pair && !s.endAdmits t q dglob m.dstLo 2)
            | none => false)
          match bad with
          | some i => .next (s.queueFault t q 0x10 0x11 (r.pos + i))
          | none =>
            let lo := ms.foldl (fun a m => min a m.src) m0.src
            let hi := ms.foldl (fun a m => max a (m.src + d.esize)) 0
            let (s, txn, opens) := if remote then s.sendRequest t q 1 lo 0 0 (hi - lo) []
              else ({ s with nextTxn := s.nextTxn + 1 }, s.nextTxn, false)
            let slot := if s.qMode t q = 0 then none else some (s.slotOf t q r.first b)
            let f : Xfer := { txn := txn, pos := r.pos, moves := ms, slot := slot, read := false, remote := target,
                              opening := opens }
            let x := s.queue t q
            let pos := r.pos + n
            let r' := { r with pos := pos, emitted := r.emitted.drop (if d.agp then n else 0),
                               ended := if d.agp then r.ended else pos == d.total }
            let s := s.setQueue t q { x with xfers := x.xfers ++ [f], run := some r' }
            .next ((s.ringIssue t q r b (n * d.esize)).refreshQ t q)

/-- What the running descriptor needs after the read data of a transfer have come: the in-place copy writes once every
element has been read (R253); a transfer into the Pocket is no longer outstanding. -/
def State.afterRead (s : State) (t q : Nat) (f : Xfer) (es : List (Move × List Byte)) : State :=
  let x := s.queue t q
  match x.run with
  | none => s
  | some r =>
    let drop (x : Queue) : Queue := { x with xfers := x.xfers.filter (fun g => g.txn != f.txn) }
    if r.staged then
      let x := drop x
      let r := { r with staging := r.staging ++ es }
      if r.ended && x.xfers.isEmpty then
        let s := s.setQueue t q { x with run := some { r with staging := [] } }
        (s.pushTransfer t q r.desc 0 none r.staging none).finishRun t q
      else (s.setQueue t q { x with run := some r }).refreshQ t q
    else if s.dstGlob t q r.desc then
      let s := s.setQueue t q { x with xfers := x.xfers.map (fun g => if g.txn = f.txn then { g with read := true } else g) }
      (s.pushTransfer t q r.desc f.pos f.slot es (some f.txn)).finishRun t q
    else
      ((s.setQueue t q (drop x)).pushTransfer t q r.desc f.pos f.slot es none).finishRun t q

/-- Takes the first answer for a queue's transaction. -/
def takeReply (t q kind : Nat) (pick : Packet → Bool) : List Packet → Option (Packet × List Packet)
  | [] => none
  | p :: ps =>
    if p.dstTile = t ∧ p.req = 0x10 + q ∧ p.kind = kind ∧ pick p then some (p, ps)
    else (takeReply t q kind pick ps).map (fun (x, r) => (x, p :: r))

/-- The read data of a transfer, from the memory its source lies in: the state after, and the bytes from the lowest
source address up; `none` where nothing comes (a fault has been charged, or the answer is still under way). -/
def State.readSource (s : State) (t q : Nat) (d : Desc) (f : Xfer) (host : HostAns) : State × Option (List Byte) :=
  match f.moves with
  | [] => (s, some [])
  | m0 :: _ =>
    let lo := f.moves.foldl (fun a m => min a m.src) m0.src
    let hi := f.moves.foldl (fun a m => max a (m.src + d.esize)) 0
    if !s.srcGlob t q d then
      let off := (s.rd (Reg.pocketSlotBase t (s.qOwner t q))).toNat + lo
      match (s.count (Reg.placketStatRd t) 1).pocketRead t off (hi - lo) with
      | (s, .ok bs) => (s, some bs)
      | (s, .error 0) => (s, some (mread s.pocket (pkey t off) (hi - lo)))
      | (s, .error c) => (s.queueFault t q c 0x14 f.pos, none)
    else if f.remote.isSome then
      match takeReply t q 0x11 (fun p => p.txn == f.txn) s.answers with
      | none => (s, none)
      | some (p, rest) =>
        let s := { s with answers := rest }
        let s := if f.opening then
          s.setQueue t q ((s.queue t q).fillGrant p.srcModule p.srcTile 1 p.win p.epoch) else s
        (s, some (p.data.map (fun b => b.getD 0)))
    else if gaSpace m0.src = 1 then
      match s.hbmRead (gaHbmOff lo) (hi - lo) with
      | (s, some bs) => (s, some bs)
      | (s, none) =>
        (s.setQueue t q { s.queue t q with xfers := (s.queue t q).xfers.filter (fun g => g.txn != f.txn) }, none)
    else match host with
      | .ok bs => (s, some (bs.take (hi - lo) ++ List.replicate (hi - lo - bs.length) 0))
      | .error st => (s.hostFail t q f.pos st, none)

/-- TRANSFER_READ_DATA (R246): the read data of the queue's oldest unread transfer are delivered and go on towards the
destination; a queue that is cancelling discards them (R264). `host` is what the host answers a read of its memory. -/
def execTransferReadData (t : TileId) (q : QueueId) (host : HostAns) (s : State) : Host.Outcome State Fault Refusal :=
  let x := s.queue t q
  match x.xfers.find? (fun f => !f.read) with
  | none => .next s
  | some f =>
    if s.qCancelling t q then
      match f.remote with
      | some _ => match takeReply t q 0x11 (fun p => p.txn == f.txn) s.answers with
        | none => .next s
        | some (_, rest) =>
          .next (State.refreshQ (State.setQueue { s with answers := rest } t q
            { x with xfers := x.xfers.filter (fun g => g.txn != f.txn) }) t q)
      | none => .next ((s.setQueue t q { x with xfers := x.xfers.filter (fun g => g.txn != f.txn) }).refreshQ t q)
    else match x.run with
      | none => .next s
      | some r =>
        match s.readSource t q r.desc f host, f.moves with
        | (s, some bs), m0 :: _ =>
          let lo := f.moves.foldl (fun a m => min a m.src) m0.src
          let units := (f.moves.filter (fun m => m.src % 128 + r.desc.esize == 128)).length
          let s := if r.desc.spill then s.count (Reg.shawlStatSpill (t / 64) (t % 64)) units else s
          let es := f.moves.map (fun m => (m, (bs.drop (m.src - lo)).take r.desc.esize))
          .next ((s.afterRead t q f es).sendWrites t q)
        | (s, _), _ => .next (s.refreshQ t q)

/-- MERGE_BUFFER_FLUSH (R256). -/
def execMergeBufferFlush (t : TileId) (q : QueueId) (s : State) : Host.Outcome State Fault Refusal :=
  .next ((s.flushMerge t q).refreshQ t q)

/-- A write to the local Pocket, this module's HBM or host memory is performed. -/
def State.performWrite (s : State) (t q : Nat) (m : MergeBuf) (host : HostAns) : State :=
  let (a, aLo, data) := m.span
  if !m.glob then
    let base := (s.rd (Reg.pocketSlotBase t (s.qOwner t q))).toNat
    match m.acc with
    | none =>
      match (s.count (Reg.placketStatWr t) 1).pocketWrite t (base + a) data with
      | (s, 0) => s.landWrite t q m
      | (s, c) => (s.dropWrite t q m).queueFault t q c 0x14 m.pos
    | some acc =>
      let n := data.length / m.unit
      let s := (s.count (Reg.placketStatRd t) n).count (Reg.placketStatWr t) n
      match s.accAll t acc (some (s.qOwner t q)) n (base + a) (base + aLo) data with
      | (s, 0) => s.landWrite t q m
      | (s, c) => (s.dropWrite t q m).queueFault t q c 0x14 m.pos
  else if gaSpace a = 1 then
    if (s.needImage (gaHbmOff a) data.length).isEmpty then (s.hbmWrite (gaHbmOff a) data).landWrite t q m else s
  else match host with
    | .ok _ => State.landWrite { s with host := mwriteEn s.host (gaHostAddr a) data } t q m
    | .error st => (s.dropWrite t q m).hostFail t q m.pos st

/-- An acknowledgement of a remote write reaches the queue (R360): the write has landed, and an opening access fills a
grant entry (R366). -/
def State.acknowledge (s : State) (t q : Nat) : State :=
  match takeReply t q 0x12 (fun _ => true) s.answers with
  | none => s
  | some (p, rest) =>
    let s := { s with answers := rest }
    match (s.queue t q).writes.find? (fun w => w.sent == some p.txn) with
    | none => s
    | some w =>
      let s := if w.opening then
        s.setQueue t q ((s.queue t q).fillGrant p.srcModule p.srcTile w.kind p.win p.epoch) else s
      match (s.queue t q).writes.find? (fun v => v.sent == some p.txn) with
      | some v => s.landWrite t q v
      | none => s

/-- WRITE_LANDED (R242, R243, R246): the oldest write to a memory of this module, or to host memory, lands; where the
queue has none, the oldest acknowledgement of a remote write is taken. `host` is the host's completion. -/
def execWriteLanded (t : TileId) (q : QueueId) (host : HostAns) (s : State) : Host.Outcome State Fault Refusal :=
  match (s.queue t q).writes.find? (fun m => !s.isRemote m.glob m.block) with
  | some m => .next (s.performWrite t q m host)
  | none => .next (s.acknowledge t q)

/-- REMOTE_ACKNOWLEDGE (R360). -/
def execRemoteAcknowledge (t : TileId) (q : QueueId) (s : State) : Host.Outcome State Fault Refusal :=
  .next (s.acknowledge t q)

/-- REFUSAL_ANSWER (R369): the owner task aborts with the code and the queue stops; a refused transfer of a task that
is over is not charged again. LINK_FAIL is the fabric's (R419). -/
def execRefusalAnswer (t : TileId) (q : QueueId) (s : State) : Host.Outcome State Fault Refusal :=
  match takeReply t q 0x13 (fun p => p.aux % 256 != 0x0D) s.answers with
  | none => .next s
  | some (p, rest) =>
    let s := { s with answers := rest }
    let x := s.queue t q
    let known := x.writes.any (fun w => w.sent == some p.txn) || x.xfers.any (fun f => f.txn == p.txn)
    if !known then .next s
    else
      let pos := match x.writes.find? (fun w => w.sent == some p.txn), x.xfers.find? (fun f => f.txn == p.txn) with
        | some w, _ => w.pos
        | none, some f => f.pos
        | none, none => 0
      let gone := ((x.writes.filter (fun w => w.sent == some p.txn)).map (·.txns)).flatten
      let s := s.setQueue t q { x with writes := x.writes.filter (fun w => w.sent != some p.txn),
                                       xfers := x.xfers.filter (fun f => f.txn != p.txn && !gone.contains f.txn) }
      let s := if s.qCancelling t q then s else s.queueFault t q (p.aux % 256) 0x13 pos
      .next ((s.sendWrites t q).refreshQ t q)

/-- REMOTE_ACCUMULATE (R258): the oldest admitted access, an accumulate, is performed. -/
def execRemoteAccumulate (t : TileId) (s : State) : Host.Outcome State Fault Refusal :=
  match (s.tile t).inbound with
  | (p, w) :: rest =>
    if p.kind ≠ 3 then .next s
    else
      let s := (s.setTile t { s.tile t with inbound := rest }).count (Reg.placketStatRemoteIn t) 1
      match s.accAll t p.aux none (p.data.length / tySize (accSrcTy p.aux)) p.off (p.addrLo % pocketBytes) p.data with
      | (s, 0) => .next (s.remoteLanded t (.remote p w) [])
      | (s, c) => .next (s.chargeAccess t (.remote p w) c
          (s.failOff t c p.off ((reqRanges p).flatMap (fun r => wordsOf r.1 r.2))))
  | [] => .next s

/-! ## Cancellation (R264) -/

/-- QUEUE_CANCEL_ACK: the merge buffer is flushed, the FIFO and the running descriptor are discarded, the ring starts
anew and CANCELLING is set. -/
def execQueueCancelAck (t : TileId) (q : QueueId) (s : State) : Host.Outcome State Fault Refusal :=
  let x := s.queue t q
  if !x.cancelReq then .next s
  else
    let ctx := x.run.bind (·.ctx)
    let s := s.flushMerge t q
    let x := (s.queue t q).clearGrants
    let s := s.setQueue t q { x with fifo := [], run := none, fill := [], slotLens := [], cancelReq := false,
                                     xfers := x.xfers.filter (fun f => !f.read || x.writes.any (fun w => w.txns.contains f.txn)) }
    let s := s.freeCtx t ctx
    let s := if (s.tile t).stagingBy == some q.val then s.setTile t { s.tile t with stagingBy := none } else s
    let s := ((s.setHead t q 0).setTail t q 0).setFilled t q 0
    .next ((s.setBit (Reg.placketQStatus t q) 31 true).refreshQ t q)

/-- QUEUE_CANCEL_DONE: nothing is outstanding and the flushed writes have landed. -/
def execQueueCancelDone (t : TileId) (q : QueueId) (s : State) : Host.Outcome State Fault Refusal :=
  let x := s.queue t q
  if s.qCancelling t q && x.xfers.isEmpty && x.writes.isEmpty && x.merge.isNone then
    .next (((s.setBit (Reg.placketQStatus t q) 31 false).sbFree t 1 q).refreshQ t q)
  else .next s

/-! ## Cuff instructions on queues (R334) -/

/-- The task is not in the owner slot of a queue it operates on (R237). -/
def State.notOwner (s : State) (t k q : Nat) (f : State → State) : State :=
  if s.qOwner t q ≠ k then s.placketFault t q k 0x12 0x03 0 else f s

/-- The output ranges of a descriptor: the footprints of an affine descriptor with a local destination (R339). -/
def State.descRanges (s : State) (t q : Nat) (d : Desc) : List (Nat × Nat) :=
  if d.agp || s.dstRing t q || !d.dstLocal || d.total == 0 then []
  else (s.dstFeet t q d).map (fun f => (f.lo.toNat, (f.hi - f.lo).toNat))

/-- QISSUE (R237, R254, R334, R339). -/
def execQissue (t : TileId) (k : SlotId) (s : State) : Host.Outcome State Fault Refusal :=
  .next (s.issue t k (code 0x38 0x010) (fun w s =>
    let o := (s.opA t k w).toNat
    let q := (s.opB t k w).toNat % 16
    if s.storesWait t k then s.wait t k 11
    else if o % 128 ≠ 0 then s.placketFault t q k 0x12 0x02 0
    else match s.slotPhys t k o 128 with
      | none => s.placketFault t q k 0x10 0x11 0
      | some off =>
        if 4 ≤ (s.queue t q).fifo.length ∨ s.qCancelling t q ∨ (s.queue t q).cancelReq then s.wait t k 2
        else match s.pocketRead t off 128 with
          | (s, .error c) =>
            if c = 0 then s.complete t k else s.placketFault t q k c 0x14 0
          | (s, .ok bs) =>
            let d : Desc := { bytes := bs, suit := none, spill := false, entries := [] }
            match s.descCheck t q k d with
            | some (sub, c) => s.placketFault t q k c sub 0
            | none =>
              let rs := if s.sbMode t then s.descRanges t q d else []
              if (s.sbFreeList t).length < rs.length then s.wait t k 3
              else
                let (es, s) := s.sbTake t k 1 q rs
                (s.enqueue t q { d with entries := es }).complete t k))

/-- QREL (R242, R244). -/
def execQrel (t : TileId) (k : SlotId) (s : State) : Host.Outcome State Fault Refusal :=
  .next (s.issue t k (code 0x38 0x011) (fun w s =>
    let q := (s.opA t k w).toNat % 16
    s.notOwner t k q (fun s =>
      match s.release t q ((s.opB t k w).toNat % 32) with
      | some s => s.complete t k
      | none => s.queueFault t q 0x0A 0x12 0)))

/-- QCOMMIT (R243, R244). -/
def execQcommit (t : TileId) (k : SlotId) (s : State) : Host.Outcome State Fault Refusal :=
  .next (s.issue t k (code 0x38 0x012) (fun w s =>
    let q := (s.opA t k w).toNat % 16
    s.notOwner t k q (fun s =>
      match s.commit t q ((s.opB t k w).toNat % 32) with
      | some s => s.complete t k
      | none => s.queueFault t q 0x0A 0x12 0)))

/-- QCANCEL (R264). -/
def execQcancel (t : TileId) (k : SlotId) (s : State) : Host.Outcome State Fault Refusal :=
  .next (s.issue t k (code 0x38 0x013) (fun w s =>
    let q := (s.opA t k w).toNat % 16
    s.notOwner t k q (fun s => (s.reqCancel t q).complete t k)))

/-- QCRED (R334). -/
def execQcred (t : TileId) (k : SlotId) (s : State) : Host.Outcome State Fault Refusal :=
  .next (s.issue t k (code 0x38 0x014) (fun w s =>
    s.setRd t k w (s.rd (Reg.placketQCredits t ((s.opA t k w).toNat % 16)))))

/-- QWAIT (R334): 0 EMPTY, 1 slot at HEAD filled, 2 at least one credit; other conditions are reserved. -/
def execQwait (t : TileId) (k : SlotId) (s : State) : Host.Outcome State Fault Refusal :=
  .next (s.issue t k (code 0x38 0x015) (fun w s =>
    let q := (s.opA t k w).toNat % 16
    let done (c : Bool) : State :=
      if c then s.setRd t k w (s.rd (Reg.placketQHeadlen t q)) else s.wait t k 10
    match (s.opB t k w).toNat with
    | 0 => done (s.qEmpty t q)
    | 1 => done (0 < s.qFilled t q)
    | 2 => done (0 < s.qCredits t q)
    | _ => s.illegal t k 0x05))

end Sys2Proof.Machine
end

