-- ==== Sys2Proof/Machine/Sleeve.lean ====
section
/-! DEFINITION. The Sleeve engine (spec 06, 07): the array and its parts, chunks and promotions, accumulator sets, load
and drain, sums, sequential order mode, and the agreement sampler. -/

namespace Sys2Proof.Machine

/-! ## Results as exact values -/

def Res.ofF : FNum → Res
  | .nan => .nan
  | .inf n => .inf n
  | .fin m e z => .sum m e z

/-- The exact value of a result; `f` is the format of a pair's value plane. -/
def Res.toF (f : Fmt) : Res → FNum
  | .tot (.int x) => .ofInt x
  | .tot (.pair v c) => totalOf f v c
  | .sum m e z => .fin m e z
  | .inf n => .inf n
  | .nan => .nan

/-! ## What a stage computes with -/

/-- The fixed data of a running SLEEVE stage. -/
structure Env where
  da : TDesc
  db : TDesc
  /-- floating point, and the value format of its totals -/
  fp : Bool
  f : Fmt
  /-- long reduction (R206), SEQ_WIDE (R186), sequential order mode (R185) -/
  long : Bool
  wide : Bool
  seqm : Bool
  /-- the keys of its rounding noise (R209) -/
  seed : Nat
  step : Nat
  tid : Nat
  nc : Nat
deriving DecidableEq, Repr

def State.env (s : State) (t : Nat) (x : Suit) : Env :=
  let tot := s.totalDesc t x
  let q := ((s.partOf t).map s.slot).getD Slot.init
  let da := s.sideDesc t x 0
  { da := da, db := s.sideDesc t x 1, fp := isFloat da.elem && da.elem != tyI32Pair, f := (tyFmt tot.elem).getD fmtBF16,
    long := 4096 < (if x.ktotal = 0 then x.kHi - x.kLo else x.ktotal), wide := x.run.seq == 2, seqm := x.run.seq != 0,
    seed := q.seed, step := q.step, tid := x.totalTid, nc := tot.nc }

/-- The noise of a promotion into output element (r, c), or none for rounding to nearest even (R206). -/
def Env.noise (e : Env) (r c : Nat) : Option Nat :=
  if e.long && !e.wide then some (keyNoise e.seed 0 e.tid e.step (r * e.nc + c)) else none

/-- An operand that is absent is fed as zero (R169). -/
def opVal (d : TDesc) : Option Opnd → FNum
  | some o => o.val d
  | none => FNum.zero
def opInt (d : TDesc) : Option Opnd → Int
  | some o => o.int d
  | none => 0

/-- The operands of cell (i, j) at a sequence position. -/
def Slice.pair (z : Slice) (i j : Nat) : Option Opnd × Option Opnd :=
  ((z.a.getD i none), ((z.b.getD j []).getD (z.pos.getD i 0) none))

/-! ## Cells (R159, R178, R183, R203, R205) -/

def Cell.zero : Cell := { n := 0, int := 0, ch := .sum 0 0 false, v := 0, c := 0 }

/-- Adds `k` products of exact sum `p` into the chunk accumulator. -/
def Cell.addF (c : Cell) (k : Nat) (p : FNum) : Cell :=
  let old := c.ch.toF fmtBF16
  let ch := if c.n = 0 then toChunk p else toChunk (old.add (toChunk p))
  { c with n := c.n + k, ch := Res.ofF ch }

/-- Adds to the INT32 accumulator; the second component says whether it saturated. -/
def Cell.addI (c : Cell) (k : Nat) (p : Int) : Cell × Bool :=
  let (v, sat) := satI32 (c.int + p)
  ({ c with n := c.n + k, int := v }, sat)

/-- The chunk sum is promoted into the total. -/
def Cell.promote (c : Cell) (e : Env) (noise : Option Nat) : Cell :=
  if !e.fp || c.n = 0 then { c with n := 0 }
  else
    let (v, k) := Machine.promote e.f noise c.v c.c (c.ch.toF e.f)
    { c with n := 0, ch := .sum 0 0 false, v := v, c := k }

/-- The cell takes `k` products at once, and a finished chunk is promoted. -/
def Cell.take (c : Cell) (e : Env) (noise : Option Nat) (ps : List (Option Opnd × Option Opnd)) : Cell × Bool :=
  let r := if e.fp then
      (c.addF ps.length ((ps.map (fun p => (opVal e.da p.1).mul (opVal e.db p.2))).foldl
        (fun (a : Option FNum) p => match a with
          | none => some p
          | some a => some (a.add p)) none |>.getD FNum.zero), false)
    else c.addI ps.length ((ps.map (fun p => opInt e.da p.1 * opInt e.db p.2)).sum)
  if r.1.n = 128 ∧ !e.wide then (r.1.promote e noise, r.2) else r

def Cell.tot (c : Cell) (e : Env) : Tot := if e.fp then .pair c.v c.c else .int c.int

/-- The sum of two totals: a pair addition, or a saturating one (R172, R179). -/
def Tot.add (e : Env) (noise : Option Nat) (a b : Tot) : Tot × Bool :=
  match a, b with
  | .pair v c, .pair v' c' =>
    let (v, c) := Machine.promote e.f noise v c (totalOf e.f v' c')
    (.pair v c, false)
  | .int x, .int y =>
    let (z, sat) := satI32 (x + y)
    (.int z, sat)
  | a, _ => (a, false)

/-- Adds totals in order. -/
def Tot.chain (e : Env) (noise : Option Nat) (t : Tot) (ts : List Tot) : Tot × Bool :=
  ts.foldl (fun (st : Tot × Bool) u =>
    let (r, sat) := st.1.add e noise u
    (r, st.2 || sat)) (t, false)

/-! ## The tile -/

/-- Unmasked rows and columns of tile `o` (for DOT: lanes by 32 cells). -/
def Suit.tileSize (x : Suit) (o : Nat) : Nat × Nat :=
  if x.isDot then (x.pairs, 32) else ((x.opRows 0 o).2, (x.opRows 1 o).2)

/-- Output coordinates of cell (i, j) of tile `o` (R279). -/
def Suit.outAt (x : Suit) (o i j : Nat) : Nat × Nat :=
  if x.isDot then (x.orow, x.ocol + i) else (x.orow + x.tm * (o / x.tb) + i, x.ocol + x.tn * (o % x.tb) + j)

/-- Applies `g` to the unmasked cells of part `q`; the second component says whether a cell saturated. -/
def mapCells (x : Suit) (o q : Nat) (cells : List Cell) (g : Nat → Nat → Cell → Cell × Bool) : List Cell × Bool :=
  let (rc, cc) := x.tileSize o
  let n := x.tm * x.tn
  let r := ((List.range cells.length).zip cells).map (fun (k, c) =>
    let i := k % n / x.tn
    let j := k % x.tn
    if k / n = q ∧ i < rc ∧ j < cc then g i j c else (c, false))
  (r.map (·.1), r.any (·.2))

/-- The cells of a set that begins tile `o`: the loaded totals stand in part 0 (R179); for DOT in column 0. -/
def Suit.startCells (x : Suit) (ld : List (List Tot)) : List Cell :=
  let n := x.tm * x.tn
  (List.range (n * (if x.isDot then 1 else x.tparts))).map (fun k =>
    let i := k % n / x.tn
    let j := k % x.tn
    let tt : Option Tot := if n ≤ k then none
      else if x.isDot then (if j = 0 then (ld.getD 0 [])[i]? else none) else (ld.getD i [])[j]?
    match tt with
    | some (.int v) => { Cell.zero with int := v }
    | some (.pair v c) => { Cell.zero with v := v, c := c }
    | none => Cell.zero)

def ASet.idle (x : Suit) (tile : Nat) : ASet :=
  { tile := 0, cells := [], got := [], ended := true, dr := x.drainRows, ldTile := tile, ld := [], sat := false }

def SuitRun.set (r : SuitRun) (x : Suit) (j : Nat) : ASet := r.sets.getD j (ASet.idle x 0)
def SuitRun.putSet (r : SuitRun) (j : Nat) (a : ASet) : SuitRun := { r with sets := r.sets.set j a }

/-- The set that the next tile takes is drained and loaded (R182). -/
def Suit.setReady (x : Suit) (a : ASet) (o : Nat) : Bool :=
  a.ended && a.dr == x.drainRows && (x.init || (a.ldTile == o && a.ld.length == x.drainRows))

/-! ## Sampling (R227) -/

/-- Tile `o` is sampled. -/
def State.sampled (s : State) (t : Nat) (x : Suit) (o : Nat) : Bool :=
  match s.partOf t with
  | none => false
  | some q =>
    let d := s.totalDesc t x
    let n := s.fld (Reg.samplerRate (t / 64) q) 0 21
    let (r, c) := x.outAt o 0 0
    !x.isSum && !x.isDot && s.bit (Reg.samplerKinds (t / 64) q) d.kind && n != 0 &&
      (keyhash (s.slot q).seed 3 x.totalTid (s.slot q).step (r * d.nc + c)).toNat % 0x100000000 % n == 0

/-! ## Stage start (R181, R185, R283) -/

/-- The suit that the Sleeve engine serves. -/
def State.sleeveSuit (s : State) (t : Nat) : Option (Nat × Suit) :=
  (s.runningSuits t).find? (fun p => p.2.run.sleeve == 1)

/-- SLEEVE_STAGE_START. -/
def execSleeveStageStart (t : TileId) (s : State) : Host.Outcome State Fault Refusal :=
  .next (match s.sleeveSuit t, s.nextSuit t (fun x => x.run.sleeve != 2) with
  | none, some (i, x) =>
    if !x.bound then s
    else if s.domainOn (5 + t / 64) then
      let seq := if x.seqField = 0 ∧ s.bit (Reg.sleeveCfg t) 1 then 1 else x.seqField
      s.putRun t i x { x.run with sleeve := 1, seq := seq, sets := [ASet.idle x 0, ASet.idle x 1],
                                  parts := List.replicate 4 { q := [], planes := none, nulls := [] } }
    else s.needCompute t
  | _, _ => s)

/-! ## Taking records (R150, R177) -/

/-- Records waiting in a part. -/
def Part.len (p : Part) : Nat := (p.q.filter (fun e => e.2.1)).length + p.nulls.length

/-- Cycles that a NULL record takes (R169, R170, R174, R185). -/
def Suit.nullCycles (x : Suit) (w ty : Nat) : Nat :=
  if x.run.seq ≠ 0 then 1 else if x.plane then (w + 1) / 2 else if tySize ty = 1 then 4 else 16

/-- The part whose chunk holds sequence position `p`. -/
def Suit.partAt (x : Suit) (p : Nat) : Nat := p / 128 % x.tparts

/-- A fetched record enters the queues of its parts. -/
def SuitRun.takeRec (r : SuitRun) (x : Suit) (nulls : Nat) (f : FedRec) : SuitRun :=
  let n := f.slices.length
  let r := if f.null then
      let k := x.partAt (if f.last then r.seqPos - 1 else r.seqPos)
      match r.parts[k]? with
      | some p => { r with parts := r.parts.set k { p with nulls := p.nulls ++ [nulls] } }
      | none => r
    else
      let put (ps : List Part) (j : Nat) (z : Slice) : List Part :=
        let pos := r.seqPos + j
        let eor : Bool := j + 1 == n || (pos + 1) % 128 == 0
        match ps[x.partAt pos]? with
        | some p => ps.set (x.partAt pos) { p with q := p.q ++ [(pos / 128, eor, z)] }
        | none => ps
      { r with parts := ((List.range n).zip f.slices).foldl (fun ps (j, z) => put ps j z) r.parts }
  { r with fed := r.fed.drop 1, hand := r.hand.drop 1, seqPos := r.seqPos + n, allIn := f.last,
           sample := r.sample.map (fun p => if p.tile = r.tile then { p with tape := p.tape ++ f.slices } else p) }

/-- The record that the array may take in this cycle: fetched, of the present tile, its parts' queues not full. -/
def Suit.nextRec (x : Suit) (r : SuitRun) : Option FedRec :=
  match r.fed with
  | [] => none
  | f :: _ =>
    let k0 := x.partAt r.seqPos
    let k1 := x.partAt (r.seqPos + f.slices.length - 1)
    let room (k : Nat) : Bool := (r.parts.getD k { q := [], planes := none, nulls := [] }).len < 8
    if f.op = r.tile ∧ !r.allIn ∧ (x.has stSeam → r.hand ≠ []) ∧ room k0 ∧ room k1 then some f else none

/-! ## One cycle of a part (R162, R174, R175, R185) -/

/-- Products fed together. -/
def Suit.groupSize (x : Suit) (e : Env) : Nat :=
  if e.seqm then 1 else if x.plane then 32 else if tySize e.da.elem = 1 then 4 else 1

/-- The products at the front of a part's queue that go together, when all of them are there. -/
def Part.group (p : Part) (n : Nat) (allIn : Bool) (taken : Nat) : Option (List Slice) :=
  match p.q with
  | [] => none
  | (c, _, _) :: _ =>
    let same := p.q.takeWhile (fun e => e.1 == c)
    let g := same.take n
    if g.length = n ∨ allIn ∨ (c + 1) * 128 ≤ taken then some (g.map (fun e => e.2.2)) else none

/-- What a part did in a cycle: nothing, a NULL cycle, or products. -/
inductive PartAct where
  | wait | null | idle | work
deriving DecidableEq, Repr

/-- The plane bit of an operand times the other side, weighted (R162). -/
def planeProd (e : Env) (side p : Nat) (ab : Option Opnd × Option Opnd) : Int :=
  let (pl, other, d, od) : Option Opnd × Option Opnd × TDesc × TDesc := if side = 0 then (ab.1, ab.2, e.da, e.db) else (ab.2, ab.1, e.db, e.da)
  let bit := ((pl.map Opnd.v).getD 0).testBit p
  if !bit then 0
  else
    let w : Int := (2 ^ p : Nat)
    (if d.elem = tySPlane ∧ p + 1 = d.width then -w else w) * opInt od other

/-- POCC bytes of a span's plane-side values, joined. -/
def spanOcc (side : Nat) (g : List Slice) : Nat :=
  g.foldl (fun m z =>
    let os := if side = 0 then z.a else z.b.flatten
    os.foldl (fun m o => m ||| (o.map (·.pocc)).getD 0) m) 0

/-- Outcome of a part's cycle: the part, its set's cells, whether one saturated, what it did, and planes skipped. -/
structure PartStep where
  p : Part
  cells : List Cell
  sat : Bool
  act : PartAct
  skipped : Nat
  got : Bool
deriving DecidableEq, Repr

/-- One cycle of part `k`. -/
def partCycle (x : Suit) (e : Env) (r : SuitRun) (o k : Nat) (cells : List Cell) (p : Part) : PartStep :=
  let stay (act : PartAct) : PartStep := { p := p, cells := cells, sat := false, act := act, skipped := 0, got := false }
  let noise (i j : Nat) : Option Nat := e.noise (x.outAt o i j).1 (x.outAt o i j).2
  match p.nulls with
  | n :: ns => { stay .null with p := { p with nulls := if n ≤ 1 then ns else (n - 1) :: ns } }
  | [] =>
    let n := x.groupSize e
    match p.group n r.allIn r.seqPos with
    | none => stay (if p.q.isEmpty && r.allIn then .idle else .wait)
    | some g =>
      let rest : Part := { p with q := p.q.drop g.length, planes := none }
      let whole (part : Part) : PartStep :=
        let (cells, sat) := mapCells x o k cells (fun i j c => c.take e (noise i j) (g.map (fun z => z.pair i j)))
        { p := part, cells := cells, sat := sat, act := .work, skipped := 0, got := true }
      if !x.plane then whole rest
      else
        let side := if isPlane e.da.elem then 0 else 1
        let w := (if side = 0 then e.da else e.db).width
        if e.seqm then
          match p.planes with
          | none => if w ≤ 1 then whole rest else { stay .work with p := { p with planes := some (List.range (w - 1)) } }
          | some (_ :: q :: ps) => { stay .work with p := { p with planes := some (q :: ps) } }
          | some _ => whole rest
        else
          let occ := spanOcc side g
          let (todo, skipped) := match p.planes with
            | some l => (l, 0)
            | none => (setBits occ w, w - (setBits occ w).length)
          let after (l : List Nat) (cells : List Cell) (sat : Bool) (act : PartAct) : PartStep :=
            match l with
            | [] =>
              let (cells, _) := mapCells x o k cells (fun _ _ c => ({ c with n := (c.n + g.length) % 128 }, false))
              { p := rest, cells := cells, sat := sat, act := act, skipped := skipped, got := true }
            | _ => { p := { p with planes := some l }, cells := cells, sat := sat, act := act, skipped := skipped, got := true }
          match todo with
          | [] => after [] cells false .idle
          | pl :: l =>
            let (cells, sat) := mapCells x o k cells (fun i j c => c.addI 0 ((g.map (fun z => planeProd e side pl (z.pair i j))).sum))
            after l cells sat .work

/-! ## Sums (R170, R173) -/

/-- A sum a + s × b of floating-point values, in the chunk format. -/
def sumF (a p : FNum) : Res := Res.ofF (toChunk (a.add p))

/-- An integer sum: saturated, and whether it was. -/
def sumI (a b : Int) : Res × Bool :=
  let (v, sat) := satI32 (a + b)
  (.tot (.int v), sat)

/-- The rows of a GUNION record: one per valid row, of the granule's columns. -/
def State.unionRows (s : State) (t : Nat) (x : Suit) (e : Env) (f : FedRec) : List ORow × Bool :=
  let rows := (x.opRows 0 f.op).2
  let cell (i : Nat) (z : Slice) : Res × Bool :=
    let (a, b) := z.pair i i
    if e.fp then (sumF (opVal e.da a) (opVal e.db b), false) else sumI (opInt e.da a) (opInt e.db b)
  let one (i : Nat) : ORow × Bool :=
    let vs := f.slices.map (cell i)
    ({ tile := f.op, row := x.orow + 32 * f.op + i, col := x.ocol + f.col - x.kLo, arow := x.rs 0 + 32 * f.op + i,
       brow := x.rs 1 + 32 * f.op + i, vals := vs.map (·.1), last := false }, vs.any (·.2))
  let rs := if f.slices = [] then [] else
    ((List.range rows).filter (fun i => x.rs 0 + 32 * f.op + i < (s.sideDesc t x 0).nr ||
      x.rs 1 + 32 * f.op + i < (s.sideDesc t x 1).nr)).map one
  (rs.map (·.1), rs.any (·.2))

/-- The output element of a MERGE record. -/
def State.mergeRow (s : State) (t : Nat) (x : Suit) (e : Env) (f : FedRec) : ORow × Bool :=
  let z := f.slices.headD { a := [], b := [], pos := [] }
  let a := z.a.headD none
  let b := (z.b.getD 0 []).headD none
  let k := (((z.b.getD 1 []).headD none).map (·.v)).getD 0
  let (v, sat) : Res × Bool :=
    if e.da.elem = tyI32Pair ∨ !isFloat e.db.elem then
      let av : Int := match a with
        | some o => if e.da.elem = tyI32Pair then i32Of (o.v / 65536) (o.v % 65536) else o.int e.da
        | none => 0
      sumI av (signedOf (k % 256) 8 * opInt e.db b)
    else
      let p := (fmtBF16.decode k).mul (opVal e.db b)
      match tyFmt e.da.elem, isPair e.da.elem with
      | some fm, true =>
        let (av, ac) := match a with
          | some o => (o.v / 65536, o.v % 65536)
          | none => (0, 0)
        let noise := if e.long then some (keyNoise e.seed 0 x.outTid e.step ((x.orow + f.op) * (s.outDesc t x).nc + f.col)) else none
        let (v, c) := promote fm noise av ac p
        (.tot (.pair v c), false)
      | _, _ => (sumF (opVal e.da a) p, false)
  ({ tile := f.op, row := x.orow + f.op, col := f.col, arow := 0, brow := 0, vals := [v], last := false }, sat)

/-- One cycle of a sum: GUNION takes one record, MERGE up to 32, once the row buffer is free. -/
def State.sumCycle (s : State) (t : Nat) (x : Suit) (e : Env) (r : SuitRun) : State × SuitRun :=
  let n := min (if x.isUnion then 1 else 32) (min r.hand.length r.fed.length)
  if n = 0 then (if r.seam = 2 ∧ r.hand = [] then s else s.count (Reg.sleeveStatWaitIn t) 1, r)
  else if r.cvt ≠ [] then (s, r)
  else
    let fs := r.fed.take n
    let out := if x.isUnion then fs.map (s.unionRows t x e) else fs.map (fun f =>
      let (w, sat) := s.mergeRow t x e f
      ([w], sat))
    let sat := out.any (·.2)
    let s := if fs.any (fun f => f.null) then s.count (Reg.sleeveStatNull t) 1 else s.count (Reg.sleeveStatActive t) 1
    let a := r.set x 0
    (s, (({ r with cvt := (out.map (·.1)).flatten, fed := r.fed.drop n, hand := r.hand.drop n } : SuitRun)).putSet 0
      { a with sat := a.sat || sat })

/-! ## DOT (R172) -/

/-- One record of lane `f.op` goes to its cell. -/
def dotTake (x : Suit) (e : Env) (r : SuitRun) (f : FedRec) : SuitRun :=
  let n := if r.outPairs = f.op then r.seqPos else 0
  let k := if e.seqm then 0 else n % 32
  let a := r.set x 0
  let (row, col) := x.outAt 0 f.op 0
  let ps := f.slices.map (fun z => z.pair 0 0)
  let (cells, sat) := mapCells x 0 0 a.cells (fun i j c =>
    if i = f.op ∧ j = k then c.take e (e.noise row col) ps else (c, false))
  ({ r with seqPos := n + 1, outPairs := f.op, fed := r.fed.drop 1, hand := r.hand.drop 1 } : SuitRun).putSet 0
    { a with cells := cells, sat := a.sat || sat }

/-- One cycle of a DOT: up to 32 records of one lane, one in sequential order mode. -/
def State.dotCycle (s : State) (t : Nat) (x : Suit) (e : Env) (r : SuitRun) : State × SuitRun :=
  let fs := r.fed.take (min r.hand.length (if e.seqm then 1 else 32))
  let fs := fs.takeWhile (fun f => f.op == (fs.map (·.op)).headD 0)
  if fs = [] then
    (if r.seam = 2 ∧ r.hand = [] then s else s.count (Reg.sleeveStatWaitIn t) 1, r)
  else (s.count (Reg.sleeveStatActive t) 1, fs.foldl (dotTake x e) r)

/-! ## The cycle -/

/-- The next tile's set becomes active, once it is ready and the sampler has rerun the tile before it. -/
def State.activate (s : State) (t : Nat) (x : Suit) (r : SuitRun) : Option SuitRun :=
  let j := r.tile % 2
  let a := r.set x j
  if r.tile < x.tiles ∧ r.sample = none ∧ x.setReady a r.tile then
    let smp : Option Sample := if s.sampled t x r.tile then
      some { tile := r.tile, loaded := a.ld, drained := [], tape := [], sat := false } else none
    some (({ r with seqPos := 0, allIn := false, outPairs := 0, sample := smp } : SuitRun).putSet j
      { a with tile := r.tile, cells := x.startCells a.ld, got := [], ended := false, dr := 0, ldTile := r.tile + 2,
               ld := [], sat := false })
  else none

/-- Every part's cycle, in ascending part order. -/
def partsCycle (x : Suit) (e : Env) (r : SuitRun) : List Nat → ASet → List PartAct → Nat → SuitRun × ASet × List PartAct × Nat
  | [], a, acts, sk => (r, a, acts, sk)
  | k :: ks, a, acts, sk =>
    let st := partCycle x e r r.tile k a.cells (r.parts.getD k { q := [], planes := none, nulls := [] })
    let a := { a with cells := st.cells, sat := a.sat || st.sat, got := if st.got ∧ !a.got.contains k then a.got ++ [k] else a.got }
    partsCycle x e { r with parts := r.parts.set k st.p } ks a (acts ++ [st.act]) (sk + st.skipped)

/-- A product's cycle on the active set: at most one record is taken, and each part feeds its cells. -/
def State.productCycle (s : State) (t : Nat) (x : Suit) (e : Env) (r : SuitRun) : State × SuitRun :=
  let pl := if isPlane e.da.elem then e.da else e.db
  let r := match x.nextRec r with
    | some f => r.takeRec x (x.nullCycles pl.width e.da.elem) f
    | none => r
  let j := r.tile % 2
  let (r, a, acts, sk) := partsCycle x e r (List.range x.tparts) (r.set x j) [] 0
  let s := if acts.contains .work then s.count (Reg.sleeveStatActive t) 1
    else if acts.contains .wait && !acts.contains .null then s.count (Reg.sleeveStatWaitIn t) 1 else s
  let s := if acts.contains .null then s.count (Reg.sleeveStatNull t) 1 else s
  let s := if sk = 0 then s else s.count (Reg.sleeveStatPlaneSkip t) sk
  (s, r.putSet j a)

/-- SLEEVE_CYCLE (R162-R175, R182): one cycle of the array. Without a FETCH stage the engine reads a block itself where
nothing is delivered. -/
def execSleeveCycle (t : TileId) (s : State) : Host.Outcome State Fault Refusal :=
  .next (match s.sleeveSuit t with
  | none => s
  | some (i, x) =>
    let e := s.env t x
    let s := if e.seqm then s.count (Reg.sleeveStatSeq t) 1 else s
    if !x.has stFetch ∧ !x.fetchDone ∧ x.run.fed = [] then
      keepRun t i x (s.count (Reg.sleeveStatWaitIn t) 1 |>.fetchStep t x)
    else if x.isSum then
      let (s, r) := s.sumCycle t x e x.run
      s.putRun t i x r
    else
      let r := if (x.run.set x (x.run.tile % 2)).ended then s.activate t x x.run else some x.run
      match r with
      | none => if x.run.tile < x.tiles then s.count (Reg.sleeveStatWaitDrain t) 1 else s
      | some r =>
        let (s, r) := if x.isDot then s.dotCycle t x e r else s.productCycle t x e r
        s.putRun t i x r)

/-! ## Tile end (R181) -/

/-- Every record of the tile has been taken and computed. -/
def Suit.tileOver (x : Suit) : Bool :=
  let r := x.run
  let noMore := r.seam == 2 && r.hand.isEmpty && r.pend.isEmpty && r.fed.isEmpty
  if x.isSum then noMore
  else !(r.set x (r.tile % 2)).ended && r.tile < x.tiles &&
    (if x.isDot then noMore else r.allIn && r.parts.all (fun p => p.q.isEmpty && p.nulls.isEmpty))

/-- Raises TILE_SAT for tile `o` of the stage, once (R184). -/
def State.raiseSat (s : State) (t : Nat) (x : Suit) (r : SuitRun) (o : Nat) : State × SuitRun :=
  if r.satTiles.contains o then (s, r)
  else
    let k := x.satIndex
    let s := (s.setBit (Reg.sleeveSatMap t (k / 32)) (k % 32) true).count (Reg.sleeveSatCount t) 1
    let s := (s.warnTask t x.task 0x09 1 4 0 (s.firstInStep t 0x09) 0 (s.rd (Reg.sleeveErrInfo t)).toNat
      (s.rd (Reg.sleeveErrPos t)).toNat).markStep t 0x09
    (s, { r with satTiles := r.satTiles ++ [o] })

/-- The bound slots go back once the last product has been formed (R281). -/
def State.releaseBound (s : State) (t : Nat) (x : Suit) (r : SuitRun) : State × SuitRun :=
  let give (s : State) (side : Nat) : State := if x.bind side then (s.release t (x.bindQ side) 1).getD s else s
  (give (give s 0) 1, { r with relA := true, relB := true })

/-- SUIT_STATUS.TILES of suit slot `i`: an output tile has drained; it stops at 0xFFFF (R292). -/
def State.countTile (s : State) (t i : Nat) : State :=
  s.setFld (Reg.suitStatus t i) 0 16 (min 0xFFFF (s.fld (Reg.suitStatus t i) 0 16 + 1))

/-- SLEEVE_TILE_END: the last chunk sum is promoted and the set begins to drain; a sum's stage ends. -/
def execSleeveTileEnd (t : TileId) (s : State) : Host.Outcome State Fault Refusal :=
  .next (match s.sleeveSuit t with
  | none => s
  | some (i, x) =>
    if !x.tileOver then s
    else
      let r := x.run
      if x.isSum then
        let (s, r) := s.releaseBound t x { r with sleeve := 2, holdA := [], holdB := [] }
        let s := (s.count (Reg.sleeveStatTiles t) 1).countTile t i
        let (s, r) := if (r.set x 0).sat ∨ r.cvtSat then s.raiseSat t x r 0 else (s, r)
        s.putRun t i x r
      else
        let e := s.env t x
        let j := r.tile % 2
        let a := r.set x j
        let cells := (List.range (if x.isDot then 1 else x.tparts)).foldl (fun cs q =>
          (mapCells x r.tile q cs (fun i' j' c =>
            (c.promote e (e.noise (x.outAt r.tile i' j').1 (x.outAt r.tile i' j').2), false))).1) a.cells
        let r := ({ r with tile := r.tile + 1 } : SuitRun).putSet j { a with cells := cells, ended := true }
        let (s, r) := if r.tile = x.tiles ∧ r.sample = none then s.releaseBound t x r else (s, r)
        s.putRun t i x r)

/-! ## Load and drain (R172, R179, R181) -/

/-- Row `i` of a drained tile: its totals, and whether an addition saturated. -/
def ASet.row (a : ASet) (x : Suit) (e : Env) (i : Nat) : List Tot × Bool :=
  let n := x.tm * x.tn
  let (rc, cc) := x.tileSize a.tile
  let one (o q : Nat) : Tot := (a.cells.getD (q * n + o) Cell.zero).tot e
  let rs : List (Tot × Bool) :=
    if x.isDot then (List.range rc).map (fun l =>
      let (r, c) := x.outAt 0 l 0
      (one (l * x.tn) 0).chain e (e.noise r c) ((List.range 31).map (fun k => one (l * x.tn + k + 1) 0)))
    else (List.range cc).map (fun j =>
      let (r, c) := x.outAt a.tile i j
      (one (i * x.tn + j) 0).chain e (e.noise r c)
        (((List.range x.tparts).filter (fun q => q != 0 && a.got.contains q)).map (one (i * x.tn + j))))
  (rs.map (·.1), rs.any (·.2))

/-- The row handed to REDUCE. -/
def ASet.orow (a : ASet) (x : Suit) (vals : List Tot) : ORow :=
  let i := a.dr
  let (r, c) := x.outAt a.tile i 0
  { tile := a.tile, row := r, col := if x.isDot then x.ocol else c, arow := (x.opRows 0 a.tile).1 + i,
    brow := (x.opRows 1 a.tile).1, vals := vals.map Res.tot, last := x.isDot || i + 1 == (x.tileSize a.tile).1 }

/-- Loads the oldest row read ahead into the set that waits for it, if that set has drained the row. -/
def SuitRun.loadRow (r : SuitRun) (x : Suit) : SuitRun :=
  match r.ahead with
  | [] => r
  | (o, vals) :: rest =>
    let j := o % 2
    let a := r.set x j
    if a.ended ∧ a.ldTile = o ∧ a.ld.length < a.dr then ({ r with ahead := rest } : SuitRun).putSet j { a with ld := a.ld ++ [vals] } else r

/-- The set that drains: the one that ended first. -/
def SuitRun.draining (r : SuitRun) (x : Suit) : Option Nat :=
  let js := (List.range 2).filter (fun j => (r.set x j).ended && (r.set x j).dr < x.drainRows)
  match js with
  | [j, k] => some (if (r.set x k).tile < (r.set x j).tile then k else j)
  | l => l.head?

/-- A drained tile: counted, its saturation raised, and the stage ends after the last. -/
def State.tileDrained (s : State) (t : Nat) (x : Suit) (r : SuitRun) (a : ASet) : State × SuitRun :=
  let s := s.count (Reg.sleeveStatTiles t) 1
  let (s, r) := if a.sat ∨ r.cvtSat then s.raiseSat t x r a.tile else (s, r)
  let r := { r with cvtSat := false }
  (s, if a.tile + 1 = x.tiles ∧ r.sample = none then { r with sleeve := 2, holdA := [], holdB := [] } else r)

/-- SLEEVE_DRAIN_ROW: the shadow set drains one row into REDUCE's buffer of 4, and a row read ahead is loaded. -/
def execSleeveDrainRow (t : TileId) (s : State) : Host.Outcome State Fault Refusal :=
  .next (match s.sleeveSuit t with
  | none => s
  | some (i, x) =>
    if x.isSum then s
    else
      let r := x.run.loadRow x
      match r.draining x with
      | none => s.putRun t i x r
      | some j =>
        let a := r.set x j
        if 4 ≤ r.red.length then s.putRun t i x r
        else
          let (vals, sat) := a.row x (s.env t x) a.dr
          let masked := !x.isDot && (x.tileSize a.tile).1 ≤ a.dr
          let b := { a with dr := a.dr + 1, sat := a.sat || (sat && !masked) }
          let r := (if masked then r else { r with red := r.red ++ [a.orow x vals] }).putSet j b
          let r := { r with sample := r.sample.map (fun p =>
            if p.tile = a.tile then { p with drained := p.drained ++ [vals], sat := b.sat } else p) }
          let (s, r) := if b.dr = x.drainRows then (s.countTile t i).tileDrained t x r b else (s, r)
          s.putRun t i x r)

/-! ## The rerun (R228-R230) -/

/-- The reference total of cell (i, j) and whether it saturated: SEQ_WIDE from the loaded total (R186). -/
def refTotal (e : Env) (p : Sample) (i j : Nat) : Tot × Bool :=
  let start : Cell := match (p.loaded.getD i [])[j]? with
    | some (.int v) => { Cell.zero with int := v }
    | some (.pair v c) => { Cell.zero with v := v, c := c }
    | none => Cell.zero
  let e := { e with wide := true, seqm := true }
  let (c, sat) := p.tape.foldl (fun (st : Cell × Bool) z =>
    let (c, b) := st.1.take e none [z.pair i j]
    (c, st.2 || b)) (start, false)
  ((c.promote e none).tot e, sat)

/-- The bin of a drained total against its reference (R229). -/
def binOf (e : Env) (d r : Tot) : Nat :=
  match d, r with
  | .int x, .int y => sampleBin (x - y).natAbs 0
  | .pair v c, .pair v' c' =>
    let ulp := match e.f.decode v' with
      | .fin m k _ => e.f.ulpExp m.natAbs k
      | _ => 0
    totalBin (totalOf e.f v c) (totalOf e.f v' c') ulp
  | _, _ => 15

/-- Counts bins for partition `q` and kind `k` on panel `p`, and raises NUMERIC_DIVERGENCE where THR_COUNT is exceeded. -/
def State.countBins (s : State) (t p q k : Nat) (bins : List Nat) : State :=
  let s := bins.foldl (fun s b => s.count (Reg.samplerHist p q k b) 1) s
  let thr := s.fld (Reg.samplerThr p q k) 16 4
  let key := p * 64 + q * 8 + k
  let (n, hi, raised) := tget s.sampler (0, 0, false) key
  let high := if thr = 0 then [] else bins.filter (fun b => thr ≤ b)
  let n := n + high.length
  let hi := bins.foldl max hi
  if thr ≠ 0 ∧ s.fld (Reg.samplerThr p q k) 0 16 < n ∧ !raised then
    let s := { s with sampler := tset s.sampler key (n, hi, true) }
    let s := s.warnJob q 0x13 3 4 0 (some t) none 0 (k + 16 * hi) 0
    s.setBit (Reg.samplerDiverged p q) k true
  else { s with sampler := tset s.sampler key (n, hi, raised) }

/-- SAMPLED_TILE_RERUN: the drained tile is recomputed from the totals it loaded, and its elements are binned. -/
def execSampledTileRerun (t : TileId) (s : State) : Host.Outcome State Fault Refusal :=
  .next (match s.sleeveSuit t with
  | none => s
  | some (i, x) =>
    match x.run.sample, s.partOf t with
    | some p, some q =>
      if p.drained.length < x.drainRows then s
      else
        let e := s.env t x
        let (rc, cc) := x.tileSize p.tile
        let refs := (List.range rc).flatMap (fun r => (List.range cc).map (fun c =>
          (((p.drained.getD r []).getD c (.int 0)), refTotal e p r c)))
        let panel := t.val / 64
        let w := if isPlane e.da.elem then e.da.width else if isPlane e.db.elem then e.db.width else 1
        let s := s.count (Reg.sleeveStatSeq t) (p.tape.length * w)
        let s := s.count (Reg.samplerTiles panel q) 1
        let s := if p.sat ∨ refs.any (fun z => z.2.2) then s.count (Reg.samplerSatSkipped panel q) 1
          else s.countBins t panel q (s.totalDesc t x).kind (refs.map (fun z => binOf e z.1 z.2.1))
        let r := { x.run with sample := none }
        if r.tile = x.tiles then
          let (s, r) := s.releaseBound t x { r with sleeve := 2, holdA := [], holdB := [] }
          s.putRun t i x r
        else s.putRun t i x r
    | _, _ => s)

/-! ## Clearing counters (R196, R236) -/

/-- The counters that SLEEVE_CTR_CLEAR clears. -/
def sleeveCtrs (t : Nat) : List Nat :=
  [Reg.sleeveStatActive t, Reg.sleeveStatWaitIn t, Reg.sleeveStatWaitDrain t, Reg.sleeveStatTiles t,
    Reg.sleeveStatNull t, Reg.sleeveStatPlaneSkip t, Reg.sleeveStatSeq t]

/-- SLEEVE_CTR_CLEAR.ALL. -/
def execSleeveCtrClearAll (t : TileId) (s : State) : Host.Outcome State Fault Refusal :=
  .next (s.ctl (Reg.sleeveCtrClear t) (fun s => s.clear (sleeveCtrs t.val)))

/-- The counters that SLEEVE_CTR_CLEAR clears. -/
def sleeveSatCtrs (t : Nat) : List Nat :=
  (Reg.sleeveSatCount t :: (List.range 32).map (Reg.sleeveSatMap t))

/-- SLEEVE_CTR_CLEAR.SAT. -/
def execSleeveCtrClearSat (t : TileId) (s : State) : Host.Outcome State Fault Refusal :=
  .next (s.ctl (Reg.sleeveCtrClear t) (fun s => s.clear (sleeveSatCtrs t.val)))

/-- The sampler's counters of partition `q` on panel `p`. -/
def samplerCtrs (p q : Nat) : List Nat :=
  [Reg.samplerTiles p q, Reg.samplerSatSkipped p q, Reg.samplerDiverged p q] ++
    (List.range 7).flatMap (fun k => (List.range 16).map (Reg.samplerHist p q k))

/-- SAMPLER_CTR_CLEAR: the counters and SAMPLER_DIVERGED of every partition in `mask`. -/
def execSamplerCtrClear (p : PanelId) (mask : BitVec 8) (s : State) : Host.Outcome State Fault Refusal :=
  .next (s.ctl (Reg.samplerCtrClear p) (fun s => s.clear ((setBits mask.toNat 8).flatMap (samplerCtrs p))))

end Sys2Proof.Machine
end

