-- ==== Sys2Proof/Machine/RegAccess.lean ====
section
/-! DEFINITION. Control-space accesses (R11-R15, R53-R55, R584, R585): what a read returns and what a write does at every
address, for firmware, the host and tasks (R333, R337). -/

namespace Sys2Proof.Machine

/-! ## Bits -/

/-- The bits of each access type that the word at `a` has (R13): RW, W1C. -/
def rwMask (a : Nat) : Word := match regAt a with
  | some (r, w) => wordPart r.rw w
  | none => 0
def w1cMask (a : Nat) : Word := match regAt a with
  | some (r, w) => wordPart r.w1c w
  | none => 0

/-- A write by the access types alone (R13, R15): RW bits take the value, W1C bits written 1 clear, the others stay. -/
def State.putBits (s : State) (a : Nat) (v : Word) : State :=
  s.wr a (((s.rd a &&& ~~~ rwMask a) ||| (v &&& rwMask a)) &&& ~~~ (v &&& w1cMask a))

/-- A write of an error register whose VALID, written 1, clears the registers `as`. -/
def State.clearErr (s : State) (v : Word) (as : List Nat) : State := if v.getLsbD 31 then s.clear as else s

/-- A write of a counter-clear register: bit `i` clears the counters `as`. -/
def State.clearCtr (s : State) (v : Word) (i : Nat) (as : List Nat) : State := if v.getLsbD i then s.clear as else s

/-! ## Staged fields (R55, R60) -/

/-- A write of the staged fields of the word at `a`: it changes the staged copy and sets DIRTY, or is dropped while the
group is pending. -/
def State.writeStaged (s : State) (a : Nat) (v : Word) : State :=
  let m := stagedMask a
  match regGroup a with
  | none => s
  | some g =>
    let land (s : State) : State := s.wrStaged a ((s.rdStaged a &&& ~~~ m) ||| (v &&& m))
    match s.wordPart' a with
    | none => land s
    | some q =>
      if s.fld (Reg.structCommitStatus q) 0 2 = 1 ∧ (s.slot q).goMask.testBit g = true then
        s.setBit (Reg.structCommitStatus q) 3 true
      else (land s).setBit (Reg.structCommitDirty q) g true

/-! ## Module and structure-image registers -/

/-- A write of RST_CTRL (R531): a reserved KIND is refused. -/
def State.writeRst (s : State) (v : Word) : State :=
  let key := BitVec.ofNat 16 (fieldOf v 16 16)
  let tgt := fieldOf v 0 8
  match fieldOf v 8 3 with
  | 1 => s.rstTile key tgt
  | 2 => if tgt < 8 then (s.rstPart key tgt).settleCmds else s.rstRefused
  | 3 => s.rstCtrl key 3 State.warmReset
  | 4 => s.rstCtrl key 4 State.coldReset
  | _ => s.rstRefused

/-- A write of PWR_CTRL (R507, R508): REFUSED written 1 clears, then DEEP_IDLE takes its value. -/
def State.writePwr (s : State) (v : Word) : State :=
  let s := if v.getLsbD 1 then s.setBit Reg.pwrCtrl 1 false else s
  if v.getLsbD 0 then s.enterIdle else s.leaveIdle

/-- A write of a backup word (R514): words 0 to 15 by firmware only. -/
def State.writeBackup (s : State) (u : Requester) (i : Nat) (v : Word) : State :=
  if i < 16 ∧ u = .bar0 then s else { s.wr (Reg.backupMem i) v with backupBad := s.backupBad.filter (· != i) }

/-- A write of STRUCT_LOAD_CTRL (R46, R47). -/
def State.writeLoadCtrl (s : State) (v : Word) : State :=
  if v.getLsbD 0 then s.writeStart (fieldOf v 1 3) else s.putBits Reg.structLoadCtrl v

/-- A write of a module register. SEC_KEY_CTRL.GO takes the record that the host delivers, and is the command SEC_KEY_GO. -/
def State.moduleWrite (s : State) (u : Requester) (a : Nat) (v : Word) : State :=
  if a = Reg.bootRecoveryCtrl then
    let s := s.putBits a v
    if v.getLsbD 31 then s.recoveryGo else s
  else if a = Reg.fwUpdateCtrl then if v.getLsbD 0 && s.collarUp then s.fwGo else s
  else if a = Reg.secCtrl then if s.collarUp then s.svnCommit v else s
  else if a = Reg.rstCtrl then s.writeRst v
  else if 0x10000 ≤ a ∧ a < 0x10080 ∧ a % 0x20 = 0x10 then s.selectPoint ((a - 0x10000) / 0x20) (fieldOf v 0 2)
  else if a = Reg.clkCtrClear then s.clearCtr v 0 [Reg.clkStatTransitions]
  else if a = Reg.pwrCtrl then s.writePwr v
  else if a = Reg.pwrCtrClear then s.clearCtr v 0 [Reg.pwrStatWakeWait]
  else if a = Reg.calCtrl then if v.getLsbD 0 then s.requestCal else s
  else if 0x30100 ≤ a ∧ a < 0x30200 then s.writeBackup u ((a - 0x30100) / 4) v
  else if a = Reg.flogCtrl then s.clearLog v
  else if a = Reg.meshStarveInfo then s.clearErr v [a, Reg.meshStarveLoc]
  else if a = Reg.meshCtrClear then s.clearCtr v 0 meshCtrs
  else s.putBits a v

/-- A write of a structure-image register. -/
def State.structWrite (s : State) (a : Nat) (v : Word) : State :=
  if a = Reg.structLoadCtrl then s.writeLoadCtrl v
  else if 0x100040 ≤ a ∧ a < 0x1000C0 ∧ a % 0x10 = 0 then s.writeCommitCtrl ((a - 0x100040) / 0x10) v
  else s.putBits a v

/-! ## The tile block -/

/-- A write of a Pocket register. -/
def State.pocketRegWrite (s : State) (t a : Nat) (v : Word) : State :=
  if a = Reg.pocketCtrClear t then
    (((s.clearCtr v 0 (pocketConflictCtrs t)).clearCtr v 1 (pocketCeCtrs t)).clearCtr v 2 (pocketUeCtrs t)).clearCtr v 3
      (pocketNarrowCtrs t)
  else if a = Reg.pocketAccData t then s.accWrite t v
  else s.putBits a v

/-- A task that does not own the queue writes its PLACKET_Q_CTRL (R237). -/
def State.foreignTask (s : State) (u : Requester) (t q : Nat) : Option Nat := match u with
  | .task _ k => if k.val ≠ s.qOwner t q then some k.val else none
  | _ => none

/-- A write of PLACKET_Q_CTRL: release and commit act before a cancellation of the same write (R264). -/
def State.writeQCtrl (s : State) (u : Requester) (t q : Nat) (v : Word) : State :=
  match s.foreignTask u t q with
  | some k => if v &&& 0x801F001F = 0 then s else s.placketFault t q k 0x12 0x03 0
  | none =>
    let s := s.ringWrite u t q (fieldOf v 0 5) State.release
    let s := s.ringWrite u t q (fieldOf v 16 5) State.commit
    if v.getLsbD 31 then s.reqCancel t q else s

/-- A write of the registers of queue `q`: PLACKET_Q_CFG and PLACKET_Q_BASE only while it is empty (R247). -/
def State.queueRegWrite (s : State) (u : Requester) (t q a : Nat) (v : Word) : State :=
  if a = Reg.placketQCtrl t q then s.writeQCtrl u t q v
  else if a = Reg.placketQCfg t q ∨ a = Reg.placketQBase t q then
    if s.qEmpty t q then (s.putBits a v).refreshQ t q
    else s.refuseWrite u (some t) 2 0x16 0 (0, (s.rd (Reg.placketErrInfo t)).toNat, (s.rd (Reg.placketErrPos t)).toNat)
  else s.putBits a v

/-- A write of a Placket, Seam or Sleeve register. -/
def State.streamRegWrite (s : State) (u : Requester) (t a : Nat) (v : Word) : State :=
  let o := a % 0x10000
  if a = Reg.placketErrInfo t then s.clearErr v [a, Reg.placketErrPos t]
  else if a = Reg.placketCtrClear t then s.clearCtr v 0 (placketCtrs t)
  else if 0x1100 ≤ o ∧ o < 0x1300 then s.queueRegWrite u t ((o - 0x1100) / 0x20) a v
  else if a = Reg.seamErrInfo t then s.clearErr v [a, Reg.seamErrPos t]
  else if a = Reg.seamCtrClear t then s.clearCtr v 0 (seamCtrs t)
  else if a = Reg.sleeveErrInfo t then s.clearErr v [a, Reg.sleeveErrPos t]
  else if a = Reg.sleeveCtrClear t then (s.clearCtr v 0 (sleeveCtrs t)).clearCtr v 1 (sleeveSatCtrs t)
  else s.putBits a v

/-- A write of CUFF_TASK_CTRL: START and CANCEL both act on the state before the write (R348, R350). -/
def State.writeTaskCtrl (s : State) (t k : Nat) (v : Word) : State :=
  let live := s.canIssue t k
  let s' := if v.getLsbD 0 then s.startTask t k else s
  if v.getLsbD 1 && live then s'.cancelTask t k else s'

/-- A write of a Cuff core or suit register. -/
def State.cuffRegWrite (s : State) (t a : Nat) (v : Word) : State :=
  let o := a % 0x10000
  let k := (o - 0x4100) / 0x40
  if a = Reg.cuffDoorbell t then s.doorbell t (fieldOf v 0 4)
  else if a = Reg.cuffCtrClear t then s.clearCtr v 0 (cuffCtrs t)
  else if 0x4100 ≤ o ∧ o < 0x4200 then
    if a = Reg.cuffTaskCtrl t k then s.writeTaskCtrl t k v
    else if a = Reg.cuffTaskErr t k then s.clearErr v [a, Reg.cuffTaskErrPc t k]
    else s.putBits a v
  else if a = Reg.suitCtrl t then (List.range 4).foldl (fun s i => if v.getLsbD i then s.cancelSuit t i else s) s
  else if a = Reg.suitCtrClear t then s.clearCtr v 0 (suitCtrs t)
  else if 0x4800 ≤ o ∧ o < 0x4840 ∧ o % 0x10 = 4 then s.clearErr v [a]
  else s.putBits a v

/-- A write of WIN_CTRL: OPEN and CLOSE both act on the state before the write (R364). -/
def State.writeWinCtrl (s : State) (u : Requester) (t w : Nat) (v : Word) : State :=
  if s.winState t w = winOpen then if v.getLsbD 1 then s.closeWindow t w else s
  else if v.getLsbD 0 then s.openWindow u t w else s

/-- A write of a window, scoreboard or arbiter register. Window geometry is accepted only in state CLOSED (R365). -/
def State.winRegWrite (s : State) (u : Requester) (t a : Nat) (v : Word) : State :=
  let o := a % 0x10000
  let w := (o - 0x5000) / 0x20
  if 0x5000 ≤ o ∧ o < 0x5200 then
    if a = Reg.winCtrl t w then s.writeWinCtrl u t w v
    else if s.winState t w = winClosed then s.putBits a v
    else s.refuseWrite u (some t) 7 0x04 0 (s.winCtx t)
  else if a = Reg.winErrInfo t then s.clearErr v [a, Reg.winErrSrc t, Reg.winErrAddr t]
  else if a = Reg.winCtrClear t then (s.clearCtr v 0 (winCtrs t)).clearCtr v 1 (winStarveCtrs t)
  else if a = Reg.arbStarveInfo t then s.clearErr v [a]
  else s.putBits a v

def State.tileRegWrite (s : State) (u : Requester) (a : Nat) (v : Word) : State :=
  let t := (a - 0x1000000) / 0x10000
  let o := a % 0x10000
  if o < 0x1000 then s.pocketRegWrite t a v
  else if o < 0x4000 then s.streamRegWrite u t a v
  else if o < 0x5000 then s.cuffRegWrite t a v
  else s.winRegWrite u t a v

/-! ## The panel block -/

def State.panelRegWrite (s : State) (a : Nat) (v : Word) : State :=
  let p := (a - 0x2000000) / 0x10000
  if a = Reg.yokeErrInfo p ∨ a = Reg.lockErrInfo p then s.clearErr v [a]
  else if a = Reg.yokeCtrClear p then s.clearCtr v 0 (yokeCtrs p)
  else if a = Reg.samplerCtrClear p then s.clear ((setBits (fieldOf v 0 8) 8).flatMap (samplerCtrs p))
  else if a = Reg.lockCtrl p then if v.getLsbD 31 then s.forceOrphan (32 * p + fieldOf v 0 5) else s
  else if a = Reg.lockCtrClear p then s.clearCtr v 0 (lockCtrs p)
  else s.putBits a v

/-! ## Fabric and mirror -/

/-- A write of a fabric register. FAB_PORT_CTRL.RETRAIN takes effect at a time of the always-on clock (R402), and is the
command FAB_PORT_RETRAIN. -/
def State.fabricRegWrite (s : State) (a : Nat) (v : Word) : State :=
  let p := (a - 0x3000000) / 0x1000
  if a < 0x3012000 then
    if a = Reg.fabPortCtrl p then s.enablePort p (v.getLsbD 0)
    else if a = Reg.fabPortCtrClear p then s.clearCtr v 0 (fabPortCtrs p)
    else s.putBits a v
  else if a = Reg.fabModuleId then s.writeModuleId v
  else if a = Reg.fabErrInfo then s.clearErr v [a, Reg.fabErrSrc]
  else if a = Reg.fabCtrClear then s.clearCtr v 0 fabCtrs
  else s.putBits a v

/-- A write of a mirror register. MIRROR_ALIAS is written by firmware only, while no partition is loaded (R463). -/
def State.mirrorRegWrite (s : State) (u : Requester) (a : Nat) (v : Word) : State :=
  let q := (a - 0x3101000) / 0x100
  if a = Reg.mirrorAlias then if u = .bar0 ∨ s.loaded.isEmpty = false then s else s.putBits a v
  else if 0x3101000 ≤ a ∧ a < 0x3101800 then
    if a = Reg.mirrorCtrl q then if v.getLsbD 0 then s.askPlanned q else s
    else if a = Reg.mirrorErrInfo q then s.clearErr v [a]
    else if a = Reg.mirrorCtrClear q then s.clearCtr v 0 (mirrorCtrs q)
    else s.putBits a v
  else s.putBits a v

/-- A write of a register of an HBM controller. -/
def State.hbmRegWrite (s : State) (a : Nat) (v : Word) : State :=
  let c := (a - 0x3200000) / 0x20000
  if a = Reg.hbmErrInfo c then s.clearErr v [a, Reg.hbmErrAddr c, Reg.hbmErrAddr c + 4]
  else if a = Reg.hbmCtrClear c then s.clearCtr v 0 [Reg.hbmCeCount c, Reg.hbmUeCount c]
  else s.putBits a v

/-! ## The host interface (R488) -/

/-- A field of a ring that its ENABLE protects is written: a change while `on` is refused with RING_BUSY, otherwise the
bits `m` of the word at `a` take the value. -/
def State.ringField (s : State) (u : Requester) (on : Bool) (part : Option Nat) (a : Nat) (m v : Word) : State :=
  if on then
    if (s.rd a ^^^ v) &&& m = 0 then s
    else match part with
      | some q => State.recordOnly s 0x16 13 0 none (some q) 0 (s.rd (Reg.hostSlotErr q)).toNat 0
      | none => s.refuseWrite u none 13 0x16 0 (0, (s.rd Reg.hostErr).toNat, 0)
  else s.wr a ((s.rd a &&& ~~~ m) ||| (v &&& m))

/-- A write of a 64-bit base register: its high and low words together. -/
def State.ringBase (s : State) (u : Requester) (on : Bool) (part : Option Nat) (a : Nat) (lo hi : Word) : State :=
  if on && (((s.rd a ^^^ lo) &&& 0xFFFFF000) ||| (s.rd (a + 4) ^^^ hi)) == 0 then s
  else if on then s.ringField u on part a 0xFFFFFFFF (~~~ s.rd a)
  else s.wr64 a ((lo &&& 0xFFFFF000).toNat + 0x100000000 * hi.toNat)

/-- A write of a host register of 32 bits. -/
def State.hostRegWrite (s : State) (u : Requester) (a : Nat) (v : Word) : State :=
  let q := (a - 0x4001000) / 0x80
  if a = Reg.hostCmdCfg then
    (s.ringField u s.cmdOn none a 0xF v).enableRing none (v.getLsbD 31)
  else if a = Reg.hostCmdTail then s.writeCmdTail v
  else if a = Reg.hostErr then s.clearErr v [a]
  else if 0x4001000 ≤ a ∧ a < 0x4001400 then
    if a = Reg.hostRingCfg q then
      let s := s.ringField u (s.ringOn q) (some q) a 0x0FF0FFFF v
      if h : q < 8 then s.enableRing (some ⟨q, h⟩) (v.getLsbD 31) else s
    else if a = Reg.hostSeqTail q then s.writeSeqTail q v
    else if a = Reg.hostOutHead q then s.writeOutHead q v
    else if a = Reg.hostSlotErr q then s.clearErr v [a]
    else s.putBits a v
  else s.putBits a v

/-! ## Writes of 64-bit registers (R12, R585) -/

/-- The number of a requester. -/
def reqNum : Requester → Nat
  | .collar c => c.val
  | .bar0 => 8
  | .task t k => 9 + 4 * t.val + k.val

/-- The key of a requester's latch and held word for the 64-bit register at `a`. -/
def pairKey (u : Requester) (a : Nat) : Nat := reqNum u * 0x100000000 + a

/-- The whole 64-bit value takes effect at the register at `a`. -/
def State.wideWrite (s : State) (u : Requester) (a : Nat) (lo hi : Word) : State :=
  let q := (a - 0x4001000) / 0x80
  if a = Reg.hostStatusBase then (s.ringBase u (s.bit a 0) none a lo hi).enableStatus (lo.getLsbD 0)
  else if a = Reg.hostCmdBase then s.ringBase u s.cmdOn none a lo hi
  else if a = Reg.hostSeqBase q ∨ a = Reg.hostOutBase q ∨ a = Reg.hostPartBase q then
    s.ringBase u (s.ringOn q) (some q) a lo hi
  else if regGroup a ≠ none then (s.writeStaged a lo).writeStaged (a + 4) hi
  else (s.putBits a lo).putBits (a + 4) hi

/-- A write of a word of a 64-bit register: the low word is held, the high word completes it. -/
def State.pairWrite (s : State) (u : Requester) (a : Nat) (high : Bool) (v : Word) : State :=
  let k := pairKey u a
  if high then State.wideWrite { s with heldLow := tdel s.heldLow k } u a (tget s.heldLow 0 k) v
  else { s with heldLow := tset s.heldLow k v }

/-! ## Accesses -/

/-- A write of the register word at `a` that has power. -/
def State.regPut (s : State) (u : Requester) (a : Nat) (v : Word) : State :=
  match regAt a with
  | none => s
  | some (r, w) =>
    if r.width = 64 then s.pairWrite u (a - w) (w == 4) v
    else if r.group.isSome then s.writeStaged a v
    else if a < 0x100000 then s.moduleWrite u a v
    else if a < 0x1000000 then s.structWrite a v
    else if a < 0x2000000 then s.tileRegWrite u a v
    else if a < 0x3000000 then s.panelRegWrite a v
    else if a < 0x3100000 then s.fabricRegWrite a v
    else if a < 0x3200000 then s.mirrorRegWrite u a v
    else if a < 0x3300000 then s.hbmRegWrite a v
    else s.hostRegWrite u a v

/-- A write of control space (R11, R15, R502): a misaligned one, one to an unassigned address and one to a unit without
power are dropped. -/
def State.ctlWrite (s : State) (u : Requester) (a : Nat) (v : Word) : State :=
  if a % 4 = 0 then s.ctl a (fun s => s.regPut u a v) else s

/-- A word of CLK_DOMAIN_RUN (R494): which domains have a clock that runs. -/
def State.clkRun (s : State) : Word :=
  let up (d : Nat) : Bool := s.domainOn d
  let grp (lo n : Nat) : Bool := (List.range n).any (fun i => up (lo + i))
  let bits : List Bool := [up 1, up 2, up 3, up 4] ++
    (List.range 4).map (fun p => (List.range 64).any (fun j => s.branchRuns (64 * p + j)) && up (13 + p)) ++
    (List.range 4).map (fun p => up (13 + p)) ++ [up 17, grp 18 4, grp 22 4, grp 26 4, up 30, up 30]
  BitVec.ofNat 32 ((bits.zipIdx).foldl (fun n (b, i) => if b then n + 2 ^ i else n) 0)

/-- Dirty pages of the mirror set of partition `q` (R440). -/
def State.mirrorDirtyPages (s : State) (q : Nat) : Nat :=
  ((s.slot q).mset.flatMap (fun (a, n) => (List.range n).filter (fun i => s.pageDirty (a + 65536 * i)))).length

/-- What a read of the word at `a` returns, as it stands. -/
def State.wordNow (s : State) (a : Nat) : Word :=
  if a = Reg.clkDomainRun then s.clkRun
  else if a = Reg.pwrState then BitVec.ofNat 32 s.pwrState
  else if a = Reg.structStageData then s.stageData
  else if 0x3101000 ≤ a ∧ a < 0x3101800 ∧ a % 0x100 = 0x10 then BitVec.ofNat 32 (s.mirrorDirtyPages ((a - 0x3101000) / 0x100))
  else s.rd a

/-- A read of control space by requester `u` (R11-R15, R502, R585): a low word latches the high word; an access that is
misaligned, unassigned or to a unit without power returns 0; reads of WO fields return 0, as nothing stores them. A
backup word whose parity fails reads 0 (R514), and POCKET_ACC_DATA reads the Pocket (R92). -/
def State.ctlRead (s : State) (u : Requester) (a : Nat) : State × Word :=
  if a % 4 ≠ 0 ∨ s.regOn a = false then (s, 0)
  else match regAt a with
    | none => (s, 0)
    | some (r, w) =>
      if r.width = 64 then
        let k := pairKey u (a - w)
        if w = 0 then ({ s with latched := tset s.latched k (s.rd (a + 4)) }, s.rd a)
        else ({ s with latched := tdel s.latched k }, (tfind s.latched k).getD (s.rd a))
      else if 0x30100 ≤ a ∧ a < 0x30200 ∧ s.backupBad.contains ((a - 0x30100) / 4) then (s.setBit Reg.calStatus 28 true, 0)
      else if 0x1000000 ≤ a ∧ a < 0x2000000 ∧ a % 0x10000 = 0x84 then s.accRead ((a - 0x1000000) / 0x10000)
      else (s, s.wordNow a)

/-- The addresses that task `k` of tile `t` may reach (R337). -/
def taskReaches (t : Nat) (a : Nat) : Bool :=
  a % 4 == 0 && 0x1001000 + 0x10000 * t ≤ a && a < 0x1008000 + 0x10000 * t

/-- A write by any requester: a running task writes within its range, and aborts outside it (R337); in D3hot no write of
the host arrives (R464). -/
def State.writeFrom (s : State) (u : Requester) (a : Nat) (v : Word) : State :=
  match u with
  | .task t k => if !s.canIssue t k then s else if taskReaches t a then s.ctlWrite u a v else s.illegal t k 0x04
  | .bar0 => if s.d3 then s else s.ctlWrite u a v
  | .collar _ => s.ctlWrite u a v

/-! ## The commands -/

/-- REGISTER_WRITE (R53, R54). -/
def execRegisterWrite (u : Requester) (a v : Word) (s : State) : Host.Outcome State Fault Refusal :=
  .next (s.writeFrom u a.toNat v)

/-- STAGED_FIELD_WRITE (R55, R60): a write of `a` where the register there holds staged fields. -/
def execStagedFieldWrite (u : Requester) (a v : Word) (s : State) : Host.Outcome State Fault Refusal :=
  .next (if regGroup a.toNat = none then s else s.writeFrom u a.toNat v)

/-- The address of a CSRR or CSRW (R333). -/
def State.csrAddr (s : State) (t k : Nat) (w : Word) : Nat := (s.opA t k w + sext16 w).toNat

/-- CSRR: RD := the control-space word (R333). -/
def execCsrr (t : TileId) (k : SlotId) (s : State) : Host.Outcome State Fault Refusal :=
  .next (s.issue t k (code 0x30 0) (fun w s =>
    let a := s.csrAddr t k w
    if taskReaches t a then
      let (s, v) := s.ctlRead (.task t k) a
      s.setRd t k w v
    else s.illegal t k 0x04))

/-- CSRW: the word at the address takes RD (R333). A write that aborts or cancels the task itself ends it there. -/
def execCsrw (t : TileId) (k : SlotId) (s : State) : Host.Outcome State Fault Refusal :=
  .next (s.issue t k (code 0x31 0) (fun w s =>
    let s := s.writeFrom (.task t k) (s.csrAddr t k w) (s.creg t k (rdOf w))
    if s.taskOver t k then s else s.complete t k))

end Sys2Proof.Machine
end

