-- ==== Sys2Proof/Machine/SuitOut.lean ====
section
/-! DEFINITION. The REDUCE, CONVERT and STORE stages of a suit (spec 07, 09). -/

namespace Sys2Proof.Machine

/-! ## Reading and writing rows of a DENSE tensor -/

def boundFlt (stage : Nat) : Flt := { stage := stage, unit := 5, code := 0x10, sub := 0, side := 0, pos := 0 }
/-- A write into an EMPTY owner block (R127). -/
def emptyFlt (stage : Nat) : Flt := { stage := stage, unit := 5, code := 0x07, sub := 0, side := 0, pos := 0 }

/-- The elements of a DENSE tensor at row `r`, columns `c` to `c + n - 1`; side 2 names no operand. An EMPTY block has
none. -/
def State.rowWants (s : State) (t : Nat) (x : Suit) (d : TDesc) (r c n : Nat) : List Want :=
  ((List.range n).map (c + ·)).filterMap (fun k =>
    match s.img t x 2 d r k with
    | some g => if g.empty then none else some { g := g, idx := g.dense r k, row := r, col := k }
    | none => none)

/-- Reads them, with their columns. -/
def State.readRow (s : State) (t : Nat) (x : Suit) (stage : Nat) (d : TDesc) (r c n : Nat) : Step' (List (Nat × Opnd)) :=
  andThen (each (fun s (p : Img × List Want) =>
      andThen (s.readVals t x 2 stage p.1 false (p.2.map (·.idx))) (fun s vs =>
        (s, .ok (p.2.filterMap (fun w => (tfind vs w.idx).map (fun v => (w.col, v))))))) s (wantGroups (s.rowWants t x d r c n)))
    (fun s l => (s, .ok l.flatten))

/-- Writes bytes at a physical offset for a stage. -/
def State.stageWrite (s : State) (t stage off : Nat) (bs : List Byte) : Step' Unit :=
  match s.pocketWrite t off (bs.map some) with
  | (s, 0) => (s, .ok ())
  | (s, c) => (s, .error { stage := stage, unit := 1, code := c, sub := 0, side := 0,
                           pos := s.failOff t c off (wordsOf off bs.length) })

def State.planeWrite (s : State) (t : Nat) (x : Suit) (stage : Nat) (g : Img) (plane off : Nat) (bs : List Byte) : Step' Unit :=
  match s.planeAt t x g plane off bs.length with
  | some o => s.stageWrite t stage o bs
  | none => (s, .error (boundFlt stage))

/-- Writes a bit of each value into plane `p`: `bits` gives value index and bit. -/
def State.planeBits (s : State) (t : Nat) (x : Suit) (stage : Nat) (g : Img) (p : Nat) (bits : List (Nat × Bool)) : Step' Unit :=
  let w := g.d.width
  let at' (i : Nat) : Nat := (i / 256 * w + p) * 32 + i % 256 / 8
  let bytes := (bits.map (fun b => b.1 / 8)).eraseDups
  andThen (each (fun s k =>
      andThen (s.planeNat t x stage g g.d.val0 (at' (8 * k)) 1) (fun s old =>
        let new := bits.foldl (fun v b => if b.1 / 8 = k then
          (if b.2 then v ||| 2 ^ (b.1 % 8) else v &&& (255 - 2 ^ (b.1 % 8))) else v) old
        s.planeWrite t x stage g g.d.val0 (at' (8 * k)) [BitVec.ofNat 8 new])) s bytes)
    (fun s _ => (s, .ok ()))

/-- The POCC byte of block `b`, as its planes now stand (R117). -/
def State.fixPocc (s : State) (t : Nat) (x : Suit) (stage : Nat) (g : Img) (b : Nat) : Step' Unit :=
  andThen (each (fun s p => s.planeNat t x stage g g.d.val0 ((b * g.d.width + p) * 32) 32) s (List.range g.d.width))
    (fun s vs => s.planeWrite t x stage g g.d.pocc b [BitVec.ofNat 8
      (((List.range vs.length).zip vs).foldl (fun m (p, v) => if v = 0 then m else m + 2 ^ p) 0)])

/-- Writes values (value index and the words of each plane) into one image. -/
def State.writeVals (s : State) (t : Nat) (x : Suit) (stage : Nat) (g : Img) (vs : List (Nat × Nat × Nat)) : Step' Unit :=
  let ty := g.d.elem
  if isPlane ty then
    andThen (each (fun s p => s.planeBits t x stage g p (vs.map (fun v => (v.1, v.2.1.testBit p)))) s (List.range g.d.width))
      (fun s _ => andThen (each (fun s b => s.fixPocc t x stage g b) s ((vs.map (fun v => v.1 / 256)).eraseDups))
        (fun s _ => (s, .ok ())))
  else
    let z := tySize ty
    let runs := runsOf 128 (vs.map (·.1))
    let bytes (f : Nat × Nat → Nat) (k : Nat × Nat) : List Byte :=
      (vs.filter (fun v => k.1 ≤ v.1 && v.1 < k.1 + k.2)).flatMap (fun v => leBytes z (f v.2))
    andThen (each (fun s k => s.planeWrite t x stage g g.d.val0 (z * k.1) (bytes (·.1) k)) s runs) (fun s _ =>
      if isPair ty then
        andThen (each (fun s k => s.planeWrite t x stage g g.d.val1 (2 * k.1) (bytes (·.2) k)) s runs) (fun s _ => (s, .ok ()))
      else (s, .ok ()))

/-- Writes the elements of row `r` from column `c` on. -/
def State.writeRow (s : State) (t : Nat) (x : Suit) (stage : Nat) (d : TDesc) (r c : Nat) (vals : List (Nat × Nat)) : Step' Unit :=
  let ws := s.rowWants t x d r c vals.length
  if ws.length < vals.length then (s, .error (emptyFlt stage))
  else andThen (each (fun s (p : Img × List Want) =>
      s.writeVals t x stage p.1 (p.2.map (fun w => (w.idx, vals.getD (w.col - c) (0, 0))))) s (wantGroups ws))
    (fun s _ => (s, .ok ()))

/-! ## REDUCE (R286) -/

/-- The words of a total in its planes. -/
def Tot.words : Tot → Nat × Nat
  | .int x => (i32Hi x, i32Lo x)
  | .pair v c => (v, c)

def Tot.ofOpnd (d : TDesc) (o : Opnd) : Tot :=
  if d.elem = tyI32Pair then .int (i32Of (o.v / 65536) (o.v % 65536)) else .pair (o.v / 65536) (o.v % 65536)

def Tot.zero (d : TDesc) : Tot := if d.elem = tyI32Pair then .int 0 else .pair 0 0

/-- The suit that REDUCE serves. -/
def State.reduceSuit (s : State) (t : Nat) : Option (Nat × Suit) :=
  s.nextSuit t (fun x => x.has stReduce && !(x.run.sleeve == 2 && x.run.red.isEmpty))

/-- REDUCE_ROW_READ: the next running-total row, in tile and row order, into a buffer of 4. Masked rows are not read. -/
def execReduceRowRead (t : TileId) (s : State) : Host.Outcome State Fault Refusal :=
  .next (match s.reduceSuit t with
  | none => s
  | some (i, x) =>
    let r := x.run
    let m := x.drainRows
    let o := r.redPos / m
    if x.init ∨ 4 ≤ r.ahead.length ∨ x.tiles ≤ o then s
    else
      let d := s.totalDesc t x
      let (rc, cc) := if x.isDot then (1, x.pairs) else x.tileSize o
      let (row, col) := if x.isDot then (x.orow, x.ocol) else x.outAt o (r.redPos % m) 0
      if rc ≤ r.redPos % m then s.putRun t i x { r with ahead := r.ahead ++ [(o, [])], redPos := r.redPos + 1 }
      else keepRun t i x (andThen (s.readRow t x stReduce d row col cc) (fun s vs =>
        let vals := (List.range cc).map (fun j => ((tfind vs (col + j)).map (Tot.ofOpnd d)).getD (Tot.zero d))
        (s, .ok { r with ahead := r.ahead ++ [(o, vals)], redPos := r.redPos + 1 }))))

/-- The words of a result that a pair tensor takes unchanged. -/
def Res.words : Res → Nat × Nat
  | .tot x => x.words
  | _ => (0, 0)

/-- REDUCE_ROW_WRITEBACK: a drained row goes back to TOTAL under WRITEBACK, and on to CONVERT or STORE. -/
def execReduceRowWriteback (t : TileId) (s : State) : Host.Outcome State Fault Refusal :=
  .next (match s.reduceSuit t with
  | none => s
  | some (i, x) =>
    let r := x.run
    match r.red with
    | [] => s
    | w :: rest =>
      if x.has stStore ∧ 4 ≤ r.cvt.length then s
      else keepRun t i x (andThen
        (if x.writeback then s.writeRow t x stReduce (s.totalDesc t x) w.row w.col (w.vals.map Res.words) else (s, .ok ()))
        (fun s _ => (s, .ok { r with red := rest, cvt := if x.has stStore then r.cvt ++ [w] else r.cvt }))))

/-! ## CONVERT (R211-R214, R218) -/

/-- What CONVERT needs of the destination's recipe. -/
structure Cvt where
  d : TDesc
  /-- scale block rows and columns, (0, 0) without -/
  sb : Nat × Nat
  dropKeyed : Bool
  cvtKeyed : Bool
  maxabs : Bool
  margin : Int
  minExp : Int
  fixedExp : Int
  /-- type and value format of the source total -/
  ty : Nat
  f : Fmt
  seed : Nat
  step : Nat
  tid : Nat
deriving DecidableEq, Repr

def State.cvtOf (s : State) (t : Nat) (x : Suit) : Cvt :=
  let d := s.outDesc t x
  let q := (s.partOf t).getD 0
  let w := s.recipeW1 t q d.recipe
  let src := if x.isSum then d.elem else (s.totalDesc t x).elem
  { d := d, sb := s.scaleBlock t d, dropKeyed := w.testBit 0, cvtKeyed := w.testBit 1, maxabs := w.testBit 2,
    margin := bitsOf w 8 3, minExp := signedOf (bitsOf w 16 8) 8, fixedExp := signedOf (bitsOf w 24 8) 8, ty := src,
    f := (tyFmt src).getD fmtBF16, seed := (s.slot q).seed, step := (s.slot q).step, tid := x.outTid }

/-- The scale exponents that R163 left to CONVERT, for column `j` of a row. -/
def State.inExp (s : State) (t : Nat) (x : Suit) (w : ORow) (j : Nat) : Step' Int :=
  if x.isSum ∨ isFloat (s.sideDesc t x 0).elem then (s, .ok 0)
  else
    andThen (if x.isDot then s.pairAt t x stConvert j else (s, .ok (w.arow, w.brow + j))) (fun s (ra, rb) =>
      let one (s : State) (side row : Nat) : Step' Int :=
        let d := s.sideDesc t x side
        match s.img t x side d row x.kLo with
        | some g => if g.empty ∨ d.nr ≤ row then (s, .ok 0) else s.scaleAt t x stConvert g row x.kLo
        | none => (s, .ok 0)
      andThen (one s 0 ra) (fun s a => andThen (one s 1 rb) (fun s b => (s, .ok (a + b)))))

/-- Where the scale byte of output element (r, c) lies; none without scale blocks or in a ring. -/
def State.scaleAddr (s : State) (t : Nat) (x : Suit) (k : Cvt) (r c : Nat) : Step' (Option Nat) :=
  if k.sb.1 = 0 ∨ k.sb.2 = 0 ∨ x.toRing then (s, .ok none)
  else match s.img t x 2 k.d r c with
    | none => (s, .ok none)
    | some g =>
      if g.empty then (s, .error (emptyFlt stConvert))
      else match s.planeAt t x g k.d.scale (scaleIdx k.sb g r c) 1 with
        | some o => (s, .ok (some o))
        | none => (s, .error (boundFlt stConvert))

/-- An element on its way through CONVERT: its column, exact source with E_in, its scale block (by number in the tensor)
and where the block's byte lies. -/
structure CElem where
  row : Nat
  col : Nat
  res : Res
  src : FNum
  blk : Nat × Nat
  addr : Option Nat
deriving DecidableEq, Repr

def State.cvtElem (s : State) (t : Nat) (x : Suit) (k : Cvt) (w : ORow) (j : Nat) (v : Res) : Step' CElem :=
  andThen (s.inExp t x w j) (fun s e => andThen (s.scaleAddr t x k w.row (w.col + j)) (fun s a =>
    (s, .ok { row := w.row, col := w.col + j, res := v, src := (v.toF k.f).scale e,
              blk := (w.row / max 1 k.sb.1, (w.col + j) / max 1 k.sb.2), addr := a })))

/-- The exponent of a scale block under MAXABS (R214); none where the rule gives no number. -/
def blockExp (k : Cvt) (es : List FNum) : Option Int :=
  let fin (v : FNum) : Bool := match v with | .fin _ _ _ => true | _ => false
  if !es.all fin then none
  else
    let big := es.foldl (fun (b : Nat × Int) v => match v with
      | .fin m e _ => if magLe m e b.1 b.2 then b else (m.natAbs, e)
      | _ => b) (0, 0)
    if big.1 ≠ 0 ∧ (tyFmax k.d.elem k.d.width).1 = 0 then none
    else some (maxabsExp k.d.elem k.d.width k.minExp k.margin big.1 big.2)

/-- The exponents of the blocks of a group of elements; where R214 gives none the byte is a free value. -/
def State.blockExps (s : State) (k : Cvt) (es : List CElem) : State × List ((Nat × Nat) × Int) :=
  ((es.map (·.blk)).eraseDups).foldl (fun (st : State × List ((Nat × Nat) × Int)) b =>
    let (s, l) := st
    if !k.maxabs then (s, l ++ [(b, k.fixedExp)])
    else match blockExp k ((es.filter (fun e => e.blk == b)).map (·.src)) with
      | some e => (s, l ++ [(b, e)])
      | none => ({ s with freeCtr := s.freeCtr + 1 },
          l ++ [(b, signedOf ((Config.freeWord s.freeCtr).toNat % 256) 8)])) (s, [])

/-- The stored words of an element, and whether it is a saturating event (R211, R212). -/
def cvtWord (x : Suit) (k : Cvt) (exp : Int) (e : CElem) : (Nat × Nat) × Bool :=
  let noise (keyed : Bool) : Option Nat :=
    if keyed then some (keyNoise k.seed 1 k.tid k.step (e.row * k.d.nc + e.col)) else none
  let ty := k.d.elem
  if isPair ty then (e.res.words, false)
  else
    let own := (k.ty == tyBFPair && ty == tyBF16) || (k.ty == tyHFPair && ty == tyFP16)
    let (w, sat) := if x.isSum then convertTo ty k.d.width (noise k.cvtKeyed) e.src
      else if own then convertTo ty k.d.width (noise k.dropKeyed) e.src
      else convertTo ty k.d.width (noise k.cvtKeyed) (e.src.scale (-exp))
    ((w, 0), sat)

/-- The lining update of one element (R218): the weight's new word, and where the new lining byte goes. -/
def State.lineElem (s : State) (t : Nat) (x : Suit) (k : Cvt) (e : CElem) : Step' ((Nat × Nat) × Option (Nat × Nat)) :=
  let ln := (s.suitTensor t x.liningTid).getD { bytes := [] }
  match s.img t x 2 k.d e.row e.col, s.img t x 2 ln e.row e.col with
  | some g, some h =>
    if g.empty ∨ h.empty then (s, .error (emptyFlt stConvert))
    else
      let i := g.dense e.row e.col
      andThen (s.planeNat t x stConvert g k.d.val0 (2 * i) 2) (fun s w =>
        match s.planeAt t x h ln.val0 i 1 with
        | none => (s, .error (boundFlt stConvert))
        | some o => andThen (s.stageRead t stConvert o 1) (fun s bs =>
          let f := (tyFmt k.d.elem).getD fmtBF16
          let (w', l') := lining f (keyNoise k.seed 2 k.tid k.step (e.row * k.d.nc + e.col)) w (leNat bs) e.src
          (s, .ok ((w', 0), some (o, l')))))
  | _, _ => (s, .error (boundFlt stConvert))

/-- Converts rows that share their scale blocks. -/
def State.cvtRows (s : State) (t : Nat) (x : Suit) (k : Cvt) (ws : List ORow) : Step' (List StRow × Bool) :=
  andThen (each (fun s (w : ORow) =>
      andThen (each (fun s (p : Nat × Res) => s.cvtElem t x k w p.1 p.2) s ((List.range w.vals.length).zip w.vals))
        (fun s es => (s, .ok (w, es)))) s ws) (fun s rows =>
    let scaled := k.sb.1 != 0 && k.sb.2 != 0
    let (s, exps) := if scaled then s.blockExps k (rows.flatMap (·.2)) else (s, [])
    let exp (e : CElem) : Int := ((exps.find? (fun p => p.1 == e.blk)).map (·.2)).getD 0
    andThen (each (fun s (p : ORow × List CElem) =>
        let (w, es) := p
        let bytes := es.filterMap (fun e => e.addr.map (fun a => (a, unsignedOf (exp e) 8)))
        andThen (each (fun s e =>
            if x.lining then andThen (s.lineElem t x k e) (fun s (v, l) => (s, .ok (v, false, l)))
            else
              let (v, sat) := cvtWord x k (exp e) e
              (s, .ok (v, sat, none))) s es) (fun s out =>
          (s, .ok (({ tile := w.tile, row := w.row, col := w.col, vals := out.map (·.1),
                      scales := bytes.eraseDups ++ out.filterMap (fun o => o.2.2), last := w.last } : StRow),
                   out.any (fun o => o.2.1))))) s rows) (fun s out =>
      (s, .ok (out.map (·.1), out.any (·.2)))))

/-- A saturating conversion in tile `o` counts for the tile when it finishes drain, or at once when it has (R184, R212). -/
def State.cvtSaturated (s : State) (t : Nat) (x : Suit) (r : SuitRun) (o : Nat) : State × SuitRun :=
  if x.isSum then (if r.sleeve = 2 then s.raiseSat t x r 0 else (s, { r with cvtSat := true }))
  else if (List.range 2).any (fun j => (r.set x j).tile == o && (!(r.set x j).ended || (r.set x j).dr < x.drainRows)) then
    (s, { r with cvtSat := true })
  else s.raiseSat t x r o

/-- The suit that CONVERT serves. -/
def State.convertSuit (s : State) (t : Nat) : Option (Nat × Suit) :=
  s.nextSuit t (fun x => x.has stConvert && !(x.run.sleeve == 2 && x.run.red.isEmpty && x.run.cvt.isEmpty && x.run.held.isEmpty))

/-- Converts rows and hands them to STORE. -/
def State.convertOut (s : State) (t i : Nat) (x : Suit) (k : Cvt) (ws : List ORow) (r : SuitRun) : State :=
  match s.cvtRows t x k ws with
  | (s, .error f) => keepRun t i x (s, .error f)
  | (s, .ok (out, sat)) =>
    let r := { r with sto := r.sto ++ out }
    let (s, r) := if sat then s.cvtSaturated t x r ((ws.map (·.tile)).headD 0) else (s, r)
    s.putRun t i x r

/-- CONVERT_ROW: one row; under MAXABS the rows of a tile (for a sum, of the stage) are kept until its last. -/
def execConvertRow (t : TileId) (s : State) : Host.Outcome State Fault Refusal :=
  .next (match s.convertSuit t with
  | none => s
  | some (i, x) =>
    let r := x.run
    let k := s.cvtOf t x
    let whole := k.maxabs && k.sb.1 != 0 && k.sb.2 != 0
    match r.cvt with
    | [] => if x.isSum ∧ r.sleeve = 2 ∧ r.held ≠ [] then s.convertOut t i x k r.held { r with held := [] } else s
    | w :: rest =>
      if whole ∧ (x.isSum ∨ !w.last) then s.putRun t i x { r with cvt := rest, held := r.held ++ [w] }
      else if 4 ≤ r.sto.length then s
      else s.convertOut t i x k (r.held ++ [w]) { r with cvt := rest, held := [] })

/-! ## STORE (R280, R287) -/

/-- The suit that STORE serves. -/
def State.storeSuit (s : State) (t : Nat) : Option (Nat × Suit) := s.nextSuit t (fun x => x.has stStore && !x.drained)

/-- A row that reaches STORE without CONVERT: a pair unchanged, a sum rounded to its element type. -/
def ORow.plain (w : ORow) (d : TDesc) : StRow :=
  { tile := w.tile, row := w.row, col := w.col, scales := [], last := w.last,
    vals := w.vals.map (fun v => if isPair d.elem then v.words
      else ((convertTo d.elem d.width none (v.toF fmtBF16)).1, 0)) }

/-- The next row for STORE, and the stages without it. -/
def State.nextStore (s : State) (t : Nat) (x : Suit) : Option (StRow × SuitRun) :=
  let r := x.run
  if x.has stConvert then
    match r.sto with
    | w :: rest => some (w, { r with sto := rest })
    | [] => none
  else match r.cvt with
    | w :: rest => some (w.plain (s.outDesc t x), { r with cvt := rest })
    | [] => none

/-- Writes the scale and lining bytes of a row. -/
def State.writeScales (s : State) (t : Nat) (bs : List (Nat × Nat)) : Step' Unit :=
  andThen (each (fun s (p : Nat × Nat) => s.stageWrite t stStore p.1 [BitVec.ofNat 8 p.2]) s bs) (fun s _ => (s, .ok ()))

/-! ### MERGE -/

/-- Writes PTR entry `e` of the CROW output. -/
def State.putPtr (s : State) (t : Nat) (x : Suit) (g : Img) (e v : Nat) : Step' Unit :=
  andThen (s.planeWrite t x stStore g g.d.ptrHi (2 * e) (leBytes 2 (v / 65536))) (fun s _ =>
    s.planeWrite t x stStore g g.d.ptrLo (2 * e) (leBytes 2 (v % 65536)))

/-- Pair `l` has ended: the SEAM stage is past it and nothing of it is left in any buffer. -/
def SuitRun.pairOver (r : SuitRun) (x : Suit) (l : Nat) : Bool :=
  l < x.pairs && (l < r.sOp || r.seam == 2) && !(r.pend ++ r.hand).any (fun q => q.op == l) && !r.fed.any (fun f => f.op == l) &&
    !(r.cvt ++ r.held).any (fun w => w.tile == l) && !r.sto.any (fun w => w.tile == l)

/-- One write of a MERGE: the first pointer, a value with its column, or the pointer that ends a pair. -/
def State.storeMerge (s : State) (t : Nat) (x : Suit) : Step' SuitRun :=
  let r := x.run
  let d := s.outDesc t x
  match s.img t x 2 d x.orow 0 with
  | none => (s, .error (boundFlt stStore))
  | some g =>
    if g.empty then (s, .error (emptyFlt stStore))
    else if r.outPairs = 0 then
      andThen (s.putPtr t x g (x.orow - g.r0) x.vstart) (fun s _ => (s, .ok { r with outPairs := 1 }))
    else if r.pairOver x (r.outPairs - 1) then
      andThen (s.putPtr t x g (x.orow - g.r0 + r.outPairs) (x.vstart + r.outN)) (fun s _ => (s, .ok { r with outPairs := r.outPairs + 1 }))
    else match s.nextStore t x with
      | none => (s, .ok r)
      | some (w, r) =>
        let i := x.vstart + r.outN
        andThen (s.writeVals t x stStore g ((w.vals.take 1).map (fun v => (i, v)))) (fun s _ =>
          andThen (s.planeWrite t x stStore g d.idxCol (2 * i) (leBytes 2 (w.col % 65536))) (fun s _ =>
            andThen (s.writeScales t w.scales) (fun s _ => (s, .ok { r with outN := r.outN + 1 }))))

/-! ### A ring -/

/-- Bytes of an element in the stream to a ring. -/
def ringSize (ty : Nat) : Nat := if isPair ty then 4 else if isPlane ty then 1 else tySize ty

/-- The bytes of an element in the stream: a free value for pair and plane types, whose layout in a stream is not
stated. -/
def State.ringBytes (s : State) (ty : Nat) (v : Nat × Nat) : State × List Byte :=
  if isPair ty ∨ isPlane ty then
    ({ s with freeCtr := s.freeCtr + 1 }, leBytes (ringSize ty) (Config.freeWord s.freeCtr).toNat)
  else (s, leBytes (tySize ty) v.1)

/-- Nothing is left for STORE. -/
def SuitRun.storeOver (r : SuitRun) : Bool :=
  r.sleeve == 2 && r.red.isEmpty && r.cvt.isEmpty && r.held.isEmpty && r.sto.isEmpty

/-- Commits the slot at TAIL. -/
def State.commitSlot (s : State) (t : Nat) (x : Suit) : State := (s.commit t x.queueOut 1).getD s

/-- Elements of a row into the slot at TAIL; what does not fit stays, and a full slot, or the last one, is committed. -/
def State.storeRing (s : State) (t : Nat) (x : Suit) : Step' SuitRun :=
  let r := x.run
  let q := x.queueOut
  let ty := (s.outDesc t x).elem
  match s.nextStore t x with
  | none => if r.storeOver ∧ r.ring ≠ 0 then (s.commitSlot t x, .ok { r with ring := 0 }) else (s, .ok r)
  | some (w, rest) =>
    if r.ring = 0 ∧ s.qCredits t q = 0 then (s, .ok r)
    else
      let n := min w.vals.length ((s.qSlotBytes t q - r.ring) / ringSize ty)
      let (s, bs) := (w.vals.take n).foldl (fun (st : State × List Byte) v =>
        let (s, b) := st.1.ringBytes ty v
        (s, st.2 ++ b)) (s, [])
      match s.slotPhys t x.task ((s.rd (Reg.placketQBase t q)).toNat + s.qTail t q * s.qSlotBytes t q + r.ring) bs.length with
      | none => (s, .error (boundFlt stStore))
      | some o =>
        andThen (s.stageWrite t stStore o bs) (fun s _ =>
          let left := w.vals.drop n
          let rest := if left = [] then rest
            else if x.has stConvert then { rest with sto := { w with vals := left, col := w.col + n } :: rest.sto }
            else match r.cvt with
              | c :: cs => { rest with cvt := { c with vals := c.vals.drop n, col := c.col + n } :: cs }
              | [] => rest
          let m := r.ring + bs.length
          let full := m = s.qSlotBytes t q ∨ (rest.storeOver = true ∧ m ≠ 0)
          (if full then s.commitSlot t x else s, .ok { rest with ring := if full then 0 else m }))

/-- STORE_ROW: an output row is written. -/
def execStoreRow (t : TileId) (s : State) : Host.Outcome State Fault Refusal :=
  .next (match s.storeSuit t with
  | none => s
  | some (i, x) =>
    keepRun t i x (if x.isMerge ∧ !x.toRing then s.storeMerge t x
      else if x.toRing then s.storeRing t x
      else match s.nextStore t x with
        | none => (s, .ok x.run)
        | some (w, r) =>
          andThen (s.writeRow t x stStore (s.outDesc t x) w.row w.col w.vals) (fun s _ =>
            andThen (s.writeScales t w.scales) (fun s _ => (s, .ok r)))))

/-- STORE_POST: after the last write, the post descriptor goes to QUEUE_POST; it waits while the FIFO is full. -/
def execStorePost (t : TileId) (s : State) : Host.Outcome State Fault Refusal :=
  .next (match (s.runningSuits t).find? (fun p => p.2.post && !p.2.run.posted) with
  | none => s
  | some (i, x) =>
    let q := x.queuePost
    if !x.drained ∨ 4 ≤ (s.queue t q).fifo.length ∨ s.qCancelling t q ∨ (s.queue t q).cancelReq then s
    else match s.slotRead t x stStore x.postDesc 128 with
      | (s, .error f) => keepRun t i x (s, .error f)
      | (s, .ok bs) =>
        let d : Desc := { bytes := bs, suit := some i, spill := false, entries := [] }
        match s.descCheck t q x.task d with
        | some (sub, c) => (s.placketFault t q x.task c sub 0).refreshSuits t
        | none => (s.enqueue t q d).putRun t i x { x.run with posted := true })

end Sys2Proof.Machine
end

