-- ==== Sys2Proof/Machine/Dispatch.lean ====
section
/-! DEFINITION. The meaning of each command, one arm each. -/

namespace Sys2Proof.Machine

def exec (i : Instr) (s : State) : Host.Outcome State Fault Refusal :=
  match i with
  | .structLoadStart p => Sys2Proof.Machine.execStructLoadStart p s
  | .imageChecksPassed img commits => Sys2Proof.Machine.execImageChecksPassed img commits s
  | .imageRejected img => Sys2Proof.Machine.execImageRejected img s
  | .imageApply => Sys2Proof.Machine.execImageApply s
  | .imageApplied => Sys2Proof.Machine.execImageApplied s
  | .registerWrite u a v => Sys2Proof.Machine.execRegisterWrite u a v s
  | .stagedFieldWrite u a v => Sys2Proof.Machine.execStagedFieldWrite u a v s
  | .structStageDataRead => Sys2Proof.Machine.execStructStageDataRead s
  | .structCommitGo q v => Sys2Proof.Machine.execStructCommitGo q v s
  | .structCommitAbort q v => Sys2Proof.Machine.execStructCommitAbort q v s
  | .groupCommitApply q => Sys2Proof.Machine.execGroupCommitApply q s
  | .pocketWideAccess t a0 a1 => Sys2Proof.Machine.execPocketWideAccess t a0 a1 s
  | .heldAccessGrant t => Sys2Proof.Machine.execHeldAccessGrant t s
  | .pocketReadData t errs => Sys2Proof.Machine.execPocketReadData t errs s
  | .narrowAccess t => Sys2Proof.Machine.execNarrowAccess t s
  | .narrowForce t => Sys2Proof.Machine.execNarrowForce t s
  | .ceWriteBack t => Sys2Proof.Machine.execCeWriteBack t s
  | .scrubStep t err => Sys2Proof.Machine.execScrubStep t err s
  | .wipeDone t => Sys2Proof.Machine.execWipeDone t s
  | .bankGroupWakeDone t g => Sys2Proof.Machine.execBankGroupWakeDone t g s
  | .pocketAccRead t => Sys2Proof.Machine.execPocketAccRead t s
  | .pocketAccWrite t v => Sys2Proof.Machine.execPocketAccWrite t v s
  | .pocketCtrClearConflict t => Sys2Proof.Machine.execPocketCtrClearConflict t s
  | .pocketCtrClearCe t => Sys2Proof.Machine.execPocketCtrClearCe t s
  | .pocketCtrClearUe t => Sys2Proof.Machine.execPocketCtrClearUe t s
  | .pocketCtrClearNarrow t => Sys2Proof.Machine.execPocketCtrClearNarrow t s
  | .seamStageStart t => Sys2Proof.Machine.execSeamStageStart t s
  | .seamKblockScan t => Sys2Proof.Machine.execSeamKblockScan t s
  | .nmdecDecode t => Sys2Proof.Machine.execNmdecDecode t s
  | .seamMergeCycle t => Sys2Proof.Machine.execSeamMergeCycle t s
  | .seamRecordWrite t => Sys2Proof.Machine.execSeamRecordWrite t s
  | .seamCtrClear t => Sys2Proof.Machine.execSeamCtrClear t s
  | .sleeveStageStart t => Sys2Proof.Machine.execSleeveStageStart t s
  | .sleeveCycle t => Sys2Proof.Machine.execSleeveCycle t s
  | .sleeveTileEnd t => Sys2Proof.Machine.execSleeveTileEnd t s
  | .sleeveDrainRow t => Sys2Proof.Machine.execSleeveDrainRow t s
  | .sampledTileRerun t => Sys2Proof.Machine.execSampledTileRerun t s
  | .sleeveCtrClearAll t => Sys2Proof.Machine.execSleeveCtrClearAll t s
  | .sleeveCtrClearSat t => Sys2Proof.Machine.execSleeveCtrClearSat t s
  | .samplerCtrClear p mask => Sys2Proof.Machine.execSamplerCtrClear p mask s
  | .suitIssueChecks t j => Sys2Proof.Machine.execSuitIssueChecks t j s
  | .suitRunning t j => Sys2Proof.Machine.execSuitRunning t j s
  | .fetchSlotBind t b => Sys2Proof.Machine.execFetchSlotBind t b s
  | .fetchBlock t => Sys2Proof.Machine.execFetchBlock t s
  | .reduceRowRead t => Sys2Proof.Machine.execReduceRowRead t s
  | .reduceRowWriteback t => Sys2Proof.Machine.execReduceRowWriteback t s
  | .convertRow t => Sys2Proof.Machine.execConvertRow t s
  | .storeRow t => Sys2Proof.Machine.execStoreRow t s
  | .storePost t => Sys2Proof.Machine.execStorePost t s
  | .suitDone t j => Sys2Proof.Machine.execSuitDone t j s
  | .suitCtrlCancel t j => Sys2Proof.Machine.execSuitCtrlCancel t j s
  | .suitCtrClear t => Sys2Proof.Machine.execSuitCtrClear t s
  | .placketQCtrlRelease t q n u => Sys2Proof.Machine.execPlacketQCtrlRelease t q n u s
  | .placketQCtrlCommit t q n u => Sys2Proof.Machine.execPlacketQCtrlCommit t q n u s
  | .placketQCtrlCancel t q => Sys2Proof.Machine.execPlacketQCtrlCancel t q s
  | .descriptorStart t q => Sys2Proof.Machine.execDescriptorStart t q s
  | .transferIssue t q => Sys2Proof.Machine.execTransferIssue t q s
  | .transferReadData t q host => Sys2Proof.Machine.execTransferReadData t q host s
  | .writeLanded t q host => Sys2Proof.Machine.execWriteLanded t q host s
  | .mergeBufferFlush t q => Sys2Proof.Machine.execMergeBufferFlush t q s
  | .queueCancelAck t q => Sys2Proof.Machine.execQueueCancelAck t q s
  | .queueCancelDone t q => Sys2Proof.Machine.execQueueCancelDone t q s
  | .placketCtrClear t => Sys2Proof.Machine.execPlacketCtrClear t s
  | .agpAdd t x => Sys2Proof.Machine.execAgpAdd t x s
  | .agpSub t x => Sys2Proof.Machine.execAgpSub t x s
  | .agpAddi t x => Sys2Proof.Machine.execAgpAddi t x s
  | .agpMuli t x => Sys2Proof.Machine.execAgpMuli t x s
  | .agpShli t x => Sys2Proof.Machine.execAgpShli t x s
  | .agpShri t x => Sys2Proof.Machine.execAgpShri t x s
  | .agpAndi t x => Sys2Proof.Machine.execAgpAndi t x s
  | .agpLui t x => Sys2Proof.Machine.execAgpLui t x s
  | .agpPopc t x => Sys2Proof.Machine.execAgpPopc t x s
  | .agpLd16 t x => Sys2Proof.Machine.execAgpLd16 t x s
  | .agpLdp t x => Sys2Proof.Machine.execAgpLdp t x s
  | .agpEmit t x => Sys2Proof.Machine.execAgpEmit t x s
  | .agpBeq t x => Sys2Proof.Machine.execAgpBeq t x s
  | .agpBne t x => Sys2Proof.Machine.execAgpBne t x s
  | .agpBlt t x => Sys2Proof.Machine.execAgpBlt t x s
  | .agpBge t x => Sys2Proof.Machine.execAgpBge t x s
  | .agpJmp t x => Sys2Proof.Machine.execAgpJmp t x s
  | .agpEnd t x => Sys2Proof.Machine.execAgpEnd t x s
  | .agpReservedOpcode t x => Sys2Proof.Machine.execAgpReservedOpcode t x s
  | .yokeCutDone q a => Sys2Proof.Machine.execYokeCutDone q a s
  | .yokeTakeServed q a => Sys2Proof.Machine.execYokeTakeServed q a s
  | .chainReservationExpire q a p => Sys2Proof.Machine.execChainReservationExpire q a p s
  | .shawlSend t => Sys2Proof.Machine.execShawlSend t s
  | .shawlSegmentArrive t => Sys2Proof.Machine.execShawlSegmentArrive t s
  | .yokeCtrClear p => Sys2Proof.Machine.execYokeCtrClear p s
  | .add t k => Sys2Proof.Machine.execAdd t k s
  | .sub t k => Sys2Proof.Machine.execSub t k s
  | .and t k => Sys2Proof.Machine.execAnd t k s
  | .or t k => Sys2Proof.Machine.execOr t k s
  | .xor t k => Sys2Proof.Machine.execXor t k s
  | .shl t k => Sys2Proof.Machine.execShl t k s
  | .shr t k => Sys2Proof.Machine.execShr t k s
  | .sra t k => Sys2Proof.Machine.execSra t k s
  | .slt t k => Sys2Proof.Machine.execSlt t k s
  | .sltu t k => Sys2Proof.Machine.execSltu t k s
  | .mul t k => Sys2Proof.Machine.execMul t k s
  | .mulh t k => Sys2Proof.Machine.execMulh t k s
  | .mulhu t k => Sys2Proof.Machine.execMulhu t k s
  | .min t k => Sys2Proof.Machine.execMin t k s
  | .max t k => Sys2Proof.Machine.execMax t k s
  | .minu t k => Sys2Proof.Machine.execMinu t k s
  | .maxu t k => Sys2Proof.Machine.execMaxu t k s
  | .popc t k => Sys2Proof.Machine.execPopc t k s
  | .clz t k => Sys2Proof.Machine.execClz t k s
  | .ctz t k => Sys2Proof.Machine.execCtz t k s
  | .addi t k => Sys2Proof.Machine.execAddi t k s
  | .andi t k => Sys2Proof.Machine.execAndi t k s
  | .ori t k => Sys2Proof.Machine.execOri t k s
  | .xori t k => Sys2Proof.Machine.execXori t k s
  | .slti t k => Sys2Proof.Machine.execSlti t k s
  | .sltiu t k => Sys2Proof.Machine.execSltiu t k s
  | .shli t k => Sys2Proof.Machine.execShli t k s
  | .shri t k => Sys2Proof.Machine.execShri t k s
  | .srai t k => Sys2Proof.Machine.execSrai t k s
  | .lui t k => Sys2Proof.Machine.execLui t k s
  | .lb t k => Sys2Proof.Machine.execLb t k s
  | .lbu t k => Sys2Proof.Machine.execLbu t k s
  | .lh t k => Sys2Proof.Machine.execLh t k s
  | .lhu t k => Sys2Proof.Machine.execLhu t k s
  | .lw t k => Sys2Proof.Machine.execLw t k s
  | .sb t k => Sys2Proof.Machine.execSb t k s
  | .sh t k => Sys2Proof.Machine.execSh t k s
  | .sw t k => Sys2Proof.Machine.execSw t k s
  | .beq t k => Sys2Proof.Machine.execBeq t k s
  | .bne t k => Sys2Proof.Machine.execBne t k s
  | .blt t k => Sys2Proof.Machine.execBlt t k s
  | .bge t k => Sys2Proof.Machine.execBge t k s
  | .bltu t k => Sys2Proof.Machine.execBltu t k s
  | .bgeu t k => Sys2Proof.Machine.execBgeu t k s
  | .jmp t k => Sys2Proof.Machine.execJmp t k s
  | .jal t k => Sys2Proof.Machine.execJal t k s
  | .jr t k => Sys2Proof.Machine.execJr t k s
  | .csrr t k => Sys2Proof.Machine.execCsrr t k s
  | .csrw t k => Sys2Proof.Machine.execCsrw t k s
  | .suit t k => Sys2Proof.Machine.execSuit t k s
  | .sucan t k => Sys2Proof.Machine.execSucan t k s
  | .suwait t k => Sys2Proof.Machine.execSuwait t k s
  | .sustat t k => Sys2Proof.Machine.execSustat t k s
  | .qissue t k => Sys2Proof.Machine.execQissue t k s
  | .qrel t k => Sys2Proof.Machine.execQrel t k s
  | .qcommit t k => Sys2Proof.Machine.execQcommit t k s
  | .qcancel t k => Sys2Proof.Machine.execQcancel t k s
  | .qcred t k => Sys2Proof.Machine.execQcred t k s
  | .qwait t k => Sys2Proof.Machine.execQwait t k s
  | .ystart t k => Sys2Proof.Machine.execYstart t k s
  | .ytake t k => Sys2Proof.Machine.execYtake t k s
  | .ydone t k => Sys2Proof.Machine.execYdone t k s
  | .yret t k => Sys2Proof.Machine.execYret t k s
  | .shbeg t k => Sys2Proof.Machine.execShbeg t k s
  | .shrel t k => Sys2Proof.Machine.execShrel t k s
  | .shqry t k => Sys2Proof.Machine.execShqry t k s
  | .shwait t k => Sys2Proof.Machine.execShwait t k s
  | .lkacq u => Sys2Proof.Machine.execLkacq u s
  | .lkrel u => Sys2Proof.Machine.execLkrel u s
  | .bar t k => Sys2Proof.Machine.execBar t k s
  | .bars t k => Sys2Proof.Machine.execBars t k s
  | .tend t k => Sys2Proof.Machine.execTend t k s
  | .wfi t k => Sys2Proof.Machine.execWfi t k s
  | .iret t k => Sys2Proof.Machine.execIret t k s
  | .nop t k => Sys2Proof.Machine.execNop t k s
  | .reservedInstruction t k => Sys2Proof.Machine.execReservedInstruction t k s
  | .taskEnded t k => Sys2Proof.Machine.execTaskEnded t k s
  | .interruptTake t k => Sys2Proof.Machine.execInterruptTake t k s
  | .taskTimerExpire t k => Sys2Proof.Machine.execTaskTimerExpire t k s
  | .cuffDoorbell t ring => Sys2Proof.Machine.execCuffDoorbell t ring s
  | .cuffTaskStart t k => Sys2Proof.Machine.execCuffTaskStart t k s
  | .cuffTaskCancel t k => Sys2Proof.Machine.execCuffTaskCancel t k s
  | .scoreboardFull t k => Sys2Proof.Machine.execScoreboardFull t k s
  | .cuffCtrClear t => Sys2Proof.Machine.execCuffCtrClear t s
  | .layerBarrierRelease q => Sys2Proof.Machine.execLayerBarrierRelease q s
  | .winCtrlOpen t w u => Sys2Proof.Machine.execWinCtrlOpen t w u s
  | .winCtrlClose t w => Sys2Proof.Machine.execWinCtrlClose t w s
  | .openingAccess t e => Sys2Proof.Machine.execOpeningAccess t e s
  | .taggedAccess t e => Sys2Proof.Machine.execTaggedAccess t e s
  | .refusalAnswer t q => Sys2Proof.Machine.execRefusalAnswer t q s
  | .remoteAcknowledge t q => Sys2Proof.Machine.execRemoteAcknowledge t q s
  | .remoteAccumulate t => Sys2Proof.Machine.execRemoteAccumulate t s
  | .creditGrantRequest t src off len => Sys2Proof.Machine.execCreditGrantRequest t src off len s
  | .creditGrant t => Sys2Proof.Machine.execCreditGrant t s
  | .creditedWrite t src off data => Sys2Proof.Machine.execCreditedWrite t src off data s
  | .creditEndMark t src => Sys2Proof.Machine.execCreditEndMark t src s
  | .creditEntryFree t e => Sys2Proof.Machine.execCreditEntryFree t e s
  | .lockGrant l => Sys2Proof.Machine.execLockGrant l s
  | .lockLeaseExpire l => Sys2Proof.Machine.execLockLeaseExpire l s
  | .lockCtrlOrphan p j => Sys2Proof.Machine.execLockCtrlOrphan p j s
  | .arbitrationRound site reqs ms => Sys2Proof.Machine.execArbitrationRound site reqs ms s
  | .winCtrClearAll t => Sys2Proof.Machine.execWinCtrClearAll t s
  | .winCtrClearStarve t => Sys2Proof.Machine.execWinCtrClearStarve t s
  | .lockCtrClear p => Sys2Proof.Machine.execLockCtrClear p s
  | .meshCtrClear => Sys2Proof.Machine.execMeshCtrClear s
  | .fabPortEnable p b => Sys2Proof.Machine.execFabPortEnable p b s
  | .fabPortRetrain p us => Sys2Proof.Machine.execFabPortRetrain p us s
  | .linkTrainingStart p => Sys2Proof.Machine.execLinkTrainingStart p s
  | .linkTrainingDone p => Sys2Proof.Machine.execLinkTrainingDone p s
  | .laneLockTimeout p lanes => Sys2Proof.Machine.execLaneLockTimeout p lanes s
  | .laneLockLoss p lane us => Sys2Proof.Machine.execLaneLockLoss p lane us s
  | .retrainDone p => Sys2Proof.Machine.execRetrainDone p s
  | .retrainTimeout p => Sys2Proof.Machine.execRetrainTimeout p s
  | .peerOrderlyClose p => Sys2Proof.Machine.execPeerOrderlyClose p s
  | .flitData p f => Sys2Proof.Machine.execFlitData p f s
  | .flitIdle p f => Sys2Proof.Machine.execFlitIdle p f s
  | .flitNak p f us => Sys2Proof.Machine.execFlitNak p f us s
  | .flitTrain p id coll mir => Sys2Proof.Machine.execFlitTrain p id coll mir s
  | .read place => Sys2Proof.Machine.execRead place s
  | .write place => Sys2Proof.Machine.execWrite place s
  | .accumulate place => Sys2Proof.Machine.execAccumulate place s
  | .page place => Sys2Proof.Machine.execPage place s
  | .readData place => Sys2Proof.Machine.execReadData place s
  | .ack place => Sys2Proof.Machine.execAck place s
  | .refuse place => Sys2Proof.Machine.execRefuse place s
  | .barrierArrive place => Sys2Proof.Machine.execBarrierArrive place s
  | .barrierRelease place => Sys2Proof.Machine.execBarrierRelease place s
  | .epochSent place => Sys2Proof.Machine.execEpochSent place s
  | .epochLanded place => Sys2Proof.Machine.execEpochLanded place s
  | .lost place => Sys2Proof.Machine.execLost place s
  | .restoreBegin place q step => Sys2Proof.Machine.execRestoreBegin place q step s
  | .restoreDone place => Sys2Proof.Machine.execRestoreDone place s
  | .jobStop place => Sys2Proof.Machine.execJobStop place s
  | .requestTimeout txn => Sys2Proof.Machine.execRequestTimeout txn s
  | .fabModuleIdWrite v => Sys2Proof.Machine.execFabModuleIdWrite v s
  | .fabPortCtrClear p => Sys2Proof.Machine.execFabPortCtrClear p s
  | .fabCtrClear => Sys2Proof.Machine.execFabCtrClear s
  | .epochBoundary q => Sys2Proof.Machine.execEpochBoundary q s
  | .beforeImageCopy page => Sys2Proof.Machine.execBeforeImageCopy page s
  | .mirrorPortsDownTimeout => Sys2Proof.Machine.execMirrorPortsDownTimeout s
  | .coordinatorAnswerTimeout q m => Sys2Proof.Machine.execCoordinatorAnswerTimeout q m s
  | .epochDecision q d => Sys2Proof.Machine.execEpochDecision q d s
  | .rollbackDone q => Sys2Proof.Machine.execRollbackDone q s
  | .spareRetry q f => Sys2Proof.Machine.execSpareRetry q f s
  | .mirrorReconnectTimeout q => Sys2Proof.Machine.execMirrorReconnectTimeout q s
  | .restartBarrierRelease q => Sys2Proof.Machine.execRestartBarrierRelease q s
  | .mirrorCtrlPlanned q => Sys2Proof.Machine.execMirrorCtrlPlanned q s
  | .firmwareActivate armed => Sys2Proof.Machine.execFirmwareActivate armed s
  | .mirrorCtrClear q => Sys2Proof.Machine.execMirrorCtrClear q s
  | .hostCmdTailWrite v => Sys2Proof.Machine.execHostCmdTailWrite v s
  | .load e => Sys2Proof.Machine.execLoad e s
  | .run e => Sys2Proof.Machine.execRun e s
  | .drain e => Sys2Proof.Machine.execDrain e s
  | .kill e => Sys2Proof.Machine.execKill e s
  | .copyIn e => Sys2Proof.Machine.execCopyIn e s
  | .copyOut e => Sys2Proof.Machine.execCopyOut e s
  | .commandNop op e => Sys2Proof.Machine.execCommandNop op e s
  | .hbmCopyDone n ans => Sys2Proof.Machine.execHbmCopyDone n ans s
  | .statusPageRewrite p => Sys2Proof.Machine.execStatusPageRewrite p s
  | .hostStatusEnable b => Sys2Proof.Machine.execHostStatusEnable b s
  | .hostRingEnable r b => Sys2Proof.Machine.execHostRingEnable r b s
  | .hostSeqTailWrite q v => Sys2Proof.Machine.execHostSeqTailWrite q v s
  | .submit q e prompt => Sys2Proof.Machine.execSubmit q e prompt s
  | .cancel q e => Sys2Proof.Machine.execCancel q e s
  | .stepBoundaryService q us => Sys2Proof.Machine.execStepBoundaryService q us s
  | .partialHostCopy q => Sys2Proof.Machine.execPartialHostCopy q s
  | .hostOutHeadWrite q v => Sys2Proof.Machine.execHostOutHeadWrite q v s
  | .bar2Read off len => Sys2Proof.Machine.execBar2Read off len s
  | .bar2Write off data => Sys2Proof.Machine.execBar2Write off data s
  | .functionLevelReset => Sys2Proof.Machine.execFunctionLevelReset s
  | .perstAssert => Sys2Proof.Machine.execPerstAssert s
  | .tileClockStop t => Sys2Proof.Machine.execTileClockStop t s
  | .operatingPointSelect p j => Sys2Proof.Machine.execOperatingPointSelect p j s
  | .supplyRampDone p => Sys2Proof.Machine.execSupplyRampDone p s
  | .clockPauseEnd p => Sys2Proof.Machine.execClockPauseEnd p s
  | .deepIdleEnter => Sys2Proof.Machine.execDeepIdleEnter s
  | .deepIdleLeave => Sys2Proof.Machine.execDeepIdleLeave s
  | .powerDomainWakeDone d => Sys2Proof.Machine.execPowerDomainWakeDone d s
  | .computeIdleOff p => Sys2Proof.Machine.execComputeIdleOff p s
  | .calCtrlSet => Sys2Proof.Machine.execCalCtrlSet s
  | .calSetLoad => Sys2Proof.Machine.execCalSetLoad s
  | .clkCtrClear => Sys2Proof.Machine.execClkCtrClear s
  | .pwrCtrClear => Sys2Proof.Machine.execPwrCtrClear s
  | .railRise => Sys2Proof.Machine.execRailRise s
  | .conversionStop high => Sys2Proof.Machine.execConversionStop high s
  | .bootStepComplete => Sys2Proof.Machine.execBootStepComplete s
  | .bootRecoveryGo => Sys2Proof.Machine.execBootRecoveryGo s
  | .recoveryImageVerified img => Sys2Proof.Machine.execRecoveryImageVerified img s
  | .fwUpdateGo => Sys2Proof.Machine.execFwUpdateGo s
  | .fwUpdateVerified img => Sys2Proof.Machine.execFwUpdateVerified img s
  | .secKeyGo rec => Sys2Proof.Machine.execSecKeyGo rec s
  | .svnCommit v => Sys2Proof.Machine.execSvnCommit v s
  | .tileReset key t => Sys2Proof.Machine.execTileReset key t s
  | .partitionReset key q => Sys2Proof.Machine.execPartitionReset key q s
  | .warmModuleReset key => Sys2Proof.Machine.execWarmModuleReset key s
  | .coldReset key => Sys2Proof.Machine.execColdReset key s
  | .partitionResetDone q => Sys2Proof.Machine.execPartitionResetDone q s
  | .warmRstPin low us => Sys2Proof.Machine.execWarmRstPin low us s
  | .coldRstPin low us => Sys2Proof.Machine.execColdRstPin low us s
  | .collarHangTimeout => Sys2Proof.Machine.execCollarHangTimeout s
  | .faultJobStop => Sys2Proof.Machine.execFaultJobStop s
  | .envMonitorTrip high below => Sys2Proof.Machine.execEnvMonitorTrip high below s
  | .faultRecordWrite => Sys2Proof.Machine.execFaultRecordWrite s
  | .flogCtrlClear v => Sys2Proof.Machine.execFlogCtrlClear v s
  | .hbmScrubStep w err => Sys2Proof.Machine.execHbmScrubStep w err s
  | .hbmCtrClear c => Sys2Proof.Machine.execHbmCtrClear c s
  | .clearFaults => Sys2Proof.Machine.execClearFaults s
  | .capability => Sys2Proof.Machine.execCapability s
  | .statusWord => Sys2Proof.Machine.execStatusWord s
  | .statusInput => Sys2Proof.Machine.execStatusInput s
  | .statusTemperature => Sys2Proof.Machine.execStatusTemperature s
  | .statusCml => Sys2Proof.Machine.execStatusCml s
  | .readVin => Sys2Proof.Machine.execReadVin s
  | .readIin => Sys2Proof.Machine.execReadIin s
  | .readTemperature1 => Sys2Proof.Machine.execReadTemperature1 s
  | .readTemperature2 => Sys2Proof.Machine.execReadTemperature2 s
  | .readPin => Sys2Proof.Machine.execReadPin s
  | .pmbusRevision => Sys2Proof.Machine.execPmbusRevision s
  | .mfrId => Sys2Proof.Machine.execMfrId s
  | .mfrModel => Sys2Proof.Machine.execMfrModel s
  | .mfrSerial => Sys2Proof.Machine.execMfrSerial s
  | .pmbusUnsupportedCommand code => Sys2Proof.Machine.execPmbusUnsupportedCommand code s
  | .pmbusTelemetryRefresh x => Sys2Proof.Machine.execPmbusTelemetryRefresh x s
  | .bypass => Sys2Proof.Machine.execBypass s
  | .samplePreload => Sys2Proof.Machine.execSamplePreload s
  | .extest => Sys2Proof.Machine.execExtest s
  | .idcode => Sys2Proof.Machine.execIdcode s
  | .supercapacitorHoldLost => Sys2Proof.Machine.execSupercapacitorHoldLost s
  | .envWithinLimits => Sys2Proof.Machine.execEnvWithinLimits s
  | .perstRelease => Sys2Proof.Machine.execPerstRelease s
  | .pcieLinkDown => Sys2Proof.Machine.execPcieLinkDown s
  | .pcieCompletionTimeout r status => Sys2Proof.Machine.execPcieCompletionTimeout r status s
  | .pcieConfigurationRequest d3 => Sys2Proof.Machine.execPcieConfigurationRequest d3 s

end Sys2Proof.Machine
end

