-- ==== Sys2Proof/WellFormed.lean ====
section
/-! DEFINITION. Which commands are well formed: every operand lies in the range that the spec's field for it can hold.
The meanings are total and do not assume it. -/

namespace Sys2Proof

/-- A list of `len` bytes or enables, at least one and at most `n`. -/
def sized {α : Type} (n : Nat) (l : List α) : Bool := !l.isEmpty && l.length ≤ n

/-- A wide access (R68): 1 to 16 words from an 8-byte-aligned offset within the Pocket, and for a write one enable for
each byte. -/
def WideReq.wf (r : WideReq) : Bool :=
  r.off % 8 == 0 && r.off < 0x400000 && 1 ≤ r.words && r.words ≤ 16 && r.req < 256 &&
    (match r.wr with
      | some d => d.length == 8 * r.words
      | none => true)

def Wp1Req.wf : Wp1Req → Bool
  | .own r => r.wf
  | .inbound => true

/-- A syndrome has 8 bits (R80). -/
def WordErr.wf (e : WordErr) : Bool := e.syndrome < 256

/-- The originator of a request (R361, R362). -/
def Origin.wf (o : Origin) : Bool := o.module < 2048 && o.tile < 256 && o.req < 256 && o.part < 8

/-- The header fields of a packet (R409), and as many payload bytes as LEN_M1 or a page can name. -/
def Packet.wf (p : Packet) : Bool :=
  p.kind < 256 && p.cls < 4 && p.dstModule < 2048 && p.srcModule < 2048 && p.srcTile < 256 && p.req < 256 &&
    p.dstTile < 256 && p.hops < 256 && p.jobTag < 65536 && p.txn < 0x100000000 && p.addr < 0x10000000000000000 &&
    p.addrLo < 0x10000000000000000 && p.len ≤ 65536 && p.win < 16 && p.epoch < 65536 && p.aux < 0x100000000 &&
    p.part < 8 && p.data.length ≤ 65536

/-- The header of a flit (R403): SEQ and ACK of 12 bits, six credit returns of 5 bits. -/
def Flit.wf (f : Flit) : Bool :=
  f.seq < 4096 && f.ack < 4096 && f.credits.length == 6 && f.credits.all (· < 32) && f.pkts.all Packet.wf

/-- A request at an arbiter (R384, R385). -/
def ArbReq.wf (r : ArbReq) : Bool :=
  r.input < 64 && r.module < 2048 && r.tile < 256 && r.req < 256 && (r.cls.getD 0) < 4

/-- An entry of the command ring (R471). -/
def CmdEntry.wf (e : CmdEntry) : Bool :=
  e.slot < 256 && e.tag < 0x10000000000000000 && e.arg0 < 0x10000000000000000 && e.arg1 < 0x10000000000000000 &&
    e.arg2 < 0x10000000000000000

/-- An entry of the sequence ring (R478). -/
def SeqEntry.wf (e : SeqEntry) : Bool :=
  e.input < 256 && e.nstop < 256 && e.maxNew < 0x100000000 && e.key < 0x10000000000000000 &&
    e.addr < 0x10000000000000000 && e.len < 0x100000000 && e.temp < 65536 && e.topK < 65536 && e.topP < 0x100000000 &&
    e.stops.length == 4 && e.stops.all (· < 0x100000000)

/-- A commit record (R61): at most the ten groups of R56. -/
def CommitRec.wf (c : CommitRec) : Bool := c.step < 0x100000000 && c.epoch < 65536 && c.mask < 1024

/-- The answer of the host: a completion status is a 16-bit field. -/
def HostAns.wf : HostAns → Bool
  | .ok _ => true
  | .error st => st < 65536

/-- A fault as JOB_STOP and a decision name it (R539, R540). -/
def FaultInfo.wf (f : FaultInfo) : Bool :=
  f.code < 256 && f.sub < 256 && f.unit < 256 && f.module < 2048 && f.step < 0x100000000

def Decision.wf : Decision → Bool
  | .collected es lost => es.all (fun e => e.1 < 2048 && e.2 < 65536) && lost.all (· < 2048)
  | .received e lost f => e < 65536 && lost.all (· < 2048) && f.wf

def SpareFind.wf : SpareFind → Bool
  | .found l => l.all (fun x => x.id < 2048)
  | .told c => c.all (fun x => x.1 < 2048 && x.2 < 2048)

def HostReq.wf : HostReq → Bool
  | .dma _ _ txn => txn < 0x100000000
  | _ => true

/-- The bytes of HBM, and of the aperture of BAR2 (R464). -/
def hbmTop : Nat := 384000000000
def apertureTop : Nat := 0x2000000000

/-- A command is well formed. The operands of the commands named together at the end are bounded by their types. -/
def Instr.wf : Instr → Bool
  | .imageChecksPassed _ commits => commits.all CommitRec.wf
  | .pocketWideAccess _ a0 a1 => (a0.map WideReq.wf).getD true && (a1.map Wp1Req.wf).getD true
  | .pocketReadData _ errs => errs.all (fun e => e.1 < 0x80000 && e.2.wf)
  | .scrubStep _ err => (err.map WordErr.wf).getD true
  | .placketQCtrlRelease _ _ n _ => n < 32
  | .placketQCtrlCommit _ _ n _ => n < 32
  | .transferReadData _ _ host => host.wf
  | .writeLanded _ _ host => host.wf
  | .creditGrantRequest _ src off len => src.wf && off < 0x400000 && 1 ≤ len && len ≤ 0x40000
  | .creditedWrite _ src off data => src.wf && off < 0x400000 && sized 128 data
  | .creditEndMark _ src => src.wf
  | .arbitrationRound _ reqs _ => reqs.all ArbReq.wf
  | .flitData _ f => f.wf
  | .flitIdle _ f => f.wf
  | .flitNak _ f _ => f.wf
  | .requestTimeout txn => txn < 0x100000000
  | .beforeImageCopy n => 65536 * n < hbmTop
  | .epochDecision _ d => d.wf
  | .spareRetry _ f => f.wf
  | .load e => e.wf
  | .run e => e.wf
  | .drain e => e.wf
  | .kill e => e.wf
  | .copyIn e => e.wf
  | .copyOut e => e.wf
  | .commandNop _ e => e.wf
  | .hbmCopyDone _ ans => ans.wf
  | .submit _ e prompt => e.wf && prompt.wf
  | .cancel _ e => e.wf
  | .bar2Read off len => off + len ≤ apertureTop && 1 ≤ len && len ≤ 4096
  | .bar2Write off data => off + data.length ≤ apertureTop && sized 4096 data
  | .hbmScrubStep w _ => 32 * w < hbmTop
  | .pcieCompletionTimeout r _ => r.wf
  | .structLoadStart .. | .imageRejected .. | .imageApply .. | .imageApplied .. | .registerWrite ..
  | .stagedFieldWrite .. | .structStageDataRead .. | .structCommitGo .. | .structCommitAbort ..
  | .groupCommitApply .. | .heldAccessGrant .. | .narrowAccess .. | .narrowForce .. | .ceWriteBack ..
  | .wipeDone .. | .bankGroupWakeDone .. | .pocketAccRead .. | .pocketAccWrite .. | .pocketCtrClearConflict ..
  | .pocketCtrClearCe .. | .pocketCtrClearUe .. | .pocketCtrClearNarrow .. | .seamStageStart ..
  | .seamKblockScan .. | .nmdecDecode .. | .seamMergeCycle .. | .seamRecordWrite .. | .seamCtrClear ..
  | .sleeveStageStart .. | .sleeveCycle .. | .sleeveTileEnd .. | .sleeveDrainRow .. | .sampledTileRerun ..
  | .sleeveCtrClearAll .. | .sleeveCtrClearSat .. | .samplerCtrClear .. | .suitIssueChecks .. | .suitRunning ..
  | .fetchSlotBind .. | .fetchBlock .. | .reduceRowRead .. | .reduceRowWriteback .. | .convertRow ..
  | .storeRow .. | .storePost .. | .suitDone .. | .suitCtrlCancel .. | .suitCtrClear .. | .placketQCtrlCancel ..
  | .descriptorStart .. | .transferIssue .. | .mergeBufferFlush .. | .queueCancelAck .. | .queueCancelDone ..
  | .placketCtrClear .. | .agpAdd .. | .agpSub .. | .agpAddi .. | .agpMuli .. | .agpShli .. | .agpShri ..
  | .agpAndi .. | .agpLui .. | .agpPopc .. | .agpLd16 .. | .agpLdp .. | .agpEmit .. | .agpBeq .. | .agpBne ..
  | .agpBlt .. | .agpBge .. | .agpJmp .. | .agpEnd .. | .agpReservedOpcode .. | .yokeCutDone ..
  | .yokeTakeServed .. | .chainReservationExpire .. | .shawlSend .. | .shawlSegmentArrive .. | .yokeCtrClear ..
  | .add .. | .sub .. | .and .. | .or .. | .xor .. | .shl .. | .shr .. | .sra .. | .slt .. | .sltu .. | .mul ..
  | .mulh .. | .mulhu .. | .min .. | .max .. | .minu .. | .maxu .. | .popc .. | .clz .. | .ctz .. | .addi ..
  | .andi .. | .ori .. | .xori .. | .slti .. | .sltiu .. | .shli .. | .shri .. | .srai .. | .lui .. | .lb ..
  | .lbu .. | .lh .. | .lhu .. | .lw .. | .sb .. | .sh .. | .sw .. | .beq .. | .bne .. | .blt .. | .bge ..
  | .bltu .. | .bgeu .. | .jmp .. | .jal .. | .jr .. | .csrr .. | .csrw .. | .suit .. | .sucan .. | .suwait ..
  | .sustat .. | .qissue .. | .qrel .. | .qcommit .. | .qcancel .. | .qcred .. | .qwait .. | .ystart ..
  | .ytake .. | .ydone .. | .yret .. | .shbeg .. | .shrel .. | .shqry .. | .shwait .. | .lkacq .. | .lkrel ..
  | .bar .. | .bars .. | .tend .. | .wfi .. | .iret .. | .nop .. | .reservedInstruction .. | .taskEnded ..
  | .interruptTake .. | .taskTimerExpire .. | .cuffDoorbell .. | .cuffTaskStart .. | .cuffTaskCancel ..
  | .scoreboardFull .. | .cuffCtrClear .. | .layerBarrierRelease .. | .winCtrlOpen .. | .winCtrlClose ..
  | .openingAccess .. | .taggedAccess .. | .refusalAnswer .. | .remoteAcknowledge .. | .remoteAccumulate ..
  | .creditGrant .. | .creditEntryFree .. | .lockGrant .. | .lockLeaseExpire .. | .lockCtrlOrphan ..
  | .winCtrClearAll .. | .winCtrClearStarve .. | .lockCtrClear .. | .meshCtrClear .. | .fabPortEnable ..
  | .fabPortRetrain .. | .linkTrainingStart .. | .linkTrainingDone .. | .laneLockTimeout .. | .laneLockLoss ..
  | .retrainDone .. | .retrainTimeout .. | .peerOrderlyClose .. | .flitTrain .. | .read .. | .write ..
  | .accumulate .. | .page .. | .readData .. | .ack .. | .refuse .. | .barrierArrive .. | .barrierRelease ..
  | .epochSent .. | .epochLanded .. | .lost .. | .restoreBegin .. | .restoreDone .. | .jobStop ..
  | .fabModuleIdWrite .. | .fabPortCtrClear .. | .fabCtrClear .. | .epochBoundary .. | .mirrorPortsDownTimeout ..
  | .coordinatorAnswerTimeout .. | .rollbackDone .. | .mirrorReconnectTimeout .. | .restartBarrierRelease ..
  | .mirrorCtrlPlanned .. | .firmwareActivate .. | .mirrorCtrClear .. | .hostCmdTailWrite ..
  | .statusPageRewrite .. | .hostStatusEnable .. | .hostRingEnable .. | .hostSeqTailWrite ..
  | .stepBoundaryService .. | .partialHostCopy .. | .hostOutHeadWrite .. | .functionLevelReset ..
  | .perstAssert .. | .tileClockStop .. | .operatingPointSelect .. | .supplyRampDone .. | .clockPauseEnd ..
  | .deepIdleEnter .. | .deepIdleLeave .. | .powerDomainWakeDone .. | .computeIdleOff .. | .calCtrlSet ..
  | .calSetLoad .. | .clkCtrClear .. | .pwrCtrClear .. | .railRise .. | .conversionStop .. | .bootStepComplete ..
  | .bootRecoveryGo .. | .recoveryImageVerified .. | .fwUpdateGo .. | .fwUpdateVerified .. | .secKeyGo ..
  | .svnCommit .. | .tileReset .. | .partitionReset .. | .warmModuleReset .. | .coldReset ..
  | .partitionResetDone .. | .warmRstPin .. | .coldRstPin .. | .collarHangTimeout .. | .faultJobStop ..
  | .envMonitorTrip .. | .faultRecordWrite .. | .flogCtrlClear .. | .hbmCtrClear .. | .clearFaults ..
  | .capability .. | .statusWord .. | .statusInput .. | .statusTemperature .. | .statusCml .. | .readVin ..
  | .readIin .. | .readTemperature1 .. | .readTemperature2 .. | .readPin .. | .pmbusRevision .. | .mfrId ..
  | .mfrModel .. | .mfrSerial .. | .pmbusUnsupportedCommand .. | .pmbusTelemetryRefresh .. | .bypass ..
  | .samplePreload .. | .extest .. | .idcode .. | .supercapacitorHoldLost .. | .envWithinLimits ..
  | .perstRelease .. | .pcieLinkDown .. | .pcieConfigurationRequest .. => true

end Sys2Proof
end

