-- ==== Sys2Proof/Safety.lean ====
section
/-! DEFINITION. What holds of a safe run: the byte memories stay in canonical form, the commands that wait are well
formed, and what the fuses hold never falls. -/

namespace Sys2Proof.Machine

/-- The three byte memories are in canonical form. -/
def State.memOk (s : State) : Bool := Memory.wf s.pocket && Memory.wf s.hbm && Memory.wf s.host

/-- Every command that waits is well formed. -/
def State.queueOk (s : State) : Bool := s.pending.all Instr.wf

/-- The invariant of the model. -/
def State.inv (s : State) : Bool := s.memOk && s.queueOk

/-- The fuse count SVN_MIN has not fallen, and no revocation has been withdrawn (R521). -/
def State.fusesKept (s s' : State) : Prop :=
  s.svnMin ≤ s'.svnMin ∧ ∀ i, s.revoked.testBit i = true → s'.revoked.testBit i = true

end Sys2Proof.Machine
end

