-- ==== Sys2Proof/Certificates/Slice0/Obligations.lean ====
section
/-! DEFINITION. What the provers are asked to prove: the rules of the spec as statements about `exec` and `step`. -/

open Sys2Proof Sys2Proof.Machine

namespace Sys2Proof.Machine

/-! ## Words the statements use -/

/-- `u` differs from `s` only in register words, and only in the words listed. -/
def State.onlyRegs (s u : State) (as : List Nat) : Prop := u = { s with regs := u.regs } ∧ ∀ a, a ∉ as → u.rd a = s.rd a

/-- `u` differs from `s` only in what the units of tile `t` hold and in the register words listed. -/
def State.onlyTile (s u : State) (t : Nat) (as : List Nat) : Prop :=
  u = { s with regs := u.regs, tiles := u.tiles } ∧ (∀ j, j ≠ t → u.tile j = s.tile j) ∧ ∀ a, a ∉ as → u.rd a = s.rd a

/-- The bits of the word at `a` that `keep` selects are the same in both states. -/
def State.sameBits (s u : State) (a : Nat) (keep : Nat → Prop) : Prop :=
  ∀ j, keep j → (u.rd a).getLsbD j = (s.rd a).getLsbD j

/-- The command answers a next state, of which `P` holds. -/
def Answers (c : Instr) (s : State) (P : State → Prop) : Prop := ∃ u, exec c s = .next u ∧ P u

end Sys2Proof.Machine

/-! ## The queue -/

/-- The block's own rule (the model's queue, log entry 1): a step takes the command at the front of the queue and runs it with the rest
waiting; with no command waiting the block idles (the model's choice, log entry 1). -/
def Obligations.StepRunsFrontCommand : Prop :=
  (∀ (c : Instr) (cs : List Instr) (s : State), s.pending = c :: cs → step s = exec c (s.withPending cs)) ∧
  ∀ s : State, s.pending = [] → step s = .next s

/-- No command touches the commands that wait behind it: a step leaves exactly the rest of the queue. -/
def Obligations.StepLeavesQueueRest : Prop :=
  ∀ (c : Instr) (cs : List Instr) (s u : State), s.pending = c :: cs → step s = .next u → u.pending = cs

/-- Every command answers a next state: none stops the module with a fault or a refusal. -/
def Obligations.EveryCommandAnswers : Prop := ∀ (c : Instr) (s : State), ∃ u, exec c s = .next u

/-! ## Invariants -/

/-- The state after reset has its byte memories in canonical form and well-formed waiting commands. -/
def Obligations.ResetMeetsInvariant : Prop := State.reset.inv = true

/-- R13, R15, R79, R243, R346, R389, R402, R495, R501: after reset every register word holds its reset value, no slot holds a
job, no queue has a descriptor, and the registers with a reset value other than 0 show it. -/
def Obligations.ResetLeavesResetValues : Prop :=
  (∀ a, State.reset.rd a = regReset a) ∧ (∀ q, State.reset.slot q = Slot.init) ∧
  (∀ (t : TileId) (q : QueueId) (k : SlotId), let s := State.reset
    s.taskState t k = taskFree ∧ s.suitState t k = suitFree ∧ s.rd (Reg.pocketPwrStatus t) = 0xFF ∧
    s.rd (Reg.placketBwSplit t) = 0x60604 ∧ s.rd (Reg.placketQLimit t q) = 0x10 ∧ s.rd (Reg.placketQStatus t q) = 0x40000000 ∧
    s.rd (Reg.arbThreshWp t) = 0x10001000 ∧ s.rd (Reg.arbThreshNp t) = 0x1000 ∧ s.rd (Reg.pocketScrubCtrl t) = 1) ∧
  (∀ p : PanelId, State.reset.rd (Reg.clkPanelStatus p) = 0x26C0384) ∧
  (∀ p : PortId, State.reset.portState p = 1 ∧ State.reset.bit (Reg.fabPortCtrl p) 0 = true) ∧
  State.reset.rd Reg.pwrDomainOn = 3 ∧ State.reset.rd Reg.fabTimeout = 48000

/-- Every step keeps the canonical form of the Pockets, HBM and host memory and the well-formedness of the queue. -/
def Obligations.StepKeepsInvariant : Prop := ∀ s u : State, s.inv = true → step s = .next u → u.inv = true

/-! ## The Cuff core (spec 11) -/

namespace Sys2Proof.Machine

/-- Task `k` of tile `t` runs, and the word at its PC is `w`. -/
def State.runs (s : State) (t k : Nat) (w : Word) : Prop := s.taskState t k = taskRunning ∧ s.fetch t k = w

/-- The task has gone on to word `pc` with RD holding `v` and every other register of its own unchanged. The frame: the
other bits of CUFF_TASK_STATUS, the other tasks' bits of CUFF_STATUS, and every other register word, memory and unit
are unchanged; CUFF_STAT_INSTR has counted the instruction. -/
def State.wentOn (s u : State) (t k rd : Nat) (v : Word) (pc : Nat) : Prop :=
  (∀ i, u.creg t k i = if i = rd ∧ rd ≠ 0 then v else s.creg t k i) ∧ u.pc t k = pc ∧
  u.taskState t k = taskRunning ∧ s.sameBits u (Reg.cuffTaskStatus t k) (fun j => 12 ≤ j ∧ j < 25) ∧
  s.sameBits u (Reg.cuffStatus t) (fun j => j ≠ k) ∧
  (u.rd (Reg.cuffStatInstr t)).toNat = min 0xFFFFFFFF ((s.rd (Reg.cuffStatInstr t)).toNat + 1) ∧
  s.onlyRegs u ((if rd = 0 then [] else [Reg.cuffTaskReg t k rd]) ++
    [Reg.cuffTaskStatus t k, Reg.cuffStatus t, Reg.cuffStatInstr t])

/-- The command writes RD of the word `w` with `v` and the task goes on with the next word; past word 4,095 it aborts. -/
def State.writesRd (s : State) (c : Instr) (t k : Nat) (w v : Word) : Prop :=
  (s.pc t k < 4095 → Answers c s (fun u => s.wentOn u t k (rdOf w) v (s.pc t k + 1))) ∧
  (s.pc t k = 4095 → Answers c s (fun u => u.taskState t k = taskAborted))

/-- The command takes the task to word `p`, having written register `rd` with `v`; a target outside the store aborts. -/
def State.jumps (s : State) (c : Instr) (t k rd : Nat) (v : Word) (p : Int) : Prop :=
  (0 ≤ p ∧ p ≤ 4095 → Answers c s (fun u => s.wentOn u t k rd v p.toNat)) ∧
  (p < 0 ∨ 4095 < p → Answers c s (fun u => u.taskState t k = taskAborted))

/-- The task waits in its instruction for `reason`. The frame: its PC and registers, the other bits of CUFF_TASK_STATUS,
memory and every register word but the three named are unchanged. -/
def State.waitsIn (s u : State) (t k reason : Nat) : Prop :=
  u.taskState t k = taskWaiting ∧ u.fld (Reg.cuffTaskStatus t k) 25 4 = reason ∧
  s.sameBits u (Reg.cuffTaskStatus t k) (fun j => j < 25) ∧
  s.onlyTile u t [Reg.cuffTaskStatus t k, Reg.cuffStatus t, Reg.cuffStatInstr t]

/-- A narrow access of `len` bytes by the word `w` passes the checks of R336: aligned, within the slot, at physical offset `off`, not
overlapped by a pending output range. -/
def State.narrowTo (s : State) (t k : Nat) (w : Word) (len off : Nat) : Prop :=
  ∃ o, o = (s.creg t k (raOf w) + BitVec.ofInt 32 (w.setWidth 16).toInt).toNat ∧ o % len = 0 ∧
    o + len ≤ (s.rd (Reg.pocketSlotBound t k)).toNat ∧ off = (s.rd (Reg.pocketSlotBase t k)).toNat + o ∧
    (s.sbMode t = true → s.sbOverlap t off len [] = false)

/-- The bytes can be accessed: no wipe runs and their bank groups are ON (R79, R88). -/
def State.pocketOpen (s : State) (t off len : Nat) : Prop :=
  s.bit (Reg.pocketStatus t) 7 = false ∧ ∀ w ∈ wordsOf off len, s.bit (Reg.pocketPwrStatus t) (w / 0x10000) = true

/-- No word of the bytes fails its check (R80). -/
def State.pocketClean (s : State) (t off len : Nat) : Prop := ∀ w ∈ wordsOf off len, s.wordErr t w = none

/-- A load of `len` bytes writes RD with `ext` of the little-endian number at its address. -/
def State.loads (s : State) (c : Instr) (t k : Nat) (w : Word) (len : Nat) (ext : Nat → Word) : Prop :=
  ∀ off, s.narrowTo t k w len off → s.storesWait t k = false → s.pocketOpen t off len → s.pocketClean t off len →
    s.writesRd c t k w (ext (mreadNat s.pocket (pkey t off) len))

/-- A store of the low `len` bytes of `v` joins the tile's posted accesses behind those already there and the task goes
on; no byte of memory has changed yet. -/
def State.posts (s : State) (c : Instr) (t k : Nat) (w : Word) (len : Nat) (v : Word) : Prop :=
  ∀ off, s.narrowTo t k w len off → s.pc t k < 4095 → Answers c s (fun u =>
    u.tile t = { s.tile t with ports := { s.ports t with posted := (s.ports t).posted ++ [{ waits := 0, acc :=
      { src := .task k (0x30 + k), off := off, len := len,
        wr := some ((List.range len).map (fun i => some (BitVec.ofNat 8 (v.toNat / 256 ^ i)))) } }] } } ∧
    u.pc t k = s.pc t k + 1 ∧ u.taskState t k = taskRunning ∧
    s.onlyTile u t [Reg.cuffTaskStatus t k, Reg.cuffStatus t, Reg.cuffStatInstr t])

end Sys2Proof.Machine

/-- R329, R330: the register form (opcode 0x01) writes RD with the function of RA and RB that FUNC selects, for every register
that RD, RA and RB name; c0 reads 0 and discards writes. The immediate form takes IMM16, sign-extended for ADDI, SLTI
and SLTIU and zero-extended for ANDI, ORI and XORI; shifts take IMM16[4:0] with the rest zero; LUI has no RA. -/
def Obligations.AluResults : Prop :=
  (∀ (s : State) (t : TileId) (k : SlotId) (w : Word), s.runs t k w → opOf w = 0x01 →
    let a := s.creg t k (raOf w)
    let b := s.creg t k (rbOf w)
    let n := fieldOf b 0 5
    (fnOf w = 0x00 → s.writesRd (.add t k) t k w (a + b)) ∧
    (fnOf w = 0x01 → s.writesRd (.sub t k) t k w (a - b)) ∧
    (fnOf w = 0x02 → s.writesRd (.and t k) t k w (a &&& b)) ∧
    (fnOf w = 0x03 → s.writesRd (.or t k) t k w (a ||| b)) ∧
    (fnOf w = 0x04 → s.writesRd (.xor t k) t k w (a ^^^ b)) ∧
    (fnOf w = 0x05 → s.writesRd (.shl t k) t k w (BitVec.ofNat 32 (a.toNat * 2 ^ n))) ∧
    (fnOf w = 0x06 → s.writesRd (.shr t k) t k w (BitVec.ofNat 32 (a.toNat / 2 ^ n))) ∧
    (fnOf w = 0x07 → s.writesRd (.sra t k) t k w (BitVec.ofInt 32 (a.toInt / 2 ^ n))) ∧
    (fnOf w = 0x08 → s.writesRd (.slt t k) t k w (if a.toInt < b.toInt then 1 else 0)) ∧
    (fnOf w = 0x09 → s.writesRd (.sltu t k) t k w (if a.toNat < b.toNat then 1 else 0)) ∧
    (fnOf w = 0x0A → s.writesRd (.mul t k) t k w (a * b)) ∧
    (fnOf w = 0x0B → s.writesRd (.mulh t k) t k w (BitVec.ofInt 32 (a.toInt * b.toInt / 2 ^ 32))) ∧
    (fnOf w = 0x0C → s.writesRd (.mulhu t k) t k w (BitVec.ofNat 32 (a.toNat * b.toNat / 2 ^ 32))) ∧
    (fnOf w = 0x0D → s.writesRd (.min t k) t k w (BitVec.ofInt 32 (Min.min a.toInt b.toInt))) ∧
    (fnOf w = 0x0E → s.writesRd (.max t k) t k w (BitVec.ofInt 32 (Max.max a.toInt b.toInt))) ∧
    (fnOf w = 0x0F → s.writesRd (.minu t k) t k w (BitVec.ofNat 32 (Min.min a.toNat b.toNat))) ∧
    (fnOf w = 0x10 → s.writesRd (.maxu t k) t k w (BitVec.ofNat 32 (Max.max a.toNat b.toNat))) ∧
    (rbOf w = 0 →
      (fnOf w = 0x11 → s.writesRd (.popc t k) t k w (BitVec.ofNat 32 ((List.range 32).countP (fun i => a.getLsbD i)))) ∧
      (fnOf w = 0x12 → ∃ z ≤ 32, (∀ i < z, a.getLsbD (31 - i) = false) ∧ (z < 32 → a.getLsbD (31 - z) = true) ∧
        s.writesRd (.clz t k) t k w (BitVec.ofNat 32 z)) ∧
      (fnOf w = 0x13 → ∃ z ≤ 32, (∀ i < z, a.getLsbD i = false) ∧ (z < 32 → a.getLsbD z = true) ∧
        s.writesRd (.ctz t k) t k w (BitVec.ofNat 32 z))) ∧
    (0x13 < fnOf w ∨ (0x11 ≤ fnOf w ∧ rbOf w ≠ 0) → cuffCode w = none)) ∧
  (∀ (s : State) (t : TileId) (k : SlotId) (w : Word), s.runs t k w →
    let a := s.creg t k (raOf w)
    let sx : Word := BitVec.ofInt 32 (w.setWidth 16).toInt
    let zx : Word := BitVec.ofNat 32 (w.toNat % 0x10000)
    let n := w.toNat % 32
    (opOf w = 0x02 → s.writesRd (.addi t k) t k w (a + sx)) ∧
    (opOf w = 0x03 → s.writesRd (.andi t k) t k w (a &&& zx)) ∧
    (opOf w = 0x04 → s.writesRd (.ori t k) t k w (a ||| zx)) ∧
    (opOf w = 0x05 → s.writesRd (.xori t k) t k w (a ^^^ zx)) ∧
    (opOf w = 0x06 → s.writesRd (.slti t k) t k w (if a.toInt < sx.toInt then 1 else 0)) ∧
    (opOf w = 0x07 → s.writesRd (.sltiu t k) t k w (if a.toNat < sx.toNat then 1 else 0)) ∧
    (fieldOf w 5 11 = 0 →
      (opOf w = 0x08 → s.writesRd (.shli t k) t k w (BitVec.ofNat 32 (a.toNat * 2 ^ n))) ∧
      (opOf w = 0x09 → s.writesRd (.shri t k) t k w (BitVec.ofNat 32 (a.toNat / 2 ^ n))) ∧
      (opOf w = 0x0A → s.writesRd (.srai t k) t k w (BitVec.ofInt 32 (a.toInt / 2 ^ n)))) ∧
    (opOf w = 0x0B → raOf w = 0 → s.writesRd (.lui t k) t k w (BitVec.ofNat 32 (w.toNat % 0x10000 * 0x10000))) ∧
    ((0x08 ≤ opOf w ∧ opOf w ≤ 0x0A ∧ fieldOf w 5 11 ≠ 0) ∨ (opOf w = 0x0B ∧ raOf w ≠ 0) → cuffCode w = none))

/-- R331, R336: the loads and stores. The address is RA + sext(IMM16), slot-relative; LB and LH extend the sign; RB of a store
stands in bits [25:21]. -/
def Obligations.LoadsAndStores : Prop :=
  (∀ (s : State) (t : TileId) (k : SlotId) (w : Word), s.runs t k w →
    (opOf w = 0x10 → s.loads (.lb t k) t k w 1 (fun n => BitVec.ofInt 32 (if n < 0x80 then n else n - 0x100 : Int))) ∧
    (opOf w = 0x11 → s.loads (.lbu t k) t k w 1 (BitVec.ofNat 32)) ∧
    (opOf w = 0x12 → s.loads (.lh t k) t k w 2 (fun n => BitVec.ofInt 32 (if n < 0x8000 then n else n - 0x10000 : Int))) ∧
    (opOf w = 0x13 → s.loads (.lhu t k) t k w 2 (BitVec.ofNat 32)) ∧
    (opOf w = 0x14 → s.loads (.lw t k) t k w 4 (BitVec.ofNat 32))) ∧
  (∀ (s : State) (t : TileId) (k : SlotId) (w : Word), s.runs t k w →
    (opOf w = 0x18 → s.posts (.sb t k) t k w 1 (s.creg t k (rdOf w))) ∧
    (opOf w = 0x19 → s.posts (.sh t k) t k w 2 (s.creg t k (rdOf w))) ∧
    (opOf w = 0x1A → s.posts (.sw t k) t k w 4 (s.creg t k (rdOf w))))

/-- R328, R336: a misaligned narrow access and one past the slot bound abort the task; so does a word that is reserved, or that
has a non-zero unused field. -/
def Obligations.TrapsAbortTheTask : Prop :=
  (∀ (s : State) (t : TileId) (k : SlotId) (w : Word), s.runs t k w →
    let o := (s.creg t k (raOf w) + BitVec.ofInt 32 (w.setWidth 16).toInt).toNat
    let bound := (s.rd (Reg.pocketSlotBound t k)).toNat
    let aborts (c : Instr) : Prop := Answers c s (fun u => u.taskState t k = taskAborted)
    (opOf w = 0x10 → bound < o + 1 → aborts (.lb t k)) ∧ (opOf w = 0x11 → bound < o + 1 → aborts (.lbu t k)) ∧
    (opOf w = 0x12 → o % 2 ≠ 0 ∨ bound < o + 2 → aborts (.lh t k)) ∧
    (opOf w = 0x13 → o % 2 ≠ 0 ∨ bound < o + 2 → aborts (.lhu t k)) ∧
    (opOf w = 0x14 → o % 4 ≠ 0 ∨ bound < o + 4 → aborts (.lw t k)) ∧
    (opOf w = 0x18 → bound < o + 1 → aborts (.sb t k)) ∧
    (opOf w = 0x19 → o % 2 ≠ 0 ∨ bound < o + 2 → aborts (.sh t k)) ∧
    (opOf w = 0x1A → o % 4 ≠ 0 ∨ bound < o + 4 → aborts (.sw t k))) ∧
  (∀ (s : State) (t : TileId) (k : SlotId) (w : Word), s.runs t k w →
    (opOf w = 0x00 ∨ 0x0C ≤ opOf w ∧ opOf w ≤ 0x0F ∨ 0x15 ≤ opOf w ∧ opOf w ≤ 0x17 ∨ 0x1B ≤ opOf w ∧ opOf w ≤ 0x1F ∨
      0x29 ≤ opOf w ∧ opOf w ≤ 0x2F ∨ 0x32 ≤ opOf w ∧ opOf w ≤ 0x37 ∨ 0x39 ≤ opOf w ∧ opOf w ≤ 0x3E ∨
      (opOf w = 0x01 ∧ 0x13 < fnOf w) ∨ (opOf w = 0x3F ∧ (5 < fnOf w ∨ rdOf w ≠ 0 ∨ raOf w ≠ 0 ∨ rbOf w ≠ 0)) ∨
      (opOf w = 0x0B ∧ raOf w ≠ 0) ∨ (opOf w = 0x28 ∧ (rbOf w ≠ 0 ∨ fnOf w ≠ 0))) →
    Answers (.reservedInstruction t k) s (fun u => u.taskState t k = taskAborted))

/-- R332: branches compare RA in [25:21] with RB in [20:16]; offsets count words from the instruction's own PC; JAL
links c31 and JR links RD with PC + 1; a target outside 0-4,095 aborts the task. -/
def Obligations.ControlFlowTargets : Prop :=
  ∀ (s : State) (t : TileId) (k : SlotId) (w : Word), s.runs t k w →
    let a := s.creg t k (fieldOf w 21 5)
    let b := s.creg t k (fieldOf w 16 5)
    let pc : Int := s.pc t k
    let far : Int := pc + (w.setWidth 16).toInt
    let jump : Int := pc + (w.setWidth 26).toInt
    let link : Word := BitVec.ofNat 32 (s.pc t k + 1)
    (opOf w = 0x20 → s.jumps (.beq t k) t k 0 0 (if a = b then far else pc + 1)) ∧
    (opOf w = 0x21 → s.jumps (.bne t k) t k 0 0 (if a ≠ b then far else pc + 1)) ∧
    (opOf w = 0x22 → s.jumps (.blt t k) t k 0 0 (if a.toInt < b.toInt then far else pc + 1)) ∧
    (opOf w = 0x23 → s.jumps (.bge t k) t k 0 0 (if b.toInt ≤ a.toInt then far else pc + 1)) ∧
    (opOf w = 0x24 → s.jumps (.bltu t k) t k 0 0 (if a.toNat < b.toNat then far else pc + 1)) ∧
    (opOf w = 0x25 → s.jumps (.bgeu t k) t k 0 0 (if b.toNat ≤ a.toNat then far else pc + 1)) ∧
    (opOf w = 0x26 → s.jumps (.jmp t k) t k 0 0 jump) ∧
    (opOf w = 0x27 → s.jumps (.jal t k) t k 31 link jump) ∧
    (opOf w = 0x28 → rbOf w = 0 → fnOf w = 0 →
      s.jumps (.jr t k) t k (rdOf w) link (s.creg t k (raOf w)).toNat)

/-- R333: CSRR reads a control-space word of the tile into RD, CSRW writes CUFF_TASK_ARG or CUFF_TASK_TIMER of any
slot of the tile with RD; an address the task may not reach aborts it (R337). -/
def Obligations.ControlSpaceAccesses : Prop :=
  ∀ (s : State) (t : TileId) (k : SlotId) (w : Word), s.runs t k w →
    let a := (s.creg t k (raOf w) + BitVec.ofInt 32 (w.setWidth 16).toInt).toNat
    (opOf w = 0x30 → ∀ r, a % 4 = 0 → 0x1001000 + 0x10000 * t.val ≤ a → a < 0x1008000 + 0x10000 * t.val →
      regAt a = some (r, 0) → r.width = 32 → s.domainOn (13 + t.val / 64) = true → a ≠ Reg.cuffStatInstr t →
      s.writesRd (.csrr t k) t k w (s.rd a)) ∧
    (opOf w = 0x31 → ∀ j : SlotId, a = Reg.cuffTaskArg t j ∨ a = Reg.cuffTaskTimer t j →
      s.domainOn (13 + t.val / 64) = true → s.pc t k < 4095 → Answers (.csrw t k) s (fun u =>
        u.rd a = s.creg t k (rdOf w) ∧ u.pc t k = s.pc t k + 1 ∧ u.taskState t k = taskRunning ∧
        s.onlyRegs u [a, Reg.cuffTaskStatus t k, Reg.cuffStatus t, Reg.cuffStatInstr t])) ∧
    (a % 4 ≠ 0 ∨ a < 0x1001000 + 0x10000 * t.val ∨ 0x1008000 + 0x10000 * t.val ≤ a →
      (opOf w = 0x30 → Answers (.csrr t k) s (fun u => u.taskState t k = taskAborted)) ∧
      (opOf w = 0x31 → Answers (.csrw t k) s (fun u => u.taskState t k = taskAborted)))

/-- R335, R343, R345, R349: NOP, the barriers, TEND, WFI and IRET. -/
def Obligations.CoreControlResults : Prop :=
  ∀ (s : State) (t : TileId) (k : SlotId) (w : Word), s.runs t k w → opOf w = 0x3F → rdOf w = 0 → raOf w = 0 → rbOf w = 0 →
    (fnOf w = 5 → s.writesRd (.nop t k) t k w 0) ∧
    (fnOf w = 0 → Answers (.bar t k) s (fun u => s.waitsIn u t k 8 ∧ (u.task t k).arrived = true ∧ (u.task t k).bars = false)) ∧
    (fnOf w = 1 → Answers (.bars t k) s (fun u => s.waitsIn u t k 8 ∧ (u.task t k).arrived = true ∧ (u.task t k).bars = true)) ∧
    (fnOf w = 2 → s.tendForbidden t k = false → s.workEnded t k = true → Answers (.tend t k) s (fun u =>
      u.taskState t k = taskEnded ∧ s.onlyRegs u [Reg.cuffTaskStatus t k, Reg.cuffStatus t, Reg.cuffStatInstr t])) ∧
    (fnOf w = 2 → s.tendForbidden t k = false → s.workEnded t k = false → Answers (.tend t k) s (fun u => s.waitsIn u t k 10)) ∧
    (fnOf w = 2 → s.tendForbidden t k = true → Answers (.tend t k) s (fun u => u.taskState t k = taskAborted)) ∧
    (fnOf w = 3 → s.rd (Reg.cuffIntPend t k) &&& s.rd (Reg.cuffIntEn t k) ≠ 0 → s.writesRd (.wfi t k) t k w 0) ∧
    (fnOf w = 3 → s.rd (Reg.cuffIntEn t k) ≠ 0 → s.rd (Reg.cuffIntPend t k) &&& s.rd (Reg.cuffIntEn t k) = 0 →
      Answers (.wfi t k) s (fun u => s.waitsIn u t k 9)) ∧
    (fnOf w = 3 → s.rd (Reg.cuffIntEn t k) = 0 → Answers (.wfi t k) s (fun u => u.taskState t k = taskAborted)) ∧
    (fnOf w = 4 → s.bit (Reg.cuffTaskStatus t k) 24 = true → Answers (.iret t k) s (fun u =>
      u.pc t k = s.fld (Reg.cuffIntEpc t k) 0 12 ∧ u.bit (Reg.cuffTaskStatus t k) 24 = false ∧ u.taskState t k = taskRunning ∧
      s.onlyRegs u [Reg.cuffTaskStatus t k, Reg.cuffStatus t, Reg.cuffStatInstr t])) ∧
    (fnOf w = 4 → s.bit (Reg.cuffTaskStatus t k) 24 = false → Answers (.iret t k) s (fun u => u.taskState t k = taskAborted))

/-- R345, R348-R350, R341, R343: what happens to a task from outside its program. -/
def Obligations.TaskEvents : Prop :=
  ∀ (s : State) (t : TileId) (k : SlotId),
    (s.taskState t k = taskWaiting → cuffCode (s.fetch t k) = some (code 0x3F 2) → s.workEnded t k = true →
      Answers (.taskEnded t k) s (fun u => u.taskState t k = taskEnded ∧ s.onlyRegs u [Reg.cuffTaskStatus t k, Reg.cuffStatus t])) ∧
    (s.taskState t k = taskRunning ∨ s.taskState t k = taskWaiting → s.bit (Reg.cuffTaskStatus t k) 24 = false →
      s.rd (Reg.cuffIntPend t k) &&& s.rd (Reg.cuffIntEn t k) ≠ 0 → (s.task t k).suit = none →
      Answers (.interruptTake t k) s (fun u => u.pc t k = s.fld (Reg.cuffIntVec t k) 0 12 ∧
        u.fld (Reg.cuffIntEpc t k) 0 12 = s.pc t k ∧ u.bit (Reg.cuffTaskStatus t k) 24 = true ∧ u.taskState t k = taskRunning)) ∧
    (s.rd (Reg.cuffTaskTimer t k) ≠ 0 → Answers (.taskTimerExpire t k) s (fun u =>
      u.rd (Reg.cuffTaskTimer t k) = 0 ∧ u.bit (Reg.cuffIntPend t k) 3 = true ∧
      s.sameBits u (Reg.cuffIntPend t k) (fun j => j ≠ 3) ∧ s.onlyTile u t [Reg.cuffTaskTimer t k, Reg.cuffIntPend t k])) ∧
    (∀ ring : BitVec 4, s.regOn (Reg.cuffDoorbell t) = true → Answers (.cuffDoorbell t ring) s (fun u =>
      (∀ j : SlotId, u.bit (Reg.cuffIntPend t j) 2 = (s.bit (Reg.cuffIntPend t j) 2 || ring.getLsbD j)) ∧
      s.onlyTile u t ((List.range 4).map (fun j => Reg.cuffIntPend t j)))) ∧
    (s.regOn (Reg.cuffTaskCtrl t k) = true →
      s.taskState t k = taskFree ∨ s.taskState t k = taskEnded ∨ s.taskState t k = taskCancelled →
      s.bit (Reg.cuffTaskEntry t k) 31 = true → (∀ q, s.partOf t = some q → k.val < (s.slot q).taskSlots) →
      Answers (.cuffTaskStart t k) s (fun u => u.taskState t k = taskRunning ∧ u.pc t k = s.fld (Reg.cuffTaskEntry t k) 0 12 ∧
        u.creg t k 1 = s.rd (Reg.cuffTaskArg t k) ∧ (∀ i, 2 ≤ i → i < 32 → u.creg t k i = 0) ∧
        u.rd (Reg.cuffIntPend t k) = 0 ∧ u.bit (Reg.cuffTaskStatus t k) 24 = false)) ∧
    (s.regOn (Reg.cuffTaskCtrl t k) = true → s.taskState t k = taskRunning ∨ s.taskState t k = taskWaiting →
      Answers (.cuffTaskCancel t k) s (fun u => u.taskState t k = taskCancelled)) ∧
    (s.taskState t k = taskWaiting → s.fld (Reg.cuffTaskStatus t k) 25 4 = 3 →
      Answers (.scoreboardFull t k) s (fun u => u.taskState t k = taskAborted))
/-! ## Counter clears -/

namespace Sys2Proof.Machine

/-- The command sets the words `as` to 0 and changes nothing else; where the unit that holds the register `reg` has no
power, the write is dropped (R502). -/
def State.clears (s : State) (c : Instr) (reg : Nat) (as : List Nat) : Prop :=
  (s.regOn reg = true → Answers c s (fun u => (∀ a ∈ as, u.rd a = 0) ∧ s.onlyRegs u as)) ∧
  (s.regOn reg = false → exec c s = .next s)

/-- The words of a panel's sampler for partition `q` (R236). -/
def samplerWords (p q : Nat) : List Nat :=
  [Reg.samplerTiles p q, Reg.samplerSatSkipped p q, Reg.samplerDiverged p q] ++
    (List.range 7).flatMap (fun k => (List.range 16).map (fun b => Reg.samplerHist p q k b))

end Sys2Proof.Machine

/-- R95, R157, R196, R236, R270, R293, R323, R356, R394, R434, R463, R516, R556: each clear register zeroes its counters and
nothing else: those of a tile, of a panel, of the module mesh, the fabric, the mirror, the clocks, the supplies and the
HBM controllers. -/
def Obligations.CounterClears : Prop :=
  (∀ (s : State) (t : TileId),
    s.clears (.pocketCtrClearConflict t) (Reg.pocketCtrClear t) [Reg.pocketConflictCount t, Reg.pocketConflictInfo t] ∧
    s.clears (.pocketCtrClearCe t) (Reg.pocketCtrClear t) [Reg.pocketCeCount t] ∧
    s.clears (.pocketCtrClearUe t) (Reg.pocketCtrClear t) [Reg.pocketUeCount t] ∧
    s.clears (.pocketCtrClearNarrow t) (Reg.pocketCtrClear t) [Reg.pocketNarrowForceCount t] ∧
    s.clears (.seamCtrClear t) (Reg.seamCtrClear t) [Reg.seamStatKblocks t, Reg.seamStatGranA t, Reg.seamStatGranB t,
      Reg.seamStatGranOut t, Reg.seamStatNull t, Reg.seamStatNrecOut t, Reg.seamStatCoordIn t, Reg.seamStatElemOut t,
      Reg.seamStatStallOut t, Reg.seamStatStallIn t] ∧
    s.clears (.sleeveCtrClearAll t) (Reg.sleeveCtrClear t) [Reg.sleeveStatActive t, Reg.sleeveStatWaitIn t,
      Reg.sleeveStatWaitDrain t, Reg.sleeveStatTiles t, Reg.sleeveStatNull t, Reg.sleeveStatPlaneSkip t, Reg.sleeveStatSeq t] ∧
    s.clears (.sleeveCtrClearSat t) (Reg.sleeveCtrClear t)
      (Reg.sleeveSatCount t :: (List.range 32).map (fun i => Reg.sleeveSatMap t i)) ∧
    s.clears (.suitCtrClear t) (Reg.suitCtrClear t)
      [Reg.suitStatIssued t, Reg.suitStatDone t, Reg.suitStatAborted t, Reg.suitStatCancelled t] ∧
    s.clears (.placketCtrClear t) (Reg.placketCtrClear t) [Reg.placketStatRd t, Reg.placketStatWr t,
      Reg.placketStatRemoteIn t, Reg.placketStatMerged t, Reg.placketStatNocredit t, Reg.placketStatLimit t,
      Reg.placketStatAgpInstr t, Reg.placketStatStaged t] ∧
    s.clears (.cuffCtrClear t) (Reg.cuffCtrClear t) [Reg.cuffStatInstr t, Reg.cuffStatIdle t, Reg.cuffStatSbWait t] ∧
    s.clears (.winCtrClearAll t) (Reg.winCtrClear t)
      [Reg.winStatAdmitted t, Reg.winStatRefused t, Reg.creditStatGrants t, Reg.creditStatRefused t] ∧
    s.clears (.winCtrClearStarve t) (Reg.winCtrClear t) [Reg.arbStarveCount t]) ∧
  (∀ s : State,
    (∀ p : PanelId, s.clears (.yokeCtrClear p) (Reg.yokeCtrClear p) ([Reg.yokeStatPieces p, Reg.yokeStatStealLocal p,
      Reg.yokeStatStealRemote p, Reg.yokeStatSplit p, Reg.yokeStatTakeWait p] ++
      (List.range 64).flatMap (fun j => [Reg.shawlStatSpill p j, Reg.shawlStatTurns p j]))) ∧
    (∀ (p : PanelId) (m : BitVec 8), s.clears (.samplerCtrClear p m) (Reg.samplerCtrClear p)
      (((List.range 8).filter (fun q => m.getLsbD q)).flatMap (samplerWords p))) ∧
    (∀ p : PanelId, s.clears (.lockCtrClear p) (Reg.lockCtrClear p) [Reg.lockStatOrphan p, Reg.lockStatAcq p]) ∧
    s.clears .meshCtrClear Reg.meshCtrClear [Reg.meshStarveCount, Reg.meshStatCe] ∧
    (∀ p : PortId, s.clears (.fabPortCtrClear p) (Reg.fabPortCtrClear p)
      [Reg.fabPortStatCe p, Reg.fabPortStatReplay p, Reg.fabPortStatRetrain p]) ∧
    s.clears .fabCtrClear Reg.fabCtrClear [Reg.fabStatNoroute, Reg.fabStatTimeout, Reg.fabStatLate] ∧
    (∀ q : PartId, s.clears (.mirrorCtrClear q) (Reg.mirrorCtrClear q)
      [Reg.mirrorStatPages q, Reg.mirrorStatCommits q, Reg.mirrorStatRestarts q]) ∧
    s.clears .clkCtrClear Reg.clkCtrClear [Reg.clkStatTransitions] ∧
    s.clears .pwrCtrClear Reg.pwrCtrClear [Reg.pwrStatWakeWait] ∧
    (∀ c : Fin 8, s.clears (.hbmCtrClear c) (Reg.hbmCtrClear c) [Reg.hbmCeCount c, Reg.hbmUeCount c]))

/-! ## The Pockets (spec 03) -/

namespace Sys2Proof.Machine

/-- The bytes `bs` stand at physical offset `off` of tile `t`'s Pocket, and every other byte of every Pocket is as it was. -/
def State.stored (s u : State) (t off : Nat) (bs : List Byte) : Prop :=
  (∀ i (h : i < bs.length), mget u.pocket (pkey t (off + i)) = bs[i]) ∧
  ∀ a, (a < pkey t off ∨ pkey t off + bs.length ≤ a) → mget u.pocket a = mget s.pocket a

/-- The bank of a narrow access is held by no port. -/
def State.bankFree (s : State) (t off : Nat) : Prop :=
  (off / 8 % 32) ∉ (s.ports t).busy ∧ (off / 8 % 32) ∉ (s.ports t).merging

end Sys2Proof.Machine

/-- R68, R69, R72: an access that a wide port presents alone is granted in its cycle: a read takes the bytes as they stand,
a full write stores its bytes; it holds its banks in that cycle and none in the next. An access held before is granted
in the first cycle without another. -/
def Obligations.WidePortGrants : Prop :=
  ∀ (s : State) (t : TileId) (r : WideReq) (off : Nat), 1 ≤ r.words → r.words ≤ 16 → r.off % 8 = 0 → off % 8 = 0 →
    (s.ports t).held = [] → (s.ports t).merging = [] →
    r.off + 8 * r.words ≤ (s.rd (Reg.pocketSlotBound t r.task)).toNat →
    off = (s.rd (Reg.pocketSlotBase t r.task)).toNat + r.off → s.pocketOpen t off (8 * r.words) →
    let acc : PAccess := { src := .task r.task r.req, off := off, len := 8 * r.words, wr := r.wr }
    let banks := (List.range r.words).map (fun i => (off / 8 + i) % 32)
    (r.wr = none → Answers (.pocketWideAccess t (some r) none) s (fun u =>
      u.ports t = { s.ports t with held := [], merging := [], busy := banks, reads := (s.ports t).reads ++
        [{ port := 0, acc := acc, data := mread s.pocket (pkey t off) (8 * r.words), charge := none }] } ∧
      s.onlyTile u t [])) ∧
    (r.wr = none → Answers (.pocketWideAccess t none (some (.own r))) s (fun u =>
      u.ports t = { s.ports t with held := [], merging := [], busy := banks, reads := (s.ports t).reads ++
        [{ port := 1, acc := acc, data := mread s.pocket (pkey t off) (8 * r.words), charge := none }] } ∧
      s.onlyTile u t [])) ∧
    (∀ bs : List Byte, bs.length = 8 * r.words → r.wr = some (bs.map some) →
      Answers (.pocketWideAccess t (some r) none) s (fun u => s.stored u t off bs ∧
        (u.ports t).busy = banks ∧ (u.ports t).merging = [] ∧ (u.ports t).held = [] ∧ (u.ports t).reads = (s.ports t).reads)) ∧
    (∀ s' : State, s' = s.setPorts t { s.ports t with held := [{ port := 1, acc := acc, charge := none }] } → r.wr = none →
      Answers (.heldAccessGrant t) s' (fun u => (u.ports t).held = [] ∧ (u.ports t).reads = (s.ports t).reads ++
        [{ port := 1, acc := acc, data := mread s.pocket (pkey t off) (8 * r.words), charge := none }] ∧
        u.pocket = s.pocket))

/-- R72: of two accesses of one cycle that need a common bank, that of WP0 is granted and that of WP1 is held; the conflict is
counted and POCKET_STATUS.CONFLICT set. Under RECORD (CONFLICT_ACTION 1) or ABORT both complete in the end. -/
def Obligations.WideConflictHoldsLater : Prop :=
  ∀ (s : State) (t : TileId) (r0 r1 : WideReq) (o0 o1 : Nat), r0.wr = none → r1.wr = none →
    1 ≤ r0.words → 1 ≤ r1.words → (s.ports t).held = [] → (s.ports t).merging = [] →
    r0.off + 8 * r0.words ≤ (s.rd (Reg.pocketSlotBound t r0.task)).toNat →
    r1.off + 8 * r1.words ≤ (s.rd (Reg.pocketSlotBound t r1.task)).toNat →
    o0 = (s.rd (Reg.pocketSlotBase t r0.task)).toNat + r0.off → o1 = (s.rd (Reg.pocketSlotBase t r1.task)).toNat + r1.off →
    s.pocketOpen t o0 (8 * r0.words) → s.pocketOpen t o1 (8 * r1.words) → s.bit (Reg.pocketCfg t) 0 = false →
    (∃ b, b ∈ (wordsOf o0 (8 * r0.words)).map (· % 32) ∧ b ∈ (wordsOf o1 (8 * r1.words)).map (· % 32)) →
    Answers (.pocketWideAccess t (some r0) (some (.own r1))) s (fun u =>
      (u.ports t).held = [⟨1, ⟨.task r1.task r1.req, o1, 8 * r1.words, none⟩, some r1.task.val⟩] ∧
      (u.ports t).reads = (s.ports t).reads ++
        [⟨0, ⟨.task r0.task r0.req, o0, 8 * r0.words, none⟩, mread s.pocket (pkey t o0) (8 * r0.words), none⟩] ∧
      (u.rd (Reg.pocketConflictCount t)).toNat = Min.min 0xFFFFFFFF ((s.rd (Reg.pocketConflictCount t)).toNat + 1) ∧
      u.bit (Reg.pocketStatus t) 3 = true ∧ u.bit (Reg.pocketConflictInfo t) 31 = true ∧ u.pocket = s.pocket ∧
      s.onlyTile u t [Reg.pocketConflictCount t, Reg.pocketStatus t, Reg.pocketConflictInfo t])

/-- R69, R70, R74, R80: delivery of a granted read, the narrow port, and the write-back of a corrected word. -/
def Obligations.PocketPortEffects : Prop :=
  ∀ (s : State) (t : TileId),
    (∀ (r : ReadPend) (rs : List ReadPend) (k q : Nat), (s.ports t).reads = r :: rs → r.charge = none →
      r.acc.src = .task k q → s.pocketClean t r.acc.off r.acc.len →
      Answers (.pocketReadData t []) s (fun u => u.ports t = { s.ports t with reads := rs, delivered := some (r.acc.src, r.data) } ∧
        s.onlyTile u t [])) ∧
    (∀ (r : NarrowReq) (rest : List NarrowReq) (k q : Nat) (bs : List Byte), (s.ports t).posted = r :: rest →
      r.acc.src = .task k q → r.acc.wr = some (bs.map some) → bs.length = r.acc.len →
      (r.acc.len = 1 ∨ r.acc.len = 2 ∨ r.acc.len = 4) → r.acc.off % r.acc.len = 0 →
      s.pocketOpen t r.acc.off r.acc.len → s.pocketClean t r.acc.off r.acc.len →
      (s.bankFree t r.acc.off → Answers (.narrowAccess t) s (fun u => s.stored u t r.acc.off bs ∧
        (u.ports t).posted = rest ∧ (u.ports t).merging = [r.acc.off / 8 % 32])) ∧
      (¬ s.bankFree t r.acc.off → Answers (.narrowAccess t) s (fun u =>
        (u.ports t).posted = { r with waits := r.waits + 1 } :: rest ∧ s.onlyTile u t [])) ∧
      (16 ≤ r.waits → Answers (.narrowForce t) s (fun u => s.stored u t r.acc.off bs ∧ (u.ports t).posted = rest ∧
        (u.rd (Reg.pocketNarrowForceCount t)).toNat = Min.min 0xFFFFFFFF ((s.rd (Reg.pocketNarrowForceCount t)).toNat + 1) ∧
        u.bit (Reg.pocketStatus t) 2 = true))) ∧
    (∀ (w : Nat) (ws : List Nat), (s.ports t).ceBack = w :: ws → w % 32 ∉ (s.ports t).busy → w % 32 ∉ (s.ports t).merging →
      Answers (.ceWriteBack t) s (fun u => u.wordErr t w = none ∧ (∀ x, x ≠ wkey t w → tfind u.pocketErr x = tfind s.pocketErr x) ∧
        (u.ports t).ceBack = ws.filter (· != w) ∧ u.pocket = s.pocket ∧ u.regs = s.regs))

/-- R78, R83, R87, R88, R92, R93: the scrub engine, the end of a wipe and of a bank group's wake, and POCKET_ACC. -/
def Obligations.PocketUpkeepEffects : Prop :=
  ∀ (s : State) (t : TileId),
    (s.bit (Reg.pocketScrubCtrl t) 0 = true → s.bit (Reg.pocketStatus t) 7 = false →
      ∀ w, w = s.fld (Reg.pocketScrubPtr t) 3 19 → s.bit (Reg.pocketPwrStatus t) (w / 0x10000) = true → s.bankFree t (8 * w) →
      (s.wordErr t w = none → Answers (.scrubStep t none) s (fun u =>
        u.rd (Reg.pocketScrubPtr t) = BitVec.ofNat 32 (8 * ((w + 1) % 0x80000)) ∧
        u.rd (Reg.pocketScrubPasses t) = s.rd (Reg.pocketScrubPasses t) + (if w = 0x7FFFF then 1 else 0) ∧
        s.onlyTile u t [Reg.pocketScrubPtr t, Reg.pocketScrubPasses t, Reg.pocketStatus t])) ∧
      (∀ e : WordErr, e.double = false → Answers (.scrubStep t (some e)) s (fun u =>
        u.rd (Reg.pocketScrubPtr t) = BitVec.ofNat 32 (8 * ((w + 1) % 0x80000)) ∧ u.pocket = s.pocket ∧
        w ∈ (u.ports t).ceBack ∧ u.bit (Reg.pocketStatus t) 4 = true ∧
        (u.rd (Reg.pocketCeCount t)).toNat = Min.min 0xFFFFFFFF ((s.rd (Reg.pocketCeCount t)).toNat + 1)))) ∧
    (s.bit (Reg.pocketStatus t) 7 = true → Answers (.wipeDone t) s (fun u =>
      (∀ o < 0x400000, mget u.pocket (pkey t o) = 0) ∧
      (∀ a, (a < pkey t 0 ∨ pkey t 0x400000 ≤ a) → mget u.pocket a = mget s.pocket a) ∧
      u.rd (Reg.pocketStatus t) = 0x40 ∧ u.rd (Reg.pocketPwrStatus t) = 0xFF ∧
      u.rd (Reg.pocketConflictCount t) = 0 ∧ u.rd (Reg.pocketCeCount t) = 0 ∧ u.rd (Reg.pocketUeCount t) = 0 ∧
      u.rd (Reg.pocketErrAddr t) = 0 ∧ u.rd64 (Reg.pocketDirty t) = s.rd64 (Reg.pocketDirty t))) ∧
    (∀ g : Fin 8, s.bit (Reg.pocketPwrStatus t) (8 + g) = true → Answers (.bankGroupWakeDone t g) s (fun u =>
      (∀ i < 0x80000, mget u.pocket (pkey t (g * 0x80000 + i)) = 0) ∧
      (∀ a, (a < pkey t (g * 0x80000) ∨ pkey t (g * 0x80000) + 0x80000 ≤ a) → mget u.pocket a = mget s.pocket a) ∧
      u.bit (Reg.pocketPwrStatus t) g = true ∧ u.bit (Reg.pocketPwrStatus t) (8 + g) = false ∧
      s.sameBits u (Reg.pocketPwrStatus t) (fun j => j ≠ g.val ∧ j ≠ 8 + g.val) ∧
      u.rd64 (Reg.pocketDirty t) = s.rd64 (Reg.pocketDirty t))) ∧
    (s.regOn (Reg.pocketAccData t) = true → ∀ off, off = (s.rd (Reg.pocketAccAddr t)).toNat → off % 4 = 0 → off < 0x400000 →
      s.pocketOpen t off 4 → s.pocketClean t off 4 →
      Answers (.pocketAccRead t) s (fun u => u.reply = mread s.pocket (pkey t off) 4 ∧
        (u.rd (Reg.pocketAccAddr t)).toNat = (off + 4) % 0x400000 ∧ u.pocket = s.pocket ∧
        ∀ a, a ≠ Reg.pocketAccAddr t → u.rd a = s.rd a) ∧
      ∀ v : Word, Answers (.pocketAccWrite t v) s (fun u =>
        s.stored u t off ((List.range 4).map (fun i => BitVec.ofNat 8 (v.toNat / 256 ^ i))) ∧
        (u.rd (Reg.pocketAccAddr t)).toNat = (off + 4) % 0x400000 ∧
        (∀ p < 64, (u.rd64 (Reg.pocketDirty t)).testBit p = ((s.rd64 (Reg.pocketDirty t)).testBit p ||
          (p == off / 0x10000 && mread u.pocket (pkey t off) 4 != mread s.pocket (pkey t off) 4))) ∧
        ∀ a, a ≠ Reg.pocketAccAddr t → a ≠ Reg.pocketDirty t → a ≠ Reg.pocketDirty t + 4 → u.rd a = s.rd a))

/-! ## Suits: issue, the Seam unit, the Sleeve engine and the stages after it (spec 05-09) -/

namespace Sys2Proof.Machine

/-- The register words in which the stages of tile `t` show themselves (R157, R196, R293). -/
def suitWords (t : Nat) : List Nat :=
  [Reg.seamStatus t, Reg.sleeveStatus t, Reg.seamBufStatus t] ++ (List.range 4).map (fun i => Reg.suitStatus t i)

/-- A stage of suit `i` has gone on: the suit is `x` with the stages `r`. The frame: memory, every other tile and every register word
but those of the stages and `as` are unchanged. -/
def State.stageNow (s u : State) (t i : Nat) (x : Suit) (r : SuitRun) (as : List Nat) : Prop :=
  u.suit t i = some { x with run := r } ∧ s.onlyTile u t (suitWords t ++ as)

/-- The slots of the tile's suits are 0-3 (R271). -/
def State.suitSlots (s : State) (t : Nat) : Prop := ∀ p ∈ (s.tile t).suits, p.1 < 4

/-- Operation, granule and NULL of a granule record. -/
def SeamRec.granule (q : SeamRec) : Option (Nat × Nat × Bool) :=
  match q.r with
  | .grec kg null _ _ _ _ _ _ => some (q.op, kg, null)
  | _ => none

end Sys2Proof.Machine

/-- R133, R283, R501: a SEAM or SLEEVE stage starts for the next suit in issue order that is RUNNING, once its sides are bound and
the panel's compute domain is on; while the domain is off the start wakes it. SEQ_FORCE acts on a template whose SEQ
is 0 (R185). -/
def Obligations.StageStarts : Prop :=
  ∀ (s : State) (t : TileId) (i : Nat) (x : Suit), s.suitSlots t → x.bound = true →
    (s.seamSuit t = none → s.nextSuit t (fun x => x.has stSeam && x.run.seam != 2) = some (i, x) →
      (s.domainOn (5 + t.val / 64) = true → Answers (.seamStageStart t) s (fun u =>
        s.stageNow u t i x { x.run with seam := 1, sPos := s.seamFirst t x } [])) ∧
      (s.domainOn (5 + t.val / 64) = false → s.domainWaking (5 + t.val / 64) = false → Answers (.seamStageStart t) s (fun u =>
        u.domainWaking (5 + t.val / 64) = true ∧ s.onlyRegs u [Reg.pwrDomainWaking, Reg.pwrStatWakeWait]))) ∧
    (s.sleeveSuit t = none → s.nextSuit t (fun x => x.run.sleeve != 2) = some (i, x) → s.domainOn (5 + t.val / 64) = true →
      Answers (.sleeveStageStart t) s (fun u => ∃ r, s.stageNow u t i x r [] ∧ r.sleeve = 1 ∧
        r.seq = (if x.seqField = 0 ∧ s.bit (Reg.sleeveCfg t) 1 = true then 1 else x.seqField) ∧
        r.sets.length = 2 ∧ r.parts = List.replicate 4 { q := [], planes := none, nulls := [] } ∧ r.fed = x.run.fed))

/-- R136, R137, R150: a K block that lies within both sides gives one record for each of its 16 granules where both sides
are DENSE without maps; while records of the block before are held, the cycle is counted as a stall. Pending
records go to the hand-over buffer in order, as many as the rate and the room allow. -/
def Obligations.SeamScansAndHandsOver : Prop :=
  (∀ (s : State) (t : TileId) (i : Nat) (x : Suit), s.suitSlots t → s.seamSuit t = some (i, x) →
    x.seamOp = opGint ∨ x.seamOp = opGunion → x.run.sOp < x.ops →
    (x.run.pend ≠ [] → Answers (.seamKblockScan t) s (fun u => s.onlyRegs u [Reg.seamStatStallOut t] ∧
      (u.rd (Reg.seamStatStallOut t)).toNat = Min.min 0xFFFFFFFF ((s.rd (Reg.seamStatStallOut t)).toNat + 1))) ∧
    (x.run.pend = [] →
      (∀ j < 2, (s.sideDesc t x j).format = fmtDense ∧ (s.sideDesc t x j).gmap = noneAddr ∧ (s.sideDesc t x j).dist = false ∧
        256 * (x.run.sPos + 1) ≤ (s.sideDesc t x j).nc ∧ x.validRows (s.sideDesc t x j) j x.run.sOp ≠ []) →
      Answers (.seamKblockScan t) s (fun u => ∃ r,
        s.stageNow u t i x r [Reg.seamStatKblocks t, Reg.seamStatGranA t, Reg.seamStatGranB t] ∧
        r.pend.map SeamRec.granule = (List.range 16).map (fun g => some (x.run.sOp, 16 * x.run.sPos + g, false)) ∧
        (u.rd (Reg.seamStatKblocks t)).toNat = Min.min 0xFFFFFFFF ((s.rd (Reg.seamStatKblocks t)).toNat + 1)))) ∧
  (∀ (s : State) (t : TileId) (i : Nat) (x : Suit), s.suitSlots t → s.seamSuit t = some (i, x) →
    let n := Min.min x.handRate (x.handCap - x.run.hand.length)
    Answers (.seamRecordWrite t) s (fun u => ∃ r,
      s.stageNow u t i x r [Reg.seamStatNull t, Reg.seamStatGranOut t, Reg.seamStatNrecOut t, Reg.seamStatElemOut t] ∧
      r.hand = x.run.hand ++ x.run.pend.take n ∧ r.pend = x.run.pend.drop n))

/-- R140: NMDEC forms a record of the products that follow, with each row's positions counted from the record's first
column. -/
def Obligations.SeamDecodesPositions : Prop :=
  ∀ (s : State) (t : TileId) (i : Nat) (x : Suit) (f : Nat → Nat → List Nat), s.suitSlots t → s.seamSuit t = some (i, x) →
    x.seamOp = opNmdec → x.run.sOp < x.ops → x.run.pend = [] →
    let d := s.sideDesc t x 0
    let n := (nmRatio d.nmCode).1
    let m := (nmRatio d.nmCode).2
    let top := Min.min x.kHi d.nc * n / m
    let p := x.run.sPos
    let k := Min.min (s.nmCount t x) (top - p)
    top ≤ p + k → (∀ q ∈ x.validRows d 0 x.run.sOp, s.nmRow t x d q.2 p k = (s, .ok (f q.1 q.2))) →
    Answers (.nmdecDecode t) s (fun u => ∃ r q, s.stageNow u t i x r [] ∧ r.pend = [q] ∧ q.op = x.run.sOp ∧ q.last = true ∧
      r.sOp = x.run.sOp + 1 ∧ ∃ pos, q.r = .nrec (p / n * m) p (pos.all List.isEmpty) pos ∧ pos.length = 32 ∧
        ∀ j row, (x.validRows d 0 x.run.sOp).find? (fun z => z.1 == j) = some (j, row) → j < 32 →
          pos.getD j [] = (f j row).map (fun c => c - p / n * m))

/-- R144, R145: a compare cycle over two windows neither of which is empty gives a record for each column up to the lower of the
windows' last columns: for EINT the columns in both, for EUNION those in either. -/
def Obligations.SeamMergesWindows : Prop :=
  ∀ (s : State) (t : TileId) (i : Nat) (x : Suit) (ra rb : Nat) (wa wb : List Coord) (ea eb : Bool), s.suitSlots t →
    s.seamSuit t = some (i, x) → x.isDot = true ∨ x.isMerge = true → x.run.sOp < x.ops → x.run.pend = [] →
    let lo := Max.max x.kLo (65536 * x.run.sPos)
    let hi := Min.min x.kHi (65536 * (x.run.sPos + 1))
    s.pairAt t x stSeam x.run.sOp = (s, .ok (ra, rb)) →
    s.window t x 0 ra (s.segsOf t x 0 (s.sideDesc t x 0) ra lo hi) x.run.curA = (s, .ok (wa, ea)) →
    s.window t x 1 rb (s.segsOf t x 1 (s.sideDesc t x 1) rb lo hi) x.run.curB = (s, .ok (wb, eb)) → wa ≠ [] → wb ≠ [] →
    let lim := Min.min ((wa.getLast?.map (·.1)).getD 0) ((wb.getLast?.map (·.1)).getD 0)
    Answers (.seamMergeCycle t) s (fun u => ∃ r, s.stageNow u t i x r [Reg.seamStatCoordIn t] ∧
      ∀ c, (∃ q ∈ r.pend, ∃ a b, q.r = .erec a b c) ↔ c ≤ lim ∧
        (if x.isDot then c ∈ wa.map (·.1) ∧ c ∈ wb.map (·.1) else c ∈ wa.map (·.1) ∨ c ∈ wb.map (·.1)))

/-- R281, R285: FETCH binds the slot at HEAD of a filled ring, and delivers the columns of a DENSE K block in one run where they lie
in one chunk. -/
def Obligations.FetchDelivers : Prop :=
  ∀ (s : State) (t : TileId) (i : Nat) (x : Suit), s.suitSlots t →
    (s.bindSuit t 0 = some (i, x) → s.qFilled t (x.bindQ 0) ≠ 0 → Answers (.fetchSlotBind t false) s (fun u =>
      s.stageNow u t i x { x.run with bindA := some (s.qHead t (x.bindQ 0)) } [])) ∧
    (s.bindSuit t 1 = some (i, x) → s.qFilled t (x.bindQ 1) ≠ 0 → Answers (.fetchSlotBind t true) s (fun u =>
      s.stageNow u t i x { x.run with bindB := some (s.qHead t (x.bindQ 1)) } [])) ∧
    (∀ (r0 r1 : SuitRun) (ta tb : List (Nat × List (Nat × Opnd))),
      s.nextSuit t (fun x => x.has stFetch && !x.fetchDone) = some (i, x) → x.bound = true → x.has stSeam = false →
      x.run.fOp < x.tiles → x.run.fPos % 128 = 0 → x.run.fed = [] →
      let lo := x.kLo + x.run.fPos
      let hi := Min.min x.kHi (lo / 256 * 256 + 256)
      lo < hi → hi ≤ lo + 128 →
      let cols := (List.range (hi - lo)).map (fun j => lo + j)
      let wants (side : Nat) := (x.validRows (s.sideDesc t x side) side x.run.fOp).map
        (fun p => (p.1, s.denseWants t x side p.2 cols))
      s.fetchSide t x x.run 0 x.run.fOp true (wants 0) = (s, .ok (r0, ta)) →
      s.fetchSide t x r0 1 x.run.fOp true (wants 1) = (s, .ok (r1, tb)) → r1.fed = [] →
      Answers (.fetchBlock t) s (fun u => ∃ r f, s.stageNow u t i x r [] ∧ r.fed = [f] ∧ f.op = x.run.fOp ∧ f.col = lo ∧
        f.last = decide (x.kHi ≤ hi) ∧ f.slices = cols.map (fun c =>
          { a := (List.range x.tm).map (fun i => fetched ta i c), b := (List.range x.tn).map (fun j => [fetched tb j c]),
            pos := [] }) ∧
        r.fOp = (if x.kHi ≤ hi then x.run.fOp + 1 else x.run.fOp) ∧ r.fPos = (if x.kHi ≤ hi then 0 else hi - x.kLo)))

/-- R162, R177, R181, R228: a cycle takes the next record of the tile; the end of a tile promotes its set and lets it drain; a row
that drains reaches REDUCE with its totals; a drained sampled tile is rerun and counted. -/
def Obligations.SleeveTakesAndDrains : Prop :=
  ∀ (s : State) (t : TileId) (i : Nat) (x : Suit), s.suitSlots t → s.sleeveSuit t = some (i, x) → x.isSum = false →
    (∀ f, x.has stFetch = true → x.isDot = false → (x.run.set x (x.run.tile % 2)).ended = false → x.nextRec x.run = some f →
      Answers (.sleeveCycle t) s (fun u => ∃ r, s.stageNow u t i x r [Reg.sleeveStatSeq t, Reg.sleeveStatActive t,
          Reg.sleeveStatWaitIn t, Reg.sleeveStatNull t, Reg.sleeveStatPlaneSkip t] ∧
        r.fed = x.run.fed.drop 1 ∧ r.hand = x.run.hand.drop 1 ∧ r.seqPos = x.run.seqPos + f.slices.length ∧ r.allIn = f.last ∧
        r.tile = x.run.tile)) ∧
    (x.tileOver = true → Answers (.sleeveTileEnd t) s (fun u => ∃ y, u.suit t i = some y ∧ y.run.tile = x.run.tile + 1 ∧
      (y.run.set y (x.run.tile % 2)).ended = true ∧ u.pocket = s.pocket)) ∧
    (∀ j, x.run.ahead = [] → x.run.draining x = some j → x.run.red.length < 4 → x.isDot = false → x.tparts = 1 →
      (x.run.set x j).dr < (x.tileSize (x.run.set x j).tile).1 →
      Answers (.sleeveDrainRow t) s (fun u => ∃ y w, u.suit t i = some y ∧ y.run.red = x.run.red ++ [w] ∧
        (y.run.set y j).dr = (x.run.set x j).dr + 1 ∧ w.tile = (x.run.set x j).tile ∧
        w.vals = (List.range (x.tileSize (x.run.set x j).tile).2).map (fun c => Res.tot
          (((x.run.set x j).cells.getD ((x.run.set x j).dr * x.tn + c) Cell.zero).tot (s.env t x))) ∧
        u.pocket = s.pocket)) ∧
    (∀ p q, x.run.sample = some p → s.partOf t = some q → x.drainRows ≤ p.drained.length →
      Answers (.sampledTileRerun t) s (fun u => ∃ y, u.suit t i = some y ∧ y.run.sample = none ∧ u.pocket = s.pocket ∧
        (u.rd (Reg.samplerTiles (t.val / 64) q)).toNat =
          Min.min 0xFFFFFFFF ((s.rd (Reg.samplerTiles (t.val / 64) q)).toNat + 1)))

/-- R286: the running totals of a row are read ahead, absent elements as zero; a drained row goes back to TOTAL only under WRITEBACK,
and on to the stages after REDUCE. -/
def Obligations.ReduceRows : Prop :=
  ∀ (s : State) (t : TileId) (i : Nat) (x : Suit), s.suitSlots t → s.reduceSuit t = some (i, x) → x.isDot = false →
    (x.init = false → x.run.ahead.length < 4 → x.run.redPos / x.tm < x.tiles →
      let o := x.run.redPos / x.tm
      let at' := x.outAt o (x.run.redPos % x.tm) 0
      let d := s.totalDesc t x
      let n := (x.tileSize o).2
      ((x.tileSize o).1 ≤ x.run.redPos % x.tm → Answers (.reduceRowRead t) s (fun u =>
        s.stageNow u t i x { x.run with ahead := x.run.ahead ++ [(o, [])], redPos := x.run.redPos + 1 } [])) ∧
      (∀ vs, x.run.redPos % x.tm < (x.tileSize o).1 → s.readRow t x stReduce d at'.1 at'.2 n = (s, .ok vs) →
        let row := (List.range n).map (fun j => ((tfind vs (at'.2 + j)).map (Tot.ofOpnd d)).getD (Tot.zero d))
        Answers (.reduceRowRead t) s (fun u => s.stageNow u t i x
          { x.run with ahead := x.run.ahead ++ [(o, row)], redPos := x.run.redPos + 1 } []))) ∧
    (∀ w rest, x.run.red = w :: rest → x.writeback = false → x.run.cvt.length < 4 → x.has stStore = true →
      Answers (.reduceRowWriteback t) s (fun u =>
        s.stageNow u t i x { x.run with red := rest, cvt := x.run.cvt ++ [w] } []))

/-- R211, R287: CONVERT hands a pair row on word for word where the destination has a pair type and no scale blocks; STORE
writes a one-element row of a type of 1 or 2 bytes at its element's place and nothing else. -/
def Obligations.ConvertAndStoreRows : Prop :=
  ∀ (s : State) (t : TileId) (i : Nat) (x : Suit), s.suitSlots t →
    (∀ w rest, s.convertSuit t = some (i, x) → x.run.cvt = w :: rest → x.run.held = [] → x.run.sto.length < 4 →
      isPair (s.outDesc t x).elem = true → (s.outDesc t x).scale = noneAddr → x.lining = false → x.isSum = false →
      isFloat (s.sideDesc t x 0).elem = true →
      Answers (.convertRow t) s (fun u => s.stageNow u t i x { x.run with cvt := rest, sto := x.run.sto ++
        [{ tile := w.tile, row := w.row, col := w.col, vals := w.vals.map Res.words, scales := [], last := w.last }] } [])) ∧
    (∀ (w : StRow) (rest : List StRow) (v off : Nat) (g : Img), s.storeSuit t = some (i, x) → x.isMerge = false →
      x.toRing = false → x.has stConvert = true → x.run.sto = w :: rest → w.vals = [(v, 0)] → w.scales = [] →
      let d := s.outDesc t x
      isPlane d.elem = false → isPair d.elem = false → tySize d.elem = 1 ∨ tySize d.elem = 2 →
      s.img t x 2 d w.row w.col = some g → g.empty = false → g.d = d →
      s.planeAt t x g d.val0 (tySize d.elem * g.dense w.row w.col) (tySize d.elem) = some off → off % tySize d.elem = 0 →
      s.pocketOpen t off (tySize d.elem) → s.pocketClean t off (tySize d.elem) →
      Answers (.storeRow t) s (fun u => s.stored u t off (leBytes (tySize d.elem) v) ∧
        u.suit t i = some { x with run := { x.run with sto := rest } }))

/-- R277, R282, R283, R288, R290: issue takes the lowest free slot and copies the template; the checks that pass make the suit RUNNING
(outside scoreboard mode), a template that is not VALID aborts the task; a suit whose ranges are entered runs once no
input range overlaps a pending output; a suit that has drained ends DONE; a cancellation ends it CANCELLED. -/
def Obligations.SuitLifeCycle : Prop :=
  ∀ (s : State) (t : TileId) (i : SlotId) (x : Suit), s.suitSlots t → s.suit t i = some x →
    (∀ off, s.suitState t i = suitWaiting → x.checked = false → x.w 0 31 1 = 1 → x.opOff % 128 = 0 →
      s.slotPhys t x.task x.opOff 128 = some off → s.pocketOpen t off 128 → s.pocketClean t off 128 →
      let y : Suit := { x with op := mread s.pocket (pkey t off) 128 }
      (s.setSuit t i y).suitChecks t y = none → s.sbMode t = false → s.taskOver t x.task = false →
      y.kHi - y.kLo ≤ 0x2000000 → y.ktotal ≤ 0x2000000 → (y.ktotal = 0 ∨ y.kHi - y.kLo ≤ y.ktotal) →
      Answers (.suitIssueChecks t i) s (fun u => u.suitState t i = suitRunning ∧
        u.suit t i = some { y with checked := true, entered := true } ∧ s.onlyTile u t (suitWords t))) ∧
    (s.suitState t i = suitWaiting → x.checked = false → x.w 0 31 1 = 0 → x.task < 4 → s.taskOver t x.task = false →
      Answers (.suitIssueChecks t i) s (fun u => u.taskState t x.task = taskAborted)) ∧
    (s.suitState t i = suitWaiting → x.checked = true → x.entered = true →
      ((s.suitRanges t x false).all (fun r => !s.sbOverlap t r.1 r.2 (s.sbOf t 0 i)) = true →
        Answers (.suitRunning t i) s (fun u => u.suitState t i = suitRunning ∧ s.onlyTile u t (suitWords t))) ∧
      ((s.suitRanges t x false).any (fun r => s.sbOverlap t r.1 r.2 (s.sbOf t 0 i)) = true →
        Answers (.suitRunning t i) s (fun u => s.onlyRegs u [Reg.cuffStatSbWait t]))) ∧
    (s.suitState t i = suitRunning → x.drained = true → x.bind 0 = false → x.bind 1 = false → x.post = false →
      Answers (.suitDone t i) s (fun u => u.suitState t i = suitDone ∧ u.suit t i = none ∧ u.pocket = s.pocket ∧
        (u.rd (Reg.suitStatDone t)).toNat = Min.min 0xFFFFFFFF ((s.rd (Reg.suitStatDone t)).toNat + 1))) ∧
    (s.regOn (Reg.suitCtrl t) = true → s.suitLive t i = true → Answers (.suitCtrlCancel t i) s (fun u =>
      u.suitState t i = suitCancelled ∧ u.suit t i = none ∧ u.pocket = s.pocket))

/-- R277, R334: SUIT, SUCAN, SUWAIT and SUSTAT. -/
def Obligations.SuitInstructions : Prop :=
  ∀ (s : State) (t : TileId) (k : SlotId) (w : Word), s.runs t k w → opOf w = 0x38 →
    let i := (s.creg t k (raOf w)).toNat % 4
    (fnOf w = 0 → (s.task t k).suit = none → s.storesWait t k = false → ∀ j, s.freeSuit t = some j →
      Answers (.suit t k) s (fun u => u.suitState t j = suitWaiting ∧ (u.task t k).suit = some (j, (s.tile t).suitSeq) ∧
        u.taskState t k = taskWaiting ∧ u.pocket = s.pocket ∧ ∃ x, u.suit t j = some x ∧ x.task = k.val ∧
          x.opOff = (s.creg t k (raOf w)).toNat ∧ x.tplIdx = (s.creg t k (rbOf w)).toNat % 32 ∧ x.checked = false)) ∧
    (fnOf w = 1 → rdOf w = 0 → rbOf w = 0 → s.suitLive t i = true → s.suitTask t i = k.val → s.pc t k < 4095 →
      s.suitSlots t → Answers (.sucan t k) s (fun u => u.suitState t i = suitCancelled ∧ u.suit t i = none ∧
        u.pc t k = s.pc t k + 1 ∧ u.pocket = s.pocket)) ∧
    (fnOf w = 1 → rdOf w = 0 → rbOf w = 0 → s.suitLive t i = true → s.suitTask t i ≠ k.val →
      Answers (.sucan t k) s (fun u => u.taskState t k = taskAborted)) ∧
    (fnOf w = 2 → rbOf w = 0 → s.suitLive t i = false → s.writesRd (.suwait t k) t k w (s.rd (Reg.suitStatus t i))) ∧
    (fnOf w = 2 → rbOf w = 0 → s.suitLive t i = true → Answers (.suwait t k) s (fun u => s.waitsIn u t k 10)) ∧
    (fnOf w = 3 → rbOf w = 0 → s.writesRd (.sustat t k) t k w (s.rd (Reg.suitStatus t i)))

/-! ## The Placket unit (spec 08) -/

namespace Sys2Proof.Machine

/-- The register words in which queue `q` of tile `t` shows itself (R270). -/
def queueWords (t q : Nat) : List Nat :=
  [Reg.placketQStatus t q, Reg.placketQCredits t q, Reg.placketQHeadlen t q, Reg.placketStatus t]

/-- Queue `q` of tile `t` holds `x`. The frame: every other queue, memory, every other tile and every register word but
those of the queue and `as` are unchanged. -/
def State.queueNow (s u : State) (t q : Nat) (x : Queue) (as : List Nat) : Prop :=
  u.queue t q = x ∧ (∀ j, j ≠ q → u.queue t j = s.queue t j) ∧ s.onlyTile u t (queueWords t q ++ as)

/-- The queue accepts operations: no cancellation is under way or asked for. -/
def State.queueOpen (s : State) (t q : Nat) : Prop := s.qCancelling t q = false ∧ (s.queue t q).cancelReq = false

/-- The words that an instruction of task `k` changes as it completes or waits. -/
def cuffWords (t k : Nat) : List Nat := [Reg.cuffTaskStatus t k, Reg.cuffStatus t, Reg.cuffStatInstr t]

/-- `n` slots of the INBOUND ring have been released: HEAD moves on, FILLED falls, TAIL stands (R242). -/
def State.released (s u : State) (t q n : Nat) (as : List Nat) : Prop :=
  u.qHead t q = (s.qHead t q + n) % s.qSlots t q ∧ u.qFilled t q = s.qFilled t q - n ∧ u.qTail t q = s.qTail t q ∧
  s.queueNow u t q { s.queue t q with slotLens := (s.queue t q).slotLens.drop n } as

/-- `n` slots of the OUTBOUND ring have been committed: TAIL moves on, FILLED rises, HEAD stands (R243). -/
def State.committed (s u : State) (t q n : Nat) (as : List Nat) : Prop :=
  u.qTail t q = (s.qTail t q + n) % s.qSlots t q ∧ u.qFilled t q = s.qFilled t q + n ∧ u.qHead t q = s.qHead t q ∧
  s.queueNow u t q (s.queue t q) as

/-- The task has gone on with the next word. -/
def State.nextWord (s u : State) (t k : Nat) : Prop := u.taskState t k = taskRunning ∧ u.pc t k = s.pc t k + 1

end Sys2Proof.Machine

/-- R237, R242-R244, R264, R266: PLACKET_Q_CTRL releases slots of an INBOUND ring, commits slots of an OUTBOUND ring and
cancels a queue, whoever writes it but a task outside the owner slot, which aborts with ILLEGAL_INSTRUCTION. -/
def Obligations.QueueControlWrites : Prop :=
  ∀ (s : State) (t : TileId) (q : QueueId) (n : Nat) (r : Requester), s.regOn (Reg.placketQCtrl t q) = true → 0 < n → n < 32 →
    1 ≤ s.qSlots t q → s.qSlots t q ≤ 16 → s.queueOpen t q →
    ((∀ t' k, r = .task t' k → k.val = s.qOwner t q) →
      (s.qMode t q = 1 → n ≤ s.qFilled t q → Answers (.placketQCtrlRelease t q n r) s (fun u => s.released u t q n [])) ∧
      (s.qMode t q = 2 → n ≤ s.qCredits t q → Answers (.placketQCtrlCommit t q n r) s (fun u => s.committed u t q n []))) ∧
    (∀ t' k, r = .task t' k → k.val ≠ s.qOwner t q → s.taskOver t k = false →
      Answers (.placketQCtrlRelease t q n r) s (fun u => u.taskState t k = taskAborted) ∧
      Answers (.placketQCtrlCommit t q n r) s (fun u => u.taskState t k = taskAborted)) ∧
    Answers (.placketQCtrlCancel t q) s (fun u => s.queueNow u t q { s.queue t q with cancelReq := true } [])

/-- R237, R242-R244, R254, R264, R334: the Cuff instructions on queues. A full FIFO makes QISSUE wait, an underflow of a
ring or a foreign queue aborts the task. -/
def Obligations.QueueInstructions : Prop :=
  ∀ (s : State) (t : TileId) (k : SlotId) (w : Word), s.runs t k w → opOf w = 0x38 → s.pc t k < 4095 →
    let a := (s.creg t k (raOf w)).toNat
    let b := (s.creg t k (rbOf w)).toNat
    (fnOf w = 0x10 → rdOf w = 0 → ∀ off q, q = b % 16 → s.storesWait t k = false → a % 128 = 0 →
      a + 128 ≤ (s.rd (Reg.pocketSlotBound t k)).toNat → off = (s.rd (Reg.pocketSlotBase t k)).toNat + a →
      s.pocketOpen t off 128 → s.pocketClean t off 128 → s.queueOpen t q → s.sbMode t = false →
      let d : Desc := { bytes := mread s.pocket (pkey t off) 128, suit := none, spill := false, entries := [] }
      ((s.queue t q).fifo.length < 4 → (s.count (Reg.cuffStatInstr t) 1).descCheck t q k d = none →
        Answers (.qissue t k) s (fun u => s.nextWord u t k ∧ u.pocket = s.pocket ∧
          u.queue t q = { s.queue t q with fifo := (s.queue t q).fifo ++ [d] })) ∧
      (4 ≤ (s.queue t q).fifo.length → Answers (.qissue t k) s (fun u => s.waitsIn u t k 2))) ∧
    (fnOf w = 0x11 → rdOf w = 0 → ∀ q, q = a % 16 → s.queueOpen t q → 1 ≤ s.qSlots t q → s.qSlots t q ≤ 16 →
      (s.qOwner t q = k.val → s.qMode t q = 1 → b % 32 ≤ s.qFilled t q →
        Answers (.qrel t k) s (fun u => s.nextWord u t k ∧ s.released u t q (b % 32) (cuffWords t k))) ∧
      (s.qOwner t q ≠ k.val ∨ s.qMode t q ≠ 1 ∨ s.qFilled t q < b % 32 →
        Answers (.qrel t k) s (fun u => u.taskState t k = taskAborted))) ∧
    (fnOf w = 0x12 → rdOf w = 0 → ∀ q, q = a % 16 → s.queueOpen t q → 1 ≤ s.qSlots t q → s.qSlots t q ≤ 16 →
      (s.qOwner t q = k.val → s.qMode t q = 2 → b % 32 ≤ s.qCredits t q →
        Answers (.qcommit t k) s (fun u => s.nextWord u t k ∧ s.committed u t q (b % 32) (cuffWords t k))) ∧
      (s.qOwner t q ≠ k.val ∨ s.qMode t q ≠ 2 ∨ s.qCredits t q < b % 32 →
        Answers (.qcommit t k) s (fun u => u.taskState t k = taskAborted))) ∧
    (fnOf w = 0x13 → rdOf w = 0 → rbOf w = 0 → ∀ q, q = a % 16 → s.queueOpen t q →
      (s.qOwner t q = k.val → Answers (.qcancel t k) s (fun u => s.nextWord u t k ∧
        s.queueNow u t q { s.queue t q with cancelReq := true } (cuffWords t k))) ∧
      (s.qOwner t q ≠ k.val → Answers (.qcancel t k) s (fun u => u.taskState t k = taskAborted))) ∧
    (fnOf w = 0x14 → rbOf w = 0 → s.writesRd (.qcred t k) t k w (s.rd (Reg.placketQCredits t (a % 16)))) ∧
    (fnOf w = 0x15 → let met := (b = 0 ∧ s.qEmpty t (a % 16) = true) ∨ (b = 1 ∧ 0 < s.qFilled t (a % 16)) ∨
        (b = 2 ∧ 0 < s.qCredits t (a % 16))
      (met → s.writesRd (.qwait t k) t k w (s.rd (Reg.placketQHeadlen t (a % 16)))) ∧
      (b ≤ 2 → ¬ met → Answers (.qwait t k) s (fun u => s.waitsIn u t k 10)) ∧
      (2 < b → Answers (.qwait t k) s (fun u => u.taskState t k = taskAborted)))

/-- R239, R240, R246, R251, R256, R259: a descriptor at the head of the FIFO starts, with a generator context where its
addresses are generated; a transfer between memories of the tile is issued, its bytes enter the merge buffer, the
buffer is flushed, and the write lands in the Pocket. -/
def Obligations.DescriptorMovesData : Prop :=
  ∀ (s : State) (t : TileId) (q : QueueId), s.queueOpen t q →
    let x := s.queue t q
    (∀ (d : Desc) (rest : List Desc), x.fifo = d :: rest → x.run = none → d.fence = false → s.inPlace t q d = false →
      s.sbMode t = false →
      let first := if s.qMode t q = 1 then s.qTail t q else s.qHead t q
      let r : Run := ⟨d, first, 0, none, [], false, false, []⟩
      (d.agp = false → d.total ≠ 0 → Answers (.descriptorStart t q) s (fun u =>
        s.queueNow u t q { x with fifo := rest, run := some r } [])) ∧
      (d.agp = true → ∀ i, i < 4 → s.freeCtxOf t = some i → Answers (.descriptorStart t q) s (fun u =>
        u.queue t q = { x with fifo := rest, run := some { r with ctx := some i } } ∧ u.ctx t i = some (s.newCtx t q d) ∧
        u.bit (Reg.placketStatus t) (16 + i) = true ∧ s.onlyTile u t (queueWords t q)))) ∧
    (∀ r : Run, x.run = some r → s.qMode t q = 0 → s.srcGlob t q r.desc = false → s.dstGlob t q r.desc = false →
      (∀ m ms, transferPrefix r.desc.esize r.desc.dsize (s.nextMoves t q r) = m :: ms → x.xfers.length < s.qLimit t q →
        r.desc.agp = false → r.desc.pair = false →
        (∀ v ∈ m :: ms, (s.slotPhys t (s.qOwner t q) v.src r.desc.esize).isSome ∧
          (s.slotPhys t (s.qOwner t q) v.dst r.desc.dsize).isSome) →
        let p := r.pos + (ms.length + 1)
        Answers (.transferIssue t q) s (fun u => ∃ f : Xfer, f.moves = m :: ms ∧ f.pos = r.pos ∧ f.read = false ∧
          f.remote = none ∧ u.pocket = s.pocket ∧ u.queue t q =
            { x with xfers := x.xfers ++ [f], run := some { r with pos := p, ended := decide (p = r.desc.total) } })) ∧
      (∀ (f : Xfer) (m : Move) (off : Nat), x.xfers.find? (fun f => !f.read) = some f → f.moves = [m] → f.slot = none →
        r.staged = false → r.desc.accum = false → r.desc.spill = false → r.ended = false → r.desc.suit = none →
        x.merge = none → x.writes = [] → off = (s.rd (Reg.pocketSlotBase t (s.qOwner t q))).toNat + m.src →
        s.pocketOpen t off r.desc.esize → s.pocketClean t off r.desc.esize →
        ∀ host, Answers (.transferReadData t q host) s (fun u => ∃ b : MergeBuf, (u.queue t q).merge = some b ∧
          b.glob = false ∧ b.block = m.dst / 128 * 128 ∧ b.acc = none ∧ b.data = List.replicate (m.dst % 128) none ++
            (mread s.pocket (pkey t off) r.desc.esize).map some ++ List.replicate (128 - (m.dst % 128 + r.desc.esize)) none ∧
          (∀ g, g ∈ (u.queue t q).xfers ↔ g ∈ x.xfers ∧ g.txn ≠ f.txn) ∧ u.pocket = s.pocket))) ∧
    (∀ b : MergeBuf, x.merge = some b → Answers (.mergeBufferFlush t q) s (fun u => (u.queue t q).merge = none ∧
      u.pocket = s.pocket ∧ ∃ m, (u.queue t q).writes.getLast? = some m ∧ m.data = b.data ∧ m.block = b.block ∧
        (s.isRemote b.glob b.block = false → m = b))) ∧
    (∀ (m : MergeBuf) (o oLo off : Nat) (bs : List Byte), x.writes.find? (fun m => !s.isRemote m.glob m.block) = some m →
      m.glob = false → m.acc = none → m.span = (o, oLo, bs.map some) → s.qMode t q = 0 →
      off = (s.rd (Reg.pocketSlotBase t (s.qOwner t q))).toNat + o → s.pocketOpen t off bs.length →
      s.pocketClean t off bs.length →
      ∀ host, Answers (.writeLanded t q host) s (fun u => s.stored u t off bs ∧ m ∉ (u.queue t q).writes ∧
        (u.rd (Reg.placketStatWr t)).toNat = Min.min 0xFFFFFFFF ((s.rd (Reg.placketStatWr t)).toNat + 1)))

/-- R226, R257, R258, R264, R360, R369: a cancellation is acknowledged with the FIFO, the running descriptor and the ring
emptied, and ends when nothing is outstanding; an acknowledgement lands a remote write, a refusal aborts the owner
task. A remote ACCUMULATE of one element adds the scaled source to a BF16 or FP16 element of the Pocket, rounded to
nearest even, and to no other byte. -/
def Obligations.QueueEndsAndRemoteAnswers : Prop :=
  (∀ (s : State) (t : TileId) (q : QueueId),
    let x := s.queue t q
    (x.cancelReq = true → Answers (.queueCancelAck t q) s (fun u => u.qCancelling t q = true ∧ (u.queue t q).fifo = [] ∧
      (u.queue t q).run = none ∧ (u.queue t q).merge = none ∧ (u.queue t q).fill = [] ∧ (u.queue t q).slotLens = [] ∧
      (u.queue t q).grants = [] ∧ (u.queue t q).cancelReq = false ∧ u.qHead t q = 0 ∧ u.qTail t q = 0 ∧
      u.qFilled t q = 0 ∧ u.pocket = s.pocket)) ∧
    (s.qCancelling t q = true → x.xfers = [] → x.writes = [] → x.merge = none →
      Answers (.queueCancelDone t q) s (fun u => u.qCancelling t q = false ∧ u.queue t q = x ∧ u.pocket = s.pocket)) ∧
    (∀ (p : Packet) (rest : List Packet) (w : MergeBuf), takeReply t q 0x12 (fun _ => true) s.answers = some (p, rest) →
      x.writes = [w] → w.sent = some p.txn → w.opening = false → s.qMode t q = 0 →
      Answers (.remoteAcknowledge t q) s (fun u => u.answers = rest ∧ (u.queue t q).writes = [] ∧
        (∀ f, f ∈ (u.queue t q).xfers ↔ f ∈ x.xfers ∧ f.txn ∉ w.txns) ∧ u.pocket = s.pocket)) ∧
    (∀ (p : Packet) (rest : List Packet), takeReply t q 0x13 (fun p => p.aux % 256 != 0x0D) s.answers = some (p, rest) →
      (x.xfers.any (fun f => f.txn == p.txn) = true ∨ x.writes.any (fun w => w.sent == some p.txn) = true) →
      s.qCancelling t q = false → s.taskOver t (s.qOwner t q) = false →
      Answers (.refusalAnswer t q) s (fun u => u.answers = rest ∧ u.taskState t (s.qOwner t q) = taskAborted ∧
        u.pocket = s.pocket))) ∧
  (∀ (s : State) (t : TileId) (p : Packet) (w : Nat) (rest : List (Packet × Nat)) (bs : List Byte) (f : Fmt),
    (s.tile t).inbound = (p, w) :: rest → p.kind = 3 → p.data = bs.map some → bs.length = tySize (accSrcTy p.aux) → bs ≠ [] →
    (accDstTy p.aux = tyFP16 ∧ f = fmtFP16 ∨ accDstTy p.aux = tyBF16 ∧ f = fmtBF16) → p.off % 2 = 0 →
    s.pocketOpen t p.off 2 → s.pocketClean t p.off 2 →
    let e := s.fixedExp t (bitsOf p.aux 11 5)
    let v := (tyDecode (accSrcTy p.aux) (leNat bs)).scale (signedOf (bitsOf p.aux 16 8) 8 - e)
    let old := mreadNat s.pocket (pkey t p.off) 2
    Answers (.remoteAccumulate t) s (fun u => (u.tile t).inbound = rest ∧
      s.stored u t p.off (leBytes 2 (f.encode (f.round none ((f.decode old).add v)).1)) ∧
      (u.rd (Reg.placketStatRemoteIn t)).toNat = Min.min 0xFFFFFFFF ((s.rd (Reg.placketStatRemoteIn t)).toNat + 1)))

/-- R287, R288: once the suit has drained, its post descriptor joins the FIFO of QUEUE_POST. -/
def Obligations.SuitPosts : Prop :=
  ∀ (s : State) (t : TileId) (i : Nat) (x : Suit) (off : Nat), s.suitSlots t →
    (s.runningSuits t).find? (fun p => p.2.post && !p.2.run.posted) = some (i, x) → x.drained = true →
    let q := x.queuePost
    s.queueOpen t q → (s.queue t q).fifo.length < 4 → s.slotPhys t x.task x.postDesc 128 = some off →
    s.pocketOpen t off 128 → s.pocketClean t off 128 →
    let d : Desc := { bytes := mread s.pocket (pkey t off) 128, suit := some i, spill := false, entries := [] }
    s.descCheck t q x.task d = none →
    Answers (.storePost t) s (fun u => u.suit t i = some { x with run := { x.run with posted := true } } ∧
      s.queueNow u t q { s.queue t q with fifo := (s.queue t q).fifo ++ [d] } (suitWords t))

/-! ## Address-generating programs (spec 08, R259-R263) -/

namespace Sys2Proof.Machine

/-- The next instruction of generator context `x` is `w`. -/
def State.agpAt (s : State) (t x : Nat) (c : AgpCtx) (w : Word) : Prop :=
  s.ctx t x = some c ∧ c.prog[c.pc]? = some w ∧ agpBad w = false ∧ c.queue < 16 ∧ (s.queue t c.queue).cancelReq = false

/-- The context is now `c`; the instruction has been counted. The frame: every other context, every queue, memory and
every register word but the counters are unchanged. -/
def State.agpNow (s u : State) (t x : Nat) (c : AgpCtx) : Prop :=
  u.ctx t x = some c ∧ (∀ j, j ≠ x → u.ctx t j = s.ctx t j) ∧ (u.tile t).queues = (s.tile t).queues ∧
  (u.rd (Reg.placketStatAgpInstr t)).toNat = Min.min 0xFFFFFFFF ((s.rd (Reg.placketStatAgpInstr t)).toNat + 1) ∧
  s.onlyTile u t [Reg.placketStatAgpInstr t, Reg.placketStatRd t]

/-- The context with RD holding `v`, at the next instruction; g0 discards the value (R260). -/
def AgpCtx.after (c : AgpCtx) (w v : Word) : AgpCtx :=
  { c with regs := if agpRd w = 0 then c.regs else c.regs.set (agpRd w) v, pc := c.pc + 1 }

/-- The instruction writes RD with `v`. -/
def State.agpSets (s : State) (cmd : Instr) (t x : Nat) (c : AgpCtx) (w v : Word) : Prop :=
  Answers cmd s (fun u => s.agpNow u t x (c.after w v))

/-- A branch with condition `p`: to the instruction that is IMM away, or to the next; a target outside the program
aborts the owner task (R262). -/
def State.agpJumps (s : State) (cmd : Instr) (t x : Nat) (c : AgpCtx) (w : Word) (p : Prop) : Prop :=
  let dest : Int := c.pc + (w.setWidth 16).toInt
  (¬ p → Answers cmd s (fun u => s.agpNow u t x { c with pc := c.pc + 1 })) ∧
  (p → 0 ≤ dest → dest < c.prog.length → Answers cmd s (fun u => s.agpNow u t x { c with pc := dest.toNat })) ∧
  (p → (dest < 0 ∨ c.prog.length ≤ dest) → s.taskOver t (s.qOwner t c.queue) = false →
    Answers cmd s (fun u => u.taskState t (s.qOwner t c.queue) = taskAborted))

end Sys2Proof.Machine

/-- R261, R262: the arithmetic instructions and branches of an address-generating program. -/
def Obligations.AgpArithmeticAndBranches : Prop :=
  ∀ (s : State) (t : TileId) (x : Fin 4) (c : AgpCtx) (w : Word), s.agpAt t x c w →
    let a := if agpRa w = 0 then 0 else c.regs.getD (agpRa w) 0
    let b := if agpRb w = 0 then 0 else c.regs.getD (agpRb w) 0
    let simm := BitVec.ofInt 32 (w.setWidth 16).toInt
    let imm := fieldOf w 0 16
    (agpOpc w = 0x01 → s.agpSets (.agpAdd t x) t x c w (a + b)) ∧
    (agpOpc w = 0x02 → s.agpSets (.agpSub t x) t x c w (a - b)) ∧
    (agpOpc w = 0x03 → s.agpSets (.agpAddi t x) t x c w (a + simm)) ∧
    (agpOpc w = 0x04 → s.agpSets (.agpMuli t x) t x c w (a * simm)) ∧
    (agpOpc w = 0x05 → s.agpSets (.agpShli t x) t x c w (a <<< (imm % 32))) ∧
    (agpOpc w = 0x06 → s.agpSets (.agpShri t x) t x c w (a >>> (imm % 32))) ∧
    (agpOpc w = 0x07 → s.agpSets (.agpAndi t x) t x c w (a &&& BitVec.ofNat 32 imm)) ∧
    (agpOpc w = 0x08 → s.agpSets (.agpLui t x) t x c w (BitVec.ofNat 32 (imm * 65536 + a.toNat % 65536))) ∧
    (agpOpc w = 0x09 → s.agpSets (.agpPopc t x) t x c w
      (BitVec.ofNat 32 ((List.range 16).filter (fun i => a.getLsbD i)).length)) ∧
    (agpOpc w = 0x20 → s.agpJumps (.agpBeq t x) t x c w (a = b)) ∧
    (agpOpc w = 0x21 → s.agpJumps (.agpBne t x) t x c w (a ≠ b)) ∧
    (agpOpc w = 0x22 → s.agpJumps (.agpBlt t x) t x c w (a.toInt < b.toInt)) ∧
    (agpOpc w = 0x23 → s.agpJumps (.agpBge t x) t x c w (b.toInt ≤ a.toInt)) ∧
    (agpOpc w = 0x24 → s.agpJumps (.agpJmp t x) t x c w True)

/-- R260-R262: index loads through the lines, the moves that EMIT hands over, the end of the stream, and the abort on a
reserved instruction or past the last one. -/
def Obligations.AgpLoadsAndEmits : Prop :=
  ∀ (s : State) (t : TileId) (x : Fin 4) (c : AgpCtx) (w : Word),
    let q := c.queue
    let a := if agpRa w = 0 then 0 else c.regs.getD (agpRa w) 0
    let b := if agpRb w = 0 then 0 else c.regs.getD (agpRb w) 0
    (s.agpAt t x c w → agpOpc w = 0x10 → ∀ off line, s.slotPhys t (s.qOwner t q) (c.bases.getD (agpRb w) 0 + 2 * a.toNat) 2 = some off →
      off % 2 = 0 → line = off / 128 * 128 →
      (c.lines.getD (agpRb w) none = none → s.pocketOpen t line 128 → s.pocketClean t line 128 →
        Answers (.agpLd16 t x) s (fun u => s.agpNow u t x
          (({ c with lines := c.lines.set (agpRb w) (some (line, mread s.pocket (pkey t line) 128)) } : AgpCtx).after w
            (BitVec.ofNat 32 (mreadNat s.pocket (pkey t off) 2))))) ∧
      (∀ bs, c.lines.getD (agpRb w) none = some (line, bs) →
        s.agpSets (.agpLd16 t x) t x c w (BitVec.ofNat 32 (leNat ((bs.drop (off - line)).take 2))))) ∧
    (s.agpAt t x c w → agpOpc w = 0x11 → ∀ o0 o1 b0 b1,
      s.slotPhys t (s.qOwner t q) (c.bases.getD 0 0 + 2 * a.toNat) 2 = some o0 →
      s.slotPhys t (s.qOwner t q) (c.bases.getD 1 0 + 2 * a.toNat) 2 = some o1 →
      c.lines.getD 0 none = some (o0 / 128 * 128, b0) → c.lines.getD 1 none = some (o1 / 128 * 128, b1) →
      s.agpSets (.agpLdp t x) t x c w (BitVec.ofNat 32
        (leNat ((b0.drop (o0 % 128)).take 2) * 65536 + leNat ((b1.drop (o1 % 128)).take 2)))) ∧
    (s.agpAt t x c w → agpOpc w = 0x18 → ∀ r, (s.queue t q).run = some r → r.emitted = [] → s.qMode t q = 0 →
      (s.queue t q).xfers.length < s.qLimit t q → r.desc.pair = false →
      Answers (.agpEmit t x) s (fun u => u.ctx t x = some { c with pc := c.pc + 1 } ∧ ∃ ms : List Move,
        u.queue t q = { s.queue t q with run := some { r with emitted := ms } } ∧ ms.length = fieldOf w 0 16 ∧
        (∀ j, j < fieldOf w 0 16 → ∃ m, ms[j]? = some m ∧ m.dstLo = 0 ∧
          (m.src : Int) = ((r.desc.src : Int) + r.desc.esize * (a.toInt + j)) % (2 ^ 64 : Nat) ∧
          (m.dst : Int) = ((r.desc.dst : Int) + r.desc.dsize * (b.toInt + j)) % (2 ^ 64 : Nat)) ∧
        u.pocket = s.pocket)) ∧
    (s.agpAt t x c w → agpOpc w = 0x3F → ∀ r, (s.queue t q).run = some r → r.desc.agp = true → r.ctx = some x.val →
      (r.emitted ≠ [] → Answers (.agpEnd t x) s (fun u =>
        u.queue t q = { s.queue t q with run := some { r with ended := true } } ∧ u.pocket = s.pocket)) ∧
      (r.emitted = [] → r.staging = [] → (s.queue t q).xfers = [] → (s.queue t q).merge = none →
        (s.queue t q).writes = [] → s.qMode t q = 0 → Answers (.agpEnd t x) s (fun u => (u.queue t q).run = none ∧
          u.ctx t x = none ∧ u.bit (Reg.placketStatus t) (16 + x) = false ∧ u.pocket = s.pocket))) ∧
    (s.ctx t x = some c → (c.prog[c.pc]? = none ∨ ∃ v, c.prog[c.pc]? = some v ∧ agpBad v = true) →
      s.taskOver t (s.qOwner t q) = false →
      Answers (.agpReservedOpcode t x) s (fun u => u.taskState t (s.qOwner t q) = taskAborted ∧ u.pocket = s.pocket))

/-! ## Yokes and Shawl rings (spec 10) -/

namespace Sys2Proof.Machine

/-- Task `k` of tile `t` has taken piece `n` (here `p`): the five words of R303 stand in RD to RD + 4, its other
registers are unchanged, and it goes on. -/
def State.tookPiece (s u : State) (t k rd n : Nat) (p : Piece) : Prop :=
  u.creg t k rd = BitVec.ofNat 32 (0x80000000 + (if p.home = t then 0 else 0x40000000) + (if p.chain then 0x20000000 else 0) +
    p.part * 0x4000000 + p.partsLog2 * 0x1000000 + n * 0x800 + p.prev) ∧
  u.creg t k (rd + 1) = BitVec.ofNat 32 p.rowFirst ∧ u.creg t k (rd + 2) = BitVec.ofNat 32 p.rows ∧
  u.creg t k (rd + 3) = BitVec.ofNat 32 p.kLo ∧ u.creg t k (rd + 4) = BitVec.ofNat 32 p.kHi ∧
  (∀ i, i < rd ∨ rd + 4 < i → i < 32 → u.creg t k i = s.creg t k i) ∧ s.nextWord u t k ∧ u.pocket = s.pocket

/-- The instance with piece `n` held by the task and in no list. -/
def Inst.handedOut (y : Inst) (t k n : Nat) : Prop :=
  (∃ p, tfind y.pieces n = some p ∧ p.state = .held t k ∧ p.reserved = none) ∧ ∀ l ∈ y.lists, n ∉ l.2

end Sys2Proof.Machine

/-- R298, R302-R307, R319, R320: YSTART opens an instance once, YTAKE hands out a piece, answers VALID = 0 or waits, YDONE
frees the next part of a chain for the tile and closes the instance with its last piece, YRET gives a piece back. A
task of a tile outside the ensemble aborts. -/
def Obligations.YokeInstructions : Prop :=
  ∀ (s : State) (t : TileId) (k : SlotId) (w : Word) (q a : Nat), s.runs t k w → opOf w = 0x38 → s.pc t k < 4095 → rbOf w = 0 →
    s.partOf t = some q → a = (s.creg t k (raOf w)).toNat % 16 →
    (fnOf w = 0x20 → rdOf w = 0 →
      (s.isMember t q a = true → (s.inst q a).isSome → Answers (.ystart t k) s (fun u => s.nextWord u t k ∧ u.insts = s.insts)) ∧
      (s.isMember t q a = true → s.inst q a = none → Answers (.ystart t k) s (fun u => s.nextWord u t k ∧ ∃ x,
        u.inst q a = some x ∧ x.members = s.ensMembers (t / 64) q (s.asgEns (t / 64) q a) ∧ x.lead = x.members.headD 0 / 64 ∧
        x.starter = (t.val, k.val) ∧ x.computing = true ∧ x.pieces = [] ∧ x.waiting = [] ∧
        u.bit (Reg.yokeStatus x.lead) 31 = true)) ∧
      (s.isMember t q a = false → Answers (.ystart t k) s (fun u => u.taskState t k = taskAborted ∧ u.insts = s.insts))) ∧
    (fnOf w = 0x21 → 1 ≤ rdOf w → rdOf w ≤ 27 → s.isMember t q a = true → ∀ x, s.inst q a = some x → x.holds t k = false →
      (∀ n p, x.computing = false → x.pick t = some n → tfind x.pieces n = some p → Answers (.ytake t k) s (fun u =>
        s.tookPiece u t k (rdOf w) n p ∧ ∃ y, u.inst q a = some y ∧ y.handedOut t k n)) ∧
      (x.computing = false → x.pick t = none → x.allTaken = true → Answers (.ytake t k) s (fun u =>
        (u.creg t k (rdOf w)).getLsbD 31 = false ∧ s.nextWord u t k)) ∧
      (x.computing = true ∨ (x.pick t = none ∧ x.allTaken = false) → Answers (.ytake t k) s (fun u =>
        u.taskState t k = taskWaiting ∧ u.fld (Reg.cuffTaskStatus t k) 25 4 = 5 ∧ u.pc t k = s.pc t k ∧
        ∃ y, u.inst q a = some y ∧ (t.val, k.val) ∈ y.waiting ∧ y.pieces = x.pieces))) ∧
    (∀ (i : Nat) (x : Inst) (p : Piece) (n : Nat), n = (s.creg t k (raOf w)).toNat % 8192 →
      s.heldInst q t k n = some (i, x) → tfind x.pieces n = some p → rdOf w = 0 →
      let y : Inst := { x with pieces := tset x.pieces n { p with state := .done } }
      (fnOf w = 0x22 → tfind x.pieces (n + 1) = none ∨ p.chain = false →
        (y.openPieces = 0 → Answers (.ydone t k) s (fun u => s.nextWord u t k ∧ u.inst q i = none)) ∧
        (y.openPieces ≠ 0 → Answers (.ydone t k) s (fun u => s.nextWord u t k ∧ u.inst q i = some y))) ∧
      (fnOf w = 0x22 → ∀ p', tfind x.pieces (n + 1) = some p' → p.chain = true → p'.chain = true → p'.state = .chained →
        p'.part = p.part + 1 → Answers (.ydone t k) s (fun u => s.nextWord u t k ∧ ∃ z, u.inst q i = some z ∧
          tfind z.pieces (n + 1) = some { p' with state := .ready, prev := t.val, reserved := some t.val } ∧
          (tget z.lists [] t).head? = some (n + 1))) ∧
      (fnOf w = 0x23 → Answers (.yret t k) s (fun u => s.nextWord u t k ∧ ∃ z, u.inst q i = some z ∧
        (p.chain = false ∨ p.part = 0 → tfind z.pieces n = some { p with state := .ready, reserved := none } ∧
          (tget z.lists [] p.home).head? = some n) ∧
        (p.chain = true ∧ p.part ≠ 0 → tfind z.pieces n = some { p with state := .ready, reserved := some p.prev } ∧
          (tget z.lists [] p.prev).head? = some n))))

/-- R298-R302, R305, R306: the cut gives every piece to its home tile's list; the first waiting take that can be served
is served; a reservation ends. -/
def Obligations.YokeEvents : Prop :=
  ∀ (s : State) (q : PartId) (a : Fin 16) (x : Inst), s.inst q a = some x →
    (∀ cs, x.computing = true → x.lead < 4 → let s1 := s.setBit (Reg.yokeStatus x.lead) 31 false
      s1.workCounts x.lead q a = .ok cs → let ps := ((s1.cutArgs x.lead q a).pieces cs).1
      Answers (.yokeCutDone q a) s (fun u => ∃ y, u.inst q a = some y ∧ y.computing = false ∧ y.pieces = ps ∧
        (∀ m ∈ x.members, ∀ n, n ∈ tget y.lists [] m ↔ ∃ p, (n, p) ∈ ps ∧ p.home = m) ∧
        u.bit (Reg.yokeStatus x.lead) 31 = false ∧
        s.onlyRegs { u with insts := s.insts } [Reg.yokeStatus x.lead, Reg.yokeStatSplit x.lead])) ∧
    (∀ t k ws n p, sortTakes x.waiting = (t, k) :: ws → t < 256 → k < 4 → s.taskState t k = taskWaiting → s.pc t k < 4095 →
      1 ≤ rdOf (s.fetch t k) → rdOf (s.fetch t k) ≤ 27 → x.computing = false → x.pick t = some n → tfind x.pieces n = some p →
      Answers (.yokeTakeServed q a) s (fun u => s.tookPiece u t k (rdOf (s.fetch t k)) n p ∧
        ∃ y, u.inst q a = some y ∧ y.handedOut t k n ∧ (t, k) ∉ y.waiting)) ∧
    (∀ n p, tfind x.pieces n = some p → Answers (.chainReservationExpire q a n) s (fun u =>
      u = { s with insts := u.insts } ∧ u.inst q a = some { x with pieces := tset x.pieces n { p with reserved := none } } ∧
      ∀ j b, (j, b) ≠ (q.val, a.val) → b < 16 → u.inst j b = s.inst j b))

/-- R312, R314, R317: SHBEG begins a revolution, SHREL releases the next segment and moves the turn on with its last,
SHQRY reads SHAWL_STATUS, SHWAIT waits for a segment; a task outside the ring's slot aborts. -/
def Obligations.ShawlInstructions : Prop :=
  ∀ (s : State) (t : TileId) (k : SlotId) (w : Word), s.runs t k w → opOf w = 0x38 → s.pc t k < 4095 → rbOf w = 0 →
    let st := Reg.shawlStatus (t / 64) (t % 64)
    let pr := Reg.shawlProgress (t / 64) (t % 64)
    let j := (s.creg t k (raOf w)).toNat % 512
    let x := s.shawl t
    (s.shawlSlot t ≠ some k.val →
      (fnOf w = 0x30 → rdOf w = 0 → raOf w = 0 → Answers (.shbeg t k) s (fun u => u.taskState t k = taskAborted)) ∧
      (fnOf w = 0x31 → rdOf w = 0 → Answers (.shrel t k) s (fun u => u.taskState t k = taskAborted)) ∧
      (fnOf w = 0x32 → raOf w = 0 → Answers (.shqry t k) s (fun u => u.taskState t k = taskAborted)) ∧
      (fnOf w = 0x33 → rdOf w = 0 → Answers (.shwait t k) s (fun u => u.taskState t k = taskAborted))) ∧
    (s.shawlSlot t = some k.val →
      (fnOf w = 0x30 → rdOf w = 0 → raOf w = 0 → s.shawlActive t = false →
        (s.shF t = 0 → Answers (.shbeg t k) s (fun u => s.nextWord u t k ∧ u.rd st = BitVec.ofNat 32 (0x80000000 + 256 * 0x200) ∧
          u.rd pr = 0 ∧ u.shawl t = { Shawl.init with free := [256] } ∧ s.onlyTile u t (st :: pr :: cuffWords t k))) ∧
        (s.shF t ≠ 0 → s.qMode t (s.shQueue t) = 1 → s.qOwner t (s.shQueue t) = k.val → Answers (.shbeg t k) s (fun u =>
          u.taskState t k = taskAborted ∨ (s.nextWord u t k ∧ u.rd st = BitVec.ofNat 32 (0x80000000 + s.shNseg t * 0x200) ∧
            ∃ ds, ds ≠ [] ∧ (u.queue t (s.shQueue t)).fifo = (s.queue t (s.shQueue t)).fifo ++ ds)))) ∧
      (fnOf w = 0x31 → rdOf w = 0 → s.shawlActive t = true → x.ended = false → s.fld pr 9 9 = j →
        (j + 1 < s.shNseg t → Answers (.shrel t k) s (fun u => s.nextWord u t k ∧ u.fld pr 9 9 = j + 1 ∧
          u.shawl t = { x with sends := x.sends ++ [(s.shTurn t, j)] } ∧ u.rd st = s.rd st)) ∧
        (j + 1 = s.shNseg t → s.shTurn t + 1 = s.shRlen t → Answers (.shrel t k) s (fun u => s.nextWord u t k ∧
          u.shawl t = { x with sends := x.sends ++ [(s.shTurn t, j)], ended := true } ∧ u.shTurn t = 0 ∧
          u.fld st 9 9 = s.fld st 0 9 ∧ u.fld st 0 9 = 0 ∧ u.fld pr 9 9 = 0 ∧
          (u.rd (Reg.shawlStatTurns (t / 64) (t % 64))).toNat =
            Min.min 0xFFFFFFFF ((s.rd (Reg.shawlStatTurns (t / 64) (t % 64))).toNat + 1))) ∧
        (j + 1 = s.shNseg t → s.shTurn t + 1 < s.shRlen t → s.shF t = 0 → Answers (.shrel t k) s (fun u => s.nextWord u t k ∧
          u.shawl t = { x with sends := x.sends ++ [(s.shTurn t, j)] } ∧ u.shTurn t = s.shTurn t + 1 ∧
          u.fld st 9 9 = s.fld st 0 9 ∧ u.fld st 0 9 = 0 ∧ u.fld pr 9 9 = 0))) ∧
      (fnOf w = 0x31 → rdOf w = 0 → s.shawlActive t = true → x.ended = false → (s.fld pr 9 9 ≠ j ∨ s.shNseg t ≤ j) →
        Answers (.shrel t k) s (fun u => u.taskState t k = taskAborted)) ∧
      (fnOf w = 0x32 → raOf w = 0 → s.writesRd (.shqry t k) t k w (s.rd st)) ∧
      (fnOf w = 0x33 → rdOf w = 0 →
        (j < s.fld st 9 9 → Answers (.shwait t k) s (fun u => s.nextWord u t k ∧ s.onlyTile u t (cuffWords t k))) ∧
        (s.fld st 9 9 ≤ j → Answers (.shwait t k) s (fun u => s.waitsIn u t k 6))))

/-- R313, R314: the mover reads the oldest released segment out to the successor's free slot under a credit, and its own
slot is then free; a segment that arrives is stored in its slot and counted available for the turn it belongs to. -/
def Obligations.ShawlMoverSendsAndStores : Prop :=
  ∀ (s : State) (t : TileId),
    (∀ turn j rest e off, (s.shawl t).sends = (turn, j) :: rest → let n := s.shNseg t + 1
      let here := (j + n * 256 - turn) % n
      let there := (j + n * 256 - turn - 1) % n
      let v := s.shSucc t
      v ≠ t.val → (s.shawl v).free.contains there = true → s.creditFree v = some e → off = s.shSlotOff t here →
      s.pocketOpen t off (s.shG t) → s.pocketClean t off (s.shG t) →
      let g : Segment := ⟨turn, j, there, t, mread s.pocket (pkey t off) (s.shG t)⟩
      let x := s.shawl t
      let y := s.shawl v
      Answers (.shawlSend t) s (fun u =>
        u.shawl t = { x with sends := rest, free := x.free ++ [here], flying := x.flying + 1 } ∧
        u.shawl v = { y with free := y.free.filter (· != there), arriving := y.arriving ++ [g] } ∧
        (∃ g, tfind (u.tile v).grants e = some g ∧ g.off = s.shSlotOff v there ∧ g.len = s.shG t) ∧ u.pocket = s.pocket)) ∧
    (∀ g rest off, (s.shawl t).arriving = g :: rest → off = s.shSlotOff t g.slot → s.pocketOpen t off g.data.length →
      s.pocketClean t off g.data.length → let st := Reg.shawlStatus (t / 64) (t % 64)
      let lo := if (g.turn + 1) % s.shRlen t = s.shTurn t then 9 else 0
      s.fld st lo 9 < 511 →
      Answers (.shawlSegmentArrive t) s (fun u => s.stored u t off g.data ∧ (u.shawl t).arriving = rest ∧
        u.fld st lo 9 = s.fld st lo 9 + 1))

/-! ## Windows, credits, locks and arbitration (spec 12) -/

namespace Sys2Proof.Machine

/-- The request `p` has left the mesh and joined the admitted ones under window `w` and its epoch; it counts in
ADMITTED and WIN_STAT_ADMITTED (R367, R370). -/
def State.admitted (s u : State) (t w : Nat) (p : Packet) (rest : List Packet) : Prop :=
  u.net = rest ∧ u.tile t = { s.tile t with inbound := (s.tile t).inbound ++ [({ p with win := w, epoch := s.winEpoch t w }, w)] } ∧
  u.fld (Reg.winStatus t w) 16 8 = s.fld (Reg.winStatus t w) 16 8 + 1 ∧
  (u.rd (Reg.winStatAdmitted t)).toNat = Min.min 0xFFFFFFFF ((s.rd (Reg.winStatAdmitted t)).toNat + 1) ∧
  s.onlyTile { u with net := s.net } t [Reg.winStatus t w, Reg.winStatAdmitted t]

/-- The request has left the mesh and is answered with REFUSE and `code`; nothing of the tile has changed (R369). -/
def State.turnedAway (s u : State) (t : Nat) (p : Packet) (rest : List Packet) (code : Nat) : Prop :=
  u.net = rest ∧ u.tile t = s.tile t ∧ u.pocket = s.pocket ∧ ∃ a : Packet, a.kind = 0x13 ∧ a.aux = code ∧ a.txn = p.txn ∧
    a.dstTile = p.srcTile ∧ a.dstModule = p.srcModule ∧ (p.srcModule = s.moduleId → u.answers = s.answers ++ [a]) ∧
    (p.srcModule ≠ s.moduleId → u.fabOut = s.fabOut ++ [a])

/-- Window `w` can admit an opening access of this kind, partition and first byte (R367). -/
def State.winFits (s : State) (t w : Nat) (p : Packet) : Prop :=
  s.winState t w = 1 ∧ s.winMode t w = p.kind ∧ (s.winMask t w).testBit p.part = true ∧ s.winLo t w ≤ p.off ∧ p.off < s.winHi t w

/-- The Pocket admits every range of the request (R79, R88). -/
def State.rangesOpen (s : State) (t : Nat) (p : Packet) : Prop := ∀ r ∈ reqRanges p, s.pocketOpen t r.1 r.2

end Sys2Proof.Machine

/-- R364: OPEN opens a CLOSED window with bounds, a mode and a mask, and is refused with INVALID_WINDOW without them; CLOSE
moves the epoch on at once and leaves the window CLOSING until what it admitted has landed. -/
def Obligations.WindowsOpenAndClose : Prop :=
  ∀ (s : State) (t : TileId) (w : WinId) (r : Requester), s.regOn (Reg.winCtrl t w) = true →
    let ok := s.winLo t w < s.winHi t w ∧ s.winHi t w ≤ 0x400000 ∧ s.winMode t w ≠ 0 ∧ s.winMask t w ≠ 0
    (s.winState t w = 0 → ok → Answers (.winCtrlOpen t w r) s (fun u => u.winState t w = 1 ∧
      s.sameBits u (Reg.winStatus t w) (fun j => j < 30) ∧ s.onlyRegs u [Reg.winStatus t w])) ∧
    (s.winState t w = 0 → ¬ ok → Answers (.winCtrlOpen t w r) s (fun u => u.winState t w = 0 ∧
      ∀ t' k, r = .task t' k → s.taskOver t' k = false → u.taskState t' k = taskAborted)) ∧
    (s.winState t w ≠ 0 → exec (.winCtrlOpen t w r) s = .next s) ∧
    (s.winState t w = 1 → Answers (.winCtrlClose t w) s (fun u => u.winEpoch t w = (s.winEpoch t w + 1) % 65536 ∧
      u.winState t w = (if s.fld (Reg.winStatus t w) 16 8 = 0 then 0 else 2) ∧
      s.sameBits u (Reg.winStatus t w) (fun j => 16 ≤ j ∧ j < 30) ∧ s.onlyRegs u [Reg.winStatus t w])) ∧
    (s.winState t w ≠ 1 → exec (.winCtrlClose t w) s = .next s)

/-- R357, R367-R370: an opening access is admitted by the lowest window that fits, a tagged one by the window it names
under that window's present epoch; refusals are answered with INVALID_WINDOW, STALE_EPOCH or BOUND_VIOLATION. -/
def Obligations.RemoteAccessChecks : Prop :=
  ∀ (s : State) (t : TileId) (p : Packet) (rest : List Packet), takeFor t s.net = some (p, rest) →
    (p.tagged = false →
      (∀ w, w < 16 → s.winFits t w p → (∀ v, v < w → ¬ s.winFits t v p) →
        (s.winCovers t w p = true → s.rangesOpen t p → s.fld (Reg.winStatus t w) 16 8 < 255 →
          Answers (.openingAccess t .none) s (fun u => s.admitted u t w p rest)) ∧
        (s.winCovers t w p = false → Answers (.openingAccess t .none) s (fun u => s.turnedAway u t p rest 0x10))) ∧
      ((∀ v, v < 16 → ¬ s.winFits t v p) → Answers (.openingAccess t .none) s (fun u => s.turnedAway u t p rest 0x04 ∧
        (u.rd (Reg.winStatRefused t)).toNat = Min.min 0xFFFFFFFF ((s.rd (Reg.winStatRefused t)).toNat + 1))) ∧
      Answers (.openingAccess t .uncorrectable) s (fun u => s.turnedAway u t p rest 0x02 ∧ u.regs = s.regs)) ∧
    (p.tagged = true → p.win < 16 →
      let fits := s.winMode t p.win = p.kind ∧ (s.winMask t p.win).testBit p.part = true
      (p.epoch = s.winEpoch t p.win → fits → s.winCovers t p.win p = true → s.rangesOpen t p →
        s.fld (Reg.winStatus t p.win) 16 8 < 255 → Answers (.taggedAccess t .none) s (fun u => s.admitted u t p.win p rest)) ∧
      (p.epoch ≠ s.winEpoch t p.win → Answers (.taggedAccess t .none) s (fun u => s.turnedAway u t p rest 0x0F)) ∧
      (p.epoch = s.winEpoch t p.win → ¬ fits → Answers (.taggedAccess t .none) s (fun u => s.turnedAway u t p rest 0x04)) ∧
      (p.epoch = s.winEpoch t p.win → fits → s.winCovers t p.win p = false →
        Answers (.taggedAccess t .none) s (fun u => s.turnedAway u t p rest 0x10)))

/-- R373-R375: a privileged source in its scope gets a free grant entry or waits for one, writes only within what it
holds, ends its grant and gives the entry back. -/
def Obligations.CreditedChannel : Prop :=
  ∀ (s : State) (t : TileId) (o : Origin),
    (∀ off len, s.creditScope t o off len = true →
      (∀ e, s.creditFree t = some e → s.creditSlotFree t o off = true → (s.tile t).creditWait = [] →
        Answers (.creditGrantRequest t o off len) s (fun u => tfind (u.tile t).grants e = some ⟨o, off, len, 0, false⟩ ∧
          (u.rd (Reg.creditStatGrants t)).toNat = Min.min 0xFFFFFFFF ((s.rd (Reg.creditStatGrants t)).toNat + 1) ∧
          s.onlyTile u t [Reg.creditStatus t, Reg.creditStatGrants t])) ∧
      (s.creditFree t = none → Answers (.creditGrantRequest t o off len) s (fun u =>
        u.tile t = { s.tile t with creditWait := (s.tile t).creditWait ++ [⟨o, off, len⟩] } ∧ s.onlyTile u t []))) ∧
    (∀ off len, s.creditScope t o off len = false → o.req ≠ 0x20 → Answers (.creditGrantRequest t o off len) s (fun u =>
      u.tile t = s.tile t ∧ u.pocket = s.pocket ∧
      (u.rd (Reg.creditStatRefused t)).toNat = Min.min 0xFFFFFFFF ((s.rd (Reg.creditStatRefused t)).toNat + 1))) ∧
    (∀ (r : CreditReq) rest e, (s.tile t).creditWait = r :: rest → s.creditFree t = some e → s.creditSlotFree t r.src r.off = true →
      Answers (.creditGrant t) s (fun u => tfind (u.tile t).grants e = some ⟨r.src, r.off, r.len, 0, false⟩ ∧
        (u.tile t).creditWait = rest ∧ s.onlyTile u t [Reg.creditStatus t, Reg.creditStatGrants t])) ∧
    (∀ off (bs : List Byte), s.pocketOpen t off bs.length → s.pocketClean t off bs.length →
      (s.creditHeld t o off bs.length = true → Answers (.creditedWrite t o off (bs.map some)) s (fun u => s.stored u t off bs ∧
        (u.tile t).grants = (s.tile t).grants)) ∧
      (s.creditHeld t o off bs.length = false → o.req ≠ 0x20 → Answers (.creditedWrite t o off (bs.map some)) s (fun u =>
        u.pocket = s.pocket ∧ u.tile t = s.tile t ∧
        (u.rd (Reg.creditStatRefused t)).toNat = Min.min 0xFFFFFFFF ((s.rd (Reg.creditStatRefused t)).toNat + 1)))) ∧
    (∀ e g, (s.tile t).grants.find? (fun p => p.2.src == o && !p.2.ended) = some (e, g) →
      Answers (.creditEndMark t o) s (fun u => tfind (u.tile t).grants e = some { g with ended := true } ∧ s.onlyTile u t [])) ∧
    (∀ (e : Fin 8) (g : CreditGrant), tfind (s.tile t).grants e = some g →
      (g.ended = true → g.pending = 0 → Answers (.creditEntryFree t e) s (fun u => tfind (u.tile t).grants e = none ∧
        s.onlyTile u t [Reg.creditStatus t])) ∧
      (g.ended = false ∨ g.pending ≠ 0 → exec (.creditEntryFree t e) s = .next s))

namespace Sys2Proof.Machine

/-- Lock `l` is held by `v`. -/
def State.heldBy (s : State) (l : Nat) (v : LockUser) : Prop :=
  s.fld (lockReg l) 30 2 = 1 ∧ s.fld (lockReg l) 0 10 = lockOwner v ∧ s.bit (lockReg l) 16 = lockIsCollar v

/-- The lock count of a task (CUFF_TASK_STATUS.LOCKS). -/
def State.locksOf (s : State) (t k : Nat) : Nat := s.fld (Reg.cuffTaskStatus t k) 12 8

end Sys2Proof.Machine

/-- R376-R381: LKACQ takes a FREE or ORPHANED lock of the task's partition, waits for a held one and aborts on its own;
LKREL frees; a freed lock passes to its first waiter; a lease that expires and LOCK_CTRL turn a held lock ORPHANED. -/
def Obligations.LocksPassAndOrphan : Prop :=
  ∀ (s : State) (l : LockId),
    let usable (t : TileId) := s.bit (Reg.lockCfg (l / 32) (l % 32)) 31 = true ∧
      s.partOf t = some (s.fld (Reg.lockCfg (l / 32) (l % 32)) 0 3)
    (∀ (t : TileId) (k : SlotId) (w : Word), s.runs t k w → opOf w = 0x38 → rbOf w = 0 → s.pc t k < 4095 →
      l.val = (s.creg t k (raOf w)).toNat % 128 →
      let me := LockUser.task t k
      let grants (st : Word) := Answers (.lkacq (.task t k)) s (fun u => u.heldBy l me ∧ s.nextWord u t k ∧
        u.creg t k (rdOf w) = (if rdOf w = 0 then 0 else st) ∧ u.locksOf t k = Min.min 255 (s.locksOf t k + 1) ∧
        (u.rd (Reg.lockStatAcq (l / 32))).toNat = Min.min 0xFFFFFFFF ((s.rd (Reg.lockStatAcq (l / 32))).toNat + 1) ∧
        u.pocket = s.pocket)
      (fnOf w = 0x40 → usable t → s.waiters l = [] →
        (s.lockStateOf l = 0 → grants 0) ∧ (s.lockStateOf l = 2 → grants 1)) ∧
      (fnOf w = 0x40 → usable t → s.lockStateOf l = 1 → ¬ s.heldBy l me → me ∉ s.waiters l →
        Answers (.lkacq (.task t k)) s (fun u => u.taskState t k = taskWaiting ∧ u.fld (Reg.cuffTaskStatus t k) 25 4 = 7 ∧
          u.pc t k = s.pc t k ∧ u.waiters l = s.waiters l ++ [me])) ∧
      (fnOf w = 0x40 → (¬ usable t ∨ s.heldBy l me) → Answers (.lkacq (.task t k)) s (fun u => u.taskState t k = taskAborted)) ∧
      (fnOf w = 0x41 → rdOf w = 0 → usable t →
        (s.heldBy l me → Answers (.lkrel (.task t k)) s (fun u => u.lockStateOf l = 0 ∧ s.nextWord u t k ∧
          u.locksOf t k = s.locksOf t k - 1 ∧ u.pocket = s.pocket)) ∧
        (s.lockStateOf l = 0 ∨ s.lockOwnedBy l me = false → Answers (.lkrel (.task t k)) s (fun u =>
          u.taskState t k = taskAborted)))) ∧
    (∀ c : Fin 8, let me := LockUser.collar c
      (s.lockStateOf l = 0 → s.waiters l = [] → Answers (.lkacq (.collar c l)) s (fun u => u.heldBy l me ∧ u.reply = leBytes 4 0)) ∧
      (s.heldBy l me → Answers (.lkrel (.collar c l)) s (fun u => u.lockStateOf l = 0 ∧ s.onlyRegs u [lockReg l]))) ∧
    (∀ (t : TileId) (k : SlotId) vs, s.waiters l = .task t k :: vs → s.lockStateOf l = 0 → s.taskState t k = taskWaiting →
      s.pc t k < 4095 → Answers (.lockGrant l) s (fun u => u.heldBy l (.task t k) ∧ u.waiters l = vs ∧ s.nextWord u t k ∧
        u.creg t k (rdOf (s.fetch t k)) = 0)) ∧
    (s.lockStateOf l = 1 →
      (s.rd (Reg.lockLease (l / 32) (l % 32)) ≠ 0xFFFFFFFF → Answers (.lockLeaseExpire l) s (fun u =>
        u.lockStateOf l = 2 ∧ u.fld (lockReg l) 28 2 = 2 ∧ u.pocket = s.pocket)) ∧
      (s.rd (Reg.lockLease (l / 32) (l % 32)) = 0xFFFFFFFF → exec (.lockLeaseExpire l) s = .next s) ∧
      (∀ (p : PanelId) (i : Fin 32), l.val = 32 * p + i → s.regOn (Reg.lockCtrl p) = true →
        Answers (.lockCtrlOrphan p i) s (fun u => u.lockStateOf l = 2 ∧ u.fld (lockReg l) 28 2 = 3 ∧ u.pocket = s.pocket)))

/-- R384-R387: an arbiter grants the highest class raised, and in it the next requester in order after the last one it
granted; the others' waits grow, and one that reaches the threshold is counted as starved. -/
def Obligations.ArbitersGrantInTurn : Prop :=
  ∀ (s : State) (site : ArbSite) (reqs : List ArbReq) (ms cls o : Nat), s.arbWinner site reqs = some (cls, o) →
    (∃ r ∈ reqs, s.arbClass site r = cls ∧ arbOrder site r = o) ∧ (∀ r ∈ reqs, s.arbClass site r ≤ cls) ∧
    (∀ r ∈ reqs, s.arbClass site r = cls → match tfind (s.arb site).last cls with
      | none => o ≤ arbOrder site r
      | some l => (l < o ∧ (l < arbOrder site r → o ≤ arbOrder site r)) ∨
          (o ≤ l ∧ arbOrder site r ≤ l ∧ o ≤ arbOrder site r)) ∧
    (s.arbThreshold site = 0 → Answers (.arbitrationRound site reqs ms) s (fun u => u = { s with arbs := u.arbs } ∧
      tfind (u.arb site).last cls = some o ∧ (u.arb site).recorded = (s.arb site).recorded ∧
      ∀ n, tget (u.arb site).waits 0 n = (if n ≠ o ∧ ∃ r ∈ reqs, arbOrder site r = n then tget (s.arb site).waits 0 n + 1 else 0))) ∧
    (∀ (t : TileId) (p : Fin 3) (r : ArbReq), site = .port t p → reqs.filter (fun r => arbOrder site r != o) = [r] →
      0 < s.arbThreshold site → s.arbThreshold site ≤ tget (s.arb site).waits 0 (arbOrder site r) + 1 →
      (s.arb site).raised = [] → Answers (.arbitrationRound site reqs ms) s (fun u => u.pocket = s.pocket ∧
        (u.rd (Reg.arbStarveCount t)).toNat = Min.min 0xFFFFFFFF ((s.rd (Reg.arbStarveCount t)).toNat + 1) ∧
        u.bit (Reg.cuffIntPend t (s.fld (Reg.cuffIntRoute t) 0 2)) 0 = true ∧ (u.arb site).raised = [arbOrder site r]))

/-! ## The fabric (spec 13) -/

namespace Sys2Proof.Machine

/-- The register words of a port's state. -/
def portWords (p : Nat) : List Nat :=
  [Reg.fabPortCtrl p, Reg.fabPortStatus p, Reg.fabPortLanes p, Reg.fabPortStatRetrain p, Reg.mirrorLinkStatus]

/-- The port is now in state `st` with cause `c`. The frame: memory, every tile, every other port and every register
word but the port's are unchanged. -/
def State.portNow (s u : State) (p st c : Nat) (as : List Nat) : Prop :=
  u.portState p = st ∧ u.fld (Reg.fabPortStatus p) 26 3 = c ∧ (∀ j, j ≠ p → u.fab j = s.fab j) ∧
  s.onlyRegs { u with fabPorts := s.fabPorts } (portWords p ++ as)

/-- The entries of port `p` into RETRAIN within the second before `us`. -/
def State.recent (s : State) (p us : Nat) : Nat := ((s.fab p).retrains.filter (fun t => us < t + 1000000)).length

end Sys2Proof.Machine

/-- R400-R402, R407, R507: the states of a port, from DISABLED to ACTIVE and FAILED, with the cause that FAILED shows. -/
def Obligations.LinksTrainAndFail : Prop :=
  ∀ (s : State) (p : PortId),
    (s.domainOn (portDomain p) = true → s.portState p = 0 → Answers (.fabPortEnable p true) s (fun u =>
      s.portNow u p 1 0 [] ∧ u.bit (Reg.fabPortCtrl p) 0 = true)) ∧
    (s.portState p ≠ 0 → Answers (.fabPortEnable p false) s (fun u => s.portNow u p 0 0 [] ∧
      u.bit (Reg.fabPortCtrl p) 0 = false ∧ (u.fab p).tx = [] ∧ (u.fab p).inbox = [])) ∧
    (s.portState p = 1 → s.bit Reg.fabModuleId 31 = true → Answers (.linkTrainingStart p) s (fun u =>
      s.portNow u p 2 0 [] ∧ u.rd (Reg.fabPortLanes p) = 0)) ∧
    (s.portState p = 1 → s.bit Reg.fabModuleId 31 = false → exec (.linkTrainingStart p) s = .next s) ∧
    (s.portState p = 2 → ∀ (id : Fin 2048) (coll mir : BitVec 16), Answers (.flitTrain p id coll mir) s (fun u =>
      (u.fab p).peer = some (id.val, coll.toNat, mir.toNat) ∧ u.fld (Reg.fabPortStatus p) 0 11 = id.val ∧
      u.bit (Reg.fabPortStatus p) 11 = true ∧ u.rd (Reg.fabPortPeer p) = BitVec.ofNat 32 (coll.toNat * 0x10000 + mir.toNat) ∧
      u.portState p = 2)) ∧
    (s.portState p = 2 → ∀ id coll mir, (s.fab p).peer = some (id, coll, mir) → (∀ q, q < 8 → (s.slot q).restart ≠ 4) →
      let own := s.fld Reg.structLevelsLink 16 16
      let levels := coll ≤ own + 1 ∧ own ≤ coll + 1
      let idOk := if p.val < 16 then id ≠ s.ownId else id = s.partner
      let mirOk := 16 ≤ p.val → mir = s.fld Reg.structLevelsLink 0 16
      (levels → idOk → mirOk → Answers (.linkTrainingDone p) s (fun u => s.portNow u p 3 0 [] ∧
        u.fld (Reg.fabPortLanes p) 0 16 = 0xFFFF)) ∧
      (¬ levels → Answers (.linkTrainingDone p) s (fun u => s.portNow u p 5 1 [])) ∧
      (levels → ¬ idOk → Answers (.linkTrainingDone p) s (fun u => s.portNow u p 5 2 [])) ∧
      (levels → idOk → ¬ mirOk → Answers (.linkTrainingDone p) s (fun u => s.portNow u p 5 3 []))) ∧
    (s.portState p = 2 → ∀ lanes : BitVec 16, lanes ≠ 0 → Answers (.laneLockTimeout p lanes) s (fun u =>
      s.portNow u p 5 4 [] ∧ u.fld (Reg.fabPortLanes p) 0 16 = 0xFFFF - lanes.toNat)) ∧
    (s.portState p = 3 → ∀ us,
      let counted (u : State) := (u.rd (Reg.fabPortStatRetrain p)).toNat =
        Min.min 0xFFFFFFFF ((s.rd (Reg.fabPortStatRetrain p)).toNat + 1)
      (s.recent p us < 3 → Answers (.fabPortRetrain p us) s (fun u => s.portNow u p 4 0 [] ∧ counted u ∧
        (u.fab p).unacked = (s.fab p).unacked ∧ (u.fab p).tx = (s.fab p).tx)) ∧
      (3 ≤ s.recent p us → Answers (.fabPortRetrain p us) s (fun u => u.portState p = 5 ∧
        u.fld (Reg.fabPortStatus p) 26 3 = 5 ∧ counted u)) ∧
      (∀ lane : Fin 16, s.recent p us < 3 → Answers (.laneLockLoss p lane us) s (fun u => s.portNow u p 4 0 [] ∧ counted u ∧
        u.bit (Reg.fabPortLanes p) lane = false ∧ u.bit (Reg.fabPortLanes p) (16 + lane) = true))) ∧
    (s.portState p = 4 → Answers (.retrainDone p) s (fun u => s.portNow u p 3 0 [] ∧ u.fld (Reg.fabPortLanes p) 0 16 = 0xFFFF) ∧
      Answers (.retrainTimeout p) s (fun u => u.portState p = 5 ∧ u.fld (Reg.fabPortStatus p) 26 3 = 5)) ∧
    (s.portState p = 2 ∨ s.portState p = 3 ∨ s.portState p = 4 → Answers (.peerOrderlyClose p) s (fun u =>
      s.portNow u p 1 0 [] ∧ (u.fab p).tx = [] ∧ (u.fab p).unacked = []))

/-- R403-R407, R434: a good DATA flit in sequence is taken, any other is answered with one NAK; acknowledgements and credits
come with every flit; a NAK has the unacknowledged flits sent again and the eighth in a row retrains the link. The
first write of FAB_MODULE_ID sets it for good. -/
def Obligations.FlitsInSequence : Prop :=
  ∀ (s : State),
    (∀ (p : PortId) (f : Flit), s.portState p = 3 →
      let x := s.fab p
      let ce (u : State) := (u.rd (Reg.fabPortStatCe p)).toNat = Min.min 0xFFFFFFFF ((s.rd (Reg.fabPortStatCe p)).toNat + f.corrected.val)
      (f.bad = false → f.seq = x.recvSeq → (∀ k ∈ f.pkts, knownPacket k = true) → Answers (.flitData p f) s (fun u =>
        (u.fab p).inbox = x.inbox ++ f.pkts ∧ (u.fab p).recvSeq = (x.recvSeq + 1) % 4096 ∧ (u.fab p).nakSent = false ∧ ce u ∧
        s.onlyRegs { u with fabPorts := s.fabPorts } [Reg.fabPortStatCe p])) ∧
      ((f.bad = true ∨ f.seq ≠ x.recvSeq) → Answers (.flitData p f) s (fun u => u.fab p = { x with nakSent := true } ∧ ce u ∧
        s.onlyRegs { u with fabPorts := s.fabPorts } [Reg.fabPortStatCe p])) ∧
      (x.tx = [] → f.bad = false →
        let left := match x.unacked.findIdx? (fun g => g.1 == f.ack) with
          | some i => x.unacked.drop (i + 1)
          | none => x.unacked
        Answers (.flitIdle p f) s (fun u => (u.fab p).unacked = left ∧
          (u.fab p).credits = (List.range 6).map (fun v => Min.min 256 (x.credits.getD v 0 + f.credits.getD v 0)) ∧
          (u.fab p).inbox = x.inbox ∧ (u.fab p).recvSeq = x.recvSeq ∧ ce u ∧
          s.onlyRegs { u with fabPorts := s.fabPorts } [Reg.fabPortStatCe p])) ∧
      (∀ us, f.bad = false → x.unacked.findIdx? (fun g => g.1 == (f.seq + 4095) % 4096) = none →
        (x.replays < 7 → x.tx = [] → Answers (.flitNak p f us) s (fun u => (u.fab p).replays = x.replays + 1 ∧
          (u.fab p).unacked = x.unacked ∧ u.portState p = 3 ∧ (u.rd (Reg.fabPortStatReplay p)).toNat =
            Min.min 0xFFFFFFFF ((s.rd (Reg.fabPortStatReplay p)).toNat + x.unacked.length))) ∧
        (7 ≤ x.replays → s.recent p us < 3 → Answers (.flitNak p f us) s (fun u => u.portState p = 4)))) ∧
    (∀ v : Word, (s.bit Reg.fabModuleId 31 = false → Answers (.fabModuleIdWrite v) s (fun u => u.ownId = fieldOf v 0 11 ∧
        u.bit Reg.fabModuleId 31 = true ∧ s.sameBits u Reg.fabModuleId (fun j => 11 ≤ j ∧ j < 31) ∧ s.onlyRegs u [Reg.fabModuleId])) ∧
      (s.bit Reg.fabModuleId 31 = true → Answers (.fabModuleIdWrite v) s (fun u =>
        u.bit Reg.fabModuleId 30 = !v.getLsbD 30 ∧ s.sameBits u Reg.fabModuleId (fun j => j ≠ 30) ∧
        s.onlyRegs u [Reg.fabModuleId])))

namespace Sys2Proof.Machine

/-- `p` is the packet that a command for the kinds `want` takes at `place`, it is addressed to this module, and `rest`
stays there; the place is no mirror port. -/
def State.comes (s : State) (place : PktAt) (want : Packet → Bool) (p : Packet) (rest : List Packet) : Prop :=
  takeHead want [] (s.pktsAt place) = some (p, rest) ∧ s.isMe p.dstModule = true ∧ ∀ i, place = .port i → i.val < 16

/-- The packet goes on to the mesh as a request of partition `q`. -/
def State.toMesh (s u : State) (place : PktAt) (q : Nat) (p : Packet) (rest : List Packet) : Prop :=
  u.net = s.net ++ [{ p with part := q }] ∧ u.pktsAt place = rest ∧ u.regs = s.regs ∧ u.tiles = s.tiles ∧ u.pocket = s.pocket ∧
  u.hbm = s.hbm

end Sys2Proof.Machine

/-- R410-R413, R417-R419, R422: a request of a job's module goes to the mesh under the job's partition, one of no job is
refused; an answer goes to its originator once, a refusal with LINK_FAIL stops the job, and a request without an
answer is given up, its late answer counted. A packet without a route is dropped and counted. -/
def Obligations.PacketsAdmittedAndAnswered : Prop :=
  ∀ (s : State) (place : PktAt) (p : Packet) (rest : List Packet),
    (∀ (c : Instr) (k : Nat), (c = .read place ∧ k = 1 ∨ c = .write place ∧ k = 2 ∨ c = .accumulate place ∧ k = 3) →
      s.comes place (fun p => p.kind == k) p rest →
      (∀ q, s.jobPart p = some q → gaSpace p.addr = 0 → Answers c s (fun u => s.toMesh u place q p rest)) ∧
      (s.jobPart p = none → Answers c s (fun u => u.net = s.net ∧ u.pocket = s.pocket ∧ u.regs = s.regs ∧
        ∃ a : Packet, a.kind = 0x13 ∧ a.aux = 0x04 ∧ a.txn = p.txn ∧ a.dstModule = p.srcModule ∧
          (a ∈ u.answers ∨ a ∈ u.fabOut)))) ∧
    (∀ (c : Instr) (k : Nat) (r : FabReq),
      (c = .readData place ∧ k = 0x11 ∨ c = .refuse place ∧ k = 0x13 ∨ c = .ack place ∧ k = 0x12) →
      s.comes place (fun p => p.kind == k) p rest → s.pageOwner p.txn = none → (∀ q, q < 8 → (s.slot q).restart ≠ 5) →
      (s.fabWait.find? (fun r => r.txn == p.txn) = some r → (k ≠ 0x13 ∨ p.aux % 256 ≠ 0x0D) →
        Answers c s (fun u => u.answers = s.answers ++ [p] ∧ u.fabWait = s.fabWait.filter (fun x => x.txn != p.txn) ∧
          u.pktsAt place = rest ∧ u.regs = s.regs)) ∧
      (s.fabWait.find? (fun r => r.txn == p.txn) = some r → k = 0x13 → p.aux % 256 = 0x0D → r.part < 8 →
        (s.slot r.part).state = .running → Answers c s (fun u => u.answers = s.answers ∧
          ∃ x, u.stops = s.stops ++ [x] ∧ x.part = r.part ∧ x.code = 0x0D)) ∧
      (s.fabWait.find? (fun r => r.txn == p.txn) = none → s.fabLate.contains p.txn = true → Answers c s (fun u =>
        u.answers = s.answers ∧ (u.rd Reg.fabStatLate).toNat = Min.min 0xFFFFFFFF ((s.rd Reg.fabStatLate).toNat + 1)))) ∧
    (∀ q, s.comes place (fun p => p.kind == 0x12) p rest → s.pageOwner p.txn = some q → (∀ q, q < 8 → (s.slot q).restart ≠ 5) →
      Answers (.ack place) s (fun u => (u.slot q).pagesOut = (s.slot q).pagesOut.filter (· != p.txn) ∧ u.regs = s.regs)) ∧
    (∀ txn r, s.fabWait.find? (fun r => r.txn == txn) = some r → (s.slot r.part).state = .running →
      Answers (.requestTimeout txn) s (fun u => u.fabWait = s.fabWait.filter (fun x => x.txn != txn) ∧
        u.fabLate = s.fabLate ++ [txn] ∧ (u.rd Reg.fabStatTimeout).toNat = Min.min 0xFFFFFFFF ((s.rd Reg.fabStatTimeout).toNat + 1) ∧
        ∃ x, u.stops = s.stops ++ [x] ∧ x.part = r.part ∧ x.code = 0x0D)) ∧
    (takeHead (fun p => p.kind == 0x11) [] (s.pktsAt place) = some (p, rest) → s.isMe p.dstModule = false →
      (∀ i, place = .port i → i.val < 16) → s.routeOf p = none → Answers (.readData place) s (fun u => u.pktsAt place = rest ∧
        (u.rd Reg.fabStatNoroute).toNat = Min.min 0xFFFFFFFF ((s.rd Reg.fabStatNoroute).toNat + 1)))

/-! ## The job's barrier and mirror epochs (spec 11, 13, 14) -/

namespace Sys2Proof.Machine

/-- Every task of the partition that waits at the barrier goes on with its next word, and no other task of it changes
state. The frame: memory, the other slots and every register word but those tasks' status words and CUFF_STEP are
unchanged. -/
def State.layerOpens (s u : State) (q : Nat) : Prop :=
  (∀ t ∈ s.tilesOf q, ∀ k, k < 4 →
    (s.atBarrier t k = true → u.taskState t k = taskRunning ∧ u.pc t k = s.pc t k + 1 ∧ (u.task t k).arrived = false) ∧
    (s.atBarrier t k = false → u.rd (Reg.cuffTaskStatus t k) = s.rd (Reg.cuffTaskStatus t k) ∧ u.task t k = s.task t k)) ∧
  u.pocket = s.pocket ∧ u.hbm = s.hbm ∧ u.stops = s.stops ∧ (∀ p, p ≠ q → u.slot p = s.slot p) ∧
  ∀ a, (∀ t k, k < 4 → a ≠ Reg.cuffTaskStatus t k ∧ a ≠ Reg.cuffStatus t ∧ a ≠ Reg.cuffStep t) → u.rd a = s.rd a

/-- What neither a commit nor the Collar holds any more (condition 5 of R343). -/
def State.nothingHolds (s : State) (q : Nat) : Prop :=
  s.commitHolds q = false ∧ s.svcHolds q = false ∧ (s.slot q).outHeld = []

/-- The waiting tasks of the partition stand before word 4,095 (R332). -/
def State.pcsInside (s : State) (q : Nat) : Prop := ∀ t ∈ s.tilesOf q, ∀ k, k < 4 → s.pc t k < 4095

/-- `p` is the packet that a command for the kinds `want` takes at `place`, as delivered to this module: at a mirror port,
traffic of the mirror link (R411, R452). -/
def State.comesTo (s : State) (place : PktAt) (want : Packet → Bool) (p : Packet) (rest : List Packet) : Prop :=
  takeHead want [] (s.pktsAt place) = some (p, rest) ∧ s.isMe p.dstModule = true ∧ ∃ i, place = .port i ∧ 16 ≤ i.val

end Sys2Proof.Machine

/-- R343, R344, R348, R423, R424, R444: the module arrives once its own conditions hold, a release opens the layer with
STEP one higher at a step boundary, and the start barrier starts the tasks; an arrival that disagrees stops the job. -/
def Obligations.BarrierArrivesAndReleases : Prop :=
  ∀ (s : State) (q : PartId), s.cmds = [] → (s.slot q).going = true →
    let x := s.slot q
    (∀ aux, x.released = some aux → x.atStart = false → s.nothingHolds q → s.pcsInside q →
      (s.atStep q = false → Answers (.layerBarrierRelease q) s (fun u => s.layerOpens u q ∧ u.slot q =
        { x with barriers := (x.barriers + 1) % 0x100000000, released := none, arrivedUp := false, served := false } ∧
        ∀ t, u.rd (Reg.cuffStep t) = s.rd (Reg.cuffStep t))) ∧
      (s.atStep q = true → Answers (.layerBarrierRelease q) s (fun u => s.layerOpens u q ∧
        (u.slot q).step = (x.step + 1) % 0x100000000 ∧
        ∀ t ∈ s.tilesOf q, (u.rd (Reg.cuffStep t)).toNat = (x.step + 1) % 0x100000000))) ∧
    (∀ aux, x.released = some aux → x.atStart = true → s.nothingHolds q → Answers (.layerBarrierRelease q) s (fun u =>
      (u.slot q).atStart = false ∧ (u.slot q).step = x.step ∧ u.pocket = s.pocket ∧ ∀ t ∈ s.tilesOf q, ∀ k, k < 4 →
        s.bit (Reg.cuffTaskEntry t k) 31 = true → s.taskState t k = taskFree → (∀ p, s.partOf t = some p → k < (s.slot p).taskSlots) →
        u.taskState t k = taskRunning ∧ u.pc t k = s.fld (Reg.cuffTaskEntry t k) 0 12 ∧
        u.creg t k 1 = s.rd (Reg.cuffTaskArg t k))) ∧
    (x.released = none → x.arrivedUp = false → s.quiet q = true → s.epochPoint q = false → s.barKids q = [] → x.kids = [] →
      ∀ m, s.barParent q = some m → Answers (.layerBarrierRelease q) s (fun u => u.regs = s.regs ∧ u.tiles = s.tiles ∧
        u.slot q = { x with arrivedUp := true } ∧
        u.fabOut = s.fabOut ++ [s.ctrlPacket q 0x21 m (x.step + x.barriers * 0x100000000)
          ((if s.atStep q then 1 else 0) + (if x.drainAsked then 8 else 0))])) ∧
    (∀ (place : PktAt) (p : Packet) (rest : List Packet), s.comes place (fun p => p.kind == 0x21) p rest →
      s.jobPart p = some q.val →
      let b : BarMsg := { src := p.srcModule, step := p.addr % 0x100000000, count := p.addr / 0x100000000, aux := p.aux }
      (s.quiet q = false → x.released = none → Answers (.barrierArrive place) s (fun u => u.regs = s.regs ∧
        u.tiles = s.tiles ∧ u.pktsAt place = rest ∧ u.slot q = { x with kids := x.kids.filter (fun k => k.src != b.src) ++ [b] })) ∧
      (s.quiet q = true → x.released = none → x.arrivedUp = false → s.epochPoint q = false → s.barKids q = [b.src] →
        x.kids = [] → (b.step ≠ x.step ∨ b.count ≠ x.barriers ∨ b.aux.testBit 0 ≠ s.atStep q) →
        Answers (.barrierArrive place) s (fun u => ∃ st, u.stops = s.stops ++ [st] ∧ st.part = q.val ∧ st.code = 0x0D ∧
          st.sub = 4))) ∧
    (∀ (place : PktAt) (p : Packet) (rest : List Packet), s.comes place (fun p => p.kind == 0x22) p rest →
      s.jobPart p = some q.val → x.arrivedUp = true → x.released = none → s.barKids q = [] → s.epochPoint q = false →
      p.aux.testBit 1 = false → p.aux.testBit 3 = false → x.atStart = false → s.pcsInside q →
      (s.nothingHolds q → Answers (.barrierRelease place) s (fun u => s.layerOpens u q ∧
        (u.slot q).barriers = (x.barriers + 1) % 0x100000000 ∧ (u.slot q).arrivedUp = false)) ∧
      (s.commitHolds q = true ∨ s.svcHolds q = true → Answers (.barrierRelease place) s (fun u => u.regs = s.regs ∧
        u.tiles = s.tiles ∧ u.slot q = { x with released := some p.aux })))

/-- R441, R443, R451, R452: an epoch boundary takes the mirror set, sends it, and is PREPARED once both members have
answered; pages of the partner land in the mirror area; a write to a clean page of the mirror set has its
before-image taken first. -/
def Obligations.EpochsCommitAndPagesLand : Prop :=
  ∀ (s : State) (q : PartId), s.cmds = [] →
    let x := s.slot q
    (x.going = true → x.arrivedUp = false → x.released = none → s.quiet q = true → s.epochPoint q = true →
      (x.phase = 0 → s.commitHolds q = false → x.cancels = [] → x.svc.waiting = [] →
        Answers (.epochBoundary q) s (fun u => u.regs = s.regs ∧ u.tiles = s.tiles ∧ (u.slot q).phase = 1 ∧
          (u.slot q).mset = s.regionList q)) ∧
      (x.phase = 1 → s.svcHolds q = false → Answers (.epochBoundary q) s (fun u => (u.slot q).phase = 2 ∧
        (u.slot q).preStep = s.stepAfter q ∧ u.fld (Reg.mirrorStatus q) 28 4 = 2)) ∧
      (x.phase = 2 → x.gotLanded = true → x.answered = some (s.nextEpoch q) → s.barKids q = [] → x.kids = [] →
        ∀ m, s.barParent q = some m → Answers (.epochBoundary q) s (fun u => (u.slot q).phase = 3 ∧
          (u.slot q).arrivedUp = true ∧ u.fld (Reg.mirrorStatus q) 28 4 = 3 ∧ s.onlyRegs { u with slots := s.slots, fabOut := s.fabOut }
            [Reg.mirrorStatus q] ∧ ∃ p, u.fabOut = s.fabOut ++ [p] ∧ p.kind = 0x21 ∧ p.dstModule = m ∧ p.aux.testBit 1 = true))) ∧
    (∀ page, s.mirrorPart page = some q.val → s.hasImage page = false →
      (s.undoUsed q < (s.undoArea q).2 / 0x10000 → Answers (.beforeImageCopy page) s (fun u => u.hbm = s.hbm ∧
        (∃ r, u.undo = s.undo ++ [r] ∧ r.part = q.val ∧ r.page = page ∧ r.epoch = s.imageEpoch q page ∧
          ∀ o, o < 0x10000 → mget r.data o = mget s.hbm (0x10000 * page + o)) ∧
        s.onlyRegs { u with undo := s.undo } [Reg.mirrorUndoUsed q])) ∧
      ((s.undoArea q).2 / 0x10000 ≤ s.undoUsed q → x.state = .running → Answers (.beforeImageCopy page) s (fun u =>
        u.undo = s.undo ∧ ∃ st, u.stops = s.stops ++ [st] ∧ st.part = q.val ∧ st.code = 0x18 ∧ st.sub = 2))) ∧
    (∀ (place : PktAt) (p : Packet) (rest : List Packet), s.jobPart p = some q.val → s.receiving = none →
      (s.comesTo place (fun p => p.kind == 0x04) p rest → x.phase ≠ 2 →
        let off := (s.mirrorArea q).1 + p.addr
        (∀ bs : List Byte, p.data = bs.map some → p.addr + bs.length ≤ (s.mirrorArea q).2 → x.restart < 3 →
          s.needImage off bs.length = [] → x.peerSent = none → Answers (.page place) s (fun u =>
            (∀ i (h : i < bs.length), mget u.hbm (off + i) = bs[i]) ∧
            (∀ a, a < off ∨ off + bs.length ≤ a → mget u.hbm a = mget s.hbm a) ∧
            u.slot q = { x with pagesIn := x.pagesIn + 1 } ∧ u.regs = s.regs ∧ u.hbmDirty = s.hbmDirty)) ∧
        ((s.mirrorArea q).2 < p.addr + p.data.length → Answers (.page place) s (fun u =>
          u.hbm = s.hbm ∧ u.slots = s.slots ∧ u.regs = s.regs))) ∧
      (s.comesTo place (isMsg 0x01) p rest → x.phase ≠ 2 →
        let e := p.addr % 65536
        let c := p.addr / 0x100000000
        (c ≤ x.pagesIn → Answers (.epochSent place) s (fun u => u.regs = s.regs ∧
          u.slot q = { x with pagesIn := x.pagesIn - c, peerSent := none, answered := some e })) ∧
        (x.pagesIn < c → Answers (.epochSent place) s (fun u => u.regs = s.regs ∧
          u.slot q = { x with peerSent := some (e, c) }))) ∧
      (s.comesTo place (isMsg 0x02) p rest → x.phase = 2 → x.answered ≠ some (s.nextEpoch q) →
        (p.addr % 65536 = s.nextEpoch q → Answers (.epochLanded place) s (fun u => u.regs = s.regs ∧
          u.slot q = { x with gotLanded := true })) ∧
        (p.addr % 65536 ≠ s.nextEpoch q → Answers (.epochLanded place) s (fun u => u.regs = s.regs ∧ u.slot q = x))))

/-- R446-R451, R454, R458, R539, R540: a stop learned from another module, a lost partner, the decision of a restart, the
rollback, the wait for spares, the restore of a spare and the release of the restart barrier. -/
def Obligations.RestartStepsInOrder : Prop :=
  ∀ (s : State) (q : PartId), s.cmds = [] →
    let x := s.slot q
    let stopped (u : State) (code : Nat) (lost : List Nat) : Prop := (u.slot q).state = .restoring ∧ (u.slot q).restart = 1 ∧
      (u.slot q).lost = lost ∧ (u.slot q).fault = code ∧
      u.fld (Reg.mirrorStatus q) 20 8 = s.fld (Reg.mirrorStatus q) 20 8 + 1
    (∀ (place : PktAt) (p : Packet) (rest : List Packet), x.state = .running → x.resetting = false → x.lost = [] →
      s.fld (Reg.mirrorStatus q) 20 8 < s.fld (Reg.mirrorCfg q) 16 4 →
      (s.comesTo place (isMsg 0x03) p rest → s.loaded.filter (fun q => s.inJob q p.srcModule) = [q.val] →
        Answers (.lost place) s (fun u => stopped u (if p.addr % 256 = 0 then 0x0D else p.addr % 256) [p.srcModule])) ∧
      (s.comes place (isMsg 0x10) p rest → s.jobPart p = some q.val → Answers (.jobStop place) s (fun u =>
        stopped u (p.addr % 256) (if p.addr / 256 % 4 = 3 then [p.addr / 65536 % 2048] else [])))) ∧
    (s.mirrorPorts ≠ [] → exec .mirrorPortsDownTimeout s = .next s) ∧
    (s.mirrorPorts = [] → s.loaded.filter (fun q => s.inJob q s.partner) = [q.val] → x.going = true → x.lost = [] →
      Answers .mirrorPortsDownTimeout s (fun u => (u.slot q).lost = [s.partner] ∧
        ∃ st, u.stops = s.stops ++ [st] ∧ st.part = q.val ∧ st.code = 0x0D ∧ st.sub = 1)) ∧
    (∀ m : Fin 2048, x.state = .restoring → x.restart = 1 → s.coordinator q = true → s.inJob q m = true → s.isMe m = false →
      x.lost = [] → Answers (.coordinatorAnswerTimeout q m) s (fun u => u = s.setSlot q { x with lost := [m.val] })) ∧
    (x.state = .restoring → x.restart ≠ 0 → x.restart ≠ 5 →
      (∀ e f, Answers (.epochDecision q (.received e [] f)) s (fun u => (u.slot q).restart = 2 ∧
        (u.slot q).decided = some (x.decided.getD e) ∧ (u.slot q).fault = f.code ∧ u.fld (Reg.mirrorStatus q) 28 4 = 4)) ∧
      (∀ es, s.coordinator q = true → x.decided = none → Answers (.epochDecision q (.collected es [])) s (fun u =>
        (u.slot q).restart = 2 ∧ (u.slot q).decided = some
          (if es.any (fun m => m.2 == s.nextEpoch q && !x.lost.contains m.1) then s.nextEpoch q
           else if x.atStart then 65535 else x.epoch)))) ∧
    (∀ e, x.state = .restoring → x.restart = 2 → x.decided = some e → x.atStart = false → x.phase ≠ 3 →
      Answers (.rollbackDone q) s (fun u => (∀ r ∈ u.undo, r.part ≠ q.val) ∧ (u.slot q).phase = 0 ∧
        (u.slot q).restart = (if x.lost = [] then 6 else 3) ∧
        ∀ page k v, s.undo = [⟨q.val, page, e, [(k, v)]⟩] → k < 0x10000 →
          mget u.hbm (0x10000 * page + k) = v ∧ (∀ o, o < 0x10000 → o ≠ k → mget u.hbm (0x10000 * page + o) = 0) ∧
          ∀ a, a < 0x10000 * page ∨ 0x10000 * (page + 1) ≤ a → mget u.hbm a = mget s.hbm a)) ∧
    (x.state = .restoring → x.restart = 3 →
      Answers (.spareRetry q (.told [])) s (fun u => u.slot q = { x with state := .stopped, stoppedBy := 2 } ∧
        u.fld (Reg.mirrorStatus q) 28 4 = 7 ∧ s.onlyRegs { u with slots := s.slots } [Reg.mirrorStatus q]) ∧
      ∀ f sp, f < 2048 → sp < 2048 → x.tiles ≠ 0 → x.lost.contains s.partner = true → Answers (.spareRetry q (.told [(f, sp)])) s (fun u =>
        (u.slot q).restart = 4 ∧ u.rd (Reg.fabRoute f) = s.rd (Reg.fabRoute sp))) ∧
    (x.state = .restoring → x.restart = 4 → s.mirrorPorts = [] → Answers (.mirrorReconnectTimeout q) s (fun u =>
      ∃ st, u.stops = s.stops ++ [st] ∧ st.part = q.val ∧ st.code = 0x18 ∧ st.sub = 4)) ∧
    (∀ (place : PktAt) (p : Packet) (rest : List Packet) (step : Word), s.comesTo place (isMsg 0x04) p rest →
      s.loading = none → s.bit Reg.mirrorAlias 31 = true → x.tiles = 0 → x.resetting = false →
      Answers (.restoreBegin place q step) s (fun u => (u.slot q).state = .restoring ∧ (u.slot q).restart = 5 ∧
        (u.slot q).decided = some (p.addr % 65536) ∧ (u.slot q).epochStep = step.toNat ∧
        u.fld (Reg.mirrorStatus q) 28 4 = 6 ∧ u.fld Reg.structLoadStatus 0 3 = loadChecking ∧
        ∃ l, u.loading = some l ∧ l.part = q.val ∧ l.restore = true)) ∧
    (∀ (place : PktAt) (p : Packet) (rest : List Packet), s.comesTo place (isMsg 0x05) p rest → s.receiving = none →
      s.jobPart p = some q.val → x.restart = 5 → x.gotLanded = true → Answers (.restoreDone place) s (fun u =>
        (u.slot q).restart = 6 ∧ (u.slot q).barriers = 0 ∧ u.hbm = s.hbm)) ∧
    (x.state = .restoring → x.restart = 6 → x.atStart = false → Answers (.restartBarrierRelease q) s (fun u =>
      (u.slot q).state = .running ∧ (u.slot q).restart = 0 ∧ (u.slot q).lost = [] ∧ (u.slot q).step = x.step ∧
      u.fld (Reg.mirrorStatus q) 28 4 = 1 ∧
      (u.rd (Reg.mirrorStatRestarts q)).toNat = Min.min 0xFFFFFFFF ((s.rd (Reg.mirrorStatRestarts q)).toNat + 1) ∧
      ∀ t ∈ s.tilesOf q, ∀ k, k < 4 → s.bit (Reg.cuffTaskEntry t k) 31 = true → s.taskState t k = taskFree →
        (∀ p, s.partOf t = some p → k < (s.slot p).taskSlots) →
        u.taskState t k = taskRunning ∧ u.pc t k = s.fld (Reg.cuffTaskEntry t k) 0 12)) ∧
    (x.tiles ≠ 0 → Answers (.mirrorCtrlPlanned q) s (fun u => u = s.setSlot q { x with planned := true }))
/-! ## The host interface (spec 15) -/

namespace Sys2Proof.Machine

/-- The completion of ring entry `n` (R472): TAG, INDEX, OPCODE, RESULT, REASON, SLOT. -/
def completionOf (n op : Nat) (e : CmdEntry) (result : Nat) : List Byte :=
  leBytes 8 e.tag ++ leBytes 4 n ++ leBytes 1 op ++ leBytes 1 result ++ leBytes 1 0 ++ leBytes 1 e.slot

/-- The number of the ring entry at HEAD. -/
def State.headNo (s : State) : Nat := (s.rd Reg.hostCmdHead).toNat

/-- The ring entry at HEAD has been read and completed with `result`; its completion is in the module page, and no command
is in progress. -/
def State.completes (s u : State) (op : Nat) (e : CmdEntry) (result : Nat) : Prop :=
  u.cmds = [] ∧ tget u.completions [] (s.headNo % 16) = completionOf s.headNo op e result ∧
  u.headNo = (s.headNo + 1) % 0x100000000

/-- The ring entry at HEAD has been read and is in progress. -/
def State.inProgress (s u : State) (op : Nat) (e : CmdEntry) : Prop :=
  u.cmds = [{ n := s.headNo, op := op, entry := e, begun := true }] ∧ u.completions = s.completions ∧
  u.headNo = (s.headNo + 1) % 0x100000000

/-- What a command that only completes leaves: every register word but HEAD, memory and the slots. -/
def State.completesOnly (s u : State) (op : Nat) (e : CmdEntry) (result : Nat) : Prop :=
  s.completes u op e result ∧ s.onlyRegs { u with cmds := s.cmds, completions := s.completions } [Reg.hostCmdHead]

/-- The bytes `bs` stand in HBM from offset `off` on, and every other byte of HBM is as it was. -/
def State.hbmStored (s u : State) (off : Nat) (bs : List Byte) : Prop :=
  (∀ i (h : i < bs.length), mget u.hbm (off + i) = bs[i]) ∧
  ∀ a, a < off ∨ off + bs.length ≤ a → mget u.hbm a = mget s.hbm a

/-- A function level reset (R489): the HOST registers at their reset values and no command in progress; every other register
word, the slots, the tiles and memory are unchanged. -/
def State.functionIsReset (s u : State) : Prop :=
  u.cmds = [] ∧ u.d3 = false ∧ (∀ a, hostWord a = true → u.rd a = regReset a) ∧
  (∀ a, hostWord a = false → u.rd a = s.rd a) ∧ u.slots = s.slots ∧ u.tiles = s.tiles ∧ u.pocket = s.pocket ∧ u.hbm = s.hbm

/-- No word of the bytes fails its check (R543). -/
def State.hbmClean (s : State) (off len : Nat) : Prop := ∀ w ∈ hbmWordsOf off len, tfind s.hbmErr w = none

end Sys2Proof.Machine

/-- R468-R472: the Collar reads the entry at HEAD, and each command has its effect on its slot in the states that allow
it; in any other it completes with BAD_STATE, and with BAD_FIELD or BAD_OPCODE where the entry is wrong. -/
def Obligations.HostCommandsComplete : Prop :=
  ∀ (s : State) (e : CmdEntry), s.cmds = [] →
    (s.collarRuns = true → s.cmdOn = true → s.hostUp = true → s.headNo ≠ (s.rd Reg.hostCmdTail).toNat →
      let q := e.slot
      let x := s.slot q
      (q < 8 → e.resv = 0 →
        (x.state.busy = false → x.resetting = false → s.loading = none → Answers (.load e) s (fun u => s.inProgress u 1 e ∧
          (u.slot q).state = .loading ∧ u.rd64 Reg.structLoadAddr = e.arg0 % 2 ^ 64 ∧ u.rd64 Reg.structLoadLen = e.arg1 % 2 ^ 64 ∧
          u.loadState = loadChecking ∧ ∃ l, u.loading = some l ∧ l.part = q)) ∧
        (x.state.busy = true → Answers (.load e) s (fun u => s.completesOnly u 1 e 2)) ∧
        (x.state = .ready → s.linksUp = true → Answers (.run e) s (fun u => s.completes u 2 e 0 ∧ (u.slot q).state = .running ∧
          (u.slot q).atStart = true ∧ (u.slot q).sendAll = true ∧ (u.slot q).barriers = 0 ∧
          u.fld (Reg.mirrorStatus q) 28 4 = 1 ∧
          s.onlyRegs { u with cmds := s.cmds, completions := s.completions, slots := s.slots } [Reg.hostCmdHead, Reg.mirrorStatus q])) ∧
        (x.state = .stopped → x.damaged = false → x.stoppedBy ≠ 1 → s.linksUp = true → Answers (.run e) s (fun u =>
          s.completes u 2 e 0 ∧ (u.slot q).state = .restoring ∧
          u.fld (Reg.mirrorStatus q) 28 4 = (if x.stoppedBy = 3 then 4 else 7))) ∧
        (x.state ≠ .ready → x.state ≠ .stopped → Answers (.run e) s (fun u => s.completesOnly u 2 e 2)) ∧
        (x.state = .running → Answers (.drain e) s (fun u => s.inProgress u 3 e ∧
          u.slot q = { x with state := .draining, drainAsked := true } ∧
          s.onlyRegs { u with cmds := s.cmds, slots := s.slots } [Reg.hostCmdHead])) ∧
        (x.state ≠ .running → Answers (.drain e) s (fun u => s.completesOnly u 3 e 2)) ∧
        (x.state ≠ .idle → x.resetting = false →
          (x.tiles = 0 → Answers (.kill e) s (fun u => s.completes u 4 e 0 ∧ (u.slot q).state = .idle ∧ (u.slot q).fault = 0)) ∧
          (x.tiles ≠ 0 → Answers (.kill e) s (fun u => s.inProgress u 4 e ∧ (u.slot q).resetting = true ∧
            ∀ t ∈ s.tilesOf q, ∀ k, k < 4 → u.taskState t k = taskFree))) ∧
        (x.state = .idle → Answers (.kill e) s (fun u => s.completesOnly u 4 e 2)) ∧
        (∀ c : HostCmd, c = { n := s.headNo, op := 5, entry := e, begun := false } →
          (x.state = .ready ∨ x.state = .stopped → s.copyOk c = true → Answers (.copyIn e) s (fun u => s.inProgress u 5 e ∧
            s.onlyRegs { u with cmds := s.cmds } [Reg.hostCmdHead])) ∧
          (x.state = .ready ∨ x.state = .stopped → s.copyOk c = false → Answers (.copyIn e) s (fun u => s.completesOnly u 5 e 3)) ∧
          (x.state ≠ .ready → x.state ≠ .stopped → Answers (.copyIn e) s (fun u => s.completesOnly u 5 e 2))) ∧
        (∀ c : HostCmd, c = { n := s.headNo, op := 6, entry := e, begun := false } → x.state ≠ .idle → x.state ≠ .loading →
          (s.copyOk c = true → Answers (.copyOut e) s (fun u => s.inProgress u 6 e ∧
            s.onlyRegs { u with cmds := s.cmds } [Reg.hostCmdHead])) ∧
          (s.copyOk c = false → Answers (.copyOut e) s (fun u => s.completesOnly u 6 e 3))) ∧
        Answers (.commandNop 7 e) s (fun u => s.completesOnly u 7 e 0)) ∧
      (7 < q ∨ e.resv ≠ 0 → Answers (.commandNop 7 e) s (fun u => s.completesOnly u 7 e 3)) ∧
      (∀ op : BitVec 8, op = 0 ∨ 7 < op.toNat → Answers (.commandNop op e) s (fun u => s.completesOnly u op.toNat e 1))) ∧
    (∀ (n : Word) (c : HostCmd) (data : List Byte), c.n = n.toNat → c.begun = true → c.entry = e → c.entry.arg2 = data.length →
      let s' : State := { s with cmds := [c] }
      let ended (u : State) (result : Nat) : Prop := u.cmds = [] ∧
        tget u.completions [] (c.n % 16) = completionOf c.n c.op e result ∧ u.slots = s.slots
      (c.op = 5 → s.needImage (gaHbmOff e.arg1) data.length = [] → Answers (.hbmCopyDone n (.ok data)) s' (fun u =>
        ended u 0 ∧ s.hbmStored u (gaHbmOff e.arg1) data ∧ u.regs = s.regs ∧ u.pocket = s.pocket)) ∧
      (c.op = 6 → s.hbmClean (gaHbmOff e.arg0) data.length → s.hostUp = true → Answers (.hbmCopyDone n (.ok [])) s' (fun u =>
        ended u 0 ∧ mread u.host e.arg1 data.length = mread s.hbm (gaHbmOff e.arg0) data.length ∧ u.regs = s.regs ∧
        u.hbm = s.hbm)) ∧
      (c.op = 5 ∨ c.op = 6 → ∀ st, Answers (.hbmCopyDone n (.error st)) s' (fun u => ended u 5 ∧ u.hbm = s.hbm ∧
        u.host = s.host ∧ u.regs = s.regs))) ∧
    (∀ v : Word, (sub32 v.toNat s.headNo ≤ s.cmdSize → Answers (.hostCmdTailWrite v) s (fun u =>
        u.rd Reg.hostCmdTail = v ∧ s.onlyRegs u [Reg.hostCmdTail])) ∧
      (s.cmdSize < sub32 v.toNat s.headNo → s.bit Reg.hostErr 31 = false → Answers (.hostCmdTailWrite v) s (fun u =>
        u.rd Reg.hostErr = 0x80020000 ∧ s.onlyRegs u [Reg.hostErr])))

/-- R466, R473, R477-R482, R487-R489, R464, R564: the status pages, the rings of a slot, the services at a step boundary,
BAR2 and the events of the PCIe link. -/
def Obligations.HostRingsPagesAndLink : Prop :=
  ∀ (s : State), s.cmds = [] →
    (∀ p : Fin 9, s.pagesOn = true → Answers (.statusPageRewrite p) s (fun u =>
      let base := s.rd64 Reg.hostStatusBase / 4096 * 4096 + 4096 * p
      let seq := tget s.pageSeq 0 p + 2
      tget u.pageSeq 0 p = seq ∧ mreadNat u.host base 8 = seq % 2 ^ 64 ∧
      (∀ q : PartId, p.val = q + 1 → mreadNat u.host (base + 8) 8 = (s.slot q).statusWord % 2 ^ 64 ∧
        (∀ a, a < base ∨ base + 4096 ≤ a → mget u.host a = mget s.host a)) ∧
      (p.val = 0 → mreadNat u.host (base + 8) 4 = s.headNo) ∧ u.regs = s.regs ∧ u.slots = s.slots)) ∧
    (∀ b : Bool, Answers (.hostStatusEnable b) s (fun u => u.bit Reg.hostStatusBase 0 = b ∧
      s.sameBits u Reg.hostStatusBase (fun j => j ≠ 0) ∧
      u.pageSeq = (if b = true ∧ s.bit Reg.hostStatusBase 0 = false then [] else s.pageSeq) ∧
      s.onlyRegs { u with pageSeq := s.pageSeq } [Reg.hostStatusBase])) ∧
    (∀ b : Bool, Answers (.hostRingEnable none b) s (fun u => u.bit Reg.hostCmdCfg 31 = b ∧
      s.sameBits u Reg.hostCmdCfg (fun j => j ≠ 31) ∧ s.onlyRegs u [Reg.hostCmdCfg])) ∧
    (∀ q : PartId, let x := s.slot q
      Answers (.hostRingEnable (some q) false) s (fun u => u.ringOn q = false ∧
        s.sameBits u (Reg.hostRingCfg q) (fun j => j ≠ 31) ∧ s.onlyRegs u [Reg.hostRingCfg q]) ∧
      (s.ringOn q = false → x.outHeld = [] → x.released = none → Answers (.hostRingEnable (some q) true) s (fun u =>
        u.ringOn q = true ∧ (u.slot q).seqRead = x.svc.head ∧ s.onlyRegs { u with slots := s.slots } [Reg.hostRingCfg q])) ∧
      (∀ v : Word, (sub32 v.toNat x.svcSaved.head ≤ s.seqSize q → Answers (.hostSeqTailWrite q v) s (fun u =>
          u.rd (Reg.hostSeqTail q) = v ∧ s.onlyRegs u [Reg.hostSeqTail q])) ∧
        (s.seqSize q < sub32 v.toNat x.svcSaved.head → s.bit (Reg.hostSlotErr q) 31 = false →
          Answers (.hostSeqTailWrite q v) s (fun u => u.rd (Reg.hostSlotErr q) = 0x82020000 ∧ s.onlyRegs u [Reg.hostSlotErr q]))) ∧
      (∀ (e : SeqEntry) (data : List Byte), s.seqReady q = true → e.input = 1 →
        let toks := (List.range e.len).map (fun i => leNat ((data.drop (4 * i)).take 4))
        (subBad (s.svc q) x.svc e toks = false → Answers (.submit q e (.ok data)) s (fun u => u.regs = s.regs ∧
          (u.slot q).seqRead = (x.seqRead + 1) % 0x100000000 ∧ (u.slot q).svc.seqs = x.svc.seqs ∧
          ∃ v : Sub, (u.slot q).svc.waiting = x.svc.waiting ++ [v] ∧ v.key = e.key ∧ v.prompt = toks ∧ v.maxNew = e.maxNew)) ∧
        (subBad (s.svc q) x.svc e toks = true → x.outHeld = [] → Answers (.submit q e (.ok data)) s (fun u => u.regs = s.regs ∧
          (u.slot q).seqRead = (x.seqRead + 1) % 0x100000000 ∧ (u.slot q).svc = x.svc ∧ (u.slot q).tokens = x.tokens)) ∧
        (∀ st, Answers (.submit q e (.error st)) s (fun u => u.ringOn q = false ∧ u.bit (Reg.hostSlotErr q) 31 = true))) ∧
      (∀ key, s.seqReady q = true → Answers (.cancel q ⟨0, 0, 0, key, 0, 0, 0, 0, 0, [], 0⟩) s (fun u =>
        u.slot q = { x with seqRead := (x.seqRead + 1) % 0x100000000, cancels := x.cancels ++ [(x.seqRead, key)] } ∧
        u.regs = s.regs)) ∧
      (∀ us, s.collarRuns = true → x.going = true → s.quiet q = true → s.svcHolds q = true → s.epochPoint q = false →
        (s.svc q).serve = true → x.svc.rows = [] → x.cancels = [] → x.released = none →
        Answers (.stepBoundaryService q us) s (fun u => (u.slot q).served = true ∧ (u.slot q).holdUs = us ∧
          (u.slot q).svc.rows = (assignGo (s.svc q) (s.svc q).batchRows x.svc.seqs).1)) ∧
      (∀ bs : List Byte, x.partDue = true → x.served = false → s.ringOn q = true → s.hostUp = true →
        (s.svc q).partialBytes ≤ s.fld (Reg.hostRingCfg q) 0 16 * 4096 →
        s.collarRead q (s.svc q).serviceAddr (s.svc q).partialBytes = (s, some bs) →
        Answers (.partialHostCopy q) s (fun u => let base := s.rd64 (Reg.hostPartBase q) / 4096 * 4096
          u.slot q = { x with partDue := false, partHostSeq := x.partHostSeq + 2, partValid := true } ∧
          mread u.host base (8 + (bs.drop 8).length) = leBytes 8 (x.partHostSeq + 2) ++ bs.drop 8 ∧ u.regs = s.regs)) ∧
      (∀ (v : Word) (ent : List Byte), x.outHeld = [ent] → ent.length = 32 → s.ringOn q = true → s.hostUp = true →
        x.released = none → sub32 x.outTail v.toNat < s.outSize q → Answers (.hostOutHeadWrite q v) s (fun u =>
          u.rd (Reg.hostOutHead q) = v ∧ (u.slot q).outHeld = [] ∧ (u.slot q).outTail = (x.outTail + 1) % 0x100000000 ∧
          mread u.host (s.rd64 (Reg.hostOutBase q) + 32 * (x.outTail % s.outSize q)) 32 = ent ∧
          s.onlyRegs { u with slots := s.slots, host := s.host } [Reg.hostOutHead q]))) ∧
    (∀ off len, s.d3 = false →
      (s.apertureOk off len false = true → s.hbmClean (s.apertureOff off) len → Answers (.bar2Read off len) s (fun u =>
        u = { s with reply := mread s.hbm (s.apertureOff off) len })) ∧
      (s.apertureOk off len false = false → Answers (.bar2Read off len) s (fun u => u.reply = List.replicate len 0 ∧
        u.bit Reg.hostApertureStatus 0 = true ∧ u.hbm = s.hbm)) ∧
      (∀ bs : List Byte, s.apertureOk off bs.length true = true → s.needImage (s.apertureOff off) bs.length = [] →
        Answers (.bar2Write off (bs.map some)) s (fun u => s.hbmStored u (s.apertureOff off) bs ∧ u.regs = s.regs)) ∧
      (∀ bs : List Byte, s.apertureOk off bs.length true = false → Answers (.bar2Write off (bs.map some)) s (fun u =>
        u.hbm = s.hbm ∧ u.bit Reg.hostApertureStatus 0 = true))) ∧
    (Answers .functionLevelReset s (fun u => s.functionIsReset u ∧ u.perst = s.perst ∧ u.linkUp = s.linkUp) ∧
      (s.rail = true → Answers .perstAssert s (fun u => s.functionIsReset u ∧ u.perst = true ∧ u.linkUp = false)) ∧
      (s.rail = false → exec .perstAssert s = .next s) ∧
      (s.rail = true → Answers .perstRelease s (fun u => u = { s with perst := false, linkUp := s.domainOn 30 })) ∧
      Answers .pcieLinkDown s (fun u => s.functionIsReset u ∧ u.linkUp = false)) ∧
    (∀ st : BitVec 16, Answers (.pcieCompletionTimeout .command st) s (fun u => u.cmdOn = false ∧ u.bit Reg.hostErr 31 = true ∧
        s.sameBits u Reg.hostCmdCfg (fun j => j ≠ 31)) ∧
      Answers (.pcieCompletionTimeout .status st) s (fun u => u.bit Reg.hostStatusBase 0 = false ∧ u.bit Reg.hostErr 31 = true) ∧
      (∀ q : PartId, Answers (.pcieCompletionTimeout (.output q) st) s (fun u => u.ringOn q = false ∧
        u.bit (Reg.hostSlotErr q) 31 = true)) ∧
      ∀ (t : TileId) (q : QueueId) (txn pos : Nat), s.hostXferPos t q txn = some pos → s.qCancelling t q = false →
        s.taskOver t (s.qOwner t q) = false → Answers (.pcieCompletionTimeout (.dma t q txn) st) s (fun u =>
          u.taskState t (s.qOwner t q) = taskAborted)) ∧
    (s.domainOn 30 = true → s.perst = false → ∀ d : Option Bool,
      (s.fld Reg.bootStatus 29 3 < 5 → Answers (.pcieConfigurationRequest d) s (fun u => u = { s with reply := [2], linkUp := true })) ∧
      (5 ≤ s.fld Reg.bootStatus 29 3 → Answers (.pcieConfigurationRequest d) s (fun u =>
        u = { s with reply := [0], linkUp := true, d3 := d.getD s.d3 })))
/-! ## Clocks, power, boot and resets (spec 16, 17) -/

namespace Sys2Proof.Machine

/-- Boot has begun after a reset of `kind`: tiles, slots, memory and locks are as after reset, the Collar waits for its
firmware, and the words that `keep` selects are as they were; every other word but those of `as` is at its reset value. LOST
went out first (R531). -/
def State.restarted (s u : State) (kind : Nat) (keep : Nat → Bool) (as : List Nat) : Prop :=
  u.resetKind = kind ∧ u.rd Reg.bootStatus = 0x20000000 ∧ u.rd Reg.collarStatus = 0x40000000 ∧ u.pocket = [] ∧ u.hbm = [] ∧
  u.tiles = [] ∧ (∀ q, u.slot q = Slot.init) ∧ u.cmds = [] ∧ u.loading = none ∧ u.stopped = false ∧ u.lostSent = s.lostNow 0 ∧
  (∀ a, keep a = true → u.rd a = s.rd a) ∧
  (∀ a, keep a = false → a ≠ Reg.bootStatus → a ≠ Reg.collarStatus → a ∉ as → u.rd a = regReset a)

/-- What a warm reset keeps: identity, backup domain, log, ENV_STATUS and ENV_TRIP (R513, R516, R530). -/
def warmKeeps (a : Nat) : Bool := a < 0x40 || backupWord a || logWord a || a == Reg.envStatus || a == Reg.envTrip

/-- A warm reset: an armed firmware slot stays armed (R457). -/
def State.warmStarted (s u : State) : Prop :=
  s.restarted u 3 warmKeeps [Reg.mirrorFwArm] ∧ u.bit Reg.mirrorFwArm 0 = s.bit Reg.mirrorFwArm 0

/-- A cold reset: the backup domain and the log go too; CAL_STATUS keeps only what the supercapacitor shows. -/
def State.coldStarted (s u : State) : Prop :=
  s.restarted u 4 (fun a => a < 0x40 || a == Reg.envStatus) [Reg.calStatus] ∧
  u.rd Reg.calStatus = s.rd Reg.calStatus &&& 0x200000FF

/-- RST_CTRL accepts a request: the key is right and no reset is in progress (R531). -/
def State.mayReset (s : State) (key : BitVec 16) : Prop := key = 0xA5C3#16 ∧ s.rstScope = 0

end Sys2Proof.Machine

/-- R492, R495, R498, R499, R501-R508, R511-R513: tile clocks stop, operating points change step by step, domains and deep
idle switch, and the calendar is set. -/
def Obligations.ClocksAndPowerChange : Prop :=
  ∀ (s : State),
    (∀ t : TileId, (s.tileBusy t = false → s.bit Reg.clkGateCfg (t / 64) = false → Answers (.tileClockStop t) s (fun u =>
        u = s.setTile t { s.tile t with clockStopped := true })) ∧
      (s.tileBusy t = true ∨ s.bit Reg.clkGateCfg (t / 64) = true → exec (.tileClockStop t) s = .next s)) ∧
    (∀ p : PanelId, let c := s.panelClk p
      let status := Reg.clkPanelStatus p
      (∀ i : Fin 4, c.phase = 0 → Answers (.operatingPointSelect p i) s (fun u =>
        u.fld (Reg.clkPanelPoint p) 0 2 = i.val ∧ u.bit status 31 = true ∧ s.sameBits u status (fun j => j < 31) ∧
        u.panelClk p = { phase := if s.fld status 16 10 < (s.pointOf p i).2 then 1 else 2, target := i.val, next := none } ∧
        s.onlyRegs { u with panelClks := s.panelClks } [Reg.clkPanelPoint p, status])) ∧
      (∀ i : Fin 4, c.phase ≠ 0 → Answers (.operatingPointSelect p i) s (fun u =>
        u.panelClk p = { c with next := some i.val } ∧ u.rd status = s.rd status)) ∧
      (c.phase = 1 → Answers (.supplyRampDone p) s (fun u => u.fld status 16 10 = (s.pointOf p c.target).2 ∧
        u.fld status 0 11 = s.fld status 0 11 ∧ u.panelClk p = { c with phase := 2 } ∧
        s.onlyRegs { u with panelClks := s.panelClks } [status])) ∧
      (c.phase = 2 → (s.pointOf p c.target).2 < s.fld status 16 10 → Answers (.clockPauseEnd p) s (fun u =>
        u.fld status 0 11 = (s.pointOf p c.target).1 ∧ u.fld status 16 10 = s.fld status 16 10 ∧
        u.panelClk p = { c with phase := 3 } ∧ s.onlyRegs { u with panelClks := s.panelClks } [status])) ∧
      (c.phase = 2 → s.fld status 16 10 = (s.pointOf p c.target).2 → c.next = none → c.target < 4 →
        Answers (.clockPauseEnd p) s (fun u => u.fld status 0 11 = (s.pointOf p c.target).1 ∧ u.fld status 28 2 = c.target ∧
          u.bit status 31 = false ∧ u.panelClk p = { c with phase := 0 } ∧
          (u.rd Reg.clkStatTransitions).toNat = Min.min 0xFFFFFFFF ((s.rd Reg.clkStatTransitions).toNat + 1)))) ∧
    (s.bit Reg.pwrCtrl 0 = false → (s.allIdle = true ∧ s.loading = none ∧ s.pwrState ≠ 3 → Answers .deepIdleEnter s (fun u =>
        u.bit Reg.pwrCtrl 0 = true ∧ (∀ d ∈ idleDomains, u.domainOn d = false) ∧
        (∀ p, p < 16 → s.bit (Reg.fabPortCtrl p) 0 = true → u.portState p = 0) ∧ u.hbm = s.hbm ∧ u.slots = s.slots)) ∧
      (s.allIdle = false ∨ s.loading.isSome = true → Answers .deepIdleEnter s (fun u => u.bit Reg.pwrCtrl 1 = true ∧
        s.sameBits u Reg.pwrCtrl (fun j => j ≠ 1) ∧ s.onlyRegs u [Reg.pwrCtrl]))) ∧
    (s.bit Reg.pwrCtrl 0 = true → Answers .deepIdleLeave s (fun u => u.bit Reg.pwrCtrl 0 = false ∧
      (∀ d ∈ idleDomains, s.domainOn d = false → u.domainWaking d = true) ∧
      s.onlyRegs u [Reg.pwrCtrl, Reg.pwrState, Reg.pwrDomainWaking])) ∧
    (∀ d : Fin 30, s.domainWaking (d + 1) = true → s.cmds = [] →
      (∀ p, p < 4 → d.val + 1 = 5 + p ∨ d.val + 1 = 9 + p → s.panelHeld p = true) →
      Answers (.powerDomainWakeDone d) s (fun u => u.domainOn (d + 1) = true ∧ u.domainWaking (d + 1) = false ∧
        u.slots = s.slots ∧ u.hbm = s.hbm)) ∧
    (∀ p : PanelId, s.fld Reg.pwrComputeAuto 0 20 ≠ 0 →
      (∀ j, j < 64 → s.bit (Reg.seamStatus (64 * p + j)) 7 = false ∧ s.bit (Reg.sleeveStatus (64 * p + j)) 15 = false) →
      Answers (.computeIdleOff p) s (fun u => u.domainOn (5 + p) = false ∧
        s.sameBits u Reg.pwrDomainOn (fun j => j ≠ 4 + p.val) ∧ s.onlyRegs u [Reg.pwrDomainOn, Reg.pwrDomainWaking])) ∧
    Answers .calCtrlSet s (fun u => u = { s with calSet := some (s.rd64 Reg.calSet) }) ∧
    (∀ v, s.calSet = some v → Answers .calSetLoad s (fun u => u.rd64 Reg.calNow = v % 2 ^ 64 ∧ u.bit Reg.calStatus 31 = true ∧
      u.calSet = none ∧ s.onlyRegs { u with calSet := s.calSet } [Reg.calNow, Reg.calNow + 4, Reg.calStatus])) ∧
    (s.rail = false → Answers .supercapacitorHoldLost s (fun u => u.rd64 Reg.calNow = 0 ∧ u.bit Reg.calStatus 31 = false ∧
      u.bit Reg.calStatus 30 = true ∧ (∀ i, i < 64 → u.rd (Reg.backupMem i) = 0) ∧
      (∀ a, backupWord a = false → u.rd a = s.rd a) ∧ u.hbm = s.hbm))

/-- R457, R517-R520, R522-R526, R561: the steps of boot, the choice of a firmware slot, recovery, updates, activation and the
key store. -/
def Obligations.BootAndFirmwareSteps : Prop :=
  ∀ (s : State),
    (s.rail = false → Answers .railRise s (fun u => u.rail = true ∧ u.resetKind = 5 ∧ u.rd Reg.bootStatus = 0x20000000 ∧
      u.bit Reg.calStatus 29 = false ∧ s.onlyRegs { u with rail := false, resetKind := s.resetKind }
        [Reg.bootStatus, Reg.collarStatus, Reg.calStatus])) ∧
    (∀ high, s.rail = true → Answers (.conversionStop high) s (fun u => u.rail = false ∧ u.pocket = [] ∧ u.hbm = [] ∧
      u.tiles = [] ∧ u.lostSent = (if s.stopped then [] else s.lostNow 0x14) ∧ u.bit Reg.calStatus 29 = true ∧ (∀ i, i < 64 → u.rd (Reg.backupMem i) = s.rd (Reg.backupMem i)) ∧
      ∀ a, backupWord a = false → u.rd a = regReset a)) ∧
    (s.rail = true → s.warmLow = false → s.coldLow = false → s.stopped = false → s.bit Reg.bootStatus 28 = false →
      let step (n : Nat) : Prop := s.fld Reg.bootStatus 29 3 = n
      let next (u : State) (n : Nat) : Prop := u.fld Reg.bootStatus 29 3 = n
      (step 1 → s.rd Reg.envStatus = 0 → Answers .bootStepComplete s (fun u => next u 2 ∧ u.domainOn 4 = true ∧
        u.domainOn 30 = true ∧ u.linkUp = !s.perst)) ∧
      (step 1 → s.rd Reg.envStatus ≠ 0 → exec .bootStepComplete s = .next s) ∧
      (step 3 → s.selector < 2 → s.verifyFw (s.fwSlot s.selector) = fwOk → Answers .bootStepComplete s (fun u => next u 4 ∧
        u.fwActive = s.selector ∧ s.onlyRegs u [Reg.bootStatus])) ∧
      (step 3 → s.selector < 2 → s.verifyFw (s.fwSlot s.selector) ≠ fwOk → s.verifyFw (s.fwSlot (1 - s.selector)) = fwOk →
        Answers .bootStepComplete s (fun u => next u 4 ∧ u.fwActive = 1 - s.selector ∧ u.bit Reg.bootStatus 27 = true)) ∧
      (step 3 → s.selector < 2 → s.verifyFw (s.fwSlot 0) ≠ fwOk → s.verifyFw (s.fwSlot 1) ≠ fwOk →
        Answers .bootStepComplete s (fun u => next u 3 ∧ u.bit Reg.bootStatus 28 = true ∧ u.bit Reg.bootStatus 24 = true)) ∧
      (step 4 → Answers .bootStepComplete s (fun u => next u 5 ∧ u.fld Reg.collarStatus 0 8 = 0xFF ∧
        u.rd (Reg.backupMem 0) = s.rd (Reg.backupMem 0) + 1 ∧ u.domainOn 17 = true)) ∧
      (step 5 → Answers .bootStepComplete s (fun u => next u 6 ∧ u.pocket = [] ∧ u.hbm = [] ∧
        ∀ p, p < 4 → u.domainOn (13 + p) = true)) ∧
      (step 6 → s.cmds = [] → Answers .bootStepComplete s (fun u => next u 7 ∧ u.fld Reg.collarStatus 30 2 = 2 ∧
        u.resetKind = 0))) ∧
    (s.bit Reg.bootStatus 24 = true → Answers .bootRecoveryGo s (fun u => u = { s with recovering := true })) ∧
    (s.bit Reg.bootStatus 24 = false → exec .bootRecoveryGo s = .next s) ∧
    (s.recovering = true → ∀ (img : List Byte) (want : Nat), img.length = want →
      want = 4096 * (if s.fld Reg.bootRecoveryCtrl 0 13 = 0 then 8192 else s.fld Reg.bootRecoveryCtrl 0 13) →
      (s.verifyFw img = fwOk → Answers (.recoveryImageVerified img) s (fun u => s.warmStarted u ∧
        u.fwSlot 0 = img ∧ u.selector = 0)) ∧
      (s.verifyFw img ≠ fwOk → Answers (.recoveryImageVerified img) s (fun u => u.recovering = false ∧ u.fwSlots = s.fwSlots ∧
        s.onlyRegs { u with recovering := true } [Reg.bootRecoveryCtrl]))) ∧
    (s.collarUp = true →
      (s.fld Reg.fwUpdateStatus 29 3 = 1 → Answers .fwUpdateGo s (fun u => u.fld Reg.fwUpdateStatus 24 4 = 9 ∧
        u.fld Reg.fwUpdateStatus 29 3 = 1 ∧ s.onlyRegs u [Reg.fwUpdateStatus])) ∧
      (s.fld Reg.fwUpdateStatus 29 3 = 0 → s.sourceOk (s.rd64 Reg.fwUpdateAddr) (s.rd Reg.fwUpdateLen).toNat = true →
        Answers .fwUpdateGo s (fun u => u.fld Reg.fwUpdateStatus 29 3 = 1 ∧ u.fld Reg.fwUpdateStatus 28 1 = 1 - s.fwActive ∧
          s.onlyRegs u [Reg.fwUpdateStatus, Reg.mirrorFwArm]))) ∧
    (s.fld Reg.fwUpdateStatus 29 3 = 1 → ∀ img : List Byte, let i := s.fld Reg.fwUpdateStatus 28 1
      let bytes := s.sourceBytes (s.rd64 Reg.fwUpdateAddr) (s.rd Reg.fwUpdateLen).toNat img
      (s.verifyFw bytes = fwOk → Answers (.fwUpdateVerified img) s (fun u => u.fwSlot i = bytes ∧ u.fwSlot (1 - i) = s.fwSlot (1 - i) ∧
        u.fld Reg.fwUpdateStatus 29 3 = 3 ∧ u.selector = s.selector)) ∧
      (s.verifyFw bytes ≠ fwOk → Answers (.fwUpdateVerified img) s (fun u => u.fld Reg.fwUpdateStatus 29 3 = 4 ∧
        (u.fwSlot i).take 512 = List.replicate 512 0 ∧ u.fwSlot (1 - i) = s.fwSlot (1 - i)))) ∧
    (s.collarUp = true → s.bit Reg.mirrorFwArm 0 = true → s.mayActivate = true → let i := s.fld Reg.mirrorFwArm 1 1
      (s.verifyFw (s.fwSlot i) = fwOk → Answers (.firmwareActivate true) s (fun u => u.selector = i ∧ u.fwActive = i ∧
        u.bit Reg.mirrorFwArm 0 = false ∧ u.slots = s.slots ∧ u.hbm = s.hbm)) ∧
      (s.verifyFw (s.fwSlot i) ≠ fwOk → Answers (.firmwareActivate true) s (fun u => u.bit Reg.mirrorFwArm 2 = true ∧
        s.sameBits u Reg.mirrorFwArm (fun j => j ≠ 2) ∧ s.onlyRegs u [Reg.mirrorFwArm]))) ∧
    (∀ rec : List Byte, s.collarUp = true → let r := s.sourceBytes (s.rd64 Reg.secKeyAddr) 256 rec
      let slot := leNat ((r.drop 1).take 1)
      (s.keyResult r = 0 → Answers (.secKeyGo rec) s (fun u => u.keyCount = (s.keyCount + 1) % 0x100000000 ∧
        u.rd Reg.secKeyCounter = BitVec.ofNat 32 (s.keyCount + 1) ∧ u.fld Reg.secKeyStatus 30 2 = 2 ∧
        (leNat (r.take 1) = 1 → tfind u.custKeys slot = some ((r.drop 0x20).take 96)) ∧
        (leNat (r.take 1) ≠ 1 → tfind u.custKeys slot = none) ∧
        ∀ j, j ≠ slot → tfind u.custKeys j = tfind s.custKeys j)) ∧
      (s.keyResult r ≠ 0 → Answers (.secKeyGo rec) s (fun u => u.custKeys = s.custKeys ∧ u.keyCount = s.keyCount ∧
        u.fld Reg.secKeyStatus 30 2 = 3 ∧ s.onlyRegs u [Reg.secKeyStatus])))

/-- R521: SVN_COMMIT with the correct key sets SVN_MIN to the SVN of the active slot where both slots verify with an SVN at or
above it, and blows the revocation fuse of Terbor key 0 where the active slot has KEY_INDEX 1 and REVOKE_KEY0 = 1; otherwise
nothing changes and COMMIT_REFUSED is set. Over every step of every state the fuse count only rises and a revoked key stays
revoked. -/
def Obligations.SvnCommitBlowsFuses : Prop :=
  (∀ (s : State) (v : Word), let head (i off : Nat) : Nat := leNat (((s.fwSlot i).drop off).take 1)
    let a := s.fwActive
    let n := head a 8
    let ok : Prop := s.verifyFw (s.fwSlot 0) = fwOk ∧ s.verifyFw (s.fwSlot 1) = fwOk ∧ n ≤ head (1 - a) 8
    (fieldOf v 16 16 ≠ 0xA5C3 ∨ v.getLsbD 0 = false → exec (.svnCommit v) s = .next s) ∧
    (fieldOf v 16 16 = 0xA5C3 → v.getLsbD 0 = true → s.collarUp = true →
      (ok → Answers (.svnCommit v) s (fun u => u.svnMin = n ∧
        u.revoked = (if head a 9 = 1 ∧ (head a 10).testBit 0 = true then s.revoked ||| 1 else s.revoked) ∧
        u.fwSlots = s.fwSlots ∧ s.onlyRegs { u with svnMin := s.svnMin, revoked := s.revoked } [Reg.secSvn])) ∧
      (¬ ok → Answers (.svnCommit v) s (fun u => u.svnMin = s.svnMin ∧ u.revoked = s.revoked ∧ u.bit Reg.secSvn 31 = true ∧
        s.sameBits u Reg.secSvn (fun j => j ≠ 31) ∧ s.onlyRegs u [Reg.secSvn])))) ∧
  ∀ s u : State, step s = .next u → s.fusesKept u

/-- R513, R516, R530-R532, R565: what a tile reset, a partition reset, the module's resets, the reset lands and a hang of the
Collar do; a request with a wrong key is refused. -/
def Obligations.ResetsByScope : Prop :=
  ∀ (s : State),
    (∀ (key : BitVec 16) (t : TileId), s.mayReset key → s.tileResettable t = true → Answers (.tileReset key t) s (fun u =>
      (∀ k, k < 4 → u.taskState t k = taskFree ∧ u.suitState t k = suitFree) ∧ u.tile t = { u.tile t with tasks := [], suits := [], queues := [] } ∧
      u.fld Reg.rstStatus 28 4 = 1 ∧ u.fld Reg.rstStatus 0 8 = t.val ∧ u.pocket = s.pocket ∧ u.hbm = s.hbm ∧
      u.slots = s.slots ∧ ∀ j, j ≠ t.val → u.tile j = s.tile j)) ∧
    (∀ (key : BitVec 16) (q : PartId), s.mayReset key → s.cmds = [] → (s.slot q).state ≠ .idle → (s.slot q).tiles ≠ 0 →
      (s.slot q).resetting = false → Answers (.partitionReset key q) s (fun u => (u.slot q).resetting = true ∧
        u.fld Reg.rstStatus 0 8 = q.val ∧ (∀ t ∈ s.tilesOf q, u.bit (Reg.pocketStatus t) 7 = true ∧
          ∀ k, k < 4 → u.taskState t k = taskFree) ∧ ∀ p, p ≠ q.val → u.slot p = s.slot p)) ∧
    (∀ q : PartId, (s.slot q).resetting = true → s.wipesDone q = true → s.loading = none → s.cmds = [] →
      Answers (.partitionResetDone q) s (fun u => (u.slot q).state = .idle ∧ (u.slot q).tiles = 0 ∧ (u.slot q).locks = 0 ∧
        (u.slot q).resetting = false ∧ (u.slot q).fault = 0 ∧ ∀ p, p ≠ q.val → u.slot p = s.slot p)) ∧
    (∀ key : BitVec 16, s.mayReset key →
      Answers (.warmModuleReset key) s (fun u => s.warmStarted u ∧ u.rail = s.rail) ∧
      Answers (.coldReset key) s (fun u => s.coldStarted u ∧ u.rail = s.rail)) ∧
    (∀ key : BitVec 16, key ≠ 0xA5C3#16 → ∀ c : Instr, (∃ t, c = .tileReset key t) ∨ c = .warmModuleReset key ∨ c = .coldReset key →
      Answers c s (fun u => u.bit Reg.rstStatus 27 = true ∧ s.sameBits u Reg.rstStatus (fun j => j ≠ 27) ∧
        s.onlyRegs u [Reg.rstStatus])) ∧
    (s.collarUp = true → Answers .collarHangTimeout s (fun u => s.warmStarted u)) ∧
    (∀ us : Nat, (us < 10 → exec (.warmRstPin true us) s = .next s ∧ exec (.coldRstPin true us) s = .next s) ∧
      (10 ≤ us → s.rail = true →
        (s.warmLow = false → Answers (.warmRstPin true us) s (fun u => s.warmStarted u ∧ u.warmLow = true) ∧
          Answers (.warmRstPin false us) s (fun u => s.warmStarted u ∧ u.warmLow = false)) ∧
        (s.coldLow = false → Answers (.coldRstPin true us) s (fun u => s.coldStarted u ∧ u.coldLow = true)))) ∧
    (∀ us : Nat, s.warmLow = true → Answers (.warmRstPin false us) s (fun u => u = { s with warmLow := false }))
/-! ## Faults, monitors and the management buses (spec 18, 19) -/

/-- R539, R543, R545-R551, R553: the Collar takes the oldest stop; the log takes records in order and is cleared by its key; a
monitor that trips stops the module for good; the HBM pass corrects a word or charges it. -/
def Obligations.FaultsLogAndMonitors : Prop :=
  ∀ (s : State),
    (s.stops = [] → exec .faultJobStop s = .next s) ∧
    (∀ (r : StopReq) (rest : List StopReq), s.stops = r :: rest → r.part < 8 → s.cmds = [] →
      let x := s.slot r.part
      x.state = .running → x.resetting = false → s.fld (Reg.mirrorStatus r.part) 20 8 < s.fld (Reg.mirrorCfg r.part) 16 4 →
      Answers .faultJobStop s (fun u => u.stops = rest ∧ (u.slot r.part).state = .restoring ∧ (u.slot r.part).restart = 1 ∧
        (u.slot r.part).fault = r.code ∧ (u.slot r.part).faultSub = r.sub ∧ (u.slot r.part).faultUnit = r.unit ∧
        (∀ t ∈ s.tilesOf r.part, ∀ k, k < 4 → u.taskState t k = taskFree) ∧ u.pocket = s.pocket ∧ u.hbm = s.hbm)) ∧
    (s.flogQ = [] → exec .faultRecordWrite s = .next s) ∧
    (∀ (r : FaultRec) (rest : List FaultRec), s.flogQ = r :: rest → Answers .faultRecordWrite s (fun u =>
      let n := (s.rd Reg.flogNext).toNat
      u.flogQ = rest ∧ (u.rd Reg.flogNext).toNat = (n + 1) % 0x100000000 ∧
      (u.rd (Reg.flogRecord (n % 4096) 2)).toNat = n ∧ (u.rd (Reg.flogRecord (n % 4096) 3)).toNat % 256 = r.code % 256 ∧
      (∀ i, i < 16 → u.rd (Reg.flogRecord (n % 4096) (16 + i)) = s.rd (4 * i)) ∧
      s.onlyRegs { u with flogQ := s.flogQ } (Reg.flogNext :: (List.range 32).map (fun i => Reg.flogRecord (n % 4096) i)))) ∧
    (∀ v : Word, (fieldOf v 16 16 = 0xA5C3 → v.getLsbD 0 = true → Answers (.flogCtrlClear v) s (fun u =>
        (∀ a, logWord a = true → u.rd a = regReset a) ∧ (∀ a, logWord a = false → u.rd a = s.rd a) ∧ u.flogQ = s.flogQ)) ∧
      (fieldOf v 16 16 ≠ 0xA5C3 ∨ v.getLsbD 0 = false → exec (.flogCtrlClear v) s = .next s)) ∧
    (∀ high below : BitVec 9, s.rail = true →
      let out := (high ||| below).toNat
      (out &&& s.armed = 0 → Answers (.envMonitorTrip high below) s (fun u =>
        u.rd Reg.envStatus = s.rd Reg.envStatus ||| BitVec.ofNat 32 out ∧ s.onlyRegs u [Reg.envStatus])) ∧
      (out &&& s.armed ≠ 0 → s.stopped = false → Answers (.envMonitorTrip high below) s (fun u => u.stopped = true ∧
        u.rd Reg.envTrip = s.rd Reg.envTrip ||| BitVec.ofNat 32 (out &&& s.armed) ∧ u.stops = [] ∧
        (∀ q, q < 8 → (s.slot q).tiles ≠ 0 → (u.slot q).state = .faulted ∧ (u.slot q).fault = 0x14) ∧
        (∀ d ∈ idleDomains, u.domainOn d = false) ∧ ∀ p, p < 16 → u.portState p = 0))) ∧
    Answers .envWithinLimits s (fun u => u.rd Reg.envStatus = 0 ∧ s.onlyRegs u [Reg.envStatus]) ∧
    (∀ w, 32 * w < hbmBytes → s.domainOn (18 + hbmController (32 * w)) = true →
      let c := hbmController (32 * w)
      (tfind s.hbmErr w = none → exec (.hbmScrubStep w none) s = .next s) ∧
      (tfind s.hbmErr w = none → Answers (.hbmScrubStep w (some false)) s (fun u => tfind u.hbmErr w = none ∧ u.hbm = s.hbm ∧
        (u.rd (Reg.hbmCeCount c)).toNat = Min.min 0xFFFFFFFF ((s.rd (Reg.hbmCeCount c)).toNat + 1) ∧
        s.onlyRegs { u with hbmErr := s.hbmErr } [Reg.hbmCeCount c])) ∧
      (∀ q, s.hbmWhere (32 * w) = (0, q) → (s.slot q).state = .running → Answers (.hbmScrubStep w (some true)) s (fun u =>
        (u.rd (Reg.hbmUeCount c)).toNat = Min.min 0xFFFFFFFF ((s.rd (Reg.hbmUeCount c)).toNat + 1) ∧
        u.bit (Reg.hbmErrInfo c) 31 = true ∧ u.hbm = s.hbm ∧
        ∃ st, u.stops = s.stops ++ [st] ∧ st.part = q ∧ st.code = 0x0E)))

namespace Sys2Proof.Machine

/-- The command answers the bytes `bs` on its bus and changes nothing else. -/
def State.replies (s : State) (c : Instr) (bs : List Byte) : Prop := Answers c s (fun u => u = { s with reply := bs })

end Sys2Proof.Machine

/-- R566, R567: what the PMBus commands and the instructions of the test access port answer from boot step 2 on; before it the
PMBus NACKs. -/
def Obligations.ManagementBusAnswers : Prop :=
  ∀ (s : State),
    (s.busUp = true →
      Answers .clearFaults s (fun u => u = { s with reply := [], pmbus := { s.pmbus with input := 0, temp := 0, cml := 0 } }) ∧
      s.replies .capability [0xB0] ∧
      Answers .statusWord s (fun u => u = { s with reply := u.reply } ∧ u.reply.length = 2 ∧
        ((leNat u.reply).testBit 13 = (s.pmbus.input != 0)) ∧ ((leNat u.reply).testBit 3 = s.pmbus.input.getLsbD 4) ∧
        ((leNat u.reply).testBit 2 = (s.pmbus.temp != 0)) ∧ ((leNat u.reply).testBit 1 = (s.pmbus.cml != 0))) ∧
      s.replies .statusInput [s.pmbus.input] ∧ s.replies .statusTemperature [s.pmbus.temp] ∧ s.replies .statusCml [s.pmbus.cml] ∧
      s.replies .readVin (leBytes 2 s.pmbus.vin.toNat) ∧ s.replies .readIin (leBytes 2 s.pmbus.iin.toNat) ∧
      s.replies .readTemperature1 (leBytes 2 s.pmbus.temp1.toNat) ∧ s.replies .readTemperature2 (leBytes 2 s.pmbus.temp2.toNat) ∧
      s.replies .readPin (leBytes 2 s.pmbus.pin.toNat) ∧ s.replies .pmbusRevision [0x44] ∧
      s.replies .mfrId [6, 0x54, 0x45, 0x52, 0x42, 0x4F, 0x52] ∧
      s.replies .mfrModel [15, 0x41, 0x4C, 0x2D, 0x47, 0x4B, 0x32, 0x35, 0x36, 0x2D, 0x48, 0x33, 0x38, 0x34, 0x2D, 0x43] ∧
      Answers .mfrSerial s (fun u => u = { s with reply := u.reply } ∧ ∃ n bs, u.reply = n :: bs ∧ bs.length = n.toNat ∧
        bs = ((List.range 4).flatMap (fun i => leBytes 4 (s.rd (Reg.idSerial i)).toNat)).filter (· != 0)) ∧
      (∀ code : BitVec 8, pmbusCodes.contains code.toNat = false → Answers (.pmbusUnsupportedCommand code) s (fun u =>
        u = { s with reply := [], pmbus := { s.pmbus with cml := s.pmbus.cml ||| 0x80 } })) ∧
      (∀ x : Telemetry, Answers (.pmbusTelemetryRefresh x) s (fun u => u.rd Reg.pwrInput = x.input ∧
        u.fld Reg.calStatus 0 8 = x.charge.val ∧
        u.pmbus = { s.pmbus with vin := x.vin, iin := x.iin, temp1 := x.temp1, temp2 := x.temp2, pin := x.pin } ∧
        s.onlyRegs { u with pmbus := s.pmbus } [Reg.pwrInput, Reg.calStatus])) ∧
      Answers .bypass s (fun u => u = { s with tap := .bypass, reply := [] }) ∧
      Answers .samplePreload s (fun u => u = { s with tap := .samplePreload, reply := [] }) ∧
      Answers .idcode s (fun u => u = { s with tap := .idcode, reply := [0x01, 0xC0, 0x71, 0x1A] }) ∧
      (s.warmLow = false → s.coldLow = false → Answers .extest s (fun u => u = { s with tap := .samplePreload, reply := [] }))) ∧
    (s.warmLow = true ∨ s.coldLow = true → Answers .extest s (fun u => u = { s with tap := .extest, reply := [] })) ∧
    (s.busUp = false → s.replies .capability [] ∧ s.replies .statusWord [] ∧ s.replies .readVin [] ∧ s.replies .clearFaults [] ∧
      ∀ code, pmbusCodes.contains code.toNat = false → s.replies (.pmbusUnsupportedCommand code) [])
/-! ## The loader, control space and the paired groups (spec 00, 02, 20) -/

/-- R46-R52: START begins a load or sets BUSY_REFUSED; an image that passes goes to APPLYING, a refused one leaves the slot as
it was with FAULT 0x17; application takes the partition's tiles and ends READY. -/
def Obligations.LoaderRunsImages : Prop :=
  ∀ (s : State), s.cmds = [] →
    (∀ p : PartId, s.stopped = false → let x := s.slot p
      (s.loading.isSome = true → Answers (.structLoadStart p) s (fun u => u.bit Reg.structLoadStatus 4 = true ∧
        s.sameBits u Reg.structLoadStatus (fun j => j ≠ 4) ∧ s.onlyRegs u [Reg.structLoadStatus])) ∧
      (s.loading = none → Answers (.structLoadStart p) s (fun u => u.loadState = loadChecking ∧
        u.slot p = (if x.state.busy then x else { x with state := .loading }) ∧
        (∃ l, u.loading = some l ∧ l.part = p.val ∧ l.prior = x.state ∧ l.addr = s.rd64 Reg.structLoadAddr ∧
          l.len = s.rd64 Reg.structLoadLen ∧ l.restore = false) ∧
        s.onlyRegs { u with slots := s.slots, loading := s.loading } [Reg.structLoadCtrl, Reg.structLoadStatus]))) ∧
    (∀ (l : Load) (img : List Byte), s.loading = some l → l.restore = false → l.charged = false →
      s.loadState = loadChecking → l.image = [] → s.readable l (s.sourceImage l img) = true →
      let b := s.sourceImage l img
      (s.verdict l b = none → l.prior = .idle → s.domainsOn b.domains = true → Answers (.imageChecksPassed img []) s (fun u =>
        u.loadState = loadApplying ∧ u.loading = some { l with image := b.bytes, commits := [] } ∧ u.slots = s.slots ∧
        u.pocket = s.pocket ∧ u.hbm = s.hbm)) ∧
      (s.verdict l b = none → (∀ d ∈ b.domains, s.domainOn d = false) → b.domains ≠ [] → Answers (.imageChecksPassed img []) s
        (fun u => (∀ d ∈ b.domains, u.domainWaking d = true) ∧ s.onlyRegs u [Reg.pwrDomainWaking])) ∧
      (∀ r : Rej, s.verdict l b = some r → r.reason ≠ 0x15 → Answers (.imageRejected img) s (fun u =>
        u.loadState = loadRejected ∧ u.fld Reg.structLoadStatus 24 8 = r.reason % 256 ∧
        u.fld Reg.structLoadStatus 16 8 = r.sec % 256 ∧ u.rd64 Reg.structRejectOffset = r.off % 2 ^ 64 ∧ u.loading = none ∧
        (u.slot l.part).state = (if l.prior = .idle then .faulted else l.prior) ∧ (u.slot l.part).fault = 0x17 ∧
        (u.slot l.part).faultSub = r.reason ∧ (u.slot l.part).tiles = (s.slot l.part).tiles ∧ u.hbm = s.hbm)) ∧
      (∀ r : Rej, s.verdict l b = some r → r.reason = 0x15 → Answers (.imageRejected img) s (fun u =>
        u.loadState = loadRejected ∧ u.fld Reg.structLoadStatus 24 8 = 0x15 ∧ u.loading = none ∧ u.slots = s.slots))) ∧
    (∀ l : Load, s.loading = some l → s.loadState = loadApplying → l.image ≠ [] → l.charged = false →
      let b : Image := ⟨l.image⟩
      ((s.slot l.part).resetting = false → l.applied = false → (s.slot l.part).tiles = 0 → Answers .imageApply s (fun u =>
        (u.slot l.part).tiles = b.tiles ∧ (u.slot l.part).jobId = b.jobId ∧ (u.slot l.part).locks = b.locks ∧
        (u.slot l.part).regions = b.regions ∧ (u.slot l.part).promote = b.promote)) ∧
      ((s.slot l.part).resetting = false → l.applied = false → (s.slot l.part).tiles ≠ 0 → s.groupsUp l.part = true →
        Answers .imageApply s (fun u => u.loading = some { l with applied := true } ∧
          (u.slot l.part).tiles = (s.slot l.part).tiles)) ∧
      (l.applied = true → l.restore = false → Answers .imageApplied s (fun u => u.loadState = loadDone ∧ u.loading = none ∧
        (u.slot l.part).state = .ready ∧ (u.slot l.part).image = l.image ∧ (u.slot l.part).fault = 0 ∧
        (u.slot l.part).epoch = 0 ∧ u.hbm = s.hbm)))

/-- R11, R12, R15, R53, R55, R57-R60, R337, R464, R502: a write of control space sets the RW bits of the register and nothing
else; a 64-bit register takes effect whole; a staged field changes its staged copy alone; a commit makes it live. -/
def Obligations.ControlSpaceAndGroups : Prop :=
  ∀ (s : State),
    (∀ (w : Requester) (a v : Word), w = .bar0 ∧ s.d3 = false ∨ (∃ c, w = .collar c) →
      (a.toNat % 4 ≠ 0 ∨ regAt a.toNat = none ∨ s.regOn a.toNat = false → exec (.registerWrite w a v) s = .next s) ∧
      (∀ m : Word, (a.toNat, m) ∈ [(Reg.meshClassSrc, 0xFFFFF#32), (Reg.pwrComputeAuto, 0xFFFFF#32), (Reg.fabTimeout, 0x7FFFFF#32),
          (Reg.clkGateCfg, 0xF#32)] ∨ (∃ (t : TileId) (k : SlotId), a.toNat = Reg.cuffTaskArg t k ∧ m = 0xFFFFFFFF#32) →
        s.regOn a.toNat = true → Answers (.registerWrite w a v) s (fun u =>
          u.rd a.toNat = (s.rd a.toNat &&& ~~~ m) ||| (v &&& m) ∧ s.onlyRegs u [a.toNat])) ∧
      (a.toNat = Reg.structLoadAddr → Answers (.registerWrite w a v) s (fun u =>
        tget u.heldLow 0 (pairKey w Reg.structLoadAddr) = v ∧ u = { s with heldLow := u.heldLow })) ∧
      (a.toNat = Reg.structLoadAddr + 4 → Answers (.registerWrite w a v) s (fun u =>
        u.rd Reg.structLoadAddr = tget s.heldLow 0 (pairKey w Reg.structLoadAddr) ∧ u.rd (Reg.structLoadAddr + 4) = v ∧
        s.onlyRegs { u with heldLow := s.heldLow } [Reg.structLoadAddr, Reg.structLoadAddr + 4])) ∧
      (∀ (c : Instr) (r : RegRow) (n g : Nat), c = .registerWrite w a v ∨ c = .stagedFieldWrite w a v →
        a.toNat % 4 = 0 → s.regOn a.toNat = true → regAt a.toNat = some (r, n) → r.width = 32 → r.group = some g →
        let m := stagedMask a.toNat
        let landed (u : State) : Prop := u.rdStaged a.toNat = (s.rdStaged a.toNat &&& ~~~ m) ||| (v &&& m) ∧
          ∀ b, b ≠ a.toNat → u.rdStaged b = s.rdStaged b
        (∀ q, s.wordPart' a.toNat = some q →
          (s.fld (Reg.structCommitStatus q) 0 2 = 1 ∧ (s.slot q).goMask.testBit g = true → Answers c s (fun u =>
            u.staged = s.staged ∧ u.bit (Reg.structCommitStatus q) 3 = true ∧ s.onlyRegs u [Reg.structCommitStatus q])) ∧
          (s.fld (Reg.structCommitStatus q) 0 2 ≠ 1 ∨ (s.slot q).goMask.testBit g = false → Answers c s (fun u =>
            landed u ∧ s.onlyRegs { u with staged := s.staged } [Reg.structCommitDirty q] ∧
            (g < 32 → u.bit (Reg.structCommitDirty q) g = true)))) ∧
        (s.wordPart' a.toNat = none → Answers c s (fun u => landed u ∧ u.regs = s.regs)))) ∧
    (s.d3 = true → ∀ a v, exec (.registerWrite .bar0 a v) s = .next s) ∧
    (∀ (t : TileId) (k : SlotId) (a v : Word), taskReaches t a.toNat = false → s.canIssue t k = true →
      Answers (.registerWrite (.task t k) a v) s (fun u => u.taskState t k = taskAborted)) ∧
    Answers .structStageDataRead s (fun u => u = { s with reply := leBytes 4 s.stageData.toNat }) ∧
    (∀ (q : PartId) (v : Word), let a := Reg.structCommitStatus q
      let go := Instr.structCommitGo q v
      (s.fld a 0 2 = 1 → Answers go s (fun u => u.bit a 2 = true ∧ s.sameBits u a (fun j => j ≠ 2) ∧ s.onlyRegs u [a])) ∧
      (s.fld a 0 2 ≠ 1 → fieldOf v 16 10 ≠ 0 → Answers go s (fun u => u.fld a 0 2 = 1 ∧ (u.slot q).goMask = fieldOf v 16 10 ∧
        (u.slot q).goAny = v.getLsbD 2 ∧ s.onlyRegs { u with slots := s.slots } [a, Reg.structCommitCtrl q])) ∧
      (s.fld a 0 2 ≠ 1 → fieldOf v 16 10 = 0 → Answers go s (fun u => u.fld a 0 2 = 2 ∧
        s.onlyRegs u [a, Reg.structCommitCtrl q])) ∧
      (s.fld a 0 2 = 1 → (s.slot q).commitWait = false → v.getLsbD 0 = false → Answers (.structCommitAbort q v) s (fun u =>
        u.fld a 0 2 = 3 ∧ u.fld a 8 8 = 2 ∧ s.onlyRegs u [a, Reg.structCommitCtrl q])) ∧
      (s.commitDue q = true →
        (∀ g, g < 10 → s.failingGroup q (s.stepAfter q) = some g → Answers (.groupCommitApply q) s (fun u =>
          u.fld a 0 2 = 3 ∧ u.fld a 8 8 = 1 ∧ u.fld a 16 8 = g ∧ s.onlyRegs u [a])) ∧
        (s.failingGroup q (s.stepAfter q) = none → (s.staged.map (·.1)).Nodup → Answers (.groupCommitApply q) s (fun u =>
          (∀ b w g, tfind s.staged b = some w → s.wordPart' b = some q.val → regGroup b = some g →
            (s.slot q).goMask.testBit g = true → u.rd b = (s.rd b &&& ~~~ stagedMask b) ||| (w &&& stagedMask b)) ∧
          u.staged = s.staged ∧ u.hbm = s.hbm ∧ (u.fld a 0 2 = 2 ∨ (u.slot q).commitWait = true)))))
end

