-- ==== Sys2Proof/Laws/Tab.lean ====
section
/-! SUPPORT. Laws of tables and byte memories: a read after a write to the same key gives the value written, a write
leaves every other key alone, and every memory operation keeps the canonical form. -/

namespace Sys2Proof.Machine

/-! ## Tables -/

@[simp] theorem tfind_tset_self {α : Type} (t : List (Nat × α)) (k : Nat) (v : α) : tfind (tset t k v) k = some v := by
  induction t with
  | nil => simp [tset, tfind]
  | cons p t ih =>
    obtain ⟨k', v'⟩ := p
    by_cases h : k = k'
    · simp [tset, tfind, h]
    · by_cases h' : k < k' <;> simp [tset, tfind, h, h', ih, Ne.symm h]

theorem tfind_tset_ne {α : Type} (t : List (Nat × α)) {k j : Nat} (v : α) (h : j ≠ k) :
    tfind (tset t k v) j = tfind t j := by
  induction t with
  | nil => simp [tset, tfind, Ne.symm h]
  | cons p t ih =>
    obtain ⟨k', v'⟩ := p
    by_cases h1 : k = k'
    · subst h1; simp [tset, tfind, Ne.symm h]
    · by_cases h2 : k < k'
      · simp [tset, tfind, h1, h2, Ne.symm h]
      · simp [tset, tfind, h1, h2, ih]

theorem tfind_filter {α : Type} (t : List (Nat × α)) (p : Nat → Bool) (k : Nat) :
    tfind (t.filter (fun x => p x.1)) k = if p k then tfind t k else none := by
  induction t with
  | nil => simp [tfind]
  | cons x t ih =>
    obtain ⟨k', v⟩ := x
    by_cases hp : p k' = true
    · by_cases hk : k' = k
      · subst hk; simp [hp, tfind]
      · simp [hp, tfind, hk, ih]
    · by_cases hk : k' = k
      · subst hk; simp [hp, ih]
      · simp [hp, tfind, hk, ih]

theorem tfind_tdel_self {α : Type} (t : List (Nat × α)) (k : Nat) : tfind (tdel t k) k = none := by
  have h := tfind_filter t (fun j => j != k) k
  simpa [tdel] using h

theorem tfind_tdel_ne {α : Type} (t : List (Nat × α)) {k j : Nat} (h : j ≠ k) : tfind (tdel t k) j = tfind t j := by
  have e := tfind_filter t (fun i => i != k) j
  simpa [tdel, h] using e

@[simp] theorem tget_tset_self {α : Type} (t : List (Nat × α)) (d v : α) (k : Nat) : tget (tset t k v) d k = v := by
  simp [tget]

theorem tget_tset_ne {α : Type} (t : List (Nat × α)) (d v : α) {k j : Nat} (h : j ≠ k) :
    tget (tset t k v) d j = tget t d j := by
  simp [tget, tfind_tset_ne t v h]

/-! ## Bytes -/

@[simp] theorem mget_mset_self (m : List Host.Cell) (a : Nat) (b : Byte) : mget (mset m a b) a = b := by
  unfold mset mget
  split
  · simp [tget, tfind_tdel_self, *]
  · simp

theorem mget_mset_ne (m : List Host.Cell) {a j : Nat} (b : Byte) (h : j ≠ a) : mget (mset m a b) j = mget m j := by
  unfold mset mget
  split
  · simp [tget, tfind_tdel_ne m h]
  · exact tget_tset_ne m 0 b h

/-- A store of bytes leaves every byte outside it. -/
theorem mget_mwrite_out (m : List Host.Cell) (a : Nat) (bs : List Byte) (j : Nat) (h : j < a ∨ a + bs.length ≤ j) :
    mget (mwrite m a bs) j = mget m j := by
  induction bs generalizing m a with
  | nil => rfl
  | cons b bs ih =>
    simp only [List.length_cons] at h
    rw [mwrite, ih _ _ (by omega), mget_mset_ne _ _ (by omega)]

/-- A byte of a store reads back. -/
theorem mget_mwrite_in (m : List Host.Cell) (a : Nat) (bs : List Byte) (i : Nat) (h : i < bs.length) :
    mget (mwrite m a bs) (a + i) = bs[i] := by
  induction bs generalizing m a i with
  | nil => simp at h
  | cons b bs ih =>
    rw [mwrite]
    cases i with
    | zero => simp [mget_mwrite_out _ (a + 1) bs a (by omega)]
    | succ i =>
      have := ih (mset m a b) (a + 1) i (by simpa using h)
      simpa [Nat.add_assoc, Nat.add_comm 1 i] using this

theorem mread_length (m : List Host.Cell) (a n : Nat) : (mread m a n).length = n := by
  induction n generalizing a with
  | zero => rfl
  | succ n ih => simp [mread, ih]

/-- A read after a store of the same bytes. -/
theorem mread_mwrite (m : List Host.Cell) (a : Nat) (bs : List Byte) : mread (mwrite m a bs) a bs.length = bs := by
  have key : ∀ n k, k + n = bs.length → mread (mwrite m a bs) (a + k) n = bs.drop k := by
    intro n
    induction n with
    | zero => intro k hk; simp [mread, List.drop_eq_nil_of_le (by omega : bs.length ≤ k)]
    | succ n ih =>
      intro k hk
      rw [mread, mget_mwrite_in m a bs k (by omega), Nat.add_assoc, ih (k + 1) (by omega)]
      exact (List.drop_eq_getElem_cons (by omega)).symm
  simpa using key bs.length 0 (by omega)

/-! ## The canonical form -/

/-- The canonical form without recursion: keys strictly rising and no zero byte. -/
def Memory.Canon (m : List Host.Cell) : Prop := m.Pairwise (fun p q => p.1 < q.1) ∧ ∀ p ∈ m, p.2 ≠ 0

theorem Memory.wf_iff (m : List Host.Cell) : Memory.wf m = true ↔ Memory.Canon m := by
  induction m with
  | nil => simp [Memory.wf, Memory.Canon]
  | cons p t ih =>
    obtain ⟨a, b⟩ := p
    cases t with
    | nil => simp [Memory.wf, Memory.Canon]
    | cons q t =>
      obtain ⟨a', b'⟩ := q
      simp only [Memory.wf, Bool.and_eq_true, bne_iff_ne, ne_eq, decide_eq_true_eq, ih, Memory.Canon]
      constructor
      · rintro ⟨⟨hb, ha⟩, hp, hz⟩
        refine ⟨List.pairwise_cons.2 ⟨?_, hp⟩, ?_⟩
        · intro x hx
          rcases List.mem_cons.1 hx with rfl | hx
          · exact ha
          · exact lt_trans ha ((List.pairwise_cons.1 hp).1 x hx)
        · intro x hx
          rcases List.mem_cons.1 hx with rfl | hx
          · exact hb
          · exact hz x hx
      · rintro ⟨hp, hz⟩
        have h := List.pairwise_cons.1 hp
        exact ⟨⟨hz (a, b) (by simp), h.1 (a', b') (by simp)⟩, h.2, fun x hx => hz x (List.mem_cons_of_mem _ hx)⟩

theorem Memory.Canon.filter {m : List Host.Cell} (h : Memory.Canon m) (p : Host.Cell → Bool) :
    Memory.Canon (m.filter p) :=
  ⟨h.1.filter p, fun x hx => h.2 x (List.mem_filter.1 hx).1⟩

theorem mem_tset {α : Type} (t : List (Nat × α)) (k : Nat) (v : α) (x : Nat × α) (hx : x ∈ tset t k v) :
    x = (k, v) ∨ x ∈ t := by
  induction t with
  | nil => simpa [tset] using hx
  | cons p t ih =>
    obtain ⟨k', v'⟩ := p
    unfold tset at hx
    split at hx
    · rcases List.mem_cons.1 hx with h | h
      · exact .inl h
      · exact .inr (List.mem_cons_of_mem _ h)
    · split at hx
      · rcases List.mem_cons.1 hx with h | h
        · exact .inl h
        · exact .inr h
      · rcases List.mem_cons.1 hx with h | h
        · exact .inr (h ▸ List.mem_cons_self)
        · exact (ih h).imp_right (List.mem_cons_of_mem _)

/-- A table with rising keys keeps them. -/
theorem tset_rising {α : Type} {t : List (Nat × α)} (h : t.Pairwise (fun p q => p.1 < q.1)) (k : Nat) (v : α) :
    (tset t k v).Pairwise (fun p q => p.1 < q.1) := by
  induction t with
  | nil => simp [tset]
  | cons p t ih =>
    obtain ⟨k', v'⟩ := p
    have hc := List.pairwise_cons.1 h
    unfold tset
    split
    · next e => exact List.pairwise_cons.2 ⟨fun x hx => by simpa [e] using hc.1 x hx, hc.2⟩
    · split
      · next _ hlt =>
        refine List.pairwise_cons.2 ⟨fun x hx => ?_, h⟩
        rcases List.mem_cons.1 hx with rfl | hx
        · exact hlt
        · exact lt_trans hlt (hc.1 x hx)
      · next hne hnlt =>
        refine List.pairwise_cons.2 ⟨fun x hx => ?_, ih hc.2⟩
        rcases mem_tset t k v x hx with rfl | hx
        · show k' < k; omega
        · exact hc.1 x hx

theorem Memory.Canon.mset {m : List Host.Cell} (h : Memory.Canon m) (a : Nat) (b : Byte) :
    Memory.Canon (Machine.mset m a b) := by
  unfold Machine.mset
  split
  · exact h.filter _
  · next hb =>
    refine ⟨tset_rising h.1 a b, fun x hx => ?_⟩
    rcases mem_tset m a b x hx with rfl | hx
    · exact hb
    · exact h.2 x hx

theorem Memory.Canon.mwrite {m : List Host.Cell} (h : Memory.Canon m) (a : Nat) (bs : List Byte) :
    Memory.Canon (Machine.mwrite m a bs) := by
  induction bs generalizing m a with
  | nil => exact h
  | cons b bs ih => exact ih (h.mset a b) (a + 1)

theorem Memory.Canon.mwriteEn {m : List Host.Cell} (h : Memory.Canon m) (a : Nat) (bs : List (Option Byte)) :
    Memory.Canon (Machine.mwriteEn m a bs) := by
  induction bs generalizing m a with
  | nil => exact h
  | cons b bs ih => cases b with
    | none => exact ih h (a + 1)
    | some b => exact ih (h.mset a b) (a + 1)

theorem Memory.Canon.mzero {m : List Host.Cell} (h : Memory.Canon m) (a n : Nat) :
    Memory.Canon (Machine.mzero m a n) := h.filter _

/-- Every memory operation keeps the canonical form. -/
theorem Memory.wf_mset {m : List Host.Cell} (h : Memory.wf m = true) (a : Nat) (b : Byte) :
    Memory.wf (Machine.mset m a b) = true := (Memory.wf_iff _).2 (((Memory.wf_iff _).1 h).mset a b)
theorem Memory.wf_mwrite {m : List Host.Cell} (h : Memory.wf m = true) (a : Nat) (bs : List Byte) :
    Memory.wf (Machine.mwrite m a bs) = true := (Memory.wf_iff _).2 (((Memory.wf_iff _).1 h).mwrite a bs)
theorem Memory.wf_mwriteEn {m : List Host.Cell} (h : Memory.wf m = true) (a : Nat) (bs : List (Option Byte)) :
    Memory.wf (Machine.mwriteEn m a bs) = true := (Memory.wf_iff _).2 (((Memory.wf_iff _).1 h).mwriteEn a bs)
theorem Memory.wf_mzero {m : List Host.Cell} (h : Memory.wf m = true) (a n : Nat) :
    Memory.wf (Machine.mzero m a n) = true := (Memory.wf_iff _).2 (((Memory.wf_iff _).1 h).mzero a n)

end Sys2Proof.Machine
end

