-- ==== Sys2Proof/Laws/State.lean ====
section
/-! SUPPORT. What each update of State does to each field: one lemma a field, and what reading a register word, a tile
or a slot gives after an update. -/

namespace Sys2Proof.Machine


/-! ## State.wr -/

@[simp] theorem State.wr_regs (s : State) (a : Nat) (v : Word) : (s.wr a v).regs = tset s.regs a v := rfl
@[simp] theorem State.wr_staged (s : State) (a : Nat) (v : Word) : (s.wr a v).staged = s.staged := rfl
@[simp] theorem State.wr_latched (s : State) (a : Nat) (v : Word) : (s.wr a v).latched = s.latched := rfl
@[simp] theorem State.wr_heldLow (s : State) (a : Nat) (v : Word) : (s.wr a v).heldLow = s.heldLow := rfl
@[simp] theorem State.wr_pocket (s : State) (a : Nat) (v : Word) : (s.wr a v).pocket = s.pocket := rfl
@[simp] theorem State.wr_pocketErr (s : State) (a : Nat) (v : Word) : (s.wr a v).pocketErr = s.pocketErr := rfl
@[simp] theorem State.wr_hbm (s : State) (a : Nat) (v : Word) : (s.wr a v).hbm = s.hbm := rfl
@[simp] theorem State.wr_hbmErr (s : State) (a : Nat) (v : Word) : (s.wr a v).hbmErr = s.hbmErr := rfl
@[simp] theorem State.wr_hbmDirty (s : State) (a : Nat) (v : Word) : (s.wr a v).hbmDirty = s.hbmDirty := rfl
@[simp] theorem State.wr_undo (s : State) (a : Nat) (v : Word) : (s.wr a v).undo = s.undo := rfl
@[simp] theorem State.wr_host (s : State) (a : Nat) (v : Word) : (s.wr a v).host = s.host := rfl
@[simp] theorem State.wr_tiles (s : State) (a : Nat) (v : Word) : (s.wr a v).tiles = s.tiles := rfl
@[simp] theorem State.wr_insts (s : State) (a : Nat) (v : Word) : (s.wr a v).insts = s.insts := rfl
@[simp] theorem State.wr_lockWait (s : State) (a : Nat) (v : Word) : (s.wr a v).lockWait = s.lockWait := rfl
@[simp] theorem State.wr_slots (s : State) (a : Nat) (v : Word) : (s.wr a v).slots = s.slots := rfl
@[simp] theorem State.wr_flogQ (s : State) (a : Nat) (v : Word) : (s.wr a v).flogQ = s.flogQ := rfl
@[simp] theorem State.wr_stops (s : State) (a : Nat) (v : Word) : (s.wr a v).stops = s.stops := rfl
@[simp] theorem State.wr_net (s : State) (a : Nat) (v : Word) : (s.wr a v).net = s.net := rfl
@[simp] theorem State.wr_answers (s : State) (a : Nat) (v : Word) : (s.wr a v).answers = s.answers := rfl
@[simp] theorem State.wr_fabOut (s : State) (a : Nat) (v : Word) : (s.wr a v).fabOut = s.fabOut := rfl
@[simp] theorem State.wr_nextTxn (s : State) (a : Nat) (v : Word) : (s.wr a v).nextTxn = s.nextTxn := rfl
@[simp] theorem State.wr_arbs (s : State) (a : Nat) (v : Word) : (s.wr a v).arbs = s.arbs := rfl
@[simp] theorem State.wr_sampler (s : State) (a : Nat) (v : Word) : (s.wr a v).sampler = s.sampler := rfl
@[simp] theorem State.wr_freeCtr (s : State) (a : Nat) (v : Word) : (s.wr a v).freeCtr = s.freeCtr := rfl
@[simp] theorem State.wr_reply (s : State) (a : Nat) (v : Word) : (s.wr a v).reply = s.reply := rfl
@[simp] theorem State.wr_lostSent (s : State) (a : Nat) (v : Word) : (s.wr a v).lostSent = s.lostSent := rfl
@[simp] theorem State.wr_fabPorts (s : State) (a : Nat) (v : Word) : (s.wr a v).fabPorts = s.fabPorts := rfl
@[simp] theorem State.wr_fabWait (s : State) (a : Nat) (v : Word) : (s.wr a v).fabWait = s.fabWait := rfl
@[simp] theorem State.wr_fabLate (s : State) (a : Nat) (v : Word) : (s.wr a v).fabLate = s.fabLate := rfl
@[simp] theorem State.wr_pageSlots (s : State) (a : Nat) (v : Word) : (s.wr a v).pageSlots = s.pageSlots := rfl
@[simp] theorem State.wr_loading (s : State) (a : Nat) (v : Word) : (s.wr a v).loading = s.loading := rfl
@[simp] theorem State.wr_cmds (s : State) (a : Nat) (v : Word) : (s.wr a v).cmds = s.cmds := rfl
@[simp] theorem State.wr_pageSeq (s : State) (a : Nat) (v : Word) : (s.wr a v).pageSeq = s.pageSeq := rfl
@[simp] theorem State.wr_completions (s : State) (a : Nat) (v : Word) : (s.wr a v).completions = s.completions := rfl
@[simp] theorem State.wr_pagesFinal (s : State) (a : Nat) (v : Word) : (s.wr a v).pagesFinal = s.pagesFinal := rfl
@[simp] theorem State.wr_rail (s : State) (a : Nat) (v : Word) : (s.wr a v).rail = s.rail := rfl
@[simp] theorem State.wr_warmLow (s : State) (a : Nat) (v : Word) : (s.wr a v).warmLow = s.warmLow := rfl
@[simp] theorem State.wr_coldLow (s : State) (a : Nat) (v : Word) : (s.wr a v).coldLow = s.coldLow := rfl
@[simp] theorem State.wr_perst (s : State) (a : Nat) (v : Word) : (s.wr a v).perst = s.perst := rfl
@[simp] theorem State.wr_linkUp (s : State) (a : Nat) (v : Word) : (s.wr a v).linkUp = s.linkUp := rfl
@[simp] theorem State.wr_d3 (s : State) (a : Nat) (v : Word) : (s.wr a v).d3 = s.d3 := rfl
@[simp] theorem State.wr_resetKind (s : State) (a : Nat) (v : Word) : (s.wr a v).resetKind = s.resetKind := rfl
@[simp] theorem State.wr_stopped (s : State) (a : Nat) (v : Word) : (s.wr a v).stopped = s.stopped := rfl
@[simp] theorem State.wr_fwSlots (s : State) (a : Nat) (v : Word) : (s.wr a v).fwSlots = s.fwSlots := rfl
@[simp] theorem State.wr_selector (s : State) (a : Nat) (v : Word) : (s.wr a v).selector = s.selector := rfl
@[simp] theorem State.wr_recovering (s : State) (a : Nat) (v : Word) : (s.wr a v).recovering = s.recovering := rfl
@[simp] theorem State.wr_svnMin (s : State) (a : Nat) (v : Word) : (s.wr a v).svnMin = s.svnMin := rfl
@[simp] theorem State.wr_revoked (s : State) (a : Nat) (v : Word) : (s.wr a v).revoked = s.revoked := rfl
@[simp] theorem State.wr_keyFuses (s : State) (a : Nat) (v : Word) : (s.wr a v).keyFuses = s.keyFuses := rfl
@[simp] theorem State.wr_custKeys (s : State) (a : Nat) (v : Word) : (s.wr a v).custKeys = s.custKeys := rfl
@[simp] theorem State.wr_keyCount (s : State) (a : Nat) (v : Word) : (s.wr a v).keyCount = s.keyCount := rfl
@[simp] theorem State.wr_panelClks (s : State) (a : Nat) (v : Word) : (s.wr a v).panelClks = s.panelClks := rfl
@[simp] theorem State.wr_calSet (s : State) (a : Nat) (v : Word) : (s.wr a v).calSet = s.calSet := rfl
@[simp] theorem State.wr_backupBad (s : State) (a : Nat) (v : Word) : (s.wr a v).backupBad = s.backupBad := rfl
@[simp] theorem State.wr_pmbus (s : State) (a : Nat) (v : Word) : (s.wr a v).pmbus = s.pmbus := rfl
@[simp] theorem State.wr_tap (s : State) (a : Nat) (v : Word) : (s.wr a v).tap = s.tap := rfl
@[simp] theorem State.wr_pending (s : State) (a : Nat) (v : Word) : (s.wr a v).pending = s.pending := rfl

/-! ## State.wrStaged -/

@[simp] theorem State.wrStaged_regs (s : State) (a : Nat) (v : Word) : (s.wrStaged a v).regs = s.regs := rfl
@[simp] theorem State.wrStaged_staged (s : State) (a : Nat) (v : Word) : (s.wrStaged a v).staged = tset s.staged a v := rfl
@[simp] theorem State.wrStaged_latched (s : State) (a : Nat) (v : Word) : (s.wrStaged a v).latched = s.latched := rfl
@[simp] theorem State.wrStaged_heldLow (s : State) (a : Nat) (v : Word) : (s.wrStaged a v).heldLow = s.heldLow := rfl
@[simp] theorem State.wrStaged_pocket (s : State) (a : Nat) (v : Word) : (s.wrStaged a v).pocket = s.pocket := rfl
@[simp] theorem State.wrStaged_pocketErr (s : State) (a : Nat) (v : Word) : (s.wrStaged a v).pocketErr = s.pocketErr := rfl
@[simp] theorem State.wrStaged_hbm (s : State) (a : Nat) (v : Word) : (s.wrStaged a v).hbm = s.hbm := rfl
@[simp] theorem State.wrStaged_hbmErr (s : State) (a : Nat) (v : Word) : (s.wrStaged a v).hbmErr = s.hbmErr := rfl
@[simp] theorem State.wrStaged_hbmDirty (s : State) (a : Nat) (v : Word) : (s.wrStaged a v).hbmDirty = s.hbmDirty := rfl
@[simp] theorem State.wrStaged_undo (s : State) (a : Nat) (v : Word) : (s.wrStaged a v).undo = s.undo := rfl
@[simp] theorem State.wrStaged_host (s : State) (a : Nat) (v : Word) : (s.wrStaged a v).host = s.host := rfl
@[simp] theorem State.wrStaged_tiles (s : State) (a : Nat) (v : Word) : (s.wrStaged a v).tiles = s.tiles := rfl
@[simp] theorem State.wrStaged_insts (s : State) (a : Nat) (v : Word) : (s.wrStaged a v).insts = s.insts := rfl
@[simp] theorem State.wrStaged_lockWait (s : State) (a : Nat) (v : Word) : (s.wrStaged a v).lockWait = s.lockWait := rfl
@[simp] theorem State.wrStaged_slots (s : State) (a : Nat) (v : Word) : (s.wrStaged a v).slots = s.slots := rfl
@[simp] theorem State.wrStaged_flogQ (s : State) (a : Nat) (v : Word) : (s.wrStaged a v).flogQ = s.flogQ := rfl
@[simp] theorem State.wrStaged_stops (s : State) (a : Nat) (v : Word) : (s.wrStaged a v).stops = s.stops := rfl
@[simp] theorem State.wrStaged_net (s : State) (a : Nat) (v : Word) : (s.wrStaged a v).net = s.net := rfl
@[simp] theorem State.wrStaged_answers (s : State) (a : Nat) (v : Word) : (s.wrStaged a v).answers = s.answers := rfl
@[simp] theorem State.wrStaged_fabOut (s : State) (a : Nat) (v : Word) : (s.wrStaged a v).fabOut = s.fabOut := rfl
@[simp] theorem State.wrStaged_nextTxn (s : State) (a : Nat) (v : Word) : (s.wrStaged a v).nextTxn = s.nextTxn := rfl
@[simp] theorem State.wrStaged_arbs (s : State) (a : Nat) (v : Word) : (s.wrStaged a v).arbs = s.arbs := rfl
@[simp] theorem State.wrStaged_sampler (s : State) (a : Nat) (v : Word) : (s.wrStaged a v).sampler = s.sampler := rfl
@[simp] theorem State.wrStaged_freeCtr (s : State) (a : Nat) (v : Word) : (s.wrStaged a v).freeCtr = s.freeCtr := rfl
@[simp] theorem State.wrStaged_reply (s : State) (a : Nat) (v : Word) : (s.wrStaged a v).reply = s.reply := rfl
@[simp] theorem State.wrStaged_lostSent (s : State) (a : Nat) (v : Word) : (s.wrStaged a v).lostSent = s.lostSent := rfl
@[simp] theorem State.wrStaged_fabPorts (s : State) (a : Nat) (v : Word) : (s.wrStaged a v).fabPorts = s.fabPorts := rfl
@[simp] theorem State.wrStaged_fabWait (s : State) (a : Nat) (v : Word) : (s.wrStaged a v).fabWait = s.fabWait := rfl
@[simp] theorem State.wrStaged_fabLate (s : State) (a : Nat) (v : Word) : (s.wrStaged a v).fabLate = s.fabLate := rfl
@[simp] theorem State.wrStaged_pageSlots (s : State) (a : Nat) (v : Word) : (s.wrStaged a v).pageSlots = s.pageSlots := rfl
@[simp] theorem State.wrStaged_loading (s : State) (a : Nat) (v : Word) : (s.wrStaged a v).loading = s.loading := rfl
@[simp] theorem State.wrStaged_cmds (s : State) (a : Nat) (v : Word) : (s.wrStaged a v).cmds = s.cmds := rfl
@[simp] theorem State.wrStaged_pageSeq (s : State) (a : Nat) (v : Word) : (s.wrStaged a v).pageSeq = s.pageSeq := rfl
@[simp] theorem State.wrStaged_completions (s : State) (a : Nat) (v : Word) : (s.wrStaged a v).completions = s.completions := rfl
@[simp] theorem State.wrStaged_pagesFinal (s : State) (a : Nat) (v : Word) : (s.wrStaged a v).pagesFinal = s.pagesFinal := rfl
@[simp] theorem State.wrStaged_rail (s : State) (a : Nat) (v : Word) : (s.wrStaged a v).rail = s.rail := rfl
@[simp] theorem State.wrStaged_warmLow (s : State) (a : Nat) (v : Word) : (s.wrStaged a v).warmLow = s.warmLow := rfl
@[simp] theorem State.wrStaged_coldLow (s : State) (a : Nat) (v : Word) : (s.wrStaged a v).coldLow = s.coldLow := rfl
@[simp] theorem State.wrStaged_perst (s : State) (a : Nat) (v : Word) : (s.wrStaged a v).perst = s.perst := rfl
@[simp] theorem State.wrStaged_linkUp (s : State) (a : Nat) (v : Word) : (s.wrStaged a v).linkUp = s.linkUp := rfl
@[simp] theorem State.wrStaged_d3 (s : State) (a : Nat) (v : Word) : (s.wrStaged a v).d3 = s.d3 := rfl
@[simp] theorem State.wrStaged_resetKind (s : State) (a : Nat) (v : Word) : (s.wrStaged a v).resetKind = s.resetKind := rfl
@[simp] theorem State.wrStaged_stopped (s : State) (a : Nat) (v : Word) : (s.wrStaged a v).stopped = s.stopped := rfl
@[simp] theorem State.wrStaged_fwSlots (s : State) (a : Nat) (v : Word) : (s.wrStaged a v).fwSlots = s.fwSlots := rfl
@[simp] theorem State.wrStaged_selector (s : State) (a : Nat) (v : Word) : (s.wrStaged a v).selector = s.selector := rfl
@[simp] theorem State.wrStaged_recovering (s : State) (a : Nat) (v : Word) : (s.wrStaged a v).recovering = s.recovering := rfl
@[simp] theorem State.wrStaged_svnMin (s : State) (a : Nat) (v : Word) : (s.wrStaged a v).svnMin = s.svnMin := rfl
@[simp] theorem State.wrStaged_revoked (s : State) (a : Nat) (v : Word) : (s.wrStaged a v).revoked = s.revoked := rfl
@[simp] theorem State.wrStaged_keyFuses (s : State) (a : Nat) (v : Word) : (s.wrStaged a v).keyFuses = s.keyFuses := rfl
@[simp] theorem State.wrStaged_custKeys (s : State) (a : Nat) (v : Word) : (s.wrStaged a v).custKeys = s.custKeys := rfl
@[simp] theorem State.wrStaged_keyCount (s : State) (a : Nat) (v : Word) : (s.wrStaged a v).keyCount = s.keyCount := rfl
@[simp] theorem State.wrStaged_panelClks (s : State) (a : Nat) (v : Word) : (s.wrStaged a v).panelClks = s.panelClks := rfl
@[simp] theorem State.wrStaged_calSet (s : State) (a : Nat) (v : Word) : (s.wrStaged a v).calSet = s.calSet := rfl
@[simp] theorem State.wrStaged_backupBad (s : State) (a : Nat) (v : Word) : (s.wrStaged a v).backupBad = s.backupBad := rfl
@[simp] theorem State.wrStaged_pmbus (s : State) (a : Nat) (v : Word) : (s.wrStaged a v).pmbus = s.pmbus := rfl
@[simp] theorem State.wrStaged_tap (s : State) (a : Nat) (v : Word) : (s.wrStaged a v).tap = s.tap := rfl
@[simp] theorem State.wrStaged_pending (s : State) (a : Nat) (v : Word) : (s.wrStaged a v).pending = s.pending := rfl

/-! ## State.setTile -/

@[simp] theorem State.setTile_regs (s : State) (t : Nat) (x : Tile) : (s.setTile t x).regs = s.regs := rfl
@[simp] theorem State.setTile_staged (s : State) (t : Nat) (x : Tile) : (s.setTile t x).staged = s.staged := rfl
@[simp] theorem State.setTile_latched (s : State) (t : Nat) (x : Tile) : (s.setTile t x).latched = s.latched := rfl
@[simp] theorem State.setTile_heldLow (s : State) (t : Nat) (x : Tile) : (s.setTile t x).heldLow = s.heldLow := rfl
@[simp] theorem State.setTile_pocket (s : State) (t : Nat) (x : Tile) : (s.setTile t x).pocket = s.pocket := rfl
@[simp] theorem State.setTile_pocketErr (s : State) (t : Nat) (x : Tile) : (s.setTile t x).pocketErr = s.pocketErr := rfl
@[simp] theorem State.setTile_hbm (s : State) (t : Nat) (x : Tile) : (s.setTile t x).hbm = s.hbm := rfl
@[simp] theorem State.setTile_hbmErr (s : State) (t : Nat) (x : Tile) : (s.setTile t x).hbmErr = s.hbmErr := rfl
@[simp] theorem State.setTile_hbmDirty (s : State) (t : Nat) (x : Tile) : (s.setTile t x).hbmDirty = s.hbmDirty := rfl
@[simp] theorem State.setTile_undo (s : State) (t : Nat) (x : Tile) : (s.setTile t x).undo = s.undo := rfl
@[simp] theorem State.setTile_host (s : State) (t : Nat) (x : Tile) : (s.setTile t x).host = s.host := rfl
@[simp] theorem State.setTile_tiles (s : State) (t : Nat) (x : Tile) : (s.setTile t x).tiles = tset s.tiles t x := rfl
@[simp] theorem State.setTile_insts (s : State) (t : Nat) (x : Tile) : (s.setTile t x).insts = s.insts := rfl
@[simp] theorem State.setTile_lockWait (s : State) (t : Nat) (x : Tile) : (s.setTile t x).lockWait = s.lockWait := rfl
@[simp] theorem State.setTile_slots (s : State) (t : Nat) (x : Tile) : (s.setTile t x).slots = s.slots := rfl
@[simp] theorem State.setTile_flogQ (s : State) (t : Nat) (x : Tile) : (s.setTile t x).flogQ = s.flogQ := rfl
@[simp] theorem State.setTile_stops (s : State) (t : Nat) (x : Tile) : (s.setTile t x).stops = s.stops := rfl
@[simp] theorem State.setTile_net (s : State) (t : Nat) (x : Tile) : (s.setTile t x).net = s.net := rfl
@[simp] theorem State.setTile_answers (s : State) (t : Nat) (x : Tile) : (s.setTile t x).answers = s.answers := rfl
@[simp] theorem State.setTile_fabOut (s : State) (t : Nat) (x : Tile) : (s.setTile t x).fabOut = s.fabOut := rfl
@[simp] theorem State.setTile_nextTxn (s : State) (t : Nat) (x : Tile) : (s.setTile t x).nextTxn = s.nextTxn := rfl
@[simp] theorem State.setTile_arbs (s : State) (t : Nat) (x : Tile) : (s.setTile t x).arbs = s.arbs := rfl
@[simp] theorem State.setTile_sampler (s : State) (t : Nat) (x : Tile) : (s.setTile t x).sampler = s.sampler := rfl
@[simp] theorem State.setTile_freeCtr (s : State) (t : Nat) (x : Tile) : (s.setTile t x).freeCtr = s.freeCtr := rfl
@[simp] theorem State.setTile_reply (s : State) (t : Nat) (x : Tile) : (s.setTile t x).reply = s.reply := rfl
@[simp] theorem State.setTile_lostSent (s : State) (t : Nat) (x : Tile) : (s.setTile t x).lostSent = s.lostSent := rfl
@[simp] theorem State.setTile_fabPorts (s : State) (t : Nat) (x : Tile) : (s.setTile t x).fabPorts = s.fabPorts := rfl
@[simp] theorem State.setTile_fabWait (s : State) (t : Nat) (x : Tile) : (s.setTile t x).fabWait = s.fabWait := rfl
@[simp] theorem State.setTile_fabLate (s : State) (t : Nat) (x : Tile) : (s.setTile t x).fabLate = s.fabLate := rfl
@[simp] theorem State.setTile_pageSlots (s : State) (t : Nat) (x : Tile) : (s.setTile t x).pageSlots = s.pageSlots := rfl
@[simp] theorem State.setTile_loading (s : State) (t : Nat) (x : Tile) : (s.setTile t x).loading = s.loading := rfl
@[simp] theorem State.setTile_cmds (s : State) (t : Nat) (x : Tile) : (s.setTile t x).cmds = s.cmds := rfl
@[simp] theorem State.setTile_pageSeq (s : State) (t : Nat) (x : Tile) : (s.setTile t x).pageSeq = s.pageSeq := rfl
@[simp] theorem State.setTile_completions (s : State) (t : Nat) (x : Tile) : (s.setTile t x).completions = s.completions := rfl
@[simp] theorem State.setTile_pagesFinal (s : State) (t : Nat) (x : Tile) : (s.setTile t x).pagesFinal = s.pagesFinal := rfl
@[simp] theorem State.setTile_rail (s : State) (t : Nat) (x : Tile) : (s.setTile t x).rail = s.rail := rfl
@[simp] theorem State.setTile_warmLow (s : State) (t : Nat) (x : Tile) : (s.setTile t x).warmLow = s.warmLow := rfl
@[simp] theorem State.setTile_coldLow (s : State) (t : Nat) (x : Tile) : (s.setTile t x).coldLow = s.coldLow := rfl
@[simp] theorem State.setTile_perst (s : State) (t : Nat) (x : Tile) : (s.setTile t x).perst = s.perst := rfl
@[simp] theorem State.setTile_linkUp (s : State) (t : Nat) (x : Tile) : (s.setTile t x).linkUp = s.linkUp := rfl
@[simp] theorem State.setTile_d3 (s : State) (t : Nat) (x : Tile) : (s.setTile t x).d3 = s.d3 := rfl
@[simp] theorem State.setTile_resetKind (s : State) (t : Nat) (x : Tile) : (s.setTile t x).resetKind = s.resetKind := rfl
@[simp] theorem State.setTile_stopped (s : State) (t : Nat) (x : Tile) : (s.setTile t x).stopped = s.stopped := rfl
@[simp] theorem State.setTile_fwSlots (s : State) (t : Nat) (x : Tile) : (s.setTile t x).fwSlots = s.fwSlots := rfl
@[simp] theorem State.setTile_selector (s : State) (t : Nat) (x : Tile) : (s.setTile t x).selector = s.selector := rfl
@[simp] theorem State.setTile_recovering (s : State) (t : Nat) (x : Tile) : (s.setTile t x).recovering = s.recovering := rfl
@[simp] theorem State.setTile_svnMin (s : State) (t : Nat) (x : Tile) : (s.setTile t x).svnMin = s.svnMin := rfl
@[simp] theorem State.setTile_revoked (s : State) (t : Nat) (x : Tile) : (s.setTile t x).revoked = s.revoked := rfl
@[simp] theorem State.setTile_keyFuses (s : State) (t : Nat) (x : Tile) : (s.setTile t x).keyFuses = s.keyFuses := rfl
@[simp] theorem State.setTile_custKeys (s : State) (t : Nat) (x : Tile) : (s.setTile t x).custKeys = s.custKeys := rfl
@[simp] theorem State.setTile_keyCount (s : State) (t : Nat) (x : Tile) : (s.setTile t x).keyCount = s.keyCount := rfl
@[simp] theorem State.setTile_panelClks (s : State) (t : Nat) (x : Tile) : (s.setTile t x).panelClks = s.panelClks := rfl
@[simp] theorem State.setTile_calSet (s : State) (t : Nat) (x : Tile) : (s.setTile t x).calSet = s.calSet := rfl
@[simp] theorem State.setTile_backupBad (s : State) (t : Nat) (x : Tile) : (s.setTile t x).backupBad = s.backupBad := rfl
@[simp] theorem State.setTile_pmbus (s : State) (t : Nat) (x : Tile) : (s.setTile t x).pmbus = s.pmbus := rfl
@[simp] theorem State.setTile_tap (s : State) (t : Nat) (x : Tile) : (s.setTile t x).tap = s.tap := rfl
@[simp] theorem State.setTile_pending (s : State) (t : Nat) (x : Tile) : (s.setTile t x).pending = s.pending := rfl

/-! ## State.setSlot -/

@[simp] theorem State.setSlot_regs (s : State) (q : Nat) (x : Slot) : (s.setSlot q x).regs = s.regs := rfl
@[simp] theorem State.setSlot_staged (s : State) (q : Nat) (x : Slot) : (s.setSlot q x).staged = s.staged := rfl
@[simp] theorem State.setSlot_latched (s : State) (q : Nat) (x : Slot) : (s.setSlot q x).latched = s.latched := rfl
@[simp] theorem State.setSlot_heldLow (s : State) (q : Nat) (x : Slot) : (s.setSlot q x).heldLow = s.heldLow := rfl
@[simp] theorem State.setSlot_pocket (s : State) (q : Nat) (x : Slot) : (s.setSlot q x).pocket = s.pocket := rfl
@[simp] theorem State.setSlot_pocketErr (s : State) (q : Nat) (x : Slot) : (s.setSlot q x).pocketErr = s.pocketErr := rfl
@[simp] theorem State.setSlot_hbm (s : State) (q : Nat) (x : Slot) : (s.setSlot q x).hbm = s.hbm := rfl
@[simp] theorem State.setSlot_hbmErr (s : State) (q : Nat) (x : Slot) : (s.setSlot q x).hbmErr = s.hbmErr := rfl
@[simp] theorem State.setSlot_hbmDirty (s : State) (q : Nat) (x : Slot) : (s.setSlot q x).hbmDirty = s.hbmDirty := rfl
@[simp] theorem State.setSlot_undo (s : State) (q : Nat) (x : Slot) : (s.setSlot q x).undo = s.undo := rfl
@[simp] theorem State.setSlot_host (s : State) (q : Nat) (x : Slot) : (s.setSlot q x).host = s.host := rfl
@[simp] theorem State.setSlot_tiles (s : State) (q : Nat) (x : Slot) : (s.setSlot q x).tiles = s.tiles := rfl
@[simp] theorem State.setSlot_insts (s : State) (q : Nat) (x : Slot) : (s.setSlot q x).insts = s.insts := rfl
@[simp] theorem State.setSlot_lockWait (s : State) (q : Nat) (x : Slot) : (s.setSlot q x).lockWait = s.lockWait := rfl
@[simp] theorem State.setSlot_slots (s : State) (q : Nat) (x : Slot) : (s.setSlot q x).slots = tset s.slots q x := rfl
@[simp] theorem State.setSlot_flogQ (s : State) (q : Nat) (x : Slot) : (s.setSlot q x).flogQ = s.flogQ := rfl
@[simp] theorem State.setSlot_stops (s : State) (q : Nat) (x : Slot) : (s.setSlot q x).stops = s.stops := rfl
@[simp] theorem State.setSlot_net (s : State) (q : Nat) (x : Slot) : (s.setSlot q x).net = s.net := rfl
@[simp] theorem State.setSlot_answers (s : State) (q : Nat) (x : Slot) : (s.setSlot q x).answers = s.answers := rfl
@[simp] theorem State.setSlot_fabOut (s : State) (q : Nat) (x : Slot) : (s.setSlot q x).fabOut = s.fabOut := rfl
@[simp] theorem State.setSlot_nextTxn (s : State) (q : Nat) (x : Slot) : (s.setSlot q x).nextTxn = s.nextTxn := rfl
@[simp] theorem State.setSlot_arbs (s : State) (q : Nat) (x : Slot) : (s.setSlot q x).arbs = s.arbs := rfl
@[simp] theorem State.setSlot_sampler (s : State) (q : Nat) (x : Slot) : (s.setSlot q x).sampler = s.sampler := rfl
@[simp] theorem State.setSlot_freeCtr (s : State) (q : Nat) (x : Slot) : (s.setSlot q x).freeCtr = s.freeCtr := rfl
@[simp] theorem State.setSlot_reply (s : State) (q : Nat) (x : Slot) : (s.setSlot q x).reply = s.reply := rfl
@[simp] theorem State.setSlot_lostSent (s : State) (q : Nat) (x : Slot) : (s.setSlot q x).lostSent = s.lostSent := rfl
@[simp] theorem State.setSlot_fabPorts (s : State) (q : Nat) (x : Slot) : (s.setSlot q x).fabPorts = s.fabPorts := rfl
@[simp] theorem State.setSlot_fabWait (s : State) (q : Nat) (x : Slot) : (s.setSlot q x).fabWait = s.fabWait := rfl
@[simp] theorem State.setSlot_fabLate (s : State) (q : Nat) (x : Slot) : (s.setSlot q x).fabLate = s.fabLate := rfl
@[simp] theorem State.setSlot_pageSlots (s : State) (q : Nat) (x : Slot) : (s.setSlot q x).pageSlots = s.pageSlots := rfl
@[simp] theorem State.setSlot_loading (s : State) (q : Nat) (x : Slot) : (s.setSlot q x).loading = s.loading := rfl
@[simp] theorem State.setSlot_cmds (s : State) (q : Nat) (x : Slot) : (s.setSlot q x).cmds = s.cmds := rfl
@[simp] theorem State.setSlot_pageSeq (s : State) (q : Nat) (x : Slot) : (s.setSlot q x).pageSeq = s.pageSeq := rfl
@[simp] theorem State.setSlot_completions (s : State) (q : Nat) (x : Slot) : (s.setSlot q x).completions = s.completions := rfl
@[simp] theorem State.setSlot_pagesFinal (s : State) (q : Nat) (x : Slot) : (s.setSlot q x).pagesFinal = s.pagesFinal := rfl
@[simp] theorem State.setSlot_rail (s : State) (q : Nat) (x : Slot) : (s.setSlot q x).rail = s.rail := rfl
@[simp] theorem State.setSlot_warmLow (s : State) (q : Nat) (x : Slot) : (s.setSlot q x).warmLow = s.warmLow := rfl
@[simp] theorem State.setSlot_coldLow (s : State) (q : Nat) (x : Slot) : (s.setSlot q x).coldLow = s.coldLow := rfl
@[simp] theorem State.setSlot_perst (s : State) (q : Nat) (x : Slot) : (s.setSlot q x).perst = s.perst := rfl
@[simp] theorem State.setSlot_linkUp (s : State) (q : Nat) (x : Slot) : (s.setSlot q x).linkUp = s.linkUp := rfl
@[simp] theorem State.setSlot_d3 (s : State) (q : Nat) (x : Slot) : (s.setSlot q x).d3 = s.d3 := rfl
@[simp] theorem State.setSlot_resetKind (s : State) (q : Nat) (x : Slot) : (s.setSlot q x).resetKind = s.resetKind := rfl
@[simp] theorem State.setSlot_stopped (s : State) (q : Nat) (x : Slot) : (s.setSlot q x).stopped = s.stopped := rfl
@[simp] theorem State.setSlot_fwSlots (s : State) (q : Nat) (x : Slot) : (s.setSlot q x).fwSlots = s.fwSlots := rfl
@[simp] theorem State.setSlot_selector (s : State) (q : Nat) (x : Slot) : (s.setSlot q x).selector = s.selector := rfl
@[simp] theorem State.setSlot_recovering (s : State) (q : Nat) (x : Slot) : (s.setSlot q x).recovering = s.recovering := rfl
@[simp] theorem State.setSlot_svnMin (s : State) (q : Nat) (x : Slot) : (s.setSlot q x).svnMin = s.svnMin := rfl
@[simp] theorem State.setSlot_revoked (s : State) (q : Nat) (x : Slot) : (s.setSlot q x).revoked = s.revoked := rfl
@[simp] theorem State.setSlot_keyFuses (s : State) (q : Nat) (x : Slot) : (s.setSlot q x).keyFuses = s.keyFuses := rfl
@[simp] theorem State.setSlot_custKeys (s : State) (q : Nat) (x : Slot) : (s.setSlot q x).custKeys = s.custKeys := rfl
@[simp] theorem State.setSlot_keyCount (s : State) (q : Nat) (x : Slot) : (s.setSlot q x).keyCount = s.keyCount := rfl
@[simp] theorem State.setSlot_panelClks (s : State) (q : Nat) (x : Slot) : (s.setSlot q x).panelClks = s.panelClks := rfl
@[simp] theorem State.setSlot_calSet (s : State) (q : Nat) (x : Slot) : (s.setSlot q x).calSet = s.calSet := rfl
@[simp] theorem State.setSlot_backupBad (s : State) (q : Nat) (x : Slot) : (s.setSlot q x).backupBad = s.backupBad := rfl
@[simp] theorem State.setSlot_pmbus (s : State) (q : Nat) (x : Slot) : (s.setSlot q x).pmbus = s.pmbus := rfl
@[simp] theorem State.setSlot_tap (s : State) (q : Nat) (x : Slot) : (s.setSlot q x).tap = s.tap := rfl
@[simp] theorem State.setSlot_pending (s : State) (q : Nat) (x : Slot) : (s.setSlot q x).pending = s.pending := rfl

/-! ## State.setFld -/

@[simp] theorem State.setFld_regs (s : State) (a lo len v : Nat) : (s.setFld a lo len v).regs = tset s.regs a (putField (s.rd a) lo len v) := rfl
@[simp] theorem State.setFld_staged (s : State) (a lo len v : Nat) : (s.setFld a lo len v).staged = s.staged := rfl
@[simp] theorem State.setFld_latched (s : State) (a lo len v : Nat) : (s.setFld a lo len v).latched = s.latched := rfl
@[simp] theorem State.setFld_heldLow (s : State) (a lo len v : Nat) : (s.setFld a lo len v).heldLow = s.heldLow := rfl
@[simp] theorem State.setFld_pocket (s : State) (a lo len v : Nat) : (s.setFld a lo len v).pocket = s.pocket := rfl
@[simp] theorem State.setFld_pocketErr (s : State) (a lo len v : Nat) : (s.setFld a lo len v).pocketErr = s.pocketErr := rfl
@[simp] theorem State.setFld_hbm (s : State) (a lo len v : Nat) : (s.setFld a lo len v).hbm = s.hbm := rfl
@[simp] theorem State.setFld_hbmErr (s : State) (a lo len v : Nat) : (s.setFld a lo len v).hbmErr = s.hbmErr := rfl
@[simp] theorem State.setFld_hbmDirty (s : State) (a lo len v : Nat) : (s.setFld a lo len v).hbmDirty = s.hbmDirty := rfl
@[simp] theorem State.setFld_undo (s : State) (a lo len v : Nat) : (s.setFld a lo len v).undo = s.undo := rfl
@[simp] theorem State.setFld_host (s : State) (a lo len v : Nat) : (s.setFld a lo len v).host = s.host := rfl
@[simp] theorem State.setFld_tiles (s : State) (a lo len v : Nat) : (s.setFld a lo len v).tiles = s.tiles := rfl
@[simp] theorem State.setFld_insts (s : State) (a lo len v : Nat) : (s.setFld a lo len v).insts = s.insts := rfl
@[simp] theorem State.setFld_lockWait (s : State) (a lo len v : Nat) : (s.setFld a lo len v).lockWait = s.lockWait := rfl
@[simp] theorem State.setFld_slots (s : State) (a lo len v : Nat) : (s.setFld a lo len v).slots = s.slots := rfl
@[simp] theorem State.setFld_flogQ (s : State) (a lo len v : Nat) : (s.setFld a lo len v).flogQ = s.flogQ := rfl
@[simp] theorem State.setFld_stops (s : State) (a lo len v : Nat) : (s.setFld a lo len v).stops = s.stops := rfl
@[simp] theorem State.setFld_net (s : State) (a lo len v : Nat) : (s.setFld a lo len v).net = s.net := rfl
@[simp] theorem State.setFld_answers (s : State) (a lo len v : Nat) : (s.setFld a lo len v).answers = s.answers := rfl
@[simp] theorem State.setFld_fabOut (s : State) (a lo len v : Nat) : (s.setFld a lo len v).fabOut = s.fabOut := rfl
@[simp] theorem State.setFld_nextTxn (s : State) (a lo len v : Nat) : (s.setFld a lo len v).nextTxn = s.nextTxn := rfl
@[simp] theorem State.setFld_arbs (s : State) (a lo len v : Nat) : (s.setFld a lo len v).arbs = s.arbs := rfl
@[simp] theorem State.setFld_sampler (s : State) (a lo len v : Nat) : (s.setFld a lo len v).sampler = s.sampler := rfl
@[simp] theorem State.setFld_freeCtr (s : State) (a lo len v : Nat) : (s.setFld a lo len v).freeCtr = s.freeCtr := rfl
@[simp] theorem State.setFld_reply (s : State) (a lo len v : Nat) : (s.setFld a lo len v).reply = s.reply := rfl
@[simp] theorem State.setFld_lostSent (s : State) (a lo len v : Nat) : (s.setFld a lo len v).lostSent = s.lostSent := rfl
@[simp] theorem State.setFld_fabPorts (s : State) (a lo len v : Nat) : (s.setFld a lo len v).fabPorts = s.fabPorts := rfl
@[simp] theorem State.setFld_fabWait (s : State) (a lo len v : Nat) : (s.setFld a lo len v).fabWait = s.fabWait := rfl
@[simp] theorem State.setFld_fabLate (s : State) (a lo len v : Nat) : (s.setFld a lo len v).fabLate = s.fabLate := rfl
@[simp] theorem State.setFld_pageSlots (s : State) (a lo len v : Nat) : (s.setFld a lo len v).pageSlots = s.pageSlots := rfl
@[simp] theorem State.setFld_loading (s : State) (a lo len v : Nat) : (s.setFld a lo len v).loading = s.loading := rfl
@[simp] theorem State.setFld_cmds (s : State) (a lo len v : Nat) : (s.setFld a lo len v).cmds = s.cmds := rfl
@[simp] theorem State.setFld_pageSeq (s : State) (a lo len v : Nat) : (s.setFld a lo len v).pageSeq = s.pageSeq := rfl
@[simp] theorem State.setFld_completions (s : State) (a lo len v : Nat) : (s.setFld a lo len v).completions = s.completions := rfl
@[simp] theorem State.setFld_pagesFinal (s : State) (a lo len v : Nat) : (s.setFld a lo len v).pagesFinal = s.pagesFinal := rfl
@[simp] theorem State.setFld_rail (s : State) (a lo len v : Nat) : (s.setFld a lo len v).rail = s.rail := rfl
@[simp] theorem State.setFld_warmLow (s : State) (a lo len v : Nat) : (s.setFld a lo len v).warmLow = s.warmLow := rfl
@[simp] theorem State.setFld_coldLow (s : State) (a lo len v : Nat) : (s.setFld a lo len v).coldLow = s.coldLow := rfl
@[simp] theorem State.setFld_perst (s : State) (a lo len v : Nat) : (s.setFld a lo len v).perst = s.perst := rfl
@[simp] theorem State.setFld_linkUp (s : State) (a lo len v : Nat) : (s.setFld a lo len v).linkUp = s.linkUp := rfl
@[simp] theorem State.setFld_d3 (s : State) (a lo len v : Nat) : (s.setFld a lo len v).d3 = s.d3 := rfl
@[simp] theorem State.setFld_resetKind (s : State) (a lo len v : Nat) : (s.setFld a lo len v).resetKind = s.resetKind := rfl
@[simp] theorem State.setFld_stopped (s : State) (a lo len v : Nat) : (s.setFld a lo len v).stopped = s.stopped := rfl
@[simp] theorem State.setFld_fwSlots (s : State) (a lo len v : Nat) : (s.setFld a lo len v).fwSlots = s.fwSlots := rfl
@[simp] theorem State.setFld_selector (s : State) (a lo len v : Nat) : (s.setFld a lo len v).selector = s.selector := rfl
@[simp] theorem State.setFld_recovering (s : State) (a lo len v : Nat) : (s.setFld a lo len v).recovering = s.recovering := rfl
@[simp] theorem State.setFld_svnMin (s : State) (a lo len v : Nat) : (s.setFld a lo len v).svnMin = s.svnMin := rfl
@[simp] theorem State.setFld_revoked (s : State) (a lo len v : Nat) : (s.setFld a lo len v).revoked = s.revoked := rfl
@[simp] theorem State.setFld_keyFuses (s : State) (a lo len v : Nat) : (s.setFld a lo len v).keyFuses = s.keyFuses := rfl
@[simp] theorem State.setFld_custKeys (s : State) (a lo len v : Nat) : (s.setFld a lo len v).custKeys = s.custKeys := rfl
@[simp] theorem State.setFld_keyCount (s : State) (a lo len v : Nat) : (s.setFld a lo len v).keyCount = s.keyCount := rfl
@[simp] theorem State.setFld_panelClks (s : State) (a lo len v : Nat) : (s.setFld a lo len v).panelClks = s.panelClks := rfl
@[simp] theorem State.setFld_calSet (s : State) (a lo len v : Nat) : (s.setFld a lo len v).calSet = s.calSet := rfl
@[simp] theorem State.setFld_backupBad (s : State) (a lo len v : Nat) : (s.setFld a lo len v).backupBad = s.backupBad := rfl
@[simp] theorem State.setFld_pmbus (s : State) (a lo len v : Nat) : (s.setFld a lo len v).pmbus = s.pmbus := rfl
@[simp] theorem State.setFld_tap (s : State) (a lo len v : Nat) : (s.setFld a lo len v).tap = s.tap := rfl
@[simp] theorem State.setFld_pending (s : State) (a lo len v : Nat) : (s.setFld a lo len v).pending = s.pending := rfl

/-! ## State.setBit -/

@[simp] theorem State.setBit_regs (s : State) (a i : Nat) (b : Bool) : (s.setBit a i b).regs = tset s.regs a (putField (s.rd a) i 1 (if b then 1 else 0)) := rfl
@[simp] theorem State.setBit_staged (s : State) (a i : Nat) (b : Bool) : (s.setBit a i b).staged = s.staged := rfl
@[simp] theorem State.setBit_latched (s : State) (a i : Nat) (b : Bool) : (s.setBit a i b).latched = s.latched := rfl
@[simp] theorem State.setBit_heldLow (s : State) (a i : Nat) (b : Bool) : (s.setBit a i b).heldLow = s.heldLow := rfl
@[simp] theorem State.setBit_pocket (s : State) (a i : Nat) (b : Bool) : (s.setBit a i b).pocket = s.pocket := rfl
@[simp] theorem State.setBit_pocketErr (s : State) (a i : Nat) (b : Bool) : (s.setBit a i b).pocketErr = s.pocketErr := rfl
@[simp] theorem State.setBit_hbm (s : State) (a i : Nat) (b : Bool) : (s.setBit a i b).hbm = s.hbm := rfl
@[simp] theorem State.setBit_hbmErr (s : State) (a i : Nat) (b : Bool) : (s.setBit a i b).hbmErr = s.hbmErr := rfl
@[simp] theorem State.setBit_hbmDirty (s : State) (a i : Nat) (b : Bool) : (s.setBit a i b).hbmDirty = s.hbmDirty := rfl
@[simp] theorem State.setBit_undo (s : State) (a i : Nat) (b : Bool) : (s.setBit a i b).undo = s.undo := rfl
@[simp] theorem State.setBit_host (s : State) (a i : Nat) (b : Bool) : (s.setBit a i b).host = s.host := rfl
@[simp] theorem State.setBit_tiles (s : State) (a i : Nat) (b : Bool) : (s.setBit a i b).tiles = s.tiles := rfl
@[simp] theorem State.setBit_insts (s : State) (a i : Nat) (b : Bool) : (s.setBit a i b).insts = s.insts := rfl
@[simp] theorem State.setBit_lockWait (s : State) (a i : Nat) (b : Bool) : (s.setBit a i b).lockWait = s.lockWait := rfl
@[simp] theorem State.setBit_slots (s : State) (a i : Nat) (b : Bool) : (s.setBit a i b).slots = s.slots := rfl
@[simp] theorem State.setBit_flogQ (s : State) (a i : Nat) (b : Bool) : (s.setBit a i b).flogQ = s.flogQ := rfl
@[simp] theorem State.setBit_stops (s : State) (a i : Nat) (b : Bool) : (s.setBit a i b).stops = s.stops := rfl
@[simp] theorem State.setBit_net (s : State) (a i : Nat) (b : Bool) : (s.setBit a i b).net = s.net := rfl
@[simp] theorem State.setBit_answers (s : State) (a i : Nat) (b : Bool) : (s.setBit a i b).answers = s.answers := rfl
@[simp] theorem State.setBit_fabOut (s : State) (a i : Nat) (b : Bool) : (s.setBit a i b).fabOut = s.fabOut := rfl
@[simp] theorem State.setBit_nextTxn (s : State) (a i : Nat) (b : Bool) : (s.setBit a i b).nextTxn = s.nextTxn := rfl
@[simp] theorem State.setBit_arbs (s : State) (a i : Nat) (b : Bool) : (s.setBit a i b).arbs = s.arbs := rfl
@[simp] theorem State.setBit_sampler (s : State) (a i : Nat) (b : Bool) : (s.setBit a i b).sampler = s.sampler := rfl
@[simp] theorem State.setBit_freeCtr (s : State) (a i : Nat) (b : Bool) : (s.setBit a i b).freeCtr = s.freeCtr := rfl
@[simp] theorem State.setBit_reply (s : State) (a i : Nat) (b : Bool) : (s.setBit a i b).reply = s.reply := rfl
@[simp] theorem State.setBit_lostSent (s : State) (a i : Nat) (b : Bool) : (s.setBit a i b).lostSent = s.lostSent := rfl
@[simp] theorem State.setBit_fabPorts (s : State) (a i : Nat) (b : Bool) : (s.setBit a i b).fabPorts = s.fabPorts := rfl
@[simp] theorem State.setBit_fabWait (s : State) (a i : Nat) (b : Bool) : (s.setBit a i b).fabWait = s.fabWait := rfl
@[simp] theorem State.setBit_fabLate (s : State) (a i : Nat) (b : Bool) : (s.setBit a i b).fabLate = s.fabLate := rfl
@[simp] theorem State.setBit_pageSlots (s : State) (a i : Nat) (b : Bool) : (s.setBit a i b).pageSlots = s.pageSlots := rfl
@[simp] theorem State.setBit_loading (s : State) (a i : Nat) (b : Bool) : (s.setBit a i b).loading = s.loading := rfl
@[simp] theorem State.setBit_cmds (s : State) (a i : Nat) (b : Bool) : (s.setBit a i b).cmds = s.cmds := rfl
@[simp] theorem State.setBit_pageSeq (s : State) (a i : Nat) (b : Bool) : (s.setBit a i b).pageSeq = s.pageSeq := rfl
@[simp] theorem State.setBit_completions (s : State) (a i : Nat) (b : Bool) : (s.setBit a i b).completions = s.completions := rfl
@[simp] theorem State.setBit_pagesFinal (s : State) (a i : Nat) (b : Bool) : (s.setBit a i b).pagesFinal = s.pagesFinal := rfl
@[simp] theorem State.setBit_rail (s : State) (a i : Nat) (b : Bool) : (s.setBit a i b).rail = s.rail := rfl
@[simp] theorem State.setBit_warmLow (s : State) (a i : Nat) (b : Bool) : (s.setBit a i b).warmLow = s.warmLow := rfl
@[simp] theorem State.setBit_coldLow (s : State) (a i : Nat) (b : Bool) : (s.setBit a i b).coldLow = s.coldLow := rfl
@[simp] theorem State.setBit_perst (s : State) (a i : Nat) (b : Bool) : (s.setBit a i b).perst = s.perst := rfl
@[simp] theorem State.setBit_linkUp (s : State) (a i : Nat) (b : Bool) : (s.setBit a i b).linkUp = s.linkUp := rfl
@[simp] theorem State.setBit_d3 (s : State) (a i : Nat) (b : Bool) : (s.setBit a i b).d3 = s.d3 := rfl
@[simp] theorem State.setBit_resetKind (s : State) (a i : Nat) (b : Bool) : (s.setBit a i b).resetKind = s.resetKind := rfl
@[simp] theorem State.setBit_stopped (s : State) (a i : Nat) (b : Bool) : (s.setBit a i b).stopped = s.stopped := rfl
@[simp] theorem State.setBit_fwSlots (s : State) (a i : Nat) (b : Bool) : (s.setBit a i b).fwSlots = s.fwSlots := rfl
@[simp] theorem State.setBit_selector (s : State) (a i : Nat) (b : Bool) : (s.setBit a i b).selector = s.selector := rfl
@[simp] theorem State.setBit_recovering (s : State) (a i : Nat) (b : Bool) : (s.setBit a i b).recovering = s.recovering := rfl
@[simp] theorem State.setBit_svnMin (s : State) (a i : Nat) (b : Bool) : (s.setBit a i b).svnMin = s.svnMin := rfl
@[simp] theorem State.setBit_revoked (s : State) (a i : Nat) (b : Bool) : (s.setBit a i b).revoked = s.revoked := rfl
@[simp] theorem State.setBit_keyFuses (s : State) (a i : Nat) (b : Bool) : (s.setBit a i b).keyFuses = s.keyFuses := rfl
@[simp] theorem State.setBit_custKeys (s : State) (a i : Nat) (b : Bool) : (s.setBit a i b).custKeys = s.custKeys := rfl
@[simp] theorem State.setBit_keyCount (s : State) (a i : Nat) (b : Bool) : (s.setBit a i b).keyCount = s.keyCount := rfl
@[simp] theorem State.setBit_panelClks (s : State) (a i : Nat) (b : Bool) : (s.setBit a i b).panelClks = s.panelClks := rfl
@[simp] theorem State.setBit_calSet (s : State) (a i : Nat) (b : Bool) : (s.setBit a i b).calSet = s.calSet := rfl
@[simp] theorem State.setBit_backupBad (s : State) (a i : Nat) (b : Bool) : (s.setBit a i b).backupBad = s.backupBad := rfl
@[simp] theorem State.setBit_pmbus (s : State) (a i : Nat) (b : Bool) : (s.setBit a i b).pmbus = s.pmbus := rfl
@[simp] theorem State.setBit_tap (s : State) (a i : Nat) (b : Bool) : (s.setBit a i b).tap = s.tap := rfl
@[simp] theorem State.setBit_pending (s : State) (a i : Nat) (b : Bool) : (s.setBit a i b).pending = s.pending := rfl

/-! ## State.withPending -/

@[simp] theorem State.withPending_regs (s : State) (cs : List Instr) : (s.withPending cs).regs = s.regs := rfl
@[simp] theorem State.withPending_staged (s : State) (cs : List Instr) : (s.withPending cs).staged = s.staged := rfl
@[simp] theorem State.withPending_latched (s : State) (cs : List Instr) : (s.withPending cs).latched = s.latched := rfl
@[simp] theorem State.withPending_heldLow (s : State) (cs : List Instr) : (s.withPending cs).heldLow = s.heldLow := rfl
@[simp] theorem State.withPending_pocket (s : State) (cs : List Instr) : (s.withPending cs).pocket = s.pocket := rfl
@[simp] theorem State.withPending_pocketErr (s : State) (cs : List Instr) : (s.withPending cs).pocketErr = s.pocketErr := rfl
@[simp] theorem State.withPending_hbm (s : State) (cs : List Instr) : (s.withPending cs).hbm = s.hbm := rfl
@[simp] theorem State.withPending_hbmErr (s : State) (cs : List Instr) : (s.withPending cs).hbmErr = s.hbmErr := rfl
@[simp] theorem State.withPending_hbmDirty (s : State) (cs : List Instr) : (s.withPending cs).hbmDirty = s.hbmDirty := rfl
@[simp] theorem State.withPending_undo (s : State) (cs : List Instr) : (s.withPending cs).undo = s.undo := rfl
@[simp] theorem State.withPending_host (s : State) (cs : List Instr) : (s.withPending cs).host = s.host := rfl
@[simp] theorem State.withPending_tiles (s : State) (cs : List Instr) : (s.withPending cs).tiles = s.tiles := rfl
@[simp] theorem State.withPending_insts (s : State) (cs : List Instr) : (s.withPending cs).insts = s.insts := rfl
@[simp] theorem State.withPending_lockWait (s : State) (cs : List Instr) : (s.withPending cs).lockWait = s.lockWait := rfl
@[simp] theorem State.withPending_slots (s : State) (cs : List Instr) : (s.withPending cs).slots = s.slots := rfl
@[simp] theorem State.withPending_flogQ (s : State) (cs : List Instr) : (s.withPending cs).flogQ = s.flogQ := rfl
@[simp] theorem State.withPending_stops (s : State) (cs : List Instr) : (s.withPending cs).stops = s.stops := rfl
@[simp] theorem State.withPending_net (s : State) (cs : List Instr) : (s.withPending cs).net = s.net := rfl
@[simp] theorem State.withPending_answers (s : State) (cs : List Instr) : (s.withPending cs).answers = s.answers := rfl
@[simp] theorem State.withPending_fabOut (s : State) (cs : List Instr) : (s.withPending cs).fabOut = s.fabOut := rfl
@[simp] theorem State.withPending_nextTxn (s : State) (cs : List Instr) : (s.withPending cs).nextTxn = s.nextTxn := rfl
@[simp] theorem State.withPending_arbs (s : State) (cs : List Instr) : (s.withPending cs).arbs = s.arbs := rfl
@[simp] theorem State.withPending_sampler (s : State) (cs : List Instr) : (s.withPending cs).sampler = s.sampler := rfl
@[simp] theorem State.withPending_freeCtr (s : State) (cs : List Instr) : (s.withPending cs).freeCtr = s.freeCtr := rfl
@[simp] theorem State.withPending_reply (s : State) (cs : List Instr) : (s.withPending cs).reply = s.reply := rfl
@[simp] theorem State.withPending_lostSent (s : State) (cs : List Instr) : (s.withPending cs).lostSent = s.lostSent := rfl
@[simp] theorem State.withPending_fabPorts (s : State) (cs : List Instr) : (s.withPending cs).fabPorts = s.fabPorts := rfl
@[simp] theorem State.withPending_fabWait (s : State) (cs : List Instr) : (s.withPending cs).fabWait = s.fabWait := rfl
@[simp] theorem State.withPending_fabLate (s : State) (cs : List Instr) : (s.withPending cs).fabLate = s.fabLate := rfl
@[simp] theorem State.withPending_pageSlots (s : State) (cs : List Instr) : (s.withPending cs).pageSlots = s.pageSlots := rfl
@[simp] theorem State.withPending_loading (s : State) (cs : List Instr) : (s.withPending cs).loading = s.loading := rfl
@[simp] theorem State.withPending_cmds (s : State) (cs : List Instr) : (s.withPending cs).cmds = s.cmds := rfl
@[simp] theorem State.withPending_pageSeq (s : State) (cs : List Instr) : (s.withPending cs).pageSeq = s.pageSeq := rfl
@[simp] theorem State.withPending_completions (s : State) (cs : List Instr) : (s.withPending cs).completions = s.completions := rfl
@[simp] theorem State.withPending_pagesFinal (s : State) (cs : List Instr) : (s.withPending cs).pagesFinal = s.pagesFinal := rfl
@[simp] theorem State.withPending_rail (s : State) (cs : List Instr) : (s.withPending cs).rail = s.rail := rfl
@[simp] theorem State.withPending_warmLow (s : State) (cs : List Instr) : (s.withPending cs).warmLow = s.warmLow := rfl
@[simp] theorem State.withPending_coldLow (s : State) (cs : List Instr) : (s.withPending cs).coldLow = s.coldLow := rfl
@[simp] theorem State.withPending_perst (s : State) (cs : List Instr) : (s.withPending cs).perst = s.perst := rfl
@[simp] theorem State.withPending_linkUp (s : State) (cs : List Instr) : (s.withPending cs).linkUp = s.linkUp := rfl
@[simp] theorem State.withPending_d3 (s : State) (cs : List Instr) : (s.withPending cs).d3 = s.d3 := rfl
@[simp] theorem State.withPending_resetKind (s : State) (cs : List Instr) : (s.withPending cs).resetKind = s.resetKind := rfl
@[simp] theorem State.withPending_stopped (s : State) (cs : List Instr) : (s.withPending cs).stopped = s.stopped := rfl
@[simp] theorem State.withPending_fwSlots (s : State) (cs : List Instr) : (s.withPending cs).fwSlots = s.fwSlots := rfl
@[simp] theorem State.withPending_selector (s : State) (cs : List Instr) : (s.withPending cs).selector = s.selector := rfl
@[simp] theorem State.withPending_recovering (s : State) (cs : List Instr) : (s.withPending cs).recovering = s.recovering := rfl
@[simp] theorem State.withPending_svnMin (s : State) (cs : List Instr) : (s.withPending cs).svnMin = s.svnMin := rfl
@[simp] theorem State.withPending_revoked (s : State) (cs : List Instr) : (s.withPending cs).revoked = s.revoked := rfl
@[simp] theorem State.withPending_keyFuses (s : State) (cs : List Instr) : (s.withPending cs).keyFuses = s.keyFuses := rfl
@[simp] theorem State.withPending_custKeys (s : State) (cs : List Instr) : (s.withPending cs).custKeys = s.custKeys := rfl
@[simp] theorem State.withPending_keyCount (s : State) (cs : List Instr) : (s.withPending cs).keyCount = s.keyCount := rfl
@[simp] theorem State.withPending_panelClks (s : State) (cs : List Instr) : (s.withPending cs).panelClks = s.panelClks := rfl
@[simp] theorem State.withPending_calSet (s : State) (cs : List Instr) : (s.withPending cs).calSet = s.calSet := rfl
@[simp] theorem State.withPending_backupBad (s : State) (cs : List Instr) : (s.withPending cs).backupBad = s.backupBad := rfl
@[simp] theorem State.withPending_pmbus (s : State) (cs : List Instr) : (s.withPending cs).pmbus = s.pmbus := rfl
@[simp] theorem State.withPending_tap (s : State) (cs : List Instr) : (s.withPending cs).tap = s.tap := rfl
@[simp] theorem State.withPending_pending (s : State) (cs : List Instr) : (s.withPending cs).pending = cs := rfl

/-! ## Register words -/

@[simp] theorem State.rd_wr_self (s : State) (a : Nat) (v : Word) : (s.wr a v).rd a = v := by simp [State.rd]
theorem State.rd_wr_ne (s : State) {a j : Nat} (v : Word) (h : j ≠ a) : (s.wr a v).rd j = s.rd j := by
  simp [State.rd, tget_tset_ne _ _ _ h]
@[simp] theorem State.rd_wrStaged (s : State) (a : Nat) (v : Word) (j : Nat) : (s.wrStaged a v).rd j = s.rd j := rfl
@[simp] theorem State.rd_setTile (s : State) (t : Nat) (x : Tile) (j : Nat) : (s.setTile t x).rd j = s.rd j := rfl
@[simp] theorem State.rd_setSlot (s : State) (q : Nat) (x : Slot) (j : Nat) : (s.setSlot q x).rd j = s.rd j := rfl
@[simp] theorem State.rd_withPending (s : State) (cs : List Instr) (j : Nat) : (s.withPending cs).rd j = s.rd j := rfl
@[simp] theorem State.rd_setFld_self (s : State) (a lo len v : Nat) :
    (s.setFld a lo len v).rd a = putField (s.rd a) lo len v := by simp [State.setFld]
theorem State.rd_setFld_ne (s : State) {a j : Nat} (lo len v : Nat) (h : j ≠ a) :
    (s.setFld a lo len v).rd j = s.rd j := State.rd_wr_ne s _ h
theorem State.rd_setBit_ne (s : State) {a j : Nat} (i : Nat) (b : Bool) (h : j ≠ a) :
    (s.setBit a i b).rd j = s.rd j := State.rd_wr_ne s _ h

/-- Clearing words leaves the others. -/
theorem State.rd_clear_out (s : State) (as : List Nat) (j : Nat) (h : j ∉ as) : (s.clear as).rd j = s.rd j := by
  induction as generalizing s with
  | nil => rfl
  | cons a as ih =>
    rw [State.clear, ih _ (fun m => h (List.mem_cons_of_mem _ m))]
    exact State.rd_wr_ne s 0 (fun e => h (e ▸ List.mem_cons_self))

/-- A cleared word reads 0. -/
theorem State.rd_clear_in (s : State) (as : List Nat) (j : Nat) (h : j ∈ as) : (s.clear as).rd j = 0 := by
  induction as generalizing s with
  | nil => simp at h
  | cons a as ih =>
    rw [State.clear]
    by_cases m : j ∈ as
    · exact ih _ m
    · rw [State.rd_clear_out _ _ _ m]
      rcases List.mem_cons.1 h with rfl | h
      · simp
      · exact absurd h m

/-- Clearing changes the register words only. -/
theorem State.clear_eq (s : State) (as : List Nat) : s.clear as = { s with regs := (s.clear as).regs } := by
  induction as generalizing s with
  | nil => rfl
  | cons a as ih => rw [State.clear, ih (s.wr a 0)]; rfl

/-! ## Fields of words -/

theorem getLsbD_fieldMask (lo len j : Nat) :
    (fieldMask lo len).getLsbD j = (decide (j < 32) && (decide (lo ≤ j) && decide (j - lo < len))) := by
  rw [fieldMask, BitVec.getLsbD_ofNat, Nat.testBit_mul_two_pow, Nat.testBit_two_pow_sub_one]

theorem getLsbD_putField (w : Word) (lo len v j : Nat) (hj : j < 32) :
    (putField w lo len v).getLsbD j =
      if lo ≤ j ∧ j - lo < len then v.testBit (j - lo) else w.getLsbD j := by
  rw [putField, BitVec.getLsbD_or, BitVec.getLsbD_and, BitVec.getLsbD_and, BitVec.getLsbD_not, getLsbD_fieldMask,
    BitVec.getLsbD_ofNat, Nat.testBit_mul_two_pow]
  by_cases h1 : lo ≤ j <;> by_cases h2 : j - lo < len <;> simp [hj, h1, h2]

/-- A field that has been set reads the low bits of the value. -/
theorem fieldOf_putField (w : Word) (lo len v : Nat) (h : lo + len ≤ 32) :
    fieldOf (putField w lo len v) lo len = v % 2 ^ len := by
  have e : (putField w lo len v).extractLsb' lo len = BitVec.ofNat len v := by
    apply BitVec.eq_of_getLsbD_eq
    intro i hi
    rw [BitVec.getLsbD_extractLsb', getLsbD_putField _ _ _ _ _ (by omega), BitVec.getLsbD_ofNat]
    simp [hi]
  rw [fieldOf, e, BitVec.toNat_ofNat]

/-- Setting a field leaves a field that does not overlap it. -/
theorem fieldOf_putField_ne (w : Word) (lo len v lo' len' : Nat) (h : lo' + len' ≤ lo ∨ lo + len ≤ lo') :
    fieldOf (putField w lo len v) lo' len' = fieldOf w lo' len' := by
  have e : (putField w lo len v).extractLsb' lo' len' = w.extractLsb' lo' len' := by
    apply BitVec.eq_of_getLsbD_eq
    intro i hi
    rw [BitVec.getLsbD_extractLsb', BitVec.getLsbD_extractLsb']
    by_cases h32 : lo' + i < 32
    · rw [getLsbD_putField _ _ _ _ _ h32, if_neg (by omega)]
    · rw [BitVec.getLsbD_of_ge _ _ (by omega), BitVec.getLsbD_of_ge _ _ (by omega)]
  rw [fieldOf, e, fieldOf]

theorem State.fld_setFld (s : State) (a lo len v : Nat) (h : lo + len ≤ 32) :
    (s.setFld a lo len v).fld a lo len = v % 2 ^ len := by
  rw [State.fld, State.rd_setFld_self, fieldOf_putField _ _ _ _ h]

theorem State.fld_setFld_ne (s : State) (a lo len v lo' len' : Nat) (h : lo' + len' ≤ lo ∨ lo + len ≤ lo') :
    (s.setFld a lo len v).fld a lo' len' = s.fld a lo' len' := by
  rw [State.fld, State.rd_setFld_self, fieldOf_putField_ne _ _ _ _ _ _ h, State.fld]

theorem State.fld_setFld_out (s : State) {a j : Nat} (lo len v lo' len' : Nat) (h : j ≠ a) :
    (s.setFld a lo len v).fld j lo' len' = s.fld j lo' len' := by
  rw [State.fld, State.rd_setFld_ne s lo len v h, State.fld]

/-! ## Tiles, slots and the queue -/

@[simp] theorem State.tile_setTile_self (s : State) (t : Nat) (x : Tile) : (s.setTile t x).tile t = x := by
  simp [State.tile]
theorem State.tile_setTile_ne (s : State) {t j : Nat} (x : Tile) (h : j ≠ t) : (s.setTile t x).tile j = s.tile j := by
  simp [State.tile, tget_tset_ne _ _ _ h]
@[simp] theorem State.tile_wr (s : State) (a : Nat) (v : Word) (t : Nat) : (s.wr a v).tile t = s.tile t := rfl
@[simp] theorem State.slot_setSlot_self (s : State) (q : Nat) (x : Slot) : (s.setSlot q x).slot q = x := by
  simp [State.slot]
theorem State.slot_setSlot_ne (s : State) {q j : Nat} (x : Slot) (h : j ≠ q) : (s.setSlot q x).slot j = s.slot j := by
  simp [State.slot, tget_tset_ne _ _ _ h]
@[simp] theorem State.slot_wr (s : State) (a : Nat) (v : Word) (q : Nat) : (s.wr a v).slot q = s.slot q := rfl

/-- A step with a command waiting is that command's effect on the state with the rest of the queue. -/
theorem step_cons (s : State) (c : Instr) (cs : List Instr) (h : s.pending = c :: cs) : step s = exec c (s.withPending cs) := by
  simp [step, h]

theorem step_nil (s : State) (h : s.pending = []) : step s = .next s := by simp [step, h]

end Sys2Proof.Machine
end

