-- ==== Sys2Proof/Laws/Keeps.lean ====
section
/-! SUPPORT. What every operation and every command keeps, whatever it does: the queue of waiting commands, the canonical
form of the byte memories, and what the fuses hold. One lemma for each shared operation. -/

namespace Sys2Proof.Machine

theorem Memory.wf_putPage {m : List Host.Cell} (h : Memory.wf m = true) (base : Nat) (cells : List Host.Cell) :
    Memory.wf (putPage m base cells) = true := by
  unfold putPage
  have h0 := Memory.wf_mzero h base 0x10000
  generalize mzero m base 0x10000 = m' at h0
  induction cells generalizing m' with
  | nil => exact h0
  | cons c cs ih => exact ih _ (Memory.wf_mset h0 _ _)

/-- What no command takes away: `s'` comes after `s`. -/
structure Keeps (s s' : State) : Prop where
  pending : s'.pending = s.pending
  mem : s.memOk = true → s'.memOk = true
  fuses : s.fusesKept s'

theorem Keeps.refl (s : State) : Keeps s s := ⟨rfl, id, le_refl _, fun _ h => h⟩

/-- An update of other fields. -/
theorem Keeps.same {s0 s s' : State} (h : Keeps s0 s) (e1 : s'.pending = s.pending) (e2 : s'.pocket = s.pocket)
    (e3 : s'.hbm = s.hbm) (e4 : s'.host = s.host) (e5 : s'.svnMin = s.svnMin)
    (e7 : s'.revoked = s.revoked) : Keeps s0 s' := by
  refine ⟨e1.trans h.1, fun m => ?_, ?_⟩
  · have := h.2 m
    simpa [State.memOk, e2, e3, e4] using this
  · have := h.3
    simpa [State.fusesKept, e5, e7] using this

/-- An update of the byte memories that keeps each canonical. -/
theorem Keeps.memory {s0 s s' : State} (h : Keeps s0 s) (e1 : s'.pending = s.pending)
    (e2 : Memory.wf s.pocket = true → Memory.wf s'.pocket = true) (e3 : Memory.wf s.hbm = true → Memory.wf s'.hbm = true)
    (e4 : Memory.wf s.host = true → Memory.wf s'.host = true) (e5 : s'.svnMin = s.svnMin)
    (e7 : s'.revoked = s.revoked) : Keeps s0 s' := by
  refine ⟨e1.trans h.1, fun m => ?_, ?_⟩
  · have := h.2 m
    simp only [State.memOk, Bool.and_eq_true] at this ⊢
    exact ⟨⟨e2 this.1.1, e3 this.1.2⟩, e4 this.2⟩
  · have := h.3
    simpa [State.fusesKept, e5, e7] using this

/-- An update written as a record. -/
theorem Keeps.upd {s0 s : State}
    {x_regs : List (Nat × Word)} {x_staged : List (Nat × Word)} {x_latched : List (Nat × Word)} {x_heldLow : List
    (Nat × Word)} {x_pocket : List Host.Cell} {x_pocketErr : List (Nat × WordErr)} {x_hbm : List Host.Cell}
    {x_hbmErr : List (Nat × Bool)} {x_hbmDirty : List Nat} {x_undo : List UndoRec} {x_host : List Host.Cell}
    {x_tiles : List (Nat × Tile)} {x_insts : List (Nat × Inst)} {x_lockWait : List (Nat × List LockUser)} {x_slots
    : List (Nat × Slot)} {x_flogQ : List FaultRec} {x_stops : List StopReq} {x_net : List Packet} {x_answers :
    List Packet} {x_fabOut : List Packet} {x_nextTxn : Nat} {x_arbs : List (Nat × Arb)} {x_sampler : List (Nat ×
    Nat × Nat × Bool)} {x_freeCtr : Nat} {x_reply : List Byte} {x_lostSent : List (Nat × Packet)} {x_fabPorts : List (Nat × FabPort)} {x_fabWait :
    List FabReq} {x_fabLate : List Nat} {x_pageSlots : List (Nat × PageSlots)} {x_loading : Option Load} {x_cmds :
    List HostCmd} {x_pageSeq : List (Nat × Nat)} {x_completions : List (Nat × List Byte)} {x_pagesFinal : Bool}
    {x_rail : Bool} {x_warmLow : Bool} {x_coldLow : Bool} {x_perst : Bool} {x_linkUp : Bool} {x_d3 : Bool}
    {x_resetKind : Nat} {x_stopped : Bool} {x_fwSlots : List (Nat × List Byte)} {x_selector : Nat} {x_recovering :
    Bool} {x_svnMin : Nat} {x_revoked : Nat} {x_keyFuses : List (Nat × Nat)} {x_custKeys : List (Nat × List Byte)} {x_keyCount : Nat} {x_panelClks
    : List (Nat × PanelClk)} {x_calSet : Option Nat} {x_backupBad : List Nat} {x_pmbus : Pmbus} {x_tap : TapInstr}
    {x_pending : List Instr}
    (h : Keeps s0 s) (e1 : x_pending = s.pending) (e2 : x_pocket = s.pocket) (e3 : x_hbm = s.hbm) (e4 : x_host = s.host)
    (e5 : x_svnMin = s.svnMin) (e7 : x_revoked = s.revoked) :
    Keeps s0
      ⟨x_regs, x_staged, x_latched, x_heldLow, x_pocket, x_pocketErr, x_hbm, x_hbmErr, x_hbmDirty, x_undo, x_host,
      x_tiles, x_insts, x_lockWait, x_slots, x_flogQ, x_stops, x_net, x_answers, x_fabOut, x_nextTxn, x_arbs,
      x_sampler, x_freeCtr, x_reply, x_lostSent, x_fabPorts, x_fabWait, x_fabLate, x_pageSlots, x_loading, x_cmds, x_pageSeq,
      x_completions, x_pagesFinal, x_rail, x_warmLow, x_coldLow, x_perst, x_linkUp, x_d3, x_resetKind, x_stopped,
      x_fwSlots, x_selector, x_recovering, x_svnMin, x_revoked, x_keyFuses, x_custKeys, x_keyCount, x_panelClks, x_calSet,
      x_backupBad, x_pmbus, x_tap, x_pending⟩ :=
  h.same e1 e2 e3 e4 e5 e7

/-- An update of byte memories written as a record. -/
theorem Keeps.updMem {s0 s : State}
    {x_regs : List (Nat × Word)} {x_staged : List (Nat × Word)} {x_latched : List (Nat × Word)} {x_heldLow : List
    (Nat × Word)} {x_pocket : List Host.Cell} {x_pocketErr : List (Nat × WordErr)} {x_hbm : List Host.Cell}
    {x_hbmErr : List (Nat × Bool)} {x_hbmDirty : List Nat} {x_undo : List UndoRec} {x_host : List Host.Cell}
    {x_tiles : List (Nat × Tile)} {x_insts : List (Nat × Inst)} {x_lockWait : List (Nat × List LockUser)} {x_slots
    : List (Nat × Slot)} {x_flogQ : List FaultRec} {x_stops : List StopReq} {x_net : List Packet} {x_answers :
    List Packet} {x_fabOut : List Packet} {x_nextTxn : Nat} {x_arbs : List (Nat × Arb)} {x_sampler : List (Nat ×
    Nat × Nat × Bool)} {x_freeCtr : Nat} {x_reply : List Byte} {x_lostSent : List (Nat × Packet)} {x_fabPorts : List (Nat × FabPort)} {x_fabWait :
    List FabReq} {x_fabLate : List Nat} {x_pageSlots : List (Nat × PageSlots)} {x_loading : Option Load} {x_cmds :
    List HostCmd} {x_pageSeq : List (Nat × Nat)} {x_completions : List (Nat × List Byte)} {x_pagesFinal : Bool}
    {x_rail : Bool} {x_warmLow : Bool} {x_coldLow : Bool} {x_perst : Bool} {x_linkUp : Bool} {x_d3 : Bool}
    {x_resetKind : Nat} {x_stopped : Bool} {x_fwSlots : List (Nat × List Byte)} {x_selector : Nat} {x_recovering :
    Bool} {x_svnMin : Nat} {x_revoked : Nat} {x_keyFuses : List (Nat × Nat)} {x_custKeys : List (Nat × List Byte)} {x_keyCount : Nat} {x_panelClks
    : List (Nat × PanelClk)} {x_calSet : Option Nat} {x_backupBad : List Nat} {x_pmbus : Pmbus} {x_tap : TapInstr}
    {x_pending : List Instr}
    (h : Keeps s0 s) (e1 : x_pending = s.pending) (e2 : Memory.wf s.pocket = true → Memory.wf x_pocket = true)
    (e3 : Memory.wf s.hbm = true → Memory.wf x_hbm = true) (e4 : Memory.wf s.host = true → Memory.wf x_host = true)
    (e5 : x_svnMin = s.svnMin) (e7 : x_revoked = s.revoked) :
    Keeps s0
      ⟨x_regs, x_staged, x_latched, x_heldLow, x_pocket, x_pocketErr, x_hbm, x_hbmErr, x_hbmDirty, x_undo, x_host,
      x_tiles, x_insts, x_lockWait, x_slots, x_flogQ, x_stops, x_net, x_answers, x_fabOut, x_nextTxn, x_arbs,
      x_sampler, x_freeCtr, x_reply, x_lostSent, x_fabPorts, x_fabWait, x_fabLate, x_pageSlots, x_loading, x_cmds, x_pageSeq,
      x_completions, x_pagesFinal, x_rail, x_warmLow, x_coldLow, x_perst, x_linkUp, x_d3, x_resetKind, x_stopped,
      x_fwSlots, x_selector, x_recovering, x_svnMin, x_revoked, x_keyFuses, x_custKeys, x_keyCount, x_panelClks, x_calSet,
      x_backupBad, x_pmbus, x_tap, x_pending⟩ :=
  h.memory e1 e2 e3 e4 e5 e7

theorem Keeps.ite {s0 a b : State} {c : Prop} [Decidable c] (h1 : Keeps s0 a) (h2 : Keeps s0 b) :
    Keeps s0 (if c then a else b) := by
  split <;> assumption

theorem Keeps.fst {α : Type} {s0 s1 : State} {y : α} {x : State × α} (e : x = (s1, y)) (h : Keeps s0 x.1) : Keeps s0 s1 := by
  rw [e] at h; exact h

theorem Keeps.snd {α : Type} {s0 s1 : State} {y : α} {x : α × State} (e : x = (y, s1)) (h : Keeps s0 x.2) : Keeps s0 s1 := by
  rw [e] at h; exact h

/-- Each state that an optional answer can hold. -/
def KeepsOpt (s0 : State) (x : Option State) : Prop := ∀ y ∈ x, Keeps s0 y

theorem KeepsOpt.none (s0 : State) : KeepsOpt s0 none := fun _ h => nomatch h
theorem KeepsOpt.some {s0 s : State} (h : Keeps s0 s) : KeepsOpt s0 (some s) := by
  intro y e; cases e; exact h
theorem KeepsOpt.ite {s0 : State} {a b : Option State} {c : Prop} [Decidable c] (h1 : KeepsOpt s0 a) (h2 : KeepsOpt s0 b) :
    KeepsOpt s0 (if c then a else b) := by
  split <;> assumption

theorem Keeps.ofSome {s0 s1 : State} {x : Option State} (e : x = some s1) (h : KeepsOpt s0 x) : Keeps s0 s1 :=
  h s1 (by simp [e])

theorem Keeps.getD {s0 s1 : State} {x : Option State} (h : KeepsOpt s0 x) (h1 : Keeps s0 s1) : Keeps s0 (x.getD s1) := by
  cases x with
  | none => exact h1
  | some y => exact h y rfl

theorem Keeps.foldl {α : Type} {s0 : State} (f : State → α → State) (hf : ∀ s x, Keeps s0 s → Keeps s0 (f s x))
    (l : List α) {s : State} (h : Keeps s0 s) : Keeps s0 (l.foldl f s) := by
  induction l generalizing s with
  | nil => exact h
  | cons x l ih => exact ih (hf s x h)

theorem Keeps.foldlFst {α β : Type} {s0 : State} (f : State × β → α → State × β)
    (hf : ∀ p x, Keeps s0 p.1 → Keeps s0 (f p x).1) (l : List α) {p : State × β} (h : Keeps s0 p.1) :
    Keeps s0 (l.foldl f p).1 := by
  induction l generalizing p with
  | nil => exact h
  | cons x l ih => exact ih (hf p x h)

/-- What a command answers keeps it too. -/
def KeepsOut (s0 : State) (o : Host.Outcome State Fault Refusal) : Prop := ∀ s', o = .next s' → Keeps s0 s'

theorem KeepsOut.next {s0 s : State} (h : Keeps s0 s) : KeepsOut s0 (.next s) := by
  intro s' e; cases e; exact h

theorem KeepsOut.ite {s0 : State} {a b : Host.Outcome State Fault Refusal} {c : Prop} [Decidable c] (h1 : KeepsOut s0 a)
    (h2 : KeepsOut s0 b) : KeepsOut s0 (if c then a else b) := by
  split <;> assumption

theorem Keeps.ofId {s0 s : State} (h : Keeps s0 s) : Keeps s0 (id s) := h

end Sys2Proof.Machine
end

