-- ==== Sys2Proof/Laws/KeepsPocket.lean ====
section
/-! SUPPORT. One lemma for each operation of the Pocket, HBM, mesh, number and register operations: whatever it does, it keeps the queue, the canonical form of
the byte memories, and the fuses. -/

set_option linter.unusedTactic false
set_option linter.unreachableTactic false
set_option linter.unusedVariables false

namespace Sys2Proof.Machine

theorem State.wr_keeps {s0 : State} (s : State) (a : Nat) (v : Word)
    (hs : Keeps s0 s) :
    Keeps s0 (State.wr s a v) := by
  unfold State.wr
  with_reducible repeat' first
      | assumption | intro _ _ _ | intro _ _ | intro _ | apply Keeps.ite
      | (fail_if_no_progress refine Keeps.upd ?_ rfl rfl rfl rfl rfl rfl) | dsimp only | split
      | apply Keeps.fst (by assumption) | apply Keeps.snd (by assumption) | apply Keeps.ofSome (by assumption)

theorem State.setFld_keeps {s0 : State} (s : State) (a lo len v : Nat)
    (hs : Keeps s0 s) :
    Keeps s0 (State.setFld s a lo len v) := by
  unfold State.setFld
  with_reducible repeat' first
      | assumption | intro _ _ _ | intro _ _ | intro _ | apply Keeps.ite | apply State.wr_keeps
      | (fail_if_no_progress refine Keeps.upd ?_ rfl rfl rfl rfl rfl rfl) | dsimp only | split
      | apply Keeps.fst (by assumption) | apply Keeps.snd (by assumption) | apply Keeps.ofSome (by assumption)

theorem State.setBit_keeps {s0 : State} (s : State) (a i : Nat) (b : Bool)
    (hs : Keeps s0 s) :
    Keeps s0 (State.setBit s a i b) := by
  unfold State.setBit
  with_reducible repeat' first
      | assumption | intro _ _ _ | intro _ _ | intro _ | apply Keeps.ite | apply State.setFld_keeps
      | (fail_if_no_progress refine Keeps.upd ?_ rfl rfl rfl rfl rfl rfl) | dsimp only | split
      | apply Keeps.fst (by assumption) | apply Keeps.snd (by assumption) | apply Keeps.ofSome (by assumption)

theorem State.wr64_keeps {s0 : State} (s : State) (a v : Nat)
    (hs : Keeps s0 s) :
    Keeps s0 (State.wr64 s a v) := by
  unfold State.wr64
  with_reducible repeat' first
      | assumption | intro _ _ _ | intro _ _ | intro _ | apply Keeps.ite | apply State.wr_keeps
      | (fail_if_no_progress refine Keeps.upd ?_ rfl rfl rfl rfl rfl rfl) | dsimp only | split
      | apply Keeps.fst (by assumption) | apply Keeps.snd (by assumption) | apply Keeps.ofSome (by assumption)

theorem State.count_keeps {s0 : State} (s : State) (a : Nat) (n : Nat)
    (hs : Keeps s0 s) :
    Keeps s0 (State.count s a n) := by
  unfold State.count
  with_reducible repeat' first
      | assumption | intro _ _ _ | intro _ _ | intro _ | apply Keeps.ite | apply State.wr_keeps
      | (fail_if_no_progress refine Keeps.upd ?_ rfl rfl rfl rfl rfl rfl) | dsimp only | split
      | apply Keeps.fst (by assumption) | apply Keeps.snd (by assumption) | apply Keeps.ofSome (by assumption)

theorem State.clear_keeps {s0 : State} (s : State) (z0 : List Nat)
    (hs : Keeps s0 s) :
    Keeps s0 (State.clear s z0) := by
  induction z0 generalizing s with
  | nil => exact hs
  | cons a as ih => exact ih _ (State.wr_keeps _ _ _ hs)

theorem State.toReset_keeps {s0 : State} (s : State) (z0 : List Nat)
    (hs : Keeps s0 s) :
    Keeps s0 (State.toReset s z0) := by
  induction z0 generalizing s with
  | nil => exact hs
  | cons a as ih => exact ih _ (State.wr_keeps _ _ _ hs)

theorem State.wrStaged_keeps {s0 : State} (s : State) (a : Nat) (v : Word)
    (hs : Keeps s0 s) :
    Keeps s0 (State.wrStaged s a v) := by
  unfold State.wrStaged
  with_reducible repeat' first
      | assumption | intro _ _ _ | intro _ _ | intro _ | apply Keeps.ite
      | (fail_if_no_progress refine Keeps.upd ?_ rfl rfl rfl rfl rfl rfl) | dsimp only | split
      | apply Keeps.fst (by assumption) | apply Keeps.snd (by assumption) | apply Keeps.ofSome (by assumption)

theorem State.wrBoth_keeps {s0 : State} (s : State) (a : Nat) (v : Word)
    (hs : Keeps s0 s) :
    Keeps s0 (State.wrBoth s a v) := by
  unfold State.wrBoth
  with_reducible repeat' first
      | assumption | intro _ _ _ | intro _ _ | intro _ | apply Keeps.ite | apply State.wr_keeps
      | apply State.wrStaged_keeps | (fail_if_no_progress refine Keeps.upd ?_ rfl rfl rfl rfl rfl rfl) | dsimp only
      | split | apply Keeps.fst (by assumption) | apply Keeps.snd (by assumption) | apply Keeps.ofSome (by assumption)

theorem State.setTile_keeps {s0 : State} (s : State) (t : Nat) (x : Tile)
    (hs : Keeps s0 s) :
    Keeps s0 (State.setTile s t x) := by
  unfold State.setTile
  with_reducible repeat' first
      | assumption | intro _ _ _ | intro _ _ | intro _ | apply Keeps.ite
      | (fail_if_no_progress refine Keeps.upd ?_ rfl rfl rfl rfl rfl rfl) | dsimp only | split
      | apply Keeps.fst (by assumption) | apply Keeps.snd (by assumption) | apply Keeps.ofSome (by assumption)

theorem State.setTask_keeps {s0 : State} (s : State) (t k : Nat) (x : Task)
    (hs : Keeps s0 s) :
    Keeps s0 (State.setTask s t k x) := by
  unfold State.setTask
  with_reducible repeat' first
      | assumption | intro _ _ _ | intro _ _ | intro _ | apply Keeps.ite | apply State.setTile_keeps
      | (fail_if_no_progress refine Keeps.upd ?_ rfl rfl rfl rfl rfl rfl) | dsimp only | split
      | apply Keeps.fst (by assumption) | apply Keeps.snd (by assumption) | apply Keeps.ofSome (by assumption)

theorem State.setQueue_keeps {s0 : State} (s : State) (t q : Nat) (x : Queue)
    (hs : Keeps s0 s) :
    Keeps s0 (State.setQueue s t q x) := by
  unfold State.setQueue
  with_reducible repeat' first
      | assumption | intro _ _ _ | intro _ _ | intro _ | apply Keeps.ite | apply State.setTile_keeps
      | (fail_if_no_progress refine Keeps.upd ?_ rfl rfl rfl rfl rfl rfl) | dsimp only | split
      | apply Keeps.fst (by assumption) | apply Keeps.snd (by assumption) | apply Keeps.ofSome (by assumption)

theorem State.setPorts_keeps {s0 : State} (s : State) (t : Nat) (p : Ports)
    (hs : Keeps s0 s) :
    Keeps s0 (State.setPorts s t p) := by
  unfold State.setPorts
  with_reducible repeat' first
      | assumption | intro _ _ _ | intro _ _ | intro _ | apply Keeps.ite | apply State.setTile_keeps
      | (fail_if_no_progress refine Keeps.upd ?_ rfl rfl rfl rfl rfl rfl) | dsimp only | split
      | apply Keeps.fst (by assumption) | apply Keeps.snd (by assumption) | apply Keeps.ofSome (by assumption)

theorem State.setSuit_keeps {s0 : State} (s : State) (t i : Nat) (x : Suit)
    (hs : Keeps s0 s) :
    Keeps s0 (State.setSuit s t i x) := by
  unfold State.setSuit
  with_reducible repeat' first
      | assumption | intro _ _ _ | intro _ _ | intro _ | apply Keeps.ite | apply State.setTile_keeps
      | (fail_if_no_progress refine Keeps.upd ?_ rfl rfl rfl rfl rfl rfl) | dsimp only | split
      | apply Keeps.fst (by assumption) | apply Keeps.snd (by assumption) | apply Keeps.ofSome (by assumption)

theorem State.dropSuit_keeps {s0 : State} (s : State) (t i : Nat)
    (hs : Keeps s0 s) :
    Keeps s0 (State.dropSuit s t i) := by
  unfold State.dropSuit
  with_reducible repeat' first
      | assumption | intro _ _ _ | intro _ _ | intro _ | apply Keeps.ite | apply State.setTile_keeps
      | (fail_if_no_progress refine Keeps.upd ?_ rfl rfl rfl rfl rfl rfl) | dsimp only | split
      | apply Keeps.fst (by assumption) | apply Keeps.snd (by assumption) | apply Keeps.ofSome (by assumption)

theorem State.setShawl_keeps {s0 : State} (s : State) (t : Nat) (x : Shawl)
    (hs : Keeps s0 s) :
    Keeps s0 (State.setShawl s t x) := by
  unfold State.setShawl
  with_reducible repeat' first
      | assumption | intro _ _ _ | intro _ _ | intro _ | apply Keeps.ite | apply State.setTile_keeps
      | (fail_if_no_progress refine Keeps.upd ?_ rfl rfl rfl rfl rfl rfl) | dsimp only | split
      | apply Keeps.fst (by assumption) | apply Keeps.snd (by assumption) | apply Keeps.ofSome (by assumption)

theorem State.setSlot_keeps {s0 : State} (s : State) (q : Nat) (x : Slot)
    (hs : Keeps s0 s) :
    Keeps s0 (State.setSlot s q x) := by
  unfold State.setSlot
  with_reducible repeat' first
      | assumption | intro _ _ _ | intro _ _ | intro _ | apply Keeps.ite
      | (fail_if_no_progress refine Keeps.upd ?_ rfl rfl rfl rfl rfl rfl) | dsimp only | split
      | apply Keeps.fst (by assumption) | apply Keeps.snd (by assumption) | apply Keeps.ofSome (by assumption)

theorem State.ctl_keeps {s0 : State} (s : State) (a : Nat) (f : State → State)
    (hs : Keeps s0 s) (hf : ∀ (x0 : State), Keeps s0 x0 → Keeps s0 (f x0)) :
    Keeps s0 (State.ctl s a f) := by
  unfold State.ctl
  with_reducible repeat' first
      | assumption | intro _ _ _ | intro _ _ | intro _ | apply Keeps.ite | apply hf
      | (fail_if_no_progress refine Keeps.upd ?_ rfl rfl rfl rfl rfl rfl) | dsimp only | split
      | apply Keeps.fst (by assumption) | apply Keeps.snd (by assumption) | apply Keeps.ofSome (by assumption)

theorem State.forget_keeps {s0 : State} (s : State) (p : Nat → Bool)
    (hs : Keeps s0 s) :
    Keeps s0 (State.forget s p) := by
  unfold State.forget
  with_reducible repeat' first
      | assumption | intro _ _ _ | intro _ _ | intro _ | apply Keeps.ite
      | (fail_if_no_progress refine Keeps.upd ?_ rfl rfl rfl rfl rfl rfl) | dsimp only | split
      | apply Keeps.fst (by assumption) | apply Keeps.snd (by assumption) | apply Keeps.ofSome (by assumption)

theorem State.setTaskState_keeps {s0 : State} (s : State) (t k st reason : Nat)
    (hs : Keeps s0 s) :
    Keeps s0 (State.setTaskState s t k st reason) := by
  unfold State.setTaskState
  with_reducible repeat' first
      | assumption | intro _ _ _ | intro _ _ | intro _ | apply Keeps.ite | apply State.setFld_keeps
      | apply State.setBit_keeps | (fail_if_no_progress refine Keeps.upd ?_ rfl rfl rfl rfl rfl rfl) | dsimp only
      | split | apply Keeps.fst (by assumption) | apply Keeps.snd (by assumption) | apply Keeps.ofSome (by assumption)

theorem State.setPc_keeps {s0 : State} (s : State) (t k v : Nat)
    (hs : Keeps s0 s) :
    Keeps s0 (State.setPc s t k v) := by
  unfold State.setPc
  with_reducible repeat' first
      | assumption | intro _ _ _ | intro _ _ | intro _ | apply Keeps.ite | apply State.setFld_keeps
      | (fail_if_no_progress refine Keeps.upd ?_ rfl rfl rfl rfl rfl rfl) | dsimp only | split
      | apply Keeps.fst (by assumption) | apply Keeps.snd (by assumption) | apply Keeps.ofSome (by assumption)

theorem State.setCreg_keeps {s0 : State} (s : State) (t k i : Nat) (v : Word)
    (hs : Keeps s0 s) :
    Keeps s0 (State.setCreg s t k i v) := by
  unfold State.setCreg
  with_reducible repeat' first
      | assumption | intro _ _ _ | intro _ _ | intro _ | apply Keeps.ite | apply State.wr_keeps
      | (fail_if_no_progress refine Keeps.upd ?_ rfl rfl rfl rfl rfl rfl) | dsimp only | split
      | apply Keeps.fst (by assumption) | apply Keeps.snd (by assumption) | apply Keeps.ofSome (by assumption)

theorem State.setLocks_keeps {s0 : State} (s : State) (t k n : Nat)
    (hs : Keeps s0 s) :
    Keeps s0 (State.setLocks s t k n) := by
  unfold State.setLocks
  with_reducible repeat' first
      | assumption | intro _ _ _ | intro _ _ | intro _ | apply Keeps.ite | apply State.setFld_keeps
      | (fail_if_no_progress refine Keeps.upd ?_ rfl rfl rfl rfl rfl rfl) | dsimp only | split
      | apply Keeps.fst (by assumption) | apply Keeps.snd (by assumption) | apply Keeps.ofSome (by assumption)

theorem State.pushRec_keeps {s0 : State} (s : State) (r : FaultRec)
    (hs : Keeps s0 s) :
    Keeps s0 (State.pushRec s r) := by
  unfold State.pushRec
  with_reducible repeat' first
      | assumption | intro _ _ _ | intro _ _ | intro _ | apply Keeps.ite | apply State.count_keeps
      | (fail_if_no_progress refine Keeps.upd ?_ rfl rfl rfl rfl rfl rfl) | dsimp only | split
      | apply Keeps.fst (by assumption) | apply Keeps.snd (by assumption) | apply Keeps.ofSome (by assumption)

theorem State.setFault_keeps {s0 : State} (s : State) (q code sub unit module : Nat)
    (hs : Keeps s0 s) :
    Keeps s0 (State.setFault s q code sub unit module) := by
  unfold State.setFault
  with_reducible repeat' first
      | assumption | intro _ _ _ | intro _ _ | intro _ | apply Keeps.ite | apply State.setSlot_keeps
      | (fail_if_no_progress refine Keeps.upd ?_ rfl rfl rfl rfl rfl rfl) | dsimp only | split
      | apply Keeps.fst (by assumption) | apply Keeps.snd (by assumption) | apply Keeps.ofSome (by assumption)

theorem State.stopJob_keeps {s0 : State} (s : State) (q code cls sub unit seq : Nat)
    (hs : Keeps s0 s) :
    Keeps s0 (State.stopJob s q code cls sub unit seq) := by
  unfold State.stopJob
  with_reducible repeat' first
      | assumption | intro _ _ _ | intro _ _ | intro _ | apply Keeps.ite | apply State.setSlot_keeps
      | apply State.setFault_keeps | (fail_if_no_progress refine Keeps.upd ?_ rfl rfl rfl rfl rfl rfl) | dsimp only
      | split | apply Keeps.fst (by assumption) | apply Keeps.snd (by assumption) | apply Keeps.ofSome (by assumption)

theorem State.recordOnly_keeps {s0 : State} (s : State) (code unit sub : Nat) (tile part : Option Nat) (addr ctx0 ctx1 : Nat) (cls : Nat)
    (hs : Keeps s0 s) :
    Keeps s0 (State.recordOnly s code unit sub tile part addr ctx0 ctx1 cls) := by
  unfold State.recordOnly
  with_reducible repeat' first
      | assumption | intro _ _ _ | intro _ _ | intro _ | apply Keeps.ite | apply State.pushRec_keeps
      | (fail_if_no_progress refine Keeps.upd ?_ rfl rfl rfl rfl rfl rfl) | dsimp only | split
      | apply Keeps.fst (by assumption) | apply Keeps.snd (by assumption) | apply Keeps.ofSome (by assumption)

theorem State.jobFault_keeps {s0 : State} (s : State) (q code cls unit sub : Nat) (tile : Option Nat) (addr ctx0 ctx1 : Nat)
    (hs : Keeps s0 s) :
    Keeps s0 (State.jobFault s q code cls unit sub tile addr ctx0 ctx1) := by
  unfold State.jobFault
  with_reducible repeat' first
      | assumption | intro _ _ _ | intro _ _ | intro _ | apply Keeps.ite | apply State.pushRec_keeps
      | apply State.stopJob_keeps | (fail_if_no_progress refine Keeps.upd ?_ rfl rfl rfl rfl rfl rfl) | dsimp only
      | split | apply Keeps.fst (by assumption) | apply Keeps.snd (by assumption) | apply Keeps.ofSome (by assumption)

theorem State.warnJob_keeps {s0 : State} (s : State) (q code pb unit sub : Nat) (tile slot : Option Nat) (addr ctx0 ctx1 : Nat)
    (hs : Keeps s0 s) :
    Keeps s0 (State.warnJob s q code pb unit sub tile slot addr ctx0 ctx1) := by
  unfold State.warnJob
  with_reducible repeat' first
      | assumption | intro _ _ _ | intro _ _ | intro _ | apply Keeps.ite | apply State.pushRec_keeps
      | apply State.stopJob_keeps | (fail_if_no_progress refine Keeps.upd ?_ rfl rfl rfl rfl rfl rfl) | dsimp only
      | split | apply Keeps.fst (by assumption) | apply Keeps.snd (by assumption) | apply Keeps.ofSome (by assumption)

theorem State.refreshSb_keeps {s0 : State} (s : State) (t : Nat)
    (hs : Keeps s0 s) :
    Keeps s0 (State.refreshSb s t) := by
  unfold State.refreshSb
  with_reducible repeat' first
      | assumption | intro _ _ _ | intro _ _ | intro _ | apply Keeps.ite | apply State.setFld_keeps
      | apply Keeps.foldl | apply Keeps.foldlFst | (fail_if_no_progress refine Keeps.upd ?_ rfl rfl rfl rfl rfl rfl)
      | dsimp only | split | apply Keeps.fst (by assumption) | apply Keeps.snd (by assumption)
      | apply Keeps.ofSome (by assumption)

theorem State.sbFreeAt_keeps {s0 : State} (s : State) (t : Nat) (es : List Nat)
    (hs : Keeps s0 s) :
    Keeps s0 (State.sbFreeAt s t es) := by
  unfold State.sbFreeAt
  with_reducible repeat' first
      | assumption | intro _ _ _ | intro _ _ | intro _ | apply Keeps.ite | apply State.wr_keeps
      | apply State.refreshSb_keeps | apply Keeps.foldl | apply Keeps.foldlFst
      | (fail_if_no_progress refine Keeps.upd ?_ rfl rfl rfl rfl rfl rfl) | dsimp only | split
      | apply Keeps.fst (by assumption) | apply Keeps.snd (by assumption) | apply Keeps.ofSome (by assumption)

theorem State.sbFree_keeps {s0 : State} (s : State) (t kind id : Nat)
    (hs : Keeps s0 s) :
    Keeps s0 (State.sbFree s t kind id) := by
  unfold State.sbFree
  with_reducible repeat' first
      | assumption | intro _ _ _ | intro _ _ | intro _ | apply Keeps.ite | apply State.sbFreeAt_keeps
      | apply Keeps.ofId | (fail_if_no_progress refine Keeps.upd ?_ rfl rfl rfl rfl rfl rfl) | dsimp only | split
      | apply Keeps.fst (by assumption) | apply Keeps.snd (by assumption) | apply Keeps.ofSome (by assumption)

theorem State.sbTake_keeps {s0 : State} (s : State) (t slot kind id : Nat) (ranges : List (Nat × Nat))
    (hs : Keeps s0 s) :
    Keeps s0 (State.sbTake s t slot kind id ranges).2 := by
  unfold State.sbTake
  with_reducible repeat' first
      | assumption | intro _ _ _ | intro _ _ | intro _ | apply Keeps.ite | apply State.wr_keeps
      | apply State.refreshSb_keeps | apply Keeps.ofId | apply Keeps.foldl | apply Keeps.foldlFst
      | (fail_if_no_progress refine Keeps.upd ?_ rfl rfl rfl rfl rfl rfl) | dsimp only | split
      | apply Keeps.fst (by assumption) | apply Keeps.snd (by assumption) | apply Keeps.ofSome (by assumption)

theorem State.sbWaitCycle_keeps {s0 : State} (s : State) (t : Nat)
    (hs : Keeps s0 s) :
    Keeps s0 (State.sbWaitCycle s t) := by
  unfold State.sbWaitCycle
  with_reducible repeat' first
      | assumption | intro _ _ _ | intro _ _ | intro _ | apply Keeps.ite | apply State.count_keeps
      | (fail_if_no_progress refine Keeps.upd ?_ rfl rfl rfl rfl rfl rfl) | dsimp only | split
      | apply Keeps.fst (by assumption) | apply Keeps.snd (by assumption) | apply Keeps.ofSome (by assumption)

theorem State.refreshQ_keeps {s0 : State} (s : State) (t q : Nat)
    (hs : Keeps s0 s) :
    Keeps s0 (State.refreshQ s t q) := by
  unfold State.refreshQ
  with_reducible repeat' first
      | assumption | intro _ _ _ | intro _ _ | intro _ | apply Keeps.ite | apply State.wr_keeps
      | apply State.setFld_keeps | apply State.setBit_keeps
      | (fail_if_no_progress refine Keeps.upd ?_ rfl rfl rfl rfl rfl rfl) | dsimp only | split
      | apply Keeps.fst (by assumption) | apply Keeps.snd (by assumption) | apply Keeps.ofSome (by assumption)

theorem State.reqCancel_keeps {s0 : State} (s : State) (t q : Nat)
    (hs : Keeps s0 s) :
    Keeps s0 (State.reqCancel s t q) := by
  unfold State.reqCancel
  with_reducible repeat' first
      | assumption | intro _ _ _ | intro _ _ | intro _ | apply Keeps.ite | apply State.setQueue_keeps
      | apply State.refreshQ_keeps | (fail_if_no_progress refine Keeps.upd ?_ rfl rfl rfl rfl rfl rfl) | dsimp only
      | split | apply Keeps.fst (by assumption) | apply Keeps.snd (by assumption) | apply Keeps.ofSome (by assumption)

theorem State.cancelOwned_keeps {s0 : State} (s : State) (t k : Nat)
    (hs : Keeps s0 s) :
    Keeps s0 (State.cancelOwned s t k) := by
  unfold State.cancelOwned
  with_reducible repeat' first
      | assumption | intro _ _ _ | intro _ _ | intro _ | apply Keeps.ite | apply State.reqCancel_keeps
      | apply Keeps.foldl | apply Keeps.foldlFst | (fail_if_no_progress refine Keeps.upd ?_ rfl rfl rfl rfl rfl rfl)
      | dsimp only | split | apply Keeps.fst (by assumption) | apply Keeps.snd (by assumption)
      | apply Keeps.ofSome (by assumption)

theorem State.endSuit_keeps {s0 : State} (s : State) (t i st : Nat)
    (hs : Keeps s0 s) :
    Keeps s0 (State.endSuit s t i st) := by
  unfold State.endSuit
  with_reducible repeat' first
      | assumption | intro _ _ _ | intro _ _ | intro _ | apply Keeps.ite | apply Keeps.getD | apply State.wr_keeps
      | apply State.setFld_keeps | apply State.count_keeps | apply State.dropSuit_keeps | apply State.sbFree_keeps
      | apply State.reqCancel_keeps | apply Keeps.foldl | apply Keeps.foldlFst
      | (fail_if_no_progress refine Keeps.upd ?_ rfl rfl rfl rfl rfl rfl) | dsimp only | split
      | apply Keeps.fst (by assumption) | apply Keeps.snd (by assumption) | apply Keeps.ofSome (by assumption)

theorem State.latchSuitErr_keeps {s0 : State} (s : State) (t i stage code sub : Nat)
    (hs : Keeps s0 s) :
    Keeps s0 (State.latchSuitErr s t i stage code sub) := by
  unfold State.latchSuitErr
  with_reducible repeat' first
      | assumption | intro _ _ _ | intro _ _ | intro _ | apply Keeps.ite | apply State.wr_keeps
      | (fail_if_no_progress refine Keeps.upd ?_ rfl rfl rfl rfl rfl rfl) | dsimp only | split
      | apply Keeps.fst (by assumption) | apply Keeps.snd (by assumption) | apply Keeps.ofSome (by assumption)

theorem State.endSuitsOf_keeps {s0 : State} (s : State) (t k st : Nat)
    (hs : Keeps s0 s) :
    Keeps s0 (State.endSuitsOf s t k st) := by
  unfold State.endSuitsOf
  with_reducible repeat' first
      | assumption | intro _ _ _ | intro _ _ | intro _ | apply Keeps.ite | apply State.endSuit_keeps
      | apply Keeps.foldl | apply Keeps.foldlFst | (fail_if_no_progress refine Keeps.upd ?_ rfl rfl rfl rfl rfl rfl)
      | dsimp only | split | apply Keeps.fst (by assumption) | apply Keeps.snd (by assumption)
      | apply Keeps.ofSome (by assumption)

theorem State.orphanLock_keeps {s0 : State} (s : State) (l cause : Nat)
    (hs : Keeps s0 s) :
    Keeps s0 (State.orphanLock s l cause) := by
  unfold State.orphanLock
  with_reducible repeat' first
      | assumption | intro _ _ _ | intro _ _ | intro _ | apply Keeps.ite | apply State.setFld_keeps
      | apply State.setLocks_keeps | (fail_if_no_progress refine Keeps.upd ?_ rfl rfl rfl rfl rfl rfl) | dsimp only
      | split | apply Keeps.fst (by assumption) | apply Keeps.snd (by assumption) | apply Keeps.ofSome (by assumption)

theorem State.orphanLocksOf_keeps {s0 : State} (s : State) (t k : Nat)
    (hs : Keeps s0 s) :
    Keeps s0 (State.orphanLocksOf s t k) := by
  unfold State.orphanLocksOf
  with_reducible repeat' first
      | assumption | intro _ _ _ | intro _ _ | intro _ | apply Keeps.ite | apply State.orphanLock_keeps
      | apply Keeps.foldl | apply Keeps.foldlFst | (fail_if_no_progress refine Keeps.upd ?_ rfl rfl rfl rfl rfl rfl)
      | dsimp only | split | apply Keeps.fst (by assumption) | apply Keeps.snd (by assumption)
      | apply Keeps.ofSome (by assumption)

theorem State.setWaiters_keeps {s0 : State} (s : State) (l : Nat) (ws : List LockUser)
    (hs : Keeps s0 s) :
    Keeps s0 (State.setWaiters s l ws) := by
  unfold State.setWaiters
  with_reducible repeat' first
      | assumption | intro _ _ _ | intro _ _ | intro _ | apply Keeps.ite | apply State.setFld_keeps
      | (fail_if_no_progress refine Keeps.upd ?_ rfl rfl rfl rfl rfl rfl) | dsimp only | split
      | apply Keeps.fst (by assumption) | apply Keeps.snd (by assumption) | apply Keeps.ofSome (by assumption)

theorem State.withdraw_keeps {s0 : State} (s : State) (t k : Nat)
    (hs : Keeps s0 s) :
    Keeps s0 (State.withdraw s t k) := by
  unfold State.withdraw
  with_reducible repeat' first
      | assumption | intro _ _ _ | intro _ _ | intro _ | apply Keeps.ite | apply State.setWaiters_keeps
      | apply Keeps.foldl | apply Keeps.foldlFst | (fail_if_no_progress refine Keeps.upd ?_ rfl rfl rfl rfl rfl rfl)
      | dsimp only | split | apply Keeps.fst (by assumption) | apply Keeps.snd (by assumption)
      | apply Keeps.ofSome (by assumption)

theorem State.stopTask_keeps {s0 : State} (s : State) (t k suitEnd : Nat)
    (hs : Keeps s0 s) :
    Keeps s0 (State.stopTask s t k suitEnd) := by
  unfold State.stopTask
  with_reducible repeat' first
      | assumption | intro _ _ _ | intro _ _ | intro _ | apply Keeps.ite | apply State.setTask_keeps
      | apply State.setPorts_keeps | apply State.setShawl_keeps | apply State.cancelOwned_keeps
      | apply State.endSuitsOf_keeps | apply State.orphanLocksOf_keeps | apply State.withdraw_keeps
      | (fail_if_no_progress refine Keeps.upd ?_ rfl rfl rfl rfl rfl rfl) | dsimp only | split
      | apply Keeps.fst (by assumption) | apply Keeps.snd (by assumption) | apply Keeps.ofSome (by assumption)

theorem State.cancelTask_keeps {s0 : State} (s : State) (t k : Nat)
    (hs : Keeps s0 s) :
    Keeps s0 (State.cancelTask s t k) := by
  unfold State.cancelTask
  with_reducible repeat' first
      | assumption | intro _ _ _ | intro _ _ | intro _ | apply Keeps.ite | apply State.setTaskState_keeps
      | apply State.stopTask_keeps | (fail_if_no_progress refine Keeps.upd ?_ rfl rfl rfl rfl rfl rfl) | dsimp only
      | split | apply Keeps.fst (by assumption) | apply Keeps.snd (by assumption) | apply Keeps.ofSome (by assumption)

theorem State.latchTaskErr_keeps {s0 : State} (s : State) (t k unit code sub : Nat)
    (hs : Keeps s0 s) :
    Keeps s0 (State.latchTaskErr s t k unit code sub) := by
  unfold State.latchTaskErr
  with_reducible repeat' first
      | assumption | intro _ _ _ | intro _ _ | intro _ | apply Keeps.ite | apply State.wr_keeps
      | (fail_if_no_progress refine Keeps.upd ?_ rfl rfl rfl rfl rfl rfl) | dsimp only | split
      | apply Keeps.fst (by assumption) | apply Keeps.snd (by assumption) | apply Keeps.ofSome (by assumption)

theorem State.chargeTask_keeps {s0 : State} (s : State) (t k unit code sub : Nat) (latch : State → State) (ctx : State → Nat × Nat × Nat)
    (hs : Keeps s0 s) (hlatch : ∀ (x0 : State), Keeps s0 x0 → Keeps s0 (latch x0)) :
    Keeps s0 (State.chargeTask s t k unit code sub latch ctx) := by
  unfold State.chargeTask
  with_reducible repeat' first
      | assumption | intro _ _ _ | intro _ _ | intro _ | apply Keeps.ite | apply State.setTaskState_keeps
      | apply State.pushRec_keeps | apply State.stopJob_keeps | apply State.stopTask_keeps
      | apply State.latchTaskErr_keeps | apply hlatch
      | (fail_if_no_progress refine Keeps.upd ?_ rfl rfl rfl rfl rfl rfl) | dsimp only | split
      | apply Keeps.fst (by assumption) | apply Keeps.snd (by assumption) | apply Keeps.ofSome (by assumption)

theorem State.cuffFault_keeps {s0 : State} (s : State) (t k code sub : Nat)
    (hs : Keeps s0 s) :
    Keeps s0 (State.cuffFault s t k code sub) := by
  unfold State.cuffFault
  with_reducible repeat' first
      | assumption | intro _ _ _ | intro _ _ | intro _ | apply Keeps.ite | apply State.chargeTask_keeps
      | apply Keeps.ofId | (fail_if_no_progress refine Keeps.upd ?_ rfl rfl rfl rfl rfl rfl) | dsimp only | split
      | apply Keeps.fst (by assumption) | apply Keeps.snd (by assumption) | apply Keeps.ofSome (by assumption)

theorem State.illegal_keeps {s0 : State} (s : State) (t k sub : Nat)
    (hs : Keeps s0 s) :
    Keeps s0 (State.illegal s t k sub) := by
  unfold State.illegal
  with_reducible repeat' first
      | assumption | intro _ _ _ | intro _ _ | intro _ | apply Keeps.ite | apply State.cuffFault_keeps
      | (fail_if_no_progress refine Keeps.upd ?_ rfl rfl rfl rfl rfl rfl) | dsimp only | split
      | apply Keeps.fst (by assumption) | apply Keeps.snd (by assumption) | apply Keeps.ofSome (by assumption)

theorem State.warnTask_keeps {s0 : State} (s : State) (t k code pb unit sub : Nat) (rec : Bool) (addr c0 c1 : Nat)
    (hs : Keeps s0 s) :
    Keeps s0 (State.warnTask s t k code pb unit sub rec addr c0 c1) := by
  unfold State.warnTask
  with_reducible repeat' first
      | assumption | intro _ _ _ | intro _ _ | intro _ | apply Keeps.ite | apply State.setBit_keeps
      | apply State.pushRec_keeps | apply State.warnJob_keeps
      | (fail_if_no_progress refine Keeps.upd ?_ rfl rfl rfl rfl rfl rfl) | dsimp only | split
      | apply Keeps.fst (by assumption) | apply Keeps.snd (by assumption) | apply Keeps.ofSome (by assumption)

theorem State.markStep_keeps {s0 : State} (s : State) (t key : Nat)
    (hs : Keeps s0 s) :
    Keeps s0 (State.markStep s t key) := by
  unfold State.markStep
  with_reducible repeat' first
      | assumption | intro _ _ _ | intro _ _ | intro _ | apply Keeps.ite | apply State.setTile_keeps
      | (fail_if_no_progress refine Keeps.upd ?_ rfl rfl rfl rfl rfl rfl) | dsimp only | split
      | apply Keeps.fst (by assumption) | apply Keeps.snd (by assumption) | apply Keeps.ofSome (by assumption)

theorem State.fixWord_keeps {s0 : State} (s : State) (t w : Nat)
    (hs : Keeps s0 s) :
    Keeps s0 (State.fixWord s t w) := by
  unfold State.fixWord
  with_reducible repeat' first
      | assumption | intro _ _ _ | intro _ _ | intro _ | apply Keeps.ite | apply State.setPorts_keeps
      | (fail_if_no_progress refine Keeps.upd ?_ rfl rfl rfl rfl rfl rfl) | dsimp only | split
      | apply Keeps.fst (by assumption) | apply Keeps.snd (by assumption) | apply Keeps.ofSome (by assumption)

theorem State.latchErrAddr_keeps {s0 : State} (s : State) (t w : Nat) (e : WordErr)
    (hs : Keeps s0 s) :
    Keeps s0 (State.latchErrAddr s t w e) := by
  unfold State.latchErrAddr
  with_reducible repeat' first
      | assumption | intro _ _ _ | intro _ _ | intro _ | apply Keeps.ite | apply State.wr_keeps
      | (fail_if_no_progress refine Keeps.upd ?_ rfl rfl rfl rfl rfl rfl) | dsimp only | split
      | apply Keeps.fst (by assumption) | apply Keeps.snd (by assumption) | apply Keeps.ofSome (by assumption)

theorem State.noteCe_keeps {s0 : State} (s : State) (t w : Nat) (e : WordErr)
    (hs : Keeps s0 s) :
    Keeps s0 (State.noteCe s t w e) := by
  unfold State.noteCe
  with_reducible repeat' first
      | assumption | intro _ _ _ | intro _ _ | intro _ | apply Keeps.ite | apply State.setBit_keeps
      | apply State.count_keeps | apply State.setPorts_keeps | apply State.latchErrAddr_keeps
      | (fail_if_no_progress refine Keeps.upd ?_ rfl rfl rfl rfl rfl rfl) | dsimp only | split
      | apply Keeps.fst (by assumption) | apply Keeps.snd (by assumption) | apply Keeps.ofSome (by assumption)

theorem State.noteUe_keeps {s0 : State} (s : State) (t w : Nat) (e : WordErr)
    (hs : Keeps s0 s) :
    Keeps s0 (State.noteUe s t w e) := by
  unfold State.noteUe
  with_reducible repeat' first
      | assumption | intro _ _ _ | intro _ _ | intro _ | apply Keeps.ite | apply State.setBit_keeps
      | apply State.count_keeps | apply State.latchErrAddr_keeps
      | (fail_if_no_progress refine Keeps.upd ?_ rfl rfl rfl rfl rfl rfl) | dsimp only | split
      | apply Keeps.fst (by assumption) | apply Keeps.snd (by assumption) | apply Keeps.ofSome (by assumption)

theorem State.pocketRecord_keeps {s0 : State} (s : State) (t code off : Nat) (ctx : Nat)
    (hs : Keeps s0 s) :
    Keeps s0 (State.pocketRecord s t code off ctx) := by
  unfold State.pocketRecord
  with_reducible repeat' first
      | assumption | intro _ _ _ | intro _ _ | intro _ | apply Keeps.ite | apply State.recordOnly_keeps
      | (fail_if_no_progress refine Keeps.upd ?_ rfl rfl rfl rfl rfl rfl) | dsimp only | split
      | apply Keeps.fst (by assumption) | apply Keeps.snd (by assumption) | apply Keeps.ofSome (by assumption)

theorem State.zeroBadWord_keeps {s0 : State} (s : State) (t w : Nat)
    (hs : Keeps s0 s) :
    Keeps s0 (State.zeroBadWord s t w) := by
  unfold State.zeroBadWord
  with_reducible repeat' first
      | assumption | intro _ _ _ | intro _ _ | intro _ | apply Keeps.ite | apply State.fixWord_keeps
      | apply State.pocketRecord_keeps | (fail_if_no_progress refine Keeps.updMem ?_ rfl ?_ ?_ ?_ rfl rfl) | exact id
      | apply Memory.wf_mwriteEn | apply Memory.wf_mwrite | apply Memory.wf_mzero | apply Memory.wf_mset
      | apply Memory.wf_putPage | dsimp only | split | apply Keeps.fst (by assumption)
      | apply Keeps.snd (by assumption) | apply Keeps.ofSome (by assumption)

theorem State.checkWords_keeps {s0 : State} (s : State) (t : Nat) (z0 : List Nat)
    (hs : Keeps s0 s) :
    Keeps s0 (State.checkWords s t z0).1 := by
  unfold State.checkWords
  with_reducible repeat' first
      | assumption | intro _ _ _ | intro _ _ | intro _ | apply Keeps.ite | apply State.noteCe_keeps
      | apply State.noteUe_keeps | apply State.zeroBadWord_keeps | apply State.checkWords_keeps
      | (fail_if_no_progress refine Keeps.upd ?_ rfl rfl rfl rfl rfl rfl) | dsimp only | split
      | apply Keeps.fst (by assumption) | apply Keeps.snd (by assumption) | apply Keeps.ofSome (by assumption)

theorem State.pocketRead_keeps {s0 : State} (s : State) (t off len : Nat)
    (hs : Keeps s0 s) :
    Keeps s0 (State.pocketRead s t off len).1 := by
  unfold State.pocketRead
  with_reducible repeat' first
      | assumption | intro _ _ _ | intro _ _ | intro _ | apply Keeps.ite | apply State.checkWords_keeps
      | (fail_if_no_progress refine Keeps.upd ?_ rfl rfl rfl rfl rfl rfl) | dsimp only | split
      | apply Keeps.fst (by assumption) | apply Keeps.snd (by assumption) | apply Keeps.ofSome (by assumption)

theorem State.markDirty_keeps {s0 : State} (s : State) (t : Nat) (z0 : List Nat)
    (hs : Keeps s0 s) :
    Keeps s0 (State.markDirty s t z0) := by
  unfold State.markDirty
  with_reducible repeat' first
      | assumption | intro _ _ _ | intro _ _ | intro _ | apply Keeps.ite | apply State.wr64_keeps
      | apply State.markDirty_keeps | (fail_if_no_progress refine Keeps.upd ?_ rfl rfl rfl rfl rfl rfl) | dsimp only
      | split | apply Keeps.fst (by assumption) | apply Keeps.snd (by assumption) | apply Keeps.ofSome (by assumption)

theorem State.putWord_keeps {s0 : State} (s : State) (t w : Nat) (bytes : List (Option Byte))
    (hs : Keeps s0 s) :
    Keeps s0 (State.putWord s t w bytes) := by
  unfold State.putWord
  with_reducible repeat' first
      | assumption | intro _ _ _ | intro _ _ | intro _ | apply Keeps.ite | apply State.fixWord_keeps
      | (fail_if_no_progress refine Keeps.updMem ?_ rfl ?_ ?_ ?_ rfl rfl) | exact id | apply Memory.wf_mwriteEn
      | apply Memory.wf_mwrite | apply Memory.wf_mzero | apply Memory.wf_mset | apply Memory.wf_putPage | dsimp only
      | split | apply Keeps.fst (by assumption) | apply Keeps.snd (by assumption) | apply Keeps.ofSome (by assumption)

theorem State.writeWord_keeps {s0 : State} (s : State) (t w : Nat) (bytes : List (Option Byte))
    (hs : Keeps s0 s) :
    Keeps s0 (State.writeWord s t w bytes).1 := by
  unfold State.writeWord
  with_reducible repeat' first
      | assumption | intro _ _ _ | intro _ _ | intro _ | apply Keeps.ite | apply State.noteCe_keeps
      | apply State.noteUe_keeps | apply State.zeroBadWord_keeps | apply State.putWord_keeps
      | (fail_if_no_progress refine Keeps.upd ?_ rfl rfl rfl rfl rfl rfl) | dsimp only | split
      | apply Keeps.fst (by assumption) | apply Keeps.snd (by assumption) | apply Keeps.ofSome (by assumption)

theorem State.writeWords_keeps {s0 : State} (s : State) (t : Nat) (z0 : List (Nat × List (Option Byte)))
    (hs : Keeps s0 s) :
    Keeps s0 (State.writeWords s t z0).1 := by
  unfold State.writeWords
  with_reducible repeat' first
      | assumption | intro _ _ _ | intro _ _ | intro _ | apply Keeps.ite | apply State.writeWord_keeps
      | apply State.writeWords_keeps | (fail_if_no_progress refine Keeps.upd ?_ rfl rfl rfl rfl rfl rfl) | dsimp only
      | split | apply Keeps.fst (by assumption) | apply Keeps.snd (by assumption) | apply Keeps.ofSome (by assumption)

theorem State.pocketWrite_keeps {s0 : State} (s : State) (t off : Nat) (bytes : List (Option Byte)) (mark : Bool)
    (hs : Keeps s0 s) :
    Keeps s0 (State.pocketWrite s t off bytes mark).1 := by
  unfold State.pocketWrite
  with_reducible repeat' first
      | assumption | intro _ _ _ | intro _ _ | intro _ | apply Keeps.ite | apply State.markDirty_keeps
      | apply State.writeWords_keeps | (fail_if_no_progress refine Keeps.upd ?_ rfl rfl rfl rfl rfl rfl) | dsimp only
      | split | apply Keeps.fst (by assumption) | apply Keeps.snd (by assumption) | apply Keeps.ofSome (by assumption)

theorem State.answer_keeps {s0 : State} (s : State) (p : Packet) (kind code : Nat) (data : List Byte)
    (hs : Keeps s0 s) :
    Keeps s0 (State.answer s p kind code data) := by
  unfold State.answer
  with_reducible repeat' first
      | assumption | intro _ _ _ | intro _ _ | intro _ | apply Keeps.ite
      | (fail_if_no_progress refine Keeps.upd ?_ rfl rfl rfl rfl rfl rfl) | dsimp only | split
      | apply Keeps.fst (by assumption) | apply Keeps.snd (by assumption) | apply Keeps.ofSome (by assumption)

theorem State.latchRefusal_keeps {s0 : State} (s : State) (t : Nat) (o : Origin) (credited : Bool) (win code off : Nat)
    (hs : Keeps s0 s) :
    Keeps s0 (State.latchRefusal s t o credited win code off) := by
  unfold State.latchRefusal
  with_reducible repeat' first
      | assumption | intro _ _ _ | intro _ _ | intro _ | apply Keeps.ite | apply State.wr_keeps
      | apply State.count_keeps | (fail_if_no_progress refine Keeps.upd ?_ rfl rfl rfl rfl rfl rfl) | dsimp only
      | split | apply Keeps.fst (by assumption) | apply Keeps.snd (by assumption) | apply Keeps.ofSome (by assumption)

theorem State.refuseRemote_keeps {s0 : State} (s : State) (t : Nat) (p : Packet) (win code : Nat)
    (hs : Keeps s0 s) :
    Keeps s0 (State.refuseRemote s t p win code) := by
  unfold State.refuseRemote
  with_reducible repeat' first
      | assumption | intro _ _ _ | intro _ _ | intro _ | apply Keeps.ite | apply State.answer_keeps
      | apply State.latchRefusal_keeps | (fail_if_no_progress refine Keeps.upd ?_ rfl rfl rfl rfl rfl rfl)
      | dsimp only | split | apply Keeps.fst (by assumption) | apply Keeps.snd (by assumption)
      | apply Keeps.ofSome (by assumption)

theorem State.leaveWindow_keeps {s0 : State} (s : State) (t w : Nat)
    (hs : Keeps s0 s) :
    Keeps s0 (State.leaveWindow s t w) := by
  unfold State.leaveWindow
  with_reducible repeat' first
      | assumption | intro _ _ _ | intro _ _ | intro _ | apply Keeps.ite | apply State.setFld_keeps
      | (fail_if_no_progress refine Keeps.upd ?_ rfl rfl rfl rfl rfl rfl) | dsimp only | split
      | apply Keeps.fst (by assumption) | apply Keeps.snd (by assumption) | apply Keeps.ofSome (by assumption)

theorem State.refreshCredits_keeps {s0 : State} (s : State) (t : Nat)
    (hs : Keeps s0 s) :
    Keeps s0 (State.refreshCredits s t) := by
  unfold State.refreshCredits
  with_reducible repeat' first
      | assumption | intro _ _ _ | intro _ _ | intro _ | apply Keeps.ite | apply State.wr_keeps | apply Keeps.foldl
      | apply Keeps.foldlFst | (fail_if_no_progress refine Keeps.upd ?_ rfl rfl rfl rfl rfl rfl) | dsimp only | split
      | apply Keeps.fst (by assumption) | apply Keeps.snd (by assumption) | apply Keeps.ofSome (by assumption)

theorem State.creditLanded_keeps {s0 : State} (s : State) (t e : Nat)
    (hs : Keeps s0 s) :
    Keeps s0 (State.creditLanded s t e) := by
  unfold State.creditLanded
  with_reducible repeat' first
      | assumption | intro _ _ _ | intro _ _ | intro _ | apply Keeps.ite | apply State.setTile_keeps
      | (fail_if_no_progress refine Keeps.upd ?_ rfl rfl rfl rfl rfl rfl) | dsimp only | split
      | apply Keeps.fst (by assumption) | apply Keeps.snd (by assumption) | apply Keeps.ofSome (by assumption)

theorem State.chargeAccess_keeps {s0 : State} (s : State) (t : Nat) (src : PSrc) (code off : Nat)
    (hs : Keeps s0 s) :
    Keeps s0 (State.chargeAccess s t src code off) := by
  unfold State.chargeAccess
  with_reducible repeat' first
      | assumption | intro _ _ _ | intro _ _ | intro _ | apply Keeps.ite | apply State.jobFault_keeps
      | apply State.chargeTask_keeps | apply State.answer_keeps | apply State.refuseRemote_keeps
      | apply State.leaveWindow_keeps | apply Keeps.ofId
      | (fail_if_no_progress refine Keeps.upd ?_ rfl rfl rfl rfl rfl rfl) | dsimp only | split
      | apply Keeps.fst (by assumption) | apply Keeps.snd (by assumption) | apply Keeps.ofSome (by assumption)

theorem State.remoteLanded_keeps {s0 : State} (s : State) (t : Nat) (src : PSrc) (data : List Byte)
    (hs : Keeps s0 s) :
    Keeps s0 (State.remoteLanded s t src data) := by
  unfold State.remoteLanded
  with_reducible repeat' first
      | assumption | intro _ _ _ | intro _ _ | intro _ | apply Keeps.ite | apply State.answer_keeps
      | apply State.leaveWindow_keeps | (fail_if_no_progress refine Keeps.upd ?_ rfl rfl rfl rfl rfl rfl) | dsimp only
      | split | apply Keeps.fst (by assumption) | apply Keeps.snd (by assumption) | apply Keeps.ofSome (by assumption)

theorem State.issue_keeps {s0 : State} (s : State) (t k c : Nat) (f : Word → State → State)
    (hs : Keeps s0 s) (hf : ∀ (x0 : Word) (x1 : State), Keeps s0 x1 → Keeps s0 (f x0 x1)) :
    Keeps s0 (State.issue s t k c f) := by
  unfold State.issue
  with_reducible repeat' first
      | assumption | intro _ _ _ | intro _ _ | intro _ | apply Keeps.ite | apply State.count_keeps | apply hf
      | (fail_if_no_progress refine Keeps.upd ?_ rfl rfl rfl rfl rfl rfl) | dsimp only | split
      | apply Keeps.fst (by assumption) | apply Keeps.snd (by assumption) | apply Keeps.ofSome (by assumption)

theorem State.goto_keeps {s0 : State} (s : State) (t k : Nat) (p : Int)
    (hs : Keeps s0 s) :
    Keeps s0 (State.goto s t k p) := by
  unfold State.goto
  with_reducible repeat' first
      | assumption | intro _ _ _ | intro _ _ | intro _ | apply Keeps.ite | apply State.setTaskState_keeps
      | apply State.setPc_keeps | apply State.illegal_keeps
      | (fail_if_no_progress refine Keeps.upd ?_ rfl rfl rfl rfl rfl rfl) | dsimp only | split
      | apply Keeps.fst (by assumption) | apply Keeps.snd (by assumption) | apply Keeps.ofSome (by assumption)

theorem State.complete_keeps {s0 : State} (s : State) (t k : Nat)
    (hs : Keeps s0 s) :
    Keeps s0 (State.complete s t k) := by
  unfold State.complete
  with_reducible repeat' first
      | assumption | intro _ _ _ | intro _ _ | intro _ | apply Keeps.ite | apply State.goto_keeps
      | (fail_if_no_progress refine Keeps.upd ?_ rfl rfl rfl rfl rfl rfl) | dsimp only | split
      | apply Keeps.fst (by assumption) | apply Keeps.snd (by assumption) | apply Keeps.ofSome (by assumption)

theorem State.wait_keeps {s0 : State} (s : State) (t k reason : Nat)
    (hs : Keeps s0 s) :
    Keeps s0 (State.wait s t k reason) := by
  unfold State.wait
  with_reducible repeat' first
      | assumption | intro _ _ _ | intro _ _ | intro _ | apply Keeps.ite | apply State.setTaskState_keeps
      | (fail_if_no_progress refine Keeps.upd ?_ rfl rfl rfl rfl rfl rfl) | dsimp only | split
      | apply Keeps.fst (by assumption) | apply Keeps.snd (by assumption) | apply Keeps.ofSome (by assumption)

theorem State.setRd_keeps {s0 : State} (s : State) (t k : Nat) (w : Word) (v : Word)
    (hs : Keeps s0 s) :
    Keeps s0 (State.setRd s t k w v) := by
  unfold State.setRd
  with_reducible repeat' first
      | assumption | intro _ _ _ | intro _ _ | intro _ | apply Keeps.ite | apply State.setCreg_keeps
      | apply State.complete_keeps | (fail_if_no_progress refine Keeps.upd ?_ rfl rfl rfl rfl rfl rfl) | dsimp only
      | split | apply Keeps.fst (by assumption) | apply Keeps.snd (by assumption) | apply Keeps.ofSome (by assumption)

theorem State.drainStores_keeps {s0 : State} (s : State) (t k : Nat)
    (hs : Keeps s0 s) :
    Keeps s0 (State.drainStores s t k) := by
  unfold State.drainStores
  with_reducible repeat' first
      | assumption | intro _ _ _ | intro _ _ | intro _ | apply Keeps.ite | apply Keeps.getD | apply State.wr_keeps
      | apply State.setPorts_keeps | apply State.pocketWrite_keeps | apply State.chargeAccess_keeps
      | apply Keeps.foldl | apply Keeps.foldlFst | (fail_if_no_progress refine Keeps.upd ?_ rfl rfl rfl rfl rfl rfl)
      | dsimp only | split | apply Keeps.fst (by assumption) | apply Keeps.snd (by assumption)
      | apply Keeps.ofSome (by assumption)

theorem State.narrow_keeps {s0 : State} (s : State) (t k : Nat) (w : Word) (len : Nat) (f : State → Nat → State)
    (hs : Keeps s0 s) (hf : ∀ (x0 : State) (x1 : Nat), Keeps s0 x0 → Keeps s0 (f x0 x1)) :
    Keeps s0 (State.narrow s t k w len f) := by
  unfold State.narrow
  with_reducible repeat' first
      | assumption | intro _ _ _ | intro _ _ | intro _ | apply Keeps.ite | apply State.sbWaitCycle_keeps
      | apply State.cuffFault_keeps | apply State.illegal_keeps | apply State.wait_keeps | apply hf
      | (fail_if_no_progress refine Keeps.upd ?_ rfl rfl rfl rfl rfl rfl) | dsimp only | split
      | apply Keeps.fst (by assumption) | apply Keeps.snd (by assumption) | apply Keeps.ofSome (by assumption)

theorem State.load_keeps {s0 : State} (s : State) (t k : Nat) (w : Word) (len : Nat) (ext : Nat → Word)
    (hs : Keeps s0 s) :
    Keeps s0 (State.load s t k w len ext) := by
  unfold State.load
  with_reducible repeat' first
      | assumption | intro _ _ _ | intro _ _ | intro _ | apply Keeps.ite | apply State.pocketRead_keeps
      | apply State.chargeAccess_keeps | apply State.setRd_keeps | apply State.drainStores_keeps
      | apply State.narrow_keeps | (fail_if_no_progress refine Keeps.upd ?_ rfl rfl rfl rfl rfl rfl) | dsimp only
      | split | apply Keeps.fst (by assumption) | apply Keeps.snd (by assumption) | apply Keeps.ofSome (by assumption)

theorem State.store_keeps {s0 : State} (s : State) (t k : Nat) (w : Word) (len : Nat)
    (hs : Keeps s0 s) :
    Keeps s0 (State.store s t k w len) := by
  unfold State.store
  with_reducible repeat' first
      | assumption | intro _ _ _ | intro _ _ | intro _ | apply Keeps.ite | apply State.wr_keeps
      | apply State.setPorts_keeps | apply State.complete_keeps | apply State.narrow_keeps
      | (fail_if_no_progress refine Keeps.upd ?_ rfl rfl rfl rfl rfl rfl) | dsimp only | split
      | apply Keeps.fst (by assumption) | apply Keeps.snd (by assumption) | apply Keeps.ofSome (by assumption)

theorem State.wakeTile_keeps {s0 : State} (s : State) (t : Nat)
    (hs : Keeps s0 s) :
    Keeps s0 (State.wakeTile s t) := by
  unfold State.wakeTile
  with_reducible repeat' first
      | assumption | intro _ _ _ | intro _ _ | intro _ | apply Keeps.ite | apply State.setTile_keeps
      | (fail_if_no_progress refine Keeps.upd ?_ rfl rfl rfl rfl rfl rfl) | dsimp only | split
      | apply Keeps.fst (by assumption) | apply Keeps.snd (by assumption) | apply Keeps.ofSome (by assumption)

theorem State.startTask_keeps {s0 : State} (s : State) (t k : Nat)
    (hs : Keeps s0 s) :
    Keeps s0 (State.startTask s t k) := by
  unfold State.startTask
  with_reducible repeat' first
      | assumption | intro _ _ _ | intro _ _ | intro _ | apply Keeps.ite | apply State.wr_keeps
      | apply State.setBit_keeps | apply State.setTask_keeps | apply State.setTaskState_keeps
      | apply State.setPc_keeps | apply State.setCreg_keeps | apply State.wakeTile_keeps | apply Keeps.foldl
      | apply Keeps.foldlFst | (fail_if_no_progress refine Keeps.upd ?_ rfl rfl rfl rfl rfl rfl) | dsimp only | split
      | apply Keeps.fst (by assumption) | apply Keeps.snd (by assumption) | apply Keeps.ofSome (by assumption)

theorem State.mirrorFail_keeps {s0 : State} (s : State) (q sub module : Nat)
    (hs : Keeps s0 s) :
    Keeps s0 (State.mirrorFail s q sub module) := by
  unfold State.mirrorFail
  with_reducible repeat' first
      | assumption | intro _ _ _ | intro _ _ | intro _ | apply Keeps.ite | apply State.wr_keeps
      | apply State.setSlot_keeps | apply State.jobFault_keeps
      | (fail_if_no_progress refine Keeps.upd ?_ rfl rfl rfl rfl rfl rfl) | dsimp only | split
      | apply Keeps.fst (by assumption) | apply Keeps.snd (by assumption) | apply Keeps.ofSome (by assumption)

theorem State.refreshUndo_keeps {s0 : State} (s : State) (q : Nat)
    (hs : Keeps s0 s) :
    Keeps s0 (State.refreshUndo s q) := by
  unfold State.refreshUndo
  with_reducible repeat' first
      | assumption | intro _ _ _ | intro _ _ | intro _ | apply Keeps.ite | apply State.wr_keeps
      | (fail_if_no_progress refine Keeps.upd ?_ rfl rfl rfl rfl rfl rfl) | dsimp only | split
      | apply Keeps.fst (by assumption) | apply Keeps.snd (by assumption) | apply Keeps.ofSome (by assumption)

theorem State.beforeImage_keeps {s0 : State} (s : State) (p : Nat)
    (hs : Keeps s0 s) :
    Keeps s0 (State.beforeImage s p) := by
  unfold State.beforeImage
  with_reducible repeat' first
      | assumption | intro _ _ _ | intro _ _ | intro _ | apply Keeps.ite | apply State.mirrorFail_keeps
      | apply State.refreshUndo_keeps | (fail_if_no_progress refine Keeps.upd ?_ rfl rfl rfl rfl rfl rfl) | dsimp only
      | split | apply Keeps.fst (by assumption) | apply Keeps.snd (by assumption) | apply Keeps.ofSome (by assumption)

theorem State.markHbm_keeps {s0 : State} (s : State) (ps : List Nat)
    (hs : Keeps s0 s) :
    Keeps s0 (State.markHbm s ps) := by
  unfold State.markHbm
  with_reducible repeat' first
      | assumption | intro _ _ _ | intro _ _ | intro _ | apply Keeps.ite | apply Keeps.foldl | apply Keeps.foldlFst
      | (fail_if_no_progress refine Keeps.upd ?_ rfl rfl rfl rfl rfl rfl) | dsimp only | split
      | apply Keeps.fst (by assumption) | apply Keeps.snd (by assumption) | apply Keeps.ofSome (by assumption)

theorem State.hbmWrite_keeps {s0 : State} (s : State) (off : Nat) (bytes : List (Option Byte))
    (hs : Keeps s0 s) :
    Keeps s0 (State.hbmWrite s off bytes) := by
  unfold State.hbmWrite
  with_reducible repeat' first
      | assumption | intro _ _ _ | intro _ _ | intro _ | apply Keeps.ite | apply State.beforeImage_keeps
      | apply State.markHbm_keeps | apply Keeps.foldl | apply Keeps.foldlFst
      | (fail_if_no_progress refine Keeps.updMem ?_ rfl ?_ ?_ ?_ rfl rfl) | exact id | apply Memory.wf_mwriteEn
      | apply Memory.wf_mwrite | apply Memory.wf_mzero | apply Memory.wf_mset | apply Memory.wf_putPage | dsimp only
      | split | apply Keeps.fst (by assumption) | apply Keeps.snd (by assumption) | apply Keeps.ofSome (by assumption)

theorem State.latchHbm_keeps {s0 : State} (s : State) (off : Nat) (scrub : Bool)
    (hs : Keeps s0 s) :
    Keeps s0 (State.latchHbm s off scrub) := by
  unfold State.latchHbm
  with_reducible repeat' first
      | assumption | intro _ _ _ | intro _ _ | intro _ | apply Keeps.ite | apply State.wr_keeps
      | apply State.wr64_keeps | (fail_if_no_progress refine Keeps.upd ?_ rfl rfl rfl rfl rfl rfl) | dsimp only
      | split | apply Keeps.fst (by assumption) | apply Keeps.snd (by assumption) | apply Keeps.ofSome (by assumption)

theorem State.zeroHbmWord_keeps {s0 : State} (s : State) (w : Nat)
    (hs : Keeps s0 s) :
    Keeps s0 (State.zeroHbmWord s w) := by
  unfold State.zeroHbmWord
  with_reducible repeat' first
      | assumption | intro _ _ _ | intro _ _ | intro _ | apply Keeps.ite
      | (fail_if_no_progress refine Keeps.updMem ?_ rfl ?_ ?_ ?_ rfl rfl) | exact id | apply Memory.wf_mwriteEn
      | apply Memory.wf_mwrite | apply Memory.wf_mzero | apply Memory.wf_mset | apply Memory.wf_putPage | dsimp only
      | split | apply Keeps.fst (by assumption) | apply Keeps.snd (by assumption) | apply Keeps.ofSome (by assumption)

theorem State.hbmBad_keeps {s0 : State} (s : State) (w : Nat) (scrub : Bool)
    (hs : Keeps s0 s) :
    Keeps s0 (State.hbmBad s w scrub) := by
  unfold State.hbmBad
  with_reducible repeat' first
      | assumption | intro _ _ _ | intro _ _ | intro _ | apply Keeps.ite | apply State.count_keeps
      | apply State.recordOnly_keeps | apply State.jobFault_keeps | apply State.mirrorFail_keeps
      | apply State.latchHbm_keeps | apply State.zeroHbmWord_keeps
      | (fail_if_no_progress refine Keeps.upd ?_ rfl rfl rfl rfl rfl rfl) | dsimp only | split
      | apply Keeps.fst (by assumption) | apply Keeps.snd (by assumption) | apply Keeps.ofSome (by assumption)

theorem State.hbmCheck_keeps {s0 : State} (s : State) (scrub : Bool) (z0 : List Nat)
    (hs : Keeps s0 s) :
    Keeps s0 (State.hbmCheck s scrub z0).1 := by
  unfold State.hbmCheck
  with_reducible repeat' first
      | assumption | intro _ _ _ | intro _ _ | intro _ | apply Keeps.ite | apply State.count_keeps
      | apply State.hbmBad_keeps | apply State.hbmCheck_keeps
      | (fail_if_no_progress refine Keeps.upd ?_ rfl rfl rfl rfl rfl rfl) | dsimp only | split
      | apply Keeps.fst (by assumption) | apply Keeps.snd (by assumption) | apply Keeps.ofSome (by assumption)

theorem State.hbmRead_keeps {s0 : State} (s : State) (off len : Nat)
    (hs : Keeps s0 s) :
    Keeps s0 (State.hbmRead s off len).1 := by
  unfold State.hbmRead
  with_reducible repeat' first
      | assumption | intro _ _ _ | intro _ _ | intro _ | apply Keeps.ite | apply State.hbmCheck_keeps
      | (fail_if_no_progress refine Keeps.upd ?_ rfl rfl rfl rfl rfl rfl) | dsimp only | split
      | apply Keeps.fst (by assumption) | apply Keeps.snd (by assumption) | apply Keeps.ofSome (by assumption)

theorem State.refuseWrite_keeps {s0 : State} (s : State) (u : Requester) (tile : Option Nat) (unit code sub : Nat) (ctx : Nat × Nat × Nat)
    (hs : Keeps s0 s) :
    Keeps s0 (State.refuseWrite s u tile unit code sub ctx) := by
  unfold State.refuseWrite
  with_reducible repeat' first
      | assumption | intro _ _ _ | intro _ _ | intro _ | apply Keeps.ite | apply State.recordOnly_keeps
      | apply State.chargeTask_keeps | apply Keeps.ofId
      | (fail_if_no_progress refine Keeps.upd ?_ rfl rfl rfl rfl rfl rfl) | dsimp only | split
      | apply Keeps.fst (by assumption) | apply Keeps.snd (by assumption) | apply Keeps.ofSome (by assumption)

theorem State.openWindow_keeps {s0 : State} (s : State) (u : Requester) (t w : Nat)
    (hs : Keeps s0 s) :
    Keeps s0 (State.openWindow s u t w) := by
  unfold State.openWindow
  with_reducible repeat' first
      | assumption | intro _ _ _ | intro _ _ | intro _ | apply Keeps.ite | apply State.setFld_keeps
      | apply State.refuseWrite_keeps | (fail_if_no_progress refine Keeps.upd ?_ rfl rfl rfl rfl rfl rfl) | dsimp only
      | split | apply Keeps.fst (by assumption) | apply Keeps.snd (by assumption) | apply Keeps.ofSome (by assumption)

theorem State.closeWindow_keeps {s0 : State} (s : State) (t w : Nat)
    (hs : Keeps s0 s) :
    Keeps s0 (State.closeWindow s t w) := by
  unfold State.closeWindow
  with_reducible repeat' first
      | assumption | intro _ _ _ | intro _ _ | intro _ | apply Keeps.ite | apply State.setFld_keeps
      | (fail_if_no_progress refine Keeps.upd ?_ rfl rfl rfl rfl rfl rfl) | dsimp only | split
      | apply Keeps.fst (by assumption) | apply Keeps.snd (by assumption) | apply Keeps.ofSome (by assumption)

theorem State.checkInbound_keeps {s0 : State} (s : State) (t : Nat) (p : Packet)
    (hs : Keeps s0 s) :
    Keeps s0 (State.checkInbound s t p) := by
  unfold State.checkInbound
  with_reducible repeat' first
      | assumption | intro _ _ _ | intro _ _ | intro _ | apply Keeps.ite | apply State.setFld_keeps
      | apply State.count_keeps | apply State.setTile_keeps | apply State.refuseRemote_keeps
      | (fail_if_no_progress refine Keeps.upd ?_ rfl rfl rfl rfl rfl rfl) | dsimp only | split
      | apply Keeps.fst (by assumption) | apply Keeps.snd (by assumption) | apply Keeps.ofSome (by assumption)

theorem State.arriveAt_keeps {s0 : State} (s : State) (t : Nat) (p : Packet) (e : FlitErr)
    (hs : Keeps s0 s) :
    Keeps s0 (State.arriveAt s t p e) := by
  unfold State.arriveAt
  with_reducible repeat' first
      | assumption | intro _ _ _ | intro _ _ | intro _ | apply Keeps.ite | apply State.count_keeps
      | apply State.answer_keeps | apply State.checkInbound_keeps
      | (fail_if_no_progress refine Keeps.upd ?_ rfl rfl rfl rfl rfl rfl) | dsimp only | split
      | apply Keeps.fst (by assumption) | apply Keeps.snd (by assumption) | apply Keeps.ofSome (by assumption)

theorem State.latchLockErr_keeps {s0 : State} (s : State) (l tile slot sub : Nat)
    (hs : Keeps s0 s) :
    Keeps s0 (State.latchLockErr s l tile slot sub) := by
  unfold State.latchLockErr
  with_reducible repeat' first
      | assumption | intro _ _ _ | intro _ _ | intro _ | apply Keeps.ite | apply State.wr_keeps
      | (fail_if_no_progress refine Keeps.upd ?_ rfl rfl rfl rfl rfl rfl) | dsimp only | split
      | apply Keeps.fst (by assumption) | apply Keeps.snd (by assumption) | apply Keeps.ofSome (by assumption)

theorem State.refuseLock_keeps {s0 : State} (s : State) (l : Nat) (u : LockUser) (sub : Nat)
    (hs : Keeps s0 s) :
    Keeps s0 (State.refuseLock s l u sub) := by
  unfold State.refuseLock
  with_reducible repeat' first
      | assumption | intro _ _ _ | intro _ _ | intro _ | apply Keeps.ite | apply State.recordOnly_keeps
      | apply State.chargeTask_keeps | apply State.latchLockErr_keeps
      | (fail_if_no_progress refine Keeps.upd ?_ rfl rfl rfl rfl rfl rfl) | dsimp only | split
      | apply Keeps.fst (by assumption) | apply Keeps.snd (by assumption) | apply Keeps.ofSome (by assumption)

theorem State.takeLock_keeps {s0 : State} (s : State) (l : Nat) (u : LockUser)
    (hs : Keeps s0 s) :
    Keeps s0 (State.takeLock s l u).1 := by
  unfold State.takeLock
  with_reducible repeat' first
      | assumption | intro _ _ _ | intro _ _ | intro _ | apply Keeps.ite | apply State.setFld_keeps
      | apply State.setBit_keeps | apply State.count_keeps | apply State.setLocks_keeps | apply State.recordOnly_keeps
      | apply State.warnTask_keeps | (fail_if_no_progress refine Keeps.upd ?_ rfl rfl rfl rfl rfl rfl) | dsimp only
      | split | apply Keeps.fst (by assumption) | apply Keeps.snd (by assumption) | apply Keeps.ofSome (by assumption)

theorem State.acquire_keeps {s0 : State} (s : State) (l : Nat) (u : LockUser) (refused granted : State → Nat → State) (waits : State → State)
    (hs : Keeps s0 s) (hrefused : ∀ (x0 : State) (x1 : Nat), Keeps s0 x0 → Keeps s0 (refused x0 x1)) (hgranted : ∀ (x0 : State) (x1 : Nat), Keeps s0 x0 → Keeps s0 (granted x0 x1)) (hwaits : ∀ (x0 : State), Keeps s0 x0 → Keeps s0 (waits x0)) :
    Keeps s0 (State.acquire s l u refused granted waits) := by
  unfold State.acquire
  with_reducible repeat' first
      | assumption | intro _ _ _ | intro _ _ | intro _ | apply Keeps.ite | apply State.setWaiters_keeps
      | apply State.takeLock_keeps | apply hrefused | apply hgranted | apply hwaits
      | (fail_if_no_progress refine Keeps.upd ?_ rfl rfl rfl rfl rfl rfl) | dsimp only | split
      | apply Keeps.fst (by assumption) | apply Keeps.snd (by assumption) | apply Keeps.ofSome (by assumption)

theorem State.releaseLock_keeps {s0 : State} (s : State) (l : Nat) (u : LockUser)
    (hs : Keeps s0 s) :
    Keeps s0 (State.releaseLock s l u) := by
  unfold State.releaseLock
  with_reducible repeat' first
      | assumption | intro _ _ _ | intro _ _ | intro _ | apply Keeps.ite | apply State.setFld_keeps
      | apply State.setLocks_keeps | apply State.refuseLock_keeps
      | (fail_if_no_progress refine Keeps.upd ?_ rfl rfl rfl rfl rfl rfl) | dsimp only | split
      | apply Keeps.fst (by assumption) | apply Keeps.snd (by assumption) | apply Keeps.ofSome (by assumption)

theorem State.setArb_keeps {s0 : State} (s : State) (site : ArbSite) (a : Arb)
    (hs : Keeps s0 s) :
    Keeps s0 (State.setArb s site a) := by
  unfold State.setArb
  with_reducible repeat' first
      | assumption | intro _ _ _ | intro _ _ | intro _ | apply Keeps.ite
      | (fail_if_no_progress refine Keeps.upd ?_ rfl rfl rfl rfl rfl rfl) | dsimp only | split
      | apply Keeps.fst (by assumption) | apply Keeps.snd (by assumption) | apply Keeps.ofSome (by assumption)

theorem State.starve_keeps {s0 : State} (s : State) (site : ArbSite) (r : ArbReq) (ms : Nat)
    (hs : Keeps s0 s) :
    Keeps s0 (State.starve s site r ms) := by
  unfold State.starve
  with_reducible repeat' first
      | assumption | intro _ _ _ | intro _ _ | intro _ | apply Keeps.ite | apply State.wr_keeps
      | apply State.setBit_keeps | apply State.count_keeps | apply State.recordOnly_keeps | apply State.warnJob_keeps
      | apply State.markStep_keeps | apply State.setArb_keeps
      | (fail_if_no_progress refine Keeps.upd ?_ rfl rfl rfl rfl rfl rfl) | dsimp only | split
      | apply Keeps.fst (by assumption) | apply Keeps.snd (by assumption) | apply Keeps.ofSome (by assumption)

theorem State.arbRound_keeps {s0 : State} (s : State) (site : ArbSite) (reqs : List ArbReq) (ms : Nat)
    (hs : Keeps s0 s) :
    Keeps s0 (State.arbRound s site reqs ms) := by
  unfold State.arbRound
  with_reducible repeat' first
      | assumption | intro _ _ _ | intro _ _ | intro _ | apply Keeps.ite | apply State.setArb_keeps
      | apply State.starve_keeps | apply Keeps.foldl | apply Keeps.foldlFst
      | (fail_if_no_progress refine Keeps.upd ?_ rfl rfl rfl rfl rfl rfl) | dsimp only | split
      | apply Keeps.fst (by assumption) | apply Keeps.snd (by assumption) | apply Keeps.ofSome (by assumption)

end Sys2Proof.Machine
end

