-- ==== Sys2Proof/Laws/KeepsPlacket.lean ====
section
/-! SUPPORT. One lemma for each operation of the Placket, the AGP, tensors, the Yoke and the Shawl: whatever it does, it keeps the queue, the canonical form of
the byte memories, and the fuses. -/

set_option linter.unusedTactic false
set_option linter.unreachableTactic false
set_option linter.unusedVariables false

namespace Sys2Proof.Machine

theorem State.setHead_keeps {s0 : State} (s : State) (t q v : Nat)
    (hs : Keeps s0 s) :
    Keeps s0 (State.setHead s t q v) := by
  unfold State.setHead
  with_reducible repeat' first
      | assumption | intro _ _ _ | intro _ _ | intro _ | apply Keeps.ite | apply State.setFld_keeps
      | (fail_if_no_progress refine Keeps.upd ?_ rfl rfl rfl rfl rfl rfl) | dsimp only | split
      | apply Keeps.fst (by assumption) | apply Keeps.snd (by assumption) | apply Keeps.ofSome (by assumption)

theorem State.setTail_keeps {s0 : State} (s : State) (t q v : Nat)
    (hs : Keeps s0 s) :
    Keeps s0 (State.setTail s t q v) := by
  unfold State.setTail
  with_reducible repeat' first
      | assumption | intro _ _ _ | intro _ _ | intro _ | apply Keeps.ite | apply State.setFld_keeps
      | (fail_if_no_progress refine Keeps.upd ?_ rfl rfl rfl rfl rfl rfl) | dsimp only | split
      | apply Keeps.fst (by assumption) | apply Keeps.snd (by assumption) | apply Keeps.ofSome (by assumption)

theorem State.setFilled_keeps {s0 : State} (s : State) (t q v : Nat)
    (hs : Keeps s0 s) :
    Keeps s0 (State.setFilled s t q v) := by
  unfold State.setFilled
  with_reducible repeat' first
      | assumption | intro _ _ _ | intro _ _ | intro _ | apply Keeps.ite | apply State.setFld_keeps
      | (fail_if_no_progress refine Keeps.upd ?_ rfl rfl rfl rfl rfl rfl) | dsimp only | split
      | apply Keeps.fst (by assumption) | apply Keeps.snd (by assumption) | apply Keeps.ofSome (by assumption)

theorem State.placketFault_keeps {s0 : State} (s : State) (t q k code sub pos : Nat)
    (hs : Keeps s0 s) :
    Keeps s0 (State.placketFault s t q k code sub pos) := by
  unfold State.placketFault
  with_reducible repeat' first
      | assumption | intro _ _ _ | intro _ _ | intro _ | apply Keeps.ite | apply State.wr_keeps
      | apply State.chargeTask_keeps | (fail_if_no_progress refine Keeps.upd ?_ rfl rfl rfl rfl rfl rfl) | dsimp only
      | split | apply Keeps.fst (by assumption) | apply Keeps.snd (by assumption) | apply Keeps.ofSome (by assumption)

theorem State.queueFault_keeps {s0 : State} (s : State) (t q code sub pos : Nat)
    (hs : Keeps s0 s) :
    Keeps s0 (State.queueFault s t q code sub pos) := by
  unfold State.queueFault
  with_reducible repeat' first
      | assumption | intro _ _ _ | intro _ _ | intro _ | apply Keeps.ite | apply State.placketFault_keeps
      | (fail_if_no_progress refine Keeps.upd ?_ rfl rfl rfl rfl rfl rfl) | dsimp only | split
      | apply Keeps.fst (by assumption) | apply Keeps.snd (by assumption) | apply Keeps.ofSome (by assumption)

theorem State.sendRequest_keeps {s0 : State} (s : State) (t q kind addr addrLo aux len : Nat) (data : List (Option Byte))
    (hs : Keeps s0 s) :
    Keeps s0 (State.sendRequest s t q kind addr addrLo aux len data).1 := by
  unfold State.sendRequest
  with_reducible repeat' first
      | assumption | intro _ _ _ | intro _ _ | intro _ | apply Keeps.ite | apply Keeps.getD
      | apply State.setQueue_keeps | (fail_if_no_progress refine Keeps.updMem ?_ rfl ?_ ?_ ?_ rfl rfl) | exact id
      | apply Memory.wf_mwriteEn | apply Memory.wf_mwrite | apply Memory.wf_mzero | apply Memory.wf_mset
      | apply Memory.wf_putPage | dsimp only | split | apply Keeps.fst (by assumption)
      | apply Keeps.snd (by assumption) | apply Keeps.ofSome (by assumption)

theorem State.settleRing_keeps {s0 : State} (s : State) (t q : Nat)
    (hs : Keeps s0 s) :
    Keeps s0 (State.settleRing s t q) := by
  unfold State.settleRing
  with_reducible repeat' first
      | assumption | intro _ _ _ | intro _ _ | intro _ | apply Keeps.ite | apply State.setQueue_keeps
      | apply State.setFilled_keeps | (fail_if_no_progress refine Keeps.upd ?_ rfl rfl rfl rfl rfl rfl) | dsimp only
      | split | apply Keeps.fst (by assumption) | apply Keeps.snd (by assumption) | apply Keeps.ofSome (by assumption)

theorem State.ringIssue_keeps {s0 : State} (s : State) (t q : Nat) (r : Run) (b n : Nat)
    (hs : Keeps s0 s) :
    Keeps s0 (State.ringIssue s t q r b n) := by
  unfold State.ringIssue
  with_reducible repeat' first
      | assumption | intro _ _ _ | intro _ _ | intro _ | apply Keeps.ite | apply State.setQueue_keeps
      | apply State.setHead_keeps | apply State.setTail_keeps | apply State.setFilled_keeps
      | (fail_if_no_progress refine Keeps.upd ?_ rfl rfl rfl rfl rfl rfl) | dsimp only | split
      | apply Keeps.fst (by assumption) | apply Keeps.snd (by assumption) | apply Keeps.ofSome (by assumption)

theorem State.ringEnd_keeps {s0 : State} (s : State) (t q : Nat)
    (hs : Keeps s0 s) :
    Keeps s0 (State.ringEnd s t q) := by
  unfold State.ringEnd
  with_reducible repeat' first
      | assumption | intro _ _ _ | intro _ _ | intro _ | apply Keeps.ite | apply State.setQueue_keeps
      | apply State.setHead_keeps | apply State.setFilled_keeps | apply State.settleRing_keeps
      | (fail_if_no_progress refine Keeps.upd ?_ rfl rfl rfl rfl rfl rfl) | dsimp only | split
      | apply Keeps.fst (by assumption) | apply Keeps.snd (by assumption) | apply Keeps.ofSome (by assumption)

theorem State.sendWrites_keeps {s0 : State} (s : State) (t q : Nat)
    (hs : Keeps s0 s) :
    Keeps s0 (State.sendWrites s t q) := by
  unfold State.sendWrites
  with_reducible repeat' first
      | assumption | intro _ _ _ | intro _ _ | intro _ | apply Keeps.ite | apply Keeps.getD
      | apply State.setQueue_keeps | apply State.sendRequest_keeps | apply Keeps.foldl | apply Keeps.foldlFst
      | (fail_if_no_progress refine Keeps.upd ?_ rfl rfl rfl rfl rfl rfl) | dsimp only | split
      | apply Keeps.fst (by assumption) | apply Keeps.snd (by assumption) | apply Keeps.ofSome (by assumption)

theorem State.flushMerge_keeps {s0 : State} (s : State) (t q : Nat)
    (hs : Keeps s0 s) :
    Keeps s0 (State.flushMerge s t q) := by
  unfold State.flushMerge
  with_reducible repeat' first
      | assumption | intro _ _ _ | intro _ _ | intro _ | apply Keeps.ite | apply State.setQueue_keeps
      | apply State.sendWrites_keeps | (fail_if_no_progress refine Keeps.upd ?_ rfl rfl rfl rfl rfl rfl) | dsimp only
      | split | apply Keeps.fst (by assumption) | apply Keeps.snd (by assumption) | apply Keeps.ofSome (by assumption)

theorem State.pushElem_keeps {s0 : State} (s : State) (t q : Nat) (glob : Bool) (acc : Option Nat) (pos : Nat) (slot : Option Nat) (mv : Move) (data : List Byte)
    (hs : Keeps s0 s) :
    Keeps s0 (State.pushElem s t q glob acc pos slot mv data) := by
  unfold State.pushElem
  with_reducible repeat' first
      | assumption | intro _ _ _ | intro _ _ | intro _ | apply Keeps.ite | apply Keeps.getD
      | apply State.setQueue_keeps | apply State.flushMerge_keeps
      | (fail_if_no_progress refine Keeps.upd ?_ rfl rfl rfl rfl rfl rfl) | dsimp only | split
      | apply Keeps.fst (by assumption) | apply Keeps.snd (by assumption) | apply Keeps.ofSome (by assumption)

theorem State.pushTransfer_keeps {s0 : State} (s : State) (t q : Nat) (d : Desc) (pos : Nat) (slot : Option Nat) (es : List (Move × List Byte)) (txn : Option Nat)
    (hs : Keeps s0 s) :
    Keeps s0 (State.pushTransfer s t q d pos slot es txn) := by
  unfold State.pushTransfer
  with_reducible repeat' first
      | assumption | intro _ _ _ | intro _ _ | intro _ | apply Keeps.ite | apply State.count_keeps
      | apply State.setQueue_keeps | apply State.pushElem_keeps | apply Keeps.foldl | apply Keeps.foldlFst
      | (fail_if_no_progress refine Keeps.upd ?_ rfl rfl rfl rfl rfl rfl) | dsimp only | split
      | apply Keeps.fst (by assumption) | apply Keeps.snd (by assumption) | apply Keeps.ofSome (by assumption)

theorem State.scatterSat_keeps {s0 : State} (s : State) (t : Nat) (task : Option Nat)
    (hs : Keeps s0 s) :
    Keeps s0 (State.scatterSat s t task) := by
  unfold State.scatterSat
  with_reducible repeat' first
      | assumption | intro _ _ _ | intro _ _ | intro _ | apply Keeps.ite | apply State.setBit_keeps
      | apply State.count_keeps | apply State.recordOnly_keeps | apply State.warnJob_keeps
      | apply State.warnTask_keeps | apply State.markStep_keeps
      | (fail_if_no_progress refine Keeps.upd ?_ rfl rfl rfl rfl rfl rfl) | dsimp only | split
      | apply Keeps.fst (by assumption) | apply Keeps.snd (by assumption) | apply Keeps.ofSome (by assumption)

theorem State.accElem_keeps {s0 : State} (s : State) (t : Nat) (acc o oLo : Nat) (task : Option Nat) (bs : List Byte)
    (hs : Keeps s0 s) :
    Keeps s0 (State.accElem s t acc o oLo task bs).1 := by
  unfold State.accElem
  with_reducible repeat' first
      | assumption | intro _ _ _ | intro _ _ | intro _ | apply Keeps.ite | apply State.wr_keeps
      | apply State.pocketRead_keeps | apply State.pocketWrite_keeps | apply State.scatterSat_keeps
      | (fail_if_no_progress refine Keeps.upd ?_ rfl rfl rfl rfl rfl rfl) | dsimp only | split
      | apply Keeps.fst (by assumption) | apply Keeps.snd (by assumption) | apply Keeps.ofSome (by assumption)

theorem State.accAll_keeps {s0 : State} (s : State) (t acc : Nat) (task : Option Nat) (z0 : Nat) (z1 : Nat) (z2 : Nat) (z3 : List (Option Byte))
    (hs : Keeps s0 s) :
    Keeps s0 (State.accAll s t acc task z0 z1 z2 z3).1 := by
  unfold State.accAll
  with_reducible repeat' first
      | assumption | intro _ _ _ | intro _ _ | intro _ | apply Keeps.ite | apply State.accElem_keeps
      | apply State.accAll_keeps | apply Keeps.ofId
      | (fail_if_no_progress refine Keeps.upd ?_ rfl rfl rfl rfl rfl rfl) | dsimp only | split
      | apply Keeps.fst (by assumption) | apply Keeps.snd (by assumption) | apply Keeps.ofSome (by assumption)

theorem State.landWrite_keeps {s0 : State} (s : State) (t q : Nat) (m : MergeBuf)
    (hs : Keeps s0 s) :
    Keeps s0 (State.landWrite s t q m) := by
  unfold State.landWrite
  with_reducible repeat' first
      | assumption | intro _ _ _ | intro _ _ | intro _ | apply Keeps.ite | apply State.setTile_keeps
      | apply State.setQueue_keeps | apply State.sbFreeAt_keeps | apply State.refreshQ_keeps
      | apply State.settleRing_keeps | apply State.sendWrites_keeps | apply Keeps.foldl | apply Keeps.foldlFst
      | (fail_if_no_progress refine Keeps.upd ?_ rfl rfl rfl rfl rfl rfl) | dsimp only | split
      | apply Keeps.fst (by assumption) | apply Keeps.snd (by assumption) | apply Keeps.ofSome (by assumption)

theorem State.dropWrite_keeps {s0 : State} (s : State) (t q : Nat) (m : MergeBuf)
    (hs : Keeps s0 s) :
    Keeps s0 (State.dropWrite s t q m) := by
  unfold State.dropWrite
  with_reducible repeat' first
      | assumption | intro _ _ _ | intro _ _ | intro _ | apply Keeps.ite | apply State.setQueue_keeps
      | apply State.refreshQ_keeps | (fail_if_no_progress refine Keeps.upd ?_ rfl rfl rfl rfl rfl rfl) | dsimp only
      | split | apply Keeps.fst (by assumption) | apply Keeps.snd (by assumption) | apply Keeps.ofSome (by assumption)

theorem State.freeCtx_keeps {s0 : State} (s : State) (t : Nat) (c : Option Nat)
    (hs : Keeps s0 s) :
    Keeps s0 (State.freeCtx s t c) := by
  unfold State.freeCtx
  with_reducible repeat' first
      | assumption | intro _ _ _ | intro _ _ | intro _ | apply Keeps.ite | apply State.setBit_keeps
      | apply State.setTile_keeps | (fail_if_no_progress refine Keeps.upd ?_ rfl rfl rfl rfl rfl rfl) | dsimp only
      | split | apply Keeps.fst (by assumption) | apply Keeps.snd (by assumption) | apply Keeps.ofSome (by assumption)

theorem State.finishRun_keeps {s0 : State} (s : State) (t q : Nat)
    (hs : Keeps s0 s) :
    Keeps s0 (State.finishRun s t q) := by
  unfold State.finishRun
  with_reducible repeat' first
      | assumption | intro _ _ _ | intro _ _ | intro _ | apply Keeps.ite | apply State.setTile_keeps
      | apply State.setQueue_keeps | apply State.sbFreeAt_keeps | apply State.refreshQ_keeps
      | apply State.ringEnd_keeps | apply State.flushMerge_keeps | apply State.freeCtx_keeps
      | (fail_if_no_progress refine Keeps.upd ?_ rfl rfl rfl rfl rfl rfl) | dsimp only | split
      | apply Keeps.fst (by assumption) | apply Keeps.snd (by assumption) | apply Keeps.ofSome (by assumption)

theorem State.enqueue_keeps {s0 : State} (s : State) (t q : Nat) (d : Desc)
    (hs : Keeps s0 s) :
    Keeps s0 (State.enqueue s t q d) := by
  unfold State.enqueue
  with_reducible repeat' first
      | assumption | intro _ _ _ | intro _ _ | intro _ | apply Keeps.ite | apply State.setQueue_keeps
      | apply State.refreshQ_keeps | (fail_if_no_progress refine Keeps.upd ?_ rfl rfl rfl rfl rfl rfl) | dsimp only
      | split | apply Keeps.fst (by assumption) | apply Keeps.snd (by assumption) | apply Keeps.ofSome (by assumption)

theorem State.release_keeps {s0 : State} (s : State) (t q n : Nat)
    (hs : Keeps s0 s) :
    KeepsOpt s0 (State.release s t q n) := by
  unfold State.release
  with_reducible repeat' first
      | assumption | intro _ _ _ | intro _ _ | intro _ | apply Keeps.ite | apply KeepsOpt.ite | apply KeepsOpt.some
      | exact KeepsOpt.none _ | apply State.setQueue_keeps | apply State.refreshQ_keeps | apply State.setHead_keeps
      | apply State.setFilled_keeps | (fail_if_no_progress refine Keeps.upd ?_ rfl rfl rfl rfl rfl rfl) | dsimp only
      | split | apply Keeps.fst (by assumption) | apply Keeps.snd (by assumption) | apply Keeps.ofSome (by assumption)

theorem State.commit_keeps {s0 : State} (s : State) (t q n : Nat)
    (hs : Keeps s0 s) :
    KeepsOpt s0 (State.commit s t q n) := by
  unfold State.commit
  with_reducible repeat' first
      | assumption | intro _ _ _ | intro _ _ | intro _ | apply Keeps.ite | apply KeepsOpt.ite | apply KeepsOpt.some
      | exact KeepsOpt.none _ | apply State.refreshQ_keeps | apply State.setTail_keeps | apply State.setFilled_keeps
      | (fail_if_no_progress refine Keeps.upd ?_ rfl rfl rfl rfl rfl rfl) | dsimp only | split
      | apply Keeps.fst (by assumption) | apply Keeps.snd (by assumption) | apply Keeps.ofSome (by assumption)

theorem State.ringWrite_keeps {s0 : State} (s : State) (u : Requester) (t q n : Nat) (f : State → Nat → Nat → Nat → Option State)
    (hs : Keeps s0 s) (hf : ∀ (x0 : State) (x1 : Nat) (x2 : Nat) (x3 : Nat), Keeps s0 x0 → KeepsOpt s0 (f x0 x1 x2 x3)) :
    Keeps s0 (State.ringWrite s u t q n f) := by
  unfold State.ringWrite
  with_reducible repeat' first
      | assumption | intro _ _ _ | intro _ _ | intro _ | apply Keeps.ite | apply Keeps.getD
      | apply State.recordOnly_keeps | apply State.placketFault_keeps | apply State.queueFault_keeps | apply hf
      | (fail_if_no_progress refine Keeps.upd ?_ rfl rfl rfl rfl rfl rfl) | dsimp only | split
      | apply Keeps.fst (by assumption) | apply Keeps.snd (by assumption) | apply Keeps.ofSome (by assumption)

theorem State.latchSlotErr_keeps {s0 : State} (s : State) (q ring kind status : Nat)
    (hs : Keeps s0 s) :
    Keeps s0 (State.latchSlotErr s q ring kind status) := by
  unfold State.latchSlotErr
  with_reducible repeat' first
      | assumption | intro _ _ _ | intro _ _ | intro _ | apply Keeps.ite | apply State.wr_keeps
      | (fail_if_no_progress refine Keeps.upd ?_ rfl rfl rfl rfl rfl rfl) | dsimp only | split
      | apply Keeps.fst (by assumption) | apply Keeps.snd (by assumption) | apply Keeps.ofSome (by assumption)

theorem State.hostFail_keeps {s0 : State} (s : State) (t q pos status : Nat)
    (hs : Keeps s0 s) :
    Keeps s0 (State.hostFail s t q pos status) := by
  unfold State.hostFail
  with_reducible repeat' first
      | assumption | intro _ _ _ | intro _ _ | intro _ | apply Keeps.ite | apply State.queueFault_keeps
      | apply State.latchSlotErr_keeps | (fail_if_no_progress refine Keeps.upd ?_ rfl rfl rfl rfl rfl rfl)
      | dsimp only | split | apply Keeps.fst (by assumption) | apply Keeps.snd (by assumption)
      | apply Keeps.ofSome (by assumption)

theorem State.setCtx_keeps {s0 : State} (s : State) (t x : Nat) (c : AgpCtx)
    (hs : Keeps s0 s) :
    Keeps s0 (State.setCtx s t x c) := by
  unfold State.setCtx
  with_reducible repeat' first
      | assumption | intro _ _ _ | intro _ _ | intro _ | apply Keeps.ite | apply State.setTile_keeps
      | (fail_if_no_progress refine Keeps.upd ?_ rfl rfl rfl rfl rfl rfl) | dsimp only | split
      | apply Keeps.fst (by assumption) | apply Keeps.snd (by assumption) | apply Keeps.ofSome (by assumption)

theorem State.agpFault_keeps {s0 : State} (s : State) (t : Nat) (c : AgpCtx)
    (hs : Keeps s0 s) :
    Keeps s0 (State.agpFault s t c) := by
  unfold State.agpFault
  with_reducible repeat' first
      | assumption | intro _ _ _ | intro _ _ | intro _ | apply Keeps.ite | apply State.queueFault_keeps
      | (fail_if_no_progress refine Keeps.upd ?_ rfl rfl rfl rfl rfl rfl) | dsimp only | split
      | apply Keeps.fst (by assumption) | apply Keeps.snd (by assumption) | apply Keeps.ofSome (by assumption)

theorem State.agp_keeps {s0 : State} (s : State) (t x opc : Nat) (f : Word → AgpCtx → State → State)
    (hs : Keeps s0 s) (hf : ∀ (x0 : Word) (x1 : AgpCtx) (x2 : State), Keeps s0 x2 → Keeps s0 (f x0 x1 x2)) :
    Keeps s0 (State.agp s t x opc f) := by
  unfold State.agp
  with_reducible repeat' first
      | assumption | intro _ _ _ | intro _ _ | intro _ | apply Keeps.ite | apply State.count_keeps | apply hf
      | (fail_if_no_progress refine Keeps.upd ?_ rfl rfl rfl rfl rfl rfl) | dsimp only | split
      | apply Keeps.fst (by assumption) | apply Keeps.snd (by assumption) | apply Keeps.ofSome (by assumption)

theorem State.agpSet_keeps {s0 : State} (s : State) (t x : Nat) (w : Word) (c : AgpCtx) (v : Word)
    (hs : Keeps s0 s) :
    Keeps s0 (State.agpSet s t x w c v) := by
  unfold State.agpSet
  with_reducible repeat' first
      | assumption | intro _ _ _ | intro _ _ | intro _ | apply Keeps.ite | apply State.setCtx_keeps
      | (fail_if_no_progress refine Keeps.upd ?_ rfl rfl rfl rfl rfl rfl) | dsimp only | split
      | apply Keeps.fst (by assumption) | apply Keeps.snd (by assumption) | apply Keeps.ofSome (by assumption)

theorem State.agpAlu_keeps {s0 : State} (s : State) (t x opc : Nat) (f : Word → Word → Word → Word)
    (hs : Keeps s0 s) :
    Keeps s0 (State.agpAlu s t x opc f) := by
  unfold State.agpAlu
  with_reducible repeat' first
      | assumption | intro _ _ _ | intro _ _ | intro _ | apply Keeps.ite | apply State.agp_keeps
      | apply State.agpSet_keeps | (fail_if_no_progress refine Keeps.upd ?_ rfl rfl rfl rfl rfl rfl) | dsimp only
      | split | apply Keeps.fst (by assumption) | apply Keeps.snd (by assumption) | apply Keeps.ofSome (by assumption)

theorem State.agpBranch_keeps {s0 : State} (s : State) (t x opc : Nat) (cond : Word → Word → Bool)
    (hs : Keeps s0 s) :
    Keeps s0 (State.agpBranch s t x opc cond) := by
  unfold State.agpBranch
  with_reducible repeat' first
      | assumption | intro _ _ _ | intro _ _ | intro _ | apply Keeps.ite | apply State.setCtx_keeps
      | apply State.agpFault_keeps | apply State.agp_keeps
      | (fail_if_no_progress refine Keeps.upd ?_ rfl rfl rfl rfl rfl rfl) | dsimp only | split
      | apply Keeps.fst (by assumption) | apply Keeps.snd (by assumption) | apply Keeps.ofSome (by assumption)

theorem execAgpAdd_keeps {s0 : State} (t : TileId) (x : Fin 4) (s : State)
    (hs : Keeps s0 s) :
    KeepsOut s0 (execAgpAdd t x s) := by
  unfold execAgpAdd
  with_reducible repeat' first
      | assumption | intro _ _ _ | intro _ _ | intro _ | apply Keeps.ite | apply KeepsOut.next | apply KeepsOut.ite
      | apply State.agpAlu_keeps | (fail_if_no_progress refine Keeps.upd ?_ rfl rfl rfl rfl rfl rfl) | dsimp only
      | split | apply Keeps.fst (by assumption) | apply Keeps.snd (by assumption) | apply Keeps.ofSome (by assumption)

theorem execAgpSub_keeps {s0 : State} (t : TileId) (x : Fin 4) (s : State)
    (hs : Keeps s0 s) :
    KeepsOut s0 (execAgpSub t x s) := by
  unfold execAgpSub
  with_reducible repeat' first
      | assumption | intro _ _ _ | intro _ _ | intro _ | apply Keeps.ite | apply KeepsOut.next | apply KeepsOut.ite
      | apply State.agpAlu_keeps | (fail_if_no_progress refine Keeps.upd ?_ rfl rfl rfl rfl rfl rfl) | dsimp only
      | split | apply Keeps.fst (by assumption) | apply Keeps.snd (by assumption) | apply Keeps.ofSome (by assumption)

theorem execAgpAddi_keeps {s0 : State} (t : TileId) (x : Fin 4) (s : State)
    (hs : Keeps s0 s) :
    KeepsOut s0 (execAgpAddi t x s) := by
  unfold execAgpAddi
  with_reducible repeat' first
      | assumption | intro _ _ _ | intro _ _ | intro _ | apply Keeps.ite | apply KeepsOut.next | apply KeepsOut.ite
      | apply State.agpAlu_keeps | (fail_if_no_progress refine Keeps.upd ?_ rfl rfl rfl rfl rfl rfl) | dsimp only
      | split | apply Keeps.fst (by assumption) | apply Keeps.snd (by assumption) | apply Keeps.ofSome (by assumption)

theorem execAgpMuli_keeps {s0 : State} (t : TileId) (x : Fin 4) (s : State)
    (hs : Keeps s0 s) :
    KeepsOut s0 (execAgpMuli t x s) := by
  unfold execAgpMuli
  with_reducible repeat' first
      | assumption | intro _ _ _ | intro _ _ | intro _ | apply Keeps.ite | apply KeepsOut.next | apply KeepsOut.ite
      | apply State.agpAlu_keeps | (fail_if_no_progress refine Keeps.upd ?_ rfl rfl rfl rfl rfl rfl) | dsimp only
      | split | apply Keeps.fst (by assumption) | apply Keeps.snd (by assumption) | apply Keeps.ofSome (by assumption)

theorem execAgpShli_keeps {s0 : State} (t : TileId) (x : Fin 4) (s : State)
    (hs : Keeps s0 s) :
    KeepsOut s0 (execAgpShli t x s) := by
  unfold execAgpShli
  with_reducible repeat' first
      | assumption | intro _ _ _ | intro _ _ | intro _ | apply Keeps.ite | apply KeepsOut.next | apply KeepsOut.ite
      | apply State.agpAlu_keeps | (fail_if_no_progress refine Keeps.upd ?_ rfl rfl rfl rfl rfl rfl) | dsimp only
      | split | apply Keeps.fst (by assumption) | apply Keeps.snd (by assumption) | apply Keeps.ofSome (by assumption)

theorem execAgpShri_keeps {s0 : State} (t : TileId) (x : Fin 4) (s : State)
    (hs : Keeps s0 s) :
    KeepsOut s0 (execAgpShri t x s) := by
  unfold execAgpShri
  with_reducible repeat' first
      | assumption | intro _ _ _ | intro _ _ | intro _ | apply Keeps.ite | apply KeepsOut.next | apply KeepsOut.ite
      | apply State.agpAlu_keeps | (fail_if_no_progress refine Keeps.upd ?_ rfl rfl rfl rfl rfl rfl) | dsimp only
      | split | apply Keeps.fst (by assumption) | apply Keeps.snd (by assumption) | apply Keeps.ofSome (by assumption)

theorem execAgpAndi_keeps {s0 : State} (t : TileId) (x : Fin 4) (s : State)
    (hs : Keeps s0 s) :
    KeepsOut s0 (execAgpAndi t x s) := by
  unfold execAgpAndi
  with_reducible repeat' first
      | assumption | intro _ _ _ | intro _ _ | intro _ | apply Keeps.ite | apply KeepsOut.next | apply KeepsOut.ite
      | apply State.agpAlu_keeps | (fail_if_no_progress refine Keeps.upd ?_ rfl rfl rfl rfl rfl rfl) | dsimp only
      | split | apply Keeps.fst (by assumption) | apply Keeps.snd (by assumption) | apply Keeps.ofSome (by assumption)

theorem execAgpLui_keeps {s0 : State} (t : TileId) (x : Fin 4) (s : State)
    (hs : Keeps s0 s) :
    KeepsOut s0 (execAgpLui t x s) := by
  unfold execAgpLui
  with_reducible repeat' first
      | assumption | intro _ _ _ | intro _ _ | intro _ | apply Keeps.ite | apply KeepsOut.next | apply KeepsOut.ite
      | apply State.agpAlu_keeps | (fail_if_no_progress refine Keeps.upd ?_ rfl rfl rfl rfl rfl rfl) | dsimp only
      | split | apply Keeps.fst (by assumption) | apply Keeps.snd (by assumption) | apply Keeps.ofSome (by assumption)

theorem execAgpPopc_keeps {s0 : State} (t : TileId) (x : Fin 4) (s : State)
    (hs : Keeps s0 s) :
    KeepsOut s0 (execAgpPopc t x s) := by
  unfold execAgpPopc
  with_reducible repeat' first
      | assumption | intro _ _ _ | intro _ _ | intro _ | apply Keeps.ite | apply KeepsOut.next | apply KeepsOut.ite
      | apply State.agpAlu_keeps | (fail_if_no_progress refine Keeps.upd ?_ rfl rfl rfl rfl rfl rfl) | dsimp only
      | split | apply Keeps.fst (by assumption) | apply Keeps.snd (by assumption) | apply Keeps.ofSome (by assumption)

theorem State.agpLine_keeps {s0 : State} (s : State) (t : Nat) (c : AgpCtx) (b line : Nat) (word : List Byte → Nat)
    (hs : Keeps s0 s) :
    Keeps s0 (State.agpLine s t c b line word).1 := by
  unfold State.agpLine
  with_reducible repeat' first
      | assumption | intro _ _ _ | intro _ _ | intro _ | apply Keeps.ite | apply Keeps.getD | apply State.count_keeps
      | apply State.pocketRead_keeps | apply State.queueFault_keeps
      | (fail_if_no_progress refine Keeps.upd ?_ rfl rfl rfl rfl rfl rfl) | dsimp only | split
      | apply Keeps.fst (by assumption) | apply Keeps.snd (by assumption) | apply Keeps.ofSome (by assumption)

theorem State.agpLoad_keeps {s0 : State} (s : State) (t : Nat) (c : AgpCtx) (b o : Nat)
    (hs : Keeps s0 s) :
    Keeps s0 (State.agpLoad s t c b o).1 := by
  unfold State.agpLoad
  with_reducible repeat' first
      | assumption | intro _ _ _ | intro _ _ | intro _ | apply Keeps.ite | apply Keeps.getD
      | apply State.queueFault_keeps | apply State.agpLine_keeps
      | (fail_if_no_progress refine Keeps.upd ?_ rfl rfl rfl rfl rfl rfl) | dsimp only | split
      | apply Keeps.fst (by assumption) | apply Keeps.snd (by assumption) | apply Keeps.ofSome (by assumption)

theorem execAgpLd16_keeps {s0 : State} (t : TileId) (x : Fin 4) (s : State)
    (hs : Keeps s0 s) :
    KeepsOut s0 (execAgpLd16 t x s) := by
  unfold execAgpLd16
  with_reducible repeat' first
      | assumption | intro _ _ _ | intro _ _ | intro _ | apply Keeps.ite | apply KeepsOut.next | apply KeepsOut.ite
      | apply Keeps.getD | apply State.agp_keeps | apply State.agpSet_keeps | apply State.agpLoad_keeps
      | (fail_if_no_progress refine Keeps.upd ?_ rfl rfl rfl rfl rfl rfl) | dsimp only | split
      | apply Keeps.fst (by assumption) | apply Keeps.snd (by assumption) | apply Keeps.ofSome (by assumption)

theorem execAgpLdp_keeps {s0 : State} (t : TileId) (x : Fin 4) (s : State)
    (hs : Keeps s0 s) :
    KeepsOut s0 (execAgpLdp t x s) := by
  unfold execAgpLdp
  with_reducible repeat' first
      | assumption | intro _ _ _ | intro _ _ | intro _ | apply Keeps.ite | apply KeepsOut.next | apply KeepsOut.ite
      | apply Keeps.getD | apply State.agp_keeps | apply State.agpSet_keeps | apply State.agpLoad_keeps
      | (fail_if_no_progress refine Keeps.upd ?_ rfl rfl rfl rfl rfl rfl) | dsimp only | split
      | apply Keeps.fst (by assumption) | apply Keeps.snd (by assumption) | apply Keeps.ofSome (by assumption)

theorem execAgpEmit_keeps {s0 : State} (t : TileId) (x : Fin 4) (s : State)
    (hs : Keeps s0 s) :
    KeepsOut s0 (execAgpEmit t x s) := by
  unfold execAgpEmit
  with_reducible repeat' first
      | assumption | intro _ _ _ | intro _ _ | intro _ | apply Keeps.ite | apply KeepsOut.next | apply KeepsOut.ite
      | apply State.setQueue_keeps | apply State.setCtx_keeps | apply State.agp_keeps
      | (fail_if_no_progress refine Keeps.upd ?_ rfl rfl rfl rfl rfl rfl) | dsimp only | split
      | apply Keeps.fst (by assumption) | apply Keeps.snd (by assumption) | apply Keeps.ofSome (by assumption)

theorem execAgpBeq_keeps {s0 : State} (t : TileId) (x : Fin 4) (s : State)
    (hs : Keeps s0 s) :
    KeepsOut s0 (execAgpBeq t x s) := by
  unfold execAgpBeq
  with_reducible repeat' first
      | assumption | intro _ _ _ | intro _ _ | intro _ | apply Keeps.ite | apply KeepsOut.next | apply KeepsOut.ite
      | apply State.agpBranch_keeps | (fail_if_no_progress refine Keeps.upd ?_ rfl rfl rfl rfl rfl rfl) | dsimp only
      | split | apply Keeps.fst (by assumption) | apply Keeps.snd (by assumption) | apply Keeps.ofSome (by assumption)

theorem execAgpBne_keeps {s0 : State} (t : TileId) (x : Fin 4) (s : State)
    (hs : Keeps s0 s) :
    KeepsOut s0 (execAgpBne t x s) := by
  unfold execAgpBne
  with_reducible repeat' first
      | assumption | intro _ _ _ | intro _ _ | intro _ | apply Keeps.ite | apply KeepsOut.next | apply KeepsOut.ite
      | apply State.agpBranch_keeps | (fail_if_no_progress refine Keeps.upd ?_ rfl rfl rfl rfl rfl rfl) | dsimp only
      | split | apply Keeps.fst (by assumption) | apply Keeps.snd (by assumption) | apply Keeps.ofSome (by assumption)

theorem execAgpBlt_keeps {s0 : State} (t : TileId) (x : Fin 4) (s : State)
    (hs : Keeps s0 s) :
    KeepsOut s0 (execAgpBlt t x s) := by
  unfold execAgpBlt
  with_reducible repeat' first
      | assumption | intro _ _ _ | intro _ _ | intro _ | apply Keeps.ite | apply KeepsOut.next | apply KeepsOut.ite
      | apply State.agpBranch_keeps | (fail_if_no_progress refine Keeps.upd ?_ rfl rfl rfl rfl rfl rfl) | dsimp only
      | split | apply Keeps.fst (by assumption) | apply Keeps.snd (by assumption) | apply Keeps.ofSome (by assumption)

theorem execAgpBge_keeps {s0 : State} (t : TileId) (x : Fin 4) (s : State)
    (hs : Keeps s0 s) :
    KeepsOut s0 (execAgpBge t x s) := by
  unfold execAgpBge
  with_reducible repeat' first
      | assumption | intro _ _ _ | intro _ _ | intro _ | apply Keeps.ite | apply KeepsOut.next | apply KeepsOut.ite
      | apply State.agpBranch_keeps | (fail_if_no_progress refine Keeps.upd ?_ rfl rfl rfl rfl rfl rfl) | dsimp only
      | split | apply Keeps.fst (by assumption) | apply Keeps.snd (by assumption) | apply Keeps.ofSome (by assumption)

theorem execAgpJmp_keeps {s0 : State} (t : TileId) (x : Fin 4) (s : State)
    (hs : Keeps s0 s) :
    KeepsOut s0 (execAgpJmp t x s) := by
  unfold execAgpJmp
  with_reducible repeat' first
      | assumption | intro _ _ _ | intro _ _ | intro _ | apply Keeps.ite | apply KeepsOut.next | apply KeepsOut.ite
      | apply State.agpBranch_keeps | (fail_if_no_progress refine Keeps.upd ?_ rfl rfl rfl rfl rfl rfl) | dsimp only
      | split | apply Keeps.fst (by assumption) | apply Keeps.snd (by assumption) | apply Keeps.ofSome (by assumption)

theorem execAgpEnd_keeps {s0 : State} (t : TileId) (x : Fin 4) (s : State)
    (hs : Keeps s0 s) :
    KeepsOut s0 (execAgpEnd t x s) := by
  unfold execAgpEnd
  with_reducible repeat' first
      | assumption | intro _ _ _ | intro _ _ | intro _ | apply Keeps.ite | apply KeepsOut.next | apply KeepsOut.ite
      | apply State.setQueue_keeps | apply State.finishRun_keeps | apply State.agp_keeps
      | (fail_if_no_progress refine Keeps.upd ?_ rfl rfl rfl rfl rfl rfl) | dsimp only | split
      | apply Keeps.fst (by assumption) | apply Keeps.snd (by assumption) | apply Keeps.ofSome (by assumption)

theorem execAgpReservedOpcode_keeps {s0 : State} (t : TileId) (x : Fin 4) (s : State)
    (hs : Keeps s0 s) :
    KeepsOut s0 (execAgpReservedOpcode t x s) := by
  unfold execAgpReservedOpcode
  with_reducible repeat' first
      | assumption | intro _ _ _ | intro _ _ | intro _ | apply Keeps.ite | apply KeepsOut.next | apply KeepsOut.ite
      | apply State.agpFault_keeps | (fail_if_no_progress refine Keeps.upd ?_ rfl rfl rfl rfl rfl rfl) | dsimp only
      | split | apply Keeps.fst (by assumption) | apply Keeps.snd (by assumption) | apply Keeps.ofSome (by assumption)

theorem State.setInst_keeps {s0 : State} (s : State) (q a : Nat) (x : Inst)
    (hs : Keeps s0 s) :
    Keeps s0 (State.setInst s q a x) := by
  unfold State.setInst
  with_reducible repeat' first
      | assumption | intro _ _ _ | intro _ _ | intro _ | apply Keeps.ite
      | (fail_if_no_progress refine Keeps.upd ?_ rfl rfl rfl rfl rfl rfl) | dsimp only | split
      | apply Keeps.fst (by assumption) | apply Keeps.snd (by assumption) | apply Keeps.ofSome (by assumption)

theorem State.latchYokeErr_keeps {s0 : State} (s : State) (t code sub : Nat)
    (hs : Keeps s0 s) :
    Keeps s0 (State.latchYokeErr s t code sub) := by
  unfold State.latchYokeErr
  with_reducible repeat' first
      | assumption | intro _ _ _ | intro _ _ | intro _ | apply Keeps.ite | apply State.wr_keeps
      | (fail_if_no_progress refine Keeps.upd ?_ rfl rfl rfl rfl rfl rfl) | dsimp only | split
      | apply Keeps.fst (by assumption) | apply Keeps.snd (by assumption) | apply Keeps.ofSome (by assumption)

theorem State.yokeFault_keeps {s0 : State} (s : State) (t k code sub : Nat)
    (hs : Keeps s0 s) :
    Keeps s0 (State.yokeFault s t k code sub) := by
  unfold State.yokeFault
  with_reducible repeat' first
      | assumption | intro _ _ _ | intro _ _ | intro _ | apply Keeps.ite | apply State.chargeTask_keeps
      | apply State.latchYokeErr_keeps | (fail_if_no_progress refine Keeps.upd ?_ rfl rfl rfl rfl rfl rfl)
      | dsimp only | split | apply Keeps.fst (by assumption) | apply Keeps.snd (by assumption)
      | apply Keeps.ofSome (by assumption)

theorem State.refreshYoke_keeps {s0 : State} (s : State) (p : Nat)
    (hs : Keeps s0 s) :
    Keeps s0 (State.refreshYoke s p) := by
  unfold State.refreshYoke
  with_reducible repeat' first
      | assumption | intro _ _ _ | intro _ _ | intro _ | apply Keeps.ite | apply State.setFld_keeps
      | apply Keeps.foldl | apply Keeps.foldlFst | (fail_if_no_progress refine Keeps.upd ?_ rfl rfl rfl rfl rfl rfl)
      | dsimp only | split | apply Keeps.fst (by assumption) | apply Keeps.snd (by assumption)
      | apply Keeps.ofSome (by assumption)

theorem State.finishTake_keeps {s0 : State} (s : State) (t k : Nat) (ws : List Word)
    (hs : Keeps s0 s) :
    Keeps s0 (State.finishTake s t k ws) := by
  unfold State.finishTake
  with_reducible repeat' first
      | assumption | intro _ _ _ | intro _ _ | intro _ | apply Keeps.ite | apply Keeps.getD
      | apply State.setCreg_keeps | apply State.complete_keeps | apply Keeps.foldl | apply Keeps.foldlFst
      | (fail_if_no_progress refine Keeps.upd ?_ rfl rfl rfl rfl rfl rfl) | dsimp only | split
      | apply Keeps.fst (by assumption) | apply Keeps.snd (by assumption) | apply Keeps.ofSome (by assumption)

theorem State.serveTake_keeps {s0 : State} (s : State) (q a t k : Nat) (x : Inst)
    (hs : Keeps s0 s) :
    Keeps s0 (State.serveTake s q a t k x).1 := by
  unfold State.serveTake
  with_reducible repeat' first
      | assumption | intro _ _ _ | intro _ _ | intro _ | apply Keeps.ite | apply State.count_keeps
      | apply State.clear_keeps | apply State.setInst_keeps | apply State.finishTake_keeps
      | (fail_if_no_progress refine Keeps.upd ?_ rfl rfl rfl rfl rfl rfl) | dsimp only | split
      | apply Keeps.fst (by assumption) | apply Keeps.snd (by assumption) | apply Keeps.ofSome (by assumption)

theorem State.takeWaits_keeps {s0 : State} (s : State) (t : Nat)
    (hs : Keeps s0 s) :
    Keeps s0 (State.takeWaits s t) := by
  unfold State.takeWaits
  with_reducible repeat' first
      | assumption | intro _ _ _ | intro _ _ | intro _ | apply Keeps.ite | apply State.count_keeps
      | (fail_if_no_progress refine Keeps.upd ?_ rfl rfl rfl rfl rfl rfl) | dsimp only | split
      | apply Keeps.fst (by assumption) | apply Keeps.snd (by assumption) | apply Keeps.ofSome (by assumption)

theorem State.serveFirst_keeps {s0 : State} (s : State) (q a : Nat) (x : Inst) (z0 : List (Nat × Nat))
    (hs : Keeps s0 s) :
    Keeps s0 (State.serveFirst s q a x z0) := by
  unfold State.serveFirst
  with_reducible repeat' first
      | assumption | intro _ _ _ | intro _ _ | intro _ | apply Keeps.ite | apply State.serveTake_keeps
      | apply State.takeWaits_keeps | apply State.serveFirst_keeps
      | (fail_if_no_progress refine Keeps.upd ?_ rfl rfl rfl rfl rfl rfl) | dsimp only | split
      | apply Keeps.fst (by assumption) | apply Keeps.snd (by assumption) | apply Keeps.ofSome (by assumption)

theorem execYstart_keeps {s0 : State} (t : TileId) (k : SlotId) (s : State)
    (hs : Keeps s0 s) :
    KeepsOut s0 (execYstart t k s) := by
  unfold execYstart
  with_reducible repeat' first
      | assumption | intro _ _ _ | intro _ _ | intro _ | apply Keeps.ite | apply KeepsOut.next | apply KeepsOut.ite
      | apply State.setFld_keeps | apply State.setBit_keeps | apply State.issue_keeps | apply State.complete_keeps
      | apply State.setInst_keeps | apply State.yokeFault_keeps
      | (fail_if_no_progress refine Keeps.upd ?_ rfl rfl rfl rfl rfl rfl) | dsimp only | split
      | apply Keeps.fst (by assumption) | apply Keeps.snd (by assumption) | apply Keeps.ofSome (by assumption)

theorem execYokeCutDone_keeps {s0 : State} (q : PartId) (a : Fin 16) (s : State)
    (hs : Keeps s0 s) :
    KeepsOut s0 (execYokeCutDone q a s) := by
  unfold execYokeCutDone
  with_reducible repeat' first
      | assumption | intro _ _ _ | intro _ _ | intro _ | apply Keeps.ite | apply KeepsOut.next | apply KeepsOut.ite
      | apply State.setBit_keeps | apply State.count_keeps | apply State.setInst_keeps | apply State.yokeFault_keeps
      | apply State.refreshYoke_keeps | (fail_if_no_progress refine Keeps.upd ?_ rfl rfl rfl rfl rfl rfl) | dsimp only
      | split | apply Keeps.fst (by assumption) | apply Keeps.snd (by assumption) | apply Keeps.ofSome (by assumption)

theorem execYtake_keeps {s0 : State} (t : TileId) (k : SlotId) (s : State)
    (hs : Keeps s0 s) :
    KeepsOut s0 (execYtake t k s) := by
  unfold execYtake
  with_reducible repeat' first
      | assumption | intro _ _ _ | intro _ _ | intro _ | apply Keeps.ite | apply KeepsOut.next | apply KeepsOut.ite
      | apply State.illegal_keeps | apply State.issue_keeps | apply State.wait_keeps | apply State.setInst_keeps
      | apply State.yokeFault_keeps | apply State.serveTake_keeps | apply State.takeWaits_keeps
      | (fail_if_no_progress refine Keeps.upd ?_ rfl rfl rfl rfl rfl rfl) | dsimp only | split
      | apply Keeps.fst (by assumption) | apply Keeps.snd (by assumption) | apply Keeps.ofSome (by assumption)

theorem execYokeTakeServed_keeps {s0 : State} (q : PartId) (a : Fin 16) (s : State)
    (hs : Keeps s0 s) :
    KeepsOut s0 (execYokeTakeServed q a s) := by
  unfold execYokeTakeServed
  with_reducible repeat' first
      | assumption | intro _ _ _ | intro _ _ | intro _ | apply Keeps.ite | apply KeepsOut.next | apply KeepsOut.ite
      | apply State.serveFirst_keeps | (fail_if_no_progress refine Keeps.upd ?_ rfl rfl rfl rfl rfl rfl) | dsimp only
      | split | apply Keeps.fst (by assumption) | apply Keeps.snd (by assumption) | apply Keeps.ofSome (by assumption)

theorem State.notHeld_keeps {s0 : State} (s : State) (t k q : Nat)
    (hs : Keeps s0 s) :
    Keeps s0 (State.notHeld s t k q) := by
  unfold State.notHeld
  with_reducible repeat' first
      | assumption | intro _ _ _ | intro _ _ | intro _ | apply Keeps.ite | apply State.yokeFault_keeps
      | (fail_if_no_progress refine Keeps.upd ?_ rfl rfl rfl rfl rfl rfl) | dsimp only | split
      | apply Keeps.fst (by assumption) | apply Keeps.snd (by assumption) | apply Keeps.ofSome (by assumption)

theorem execYdone_keeps {s0 : State} (t : TileId) (k : SlotId) (s : State)
    (hs : Keeps s0 s) :
    KeepsOut s0 (execYdone t k s) := by
  unfold execYdone
  with_reducible repeat' first
      | assumption | intro _ _ _ | intro _ _ | intro _ | apply Keeps.ite | apply KeepsOut.next | apply KeepsOut.ite
      | apply State.issue_keeps | apply State.complete_keeps | apply State.setInst_keeps | apply State.yokeFault_keeps
      | apply State.refreshYoke_keeps | apply State.notHeld_keeps
      | (fail_if_no_progress refine Keeps.upd ?_ rfl rfl rfl rfl rfl rfl) | dsimp only | split
      | apply Keeps.fst (by assumption) | apply Keeps.snd (by assumption) | apply Keeps.ofSome (by assumption)

theorem execYret_keeps {s0 : State} (t : TileId) (k : SlotId) (s : State)
    (hs : Keeps s0 s) :
    KeepsOut s0 (execYret t k s) := by
  unfold execYret
  with_reducible repeat' first
      | assumption | intro _ _ _ | intro _ _ | intro _ | apply Keeps.ite | apply KeepsOut.next | apply KeepsOut.ite
      | apply State.issue_keeps | apply State.complete_keeps | apply State.setInst_keeps | apply State.yokeFault_keeps
      | apply State.notHeld_keeps | (fail_if_no_progress refine Keeps.upd ?_ rfl rfl rfl rfl rfl rfl) | dsimp only
      | split | apply Keeps.fst (by assumption) | apply Keeps.snd (by assumption) | apply Keeps.ofSome (by assumption)

theorem execChainReservationExpire_keeps {s0 : State} (q : PartId) (a : Fin 16) (p : Nat) (s : State)
    (hs : Keeps s0 s) :
    KeepsOut s0 (execChainReservationExpire q a p s) := by
  unfold execChainReservationExpire
  with_reducible repeat' first
      | assumption | intro _ _ _ | intro _ _ | intro _ | apply Keeps.ite | apply KeepsOut.next | apply KeepsOut.ite
      | apply State.setInst_keeps | (fail_if_no_progress refine Keeps.upd ?_ rfl rfl rfl rfl rfl rfl) | dsimp only
      | split | apply Keeps.fst (by assumption) | apply Keeps.snd (by assumption) | apply Keeps.ofSome (by assumption)

theorem execYokeCtrClear_keeps {s0 : State} (p : PanelId) (s : State)
    (hs : Keeps s0 s) :
    KeepsOut s0 (execYokeCtrClear p s) := by
  unfold execYokeCtrClear
  with_reducible repeat' first
      | assumption | intro _ _ _ | intro _ _ | intro _ | apply Keeps.ite | apply KeepsOut.next | apply KeepsOut.ite
      | apply State.clear_keeps | apply State.ctl_keeps
      | (fail_if_no_progress refine Keeps.upd ?_ rfl rfl rfl rfl rfl rfl) | dsimp only | split
      | apply Keeps.fst (by assumption) | apply Keeps.snd (by assumption) | apply Keeps.ofSome (by assumption)

theorem State.giveCredit_keeps {s0 : State} (s : State) (t e : Nat) (o : Origin) (off len pending : Nat) (ended : Bool)
    (hs : Keeps s0 s) :
    Keeps s0 (State.giveCredit s t e o off len pending ended) := by
  unfold State.giveCredit
  with_reducible repeat' first
      | assumption | intro _ _ _ | intro _ _ | intro _ | apply Keeps.ite | apply State.count_keeps
      | apply State.setTile_keeps | apply State.refreshCredits_keeps
      | (fail_if_no_progress refine Keeps.upd ?_ rfl rfl rfl rfl rfl rfl) | dsimp only | split
      | apply Keeps.fst (by assumption) | apply Keeps.snd (by assumption) | apply Keeps.ofSome (by assumption)

theorem State.creditRefuse_keeps {s0 : State} (s : State) (t : Nat) (o : Origin) (off len code unit : Nat)
    (hs : Keeps s0 s) :
    Keeps s0 (State.creditRefuse s t o off len code unit) := by
  unfold State.creditRefuse
  with_reducible repeat' first
      | assumption | intro _ _ _ | intro _ _ | intro _ | apply Keeps.ite | apply State.recordOnly_keeps
      | apply State.chargeTask_keeps | apply State.pocketRecord_keeps | apply State.latchRefusal_keeps
      | apply Keeps.ofId | (fail_if_no_progress refine Keeps.upd ?_ rfl rfl rfl rfl rfl rfl) | dsimp only | split
      | apply Keeps.fst (by assumption) | apply Keeps.snd (by assumption) | apply Keeps.ofSome (by assumption)

theorem State.creditServe_keeps {s0 : State} (s : State) (t : Nat) (z0 : List CreditReq) (z1 : List CreditReq)
    (hs : Keeps s0 s) :
    Keeps s0 (State.creditServe s t z0 z1) := by
  unfold State.creditServe
  with_reducible repeat' first
      | assumption | intro _ _ _ | intro _ _ | intro _ | apply Keeps.ite | apply State.setTile_keeps
      | apply State.giveCredit_keeps | apply State.creditServe_keeps
      | (fail_if_no_progress refine Keeps.upd ?_ rfl rfl rfl rfl rfl rfl) | dsimp only | split
      | apply Keeps.fst (by assumption) | apply Keeps.snd (by assumption) | apply Keeps.ofSome (by assumption)

theorem State.freeEntry_keeps {s0 : State} (s : State) (t e : Nat)
    (hs : Keeps s0 s) :
    Keeps s0 (State.freeEntry s t e) := by
  unfold State.freeEntry
  with_reducible repeat' first
      | assumption | intro _ _ _ | intro _ _ | intro _ | apply Keeps.ite | apply State.setTile_keeps
      | apply State.refreshCredits_keeps | (fail_if_no_progress refine Keeps.upd ?_ rfl rfl rfl rfl rfl rfl)
      | dsimp only | split | apply Keeps.fst (by assumption) | apply Keeps.snd (by assumption)
      | apply Keeps.ofSome (by assumption)

theorem execCreditGrantRequest_keeps {s0 : State} (t : TileId) (src : Origin) (off len : Nat) (s : State)
    (hs : Keeps s0 s) :
    KeepsOut s0 (execCreditGrantRequest t src off len s) := by
  unfold execCreditGrantRequest
  with_reducible repeat' first
      | assumption | intro _ _ _ | intro _ _ | intro _ | apply Keeps.ite | apply KeepsOut.next | apply KeepsOut.ite
      | apply State.setTile_keeps | apply State.giveCredit_keeps | apply State.creditRefuse_keeps
      | (fail_if_no_progress refine Keeps.upd ?_ rfl rfl rfl rfl rfl rfl) | dsimp only | split
      | apply Keeps.fst (by assumption) | apply Keeps.snd (by assumption) | apply Keeps.ofSome (by assumption)

theorem execCreditGrant_keeps {s0 : State} (t : TileId) (s : State)
    (hs : Keeps s0 s) :
    KeepsOut s0 (execCreditGrant t s) := by
  unfold execCreditGrant
  with_reducible repeat' first
      | assumption | intro _ _ _ | intro _ _ | intro _ | apply Keeps.ite | apply KeepsOut.next | apply KeepsOut.ite
      | apply State.creditServe_keeps | (fail_if_no_progress refine Keeps.upd ?_ rfl rfl rfl rfl rfl rfl) | dsimp only
      | split | apply Keeps.fst (by assumption) | apply Keeps.snd (by assumption) | apply Keeps.ofSome (by assumption)

theorem execCreditedWrite_keeps {s0 : State} (t : TileId) (src : Origin) (off : Nat) (data : List (Option Byte)) (s : State)
    (hs : Keeps s0 s) :
    KeepsOut s0 (execCreditedWrite t src off data s) := by
  unfold execCreditedWrite
  with_reducible repeat' first
      | assumption | intro _ _ _ | intro _ _ | intro _ | apply Keeps.ite | apply KeepsOut.next | apply KeepsOut.ite
      | apply State.count_keeps | apply State.jobFault_keeps | apply State.pocketWrite_keeps
      | apply State.creditRefuse_keeps | (fail_if_no_progress refine Keeps.upd ?_ rfl rfl rfl rfl rfl rfl)
      | dsimp only | split | apply Keeps.fst (by assumption) | apply Keeps.snd (by assumption)
      | apply Keeps.ofSome (by assumption)

theorem execCreditEndMark_keeps {s0 : State} (t : TileId) (src : Origin) (s : State)
    (hs : Keeps s0 s) :
    KeepsOut s0 (execCreditEndMark t src s) := by
  unfold execCreditEndMark
  with_reducible repeat' first
      | assumption | intro _ _ _ | intro _ _ | intro _ | apply Keeps.ite | apply KeepsOut.next | apply KeepsOut.ite
      | apply State.setTile_keeps | (fail_if_no_progress refine Keeps.upd ?_ rfl rfl rfl rfl rfl rfl) | dsimp only
      | split | apply Keeps.fst (by assumption) | apply Keeps.snd (by assumption) | apply Keeps.ofSome (by assumption)

theorem execCreditEntryFree_keeps {s0 : State} (t : TileId) (e : Fin 8) (s : State)
    (hs : Keeps s0 s) :
    KeepsOut s0 (execCreditEntryFree t e s) := by
  unfold execCreditEntryFree
  with_reducible repeat' first
      | assumption | intro _ _ _ | intro _ _ | intro _ | apply Keeps.ite | apply KeepsOut.next | apply KeepsOut.ite
      | apply State.freeEntry_keeps | (fail_if_no_progress refine Keeps.upd ?_ rfl rfl rfl rfl rfl rfl) | dsimp only
      | split | apply Keeps.fst (by assumption) | apply Keeps.snd (by assumption) | apply Keeps.ofSome (by assumption)

theorem State.issueSpill_keeps {s0 : State} (s : State) (t turn : Nat)
    (hs : Keeps s0 s) :
    Keeps s0 (State.issueSpill s t turn) := by
  unfold State.issueSpill
  with_reducible repeat' first
      | assumption | intro _ _ _ | intro _ _ | intro _ | apply Keeps.ite | apply State.queueFault_keeps
      | apply State.enqueue_keeps | (fail_if_no_progress refine Keeps.upd ?_ rfl rfl rfl rfl rfl rfl) | dsimp only
      | split | apply Keeps.fst (by assumption) | apply Keeps.snd (by assumption) | apply Keeps.ofSome (by assumption)

theorem State.shSettle_keeps {s0 : State} (s : State) (t : Nat)
    (hs : Keeps s0 s) :
    Keeps s0 (State.shSettle s t) := by
  unfold State.shSettle
  with_reducible repeat' first
      | assumption | intro _ _ _ | intro _ _ | intro _ | apply Keeps.ite | apply State.setBit_keeps
      | apply State.setShawl_keeps       | (fail_if_no_progress refine Keeps.upd ?_ rfl rfl rfl rfl rfl rfl) | dsimp only | split
      | apply Keeps.fst (by assumption) | apply Keeps.snd (by assumption) | apply Keeps.ofSome (by assumption)

theorem State.setSends_keeps {s0 : State} (s : State) (t : Nat) (x : Shawl)
    (hs : Keeps s0 s) :
    Keeps s0 (State.setSends s t x) := by
  unfold State.setSends
  with_reducible repeat' first
      | assumption | intro _ _ _ | intro _ _ | intro _ | apply Keeps.ite | apply State.setFld_keeps
      | apply State.setShawl_keeps | (fail_if_no_progress refine Keeps.upd ?_ rfl rfl rfl rfl rfl rfl) | dsimp only
      | split | apply Keeps.fst (by assumption) | apply Keeps.snd (by assumption) | apply Keeps.ofSome (by assumption)

theorem State.shOwn_keeps {s0 : State} (s : State) (t k : Nat) (f : State → State)
    (hs : Keeps s0 s) (hf : ∀ (x0 : State), Keeps s0 x0 → Keeps s0 (f x0)) :
    Keeps s0 (State.shOwn s t k f) := by
  unfold State.shOwn
  with_reducible repeat' first
      | assumption | intro _ _ _ | intro _ _ | intro _ | apply Keeps.ite | apply State.yokeFault_keeps | apply hf
      | (fail_if_no_progress refine Keeps.upd ?_ rfl rfl rfl rfl rfl rfl) | dsimp only | split
      | apply Keeps.fst (by assumption) | apply Keeps.snd (by assumption) | apply Keeps.ofSome (by assumption)

theorem execShbeg_keeps {s0 : State} (t : TileId) (k : SlotId) (s : State)
    (hs : Keeps s0 s) :
    KeepsOut s0 (execShbeg t k s) := by
  unfold execShbeg
  with_reducible repeat' first
      | assumption | intro _ _ _ | intro _ _ | intro _ | apply Keeps.ite | apply KeepsOut.next | apply KeepsOut.ite
      | apply State.wr_keeps | apply State.setShawl_keeps | apply State.issue_keeps | apply State.complete_keeps
      | apply State.yokeFault_keeps | apply State.issueSpill_keeps | apply State.shOwn_keeps
      | (fail_if_no_progress refine Keeps.upd ?_ rfl rfl rfl rfl rfl rfl) | dsimp only | split
      | apply Keeps.fst (by assumption) | apply Keeps.snd (by assumption) | apply Keeps.ofSome (by assumption)

theorem State.shAdvance_keeps {s0 : State} (s : State) (t : Nat)
    (hs : Keeps s0 s) :
    Keeps s0 (State.shAdvance s t) := by
  unfold State.shAdvance
  with_reducible repeat' first
      | assumption | intro _ _ _ | intro _ _ | intro _ | apply Keeps.ite | apply State.setFld_keeps
      | apply State.count_keeps | apply State.setShawl_keeps | apply State.issueSpill_keeps
      | apply State.shSettle_keeps | (fail_if_no_progress refine Keeps.upd ?_ rfl rfl rfl rfl rfl rfl) | dsimp only
      | split | apply Keeps.fst (by assumption) | apply Keeps.snd (by assumption) | apply Keeps.ofSome (by assumption)

theorem execShrel_keeps {s0 : State} (t : TileId) (k : SlotId) (s : State)
    (hs : Keeps s0 s) :
    KeepsOut s0 (execShrel t k s) := by
  unfold execShrel
  with_reducible repeat' first
      | assumption | intro _ _ _ | intro _ _ | intro _ | apply Keeps.ite | apply KeepsOut.next | apply KeepsOut.ite
      | apply State.setFld_keeps | apply State.issue_keeps | apply State.complete_keeps | apply State.yokeFault_keeps
      | apply State.setSends_keeps | apply State.shOwn_keeps | apply State.shAdvance_keeps
      | (fail_if_no_progress refine Keeps.upd ?_ rfl rfl rfl rfl rfl rfl) | dsimp only | split
      | apply Keeps.fst (by assumption) | apply Keeps.snd (by assumption) | apply Keeps.ofSome (by assumption)

theorem execShqry_keeps {s0 : State} (t : TileId) (k : SlotId) (s : State)
    (hs : Keeps s0 s) :
    KeepsOut s0 (execShqry t k s) := by
  unfold execShqry
  with_reducible repeat' first
      | assumption | intro _ _ _ | intro _ _ | intro _ | apply Keeps.ite | apply KeepsOut.next | apply KeepsOut.ite
      | apply State.issue_keeps | apply State.setRd_keeps | apply State.shOwn_keeps
      | (fail_if_no_progress refine Keeps.upd ?_ rfl rfl rfl rfl rfl rfl) | dsimp only | split
      | apply Keeps.fst (by assumption) | apply Keeps.snd (by assumption) | apply Keeps.ofSome (by assumption)

theorem execShwait_keeps {s0 : State} (t : TileId) (k : SlotId) (s : State)
    (hs : Keeps s0 s) :
    KeepsOut s0 (execShwait t k s) := by
  unfold execShwait
  with_reducible repeat' first
      | assumption | intro _ _ _ | intro _ _ | intro _ | apply Keeps.ite | apply KeepsOut.next | apply KeepsOut.ite
      | apply State.issue_keeps | apply State.complete_keeps | apply State.wait_keeps | apply State.shOwn_keeps
      | (fail_if_no_progress refine Keeps.upd ?_ rfl rfl rfl rfl rfl rfl) | dsimp only | split
      | apply Keeps.fst (by assumption) | apply Keeps.snd (by assumption) | apply Keeps.ofSome (by assumption)

theorem execShawlSend_keeps {s0 : State} (t : TileId) (s : State)
    (hs : Keeps s0 s) :
    KeepsOut s0 (execShawlSend t s) := by
  unfold execShawlSend
  with_reducible repeat' first
      | assumption | intro _ _ _ | intro _ _ | intro _ | apply Keeps.ite | apply KeepsOut.next | apply KeepsOut.ite
      | apply Keeps.getD | apply State.count_keeps | apply State.setShawl_keeps | apply State.chargeTask_keeps
      | apply State.pocketRead_keeps | apply State.giveCredit_keeps | apply State.setSends_keeps | apply Keeps.ofId
      | (fail_if_no_progress refine Keeps.upd ?_ rfl rfl rfl rfl rfl rfl) | dsimp only | split
      | apply Keeps.fst (by assumption) | apply Keeps.snd (by assumption) | apply Keeps.ofSome (by assumption)

theorem execShawlSegmentArrive_keeps {s0 : State} (t : TileId) (s : State)
    (hs : Keeps s0 s) :
    KeepsOut s0 (execShawlSegmentArrive t s) := by
  unfold execShawlSegmentArrive
  with_reducible repeat' first
      | assumption | intro _ _ _ | intro _ _ | intro _ | apply Keeps.ite | apply KeepsOut.next | apply KeepsOut.ite
      | apply Keeps.getD | apply State.setFld_keeps | apply State.count_keeps | apply State.setShawl_keeps
      | apply State.pocketWrite_keeps | apply State.creditRefuse_keeps | apply State.freeEntry_keeps
      | apply State.shSettle_keeps | (fail_if_no_progress refine Keeps.upd ?_ rfl rfl rfl rfl rfl rfl) | dsimp only
      | split | apply Keeps.fst (by assumption) | apply Keeps.snd (by assumption) | apply Keeps.ofSome (by assumption)

end Sys2Proof.Machine
end

