-- ==== Sys2Proof/Laws/KeepsSuit.lean ====
section
/-! SUPPORT. One lemma for each operation of suits: whatever it does, it keeps the queue, the canonical form of
the byte memories, and the fuses. -/

set_option linter.unusedTactic false
set_option linter.unreachableTactic false
set_option linter.unusedVariables false

namespace Sys2Proof.Machine

theorem State.suitFault_keeps {s0 : State} (s : State) (t i : Nat) (f : Flt)
    (hs : Keeps s0 s) :
    Keeps s0 (State.suitFault s t i f) := by
  unfold State.suitFault
  with_reducible repeat' first
      | assumption | intro _ _ _ | intro _ _ | intro _ | apply Keeps.ite | apply State.wr_keeps
      | apply State.latchSuitErr_keeps | apply State.chargeTask_keeps
      | (fail_if_no_progress refine Keeps.upd ?_ rfl rfl rfl rfl rfl rfl) | dsimp only | split
      | apply Keeps.fst (by assumption) | apply Keeps.snd (by assumption) | apply Keeps.ofSome (by assumption)

theorem andThen_keeps {s0 : State} {α β : Type} (r : Step' α) (f : State → α → Step' β)
    (hr : Keeps s0 (r).1) (hf : ∀ (x0 : State) (x1 : α), Keeps s0 x0 → Keeps s0 (f x0 x1).1) :
    Keeps s0 (andThen r f).1 := by
  unfold andThen
  split
  · exact hf _ _ hr
  · exact hr

theorem each_keeps {s0 : State} {α β : Type} (f : State → α → Step' β) (z0 : State) (z1 : List α)
    (hf : ∀ (x0 : State) (x1 : α), Keeps s0 x0 → Keeps s0 (f x0 x1).1) (hz0 : Keeps s0 z0) :
    Keeps s0 (each f z0 z1).1 := by
  unfold each
  with_reducible repeat' first
      | assumption | intro _ _ _ | intro _ _ | intro _ | apply Keeps.ite | apply andThen_keeps | apply each_keeps
      | apply hf | (fail_if_no_progress refine Keeps.upd ?_ rfl rfl rfl rfl rfl rfl) | dsimp only | split
      | apply Keeps.fst (by assumption) | apply Keeps.snd (by assumption) | apply Keeps.ofSome (by assumption)

theorem State.stageRead_keeps {s0 : State} (s : State) (t stage off n : Nat)
    (hs : Keeps s0 s) :
    Keeps s0 (State.stageRead s t stage off n).1 := by
  unfold State.stageRead
  with_reducible repeat' first
      | assumption | intro _ _ _ | intro _ _ | intro _ | apply Keeps.ite | apply State.pocketRead_keeps
      | (fail_if_no_progress refine Keeps.upd ?_ rfl rfl rfl rfl rfl rfl) | dsimp only | split
      | apply Keeps.fst (by assumption) | apply Keeps.snd (by assumption) | apply Keeps.ofSome (by assumption)

theorem State.planeRead_keeps {s0 : State} (s : State) (t : Nat) (x : Suit) (stage : Nat) (g : Img) (plane off n : Nat)
    (hs : Keeps s0 s) :
    Keeps s0 (State.planeRead s t x stage g plane off n).1 := by
  unfold State.planeRead
  with_reducible repeat' first
      | assumption | intro _ _ _ | intro _ _ | intro _ | apply Keeps.ite | apply State.stageRead_keeps
      | (fail_if_no_progress refine Keeps.upd ?_ rfl rfl rfl rfl rfl rfl) | dsimp only | split
      | apply Keeps.fst (by assumption) | apply Keeps.snd (by assumption) | apply Keeps.ofSome (by assumption)

theorem State.planeNat_keeps {s0 : State} (s : State) (t : Nat) (x : Suit) (stage : Nat) (g : Img) (plane off n : Nat)
    (hs : Keeps s0 s) :
    Keeps s0 (State.planeNat s t x stage g plane off n).1 := by
  unfold State.planeNat
  with_reducible repeat' first
      | assumption | intro _ _ _ | intro _ _ | intro _ | apply Keeps.ite | apply andThen_keeps
      | apply State.planeRead_keeps | (fail_if_no_progress refine Keeps.upd ?_ rfl rfl rfl rfl rfl rfl) | dsimp only
      | split | apply Keeps.fst (by assumption) | apply Keeps.snd (by assumption) | apply Keeps.ofSome (by assumption)

theorem State.ptrEntry_keeps {s0 : State} (s : State) (t : Nat) (x : Suit) (g : Img) (e : Nat)
    (hs : Keeps s0 s) :
    Keeps s0 (State.ptrEntry s t x g e).1 := by
  unfold State.ptrEntry
  with_reducible repeat' first
      | assumption | intro _ _ _ | intro _ _ | intro _ | apply Keeps.ite | apply andThen_keeps
      | apply State.planeNat_keeps | (fail_if_no_progress refine Keeps.upd ?_ rfl rfl rfl rfl rfl rfl) | dsimp only
      | split | apply Keeps.fst (by assumption) | apply Keeps.snd (by assumption) | apply Keeps.ofSome (by assumption)

theorem State.slotRead_keeps {s0 : State} (s : State) (t : Nat) (x : Suit) (stage o n : Nat)
    (hs : Keeps s0 s) :
    Keeps s0 (State.slotRead s t x stage o n).1 := by
  unfold State.slotRead
  with_reducible repeat' first
      | assumption | intro _ _ _ | intro _ _ | intro _ | apply Keeps.ite | apply State.stageRead_keeps
      | (fail_if_no_progress refine Keeps.upd ?_ rfl rfl rfl rfl rfl rfl) | dsimp only | split
      | apply Keeps.fst (by assumption) | apply Keeps.snd (by assumption) | apply Keeps.ofSome (by assumption)

theorem State.pairAt_keeps {s0 : State} (s : State) (t : Nat) (x : Suit) (stage l : Nat)
    (hs : Keeps s0 s) :
    Keeps s0 (State.pairAt s t x stage l).1 := by
  unfold State.pairAt
  with_reducible repeat' first
      | assumption | intro _ _ _ | intro _ _ | intro _ | apply Keeps.ite | apply andThen_keeps
      | apply State.slotRead_keeps | (fail_if_no_progress refine Keeps.upd ?_ rfl rfl rfl rfl rfl rfl) | dsimp only
      | split | apply Keeps.fst (by assumption) | apply Keeps.snd (by assumption) | apply Keeps.ofSome (by assumption)

theorem State.readRun_keeps {s0 : State} (s : State) (t : Nat) (x : Suit) (side stage : Nat) (g : Img) (skip : Bool) (run : Nat × Nat)
    (hs : Keeps s0 s) :
    Keeps s0 (State.readRun s t x side stage g skip run).1 := by
  unfold State.readRun
  with_reducible repeat' first
      | assumption | intro _ _ _ | intro _ _ | intro _ | apply Keeps.ite | apply andThen_keeps | apply each_keeps
      | apply State.planeRead_keeps | apply State.planeNat_keeps
      | (fail_if_no_progress refine Keeps.upd ?_ rfl rfl rfl rfl rfl rfl) | dsimp only | split
      | apply Keeps.fst (by assumption) | apply Keeps.snd (by assumption) | apply Keeps.ofSome (by assumption)

theorem State.readVals_keeps {s0 : State} (s : State) (t : Nat) (x : Suit) (side stage : Nat) (g : Img) (skip : Bool) (is : List Nat)
    (hs : Keeps s0 s) :
    Keeps s0 (State.readVals s t x side stage g skip is).1 := by
  unfold State.readVals
  with_reducible repeat' first
      | assumption | intro _ _ _ | intro _ _ | intro _ | apply Keeps.ite | apply andThen_keeps | apply each_keeps
      | apply State.readRun_keeps | (fail_if_no_progress refine Keeps.upd ?_ rfl rfl rfl rfl rfl rfl) | dsimp only
      | split | apply Keeps.fst (by assumption) | apply Keeps.snd (by assumption) | apply Keeps.ofSome (by assumption)

theorem State.scaleAt_keeps {s0 : State} (s : State) (t : Nat) (x : Suit) (stage : Nat) (g : Img) (r c : Nat)
    (hs : Keeps s0 s) :
    Keeps s0 (State.scaleAt s t x stage g r c).1 := by
  unfold State.scaleAt
  with_reducible repeat' first
      | assumption | intro _ _ _ | intro _ _ | intro _ | apply Keeps.ite | apply andThen_keeps
      | apply State.planeNat_keeps | (fail_if_no_progress refine Keeps.upd ?_ rfl rfl rfl rfl rfl rfl) | dsimp only
      | split | apply Keeps.fst (by assumption) | apply Keeps.snd (by assumption) | apply Keeps.ofSome (by assumption)

theorem State.refreshBuf_keeps {s0 : State} (s : State) (t : Nat)
    (hs : Keeps s0 s) :
    Keeps s0 (State.refreshBuf s t) := by
  unfold State.refreshBuf
  with_reducible repeat' first
      | assumption | intro _ _ _ | intro _ _ | intro _ | apply Keeps.ite | apply State.wr_keeps
      | (fail_if_no_progress refine Keeps.upd ?_ rfl rfl rfl rfl rfl rfl) | dsimp only | split
      | apply Keeps.fst (by assumption) | apply Keeps.snd (by assumption) | apply Keeps.ofSome (by assumption)

theorem State.refreshSuits_keeps {s0 : State} (s : State) (t : Nat)
    (hs : Keeps s0 s) :
    Keeps s0 (State.refreshSuits s t) := by
  unfold State.refreshSuits
  with_reducible repeat' first
      | assumption | intro _ _ _ | intro _ _ | intro _ | apply Keeps.ite | apply Keeps.getD | apply State.wr_keeps
      | apply State.setFld_keeps | apply State.refreshBuf_keeps | apply Keeps.foldl | apply Keeps.foldlFst
      | (fail_if_no_progress refine Keeps.upd ?_ rfl rfl rfl rfl rfl rfl) | dsimp only | split
      | apply Keeps.fst (by assumption) | apply Keeps.snd (by assumption) | apply Keeps.ofSome (by assumption)

theorem State.putRun_keeps {s0 : State} (s : State) (t i : Nat) (x : Suit) (r : SuitRun)
    (hs : Keeps s0 s) :
    Keeps s0 (State.putRun s t i x r) := by
  unfold State.putRun
  with_reducible repeat' first
      | assumption | intro _ _ _ | intro _ _ | intro _ | apply Keeps.ite | apply State.setSuit_keeps
      | apply State.refreshSuits_keeps | (fail_if_no_progress refine Keeps.upd ?_ rfl rfl rfl rfl rfl rfl)
      | dsimp only | split | apply Keeps.fst (by assumption) | apply Keeps.snd (by assumption)
      | apply Keeps.ofSome (by assumption)

theorem keepRun_keeps {s0 : State} (t i : Nat) (x : Suit) (r : Step' SuitRun)
    (hr : Keeps s0 (r).1) :
    Keeps s0 (keepRun t i x r) := by
  unfold keepRun
  split
  · exact State.putRun_keeps _ _ _ _ _ hr
  · exact State.refreshSuits_keeps _ _ (State.suitFault_keeps _ _ _ _ hr)

theorem State.needCompute_keeps {s0 : State} (s : State) (t : Nat)
    (hs : Keeps s0 s) :
    Keeps s0 (State.needCompute s t) := by
  unfold State.needCompute
  with_reducible repeat' first
      | assumption | intro _ _ _ | intro _ _ | intro _ | apply Keeps.ite | apply State.setBit_keeps
      | apply State.count_keeps | (fail_if_no_progress refine Keeps.upd ?_ rfl rfl rfl rfl rfl rfl) | dsimp only
      | split | apply Keeps.fst (by assumption) | apply Keeps.snd (by assumption) | apply Keeps.ofSome (by assumption)

theorem State.takeSuit_keeps {s0 : State} (s : State) (t k i tpl off : Nat)
    (hs : Keeps s0 s) :
    Keeps s0 (State.takeSuit s t k i tpl off) := by
  unfold State.takeSuit
  with_reducible repeat' first
      | assumption | intro _ _ _ | intro _ _ | intro _ | apply Keeps.ite | apply State.wr_keeps
      | apply State.count_keeps | apply State.setTile_keeps
      | (fail_if_no_progress refine Keeps.upd ?_ rfl rfl rfl rfl rfl rfl) | dsimp only | split
      | apply Keeps.fst (by assumption) | apply Keeps.snd (by assumption) | apply Keeps.ofSome (by assumption)

theorem State.lengthWarn_keeps {s0 : State} (s : State) (t : Nat) (x : Suit)
    (hs : Keeps s0 s) :
    Keeps s0 (State.lengthWarn s t x) := by
  unfold State.lengthWarn
  with_reducible repeat' first
      | assumption | intro _ _ _ | intro _ _ | intro _ | apply Keeps.ite | apply State.warnTask_keeps
      | apply State.markStep_keeps | (fail_if_no_progress refine Keeps.upd ?_ rfl rfl rfl rfl rfl rfl) | dsimp only
      | split | apply Keeps.fst (by assumption) | apply Keeps.snd (by assumption) | apply Keeps.ofSome (by assumption)

theorem State.enterSuit_keeps {s0 : State} (s : State) (t i : Nat) (x : Suit)
    (hs : Keeps s0 s) :
    KeepsOpt s0 (State.enterSuit s t i x) := by
  unfold State.enterSuit
  with_reducible repeat' first
      | assumption | intro _ _ _ | intro _ _ | intro _ | apply Keeps.ite | apply KeepsOpt.ite | apply KeepsOpt.some
      | exact KeepsOpt.none _ | apply State.setSuit_keeps | apply State.sbTake_keeps
      | (fail_if_no_progress refine Keeps.upd ?_ rfl rfl rfl rfl rfl rfl) | dsimp only | split
      | apply Keeps.fst (by assumption) | apply Keeps.snd (by assumption) | apply Keeps.ofSome (by assumption)

theorem State.runSuit_keeps {s0 : State} (s : State) (t i : Nat)
    (hs : Keeps s0 s) :
    Keeps s0 (State.runSuit s t i) := by
  unfold State.runSuit
  with_reducible repeat' first
      | assumption | intro _ _ _ | intro _ _ | intro _ | apply Keeps.ite | apply State.setFld_keeps
      | apply State.refreshSuits_keeps | (fail_if_no_progress refine Keeps.upd ?_ rfl rfl rfl rfl rfl rfl)
      | dsimp only | split | apply Keeps.fst (by assumption) | apply Keeps.snd (by assumption)
      | apply Keeps.ofSome (by assumption)

theorem State.passSuit_keeps {s0 : State} (s : State) (t i : Nat) (x : Suit)
    (hs : Keeps s0 s) :
    Keeps s0 (State.passSuit s t i x) := by
  unfold State.passSuit
  with_reducible repeat' first
      | assumption | intro _ _ _ | intro _ _ | intro _ | apply Keeps.ite | apply State.setSuit_keeps
      | apply State.lengthWarn_keeps | apply State.enterSuit_keeps | apply State.runSuit_keeps
      | (fail_if_no_progress refine Keeps.upd ?_ rfl rfl rfl rfl rfl rfl) | dsimp only | split
      | apply Keeps.fst (by assumption) | apply Keeps.snd (by assumption) | apply Keeps.ofSome (by assumption)

theorem execSuitIssueChecks_keeps {s0 : State} (t : TileId) (i : SlotId) (s : State)
    (hs : Keeps s0 s) :
    KeepsOut s0 (execSuitIssueChecks t i s) := by
  unfold execSuitIssueChecks
  with_reducible repeat' first
      | assumption | intro _ _ _ | intro _ _ | intro _ | apply Keeps.ite | apply KeepsOut.next | apply KeepsOut.ite
      | apply State.setSuit_keeps | apply State.suitFault_keeps | apply State.stageRead_keeps
      | apply State.passSuit_keeps | (fail_if_no_progress refine Keeps.upd ?_ rfl rfl rfl rfl rfl rfl) | dsimp only
      | split | apply Keeps.fst (by assumption) | apply Keeps.snd (by assumption) | apply Keeps.ofSome (by assumption)

theorem execSuitRunning_keeps {s0 : State} (t : TileId) (i : SlotId) (s : State)
    (hs : Keeps s0 s) :
    KeepsOut s0 (execSuitRunning t i s) := by
  unfold execSuitRunning
  with_reducible repeat' first
      | assumption | intro _ _ _ | intro _ _ | intro _ | apply Keeps.ite | apply KeepsOut.next | apply KeepsOut.ite
      | apply State.sbWaitCycle_keeps | apply State.runSuit_keeps
      | (fail_if_no_progress refine Keeps.upd ?_ rfl rfl rfl rfl rfl rfl) | dsimp only | split
      | apply Keeps.fst (by assumption) | apply Keeps.snd (by assumption) | apply Keeps.ofSome (by assumption)

theorem execSuit_keeps {s0 : State} (t : TileId) (k : SlotId) (s : State)
    (hs : Keeps s0 s) :
    KeepsOut s0 (execSuit t k s) := by
  unfold execSuit
  with_reducible repeat' first
      | assumption | intro _ _ _ | intro _ _ | intro _ | apply Keeps.ite | apply KeepsOut.next | apply KeepsOut.ite
      | apply State.setTask_keeps | apply State.issue_keeps | apply State.wait_keeps | apply State.setRd_keeps
      | apply State.takeSuit_keeps | apply State.enterSuit_keeps
      | (fail_if_no_progress refine Keeps.upd ?_ rfl rfl rfl rfl rfl rfl) | dsimp only | split
      | apply Keeps.fst (by assumption) | apply Keeps.snd (by assumption) | apply Keeps.ofSome (by assumption)

theorem execSucan_keeps {s0 : State} (t : TileId) (k : SlotId) (s : State)
    (hs : Keeps s0 s) :
    KeepsOut s0 (execSucan t k s) := by
  unfold execSucan
  with_reducible repeat' first
      | assumption | intro _ _ _ | intro _ _ | intro _ | apply Keeps.ite | apply KeepsOut.next | apply KeepsOut.ite
      | apply State.endSuit_keeps | apply State.illegal_keeps | apply State.issue_keeps | apply State.complete_keeps
      | apply State.refreshSuits_keeps | (fail_if_no_progress refine Keeps.upd ?_ rfl rfl rfl rfl rfl rfl)
      | dsimp only | split | apply Keeps.fst (by assumption) | apply Keeps.snd (by assumption)
      | apply Keeps.ofSome (by assumption)

theorem execSuwait_keeps {s0 : State} (t : TileId) (k : SlotId) (s : State)
    (hs : Keeps s0 s) :
    KeepsOut s0 (execSuwait t k s) := by
  unfold execSuwait
  with_reducible repeat' first
      | assumption | intro _ _ _ | intro _ _ | intro _ | apply Keeps.ite | apply KeepsOut.next | apply KeepsOut.ite
      | apply State.issue_keeps | apply State.wait_keeps | apply State.setRd_keeps
      | (fail_if_no_progress refine Keeps.upd ?_ rfl rfl rfl rfl rfl rfl) | dsimp only | split
      | apply Keeps.fst (by assumption) | apply Keeps.snd (by assumption) | apply Keeps.ofSome (by assumption)

theorem execSustat_keeps {s0 : State} (t : TileId) (k : SlotId) (s : State)
    (hs : Keeps s0 s) :
    KeepsOut s0 (execSustat t k s) := by
  unfold execSustat
  with_reducible repeat' first
      | assumption | intro _ _ _ | intro _ _ | intro _ | apply Keeps.ite | apply KeepsOut.next | apply KeepsOut.ite
      | apply State.issue_keeps | apply State.setRd_keeps
      | (fail_if_no_progress refine Keeps.upd ?_ rfl rfl rfl rfl rfl rfl) | dsimp only | split
      | apply Keeps.fst (by assumption) | apply Keeps.snd (by assumption) | apply Keeps.ofSome (by assumption)

theorem execSuitDone_keeps {s0 : State} (t : TileId) (i : SlotId) (s : State)
    (hs : Keeps s0 s) :
    KeepsOut s0 (execSuitDone t i s) := by
  unfold execSuitDone
  with_reducible repeat' first
      | assumption | intro _ _ _ | intro _ _ | intro _ | apply Keeps.ite | apply KeepsOut.next | apply KeepsOut.ite
      | apply State.setFld_keeps | apply State.count_keeps | apply State.dropSuit_keeps | apply State.sbFree_keeps
      | apply State.refreshSuits_keeps | (fail_if_no_progress refine Keeps.upd ?_ rfl rfl rfl rfl rfl rfl)
      | dsimp only | split | apply Keeps.fst (by assumption) | apply Keeps.snd (by assumption)
      | apply Keeps.ofSome (by assumption)

theorem State.cancelSuit_keeps {s0 : State} (s : State) (t i : Nat)
    (hs : Keeps s0 s) :
    Keeps s0 (State.cancelSuit s t i) := by
  unfold State.cancelSuit
  with_reducible repeat' first
      | assumption | intro _ _ _ | intro _ _ | intro _ | apply Keeps.ite | apply State.endSuit_keeps
      | apply State.refreshSuits_keeps | (fail_if_no_progress refine Keeps.upd ?_ rfl rfl rfl rfl rfl rfl)
      | dsimp only | split | apply Keeps.fst (by assumption) | apply Keeps.snd (by assumption)
      | apply Keeps.ofSome (by assumption)

theorem execSuitCtrlCancel_keeps {s0 : State} (t : TileId) (i : SlotId) (s : State)
    (hs : Keeps s0 s) :
    KeepsOut s0 (execSuitCtrlCancel t i s) := by
  unfold execSuitCtrlCancel
  with_reducible repeat' first
      | assumption | intro _ _ _ | intro _ _ | intro _ | apply Keeps.ite | apply KeepsOut.next | apply KeepsOut.ite
      | apply State.ctl_keeps | apply State.cancelSuit_keeps
      | (fail_if_no_progress refine Keeps.upd ?_ rfl rfl rfl rfl rfl rfl) | dsimp only | split
      | apply Keeps.fst (by assumption) | apply Keeps.snd (by assumption) | apply Keeps.ofSome (by assumption)

theorem execSuitCtrClear_keeps {s0 : State} (t : TileId) (s : State)
    (hs : Keeps s0 s) :
    KeepsOut s0 (execSuitCtrClear t s) := by
  unfold execSuitCtrClear
  with_reducible repeat' first
      | assumption | intro _ _ _ | intro _ _ | intro _ | apply Keeps.ite | apply KeepsOut.next | apply KeepsOut.ite
      | apply State.clear_keeps | apply State.ctl_keeps
      | (fail_if_no_progress refine Keeps.upd ?_ rfl rfl rfl rfl rfl rfl) | dsimp only | split
      | apply Keeps.fst (by assumption) | apply Keeps.snd (by assumption) | apply Keeps.ofSome (by assumption)

theorem State.withGroups_keeps {s0 : State} (s : State) (q mask : Nat)
    (hs : Keeps s0 s) :
    Keeps s0 (State.withGroups s q mask) := by
  unfold State.withGroups
  with_reducible repeat' first
      | assumption | intro _ _ _ | intro _ _ | intro _ | apply Keeps.ite | apply State.wr_keeps | apply Keeps.foldl
      | apply Keeps.foldlFst | (fail_if_no_progress refine Keeps.upd ?_ rfl rfl rfl rfl rfl rfl) | dsimp only | split
      | apply Keeps.fst (by assumption) | apply Keeps.snd (by assumption) | apply Keeps.ofSome (by assumption)

theorem State.refreshModes_keeps {s0 : State} (s : State) (q : Nat)
    (hs : Keeps s0 s) :
    Keeps s0 (State.refreshModes s q) := by
  unfold State.refreshModes
  with_reducible repeat' first
      | assumption | intro _ _ _ | intro _ _ | intro _ | apply Keeps.ite | apply State.setBit_keeps
      | apply Keeps.foldl | apply Keeps.foldlFst | (fail_if_no_progress refine Keeps.upd ?_ rfl rfl rfl rfl rfl rfl)
      | dsimp only | split | apply Keeps.fst (by assumption) | apply Keeps.snd (by assumption)
      | apply Keeps.ofSome (by assumption)

theorem execSeamStageStart_keeps {s0 : State} (t : TileId) (s : State)
    (hs : Keeps s0 s) :
    KeepsOut s0 (execSeamStageStart t s) := by
  unfold execSeamStageStart
  with_reducible repeat' first
      | assumption | intro _ _ _ | intro _ _ | intro _ | apply Keeps.ite | apply KeepsOut.next | apply KeepsOut.ite
      | apply State.putRun_keeps | apply State.needCompute_keeps
      | (fail_if_no_progress refine Keeps.upd ?_ rfl rfl rfl rfl rfl rfl) | dsimp only | split
      | apply Keeps.fst (by assumption) | apply Keeps.snd (by assumption) | apply Keeps.ofSome (by assumption)

theorem State.mapAt_keeps {s0 : State} (s : State) (t : Nat) (x : Suit) (side : Nat) (g : Img) (br bc : Nat)
    (hs : Keeps s0 s) :
    Keeps s0 (State.mapAt s t x side g br bc).1 := by
  unfold State.mapAt
  with_reducible repeat' first
      | assumption | intro _ _ _ | intro _ _ | intro _ | apply Keeps.ite | apply Keeps.getD | apply andThen_keeps
      | apply State.planeRead_keeps | (fail_if_no_progress refine Keeps.upd ?_ rfl rfl rfl rfl rfl rfl) | dsimp only
      | split | apply Keeps.fst (by assumption) | apply Keeps.snd (by assumption) | apply Keeps.ofSome (by assumption)

theorem State.scanRows_keeps {s0 : State} (s : State) (t : Nat) (x : Suit) (side o kb : Nat)
    (hs : Keeps s0 s) :
    Keeps s0 (State.scanRows s t x side o kb).1 := by
  unfold State.scanRows
  with_reducible repeat' first
      | assumption | intro _ _ _ | intro _ _ | intro _ | apply Keeps.ite | apply Keeps.getD | apply andThen_keeps
      | apply each_keeps | apply State.mapAt_keeps | apply Keeps.foldl | apply Keeps.foldlFst
      | (fail_if_no_progress refine Keeps.upd ?_ rfl rfl rfl rfl rfl rfl) | dsimp only | split
      | apply Keeps.fst (by assumption) | apply Keeps.snd (by assumption) | apply Keeps.ofSome (by assumption)

theorem State.freshBase_keeps {s0 : State} (s : State) (t : Nat) (x : Suit) (side : Nat) (im : Img) (br bc : Nat)
    (below : Option Nat) (last : Bool) (hs : Keeps s0 s) :
    Keeps s0 (State.freshBase s t x side im br bc below last).1 := by
  unfold State.freshBase
  with_reducible repeat' first
      | assumption | intro _ _ _ | intro _ _ | intro _ | apply Keeps.ite | apply andThen_keeps | apply each_keeps
      | apply State.ptrEntry_keeps | apply State.mapAt_keeps | apply Keeps.foldl | apply Keeps.foldlFst
      | (fail_if_no_progress refine Keeps.upd ?_ rfl rfl rfl rfl rfl rfl) | dsimp only | split
      | apply Keeps.fst (by assumption) | apply Keeps.snd (by assumption) | apply Keeps.ofSome (by assumption)

theorem State.halfBase_keeps {s0 : State} (s : State) (t : Nat) (x : Suit) (side o kb h : Nat) (prev below : Option Nat)
    (last : Bool) (hs : Keeps s0 s) :
    Keeps s0 (State.halfBase s t x side o kb h prev below last).1 := by
  unfold State.halfBase
  with_reducible repeat' first
      | assumption | intro _ _ _ | intro _ _ | intro _ | apply Keeps.ite | apply State.freshBase_keeps
      | (fail_if_no_progress refine Keeps.upd ?_ rfl rfl rfl rfl rfl rfl) | dsimp only | split
      | apply Keeps.fst (by assumption) | apply Keeps.snd (by assumption) | apply Keeps.ofSome (by assumption)

theorem State.sideBases_keeps {s0 : State} (s : State) (t : Nat) (x : Suit) (o kb : Nat) (prev : Nat → Option Nat)
    (side : Nat) (hs : Keeps s0 s) :
    Keeps s0 (State.sideBases s t x o kb prev side).1 := by
  unfold State.sideBases
  with_reducible repeat' first
      | assumption | intro _ _ _ | intro _ _ | intro _ | apply Keeps.ite | apply andThen_keeps | apply State.halfBase_keeps
      | (fail_if_no_progress refine Keeps.upd ?_ rfl rfl rfl rfl rfl rfl) | dsimp only | split
      | apply Keeps.fst (by assumption) | apply Keeps.snd (by assumption) | apply Keeps.ofSome (by assumption)

theorem State.scanBlock_keeps {s0 : State} (s : State) (t : Nat) (x : Suit)
    (hs : Keeps s0 s) :
    Keeps s0 (State.scanBlock s t x).1 := by
  unfold State.scanBlock
  with_reducible repeat' first
      | assumption | intro _ _ _ | intro _ _ | intro _ | apply Keeps.ite | apply Keeps.getD | apply State.count_keeps
      | apply andThen_keeps | apply each_keeps | apply State.scanRows_keeps | apply State.sideBases_keeps
      | apply Keeps.foldl | apply Keeps.foldlFst | (fail_if_no_progress refine Keeps.upd ?_ rfl rfl rfl rfl rfl rfl)
      | dsimp only | split | apply Keeps.fst (by assumption) | apply Keeps.snd (by assumption)
      | apply Keeps.ofSome (by assumption)

theorem execSeamKblockScan_keeps {s0 : State} (t : TileId) (s : State)
    (hs : Keeps s0 s) :
    KeepsOut s0 (execSeamKblockScan t s) := by
  unfold execSeamKblockScan
  with_reducible repeat' first
      | assumption | intro _ _ _ | intro _ _ | intro _ | apply Keeps.ite | apply KeepsOut.next | apply KeepsOut.ite
      | apply State.count_keeps | apply keepRun_keeps | apply State.scanBlock_keeps
      | (fail_if_no_progress refine Keeps.upd ?_ rfl rfl rfl rfl rfl rfl) | dsimp only | split
      | apply Keeps.fst (by assumption) | apply Keeps.snd (by assumption) | apply Keeps.ofSome (by assumption)

theorem State.nmField_keeps {s0 : State} (s : State) (t : Nat) (x : Suit) (g : Img) (lr f : Nat)
    (hs : Keeps s0 s) :
    Keeps s0 (State.nmField s t x g lr f).1 := by
  unfold State.nmField
  with_reducible repeat' first
      | assumption | intro _ _ _ | intro _ _ | intro _ | apply Keeps.ite | apply andThen_keeps
      | apply State.planeNat_keeps | (fail_if_no_progress refine Keeps.upd ?_ rfl rfl rfl rfl rfl rfl) | dsimp only
      | split | apply Keeps.fst (by assumption) | apply Keeps.snd (by assumption) | apply Keeps.ofSome (by assumption)

theorem State.nmRow_keeps {s0 : State} (s : State) (t : Nat) (x : Suit) (d : TDesc) (r p k : Nat)
    (hs : Keeps s0 s) :
    Keeps s0 (State.nmRow s t x d r p k).1 := by
  unfold State.nmRow
  with_reducible repeat' first
      | assumption | intro _ _ _ | intro _ _ | intro _ | apply Keeps.ite | apply Keeps.getD | apply andThen_keeps
      | apply each_keeps | apply State.nmField_keeps
      | (fail_if_no_progress refine Keeps.upd ?_ rfl rfl rfl rfl rfl rfl) | dsimp only | split
      | apply Keeps.fst (by assumption) | apply Keeps.snd (by assumption) | apply Keeps.ofSome (by assumption)

theorem State.nmRecord_keeps {s0 : State} (s : State) (t : Nat) (x : Suit) (r : SuitRun)
    (hs : Keeps s0 s) :
    Keeps s0 (State.nmRecord s t x r).1 := by
  unfold State.nmRecord
  with_reducible repeat' first
      | assumption | intro _ _ _ | intro _ _ | intro _ | apply Keeps.ite | apply andThen_keeps | apply each_keeps
      | apply State.nmRow_keeps | (fail_if_no_progress refine Keeps.upd ?_ rfl rfl rfl rfl rfl rfl) | dsimp only
      | split | apply Keeps.fst (by assumption) | apply Keeps.snd (by assumption) | apply Keeps.ofSome (by assumption)

theorem execNmdecDecode_keeps {s0 : State} (t : TileId) (s : State)
    (hs : Keeps s0 s) :
    KeepsOut s0 (execNmdecDecode t s) := by
  unfold execNmdecDecode
  with_reducible repeat' first
      | assumption | intro _ _ _ | intro _ _ | intro _ | apply Keeps.ite | apply KeepsOut.next | apply KeepsOut.ite
      | apply State.count_keeps | apply andThen_keeps | apply keepRun_keeps | apply State.nmRecord_keeps
      | (fail_if_no_progress refine Keeps.upd ?_ rfl rfl rfl rfl rfl rfl) | dsimp only | split
      | apply Keeps.fst (by assumption) | apply Keeps.snd (by assumption) | apply Keeps.ofSome (by assumption)

theorem State.segSpan_keeps {s0 : State} (s : State) (t : Nat) (x : Suit) (side : Nat) (g : Seg) (r : Nat)
    (hs : Keeps s0 s) :
    Keeps s0 (State.segSpan s t x side g r).1 := by
  unfold State.segSpan
  with_reducible repeat' first
      | assumption | intro _ _ _ | intro _ _ | intro _ | apply Keeps.ite | apply andThen_keeps
      | apply State.ptrEntry_keeps | (fail_if_no_progress refine Keeps.upd ?_ rfl rfl rfl rfl rfl rfl) | dsimp only
      | split | apply Keeps.fst (by assumption) | apply Keeps.snd (by assumption) | apply Keeps.ofSome (by assumption)

theorem State.fillWin_keeps {s0 : State} (s : State) (t : Nat) (x : Suit) (side r : Nat) (segs : List Seg) (z0 : Nat) (z1 : Nat) (z2 : Option Nat) (z3 : Option Nat) (z4 : List Coord)
    (hs : Keeps s0 s) :
    Keeps s0 (State.fillWin s t x side r segs z0 z1 z2 z3 z4).1 := by
  unfold State.fillWin
  with_reducible repeat' first
      | assumption | intro _ _ _ | intro _ _ | intro _ | apply Keeps.ite | apply Keeps.getD
      | apply State.planeNat_keeps | apply State.segSpan_keeps | apply State.fillWin_keeps
      | (fail_if_no_progress refine Keeps.upd ?_ rfl rfl rfl rfl rfl rfl) | dsimp only | split
      | apply Keeps.fst (by assumption) | apply Keeps.snd (by assumption) | apply Keeps.ofSome (by assumption)

theorem State.window_keeps {s0 : State} (s : State) (t : Nat) (x : Suit) (side r : Nat) (segs : List Seg) (cur : Option (Nat × Nat × Option Nat))
    (hs : Keeps s0 s) :
    Keeps s0 (State.window s t x side r segs cur).1 := by
  unfold State.window
  with_reducible repeat' first
      | assumption | intro _ _ _ | intro _ _ | intro _ | apply Keeps.ite | apply State.fillWin_keeps
      | (fail_if_no_progress refine Keeps.upd ?_ rfl rfl rfl rfl rfl rfl) | dsimp only | split
      | apply Keeps.fst (by assumption) | apply Keeps.snd (by assumption) | apply Keeps.ofSome (by assumption)

theorem State.mergeCycle_keeps {s0 : State} (s : State) (t : Nat) (x : Suit)
    (hs : Keeps s0 s) :
    Keeps s0 (State.mergeCycle s t x).1 := by
  unfold State.mergeCycle
  with_reducible repeat' first
      | assumption | intro _ _ _ | intro _ _ | intro _ | apply Keeps.ite | apply Keeps.getD | apply State.count_keeps
      | apply andThen_keeps | apply State.pairAt_keeps | apply State.window_keeps
      | (fail_if_no_progress refine Keeps.upd ?_ rfl rfl rfl rfl rfl rfl) | dsimp only | split
      | apply Keeps.fst (by assumption) | apply Keeps.snd (by assumption) | apply Keeps.ofSome (by assumption)

theorem execSeamMergeCycle_keeps {s0 : State} (t : TileId) (s : State)
    (hs : Keeps s0 s) :
    KeepsOut s0 (execSeamMergeCycle t s) := by
  unfold execSeamMergeCycle
  with_reducible repeat' first
      | assumption | intro _ _ _ | intro _ _ | intro _ | apply Keeps.ite | apply KeepsOut.next | apply KeepsOut.ite
      | apply State.count_keeps | apply keepRun_keeps | apply State.mergeCycle_keeps
      | (fail_if_no_progress refine Keeps.upd ?_ rfl rfl rfl rfl rfl rfl) | dsimp only | split
      | apply Keeps.fst (by assumption) | apply Keeps.snd (by assumption) | apply Keeps.ofSome (by assumption)

theorem execSeamRecordWrite_keeps {s0 : State} (t : TileId) (s : State)
    (hs : Keeps s0 s) :
    KeepsOut s0 (execSeamRecordWrite t s) := by
  unfold execSeamRecordWrite
  with_reducible repeat' first
      | assumption | intro _ _ _ | intro _ _ | intro _ | apply Keeps.ite | apply KeepsOut.next | apply KeepsOut.ite
      | apply State.count_keeps | apply State.putRun_keeps | apply Keeps.foldl | apply Keeps.foldlFst
      | (fail_if_no_progress refine Keeps.upd ?_ rfl rfl rfl rfl rfl rfl) | dsimp only | split
      | apply Keeps.fst (by assumption) | apply Keeps.snd (by assumption) | apply Keeps.ofSome (by assumption)

theorem execSeamCtrClear_keeps {s0 : State} (t : TileId) (s : State)
    (hs : Keeps s0 s) :
    KeepsOut s0 (execSeamCtrClear t s) := by
  unfold execSeamCtrClear
  with_reducible repeat' first
      | assumption | intro _ _ _ | intro _ _ | intro _ | apply Keeps.ite | apply KeepsOut.next | apply KeepsOut.ite
      | apply State.clear_keeps | apply State.ctl_keeps
      | (fail_if_no_progress refine Keeps.upd ?_ rfl rfl rfl rfl rfl rfl) | dsimp only | split
      | apply Keeps.fst (by assumption) | apply Keeps.snd (by assumption) | apply Keeps.ofSome (by assumption)

theorem execFetchSlotBind_keeps {s0 : State} (t : TileId) (b : Bool) (s : State)
    (hs : Keeps s0 s) :
    KeepsOut s0 (execFetchSlotBind t b s) := by
  unfold execFetchSlotBind
  with_reducible repeat' first
      | assumption | intro _ _ _ | intro _ _ | intro _ | apply Keeps.ite | apply KeepsOut.next | apply KeepsOut.ite
      | apply State.putRun_keeps | (fail_if_no_progress refine Keeps.upd ?_ rfl rfl rfl rfl rfl rfl) | dsimp only
      | split | apply Keeps.fst (by assumption) | apply Keeps.snd (by assumption) | apply Keeps.ofSome (by assumption)

theorem State.withScale_keeps {s0 : State} (s : State) (t : Nat) (x : Suit) (w : Want) (o : Opnd)
    (hs : Keeps s0 s) :
    Keeps s0 (State.withScale s t x w o).1 := by
  unfold State.withScale
  with_reducible repeat' first
      | assumption | intro _ _ _ | intro _ _ | intro _ | apply Keeps.ite | apply andThen_keeps
      | apply State.scaleAt_keeps | (fail_if_no_progress refine Keeps.upd ?_ rfl rfl rfl rfl rfl rfl) | dsimp only
      | split | apply Keeps.fst (by assumption) | apply Keeps.snd (by assumption) | apply Keeps.ofSome (by assumption)

theorem State.fetchRow_keeps {s0 : State} (s : State) (t : Nat) (x : Suit) (side : Nat) (skip : Bool) (ws : List Want)
    (hs : Keeps s0 s) :
    Keeps s0 (State.fetchRow s t x side skip ws).1 := by
  unfold State.fetchRow
  with_reducible repeat' first
      | assumption | intro _ _ _ | intro _ _ | intro _ | apply Keeps.ite | apply Keeps.getD | apply andThen_keeps
      | apply each_keeps | apply State.readVals_keeps | apply State.withScale_keeps
      | (fail_if_no_progress refine Keeps.upd ?_ rfl rfl rfl rfl rfl rfl) | dsimp only | split
      | apply Keeps.fst (by assumption) | apply Keeps.snd (by assumption) | apply Keeps.ofSome (by assumption)

theorem State.fetchSide_keeps {s0 : State} (s : State) (t : Nat) (x : Suit) (r : SuitRun) (side o : Nat) (skip : Bool) (rows : List (Nat × List Want))
    (hs : Keeps s0 s) :
    Keeps s0 (State.fetchSide s t x r side o skip rows).1 := by
  unfold State.fetchSide
  with_reducible repeat' first
      | assumption | intro _ _ _ | intro _ _ | intro _ | apply Keeps.ite | apply andThen_keeps | apply each_keeps
      | apply State.fetchRow_keeps | (fail_if_no_progress refine Keeps.upd ?_ rfl rfl rfl rfl rfl rfl) | dsimp only
      | split | apply Keeps.fst (by assumption) | apply Keeps.snd (by assumption) | apply Keeps.ofSome (by assumption)

theorem State.fetchRecs_keeps {s0 : State} (s : State) (t : Nat) (x : Suit) (r : SuitRun) (qs : List SeamRec)
    (hs : Keeps s0 s) :
    Keeps s0 (State.fetchRecs s t x r qs).1 := by
  unfold State.fetchRecs
  with_reducible repeat' first
      | assumption | intro _ _ _ | intro _ _ | intro _ | apply Keeps.ite | apply andThen_keeps
      | apply State.slotRead_keeps | apply State.pairAt_keeps | apply State.fetchSide_keeps
      | (fail_if_no_progress refine Keeps.upd ?_ rfl rfl rfl rfl rfl rfl) | dsimp only | split
      | apply Keeps.fst (by assumption) | apply Keeps.snd (by assumption) | apply Keeps.ofSome (by assumption)

theorem State.fetchSparse_keeps {s0 : State} (s : State) (t : Nat) (x : Suit) (r : SuitRun)
    (hs : Keeps s0 s) :
    Keeps s0 (State.fetchSparse s t x r).1 := by
  unfold State.fetchSparse
  with_reducible repeat' first
      | assumption | intro _ _ _ | intro _ _ | intro _ | apply Keeps.ite | apply State.fetchRecs_keeps
      | (fail_if_no_progress refine Keeps.upd ?_ rfl rfl rfl rfl rfl rfl) | dsimp only | split
      | apply Keeps.fst (by assumption) | apply Keeps.snd (by assumption) | apply Keeps.ofSome (by assumption)

theorem State.fetchDense_keeps {s0 : State} (s : State) (t : Nat) (x : Suit) (r : SuitRun)
    (hs : Keeps s0 s) :
    Keeps s0 (State.fetchDense s t x r).1 := by
  unfold State.fetchDense
  with_reducible repeat' first
      | assumption | intro _ _ _ | intro _ _ | intro _ | apply Keeps.ite | apply andThen_keeps
      | apply State.fetchSide_keeps | (fail_if_no_progress refine Keeps.upd ?_ rfl rfl rfl rfl rfl rfl) | dsimp only
      | split | apply Keeps.fst (by assumption) | apply Keeps.snd (by assumption) | apply Keeps.ofSome (by assumption)

theorem State.fetchStep_keeps {s0 : State} (s : State) (t : Nat) (x : Suit)
    (hs : Keeps s0 s) :
    Keeps s0 (State.fetchStep s t x).1 := by
  unfold State.fetchStep
  with_reducible repeat' first
      | assumption | intro _ _ _ | intro _ _ | intro _ | apply Keeps.ite | apply State.fetchSparse_keeps
      | apply State.fetchDense_keeps | (fail_if_no_progress refine Keeps.upd ?_ rfl rfl rfl rfl rfl rfl) | dsimp only
      | split | apply Keeps.fst (by assumption) | apply Keeps.snd (by assumption) | apply Keeps.ofSome (by assumption)

theorem execFetchBlock_keeps {s0 : State} (t : TileId) (s : State)
    (hs : Keeps s0 s) :
    KeepsOut s0 (execFetchBlock t s) := by
  unfold execFetchBlock
  with_reducible repeat' first
      | assumption | intro _ _ _ | intro _ _ | intro _ | apply Keeps.ite | apply KeepsOut.next | apply KeepsOut.ite
      | apply State.putRun_keeps | apply keepRun_keeps | apply State.fetchStep_keeps
      | (fail_if_no_progress refine Keeps.upd ?_ rfl rfl rfl rfl rfl rfl) | dsimp only | split
      | apply Keeps.fst (by assumption) | apply Keeps.snd (by assumption) | apply Keeps.ofSome (by assumption)

theorem execSleeveStageStart_keeps {s0 : State} (t : TileId) (s : State)
    (hs : Keeps s0 s) :
    KeepsOut s0 (execSleeveStageStart t s) := by
  unfold execSleeveStageStart
  with_reducible repeat' first
      | assumption | intro _ _ _ | intro _ _ | intro _ | apply Keeps.ite | apply KeepsOut.next | apply KeepsOut.ite
      | apply State.putRun_keeps | apply State.needCompute_keeps
      | (fail_if_no_progress refine Keeps.upd ?_ rfl rfl rfl rfl rfl rfl) | dsimp only | split
      | apply Keeps.fst (by assumption) | apply Keeps.snd (by assumption) | apply Keeps.ofSome (by assumption)

theorem State.sumCycle_keeps {s0 : State} (s : State) (t : Nat) (x : Suit) (e : Env) (r : SuitRun)
    (hs : Keeps s0 s) :
    Keeps s0 (State.sumCycle s t x e r).1 := by
  unfold State.sumCycle
  with_reducible repeat' first
      | assumption | intro _ _ _ | intro _ _ | intro _ | apply Keeps.ite | apply State.count_keeps
      | (fail_if_no_progress refine Keeps.upd ?_ rfl rfl rfl rfl rfl rfl) | dsimp only | split
      | apply Keeps.fst (by assumption) | apply Keeps.snd (by assumption) | apply Keeps.ofSome (by assumption)

theorem State.dotCycle_keeps {s0 : State} (s : State) (t : Nat) (x : Suit) (e : Env) (r : SuitRun)
    (hs : Keeps s0 s) :
    Keeps s0 (State.dotCycle s t x e r).1 := by
  unfold State.dotCycle
  with_reducible repeat' first
      | assumption | intro _ _ _ | intro _ _ | intro _ | apply Keeps.ite | apply State.count_keeps | apply Keeps.foldl
      | apply Keeps.foldlFst | (fail_if_no_progress refine Keeps.upd ?_ rfl rfl rfl rfl rfl rfl) | dsimp only | split
      | apply Keeps.fst (by assumption) | apply Keeps.snd (by assumption) | apply Keeps.ofSome (by assumption)

theorem State.productCycle_keeps {s0 : State} (s : State) (t : Nat) (x : Suit) (e : Env) (r : SuitRun)
    (hs : Keeps s0 s) :
    Keeps s0 (State.productCycle s t x e r).1 := by
  unfold State.productCycle
  with_reducible repeat' first
      | assumption | intro _ _ _ | intro _ _ | intro _ | apply Keeps.ite | apply State.count_keeps
      | apply State.wait_keeps | (fail_if_no_progress refine Keeps.upd ?_ rfl rfl rfl rfl rfl rfl) | dsimp only
      | split | apply Keeps.fst (by assumption) | apply Keeps.snd (by assumption) | apply Keeps.ofSome (by assumption)

theorem execSleeveCycle_keeps {s0 : State} (t : TileId) (s : State)
    (hs : Keeps s0 s) :
    KeepsOut s0 (execSleeveCycle t s) := by
  unfold execSleeveCycle
  with_reducible repeat' first
      | assumption | intro _ _ _ | intro _ _ | intro _ | apply Keeps.ite | apply KeepsOut.next | apply KeepsOut.ite
      | apply State.count_keeps | apply State.putRun_keeps | apply keepRun_keeps | apply State.fetchStep_keeps
      | apply State.sumCycle_keeps | apply State.dotCycle_keeps | apply State.productCycle_keeps
      | (fail_if_no_progress refine Keeps.upd ?_ rfl rfl rfl rfl rfl rfl) | dsimp only | split
      | apply Keeps.fst (by assumption) | apply Keeps.snd (by assumption) | apply Keeps.ofSome (by assumption)

theorem State.raiseSat_keeps {s0 : State} (s : State) (t : Nat) (x : Suit) (r : SuitRun) (o : Nat)
    (hs : Keeps s0 s) :
    Keeps s0 (State.raiseSat s t x r o).1 := by
  unfold State.raiseSat
  with_reducible repeat' first
      | assumption | intro _ _ _ | intro _ _ | intro _ | apply Keeps.ite | apply State.setBit_keeps
      | apply State.count_keeps | apply State.warnTask_keeps | apply State.markStep_keeps
      | (fail_if_no_progress refine Keeps.upd ?_ rfl rfl rfl rfl rfl rfl) | dsimp only | split
      | apply Keeps.fst (by assumption) | apply Keeps.snd (by assumption) | apply Keeps.ofSome (by assumption)

theorem State.releaseBound_keeps {s0 : State} (s : State) (t : Nat) (x : Suit) (r : SuitRun)
    (hs : Keeps s0 s) :
    Keeps s0 (State.releaseBound s t x r).1 := by
  unfold State.releaseBound
  with_reducible repeat' first
      | assumption | intro _ _ _ | intro _ _ | intro _ | apply Keeps.ite | apply Keeps.getD
      | apply State.release_keeps | (fail_if_no_progress refine Keeps.upd ?_ rfl rfl rfl rfl rfl rfl) | dsimp only
      | split | apply Keeps.fst (by assumption) | apply Keeps.snd (by assumption) | apply Keeps.ofSome (by assumption)

theorem State.countTile_keeps {s0 : State} (s : State) (t i : Nat)
    (hs : Keeps s0 s) : Keeps s0 (State.countTile s t i) := by
  unfold State.countTile
  exact State.setFld_keeps _ _ _ _ _ hs

theorem execSleeveTileEnd_keeps {s0 : State} (t : TileId) (s : State)
    (hs : Keeps s0 s) :
    KeepsOut s0 (execSleeveTileEnd t s) := by
  unfold execSleeveTileEnd
  with_reducible repeat' first
      | assumption | intro _ _ _ | intro _ _ | intro _ | apply Keeps.ite | apply KeepsOut.next | apply KeepsOut.ite
      | apply State.count_keeps | apply State.countTile_keeps | apply State.putRun_keeps | apply State.raiseSat_keeps
      | apply State.releaseBound_keeps | apply Keeps.foldl | apply Keeps.foldlFst
      | (fail_if_no_progress refine Keeps.upd ?_ rfl rfl rfl rfl rfl rfl) | dsimp only | split
      | apply Keeps.fst (by assumption) | apply Keeps.snd (by assumption) | apply Keeps.ofSome (by assumption)

theorem State.tileDrained_keeps {s0 : State} (s : State) (t : Nat) (x : Suit) (r : SuitRun) (a : ASet)
    (hs : Keeps s0 s) :
    Keeps s0 (State.tileDrained s t x r a).1 := by
  unfold State.tileDrained
  with_reducible repeat' first
      | assumption | intro _ _ _ | intro _ _ | intro _ | apply Keeps.ite | apply State.count_keeps
      | apply State.raiseSat_keeps | (fail_if_no_progress refine Keeps.upd ?_ rfl rfl rfl rfl rfl rfl) | dsimp only
      | split | apply Keeps.fst (by assumption) | apply Keeps.snd (by assumption) | apply Keeps.ofSome (by assumption)

theorem execSleeveDrainRow_keeps {s0 : State} (t : TileId) (s : State)
    (hs : Keeps s0 s) :
    KeepsOut s0 (execSleeveDrainRow t s) := by
  unfold execSleeveDrainRow
  with_reducible repeat' first
      | assumption | intro _ _ _ | intro _ _ | intro _ | apply Keeps.ite | apply KeepsOut.next | apply KeepsOut.ite
      | apply State.countTile_keeps | apply State.putRun_keeps | apply State.tileDrained_keeps
      | (fail_if_no_progress refine Keeps.upd ?_ rfl rfl rfl rfl rfl rfl) | dsimp only | split
      | apply Keeps.fst (by assumption) | apply Keeps.snd (by assumption) | apply Keeps.ofSome (by assumption)

theorem State.countBins_keeps {s0 : State} (s : State) (t p q k : Nat) (bins : List Nat)
    (hs : Keeps s0 s) :
    Keeps s0 (State.countBins s t p q k bins) := by
  unfold State.countBins
  with_reducible repeat' first
      | assumption | intro _ _ _ | intro _ _ | intro _ | apply Keeps.ite | apply State.setBit_keeps
      | apply State.count_keeps | apply State.warnJob_keeps | apply Keeps.foldl | apply Keeps.foldlFst
      | (fail_if_no_progress refine Keeps.upd ?_ rfl rfl rfl rfl rfl rfl) | dsimp only | split
      | apply Keeps.fst (by assumption) | apply Keeps.snd (by assumption) | apply Keeps.ofSome (by assumption)

theorem execSampledTileRerun_keeps {s0 : State} (t : TileId) (s : State)
    (hs : Keeps s0 s) :
    KeepsOut s0 (execSampledTileRerun t s) := by
  unfold execSampledTileRerun
  with_reducible repeat' first
      | assumption | intro _ _ _ | intro _ _ | intro _ | apply Keeps.ite | apply KeepsOut.next | apply KeepsOut.ite
      | apply Keeps.getD | apply State.count_keeps | apply State.putRun_keeps | apply State.releaseBound_keeps
      | apply State.countBins_keeps | (fail_if_no_progress refine Keeps.upd ?_ rfl rfl rfl rfl rfl rfl) | dsimp only
      | split | apply Keeps.fst (by assumption) | apply Keeps.snd (by assumption) | apply Keeps.ofSome (by assumption)

theorem execSleeveCtrClearAll_keeps {s0 : State} (t : TileId) (s : State)
    (hs : Keeps s0 s) :
    KeepsOut s0 (execSleeveCtrClearAll t s) := by
  unfold execSleeveCtrClearAll
  with_reducible repeat' first
      | assumption | intro _ _ _ | intro _ _ | intro _ | apply Keeps.ite | apply KeepsOut.next | apply KeepsOut.ite
      | apply State.clear_keeps | apply State.ctl_keeps
      | (fail_if_no_progress refine Keeps.upd ?_ rfl rfl rfl rfl rfl rfl) | dsimp only | split
      | apply Keeps.fst (by assumption) | apply Keeps.snd (by assumption) | apply Keeps.ofSome (by assumption)

theorem execSleeveCtrClearSat_keeps {s0 : State} (t : TileId) (s : State)
    (hs : Keeps s0 s) :
    KeepsOut s0 (execSleeveCtrClearSat t s) := by
  unfold execSleeveCtrClearSat
  with_reducible repeat' first
      | assumption | intro _ _ _ | intro _ _ | intro _ | apply Keeps.ite | apply KeepsOut.next | apply KeepsOut.ite
      | apply State.clear_keeps | apply State.ctl_keeps
      | (fail_if_no_progress refine Keeps.upd ?_ rfl rfl rfl rfl rfl rfl) | dsimp only | split
      | apply Keeps.fst (by assumption) | apply Keeps.snd (by assumption) | apply Keeps.ofSome (by assumption)

theorem execSamplerCtrClear_keeps {s0 : State} (p : PanelId) (mask : BitVec 8) (s : State)
    (hs : Keeps s0 s) :
    KeepsOut s0 (execSamplerCtrClear p mask s) := by
  unfold execSamplerCtrClear
  with_reducible repeat' first
      | assumption | intro _ _ _ | intro _ _ | intro _ | apply Keeps.ite | apply KeepsOut.next | apply KeepsOut.ite
      | apply State.clear_keeps | apply State.ctl_keeps
      | (fail_if_no_progress refine Keeps.upd ?_ rfl rfl rfl rfl rfl rfl) | dsimp only | split
      | apply Keeps.fst (by assumption) | apply Keeps.snd (by assumption) | apply Keeps.ofSome (by assumption)

theorem State.readRow_keeps {s0 : State} (s : State) (t : Nat) (x : Suit) (stage : Nat) (d : TDesc) (r c n : Nat)
    (hs : Keeps s0 s) :
    Keeps s0 (State.readRow s t x stage d r c n).1 := by
  unfold State.readRow
  with_reducible repeat' first
      | assumption | intro _ _ _ | intro _ _ | intro _ | apply Keeps.ite | apply andThen_keeps | apply each_keeps
      | apply State.readVals_keeps | (fail_if_no_progress refine Keeps.upd ?_ rfl rfl rfl rfl rfl rfl) | dsimp only
      | split | apply Keeps.fst (by assumption) | apply Keeps.snd (by assumption) | apply Keeps.ofSome (by assumption)

theorem State.stageWrite_keeps {s0 : State} (s : State) (t stage off : Nat) (bs : List Byte)
    (hs : Keeps s0 s) :
    Keeps s0 (State.stageWrite s t stage off bs).1 := by
  unfold State.stageWrite
  with_reducible repeat' first
      | assumption | intro _ _ _ | intro _ _ | intro _ | apply Keeps.ite | apply State.pocketWrite_keeps
      | (fail_if_no_progress refine Keeps.upd ?_ rfl rfl rfl rfl rfl rfl) | dsimp only | split
      | apply Keeps.fst (by assumption) | apply Keeps.snd (by assumption) | apply Keeps.ofSome (by assumption)

theorem State.planeWrite_keeps {s0 : State} (s : State) (t : Nat) (x : Suit) (stage : Nat) (g : Img) (plane off : Nat) (bs : List Byte)
    (hs : Keeps s0 s) :
    Keeps s0 (State.planeWrite s t x stage g plane off bs).1 := by
  unfold State.planeWrite
  with_reducible repeat' first
      | assumption | intro _ _ _ | intro _ _ | intro _ | apply Keeps.ite | apply State.stageWrite_keeps
      | (fail_if_no_progress refine Keeps.upd ?_ rfl rfl rfl rfl rfl rfl) | dsimp only | split
      | apply Keeps.fst (by assumption) | apply Keeps.snd (by assumption) | apply Keeps.ofSome (by assumption)

theorem State.planeBits_keeps {s0 : State} (s : State) (t : Nat) (x : Suit) (stage : Nat) (g : Img) (p : Nat) (bits : List (Nat × Bool))
    (hs : Keeps s0 s) :
    Keeps s0 (State.planeBits s t x stage g p bits).1 := by
  unfold State.planeBits
  with_reducible repeat' first
      | assumption | intro _ _ _ | intro _ _ | intro _ | apply Keeps.ite | apply andThen_keeps | apply each_keeps
      | apply State.planeNat_keeps | apply State.planeWrite_keeps | apply Keeps.foldl | apply Keeps.foldlFst
      | (fail_if_no_progress refine Keeps.upd ?_ rfl rfl rfl rfl rfl rfl) | dsimp only | split
      | apply Keeps.fst (by assumption) | apply Keeps.snd (by assumption) | apply Keeps.ofSome (by assumption)

theorem State.fixPocc_keeps {s0 : State} (s : State) (t : Nat) (x : Suit) (stage : Nat) (g : Img) (b : Nat)
    (hs : Keeps s0 s) :
    Keeps s0 (State.fixPocc s t x stage g b).1 := by
  unfold State.fixPocc
  with_reducible repeat' first
      | assumption | intro _ _ _ | intro _ _ | intro _ | apply Keeps.ite | apply andThen_keeps | apply each_keeps
      | apply State.planeNat_keeps | apply State.planeWrite_keeps | apply Keeps.foldl | apply Keeps.foldlFst
      | (fail_if_no_progress refine Keeps.upd ?_ rfl rfl rfl rfl rfl rfl) | dsimp only | split
      | apply Keeps.fst (by assumption) | apply Keeps.snd (by assumption) | apply Keeps.ofSome (by assumption)

theorem State.writeVals_keeps {s0 : State} (s : State) (t : Nat) (x : Suit) (stage : Nat) (g : Img) (vs : List (Nat × Nat × Nat))
    (hs : Keeps s0 s) :
    Keeps s0 (State.writeVals s t x stage g vs).1 := by
  unfold State.writeVals
  with_reducible repeat' first
      | assumption | intro _ _ _ | intro _ _ | intro _ | apply Keeps.ite | apply andThen_keeps | apply each_keeps
      | apply State.planeWrite_keeps | apply State.planeBits_keeps | apply State.fixPocc_keeps
      | (fail_if_no_progress refine Keeps.upd ?_ rfl rfl rfl rfl rfl rfl) | dsimp only | split
      | apply Keeps.fst (by assumption) | apply Keeps.snd (by assumption) | apply Keeps.ofSome (by assumption)

theorem State.writeRow_keeps {s0 : State} (s : State) (t : Nat) (x : Suit) (stage : Nat) (d : TDesc) (r c : Nat) (vals : List (Nat × Nat))
    (hs : Keeps s0 s) :
    Keeps s0 (State.writeRow s t x stage d r c vals).1 := by
  unfold State.writeRow
  with_reducible repeat' first
      | assumption | intro _ _ _ | intro _ _ | intro _ | apply Keeps.ite | apply Keeps.getD | apply andThen_keeps
      | apply each_keeps | apply State.writeVals_keeps
      | (fail_if_no_progress refine Keeps.upd ?_ rfl rfl rfl rfl rfl rfl) | dsimp only | split
      | apply Keeps.fst (by assumption) | apply Keeps.snd (by assumption) | apply Keeps.ofSome (by assumption)

theorem execReduceRowRead_keeps {s0 : State} (t : TileId) (s : State)
    (hs : Keeps s0 s) :
    KeepsOut s0 (execReduceRowRead t s) := by
  unfold execReduceRowRead
  with_reducible repeat' first
      | assumption | intro _ _ _ | intro _ _ | intro _ | apply Keeps.ite | apply KeepsOut.next | apply KeepsOut.ite
      | apply Keeps.getD | apply andThen_keeps | apply State.putRun_keeps | apply keepRun_keeps
      | apply State.readRow_keeps | (fail_if_no_progress refine Keeps.upd ?_ rfl rfl rfl rfl rfl rfl) | dsimp only
      | split | apply Keeps.fst (by assumption) | apply Keeps.snd (by assumption) | apply Keeps.ofSome (by assumption)

theorem execReduceRowWriteback_keeps {s0 : State} (t : TileId) (s : State)
    (hs : Keeps s0 s) :
    KeepsOut s0 (execReduceRowWriteback t s) := by
  unfold execReduceRowWriteback
  with_reducible repeat' first
      | assumption | intro _ _ _ | intro _ _ | intro _ | apply Keeps.ite | apply KeepsOut.next | apply KeepsOut.ite
      | apply andThen_keeps | apply keepRun_keeps | apply State.writeRow_keeps
      | (fail_if_no_progress refine Keeps.upd ?_ rfl rfl rfl rfl rfl rfl) | dsimp only | split
      | apply Keeps.fst (by assumption) | apply Keeps.snd (by assumption) | apply Keeps.ofSome (by assumption)

theorem State.inExp_keeps {s0 : State} (s : State) (t : Nat) (x : Suit) (w : ORow) (j : Nat)
    (hs : Keeps s0 s) :
    Keeps s0 (State.inExp s t x w j).1 := by
  unfold State.inExp
  with_reducible repeat' first
      | assumption | intro _ _ _ | intro _ _ | intro _ | apply Keeps.ite | apply andThen_keeps
      | apply State.pairAt_keeps | apply State.scaleAt_keeps
      | (fail_if_no_progress refine Keeps.upd ?_ rfl rfl rfl rfl rfl rfl) | dsimp only | split
      | apply Keeps.fst (by assumption) | apply Keeps.snd (by assumption) | apply Keeps.ofSome (by assumption)

theorem State.scaleAddr_keeps {s0 : State} (s : State) (t : Nat) (x : Suit) (k : Cvt) (r c : Nat)
    (hs : Keeps s0 s) :
    Keeps s0 (State.scaleAddr s t x k r c).1 := by
  unfold State.scaleAddr
  with_reducible repeat' first
      | assumption | intro _ _ _ | intro _ _ | intro _ | apply Keeps.ite
      | (fail_if_no_progress refine Keeps.upd ?_ rfl rfl rfl rfl rfl rfl) | dsimp only | split
      | apply Keeps.fst (by assumption) | apply Keeps.snd (by assumption) | apply Keeps.ofSome (by assumption)

theorem State.cvtElem_keeps {s0 : State} (s : State) (t : Nat) (x : Suit) (k : Cvt) (w : ORow) (j : Nat) (v : Res)
    (hs : Keeps s0 s) :
    Keeps s0 (State.cvtElem s t x k w j v).1 := by
  unfold State.cvtElem
  with_reducible repeat' first
      | assumption | intro _ _ _ | intro _ _ | intro _ | apply Keeps.ite | apply andThen_keeps
      | apply State.inExp_keeps | apply State.scaleAddr_keeps
      | (fail_if_no_progress refine Keeps.upd ?_ rfl rfl rfl rfl rfl rfl) | dsimp only | split
      | apply Keeps.fst (by assumption) | apply Keeps.snd (by assumption) | apply Keeps.ofSome (by assumption)

theorem State.blockExps_keeps {s0 : State} (s : State) (k : Cvt) (es : List CElem)
    (hs : Keeps s0 s) :
    Keeps s0 (State.blockExps s k es).1 := by
  unfold State.blockExps
  with_reducible repeat' first
      | assumption | intro _ _ _ | intro _ _ | intro _ | apply Keeps.ite | apply Keeps.foldl | apply Keeps.foldlFst
      | (fail_if_no_progress refine Keeps.upd ?_ rfl rfl rfl rfl rfl rfl) | dsimp only | split
      | apply Keeps.fst (by assumption) | apply Keeps.snd (by assumption) | apply Keeps.ofSome (by assumption)

theorem State.lineElem_keeps {s0 : State} (s : State) (t : Nat) (x : Suit) (k : Cvt) (e : CElem)
    (hs : Keeps s0 s) :
    Keeps s0 (State.lineElem s t x k e).1 := by
  unfold State.lineElem
  with_reducible repeat' first
      | assumption | intro _ _ _ | intro _ _ | intro _ | apply Keeps.ite | apply Keeps.getD | apply andThen_keeps
      | apply State.stageRead_keeps | apply State.planeNat_keeps
      | (fail_if_no_progress refine Keeps.upd ?_ rfl rfl rfl rfl rfl rfl) | dsimp only | split
      | apply Keeps.fst (by assumption) | apply Keeps.snd (by assumption) | apply Keeps.ofSome (by assumption)

theorem State.cvtRows_keeps {s0 : State} (s : State) (t : Nat) (x : Suit) (k : Cvt) (ws : List ORow)
    (hs : Keeps s0 s) :
    Keeps s0 (State.cvtRows s t x k ws).1 := by
  unfold State.cvtRows
  with_reducible repeat' first
      | assumption | intro _ _ _ | intro _ _ | intro _ | apply Keeps.ite | apply Keeps.getD | apply andThen_keeps
      | apply each_keeps | apply State.cvtElem_keeps | apply State.blockExps_keeps | apply State.lineElem_keeps
      | (fail_if_no_progress refine Keeps.upd ?_ rfl rfl rfl rfl rfl rfl) | dsimp only | split
      | apply Keeps.fst (by assumption) | apply Keeps.snd (by assumption) | apply Keeps.ofSome (by assumption)

theorem State.cvtSaturated_keeps {s0 : State} (s : State) (t : Nat) (x : Suit) (r : SuitRun) (o : Nat)
    (hs : Keeps s0 s) :
    Keeps s0 (State.cvtSaturated s t x r o).1 := by
  unfold State.cvtSaturated
  with_reducible repeat' first
      | assumption | intro _ _ _ | intro _ _ | intro _ | apply Keeps.ite | apply State.raiseSat_keeps
      | (fail_if_no_progress refine Keeps.upd ?_ rfl rfl rfl rfl rfl rfl) | dsimp only | split
      | apply Keeps.fst (by assumption) | apply Keeps.snd (by assumption) | apply Keeps.ofSome (by assumption)

theorem State.convertOut_keeps {s0 : State} (s : State) (t i : Nat) (x : Suit) (k : Cvt) (ws : List ORow) (r : SuitRun)
    (hs : Keeps s0 s) :
    Keeps s0 (State.convertOut s t i x k ws r) := by
  unfold State.convertOut
  with_reducible repeat' first
      | assumption | intro _ _ _ | intro _ _ | intro _ | apply Keeps.ite | apply State.putRun_keeps
      | apply keepRun_keeps | apply State.cvtRows_keeps | apply State.cvtSaturated_keeps
      | (fail_if_no_progress refine Keeps.upd ?_ rfl rfl rfl rfl rfl rfl) | dsimp only | split
      | apply Keeps.fst (by assumption) | apply Keeps.snd (by assumption) | apply Keeps.ofSome (by assumption)

theorem execConvertRow_keeps {s0 : State} (t : TileId) (s : State)
    (hs : Keeps s0 s) :
    KeepsOut s0 (execConvertRow t s) := by
  unfold execConvertRow
  with_reducible repeat' first
      | assumption | intro _ _ _ | intro _ _ | intro _ | apply Keeps.ite | apply KeepsOut.next | apply KeepsOut.ite
      | apply State.putRun_keeps | apply State.convertOut_keeps
      | (fail_if_no_progress refine Keeps.upd ?_ rfl rfl rfl rfl rfl rfl) | dsimp only | split
      | apply Keeps.fst (by assumption) | apply Keeps.snd (by assumption) | apply Keeps.ofSome (by assumption)

theorem State.writeScales_keeps {s0 : State} (s : State) (t : Nat) (bs : List (Nat × Nat))
    (hs : Keeps s0 s) :
    Keeps s0 (State.writeScales s t bs).1 := by
  unfold State.writeScales
  with_reducible repeat' first
      | assumption | intro _ _ _ | intro _ _ | intro _ | apply Keeps.ite | apply andThen_keeps | apply each_keeps
      | apply State.stageWrite_keeps | (fail_if_no_progress refine Keeps.upd ?_ rfl rfl rfl rfl rfl rfl) | dsimp only
      | split | apply Keeps.fst (by assumption) | apply Keeps.snd (by assumption) | apply Keeps.ofSome (by assumption)

theorem State.putPtr_keeps {s0 : State} (s : State) (t : Nat) (x : Suit) (g : Img) (e v : Nat)
    (hs : Keeps s0 s) :
    Keeps s0 (State.putPtr s t x g e v).1 := by
  unfold State.putPtr
  with_reducible repeat' first
      | assumption | intro _ _ _ | intro _ _ | intro _ | apply Keeps.ite | apply andThen_keeps
      | apply State.planeWrite_keeps | (fail_if_no_progress refine Keeps.upd ?_ rfl rfl rfl rfl rfl rfl) | dsimp only
      | split | apply Keeps.fst (by assumption) | apply Keeps.snd (by assumption) | apply Keeps.ofSome (by assumption)

theorem State.storeMerge_keeps {s0 : State} (s : State) (t : Nat) (x : Suit)
    (hs : Keeps s0 s) :
    Keeps s0 (State.storeMerge s t x).1 := by
  unfold State.storeMerge
  with_reducible repeat' first
      | assumption | intro _ _ _ | intro _ _ | intro _ | apply Keeps.ite | apply andThen_keeps
      | apply State.planeWrite_keeps | apply State.writeVals_keeps | apply State.writeScales_keeps
      | apply State.putPtr_keeps | (fail_if_no_progress refine Keeps.upd ?_ rfl rfl rfl rfl rfl rfl) | dsimp only
      | split | apply Keeps.fst (by assumption) | apply Keeps.snd (by assumption) | apply Keeps.ofSome (by assumption)

theorem State.ringBytes_keeps {s0 : State} (s : State) (ty : Nat) (v : Nat × Nat)
    (hs : Keeps s0 s) :
    Keeps s0 (State.ringBytes s ty v).1 := by
  unfold State.ringBytes
  with_reducible repeat' first
      | assumption | intro _ _ _ | intro _ _ | intro _ | apply Keeps.ite
      | (fail_if_no_progress refine Keeps.upd ?_ rfl rfl rfl rfl rfl rfl) | dsimp only | split
      | apply Keeps.fst (by assumption) | apply Keeps.snd (by assumption) | apply Keeps.ofSome (by assumption)

theorem State.commitSlot_keeps {s0 : State} (s : State) (t : Nat) (x : Suit)
    (hs : Keeps s0 s) :
    Keeps s0 (State.commitSlot s t x) := by
  unfold State.commitSlot
  with_reducible repeat' first
      | assumption | intro _ _ _ | intro _ _ | intro _ | apply Keeps.ite | apply Keeps.getD | apply State.commit_keeps
      | (fail_if_no_progress refine Keeps.upd ?_ rfl rfl rfl rfl rfl rfl) | dsimp only | split
      | apply Keeps.fst (by assumption) | apply Keeps.snd (by assumption) | apply Keeps.ofSome (by assumption)

theorem State.storeRing_keeps {s0 : State} (s : State) (t : Nat) (x : Suit)
    (hs : Keeps s0 s) :
    Keeps s0 (State.storeRing s t x).1 := by
  unfold State.storeRing
  with_reducible repeat' first
      | assumption | intro _ _ _ | intro _ _ | intro _ | apply Keeps.ite | apply andThen_keeps
      | apply State.stageWrite_keeps | apply State.ringBytes_keeps | apply State.commitSlot_keeps | apply Keeps.foldl
      | apply Keeps.foldlFst | (fail_if_no_progress refine Keeps.upd ?_ rfl rfl rfl rfl rfl rfl) | dsimp only | split
      | apply Keeps.fst (by assumption) | apply Keeps.snd (by assumption) | apply Keeps.ofSome (by assumption)

theorem execStoreRow_keeps {s0 : State} (t : TileId) (s : State)
    (hs : Keeps s0 s) :
    KeepsOut s0 (execStoreRow t s) := by
  unfold execStoreRow
  with_reducible repeat' first
      | assumption | intro _ _ _ | intro _ _ | intro _ | apply Keeps.ite | apply KeepsOut.next | apply KeepsOut.ite
      | apply andThen_keeps | apply keepRun_keeps | apply State.writeRow_keeps | apply State.writeScales_keeps
      | apply State.storeMerge_keeps | apply State.storeRing_keeps
      | (fail_if_no_progress refine Keeps.upd ?_ rfl rfl rfl rfl rfl rfl) | dsimp only | split
      | apply Keeps.fst (by assumption) | apply Keeps.snd (by assumption) | apply Keeps.ofSome (by assumption)

theorem execStorePost_keeps {s0 : State} (t : TileId) (s : State)
    (hs : Keeps s0 s) :
    KeepsOut s0 (execStorePost t s) := by
  unfold execStorePost
  with_reducible repeat' first
      | assumption | intro _ _ _ | intro _ _ | intro _ | apply Keeps.ite | apply KeepsOut.next | apply KeepsOut.ite
      | apply State.placketFault_keeps | apply State.enqueue_keeps | apply State.slotRead_keeps
      | apply State.refreshSuits_keeps | apply State.putRun_keeps | apply keepRun_keeps
      | (fail_if_no_progress refine Keeps.upd ?_ rfl rfl rfl rfl rfl rfl) | dsimp only | split
      | apply Keeps.fst (by assumption) | apply Keeps.snd (by assumption) | apply Keeps.ofSome (by assumption)

end Sys2Proof.Machine
end

