-- ==== Sys2Proof/Laws/KeepsModule.lean ====
section
/-! SUPPORT. One lemma for each operation of resets, loads, commits, services and the fabric: whatever it does, it keeps the queue, the canonical form of
the byte memories, and the fuses. -/

set_option linter.unusedTactic false
set_option linter.unreachableTactic false
set_option linter.unusedVariables false

namespace Sys2Proof.Machine

theorem State.setPort_keeps {s0 : State} (s : State) (p st cause : Nat)
    (hs : Keeps s0 s) :
    Keeps s0 (State.setPort s p st cause) := by
  unfold State.setPort
  with_reducible repeat' first
      | assumption | intro _ _ _ | intro _ _ | intro _ | apply Keeps.ite | apply State.setFld_keeps
      | apply State.setBit_keeps | (fail_if_no_progress refine Keeps.upd ?_ rfl rfl rfl rfl rfl rfl) | dsimp only
      | split | apply Keeps.fst (by assumption) | apply Keeps.snd (by assumption) | apply Keeps.ofSome (by assumption)

theorem State.setFab_keeps {s0 : State} (s : State) (p : Nat) (x : FabPort)
    (hs : Keeps s0 s) :
    Keeps s0 (State.setFab s p x) := by
  unfold State.setFab
  with_reducible repeat' first
      | assumption | intro _ _ _ | intro _ _ | intro _ | apply Keeps.ite
      | (fail_if_no_progress refine Keeps.upd ?_ rfl rfl rfl rfl rfl rfl) | dsimp only | split
      | apply Keeps.fst (by assumption) | apply Keeps.snd (by assumption) | apply Keeps.ofSome (by assumption)

theorem State.pump_keeps {s0 : State} (s : State) (p : Nat)
    (hs : Keeps s0 s) :
    Keeps s0 (State.pump s p) := by
  unfold State.pump
  with_reducible repeat' first
      | assumption | intro _ _ _ | intro _ _ | intro _ | apply Keeps.ite | apply State.setFab_keeps
      | apply State.pump_keeps | (fail_if_no_progress refine Keeps.upd ?_ rfl rfl rfl rfl rfl rfl) | dsimp only
      | split | apply Keeps.fst (by assumption) | apply Keeps.snd (by assumption) | apply Keeps.ofSome (by assumption)

theorem State.sendVia_keeps {s0 : State} (s : State) (p : Nat) (pkt : Packet)
    (hs : Keeps s0 s) :
    Keeps s0 (State.sendVia s p pkt) := by
  unfold State.sendVia
  with_reducible repeat' first
      | assumption | intro _ _ _ | intro _ _ | intro _ | apply Keeps.ite | apply State.setFab_keeps
      | apply State.pump_keeps | (fail_if_no_progress refine Keeps.upd ?_ rfl rfl rfl rfl rfl rfl) | dsimp only
      | split | apply Keeps.fst (by assumption) | apply Keeps.snd (by assumption) | apply Keeps.ofSome (by assumption)

theorem State.dropPacket_keeps {s0 : State} (s : State) (pkt : Packet)
    (hs : Keeps s0 s) :
    Keeps s0 (State.dropPacket s pkt) := by
  unfold State.dropPacket
  with_reducible repeat' first
      | assumption | intro _ _ _ | intro _ _ | intro _ | apply Keeps.ite | apply State.count_keeps
      | (fail_if_no_progress refine Keeps.upd ?_ rfl rfl rfl rfl rfl rfl) | dsimp only | split
      | apply Keeps.fst (by assumption) | apply Keeps.snd (by assumption) | apply Keeps.ofSome (by assumption)

theorem State.forward_keeps {s0 : State} (s : State) (pkt : Packet)
    (hs : Keeps s0 s) :
    Keeps s0 (State.forward s pkt) := by
  unfold State.forward
  with_reducible repeat' first
      | assumption | intro _ _ _ | intro _ _ | intro _ | apply Keeps.ite | apply State.sendVia_keeps
      | apply State.dropPacket_keeps | (fail_if_no_progress refine Keeps.upd ?_ rfl rfl rfl rfl rfl rfl) | dsimp only
      | split | apply Keeps.fst (by assumption) | apply Keeps.snd (by assumption) | apply Keeps.ofSome (by assumption)

theorem State.passUnknown_keeps {s0 : State} (s : State) (p : Packet)
    (hs : Keeps s0 s) :
    Keeps s0 (State.passUnknown s p) := by
  unfold State.passUnknown
  with_reducible repeat' first
      | assumption | intro _ _ _ | intro _ _ | intro _ | apply Keeps.ite | apply State.forward_keeps
      | (fail_if_no_progress refine Keeps.upd ?_ rfl rfl rfl rfl rfl rfl) | dsimp only | split
      | apply Keeps.fst (by assumption) | apply Keeps.snd (by assumption) | apply Keeps.ofSome (by assumption)

theorem State.sendCtrl_keeps {s0 : State} (s : State) (q kind dst addr aux : Nat)
    (hs : Keeps s0 s) :
    Keeps s0 (State.sendCtrl s q kind dst addr aux) := by
  unfold State.sendCtrl
  with_reducible repeat' first
      | assumption | intro _ _ _ | intro _ _ | intro _ | apply Keeps.ite
      | (fail_if_no_progress refine Keeps.upd ?_ rfl rfl rfl rfl rfl rfl) | dsimp only | split
      | apply Keeps.fst (by assumption) | apply Keeps.snd (by assumption) | apply Keeps.ofSome (by assumption)

theorem State.sendMirror_keeps {s0 : State} (s : State) (q code addr : Nat)
    (hs : Keeps s0 s) :
    Keeps s0 (State.sendMirror s q code addr) := by
  unfold State.sendMirror
  with_reducible repeat' first
      | assumption | intro _ _ _ | intro _ _ | intro _ | apply Keeps.ite | apply State.sendVia_keeps
      | (fail_if_no_progress refine Keeps.upd ?_ rfl rfl rfl rfl rfl rfl) | dsimp only | split
      | apply Keeps.fst (by assumption) | apply Keeps.snd (by assumption) | apply Keeps.ofSome (by assumption)

theorem State.sendLost_keeps {s0 : State} (s : State) (q code : Nat)
    (hs : Keeps s0 s) :
    Keeps s0 (State.sendLost s q code) := by
  unfold State.sendLost
  with_reducible repeat' first
      | assumption | intro _ _ _ | intro _ _ | intro _ | apply Keeps.ite | apply State.sendVia_keeps
      | apply Keeps.foldl | apply Keeps.foldlFst | (fail_if_no_progress refine Keeps.upd ?_ rfl rfl rfl rfl rfl rfl)
      | dsimp only | split | apply Keeps.fst (by assumption) | apply Keeps.snd (by assumption)
      | apply Keeps.ofSome (by assumption)

theorem State.sendPage_keeps {s0 : State} (s : State) (q place : Nat) (bytes : List Byte)
    (hs : Keeps s0 s) :
    Keeps s0 (State.sendPage s q place bytes) := by
  unfold State.sendPage
  with_reducible repeat' first
      | assumption | intro _ _ _ | intro _ _ | intro _ | apply Keeps.ite | apply State.count_keeps
      | apply State.setSlot_keeps | apply State.sendVia_keeps
      | (fail_if_no_progress refine Keeps.upd ?_ rfl rfl rfl rfl rfl rfl) | dsimp only | split
      | apply Keeps.fst (by assumption) | apply Keeps.snd (by assumption) | apply Keeps.ofSome (by assumption)

theorem State.sendJobStop_keeps {s0 : State} (s : State) (q code cls module seq : Nat) (except : List Nat)
    (hs : Keeps s0 s) :
    Keeps s0 (State.sendJobStop s q code cls module seq except) := by
  unfold State.sendJobStop
  with_reducible repeat' first
      | assumption | intro _ _ _ | intro _ _ | intro _ | apply Keeps.ite | apply State.sendCtrl_keeps
      | apply Keeps.foldl | apply Keeps.foldlFst | (fail_if_no_progress refine Keeps.upd ?_ rfl rfl rfl rfl rfl rfl)
      | dsimp only | split | apply Keeps.fst (by assumption) | apply Keeps.snd (by assumption)
      | apply Keeps.ofSome (by assumption)

theorem State.latchFabErr_keeps {s0 : State} (s : State) (q sub port dst req tile : Nat)
    (hs : Keeps s0 s) :
    Keeps s0 (State.latchFabErr s q sub port dst req tile) := by
  unfold State.latchFabErr
  with_reducible repeat' first
      | assumption | intro _ _ _ | intro _ _ | intro _ | apply Keeps.ite | apply State.wr_keeps
      | (fail_if_no_progress refine Keeps.upd ?_ rfl rfl rfl rfl rfl rfl) | dsimp only | split
      | apply Keeps.fst (by assumption) | apply Keeps.snd (by assumption) | apply Keeps.ofSome (by assumption)

theorem State.linkFail_keeps {s0 : State} (s : State) (q sub dst req tile : Nat)
    (hs : Keeps s0 s) :
    Keeps s0 (State.linkFail s q sub dst req tile) := by
  unfold State.linkFail
  with_reducible repeat' first
      | assumption | intro _ _ _ | intro _ _ | intro _ | apply Keeps.ite | apply State.jobFault_keeps
      | apply State.latchFabErr_keeps | (fail_if_no_progress refine Keeps.upd ?_ rfl rfl rfl rfl rfl rfl) | dsimp only
      | split | apply Keeps.fst (by assumption) | apply Keeps.snd (by assumption) | apply Keeps.ofSome (by assumption)

theorem State.portFailedFault_keeps {s0 : State} (s : State) (p : Nat)
    (hs : Keeps s0 s) :
    Keeps s0 (State.portFailedFault s p) := by
  unfold State.portFailedFault
  with_reducible repeat' first
      | assumption | intro _ _ _ | intro _ _ | intro _ | apply Keeps.ite | apply State.recordOnly_keeps
      | apply State.jobFault_keeps | apply State.latchFabErr_keeps | apply Keeps.foldl | apply Keeps.foldlFst
      | (fail_if_no_progress refine Keeps.upd ?_ rfl rfl rfl rfl rfl rfl) | dsimp only | split
      | apply Keeps.fst (by assumption) | apply Keeps.snd (by assumption) | apply Keeps.ofSome (by assumption)

theorem State.dropLink_keeps {s0 : State} (s : State) (p : Nat)
    (hs : Keeps s0 s) :
    Keeps s0 (State.dropLink s p) := by
  unfold State.dropLink
  with_reducible repeat' first
      | assumption | intro _ _ _ | intro _ _ | intro _ | apply Keeps.ite | apply State.setFab_keeps
      | (fail_if_no_progress refine Keeps.upd ?_ rfl rfl rfl rfl rfl rfl) | dsimp only | split
      | apply Keeps.fst (by assumption) | apply Keeps.snd (by assumption) | apply Keeps.ofSome (by assumption)

theorem State.failPort_keeps {s0 : State} (s : State) (p cause : Nat)
    (hs : Keeps s0 s) :
    Keeps s0 (State.failPort s p cause) := by
  unfold State.failPort
  with_reducible repeat' first
      | assumption | intro _ _ _ | intro _ _ | intro _ | apply Keeps.ite | apply State.setPort_keeps
      | apply State.portFailedFault_keeps | apply State.dropLink_keeps
      | (fail_if_no_progress refine Keeps.upd ?_ rfl rfl rfl rfl rfl rfl) | dsimp only | split
      | apply Keeps.fst (by assumption) | apply Keeps.snd (by assumption) | apply Keeps.ofSome (by assumption)

theorem State.enterRetrain_keeps {s0 : State} (s : State) (p us : Nat)
    (hs : Keeps s0 s) :
    Keeps s0 (State.enterRetrain s p us) := by
  unfold State.enterRetrain
  with_reducible repeat' first
      | assumption | intro _ _ _ | intro _ _ | intro _ | apply Keeps.ite | apply State.count_keeps
      | apply State.setPort_keeps | apply State.setFab_keeps | apply State.failPort_keeps
      | (fail_if_no_progress refine Keeps.upd ?_ rfl rfl rfl rfl rfl rfl) | dsimp only | split
      | apply Keeps.fst (by assumption) | apply Keeps.snd (by assumption) | apply Keeps.ofSome (by assumption)

theorem State.settlePort_keeps {s0 : State} (s : State) (p : Nat)
    (hs : Keeps s0 s) :
    Keeps s0 (State.settlePort s p) := by
  unfold State.settlePort
  with_reducible repeat' first
      | assumption | intro _ _ _ | intro _ _ | intro _ | apply Keeps.ite | apply State.setPort_keeps
      | apply State.dropLink_keeps | (fail_if_no_progress refine Keeps.upd ?_ rfl rfl rfl rfl rfl rfl) | dsimp only
      | split | apply Keeps.fst (by assumption) | apply Keeps.snd (by assumption) | apply Keeps.ofSome (by assumption)

theorem State.closePort_keeps {s0 : State} (s : State) (p : Nat)
    (hs : Keeps s0 s) :
    Keeps s0 (State.closePort s p) := by
  unfold State.closePort
  with_reducible repeat' first
      | assumption | intro _ _ _ | intro _ _ | intro _ | apply Keeps.ite | apply State.setPort_keeps
      | apply State.dropLink_keeps | (fail_if_no_progress refine Keeps.upd ?_ rfl rfl rfl rfl rfl rfl) | dsimp only
      | split | apply Keeps.fst (by assumption) | apply Keeps.snd (by assumption) | apply Keeps.ofSome (by assumption)

theorem State.admitWide_keeps {s0 : State} (s : State) (t : Nat) (r : WideReq)
    (hs : Keeps s0 s) :
    Keeps s0 (State.admitWide s t r).1 := by
  unfold State.admitWide
  with_reducible repeat' first
      | assumption | intro _ _ _ | intro _ _ | intro _ | apply Keeps.ite | apply State.wr_keeps
      | apply State.chargeTask_keeps | apply State.chargeAccess_keeps | apply Keeps.ofId
      | (fail_if_no_progress refine Keeps.upd ?_ rfl rfl rfl rfl rfl rfl) | dsimp only | split
      | apply Keeps.fst (by assumption) | apply Keeps.snd (by assumption) | apply Keeps.ofSome (by assumption)

theorem State.admitInbound_keeps {s0 : State} (s : State) (t : Nat)
    (hs : Keeps s0 s) :
    Keeps s0 (State.admitInbound s t).1 := by
  unfold State.admitInbound
  with_reducible repeat' first
      | assumption | intro _ _ _ | intro _ _ | intro _ | apply Keeps.ite | apply State.wr_keeps
      | apply State.count_keeps | apply State.setTile_keeps | apply State.chargeAccess_keeps
      | (fail_if_no_progress refine Keeps.upd ?_ rfl rfl rfl rfl rfl rfl) | dsimp only | split
      | apply Keeps.fst (by assumption) | apply Keeps.snd (by assumption) | apply Keeps.ofSome (by assumption)

theorem State.grantWide_keeps {s0 : State} (s : State) (t : Nat) (h : HeldAccess)
    (hs : Keeps s0 s) :
    Keeps s0 (State.grantWide s t h) := by
  unfold State.grantWide
  with_reducible repeat' first
      | assumption | intro _ _ _ | intro _ _ | intro _ | apply Keeps.ite | apply State.wr_keeps
      | apply State.setPorts_keeps | apply State.chargeTask_keeps | apply State.pocketWrite_keeps
      | apply State.chargeAccess_keeps | apply State.remoteLanded_keeps | apply Keeps.ofId
      | (fail_if_no_progress refine Keeps.upd ?_ rfl rfl rfl rfl rfl rfl) | dsimp only | split
      | apply Keeps.fst (by assumption) | apply Keeps.snd (by assumption) | apply Keeps.ofSome (by assumption)

theorem State.conflict_keeps {s0 : State} (s : State) (t : Nat) (held earlier : PAccess)
    (hs : Keeps s0 s) :
    Keeps s0 (State.conflict s t held earlier).1 := by
  unfold State.conflict
  with_reducible repeat' first
      | assumption | intro _ _ _ | intro _ _ | intro _ | apply Keeps.ite | apply Keeps.getD | apply State.wr_keeps
      | apply State.setBit_keeps | apply State.count_keeps | apply State.warnTask_keeps | apply State.markStep_keeps
      | apply Keeps.foldl | apply Keeps.foldlFst | (fail_if_no_progress refine Keeps.upd ?_ rfl rfl rfl rfl rfl rfl)
      | dsimp only | split | apply Keeps.fst (by assumption) | apply Keeps.snd (by assumption)
      | apply Keeps.ofSome (by assumption)

theorem State.wideCycle_keeps {s0 : State} (s : State) (t : Nat) (as : List HeldAccess)
    (hs : Keeps s0 s) :
    Keeps s0 (State.wideCycle s t as) := by
  unfold State.wideCycle
  with_reducible repeat' first
      | assumption | intro _ _ _ | intro _ _ | intro _ | apply Keeps.ite | apply State.setPorts_keeps
      | apply State.grantWide_keeps | apply State.conflict_keeps | apply Keeps.foldl | apply Keeps.foldlFst
      | (fail_if_no_progress refine Keeps.upd ?_ rfl rfl rfl rfl rfl rfl) | dsimp only | split
      | apply Keeps.fst (by assumption) | apply Keeps.snd (by assumption) | apply Keeps.ofSome (by assumption)

theorem execPocketWideAccess_keeps {s0 : State} (t : TileId) (a0 : Option WideReq) (a1 : Option Wp1Req) (s : State)
    (hs : Keeps s0 s) :
    KeepsOut s0 (execPocketWideAccess t a0 a1 s) := by
  unfold execPocketWideAccess
  with_reducible repeat' first
      | assumption | intro _ _ _ | intro _ _ | intro _ | apply Keeps.ite | apply KeepsOut.next | apply KeepsOut.ite
      | apply State.admitWide_keeps | apply State.admitInbound_keeps | apply State.wideCycle_keeps
      | (fail_if_no_progress refine Keeps.upd ?_ rfl rfl rfl rfl rfl rfl) | dsimp only | split
      | apply Keeps.fst (by assumption) | apply Keeps.snd (by assumption) | apply Keeps.ofSome (by assumption)

theorem execHeldAccessGrant_keeps {s0 : State} (t : TileId) (s : State)
    (hs : Keeps s0 s) :
    KeepsOut s0 (execHeldAccessGrant t s) := by
  unfold execHeldAccessGrant
  with_reducible repeat' first
      | assumption | intro _ _ _ | intro _ _ | intro _ | apply Keeps.ite | apply KeepsOut.next | apply KeepsOut.ite
      | apply State.wideCycle_keeps | (fail_if_no_progress refine Keeps.upd ?_ rfl rfl rfl rfl rfl rfl) | dsimp only
      | split | apply Keeps.fst (by assumption) | apply Keeps.snd (by assumption) | apply Keeps.ofSome (by assumption)

theorem State.damage_keeps {s0 : State} (s : State) (t : Nat) (words : List Nat) (errs : List (Nat × WordErr))
    (hs : Keeps s0 s) :
    Keeps s0 (State.damage s t words errs) := by
  unfold State.damage
  with_reducible repeat' first
      | assumption | intro _ _ _ | intro _ _ | intro _ | apply Keeps.ite | apply Keeps.foldl | apply Keeps.foldlFst
      | (fail_if_no_progress refine Keeps.upd ?_ rfl rfl rfl rfl rfl rfl) | dsimp only | split
      | apply Keeps.fst (by assumption) | apply Keeps.snd (by assumption) | apply Keeps.ofSome (by assumption)

theorem execPocketReadData_keeps {s0 : State} (t : TileId) (errs : List (Nat × WordErr)) (s : State)
    (hs : Keeps s0 s) :
    KeepsOut s0 (execPocketReadData t errs s) := by
  unfold execPocketReadData
  with_reducible repeat' first
      | assumption | intro _ _ _ | intro _ _ | intro _ | apply Keeps.ite | apply KeepsOut.next | apply KeepsOut.ite
      | apply State.setPorts_keeps | apply State.chargeTask_keeps | apply State.checkWords_keeps
      | apply State.chargeAccess_keeps | apply State.remoteLanded_keeps | apply State.damage_keeps | apply Keeps.ofId
      | (fail_if_no_progress refine Keeps.upd ?_ rfl rfl rfl rfl rfl rfl) | dsimp only | split
      | apply Keeps.fst (by assumption) | apply Keeps.snd (by assumption) | apply Keeps.ofSome (by assumption)

theorem State.grantNarrow_keeps {s0 : State} (s : State) (t : Nat) (r : NarrowReq) (rest : List NarrowReq)
    (hs : Keeps s0 s) :
    Keeps s0 (State.grantNarrow s t r rest) := by
  unfold State.grantNarrow
  with_reducible repeat' first
      | assumption | intro _ _ _ | intro _ _ | intro _ | apply Keeps.ite | apply Keeps.getD | apply State.wr_keeps
      | apply State.setPorts_keeps | apply State.pocketWrite_keeps | apply State.chargeAccess_keeps
      | (fail_if_no_progress refine Keeps.upd ?_ rfl rfl rfl rfl rfl rfl) | dsimp only | split
      | apply Keeps.fst (by assumption) | apply Keeps.snd (by assumption) | apply Keeps.ofSome (by assumption)

theorem execNarrowAccess_keeps {s0 : State} (t : TileId) (s : State)
    (hs : Keeps s0 s) :
    KeepsOut s0 (execNarrowAccess t s) := by
  unfold execNarrowAccess
  with_reducible repeat' first
      | assumption | intro _ _ _ | intro _ _ | intro _ | apply Keeps.ite | apply KeepsOut.next | apply KeepsOut.ite
      | apply State.setPorts_keeps | apply State.grantNarrow_keeps
      | (fail_if_no_progress refine Keeps.upd ?_ rfl rfl rfl rfl rfl rfl) | dsimp only | split
      | apply Keeps.fst (by assumption) | apply Keeps.snd (by assumption) | apply Keeps.ofSome (by assumption)

theorem execNarrowForce_keeps {s0 : State} (t : TileId) (s : State)
    (hs : Keeps s0 s) :
    KeepsOut s0 (execNarrowForce t s) := by
  unfold execNarrowForce
  with_reducible repeat' first
      | assumption | intro _ _ _ | intro _ _ | intro _ | apply Keeps.ite | apply KeepsOut.next | apply KeepsOut.ite
      | apply State.setBit_keeps | apply State.count_keeps | apply State.grantNarrow_keeps
      | (fail_if_no_progress refine Keeps.upd ?_ rfl rfl rfl rfl rfl rfl) | dsimp only | split
      | apply Keeps.fst (by assumption) | apply Keeps.snd (by assumption) | apply Keeps.ofSome (by assumption)

theorem execCeWriteBack_keeps {s0 : State} (t : TileId) (s : State)
    (hs : Keeps s0 s) :
    KeepsOut s0 (execCeWriteBack t s) := by
  unfold execCeWriteBack
  with_reducible repeat' first
      | assumption | intro _ _ _ | intro _ _ | intro _ | apply Keeps.ite | apply KeepsOut.next | apply KeepsOut.ite
      | apply State.fixWord_keeps | (fail_if_no_progress refine Keeps.upd ?_ rfl rfl rfl rfl rfl rfl) | dsimp only
      | split | apply Keeps.fst (by assumption) | apply Keeps.snd (by assumption) | apply Keeps.ofSome (by assumption)

theorem State.scrubAdvance_keeps {s0 : State} (s : State) (t w : Nat)
    (hs : Keeps s0 s) :
    Keeps s0 (State.scrubAdvance s t w) := by
  unfold State.scrubAdvance
  with_reducible repeat' first
      | assumption | intro _ _ _ | intro _ _ | intro _ | apply Keeps.ite | apply State.wr_keeps
      | apply State.setBit_keeps | (fail_if_no_progress refine Keeps.upd ?_ rfl rfl rfl rfl rfl rfl) | dsimp only
      | split | apply Keeps.fst (by assumption) | apply Keeps.snd (by assumption) | apply Keeps.ofSome (by assumption)

theorem execScrubStep_keeps {s0 : State} (t : TileId) (err : Option WordErr) (s : State)
    (hs : Keeps s0 s) :
    KeepsOut s0 (execScrubStep t err s) := by
  unfold execScrubStep
  with_reducible repeat' first
      | assumption | intro _ _ _ | intro _ _ | intro _ | apply Keeps.ite | apply KeepsOut.next | apply KeepsOut.ite
      | apply State.wr_keeps | apply State.setBit_keeps | apply State.setTile_keeps | apply State.jobFault_keeps
      | apply State.checkWords_keeps | apply State.damage_keeps | apply State.scrubAdvance_keeps
      | (fail_if_no_progress refine Keeps.upd ?_ rfl rfl rfl rfl rfl rfl) | dsimp only | split
      | apply Keeps.fst (by assumption) | apply Keeps.snd (by assumption) | apply Keeps.ofSome (by assumption)

theorem State.zeroPocket_keeps {s0 : State} (s : State) (t off len : Nat)
    (hs : Keeps s0 s) :
    Keeps s0 (State.zeroPocket s t off len) := by
  unfold State.zeroPocket
  with_reducible repeat' first
      | assumption | intro _ _ _ | intro _ _ | intro _ | apply Keeps.ite
      | (fail_if_no_progress refine Keeps.updMem ?_ rfl ?_ ?_ ?_ rfl rfl) | exact id | apply Memory.wf_mwriteEn
      | apply Memory.wf_mwrite | apply Memory.wf_mzero | apply Memory.wf_mset | apply Memory.wf_putPage | dsimp only
      | split | apply Keeps.fst (by assumption) | apply Keeps.snd (by assumption) | apply Keeps.ofSome (by assumption)

theorem State.startWipe_keeps {s0 : State} (s : State) (t : Nat)
    (hs : Keeps s0 s) :
    Keeps s0 (State.startWipe s t) := by
  unfold State.startWipe
  with_reducible repeat' first
      | assumption | intro _ _ _ | intro _ _ | intro _ | apply Keeps.ite | apply State.setFld_keeps
      | apply State.setBit_keeps | apply State.wrBoth_keeps | apply State.setPorts_keeps
      | apply State.zeroPocket_keeps | (fail_if_no_progress refine Keeps.upd ?_ rfl rfl rfl rfl rfl rfl) | dsimp only
      | split | apply Keeps.fst (by assumption) | apply Keeps.snd (by assumption) | apply Keeps.ofSome (by assumption)

theorem execWipeDone_keeps {s0 : State} (t : TileId) (s : State)
    (hs : Keeps s0 s) :
    KeepsOut s0 (execWipeDone t s) := by
  unfold execWipeDone
  with_reducible repeat' first
      | assumption | intro _ _ _ | intro _ _ | intro _ | apply Keeps.ite | apply KeepsOut.next | apply KeepsOut.ite
      | apply State.wr_keeps | apply State.setBit_keeps | apply State.clear_keeps | apply State.zeroPocket_keeps
      | (fail_if_no_progress refine Keeps.upd ?_ rfl rfl rfl rfl rfl rfl) | dsimp only | split
      | apply Keeps.fst (by assumption) | apply Keeps.snd (by assumption) | apply Keeps.ofSome (by assumption)

theorem State.commitWoken_keeps {s0 : State} (s : State) (q : Nat)
    (hs : Keeps s0 s) :
    Keeps s0 (State.commitWoken s q) := by
  unfold State.commitWoken
  with_reducible repeat' first
      | assumption | intro _ _ _ | intro _ _ | intro _ | apply Keeps.ite | apply State.setFld_keeps
      | apply State.setSlot_keeps | (fail_if_no_progress refine Keeps.upd ?_ rfl rfl rfl rfl rfl rfl) | dsimp only
      | split | apply Keeps.fst (by assumption) | apply Keeps.snd (by assumption) | apply Keeps.ofSome (by assumption)

theorem execBankGroupWakeDone_keeps {s0 : State} (t : TileId) (g : Fin 8) (s : State)
    (hs : Keeps s0 s) :
    KeepsOut s0 (execBankGroupWakeDone t g s) := by
  unfold execBankGroupWakeDone
  with_reducible repeat' first
      | assumption | intro _ _ _ | intro _ _ | intro _ | apply Keeps.ite | apply KeepsOut.next | apply KeepsOut.ite
      | apply State.setBit_keeps | apply State.zeroPocket_keeps | apply State.commitWoken_keeps
      | (fail_if_no_progress refine Keeps.upd ?_ rfl rfl rfl rfl rfl rfl) | dsimp only | split
      | apply Keeps.fst (by assumption) | apply Keeps.snd (by assumption) | apply Keeps.ofSome (by assumption)

theorem State.accAdvance_keeps {s0 : State} (s : State) (t : Nat)
    (hs : Keeps s0 s) :
    Keeps s0 (State.accAdvance s t) := by
  unfold State.accAdvance
  with_reducible repeat' first
      | assumption | intro _ _ _ | intro _ _ | intro _ | apply Keeps.ite | apply State.wr_keeps
      | (fail_if_no_progress refine Keeps.upd ?_ rfl rfl rfl rfl rfl rfl) | dsimp only | split
      | apply Keeps.fst (by assumption) | apply Keeps.snd (by assumption) | apply Keeps.ofSome (by assumption)

theorem State.accRefused_keeps {s0 : State} (s : State) (t code off : Nat)
    (hs : Keeps s0 s) :
    Keeps s0 (State.accRefused s t code off) := by
  unfold State.accRefused
  with_reducible repeat' first
      | assumption | intro _ _ _ | intro _ _ | intro _ | apply Keeps.ite | apply State.setBit_keeps
      | apply State.pocketRecord_keeps | (fail_if_no_progress refine Keeps.upd ?_ rfl rfl rfl rfl rfl rfl)
      | dsimp only | split | apply Keeps.fst (by assumption) | apply Keeps.snd (by assumption)
      | apply Keeps.ofSome (by assumption)

theorem State.accRead_keeps {s0 : State} (s : State) (t : Nat)
    (hs : Keeps s0 s) :
    Keeps s0 (State.accRead s t).1 := by
  unfold State.accRead
  with_reducible repeat' first
      | assumption | intro _ _ _ | intro _ _ | intro _ | apply Keeps.ite | apply State.setBit_keeps
      | apply State.pocketRecord_keeps | apply State.checkWords_keeps | apply State.accAdvance_keeps
      | apply State.accRefused_keeps | (fail_if_no_progress refine Keeps.upd ?_ rfl rfl rfl rfl rfl rfl) | dsimp only
      | split | apply Keeps.fst (by assumption) | apply Keeps.snd (by assumption) | apply Keeps.ofSome (by assumption)

theorem State.accWrite_keeps {s0 : State} (s : State) (t : Nat) (v : Word)
    (hs : Keeps s0 s) :
    Keeps s0 (State.accWrite s t v) := by
  unfold State.accWrite
  with_reducible repeat' first
      | assumption | intro _ _ _ | intro _ _ | intro _ | apply Keeps.ite | apply State.pocketWrite_keeps
      | apply State.accAdvance_keeps | apply State.accRefused_keeps
      | (fail_if_no_progress refine Keeps.upd ?_ rfl rfl rfl rfl rfl rfl) | dsimp only | split
      | apply Keeps.fst (by assumption) | apply Keeps.snd (by assumption) | apply Keeps.ofSome (by assumption)

theorem execPocketAccRead_keeps {s0 : State} (t : TileId) (s : State)
    (hs : Keeps s0 s) :
    KeepsOut s0 (execPocketAccRead t s) := by
  unfold execPocketAccRead
  with_reducible repeat' first
      | assumption | intro _ _ _ | intro _ _ | intro _ | apply Keeps.ite | apply KeepsOut.next | apply KeepsOut.ite
      | apply State.accRead_keeps | (fail_if_no_progress refine Keeps.upd ?_ rfl rfl rfl rfl rfl rfl) | dsimp only
      | split | apply Keeps.fst (by assumption) | apply Keeps.snd (by assumption) | apply Keeps.ofSome (by assumption)

theorem execPocketAccWrite_keeps {s0 : State} (t : TileId) (v : Word) (s : State)
    (hs : Keeps s0 s) :
    KeepsOut s0 (execPocketAccWrite t v s) := by
  unfold execPocketAccWrite
  with_reducible repeat' first
      | assumption | intro _ _ _ | intro _ _ | intro _ | apply Keeps.ite | apply KeepsOut.next | apply KeepsOut.ite
      | apply State.ctl_keeps | apply State.accWrite_keeps
      | (fail_if_no_progress refine Keeps.upd ?_ rfl rfl rfl rfl rfl rfl) | dsimp only | split
      | apply Keeps.fst (by assumption) | apply Keeps.snd (by assumption) | apply Keeps.ofSome (by assumption)

theorem execPocketCtrClearConflict_keeps {s0 : State} (t : TileId) (s : State)
    (hs : Keeps s0 s) :
    KeepsOut s0 (execPocketCtrClearConflict t s) := by
  unfold execPocketCtrClearConflict
  with_reducible repeat' first
      | assumption | intro _ _ _ | intro _ _ | intro _ | apply Keeps.ite | apply KeepsOut.next | apply KeepsOut.ite
      | apply State.clear_keeps | apply State.ctl_keeps
      | (fail_if_no_progress refine Keeps.upd ?_ rfl rfl rfl rfl rfl rfl) | dsimp only | split
      | apply Keeps.fst (by assumption) | apply Keeps.snd (by assumption) | apply Keeps.ofSome (by assumption)

theorem execPocketCtrClearCe_keeps {s0 : State} (t : TileId) (s : State)
    (hs : Keeps s0 s) :
    KeepsOut s0 (execPocketCtrClearCe t s) := by
  unfold execPocketCtrClearCe
  with_reducible repeat' first
      | assumption | intro _ _ _ | intro _ _ | intro _ | apply Keeps.ite | apply KeepsOut.next | apply KeepsOut.ite
      | apply State.clear_keeps | apply State.ctl_keeps
      | (fail_if_no_progress refine Keeps.upd ?_ rfl rfl rfl rfl rfl rfl) | dsimp only | split
      | apply Keeps.fst (by assumption) | apply Keeps.snd (by assumption) | apply Keeps.ofSome (by assumption)

theorem execPocketCtrClearUe_keeps {s0 : State} (t : TileId) (s : State)
    (hs : Keeps s0 s) :
    KeepsOut s0 (execPocketCtrClearUe t s) := by
  unfold execPocketCtrClearUe
  with_reducible repeat' first
      | assumption | intro _ _ _ | intro _ _ | intro _ | apply Keeps.ite | apply KeepsOut.next | apply KeepsOut.ite
      | apply State.clear_keeps | apply State.ctl_keeps
      | (fail_if_no_progress refine Keeps.upd ?_ rfl rfl rfl rfl rfl rfl) | dsimp only | split
      | apply Keeps.fst (by assumption) | apply Keeps.snd (by assumption) | apply Keeps.ofSome (by assumption)

theorem execPocketCtrClearNarrow_keeps {s0 : State} (t : TileId) (s : State)
    (hs : Keeps s0 s) :
    KeepsOut s0 (execPocketCtrClearNarrow t s) := by
  unfold execPocketCtrClearNarrow
  with_reducible repeat' first
      | assumption | intro _ _ _ | intro _ _ | intro _ | apply Keeps.ite | apply KeepsOut.next | apply KeepsOut.ite
      | apply State.clear_keeps | apply State.ctl_keeps
      | (fail_if_no_progress refine Keeps.upd ?_ rfl rfl rfl rfl rfl rfl) | dsimp only | split
      | apply Keeps.fst (by assumption) | apply Keeps.snd (by assumption) | apply Keeps.ofSome (by assumption)

theorem State.setPanelClk_keeps {s0 : State} (s : State) (p : Nat) (c : PanelClk)
    (hs : Keeps s0 s) :
    Keeps s0 (State.setPanelClk s p c) := by
  unfold State.setPanelClk
  with_reducible repeat' first
      | assumption | intro _ _ _ | intro _ _ | intro _ | apply Keeps.ite
      | (fail_if_no_progress refine Keeps.upd ?_ rfl rfl rfl rfl rfl rfl) | dsimp only | split
      | apply Keeps.fst (by assumption) | apply Keeps.snd (by assumption) | apply Keeps.ofSome (by assumption)

theorem State.beginPoint_keeps {s0 : State} (s : State) (p i : Nat)
    (hs : Keeps s0 s) :
    Keeps s0 (State.beginPoint s p i) := by
  unfold State.beginPoint
  with_reducible repeat' first
      | assumption | intro _ _ _ | intro _ _ | intro _ | apply Keeps.ite | apply State.setBit_keeps
      | apply State.setPanelClk_keeps | (fail_if_no_progress refine Keeps.upd ?_ rfl rfl rfl rfl rfl rfl) | dsimp only
      | split | apply Keeps.fst (by assumption) | apply Keeps.snd (by assumption) | apply Keeps.ofSome (by assumption)

theorem State.selectPoint_keeps {s0 : State} (s : State) (p i : Nat)
    (hs : Keeps s0 s) :
    Keeps s0 (State.selectPoint s p i) := by
  unfold State.selectPoint
  with_reducible repeat' first
      | assumption | intro _ _ _ | intro _ _ | intro _ | apply Keeps.ite | apply State.setFld_keeps
      | apply State.setPanelClk_keeps | apply State.beginPoint_keeps
      | (fail_if_no_progress refine Keeps.upd ?_ rfl rfl rfl rfl rfl rfl) | dsimp only | split
      | apply Keeps.fst (by assumption) | apply Keeps.snd (by assumption) | apply Keeps.ofSome (by assumption)

theorem State.endPoint_keeps {s0 : State} (s : State) (p : Nat)
    (hs : Keeps s0 s) :
    Keeps s0 (State.endPoint s p) := by
  unfold State.endPoint
  with_reducible repeat' first
      | assumption | intro _ _ _ | intro _ _ | intro _ | apply Keeps.ite | apply State.setBit_keeps
      | apply State.count_keeps | apply State.setPanelClk_keeps | apply State.beginPoint_keeps
      | (fail_if_no_progress refine Keeps.upd ?_ rfl rfl rfl rfl rfl rfl) | dsimp only | split
      | apply Keeps.fst (by assumption) | apply Keeps.snd (by assumption) | apply Keeps.ofSome (by assumption)

theorem State.domainOff_keeps {s0 : State} (s : State) (d : Nat)
    (hs : Keeps s0 s) :
    Keeps s0 (State.domainOff s d) := by
  unfold State.domainOff
  with_reducible repeat' first
      | assumption | intro _ _ _ | intro _ _ | intro _ | apply Keeps.ite | apply State.setFld_keeps
      | apply State.setBit_keeps | apply State.forget_keeps | apply State.settlePort_keeps
      | apply State.zeroPocket_keeps | apply Keeps.foldl | apply Keeps.foldlFst
      | (fail_if_no_progress refine Keeps.upd ?_ rfl rfl rfl rfl rfl rfl) | dsimp only | split
      | apply Keeps.fst (by assumption) | apply Keeps.snd (by assumption) | apply Keeps.ofSome (by assumption)

theorem State.wakeDomain_keeps {s0 : State} (s : State) (d : Nat)
    (hs : Keeps s0 s) :
    Keeps s0 (State.wakeDomain s d) := by
  unfold State.wakeDomain
  with_reducible repeat' first
      | assumption | intro _ _ _ | intro _ _ | intro _ | apply Keeps.ite | apply State.setBit_keeps
      | (fail_if_no_progress refine Keeps.upd ?_ rfl rfl rfl rfl rfl rfl) | dsimp only | split
      | apply Keeps.fst (by assumption) | apply Keeps.snd (by assumption) | apply Keeps.ofSome (by assumption)

theorem State.wakeDomains_keeps {s0 : State} (s : State) (ds : List Nat)
    (hs : Keeps s0 s) :
    Keeps s0 (State.wakeDomains s ds) := by
  unfold State.wakeDomains
  with_reducible repeat' first
      | assumption | intro _ _ _ | intro _ _ | intro _ | apply Keeps.ite | apply State.wakeDomain_keeps
      | apply Keeps.foldl | apply Keeps.foldlFst | (fail_if_no_progress refine Keeps.upd ?_ rfl rfl rfl rfl rfl rfl)
      | dsimp only | split | apply Keeps.fst (by assumption) | apply Keeps.snd (by assumption)
      | apply Keeps.ofSome (by assumption)

theorem State.domainsOff_keeps {s0 : State} (s : State) (ds : List Nat)
    (hs : Keeps s0 s) :
    Keeps s0 (State.domainsOff s ds) := by
  unfold State.domainsOff
  with_reducible repeat' first
      | assumption | intro _ _ _ | intro _ _ | intro _ | apply Keeps.ite | apply State.domainOff_keeps
      | apply Keeps.foldl | apply Keeps.foldlFst | (fail_if_no_progress refine Keeps.upd ?_ rfl rfl rfl rfl rfl rfl)
      | dsimp only | split | apply Keeps.fst (by assumption) | apply Keeps.snd (by assumption)
      | apply Keeps.ofSome (by assumption)

theorem State.domainUp_keeps {s0 : State} (s : State) (d : Nat)
    (hs : Keeps s0 s) :
    Keeps s0 (State.domainUp s d) := by
  unfold State.domainUp
  with_reducible repeat' first
      | assumption | intro _ _ _ | intro _ _ | intro _ | apply Keeps.ite | apply State.setFld_keeps
      | apply State.setBit_keeps | apply State.settlePort_keeps | apply Keeps.foldl | apply Keeps.foldlFst
      | (fail_if_no_progress refine Keeps.upd ?_ rfl rfl rfl rfl rfl rfl) | dsimp only | split
      | apply Keeps.fst (by assumption) | apply Keeps.snd (by assumption) | apply Keeps.ofSome (by assumption)

theorem State.settlePanels_keeps {s0 : State} (s : State)
    (hs : Keeps s0 s) :
    Keeps s0 (State.settlePanels s) := by
  unfold State.settlePanels
  with_reducible repeat' first
      | assumption | intro _ _ _ | intro _ _ | intro _ | apply Keeps.ite | apply State.domainsOff_keeps
      | apply Keeps.foldl | apply Keeps.foldlFst | (fail_if_no_progress refine Keeps.upd ?_ rfl rfl rfl rfl rfl rfl)
      | dsimp only | split | apply Keeps.fst (by assumption) | apply Keeps.snd (by assumption)
      | apply Keeps.ofSome (by assumption)

theorem State.leaveIdle_keeps {s0 : State} (s : State)
    (hs : Keeps s0 s) :
    Keeps s0 (State.leaveIdle s) := by
  unfold State.leaveIdle
  with_reducible repeat' first
      | assumption | intro _ _ _ | intro _ _ | intro _ | apply Keeps.ite | apply State.wr_keeps
      | apply State.setBit_keeps | apply State.wakeDomains_keeps
      | (fail_if_no_progress refine Keeps.upd ?_ rfl rfl rfl rfl rfl rfl) | dsimp only | split
      | apply Keeps.fst (by assumption) | apply Keeps.snd (by assumption) | apply Keeps.ofSome (by assumption)

theorem State.put_keeps {s0 : State} (s : State) (a v : Nat)
    (hs : Keeps s0 s) :
    Keeps s0 (State.put s a v) := by
  unfold State.put
  with_reducible repeat' first
      | assumption | intro _ _ _ | intro _ _ | intro _ | apply Keeps.ite | apply State.wr_keeps
      | apply State.wrBoth_keeps | (fail_if_no_progress refine Keeps.upd ?_ rfl rfl rfl rfl rfl rfl) | dsimp only
      | split | apply Keeps.fst (by assumption) | apply Keeps.snd (by assumption) | apply Keeps.ofSome (by assumption)

theorem State.putAll_keeps {s0 : State} (s : State) (ws : List (Nat × Nat))
    (hs : Keeps s0 s) :
    Keeps s0 (State.putAll s ws) := by
  unfold State.putAll
  with_reducible repeat' first
      | assumption | intro _ _ _ | intro _ _ | intro _ | apply Keeps.ite | apply State.put_keeps | apply Keeps.foldl
      | apply Keeps.foldlFst | (fail_if_no_progress refine Keeps.upd ?_ rfl rfl rfl rfl rfl rfl) | dsimp only | split
      | apply Keeps.fst (by assumption) | apply Keeps.snd (by assumption) | apply Keeps.ofSome (by assumption)

theorem State.withImage_keeps {s0 : State} (s : State) (q : Nat) (b : Image)
    (hs : Keeps s0 s) :
    Keeps s0 (State.withImage s q b) := by
  unfold State.withImage
  with_reducible repeat' first
      | assumption | intro _ _ _ | intro _ _ | intro _ | apply Keeps.ite | apply State.setSlot_keeps
      | apply State.putAll_keeps | (fail_if_no_progress refine Keeps.upd ?_ rfl rfl rfl rfl rfl rfl) | dsimp only
      | split | apply Keeps.fst (by assumption) | apply Keeps.snd (by assumption) | apply Keeps.ofSome (by assumption)

theorem State.dropInsts_keeps {s0 : State} (s : State) (ts : List Nat)
    (hs : Keeps s0 s) :
    Keeps s0 (State.dropInsts s ts) := by
  unfold State.dropInsts
  with_reducible repeat' first
      | assumption | intro _ _ _ | intro _ _ | intro _ | apply Keeps.ite | apply State.refreshYoke_keeps
      | apply Keeps.foldl | apply Keeps.foldlFst | (fail_if_no_progress refine Keeps.upd ?_ rfl rfl rfl rfl rfl rfl)
      | dsimp only | split | apply Keeps.fst (by assumption) | apply Keeps.snd (by assumption)
      | apply Keeps.ofSome (by assumption)

theorem State.closeWindows_keeps {s0 : State} (s : State) (t : Nat)
    (hs : Keeps s0 s) :
    Keeps s0 (State.closeWindows s t) := by
  unfold State.closeWindows
  with_reducible repeat' first
      | assumption | intro _ _ _ | intro _ _ | intro _ | apply Keeps.ite | apply State.setFld_keeps
      | apply State.setTile_keeps | apply State.refreshCredits_keeps | apply State.closeWindow_keeps
      | apply Keeps.foldl | apply Keeps.foldlFst | (fail_if_no_progress refine Keeps.upd ?_ rfl rfl rfl rfl rfl rfl)
      | dsimp only | split | apply Keeps.fst (by assumption) | apply Keeps.snd (by assumption)
      | apply Keeps.ofSome (by assumption)

theorem State.emptyPlacket_keeps {s0 : State} (s : State) (t : Nat)
    (hs : Keeps s0 s) :
    Keeps s0 (State.emptyPlacket s t) := by
  unfold State.emptyPlacket
  with_reducible repeat' first
      | assumption | intro _ _ _ | intro _ _ | intro _ | apply Keeps.ite | apply State.wr_keeps
      | apply State.setTile_keeps | apply State.refreshQ_keeps | apply Keeps.foldl | apply Keeps.foldlFst
      | (fail_if_no_progress refine Keeps.upd ?_ rfl rfl rfl rfl rfl rfl) | dsimp only | split
      | apply Keeps.fst (by assumption) | apply Keeps.snd (by assumption) | apply Keeps.ofSome (by assumption)

theorem State.emptySb_keeps {s0 : State} (s : State) (t : Nat)
    (hs : Keeps s0 s) :
    Keeps s0 (State.emptySb s t) := by
  unfold State.emptySb
  with_reducible repeat' first
      | assumption | intro _ _ _ | intro _ _ | intro _ | apply Keeps.ite | apply State.wr_keeps
      | apply State.refreshSb_keeps | apply Keeps.foldl | apply Keeps.foldlFst
      | (fail_if_no_progress refine Keeps.upd ?_ rfl rfl rfl rfl rfl rfl) | dsimp only | split
      | apply Keeps.fst (by assumption) | apply Keeps.snd (by assumption) | apply Keeps.ofSome (by assumption)

theorem State.tileReset_keeps {s0 : State} (s : State) (t : Nat)
    (hs : Keeps s0 s) :
    Keeps s0 (State.tileReset s t) := by
  unfold State.tileReset
  with_reducible repeat' first
      | assumption | intro _ _ _ | intro _ _ | intro _ | apply Keeps.ite | apply State.wr_keeps
      | apply State.setTile_keeps | apply State.forget_keeps | apply State.orphanLocksOf_keeps
      | apply State.withdraw_keeps | apply State.dropInsts_keeps | apply State.closeWindows_keeps
      | apply State.emptyPlacket_keeps | apply State.emptySb_keeps | apply Keeps.foldl | apply Keeps.foldlFst
      | (fail_if_no_progress refine Keeps.upd ?_ rfl rfl rfl rfl rfl rfl) | dsimp only | split
      | apply Keeps.fst (by assumption) | apply Keeps.snd (by assumption) | apply Keeps.ofSome (by assumption)

theorem State.freeLocks_keeps {s0 : State} (s : State) (q : Nat)
    (hs : Keeps s0 s) :
    Keeps s0 (State.freeLocks s q) := by
  unfold State.freeLocks
  with_reducible repeat' first
      | assumption | intro _ _ _ | intro _ _ | intro _ | apply Keeps.ite | apply State.wr_keeps
      | apply State.setWaiters_keeps | apply Keeps.foldl | apply Keeps.foldlFst
      | (fail_if_no_progress refine Keeps.upd ?_ rfl rfl rfl rfl rfl rfl) | dsimp only | split
      | apply Keeps.fst (by assumption) | apply Keeps.snd (by assumption) | apply Keeps.ofSome (by assumption)

theorem State.stopPartition_keeps {s0 : State} (s : State) (q : Nat)
    (hs : Keeps s0 s) :
    Keeps s0 (State.stopPartition s q) := by
  unfold State.stopPartition
  with_reducible repeat' first
      | assumption | intro _ _ _ | intro _ _ | intro _ | apply Keeps.ite | apply State.tileReset_keeps
      | apply State.freeLocks_keeps | apply Keeps.foldl | apply Keeps.foldlFst
      | (fail_if_no_progress refine Keeps.upd ?_ rfl rfl rfl rfl rfl rfl) | dsimp only | split
      | apply Keeps.fst (by assumption) | apply Keeps.snd (by assumption) | apply Keeps.ofSome (by assumption)

theorem State.endCommit_keeps {s0 : State} (s : State) (q reason : Nat)
    (hs : Keeps s0 s) :
    Keeps s0 (State.endCommit s q reason) := by
  unfold State.endCommit
  with_reducible repeat' first
      | assumption | intro _ _ _ | intro _ _ | intro _ | apply Keeps.ite | apply State.setFld_keeps
      | apply State.setSlot_keeps | (fail_if_no_progress refine Keeps.upd ?_ rfl rfl rfl rfl rfl rfl) | dsimp only
      | split | apply Keeps.fst (by assumption) | apply Keeps.snd (by assumption) | apply Keeps.ofSome (by assumption)

theorem State.zeroHbm_keeps {s0 : State} (s : State) (b n : Nat)
    (hs : Keeps s0 s) :
    Keeps s0 (State.zeroHbm s b n) := by
  unfold State.zeroHbm
  with_reducible repeat' first
      | assumption | intro _ _ _ | intro _ _ | intro _ | apply Keeps.ite
      | (fail_if_no_progress refine Keeps.updMem ?_ rfl ?_ ?_ ?_ rfl rfl) | exact id | apply Memory.wf_mwriteEn
      | apply Memory.wf_mwrite | apply Memory.wf_mzero | apply Memory.wf_mset | apply Memory.wf_putPage | dsimp only
      | split | apply Keeps.fst (by assumption) | apply Keeps.snd (by assumption) | apply Keeps.ofSome (by assumption)

theorem State.beginPartReset_keeps {s0 : State} (s : State) (q : Nat)
    (hs : Keeps s0 s) :
    Keeps s0 (State.beginPartReset s q) := by
  unfold State.beginPartReset
  with_reducible repeat' first
      | assumption | intro _ _ _ | intro _ _ | intro _ | apply Keeps.ite | apply State.wr_keeps
      | apply State.setFld_keeps | apply State.setTile_keeps | apply State.setSlot_keeps | apply State.forget_keeps
      | apply State.startWipe_keeps | apply State.stopPartition_keeps | apply State.endCommit_keeps
      | apply State.zeroHbm_keeps | apply Keeps.foldl | apply Keeps.foldlFst
      | (fail_if_no_progress refine Keeps.upd ?_ rfl rfl rfl rfl rfl rfl) | dsimp only | split
      | apply Keeps.fst (by assumption) | apply Keeps.snd (by assumption) | apply Keeps.ofSome (by assumption)

theorem State.putCommitCtrl_keeps {s0 : State} (s : State) (q : Nat) (v : Word)
    (hs : Keeps s0 s) :
    Keeps s0 (State.putCommitCtrl s q v) := by
  unfold State.putCommitCtrl
  with_reducible repeat' first
      | assumption | intro _ _ _ | intro _ _ | intro _ | apply Keeps.ite | apply State.wr_keeps
      | (fail_if_no_progress refine Keeps.upd ?_ rfl rfl rfl rfl rfl rfl) | dsimp only | split
      | apply Keeps.fst (by assumption) | apply Keeps.snd (by assumption) | apply Keeps.ofSome (by assumption)

theorem State.commitGo_keeps {s0 : State} (s : State) (q : Nat) (v : Word)
    (hs : Keeps s0 s) :
    Keeps s0 (State.commitGo s q v) := by
  unfold State.commitGo
  with_reducible repeat' first
      | assumption | intro _ _ _ | intro _ _ | intro _ | apply Keeps.ite | apply State.setFld_keeps
      | apply State.setBit_keeps | apply State.setSlot_keeps | apply State.putCommitCtrl_keeps
      | (fail_if_no_progress refine Keeps.upd ?_ rfl rfl rfl rfl rfl rfl) | dsimp only | split
      | apply Keeps.fst (by assumption) | apply Keeps.snd (by assumption) | apply Keeps.ofSome (by assumption)

theorem State.commitAbort_keeps {s0 : State} (s : State) (q : Nat)
    (hs : Keeps s0 s) :
    Keeps s0 (State.commitAbort s q) := by
  unfold State.commitAbort
  with_reducible repeat' first
      | assumption | intro _ _ _ | intro _ _ | intro _ | apply Keeps.ite | apply State.setFld_keeps
      | (fail_if_no_progress refine Keeps.upd ?_ rfl rfl rfl rfl rfl rfl) | dsimp only | split
      | apply Keeps.fst (by assumption) | apply Keeps.snd (by assumption) | apply Keeps.ofSome (by assumption)

theorem State.writeCommitCtrl_keeps {s0 : State} (s : State) (q : Nat) (v : Word)
    (hs : Keeps s0 s) :
    Keeps s0 (State.writeCommitCtrl s q v) := by
  unfold State.writeCommitCtrl
  with_reducible repeat' first
      | assumption | intro _ _ _ | intro _ _ | intro _ | apply Keeps.ite | apply State.putCommitCtrl_keeps
      | apply State.commitGo_keeps | apply State.commitAbort_keeps
      | (fail_if_no_progress refine Keeps.upd ?_ rfl rfl rfl rfl rfl rfl) | dsimp only | split
      | apply Keeps.fst (by assumption) | apply Keeps.snd (by assumption) | apply Keeps.ofSome (by assumption)

theorem execStructCommitGo_keeps {s0 : State} (q : PartId) (v : Word) (s : State)
    (hs : Keeps s0 s) :
    KeepsOut s0 (execStructCommitGo q v s) := by
  unfold execStructCommitGo
  with_reducible repeat' first
      | assumption | intro _ _ _ | intro _ _ | intro _ | apply Keeps.ite | apply KeepsOut.next | apply KeepsOut.ite
      | apply State.writeCommitCtrl_keeps | (fail_if_no_progress refine Keeps.upd ?_ rfl rfl rfl rfl rfl rfl)
      | dsimp only | split | apply Keeps.fst (by assumption) | apply Keeps.snd (by assumption)
      | apply Keeps.ofSome (by assumption)

theorem execStructCommitAbort_keeps {s0 : State} (q : PartId) (v : Word) (s : State)
    (hs : Keeps s0 s) :
    KeepsOut s0 (execStructCommitAbort q v s) := by
  unfold execStructCommitAbort
  with_reducible repeat' first
      | assumption | intro _ _ _ | intro _ _ | intro _ | apply Keeps.ite | apply KeepsOut.next | apply KeepsOut.ite
      | apply State.writeCommitCtrl_keeps | (fail_if_no_progress refine Keeps.upd ?_ rfl rfl rfl rfl rfl rfl)
      | dsimp only | split | apply Keeps.fst (by assumption) | apply Keeps.snd (by assumption)
      | apply Keeps.ofSome (by assumption)

theorem State.applyPower_keeps {s0 : State} (s : State) (t : Nat)
    (hs : Keeps s0 s) :
    Keeps s0 (State.applyPower s t) := by
  unfold State.applyPower
  with_reducible repeat' first
      | assumption | intro _ _ _ | intro _ _ | intro _ | apply Keeps.ite | apply State.setBit_keeps
      | apply State.zeroPocket_keeps | apply Keeps.foldl | apply Keeps.foldlFst
      | (fail_if_no_progress refine Keeps.upd ?_ rfl rfl rfl rfl rfl rfl) | dsimp only | split
      | apply Keeps.fst (by assumption) | apply Keeps.snd (by assumption) | apply Keeps.ofSome (by assumption)

theorem State.afterGroups_keeps {s0 : State} (s : State) (q mask : Nat)
    (hs : Keeps s0 s) :
    Keeps s0 (State.afterGroups s q mask) := by
  unfold State.afterGroups
  with_reducible repeat' first
      | assumption | intro _ _ _ | intro _ _ | intro _ | apply Keeps.ite | apply State.refreshModes_keeps
      | apply State.applyPower_keeps | apply Keeps.foldl | apply Keeps.foldlFst
      | (fail_if_no_progress refine Keeps.upd ?_ rfl rfl rfl rfl rfl rfl) | dsimp only | split
      | apply Keeps.fst (by assumption) | apply Keeps.snd (by assumption) | apply Keeps.ofSome (by assumption)

theorem State.applyCommit_keeps {s0 : State} (s : State) (q step : Nat)
    (hs : Keeps s0 s) :
    Keeps s0 (State.applyCommit s q step) := by
  unfold State.applyCommit
  with_reducible repeat' first
      | assumption | intro _ _ _ | intro _ _ | intro _ | apply Keeps.ite | apply State.wr_keeps
      | apply State.setFld_keeps | apply State.setSlot_keeps | apply State.withGroups_keeps
      | apply State.commitWoken_keeps | apply State.afterGroups_keeps
      | (fail_if_no_progress refine Keeps.upd ?_ rfl rfl rfl rfl rfl rfl) | dsimp only | split
      | apply Keeps.fst (by assumption) | apply Keeps.snd (by assumption) | apply Keeps.ofSome (by assumption)

theorem execGroupCommitApply_keeps {s0 : State} (q : PartId) (s : State)
    (hs : Keeps s0 s) :
    KeepsOut s0 (execGroupCommitApply q s) := by
  unfold execGroupCommitApply
  with_reducible repeat' first
      | assumption | intro _ _ _ | intro _ _ | intro _ | apply Keeps.ite | apply KeepsOut.next | apply KeepsOut.ite
      | apply State.applyCommit_keeps | (fail_if_no_progress refine Keeps.upd ?_ rfl rfl rfl rfl rfl rfl) | dsimp only
      | split | apply Keeps.fst (by assumption) | apply Keeps.snd (by assumption) | apply Keeps.ofSome (by assumption)

theorem execStructStageDataRead_keeps {s0 : State} (s : State)
    (hs : Keeps s0 s) :
    KeepsOut s0 (execStructStageDataRead s) := by
  unfold execStructStageDataRead
  with_reducible repeat' first
      | assumption | intro _ _ _ | intro _ _ | intro _ | apply Keeps.ite | apply KeepsOut.next | apply KeepsOut.ite
      | (fail_if_no_progress refine Keeps.upd ?_ rfl rfl rfl rfl rfl rfl) | dsimp only | split
      | apply Keeps.fst (by assumption) | apply Keeps.snd (by assumption) | apply Keeps.ofSome (by assumption)

theorem State.setLoad_keeps {s0 : State} (s : State) (st reason sec sig : Nat)
    (hs : Keeps s0 s) :
    Keeps s0 (State.setLoad s st reason sec sig) := by
  unfold State.setLoad
  with_reducible repeat' first
      | assumption | intro _ _ _ | intro _ _ | intro _ | apply Keeps.ite | apply State.setFld_keeps
      | (fail_if_no_progress refine Keeps.upd ?_ rfl rfl rfl rfl rfl rfl) | dsimp only | split
      | apply Keeps.fst (by assumption) | apply Keeps.snd (by assumption) | apply Keeps.ofSome (by assumption)

theorem State.clearShortfall_keeps {s0 : State} (s : State)
    (hs : Keeps s0 s) :
    Keeps s0 (State.clearShortfall s) := by
  unfold State.clearShortfall
  with_reducible repeat' first
      | assumption | intro _ _ _ | intro _ _ | intro _ | apply Keeps.ite | apply State.clear_keeps
      | (fail_if_no_progress refine Keeps.upd ?_ rfl rfl rfl rfl rfl rfl) | dsimp only | split
      | apply Keeps.fst (by assumption) | apply Keeps.snd (by assumption) | apply Keeps.ofSome (by assumption)

theorem State.startLoad_keeps {s0 : State} (s : State) (q : Nat)
    (hs : Keeps s0 s) :
    Keeps s0 (State.startLoad s q) := by
  unfold State.startLoad
  with_reducible repeat' first
      | assumption | intro _ _ _ | intro _ _ | intro _ | apply Keeps.ite | apply State.setFld_keeps
      | apply State.setSlot_keeps | apply State.setLoad_keeps
      | (fail_if_no_progress refine Keeps.upd ?_ rfl rfl rfl rfl rfl rfl) | dsimp only | split
      | apply Keeps.fst (by assumption) | apply Keeps.snd (by assumption) | apply Keeps.ofSome (by assumption)

theorem State.writeStart_keeps {s0 : State} (s : State) (q : Nat)
    (hs : Keeps s0 s) :
    Keeps s0 (State.writeStart s q) := by
  unfold State.writeStart
  with_reducible repeat' first
      | assumption | intro _ _ _ | intro _ _ | intro _ | apply Keeps.ite | apply State.setFld_keeps
      | apply State.setBit_keeps | apply State.startLoad_keeps
      | (fail_if_no_progress refine Keeps.upd ?_ rfl rfl rfl rfl rfl rfl) | dsimp only | split
      | apply Keeps.fst (by assumption) | apply Keeps.snd (by assumption) | apply Keeps.ofSome (by assumption)

theorem State.endLoad_keeps {s0 : State} (s : State)
    (hs : Keeps s0 s) :
    Keeps s0 (State.endLoad s) := by
  unfold State.endLoad
  with_reducible repeat' first
      | assumption | intro _ _ _ | intro _ _ | intro _ | apply Keeps.ite | apply State.settlePanels_keeps
      | (fail_if_no_progress refine Keeps.upd ?_ rfl rfl rfl rfl rfl rfl) | dsimp only | split
      | apply Keeps.fst (by assumption) | apply Keeps.snd (by assumption) | apply Keeps.ofSome (by assumption)

theorem State.refuseLoad_keeps {s0 : State} (s : State) (l : Load) (reason sec off : Nat) (busy : Bool)
    (hs : Keeps s0 s) :
    Keeps s0 (State.refuseLoad s l reason sec off busy) := by
  unfold State.refuseLoad
  with_reducible repeat' first
      | assumption | intro _ _ _ | intro _ _ | intro _ | apply Keeps.ite | apply State.setFld_keeps
      | apply State.wr64_keeps | apply State.setSlot_keeps | apply State.pushRec_keeps | apply State.setFault_keeps
      | apply State.setLoad_keeps | apply State.endLoad_keeps
      | (fail_if_no_progress refine Keeps.upd ?_ rfl rfl rfl rfl rfl rfl) | dsimp only | split
      | apply Keeps.fst (by assumption) | apply Keeps.snd (by assumption) | apply Keeps.ofSome (by assumption)

theorem State.rejectLoad_keeps {s0 : State} (s : State) (l : Load) (b : Image) (r : Rej)
    (hs : Keeps s0 s) :
    Keeps s0 (State.rejectLoad s l b r) := by
  unfold State.rejectLoad
  with_reducible repeat' first
      | assumption | intro _ _ _ | intro _ _ | intro _ | apply Keeps.ite | apply State.wr_keeps
      | apply State.clearShortfall_keeps | apply State.refuseLoad_keeps | apply Keeps.foldl | apply Keeps.foldlFst
      | (fail_if_no_progress refine Keeps.upd ?_ rfl rfl rfl rfl rfl rfl) | dsimp only | split
      | apply Keeps.fst (by assumption) | apply Keeps.snd (by assumption) | apply Keeps.ofSome (by assumption)

theorem State.passLoad_keeps {s0 : State} (s : State) (l : Load) (b : Image) (commits : List CommitRec)
    (hs : Keeps s0 s) :
    Keeps s0 (State.passLoad s l b commits) := by
  unfold State.passLoad
  with_reducible repeat' first
      | assumption | intro _ _ _ | intro _ _ | intro _ | apply Keeps.ite | apply State.beginPartReset_keeps
      | apply State.setLoad_keeps | apply State.clearShortfall_keeps
      | (fail_if_no_progress refine Keeps.upd ?_ rfl rfl rfl rfl rfl rfl) | dsimp only | split
      | apply Keeps.fst (by assumption) | apply Keeps.snd (by assumption) | apply Keeps.ofSome (by assumption)

theorem State.initialPoints_keeps {s0 : State} (s : State) (q : Nat) (b : Image)
    (hs : Keeps s0 s) :
    Keeps s0 (State.initialPoints s q b) := by
  unfold State.initialPoints
  with_reducible repeat' first
      | assumption | intro _ _ _ | intro _ _ | intro _ | apply Keeps.ite | apply State.selectPoint_keeps
      | apply Keeps.foldl | apply Keeps.foldlFst | (fail_if_no_progress refine Keeps.upd ?_ rfl rfl rfl rfl rfl rfl)
      | dsimp only | split | apply Keeps.fst (by assumption) | apply Keeps.snd (by assumption)
      | apply Keeps.ofSome (by assumption)

theorem State.applyFields_keeps {s0 : State} (s : State) (q : Nat) (b : Image)
    (hs : Keeps s0 s) :
    Keeps s0 (State.applyFields s q b) := by
  unfold State.applyFields
  with_reducible repeat' first
      | assumption | intro _ _ _ | intro _ _ | intro _ | apply Keeps.ite | apply State.setSlot_keeps
      | apply State.withImage_keeps | apply State.afterGroups_keeps | apply State.initialPoints_keeps
      | (fail_if_no_progress refine Keeps.upd ?_ rfl rfl rfl rfl rfl rfl) | dsimp only | split
      | apply Keeps.fst (by assumption) | apply Keeps.snd (by assumption) | apply Keeps.ofSome (by assumption)

theorem State.placeData_keeps {s0 : State} (s : State) (d : Image)
    (hs : Keeps s0 s) :
    Keeps s0 (State.placeData s d) := by
  unfold State.placeData
  with_reducible repeat' first
      | assumption | intro _ _ _ | intro _ _ | intro _ | apply Keeps.ite | apply State.pocketWrite_keeps
      | apply State.hbmWrite_keeps | (fail_if_no_progress refine Keeps.upd ?_ rfl rfl rfl rfl rfl rfl) | dsimp only
      | split | apply Keeps.fst (by assumption) | apply Keeps.snd (by assumption) | apply Keeps.ofSome (by assumption)

theorem State.placeBodies_keeps {s0 : State} (s : State) (b : Image) (restore : Bool)
    (hs : Keeps s0 s) :
    Keeps s0 (State.placeBodies s b restore) := by
  unfold State.placeBodies
  with_reducible repeat' first
      | assumption | intro _ _ _ | intro _ _ | intro _ | apply Keeps.ite | apply State.wr_keeps
      | apply State.placeData_keeps | apply Keeps.foldl | apply Keeps.foldlFst
      | (fail_if_no_progress refine Keeps.upd ?_ rfl rfl rfl rfl rfl rfl) | dsimp only | split
      | apply Keeps.fst (by assumption) | apply Keeps.snd (by assumption) | apply Keeps.ofSome (by assumption)

theorem State.applyCommits_keeps {s0 : State} (s : State) (cs : List CommitRec)
    (hs : Keeps s0 s) :
    Keeps s0 (State.applyCommits s cs) := by
  unfold State.applyCommits
  with_reducible repeat' first
      | assumption | intro _ _ _ | intro _ _ | intro _ | apply Keeps.ite | apply State.wrBoth_keeps
      | apply Keeps.foldl | apply Keeps.foldlFst | (fail_if_no_progress refine Keeps.upd ?_ rfl rfl rfl rfl rfl rfl)
      | dsimp only | split | apply Keeps.fst (by assumption) | apply Keeps.snd (by assumption)
      | apply Keeps.ofSome (by assumption)

theorem State.openWindows_keeps {s0 : State} (s : State) (b : Image) (keepEpoch : Bool)
    (hs : Keeps s0 s) :
    Keeps s0 (State.openWindows s b keepEpoch) := by
  unfold State.openWindows
  with_reducible repeat' first
      | assumption | intro _ _ _ | intro _ _ | intro _ | apply Keeps.ite | apply State.setFld_keeps
      | apply Keeps.foldl | apply Keeps.foldlFst | (fail_if_no_progress refine Keeps.upd ?_ rfl rfl rfl rfl rfl rfl)
      | dsimp only | split | apply Keeps.fst (by assumption) | apply Keeps.snd (by assumption)
      | apply Keeps.ofSome (by assumption)

theorem State.freeW_keeps {s0 : State} (s : State)
    (hs : Keeps s0 s) :
    Keeps s0 (State.freeW s).2 := by
  unfold State.freeW
  with_reducible repeat' first
      | assumption | intro _ _ _ | intro _ _ | intro _ | apply Keeps.ite
      | (fail_if_no_progress refine Keeps.upd ?_ rfl rfl rfl rfl rfl rfl) | dsimp only | split
      | apply Keeps.fst (by assumption) | apply Keeps.snd (by assumption) | apply Keeps.ofSome (by assumption)

theorem State.hostStore_keeps {s0 : State} (s : State) (a : Nat) (bytes : List Byte)
    (hs : Keeps s0 s) :
    Keeps s0 (State.hostStore s a bytes) := by
  unfold State.hostStore
  with_reducible repeat' first
      | assumption | intro _ _ _ | intro _ _ | intro _ | apply Keeps.ite
      | (fail_if_no_progress refine Keeps.updMem ?_ rfl ?_ ?_ ?_ rfl rfl) | exact id | apply Memory.wf_mwriteEn
      | apply Memory.wf_mwrite | apply Memory.wf_mzero | apply Memory.wf_mset | apply Memory.wf_putPage | dsimp only
      | split | apply Keeps.fst (by assumption) | apply Keeps.snd (by assumption) | apply Keeps.ofSome (by assumption)

theorem State.latchHostErr_keeps {s0 : State} (s : State) (ring kind status : Nat)
    (hs : Keeps s0 s) :
    Keeps s0 (State.latchHostErr s ring kind status) := by
  unfold State.latchHostErr
  with_reducible repeat' first
      | assumption | intro _ _ _ | intro _ _ | intro _ | apply Keeps.ite | apply State.wr_keeps
      | (fail_if_no_progress refine Keeps.upd ?_ rfl rfl rfl rfl rfl rfl) | dsimp only | split
      | apply Keeps.fst (by assumption) | apply Keeps.snd (by assumption) | apply Keeps.ofSome (by assumption)

theorem State.latchRingErr_keeps {s0 : State} (s : State) (q ring kind status : Nat)
    (hs : Keeps s0 s) :
    Keeps s0 (State.latchRingErr s q ring kind status) := by
  unfold State.latchRingErr
  with_reducible repeat' first
      | assumption | intro _ _ _ | intro _ _ | intro _ | apply Keeps.ite | apply State.wr_keeps
      | (fail_if_no_progress refine Keeps.upd ?_ rfl rfl rfl rfl rfl rfl) | dsimp only | split
      | apply Keeps.fst (by assumption) | apply Keeps.snd (by assumption) | apply Keeps.ofSome (by assumption)

theorem State.hostRecord_keeps {s0 : State} (s : State) (part : Option Nat) (ctx : Nat)
    (hs : Keeps s0 s) :
    Keeps s0 (State.hostRecord s part ctx) := by
  unfold State.hostRecord
  with_reducible repeat' first
      | assumption | intro _ _ _ | intro _ _ | intro _ | apply Keeps.ite | apply State.recordOnly_keeps
      | (fail_if_no_progress refine Keeps.upd ?_ rfl rfl rfl rfl rfl rfl) | dsimp only | split
      | apply Keeps.fst (by assumption) | apply Keeps.snd (by assumption) | apply Keeps.ofSome (by assumption)

theorem State.ringFails_keeps {s0 : State} (s : State) (r : HostReq) (status : Nat)
    (hs : Keeps s0 s) :
    Keeps s0 (State.ringFails s r status) := by
  unfold State.ringFails
  with_reducible repeat' first
      | assumption | intro _ _ _ | intro _ _ | intro _ | apply Keeps.ite | apply State.setBit_keeps
      | apply State.latchHostErr_keeps | apply State.latchRingErr_keeps | apply State.hostRecord_keeps
      | (fail_if_no_progress refine Keeps.upd ?_ rfl rfl rfl rfl rfl rfl) | dsimp only | split
      | apply Keeps.fst (by assumption) | apply Keeps.snd (by assumption) | apply Keeps.ofSome (by assumption)

theorem State.countEntry_keeps {s0 : State} (s : State) (q : Nat) (e : List Byte)
    (hs : Keeps s0 s) :
    Keeps s0 (State.countEntry s q e) := by
  unfold State.countEntry
  with_reducible repeat' first
      | assumption | intro _ _ _ | intro _ _ | intro _ | apply Keeps.ite | apply State.setSlot_keeps
      | (fail_if_no_progress refine Keeps.upd ?_ rfl rfl rfl rfl rfl rfl) | dsimp only | split
      | apply Keeps.fst (by assumption) | apply Keeps.snd (by assumption) | apply Keeps.ofSome (by assumption)

theorem State.flushGo_keeps {s0 : State} (s : State) (q : Nat) (z0 : List (List Byte))
    (hs : Keeps s0 s) :
    Keeps s0 (State.flushGo s q z0) := by
  unfold State.flushGo
  with_reducible repeat' first
      | assumption | intro _ _ _ | intro _ _ | intro _ | apply Keeps.ite | apply State.setSlot_keeps
      | apply State.hostStore_keeps | apply State.countEntry_keeps | apply State.flushGo_keeps
      | (fail_if_no_progress refine Keeps.upd ?_ rfl rfl rfl rfl rfl rfl) | dsimp only | split
      | apply Keeps.fst (by assumption) | apply Keeps.snd (by assumption) | apply Keeps.ofSome (by assumption)

theorem State.flushOut_keeps {s0 : State} (s : State) (q : Nat)
    (hs : Keeps s0 s) :
    Keeps s0 (State.flushOut s q) := by
  unfold State.flushOut
  with_reducible repeat' first
      | assumption | intro _ _ _ | intro _ _ | intro _ | apply Keeps.ite | apply State.flushGo_keeps
      | (fail_if_no_progress refine Keeps.upd ?_ rfl rfl rfl rfl rfl rfl) | dsimp only | split
      | apply Keeps.fst (by assumption) | apply Keeps.snd (by assumption) | apply Keeps.ofSome (by assumption)

theorem State.output_keeps {s0 : State} (s : State) (q : Nat) (es : List (List Byte))
    (hs : Keeps s0 s) :
    Keeps s0 (State.output s q es) := by
  unfold State.output
  with_reducible repeat' first
      | assumption | intro _ _ _ | intro _ _ | intro _ | apply Keeps.ite | apply State.setSlot_keeps
      | apply State.flushOut_keeps | (fail_if_no_progress refine Keeps.upd ?_ rfl rfl rfl rfl rfl rfl) | dsimp only
      | split | apply Keeps.fst (by assumption) | apply Keeps.snd (by assumption) | apply Keeps.ofSome (by assumption)

theorem State.collarRead_keeps {s0 : State} (s : State) (q a n : Nat)
    (hs : Keeps s0 s) :
    Keeps s0 (State.collarRead s q a n).1 := by
  unfold State.collarRead
  with_reducible repeat' first
      | assumption | intro _ _ _ | intro _ _ | intro _ | apply Keeps.ite | apply State.jobFault_keeps
      | apply State.pocketRead_keeps | apply State.hbmRead_keeps
      | (fail_if_no_progress refine Keeps.upd ?_ rfl rfl rfl rfl rfl rfl) | dsimp only | split
      | apply Keeps.fst (by assumption) | apply Keeps.snd (by assumption) | apply Keeps.ofSome (by assumption)

theorem State.collarWrite_keeps {s0 : State} (s : State) (a : Nat) (bytes : List Byte)
    (hs : Keeps s0 s) :
    Keeps s0 (State.collarWrite s a bytes) := by
  unfold State.collarWrite
  with_reducible repeat' first
      | assumption | intro _ _ _ | intro _ _ | intro _ | apply Keeps.ite | apply State.pocketWrite_keeps
      | apply State.hbmWrite_keeps | (fail_if_no_progress refine Keeps.upd ?_ rfl rfl rfl rfl rfl rfl) | dsimp only
      | split | apply Keeps.fst (by assumption) | apply Keeps.snd (by assumption) | apply Keeps.ofSome (by assumption)

theorem State.putPair_keeps {s0 : State} (s : State) (d : TDesc) (r c : Nat) (x : Int)
    (hs : Keeps s0 s) :
    Keeps s0 (State.putPair s d r c x) := by
  unfold State.putPair
  with_reducible repeat' first
      | assumption | intro _ _ _ | intro _ _ | intro _ | apply Keeps.ite | apply State.collarWrite_keeps
      | (fail_if_no_progress refine Keeps.upd ?_ rfl rfl rfl rfl rfl rfl) | dsimp only | split
      | apply Keeps.fst (by assumption) | apply Keeps.snd (by assumption) | apply Keeps.ofSome (by assumption)

theorem State.endEntry_keeps {s0 : State} (s : State) (q key pos reason : Nat)
    (hs : Keeps s0 s) :
    Keeps s0 (State.endEntry s q key pos reason) := by
  unfold State.endEntry
  with_reducible repeat' first
      | assumption | intro _ _ _ | intro _ _ | intro _ | apply Keeps.ite | apply State.freeW_keeps
      | apply State.output_keeps | (fail_if_no_progress refine Keeps.upd ?_ rfl rfl rfl rfl rfl rfl) | dsimp only
      | split | apply Keeps.fst (by assumption) | apply Keeps.snd (by assumption) | apply Keeps.ofSome (by assumption)

theorem State.cancelSeq_keeps {s0 : State} (s : State) (q key : Nat)
    (hs : Keeps s0 s) :
    Keeps s0 (State.cancelSeq s q key) := by
  unfold State.cancelSeq
  with_reducible repeat' first
      | assumption | intro _ _ _ | intro _ _ | intro _ | apply Keeps.ite | apply State.setSlot_keeps
      | apply State.freeW_keeps | apply State.endEntry_keeps
      | (fail_if_no_progress refine Keeps.upd ?_ rfl rfl rfl rfl rfl rfl) | dsimp only | split
      | apply Keeps.fst (by assumption) | apply Keeps.snd (by assumption) | apply Keeps.ofSome (by assumption)

theorem State.applyAdmissions_keeps {s0 : State} (s : State) (q : Nat)
    (hs : Keeps s0 s) :
    Keeps s0 (State.applyAdmissions s q) := by
  unfold State.applyAdmissions
  with_reducible repeat' first
      | assumption | intro _ _ _ | intro _ _ | intro _ | apply Keeps.ite | apply State.setSlot_keeps
      | apply State.cancelSeq_keeps | apply Keeps.foldl | apply Keeps.foldlFst
      | (fail_if_no_progress refine Keeps.upd ?_ rfl rfl rfl rfl rfl rfl) | dsimp only | split
      | apply Keeps.fst (by assumption) | apply Keeps.snd (by assumption) | apply Keeps.ofSome (by assumption)

theorem State.tokenText_keeps {s0 : State} (s : State) (q tok : Nat) (x : Svc)
    (hs : Keeps s0 s) :
    Keeps s0 (State.tokenText s q tok x).1 := by
  unfold State.tokenText
  with_reducible repeat' first
      | assumption | intro _ _ _ | intro _ _ | intro _ | apply Keeps.ite | apply State.recordOnly_keeps
      | apply State.freeW_keeps | apply State.collarRead_keeps
      | (fail_if_no_progress refine Keeps.upd ?_ rfl rfl rfl rfl rfl rfl) | dsimp only | split
      | apply Keeps.fst (by assumption) | apply Keeps.snd (by assumption) | apply Keeps.ofSome (by assumption)

theorem State.logits_keeps {s0 : State} (s : State) (q r : Nat) (x : Svc)
    (hs : Keeps s0 s) :
    Keeps s0 (State.logits s q r x).1 := by
  unfold State.logits
  with_reducible repeat' first
      | assumption | intro _ _ _ | intro _ _ | intro _ | apply Keeps.ite | apply State.collarRead_keeps
      | (fail_if_no_progress refine Keeps.upd ?_ rfl rfl rfl rfl rfl rfl) | dsimp only | split
      | apply Keeps.fst (by assumption) | apply Keeps.snd (by assumption) | apply Keeps.ofSome (by assumption)

theorem State.drawRow_keeps {s0 : State} (s : State) (q r : Nat) (row : BatchRow)
    (hs : Keeps s0 s) :
    Keeps s0 (State.drawRow s q r row) := by
  unfold State.drawRow
  with_reducible repeat' first
      | assumption | intro _ _ _ | intro _ _ | intro _ | apply Keeps.ite | apply State.setSlot_keeps
      | apply State.freeW_keeps | apply State.output_keeps | apply State.tokenText_keeps | apply State.logits_keeps
      | (fail_if_no_progress refine Keeps.upd ?_ rfl rfl rfl rfl rfl rfl) | dsimp only | split
      | apply Keeps.fst (by assumption) | apply Keeps.snd (by assumption) | apply Keeps.ofSome (by assumption)

theorem State.writeTensors_keeps {s0 : State} (s : State) (q : Nat) (x : Svc)
    (hs : Keeps s0 s) :
    Keeps s0 (State.writeTensors s q x) := by
  unfold State.writeTensors
  with_reducible repeat' first
      | assumption | intro _ _ _ | intro _ _ | intro _ | apply Keeps.ite | apply Keeps.getD | apply State.freeW_keeps
      | apply State.putPair_keeps | apply Keeps.foldl | apply Keeps.foldlFst
      | (fail_if_no_progress refine Keeps.upd ?_ rfl rfl rfl rfl rfl rfl) | dsimp only | split
      | apply Keeps.fst (by assumption) | apply Keeps.snd (by assumption) | apply Keeps.ofSome (by assumption)

theorem State.serveStep_keeps {s0 : State} (s : State) (q : Nat)
    (hs : Keeps s0 s) :
    Keeps s0 (State.serveStep s q) := by
  unfold State.serveStep
  with_reducible repeat' first
      | assumption | intro _ _ _ | intro _ _ | intro _ | apply Keeps.ite | apply State.setSlot_keeps
      | apply State.drawRow_keeps | apply State.writeTensors_keeps | apply Keeps.foldl | apply Keeps.foldlFst
      | (fail_if_no_progress refine Keeps.upd ?_ rfl rfl rfl rfl rfl rfl) | dsimp only | split
      | apply Keeps.fst (by assumption) | apply Keeps.snd (by assumption) | apply Keeps.ofSome (by assumption)

theorem State.writePartial_keeps {s0 : State} (s : State) (q : Nat)
    (hs : Keeps s0 s) :
    Keeps s0 (State.writePartial s q) := by
  unfold State.writePartial
  with_reducible repeat' first
      | assumption | intro _ _ _ | intro _ _ | intro _ | apply Keeps.ite | apply Keeps.getD
      | apply State.setSlot_keeps | apply State.collarRead_keeps | apply State.collarWrite_keeps | apply Keeps.foldl
      | apply Keeps.foldlFst | (fail_if_no_progress refine Keeps.upd ?_ rfl rfl rfl rfl rfl rfl) | dsimp only | split
      | apply Keeps.fst (by assumption) | apply Keeps.snd (by assumption) | apply Keeps.ofSome (by assumption)

theorem State.setPktsAt_keeps {s0 : State} (s : State) (place : PktAt) (l : List Packet)
    (hs : Keeps s0 s) :
    Keeps s0 (State.setPktsAt s place l) := by
  unfold State.setPktsAt
  with_reducible repeat' first
      | assumption | intro _ _ _ | intro _ _ | intro _ | apply Keeps.ite | apply State.setFab_keeps
      | (fail_if_no_progress refine Keeps.upd ?_ rfl rfl rfl rfl rfl rfl) | dsimp only | split
      | apply Keeps.fst (by assumption) | apply Keeps.snd (by assumption) | apply Keeps.ofSome (by assumption)

theorem State.onPacket_keeps {s0 : State} (s : State) (place : PktAt) (want : Packet → Bool) (deliver : Packet → State → State)
    (hs : Keeps s0 s) (hdeliver : ∀ (x0 : Packet) (x1 : State), Keeps s0 x1 → Keeps s0 (deliver x0 x1)) :
    Keeps s0 (State.onPacket s place want deliver) := by
  unfold State.onPacket
  with_reducible repeat' first
      | assumption | intro _ _ _ | intro _ _ | intro _ | apply Keeps.ite | apply State.forward_keeps | apply State.dropPacket_keeps
      | apply State.setPktsAt_keeps | apply hdeliver
      | (fail_if_no_progress refine Keeps.upd ?_ rfl rfl rfl rfl rfl rfl) | dsimp only | split
      | apply Keeps.fst (by assumption) | apply Keeps.snd (by assumption) | apply Keeps.ofSome (by assumption)

theorem State.remoteHbm_keeps {s0 : State} (s : State) (q : Nat) (p : Packet)
    (hs : Keeps s0 s) :
    Keeps s0 (State.remoteHbm s q p) := by
  unfold State.remoteHbm
  with_reducible repeat' first
      | assumption | intro _ _ _ | intro _ _ | intro _ | apply Keeps.ite | apply State.answer_keeps
      | apply State.beforeImage_keeps | apply State.hbmWrite_keeps | apply State.hbmRead_keeps | apply Keeps.foldl
      | apply Keeps.foldlFst | (fail_if_no_progress refine Keeps.upd ?_ rfl rfl rfl rfl rfl rfl) | dsimp only | split
      | apply Keeps.fst (by assumption) | apply Keeps.snd (by assumption) | apply Keeps.ofSome (by assumption)

theorem State.takeRequest_keeps {s0 : State} (s : State) (p : Packet)
    (hs : Keeps s0 s) :
    Keeps s0 (State.takeRequest s p) := by
  unfold State.takeRequest
  with_reducible repeat' first
      | assumption | intro _ _ _ | intro _ _ | intro _ | apply Keeps.ite | apply State.answer_keeps
      | apply State.remoteHbm_keeps | (fail_if_no_progress refine Keeps.upd ?_ rfl rfl rfl rfl rfl rfl) | dsimp only
      | split | apply Keeps.fst (by assumption) | apply Keeps.snd (by assumption) | apply Keeps.ofSome (by assumption)

theorem execRead_keeps {s0 : State} (place : PktAt) (s : State)
    (hs : Keeps s0 s) :
    KeepsOut s0 (execRead place s) := by
  unfold execRead
  with_reducible repeat' first
      | assumption | intro _ _ _ | intro _ _ | intro _ | apply Keeps.ite | apply KeepsOut.next | apply KeepsOut.ite
      | apply State.onPacket_keeps | apply State.takeRequest_keeps
      | (fail_if_no_progress refine Keeps.upd ?_ rfl rfl rfl rfl rfl rfl) | dsimp only | split
      | apply Keeps.fst (by assumption) | apply Keeps.snd (by assumption) | apply Keeps.ofSome (by assumption)

theorem execWrite_keeps {s0 : State} (place : PktAt) (s : State)
    (hs : Keeps s0 s) :
    KeepsOut s0 (execWrite place s) := by
  unfold execWrite
  with_reducible repeat' first
      | assumption | intro _ _ _ | intro _ _ | intro _ | apply Keeps.ite | apply KeepsOut.next | apply KeepsOut.ite
      | apply State.onPacket_keeps | apply State.takeRequest_keeps
      | (fail_if_no_progress refine Keeps.upd ?_ rfl rfl rfl rfl rfl rfl) | dsimp only | split
      | apply Keeps.fst (by assumption) | apply Keeps.snd (by assumption) | apply Keeps.ofSome (by assumption)

theorem execAccumulate_keeps {s0 : State} (place : PktAt) (s : State)
    (hs : Keeps s0 s) :
    KeepsOut s0 (execAccumulate place s) := by
  unfold execAccumulate
  with_reducible repeat' first
      | assumption | intro _ _ _ | intro _ _ | intro _ | apply Keeps.ite | apply KeepsOut.next | apply KeepsOut.ite
      | apply State.onPacket_keeps | apply State.takeRequest_keeps
      | (fail_if_no_progress refine Keeps.upd ?_ rfl rfl rfl rfl rfl rfl) | dsimp only | split
      | apply Keeps.fst (by assumption) | apply Keeps.snd (by assumption) | apply Keeps.ofSome (by assumption)

theorem State.takeAnswer_keeps {s0 : State} (s : State) (p : Packet)
    (hs : Keeps s0 s) :
    Keeps s0 (State.takeAnswer s p) := by
  unfold State.takeAnswer
  with_reducible repeat' first
      | assumption | intro _ _ _ | intro _ _ | intro _ | apply Keeps.ite | apply State.count_keeps
      | apply State.linkFail_keeps | (fail_if_no_progress refine Keeps.upd ?_ rfl rfl rfl rfl rfl rfl) | dsimp only
      | split | apply Keeps.fst (by assumption) | apply Keeps.snd (by assumption) | apply Keeps.ofSome (by assumption)

theorem State.pageAnswered_keeps {s0 : State} (s : State) (p : Packet)
    (hs : Keeps s0 s) :
    Keeps s0 (State.pageAnswered s p) := by
  unfold State.pageAnswered
  with_reducible repeat' first
      | assumption | intro _ _ _ | intro _ _ | intro _ | apply Keeps.ite | apply State.setSlot_keeps
      | apply State.mirrorFail_keeps | apply State.takeAnswer_keeps
      | (fail_if_no_progress refine Keeps.upd ?_ rfl rfl rfl rfl rfl rfl) | dsimp only | split
      | apply Keeps.fst (by assumption) | apply Keeps.snd (by assumption) | apply Keeps.ofSome (by assumption)

theorem execReadData_keeps {s0 : State} (place : PktAt) (s : State)
    (hs : Keeps s0 s) :
    KeepsOut s0 (execReadData place s) := by
  unfold execReadData
  with_reducible repeat' first
      | assumption | intro _ _ _ | intro _ _ | intro _ | apply Keeps.ite | apply KeepsOut.next | apply KeepsOut.ite
      | apply State.onPacket_keeps | apply State.takeAnswer_keeps
      | (fail_if_no_progress refine Keeps.upd ?_ rfl rfl rfl rfl rfl rfl) | dsimp only | split
      | apply Keeps.fst (by assumption) | apply Keeps.snd (by assumption) | apply Keeps.ofSome (by assumption)

theorem execRefuse_keeps {s0 : State} (place : PktAt) (s : State)
    (hs : Keeps s0 s) :
    KeepsOut s0 (execRefuse place s) := by
  unfold execRefuse
  with_reducible repeat' first
      | assumption | intro _ _ _ | intro _ _ | intro _ | apply Keeps.ite | apply KeepsOut.next | apply KeepsOut.ite
      | apply State.onPacket_keeps | apply State.pageAnswered_keeps
      | (fail_if_no_progress refine Keeps.upd ?_ rfl rfl rfl rfl rfl rfl) | dsimp only | split
      | apply Keeps.fst (by assumption) | apply Keeps.snd (by assumption) | apply Keeps.ofSome (by assumption)

theorem execRequestTimeout_keeps {s0 : State} (txn : Nat) (s : State)
    (hs : Keeps s0 s) :
    KeepsOut s0 (execRequestTimeout txn s) := by
  unfold execRequestTimeout
  with_reducible repeat' first
      | assumption | intro _ _ _ | intro _ _ | intro _ | apply Keeps.ite | apply KeepsOut.next | apply KeepsOut.ite
      | apply State.count_keeps | apply State.linkFail_keeps
      | (fail_if_no_progress refine Keeps.upd ?_ rfl rfl rfl rfl rfl rfl) | dsimp only | split
      | apply Keeps.fst (by assumption) | apply Keeps.snd (by assumption) | apply Keeps.ofSome (by assumption)

theorem State.enablePort_keeps {s0 : State} (s : State) (p : Nat) (b : Bool)
    (hs : Keeps s0 s) :
    Keeps s0 (State.enablePort s p b) := by
  unfold State.enablePort
  with_reducible repeat' first
      | assumption | intro _ _ _ | intro _ _ | intro _ | apply Keeps.ite | apply State.setBit_keeps
      | apply State.settlePort_keeps | (fail_if_no_progress refine Keeps.upd ?_ rfl rfl rfl rfl rfl rfl) | dsimp only
      | split | apply Keeps.fst (by assumption) | apply Keeps.snd (by assumption) | apply Keeps.ofSome (by assumption)

theorem execFabPortEnable_keeps {s0 : State} (p : PortId) (b : Bool) (s : State)
    (hs : Keeps s0 s) :
    KeepsOut s0 (execFabPortEnable p b s) := by
  unfold execFabPortEnable
  with_reducible repeat' first
      | assumption | intro _ _ _ | intro _ _ | intro _ | apply Keeps.ite | apply KeepsOut.next | apply KeepsOut.ite
      | apply State.enablePort_keeps | (fail_if_no_progress refine Keeps.upd ?_ rfl rfl rfl rfl rfl rfl) | dsimp only
      | split | apply Keeps.fst (by assumption) | apply Keeps.snd (by assumption) | apply Keeps.ofSome (by assumption)

theorem execFabPortRetrain_keeps {s0 : State} (p : PortId) (us : Nat) (s : State)
    (hs : Keeps s0 s) :
    KeepsOut s0 (execFabPortRetrain p us s) := by
  unfold execFabPortRetrain
  with_reducible repeat' first
      | assumption | intro _ _ _ | intro _ _ | intro _ | apply Keeps.ite | apply KeepsOut.next | apply KeepsOut.ite
      | apply State.enterRetrain_keeps | (fail_if_no_progress refine Keeps.upd ?_ rfl rfl rfl rfl rfl rfl)
      | dsimp only | split | apply Keeps.fst (by assumption) | apply Keeps.snd (by assumption)
      | apply Keeps.ofSome (by assumption)

theorem execLinkTrainingStart_keeps {s0 : State} (p : PortId) (s : State)
    (hs : Keeps s0 s) :
    KeepsOut s0 (execLinkTrainingStart p s) := by
  unfold execLinkTrainingStart
  with_reducible repeat' first
      | assumption | intro _ _ _ | intro _ _ | intro _ | apply Keeps.ite | apply KeepsOut.next | apply KeepsOut.ite
      | apply State.wr_keeps | apply State.setPort_keeps | apply State.dropLink_keeps
      | (fail_if_no_progress refine Keeps.upd ?_ rfl rfl rfl rfl rfl rfl) | dsimp only | split
      | apply Keeps.fst (by assumption) | apply Keeps.snd (by assumption) | apply Keeps.ofSome (by assumption)

theorem State.trained_keeps {s0 : State} (s : State) (p : Nat)
    (hs : Keeps s0 s) :
    Keeps s0 (State.trained s p) := by
  unfold State.trained
  with_reducible repeat' first
      | assumption | intro _ _ _ | intro _ _ | intro _ | apply Keeps.ite | apply State.setFld_keeps
      | apply State.setPort_keeps | apply State.pump_keeps | apply State.failPort_keeps | apply Keeps.ofId
      | (fail_if_no_progress refine Keeps.upd ?_ rfl rfl rfl rfl rfl rfl) | dsimp only | split
      | apply Keeps.fst (by assumption) | apply Keeps.snd (by assumption) | apply Keeps.ofSome (by assumption)

theorem execLaneLockTimeout_keeps {s0 : State} (p : PortId) (lanes : BitVec 16) (s : State)
    (hs : Keeps s0 s) :
    KeepsOut s0 (execLaneLockTimeout p lanes s) := by
  unfold execLaneLockTimeout
  with_reducible repeat' first
      | assumption | intro _ _ _ | intro _ _ | intro _ | apply Keeps.ite | apply KeepsOut.next | apply KeepsOut.ite
      | apply State.setFld_keeps | apply State.failPort_keeps
      | (fail_if_no_progress refine Keeps.upd ?_ rfl rfl rfl rfl rfl rfl) | dsimp only | split
      | apply Keeps.fst (by assumption) | apply Keeps.snd (by assumption) | apply Keeps.ofSome (by assumption)

theorem execLaneLockLoss_keeps {s0 : State} (p : PortId) (lane : Fin 16) (us : Nat) (s : State)
    (hs : Keeps s0 s) :
    KeepsOut s0 (execLaneLockLoss p lane us s) := by
  unfold execLaneLockLoss
  with_reducible repeat' first
      | assumption | intro _ _ _ | intro _ _ | intro _ | apply Keeps.ite | apply KeepsOut.next | apply KeepsOut.ite
      | apply State.setBit_keeps | apply State.enterRetrain_keeps
      | (fail_if_no_progress refine Keeps.upd ?_ rfl rfl rfl rfl rfl rfl) | dsimp only | split
      | apply Keeps.fst (by assumption) | apply Keeps.snd (by assumption) | apply Keeps.ofSome (by assumption)

theorem execRetrainDone_keeps {s0 : State} (p : PortId) (s : State)
    (hs : Keeps s0 s) :
    KeepsOut s0 (execRetrainDone p s) := by
  unfold execRetrainDone
  with_reducible repeat' first
      | assumption | intro _ _ _ | intro _ _ | intro _ | apply Keeps.ite | apply KeepsOut.next | apply KeepsOut.ite
      | apply State.setFld_keeps | apply State.setPort_keeps | apply State.pump_keeps
      | (fail_if_no_progress refine Keeps.upd ?_ rfl rfl rfl rfl rfl rfl) | dsimp only | split
      | apply Keeps.fst (by assumption) | apply Keeps.snd (by assumption) | apply Keeps.ofSome (by assumption)

theorem execRetrainTimeout_keeps {s0 : State} (p : PortId) (s : State)
    (hs : Keeps s0 s) :
    KeepsOut s0 (execRetrainTimeout p s) := by
  unfold execRetrainTimeout
  with_reducible repeat' first
      | assumption | intro _ _ _ | intro _ _ | intro _ | apply Keeps.ite | apply KeepsOut.next | apply KeepsOut.ite
      | apply State.failPort_keeps | (fail_if_no_progress refine Keeps.upd ?_ rfl rfl rfl rfl rfl rfl) | dsimp only
      | split | apply Keeps.fst (by assumption) | apply Keeps.snd (by assumption) | apply Keeps.ofSome (by assumption)

theorem execPeerOrderlyClose_keeps {s0 : State} (p : PortId) (s : State)
    (hs : Keeps s0 s) :
    KeepsOut s0 (execPeerOrderlyClose p s) := by
  unfold execPeerOrderlyClose
  with_reducible repeat' first
      | assumption | intro _ _ _ | intro _ _ | intro _ | apply Keeps.ite | apply KeepsOut.next | apply KeepsOut.ite
      | apply State.setPort_keeps | apply State.dropLink_keeps
      | (fail_if_no_progress refine Keeps.upd ?_ rfl rfl rfl rfl rfl rfl) | dsimp only | split
      | apply Keeps.fst (by assumption) | apply Keeps.snd (by assumption) | apply Keeps.ofSome (by assumption)

theorem State.flitBack_keeps {s0 : State} (s : State) (p : Nat) (f : Flit)
    (hs : Keeps s0 s) :
    Keeps s0 (State.flitBack s p f) := by
  unfold State.flitBack
  with_reducible repeat' first
      | assumption | intro _ _ _ | intro _ _ | intro _ | apply Keeps.ite | apply State.setFab_keeps
      | apply State.pump_keeps | (fail_if_no_progress refine Keeps.upd ?_ rfl rfl rfl rfl rfl rfl) | dsimp only
      | split | apply Keeps.fst (by assumption) | apply Keeps.snd (by assumption) | apply Keeps.ofSome (by assumption)

theorem execFlitData_keeps {s0 : State} (p : PortId) (f : Flit) (s : State)
    (hs : Keeps s0 s) :
    KeepsOut s0 (execFlitData p f s) := by
  unfold execFlitData
  with_reducible repeat' first
      | assumption | intro _ _ _ | intro _ _ | intro _ | apply Keeps.ite | apply KeepsOut.next | apply KeepsOut.ite
      | apply State.count_keeps | apply State.setFab_keeps | apply State.passUnknown_keeps
      | apply State.flitBack_keeps | apply Keeps.foldl | apply Keeps.foldlFst
      | (fail_if_no_progress refine Keeps.upd ?_ rfl rfl rfl rfl rfl rfl) | dsimp only | split
      | apply Keeps.fst (by assumption) | apply Keeps.snd (by assumption) | apply Keeps.ofSome (by assumption)

theorem execFlitIdle_keeps {s0 : State} (p : PortId) (f : Flit) (s : State)
    (hs : Keeps s0 s) :
    KeepsOut s0 (execFlitIdle p f s) := by
  unfold execFlitIdle
  with_reducible repeat' first
      | assumption | intro _ _ _ | intro _ _ | intro _ | apply Keeps.ite | apply KeepsOut.next | apply KeepsOut.ite
      | apply State.count_keeps | apply State.flitBack_keeps
      | (fail_if_no_progress refine Keeps.upd ?_ rfl rfl rfl rfl rfl rfl) | dsimp only | split
      | apply Keeps.fst (by assumption) | apply Keeps.snd (by assumption) | apply Keeps.ofSome (by assumption)

theorem execFlitNak_keeps {s0 : State} (p : PortId) (f : Flit) (us : Nat) (s : State)
    (hs : Keeps s0 s) :
    KeepsOut s0 (execFlitNak p f us s) := by
  unfold execFlitNak
  with_reducible repeat' first
      | assumption | intro _ _ _ | intro _ _ | intro _ | apply Keeps.ite | apply KeepsOut.next | apply KeepsOut.ite
      | apply State.count_keeps | apply State.setFab_keeps | apply State.pump_keeps | apply State.enterRetrain_keeps
      | (fail_if_no_progress refine Keeps.upd ?_ rfl rfl rfl rfl rfl rfl) | dsimp only | split
      | apply Keeps.fst (by assumption) | apply Keeps.snd (by assumption) | apply Keeps.ofSome (by assumption)

theorem execFlitTrain_keeps {s0 : State} (p : PortId) (id : Fin 2048) (coll mir : BitVec 16) (s : State)
    (hs : Keeps s0 s) :
    KeepsOut s0 (execFlitTrain p id coll mir s) := by
  unfold execFlitTrain
  with_reducible repeat' first
      | assumption | intro _ _ _ | intro _ _ | intro _ | apply Keeps.ite | apply KeepsOut.next | apply KeepsOut.ite
      | apply State.wr_keeps | apply State.setFld_keeps | apply State.setFab_keeps | apply Keeps.ofId
      | (fail_if_no_progress refine Keeps.upd ?_ rfl rfl rfl rfl rfl rfl) | dsimp only | split
      | apply Keeps.fst (by assumption) | apply Keeps.snd (by assumption) | apply Keeps.ofSome (by assumption)

theorem State.writeModuleId_keeps {s0 : State} (s : State) (v : Word)
    (hs : Keeps s0 s) :
    Keeps s0 (State.writeModuleId s v) := by
  unfold State.writeModuleId
  with_reducible repeat' first
      | assumption | intro _ _ _ | intro _ _ | intro _ | apply Keeps.ite | apply State.setFld_keeps
      | apply State.setBit_keeps | (fail_if_no_progress refine Keeps.upd ?_ rfl rfl rfl rfl rfl rfl) | dsimp only
      | split | apply Keeps.fst (by assumption) | apply Keeps.snd (by assumption) | apply Keeps.ofSome (by assumption)

theorem execFabModuleIdWrite_keeps {s0 : State} (v : Word) (s : State)
    (hs : Keeps s0 s) :
    KeepsOut s0 (execFabModuleIdWrite v s) := by
  unfold execFabModuleIdWrite
  with_reducible repeat' first
      | assumption | intro _ _ _ | intro _ _ | intro _ | apply Keeps.ite | apply KeepsOut.next | apply KeepsOut.ite
      | apply State.writeModuleId_keeps | (fail_if_no_progress refine Keeps.upd ?_ rfl rfl rfl rfl rfl rfl)
      | dsimp only | split | apply Keeps.fst (by assumption) | apply Keeps.snd (by assumption)
      | apply Keeps.ofSome (by assumption)

theorem execFabPortCtrClear_keeps {s0 : State} (p : PortId) (s : State)
    (hs : Keeps s0 s) :
    KeepsOut s0 (execFabPortCtrClear p s) := by
  unfold execFabPortCtrClear
  with_reducible repeat' first
      | assumption | intro _ _ _ | intro _ _ | intro _ | apply Keeps.ite | apply KeepsOut.next | apply KeepsOut.ite
      | apply State.clear_keeps | (fail_if_no_progress refine Keeps.upd ?_ rfl rfl rfl rfl rfl rfl) | dsimp only
      | split | apply Keeps.fst (by assumption) | apply Keeps.snd (by assumption) | apply Keeps.ofSome (by assumption)

theorem execFabCtrClear_keeps {s0 : State} (s : State)
    (hs : Keeps s0 s) :
    KeepsOut s0 (execFabCtrClear s) := by
  unfold execFabCtrClear
  with_reducible repeat' first
      | assumption | intro _ _ _ | intro _ _ | intro _ | apply Keeps.ite | apply KeepsOut.next | apply KeepsOut.ite
      | apply State.clear_keeps | (fail_if_no_progress refine Keeps.upd ?_ rfl rfl rfl rfl rfl rfl) | dsimp only
      | split | apply Keeps.fst (by assumption) | apply Keeps.snd (by assumption) | apply Keeps.ofSome (by assumption)

end Sys2Proof.Machine
end

