-- ==== Sys2Proof/Laws/KeepsMirror.lean ====
section
/-! SUPPORT. One lemma for each operation of the mirror, the host interface, power and boot: whatever it does, it keeps the queue, the canonical form of
the byte memories, and the fuses. -/

set_option linter.unusedTactic false
set_option linter.unreachableTactic false
set_option linter.unusedVariables false

namespace Sys2Proof.Machine

theorem State.setMirror_keeps {s0 : State} (s : State) (q v : Nat)
    (hs : Keeps s0 s) :
    Keeps s0 (State.setMirror s q v) := by
  unfold State.setMirror
  with_reducible repeat' first
      | assumption | intro _ _ _ | intro _ _ | intro _ | apply Keeps.ite | apply State.setFld_keeps
      | (fail_if_no_progress refine Keeps.upd ?_ rfl rfl rfl rfl rfl rfl) | dsimp only | split
      | apply Keeps.fst (by assumption) | apply Keeps.snd (by assumption) | apply Keeps.ofSome (by assumption)

theorem State.commitEpoch_keeps {s0 : State} (s : State) (q n : Nat)
    (hs : Keeps s0 s) :
    Keeps s0 (State.commitEpoch s q n) := by
  unfold State.commitEpoch
  with_reducible repeat' first
      | assumption | intro _ _ _ | intro _ _ | intro _ | apply Keeps.ite | apply State.wr_keeps
      | apply State.count_keeps | apply State.setSlot_keeps | apply State.refreshUndo_keeps
      | (fail_if_no_progress refine Keeps.upd ?_ rfl rfl rfl rfl rfl rfl) | dsimp only | split
      | apply Keeps.fst (by assumption) | apply Keeps.snd (by assumption) | apply Keeps.ofSome (by assumption)

theorem State.startAll_keeps {s0 : State} (s : State) (q : Nat)
    (hs : Keeps s0 s) :
    Keeps s0 (State.startAll s q) := by
  unfold State.startAll
  with_reducible repeat' first
      | assumption | intro _ _ _ | intro _ _ | intro _ | apply Keeps.ite | apply State.startTask_keeps
      | apply Keeps.foldl | apply Keeps.foldlFst | (fail_if_no_progress refine Keeps.upd ?_ rfl rfl rfl rfl rfl rfl)
      | dsimp only | split | apply Keeps.fst (by assumption) | apply Keeps.snd (by assumption)
      | apply Keeps.ofSome (by assumption)

theorem State.putStep_keeps {s0 : State} (s : State) (q step : Nat)
    (hs : Keeps s0 s) :
    Keeps s0 (State.putStep s q step) := by
  unfold State.putStep
  with_reducible repeat' first
      | assumption | intro _ _ _ | intro _ _ | intro _ | apply Keeps.ite | apply State.wr_keeps
      | apply State.setSlot_keeps | apply Keeps.foldl | apply Keeps.foldlFst
      | (fail_if_no_progress refine Keeps.upd ?_ rfl rfl rfl rfl rfl rfl) | dsimp only | split
      | apply Keeps.fst (by assumption) | apply Keeps.snd (by assumption) | apply Keeps.ofSome (by assumption)

theorem State.newStep_keeps {s0 : State} (s : State) (q : Nat)
    (hs : Keeps s0 s) :
    Keeps s0 (State.newStep s q) := by
  unfold State.newStep
  with_reducible repeat' first
      | assumption | intro _ _ _ | intro _ _ | intro _ | apply Keeps.ite | apply State.setTile_keeps
      | apply Keeps.foldl | apply Keeps.foldlFst | (fail_if_no_progress refine Keeps.upd ?_ rfl rfl rfl rfl rfl rfl)
      | dsimp only | split | apply Keeps.fst (by assumption) | apply Keeps.snd (by assumption)
      | apply Keeps.ofSome (by assumption)

theorem State.releaseTask_keeps {s0 : State} (s : State) (t k : Nat)
    (hs : Keeps s0 s) :
    Keeps s0 (State.releaseTask s t k) := by
  unfold State.releaseTask
  with_reducible repeat' first
      | assumption | intro _ _ _ | intro _ _ | intro _ | apply Keeps.ite | apply State.setTask_keeps
      | apply State.complete_keeps | (fail_if_no_progress refine Keeps.upd ?_ rfl rfl rfl rfl rfl rfl) | dsimp only
      | split | apply Keeps.fst (by assumption) | apply Keeps.snd (by assumption) | apply Keeps.ofSome (by assumption)

theorem State.tryRelease_keeps {s0 : State} (s : State) (q : Nat)
    (hs : Keeps s0 s) :
    Keeps s0 (State.tryRelease s q) := by
  unfold State.tryRelease
  with_reducible repeat' first
      | assumption | intro _ _ _ | intro _ _ | intro _ | apply Keeps.ite | apply State.setSlot_keeps
      | apply State.startAll_keeps | apply State.putStep_keeps | apply State.newStep_keeps
      | apply State.releaseTask_keeps | apply Keeps.foldl | apply Keeps.foldlFst
      | (fail_if_no_progress refine Keeps.upd ?_ rfl rfl rfl rfl rfl rfl) | dsimp only | split
      | apply Keeps.fst (by assumption) | apply Keeps.snd (by assumption) | apply Keeps.ofSome (by assumption)

theorem State.mirrorEnd_keeps {s0 : State} (s : State) (q sub module : Nat) (st : SlotState) (how : Nat)
    (hs : Keeps s0 s) :
    Keeps s0 (State.mirrorEnd s q sub module st how) := by
  unfold State.mirrorEnd
  with_reducible repeat' first
      | assumption | intro _ _ _ | intro _ _ | intro _ | apply Keeps.ite | apply State.wr_keeps
      | apply State.setSlot_keeps | apply State.pushRec_keeps | apply State.setFault_keeps
      | apply State.setMirror_keeps | (fail_if_no_progress refine Keeps.upd ?_ rfl rfl rfl rfl rfl rfl) | dsimp only
      | split | apply Keeps.fst (by assumption) | apply Keeps.snd (by assumption) | apply Keeps.ofSome (by assumption)

theorem State.beginStop_keeps {s0 : State} (s : State) (q : Nat) (why : Cause) (counted : Bool)
    (hs : Keeps s0 s) :
    Keeps s0 (State.beginStop s q why counted) := by
  unfold State.beginStop
  with_reducible repeat' first
      | assumption | intro _ _ _ | intro _ _ | intro _ | apply Keeps.ite | apply Keeps.getD | apply State.setFld_keeps
      | apply State.setSlot_keeps | apply State.setFault_keeps | apply State.stopPartition_keeps
      | apply State.endCommit_keeps | apply State.mirrorEnd_keeps
      | (fail_if_no_progress refine Keeps.upd ?_ rfl rfl rfl rfl rfl rfl) | dsimp only | split
      | apply Keeps.fst (by assumption) | apply Keeps.snd (by assumption) | apply Keeps.ofSome (by assumption)

theorem State.addLost_keeps {s0 : State} (s : State) (q m : Nat)
    (hs : Keeps s0 s) :
    Keeps s0 (State.addLost s q m) := by
  unfold State.addLost
  with_reducible repeat' first
      | assumption | intro _ _ _ | intro _ _ | intro _ | apply Keeps.ite | apply State.setSlot_keeps
      | apply State.mirrorEnd_keeps | (fail_if_no_progress refine Keeps.upd ?_ rfl rfl rfl rfl rfl rfl) | dsimp only
      | split | apply Keeps.fst (by assumption) | apply Keeps.snd (by assumption) | apply Keeps.ofSome (by assumption)

theorem State.addAllLost_keeps {s0 : State} (s : State) (q : Nat) (ms : List Nat)
    (hs : Keeps s0 s) :
    Keeps s0 (State.addAllLost s q ms) := by
  unfold State.addAllLost
  with_reducible repeat' first
      | assumption | intro _ _ _ | intro _ _ | intro _ | apply Keeps.ite | apply State.addLost_keeps
      | apply Keeps.foldl | apply Keeps.foldlFst | (fail_if_no_progress refine Keeps.upd ?_ rfl rfl rfl rfl rfl rfl)
      | dsimp only | split | apply Keeps.fst (by assumption) | apply Keeps.snd (by assumption)
      | apply Keeps.ofSome (by assumption)

theorem State.onRelease_keeps {s0 : State} (s : State) (q aux : Nat)
    (hs : Keeps s0 s) :
    Keeps s0 (State.onRelease s q aux) := by
  unfold State.onRelease
  with_reducible repeat' first
      | assumption | intro _ _ _ | intro _ _ | intro _ | apply Keeps.ite | apply Keeps.getD
      | apply State.setSlot_keeps | apply State.sendCtrl_keeps | apply State.linkFail_keeps
      | apply State.commitEpoch_keeps | apply State.tryRelease_keeps | apply State.beginStop_keeps | apply Keeps.foldl
      | apply Keeps.foldlFst | (fail_if_no_progress refine Keeps.upd ?_ rfl rfl rfl rfl rfl rfl) | dsimp only | split
      | apply Keeps.fst (by assumption) | apply Keeps.snd (by assumption) | apply Keeps.ofSome (by assumption)

theorem State.tryArrive_keeps {s0 : State} (s : State) (q : Nat)
    (hs : Keeps s0 s) :
    Keeps s0 (State.tryArrive s q) := by
  unfold State.tryArrive
  with_reducible repeat' first
      | assumption | intro _ _ _ | intro _ _ | intro _ | apply Keeps.ite | apply State.setSlot_keeps
      | apply State.sendCtrl_keeps | apply State.linkFail_keeps | apply State.onRelease_keeps
      | (fail_if_no_progress refine Keeps.upd ?_ rfl rfl rfl rfl rfl rfl) | dsimp only | split
      | apply Keeps.fst (by assumption) | apply Keeps.snd (by assumption) | apply Keeps.ofSome (by assumption)

theorem State.barrier_keeps {s0 : State} (s : State) (q : Nat)
    (hs : Keeps s0 s) :
    Keeps s0 (State.barrier s q) := by
  unfold State.barrier
  with_reducible repeat' first
      | assumption | intro _ _ _ | intro _ _ | intro _ | apply Keeps.ite | apply State.tryRelease_keeps
      | apply State.tryArrive_keeps | (fail_if_no_progress refine Keeps.upd ?_ rfl rfl rfl rfl rfl rfl) | dsimp only
      | split | apply Keeps.fst (by assumption) | apply Keeps.snd (by assumption) | apply Keeps.ofSome (by assumption)

theorem State.savePage_keeps {s0 : State} (s : State) (t p m : Nat)
    (hs : Keeps s0 s) :
    Keeps s0 (State.savePage s t p m) := by
  unfold State.savePage
  with_reducible repeat' first
      | assumption | intro _ _ _ | intro _ _ | intro _ | apply Keeps.ite
      | (fail_if_no_progress refine Keeps.upd ?_ rfl rfl rfl rfl rfl rfl) | dsimp only | split
      | apply Keeps.fst (by assumption) | apply Keeps.snd (by assumption) | apply Keeps.ofSome (by assumption)

theorem State.clearDirty_keeps {s0 : State} (s : State) (a : Nat)
    (hs : Keeps s0 s) :
    Keeps s0 (State.clearDirty s a) := by
  unfold State.clearDirty
  with_reducible repeat' first
      | assumption | intro _ _ _ | intro _ _ | intro _ | apply Keeps.ite | apply State.wr64_keeps
      | (fail_if_no_progress refine Keeps.upd ?_ rfl rfl rfl rfl rfl rfl) | dsimp only | split
      | apply Keeps.fst (by assumption) | apply Keeps.snd (by assumption) | apply Keeps.ofSome (by assumption)

theorem State.sendSetPage_keeps {s0 : State} (s : State) (q place m a : Nat)
    (hs : Keeps s0 s) :
    Keeps s0 (State.sendSetPage s q place m a) := by
  unfold State.sendSetPage
  with_reducible repeat' first
      | assumption | intro _ _ _ | intro _ _ | intro _ | apply Keeps.ite | apply State.sendPage_keeps
      | apply State.collarRead_keeps | apply State.savePage_keeps | apply State.clearDirty_keeps
      | (fail_if_no_progress refine Keeps.upd ?_ rfl rfl rfl rfl rfl rfl) | dsimp only | split
      | apply Keeps.fst (by assumption) | apply Keeps.snd (by assumption) | apply Keeps.ofSome (by assumption)

theorem State.sendEpoch_keeps {s0 : State} (s : State) (q : Nat)
    (hs : Keeps s0 s) :
    Keeps s0 (State.sendEpoch s q) := by
  unfold State.sendEpoch
  with_reducible repeat' first
      | assumption | intro _ _ _ | intro _ _ | intro _ | apply Keeps.ite | apply State.setSlot_keeps
      | apply State.sendMirror_keeps | apply State.sendPage_keeps | apply State.setMirror_keeps
      | apply State.sendSetPage_keeps | apply Keeps.foldl | apply Keeps.foldlFst
      | (fail_if_no_progress refine Keeps.upd ?_ rfl rfl rfl rfl rfl rfl) | dsimp only | split
      | apply Keeps.fst (by assumption) | apply Keeps.snd (by assumption) | apply Keeps.ofSome (by assumption)

theorem State.tryLanded_keeps {s0 : State} (s : State) (q : Nat)
    (hs : Keeps s0 s) :
    Keeps s0 (State.tryLanded s q) := by
  unfold State.tryLanded
  with_reducible repeat' first
      | assumption | intro _ _ _ | intro _ _ | intro _ | apply Keeps.ite | apply State.setSlot_keeps
      | apply State.sendMirror_keeps | (fail_if_no_progress refine Keeps.upd ?_ rfl rfl rfl rfl rfl rfl) | dsimp only
      | split | apply Keeps.fst (by assumption) | apply Keeps.snd (by assumption) | apply Keeps.ofSome (by assumption)

theorem State.epochStep_keeps {s0 : State} (s : State) (q : Nat)
    (hs : Keeps s0 s) :
    Keeps s0 (State.epochStep s q) := by
  unfold State.epochStep
  with_reducible repeat' first
      | assumption | intro _ _ _ | intro _ _ | intro _ | apply Keeps.ite | apply State.setSlot_keeps
      | apply State.applyAdmissions_keeps | apply State.setMirror_keeps | apply State.barrier_keeps
      | apply State.sendEpoch_keeps | (fail_if_no_progress refine Keeps.upd ?_ rfl rfl rfl rfl rfl rfl) | dsimp only
      | split | apply Keeps.fst (by assumption) | apply Keeps.snd (by assumption) | apply Keeps.ofSome (by assumption)

theorem State.pageReply_keeps {s0 : State} (s : State) (place : PktAt) (p : Packet) (kind code : Nat)
    (hs : Keeps s0 s) :
    Keeps s0 (State.pageReply s place p kind code) := by
  unfold State.pageReply
  with_reducible repeat' first
      | assumption | intro _ _ _ | intro _ _ | intro _ | apply Keeps.ite | apply State.sendVia_keeps
      | (fail_if_no_progress refine Keeps.upd ?_ rfl rfl rfl rfl rfl rfl) | dsimp only | split
      | apply Keeps.fst (by assumption) | apply Keeps.snd (by assumption) | apply Keeps.ofSome (by assumption)

theorem State.landPage_keeps {s0 : State} (s : State) (place : PktAt) (q : Nat) (p : Packet)
    (hs : Keeps s0 s) :
    Keeps s0 (State.landPage s place q p) := by
  unfold State.landPage
  with_reducible repeat' first
      | assumption | intro _ _ _ | intro _ _ | intro _ | apply Keeps.ite | apply State.setSlot_keeps
      | apply State.beforeImage_keeps | apply State.tryLanded_keeps | apply State.pageReply_keeps | apply Keeps.foldl
      | apply Keeps.foldlFst | (fail_if_no_progress refine Keeps.updMem ?_ rfl ?_ ?_ ?_ rfl rfl) | exact id
      | apply Memory.wf_mwriteEn | apply Memory.wf_mwrite | apply Memory.wf_mzero | apply Memory.wf_mset
      | apply Memory.wf_putPage | dsimp only | split | apply Keeps.fst (by assumption)
      | apply Keeps.snd (by assumption) | apply Keeps.ofSome (by assumption)

theorem State.restorePage_keeps {s0 : State} (s : State) (place : PktAt) (q : Nat) (p : Packet)
    (hs : Keeps s0 s) :
    Keeps s0 (State.restorePage s place q p) := by
  unfold State.restorePage
  with_reducible repeat' first
      | assumption | intro _ _ _ | intro _ _ | intro _ | apply Keeps.ite | apply Keeps.getD
      | apply State.setSlot_keeps | apply State.pocketWrite_keeps | apply State.pageReply_keeps
      | (fail_if_no_progress refine Keeps.updMem ?_ rfl ?_ ?_ ?_ rfl rfl) | exact id | apply Memory.wf_mwriteEn
      | apply Memory.wf_mwrite | apply Memory.wf_mzero | apply Memory.wf_mset | apply Memory.wf_putPage | dsimp only
      | split | apply Keeps.fst (by assumption) | apply Keeps.snd (by assumption) | apply Keeps.ofSome (by assumption)

theorem State.restoreFields_keeps {s0 : State} (s : State) (q : Nat)
    (hs : Keeps s0 s) :
    Keeps s0 (State.restoreFields s q) := by
  unfold State.restoreFields
  with_reducible repeat' first
      | assumption | intro _ _ _ | intro _ _ | intro _ | apply Keeps.ite | apply State.putAll_keeps
      | apply State.applyCommits_keeps | (fail_if_no_progress refine Keeps.upd ?_ rfl rfl rfl rfl rfl rfl)
      | dsimp only | split | apply Keeps.fst (by assumption) | apply Keeps.snd (by assumption)
      | apply Keeps.ofSome (by assumption)

theorem State.revertPage_keeps {s0 : State} (s : State) (t p e : Nat)
    (hs : Keeps s0 s) :
    Keeps s0 (State.revertPage s t p e) := by
  unfold State.revertPage
  split
  · exact hs
  · refine Keeps.ite ?_ hs
    exact hs.memory rfl (fun h => Memory.wf_putPage h _ _) (fun h => h) (fun h => h) rfl rfl

theorem State.revertHbm_keeps {s0 : State} (s : State) (u : UndoRec)
    (hs : Keeps s0 s) :
    Keeps s0 (State.revertHbm s u) := by
  unfold State.revertHbm
  exact hs.memory rfl (fun h => h) (fun h => Memory.wf_putPage h _ _) (fun h => h) rfl rfl

theorem State.rollback_keeps {s0 : State} (s : State) (q e : Nat)
    (hs : Keeps s0 s) :
    Keeps s0 (State.rollback s q e) := by
  unfold State.rollback
  with_reducible repeat' first
      | assumption | intro _ _ _ | intro _ _ | intro _ | apply Keeps.ite | apply State.wr64_keeps
      | apply State.setSlot_keeps | apply State.refreshUndo_keeps | apply State.commitEpoch_keeps
      | apply State.restoreFields_keeps | apply State.revertPage_keeps | apply State.revertHbm_keeps
      | apply Keeps.foldl | apply Keeps.foldlFst | (fail_if_no_progress refine Keeps.upd ?_ rfl rfl rfl rfl rfl rfl)
      | dsimp only | split | apply Keeps.fst (by assumption) | apply Keeps.snd (by assumption)
      | apply Keeps.ofSome (by assumption)

theorem State.toBarrier_keeps {s0 : State} (s : State) (q : Nat)
    (hs : Keeps s0 s) :
    Keeps s0 (State.toBarrier s q) := by
  unfold State.toBarrier
  with_reducible repeat' first
      | assumption | intro _ _ _ | intro _ _ | intro _ | apply Keeps.ite | apply State.wr_keeps
      | apply State.setSlot_keeps | apply State.afterGroups_keeps | apply State.openWindows_keeps
      | apply State.putStep_keeps | apply State.epochStep_keeps | apply State.restoreFields_keeps
      | (fail_if_no_progress refine Keeps.upd ?_ rfl rfl rfl rfl rfl rfl) | dsimp only | split
      | apply Keeps.fst (by assumption) | apply Keeps.snd (by assumption) | apply Keeps.ofSome (by assumption)

theorem State.afterRollback_keeps {s0 : State} (s : State) (q : Nat)
    (hs : Keeps s0 s) :
    Keeps s0 (State.afterRollback s q) := by
  unfold State.afterRollback
  with_reducible repeat' first
      | assumption | intro _ _ _ | intro _ _ | intro _ | apply Keeps.ite | apply State.setSlot_keeps
      | apply State.toBarrier_keeps | (fail_if_no_progress refine Keeps.upd ?_ rfl rfl rfl rfl rfl rfl) | dsimp only
      | split | apply Keeps.fst (by assumption) | apply Keeps.snd (by assumption) | apply Keeps.ofSome (by assumption)

theorem State.takeSpare_keeps {s0 : State} (s : State) (f sp : Nat)
    (hs : Keeps s0 s) :
    Keeps s0 (State.takeSpare s f sp) := by
  unfold State.takeSpare
  with_reducible repeat' first
      | assumption | intro _ _ _ | intro _ _ | intro _ | apply Keeps.ite | apply State.wr_keeps
      | apply State.setBit_keeps | apply State.enablePort_keeps | apply Keeps.foldl | apply Keeps.foldlFst
      | (fail_if_no_progress refine Keeps.upd ?_ rfl rfl rfl rfl rfl rfl) | dsimp only | split
      | apply Keeps.fst (by assumption) | apply Keeps.snd (by assumption) | apply Keeps.ofSome (by assumption)

theorem State.takeSpares_keeps {s0 : State} (s : State) (q : Nat) (choice : List (Nat × Nat))
    (hs : Keeps s0 s) :
    Keeps s0 (State.takeSpares s q choice) := by
  unfold State.takeSpares
  with_reducible repeat' first
      | assumption | intro _ _ _ | intro _ _ | intro _ | apply Keeps.ite | apply State.setSlot_keeps
      | apply State.setMirror_keeps | apply State.toBarrier_keeps | apply State.takeSpare_keeps | apply Keeps.foldl
      | apply Keeps.foldlFst | (fail_if_no_progress refine Keeps.upd ?_ rfl rfl rfl rfl rfl rfl) | dsimp only | split
      | apply Keeps.fst (by assumption) | apply Keeps.snd (by assumption) | apply Keeps.ofSome (by assumption)

theorem State.noSpare_keeps {s0 : State} (s : State) (q : Nat)
    (hs : Keeps s0 s) :
    Keeps s0 (State.noSpare s q) := by
  unfold State.noSpare
  with_reducible repeat' first
      | assumption | intro _ _ _ | intro _ _ | intro _ | apply Keeps.ite | apply State.setSlot_keeps
      | apply State.setMirror_keeps | (fail_if_no_progress refine Keeps.upd ?_ rfl rfl rfl rfl rfl rfl) | dsimp only
      | split | apply Keeps.fst (by assumption) | apply Keeps.snd (by assumption) | apply Keeps.ofSome (by assumption)

theorem State.beginRestore_keeps {s0 : State} (s : State) (q : Nat)
    (hs : Keeps s0 s) :
    Keeps s0 (State.beginRestore s q) := by
  unfold State.beginRestore
  with_reducible repeat' first
      | assumption | intro _ _ _ | intro _ _ | intro _ | apply Keeps.ite | apply Keeps.getD
      | apply State.setSlot_keeps | apply State.sendMirror_keeps | apply State.sendPage_keeps
      | apply State.setMirror_keeps | apply Keeps.foldl | apply Keeps.foldlFst
      | (fail_if_no_progress refine Keeps.upd ?_ rfl rfl rfl rfl rfl rfl) | dsimp only | split
      | apply Keeps.fst (by assumption) | apply Keeps.snd (by assumption) | apply Keeps.ofSome (by assumption)

theorem State.restoreNext_keeps {s0 : State} (s : State) (q : Nat)
    (hs : Keeps s0 s) :
    Keeps s0 (State.restoreNext s q) := by
  unfold State.restoreNext
  with_reducible repeat' first
      | assumption | intro _ _ _ | intro _ _ | intro _ | apply Keeps.ite | apply State.setSlot_keeps
      | apply State.sendMirror_keeps | apply State.sendPage_keeps | apply Keeps.foldl | apply Keeps.foldlFst
      | (fail_if_no_progress refine Keeps.upd ?_ rfl rfl rfl rfl rfl rfl) | dsimp only | split
      | apply Keeps.fst (by assumption) | apply Keeps.snd (by assumption) | apply Keeps.ofSome (by assumption)

theorem State.tryRestored_keeps {s0 : State} (s : State) (q : Nat)
    (hs : Keeps s0 s) :
    Keeps s0 (State.tryRestored s q) := by
  unfold State.tryRestored
  with_reducible repeat' first
      | assumption | intro _ _ _ | intro _ _ | intro _ | apply Keeps.ite | apply State.setSlot_keeps
      | apply State.sendMirror_keeps | apply State.setMirror_keeps | apply State.toBarrier_keeps
      | (fail_if_no_progress refine Keeps.upd ?_ rfl rfl rfl rfl rfl rfl) | dsimp only | split
      | apply Keeps.fst (by assumption) | apply Keeps.snd (by assumption) | apply Keeps.ofSome (by assumption)

theorem State.killSlot_keeps {s0 : State} (s : State) (q : Nat)
    (hs : Keeps s0 s) :
    Keeps s0 (State.killSlot s q) := by
  unfold State.killSlot
  with_reducible repeat' first
      | assumption | intro _ _ _ | intro _ _ | intro _ | apply Keeps.ite | apply State.setSlot_keeps
      | apply State.settlePanels_keeps | apply State.beginPartReset_keeps | apply State.setLoad_keeps
      | (fail_if_no_progress refine Keeps.upd ?_ rfl rfl rfl rfl rfl rfl) | dsimp only | split
      | apply Keeps.fst (by assumption) | apply Keeps.snd (by assumption) | apply Keeps.ofSome (by assumption)

theorem State.runReady_keeps {s0 : State} (s : State) (q : Nat)
    (hs : Keeps s0 s) :
    Keeps s0 (State.runReady s q) := by
  unfold State.runReady
  with_reducible repeat' first
      | assumption | intro _ _ _ | intro _ _ | intro _ | apply Keeps.ite | apply State.setSlot_keeps
      | apply State.setMirror_keeps | (fail_if_no_progress refine Keeps.upd ?_ rfl rfl rfl rfl rfl rfl) | dsimp only
      | split | apply Keeps.fst (by assumption) | apply Keeps.snd (by assumption) | apply Keeps.ofSome (by assumption)

theorem State.runStopped_keeps {s0 : State} (s : State) (q : Nat)
    (hs : Keeps s0 s) :
    Keeps s0 (State.runStopped s q) := by
  unfold State.runStopped
  with_reducible repeat' first
      | assumption | intro _ _ _ | intro _ _ | intro _ | apply Keeps.ite | apply State.setSlot_keeps
      | apply State.stopPartition_keeps | apply State.setMirror_keeps | apply State.tryRelease_keeps
      | apply State.addLost_keeps | (fail_if_no_progress refine Keeps.upd ?_ rfl rfl rfl rfl rfl rfl) | dsimp only
      | split | apply Keeps.fst (by assumption) | apply Keeps.snd (by assumption) | apply Keeps.ofSome (by assumption)

theorem State.finishCmd_keeps {s0 : State} (s : State) (c : HostCmd) (result reason : Nat)
    (hs : Keeps s0 s) :
    Keeps s0 (State.finishCmd s c result reason) := by
  unfold State.finishCmd
  with_reducible repeat' first
      | assumption | intro _ _ _ | intro _ _ | intro _ | apply Keeps.ite
      | (fail_if_no_progress refine Keeps.upd ?_ rfl rfl rfl rfl rfl rfl) | dsimp only | split
      | apply Keeps.fst (by assumption) | apply Keeps.snd (by assumption) | apply Keeps.ofSome (by assumption)

theorem State.finishOpen_keeps {s0 : State} (s : State) (c : HostCmd)
    (hs : Keeps s0 s) :
    Keeps s0 (State.finishOpen s c) := by
  unfold State.finishOpen
  with_reducible repeat' first
      | assumption | intro _ _ _ | intro _ _ | intro _ | apply Keeps.ite | apply State.freeW_keeps
      | apply State.finishCmd_keeps | (fail_if_no_progress refine Keeps.upd ?_ rfl rfl rfl rfl rfl rfl) | dsimp only
      | split | apply Keeps.fst (by assumption) | apply Keeps.snd (by assumption) | apply Keeps.ofSome (by assumption)

theorem State.markBegun_keeps {s0 : State} (s : State) (c : HostCmd)
    (hs : Keeps s0 s) :
    Keeps s0 (State.markBegun s c) := by
  unfold State.markBegun
  with_reducible repeat' first
      | assumption | intro _ _ _ | intro _ _ | intro _ | apply Keeps.ite
      | (fail_if_no_progress refine Keeps.upd ?_ rfl rfl rfl rfl rfl rfl) | dsimp only | split
      | apply Keeps.fst (by assumption) | apply Keeps.snd (by assumption) | apply Keeps.ofSome (by assumption)

theorem State.beginCmd_keeps {s0 : State} (s : State) (c : HostCmd)
    (hs : Keeps s0 s) :
    Keeps s0 (State.beginCmd s c) := by
  unfold State.beginCmd
  with_reducible repeat' first
      | assumption | intro _ _ _ | intro _ _ | intro _ | apply Keeps.ite | apply State.wr64_keeps
      | apply State.setSlot_keeps | apply State.leaveIdle_keeps | apply State.startLoad_keeps
      | apply State.killSlot_keeps | apply State.runReady_keeps | apply State.runStopped_keeps
      | apply State.finishCmd_keeps | apply State.markBegun_keeps
      | (fail_if_no_progress refine Keeps.upd ?_ rfl rfl rfl rfl rfl rfl) | dsimp only | split
      | apply Keeps.fst (by assumption) | apply Keeps.snd (by assumption) | apply Keeps.ofSome (by assumption)

theorem State.endCmd_keeps {s0 : State} (s : State) (c : HostCmd)
    (hs : Keeps s0 s) :
    Keeps s0 (State.endCmd s c) := by
  unfold State.endCmd
  with_reducible repeat' first
      | assumption | intro _ _ _ | intro _ _ | intro _ | apply Keeps.ite | apply State.finishCmd_keeps
      | apply State.finishOpen_keeps | (fail_if_no_progress refine Keeps.upd ?_ rfl rfl rfl rfl rfl rfl) | dsimp only
      | split | apply Keeps.fst (by assumption) | apply Keeps.snd (by assumption) | apply Keeps.ofSome (by assumption)

theorem State.settleCmd_keeps {s0 : State} (s : State) (n : Nat)
    (hs : Keeps s0 s) :
    Keeps s0 (State.settleCmd s n) := by
  unfold State.settleCmd
  with_reducible repeat' first
      | assumption | intro _ _ _ | intro _ _ | intro _ | apply Keeps.ite | apply State.beginCmd_keeps
      | apply State.endCmd_keeps | (fail_if_no_progress refine Keeps.upd ?_ rfl rfl rfl rfl rfl rfl) | dsimp only
      | split | apply Keeps.fst (by assumption) | apply Keeps.snd (by assumption) | apply Keeps.ofSome (by assumption)

theorem State.settleCmds_keeps {s0 : State} (s : State)
    (hs : Keeps s0 s) :
    Keeps s0 (State.settleCmds s) := by
  unfold State.settleCmds
  with_reducible repeat' first
      | assumption | intro _ _ _ | intro _ _ | intro _ | apply Keeps.ite | apply State.settleCmd_keeps
      | apply Keeps.foldl | apply Keeps.foldlFst | (fail_if_no_progress refine Keeps.upd ?_ rfl rfl rfl rfl rfl rfl)
      | dsimp only | split | apply Keeps.fst (by assumption) | apply Keeps.snd (by assumption)
      | apply Keeps.ofSome (by assumption)

theorem State.readCmd_keeps {s0 : State} (s : State) (op : Nat) (e : CmdEntry)
    (hs : Keeps s0 s) :
    Keeps s0 (State.readCmd s op e) := by
  unfold State.readCmd
  with_reducible repeat' first
      | assumption | intro _ _ _ | intro _ _ | intro _ | apply Keeps.ite | apply State.wr_keeps
      | apply State.settleCmds_keeps | (fail_if_no_progress refine Keeps.upd ?_ rfl rfl rfl rfl rfl rfl) | dsimp only
      | split | apply Keeps.fst (by assumption) | apply Keeps.snd (by assumption) | apply Keeps.ofSome (by assumption)

theorem State.writeCmdTail_keeps {s0 : State} (s : State) (v : Word)
    (hs : Keeps s0 s) :
    Keeps s0 (State.writeCmdTail s v) := by
  unfold State.writeCmdTail
  with_reducible repeat' first
      | assumption | intro _ _ _ | intro _ _ | intro _ | apply Keeps.ite | apply State.wr_keeps
      | apply State.latchHostErr_keeps | (fail_if_no_progress refine Keeps.upd ?_ rfl rfl rfl rfl rfl rfl)
      | dsimp only | split | apply Keeps.fst (by assumption) | apply Keeps.snd (by assumption)
      | apply Keeps.ofSome (by assumption)

theorem execHostCmdTailWrite_keeps {s0 : State} (v : Word) (s : State)
    (hs : Keeps s0 s) :
    KeepsOut s0 (execHostCmdTailWrite v s) := by
  unfold execHostCmdTailWrite
  with_reducible repeat' first
      | assumption | intro _ _ _ | intro _ _ | intro _ | apply Keeps.ite | apply KeepsOut.next | apply KeepsOut.ite
      | apply State.writeCmdTail_keeps | (fail_if_no_progress refine Keeps.upd ?_ rfl rfl rfl rfl rfl rfl)
      | dsimp only | split | apply Keeps.fst (by assumption) | apply Keeps.snd (by assumption)
      | apply Keeps.ofSome (by assumption)

theorem execLoad_keeps {s0 : State} (e : CmdEntry) (s : State)
    (hs : Keeps s0 s) :
    KeepsOut s0 (execLoad e s) := by
  unfold execLoad
  with_reducible repeat' first
      | assumption | intro _ _ _ | intro _ _ | intro _ | apply Keeps.ite | apply KeepsOut.next | apply KeepsOut.ite
      | apply State.readCmd_keeps | (fail_if_no_progress refine Keeps.upd ?_ rfl rfl rfl rfl rfl rfl) | dsimp only
      | split | apply Keeps.fst (by assumption) | apply Keeps.snd (by assumption) | apply Keeps.ofSome (by assumption)

theorem execRun_keeps {s0 : State} (e : CmdEntry) (s : State)
    (hs : Keeps s0 s) :
    KeepsOut s0 (execRun e s) := by
  unfold execRun
  with_reducible repeat' first
      | assumption | intro _ _ _ | intro _ _ | intro _ | apply Keeps.ite | apply KeepsOut.next | apply KeepsOut.ite
      | apply State.readCmd_keeps | (fail_if_no_progress refine Keeps.upd ?_ rfl rfl rfl rfl rfl rfl) | dsimp only
      | split | apply Keeps.fst (by assumption) | apply Keeps.snd (by assumption) | apply Keeps.ofSome (by assumption)

theorem execDrain_keeps {s0 : State} (e : CmdEntry) (s : State)
    (hs : Keeps s0 s) :
    KeepsOut s0 (execDrain e s) := by
  unfold execDrain
  with_reducible repeat' first
      | assumption | intro _ _ _ | intro _ _ | intro _ | apply Keeps.ite | apply KeepsOut.next | apply KeepsOut.ite
      | apply State.readCmd_keeps | (fail_if_no_progress refine Keeps.upd ?_ rfl rfl rfl rfl rfl rfl) | dsimp only
      | split | apply Keeps.fst (by assumption) | apply Keeps.snd (by assumption) | apply Keeps.ofSome (by assumption)

theorem execKill_keeps {s0 : State} (e : CmdEntry) (s : State)
    (hs : Keeps s0 s) :
    KeepsOut s0 (execKill e s) := by
  unfold execKill
  with_reducible repeat' first
      | assumption | intro _ _ _ | intro _ _ | intro _ | apply Keeps.ite | apply KeepsOut.next | apply KeepsOut.ite
      | apply State.readCmd_keeps | (fail_if_no_progress refine Keeps.upd ?_ rfl rfl rfl rfl rfl rfl) | dsimp only
      | split | apply Keeps.fst (by assumption) | apply Keeps.snd (by assumption) | apply Keeps.ofSome (by assumption)

theorem execCopyIn_keeps {s0 : State} (e : CmdEntry) (s : State)
    (hs : Keeps s0 s) :
    KeepsOut s0 (execCopyIn e s) := by
  unfold execCopyIn
  with_reducible repeat' first
      | assumption | intro _ _ _ | intro _ _ | intro _ | apply Keeps.ite | apply KeepsOut.next | apply KeepsOut.ite
      | apply State.readCmd_keeps | (fail_if_no_progress refine Keeps.upd ?_ rfl rfl rfl rfl rfl rfl) | dsimp only
      | split | apply Keeps.fst (by assumption) | apply Keeps.snd (by assumption) | apply Keeps.ofSome (by assumption)

theorem execCopyOut_keeps {s0 : State} (e : CmdEntry) (s : State)
    (hs : Keeps s0 s) :
    KeepsOut s0 (execCopyOut e s) := by
  unfold execCopyOut
  with_reducible repeat' first
      | assumption | intro _ _ _ | intro _ _ | intro _ | apply Keeps.ite | apply KeepsOut.next | apply KeepsOut.ite
      | apply State.readCmd_keeps | (fail_if_no_progress refine Keeps.upd ?_ rfl rfl rfl rfl rfl rfl) | dsimp only
      | split | apply Keeps.fst (by assumption) | apply Keeps.snd (by assumption) | apply Keeps.ofSome (by assumption)

theorem execCommandNop_keeps {s0 : State} (op : BitVec 8) (e : CmdEntry) (s : State)
    (hs : Keeps s0 s) :
    KeepsOut s0 (execCommandNop op e s) := by
  unfold execCommandNop
  with_reducible repeat' first
      | assumption | intro _ _ _ | intro _ _ | intro _ | apply Keeps.ite | apply KeepsOut.next | apply KeepsOut.ite
      | apply State.readCmd_keeps | (fail_if_no_progress refine Keeps.upd ?_ rfl rfl rfl rfl rfl rfl) | dsimp only
      | split | apply Keeps.fst (by assumption) | apply Keeps.snd (by assumption) | apply Keeps.ofSome (by assumption)

theorem State.copyDone_keeps {s0 : State} (s : State) (c : HostCmd) (ans : HostAns)
    (hs : Keeps s0 s) :
    Keeps s0 (State.copyDone s c ans) := by
  unfold State.copyDone
  with_reducible repeat' first
      | assumption | intro _ _ _ | intro _ _ | intro _ | apply Keeps.ite | apply State.hbmWrite_keeps
      | apply State.hbmRead_keeps | apply State.hostStore_keeps | apply State.finishCmd_keeps
      | apply State.finishOpen_keeps | (fail_if_no_progress refine Keeps.upd ?_ rfl rfl rfl rfl rfl rfl) | dsimp only
      | split | apply Keeps.fst (by assumption) | apply Keeps.snd (by assumption) | apply Keeps.ofSome (by assumption)

theorem execHbmCopyDone_keeps {s0 : State} (n : Word) (ans : HostAns) (s : State)
    (hs : Keeps s0 s) :
    KeepsOut s0 (execHbmCopyDone n ans s) := by
  unfold execHbmCopyDone
  with_reducible repeat' first
      | assumption | intro _ _ _ | intro _ _ | intro _ | apply Keeps.ite | apply KeepsOut.next | apply KeepsOut.ite
      | apply State.settleCmds_keeps | apply State.copyDone_keeps
      | (fail_if_no_progress refine Keeps.upd ?_ rfl rfl rfl rfl rfl rfl) | dsimp only | split
      | apply Keeps.fst (by assumption) | apply Keeps.snd (by assumption) | apply Keeps.ofSome (by assumption)

theorem State.rewritePage_keeps {s0 : State} (s : State) (p : Nat)
    (hs : Keeps s0 s) :
    Keeps s0 (State.rewritePage s p) := by
  unfold State.rewritePage
  with_reducible repeat' first
      | assumption | intro _ _ _ | intro _ _ | intro _ | apply Keeps.ite | apply State.hostStore_keeps
      | (fail_if_no_progress refine Keeps.upd ?_ rfl rfl rfl rfl rfl rfl) | dsimp only | split
      | apply Keeps.fst (by assumption) | apply Keeps.snd (by assumption) | apply Keeps.ofSome (by assumption)

theorem execStatusPageRewrite_keeps {s0 : State} (p : Fin 9) (s : State)
    (hs : Keeps s0 s) :
    KeepsOut s0 (execStatusPageRewrite p s) := by
  unfold execStatusPageRewrite
  with_reducible repeat' first
      | assumption | intro _ _ _ | intro _ _ | intro _ | apply Keeps.ite | apply KeepsOut.next | apply KeepsOut.ite
      | apply State.rewritePage_keeps | (fail_if_no_progress refine Keeps.upd ?_ rfl rfl rfl rfl rfl rfl) | dsimp only
      | split | apply Keeps.fst (by assumption) | apply Keeps.snd (by assumption) | apply Keeps.ofSome (by assumption)

theorem State.enableStatus_keeps {s0 : State} (s : State) (b : Bool)
    (hs : Keeps s0 s) :
    Keeps s0 (State.enableStatus s b) := by
  unfold State.enableStatus
  with_reducible repeat' first
      | assumption | intro _ _ _ | intro _ _ | intro _ | apply Keeps.ite | apply State.setBit_keeps
      | (fail_if_no_progress refine Keeps.upd ?_ rfl rfl rfl rfl rfl rfl) | dsimp only | split
      | apply Keeps.fst (by assumption) | apply Keeps.snd (by assumption) | apply Keeps.ofSome (by assumption)

theorem execHostStatusEnable_keeps {s0 : State} (b : Bool) (s : State)
    (hs : Keeps s0 s) :
    KeepsOut s0 (execHostStatusEnable b s) := by
  unfold execHostStatusEnable
  with_reducible repeat' first
      | assumption | intro _ _ _ | intro _ _ | intro _ | apply Keeps.ite | apply KeepsOut.next | apply KeepsOut.ite
      | apply State.enableStatus_keeps | (fail_if_no_progress refine Keeps.upd ?_ rfl rfl rfl rfl rfl rfl)
      | dsimp only | split | apply Keeps.fst (by assumption) | apply Keeps.snd (by assumption)
      | apply Keeps.ofSome (by assumption)

theorem State.enableRing_keeps {s0 : State} (s : State) (r : Option PartId) (b : Bool)
    (hs : Keeps s0 s) :
    Keeps s0 (State.enableRing s r b) := by
  unfold State.enableRing
  with_reducible repeat' first
      | assumption | intro _ _ _ | intro _ _ | intro _ | apply Keeps.ite | apply State.setBit_keeps
      | apply State.setSlot_keeps | apply State.flushOut_keeps | apply State.tryRelease_keeps
      | apply State.settleCmds_keeps | (fail_if_no_progress refine Keeps.upd ?_ rfl rfl rfl rfl rfl rfl) | dsimp only
      | split | apply Keeps.fst (by assumption) | apply Keeps.snd (by assumption) | apply Keeps.ofSome (by assumption)

theorem execHostRingEnable_keeps {s0 : State} (r : Option PartId) (b : Bool) (s : State)
    (hs : Keeps s0 s) :
    KeepsOut s0 (execHostRingEnable r b s) := by
  unfold execHostRingEnable
  with_reducible repeat' first
      | assumption | intro _ _ _ | intro _ _ | intro _ | apply Keeps.ite | apply KeepsOut.next | apply KeepsOut.ite
      | apply State.enableRing_keeps | (fail_if_no_progress refine Keeps.upd ?_ rfl rfl rfl rfl rfl rfl) | dsimp only
      | split | apply Keeps.fst (by assumption) | apply Keeps.snd (by assumption) | apply Keeps.ofSome (by assumption)

theorem State.writeSeqTail_keeps {s0 : State} (s : State) (q : Nat) (v : Word)
    (hs : Keeps s0 s) :
    Keeps s0 (State.writeSeqTail s q v) := by
  unfold State.writeSeqTail
  with_reducible repeat' first
      | assumption | intro _ _ _ | intro _ _ | intro _ | apply Keeps.ite | apply State.wr_keeps
      | apply State.latchRingErr_keeps | (fail_if_no_progress refine Keeps.upd ?_ rfl rfl rfl rfl rfl rfl)
      | dsimp only | split | apply Keeps.fst (by assumption) | apply Keeps.snd (by assumption)
      | apply Keeps.ofSome (by assumption)

theorem execHostSeqTailWrite_keeps {s0 : State} (q : PartId) (v : Word) (s : State)
    (hs : Keeps s0 s) :
    KeepsOut s0 (execHostSeqTailWrite q v s) := by
  unfold execHostSeqTailWrite
  with_reducible repeat' first
      | assumption | intro _ _ _ | intro _ _ | intro _ | apply Keeps.ite | apply KeepsOut.next | apply KeepsOut.ite
      | apply State.writeSeqTail_keeps | (fail_if_no_progress refine Keeps.upd ?_ rfl rfl rfl rfl rfl rfl)
      | dsimp only | split | apply Keeps.fst (by assumption) | apply Keeps.snd (by assumption)
      | apply Keeps.ofSome (by assumption)

theorem State.writeOutHead_keeps {s0 : State} (s : State) (q : Nat) (v : Word)
    (hs : Keeps s0 s) :
    Keeps s0 (State.writeOutHead s q v) := by
  unfold State.writeOutHead
  with_reducible repeat' first
      | assumption | intro _ _ _ | intro _ _ | intro _ | apply Keeps.ite | apply State.wr_keeps
      | apply State.flushOut_keeps | apply State.tryRelease_keeps | apply State.settleCmds_keeps
      | (fail_if_no_progress refine Keeps.upd ?_ rfl rfl rfl rfl rfl rfl) | dsimp only | split
      | apply Keeps.fst (by assumption) | apply Keeps.snd (by assumption) | apply Keeps.ofSome (by assumption)

theorem execHostOutHeadWrite_keeps {s0 : State} (q : PartId) (v : Word) (s : State)
    (hs : Keeps s0 s) :
    KeepsOut s0 (execHostOutHeadWrite q v s) := by
  unfold execHostOutHeadWrite
  with_reducible repeat' first
      | assumption | intro _ _ _ | intro _ _ | intro _ | apply Keeps.ite | apply KeepsOut.next | apply KeepsOut.ite
      | apply State.writeOutHead_keeps | (fail_if_no_progress refine Keeps.upd ?_ rfl rfl rfl rfl rfl rfl)
      | dsimp only | split | apply Keeps.fst (by assumption) | apply Keeps.snd (by assumption)
      | apply Keeps.ofSome (by assumption)

theorem State.promptTokens_keeps {s0 : State} (s : State) (q : Nat) (e : SeqEntry) (data : List Byte)
    (hs : Keeps s0 s) :
    Keeps s0 (State.promptTokens s q e data).1 := by
  unfold State.promptTokens
  with_reducible repeat' first
      | assumption | intro _ _ _ | intro _ _ | intro _ | apply Keeps.ite | apply State.collarRead_keeps
      | (fail_if_no_progress refine Keeps.upd ?_ rfl rfl rfl rfl rfl rfl) | dsimp only | split
      | apply Keeps.fst (by assumption) | apply Keeps.snd (by assumption) | apply Keeps.ofSome (by assumption)

theorem execSubmit_keeps {s0 : State} (q : PartId) (e : SeqEntry) (prompt : HostAns) (s : State)
    (hs : Keeps s0 s) :
    KeepsOut s0 (execSubmit q e prompt s) := by
  unfold execSubmit
  with_reducible repeat' first
      | assumption | intro _ _ _ | intro _ _ | intro _ | apply Keeps.ite | apply KeepsOut.next | apply KeepsOut.ite
      | apply State.setSlot_keeps | apply State.ringFails_keeps | apply State.endEntry_keeps
      | apply State.settleCmds_keeps | apply State.promptTokens_keeps
      | (fail_if_no_progress refine Keeps.upd ?_ rfl rfl rfl rfl rfl rfl) | dsimp only | split
      | apply Keeps.fst (by assumption) | apply Keeps.snd (by assumption) | apply Keeps.ofSome (by assumption)

theorem execCancel_keeps {s0 : State} (q : PartId) (e : SeqEntry) (s : State)
    (hs : Keeps s0 s) :
    KeepsOut s0 (execCancel q e s) := by
  unfold execCancel
  with_reducible repeat' first
      | assumption | intro _ _ _ | intro _ _ | intro _ | apply Keeps.ite | apply KeepsOut.next | apply KeepsOut.ite
      | apply State.setSlot_keeps | (fail_if_no_progress refine Keeps.upd ?_ rfl rfl rfl rfl rfl rfl) | dsimp only
      | split | apply Keeps.fst (by assumption) | apply Keeps.snd (by assumption) | apply Keeps.ofSome (by assumption)

theorem execStepBoundaryService_keeps {s0 : State} (q : PartId) (us : Nat) (s : State)
    (hs : Keeps s0 s) :
    KeepsOut s0 (execStepBoundaryService q us s) := by
  unfold execStepBoundaryService
  with_reducible repeat' first
      | assumption | intro _ _ _ | intro _ _ | intro _ | apply Keeps.ite | apply KeepsOut.next | apply KeepsOut.ite
      | apply State.setSlot_keeps | apply State.serveStep_keeps | apply State.writePartial_keeps
      | apply State.tryRelease_keeps | apply State.settleCmds_keeps
      | (fail_if_no_progress refine Keeps.upd ?_ rfl rfl rfl rfl rfl rfl) | dsimp only | split
      | apply Keeps.fst (by assumption) | apply Keeps.snd (by assumption) | apply Keeps.ofSome (by assumption)

theorem execPartialHostCopy_keeps {s0 : State} (q : PartId) (s : State)
    (hs : Keeps s0 s) :
    KeepsOut s0 (execPartialHostCopy q s) := by
  unfold execPartialHostCopy
  with_reducible repeat' first
      | assumption | intro _ _ _ | intro _ _ | intro _ | apply Keeps.ite | apply KeepsOut.next | apply KeepsOut.ite
      | apply State.setSlot_keeps | apply State.hostStore_keeps | apply State.latchRingErr_keeps
      | apply State.collarRead_keeps | (fail_if_no_progress refine Keeps.upd ?_ rfl rfl rfl rfl rfl rfl) | dsimp only
      | split | apply Keeps.fst (by assumption) | apply Keeps.snd (by assumption) | apply Keeps.ofSome (by assumption)

theorem State.apertureRefused_keeps {s0 : State} (s : State)
    (hs : Keeps s0 s) :
    Keeps s0 (State.apertureRefused s) := by
  unfold State.apertureRefused
  with_reducible repeat' first
      | assumption | intro _ _ _ | intro _ _ | intro _ | apply Keeps.ite | apply State.setBit_keeps
      | apply State.hostRecord_keeps | (fail_if_no_progress refine Keeps.upd ?_ rfl rfl rfl rfl rfl rfl) | dsimp only
      | split | apply Keeps.fst (by assumption) | apply Keeps.snd (by assumption) | apply Keeps.ofSome (by assumption)

theorem execBar2Read_keeps {s0 : State} (off len : Nat) (s : State)
    (hs : Keeps s0 s) :
    KeepsOut s0 (execBar2Read off len s) := by
  unfold execBar2Read
  with_reducible repeat' first
      | assumption | intro _ _ _ | intro _ _ | intro _ | apply Keeps.ite | apply KeepsOut.next | apply KeepsOut.ite
      | apply State.hbmRead_keeps | apply State.apertureRefused_keeps
      | (fail_if_no_progress refine Keeps.upd ?_ rfl rfl rfl rfl rfl rfl) | dsimp only | split
      | apply Keeps.fst (by assumption) | apply Keeps.snd (by assumption) | apply Keeps.ofSome (by assumption)

theorem execBar2Write_keeps {s0 : State} (off : Nat) (data : List (Option Byte)) (s : State)
    (hs : Keeps s0 s) :
    KeepsOut s0 (execBar2Write off data s) := by
  unfold execBar2Write
  with_reducible repeat' first
      | assumption | intro _ _ _ | intro _ _ | intro _ | apply Keeps.ite | apply KeepsOut.next | apply KeepsOut.ite
      | apply State.hbmWrite_keeps | apply State.apertureRefused_keeps
      | (fail_if_no_progress refine Keeps.upd ?_ rfl rfl rfl rfl rfl rfl) | dsimp only | split
      | apply Keeps.fst (by assumption) | apply Keeps.snd (by assumption) | apply Keeps.ofSome (by assumption)

theorem State.functionReset_keeps {s0 : State} (s : State)
    (hs : Keeps s0 s) :
    Keeps s0 (State.functionReset s) := by
  unfold State.functionReset
  with_reducible repeat' first
      | assumption | intro _ _ _ | intro _ _ | intro _ | apply Keeps.ite | apply State.forget_keeps
      | (fail_if_no_progress refine Keeps.upd ?_ rfl rfl rfl rfl rfl rfl) | dsimp only | split
      | apply Keeps.fst (by assumption) | apply Keeps.snd (by assumption) | apply Keeps.ofSome (by assumption)

theorem execFunctionLevelReset_keeps {s0 : State} (s : State)
    (hs : Keeps s0 s) :
    KeepsOut s0 (execFunctionLevelReset s) := by
  unfold execFunctionLevelReset
  with_reducible repeat' first
      | assumption | intro _ _ _ | intro _ _ | intro _ | apply Keeps.ite | apply KeepsOut.next | apply KeepsOut.ite
      | apply State.functionReset_keeps | (fail_if_no_progress refine Keeps.upd ?_ rfl rfl rfl rfl rfl rfl)
      | dsimp only | split | apply Keeps.fst (by assumption) | apply Keeps.snd (by assumption)
      | apply Keeps.ofSome (by assumption)

theorem execPerstAssert_keeps {s0 : State} (s : State)
    (hs : Keeps s0 s) :
    KeepsOut s0 (execPerstAssert s) := by
  unfold execPerstAssert
  with_reducible repeat' first
      | assumption | intro _ _ _ | intro _ _ | intro _ | apply Keeps.ite | apply KeepsOut.next | apply KeepsOut.ite
      | apply State.functionReset_keeps | (fail_if_no_progress refine Keeps.upd ?_ rfl rfl rfl rfl rfl rfl)
      | dsimp only | split | apply Keeps.fst (by assumption) | apply Keeps.snd (by assumption)
      | apply Keeps.ofSome (by assumption)

theorem execPerstRelease_keeps {s0 : State} (s : State)
    (hs : Keeps s0 s) :
    KeepsOut s0 (execPerstRelease s) := by
  unfold execPerstRelease
  with_reducible repeat' first
      | assumption | intro _ _ _ | intro _ _ | intro _ | apply Keeps.ite | apply KeepsOut.next | apply KeepsOut.ite
      | (fail_if_no_progress refine Keeps.upd ?_ rfl rfl rfl rfl rfl rfl) | dsimp only | split
      | apply Keeps.fst (by assumption) | apply Keeps.snd (by assumption) | apply Keeps.ofSome (by assumption)

theorem execPcieLinkDown_keeps {s0 : State} (s : State)
    (hs : Keeps s0 s) :
    KeepsOut s0 (execPcieLinkDown s) := by
  unfold execPcieLinkDown
  with_reducible repeat' first
      | assumption | intro _ _ _ | intro _ _ | intro _ | apply Keeps.ite | apply KeepsOut.next | apply KeepsOut.ite
      | apply State.functionReset_keeps | (fail_if_no_progress refine Keeps.upd ?_ rfl rfl rfl rfl rfl rfl)
      | dsimp only | split | apply Keeps.fst (by assumption) | apply Keeps.snd (by assumption)
      | apply Keeps.ofSome (by assumption)

theorem execPcieCompletionTimeout_keeps {s0 : State} (r : HostReq) (status : BitVec 16) (s : State)
    (hs : Keeps s0 s) :
    KeepsOut s0 (execPcieCompletionTimeout r status s) := by
  unfold execPcieCompletionTimeout
  with_reducible repeat' first
      | assumption | intro _ _ _ | intro _ _ | intro _ | apply Keeps.ite | apply KeepsOut.next | apply KeepsOut.ite
      | apply State.hostFail_keeps | apply State.ringFails_keeps
      | (fail_if_no_progress refine Keeps.upd ?_ rfl rfl rfl rfl rfl rfl) | dsimp only | split
      | apply Keeps.fst (by assumption) | apply Keeps.snd (by assumption) | apply Keeps.ofSome (by assumption)

theorem execPcieConfigurationRequest_keeps {s0 : State} (d3 : Option Bool) (s : State)
    (hs : Keeps s0 s) :
    KeepsOut s0 (execPcieConfigurationRequest d3 s) := by
  unfold execPcieConfigurationRequest
  with_reducible repeat' first
      | assumption | intro _ _ _ | intro _ _ | intro _ | apply Keeps.ite | apply KeepsOut.next | apply KeepsOut.ite
      | apply Keeps.getD | (fail_if_no_progress refine Keeps.upd ?_ rfl rfl rfl rfl rfl rfl) | dsimp only | split
      | apply Keeps.fst (by assumption) | apply Keeps.snd (by assumption) | apply Keeps.ofSome (by assumption)

theorem execTileClockStop_keeps {s0 : State} (t : TileId) (s : State)
    (hs : Keeps s0 s) :
    KeepsOut s0 (execTileClockStop t s) := by
  unfold execTileClockStop
  with_reducible repeat' first
      | assumption | intro _ _ _ | intro _ _ | intro _ | apply Keeps.ite | apply KeepsOut.next | apply KeepsOut.ite
      | apply State.setTile_keeps | (fail_if_no_progress refine Keeps.upd ?_ rfl rfl rfl rfl rfl rfl) | dsimp only
      | split | apply Keeps.fst (by assumption) | apply Keeps.snd (by assumption) | apply Keeps.ofSome (by assumption)

theorem execOperatingPointSelect_keeps {s0 : State} (p : PanelId) (i : Fin 4) (s : State)
    (hs : Keeps s0 s) :
    KeepsOut s0 (execOperatingPointSelect p i s) := by
  unfold execOperatingPointSelect
  with_reducible repeat' first
      | assumption | intro _ _ _ | intro _ _ | intro _ | apply Keeps.ite | apply KeepsOut.next | apply KeepsOut.ite
      | apply State.selectPoint_keeps | (fail_if_no_progress refine Keeps.upd ?_ rfl rfl rfl rfl rfl rfl) | dsimp only
      | split | apply Keeps.fst (by assumption) | apply Keeps.snd (by assumption) | apply Keeps.ofSome (by assumption)

theorem State.reachPoint_keeps {s0 : State} (s : State) (p : Nat)
    (hs : Keeps s0 s) :
    Keeps s0 (State.reachPoint s p) := by
  unfold State.reachPoint
  with_reducible repeat' first
      | assumption | intro _ _ _ | intro _ _ | intro _ | apply Keeps.ite | apply State.setFld_keeps
      | apply State.setBit_keeps | apply State.endPoint_keeps
      | (fail_if_no_progress refine Keeps.upd ?_ rfl rfl rfl rfl rfl rfl) | dsimp only | split
      | apply Keeps.fst (by assumption) | apply Keeps.snd (by assumption) | apply Keeps.ofSome (by assumption)

theorem execSupplyRampDone_keeps {s0 : State} (p : PanelId) (s : State)
    (hs : Keeps s0 s) :
    KeepsOut s0 (execSupplyRampDone p s) := by
  unfold execSupplyRampDone
  with_reducible repeat' first
      | assumption | intro _ _ _ | intro _ _ | intro _ | apply Keeps.ite | apply KeepsOut.next | apply KeepsOut.ite
      | apply State.setFld_keeps | apply State.setPanelClk_keeps | apply State.reachPoint_keeps
      | (fail_if_no_progress refine Keeps.upd ?_ rfl rfl rfl rfl rfl rfl) | dsimp only | split
      | apply Keeps.fst (by assumption) | apply Keeps.snd (by assumption) | apply Keeps.ofSome (by assumption)

theorem execClockPauseEnd_keeps {s0 : State} (p : PanelId) (s : State)
    (hs : Keeps s0 s) :
    KeepsOut s0 (execClockPauseEnd p s) := by
  unfold execClockPauseEnd
  with_reducible repeat' first
      | assumption | intro _ _ _ | intro _ _ | intro _ | apply Keeps.ite | apply KeepsOut.next | apply KeepsOut.ite
      | apply State.setFld_keeps | apply State.setPanelClk_keeps | apply State.reachPoint_keeps
      | (fail_if_no_progress refine Keeps.upd ?_ rfl rfl rfl rfl rfl rfl) | dsimp only | split
      | apply Keeps.fst (by assumption) | apply Keeps.snd (by assumption) | apply Keeps.ofSome (by assumption)

theorem State.enterIdle_keeps {s0 : State} (s : State)
    (hs : Keeps s0 s) :
    Keeps s0 (State.enterIdle s) := by
  unfold State.enterIdle
  with_reducible repeat' first
      | assumption | intro _ _ _ | intro _ _ | intro _ | apply Keeps.ite | apply State.wr_keeps
      | apply State.setBit_keeps | apply State.closePort_keeps | apply State.domainsOff_keeps | apply Keeps.foldl
      | apply Keeps.foldlFst | (fail_if_no_progress refine Keeps.upd ?_ rfl rfl rfl rfl rfl rfl) | dsimp only | split
      | apply Keeps.fst (by assumption) | apply Keeps.snd (by assumption) | apply Keeps.ofSome (by assumption)

theorem execDeepIdleEnter_keeps {s0 : State} (s : State)
    (hs : Keeps s0 s) :
    KeepsOut s0 (execDeepIdleEnter s) := by
  unfold execDeepIdleEnter
  with_reducible repeat' first
      | assumption | intro _ _ _ | intro _ _ | intro _ | apply Keeps.ite | apply KeepsOut.next | apply KeepsOut.ite
      | apply State.enterIdle_keeps | (fail_if_no_progress refine Keeps.upd ?_ rfl rfl rfl rfl rfl rfl) | dsimp only
      | split | apply Keeps.fst (by assumption) | apply Keeps.snd (by assumption) | apply Keeps.ofSome (by assumption)

theorem execDeepIdleLeave_keeps {s0 : State} (s : State)
    (hs : Keeps s0 s) :
    KeepsOut s0 (execDeepIdleLeave s) := by
  unfold execDeepIdleLeave
  with_reducible repeat' first
      | assumption | intro _ _ _ | intro _ _ | intro _ | apply Keeps.ite | apply KeepsOut.next | apply KeepsOut.ite
      | apply State.leaveIdle_keeps | (fail_if_no_progress refine Keeps.upd ?_ rfl rfl rfl rfl rfl rfl) | dsimp only
      | split | apply Keeps.fst (by assumption) | apply Keeps.snd (by assumption) | apply Keeps.ofSome (by assumption)

theorem execPowerDomainWakeDone_keeps {s0 : State} (d : Fin 30) (s : State)
    (hs : Keeps s0 s) :
    KeepsOut s0 (execPowerDomainWakeDone d s) := by
  unfold execPowerDomainWakeDone
  with_reducible repeat' first
      | assumption | intro _ _ _ | intro _ _ | intro _ | apply Keeps.ite | apply KeepsOut.next | apply KeepsOut.ite
      | apply State.domainUp_keeps | apply State.settlePanels_keeps | apply State.settleCmds_keeps
      | (fail_if_no_progress refine Keeps.upd ?_ rfl rfl rfl rfl rfl rfl) | dsimp only | split
      | apply Keeps.fst (by assumption) | apply Keeps.snd (by assumption) | apply Keeps.ofSome (by assumption)

theorem execComputeIdleOff_keeps {s0 : State} (p : PanelId) (s : State)
    (hs : Keeps s0 s) :
    KeepsOut s0 (execComputeIdleOff p s) := by
  unfold execComputeIdleOff
  with_reducible repeat' first
      | assumption | intro _ _ _ | intro _ _ | intro _ | apply Keeps.ite | apply KeepsOut.next | apply KeepsOut.ite
      | apply State.domainOff_keeps | (fail_if_no_progress refine Keeps.upd ?_ rfl rfl rfl rfl rfl rfl) | dsimp only
      | split | apply Keeps.fst (by assumption) | apply Keeps.snd (by assumption) | apply Keeps.ofSome (by assumption)

theorem State.requestCal_keeps {s0 : State} (s : State)
    (hs : Keeps s0 s) :
    Keeps s0 (State.requestCal s) := by
  unfold State.requestCal
  with_reducible repeat' first
      | assumption | intro _ _ _ | intro _ _ | intro _ | apply Keeps.ite
      | (fail_if_no_progress refine Keeps.upd ?_ rfl rfl rfl rfl rfl rfl) | dsimp only | split
      | apply Keeps.fst (by assumption) | apply Keeps.snd (by assumption) | apply Keeps.ofSome (by assumption)

theorem execCalCtrlSet_keeps {s0 : State} (s : State)
    (hs : Keeps s0 s) :
    KeepsOut s0 (execCalCtrlSet s) := by
  unfold execCalCtrlSet
  with_reducible repeat' first
      | assumption | intro _ _ _ | intro _ _ | intro _ | apply Keeps.ite | apply KeepsOut.next | apply KeepsOut.ite
      | apply State.requestCal_keeps | (fail_if_no_progress refine Keeps.upd ?_ rfl rfl rfl rfl rfl rfl) | dsimp only
      | split | apply Keeps.fst (by assumption) | apply Keeps.snd (by assumption) | apply Keeps.ofSome (by assumption)

theorem execCalSetLoad_keeps {s0 : State} (s : State)
    (hs : Keeps s0 s) :
    KeepsOut s0 (execCalSetLoad s) := by
  unfold execCalSetLoad
  with_reducible repeat' first
      | assumption | intro _ _ _ | intro _ _ | intro _ | apply Keeps.ite | apply KeepsOut.next | apply KeepsOut.ite
      | apply State.setBit_keeps | apply State.wr64_keeps
      | (fail_if_no_progress refine Keeps.upd ?_ rfl rfl rfl rfl rfl rfl) | dsimp only | split
      | apply Keeps.fst (by assumption) | apply Keeps.snd (by assumption) | apply Keeps.ofSome (by assumption)

theorem State.loseBackup_keeps {s0 : State} (s : State) (lost : Bool)
    (hs : Keeps s0 s) :
    Keeps s0 (State.loseBackup s lost) := by
  unfold State.loseBackup
  with_reducible repeat' first
      | assumption | intro _ _ _ | intro _ _ | intro _ | apply Keeps.ite | apply State.wr_keeps
      | apply State.setBit_keeps | apply State.forget_keeps
      | (fail_if_no_progress refine Keeps.upd ?_ rfl rfl rfl rfl rfl rfl) | dsimp only | split
      | apply Keeps.fst (by assumption) | apply Keeps.snd (by assumption) | apply Keeps.ofSome (by assumption)

theorem execSupercapacitorHoldLost_keeps {s0 : State} (s : State)
    (hs : Keeps s0 s) :
    KeepsOut s0 (execSupercapacitorHoldLost s) := by
  unfold execSupercapacitorHoldLost
  with_reducible repeat' first
      | assumption | intro _ _ _ | intro _ _ | intro _ | apply Keeps.ite | apply KeepsOut.next | apply KeepsOut.ite
      | apply State.loseBackup_keeps | (fail_if_no_progress refine Keeps.upd ?_ rfl rfl rfl rfl rfl rfl) | dsimp only
      | split | apply Keeps.fst (by assumption) | apply Keeps.snd (by assumption) | apply Keeps.ofSome (by assumption)

theorem execClkCtrClear_keeps {s0 : State} (s : State)
    (hs : Keeps s0 s) :
    KeepsOut s0 (execClkCtrClear s) := by
  unfold execClkCtrClear
  with_reducible repeat' first
      | assumption | intro _ _ _ | intro _ _ | intro _ | apply Keeps.ite | apply KeepsOut.next | apply KeepsOut.ite
      | apply State.clear_keeps | (fail_if_no_progress refine Keeps.upd ?_ rfl rfl rfl rfl rfl rfl) | dsimp only
      | split | apply Keeps.fst (by assumption) | apply Keeps.snd (by assumption) | apply Keeps.ofSome (by assumption)

theorem execPwrCtrClear_keeps {s0 : State} (s : State)
    (hs : Keeps s0 s) :
    KeepsOut s0 (execPwrCtrClear s) := by
  unfold execPwrCtrClear
  with_reducible repeat' first
      | assumption | intro _ _ _ | intro _ _ | intro _ | apply Keeps.ite | apply KeepsOut.next | apply KeepsOut.ite
      | apply State.clear_keeps | (fail_if_no_progress refine Keeps.upd ?_ rfl rfl rfl rfl rfl rfl) | dsimp only
      | split | apply Keeps.fst (by assumption) | apply Keeps.snd (by assumption) | apply Keeps.ofSome (by assumption)

theorem State.showSvn_keeps {s0 : State} (s : State)
    (hs : Keeps s0 s) :
    Keeps s0 (State.showSvn s) := by
  unfold State.showSvn
  with_reducible repeat' first
      | assumption | intro _ _ _ | intro _ _ | intro _ | apply Keeps.ite | apply State.setFld_keeps
      | (fail_if_no_progress refine Keeps.upd ?_ rfl rfl rfl rfl rfl rfl) | dsimp only | split
      | apply Keeps.fst (by assumption) | apply Keeps.snd (by assumption) | apply Keeps.ofSome (by assumption)

theorem State.startCollar_keeps {s0 : State} (s : State) (i : Nat)
    (hs : Keeps s0 s) :
    Keeps s0 (State.startCollar s i) := by
  unfold State.startCollar
  with_reducible repeat' first
      | assumption | intro _ _ _ | intro _ _ | intro _ | apply Keeps.ite | apply State.wr_keeps
      | apply State.setFld_keeps | apply State.showSvn_keeps
      | (fail_if_no_progress refine Keeps.upd ?_ rfl rfl rfl rfl rfl rfl) | dsimp only | split
      | apply Keeps.fst (by assumption) | apply Keeps.snd (by assumption) | apply Keeps.ofSome (by assumption)

theorem State.tellPartner_keeps {s0 : State} (s : State) (code : Nat)
    (hs : Keeps s0 s) :
    Keeps s0 (State.tellPartner s code) := by
  unfold State.tellPartner
  with_reducible repeat' first
      | assumption | intro _ _ _ | intro _ _ | intro _ | apply Keeps.ite | apply State.sendLost_keeps
      | apply Keeps.foldl | apply Keeps.foldlFst | (fail_if_no_progress refine Keeps.upd ?_ rfl rfl rfl rfl rfl rfl)
      | dsimp only | split | apply Keeps.fst (by assumption) | apply Keeps.snd (by assumption)
      | apply Keeps.ofSome (by assumption)

theorem State.lose_keeps {s0 : State} (s : State) (keep : Nat → Bool) (log : Bool)
    (hs : Keeps s0 s) :
    Keeps s0 (State.lose s keep log) := by
  unfold State.lose
  exact hs.memory rfl (fun _ => rfl) (fun _ => rfl) (fun h => h) rfl rfl

theorem State.beginBoot_keeps {s0 : State} (s : State) (kind : Nat)
    (hs : Keeps s0 s) :
    Keeps s0 (State.beginBoot s kind) := by
  unfold State.beginBoot
  with_reducible repeat' first
      | assumption | intro _ _ _ | intro _ _ | intro _ | apply Keeps.ite | apply State.wr_keeps
      | (fail_if_no_progress refine Keeps.upd ?_ rfl rfl rfl rfl rfl rfl) | dsimp only | split
      | apply Keeps.fst (by assumption) | apply Keeps.snd (by assumption) | apply Keeps.ofSome (by assumption)

theorem State.warmReset_keeps {s0 : State} (s : State)
    (hs : Keeps s0 s) :
    Keeps s0 (State.warmReset s) := by
  unfold State.warmReset
  with_reducible repeat' first
      | assumption | intro _ _ _ | intro _ _ | intro _ | apply Keeps.ite | apply State.setBit_keeps
      | apply State.tellPartner_keeps | apply State.lose_keeps | apply State.beginBoot_keeps
      | (fail_if_no_progress refine Keeps.upd ?_ rfl rfl rfl rfl rfl rfl) | dsimp only | split
      | apply Keeps.fst (by assumption) | apply Keeps.snd (by assumption) | apply Keeps.ofSome (by assumption)

theorem State.coldReset_keeps {s0 : State} (s : State)
    (hs : Keeps s0 s) :
    Keeps s0 (State.coldReset s) := by
  unfold State.coldReset
  with_reducible repeat' first
      | assumption | intro _ _ _ | intro _ _ | intro _ | apply Keeps.ite | apply State.loseBackup_keeps
      | apply State.tellPartner_keeps | apply State.lose_keeps | apply State.beginBoot_keeps
      | (fail_if_no_progress refine Keeps.upd ?_ rfl rfl rfl rfl rfl rfl) | dsimp only | split
      | apply Keeps.fst (by assumption) | apply Keeps.snd (by assumption) | apply Keeps.ofSome (by assumption)

theorem State.moduleStop_keeps {s0 : State} (s : State) (pages : Bool)
    (hs : Keeps s0 s) :
    Keeps s0 (State.moduleStop s pages) := by
  unfold State.moduleStop
  with_reducible repeat' first
      | assumption | intro _ _ _ | intro _ _ | intro _ | apply Keeps.ite | apply State.setSlot_keeps
      | apply State.pushRec_keeps | apply State.setFault_keeps | apply State.setPort_keeps | apply State.forward_keeps
      | apply State.sendJobStop_keeps | apply State.domainsOff_keeps | apply State.stopPartition_keeps
      | apply State.endCommit_keeps | apply State.rewritePage_keeps | apply State.tellPartner_keeps
      | apply Keeps.foldl | apply Keeps.foldlFst | (fail_if_no_progress refine Keeps.upd ?_ rfl rfl rfl rfl rfl rfl)
      | dsimp only | split | apply Keeps.fst (by assumption) | apply Keeps.snd (by assumption)
      | apply Keeps.ofSome (by assumption)

theorem State.rstRefused_keeps {s0 : State} (s : State)
    (hs : Keeps s0 s) :
    Keeps s0 (State.rstRefused s) := by
  unfold State.rstRefused
  with_reducible repeat' first
      | assumption | intro _ _ _ | intro _ _ | intro _ | apply Keeps.ite | apply State.setBit_keeps
      | (fail_if_no_progress refine Keeps.upd ?_ rfl rfl rfl rfl rfl rfl) | dsimp only | split
      | apply Keeps.fst (by assumption) | apply Keeps.snd (by assumption) | apply Keeps.ofSome (by assumption)

theorem State.rstCtrl_keeps {s0 : State} (s : State) (key : BitVec 16) (k : Nat) (f : State → State)
    (hs : Keeps s0 s) (hf : ∀ (x0 : State), Keeps s0 x0 → Keeps s0 (f x0)) :
    Keeps s0 (State.rstCtrl s key k f) := by
  unfold State.rstCtrl
  with_reducible repeat' first
      | assumption | intro _ _ _ | intro _ _ | intro _ | apply Keeps.ite | apply State.rstRefused_keeps | apply hf
      | (fail_if_no_progress refine Keeps.upd ?_ rfl rfl rfl rfl rfl rfl) | dsimp only | split
      | apply Keeps.fst (by assumption) | apply Keeps.snd (by assumption) | apply Keeps.ofSome (by assumption)

theorem execRailRise_keeps {s0 : State} (s : State)
    (hs : Keeps s0 s) :
    KeepsOut s0 (execRailRise s) := by
  unfold execRailRise
  with_reducible repeat' first
      | assumption | intro _ _ _ | intro _ _ | intro _ | apply Keeps.ite | apply KeepsOut.next | apply KeepsOut.ite
      | apply State.setBit_keeps | apply State.beginBoot_keeps
      | (fail_if_no_progress refine Keeps.upd ?_ rfl rfl rfl rfl rfl rfl) | dsimp only | split
      | apply Keeps.fst (by assumption) | apply Keeps.snd (by assumption) | apply Keeps.ofSome (by assumption)

theorem execConversionStop_keeps {s0 : State} (_high : Bool) (s : State)
    (hs : Keeps s0 s) :
    KeepsOut s0 (execConversionStop _high s) := by
  unfold execConversionStop
  with_reducible repeat' first
      | assumption | intro _ _ _ | intro _ _ | intro _ | apply Keeps.ite | apply KeepsOut.next | apply KeepsOut.ite
      | apply State.setBit_keeps | apply State.lose_keeps | apply State.moduleStop_keeps
      | (fail_if_no_progress refine Keeps.upd ?_ rfl rfl rfl rfl rfl rfl) | dsimp only | split
      | apply Keeps.fst (by assumption) | apply Keeps.snd (by assumption) | apply Keeps.ofSome (by assumption)

theorem State.bootFuses_keeps {s0 : State} (s : State)
    (hs : Keeps s0 s) :
    Keeps s0 (State.bootFuses s) := by
  unfold State.bootFuses
  with_reducible repeat' first
      | assumption | intro _ _ _ | intro _ _ | intro _ | apply Keeps.ite | apply State.wr_keeps
      | apply State.setFld_keeps | apply State.setBit_keeps | apply Keeps.foldl | apply Keeps.foldlFst
      | (fail_if_no_progress refine Keeps.upd ?_ rfl rfl rfl rfl rfl rfl) | dsimp only | split
      | apply Keeps.fst (by assumption) | apply Keeps.snd (by assumption) | apply Keeps.ofSome (by assumption)

theorem State.bootVerify_keeps {s0 : State} (s : State)
    (hs : Keeps s0 s) :
    Keeps s0 (State.bootVerify s) := by
  unfold State.bootVerify
  with_reducible repeat' first
      | assumption | intro _ _ _ | intro _ _ | intro _ | apply Keeps.ite | apply State.setFld_keeps
      | apply State.setBit_keeps | apply State.put_keeps
      | (fail_if_no_progress refine Keeps.upd ?_ rfl rfl rfl rfl rfl rfl) | dsimp only | split
      | apply Keeps.fst (by assumption) | apply Keeps.snd (by assumption) | apply Keeps.ofSome (by assumption)

theorem State.bootTiles_keeps {s0 : State} (s : State)
    (hs : Keeps s0 s) :
    Keeps s0 (State.bootTiles s) := by
  have hn : Memory.wf [] = true := rfl
  unfold State.bootTiles
  dsimp only
  refine State.settlePanels_keeps _ ?_
  have h1 := Keeps.foldl (s0 := s0) _ (fun s x h => State.wr_keeps s (Reg.pocketStatus x) 0x40 h) (List.range 256)
    (Keeps.foldl _ (fun s x h => State.domainUp_keeps s x h) ((List.range 12).map (· + 5)) hs)
  generalize (List.range 256).foldl _ _ = u at h1 ⊢
  exact h1.memory rfl (fun _ => hn) (fun _ => hn) (fun h => h) rfl rfl

theorem State.bootStep_keeps {s0 : State} (s : State) (n : Nat)
    (hs : Keeps s0 s) :
    Keeps s0 (State.bootStep s n) := by
  unfold State.bootStep
  with_reducible repeat' first
      | assumption | intro _ _ _ | intro _ _ | intro _ | apply Keeps.ite | apply State.wr_keeps
      | apply State.setFld_keeps | apply State.domainUp_keeps | apply State.settleCmds_keeps
      | apply State.startCollar_keeps | apply State.bootFuses_keeps | apply State.bootVerify_keeps
      | apply State.bootTiles_keeps | apply Keeps.foldl | apply Keeps.foldlFst
      | (fail_if_no_progress refine Keeps.upd ?_ rfl rfl rfl rfl rfl rfl) | dsimp only | split
      | apply Keeps.fst (by assumption) | apply Keeps.snd (by assumption) | apply Keeps.ofSome (by assumption)

theorem execBootStepComplete_keeps {s0 : State} (s : State)
    (hs : Keeps s0 s) :
    KeepsOut s0 (execBootStepComplete s) := by
  unfold execBootStepComplete
  with_reducible repeat' first
      | assumption | intro _ _ _ | intro _ _ | intro _ | apply Keeps.ite | apply KeepsOut.next | apply KeepsOut.ite
      | apply State.bootStep_keeps | (fail_if_no_progress refine Keeps.upd ?_ rfl rfl rfl rfl rfl rfl) | dsimp only
      | split | apply Keeps.fst (by assumption) | apply Keeps.snd (by assumption) | apply Keeps.ofSome (by assumption)

theorem execCollarHangTimeout_keeps {s0 : State} (s : State)
    (hs : Keeps s0 s) :
    KeepsOut s0 (execCollarHangTimeout s) := by
  unfold execCollarHangTimeout
  with_reducible repeat' first
      | assumption | intro _ _ _ | intro _ _ | intro _ | apply Keeps.ite | apply KeepsOut.next | apply KeepsOut.ite
      | apply State.warmReset_keeps | (fail_if_no_progress refine Keeps.upd ?_ rfl rfl rfl rfl rfl rfl) | dsimp only
      | split | apply Keeps.fst (by assumption) | apply Keeps.snd (by assumption) | apply Keeps.ofSome (by assumption)

theorem State.recoveryGo_keeps {s0 : State} (s : State)
    (hs : Keeps s0 s) :
    Keeps s0 (State.recoveryGo s) := by
  unfold State.recoveryGo
  with_reducible repeat' first
      | assumption | intro _ _ _ | intro _ _ | intro _ | apply Keeps.ite
      | (fail_if_no_progress refine Keeps.upd ?_ rfl rfl rfl rfl rfl rfl) | dsimp only | split
      | apply Keeps.fst (by assumption) | apply Keeps.snd (by assumption) | apply Keeps.ofSome (by assumption)

theorem execBootRecoveryGo_keeps {s0 : State} (s : State)
    (hs : Keeps s0 s) :
    KeepsOut s0 (execBootRecoveryGo s) := by
  unfold execBootRecoveryGo
  with_reducible repeat' first
      | assumption | intro _ _ _ | intro _ _ | intro _ | apply Keeps.ite | apply KeepsOut.next | apply KeepsOut.ite
      | apply State.recoveryGo_keeps | (fail_if_no_progress refine Keeps.upd ?_ rfl rfl rfl rfl rfl rfl) | dsimp only
      | split | apply Keeps.fst (by assumption) | apply Keeps.snd (by assumption) | apply Keeps.ofSome (by assumption)

theorem execRecoveryImageVerified_keeps {s0 : State} (img : List Byte) (s : State)
    (hs : Keeps s0 s) :
    KeepsOut s0 (execRecoveryImageVerified img s) := by
  unfold execRecoveryImageVerified
  with_reducible repeat' first
      | assumption | intro _ _ _ | intro _ _ | intro _ | apply Keeps.ite | apply KeepsOut.next | apply KeepsOut.ite
      | apply State.setFld_keeps | apply State.warmReset_keeps
      | (fail_if_no_progress refine Keeps.upd ?_ rfl rfl rfl rfl rfl rfl) | dsimp only | split
      | apply Keeps.fst (by assumption) | apply Keeps.snd (by assumption) | apply Keeps.ofSome (by assumption)

theorem State.fwGo_keeps {s0 : State} (s : State)
    (hs : Keeps s0 s) :
    Keeps s0 (State.fwGo s) := by
  unfold State.fwGo
  with_reducible repeat' first
      | assumption | intro _ _ _ | intro _ _ | intro _ | apply Keeps.ite | apply State.setFld_keeps
      | apply State.setBit_keeps | (fail_if_no_progress refine Keeps.upd ?_ rfl rfl rfl rfl rfl rfl) | dsimp only
      | split | apply Keeps.fst (by assumption) | apply Keeps.snd (by assumption) | apply Keeps.ofSome (by assumption)

theorem execFwUpdateGo_keeps {s0 : State} (s : State)
    (hs : Keeps s0 s) :
    KeepsOut s0 (execFwUpdateGo s) := by
  unfold execFwUpdateGo
  with_reducible repeat' first
      | assumption | intro _ _ _ | intro _ _ | intro _ | apply Keeps.ite | apply KeepsOut.next | apply KeepsOut.ite
      | apply State.fwGo_keeps | (fail_if_no_progress refine Keeps.upd ?_ rfl rfl rfl rfl rfl rfl) | dsimp only
      | split | apply Keeps.fst (by assumption) | apply Keeps.snd (by assumption) | apply Keeps.ofSome (by assumption)

theorem execFwUpdateVerified_keeps {s0 : State} (img : List Byte) (s : State)
    (hs : Keeps s0 s) :
    KeepsOut s0 (execFwUpdateVerified img s) := by
  unfold execFwUpdateVerified
  with_reducible repeat' first
      | assumption | intro _ _ _ | intro _ _ | intro _ | apply Keeps.ite | apply KeepsOut.next | apply KeepsOut.ite
      | apply State.setFld_keeps | (fail_if_no_progress refine Keeps.upd ?_ rfl rfl rfl rfl rfl rfl) | dsimp only
      | split | apply Keeps.fst (by assumption) | apply Keeps.snd (by assumption) | apply Keeps.ofSome (by assumption)

theorem execFirmwareActivate_keeps {s0 : State} (armed : Bool) (s : State)
    (hs : Keeps s0 s) :
    KeepsOut s0 (execFirmwareActivate armed s) := by
  unfold execFirmwareActivate
  with_reducible repeat' first
      | assumption | intro _ _ _ | intro _ _ | intro _ | apply Keeps.ite | apply KeepsOut.next | apply KeepsOut.ite
      | apply State.setBit_keeps | apply State.startCollar_keeps
      | (fail_if_no_progress refine Keeps.upd ?_ rfl rfl rfl rfl rfl rfl) | dsimp only | split
      | apply Keeps.fst (by assumption) | apply Keeps.snd (by assumption) | apply Keeps.ofSome (by assumption)

theorem State.svnCommit_keeps {s0 : State} (s : State) (v : Word)
    (hs : Keeps s0 s) :
    Keeps s0 (State.svnCommit s v) := by
  unfold State.svnCommit
  refine Keeps.ite hs ?_
  dsimp only
  by_cases hc : (([0, 1] : List Nat).all (fun i => s.verifyFw (s.fwSlot i) == fwOk &&
      Decidable.decide (leNat (((s.fwSlot s.fwActive).drop 8).take 1) ≤ leNat (((s.fwSlot i).drop 8).take 1)))) = true
  · rw [if_pos hc]
    refine State.showSvn_keeps _ ?_
    have hv : s.verifyFw (s.fwSlot s.fwActive) = fwOk := by
      have h2 : s.fwActive = 0 ∨ s.fwActive = 1 := by
        have : s.fwActive < 2 := Nat.mod_lt _ (by decide)
        omega
      simp only [List.all_cons, List.all_nil, Bool.and_true, Bool.and_eq_true, beq_iff_eq] at hc
      rcases h2 with h2 | h2 <;> rw [h2]
      · exact hc.1.1
      · exact hc.2.1
    have hle : s.svnMin ≤ leNat (((s.fwSlot s.fwActive).drop 8).take 1) := by
      by_contra hlt
      revert hv
      unfold State.verifyFw
      dsimp only
      repeat' split
      all_goals first | decide | (intro _; omega)
    refine ⟨hs.1, hs.2, ?_, ?_⟩
    · exact le_trans hs.3.1 hle
    · intro i hi
      dsimp only
      have := hs.3.2 i hi
      split
      · simp [this]
      · exact this
  · rw [if_neg hc]
    exact State.setBit_keeps _ _ _ _ hs

theorem execSvnCommit_keeps {s0 : State} (v : Word) (s : State)
    (hs : Keeps s0 s) :
    KeepsOut s0 (execSvnCommit v s) := by
  unfold execSvnCommit
  with_reducible repeat' first
      | assumption | intro _ _ _ | intro _ _ | intro _ | apply Keeps.ite | apply KeepsOut.next | apply KeepsOut.ite
      | apply State.svnCommit_keeps | (fail_if_no_progress refine Keeps.upd ?_ rfl rfl rfl rfl rfl rfl) | dsimp only
      | split | apply Keeps.fst (by assumption) | apply Keeps.snd (by assumption) | apply Keeps.ofSome (by assumption)

theorem execSecKeyGo_keeps {s0 : State} (rec' : List Byte) (s : State)
    (hs : Keeps s0 s) :
    KeepsOut s0 (execSecKeyGo rec' s) := by
  unfold execSecKeyGo
  with_reducible repeat' first
      | assumption | intro _ _ _ | intro _ _ | intro _ | apply Keeps.ite | apply KeepsOut.next | apply KeepsOut.ite
      | apply State.wr_keeps | apply State.setFld_keeps | apply Keeps.foldl | apply Keeps.foldlFst
      | (fail_if_no_progress refine Keeps.upd ?_ rfl rfl rfl rfl rfl rfl) | dsimp only | split
      | apply Keeps.fst (by assumption) | apply Keeps.snd (by assumption) | apply Keeps.ofSome (by assumption)

theorem State.rstTile_keeps {s0 : State} (s : State) (key : BitVec 16) (t : Nat)
    (hs : Keeps s0 s) :
    Keeps s0 (State.rstTile s key t) := by
  unfold State.rstTile
  with_reducible repeat' first
      | assumption | intro _ _ _ | intro _ _ | intro _ | apply Keeps.ite | apply State.setFld_keeps
      | apply State.tileReset_keeps | apply State.rstRefused_keeps | apply State.rstCtrl_keeps
      | (fail_if_no_progress refine Keeps.upd ?_ rfl rfl rfl rfl rfl rfl) | dsimp only | split
      | apply Keeps.fst (by assumption) | apply Keeps.snd (by assumption) | apply Keeps.ofSome (by assumption)

theorem execTileReset_keeps {s0 : State} (key : BitVec 16) (t : TileId) (s : State)
    (hs : Keeps s0 s) :
    KeepsOut s0 (execTileReset key t s) := by
  unfold execTileReset
  with_reducible repeat' first
      | assumption | intro _ _ _ | intro _ _ | intro _ | apply Keeps.ite | apply KeepsOut.next | apply KeepsOut.ite
      | apply State.rstTile_keeps | (fail_if_no_progress refine Keeps.upd ?_ rfl rfl rfl rfl rfl rfl) | dsimp only
      | split | apply Keeps.fst (by assumption) | apply Keeps.snd (by assumption) | apply Keeps.ofSome (by assumption)

theorem State.rstPart_keeps {s0 : State} (s : State) (key : BitVec 16) (q : Nat)
    (hs : Keeps s0 s) :
    Keeps s0 (State.rstPart s key q) := by
  unfold State.rstPart
  with_reducible repeat' first
      | assumption | intro _ _ _ | intro _ _ | intro _ | apply Keeps.ite | apply State.setFld_keeps
      | apply State.killSlot_keeps | apply State.rstRefused_keeps | apply State.rstCtrl_keeps
      | (fail_if_no_progress refine Keeps.upd ?_ rfl rfl rfl rfl rfl rfl) | dsimp only | split
      | apply Keeps.fst (by assumption) | apply Keeps.snd (by assumption) | apply Keeps.ofSome (by assumption)

theorem execPartitionReset_keeps {s0 : State} (key : BitVec 16) (q : PartId) (s : State)
    (hs : Keeps s0 s) :
    KeepsOut s0 (execPartitionReset key q s) := by
  unfold execPartitionReset
  with_reducible repeat' first
      | assumption | intro _ _ _ | intro _ _ | intro _ | apply Keeps.ite | apply KeepsOut.next | apply KeepsOut.ite
      | apply State.settleCmds_keeps | apply State.rstPart_keeps
      | (fail_if_no_progress refine Keeps.upd ?_ rfl rfl rfl rfl rfl rfl) | dsimp only | split
      | apply Keeps.fst (by assumption) | apply Keeps.snd (by assumption) | apply Keeps.ofSome (by assumption)

theorem execWarmModuleReset_keeps {s0 : State} (key : BitVec 16) (s : State)
    (hs : Keeps s0 s) :
    KeepsOut s0 (execWarmModuleReset key s) := by
  unfold execWarmModuleReset
  with_reducible repeat' first
      | assumption | intro _ _ _ | intro _ _ | intro _ | apply Keeps.ite | apply KeepsOut.next | apply KeepsOut.ite
      | apply State.warmReset_keeps | apply State.rstCtrl_keeps
      | (fail_if_no_progress refine Keeps.upd ?_ rfl rfl rfl rfl rfl rfl) | dsimp only | split
      | apply Keeps.fst (by assumption) | apply Keeps.snd (by assumption) | apply Keeps.ofSome (by assumption)

theorem execColdReset_keeps {s0 : State} (key : BitVec 16) (s : State)
    (hs : Keeps s0 s) :
    KeepsOut s0 (execColdReset key s) := by
  unfold execColdReset
  with_reducible repeat' first
      | assumption | intro _ _ _ | intro _ _ | intro _ | apply Keeps.ite | apply KeepsOut.next | apply KeepsOut.ite
      | apply State.coldReset_keeps | apply State.rstCtrl_keeps
      | (fail_if_no_progress refine Keeps.upd ?_ rfl rfl rfl rfl rfl rfl) | dsimp only | split
      | apply Keeps.fst (by assumption) | apply Keeps.snd (by assumption) | apply Keeps.ofSome (by assumption)

theorem State.freePoints_keeps {s0 : State} (s : State) (tiles : Nat)
    (hs : Keeps s0 s) :
    Keeps s0 (State.freePoints s tiles) := by
  unfold State.freePoints
  with_reducible repeat' first
      | assumption | intro _ _ _ | intro _ _ | intro _ | apply Keeps.ite | apply State.toReset_keeps
      | apply State.selectPoint_keeps | apply Keeps.foldl | apply Keeps.foldlFst
      | (fail_if_no_progress refine Keeps.upd ?_ rfl rfl rfl rfl rfl rfl) | dsimp only | split
      | apply Keeps.fst (by assumption) | apply Keeps.snd (by assumption) | apply Keeps.ofSome (by assumption)

theorem execPartitionResetDone_keeps {s0 : State} (q : PartId) (s : State)
    (hs : Keeps s0 s) :
    KeepsOut s0 (execPartitionResetDone q s) := by
  unfold execPartitionResetDone
  with_reducible repeat' first
      | assumption | intro _ _ _ | intro _ _ | intro _ | apply Keeps.ite | apply KeepsOut.next | apply KeepsOut.ite
      | apply State.setBit_keeps | apply State.setSlot_keeps | apply State.forget_keeps
      | apply State.settlePanels_keeps | apply State.settleCmds_keeps | apply State.freePoints_keeps
      | (fail_if_no_progress refine Keeps.upd ?_ rfl rfl rfl rfl rfl rfl) | dsimp only | split
      | apply Keeps.fst (by assumption) | apply Keeps.snd (by assumption) | apply Keeps.ofSome (by assumption)

theorem State.resetPin_keeps {s0 : State} (s : State) (low held : Bool) (us : Nat) (hold : State → Bool → State) (reset : State → State)
    (hs : Keeps s0 s) (hhold : ∀ (x0 : State) (x1 : Bool), Keeps s0 x0 → Keeps s0 (hold x0 x1)) (hreset : ∀ (x0 : State), Keeps s0 x0 → Keeps s0 (reset x0)) :
    Keeps s0 (State.resetPin s low held us hold reset) := by
  unfold State.resetPin
  with_reducible repeat' first
      | assumption | intro _ _ _ | intro _ _ | intro _ | apply Keeps.ite | apply hhold | apply hreset
      | (fail_if_no_progress refine Keeps.upd ?_ rfl rfl rfl rfl rfl rfl) | dsimp only | split
      | apply Keeps.fst (by assumption) | apply Keeps.snd (by assumption) | apply Keeps.ofSome (by assumption)

theorem execWarmRstPin_keeps {s0 : State} (low : Bool) (us : Nat) (s : State)
    (hs : Keeps s0 s) :
    KeepsOut s0 (execWarmRstPin low us s) := by
  unfold execWarmRstPin
  with_reducible repeat' first
      | assumption | intro _ _ _ | intro _ _ | intro _ | apply Keeps.ite | apply KeepsOut.next | apply KeepsOut.ite
      | apply State.warmReset_keeps | apply State.resetPin_keeps
      | (fail_if_no_progress refine Keeps.upd ?_ rfl rfl rfl rfl rfl rfl) | dsimp only | split
      | apply Keeps.fst (by assumption) | apply Keeps.snd (by assumption) | apply Keeps.ofSome (by assumption)

theorem execColdRstPin_keeps {s0 : State} (low : Bool) (us : Nat) (s : State)
    (hs : Keeps s0 s) :
    KeepsOut s0 (execColdRstPin low us s) := by
  unfold execColdRstPin
  with_reducible repeat' first
      | assumption | intro _ _ _ | intro _ _ | intro _ | apply Keeps.ite | apply KeepsOut.next | apply KeepsOut.ite
      | apply State.coldReset_keeps | apply State.resetPin_keeps
      | (fail_if_no_progress refine Keeps.upd ?_ rfl rfl rfl rfl rfl rfl) | dsimp only | split
      | apply Keeps.fst (by assumption) | apply Keeps.snd (by assumption) | apply Keeps.ofSome (by assumption)

theorem State.pmb_keeps {s0 : State} (s : State) (f : State → State)
    (hs : Keeps s0 s) (hf : ∀ (x0 : State), Keeps s0 x0 → Keeps s0 (f x0)) :
    Keeps s0 (State.pmb s f) := by
  unfold State.pmb
  with_reducible repeat' first
      | assumption | intro _ _ _ | intro _ _ | intro _ | apply Keeps.ite | apply hf
      | (fail_if_no_progress refine Keeps.upd ?_ rfl rfl rfl rfl rfl rfl) | dsimp only | split
      | apply Keeps.fst (by assumption) | apply Keeps.snd (by assumption) | apply Keeps.ofSome (by assumption)

theorem State.answerBytes_keeps {s0 : State} (s : State) (bs : List Byte)
    (hs : Keeps s0 s) :
    Keeps s0 (State.answerBytes s bs) := by
  unfold State.answerBytes
  with_reducible repeat' first
      | assumption | intro _ _ _ | intro _ _ | intro _ | apply Keeps.ite
      | (fail_if_no_progress refine Keeps.upd ?_ rfl rfl rfl rfl rfl rfl) | dsimp only | split
      | apply Keeps.fst (by assumption) | apply Keeps.snd (by assumption) | apply Keeps.ofSome (by assumption)

theorem execClearFaults_keeps {s0 : State} (s : State)
    (hs : Keeps s0 s) :
    KeepsOut s0 (execClearFaults s) := by
  unfold execClearFaults
  with_reducible repeat' first
      | assumption | intro _ _ _ | intro _ _ | intro _ | apply Keeps.ite | apply KeepsOut.next | apply KeepsOut.ite
      | apply State.pmb_keeps | (fail_if_no_progress refine Keeps.upd ?_ rfl rfl rfl rfl rfl rfl) | dsimp only | split
      | apply Keeps.fst (by assumption) | apply Keeps.snd (by assumption) | apply Keeps.ofSome (by assumption)

theorem execCapability_keeps {s0 : State} (s : State)
    (hs : Keeps s0 s) :
    KeepsOut s0 (execCapability s) := by
  unfold execCapability
  with_reducible repeat' first
      | assumption | intro _ _ _ | intro _ _ | intro _ | apply Keeps.ite | apply KeepsOut.next | apply KeepsOut.ite
      | apply State.pmb_keeps | apply State.answerBytes_keeps
      | (fail_if_no_progress refine Keeps.upd ?_ rfl rfl rfl rfl rfl rfl) | dsimp only | split
      | apply Keeps.fst (by assumption) | apply Keeps.snd (by assumption) | apply Keeps.ofSome (by assumption)

theorem execStatusWord_keeps {s0 : State} (s : State)
    (hs : Keeps s0 s) :
    KeepsOut s0 (execStatusWord s) := by
  unfold execStatusWord
  with_reducible repeat' first
      | assumption | intro _ _ _ | intro _ _ | intro _ | apply Keeps.ite | apply KeepsOut.next | apply KeepsOut.ite
      | apply State.pmb_keeps | apply State.answerBytes_keeps
      | (fail_if_no_progress refine Keeps.upd ?_ rfl rfl rfl rfl rfl rfl) | dsimp only | split
      | apply Keeps.fst (by assumption) | apply Keeps.snd (by assumption) | apply Keeps.ofSome (by assumption)

theorem execStatusInput_keeps {s0 : State} (s : State)
    (hs : Keeps s0 s) :
    KeepsOut s0 (execStatusInput s) := by
  unfold execStatusInput
  with_reducible repeat' first
      | assumption | intro _ _ _ | intro _ _ | intro _ | apply Keeps.ite | apply KeepsOut.next | apply KeepsOut.ite
      | apply State.pmb_keeps | apply State.answerBytes_keeps
      | (fail_if_no_progress refine Keeps.upd ?_ rfl rfl rfl rfl rfl rfl) | dsimp only | split
      | apply Keeps.fst (by assumption) | apply Keeps.snd (by assumption) | apply Keeps.ofSome (by assumption)

theorem execStatusTemperature_keeps {s0 : State} (s : State)
    (hs : Keeps s0 s) :
    KeepsOut s0 (execStatusTemperature s) := by
  unfold execStatusTemperature
  with_reducible repeat' first
      | assumption | intro _ _ _ | intro _ _ | intro _ | apply Keeps.ite | apply KeepsOut.next | apply KeepsOut.ite
      | apply State.pmb_keeps | apply State.answerBytes_keeps
      | (fail_if_no_progress refine Keeps.upd ?_ rfl rfl rfl rfl rfl rfl) | dsimp only | split
      | apply Keeps.fst (by assumption) | apply Keeps.snd (by assumption) | apply Keeps.ofSome (by assumption)

theorem execStatusCml_keeps {s0 : State} (s : State)
    (hs : Keeps s0 s) :
    KeepsOut s0 (execStatusCml s) := by
  unfold execStatusCml
  with_reducible repeat' first
      | assumption | intro _ _ _ | intro _ _ | intro _ | apply Keeps.ite | apply KeepsOut.next | apply KeepsOut.ite
      | apply State.pmb_keeps | apply State.answerBytes_keeps
      | (fail_if_no_progress refine Keeps.upd ?_ rfl rfl rfl rfl rfl rfl) | dsimp only | split
      | apply Keeps.fst (by assumption) | apply Keeps.snd (by assumption) | apply Keeps.ofSome (by assumption)

theorem execReadVin_keeps {s0 : State} (s : State)
    (hs : Keeps s0 s) :
    KeepsOut s0 (execReadVin s) := by
  unfold execReadVin
  with_reducible repeat' first
      | assumption | intro _ _ _ | intro _ _ | intro _ | apply Keeps.ite | apply KeepsOut.next | apply KeepsOut.ite
      | apply State.pmb_keeps | apply State.answerBytes_keeps
      | (fail_if_no_progress refine Keeps.upd ?_ rfl rfl rfl rfl rfl rfl) | dsimp only | split
      | apply Keeps.fst (by assumption) | apply Keeps.snd (by assumption) | apply Keeps.ofSome (by assumption)

theorem execReadIin_keeps {s0 : State} (s : State)
    (hs : Keeps s0 s) :
    KeepsOut s0 (execReadIin s) := by
  unfold execReadIin
  with_reducible repeat' first
      | assumption | intro _ _ _ | intro _ _ | intro _ | apply Keeps.ite | apply KeepsOut.next | apply KeepsOut.ite
      | apply State.pmb_keeps | apply State.answerBytes_keeps
      | (fail_if_no_progress refine Keeps.upd ?_ rfl rfl rfl rfl rfl rfl) | dsimp only | split
      | apply Keeps.fst (by assumption) | apply Keeps.snd (by assumption) | apply Keeps.ofSome (by assumption)

theorem execReadTemperature1_keeps {s0 : State} (s : State)
    (hs : Keeps s0 s) :
    KeepsOut s0 (execReadTemperature1 s) := by
  unfold execReadTemperature1
  with_reducible repeat' first
      | assumption | intro _ _ _ | intro _ _ | intro _ | apply Keeps.ite | apply KeepsOut.next | apply KeepsOut.ite
      | apply State.pmb_keeps | apply State.answerBytes_keeps
      | (fail_if_no_progress refine Keeps.upd ?_ rfl rfl rfl rfl rfl rfl) | dsimp only | split
      | apply Keeps.fst (by assumption) | apply Keeps.snd (by assumption) | apply Keeps.ofSome (by assumption)

theorem execReadTemperature2_keeps {s0 : State} (s : State)
    (hs : Keeps s0 s) :
    KeepsOut s0 (execReadTemperature2 s) := by
  unfold execReadTemperature2
  with_reducible repeat' first
      | assumption | intro _ _ _ | intro _ _ | intro _ | apply Keeps.ite | apply KeepsOut.next | apply KeepsOut.ite
      | apply State.pmb_keeps | apply State.answerBytes_keeps
      | (fail_if_no_progress refine Keeps.upd ?_ rfl rfl rfl rfl rfl rfl) | dsimp only | split
      | apply Keeps.fst (by assumption) | apply Keeps.snd (by assumption) | apply Keeps.ofSome (by assumption)

theorem execReadPin_keeps {s0 : State} (s : State)
    (hs : Keeps s0 s) :
    KeepsOut s0 (execReadPin s) := by
  unfold execReadPin
  with_reducible repeat' first
      | assumption | intro _ _ _ | intro _ _ | intro _ | apply Keeps.ite | apply KeepsOut.next | apply KeepsOut.ite
      | apply State.pmb_keeps | apply State.answerBytes_keeps
      | (fail_if_no_progress refine Keeps.upd ?_ rfl rfl rfl rfl rfl rfl) | dsimp only | split
      | apply Keeps.fst (by assumption) | apply Keeps.snd (by assumption) | apply Keeps.ofSome (by assumption)

theorem execPmbusRevision_keeps {s0 : State} (s : State)
    (hs : Keeps s0 s) :
    KeepsOut s0 (execPmbusRevision s) := by
  unfold execPmbusRevision
  with_reducible repeat' first
      | assumption | intro _ _ _ | intro _ _ | intro _ | apply Keeps.ite | apply KeepsOut.next | apply KeepsOut.ite
      | apply State.pmb_keeps | apply State.answerBytes_keeps
      | (fail_if_no_progress refine Keeps.upd ?_ rfl rfl rfl rfl rfl rfl) | dsimp only | split
      | apply Keeps.fst (by assumption) | apply Keeps.snd (by assumption) | apply Keeps.ofSome (by assumption)

theorem execMfrId_keeps {s0 : State} (s : State)
    (hs : Keeps s0 s) :
    KeepsOut s0 (execMfrId s) := by
  unfold execMfrId
  with_reducible repeat' first
      | assumption | intro _ _ _ | intro _ _ | intro _ | apply Keeps.ite | apply KeepsOut.next | apply KeepsOut.ite
      | apply State.pmb_keeps | apply State.answerBytes_keeps
      | (fail_if_no_progress refine Keeps.upd ?_ rfl rfl rfl rfl rfl rfl) | dsimp only | split
      | apply Keeps.fst (by assumption) | apply Keeps.snd (by assumption) | apply Keeps.ofSome (by assumption)

theorem execMfrModel_keeps {s0 : State} (s : State)
    (hs : Keeps s0 s) :
    KeepsOut s0 (execMfrModel s) := by
  unfold execMfrModel
  with_reducible repeat' first
      | assumption | intro _ _ _ | intro _ _ | intro _ | apply Keeps.ite | apply KeepsOut.next | apply KeepsOut.ite
      | apply State.pmb_keeps | apply State.answerBytes_keeps
      | (fail_if_no_progress refine Keeps.upd ?_ rfl rfl rfl rfl rfl rfl) | dsimp only | split
      | apply Keeps.fst (by assumption) | apply Keeps.snd (by assumption) | apply Keeps.ofSome (by assumption)

theorem execMfrSerial_keeps {s0 : State} (s : State)
    (hs : Keeps s0 s) :
    KeepsOut s0 (execMfrSerial s) := by
  unfold execMfrSerial
  with_reducible repeat' first
      | assumption | intro _ _ _ | intro _ _ | intro _ | apply Keeps.ite | apply KeepsOut.next | apply KeepsOut.ite
      | apply State.pmb_keeps | apply State.answerBytes_keeps
      | (fail_if_no_progress refine Keeps.upd ?_ rfl rfl rfl rfl rfl rfl) | dsimp only | split
      | apply Keeps.fst (by assumption) | apply Keeps.snd (by assumption) | apply Keeps.ofSome (by assumption)

theorem execPmbusUnsupportedCommand_keeps {s0 : State} (code : BitVec 8) (s : State)
    (hs : Keeps s0 s) :
    KeepsOut s0 (execPmbusUnsupportedCommand code s) := by
  unfold execPmbusUnsupportedCommand
  with_reducible repeat' first
      | assumption | intro _ _ _ | intro _ _ | intro _ | apply Keeps.ite | apply KeepsOut.next | apply KeepsOut.ite
      | apply State.pmb_keeps | (fail_if_no_progress refine Keeps.upd ?_ rfl rfl rfl rfl rfl rfl) | dsimp only | split
      | apply Keeps.fst (by assumption) | apply Keeps.snd (by assumption) | apply Keeps.ofSome (by assumption)

theorem execPmbusTelemetryRefresh_keeps {s0 : State} (x : Telemetry) (s : State)
    (hs : Keeps s0 s) :
    KeepsOut s0 (execPmbusTelemetryRefresh x s) := by
  unfold execPmbusTelemetryRefresh
  with_reducible repeat' first
      | assumption | intro _ _ _ | intro _ _ | intro _ | apply Keeps.ite | apply KeepsOut.next | apply KeepsOut.ite
      | apply State.wr_keeps | apply State.setFld_keeps
      | (fail_if_no_progress refine Keeps.upd ?_ rfl rfl rfl rfl rfl rfl) | dsimp only | split
      | apply Keeps.fst (by assumption) | apply Keeps.snd (by assumption) | apply Keeps.ofSome (by assumption)

theorem State.setTap_keeps {s0 : State} (s : State) (i : TapInstr) (bs : List Byte)
    (hs : Keeps s0 s) :
    Keeps s0 (State.setTap s i bs) := by
  unfold State.setTap
  with_reducible repeat' first
      | assumption | intro _ _ _ | intro _ _ | intro _ | apply Keeps.ite
      | (fail_if_no_progress refine Keeps.upd ?_ rfl rfl rfl rfl rfl rfl) | dsimp only | split
      | apply Keeps.fst (by assumption) | apply Keeps.snd (by assumption) | apply Keeps.ofSome (by assumption)

theorem execBypass_keeps {s0 : State} (s : State)
    (hs : Keeps s0 s) :
    KeepsOut s0 (execBypass s) := by
  unfold execBypass
  with_reducible repeat' first
      | assumption | intro _ _ _ | intro _ _ | intro _ | apply Keeps.ite | apply KeepsOut.next | apply KeepsOut.ite
      | apply State.setTap_keeps | (fail_if_no_progress refine Keeps.upd ?_ rfl rfl rfl rfl rfl rfl) | dsimp only
      | split | apply Keeps.fst (by assumption) | apply Keeps.snd (by assumption) | apply Keeps.ofSome (by assumption)

theorem execSamplePreload_keeps {s0 : State} (s : State)
    (hs : Keeps s0 s) :
    KeepsOut s0 (execSamplePreload s) := by
  unfold execSamplePreload
  with_reducible repeat' first
      | assumption | intro _ _ _ | intro _ _ | intro _ | apply Keeps.ite | apply KeepsOut.next | apply KeepsOut.ite
      | apply State.setTap_keeps | (fail_if_no_progress refine Keeps.upd ?_ rfl rfl rfl rfl rfl rfl) | dsimp only
      | split | apply Keeps.fst (by assumption) | apply Keeps.snd (by assumption) | apply Keeps.ofSome (by assumption)

theorem execExtest_keeps {s0 : State} (s : State)
    (hs : Keeps s0 s) :
    KeepsOut s0 (execExtest s) := by
  unfold execExtest
  with_reducible repeat' first
      | assumption | intro _ _ _ | intro _ _ | intro _ | apply Keeps.ite | apply KeepsOut.next | apply KeepsOut.ite
      | apply State.setTap_keeps | (fail_if_no_progress refine Keeps.upd ?_ rfl rfl rfl rfl rfl rfl) | dsimp only
      | split | apply Keeps.fst (by assumption) | apply Keeps.snd (by assumption) | apply Keeps.ofSome (by assumption)

theorem execIdcode_keeps {s0 : State} (s : State)
    (hs : Keeps s0 s) :
    KeepsOut s0 (execIdcode s) := by
  unfold execIdcode
  with_reducible repeat' first
      | assumption | intro _ _ _ | intro _ _ | intro _ | apply Keeps.ite | apply KeepsOut.next | apply KeepsOut.ite
      | apply State.setTap_keeps | (fail_if_no_progress refine Keeps.upd ?_ rfl rfl rfl rfl rfl rfl) | dsimp only
      | split | apply Keeps.fst (by assumption) | apply Keeps.snd (by assumption) | apply Keeps.ofSome (by assumption)

end Sys2Proof.Machine
end

