-- ==== Sys2Proof/Laws/KeepsRest.lean ====
section
/-! SUPPORT. One lemma for each operation of the Cuff, faults, the loader, the mesh, the Placket commands and register accesses: whatever it does, it keeps the queue, the canonical form of
the byte memories, and the fuses. -/

set_option linter.unusedTactic false
set_option linter.unreachableTactic false
set_option linter.unusedVariables false

namespace Sys2Proof.Machine

theorem State.branch_keeps {s0 : State} (s : State) (t k : Nat) (w : Word) (c : Bool)
    (hs : Keeps s0 s) :
    Keeps s0 (State.branch s t k w c) := by
  unfold State.branch
  with_reducible repeat' first
      | assumption | intro _ _ _ | intro _ _ | intro _ | apply Keeps.ite | apply State.goto_keeps
      | apply State.complete_keeps | (fail_if_no_progress refine Keeps.upd ?_ rfl rfl rfl rfl rfl rfl) | dsimp only
      | split | apply Keeps.fst (by assumption) | apply Keeps.snd (by assumption) | apply Keeps.ofSome (by assumption)

theorem execAdd_keeps {s0 : State} (t : TileId) (k : SlotId) (s : State)
    (hs : Keeps s0 s) :
    KeepsOut s0 (execAdd t k s) := by
  unfold execAdd
  with_reducible repeat' first
      | assumption | intro _ _ _ | intro _ _ | intro _ | apply Keeps.ite | apply KeepsOut.next | apply KeepsOut.ite
      | apply State.issue_keeps | apply State.setRd_keeps
      | (fail_if_no_progress refine Keeps.upd ?_ rfl rfl rfl rfl rfl rfl) | dsimp only | split
      | apply Keeps.fst (by assumption) | apply Keeps.snd (by assumption) | apply Keeps.ofSome (by assumption)

theorem execSub_keeps {s0 : State} (t : TileId) (k : SlotId) (s : State)
    (hs : Keeps s0 s) :
    KeepsOut s0 (execSub t k s) := by
  unfold execSub
  with_reducible repeat' first
      | assumption | intro _ _ _ | intro _ _ | intro _ | apply Keeps.ite | apply KeepsOut.next | apply KeepsOut.ite
      | apply State.issue_keeps | apply State.setRd_keeps
      | (fail_if_no_progress refine Keeps.upd ?_ rfl rfl rfl rfl rfl rfl) | dsimp only | split
      | apply Keeps.fst (by assumption) | apply Keeps.snd (by assumption) | apply Keeps.ofSome (by assumption)

theorem execAnd_keeps {s0 : State} (t : TileId) (k : SlotId) (s : State)
    (hs : Keeps s0 s) :
    KeepsOut s0 (execAnd t k s) := by
  unfold execAnd
  with_reducible repeat' first
      | assumption | intro _ _ _ | intro _ _ | intro _ | apply Keeps.ite | apply KeepsOut.next | apply KeepsOut.ite
      | apply State.issue_keeps | apply State.setRd_keeps
      | (fail_if_no_progress refine Keeps.upd ?_ rfl rfl rfl rfl rfl rfl) | dsimp only | split
      | apply Keeps.fst (by assumption) | apply Keeps.snd (by assumption) | apply Keeps.ofSome (by assumption)

theorem execOr_keeps {s0 : State} (t : TileId) (k : SlotId) (s : State)
    (hs : Keeps s0 s) :
    KeepsOut s0 (execOr t k s) := by
  unfold execOr
  with_reducible repeat' first
      | assumption | intro _ _ _ | intro _ _ | intro _ | apply Keeps.ite | apply KeepsOut.next | apply KeepsOut.ite
      | apply State.issue_keeps | apply State.setRd_keeps
      | (fail_if_no_progress refine Keeps.upd ?_ rfl rfl rfl rfl rfl rfl) | dsimp only | split
      | apply Keeps.fst (by assumption) | apply Keeps.snd (by assumption) | apply Keeps.ofSome (by assumption)

theorem execXor_keeps {s0 : State} (t : TileId) (k : SlotId) (s : State)
    (hs : Keeps s0 s) :
    KeepsOut s0 (execXor t k s) := by
  unfold execXor
  with_reducible repeat' first
      | assumption | intro _ _ _ | intro _ _ | intro _ | apply Keeps.ite | apply KeepsOut.next | apply KeepsOut.ite
      | apply State.issue_keeps | apply State.setRd_keeps
      | (fail_if_no_progress refine Keeps.upd ?_ rfl rfl rfl rfl rfl rfl) | dsimp only | split
      | apply Keeps.fst (by assumption) | apply Keeps.snd (by assumption) | apply Keeps.ofSome (by assumption)

theorem execShl_keeps {s0 : State} (t : TileId) (k : SlotId) (s : State)
    (hs : Keeps s0 s) :
    KeepsOut s0 (execShl t k s) := by
  unfold execShl
  with_reducible repeat' first
      | assumption | intro _ _ _ | intro _ _ | intro _ | apply Keeps.ite | apply KeepsOut.next | apply KeepsOut.ite
      | apply State.issue_keeps | apply State.setRd_keeps
      | (fail_if_no_progress refine Keeps.upd ?_ rfl rfl rfl rfl rfl rfl) | dsimp only | split
      | apply Keeps.fst (by assumption) | apply Keeps.snd (by assumption) | apply Keeps.ofSome (by assumption)

theorem execShr_keeps {s0 : State} (t : TileId) (k : SlotId) (s : State)
    (hs : Keeps s0 s) :
    KeepsOut s0 (execShr t k s) := by
  unfold execShr
  with_reducible repeat' first
      | assumption | intro _ _ _ | intro _ _ | intro _ | apply Keeps.ite | apply KeepsOut.next | apply KeepsOut.ite
      | apply State.issue_keeps | apply State.setRd_keeps
      | (fail_if_no_progress refine Keeps.upd ?_ rfl rfl rfl rfl rfl rfl) | dsimp only | split
      | apply Keeps.fst (by assumption) | apply Keeps.snd (by assumption) | apply Keeps.ofSome (by assumption)

theorem execSra_keeps {s0 : State} (t : TileId) (k : SlotId) (s : State)
    (hs : Keeps s0 s) :
    KeepsOut s0 (execSra t k s) := by
  unfold execSra
  with_reducible repeat' first
      | assumption | intro _ _ _ | intro _ _ | intro _ | apply Keeps.ite | apply KeepsOut.next | apply KeepsOut.ite
      | apply State.issue_keeps | apply State.setRd_keeps
      | (fail_if_no_progress refine Keeps.upd ?_ rfl rfl rfl rfl rfl rfl) | dsimp only | split
      | apply Keeps.fst (by assumption) | apply Keeps.snd (by assumption) | apply Keeps.ofSome (by assumption)

theorem execSlt_keeps {s0 : State} (t : TileId) (k : SlotId) (s : State)
    (hs : Keeps s0 s) :
    KeepsOut s0 (execSlt t k s) := by
  unfold execSlt
  with_reducible repeat' first
      | assumption | intro _ _ _ | intro _ _ | intro _ | apply Keeps.ite | apply KeepsOut.next | apply KeepsOut.ite
      | apply State.issue_keeps | apply State.setRd_keeps
      | (fail_if_no_progress refine Keeps.upd ?_ rfl rfl rfl rfl rfl rfl) | dsimp only | split
      | apply Keeps.fst (by assumption) | apply Keeps.snd (by assumption) | apply Keeps.ofSome (by assumption)

theorem execSltu_keeps {s0 : State} (t : TileId) (k : SlotId) (s : State)
    (hs : Keeps s0 s) :
    KeepsOut s0 (execSltu t k s) := by
  unfold execSltu
  with_reducible repeat' first
      | assumption | intro _ _ _ | intro _ _ | intro _ | apply Keeps.ite | apply KeepsOut.next | apply KeepsOut.ite
      | apply State.issue_keeps | apply State.setRd_keeps
      | (fail_if_no_progress refine Keeps.upd ?_ rfl rfl rfl rfl rfl rfl) | dsimp only | split
      | apply Keeps.fst (by assumption) | apply Keeps.snd (by assumption) | apply Keeps.ofSome (by assumption)

theorem execMul_keeps {s0 : State} (t : TileId) (k : SlotId) (s : State)
    (hs : Keeps s0 s) :
    KeepsOut s0 (execMul t k s) := by
  unfold execMul
  with_reducible repeat' first
      | assumption | intro _ _ _ | intro _ _ | intro _ | apply Keeps.ite | apply KeepsOut.next | apply KeepsOut.ite
      | apply State.issue_keeps | apply State.setRd_keeps
      | (fail_if_no_progress refine Keeps.upd ?_ rfl rfl rfl rfl rfl rfl) | dsimp only | split
      | apply Keeps.fst (by assumption) | apply Keeps.snd (by assumption) | apply Keeps.ofSome (by assumption)

theorem execMulh_keeps {s0 : State} (t : TileId) (k : SlotId) (s : State)
    (hs : Keeps s0 s) :
    KeepsOut s0 (execMulh t k s) := by
  unfold execMulh
  with_reducible repeat' first
      | assumption | intro _ _ _ | intro _ _ | intro _ | apply Keeps.ite | apply KeepsOut.next | apply KeepsOut.ite
      | apply State.issue_keeps | apply State.setRd_keeps
      | (fail_if_no_progress refine Keeps.upd ?_ rfl rfl rfl rfl rfl rfl) | dsimp only | split
      | apply Keeps.fst (by assumption) | apply Keeps.snd (by assumption) | apply Keeps.ofSome (by assumption)

theorem execMulhu_keeps {s0 : State} (t : TileId) (k : SlotId) (s : State)
    (hs : Keeps s0 s) :
    KeepsOut s0 (execMulhu t k s) := by
  unfold execMulhu
  with_reducible repeat' first
      | assumption | intro _ _ _ | intro _ _ | intro _ | apply Keeps.ite | apply KeepsOut.next | apply KeepsOut.ite
      | apply State.issue_keeps | apply State.setRd_keeps
      | (fail_if_no_progress refine Keeps.upd ?_ rfl rfl rfl rfl rfl rfl) | dsimp only | split
      | apply Keeps.fst (by assumption) | apply Keeps.snd (by assumption) | apply Keeps.ofSome (by assumption)

theorem execMin_keeps {s0 : State} (t : TileId) (k : SlotId) (s : State)
    (hs : Keeps s0 s) :
    KeepsOut s0 (execMin t k s) := by
  unfold execMin
  with_reducible repeat' first
      | assumption | intro _ _ _ | intro _ _ | intro _ | apply Keeps.ite | apply KeepsOut.next | apply KeepsOut.ite
      | apply State.issue_keeps | apply State.setRd_keeps
      | (fail_if_no_progress refine Keeps.upd ?_ rfl rfl rfl rfl rfl rfl) | dsimp only | split
      | apply Keeps.fst (by assumption) | apply Keeps.snd (by assumption) | apply Keeps.ofSome (by assumption)

theorem execMax_keeps {s0 : State} (t : TileId) (k : SlotId) (s : State)
    (hs : Keeps s0 s) :
    KeepsOut s0 (execMax t k s) := by
  unfold execMax
  with_reducible repeat' first
      | assumption | intro _ _ _ | intro _ _ | intro _ | apply Keeps.ite | apply KeepsOut.next | apply KeepsOut.ite
      | apply State.issue_keeps | apply State.setRd_keeps
      | (fail_if_no_progress refine Keeps.upd ?_ rfl rfl rfl rfl rfl rfl) | dsimp only | split
      | apply Keeps.fst (by assumption) | apply Keeps.snd (by assumption) | apply Keeps.ofSome (by assumption)

theorem execMinu_keeps {s0 : State} (t : TileId) (k : SlotId) (s : State)
    (hs : Keeps s0 s) :
    KeepsOut s0 (execMinu t k s) := by
  unfold execMinu
  with_reducible repeat' first
      | assumption | intro _ _ _ | intro _ _ | intro _ | apply Keeps.ite | apply KeepsOut.next | apply KeepsOut.ite
      | apply State.issue_keeps | apply State.setRd_keeps
      | (fail_if_no_progress refine Keeps.upd ?_ rfl rfl rfl rfl rfl rfl) | dsimp only | split
      | apply Keeps.fst (by assumption) | apply Keeps.snd (by assumption) | apply Keeps.ofSome (by assumption)

theorem execMaxu_keeps {s0 : State} (t : TileId) (k : SlotId) (s : State)
    (hs : Keeps s0 s) :
    KeepsOut s0 (execMaxu t k s) := by
  unfold execMaxu
  with_reducible repeat' first
      | assumption | intro _ _ _ | intro _ _ | intro _ | apply Keeps.ite | apply KeepsOut.next | apply KeepsOut.ite
      | apply State.issue_keeps | apply State.setRd_keeps
      | (fail_if_no_progress refine Keeps.upd ?_ rfl rfl rfl rfl rfl rfl) | dsimp only | split
      | apply Keeps.fst (by assumption) | apply Keeps.snd (by assumption) | apply Keeps.ofSome (by assumption)

theorem execPopc_keeps {s0 : State} (t : TileId) (k : SlotId) (s : State)
    (hs : Keeps s0 s) :
    KeepsOut s0 (execPopc t k s) := by
  unfold execPopc
  with_reducible repeat' first
      | assumption | intro _ _ _ | intro _ _ | intro _ | apply Keeps.ite | apply KeepsOut.next | apply KeepsOut.ite
      | apply State.issue_keeps | apply State.setRd_keeps
      | (fail_if_no_progress refine Keeps.upd ?_ rfl rfl rfl rfl rfl rfl) | dsimp only | split
      | apply Keeps.fst (by assumption) | apply Keeps.snd (by assumption) | apply Keeps.ofSome (by assumption)

theorem execClz_keeps {s0 : State} (t : TileId) (k : SlotId) (s : State)
    (hs : Keeps s0 s) :
    KeepsOut s0 (execClz t k s) := by
  unfold execClz
  with_reducible repeat' first
      | assumption | intro _ _ _ | intro _ _ | intro _ | apply Keeps.ite | apply KeepsOut.next | apply KeepsOut.ite
      | apply State.issue_keeps | apply State.setRd_keeps
      | (fail_if_no_progress refine Keeps.upd ?_ rfl rfl rfl rfl rfl rfl) | dsimp only | split
      | apply Keeps.fst (by assumption) | apply Keeps.snd (by assumption) | apply Keeps.ofSome (by assumption)

theorem execCtz_keeps {s0 : State} (t : TileId) (k : SlotId) (s : State)
    (hs : Keeps s0 s) :
    KeepsOut s0 (execCtz t k s) := by
  unfold execCtz
  with_reducible repeat' first
      | assumption | intro _ _ _ | intro _ _ | intro _ | apply Keeps.ite | apply KeepsOut.next | apply KeepsOut.ite
      | apply State.issue_keeps | apply State.setRd_keeps
      | (fail_if_no_progress refine Keeps.upd ?_ rfl rfl rfl rfl rfl rfl) | dsimp only | split
      | apply Keeps.fst (by assumption) | apply Keeps.snd (by assumption) | apply Keeps.ofSome (by assumption)

theorem execAddi_keeps {s0 : State} (t : TileId) (k : SlotId) (s : State)
    (hs : Keeps s0 s) :
    KeepsOut s0 (execAddi t k s) := by
  unfold execAddi
  with_reducible repeat' first
      | assumption | intro _ _ _ | intro _ _ | intro _ | apply Keeps.ite | apply KeepsOut.next | apply KeepsOut.ite
      | apply State.issue_keeps | apply State.setRd_keeps
      | (fail_if_no_progress refine Keeps.upd ?_ rfl rfl rfl rfl rfl rfl) | dsimp only | split
      | apply Keeps.fst (by assumption) | apply Keeps.snd (by assumption) | apply Keeps.ofSome (by assumption)

theorem execAndi_keeps {s0 : State} (t : TileId) (k : SlotId) (s : State)
    (hs : Keeps s0 s) :
    KeepsOut s0 (execAndi t k s) := by
  unfold execAndi
  with_reducible repeat' first
      | assumption | intro _ _ _ | intro _ _ | intro _ | apply Keeps.ite | apply KeepsOut.next | apply KeepsOut.ite
      | apply State.issue_keeps | apply State.setRd_keeps
      | (fail_if_no_progress refine Keeps.upd ?_ rfl rfl rfl rfl rfl rfl) | dsimp only | split
      | apply Keeps.fst (by assumption) | apply Keeps.snd (by assumption) | apply Keeps.ofSome (by assumption)

theorem execOri_keeps {s0 : State} (t : TileId) (k : SlotId) (s : State)
    (hs : Keeps s0 s) :
    KeepsOut s0 (execOri t k s) := by
  unfold execOri
  with_reducible repeat' first
      | assumption | intro _ _ _ | intro _ _ | intro _ | apply Keeps.ite | apply KeepsOut.next | apply KeepsOut.ite
      | apply State.issue_keeps | apply State.setRd_keeps
      | (fail_if_no_progress refine Keeps.upd ?_ rfl rfl rfl rfl rfl rfl) | dsimp only | split
      | apply Keeps.fst (by assumption) | apply Keeps.snd (by assumption) | apply Keeps.ofSome (by assumption)

theorem execXori_keeps {s0 : State} (t : TileId) (k : SlotId) (s : State)
    (hs : Keeps s0 s) :
    KeepsOut s0 (execXori t k s) := by
  unfold execXori
  with_reducible repeat' first
      | assumption | intro _ _ _ | intro _ _ | intro _ | apply Keeps.ite | apply KeepsOut.next | apply KeepsOut.ite
      | apply State.issue_keeps | apply State.setRd_keeps
      | (fail_if_no_progress refine Keeps.upd ?_ rfl rfl rfl rfl rfl rfl) | dsimp only | split
      | apply Keeps.fst (by assumption) | apply Keeps.snd (by assumption) | apply Keeps.ofSome (by assumption)

theorem execSlti_keeps {s0 : State} (t : TileId) (k : SlotId) (s : State)
    (hs : Keeps s0 s) :
    KeepsOut s0 (execSlti t k s) := by
  unfold execSlti
  with_reducible repeat' first
      | assumption | intro _ _ _ | intro _ _ | intro _ | apply Keeps.ite | apply KeepsOut.next | apply KeepsOut.ite
      | apply State.issue_keeps | apply State.setRd_keeps
      | (fail_if_no_progress refine Keeps.upd ?_ rfl rfl rfl rfl rfl rfl) | dsimp only | split
      | apply Keeps.fst (by assumption) | apply Keeps.snd (by assumption) | apply Keeps.ofSome (by assumption)

theorem execSltiu_keeps {s0 : State} (t : TileId) (k : SlotId) (s : State)
    (hs : Keeps s0 s) :
    KeepsOut s0 (execSltiu t k s) := by
  unfold execSltiu
  with_reducible repeat' first
      | assumption | intro _ _ _ | intro _ _ | intro _ | apply Keeps.ite | apply KeepsOut.next | apply KeepsOut.ite
      | apply State.issue_keeps | apply State.setRd_keeps
      | (fail_if_no_progress refine Keeps.upd ?_ rfl rfl rfl rfl rfl rfl) | dsimp only | split
      | apply Keeps.fst (by assumption) | apply Keeps.snd (by assumption) | apply Keeps.ofSome (by assumption)

theorem execShli_keeps {s0 : State} (t : TileId) (k : SlotId) (s : State)
    (hs : Keeps s0 s) :
    KeepsOut s0 (execShli t k s) := by
  unfold execShli
  with_reducible repeat' first
      | assumption | intro _ _ _ | intro _ _ | intro _ | apply Keeps.ite | apply KeepsOut.next | apply KeepsOut.ite
      | apply State.issue_keeps | apply State.setRd_keeps
      | (fail_if_no_progress refine Keeps.upd ?_ rfl rfl rfl rfl rfl rfl) | dsimp only | split
      | apply Keeps.fst (by assumption) | apply Keeps.snd (by assumption) | apply Keeps.ofSome (by assumption)

theorem execShri_keeps {s0 : State} (t : TileId) (k : SlotId) (s : State)
    (hs : Keeps s0 s) :
    KeepsOut s0 (execShri t k s) := by
  unfold execShri
  with_reducible repeat' first
      | assumption | intro _ _ _ | intro _ _ | intro _ | apply Keeps.ite | apply KeepsOut.next | apply KeepsOut.ite
      | apply State.issue_keeps | apply State.setRd_keeps
      | (fail_if_no_progress refine Keeps.upd ?_ rfl rfl rfl rfl rfl rfl) | dsimp only | split
      | apply Keeps.fst (by assumption) | apply Keeps.snd (by assumption) | apply Keeps.ofSome (by assumption)

theorem execSrai_keeps {s0 : State} (t : TileId) (k : SlotId) (s : State)
    (hs : Keeps s0 s) :
    KeepsOut s0 (execSrai t k s) := by
  unfold execSrai
  with_reducible repeat' first
      | assumption | intro _ _ _ | intro _ _ | intro _ | apply Keeps.ite | apply KeepsOut.next | apply KeepsOut.ite
      | apply State.issue_keeps | apply State.setRd_keeps
      | (fail_if_no_progress refine Keeps.upd ?_ rfl rfl rfl rfl rfl rfl) | dsimp only | split
      | apply Keeps.fst (by assumption) | apply Keeps.snd (by assumption) | apply Keeps.ofSome (by assumption)

theorem execLui_keeps {s0 : State} (t : TileId) (k : SlotId) (s : State)
    (hs : Keeps s0 s) :
    KeepsOut s0 (execLui t k s) := by
  unfold execLui
  with_reducible repeat' first
      | assumption | intro _ _ _ | intro _ _ | intro _ | apply Keeps.ite | apply KeepsOut.next | apply KeepsOut.ite
      | apply State.issue_keeps | apply State.setRd_keeps
      | (fail_if_no_progress refine Keeps.upd ?_ rfl rfl rfl rfl rfl rfl) | dsimp only | split
      | apply Keeps.fst (by assumption) | apply Keeps.snd (by assumption) | apply Keeps.ofSome (by assumption)

theorem execLb_keeps {s0 : State} (t : TileId) (k : SlotId) (s : State)
    (hs : Keeps s0 s) :
    KeepsOut s0 (execLb t k s) := by
  unfold execLb
  with_reducible repeat' first
      | assumption | intro _ _ _ | intro _ _ | intro _ | apply Keeps.ite | apply KeepsOut.next | apply KeepsOut.ite
      | apply State.issue_keeps | apply State.load_keeps
      | (fail_if_no_progress refine Keeps.upd ?_ rfl rfl rfl rfl rfl rfl) | dsimp only | split
      | apply Keeps.fst (by assumption) | apply Keeps.snd (by assumption) | apply Keeps.ofSome (by assumption)

theorem execLbu_keeps {s0 : State} (t : TileId) (k : SlotId) (s : State)
    (hs : Keeps s0 s) :
    KeepsOut s0 (execLbu t k s) := by
  unfold execLbu
  with_reducible repeat' first
      | assumption | intro _ _ _ | intro _ _ | intro _ | apply Keeps.ite | apply KeepsOut.next | apply KeepsOut.ite
      | apply State.issue_keeps | apply State.load_keeps
      | (fail_if_no_progress refine Keeps.upd ?_ rfl rfl rfl rfl rfl rfl) | dsimp only | split
      | apply Keeps.fst (by assumption) | apply Keeps.snd (by assumption) | apply Keeps.ofSome (by assumption)

theorem execLh_keeps {s0 : State} (t : TileId) (k : SlotId) (s : State)
    (hs : Keeps s0 s) :
    KeepsOut s0 (execLh t k s) := by
  unfold execLh
  with_reducible repeat' first
      | assumption | intro _ _ _ | intro _ _ | intro _ | apply Keeps.ite | apply KeepsOut.next | apply KeepsOut.ite
      | apply State.issue_keeps | apply State.load_keeps
      | (fail_if_no_progress refine Keeps.upd ?_ rfl rfl rfl rfl rfl rfl) | dsimp only | split
      | apply Keeps.fst (by assumption) | apply Keeps.snd (by assumption) | apply Keeps.ofSome (by assumption)

theorem execLhu_keeps {s0 : State} (t : TileId) (k : SlotId) (s : State)
    (hs : Keeps s0 s) :
    KeepsOut s0 (execLhu t k s) := by
  unfold execLhu
  with_reducible repeat' first
      | assumption | intro _ _ _ | intro _ _ | intro _ | apply Keeps.ite | apply KeepsOut.next | apply KeepsOut.ite
      | apply State.issue_keeps | apply State.load_keeps
      | (fail_if_no_progress refine Keeps.upd ?_ rfl rfl rfl rfl rfl rfl) | dsimp only | split
      | apply Keeps.fst (by assumption) | apply Keeps.snd (by assumption) | apply Keeps.ofSome (by assumption)

theorem execLw_keeps {s0 : State} (t : TileId) (k : SlotId) (s : State)
    (hs : Keeps s0 s) :
    KeepsOut s0 (execLw t k s) := by
  unfold execLw
  with_reducible repeat' first
      | assumption | intro _ _ _ | intro _ _ | intro _ | apply Keeps.ite | apply KeepsOut.next | apply KeepsOut.ite
      | apply State.issue_keeps | apply State.load_keeps
      | (fail_if_no_progress refine Keeps.upd ?_ rfl rfl rfl rfl rfl rfl) | dsimp only | split
      | apply Keeps.fst (by assumption) | apply Keeps.snd (by assumption) | apply Keeps.ofSome (by assumption)

theorem execSb_keeps {s0 : State} (t : TileId) (k : SlotId) (s : State)
    (hs : Keeps s0 s) :
    KeepsOut s0 (execSb t k s) := by
  unfold execSb
  with_reducible repeat' first
      | assumption | intro _ _ _ | intro _ _ | intro _ | apply Keeps.ite | apply KeepsOut.next | apply KeepsOut.ite
      | apply State.issue_keeps | apply State.store_keeps
      | (fail_if_no_progress refine Keeps.upd ?_ rfl rfl rfl rfl rfl rfl) | dsimp only | split
      | apply Keeps.fst (by assumption) | apply Keeps.snd (by assumption) | apply Keeps.ofSome (by assumption)

theorem execSh_keeps {s0 : State} (t : TileId) (k : SlotId) (s : State)
    (hs : Keeps s0 s) :
    KeepsOut s0 (execSh t k s) := by
  unfold execSh
  with_reducible repeat' first
      | assumption | intro _ _ _ | intro _ _ | intro _ | apply Keeps.ite | apply KeepsOut.next | apply KeepsOut.ite
      | apply State.issue_keeps | apply State.store_keeps
      | (fail_if_no_progress refine Keeps.upd ?_ rfl rfl rfl rfl rfl rfl) | dsimp only | split
      | apply Keeps.fst (by assumption) | apply Keeps.snd (by assumption) | apply Keeps.ofSome (by assumption)

theorem execSw_keeps {s0 : State} (t : TileId) (k : SlotId) (s : State)
    (hs : Keeps s0 s) :
    KeepsOut s0 (execSw t k s) := by
  unfold execSw
  with_reducible repeat' first
      | assumption | intro _ _ _ | intro _ _ | intro _ | apply Keeps.ite | apply KeepsOut.next | apply KeepsOut.ite
      | apply State.issue_keeps | apply State.store_keeps
      | (fail_if_no_progress refine Keeps.upd ?_ rfl rfl rfl rfl rfl rfl) | dsimp only | split
      | apply Keeps.fst (by assumption) | apply Keeps.snd (by assumption) | apply Keeps.ofSome (by assumption)

theorem execBeq_keeps {s0 : State} (t : TileId) (k : SlotId) (s : State)
    (hs : Keeps s0 s) :
    KeepsOut s0 (execBeq t k s) := by
  unfold execBeq
  with_reducible repeat' first
      | assumption | intro _ _ _ | intro _ _ | intro _ | apply Keeps.ite | apply KeepsOut.next | apply KeepsOut.ite
      | apply State.issue_keeps | apply State.branch_keeps
      | (fail_if_no_progress refine Keeps.upd ?_ rfl rfl rfl rfl rfl rfl) | dsimp only | split
      | apply Keeps.fst (by assumption) | apply Keeps.snd (by assumption) | apply Keeps.ofSome (by assumption)

theorem execBne_keeps {s0 : State} (t : TileId) (k : SlotId) (s : State)
    (hs : Keeps s0 s) :
    KeepsOut s0 (execBne t k s) := by
  unfold execBne
  with_reducible repeat' first
      | assumption | intro _ _ _ | intro _ _ | intro _ | apply Keeps.ite | apply KeepsOut.next | apply KeepsOut.ite
      | apply State.issue_keeps | apply State.branch_keeps
      | (fail_if_no_progress refine Keeps.upd ?_ rfl rfl rfl rfl rfl rfl) | dsimp only | split
      | apply Keeps.fst (by assumption) | apply Keeps.snd (by assumption) | apply Keeps.ofSome (by assumption)

theorem execBlt_keeps {s0 : State} (t : TileId) (k : SlotId) (s : State)
    (hs : Keeps s0 s) :
    KeepsOut s0 (execBlt t k s) := by
  unfold execBlt
  with_reducible repeat' first
      | assumption | intro _ _ _ | intro _ _ | intro _ | apply Keeps.ite | apply KeepsOut.next | apply KeepsOut.ite
      | apply State.issue_keeps | apply State.branch_keeps
      | (fail_if_no_progress refine Keeps.upd ?_ rfl rfl rfl rfl rfl rfl) | dsimp only | split
      | apply Keeps.fst (by assumption) | apply Keeps.snd (by assumption) | apply Keeps.ofSome (by assumption)

theorem execBge_keeps {s0 : State} (t : TileId) (k : SlotId) (s : State)
    (hs : Keeps s0 s) :
    KeepsOut s0 (execBge t k s) := by
  unfold execBge
  with_reducible repeat' first
      | assumption | intro _ _ _ | intro _ _ | intro _ | apply Keeps.ite | apply KeepsOut.next | apply KeepsOut.ite
      | apply State.issue_keeps | apply State.branch_keeps
      | (fail_if_no_progress refine Keeps.upd ?_ rfl rfl rfl rfl rfl rfl) | dsimp only | split
      | apply Keeps.fst (by assumption) | apply Keeps.snd (by assumption) | apply Keeps.ofSome (by assumption)

theorem execBltu_keeps {s0 : State} (t : TileId) (k : SlotId) (s : State)
    (hs : Keeps s0 s) :
    KeepsOut s0 (execBltu t k s) := by
  unfold execBltu
  with_reducible repeat' first
      | assumption | intro _ _ _ | intro _ _ | intro _ | apply Keeps.ite | apply KeepsOut.next | apply KeepsOut.ite
      | apply State.issue_keeps | apply State.branch_keeps
      | (fail_if_no_progress refine Keeps.upd ?_ rfl rfl rfl rfl rfl rfl) | dsimp only | split
      | apply Keeps.fst (by assumption) | apply Keeps.snd (by assumption) | apply Keeps.ofSome (by assumption)

theorem execBgeu_keeps {s0 : State} (t : TileId) (k : SlotId) (s : State)
    (hs : Keeps s0 s) :
    KeepsOut s0 (execBgeu t k s) := by
  unfold execBgeu
  with_reducible repeat' first
      | assumption | intro _ _ _ | intro _ _ | intro _ | apply Keeps.ite | apply KeepsOut.next | apply KeepsOut.ite
      | apply State.issue_keeps | apply State.branch_keeps
      | (fail_if_no_progress refine Keeps.upd ?_ rfl rfl rfl rfl rfl rfl) | dsimp only | split
      | apply Keeps.fst (by assumption) | apply Keeps.snd (by assumption) | apply Keeps.ofSome (by assumption)

theorem execJmp_keeps {s0 : State} (t : TileId) (k : SlotId) (s : State)
    (hs : Keeps s0 s) :
    KeepsOut s0 (execJmp t k s) := by
  unfold execJmp
  with_reducible repeat' first
      | assumption | intro _ _ _ | intro _ _ | intro _ | apply Keeps.ite | apply KeepsOut.next | apply KeepsOut.ite
      | apply State.issue_keeps | apply State.goto_keeps
      | (fail_if_no_progress refine Keeps.upd ?_ rfl rfl rfl rfl rfl rfl) | dsimp only | split
      | apply Keeps.fst (by assumption) | apply Keeps.snd (by assumption) | apply Keeps.ofSome (by assumption)

theorem State.jumpLink_keeps {s0 : State} (s : State) (t k r : Nat) (p : Int)
    (hs : Keeps s0 s) :
    Keeps s0 (State.jumpLink s t k r p) := by
  unfold State.jumpLink
  with_reducible repeat' first
      | assumption | intro _ _ _ | intro _ _ | intro _ | apply Keeps.ite | apply State.setCreg_keeps
      | apply State.goto_keeps | (fail_if_no_progress refine Keeps.upd ?_ rfl rfl rfl rfl rfl rfl) | dsimp only
      | split | apply Keeps.fst (by assumption) | apply Keeps.snd (by assumption) | apply Keeps.ofSome (by assumption)

theorem execJal_keeps {s0 : State} (t : TileId) (k : SlotId) (s : State)
    (hs : Keeps s0 s) :
    KeepsOut s0 (execJal t k s) := by
  unfold execJal
  with_reducible repeat' first
      | assumption | intro _ _ _ | intro _ _ | intro _ | apply Keeps.ite | apply KeepsOut.next | apply KeepsOut.ite
      | apply State.issue_keeps | apply State.jumpLink_keeps
      | (fail_if_no_progress refine Keeps.upd ?_ rfl rfl rfl rfl rfl rfl) | dsimp only | split
      | apply Keeps.fst (by assumption) | apply Keeps.snd (by assumption) | apply Keeps.ofSome (by assumption)

theorem execJr_keeps {s0 : State} (t : TileId) (k : SlotId) (s : State)
    (hs : Keeps s0 s) :
    KeepsOut s0 (execJr t k s) := by
  unfold execJr
  with_reducible repeat' first
      | assumption | intro _ _ _ | intro _ _ | intro _ | apply Keeps.ite | apply KeepsOut.next | apply KeepsOut.ite
      | apply State.issue_keeps | apply State.jumpLink_keeps
      | (fail_if_no_progress refine Keeps.upd ?_ rfl rfl rfl rfl rfl rfl) | dsimp only | split
      | apply Keeps.fst (by assumption) | apply Keeps.snd (by assumption) | apply Keeps.ofSome (by assumption)

theorem State.arrive_keeps {s0 : State} (s : State) (t k : Nat) (bars : Bool)
    (hs : Keeps s0 s) :
    Keeps s0 (State.arrive s t k bars) := by
  unfold State.arrive
  with_reducible repeat' first
      | assumption | intro _ _ _ | intro _ _ | intro _ | apply Keeps.ite | apply State.setTask_keeps
      | apply State.wait_keeps | (fail_if_no_progress refine Keeps.upd ?_ rfl rfl rfl rfl rfl rfl) | dsimp only
      | split | apply Keeps.fst (by assumption) | apply Keeps.snd (by assumption) | apply Keeps.ofSome (by assumption)

theorem execBar_keeps {s0 : State} (t : TileId) (k : SlotId) (s : State)
    (hs : Keeps s0 s) :
    KeepsOut s0 (execBar t k s) := by
  unfold execBar
  with_reducible repeat' first
      | assumption | intro _ _ _ | intro _ _ | intro _ | apply Keeps.ite | apply KeepsOut.next | apply KeepsOut.ite
      | apply State.issue_keeps | apply State.arrive_keeps
      | (fail_if_no_progress refine Keeps.upd ?_ rfl rfl rfl rfl rfl rfl) | dsimp only | split
      | apply Keeps.fst (by assumption) | apply Keeps.snd (by assumption) | apply Keeps.ofSome (by assumption)

theorem execBars_keeps {s0 : State} (t : TileId) (k : SlotId) (s : State)
    (hs : Keeps s0 s) :
    KeepsOut s0 (execBars t k s) := by
  unfold execBars
  with_reducible repeat' first
      | assumption | intro _ _ _ | intro _ _ | intro _ | apply Keeps.ite | apply KeepsOut.next | apply KeepsOut.ite
      | apply State.issue_keeps | apply State.arrive_keeps
      | (fail_if_no_progress refine Keeps.upd ?_ rfl rfl rfl rfl rfl rfl) | dsimp only | split
      | apply Keeps.fst (by assumption) | apply Keeps.snd (by assumption) | apply Keeps.ofSome (by assumption)

theorem execTend_keeps {s0 : State} (t : TileId) (k : SlotId) (s : State)
    (hs : Keeps s0 s) :
    KeepsOut s0 (execTend t k s) := by
  unfold execTend
  with_reducible repeat' first
      | assumption | intro _ _ _ | intro _ _ | intro _ | apply Keeps.ite | apply KeepsOut.next | apply KeepsOut.ite
      | apply State.setTaskState_keeps | apply State.illegal_keeps | apply State.issue_keeps | apply State.wait_keeps
      | (fail_if_no_progress refine Keeps.upd ?_ rfl rfl rfl rfl rfl rfl) | dsimp only | split
      | apply Keeps.fst (by assumption) | apply Keeps.snd (by assumption) | apply Keeps.ofSome (by assumption)

theorem execWfi_keeps {s0 : State} (t : TileId) (k : SlotId) (s : State)
    (hs : Keeps s0 s) :
    KeepsOut s0 (execWfi t k s) := by
  unfold execWfi
  with_reducible repeat' first
      | assumption | intro _ _ _ | intro _ _ | intro _ | apply Keeps.ite | apply KeepsOut.next | apply KeepsOut.ite
      | apply State.illegal_keeps | apply State.issue_keeps | apply State.complete_keeps | apply State.wait_keeps
      | (fail_if_no_progress refine Keeps.upd ?_ rfl rfl rfl rfl rfl rfl) | dsimp only | split
      | apply Keeps.fst (by assumption) | apply Keeps.snd (by assumption) | apply Keeps.ofSome (by assumption)

theorem execIret_keeps {s0 : State} (t : TileId) (k : SlotId) (s : State)
    (hs : Keeps s0 s) :
    KeepsOut s0 (execIret t k s) := by
  unfold execIret
  with_reducible repeat' first
      | assumption | intro _ _ _ | intro _ _ | intro _ | apply Keeps.ite | apply KeepsOut.next | apply KeepsOut.ite
      | apply State.setBit_keeps | apply State.illegal_keeps | apply State.issue_keeps | apply State.goto_keeps
      | (fail_if_no_progress refine Keeps.upd ?_ rfl rfl rfl rfl rfl rfl) | dsimp only | split
      | apply Keeps.fst (by assumption) | apply Keeps.snd (by assumption) | apply Keeps.ofSome (by assumption)

theorem execNop_keeps {s0 : State} (t : TileId) (k : SlotId) (s : State)
    (hs : Keeps s0 s) :
    KeepsOut s0 (execNop t k s) := by
  unfold execNop
  with_reducible repeat' first
      | assumption | intro _ _ _ | intro _ _ | intro _ | apply Keeps.ite | apply KeepsOut.next | apply KeepsOut.ite
      | apply State.issue_keeps | apply State.complete_keeps
      | (fail_if_no_progress refine Keeps.upd ?_ rfl rfl rfl rfl rfl rfl) | dsimp only | split
      | apply Keeps.fst (by assumption) | apply Keeps.snd (by assumption) | apply Keeps.ofSome (by assumption)

theorem execReservedInstruction_keeps {s0 : State} (t : TileId) (k : SlotId) (s : State)
    (hs : Keeps s0 s) :
    KeepsOut s0 (execReservedInstruction t k s) := by
  unfold execReservedInstruction
  with_reducible repeat' first
      | assumption | intro _ _ _ | intro _ _ | intro _ | apply Keeps.ite | apply KeepsOut.next | apply KeepsOut.ite
      | apply State.count_keeps | apply State.illegal_keeps
      | (fail_if_no_progress refine Keeps.upd ?_ rfl rfl rfl rfl rfl rfl) | dsimp only | split
      | apply Keeps.fst (by assumption) | apply Keeps.snd (by assumption) | apply Keeps.ofSome (by assumption)

theorem execTaskEnded_keeps {s0 : State} (t : TileId) (k : SlotId) (s : State)
    (hs : Keeps s0 s) :
    KeepsOut s0 (execTaskEnded t k s) := by
  unfold execTaskEnded
  with_reducible repeat' first
      | assumption | intro _ _ _ | intro _ _ | intro _ | apply Keeps.ite | apply KeepsOut.next | apply KeepsOut.ite
      | apply State.setTaskState_keeps | (fail_if_no_progress refine Keeps.upd ?_ rfl rfl rfl rfl rfl rfl)
      | dsimp only | split | apply Keeps.fst (by assumption) | apply Keeps.snd (by assumption)
      | apply Keeps.ofSome (by assumption)

theorem execInterruptTake_keeps {s0 : State} (t : TileId) (k : SlotId) (s : State)
    (hs : Keeps s0 s) :
    KeepsOut s0 (execInterruptTake t k s) := by
  unfold execInterruptTake
  with_reducible repeat' first
      | assumption | intro _ _ _ | intro _ _ | intro _ | apply Keeps.ite | apply KeepsOut.next | apply KeepsOut.ite
      | apply State.setFld_keeps | apply State.setBit_keeps | apply State.setTask_keeps
      | apply State.setTaskState_keeps | apply State.setPc_keeps | apply State.withdraw_keeps
      | (fail_if_no_progress refine Keeps.upd ?_ rfl rfl rfl rfl rfl rfl) | dsimp only | split
      | apply Keeps.fst (by assumption) | apply Keeps.snd (by assumption) | apply Keeps.ofSome (by assumption)

theorem execTaskTimerExpire_keeps {s0 : State} (t : TileId) (k : SlotId) (s : State)
    (hs : Keeps s0 s) :
    KeepsOut s0 (execTaskTimerExpire t k s) := by
  unfold execTaskTimerExpire
  with_reducible repeat' first
      | assumption | intro _ _ _ | intro _ _ | intro _ | apply Keeps.ite | apply KeepsOut.next | apply KeepsOut.ite
      | apply State.wr_keeps | apply State.setBit_keeps | apply State.wakeTile_keeps
      | (fail_if_no_progress refine Keeps.upd ?_ rfl rfl rfl rfl rfl rfl) | dsimp only | split
      | apply Keeps.fst (by assumption) | apply Keeps.snd (by assumption) | apply Keeps.ofSome (by assumption)

theorem State.doorbell_keeps {s0 : State} (s : State) (t ring : Nat)
    (hs : Keeps s0 s) :
    Keeps s0 (State.doorbell s t ring) := by
  unfold State.doorbell
  with_reducible repeat' first
      | assumption | intro _ _ _ | intro _ _ | intro _ | apply Keeps.ite | apply State.setBit_keeps
      | apply State.wakeTile_keeps | apply Keeps.foldl | apply Keeps.foldlFst
      | (fail_if_no_progress refine Keeps.upd ?_ rfl rfl rfl rfl rfl rfl) | dsimp only | split
      | apply Keeps.fst (by assumption) | apply Keeps.snd (by assumption) | apply Keeps.ofSome (by assumption)

theorem execCuffDoorbell_keeps {s0 : State} (t : TileId) (ring : BitVec 4) (s : State)
    (hs : Keeps s0 s) :
    KeepsOut s0 (execCuffDoorbell t ring s) := by
  unfold execCuffDoorbell
  with_reducible repeat' first
      | assumption | intro _ _ _ | intro _ _ | intro _ | apply Keeps.ite | apply KeepsOut.next | apply KeepsOut.ite
      | apply State.ctl_keeps | apply State.doorbell_keeps
      | (fail_if_no_progress refine Keeps.upd ?_ rfl rfl rfl rfl rfl rfl) | dsimp only | split
      | apply Keeps.fst (by assumption) | apply Keeps.snd (by assumption) | apply Keeps.ofSome (by assumption)

theorem execCuffTaskStart_keeps {s0 : State} (t : TileId) (k : SlotId) (s : State)
    (hs : Keeps s0 s) :
    KeepsOut s0 (execCuffTaskStart t k s) := by
  unfold execCuffTaskStart
  with_reducible repeat' first
      | assumption | intro _ _ _ | intro _ _ | intro _ | apply Keeps.ite | apply KeepsOut.next | apply KeepsOut.ite
      | apply State.ctl_keeps | apply State.startTask_keeps
      | (fail_if_no_progress refine Keeps.upd ?_ rfl rfl rfl rfl rfl rfl) | dsimp only | split
      | apply Keeps.fst (by assumption) | apply Keeps.snd (by assumption) | apply Keeps.ofSome (by assumption)

theorem execCuffTaskCancel_keeps {s0 : State} (t : TileId) (k : SlotId) (s : State)
    (hs : Keeps s0 s) :
    KeepsOut s0 (execCuffTaskCancel t k s) := by
  unfold execCuffTaskCancel
  with_reducible repeat' first
      | assumption | intro _ _ _ | intro _ _ | intro _ | apply Keeps.ite | apply KeepsOut.next | apply KeepsOut.ite
      | apply State.ctl_keeps | apply State.cancelTask_keeps
      | (fail_if_no_progress refine Keeps.upd ?_ rfl rfl rfl rfl rfl rfl) | dsimp only | split
      | apply Keeps.fst (by assumption) | apply Keeps.snd (by assumption) | apply Keeps.ofSome (by assumption)

theorem execScoreboardFull_keeps {s0 : State} (t : TileId) (k : SlotId) (s : State)
    (hs : Keeps s0 s) :
    KeepsOut s0 (execScoreboardFull t k s) := by
  unfold execScoreboardFull
  with_reducible repeat' first
      | assumption | intro _ _ _ | intro _ _ | intro _ | apply Keeps.ite | apply KeepsOut.next | apply KeepsOut.ite
      | apply State.cuffFault_keeps | (fail_if_no_progress refine Keeps.upd ?_ rfl rfl rfl rfl rfl rfl) | dsimp only
      | split | apply Keeps.fst (by assumption) | apply Keeps.snd (by assumption) | apply Keeps.ofSome (by assumption)

theorem execCuffCtrClear_keeps {s0 : State} (t : TileId) (s : State)
    (hs : Keeps s0 s) :
    KeepsOut s0 (execCuffCtrClear t s) := by
  unfold execCuffCtrClear
  with_reducible repeat' first
      | assumption | intro _ _ _ | intro _ _ | intro _ | apply Keeps.ite | apply KeepsOut.next | apply KeepsOut.ite
      | apply State.clear_keeps | apply State.ctl_keeps
      | (fail_if_no_progress refine Keeps.upd ?_ rfl rfl rfl rfl rfl rfl) | dsimp only | split
      | apply Keeps.fst (by assumption) | apply Keeps.snd (by assumption) | apply Keeps.ofSome (by assumption)

theorem execFaultJobStop_keeps {s0 : State} (s : State)
    (hs : Keeps s0 s) :
    KeepsOut s0 (execFaultJobStop s) := by
  unfold execFaultJobStop
  with_reducible repeat' first
      | assumption | intro _ _ _ | intro _ _ | intro _ | apply Keeps.ite | apply KeepsOut.next | apply KeepsOut.ite
      | apply State.sendJobStop_keeps | apply State.beginStop_keeps | apply State.settleCmds_keeps
      | (fail_if_no_progress refine Keeps.upd ?_ rfl rfl rfl rfl rfl rfl) | dsimp only | split
      | apply Keeps.fst (by assumption) | apply Keeps.snd (by assumption) | apply Keeps.ofSome (by assumption)

theorem execFaultRecordWrite_keeps {s0 : State} (s : State)
    (hs : Keeps s0 s) :
    KeepsOut s0 (execFaultRecordWrite s) := by
  unfold execFaultRecordWrite
  with_reducible repeat' first
      | assumption | intro _ _ _ | intro _ _ | intro _ | apply Keeps.ite | apply KeepsOut.next | apply KeepsOut.ite
      | apply State.wr_keeps | apply Keeps.foldl | apply Keeps.foldlFst
      | (fail_if_no_progress refine Keeps.upd ?_ rfl rfl rfl rfl rfl rfl) | dsimp only | split
      | apply Keeps.fst (by assumption) | apply Keeps.snd (by assumption) | apply Keeps.ofSome (by assumption)

theorem State.clearLog_keeps {s0 : State} (s : State) (v : Word)
    (hs : Keeps s0 s) :
    Keeps s0 (State.clearLog s v) := by
  unfold State.clearLog
  with_reducible repeat' first
      | assumption | intro _ _ _ | intro _ _ | intro _ | apply Keeps.ite | apply State.forget_keeps
      | (fail_if_no_progress refine Keeps.upd ?_ rfl rfl rfl rfl rfl rfl) | dsimp only | split
      | apply Keeps.fst (by assumption) | apply Keeps.snd (by assumption) | apply Keeps.ofSome (by assumption)

theorem execFlogCtrlClear_keeps {s0 : State} (v : Word) (s : State)
    (hs : Keeps s0 s) :
    KeepsOut s0 (execFlogCtrlClear v s) := by
  unfold execFlogCtrlClear
  with_reducible repeat' first
      | assumption | intro _ _ _ | intro _ _ | intro _ | apply Keeps.ite | apply KeepsOut.next | apply KeepsOut.ite
      | apply State.clearLog_keeps | (fail_if_no_progress refine Keeps.upd ?_ rfl rfl rfl rfl rfl rfl) | dsimp only
      | split | apply Keeps.fst (by assumption) | apply Keeps.snd (by assumption) | apply Keeps.ofSome (by assumption)

theorem execEnvMonitorTrip_keeps {s0 : State} (high below : BitVec 9) (s : State)
    (hs : Keeps s0 s) :
    KeepsOut s0 (execEnvMonitorTrip high below s) := by
  unfold execEnvMonitorTrip
  with_reducible repeat' first
      | assumption | intro _ _ _ | intro _ _ | intro _ | apply Keeps.ite | apply KeepsOut.next | apply KeepsOut.ite
      | apply State.wr_keeps | apply State.pushRec_keeps | apply State.moduleStop_keeps
      | (fail_if_no_progress refine Keeps.upd ?_ rfl rfl rfl rfl rfl rfl) | dsimp only | split
      | apply Keeps.fst (by assumption) | apply Keeps.snd (by assumption) | apply Keeps.ofSome (by assumption)

theorem execEnvWithinLimits_keeps {s0 : State} (s : State)
    (hs : Keeps s0 s) :
    KeepsOut s0 (execEnvWithinLimits s) := by
  unfold execEnvWithinLimits
  with_reducible repeat' first
      | assumption | intro _ _ _ | intro _ _ | intro _ | apply Keeps.ite | apply KeepsOut.next | apply KeepsOut.ite
      | apply State.wr_keeps | (fail_if_no_progress refine Keeps.upd ?_ rfl rfl rfl rfl rfl rfl) | dsimp only | split
      | apply Keeps.fst (by assumption) | apply Keeps.snd (by assumption) | apply Keeps.ofSome (by assumption)

theorem execHbmScrubStep_keeps {s0 : State} (w : Nat) (err : Option Bool) (s : State)
    (hs : Keeps s0 s) :
    KeepsOut s0 (execHbmScrubStep w err s) := by
  unfold execHbmScrubStep
  with_reducible repeat' first
      | assumption | intro _ _ _ | intro _ _ | intro _ | apply Keeps.ite | apply KeepsOut.next | apply KeepsOut.ite
      | apply Keeps.getD | apply State.hbmCheck_keeps
      | (fail_if_no_progress refine Keeps.upd ?_ rfl rfl rfl rfl rfl rfl) | dsimp only | split
      | apply Keeps.fst (by assumption) | apply Keeps.snd (by assumption) | apply Keeps.ofSome (by assumption)

theorem execHbmCtrClear_keeps {s0 : State} (c : Fin 8) (s : State)
    (hs : Keeps s0 s) :
    KeepsOut s0 (execHbmCtrClear c s) := by
  unfold execHbmCtrClear
  with_reducible repeat' first
      | assumption | intro _ _ _ | intro _ _ | intro _ | apply Keeps.ite | apply KeepsOut.next | apply KeepsOut.ite
      | apply State.clear_keeps | apply State.ctl_keeps
      | (fail_if_no_progress refine Keeps.upd ?_ rfl rfl rfl rfl rfl rfl) | dsimp only | split
      | apply Keeps.fst (by assumption) | apply Keeps.snd (by assumption) | apply Keeps.ofSome (by assumption)

theorem execStructLoadStart_keeps {s0 : State} (p : PartId) (s : State)
    (hs : Keeps s0 s) :
    KeepsOut s0 (execStructLoadStart p s) := by
  unfold execStructLoadStart
  with_reducible repeat' first
      | assumption | intro _ _ _ | intro _ _ | intro _ | apply Keeps.ite | apply KeepsOut.next | apply KeepsOut.ite
      | apply State.writeStart_keeps | (fail_if_no_progress refine Keeps.upd ?_ rfl rfl rfl rfl rfl rfl) | dsimp only
      | split | apply Keeps.fst (by assumption) | apply Keeps.snd (by assumption) | apply Keeps.ofSome (by assumption)

theorem execImageChecksPassed_keeps {s0 : State} (img : List Byte) (commits : List CommitRec) (s : State)
    (hs : Keeps s0 s) :
    KeepsOut s0 (execImageChecksPassed img commits s) := by
  unfold execImageChecksPassed
  with_reducible repeat' first
      | assumption | intro _ _ _ | intro _ _ | intro _ | apply Keeps.ite | apply KeepsOut.next | apply KeepsOut.ite
      | apply State.wakeDomains_keeps | apply State.passLoad_keeps | apply State.settleCmds_keeps
      | (fail_if_no_progress refine Keeps.upd ?_ rfl rfl rfl rfl rfl rfl) | dsimp only | split
      | apply Keeps.fst (by assumption) | apply Keeps.snd (by assumption) | apply Keeps.ofSome (by assumption)

theorem State.refuseCharged_keeps {s0 : State} (s : State) (l : Load)
    (hs : Keeps s0 s) :
    Keeps s0 (State.refuseCharged s l) := by
  unfold State.refuseCharged
  with_reducible repeat' first
      | assumption | intro _ _ _ | intro _ _ | intro _ | apply Keeps.ite | apply State.clearShortfall_keeps
      | apply State.refuseLoad_keeps | apply State.freeW_keeps
      | (fail_if_no_progress refine Keeps.upd ?_ rfl rfl rfl rfl rfl rfl) | dsimp only | split
      | apply Keeps.fst (by assumption) | apply Keeps.snd (by assumption) | apply Keeps.ofSome (by assumption)

theorem execImageRejected_keeps {s0 : State} (img : List Byte) (s : State)
    (hs : Keeps s0 s) :
    KeepsOut s0 (execImageRejected img s) := by
  unfold execImageRejected
  with_reducible repeat' first
      | assumption | intro _ _ _ | intro _ _ | intro _ | apply Keeps.ite | apply KeepsOut.next | apply KeepsOut.ite
      | apply State.rejectLoad_keeps | apply State.settleCmds_keeps | apply State.refuseCharged_keeps
      | (fail_if_no_progress refine Keeps.upd ?_ rfl rfl rfl rfl rfl rfl) | dsimp only | split
      | apply Keeps.fst (by assumption) | apply Keeps.snd (by assumption) | apply Keeps.ofSome (by assumption)

theorem execImageApply_keeps {s0 : State} (s : State)
    (hs : Keeps s0 s) :
    KeepsOut s0 (execImageApply s) := by
  unfold execImageApply
  with_reducible repeat' first
      | assumption | intro _ _ _ | intro _ _ | intro _ | apply Keeps.ite | apply KeepsOut.next | apply KeepsOut.ite
      | apply State.applyFields_keeps | apply State.placeBodies_keeps | apply State.applyCommits_keeps
      | (fail_if_no_progress refine Keeps.upd ?_ rfl rfl rfl rfl rfl rfl) | dsimp only | split
      | apply Keeps.fst (by assumption) | apply Keeps.snd (by assumption) | apply Keeps.ofSome (by assumption)

theorem execImageApplied_keeps {s0 : State} (s : State)
    (hs : Keeps s0 s) :
    KeepsOut s0 (execImageApplied s) := by
  unfold execImageApplied
  with_reducible repeat' first
      | assumption | intro _ _ _ | intro _ _ | intro _ | apply Keeps.ite | apply KeepsOut.next | apply KeepsOut.ite
      | apply Keeps.getD | apply State.wr_keeps | apply State.setFld_keeps | apply State.setSlot_keeps
      | apply State.setLoad_keeps | apply State.endLoad_keeps | apply State.openWindows_keeps
      | apply State.epochStep_keeps | apply State.settleCmds_keeps | apply State.refuseCharged_keeps
      | (fail_if_no_progress refine Keeps.upd ?_ rfl rfl rfl rfl rfl rfl) | dsimp only | split
      | apply Keeps.fst (by assumption) | apply Keeps.snd (by assumption) | apply Keeps.ofSome (by assumption)

theorem execWinCtrlOpen_keeps {s0 : State} (t : TileId) (w : WinId) (u : Requester) (s : State)
    (hs : Keeps s0 s) :
    KeepsOut s0 (execWinCtrlOpen t w u s) := by
  unfold execWinCtrlOpen
  with_reducible repeat' first
      | assumption | intro _ _ _ | intro _ _ | intro _ | apply Keeps.ite | apply KeepsOut.next | apply KeepsOut.ite
      | apply State.ctl_keeps | apply State.openWindow_keeps
      | (fail_if_no_progress refine Keeps.upd ?_ rfl rfl rfl rfl rfl rfl) | dsimp only | split
      | apply Keeps.fst (by assumption) | apply Keeps.snd (by assumption) | apply Keeps.ofSome (by assumption)

theorem execWinCtrlClose_keeps {s0 : State} (t : TileId) (w : WinId) (s : State)
    (hs : Keeps s0 s) :
    KeepsOut s0 (execWinCtrlClose t w s) := by
  unfold execWinCtrlClose
  with_reducible repeat' first
      | assumption | intro _ _ _ | intro _ _ | intro _ | apply Keeps.ite | apply KeepsOut.next | apply KeepsOut.ite
      | apply State.ctl_keeps | apply State.closeWindow_keeps
      | (fail_if_no_progress refine Keeps.upd ?_ rfl rfl rfl rfl rfl rfl) | dsimp only | split
      | apply Keeps.fst (by assumption) | apply Keeps.snd (by assumption) | apply Keeps.ofSome (by assumption)

theorem execOpeningAccess_keeps {s0 : State} (t : TileId) (e : FlitErr) (s : State)
    (hs : Keeps s0 s) :
    KeepsOut s0 (execOpeningAccess t e s) := by
  unfold execOpeningAccess
  with_reducible repeat' first
      | assumption | intro _ _ _ | intro _ _ | intro _ | apply Keeps.ite | apply KeepsOut.next | apply KeepsOut.ite
      | apply State.arriveAt_keeps | (fail_if_no_progress refine Keeps.upd ?_ rfl rfl rfl rfl rfl rfl) | dsimp only
      | split | apply Keeps.fst (by assumption) | apply Keeps.snd (by assumption) | apply Keeps.ofSome (by assumption)

theorem execTaggedAccess_keeps {s0 : State} (t : TileId) (e : FlitErr) (s : State)
    (hs : Keeps s0 s) :
    KeepsOut s0 (execTaggedAccess t e s) := by
  unfold execTaggedAccess
  with_reducible repeat' first
      | assumption | intro _ _ _ | intro _ _ | intro _ | apply Keeps.ite | apply KeepsOut.next | apply KeepsOut.ite
      | apply State.arriveAt_keeps | (fail_if_no_progress refine Keeps.upd ?_ rfl rfl rfl rfl rfl rfl) | dsimp only
      | split | apply Keeps.fst (by assumption) | apply Keeps.snd (by assumption) | apply Keeps.ofSome (by assumption)

theorem execLkacq_keeps {s0 : State} (u : LockReq) (s : State)
    (hs : Keeps s0 s) :
    KeepsOut s0 (execLkacq u s) := by
  unfold execLkacq
  with_reducible repeat' first
      | assumption | intro _ _ _ | intro _ _ | intro _ | apply Keeps.ite | apply KeepsOut.next | apply KeepsOut.ite
      | apply State.issue_keeps | apply State.wait_keeps | apply State.setRd_keeps | apply State.refuseLock_keeps
      | apply State.acquire_keeps | apply Keeps.ofId
      | (fail_if_no_progress refine Keeps.upd ?_ rfl rfl rfl rfl rfl rfl) | dsimp only | split
      | apply Keeps.fst (by assumption) | apply Keeps.snd (by assumption) | apply Keeps.ofSome (by assumption)

theorem execLkrel_keeps {s0 : State} (u : LockReq) (s : State)
    (hs : Keeps s0 s) :
    KeepsOut s0 (execLkrel u s) := by
  unfold execLkrel
  with_reducible repeat' first
      | assumption | intro _ _ _ | intro _ _ | intro _ | apply Keeps.ite | apply KeepsOut.next | apply KeepsOut.ite
      | apply State.issue_keeps | apply State.complete_keeps | apply State.releaseLock_keeps
      | (fail_if_no_progress refine Keeps.upd ?_ rfl rfl rfl rfl rfl rfl) | dsimp only | split
      | apply Keeps.fst (by assumption) | apply Keeps.snd (by assumption) | apply Keeps.ofSome (by assumption)

theorem execLockGrant_keeps {s0 : State} (l : LockId) (s : State)
    (hs : Keeps s0 s) :
    KeepsOut s0 (execLockGrant l s) := by
  unfold execLockGrant
  with_reducible repeat' first
      | assumption | intro _ _ _ | intro _ _ | intro _ | apply Keeps.ite | apply KeepsOut.next | apply KeepsOut.ite
      | apply State.setWaiters_keeps | apply State.setRd_keeps | apply State.takeLock_keeps
      | (fail_if_no_progress refine Keeps.upd ?_ rfl rfl rfl rfl rfl rfl) | dsimp only | split
      | apply Keeps.fst (by assumption) | apply Keeps.snd (by assumption) | apply Keeps.ofSome (by assumption)

theorem execLockLeaseExpire_keeps {s0 : State} (l : LockId) (s : State)
    (hs : Keeps s0 s) :
    KeepsOut s0 (execLockLeaseExpire l s) := by
  unfold execLockLeaseExpire
  with_reducible repeat' first
      | assumption | intro _ _ _ | intro _ _ | intro _ | apply Keeps.ite | apply KeepsOut.next | apply KeepsOut.ite
      | apply State.recordOnly_keeps | apply State.orphanLock_keeps | apply State.warnTask_keeps
      | (fail_if_no_progress refine Keeps.upd ?_ rfl rfl rfl rfl rfl rfl) | dsimp only | split
      | apply Keeps.fst (by assumption) | apply Keeps.snd (by assumption) | apply Keeps.ofSome (by assumption)

theorem State.forceOrphan_keeps {s0 : State} (s : State) (l : Nat)
    (hs : Keeps s0 s) :
    Keeps s0 (State.forceOrphan s l) := by
  unfold State.forceOrphan
  with_reducible repeat' first
      | assumption | intro _ _ _ | intro _ _ | intro _ | apply Keeps.ite | apply State.orphanLock_keeps
      | (fail_if_no_progress refine Keeps.upd ?_ rfl rfl rfl rfl rfl rfl) | dsimp only | split
      | apply Keeps.fst (by assumption) | apply Keeps.snd (by assumption) | apply Keeps.ofSome (by assumption)

theorem execLockCtrlOrphan_keeps {s0 : State} (p : PanelId) (i : Fin 32) (s : State)
    (hs : Keeps s0 s) :
    KeepsOut s0 (execLockCtrlOrphan p i s) := by
  unfold execLockCtrlOrphan
  with_reducible repeat' first
      | assumption | intro _ _ _ | intro _ _ | intro _ | apply Keeps.ite | apply KeepsOut.next | apply KeepsOut.ite
      | apply State.ctl_keeps | apply State.forceOrphan_keeps
      | (fail_if_no_progress refine Keeps.upd ?_ rfl rfl rfl rfl rfl rfl) | dsimp only | split
      | apply Keeps.fst (by assumption) | apply Keeps.snd (by assumption) | apply Keeps.ofSome (by assumption)

theorem execArbitrationRound_keeps {s0 : State} (site : ArbSite) (reqs : List ArbReq) (ms : Nat) (s : State)
    (hs : Keeps s0 s) :
    KeepsOut s0 (execArbitrationRound site reqs ms s) := by
  unfold execArbitrationRound
  with_reducible repeat' first
      | assumption | intro _ _ _ | intro _ _ | intro _ | apply Keeps.ite | apply KeepsOut.next | apply KeepsOut.ite
      | apply State.arbRound_keeps | (fail_if_no_progress refine Keeps.upd ?_ rfl rfl rfl rfl rfl rfl) | dsimp only
      | split | apply Keeps.fst (by assumption) | apply Keeps.snd (by assumption) | apply Keeps.ofSome (by assumption)

theorem execWinCtrClearAll_keeps {s0 : State} (t : TileId) (s : State)
    (hs : Keeps s0 s) :
    KeepsOut s0 (execWinCtrClearAll t s) := by
  unfold execWinCtrClearAll
  with_reducible repeat' first
      | assumption | intro _ _ _ | intro _ _ | intro _ | apply Keeps.ite | apply KeepsOut.next | apply KeepsOut.ite
      | apply State.clear_keeps | apply State.ctl_keeps
      | (fail_if_no_progress refine Keeps.upd ?_ rfl rfl rfl rfl rfl rfl) | dsimp only | split
      | apply Keeps.fst (by assumption) | apply Keeps.snd (by assumption) | apply Keeps.ofSome (by assumption)

theorem execWinCtrClearStarve_keeps {s0 : State} (t : TileId) (s : State)
    (hs : Keeps s0 s) :
    KeepsOut s0 (execWinCtrClearStarve t s) := by
  unfold execWinCtrClearStarve
  with_reducible repeat' first
      | assumption | intro _ _ _ | intro _ _ | intro _ | apply Keeps.ite | apply KeepsOut.next | apply KeepsOut.ite
      | apply State.clear_keeps | apply State.ctl_keeps
      | (fail_if_no_progress refine Keeps.upd ?_ rfl rfl rfl rfl rfl rfl) | dsimp only | split
      | apply Keeps.fst (by assumption) | apply Keeps.snd (by assumption) | apply Keeps.ofSome (by assumption)

theorem execLockCtrClear_keeps {s0 : State} (p : PanelId) (s : State)
    (hs : Keeps s0 s) :
    KeepsOut s0 (execLockCtrClear p s) := by
  unfold execLockCtrClear
  with_reducible repeat' first
      | assumption | intro _ _ _ | intro _ _ | intro _ | apply Keeps.ite | apply KeepsOut.next | apply KeepsOut.ite
      | apply State.clear_keeps | apply State.ctl_keeps
      | (fail_if_no_progress refine Keeps.upd ?_ rfl rfl rfl rfl rfl rfl) | dsimp only | split
      | apply Keeps.fst (by assumption) | apply Keeps.snd (by assumption) | apply Keeps.ofSome (by assumption)

theorem execMeshCtrClear_keeps {s0 : State} (s : State)
    (hs : Keeps s0 s) :
    KeepsOut s0 (execMeshCtrClear s) := by
  unfold execMeshCtrClear
  with_reducible repeat' first
      | assumption | intro _ _ _ | intro _ _ | intro _ | apply Keeps.ite | apply KeepsOut.next | apply KeepsOut.ite
      | apply State.clear_keeps | apply State.ctl_keeps
      | (fail_if_no_progress refine Keeps.upd ?_ rfl rfl rfl rfl rfl rfl) | dsimp only | split
      | apply Keeps.fst (by assumption) | apply Keeps.snd (by assumption) | apply Keeps.ofSome (by assumption)

theorem execLayerBarrierRelease_keeps {s0 : State} (q : PartId) (s : State)
    (hs : Keeps s0 s) :
    KeepsOut s0 (execLayerBarrierRelease q s) := by
  unfold execLayerBarrierRelease
  with_reducible repeat' first
      | assumption | intro _ _ _ | intro _ _ | intro _ | apply Keeps.ite | apply KeepsOut.next | apply KeepsOut.ite
      | apply State.barrier_keeps | apply State.settleCmds_keeps
      | (fail_if_no_progress refine Keeps.upd ?_ rfl rfl rfl rfl rfl rfl) | dsimp only | split
      | apply Keeps.fst (by assumption) | apply Keeps.snd (by assumption) | apply Keeps.ofSome (by assumption)

theorem execBarrierArrive_keeps {s0 : State} (place : PktAt) (s : State)
    (hs : Keeps s0 s) :
    KeepsOut s0 (execBarrierArrive place s) := by
  unfold execBarrierArrive
  with_reducible repeat' first
      | assumption | intro _ _ _ | intro _ _ | intro _ | apply Keeps.ite | apply KeepsOut.next | apply KeepsOut.ite
      | apply State.count_keeps | apply State.setSlot_keeps | apply State.onPacket_keeps | apply State.barrier_keeps
      | apply State.settleCmds_keeps | (fail_if_no_progress refine Keeps.upd ?_ rfl rfl rfl rfl rfl rfl) | dsimp only
      | split | apply Keeps.fst (by assumption) | apply Keeps.snd (by assumption) | apply Keeps.ofSome (by assumption)

theorem execBarrierRelease_keeps {s0 : State} (place : PktAt) (s : State)
    (hs : Keeps s0 s) :
    KeepsOut s0 (execBarrierRelease place s) := by
  unfold execBarrierRelease
  with_reducible repeat' first
      | assumption | intro _ _ _ | intro _ _ | intro _ | apply Keeps.ite | apply KeepsOut.next | apply KeepsOut.ite
      | apply State.onPacket_keeps | apply State.onRelease_keeps | apply State.settleCmds_keeps
      | (fail_if_no_progress refine Keeps.upd ?_ rfl rfl rfl rfl rfl rfl) | dsimp only | split
      | apply Keeps.fst (by assumption) | apply Keeps.snd (by assumption) | apply Keeps.ofSome (by assumption)

theorem execEpochBoundary_keeps {s0 : State} (q : PartId) (s : State)
    (hs : Keeps s0 s) :
    KeepsOut s0 (execEpochBoundary q s) := by
  unfold execEpochBoundary
  with_reducible repeat' first
      | assumption | intro _ _ _ | intro _ _ | intro _ | apply Keeps.ite | apply KeepsOut.next | apply KeepsOut.ite
      | apply State.epochStep_keeps | apply State.settleCmds_keeps
      | (fail_if_no_progress refine Keeps.upd ?_ rfl rfl rfl rfl rfl rfl) | dsimp only | split
      | apply Keeps.fst (by assumption) | apply Keeps.snd (by assumption) | apply Keeps.ofSome (by assumption)

theorem execBeforeImageCopy_keeps {s0 : State} (page : Nat) (s : State)
    (hs : Keeps s0 s) :
    KeepsOut s0 (execBeforeImageCopy page s) := by
  unfold execBeforeImageCopy
  with_reducible repeat' first
      | assumption | intro _ _ _ | intro _ _ | intro _ | apply Keeps.ite | apply KeepsOut.next | apply KeepsOut.ite
      | apply State.beforeImage_keeps | (fail_if_no_progress refine Keeps.upd ?_ rfl rfl rfl rfl rfl rfl) | dsimp only
      | split | apply Keeps.fst (by assumption) | apply Keeps.snd (by assumption) | apply Keeps.ofSome (by assumption)

theorem State.prepare_keeps {s0 : State} (s : State) (q : Nat)
    (hs : Keeps s0 s) :
    Keeps s0 (State.prepare s q) := by
  unfold State.prepare
  with_reducible repeat' first
      | assumption | intro _ _ _ | intro _ _ | intro _ | apply Keeps.ite | apply State.epochStep_keeps
      | (fail_if_no_progress refine Keeps.upd ?_ rfl rfl rfl rfl rfl rfl) | dsimp only | split
      | apply Keeps.fst (by assumption) | apply Keeps.snd (by assumption) | apply Keeps.ofSome (by assumption)

theorem execPage_keeps {s0 : State} (place : PktAt) (s : State)
    (hs : Keeps s0 s) :
    KeepsOut s0 (execPage place s) := by
  unfold execPage
  with_reducible repeat' first
      | assumption | intro _ _ _ | intro _ _ | intro _ | apply Keeps.ite | apply KeepsOut.next | apply KeepsOut.ite
      | apply Keeps.getD | apply State.onPacket_keeps | apply State.pageReply_keeps | apply State.landPage_keeps
      | apply State.restorePage_keeps | apply State.tryRestored_keeps | apply State.settleCmds_keeps
      | apply State.prepare_keeps | (fail_if_no_progress refine Keeps.upd ?_ rfl rfl rfl rfl rfl rfl) | dsimp only
      | split | apply Keeps.fst (by assumption) | apply Keeps.snd (by assumption) | apply Keeps.ofSome (by assumption)

theorem execEpochSent_keeps {s0 : State} (place : PktAt) (s : State)
    (hs : Keeps s0 s) :
    KeepsOut s0 (execEpochSent place s) := by
  unfold execEpochSent
  with_reducible repeat' first
      | assumption | intro _ _ _ | intro _ _ | intro _ | apply Keeps.ite | apply KeepsOut.next | apply KeepsOut.ite
      | apply State.setSlot_keeps | apply State.onPacket_keeps | apply State.tryLanded_keeps
      | apply State.settleCmds_keeps | apply State.prepare_keeps
      | (fail_if_no_progress refine Keeps.upd ?_ rfl rfl rfl rfl rfl rfl) | dsimp only | split
      | apply Keeps.fst (by assumption) | apply Keeps.snd (by assumption) | apply Keeps.ofSome (by assumption)

theorem execEpochLanded_keeps {s0 : State} (place : PktAt) (s : State)
    (hs : Keeps s0 s) :
    KeepsOut s0 (execEpochLanded place s) := by
  unfold execEpochLanded
  with_reducible repeat' first
      | assumption | intro _ _ _ | intro _ _ | intro _ | apply Keeps.ite | apply KeepsOut.next | apply KeepsOut.ite
      | apply State.setSlot_keeps | apply State.onPacket_keeps | apply State.settleCmds_keeps
      | apply State.prepare_keeps | (fail_if_no_progress refine Keeps.upd ?_ rfl rfl rfl rfl rfl rfl) | dsimp only
      | split | apply Keeps.fst (by assumption) | apply Keeps.snd (by assumption) | apply Keeps.ofSome (by assumption)

theorem execAck_keeps {s0 : State} (place : PktAt) (s : State)
    (hs : Keeps s0 s) :
    KeepsOut s0 (execAck place s) := by
  unfold execAck
  with_reducible repeat' first
      | assumption | intro _ _ _ | intro _ _ | intro _ | apply Keeps.ite | apply KeepsOut.next | apply KeepsOut.ite
      | apply State.onPacket_keeps | apply State.pageAnswered_keeps | apply State.restoreNext_keeps
      | apply Keeps.foldl | apply Keeps.foldlFst | (fail_if_no_progress refine Keeps.upd ?_ rfl rfl rfl rfl rfl rfl)
      | dsimp only | split | apply Keeps.fst (by assumption) | apply Keeps.snd (by assumption)
      | apply Keeps.ofSome (by assumption)

theorem State.remoteRecord_keeps {s0 : State} (s : State) (q : Option Nat) (code cls module ctx : Nat)
    (hs : Keeps s0 s) :
    Keeps s0 (State.remoteRecord s q code cls module ctx) := by
  unfold State.remoteRecord
  with_reducible repeat' first
      | assumption | intro _ _ _ | intro _ _ | intro _ | apply Keeps.ite | apply State.pushRec_keeps
      | (fail_if_no_progress refine Keeps.upd ?_ rfl rfl rfl rfl rfl rfl) | dsimp only | split
      | apply Keeps.fst (by assumption) | apply Keeps.snd (by assumption) | apply Keeps.ofSome (by assumption)

theorem execLost_keeps {s0 : State} (place : PktAt) (s : State)
    (hs : Keeps s0 s) :
    KeepsOut s0 (execLost place s) := by
  unfold execLost
  with_reducible repeat' first
      | assumption | intro _ _ _ | intro _ _ | intro _ | apply Keeps.ite | apply KeepsOut.next | apply KeepsOut.ite
      | apply State.sendJobStop_keeps | apply State.onPacket_keeps | apply State.beginStop_keeps
      | apply State.addLost_keeps | apply State.settleCmds_keeps | apply State.remoteRecord_keeps | apply Keeps.foldl
      | apply Keeps.foldlFst | (fail_if_no_progress refine Keeps.upd ?_ rfl rfl rfl rfl rfl rfl) | dsimp only | split
      | apply Keeps.fst (by assumption) | apply Keeps.snd (by assumption) | apply Keeps.ofSome (by assumption)

theorem execJobStop_keeps {s0 : State} (place : PktAt) (s : State)
    (hs : Keeps s0 s) :
    KeepsOut s0 (execJobStop place s) := by
  unfold execJobStop
  with_reducible repeat' first
      | assumption | intro _ _ _ | intro _ _ | intro _ | apply Keeps.ite | apply KeepsOut.next | apply KeepsOut.ite
      | apply State.onPacket_keeps | apply State.beginStop_keeps | apply State.addLost_keeps
      | apply State.settleCmds_keeps | apply State.remoteRecord_keeps
      | (fail_if_no_progress refine Keeps.upd ?_ rfl rfl rfl rfl rfl rfl) | dsimp only | split
      | apply Keeps.fst (by assumption) | apply Keeps.snd (by assumption) | apply Keeps.ofSome (by assumption)

theorem execMirrorPortsDownTimeout_keeps {s0 : State} (s : State)
    (hs : Keeps s0 s) :
    KeepsOut s0 (execMirrorPortsDownTimeout s) := by
  unfold execMirrorPortsDownTimeout
  with_reducible repeat' first
      | assumption | intro _ _ _ | intro _ _ | intro _ | apply Keeps.ite | apply KeepsOut.next | apply KeepsOut.ite
      | apply State.setSlot_keeps | apply State.linkFail_keeps | apply State.addLost_keeps
      | apply State.settleCmds_keeps | apply Keeps.foldl | apply Keeps.foldlFst
      | (fail_if_no_progress refine Keeps.upd ?_ rfl rfl rfl rfl rfl rfl) | dsimp only | split
      | apply Keeps.fst (by assumption) | apply Keeps.snd (by assumption) | apply Keeps.ofSome (by assumption)

theorem execCoordinatorAnswerTimeout_keeps {s0 : State} (q : PartId) (m : Fin 2048) (s : State)
    (hs : Keeps s0 s) :
    KeepsOut s0 (execCoordinatorAnswerTimeout q m s) := by
  unfold execCoordinatorAnswerTimeout
  with_reducible repeat' first
      | assumption | intro _ _ _ | intro _ _ | intro _ | apply Keeps.ite | apply KeepsOut.next | apply KeepsOut.ite
      | apply State.addLost_keeps | apply State.settleCmds_keeps
      | (fail_if_no_progress refine Keeps.upd ?_ rfl rfl rfl rfl rfl rfl) | dsimp only | split
      | apply Keeps.fst (by assumption) | apply Keeps.snd (by assumption) | apply Keeps.ofSome (by assumption)

theorem State.decide_keeps {s0 : State} (s : State) (q e : Nat)
    (hs : Keeps s0 s) :
    Keeps s0 (State.decide s q e) := by
  unfold State.decide
  with_reducible repeat' first
      | assumption | intro _ _ _ | intro _ _ | intro _ | apply Keeps.ite | apply State.setSlot_keeps
      | apply State.setMirror_keeps | (fail_if_no_progress refine Keeps.upd ?_ rfl rfl rfl rfl rfl rfl) | dsimp only
      | split | apply Keeps.fst (by assumption) | apply Keeps.snd (by assumption) | apply Keeps.ofSome (by assumption)

theorem execEpochDecision_keeps {s0 : State} (q : PartId) (d : Decision) (s : State)
    (hs : Keeps s0 s) :
    KeepsOut s0 (execEpochDecision q d s) := by
  unfold execEpochDecision
  with_reducible repeat' first
      | assumption | intro _ _ _ | intro _ _ | intro _ | apply Keeps.ite | apply KeepsOut.next | apply KeepsOut.ite
      | apply Keeps.getD | apply State.setSlot_keeps | apply State.addAllLost_keeps | apply State.settleCmds_keeps
      | apply State.decide_keeps | (fail_if_no_progress refine Keeps.upd ?_ rfl rfl rfl rfl rfl rfl) | dsimp only
      | split | apply Keeps.fst (by assumption) | apply Keeps.snd (by assumption) | apply Keeps.ofSome (by assumption)

theorem execRollbackDone_keeps {s0 : State} (q : PartId) (s : State)
    (hs : Keeps s0 s) :
    KeepsOut s0 (execRollbackDone q s) := by
  unfold execRollbackDone
  with_reducible repeat' first
      | assumption | intro _ _ _ | intro _ _ | intro _ | apply Keeps.ite | apply KeepsOut.next | apply KeepsOut.ite
      | apply State.rollback_keeps | apply State.afterRollback_keeps
      | (fail_if_no_progress refine Keeps.upd ?_ rfl rfl rfl rfl rfl rfl) | dsimp only | split
      | apply Keeps.fst (by assumption) | apply Keeps.snd (by assumption) | apply Keeps.ofSome (by assumption)

theorem execSpareRetry_keeps {s0 : State} (q : PartId) (f : SpareFind) (s : State)
    (hs : Keeps s0 s) :
    KeepsOut s0 (execSpareRetry q f s) := by
  unfold execSpareRetry
  with_reducible repeat' first
      | assumption | intro _ _ _ | intro _ _ | intro _ | apply Keeps.ite | apply KeepsOut.next | apply KeepsOut.ite
      | apply State.takeSpares_keeps | apply State.noSpare_keeps | apply State.settleCmds_keeps
      | (fail_if_no_progress refine Keeps.upd ?_ rfl rfl rfl rfl rfl rfl) | dsimp only | split
      | apply Keeps.fst (by assumption) | apply Keeps.snd (by assumption) | apply Keeps.ofSome (by assumption)

theorem execMirrorReconnectTimeout_keeps {s0 : State} (q : PartId) (s : State)
    (hs : Keeps s0 s) :
    KeepsOut s0 (execMirrorReconnectTimeout q s) := by
  unfold execMirrorReconnectTimeout
  with_reducible repeat' first
      | assumption | intro _ _ _ | intro _ _ | intro _ | apply Keeps.ite | apply KeepsOut.next | apply KeepsOut.ite
      | apply State.mirrorFail_keeps | (fail_if_no_progress refine Keeps.upd ?_ rfl rfl rfl rfl rfl rfl) | dsimp only
      | split | apply Keeps.fst (by assumption) | apply Keeps.snd (by assumption) | apply Keeps.ofSome (by assumption)

theorem execLinkTrainingDone_keeps {s0 : State} (p : PortId) (s : State)
    (hs : Keeps s0 s) :
    KeepsOut s0 (execLinkTrainingDone p s) := by
  unfold execLinkTrainingDone
  with_reducible repeat' first
      | assumption | intro _ _ _ | intro _ _ | intro _ | apply Keeps.ite | apply KeepsOut.next | apply KeepsOut.ite
      | apply State.trained_keeps | apply State.beginRestore_keeps | apply Keeps.foldl | apply Keeps.foldlFst
      | (fail_if_no_progress refine Keeps.upd ?_ rfl rfl rfl rfl rfl rfl) | dsimp only | split
      | apply Keeps.fst (by assumption) | apply Keeps.snd (by assumption) | apply Keeps.ofSome (by assumption)

theorem execRestoreBegin_keeps {s0 : State} (place : PktAt) (q : PartId) (step : Word) (s : State)
    (hs : Keeps s0 s) :
    KeepsOut s0 (execRestoreBegin place q step s) := by
  unfold execRestoreBegin
  with_reducible repeat' first
      | assumption | intro _ _ _ | intro _ _ | intro _ | apply Keeps.ite | apply KeepsOut.next | apply KeepsOut.ite
      | apply State.setFld_keeps | apply State.setSlot_keeps | apply State.setLoad_keeps | apply State.onPacket_keeps
      | apply State.setMirror_keeps | apply State.epochStep_keeps
      | (fail_if_no_progress refine Keeps.upd ?_ rfl rfl rfl rfl rfl rfl) | dsimp only | split
      | apply Keeps.fst (by assumption) | apply Keeps.snd (by assumption) | apply Keeps.ofSome (by assumption)

theorem execRestoreDone_keeps {s0 : State} (place : PktAt) (s : State)
    (hs : Keeps s0 s) :
    KeepsOut s0 (execRestoreDone place s) := by
  unfold execRestoreDone
  with_reducible repeat' first
      | assumption | intro _ _ _ | intro _ _ | intro _ | apply Keeps.ite | apply KeepsOut.next | apply KeepsOut.ite
      | apply State.setSlot_keeps | apply State.onPacket_keeps | apply State.setMirror_keeps
      | apply State.toBarrier_keeps | apply State.tryRestored_keeps
      | (fail_if_no_progress refine Keeps.upd ?_ rfl rfl rfl rfl rfl rfl) | dsimp only | split
      | apply Keeps.fst (by assumption) | apply Keeps.snd (by assumption) | apply Keeps.ofSome (by assumption)

theorem execRestartBarrierRelease_keeps {s0 : State} (q : PartId) (s : State)
    (hs : Keeps s0 s) :
    KeepsOut s0 (execRestartBarrierRelease q s) := by
  unfold execRestartBarrierRelease
  with_reducible repeat' first
      | assumption | intro _ _ _ | intro _ _ | intro _ | apply Keeps.ite | apply KeepsOut.next | apply KeepsOut.ite
      | apply State.count_keeps | apply State.setSlot_keeps | apply State.setMirror_keeps | apply State.startAll_keeps
      | apply State.settleCmds_keeps | (fail_if_no_progress refine Keeps.upd ?_ rfl rfl rfl rfl rfl rfl) | dsimp only
      | split | apply Keeps.fst (by assumption) | apply Keeps.snd (by assumption) | apply Keeps.ofSome (by assumption)

theorem State.askPlanned_keeps {s0 : State} (s : State) (q : Nat)
    (hs : Keeps s0 s) :
    Keeps s0 (State.askPlanned s q) := by
  unfold State.askPlanned
  with_reducible repeat' first
      | assumption | intro _ _ _ | intro _ _ | intro _ | apply Keeps.ite | apply State.setSlot_keeps
      | (fail_if_no_progress refine Keeps.upd ?_ rfl rfl rfl rfl rfl rfl) | dsimp only | split
      | apply Keeps.fst (by assumption) | apply Keeps.snd (by assumption) | apply Keeps.ofSome (by assumption)

theorem execMirrorCtrlPlanned_keeps {s0 : State} (q : PartId) (s : State)
    (hs : Keeps s0 s) :
    KeepsOut s0 (execMirrorCtrlPlanned q s) := by
  unfold execMirrorCtrlPlanned
  with_reducible repeat' first
      | assumption | intro _ _ _ | intro _ _ | intro _ | apply Keeps.ite | apply KeepsOut.next | apply KeepsOut.ite
      | apply State.askPlanned_keeps | (fail_if_no_progress refine Keeps.upd ?_ rfl rfl rfl rfl rfl rfl) | dsimp only
      | split | apply Keeps.fst (by assumption) | apply Keeps.snd (by assumption) | apply Keeps.ofSome (by assumption)

theorem execMirrorCtrClear_keeps {s0 : State} (q : PartId) (s : State)
    (hs : Keeps s0 s) :
    KeepsOut s0 (execMirrorCtrClear q s) := by
  unfold execMirrorCtrClear
  with_reducible repeat' first
      | assumption | intro _ _ _ | intro _ _ | intro _ | apply Keeps.ite | apply KeepsOut.next | apply KeepsOut.ite
      | apply State.clear_keeps | (fail_if_no_progress refine Keeps.upd ?_ rfl rfl rfl rfl rfl rfl) | dsimp only
      | split | apply Keeps.fst (by assumption) | apply Keeps.snd (by assumption) | apply Keeps.ofSome (by assumption)

theorem execPlacketQCtrlRelease_keeps {s0 : State} (t : TileId) (q : QueueId) (n : Nat) (u : Requester) (s : State)
    (hs : Keeps s0 s) :
    KeepsOut s0 (execPlacketQCtrlRelease t q n u s) := by
  unfold execPlacketQCtrlRelease
  with_reducible repeat' first
      | assumption | intro _ _ _ | intro _ _ | intro _ | apply Keeps.ite | apply KeepsOut.next | apply KeepsOut.ite
      | apply State.ctl_keeps | apply State.release_keeps | apply State.ringWrite_keeps
      | (fail_if_no_progress refine Keeps.upd ?_ rfl rfl rfl rfl rfl rfl) | dsimp only | split
      | apply Keeps.fst (by assumption) | apply Keeps.snd (by assumption) | apply Keeps.ofSome (by assumption)

theorem execPlacketQCtrlCommit_keeps {s0 : State} (t : TileId) (q : QueueId) (n : Nat) (u : Requester) (s : State)
    (hs : Keeps s0 s) :
    KeepsOut s0 (execPlacketQCtrlCommit t q n u s) := by
  unfold execPlacketQCtrlCommit
  with_reducible repeat' first
      | assumption | intro _ _ _ | intro _ _ | intro _ | apply Keeps.ite | apply KeepsOut.next | apply KeepsOut.ite
      | apply State.ctl_keeps | apply State.commit_keeps | apply State.ringWrite_keeps
      | (fail_if_no_progress refine Keeps.upd ?_ rfl rfl rfl rfl rfl rfl) | dsimp only | split
      | apply Keeps.fst (by assumption) | apply Keeps.snd (by assumption) | apply Keeps.ofSome (by assumption)

theorem execPlacketQCtrlCancel_keeps {s0 : State} (t : TileId) (q : QueueId) (s : State)
    (hs : Keeps s0 s) :
    KeepsOut s0 (execPlacketQCtrlCancel t q s) := by
  unfold execPlacketQCtrlCancel
  with_reducible repeat' first
      | assumption | intro _ _ _ | intro _ _ | intro _ | apply Keeps.ite | apply KeepsOut.next | apply KeepsOut.ite
      | apply State.ctl_keeps | apply State.reqCancel_keeps
      | (fail_if_no_progress refine Keeps.upd ?_ rfl rfl rfl rfl rfl rfl) | dsimp only | split
      | apply Keeps.fst (by assumption) | apply Keeps.snd (by assumption) | apply Keeps.ofSome (by assumption)

theorem execPlacketCtrClear_keeps {s0 : State} (t : TileId) (s : State)
    (hs : Keeps s0 s) :
    KeepsOut s0 (execPlacketCtrClear t s) := by
  unfold execPlacketCtrClear
  with_reducible repeat' first
      | assumption | intro _ _ _ | intro _ _ | intro _ | apply Keeps.ite | apply KeepsOut.next | apply KeepsOut.ite
      | apply State.clear_keeps | apply State.ctl_keeps
      | (fail_if_no_progress refine Keeps.upd ?_ rfl rfl rfl rfl rfl rfl) | dsimp only | split
      | apply Keeps.fst (by assumption) | apply Keeps.snd (by assumption) | apply Keeps.ofSome (by assumption)

theorem execDescriptorStart_keeps {s0 : State} (t : TileId) (q : QueueId) (s : State)
    (hs : Keeps s0 s) :
    KeepsOut s0 (execDescriptorStart t q s) := by
  unfold execDescriptorStart
  with_reducible repeat' first
      | assumption | intro _ _ _ | intro _ _ | intro _ | apply Keeps.ite | apply KeepsOut.next | apply KeepsOut.ite
      | apply State.setBit_keeps | apply State.count_keeps | apply State.setTile_keeps | apply State.setQueue_keeps
      | apply State.sbWaitCycle_keeps | apply State.finishRun_keeps | apply State.agp_keeps
      | (fail_if_no_progress refine Keeps.upd ?_ rfl rfl rfl rfl rfl rfl) | dsimp only | split
      | apply Keeps.fst (by assumption) | apply Keeps.snd (by assumption) | apply Keeps.ofSome (by assumption)

theorem execTransferIssue_keeps {s0 : State} (t : TileId) (q : QueueId) (s : State)
    (hs : Keeps s0 s) :
    KeepsOut s0 (execTransferIssue t q s) := by
  unfold execTransferIssue
  with_reducible repeat' first
      | assumption | intro _ _ _ | intro _ _ | intro _ | apply Keeps.ite | apply KeepsOut.next | apply KeepsOut.ite
      | apply State.count_keeps | apply State.setQueue_keeps | apply State.refreshQ_keeps
      | apply State.queueFault_keeps | apply State.sendRequest_keeps | apply State.ringIssue_keeps
      | apply State.agp_keeps | apply Keeps.foldl | apply Keeps.foldlFst
      | (fail_if_no_progress refine Keeps.upd ?_ rfl rfl rfl rfl rfl rfl) | dsimp only | split
      | apply Keeps.fst (by assumption) | apply Keeps.snd (by assumption) | apply Keeps.ofSome (by assumption)

theorem State.afterRead_keeps {s0 : State} (s : State) (t q : Nat) (f : Xfer) (es : List (Move × List Byte))
    (hs : Keeps s0 s) :
    Keeps s0 (State.afterRead s t q f es) := by
  unfold State.afterRead
  with_reducible repeat' first
      | assumption | intro _ _ _ | intro _ _ | intro _ | apply Keeps.ite | apply State.setQueue_keeps
      | apply State.refreshQ_keeps | apply State.pushTransfer_keeps | apply State.finishRun_keeps
      | (fail_if_no_progress refine Keeps.upd ?_ rfl rfl rfl rfl rfl rfl) | dsimp only | split
      | apply Keeps.fst (by assumption) | apply Keeps.snd (by assumption) | apply Keeps.ofSome (by assumption)

theorem State.readSource_keeps {s0 : State} (s : State) (t q : Nat) (d : Desc) (f : Xfer) (host : HostAns)
    (hs : Keeps s0 s) :
    Keeps s0 (State.readSource s t q d f host).1 := by
  unfold State.readSource
  with_reducible repeat' first
      | assumption | intro _ _ _ | intro _ _ | intro _ | apply Keeps.ite | apply Keeps.getD | apply State.count_keeps
      | apply State.setQueue_keeps | apply State.pocketRead_keeps | apply State.hbmRead_keeps
      | apply State.queueFault_keeps | apply State.hostFail_keeps | apply Keeps.foldl | apply Keeps.foldlFst
      | (fail_if_no_progress refine Keeps.upd ?_ rfl rfl rfl rfl rfl rfl) | dsimp only | split
      | apply Keeps.fst (by assumption) | apply Keeps.snd (by assumption) | apply Keeps.ofSome (by assumption)

theorem execTransferReadData_keeps {s0 : State} (t : TileId) (q : QueueId) (host : HostAns) (s : State)
    (hs : Keeps s0 s) :
    KeepsOut s0 (execTransferReadData t q host s) := by
  unfold execTransferReadData
  with_reducible repeat' first
      | assumption | intro _ _ _ | intro _ _ | intro _ | apply Keeps.ite | apply KeepsOut.next | apply KeepsOut.ite
      | apply State.count_keeps | apply State.setQueue_keeps | apply State.refreshQ_keeps
      | apply State.sendWrites_keeps | apply State.afterRead_keeps | apply State.readSource_keeps | apply Keeps.foldl
      | apply Keeps.foldlFst | (fail_if_no_progress refine Keeps.upd ?_ rfl rfl rfl rfl rfl rfl) | dsimp only | split
      | apply Keeps.fst (by assumption) | apply Keeps.snd (by assumption) | apply Keeps.ofSome (by assumption)

theorem execMergeBufferFlush_keeps {s0 : State} (t : TileId) (q : QueueId) (s : State)
    (hs : Keeps s0 s) :
    KeepsOut s0 (execMergeBufferFlush t q s) := by
  unfold execMergeBufferFlush
  with_reducible repeat' first
      | assumption | intro _ _ _ | intro _ _ | intro _ | apply Keeps.ite | apply KeepsOut.next | apply KeepsOut.ite
      | apply State.refreshQ_keeps | apply State.flushMerge_keeps
      | (fail_if_no_progress refine Keeps.upd ?_ rfl rfl rfl rfl rfl rfl) | dsimp only | split
      | apply Keeps.fst (by assumption) | apply Keeps.snd (by assumption) | apply Keeps.ofSome (by assumption)

theorem State.performWrite_keeps {s0 : State} (s : State) (t q : Nat) (m : MergeBuf) (host : HostAns)
    (hs : Keeps s0 s) :
    Keeps s0 (State.performWrite s t q m host) := by
  unfold State.performWrite
  dsimp only
  split
  · split
    · split
      · exact State.landWrite_keeps _ _ _ _ (Keeps.fst (by assumption) (State.pocketWrite_keeps _ _ _ _ _ (State.count_keeps _ _ _ hs)))
      · exact State.queueFault_keeps _ _ _ _ _ _ (State.dropWrite_keeps _ _ _ _ (Keeps.fst (by assumption)
          (State.pocketWrite_keeps _ _ _ _ _ (State.count_keeps _ _ _ hs))))
    · split
      · exact State.landWrite_keeps _ _ _ _ (Keeps.fst (by assumption) (State.accAll_keeps _ _ _ _ _ _ _ _
          (State.count_keeps _ _ _ (State.count_keeps _ _ _ hs))))
      · exact State.queueFault_keeps _ _ _ _ _ _ (State.dropWrite_keeps _ _ _ _ (Keeps.fst (by assumption)
          (State.accAll_keeps _ _ _ _ _ _ _ _ (State.count_keeps _ _ _ (State.count_keeps _ _ _ hs)))))
  · split
    · split
      · exact State.landWrite_keeps _ _ _ _ (State.hbmWrite_keeps _ _ _ hs)
      · exact hs
    · split
      · exact State.landWrite_keeps _ _ _ _ (hs.memory rfl (fun h => h) (fun h => h) (fun h => Memory.wf_mwriteEn h _ _) rfl rfl)
      · exact State.hostFail_keeps _ _ _ _ _ (State.dropWrite_keeps _ _ _ _ hs)

theorem State.acknowledge_keeps {s0 : State} (s : State) (t q : Nat)
    (hs : Keeps s0 s) :
    Keeps s0 (State.acknowledge s t q) := by
  unfold State.acknowledge
  with_reducible repeat' first
      | assumption | intro _ _ _ | intro _ _ | intro _ | apply Keeps.ite | apply State.setQueue_keeps
      | apply State.landWrite_keeps | (fail_if_no_progress refine Keeps.upd ?_ rfl rfl rfl rfl rfl rfl) | dsimp only
      | split | apply Keeps.fst (by assumption) | apply Keeps.snd (by assumption) | apply Keeps.ofSome (by assumption)

theorem execWriteLanded_keeps {s0 : State} (t : TileId) (q : QueueId) (host : HostAns) (s : State)
    (hs : Keeps s0 s) :
    KeepsOut s0 (execWriteLanded t q host s) := by
  unfold execWriteLanded
  with_reducible repeat' first
      | assumption | intro _ _ _ | intro _ _ | intro _ | apply Keeps.ite | apply KeepsOut.next | apply KeepsOut.ite
      | apply State.performWrite_keeps | apply State.acknowledge_keeps
      | (fail_if_no_progress refine Keeps.upd ?_ rfl rfl rfl rfl rfl rfl) | dsimp only | split
      | apply Keeps.fst (by assumption) | apply Keeps.snd (by assumption) | apply Keeps.ofSome (by assumption)

theorem execRemoteAcknowledge_keeps {s0 : State} (t : TileId) (q : QueueId) (s : State)
    (hs : Keeps s0 s) :
    KeepsOut s0 (execRemoteAcknowledge t q s) := by
  unfold execRemoteAcknowledge
  with_reducible repeat' first
      | assumption | intro _ _ _ | intro _ _ | intro _ | apply Keeps.ite | apply KeepsOut.next | apply KeepsOut.ite
      | apply State.acknowledge_keeps | (fail_if_no_progress refine Keeps.upd ?_ rfl rfl rfl rfl rfl rfl) | dsimp only
      | split | apply Keeps.fst (by assumption) | apply Keeps.snd (by assumption) | apply Keeps.ofSome (by assumption)

theorem execRefusalAnswer_keeps {s0 : State} (t : TileId) (q : QueueId) (s : State)
    (hs : Keeps s0 s) :
    KeepsOut s0 (execRefusalAnswer t q s) := by
  unfold execRefusalAnswer
  with_reducible repeat' first
      | assumption | intro _ _ _ | intro _ _ | intro _ | apply Keeps.ite | apply KeepsOut.next | apply KeepsOut.ite
      | apply State.setQueue_keeps | apply State.refreshQ_keeps | apply State.queueFault_keeps
      | apply State.sendWrites_keeps | (fail_if_no_progress refine Keeps.upd ?_ rfl rfl rfl rfl rfl rfl) | dsimp only
      | split | apply Keeps.fst (by assumption) | apply Keeps.snd (by assumption) | apply Keeps.ofSome (by assumption)

theorem execRemoteAccumulate_keeps {s0 : State} (t : TileId) (s : State)
    (hs : Keeps s0 s) :
    KeepsOut s0 (execRemoteAccumulate t s) := by
  unfold execRemoteAccumulate
  with_reducible repeat' first
      | assumption | intro _ _ _ | intro _ _ | intro _ | apply Keeps.ite | apply KeepsOut.next | apply KeepsOut.ite
      | apply State.count_keeps | apply State.setTile_keeps | apply State.chargeAccess_keeps
      | apply State.remoteLanded_keeps | apply State.accAll_keeps
      | (fail_if_no_progress refine Keeps.upd ?_ rfl rfl rfl rfl rfl rfl) | dsimp only | split
      | apply Keeps.fst (by assumption) | apply Keeps.snd (by assumption) | apply Keeps.ofSome (by assumption)

theorem execQueueCancelAck_keeps {s0 : State} (t : TileId) (q : QueueId) (s : State)
    (hs : Keeps s0 s) :
    KeepsOut s0 (execQueueCancelAck t q s) := by
  unfold execQueueCancelAck
  with_reducible repeat' first
      | assumption | intro _ _ _ | intro _ _ | intro _ | apply Keeps.ite | apply KeepsOut.next | apply KeepsOut.ite
      | apply State.setBit_keeps | apply State.setTile_keeps | apply State.setQueue_keeps | apply State.refreshQ_keeps
      | apply State.setHead_keeps | apply State.setTail_keeps | apply State.setFilled_keeps
      | apply State.flushMerge_keeps | apply State.freeCtx_keeps
      | (fail_if_no_progress refine Keeps.upd ?_ rfl rfl rfl rfl rfl rfl) | dsimp only | split
      | apply Keeps.fst (by assumption) | apply Keeps.snd (by assumption) | apply Keeps.ofSome (by assumption)

theorem execQueueCancelDone_keeps {s0 : State} (t : TileId) (q : QueueId) (s : State)
    (hs : Keeps s0 s) :
    KeepsOut s0 (execQueueCancelDone t q s) := by
  unfold execQueueCancelDone
  with_reducible repeat' first
      | assumption | intro _ _ _ | intro _ _ | intro _ | apply Keeps.ite | apply KeepsOut.next | apply KeepsOut.ite
      | apply State.setBit_keeps | apply State.sbFree_keeps | apply State.refreshQ_keeps
      | (fail_if_no_progress refine Keeps.upd ?_ rfl rfl rfl rfl rfl rfl) | dsimp only | split
      | apply Keeps.fst (by assumption) | apply Keeps.snd (by assumption) | apply Keeps.ofSome (by assumption)

theorem State.notOwner_keeps {s0 : State} (s : State) (t k q : Nat) (f : State → State)
    (hs : Keeps s0 s) (hf : ∀ (x0 : State), Keeps s0 x0 → Keeps s0 (f x0)) :
    Keeps s0 (State.notOwner s t k q f) := by
  unfold State.notOwner
  with_reducible repeat' first
      | assumption | intro _ _ _ | intro _ _ | intro _ | apply Keeps.ite | apply State.placketFault_keeps | apply hf
      | (fail_if_no_progress refine Keeps.upd ?_ rfl rfl rfl rfl rfl rfl) | dsimp only | split
      | apply Keeps.fst (by assumption) | apply Keeps.snd (by assumption) | apply Keeps.ofSome (by assumption)

theorem execQissue_keeps {s0 : State} (t : TileId) (k : SlotId) (s : State)
    (hs : Keeps s0 s) :
    KeepsOut s0 (execQissue t k s) := by
  unfold execQissue
  with_reducible repeat' first
      | assumption | intro _ _ _ | intro _ _ | intro _ | apply Keeps.ite | apply KeepsOut.next | apply KeepsOut.ite
      | apply State.sbTake_keeps | apply State.pocketRead_keeps | apply State.issue_keeps | apply State.complete_keeps
      | apply State.wait_keeps | apply State.placketFault_keeps | apply State.enqueue_keeps
      | (fail_if_no_progress refine Keeps.upd ?_ rfl rfl rfl rfl rfl rfl) | dsimp only | split
      | apply Keeps.fst (by assumption) | apply Keeps.snd (by assumption) | apply Keeps.ofSome (by assumption)

theorem execQrel_keeps {s0 : State} (t : TileId) (k : SlotId) (s : State)
    (hs : Keeps s0 s) :
    KeepsOut s0 (execQrel t k s) := by
  unfold execQrel
  with_reducible repeat' first
      | assumption | intro _ _ _ | intro _ _ | intro _ | apply Keeps.ite | apply KeepsOut.next | apply KeepsOut.ite
      | apply State.issue_keeps | apply State.complete_keeps | apply State.queueFault_keeps
      | apply State.release_keeps | apply State.notOwner_keeps
      | (fail_if_no_progress refine Keeps.upd ?_ rfl rfl rfl rfl rfl rfl) | dsimp only | split
      | apply Keeps.fst (by assumption) | apply Keeps.snd (by assumption) | apply Keeps.ofSome (by assumption)

theorem execQcommit_keeps {s0 : State} (t : TileId) (k : SlotId) (s : State)
    (hs : Keeps s0 s) :
    KeepsOut s0 (execQcommit t k s) := by
  unfold execQcommit
  with_reducible repeat' first
      | assumption | intro _ _ _ | intro _ _ | intro _ | apply Keeps.ite | apply KeepsOut.next | apply KeepsOut.ite
      | apply State.issue_keeps | apply State.complete_keeps | apply State.queueFault_keeps | apply State.commit_keeps
      | apply State.notOwner_keeps | (fail_if_no_progress refine Keeps.upd ?_ rfl rfl rfl rfl rfl rfl) | dsimp only
      | split | apply Keeps.fst (by assumption) | apply Keeps.snd (by assumption) | apply Keeps.ofSome (by assumption)

theorem execQcancel_keeps {s0 : State} (t : TileId) (k : SlotId) (s : State)
    (hs : Keeps s0 s) :
    KeepsOut s0 (execQcancel t k s) := by
  unfold execQcancel
  with_reducible repeat' first
      | assumption | intro _ _ _ | intro _ _ | intro _ | apply Keeps.ite | apply KeepsOut.next | apply KeepsOut.ite
      | apply State.reqCancel_keeps | apply State.issue_keeps | apply State.complete_keeps
      | apply State.notOwner_keeps | (fail_if_no_progress refine Keeps.upd ?_ rfl rfl rfl rfl rfl rfl) | dsimp only
      | split | apply Keeps.fst (by assumption) | apply Keeps.snd (by assumption) | apply Keeps.ofSome (by assumption)

theorem execQcred_keeps {s0 : State} (t : TileId) (k : SlotId) (s : State)
    (hs : Keeps s0 s) :
    KeepsOut s0 (execQcred t k s) := by
  unfold execQcred
  with_reducible repeat' first
      | assumption | intro _ _ _ | intro _ _ | intro _ | apply Keeps.ite | apply KeepsOut.next | apply KeepsOut.ite
      | apply State.issue_keeps | apply State.setRd_keeps
      | (fail_if_no_progress refine Keeps.upd ?_ rfl rfl rfl rfl rfl rfl) | dsimp only | split
      | apply Keeps.fst (by assumption) | apply Keeps.snd (by assumption) | apply Keeps.ofSome (by assumption)

theorem execQwait_keeps {s0 : State} (t : TileId) (k : SlotId) (s : State)
    (hs : Keeps s0 s) :
    KeepsOut s0 (execQwait t k s) := by
  unfold execQwait
  with_reducible repeat' first
      | assumption | intro _ _ _ | intro _ _ | intro _ | apply Keeps.ite | apply KeepsOut.next | apply KeepsOut.ite
      | apply State.illegal_keeps | apply State.issue_keeps | apply State.wait_keeps | apply State.setRd_keeps
      | (fail_if_no_progress refine Keeps.upd ?_ rfl rfl rfl rfl rfl rfl) | dsimp only | split
      | apply Keeps.fst (by assumption) | apply Keeps.snd (by assumption) | apply Keeps.ofSome (by assumption)

theorem State.putBits_keeps {s0 : State} (s : State) (a : Nat) (v : Word)
    (hs : Keeps s0 s) :
    Keeps s0 (State.putBits s a v) := by
  unfold State.putBits
  with_reducible repeat' first
      | assumption | intro _ _ _ | intro _ _ | intro _ | apply Keeps.ite | apply State.wr_keeps
      | (fail_if_no_progress refine Keeps.upd ?_ rfl rfl rfl rfl rfl rfl) | dsimp only | split
      | apply Keeps.fst (by assumption) | apply Keeps.snd (by assumption) | apply Keeps.ofSome (by assumption)

theorem State.clearErr_keeps {s0 : State} (s : State) (v : Word) (as : List Nat)
    (hs : Keeps s0 s) :
    Keeps s0 (State.clearErr s v as) := by
  unfold State.clearErr
  with_reducible repeat' first
      | assumption | intro _ _ _ | intro _ _ | intro _ | apply Keeps.ite | apply State.clear_keeps
      | (fail_if_no_progress refine Keeps.upd ?_ rfl rfl rfl rfl rfl rfl) | dsimp only | split
      | apply Keeps.fst (by assumption) | apply Keeps.snd (by assumption) | apply Keeps.ofSome (by assumption)

theorem State.clearCtr_keeps {s0 : State} (s : State) (v : Word) (i : Nat) (as : List Nat)
    (hs : Keeps s0 s) :
    Keeps s0 (State.clearCtr s v i as) := by
  unfold State.clearCtr
  with_reducible repeat' first
      | assumption | intro _ _ _ | intro _ _ | intro _ | apply Keeps.ite | apply State.clear_keeps
      | (fail_if_no_progress refine Keeps.upd ?_ rfl rfl rfl rfl rfl rfl) | dsimp only | split
      | apply Keeps.fst (by assumption) | apply Keeps.snd (by assumption) | apply Keeps.ofSome (by assumption)

theorem State.writeStaged_keeps {s0 : State} (s : State) (a : Nat) (v : Word)
    (hs : Keeps s0 s) :
    Keeps s0 (State.writeStaged s a v) := by
  unfold State.writeStaged
  with_reducible repeat' first
      | assumption | intro _ _ _ | intro _ _ | intro _ | apply Keeps.ite | apply State.setBit_keeps
      | apply State.wrStaged_keeps | (fail_if_no_progress refine Keeps.upd ?_ rfl rfl rfl rfl rfl rfl) | dsimp only
      | split | apply Keeps.fst (by assumption) | apply Keeps.snd (by assumption) | apply Keeps.ofSome (by assumption)

theorem State.writeRst_keeps {s0 : State} (s : State) (v : Word)
    (hs : Keeps s0 s) :
    Keeps s0 (State.writeRst s v) := by
  unfold State.writeRst
  with_reducible repeat' first
      | assumption | intro _ _ _ | intro _ _ | intro _ | apply Keeps.ite | apply State.settleCmds_keeps
      | apply State.warmReset_keeps | apply State.coldReset_keeps | apply State.rstRefused_keeps
      | apply State.rstCtrl_keeps | apply State.rstTile_keeps | apply State.rstPart_keeps
      | (fail_if_no_progress refine Keeps.upd ?_ rfl rfl rfl rfl rfl rfl) | dsimp only | split
      | apply Keeps.fst (by assumption) | apply Keeps.snd (by assumption) | apply Keeps.ofSome (by assumption)

theorem State.writePwr_keeps {s0 : State} (s : State) (v : Word)
    (hs : Keeps s0 s) :
    Keeps s0 (State.writePwr s v) := by
  unfold State.writePwr
  with_reducible repeat' first
      | assumption | intro _ _ _ | intro _ _ | intro _ | apply Keeps.ite | apply State.setBit_keeps
      | apply State.leaveIdle_keeps | apply State.enterIdle_keeps
      | (fail_if_no_progress refine Keeps.upd ?_ rfl rfl rfl rfl rfl rfl) | dsimp only | split
      | apply Keeps.fst (by assumption) | apply Keeps.snd (by assumption) | apply Keeps.ofSome (by assumption)

theorem State.writeBackup_keeps {s0 : State} (s : State) (u : Requester) (i : Nat) (v : Word)
    (hs : Keeps s0 s) :
    Keeps s0 (State.writeBackup s u i v) := by
  unfold State.writeBackup
  with_reducible repeat' first
      | assumption | intro _ _ _ | intro _ _ | intro _ | apply Keeps.ite | apply State.wr_keeps
      | (fail_if_no_progress refine Keeps.upd ?_ rfl rfl rfl rfl rfl rfl) | dsimp only | split
      | apply Keeps.fst (by assumption) | apply Keeps.snd (by assumption) | apply Keeps.ofSome (by assumption)

theorem State.writeLoadCtrl_keeps {s0 : State} (s : State) (v : Word)
    (hs : Keeps s0 s) :
    Keeps s0 (State.writeLoadCtrl s v) := by
  unfold State.writeLoadCtrl
  with_reducible repeat' first
      | assumption | intro _ _ _ | intro _ _ | intro _ | apply Keeps.ite | apply State.writeStart_keeps
      | apply State.putBits_keeps | (fail_if_no_progress refine Keeps.upd ?_ rfl rfl rfl rfl rfl rfl) | dsimp only
      | split | apply Keeps.fst (by assumption) | apply Keeps.snd (by assumption) | apply Keeps.ofSome (by assumption)

theorem State.moduleWrite_keeps {s0 : State} (s : State) (u : Requester) (a : Nat) (v : Word)
    (hs : Keeps s0 s) :
    Keeps s0 (State.moduleWrite s u a v) := by
  unfold State.moduleWrite
  with_reducible repeat' first
      | assumption | intro _ _ _ | intro _ _ | intro _ | apply Keeps.ite | apply State.selectPoint_keeps
      | apply State.requestCal_keeps | apply State.rstCtrl_keeps | apply State.recoveryGo_keeps
      | apply State.fwGo_keeps | apply State.svnCommit_keeps | apply State.clearLog_keeps | apply State.putBits_keeps
      | apply State.clearErr_keeps | apply State.clearCtr_keeps | apply State.writeRst_keeps
      | apply State.writePwr_keeps | apply State.writeBackup_keeps
      | (fail_if_no_progress refine Keeps.upd ?_ rfl rfl rfl rfl rfl rfl) | dsimp only | split
      | apply Keeps.fst (by assumption) | apply Keeps.snd (by assumption) | apply Keeps.ofSome (by assumption)

theorem State.structWrite_keeps {s0 : State} (s : State) (a : Nat) (v : Word)
    (hs : Keeps s0 s) :
    Keeps s0 (State.structWrite s a v) := by
  unfold State.structWrite
  with_reducible repeat' first
      | assumption | intro _ _ _ | intro _ _ | intro _ | apply Keeps.ite | apply State.writeCommitCtrl_keeps
      | apply State.putBits_keeps | apply State.writeLoadCtrl_keeps
      | (fail_if_no_progress refine Keeps.upd ?_ rfl rfl rfl rfl rfl rfl) | dsimp only | split
      | apply Keeps.fst (by assumption) | apply Keeps.snd (by assumption) | apply Keeps.ofSome (by assumption)

theorem State.pocketRegWrite_keeps {s0 : State} (s : State) (t a : Nat) (v : Word)
    (hs : Keeps s0 s) :
    Keeps s0 (State.pocketRegWrite s t a v) := by
  unfold State.pocketRegWrite
  with_reducible repeat' first
      | assumption | intro _ _ _ | intro _ _ | intro _ | apply Keeps.ite | apply State.accWrite_keeps
      | apply State.putBits_keeps | apply State.clearCtr_keeps
      | (fail_if_no_progress refine Keeps.upd ?_ rfl rfl rfl rfl rfl rfl) | dsimp only | split
      | apply Keeps.fst (by assumption) | apply Keeps.snd (by assumption) | apply Keeps.ofSome (by assumption)

theorem State.writeQCtrl_keeps {s0 : State} (s : State) (u : Requester) (t q : Nat) (v : Word)
    (hs : Keeps s0 s) :
    Keeps s0 (State.writeQCtrl s u t q v) := by
  unfold State.writeQCtrl
  with_reducible repeat' first
      | assumption | intro _ _ _ | intro _ _ | intro _ | apply Keeps.ite | apply State.reqCancel_keeps
      | apply State.placketFault_keeps | apply State.release_keeps | apply State.commit_keeps
      | apply State.ringWrite_keeps | (fail_if_no_progress refine Keeps.upd ?_ rfl rfl rfl rfl rfl rfl) | dsimp only
      | split | apply Keeps.fst (by assumption) | apply Keeps.snd (by assumption) | apply Keeps.ofSome (by assumption)

theorem State.queueRegWrite_keeps {s0 : State} (s : State) (u : Requester) (t q a : Nat) (v : Word)
    (hs : Keeps s0 s) :
    Keeps s0 (State.queueRegWrite s u t q a v) := by
  unfold State.queueRegWrite
  with_reducible repeat' first
      | assumption | intro _ _ _ | intro _ _ | intro _ | apply Keeps.ite | apply State.refreshQ_keeps
      | apply State.refuseWrite_keeps | apply State.putBits_keeps | apply State.writeQCtrl_keeps
      | (fail_if_no_progress refine Keeps.upd ?_ rfl rfl rfl rfl rfl rfl) | dsimp only | split
      | apply Keeps.fst (by assumption) | apply Keeps.snd (by assumption) | apply Keeps.ofSome (by assumption)

theorem State.streamRegWrite_keeps {s0 : State} (s : State) (u : Requester) (t a : Nat) (v : Word)
    (hs : Keeps s0 s) :
    Keeps s0 (State.streamRegWrite s u t a v) := by
  unfold State.streamRegWrite
  with_reducible repeat' first
      | assumption | intro _ _ _ | intro _ _ | intro _ | apply Keeps.ite | apply State.putBits_keeps
      | apply State.clearErr_keeps | apply State.clearCtr_keeps | apply State.queueRegWrite_keeps
      | (fail_if_no_progress refine Keeps.upd ?_ rfl rfl rfl rfl rfl rfl) | dsimp only | split
      | apply Keeps.fst (by assumption) | apply Keeps.snd (by assumption) | apply Keeps.ofSome (by assumption)

theorem State.writeTaskCtrl_keeps {s0 : State} (s : State) (t k : Nat) (v : Word)
    (hs : Keeps s0 s) :
    Keeps s0 (State.writeTaskCtrl s t k v) := by
  unfold State.writeTaskCtrl
  with_reducible repeat' first
      | assumption | intro _ _ _ | intro _ _ | intro _ | apply Keeps.ite | apply State.cancelTask_keeps
      | apply State.startTask_keeps | (fail_if_no_progress refine Keeps.upd ?_ rfl rfl rfl rfl rfl rfl) | dsimp only
      | split | apply Keeps.fst (by assumption) | apply Keeps.snd (by assumption) | apply Keeps.ofSome (by assumption)

theorem State.cuffRegWrite_keeps {s0 : State} (s : State) (t a : Nat) (v : Word)
    (hs : Keeps s0 s) :
    Keeps s0 (State.cuffRegWrite s t a v) := by
  unfold State.cuffRegWrite
  with_reducible repeat' first
      | assumption | intro _ _ _ | intro _ _ | intro _ | apply Keeps.ite | apply State.cancelSuit_keeps
      | apply State.doorbell_keeps | apply State.putBits_keeps | apply State.clearErr_keeps
      | apply State.clearCtr_keeps | apply State.writeTaskCtrl_keeps | apply Keeps.foldl | apply Keeps.foldlFst
      | (fail_if_no_progress refine Keeps.upd ?_ rfl rfl rfl rfl rfl rfl) | dsimp only | split
      | apply Keeps.fst (by assumption) | apply Keeps.snd (by assumption) | apply Keeps.ofSome (by assumption)

theorem State.writeWinCtrl_keeps {s0 : State} (s : State) (u : Requester) (t w : Nat) (v : Word)
    (hs : Keeps s0 s) :
    Keeps s0 (State.writeWinCtrl s u t w v) := by
  unfold State.writeWinCtrl
  with_reducible repeat' first
      | assumption | intro _ _ _ | intro _ _ | intro _ | apply Keeps.ite | apply State.openWindow_keeps
      | apply State.closeWindow_keeps | (fail_if_no_progress refine Keeps.upd ?_ rfl rfl rfl rfl rfl rfl) | dsimp only
      | split | apply Keeps.fst (by assumption) | apply Keeps.snd (by assumption) | apply Keeps.ofSome (by assumption)

theorem State.winRegWrite_keeps {s0 : State} (s : State) (u : Requester) (t a : Nat) (v : Word)
    (hs : Keeps s0 s) :
    Keeps s0 (State.winRegWrite s u t a v) := by
  unfold State.winRegWrite
  with_reducible repeat' first
      | assumption | intro _ _ _ | intro _ _ | intro _ | apply Keeps.ite | apply State.refuseWrite_keeps
      | apply State.putBits_keeps | apply State.clearErr_keeps | apply State.clearCtr_keeps
      | apply State.writeWinCtrl_keeps | (fail_if_no_progress refine Keeps.upd ?_ rfl rfl rfl rfl rfl rfl)
      | dsimp only | split | apply Keeps.fst (by assumption) | apply Keeps.snd (by assumption)
      | apply Keeps.ofSome (by assumption)

theorem State.tileRegWrite_keeps {s0 : State} (s : State) (u : Requester) (a : Nat) (v : Word)
    (hs : Keeps s0 s) :
    Keeps s0 (State.tileRegWrite s u a v) := by
  unfold State.tileRegWrite
  with_reducible repeat' first
      | assumption | intro _ _ _ | intro _ _ | intro _ | apply Keeps.ite | apply State.pocketRegWrite_keeps
      | apply State.streamRegWrite_keeps | apply State.cuffRegWrite_keeps | apply State.winRegWrite_keeps
      | (fail_if_no_progress refine Keeps.upd ?_ rfl rfl rfl rfl rfl rfl) | dsimp only | split
      | apply Keeps.fst (by assumption) | apply Keeps.snd (by assumption) | apply Keeps.ofSome (by assumption)

theorem State.panelRegWrite_keeps {s0 : State} (s : State) (a : Nat) (v : Word)
    (hs : Keeps s0 s) :
    Keeps s0 (State.panelRegWrite s a v) := by
  unfold State.panelRegWrite
  with_reducible repeat' first
      | assumption | intro _ _ _ | intro _ _ | intro _ | apply Keeps.ite | apply State.clear_keeps
      | apply State.forceOrphan_keeps | apply State.putBits_keeps | apply State.clearErr_keeps
      | apply State.clearCtr_keeps | (fail_if_no_progress refine Keeps.upd ?_ rfl rfl rfl rfl rfl rfl) | dsimp only
      | split | apply Keeps.fst (by assumption) | apply Keeps.snd (by assumption) | apply Keeps.ofSome (by assumption)

theorem State.fabricRegWrite_keeps {s0 : State} (s : State) (a : Nat) (v : Word)
    (hs : Keeps s0 s) :
    Keeps s0 (State.fabricRegWrite s a v) := by
  unfold State.fabricRegWrite
  with_reducible repeat' first
      | assumption | intro _ _ _ | intro _ _ | intro _ | apply Keeps.ite | apply State.enablePort_keeps
      | apply State.writeModuleId_keeps | apply State.putBits_keeps | apply State.clearErr_keeps
      | apply State.clearCtr_keeps | (fail_if_no_progress refine Keeps.upd ?_ rfl rfl rfl rfl rfl rfl) | dsimp only
      | split | apply Keeps.fst (by assumption) | apply Keeps.snd (by assumption) | apply Keeps.ofSome (by assumption)

theorem State.mirrorRegWrite_keeps {s0 : State} (s : State) (u : Requester) (a : Nat) (v : Word)
    (hs : Keeps s0 s) :
    Keeps s0 (State.mirrorRegWrite s u a v) := by
  unfold State.mirrorRegWrite
  with_reducible repeat' first
      | assumption | intro _ _ _ | intro _ _ | intro _ | apply Keeps.ite | apply State.askPlanned_keeps
      | apply State.putBits_keeps | apply State.clearErr_keeps | apply State.clearCtr_keeps
      | (fail_if_no_progress refine Keeps.upd ?_ rfl rfl rfl rfl rfl rfl) | dsimp only | split
      | apply Keeps.fst (by assumption) | apply Keeps.snd (by assumption) | apply Keeps.ofSome (by assumption)

theorem State.hbmRegWrite_keeps {s0 : State} (s : State) (a : Nat) (v : Word)
    (hs : Keeps s0 s) :
    Keeps s0 (State.hbmRegWrite s a v) := by
  unfold State.hbmRegWrite
  with_reducible repeat' first
      | assumption | intro _ _ _ | intro _ _ | intro _ | apply Keeps.ite | apply State.putBits_keeps
      | apply State.clearErr_keeps | apply State.clearCtr_keeps
      | (fail_if_no_progress refine Keeps.upd ?_ rfl rfl rfl rfl rfl rfl) | dsimp only | split
      | apply Keeps.fst (by assumption) | apply Keeps.snd (by assumption) | apply Keeps.ofSome (by assumption)

theorem State.ringField_keeps {s0 : State} (s : State) (u : Requester) (on : Bool) (part : Option Nat) (a : Nat) (m v : Word)
    (hs : Keeps s0 s) :
    Keeps s0 (State.ringField s u on part a m v) := by
  unfold State.ringField
  with_reducible repeat' first
      | assumption | intro _ _ _ | intro _ _ | intro _ | apply Keeps.ite | apply State.wr_keeps
      | apply State.recordOnly_keeps | apply State.refuseWrite_keeps
      | (fail_if_no_progress refine Keeps.upd ?_ rfl rfl rfl rfl rfl rfl) | dsimp only | split
      | apply Keeps.fst (by assumption) | apply Keeps.snd (by assumption) | apply Keeps.ofSome (by assumption)

theorem State.ringBase_keeps {s0 : State} (s : State) (u : Requester) (on : Bool) (part : Option Nat) (a : Nat) (lo hi : Word)
    (hs : Keeps s0 s) :
    Keeps s0 (State.ringBase s u on part a lo hi) := by
  unfold State.ringBase
  with_reducible repeat' first
      | assumption | intro _ _ _ | intro _ _ | intro _ | apply Keeps.ite | apply State.wr64_keeps
      | apply State.ringField_keeps | (fail_if_no_progress refine Keeps.upd ?_ rfl rfl rfl rfl rfl rfl) | dsimp only
      | split | apply Keeps.fst (by assumption) | apply Keeps.snd (by assumption) | apply Keeps.ofSome (by assumption)

theorem State.hostRegWrite_keeps {s0 : State} (s : State) (u : Requester) (a : Nat) (v : Word)
    (hs : Keeps s0 s) :
    Keeps s0 (State.hostRegWrite s u a v) := by
  unfold State.hostRegWrite
  with_reducible repeat' first
      | assumption | intro _ _ _ | intro _ _ | intro _ | apply Keeps.ite | apply State.writeCmdTail_keeps
      | apply State.enableRing_keeps | apply State.writeSeqTail_keeps | apply State.writeOutHead_keeps
      | apply State.putBits_keeps | apply State.clearErr_keeps | apply State.ringField_keeps
      | (fail_if_no_progress refine Keeps.upd ?_ rfl rfl rfl rfl rfl rfl) | dsimp only | split
      | apply Keeps.fst (by assumption) | apply Keeps.snd (by assumption) | apply Keeps.ofSome (by assumption)

theorem State.wideWrite_keeps {s0 : State} (s : State) (u : Requester) (a : Nat) (lo hi : Word)
    (hs : Keeps s0 s) :
    Keeps s0 (State.wideWrite s u a lo hi) := by
  unfold State.wideWrite
  with_reducible repeat' first
      | assumption | intro _ _ _ | intro _ _ | intro _ | apply Keeps.ite | apply State.enableStatus_keeps
      | apply State.putBits_keeps | apply State.writeStaged_keeps | apply State.ringBase_keeps
      | (fail_if_no_progress refine Keeps.upd ?_ rfl rfl rfl rfl rfl rfl) | dsimp only | split
      | apply Keeps.fst (by assumption) | apply Keeps.snd (by assumption) | apply Keeps.ofSome (by assumption)

theorem State.pairWrite_keeps {s0 : State} (s : State) (u : Requester) (a : Nat) (high : Bool) (v : Word)
    (hs : Keeps s0 s) :
    Keeps s0 (State.pairWrite s u a high v) := by
  unfold State.pairWrite
  with_reducible repeat' first
      | assumption | intro _ _ _ | intro _ _ | intro _ | apply Keeps.ite | apply State.wideWrite_keeps
      | (fail_if_no_progress refine Keeps.upd ?_ rfl rfl rfl rfl rfl rfl) | dsimp only | split
      | apply Keeps.fst (by assumption) | apply Keeps.snd (by assumption) | apply Keeps.ofSome (by assumption)

theorem State.regPut_keeps {s0 : State} (s : State) (u : Requester) (a : Nat) (v : Word)
    (hs : Keeps s0 s) :
    Keeps s0 (State.regPut s u a v) := by
  unfold State.regPut
  with_reducible repeat' first
      | assumption | intro _ _ _ | intro _ _ | intro _ | apply Keeps.ite | apply State.writeStaged_keeps
      | apply State.moduleWrite_keeps | apply State.structWrite_keeps | apply State.tileRegWrite_keeps
      | apply State.panelRegWrite_keeps | apply State.fabricRegWrite_keeps | apply State.mirrorRegWrite_keeps
      | apply State.hbmRegWrite_keeps | apply State.hostRegWrite_keeps | apply State.pairWrite_keeps
      | (fail_if_no_progress refine Keeps.upd ?_ rfl rfl rfl rfl rfl rfl) | dsimp only | split
      | apply Keeps.fst (by assumption) | apply Keeps.snd (by assumption) | apply Keeps.ofSome (by assumption)

theorem State.ctlWrite_keeps {s0 : State} (s : State) (u : Requester) (a : Nat) (v : Word)
    (hs : Keeps s0 s) :
    Keeps s0 (State.ctlWrite s u a v) := by
  unfold State.ctlWrite
  with_reducible repeat' first
      | assumption | intro _ _ _ | intro _ _ | intro _ | apply Keeps.ite | apply State.ctl_keeps
      | apply State.regPut_keeps | (fail_if_no_progress refine Keeps.upd ?_ rfl rfl rfl rfl rfl rfl) | dsimp only
      | split | apply Keeps.fst (by assumption) | apply Keeps.snd (by assumption) | apply Keeps.ofSome (by assumption)

theorem State.ctlRead_keeps {s0 : State} (s : State) (u : Requester) (a : Nat)
    (hs : Keeps s0 s) :
    Keeps s0 (State.ctlRead s u a).1 := by
  unfold State.ctlRead
  with_reducible repeat' first
      | assumption | intro _ _ _ | intro _ _ | intro _ | apply Keeps.ite | apply Keeps.getD | apply State.setBit_keeps
      | apply State.accRead_keeps | (fail_if_no_progress refine Keeps.upd ?_ rfl rfl rfl rfl rfl rfl) | dsimp only
      | split | apply Keeps.fst (by assumption) | apply Keeps.snd (by assumption) | apply Keeps.ofSome (by assumption)

theorem State.writeFrom_keeps {s0 : State} (s : State) (u : Requester) (a : Nat) (v : Word)
    (hs : Keeps s0 s) :
    Keeps s0 (State.writeFrom s u a v) := by
  unfold State.writeFrom
  with_reducible repeat' first
      | assumption | intro _ _ _ | intro _ _ | intro _ | apply Keeps.ite | apply State.illegal_keeps
      | apply State.ctlWrite_keeps | (fail_if_no_progress refine Keeps.upd ?_ rfl rfl rfl rfl rfl rfl) | dsimp only
      | split | apply Keeps.fst (by assumption) | apply Keeps.snd (by assumption) | apply Keeps.ofSome (by assumption)

theorem execRegisterWrite_keeps {s0 : State} (u : Requester) (a v : Word) (s : State)
    (hs : Keeps s0 s) :
    KeepsOut s0 (execRegisterWrite u a v s) := by
  unfold execRegisterWrite
  with_reducible repeat' first
      | assumption | intro _ _ _ | intro _ _ | intro _ | apply Keeps.ite | apply KeepsOut.next | apply KeepsOut.ite
      | apply State.writeFrom_keeps | (fail_if_no_progress refine Keeps.upd ?_ rfl rfl rfl rfl rfl rfl) | dsimp only
      | split | apply Keeps.fst (by assumption) | apply Keeps.snd (by assumption) | apply Keeps.ofSome (by assumption)

theorem execStagedFieldWrite_keeps {s0 : State} (u : Requester) (a v : Word) (s : State)
    (hs : Keeps s0 s) :
    KeepsOut s0 (execStagedFieldWrite u a v s) := by
  unfold execStagedFieldWrite
  with_reducible repeat' first
      | assumption | intro _ _ _ | intro _ _ | intro _ | apply Keeps.ite | apply KeepsOut.next | apply KeepsOut.ite
      | apply State.writeFrom_keeps | (fail_if_no_progress refine Keeps.upd ?_ rfl rfl rfl rfl rfl rfl) | dsimp only
      | split | apply Keeps.fst (by assumption) | apply Keeps.snd (by assumption) | apply Keeps.ofSome (by assumption)

theorem execCsrr_keeps {s0 : State} (t : TileId) (k : SlotId) (s : State)
    (hs : Keeps s0 s) :
    KeepsOut s0 (execCsrr t k s) := by
  unfold execCsrr
  with_reducible repeat' first
      | assumption | intro _ _ _ | intro _ _ | intro _ | apply Keeps.ite | apply KeepsOut.next | apply KeepsOut.ite
      | apply State.illegal_keeps | apply State.issue_keeps | apply State.setRd_keeps | apply State.ctlRead_keeps
      | (fail_if_no_progress refine Keeps.upd ?_ rfl rfl rfl rfl rfl rfl) | dsimp only | split
      | apply Keeps.fst (by assumption) | apply Keeps.snd (by assumption) | apply Keeps.ofSome (by assumption)

theorem execCsrw_keeps {s0 : State} (t : TileId) (k : SlotId) (s : State)
    (hs : Keeps s0 s) :
    KeepsOut s0 (execCsrw t k s) := by
  unfold execCsrw
  with_reducible repeat' first
      | assumption | intro _ _ _ | intro _ _ | intro _ | apply Keeps.ite | apply KeepsOut.next | apply KeepsOut.ite
      | apply State.issue_keeps | apply State.complete_keeps | apply State.writeFrom_keeps
      | (fail_if_no_progress refine Keeps.upd ?_ rfl rfl rfl rfl rfl rfl) | dsimp only | split
      | apply Keeps.fst (by assumption) | apply Keeps.snd (by assumption) | apply Keeps.ofSome (by assumption)

end Sys2Proof.Machine
end

