-- ==== Sys2Proof/Tests/Slice0.lean ====
section
/-! SUPPORT. The author's own tests: single steps on small states with results taken from the spec, witnesses that the
hypotheses of the statements can be met, and the smoke test of WellFormed. -/

open Sys2Proof Sys2Proof.Machine

namespace Sys2Proof.Tests
set_option Elab.async false

/-! ## Small states -/

/-- A state in which register words hold the listed values. -/
def st (l : List (Nat × Nat)) : State := l.foldl (fun s x => s.wr x.1 (BitVec.ofNat 32 x.2)) State.reset

/-- The state after a command. -/
def after (c : Instr) (s : State) : State := match exec c s with
  | .next u => u
  | _ => s

/-- A word of form A, and one of form I (R327). -/
def fA (op rd ra rb fn : Nat) : Nat := op * 0x4000000 + rd * 0x200000 + ra * 0x10000 + rb * 0x800 + fn
def fI (op rd ra imm : Nat) : Nat := op * 0x4000000 + rd * 0x200000 + ra * 0x10000 + imm

/-- Task (3, 1) runs at PC 5, where word `w` stands: c1 = 0x11, c2 = 0x22, c3 = 0x80000040, a slot of 4 KiB at
0x1000, and further register words. -/
def cuff (w : Nat) (l : List (Nat × Nat)) : State :=
  st ([(Reg.cuffTaskStatus 3 1, 0x20000005), (Reg.cuffStatus 3, 2), (Reg.cuffImem 3 5, w),
   (Reg.cuffTaskReg 3 1 1, 0x11), (Reg.cuffTaskReg 3 1 2, 0x22), (Reg.cuffTaskReg 3 1 3, 0x80000040),
   (Reg.pocketSlotBase 3 1, 0x1000), (Reg.pocketSlotBound 3 1, 0x1000),
   (Reg.pwrDomainOn, 0x3FFFFFFF)] ++ l)

/-- The word of the running task. -/
def at5 (w : Nat) : Prop := (cuff w []).runs 3 1 (BitVec.ofNat 32 w)

/-- The state with task (3, 1) running at PC 5 at the word `w`. -/
def unitWord (s : State) (w : Nat) : State := (s.wr (Reg.cuffTaskStatus 3 1) 0x20000005).wr (Reg.cuffImem 3 5) (BitVec.ofNat 32 w)

/-! ## The queue and the invariants -/

theorem test_empty_queue_idles : step State.reset = .next State.reset := rfl
theorem witness_front_command : ({ State.reset with pending := [.railRise, .bypass] } : State).pending = .railRise :: [.bypass] := by
  decide
theorem test_step_takes_front : (match step { State.reset with pending := [.railRise, .bypass] } with
  | .next u => u.rail && u.pending == [.bypass]
  | _ => false) = true := by decide +kernel
theorem witness_invariant_step : State.reset.inv = true ∧ step State.reset = .next State.reset := ⟨by decide +kernel, rfl⟩

/-! ## The Cuff core -/

/-- RD (c4) after the command on the running task, and the PC it goes to. -/
def rd4 (c : Instr) (w : Nat) : Nat × Nat := (((after c (cuff w [])).creg 3 1 4).toNat, (after c (cuff w [])).pc 3 1)

theorem witness_alu_register_form : ∀ fn : Fin 20, let w := fA 1 4 1 (if fn.val ≤ 0x10 then 2 else 0) fn
    (cuff w []).runs 3 1 (BitVec.ofNat 32 w) ∧ opOf (BitVec.ofNat 32 w) = 1 ∧ fnOf (BitVec.ofNat 32 w) = fn := by
  unfold State.runs; decide +kernel
theorem witness_alu_immediate_form : ∀ op : Fin 10, let w := fI (op + 2) 4 (if op.val = 9 then 0 else 3) 5
    (cuff w []).runs 3 1 (BitVec.ofNat 32 w) ∧ opOf (BitVec.ofNat 32 w) = op + 2 ∧ fieldOf (BitVec.ofNat 32 w) 5 11 = 0 ∧
    (op.val = 9 → raOf (BitVec.ofNat 32 w) = 0) := by unfold State.runs; decide +kernel
theorem witness_alu_reserved : cuffCode (BitVec.ofNat 32 (fA 1 4 1 2 0x14)) = none ∧
    cuffCode (BitVec.ofNat 32 (fA 1 4 1 2 0x11)) = none ∧ cuffCode (BitVec.ofNat 32 (fI 0x08 4 1 32)) = none ∧
    cuffCode (BitVec.ofNat 32 (fI 0x0B 4 1 32)) = none := by decide
/-- R329 by hand on c1 = 0x11, c2 = 0x22, c3 = 0x80000040. -/
theorem test_alu_register : rd4 (.add 3 1) (fA 1 4 3 3 0) = (0x80, 6) ∧ rd4 (.sub 3 1) (fA 1 4 1 2 1) = (0xFFFFFFEF, 6) ∧
    rd4 (.and 3 1) (fA 1 4 3 2 2) = (0, 6) ∧ rd4 (.or 3 1) (fA 1 4 3 2 3) = (0x80000062, 6) ∧
    rd4 (.xor 3 1) (fA 1 4 1 2 4) = (0x33, 6) ∧ rd4 (.shl 3 1) (fA 1 4 3 1 5) = (0x800000, 6) ∧
    rd4 (.shr 3 1) (fA 1 4 3 1 6) = (0x4000, 6) ∧ rd4 (.sra 3 1) (fA 1 4 3 1 7) = (0xFFFFC000, 6) ∧
    rd4 (.slt 3 1) (fA 1 4 3 1 8) = (1, 6) ∧ rd4 (.sltu 3 1) (fA 1 4 3 1 9) = (0, 6) := by decide +kernel
theorem test_alu_register2 : rd4 (.mul 3 1) (fA 1 4 3 2 0x0A) = (0x880, 6) ∧ rd4 (.mulh 3 1) (fA 1 4 3 2 0x0B) = (0xFFFFFFEF, 6) ∧
    rd4 (.mulhu 3 1) (fA 1 4 3 2 0x0C) = (0x11, 6) ∧ rd4 (.min 3 1) (fA 1 4 3 1 0x0D) = (0x80000040, 6) ∧
    rd4 (.max 3 1) (fA 1 4 3 1 0x0E) = (0x11, 6) ∧ rd4 (.minu 3 1) (fA 1 4 3 1 0x0F) = (0x11, 6) ∧
    rd4 (.maxu 3 1) (fA 1 4 3 1 0x10) = (0x80000040, 6) ∧ rd4 (.popc 3 1) (fA 1 4 3 0 0x11) = (2, 6) ∧
    rd4 (.clz 3 1) (fA 1 4 2 0 0x12) = (26, 6) ∧ rd4 (.clz 3 1) (fA 1 4 0 0 0x12) = (32, 6) ∧
    rd4 (.ctz 3 1) (fA 1 4 3 0 0x13) = (6, 6) ∧ rd4 (.ctz 3 1) (fA 1 4 0 0 0x13) = (32, 6) := by decide +kernel
/-- R330: ADDI, SLTI and SLTIU extend the sign, ANDI, ORI and XORI do not. -/
theorem test_alu_immediate : rd4 (.addi 3 1) (fI 2 4 1 0xFFFF) = (0x10, 6) ∧ rd4 (.andi 3 1) (fI 3 4 3 0xFFFF) = (0x40, 6) ∧
    rd4 (.ori 3 1) (fI 4 4 3 0xFFFF) = (0x8000FFFF, 6) ∧ rd4 (.xori 3 1) (fI 5 4 3 0x8000) = (0x80008040, 6) ∧
    rd4 (.slti 3 1) (fI 6 4 3 0xFFFF) = (1, 6) ∧ rd4 (.sltiu 3 1) (fI 7 4 3 0xFFFF) = (1, 6) ∧
    rd4 (.shli 3 1) (fI 8 4 1 31) = (0x80000000, 6) ∧ rd4 (.shri 3 1) (fI 9 4 3 31) = (1, 6) ∧
    rd4 (.srai 3 1) (fI 10 4 3 31) = (0xFFFFFFFF, 6) ∧ rd4 (.lui 3 1) (fI 11 4 0 0x8001) = (0x80010000, 6) := by decide +kernel
theorem test_c0_discards : (after (.add 3 1) (cuff (fA 1 0 1 2 0) [])).creg 3 1 0 = 0 ∧
    (after (.add 3 1) (cuff (fA 1 0 1 2 0) [])).pc 3 1 = 6 := by decide +kernel
theorem test_past_word_4095 : (after (.add 3 1)
    (cuff 0 [(Reg.cuffTaskStatus 3 1, 0x20000FFF), (Reg.cuffImem 3 4095, fA 1 4 1 2 0)])).taskState 3 1 = taskAborted := by
  decide +kernel

theorem witness_loads : (cuff (fI 0x14 4 1 3) []).narrowTo 3 1 (BitVec.ofNat 32 (fI 0x14 4 1 3)) 4 0x1014 ∧
    (cuff (fI 0x14 4 1 3) []).storesWait 3 1 = false ∧ (cuff (fI 0x14 4 1 3) []).pocketOpen 3 0x1014 4 ∧
    (cuff (fI 0x14 4 1 3) []).pocketClean 3 0x1014 4 := by
  refine ⟨⟨0x14, ?_⟩, ?_, ?_⟩
  · decide +kernel
  · decide +kernel
  · unfold State.pocketOpen State.pocketClean; decide +kernel
theorem witness_access_at_bound : (cuff (fI 0x10 4 0 0xFFF) []).narrowTo 3 1 (BitVec.ofNat 32 (fI 0x10 4 0 0xFFF)) 1 0x1FFF := by
  refine ⟨0xFFF, ?_⟩; decide +kernel
theorem witness_memory_words : ∀ op ∈ [0x10, 0x11, 0x12, 0x13, 0x14, 0x18, 0x19, 0x1A], let w := fI op 4 0 4
    (cuff w []).runs 3 1 (BitVec.ofNat 32 w) ∧ opOf (BitVec.ofNat 32 w) = op ∧ (cuff w []).pc 3 1 < 4095 := by
  unfold State.runs; decide +kernel
/-- R331: bytes 0x80 0xFF at offset 0x10 of the slot. -/
theorem test_loads : let s (w : Nat) := { cuff w [] with pocket := [(3 * 0x400000 + 0x1010, 0x80), (3 * 0x400000 + 0x1011, 0xFF)] }
    (after (.lb 3 1) (s (fI 0x10 4 0 16))).creg 3 1 4 = 0xFFFFFF80 ∧ (after (.lbu 3 1) (s (fI 0x11 4 0 16))).creg 3 1 4 = 0x80 ∧
    (after (.lh 3 1) (s (fI 0x12 4 0 16))).creg 3 1 4 = 0xFFFFFF80 ∧ (after (.lhu 3 1) (s (fI 0x13 4 0 16))).creg 3 1 4 = 0xFF80 ∧
    (after (.lw 3 1) (s (fI 0x14 4 0 16))).creg 3 1 4 = 0xFF80 := by decide +kernel
theorem test_store_is_posted : let u := after (.sw 3 1) (cuff (fI 0x1A 3 0 8) [])
    u.pocket = [] ∧ mread (after (.narrowAccess 3) u).pocket (3 * 0x400000 + 0x1008) 4 = [0x40, 0, 0, 0x80] := by decide +kernel

theorem witness_misaligned_and_past_bound :
    let o (ra imm : Nat) := ((cuff 0 []).creg 3 1 ra + BitVec.ofInt 32 ((BitVec.ofNat 32 imm).setWidth 16).toInt).toNat
    o 1 0 % 2 ≠ 0 ∧ o 2 0 % 4 ≠ 0 ∧ 0x1000 < o 0 0x1000 + 1 ∧ 0x1000 < o 0 0xFFE + 4 ∧
    ((cuff 0 []).rd (Reg.pocketSlotBound 3 1)).toNat = 0x1000 := by decide +kernel
theorem test_traps_abort : [after (.lh 3 1) (cuff (fI 0x12 4 1 0) []), after (.lw 3 1) (cuff (fI 0x14 4 2 0) []),
    after (.lb 3 1) (cuff (fI 0x10 4 0 0x1000) []), after (.sw 3 1) (cuff (fI 0x1A 4 0 0xFFE) []),
    after (.sh 3 1) (cuff (fI 0x19 4 0 0xFFF) []), after (.reservedInstruction 3 1) (cuff 0 []),
    after (.reservedInstruction 3 1) (cuff (fI 0x3E 0 0 0) [])].all
    (fun u => u.taskState 3 1 == taskAborted) = true := by decide +kernel
theorem witness_reserved_words : ∀ w ∈ [0, fI 0x0C 0 0 0, fI 0x0F 0 0 0, fI 0x15 0 0 0, fI 0x17 0 0 0, fI 0x1B 0 0 0, fI 0x1F 0 0 0,
    fI 0x29 0 0 0, fI 0x2F 0 0 0, fI 0x32 0 0 0, fI 0x37 0 0 0, fI 0x39 0 0 0, fI 0x3E 0 0 0, fA 1 0 0 0 0x14, fA 0x3F 0 0 0 6,
    fA 0x3F 1 0 0 5, fI 0x0B 1 1 1, fA 0x28 0 1 0 1],
    (cuff w []).runs 3 1 (BitVec.ofNat 32 w) ∧ cuffCode (BitVec.ofNat 32 w) = none := by unfold State.runs; decide +kernel

theorem witness_control_flow : ∀ op : Fin 9, let w := fI (0x20 + op) 1 1 0
    (cuff w []).runs 3 1 (BitVec.ofNat 32 w) ∧ opOf (BitVec.ofNat 32 w) = 0x20 + op := by unfold State.runs; decide +kernel
/-- R332 from PC 5: the branch compares bits [25:21] with [20:16]. -/
theorem test_control_flow : ((after (.beq 3 1) (cuff (fI 0x20 1 1 3) [])).pc 3 1 = 8) ∧
    ((after (.bne 3 1) (cuff (fI 0x21 1 1 3) [])).pc 3 1 = 6) ∧ ((after (.blt 3 1) (cuff (fI 0x22 3 1 0xFFFF) [])).pc 3 1 = 4) ∧
    ((after (.bge 3 1) (cuff (fI 0x23 3 1 3) [])).pc 3 1 = 6) ∧ ((after (.bltu 3 1) (cuff (fI 0x24 1 3 3) [])).pc 3 1 = 8) ∧
    ((after (.bgeu 3 1) (cuff (fI 0x25 1 3 3) [])).pc 3 1 = 6) ∧ ((after (.jmp 3 1) (cuff (0x9BFFFFFE) [])).pc 3 1 = 3) ∧
    (let u := after (.jal 3 1) (cuff (0x9C000007) []); u.pc 3 1 = 12 ∧ u.creg 3 1 31 = 6) ∧
    (let u := after (.jr 3 1) (cuff (fA 0x28 4 2 0 0) []); u.pc 3 1 = 0x22 ∧ u.creg 3 1 4 = 6) ∧
    (after (.jmp 3 1) (cuff (0x9BFFFFFA) [])).taskState 3 1 = taskAborted := by decide +kernel

/-- A task whose c5 holds a control-space address. -/
def csr (w a : Nat) (l : List (Nat × Nat)) : State := cuff w ((Reg.cuffTaskReg 3 1 5, a) :: l)

theorem witness_csrr : let s := csr (fI 0x30 4 5 0) (Reg.cuffTaskArg 3 2) [(Reg.cuffTaskArg 3 2, 77)]
    let a := (s.creg 3 1 5).toNat
    s.runs 3 1 (BitVec.ofNat 32 (fI 0x30 4 5 0)) ∧ a % 4 = 0 ∧ 0x1001000 + 0x10000 * 3 ≤ a ∧ a < 0x1008000 + 0x10000 * 3 ∧
    (regAt a).map (fun r => (r.1.width, r.2)) = some (32, 0) ∧ s.domainOn 13 = true ∧ a ≠ Reg.cuffStatInstr 3 := by
  unfold State.runs; decide +kernel
theorem test_csrr : (after (.csrr 3 1) (csr (fI 0x30 4 5 0) (Reg.cuffTaskArg 3 2) [(Reg.cuffTaskArg 3 2, 77)])).creg 3 1 4 = 77 := by
  decide +kernel
theorem test_csrw : (after (.csrw 3 1) (csr (fI 0x31 2 5 0) (Reg.cuffTaskTimer 3 0) [])).rd (Reg.cuffTaskTimer 3 0) = 0x22 := by
  decide +kernel
theorem test_csr_out_of_reach : (after (.csrr 3 1) (csr (fI 0x30 4 5 0) (Reg.cuffTaskArg 4 2) [])).taskState 3 1 = taskAborted ∧
    (after (.csrw 3 1) (csr (fI 0x31 4 5 2) (Reg.cuffTaskArg 3 2) [])).taskState 3 1 = taskAborted := by decide +kernel

theorem witness_core_control : ∀ fn : Fin 6, let w := fA 0x3F 0 0 0 fn
    (cuff w []).runs 3 1 (BitVec.ofNat 32 w) ∧ opOf (BitVec.ofNat 32 w) = 0x3F ∧ fnOf (BitVec.ofNat 32 w) = fn := by
  unfold State.runs; decide +kernel
/-- A transfer of queue 2, which task 1 owns, is outstanding. -/
def busyQueue (w : Nat) : State := (cuff w [(Reg.placketQCfg 3 2, 0x4407)]).setQueue 3 2 { Queue.init with
  xfers := [{ txn := 40, pos := 0, moves := [], slot := none, read := false, remote := none, opening := false }] }
theorem witness_tend : (cuff (fA 0x3F 0 0 0 2) []).tendForbidden 3 1 = false ∧ (cuff (fA 0x3F 0 0 0 2) []).workEnded 3 1 = true ∧
    (cuff (fA 0x3F 0 0 0 2) [(Reg.cuffTaskStatus 3 1, 0x20001005)]).tendForbidden 3 1 = true ∧
    (busyQueue (fA 0x3F 0 0 0 2)).runs 3 1 (BitVec.ofNat 32 (fA 0x3F 0 0 0 2)) ∧ (busyQueue (fA 0x3F 0 0 0 2)).tendForbidden 3 1 = false ∧
    (busyQueue (fA 0x3F 0 0 0 2)).workEnded 3 1 = false := by
  unfold State.runs; decide +kernel
theorem test_core_control : (after (.tend 3 1) (cuff (fA 0x3F 0 0 0 2) [])).taskState 3 1 = taskEnded ∧
    (let u := after (.bar 3 1) (cuff (fA 0x3F 0 0 0 0) []); u.taskState 3 1 = taskWaiting ∧ (u.task 3 1).arrived) ∧
    (let u := after (.wfi 3 1) (cuff (fA 0x3F 0 0 0 3) [(Reg.cuffIntEn 3 1, 3)])
     u.taskState 3 1 = taskWaiting ∧ u.fld (Reg.cuffTaskStatus 3 1) 25 4 = 9) ∧
    (after (.wfi 3 1) (cuff (fA 0x3F 0 0 0 3) [(Reg.cuffIntEn 3 1, 3), (Reg.cuffIntPend 3 1, 2)])).pc 3 1 = 6 ∧
    (after (.wfi 3 1) (cuff (fA 0x3F 0 0 0 3) [])).taskState 3 1 = taskAborted ∧
    (after (.iret 3 1) (cuff (fA 0x3F 0 0 0 4) [(Reg.cuffTaskStatus 3 1, 0x21000005), (Reg.cuffIntEpc 3 1, 33)])).pc 3 1 = 33 := by
  decide +kernel

theorem witness_task_events : let s := cuff (fA 0x3F 0 0 0 2) [(Reg.cuffTaskStatus 3 1, 0x46000005), (Reg.cuffIntEn 3 1, 3),
      (Reg.cuffIntPend 3 1, 2), (Reg.cuffTaskTimer 3 1, 9), (Reg.cuffTaskEntry 3 0, 0x80000077)]
    s.taskState 3 1 = taskWaiting ∧ cuffCode (s.fetch 3 1) = some (code 0x3F 2) ∧ s.workEnded 3 1 = true ∧
    s.bit (Reg.cuffTaskStatus 3 1) 24 = false ∧ s.rd (Reg.cuffIntPend 3 1) &&& s.rd (Reg.cuffIntEn 3 1) ≠ 0 ∧ (s.task 3 1).suit = none ∧
    s.rd (Reg.cuffTaskTimer 3 1) ≠ 0 ∧ s.regOn (Reg.cuffDoorbell 3) = true ∧ s.regOn (Reg.cuffTaskCtrl 3 0) = true ∧
    s.taskState 3 0 = taskFree ∧ s.bit (Reg.cuffTaskEntry 3 0) 31 = true ∧ s.partOf 3 = none ∧
    s.fld (Reg.cuffTaskStatus 3 1) 25 4 = 3 := by decide +kernel
theorem test_task_start : let u := after (.cuffTaskStart 3 0) (cuff 0 [(Reg.cuffTaskEntry 3 0, 0x80000077), (Reg.cuffTaskArg 3 0, 99),
      (Reg.cuffTaskReg 3 0 7, 5)])
    u.taskState 3 0 = taskRunning ∧ u.pc 3 0 = 0x77 ∧ u.creg 3 0 1 = 99 ∧ u.creg 3 0 7 = 0 := by decide +kernel
theorem test_interrupt : let u := after (.interruptTake 3 1) (cuff 0 [(Reg.cuffIntEn 3 1, 3), (Reg.cuffIntPend 3 1, 2), (Reg.cuffIntVec 3 1, 99)])
    u.pc 3 1 = 99 ∧ u.fld (Reg.cuffIntEpc 3 1) 0 12 = 5 ∧ u.bit (Reg.cuffTaskStatus 3 1) 24 = true := by decide +kernel

/-! ## Counter clears -/

theorem witness_clears : (cuff 0 []).regOn (Reg.pocketCtrClear 3) = true ∧ State.reset.regOn (Reg.pocketCtrClear 3) = false := by decide +kernel
theorem test_clear : let u := after (.samplerCtrClear 0 4) (cuff 0 [(Reg.samplerTiles 0 2, 5), (Reg.samplerTiles 0 1, 6),
      (Reg.samplerHist 0 2 6 15, 7)])
    u.rd (Reg.samplerTiles 0 2) = 0 ∧ u.rd (Reg.samplerHist 0 2 6 15) = 0 ∧ u.rd (Reg.samplerTiles 0 1) = 6 := by decide +kernel

/-! ## Pockets (spec 03) -/

theorem witness_wide_port : let s := cuff 0 []
    (s.ports 3).held = [] ∧ (s.ports 3).merging = [] ∧ 0x100 + 8 * 16 ≤ (s.rd (Reg.pocketSlotBound 3 1)).toNat ∧
    (s.rd (Reg.pocketSlotBase 3 1)).toNat + 0x100 = 0x1100 ∧ 0xFF8 + 8 * 1 ≤ (s.rd (Reg.pocketSlotBound 3 1)).toNat := by decide +kernel
theorem witness_wide_open : (cuff 0 []).pocketOpen 3 0x1100 128 ∧ (cuff 0 []).pocketClean 3 0x1100 128 := by
  unfold State.pocketOpen State.pocketClean; decide +kernel
/-- R72: both accesses begin at word 0x220, so they need a common bank; WP1's is held. -/
def conflict : State := after (.pocketWideAccess 3 (some ⟨1, 0x10, 0x100, 2, none⟩) (some (.own ⟨1, 0x20, 0x200, 1, none⟩))) (cuff 0 [])
theorem witness_conflict : (0x1100 / 8 % 32) ∈ (wordsOf 0x1100 16).map (· % 32) ∧ (0x1100 / 8 % 32) ∈ (wordsOf 0x1200 8).map (· % 32) ∧
    (cuff 0 []).bit (Reg.pocketCfg 3) 0 = false := by decide +kernel
theorem test_conflict : (conflict.ports 3).held.map (fun h => (h.port, h.acc.off)) = [(1, 0x1200)] ∧
    conflict.rd (Reg.pocketConflictCount 3) = 1 ∧ ((after (.heldAccessGrant 3) conflict).ports 3).held = [] := by decide +kernel
/-- A write of the bytes 1 to 8 at offset 8 of the slot. -/
def wideWrite : State := after (.pocketWideAccess 3 (some ⟨1, 0x10, 8, 1,
  some ((List.range 8).map (fun i => some (BitVec.ofNat 8 (i + 1))))⟩) none) (cuff 0 [])
theorem test_wide_write : mread wideWrite.pocket (pkey 3 0x1008) 8 = [1, 2, 3, 4, 5, 6, 7, 8] ∧ (wideWrite.ports 3).busy = [1] := by
  decide +kernel

/-- A granted read, a posted store of two bytes that has waited 16 cycles, and a corrected word to be written back. -/
def portsFull : State := { (cuff 0 []).setPorts 3 { Ports.init with
  reads := [⟨0, ⟨.task 1 0x10, 0x1100, 8, none⟩, [1, 2, 3, 4, 5, 6, 7, 8], none⟩], ceBack := [5],
  posted := [⟨⟨.task 1 0x31, 0x1010, 2, some [some 0xAA, some 0xBB]⟩, 16⟩] } with pocketErr := [(wkey 3 5, ⟨false, 3⟩)] }
theorem witness_port_effects : (portsFull.ports 3).reads.all (fun r => r.charge == none) = true ∧
    (portsFull.ports 3).posted.all (fun r => 16 ≤ r.waits && r.acc.off % r.acc.len == 0 && r.acc.len == 2) = true ∧
    (portsFull.ports 3).busy = [] ∧ 5 % 32 ∉ (portsFull.ports 3).merging := by decide +kernel
theorem witness_port_bank : portsFull.bankFree 3 0x1010 ∧
    ¬ (portsFull.setPorts 3 { portsFull.ports 3 with busy := [2] }).bankFree 3 0x1010 ∧
    portsFull.pocketOpen 3 0x1010 2 ∧ portsFull.pocketClean 3 0x1010 2 ∧ portsFull.pocketClean 3 0x1100 8 := by
  unfold State.bankFree State.pocketOpen State.pocketClean; decide +kernel
theorem test_port_effects : ((after (.pocketReadData 3 []) portsFull).ports 3).delivered.map (·.2) = some [1, 2, 3, 4, 5, 6, 7, 8] ∧
    mread (after (.narrowAccess 3) portsFull).pocket (pkey 3 0x1010) 2 = [0xAA, 0xBB] ∧
    (after (.narrowForce 3) portsFull).rd (Reg.pocketNarrowForceCount 3) = 1 ∧
    (after (.ceWriteBack 3) portsFull).wordErr 3 5 = none := by decide +kernel

theorem witness_upkeep : let s := cuff 0 [(Reg.pocketScrubPtr 3, 0x3FFFF8), (Reg.pocketPwrStatus 3, 0x1FE), (Reg.pocketAccAddr 3, 0x3FFFFC)]
    s.bit (Reg.pocketScrubCtrl 3) 0 = true ∧ s.bit (Reg.pocketStatus 3) 7 = false ∧ s.fld (Reg.pocketScrubPtr 3) 3 19 = 0x7FFFF ∧
    s.bit (Reg.pocketPwrStatus 3) 7 = true ∧ s.wordErr 3 0x7FFFF = none ∧ s.bit (Reg.pocketPwrStatus 3) (8 + 0) = true ∧
    s.regOn (Reg.pocketAccData 3) = true ∧ (s.rd (Reg.pocketAccAddr 3)).toNat % 4 = 0 := by decide +kernel
theorem witness_upkeep_open : (cuff 0 []).pocketOpen 3 0x3FFFFC 4 ∧ (cuff 0 []).pocketClean 3 0x3FFFFC 4 ∧
    (cuff 0 []).bankFree 3 (8 * 0x7FFFF) := by unfold State.bankFree State.pocketOpen State.pocketClean; decide +kernel
/-- R83: after the last word the pointer returns to 0 and a pass is counted. -/
theorem test_scrub : let u := after (.scrubStep 3 none) (cuff 0 [(Reg.pocketScrubPtr 3, 0x3FFFF8)])
    u.rd (Reg.pocketScrubPtr 3) = 0 ∧ u.rd (Reg.pocketScrubPasses 3) = 1 := by decide +kernel
theorem test_wake : let u := after (.bankGroupWakeDone 3 0) { cuff 0 [(Reg.pocketPwrStatus 3, 0x1FE)] with
      pocket := [(pkey 3 0x7FFFF, 1), (pkey 3 0x80000, 2)] }
    u.rd (Reg.pocketPwrStatus 3) = 0xFF ∧ u.pocket = [(pkey 3 0x80000, 2)] := by decide +kernel
theorem test_pocket_acc : let u := after (.pocketAccWrite 3 0x12345678) (cuff 0 [(Reg.pocketAccAddr 3, 0x3FFFFC)])
    mread u.pocket (pkey 3 0x3FFFFC) 4 = [0x78, 0x56, 0x34, 0x12] ∧ u.rd (Reg.pocketAccAddr 3) = 0 ∧
    u.rd64 (Reg.pocketDirty 3) = 2 ^ 63 := by decide +kernel
theorem test_wipe : let u := after (.wipeDone 3) { cuff 0 [(Reg.pocketStatus 3, 0x80), (Reg.pocketCeCount 3, 9)] with
      pocket := [(pkey 2 5, 1), (pkey 3 5, 1), (pkey 4 0, 2)] }
    u.pocket = [(pkey 2 5, 1), (pkey 4 0, 2)] ∧ u.rd (Reg.pocketStatus 3) = 0x40 ∧ u.rd (Reg.pocketCeCount 3) = 0 := by decide +kernel

/-! ## Suits (spec 05-09) -/

/-- A tensor of one row of `nc` columns; `pl` gives the slot offsets of its planes in the order of R119 (VAL0 first). -/
def tens (id ty fmt nm nc : Nat) (pl : List (Nat × Nat)) : List Byte :=
  leBytes 2 id ++ leBytes 1 (ty * 16 + fmt) ++ [0, 0] ++ leBytes 1 nm ++ [2, 0] ++ leBytes 4 nc ++ leBytes 4 1 ++ leBytes 4 1 ++
  leBytes 4 1 ++ leBytes 4 nc ++ leBytes 4 nc ++ leBytes 4 nc ++ leBytes 4 nc ++ leBytes 8 noneAddr ++
  (List.range 10).flatMap (fun i => leBytes 8 (tget pl noneAddr i))

/-- The operand block of one row of tensor 1 by one row of tensor 2 over columns 0 to `n`, with totals `tot` and output `out`. -/
def opBlock (n tot out : Nat) : List Byte :=
  leBytes 2 1 ++ leBytes 2 2 ++ leBytes 2 tot ++ leBytes 2 out ++ leBytes 2 0xFFFF ++ leBytes 10 0 ++ leBytes 4 1 ++ leBytes 4 0 ++
  leBytes 4 1 ++ leBytes 4 0 ++ leBytes 4 n ++ List.replicate 88 0

/-- That of one pair, whose list stands at offset 0x60 of the slot. -/
def opPair (n tot out : Nat) : List Byte :=
  leBytes 2 1 ++ leBytes 2 2 ++ leBytes 2 tot ++ leBytes 2 out ++ leBytes 2 0xFFFF ++ leBytes 22 0 ++ leBytes 4 0 ++ leBytes 4 n ++
  leBytes 8 0 ++ leBytes 4 0x60 ++ leBytes 1 1 ++ List.replicate 75 0

/-- Task (3, 1) issues a suit of template W0 = `w0`, W1 = `w1`. Tensors stand in its slot at 0x1000, the operand block at 0x80 of it. -/
def suitSt (w0 w1 : Nat) (ts : List (Nat × List Byte)) (op : List Byte) (mem : List (Nat × List Byte)) : State :=
  let s := (cuff (fA 0x38 0 4 5 0) [(Reg.cuffTaskReg 3 1 4, 0x80), (Reg.suitTplW0 3 0, w0), (Reg.suitTplW1 3 0, w1)]).setSlot 0
    { Slot.init with tiles := 8, taskSlots := 4, tensors := ts }
  { s with pocket := ((0x80, op) :: mem).foldl (fun m p => mwrite m (pkey 3 (0x1000 + p.1)) p.2) [] }

/-- The states of a run over the listed commands. -/
def runs (cs : List Instr) (s : State) : State := cs.foldl (fun s c => after c s) s

/-- A DENSE product of INT8 rows [1, 2, 3] and [4, 5, 6] without CONVERT (INIT, SHAPE 3), its suit RUNNING. -/
def dense : State := runs [.suit 3 1, .suitIssueChecks 3 0] (suitSt 0xAD019000 0
  [(1, tens 1 0 0 0 3 [(0, 0)]), (2, tens 2 0 0 0 3 [(0, 0x10)]), (3, tens 3 9 0 0 3 [(0, 0x20), (1, 0x30)])]
  (opBlock 3 3 3) [(0, [1, 2, 3]), (0x10, [4, 5, 6])])

/-- A GINT product over 256 columns of two DENSE tensors, its suit RUNNING. -/
def gint : State := runs [.suit 3 1, .suitIssueChecks 3 0] (suitSt 0xAF259000 0
  [(1, tens 1 0 0 0 256 [(0, 0x200)]), (2, tens 2 0 0 0 256 [(0, 0x400)]), (3, tens 3 9 0 0 256 [(0, 0x600), (1, 0x800)])]
  (opBlock 256 3 3) [(0x200, [1, 2]), (0x400, [3])])

/-- A 2:4 NM row (columns 1 and 3 of one group) by a DENSE row of four columns. -/
def nmdec : State := runs [.suit 3 1, .suitIssueChecks 3 0, .seamStageStart 3] (suitSt 0xAF699000 0
  [(1, tens 1 0 2 2 4 [(0, 0), (2, 8)]), (2, tens 2 0 0 0 4 [(0, 0x10)]), (3, tens 3 9 0 0 4 [(0, 0x20), (1, 0x30)])]
  (opBlock 4 3 3) [(0, [5, 7]), (8, [0x0D]), (0x10, [1, 2, 3, 4])])

/-- A DOT of two CLIST rows with columns 0, 2 and 2, 3. -/
def dot : State := runs [.suit 3 1, .suitIssueChecks 3 0, .seamStageStart 3] (suitSt 0xAF8C1000 0
  [(1, tens 1 0 3 0 4 [(0, 0), (3, 8), (4, 0x0C), (5, 0x10), (6, 0x50)]),
   (2, tens 2 0 3 0 4 [(0, 4), (3, 8), (4, 0x0C), (5, 0x14), (6, 0x50)]), (3, tens 3 9 0 0 4 [(0, 0x20), (1, 0x30)])]
  (opPair 4 3 3) [(0, [5, 7]), (4, [2, 3]), (0x0E, [2]), (0x12, [2, 0, 2, 0, 3])])

/-- A suit has been found, and `p` holds of it. -/
def found (o : Option (Nat × Suit)) (p : Nat → Suit → Bool) : Bool := o.any (fun q => p q.1 q.2)

/-- A step of a stage answers `a` and leaves the state as it was. -/
def same {α : Type} [BEq α] (r : Step' α) (s : State) (a : α) : Bool := match r with
  | (u, .ok b) => u == s && b == a
  | _ => false

theorem witness_suit_slots : gint.suitSlots 3 ∧ dense.suitSlots 3 ∧ nmdec.suitSlots 3 ∧ dot.suitSlots 3 := by
  unfold State.suitSlots; decide +kernel
theorem witness_stage_starts : gint.seamSuit 3 = none ∧ gint.sleeveSuit 3 = none ∧ gint.domainOn 5 = true ∧
    found (gint.nextSuit 3 (fun x => x.has stSeam && x.run.seam != 2)) (fun i x => i == 0 && x.bound) = true ∧
    found (gint.nextSuit 3 (fun x => x.run.sleeve != 2)) (fun i x => i == 0 && x.bound) = true ∧
    (gint.wr Reg.pwrDomainOn 3).domainOn 5 = false ∧ (gint.wr Reg.pwrDomainOn 3).domainWaking 5 = false := by decide +kernel
/-- K block 0 of two DENSE rows gives 16 records, none NULL. -/
theorem witness_scan : let s := after (.seamStageStart 3) gint
    found (s.seamSuit 3) (fun _ x => x.seamOp == opGint && x.run.sOp < x.ops && x.run.pend.isEmpty &&
      (List.range 2).all (fun j => (s.sideDesc 3 x j).format == fmtDense && (s.sideDesc 3 x j).gmap == noneAddr &&
        !(s.sideDesc 3 x j).dist && 256 * (x.run.sPos + 1) ≤ (s.sideDesc 3 x j).nc &&
        x.validRows (s.sideDesc 3 x j) j x.run.sOp != [])) = true := by decide +kernel
def scanned : State := runs [.seamStageStart 3, .seamKblockScan 3] gint
theorem test_scan_and_hand_over : ((scanned.suit 3 0).map (fun x => (x.run.pend.length, x.run.hand.length)) = some (16, 0)) ∧
    (((after (.seamRecordWrite 3) scanned).suit 3 0).map (fun x => (x.run.pend.length, x.run.hand.length)) = some (8, 8)) := by decide +kernel
/-- R140: the kept products of the group stand in columns 1 and 3. -/
theorem witness_nmdec : found (nmdec.seamSuit 3) (fun _ x => let d := nmdec.sideDesc 3 x 0
    x.seamOp == opNmdec && x.run.sOp < x.ops && x.run.pend.isEmpty && nmRatio d.nmCode == (2, 4) && min x.kHi d.nc * 2 / 4 == 2 &&
      x.run.sPos == 0 && min (nmdec.nmCount 3 x) 2 == 2 && x.validRows d 0 x.run.sOp == [(0, 0)] &&
      same (nmdec.nmRow 3 x d 0 0 2) nmdec [1, 3]) = true := by decide +kernel
theorem test_nmdec : ((after (.nmdecDecode 3) nmdec).suit 3 0).any (fun x => x.run.pend.length == 1 && x.run.pend.all (fun q => q.last &&
    q.r == .nrec 0 0 false ([1, 3] :: List.replicate 31 []))) = true := by decide +kernel
theorem witness_merge : found (dot.seamSuit 3) (fun _ x => x.isDot && x.run.sOp < x.ops && x.run.pend.isEmpty &&
    same (dot.pairAt 3 x stSeam 0) dot (0, 0) &&
    same (dot.window 3 x 0 0 (dot.segsOf 3 x 0 (dot.sideDesc 3 x 0) 0 0 4) x.run.curA) dot
      ([(0, 0, 0, 1, some 0), (2, 1, 0, 2, some 2)], true) &&
    same (dot.window 3 x 1 0 (dot.segsOf 3 x 1 (dot.sideDesc 3 x 1) 0 0 4) x.run.curB) dot
      ([(2, 0, 0, 1, some 2), (3, 1, 0, 2, some 3)], true)) = true := by decide +kernel
/-- R144: only column 2 is in both rows, and it pairs values 1 and 0. -/
theorem test_merge : ((after (.seamMergeCycle 3) dot).suit 3 0).map (fun x => x.run.pend.map (·.r)) = some [.erec (some 1) (some 0) 2] := by
  decide +kernel

theorem witness_fetch : found (dense.nextSuit 3 (fun x => x.has stFetch && !x.fetchDone)) (fun i x => i == 0 && x.bound &&
    !x.has stSeam && x.run.fOp < x.tiles && x.run.fPos % 128 == 0 && x.run.fed.isEmpty && x.kLo + x.run.fPos == 0 && x.kHi == 3 &&
    (match dense.fetchSide 3 x x.run 0 0 true [(0, dense.denseWants 3 x 0 0 [0, 1, 2])] with
      | (s, .ok (r, a)) => s == dense && (match s.fetchSide 3 x r 1 0 true [(0, s.denseWants 3 x 1 0 [0, 1, 2])] with
        | (s', .ok (r1, b)) => s' == dense && r1.fed.isEmpty && fetched a 0 1 == some ⟨2, 0, 0⟩ && fetched b 0 2 == some ⟨6, 0, 0⟩
        | _ => false)
      | _ => false)) = true := by decide +kernel
/-- A suit whose A side is bound to queue 2. -/
def bound : State := (runs [.suit 3 1, .suitIssueChecks 3 0] ((suitSt 0xAD019000 0x90000000
  [(1, tens 1 0 0 0 3 [(0, 0)]), (2, tens 2 0 0 0 3 [(0, 0x10)]), (3, tens 3 9 0 0 3 [(0, 0x20), (1, 0x30)])]
  (opBlock 3 3 3) []).wr (Reg.placketQCfg 3 2) 0x14407)).wr (Reg.placketQStatus 3 2) 0x1300000
theorem witness_bind : found (bound.bindSuit 3 0) (fun i x => i == 0 && bound.qFilled 3 (x.bindQ 0) == 1 && x.bindQ 0 == 2) = true ∧
    ((after (.fetchSlotBind 3 false) bound).suit 3 0).map (fun x => x.run.bindA) = some (some 3) := by decide +kernel
def denseFetched : State := runs [.suit 3 1, .suitIssueChecks 3 0, .sleeveStageStart 3, .fetchBlock 3, .sleeveCycle 3, .fetchBlock 3]
  (suitSt 0xAD019000 0 [(1, tens 1 0 0 0 130 [(0, 0x200)]), (2, tens 2 0 0 0 130 [(0, 0x300)]),
    (3, tens 3 9 0 0 130 [(0, 0x400), (1, 0x600)])] (opBlock 130 3 3) [(0x200, [1])])
theorem witness_sleeve_cycle : found (denseFetched.sleeveSuit 3) (fun i x => i == 0 && !x.isSum && x.has stFetch && !x.isDot && !(x.run.set x (x.run.tile % 2)).ended &&
      (x.nextRec x.run).isSome) = true := by decide +kernel
/-- The three products are in: the tile can end. -/
def denseFed : State := runs (.sleeveStageStart 3 :: .fetchBlock 3 :: List.replicate 3 (.sleeveCycle 3)) dense
theorem witness_tile_end : found (denseFed.sleeveSuit 3) (fun _ x => x.tileOver) = true := by decide +kernel
/-- R162 by hand: 1·4 + 2·5 + 3·6 = 32 reaches REDUCE, and STORE writes it as a pair of words. -/
theorem test_product : let s := runs [.sleeveTileEnd 3, .sleeveDrainRow 3] denseFed
    ((s.suit 3 0).map (fun x => x.run.red.map (·.vals)) = some [[.tot (.int 32)]]) ∧
    (let u := runs [.reduceRowWriteback 3, .storeRow 3] s
     mreadNat u.pocket (pkey 3 0x1020) 2 = 0 ∧ mreadNat u.pocket (pkey 3 0x1030) 2 = 32) := by decide +kernel

/-- A suit of one part in sequential order (SEQ 1), its tile over. -/
def seqOver : State := runs [.suit 3 1, .suitIssueChecks 3 0, .sleeveStageStart 3, .fetchBlock 3, .sleeveCycle 3, .sleeveCycle 3,
  .sleeveCycle 3, .sleeveTileEnd 3] (suitSt 0xAD01B000 0
  [(1, tens 1 0 0 0 3 [(0, 0)]), (2, tens 2 0 0 0 3 [(0, 0x10)]), (3, tens 3 9 0 0 3 [(0, 0x20), (1, 0x30)])]
  (opBlock 3 3 3) [(0, [1, 2, 3]), (0x10, [4, 5, 6])])
theorem witness_drain_row : found (seqOver.sleeveSuit 3) (fun _ x => x.run.ahead.isEmpty && x.run.draining x == some 0 &&
    x.run.red.length < 4 && !x.isDot && x.tparts == 1 && (x.run.set x 0).dr < (x.tileSize (x.run.set x 0).tile).1) = true := by
  decide +kernel
/-- SUIT_STATUS.TILES rises with the last of the 16 rows (R292). -/
theorem test_tiles_counted : (runs (List.replicate 15 (.sleeveDrainRow 3)) seqOver).fld (Reg.suitStatus 3 0) 0 16 = 0 ∧
    (runs (List.replicate 16 (.sleeveDrainRow 3)) seqOver).fld (Reg.suitStatus 3 0) 0 16 = 1 := by decide +kernel
/-- A sampled tile has drained. -/
def sampled : State := match seqOver.suit 3 0 with
  | some x => seqOver.setSuit 3 0 { x with run := { x.run with sample := some ⟨0, [], List.replicate 16 [.int 32], [], false⟩ } }
  | none => seqOver
theorem witness_rerun : found (sampled.sleeveSuit 3) (fun _ x => x.run.sample.any (fun p => x.drainRows ≤ p.drained.length)) = true ∧
    sampled.partOf 3 = some 0 ∧ (after (.sampledTileRerun 3) sampled).rd (Reg.samplerTiles 0 0) = 1 := by decide +kernel

/-- A product without INIT: the running total at column 0 is 100. -/
def withTotal : State := runs [.suit 3 1, .suitIssueChecks 3 0] (suitSt 0xAD018000 0
  [(1, tens 1 0 0 0 3 [(0, 0)]), (2, tens 2 0 0 0 3 [(0, 0x10)]), (3, tens 3 9 0 0 3 [(0, 0x20), (1, 0x30)])]
  (opBlock 3 3 3) [(0x20, [0, 0]), (0x30, [100, 0])])
theorem witness_row_read : found (withTotal.reduceSuit 3) (fun i x => i == 0 && !x.isDot && !x.init && x.run.ahead.length < 4 &&
    x.run.redPos / x.tm < x.tiles && x.run.redPos % x.tm < (x.tileSize 0).1 &&
    (x.run.redPos + 1) % x.tm ≥ (x.tileSize 0).1 &&
    same (withTotal.readRow 3 x stReduce (withTotal.totalDesc 3 x) 0 0 1) withTotal [(0, ⟨100, 0, 0⟩)]) = true := by decide +kernel
theorem test_row_read : ((after (.reduceRowRead 3) withTotal).suit 3 0).map (fun x => x.run.ahead) = some [(0, [.int 100])] := by
  decide +kernel
theorem witness_writeback : found ((after (.sleeveDrainRow 3) seqOver).reduceSuit 3) (fun _ x => x.run.red.length == 1 && !x.writeback &&
    x.run.cvt.length < 4 && x.has stStore) = true := by decide +kernel

/-- A suit with CONVERT whose REDUCE stage has handed on one row: BF16 operands and totals in BFPAIR, or an INT8 output. -/
def cvt (ty out : Nat) (v : Res) : State :=
  let s := runs [.suit 3 1, .suitIssueChecks 3 0, .sleeveStageStart 3] (suitSt 0xBD019000 0
    [(1, tens 1 ty 0 0 3 [(0, 0)]), (2, tens 2 ty 0 0 3 [(0, 0x10)]),
     (3, tens 3 (if ty = tyBF16 then tyBFPair else tyI32Pair) 0 0 3 [(0, 0x20), (1, 0x30)]), (4, tens 4 out 0 0 3 [(0, 0x40), (1, 0x50)])]
    (opBlock 3 3 4) [])
  match s.suit 3 0 with
  | some x => s.setSuit 3 0 { x with run := { x.run with cvt := [⟨0, 0, 0, 0, 0, [v], true⟩] } }
  | none => s
theorem witness_convert : found ((cvt tyBF16 tyBFPair (.tot (.pair 0x3F80 0))).convertSuit 3) (fun _ x => x.run.held.isEmpty &&
    x.run.sto.length < 4 && isPair ((cvt tyBF16 tyBFPair (.tot (.pair 0x3F80 0))).outDesc 3 x).elem &&
    ((cvt tyBF16 tyBFPair (.tot (.pair 0x3F80 0))).outDesc 3 x).scale == noneAddr && !x.lining && !x.isSum &&
    isFloat ((cvt tyBF16 tyBFPair (.tot (.pair 0x3F80 0))).sideDesc 3 x 0).elem) = true := by decide +kernel
/-- R211: an INT32 total of 300 saturates to INT8 127, which STORE writes at its place. -/
def toStore : State := after (.convertRow 3) (cvt tyI8 tyI8 (.tot (.int 300)))
theorem witness_store : found (toStore.storeSuit 3) (fun _ x => !x.isMerge && !x.toRing && x.has stConvert &&
    x.run.sto.map (fun w => (w.vals, w.scales)) == [([(127, 0)], [])] &&
    (match toStore.img 3 x 2 (toStore.outDesc 3 x) 0 0 with
      | some g => !g.empty && g.d == toStore.outDesc 3 x && toStore.planeAt 3 x g g.d.val0 (g.dense 0 0) 1 == some 0x1040
      | none => false)) = true ∧ mget (after (.storeRow 3) toStore).pocket (pkey 3 0x1040) = 127 := by decide +kernel
theorem witness_store_open : toStore.pocketOpen 3 0x1040 1 ∧ toStore.pocketClean 3 0x1040 1 := by
  unfold State.pocketOpen State.pocketClean; decide +kernel

/-- The suit of `dense` before its checks. -/
def waiting : State := after (.suit 3 1) (suitSt 0xAD019000 0
  [(1, tens 1 0 0 0 3 [(0, 0)]), (2, tens 2 0 0 0 3 [(0, 0x10)]), (3, tens 3 9 0 0 3 [(0, 0x20), (1, 0x30)])] (opBlock 3 3 3) [])
theorem witness_issue_checks : (waiting.suit 3 0).any (fun x => waiting.suitState 3 0 == suitWaiting && !x.checked && x.w 0 31 1 == 1 &&
    x.opOff % 128 == 0 && waiting.slotPhys 3 x.task x.opOff 128 == some 0x1080 && !waiting.sbMode 3 && !waiting.taskOver 3 x.task &&
    (let y : Suit := { x with op := mread waiting.pocket (pkey 3 0x1080) 128 }
     (waiting.setSuit 3 0 y).suitChecks 3 y == none && y.kHi - y.kLo == 3 && y.ktotal == 0)) = true ∧
    waiting.pocketOpen 3 0x1080 128 ∧ waiting.pocketClean 3 0x1080 128 := by
  unfold State.pocketOpen State.pocketClean; decide +kernel
theorem test_invalid_template : let s := after (.suit 3 1) (suitSt 0x2D019000 0 [] (opBlock 3 3 3) [])
    ((s.suit 3 0).any (fun x => x.w 0 31 1 == 0 && x.task == 1 && !s.taskOver 3 x.task) = true) ∧
    (after (.suitIssueChecks 3 0) s).taskState 3 1 = taskAborted := by decide +kernel
/-- A suit whose ranges are entered, with an input range at 0x1000; with `more` a pending output overlaps it. -/
def enteredSuit : Suit := ⟨1, 0, 0, [0xAD019000, 0, 0, 0], 0x80,
  List.replicate 0x60 0 ++ leBytes 4 0 ++ leBytes 4 0x80000010 ++ List.replicate 24 0, true, true, SuitRun.init⟩
def rangesIn (more : Bool) : State :=
  let s := waiting.setSuit 3 0 enteredSuit
  if more then (s.wr (Reg.sbEntryLo 3 0) 0x80001000).wr (Reg.sbEntryHi 3 0) 0x2E000010 else s
theorem witness_suit_running : (rangesIn false).suitState 3 0 = suitWaiting ∧ (rangesIn false).suit 3 0 = some enteredSuit ∧
    (rangesIn false).suitRanges 3 enteredSuit false = [(0x1000, 16)] ∧ (rangesIn false).sbOverlap 3 0x1000 16 [] = false ∧
    (rangesIn true).sbOverlap 3 0x1000 16 ((rangesIn true).sbOf 3 0 0) = true ∧
    (after (.suitRunning 3 0) (rangesIn false)).suitState 3 0 = suitRunning ∧
    (after (.suitRunning 3 0) (rangesIn true)).suitState 3 0 = suitWaiting := by decide +kernel
/-- The suit of `dense` with every stage done. -/
def allDone : State := match dense.suit 3 0 with
  | some x => dense.setSuit 3 0 { x with run := { x.run with sleeve := 2 } }
  | none => dense
theorem witness_suit_done : allDone.suitState 3 0 = suitRunning ∧
    (allDone.suit 3 0).any (fun x => x.drained && !x.bind 0 && !x.bind 1 && !x.post) = true ∧
    (after (.suitDone 3 0) allDone).suitState 3 0 = suitDone := by decide +kernel
theorem witness_suit_cancel : dense.regOn (Reg.suitCtrl 3) = true ∧ dense.suitLive 3 0 = true ∧
    (after (.suitCtrlCancel 3 0) dense).suitState 3 0 = suitCancelled := by decide +kernel



theorem witness_suit_instructions : ∀ fn : Fin 4, let w := fA 0x38 (if fn.val < 2 then 0 else 7) 4 (if fn.val = 0 then 5 else 0) fn
    (unitWord dense w).runs 3 1 (BitVec.ofNat 32 w) ∧ opOf (BitVec.ofNat 32 w) = 0x38 ∧ fnOf (BitVec.ofNat 32 w) = fn := by
  unfold State.runs; decide +kernel
theorem witness_suit_issue : (unitWord dense 0).storesWait 3 1 = false ∧ (unitWord dense 0).freeSuit 3 = some 1 ∧
    ((unitWord dense 0).setTask 3 1 Task.init).freeSuit 3 = some 1 ∧ (((unitWord dense 0).setTask 3 1 Task.init).task 3 1).suit = none ∧
    dense.suitTask 3 0 = 1 ∧ dense.suitLive 3 0 = true ∧ dense.suitLive 3 1 = false := by decide +kernel
theorem test_suit_instructions :
    (after (.sucan 3 1) (unitWord dense (fA 0x38 0 5 0 1))).suitState 3 0 = suitCancelled ∧
    (let u := after (.suwait 3 1) (unitWord dense (fA 0x38 7 5 0 2)); u.taskState 3 1 = taskWaiting) ∧
    (after (.suwait 3 1) (unitWord dense (fA 0x38 7 1 0 2))).creg 3 1 7 = 0 ∧
    (after (.sustat 3 1) (unitWord dense (fA 0x38 7 5 0 3))).creg 3 1 7 = dense.rd (Reg.suitStatus 3 0) ∧
    (after (.sucan 3 2) ((dense.wr (Reg.cuffTaskStatus 3 2) 0x20000005).wr (Reg.cuffImem 3 5) (BitVec.ofNat 32 (fA 0x38 0 5 0 1)))).taskState
      3 2 = taskAborted := by decide +kernel

/-! ## The Placket unit (spec 08) -/

/-- A descriptor: control word, source, destination, first count, and the destination stride; the source's is one element. -/
def descOf (ctrl src dst n ds : Nat) : List Byte :=
  leBytes 4 ctrl ++ leBytes 4 0 ++ leBytes 8 src ++ leBytes 8 dst ++ leBytes 8 0 ++ leBytes 4 n ++ leBytes 4 1 ++ leBytes 4 1 ++
  leBytes 4 1 ++ leBytes 4 1 ++ leBytes 20 1 ++ leBytes 20 ds ++ List.replicate 36 0

/-- Queue 2 of tile 3 belongs to task slot 1: DIRECT (mode 0), INBOUND (1) or OUTBOUND (2) with 4 slots of 128 B at 0x800; HEAD 3, TAIL 2
and `filled` slots filled. -/
def queue2 (mode filled w : Nat) : State := cuff w [(Reg.placketQCfg 3 2, mode * 0x10000 + 0x4407), (Reg.placketQBase 3 2, 0x800),
  (Reg.placketQStatus 3 2, filled * 0x1000000 + 0x320000), (Reg.cuffTaskReg 3 1 4, 2), (Reg.cuffTaskReg 3 1 5, 1), (Reg.cuffTaskReg 3 1 6, 0x80)]

theorem witness_queue_control : let s := queue2 1 3 0
    s.regOn (Reg.placketQCtrl 3 2) = true ∧ s.qSlots 3 2 = 4 ∧ s.qCancelling 3 2 = false ∧ (s.queue 3 2).cancelReq = false ∧
    s.qOwner 3 2 = 1 ∧ s.qMode 3 2 = 1 ∧ s.qFilled 3 2 = 3 ∧ s.taskOver 3 1 = false ∧
    (queue2 2 1 0).qMode 3 2 = 2 ∧ (queue2 2 1 0).qCredits 3 2 = 3 := by decide +kernel
theorem test_queue_release : let u := after (.placketQCtrlRelease 3 2 3 .bar0) (queue2 1 3 0)
    u.qHead 3 2 = 2 ∧ u.qFilled 3 2 = 0 ∧ u.qTail 3 2 = 2 := by decide +kernel
theorem test_queue_commit : let u := after (.placketQCtrlCommit 3 2 3 .bar0) (queue2 2 1 0)
    u.qTail 3 2 = 1 ∧ u.qFilled 3 2 = 4 ∧ u.qHead 3 2 = 3 := by decide +kernel
/-- Queue 2 owned by task slot 0, written by task 1. -/
theorem test_foreign_queue : (after (.placketQCtrlRelease 3 2 1 (.task 3 1))
    (cuff 0 [(Reg.placketQCfg 3 2, 0x10407), (Reg.placketQStatus 3 2, 0x3000000)])).taskState 3 1 = taskAborted := by decide +kernel

/-- Task (3, 1) issues a copy of 4 bytes from slot offset 0x10 to 0x20 to queue 2, and other words on queue 2. -/
def issue (w : Nat) : State := { queue2 0 0 w with
  pocket := mwrite (mwrite [] (pkey 3 0x1080) (descOf 0x2E00000 0x10 0x20 2 100)) (pkey 3 0x1010) [1, 2, 3, 4] }
/-- The word of function 0x10 + `n` on queue 2. -/
def queueWord (n : Nat) : Nat := fA 0x38 (if n < 4 then 0 else 7) (if n = 0 then 6 else 4) (if n = 3 ∨ n = 4 then 0 else if n = 0 then 4 else 5) (0x10 + n)
theorem witness_queue_instructions : ∀ fn : Fin 6, (issue (queueWord fn)).runs 3 1 (BitVec.ofNat 32 (queueWord fn)) ∧
    opOf (BitVec.ofNat 32 (queueWord fn)) = 0x38 ∧ fnOf (BitVec.ofNat 32 (queueWord fn)) = 0x10 + fn := by
  unfold State.runs; decide +kernel
theorem witness_qissue : let s := issue (queueWord 0)
    s.storesWait 3 1 = false ∧ 0x80 + 128 ≤ (s.rd (Reg.pocketSlotBound 3 1)).toNat ∧ (s.queue 3 2).fifo = [] ∧
    (s.count (Reg.cuffStatInstr 3) 1).descCheck 3 2 1 ⟨mread s.pocket (pkey 3 0x1080) 128, none, false, []⟩ = none := by decide +kernel
/-- The descriptor is in the FIFO; it runs; its first transfer is issued; its bytes are in the merge buffer. -/
def queued : State := after (.qissue 3 1) (issue (queueWord 0))
def running : State := after (.descriptorStart 3 2) queued
def moving : State := after (.transferIssue 3 2) running
def merged : State := after (.transferReadData 3 2 (.ok [])) moving
theorem test_qissue_full : (after (.qissue 3 1) ((issue (queueWord 0)).setQueue 3 2 { Queue.init with
    fifo := List.replicate 4 ⟨[], none, false, []⟩ })).fld (Reg.cuffTaskStatus 3 1) 25 4 = 2 := by decide +kernel
def onQueue (c : Instr) (m n w : Nat) : State := after c (queue2 m n (queueWord w))
theorem test_queue_instructions : (onQueue (.qrel 3 1) 1 3 1).qHead 3 2 = 0 ∧ (onQueue (.qrel 3 1) 1 0 1).taskState 3 1 = taskAborted ∧
    (onQueue (.qcommit 3 1) 2 1 2).qTail 3 2 = 3 ∧ (onQueue (.qcommit 3 1) 1 1 2).taskState 3 1 = taskAborted ∧
    ((onQueue (.qcancel 3 1) 0 0 3).queue 3 2).cancelReq = true ∧ (onQueue (.qcred 3 1) 2 1 4).pc 3 1 = 6 ∧
    (onQueue (.qwait 3 1) 1 1 5).pc 3 1 = 6 ∧ (onQueue (.qwait 3 1) 1 0 5).taskState 3 1 = taskWaiting := by decide +kernel

theorem witness_descriptor_start : (queued.queue 3 2).fifo.length = 1 ∧ (queued.queue 3 2).run = none ∧ queued.qCancelling 3 2 = false ∧
    (queued.queue 3 2).fifo.all (fun d => !d.fence && !queued.inPlace 3 2 d && !d.agp && d.total != 0) = true ∧
    queued.sbMode 3 = false ∧ queued.freeCtxOf 3 = some 0 := by decide +kernel
theorem witness_transfer_issue : (running.queue 3 2).run.any (fun r => !running.srcGlob 3 2 r.desc && !running.dstGlob 3 2 r.desc &&
    (transferPrefix r.desc.esize r.desc.dsize (running.nextMoves 3 2 r)).length == 1 && (running.queue 3 2).xfers.length < running.qLimit 3 2 &&
    !r.desc.agp && !r.desc.pair && (transferPrefix r.desc.esize r.desc.dsize (running.nextMoves 3 2 r)).all (fun v =>
      (running.slotPhys 3 1 v.src 2).isSome && (running.slotPhys 3 1 v.dst 2).isSome)) = true := by decide +kernel
theorem witness_read_data : ((moving.queue 3 2).xfers.find? (fun f => !f.read)).any (fun f => f.moves.length == 1 && f.slot == none) = true ∧
    (moving.queue 3 2).run.any (fun r => !r.staged && !r.desc.accum && !r.desc.spill && !r.ended && r.desc.suit == none) = true ∧
    (moving.queue 3 2).merge = none ∧ (moving.queue 3 2).writes = [] := by decide +kernel
theorem witness_write_landed : (merged.queue 3 2).merge.isSome = true ∧
    ((after (.mergeBufferFlush 3 2) merged).queue 3 2).writes.all (fun m => !m.glob && m.acc == none && m.span == (0x20, 0, [some 1, some 2])) = true ∧
    mread (after (.writeLanded 3 2 (.ok [])) (after (.mergeBufferFlush 3 2) merged)).pocket (pkey 3 0x1020) 2 = [1, 2] := by decide +kernel
theorem witness_local_open : (issue 0).pocketOpen 3 0x1010 2 ∧ (issue 0).pocketClean 3 0x1010 2 ∧ (issue 0).pocketClean 3 0x1080 128 := by
  unfold State.pocketOpen State.pocketClean; decide +kernel

/-- An answer to queue 2 of tile 3 (requester index 0x12), of a kind and AUX, under transaction 77. -/
def answer (kind aux : Nat) : Packet := ⟨kind, 1, false, 0, 1, 9, 0x12, 3, 0, 0, 77, 0, 0, 0, false, 0, 0, aux, 0, []⟩
/-- Queue 2 with a write sent under transaction 77 and one of the answers. -/
def sentWrite (kind aux : Nat) : State := { (queue2 0 0 0).setQueue 3 2 { Queue.init with
  writes := [⟨true, 0, 0, [some 1], none, 0, [], [], some 77, false, [], none⟩] } with answers := [answer kind aux] }
theorem witness_queue_cancel : let s := (queue2 0 0 0).setQueue 3 2 { Queue.init with cancelReq := true }
    (s.queue 3 2).cancelReq = true ∧ (after (.queueCancelAck 3 2) s).qCancelling 3 2 = true ∧
    ((after (.queueCancelAck 3 2) s).queue 3 2).xfers = [] ∧
    (after (.queueCancelDone 3 2) (after (.queueCancelAck 3 2) s)).qCancelling 3 2 = false := by decide +kernel
theorem witness_acknowledge : takeReply 3 2 0x12 (fun _ => true) (sentWrite 0x12 0).answers = some (answer 0x12 0, []) ∧
    ((sentWrite 0x12 0).queue 3 2).writes.all (fun w => w.sent == some 77 && !w.opening) = true ∧
    ((after (.remoteAcknowledge 3 2) (sentWrite 0x12 0)).queue 3 2).writes = [] := by decide +kernel
theorem witness_refusal : takeReply 3 2 0x13 (fun p => p.aux % 256 != 0x0D) (sentWrite 0x13 2).answers = some (answer 0x13 2, []) ∧
    (sentWrite 0x13 2).qCancelling 3 2 = false ∧ (sentWrite 0x13 2).taskOver 3 ((sentWrite 0x13 2).qOwner 3 2) = false ∧
    (after (.refusalAnswer 3 2) (sentWrite 0x13 2)).taskState 3 1 = taskAborted := by decide +kernel
/-- An admitted ACCUMULATE of one BF16 element 0.5 into a BF16 element 1.0 at offset 0x100. -/
def accumulated : State := { (cuff 0 []).setTile 3 { Tile.init with inbound := [({ answer 3 0x66000000 with
  addr := 0x30000000100, data := [some 0x00, some 0x3F] }, 4)] } with pocket := mwrite [] (pkey 3 0x100) [0x80, 0x3F] }
theorem witness_accumulate : (accumulated.tile 3).inbound.all (fun x => x.1.kind == 3 && x.1.data.length == tySize (accSrcTy x.1.aux) &&
    accDstTy x.1.aux == tyBF16 && x.1.off == 0x100) = true ∧
    mread (after (.remoteAccumulate 3) accumulated).pocket (pkey 3 0x100) 2 = [0xC0, 0x3F] := by decide +kernel
theorem witness_accumulate_open : accumulated.pocketOpen 3 0x100 2 ∧ accumulated.pocketClean 3 0x100 2 := by
  unfold State.pocketOpen State.pocketClean; decide +kernel

/-- A suit that posts to queue 2, with every stage done. -/
def posting : State :=
  let s := runs [.suit 3 1, .suitIssueChecks 3 0] ((suitSt 0xAD019000 0
    [(1, tens 1 0 0 0 3 [(0, 0)]), (2, tens 2 0 0 0 3 [(0, 0x10)]), (3, tens 3 9 0 0 3 [(0, 0x20), (1, 0x30)])]
    ((opBlock 3 3 3).take 0x40 ++ leBytes 4 0x100 ++ List.replicate 60 0) [(0x100, descOf 0x2E00000 0x10 0x20 2 100)]).wr
      (Reg.suitTplW3 3 0) 0x2400000 |>.wr (Reg.placketQCfg 3 2) 0x4407)
  match s.suit 3 0 with
  | some x => s.setSuit 3 0 { x with run := { x.run with sleeve := 2 } }
  | none => s
theorem witness_suit_posts : found ((posting.runningSuits 3).find? (fun p => p.2.post && !p.2.run.posted)) (fun i x => i == 0 && x.drained &&
    x.queuePost == 2 && posting.slotPhys 3 x.task x.postDesc 128 == some 0x1100 &&
    posting.descCheck 3 2 x.task ⟨mread posting.pocket (pkey 3 0x1100) 128, some 0, false, []⟩ == none) = true ∧
    ((after (.storePost 3) posting).queue 3 2).fifo.length = 1 := by decide +kernel

/-! ## Address-generating programs -/

/-- Context 1 of tile 3 serves queue 2 at the second word of its program, `w`: g1 = 7, g2 = 3; the words 0x2211, 0x4433 stand at
slot offset 0x40. -/
def agp (w : Nat) : State :=
  let d : Desc := ⟨descOf 0x40E00000 0 0 0 0, none, false, []⟩
  let s := (queue2 0 0 0).setQueue 3 2 { Queue.init with run := some ⟨d, 3, 0, some 1, [], false, false, []⟩ }
  let c : AgpCtx := ⟨2, [0, BitVec.ofNat 32 w, 0, 0xFC000000], [0, 7, 3, 0, 0, 0, 0, 0], 1, [none, none, none, none], [0x40, 0x40, 0, 0]⟩
  { s.setTile 3 { s.tile 3 with ctxs := [(1, c)] } with pocket := mwrite [] (pkey 3 0x1040) [0x11, 0x22, 0x33, 0x44] }
/-- Opcode, RD, RA, RB and IMM of an AGP instruction (R261). -/
def fG (op rd ra rb imm : Nat) : Nat := op * 0x4000000 + rd * 0x800000 + ra * 0x100000 + rb * 0x20000 + imm
def g3 (c : Instr) (w : Nat) : Option (Nat × Nat) := ((after c (agp w)).ctx 3 1).map (fun c => ((c.regs.getD 3 0).toNat, c.pc))
theorem witness_agp : ∀ op ∈ [1, 2, 3, 4, 5, 6, 7, 8, 9, 0x10, 0x11, 0x18, 0x20, 0x21, 0x22, 0x23, 0x24, 0x3F], let s := agp (fG op 3 1 0 2)
    (s.ctx 3 1).any (fun c => c.prog[c.pc]? == some (BitVec.ofNat 32 (fG op 3 1 0 2)) && c.queue < 16) = true ∧
    agpBad (BitVec.ofNat 32 (fG op 3 1 0 2)) = false ∧ agpOpc (BitVec.ofNat 32 (fG op 3 1 0 2)) = op ∧
    (s.queue 3 2).cancelReq = false ∧ s.taskOver 3 (s.qOwner 3 2) = false := by decide +kernel
theorem test_agp_arithmetic : g3 (.agpAdd 3 1) (fG 1 3 1 2 0) = some (10, 2) ∧ g3 (.agpSub 3 1) (fG 2 3 2 1 0) = some (0xFFFFFFFC, 2) ∧
    g3 (.agpAddi 3 1) (fG 3 3 1 0 0xFFFF) = some (6, 2) ∧ g3 (.agpMuli 3 1) (fG 4 3 1 0 0xFFFF) = some (0xFFFFFFF9, 2) ∧
    g3 (.agpShli 3 1) (fG 5 3 1 0 33) = some (14, 2) ∧ g3 (.agpShri 3 1) (fG 6 3 1 0 1) = some (3, 2) ∧
    g3 (.agpAndi 3 1) (fG 7 3 1 0 5) = some (5, 2) ∧ g3 (.agpLui 3 1) (fG 8 3 1 0 2) = some (0x20007, 2) ∧
    g3 (.agpPopc 3 1) (fG 9 3 1 0 0) = some (3, 2) ∧ g3 (.agpAdd 3 1) (fG 1 0 1 2 0) = some (0, 2) := by decide +kernel
theorem test_agp_branches : g3 (.agpBeq 3 1) (fG 0x20 0 1 1 2) = some (0, 3) ∧ g3 (.agpBne 3 1) (fG 0x21 0 1 1 2) = some (0, 2) ∧
    g3 (.agpBlt 3 1) (fG 0x22 0 2 1 0xFFFF) = some (0, 0) ∧ g3 (.agpBge 3 1) (fG 0x23 0 1 2 2) = some (0, 3) ∧
    g3 (.agpJmp 3 1) (fG 0x24 0 0 0 0xFFFF) = some (0, 0) ∧
    (after (.agpJmp 3 1) (agp (fG 0x24 0 0 0 3))).taskState 3 1 = taskAborted := by decide +kernel
theorem witness_agp_load : (agp 0).slotPhys 3 1 (0x40 + 2 * 0) 2 = some 0x1040 ∧ (0x1040 / 128 * 128 = 0x1000) := by decide +kernel
theorem witness_agp_line : (agp 0).pocketOpen 3 0x1000 128 ∧ (agp 0).pocketClean 3 0x1000 128 := by
  unfold State.pocketOpen State.pocketClean; decide +kernel
theorem test_agp_loads : g3 (.agpLd16 3 1) (fG 0x10 3 0 0 0) = some (0x2211, 2) ∧ g3 (.agpLdp 3 1) (fG 0x11 3 0 0 0) = some (0x22112211, 2) := by
  decide +kernel
theorem test_agp_emit : ((after (.agpEmit 3 1) (agp (fG 0x18 0 1 2 2))).queue 3 2).run.map (fun r => r.emitted) =
    some [⟨14, 6, 0⟩, ⟨16, 8, 0⟩] := by decide +kernel
theorem test_agp_end : ((after (.agpEnd 3 1) (agp (fG 0x3F 0 0 0 0))).queue 3 2).run = none ∧
    (after (.agpReservedOpcode 3 1) (agp 0)).taskState 3 1 = taskAborted := by decide +kernel

/-! ## Yokes and Shawl rings (spec 10) -/

/-- Tiles 3 and 5 are the members of assignment 2 of partition 0: 4 rows in quanta of one, two pieces a tile, steal within the panel;
W7 and W8 give the split. -/
def yoke (w w7 w8 : Nat) : State := (cuff w [(Reg.cuffTaskReg 3 1 4, 2), (Reg.yokeEnsCfg 0 0 0, 0x80000000),
  (Reg.yokeEnsMask 0 0 0 0, 0x28), (Reg.yokeAsgW 0 0 2 1, 0x1020000), (Reg.yokeAsgW 0 0 2 3, 4), (Reg.yokeAsgW 0 0 2 5, 256),
  (Reg.yokeAsgW 0 0 2 6, 2), (Reg.yokeAsgW 0 0 2 7, w7), (Reg.yokeAsgW 0 0 2 8, w8),
  (Reg.yokeAsgW 0 0 2 9, 1)]).setSlot 0 { Slot.init with tiles := 0x28, taskSlots := 4 }
/-- The words of YSTART, YTAKE and, on the piece in c9, YDONE and YRET. -/
def ystart : Nat := fA 0x38 0 4 0 0x20
def ytake : Nat := fA 0x38 8 4 0 0x21
def ydone : Nat := fA 0x38 0 9 0 0x22
def yret : Nat := fA 0x38 0 9 0 0x23
/-- The cut is being made; the pieces are in the lists; task (3, 1) holds piece 0. -/
def cutting : State := after (.ystart 3 1) (yoke ystart 0 0)
def cut (w : Nat) : State := unitWord (after (.yokeCutDone 0 2) cutting) w
def took (w : Nat) : State := unitWord ((after (.ytake 3 1) (cut ytake)).wr (Reg.cuffTaskReg 3 1 9) 0) w
theorem witness_yoke : ∀ w ∈ [ystart, ytake, ydone, yret], (yoke w 0 0).runs 3 1 (BitVec.ofNat 32 w) ∧ opOf (BitVec.ofNat 32 w) = 0x38 ∧
    (yoke w 0 0).partOf 3 = some 0 ∧ (yoke w 0 0).isMember 3 0 2 = true ∧ (yoke w 0 0).isMember 3 0 3 = false ∧
    (yoke w 0 0).inst 0 2 = none := by unfold State.runs; decide +kernel
theorem witness_yoke_take : ((cut ytake).inst 0 2).any (fun x => !x.computing && x.pick 3 == some 0 && (tfind x.pieces 0).isSome &&
    !x.holds 3 1) = true ∧ (cutting.inst 0 2).any (fun x => x.computing && !x.holds 3 1) = true ∧
    rdOf (BitVec.ofNat 32 ytake) = 8 := by decide +kernel
theorem witness_yoke_report : (took ydone).heldInst 0 3 1 0 = ((took ydone).inst 0 2).map (fun x => (2, x)) ∧
    ((took ydone).inst 0 2).any (fun x => (tfind x.pieces 0).any (fun p => !p.chain && p.state == .held 3 1)) = true := by decide +kernel
/-- R303: VALID, piece 0 of four, one row from row 0, columns 0 to 256. -/
theorem test_yoke_take : (List.range 5).map (fun i => ((took 0).creg 3 1 (8 + i)).toNat) = [0x80000000, 0, 1, 0, 256] ∧
    (after (.ytake 3 1) (unitWord cutting ytake)).taskState 3 1 = taskWaiting := by decide +kernel
theorem test_yoke_report : ((after (.ydone 3 1) (took ydone)).inst 0 2).any (fun x => x.openPieces == 3) = true ∧
    ((after (.yret 3 1) (took yret)).inst 0 2).any (fun x => x.openPieces == 4 && tget x.lists [] 3 == [0, 1]) = true := by decide +kernel
/-- R301: quantum 0 is split into two parts at column 128 (OVERHEAD 2, SPLIT_LIMIT 1, SPLIT_MAX 1, MAXPARTS 2, steps of 64). -/
theorem test_yoke_split : ((after (.yokeCutDone 0 2) (after (.ystart 3 1) (yoke ystart 1 0x6020001))).inst 0 2).any (fun x =>
    x.pieces.map (fun p => (p.2.rowFirst, p.2.kLo, p.2.kHi, p.2.chain)) == [(0, 0, 128, true), (0, 128, 256, true), (1, 0, 256, false),
      (2, 0, 256, false), (3, 0, 256, false)]) = true := by decide +kernel
/-- Task (3, 1) waits in a take while pieces are free. -/
def takeWaits : State :=
  let s := after (.ytake 3 1) (unitWord cutting ytake)
  after (.yokeCutDone 0 2) s
theorem witness_yoke_events : (cutting.inst 0 2).any (fun x => x.computing && x.lead == 0) = true ∧
    (match (cutting.setBit (Reg.yokeStatus 0) 31 false).workCounts 0 0 2 with
      | .ok cs => cs == [0, 0, 0, 0]
      | .error _ => false) = true ∧
    (takeWaits.inst 0 2).any (fun x => sortTakes x.waiting == [(3, 1)] && !x.computing && x.pick 3 == some 0) = true ∧
    takeWaits.taskState 3 1 = taskWaiting ∧ rdOf (takeWaits.fetch 3 1) = 8 := by decide +kernel
theorem test_yoke_served : (after (.yokeTakeServed 0 2) takeWaits).creg 3 1 10 = 1 ∧ (after (.yokeTakeServed 0 2) takeWaits).pc 3 1 = 6 := by
  decide +kernel

/-- Tiles 3 and 5 form a Shawl ring of two with segments of 128 B: resident area at 0x100, landing slot at 0x80; the task (3, 1) owns it. -/
def shawl (w f c4 : Nat) : State := (cuff w [(Reg.cuffTaskReg 3 1 4, c4), (Reg.shawlTileW 0 3 0, 0x1000003),
  (Reg.shawlTileW 0 3 1, 0x5050100 + f), (Reg.shawlTileW 0 3 2, 32768), (Reg.shawlTileW 0 3 4, 0x100), (Reg.shawlTileW 0 3 5, 0x80),
  (Reg.shawlTileW 0 5 0, 0x1010005), (Reg.shawlTileW 0 5 1, 0x3030100 + f), (Reg.shawlTileW 0 5 2, 32768),
  (Reg.shawlTileW 0 5 4, 0x100), (Reg.shawlTileW 0 5 5, 0x80), (Reg.pocketSlotBase 5 1, 0x1000),
  (Reg.pocketSlotBound 5 1, 0x10000), (Reg.pocketSlotBound 3 1, 0x10000)]).setSlot 0 { Slot.init with tiles := 0x28, taskSlots := 4 }
def shbeg : Nat := fA 0x38 0 0 0 0x30
def shrel : Nat := fA 0x38 0 4 0 0x31
def shqry : Nat := fA 0x38 7 0 0 0x32
def shwait : Nat := fA 0x38 0 4 0 0x33
/-- The revolution has begun, with c4 = `c4` and the word `w` to come. -/
def turning (w c4 : Nat) : State := unitWord (after (.shbeg 3 1) (shawl shbeg 0 c4)) w
theorem witness_shawl : ∀ w ∈ [shbeg, shrel, shqry, shwait], (shawl w 0 0).runs 3 1 (BitVec.ofNat 32 w) ∧ opOf (BitVec.ofNat 32 w) = 0x38 ∧
    (shawl w 0 0).shawlSlot 3 = some 1 ∧ (shawl w 0 0).shawlActive 3 = false ∧ (shawl w 0 0).shF 3 = 0 ∧
    (cuff w []).shawlSlot 3 = none := by unfold State.runs; decide +kernel
theorem witness_shrel : ∀ j ∈ [0, 255], ((turning shrel j).setFld (Reg.shawlProgress 0 3) 9 9 j).shawlActive 3 = true ∧
    ((turning shrel j).shawl 3).ended = false ∧ ((turning shrel j).setFld (Reg.shawlProgress 0 3) 9 9 j).fld (Reg.shawlProgress 0 3) 9 9 = j ∧
    (turning shrel j).shNseg 3 = 256 ∧ (turning shrel j).shRlen 3 = 2 ∧ (turning shrel j).shTurn 3 = 0 := by decide +kernel
theorem test_shawl : (turning 0 0).rd (Reg.shawlStatus 0 3) = 0x80020000 ∧
    ((after (.shrel 3 1) (turning shrel 0)).shawl 3).sends = [(0, 0)] ∧
    (after (.shrel 3 1) (turning shrel 1)).taskState 3 1 = taskAborted ∧
    (after (.shqry 3 1) (turning shqry 0)).creg 3 1 7 = 0x80020000 ∧ (after (.shwait 3 1) (turning shwait 255)).pc 3 1 = 6 ∧
    (after (.shwait 3 1) (turning shwait 256)).fld (Reg.cuffTaskStatus 3 1) 25 4 = 6 := by decide +kernel
/-- Spilled segments: the queue 0 that loads them is an INBOUND ring of the task. -/
theorem witness_shawl_spill : let s := (shawl shbeg 128 0).wr (Reg.placketQCfg 3 0) 0x14407
    s.shF 3 = 128 ∧ s.qMode 3 (s.shQueue 3) = 1 ∧ s.qOwner 3 (s.shQueue 3) = 1 := by decide +kernel
/-- Segment 0 is released, and tile 5's landing slot is free. -/
def sending : State :=
  let s := after (.shrel 3 1) (turning shrel 0)
  { s.setTile 5 { s.tile 5 with shawl := { Shawl.init with free := [256] } } with pocket := mwrite [] (pkey 3 0x1100) [7, 8] }
theorem witness_shawl_send : (sending.shawl 3).sends = [(0, 0)] ∧ sending.shSucc 3 = 5 ∧ (sending.shawl 5).free.contains 256 = true ∧
    sending.creditFree 5 = some 0 ∧ sending.shSlotOff 3 0 = 0x1100 ∧ sending.shG 3 = 128 ∧
    ((after (.shawlSend 3) sending).shawl 5).arriving.map (fun g => (g.slot, g.data.take 2)) = [(256, [7, 8])] ∧
    mread (after (.shawlSegmentArrive 5) (after (.shawlSend 3) sending)).pocket (pkey 5 0x1080) 2 = [7, 8] := by decide +kernel
theorem witness_shawl_open : sending.pocketOpen 3 0x1100 128 ∧ sending.pocketClean 3 0x1100 128 ∧ sending.pocketOpen 5 0x1080 128 ∧
    sending.pocketClean 5 0x1080 128 := by unfold State.pocketOpen State.pocketClean; decide +kernel

/-! ## Windows, credits, locks and arbitration (spec 12) -/

/-- Window 4 of tile 3 admits writes of partitions 0 and 2 to [0x1000, 0x2000): state `st`, `n` accesses admitted, epoch 7. -/
def win (st n : Nat) (p : Packet) : State := { cuff 0 [(Reg.winBase 3 4, 0x1000), (Reg.winBound 3 4, 0x2000), (Reg.winCfg 3 4, 0x205),
  (Reg.winStatus 3 4, st * 0x40000000 + n * 0x10000 + 7)] with net := [p] }
/-- A write of 4 bytes of partition 2 at offset `off` of tile 3's Pocket, tagged for window 4 under an epoch or opening. -/
def access (off : Nat) (tagged : Bool) (epoch : Nat) : Packet :=
  ⟨2, 1, false, 0, 1, 9, 0x12, 3, 0, 0, 77, 0x30000000000 + off, 0, 4, tagged, 4, epoch, 0, 2, [some 1, some 2, some 3, some 4]⟩

theorem witness_window : (win 0 0 (access 0 false 0)).regOn (Reg.winCtrl 3 4) = true ∧ (win 0 0 (access 0 false 0)).winState 3 4 = 0 ∧
    (win 1 0 (access 0 false 0)).winState 3 4 = 1 ∧ (win 2 1 (access 0 false 0)).winState 3 4 = 2 ∧
    (let s := win 0 0 (access 0 false 0); s.winLo 3 4 < s.winHi 3 4 ∧ s.winHi 3 4 ≤ 0x400000 ∧ s.winMode 3 4 ≠ 0 ∧ s.winMask 3 4 ≠ 0) ∧
    ¬ ((cuff 0 []).winLo 3 4 < (cuff 0 []).winHi 3 4) := by decide +kernel
theorem test_window : (after (.winCtrlOpen 3 4 .bar0) (win 0 0 (access 0 false 0))).rd (Reg.winStatus 3 4) = 0x40000007 ∧
    (after (.winCtrlClose 3 4) (win 1 1 (access 0 false 0))).rd (Reg.winStatus 3 4) = 0x80010008 ∧
    (after (.winCtrlClose 3 4) (win 1 0 (access 0 false 0))).rd (Reg.winStatus 3 4) = 8 ∧
    (after (.winCtrlOpen 3 4 (.task 3 1)) (cuff 0 [])).taskState 3 1 = taskAborted := by decide +kernel
theorem witness_remote : ∀ tg : Bool, takeFor 3 (win 1 0 (access 0x1FFC tg 7)).net = some (access 0x1FFC tg 7, []) ∧
    (win 1 0 (access 0x1FFC tg 7)).winCovers 3 4 (access 0x1FFC tg 7) = true ∧
    (win 1 0 (access 0x1FFE tg 7)).winCovers 3 4 (access 0x1FFE tg 7) = false ∧
    (win 1 0 (access 0x1FFC tg 7)).fld (Reg.winStatus 3 4) 16 8 < 255 := by decide +kernel
theorem witness_remote_fits : (win 1 0 (access 0x1FFC false 7)).winFits 3 4 (access 0x1FFC false 7) ∧
    (∀ v, v < 4 → ¬ (win 1 0 (access 0x1FFC false 7)).winFits 3 v (access 0x1FFC false 7)) ∧
    (∀ v, v < 16 → ¬ (win 1 0 (access 0x2000 false 7)).winFits 3 v (access 0x2000 false 7)) := by unfold State.winFits; decide +kernel
theorem witness_remote_open : (win 1 0 (access 0x1FFC false 7)).rangesOpen 3 (access 0x1FFC false 7) := by
  unfold State.rangesOpen State.pocketOpen; decide +kernel
/-- The code that a refused access is answered with; 0 where it was admitted. -/
def code367 (c : Instr) (p : Packet) : Nat × Nat :=
  ((((after c (win 1 0 p)).answers ++ (after c (win 1 0 p)).fabOut).map (fun a => a.aux % 256)).headD 0, ((after c (win 1 0 p)).tile 3).inbound.length)
theorem test_remote : code367 (.openingAccess 3 .none) (access 0x1FFC false 0) = (0, 1) ∧
    code367 (.openingAccess 3 .none) (access 0x1FFE false 0) = (0x10, 0) ∧ code367 (.openingAccess 3 .none) (access 0x2000 false 0) = (4, 0) ∧
    code367 (.openingAccess 3 .uncorrectable) (access 0x1000 false 0) = (2, 0) ∧ code367 (.taggedAccess 3 .none) (access 0x1000 true 7) = (0, 1) ∧
    code367 (.taggedAccess 3 .none) (access 0x1000 true 8) = (0x0F, 0) ∧ code367 (.taggedAccess 3 .none) (access 0x2000 true 7) = (0x10, 0) := by
  decide +kernel

/-- The originator of the loader's writes, and a tile that grants it [0x100, 0x200). -/
def loaderO : Origin := ⟨0, 0, 0x40, 0⟩
def granted : State := after (.creditGrantRequest 3 loaderO 0x100 0x100) (cuff 0 [])
theorem witness_credit : (cuff 0 []).creditScope 3 loaderO 0x100 0x100 = true ∧ (cuff 0 []).creditScope 3 loaderO 0x100 0x40001 = false ∧
    (cuff 0 []).creditFree 3 = some 0 ∧ (cuff 0 []).creditSlotFree 3 loaderO 0x100 = true ∧ ((cuff 0 []).tile 3).creditWait = [] ∧
    granted.creditHeld 3 loaderO 0x1FC 4 = true ∧ granted.creditHeld 3 loaderO 0x1FD 4 = false ∧
    ((granted.tile 3).grants.find? (fun p => p.2.src == loaderO && !p.2.ended)).isSome = true := by decide +kernel
theorem witness_credit_open : granted.pocketOpen 3 0x1FC 4 ∧ granted.pocketClean 3 0x1FC 4 := by
  unfold State.pocketOpen State.pocketClean; decide +kernel
/-- All eight entries are taken, and a request waits. -/
def creditsFull : State := runs (List.replicate 9 (.creditGrantRequest 3 loaderO 0x100 0x100)) (cuff 0 [])
theorem witness_credit_wait : creditsFull.creditFree 3 = none ∧ (creditsFull.tile 3).creditWait.length = 1 ∧
    (let s := runs [.creditEndMark 3 loaderO, .creditEntryFree 3 0] creditsFull
     (tfind (s.tile 3).grants 0).isSome = true ∨ s.creditFree 3 = some 0) := by decide +kernel
theorem test_credit : mread (after (.creditedWrite 3 loaderO 0x1FC [some 1, none, none, some 4]) granted).pocket (pkey 3 0x1FC) 4 = [1, 0, 0, 4] ∧
    (after (.creditedWrite 3 loaderO 0x1FD [some 1, none, none, some 4]) granted).rd (Reg.creditStatRefused 3) = 1 ∧
    (tfind ((after (.creditEndMark 3 loaderO) granted).tile 3).grants 0).any (fun g => g.ended) = true ∧
    (tfind ((after (.creditEntryFree 3 0) (after (.creditEndMark 3 loaderO) granted)).tile 3).grants 0).isNone = true := by decide +kernel

/-- Lock 5 belongs to partition 0, of which tile 3 is a tile; task (3, 1) is at LKACQ or LKREL of lock 5 (RD is c7). -/
def lock (fn state : Nat) : State := (cuff (fA 0x38 (if fn = 0x40 then 7 else 0) 4 0 fn) [(Reg.cuffTaskReg 3 1 4, 5), (Reg.cuffTaskReg 3 1 7, 9),
  (Reg.lockCfg 0 5, 0x80000000), (Reg.lockLease 0 5, 100), (lockReg 5, state)]).setSlot 0 { Slot.init with tiles := 8, taskSlots := 4 }
theorem witness_lock : ∀ fn ∈ [0x40, 0x41], let w := fA 0x38 (if fn = 0x40 then 7 else 0) 4 0 fn
    (lock fn 0).runs 3 1 (BitVec.ofNat 32 w) ∧ opOf (BitVec.ofNat 32 w) = 0x38 ∧ fnOf (BitVec.ofNat 32 w) = fn ∧
    (lock fn 0).bit (Reg.lockCfg 0 5) 31 = true ∧ (lock fn 0).partOf 3 = some 0 ∧ (lock fn 0).lockStateOf 5 = 0 ∧
    (lock fn 0x80000000).lockStateOf 5 = 2 ∧ (lock fn 0x40000040).lockStateOf 5 = 1 ∧ (lock fn 0).waiters 5 = [] := by
  unfold State.runs; decide +kernel
theorem witness_lock_held : (lock 0x41 0x4000000D).heldBy 5 (.task 3 1) ∧ ¬ (lock 0x40 0x40000040).heldBy 5 (.task 3 1) ∧
    (lock 0x41 0x40010002).heldBy 5 (.collar 2) := by unfold State.heldBy; decide +kernel
theorem test_lock : let f (c : Instr) (fn st : Nat) : State := after c (lock fn st)
    ((f (.lkacq (.task 3 1)) 0x40 0).rd (lockReg 5) = 0x4000000D ∧ (f (.lkacq (.task 3 1)) 0x40 0).creg 3 1 7 = 0) ∧
    (f (.lkacq (.task 3 1)) 0x40 0x80000000).creg 3 1 7 = 1 ∧
    (f (.lkacq (.task 3 1)) 0x40 0x40000040).fld (Reg.cuffTaskStatus 3 1) 25 4 = 7 ∧
    (f (.lkacq (.task 3 1)) 0x40 0x4000000D).taskState 3 1 = taskAborted ∧
    (f (.lkrel (.task 3 1)) 0x41 0x4000000D).lockStateOf 5 = 0 ∧ (f (.lkrel (.task 3 1)) 0x41 0x40000040).taskState 3 1 = taskAborted ∧
    (f (.lockLeaseExpire 5) 0 0x4000000D).lockStateOf 5 = 2 := by decide +kernel
/-- The lock is free and task (3, 1) waits for it. -/
def lockFreed : State := (after (.lkacq (.task 3 1)) (lock 0x40 0x40010002)).setFld (lockReg 5) 30 2 0
theorem witness_lock_grant : lockFreed.waiters 5 = [.task 3 1] ∧ lockFreed.lockStateOf 5 = 0 ∧ lockFreed.taskState 3 1 = taskWaiting ∧
    (after (.lockGrant 5) lockFreed).rd (lockReg 5) = 0x4000000D ∧ (after (.lockGrant 5) lockFreed).pc 3 1 = 6 ∧
    (lock 0 0).rd (Reg.lockLease 0 5) ≠ 0xFFFFFFFF ∧ (lock 0 0).regOn (Reg.lockCtrl 0) = true := by decide +kernel

/-- Queues 0 and 1 of tile 3 ask at WP1; queue 0 was granted last in their class, and queue 1 has waited 15 rounds. -/
def arb1 (th : Nat) : State := { (cuff 0 [(Reg.arbThreshWp 3, th * 0x10000)]) with
  arbs := tset [] (siteKey (.port 3 1)) { Arb.init with last := [(1, 0x310)], waits := [(0x311, 15)] } }
def asks : List ArbReq := [⟨0, 0, 3, 0x10, none⟩, ⟨0, 0, 3, 0x11, none⟩]
theorem witness_arbiter : (arb1 0).arbWinner (.port 3 1) asks = some (1, 0x311) ∧ (arb1 0).arbThreshold (.port 3 1) = 0 := by decide +kernel
/-- Queue 1 was granted last, so queue 0 wins and queue 1 reaches the threshold of 16. -/
def arb2 : State := { (cuff 0 [(Reg.arbThreshWp 3, 0x100000)]) with
  arbs := tset [] (siteKey (.port 3 1)) { Arb.init with last := [(1, 0x311)], waits := [(0x311, 15)] } }
theorem witness_starvation : arb2.arbWinner (.port 3 1) asks = some (1, 0x310) ∧ arb2.arbThreshold (.port 3 1) = 16 ∧
    tget (arb2.arb (.port 3 1)).waits 0 0x311 = 15 ∧ (arb2.arb (.port 3 1)).raised = [] ∧
    (after (.arbitrationRound (.port 3 1) asks 0) arb2).rd (Reg.arbStarveCount 3) = 1 := by decide +kernel

/-! ## The fabric (spec 13) -/

/-- Port 2 in state `st`; the module's ID 5 has been written; levels 7 and 9. -/
def port (st : Nat) (x : FabPort) : State := (st' st).setFab 2 x
where st' (st : Nat) : State := cuff 0 [(Reg.fabPortStatus 2, st * 0x20000000), (Reg.fabModuleId, 0x80000005), (Reg.structLevelsLink, 0x70009)]

def peer9 : FabPort := { FabPort.init with peer := some (9, 8, 9) }
theorem witness_port_states : (port 0 FabPort.init).domainOn (portDomain 2) = true ∧ (∀ st, st < 6 → (port st FabPort.init).portState 2 = st) ∧
    (port 1 FabPort.init).bit Reg.fabModuleId 31 = true ∧ ((port 1 FabPort.init).wr Reg.fabModuleId 0).bit Reg.fabModuleId 31 = false ∧
    (port 2 peer9).fld Reg.structLevelsLink 16 16 = 7 ∧ (∀ q, q < 8 → ((port 2 peer9).slot q).restart ≠ 4) ∧ (port 2 peer9).ownId = 5 ∧
    (port 2 peer9).partner = 4 ∧ (port 3 peer9).recent 2 0 = 0 ∧
    (port 3 { peer9 with retrains := [1, 2, 3] }).recent 2 1000000 = 3 := by decide +kernel
/-- State and cause of port 2 after a command. -/
def portAfter (c : Instr) (st : Nat) (x : FabPort) : Nat × Nat :=
  ((after c (port st x)).portState 2, (after c (port st x)).fld (Reg.fabPortStatus 2) 26 3)
theorem test_ports : portAfter (.fabPortEnable 2 true) 0 peer9 = (1, 0) ∧ portAfter (.fabPortEnable 2 false) 3 peer9 = (0, 0) ∧
    portAfter (.linkTrainingStart 2) 1 peer9 = (2, 0) ∧ portAfter (.linkTrainingDone 2) 2 peer9 = (3, 0) ∧
    portAfter (.linkTrainingDone 2) 2 { peer9 with peer := some (9, 9, 9) } = (5, 1) ∧
    portAfter (.linkTrainingDone 2) 2 { peer9 with peer := some (5, 7, 9) } = (5, 2) ∧
    portAfter (.laneLockTimeout 2 3) 2 peer9 = (5, 4) ∧ portAfter (.fabPortRetrain 2 5) 3 peer9 = (4, 0) ∧
    portAfter (.fabPortRetrain 2 1000000) 3 { peer9 with retrains := [1, 2, 3] } = (5, 5) := by decide +kernel
theorem test_ports2 : portAfter (.laneLockLoss 2 7 5) 3 peer9 = (4, 0) ∧ portAfter (.retrainDone 2) 4 peer9 = (3, 0) ∧
    portAfter (.retrainTimeout 2) 4 peer9 = (5, 5) ∧ portAfter (.peerOrderlyClose 2) 3 peer9 = (1, 0) ∧
    (after (.flitTrain 2 9 8 9) (port 2 FabPort.init)).rd (Reg.fabPortPeer 2) = 0x80009 := by decide +kernel
/-- A mirror port: the partner's level must be this module's. -/
theorem witness_mirror_port : let s (m : Nat) := (cuff 0 [(Reg.fabPortStatus 16, 0x40000000), (Reg.fabModuleId, 0x80000005),
      (Reg.structLevelsLink, 0x70009)]).setFab 16 { FabPort.init with peer := some (4, 7, m) }
    (after (.linkTrainingDone 16) (s 9)).portState 16 = 3 ∧ (after (.linkTrainingDone 16) (s 8)).fld (Reg.fabPortStatus 16) 26 3 = 3 := by
  decide +kernel

/-- A flit of SEQ, ACK, whether it is bad, and one READ packet. -/
def flit (seq ack : Nat) (b : Bool) (pk : List Packet) : Flit := ⟨seq, ack, [1, 0, 0, 0, 0, 0], 1, b, pk⟩
def sent3 : FabPort := { peer9 with unacked := [(10, none), (11, none), (12, none)], credits := [256, 5, 5, 5, 5, 5] }
theorem witness_flits : (port 3 sent3).portState 2 = 3 ∧ ((port 3 sent3).fab 2).recvSeq = 0 ∧ knownPacket (access 0 false 0) = true ∧
    ((port 3 sent3).fab 2).tx = [] ∧ ((port 3 sent3).fab 2).unacked.findIdx? (fun g => g.1 == 11) = some 1 ∧
    ((port 3 sent3).fab 2).unacked.findIdx? (fun g => g.1 == (10 + 4095) % 4096) = none ∧ ((port 3 sent3).fab 2).replays < 7 ∧
    (port 3 { sent3 with replays := 7 }).recent 2 9 = 0 := by decide +kernel
theorem test_flits : ((after (.flitData 2 (flit 0 11 false [access 0 false 0])) (port 3 sent3)).fab 2).recvSeq = 1 ∧
    ((after (.flitData 2 (flit 1 11 false [access 0 false 0])) (port 3 sent3)).fab 2).nakSent = true ∧
    ((after (.flitIdle 2 (flit 0 11 false [])) (port 3 sent3)).fab 2).unacked = [(12, none)] ∧
    ((after (.flitIdle 2 (flit 0 11 false [])) (port 3 sent3)).fab 2).credits = [256, 5, 5, 5, 5, 5] ∧
    ((after (.flitNak 2 (flit 10 9 false []) 9) (port 3 sent3)).rd (Reg.fabPortStatReplay 2) = 3) ∧
    (after (.flitNak 2 (flit 10 9 false []) 9) (port 3 { sent3 with replays := 7 })).portState 2 = 4 := by decide +kernel
/-- R407: the first write sets the ID; a later one is ignored and sets WRITE_IGNORED. -/
theorem test_module_id : (after (.fabModuleIdWrite 7) State.reset).rd Reg.fabModuleId = 0x80000007 ∧
    (after (.fabModuleIdWrite 7) (port 3 sent3)).rd Reg.fabModuleId = 0xC0000005 := by decide +kernel

/-- A packet of `kind`, AUX and JOB_TAG from module 0 stands at port 2; the module is 5 of a job of modules 0-7 in partition 3, RUNNING,
whose tag is 0x4D; request 77 and page 78 of the job are unanswered, and request 79 has timed out. -/
def arrives (kind aux tag txn : Nat) : State :=
  let s := port 3 { peer9 with inbox := [{ access 0x1000 false 0 with kind := kind, aux := aux, dstModule := 5, srcModule := 0, jobTag := tag, txn := txn }] }
  let s := (s.wr (Reg.fabJobtag 3) 0x8000004D).wr (Reg.fabJobmap 3 0) 0xFF
  { s.setSlot 3 { Slot.init with state := .running, pagesOut := [78] } with fabWait := [⟨77, 3, 3, 0x12, 2, 0⟩], fabLate := [79] }
theorem witness_comes : (∀ k ∈ [1, 2, 3, 0x11, 0x12, 0x13], (takeHead (fun p => p.kind == k) [] ((arrives k 0 0x4D 77).pktsAt (.port 2))).isSome = true ∧
      (arrives k 0 0x4D 77).isMe 5 = true) ∧
    ((arrives 2 0 0x4D 77).pktsAt (.port 2)).all (fun p => (arrives 2 0 0x4D 77).jobPart p == some 3 && gaSpace p.addr == 0) = true ∧
    ((arrives 2 0 0x4E 77).pktsAt (.port 2)).all (fun p => (arrives 2 0 0x4E 77).jobPart p == none) = true ∧
    (arrives 2 0 0x4D 77).pageOwner 77 = none ∧ (arrives 2 0 0x4D 77).pageOwner 78 = some 3 ∧
    (∀ q, q < 8 → ((arrives 2 0 0x4D 77).slot q).restart ≠ 5) ∧ ((arrives 2 0 0x4D 77).fabWait.find? (fun r => r.txn == 79)) = none := by
  decide +kernel
theorem test_requests_arrive : (∀ c ∈ [(Instr.read (.port 2), 1), (.write (.port 2), 2), (.accumulate (.port 2), 3)],
      (after c.1 (arrives c.2 0 0x4D 77)).net.map (·.part) = [3]) ∧
    (after (.write (.port 2)) (arrives 2 0 0x4E 77)).net = [] ∧
    ((after (.write (.port 2)) (arrives 2 0 0x4E 77)).fabOut.map (fun a => (a.kind, a.aux)) = [(0x13, 4)]) := by decide +kernel
theorem test_answers_arrive : (after (.readData (.port 2)) (arrives 0x11 0 0x4D 77)).fabWait = [] ∧
    (after (.refuse (.port 2)) (arrives 0x13 2 0x4D 77)).answers.length = 1 ∧
    (after (.refuse (.port 2)) (arrives 0x13 0x0D 0x4D 77)).stops.map (fun x => (x.part, x.code)) = [(3, 0x0D)] ∧
    (after (.ack (.port 2)) (arrives 0x12 0 0x4D 79)).rd Reg.fabStatLate = 1 ∧
    ((after (.ack (.port 2)) (arrives 0x12 0 0x4D 78)).slot 3).pagesOut = [] ∧
    (after (.requestTimeout 77) (arrives 0x12 0 0x4D 79)).fabLate = [79, 77] := by decide +kernel
theorem witness_no_route : let s := (arrives 0x11 0 0x4D 77).wr Reg.fabModuleId 0x80000006
    s.isMe 5 = false ∧ (s.pktsAt (.port 2)).all (fun p => s.routeOf p == none) = true ∧
    (after (.readData (.port 2)) s).rd Reg.fabStatNoroute = 1 := by decide +kernel

/-! ## Barriers, epochs and restarts (spec 13, 14) -/

/-- Partition 3 of module `me` holds tile 3; its job runs on the modules of `map` (of 0-31) under tag 0x4D. Task (3, 1) waits at BARS (`step`) or
BAR at PC 5. -/
def job (me map : Nat) (step : Bool) (x : Slot) : State :=
  let s := cuff 0 [(Reg.fabModuleId, 0x80000000 + me), (Reg.fabJobtag 3, 0x8000004D), (Reg.fabJobmap 3 0, map),
    (Reg.cuffTaskStatus 3 1, 0x50000005), (Reg.cuffTaskEntry 3 0, 0x80000077), (Reg.cuffTaskArg 3 0, 42), (Reg.mirrorStatus 3, 0x10000000)]
  (s.setTask 3 1 { Task.init with arrived := true, bars := step }).setSlot 3 { x with tiles := 8, taskSlots := 4 }
def going : Slot := { Slot.init with state := .running, step := 8, barriers := 20, epoch := 6 }
/-- A packet at port 2, or at mirror port 16. -/
def with' (s : State) (at' : Nat) (p : Packet) : State := s.setFab at' { FabPort.init with inbox := [p] }
def ctrl (kind src addr aux : Nat) : Packet :=
  ⟨kind, 0, false, 5, src, 0, 0x50, 0, 0, 0x4D, 0, addr, 0, 0, false, 0, 0, aux, 0, []⟩

theorem witness_barrier : (job 5 0xFF true going).cmds = [] ∧ ((job 5 0xFF true going).slot 3).going = true ∧
    (job 5 0xFF true going).quiet 3 = true ∧ (job 5 0xFF true going).epochPoint 3 = false ∧ (job 5 0xFF true going).barKids 3 = [] ∧
    (job 5 0xFF true going).barParent 3 = some 0 ∧ (job 5 0xFF true going).atStep 3 = true ∧ (job 5 0xFF false going).atStep 3 = false ∧
    (job 0 3 false going).barKids 3 = [1] ∧ (job 0 3 false going).barParent 3 = none ∧
    (job 5 0xFF true { going with atStart := true }).epochPoint 3 = true := by decide +kernel
theorem witness_barrier_free : (job 5 0xFF true going).nothingHolds 3 ∧ (job 5 0xFF true going).pcsInside 3 := by
  unfold State.nothingHolds State.pcsInside; decide +kernel
/-- R344: the release of a step boundary raises STEP; the tasks go on with the next word. -/
theorem test_release : ((after (.layerBarrierRelease 3) (job 5 0xFF true { going with released := some 1, arrivedUp := true })).slot 3).step = 9 ∧
    (after (.layerBarrierRelease 3) (job 5 0xFF true { going with released := some 1, arrivedUp := true })).pc 3 1 = 6 ∧
    ((after (.layerBarrierRelease 3) (job 5 0xFF false { going with released := some 1, arrivedUp := true })).slot 3).step = 8 ∧
    (after (.layerBarrierRelease 3) (job 5 0xFF false { going with released := some 2, atStart := true })).pc 3 0 = 0x77 := by decide +kernel
theorem witness_barrier_packets : (takeHead (fun p => p.kind == 0x21) [] ((with' (job 0 3 false going) 2 { ctrl 0x21 1 9 0 with dstModule := 0 }).pktsAt (.port 2))).isSome = true ∧
    ((with' (job 0 3 false going) 2 { ctrl 0x21 1 9 0 with dstModule := 0 }).pktsAt (.port 2)).all (fun p => (job 0 3 false going).jobPart p == some 3) = true ∧
    (job 5 0xFF true going).isMe 5 = true ∧ (job 0 3 false going).isMe 0 = true := by decide +kernel
/-- A child's STEP 9 against the module's 8 stops the job; a release is passed on. -/
theorem test_barrier_packets : (after (.barrierArrive (.port 2)) (with' (job 0 3 false going) 2 { ctrl 0x21 1 9 0 with dstModule := 0 })).stops.map
      (fun x => (x.part, x.code, x.sub)) = [(3, 0x0D, 4)] ∧
    ((after (.barrierRelease (.port 2)) (with' (job 5 0xFF false { going with arrivedUp := true }) 2 (ctrl 0x22 0 0 0))).slot 3).barriers = 21 := by
  decide +kernel

/-- The first step boundary after a resume is an epoch boundary: its phases. -/
def epochAt (phase : Nat) : State := job 5 0xFF true { going with epochNext := true, phase := phase, gotLanded := true, answered := some 7 }
theorem witness_epoch : ∀ ph, ph < 3 → (epochAt ph).epochPoint 3 = true ∧ (epochAt ph).quiet 3 = true ∧ (epochAt ph).commitHolds 3 = false ∧
    (epochAt ph).svcHolds 3 = false ∧ (epochAt ph).nextEpoch 3 = 7 ∧ ((epochAt ph).slot 3).phase = ph ∧
    (epochAt ph).regs = (job 5 0xFF true going).regs := by decide +kernel
theorem test_epoch : ((after (.epochBoundary 3) (epochAt 0)).slot 3).phase = 1 ∧
    ((after (.epochBoundary 3) (epochAt 1)).slot 3).preStep = 9 := by decide +kernel
/-- The mirror set is HBM page 2 (region 0 of partition 3); the undo area lies at 16 MiB, and a mirror area follows it. -/
def undoState (used : Bool) : State :=
  let s := job 5 0xFF true { going with mset := [(0x4000000000020000, 1)] }
  let s := ((s.wr64 (Reg.mirrorUndoBase 3) 0x1000000).wr64 (Reg.mirrorUndoBytes 3) 0x10000)
  { s with hbm := [(0x20005, 9)], undo := if used then [⟨3, 9, 6, []⟩] else [] }
theorem witness_before_image : (undoState false).cmds = [] ∧ (undoState false).mirrorPart 2 = some 3 ∧ (undoState false).hasImage 2 = false ∧
    (undoState false).undoUsed 3 < ((undoState false).undoArea 3).2 / 0x10000 ∧ (undoState true).mirrorPart 2 = some 3 ∧
    (undoState true).hasImage 2 = false ∧ ((undoState true).undoArea 3).2 / 0x10000 ≤ (undoState true).undoUsed 3 ∧
    ((undoState true).slot 3).state = .running := by decide +kernel
theorem test_before_image : (after (.beforeImageCopy 2) (undoState false)).undo = [⟨3, 2, 6, [(5, 9)]⟩] ∧
    (after (.beforeImageCopy 2) (undoState true)).stops.map (fun x => (x.code, x.sub)) = [(0x18, 2)] := by decide +kernel

/-- A packet of the partner (module 4) at mirror port 16 of module 5; the mirror area lies at 32 MiB. -/
def mir (x : Slot) (p : Packet) : State :=
  let s := with' ((job 5 0x30 false x).setPort 16 portActive 0) 16 p
  (s.wr64 (Reg.mirrorAreaBase 3) 0x2000000).wr64 (Reg.mirrorAreaBytes 3) 0x20000
def msg (code addr : Nat) : Packet := ctrl 0x31 4 addr code
def pagePkt (addr n : Nat) : Packet := { ctrl 0x04 4 addr 0 with data := (List.replicate n 7).map some }
/-- A page whose before-image has been taken. -/
def mirPage (p : Packet) : State := { mir going p with undo := [⟨3, 0x200, 6, []⟩] }

theorem witness_mirror_packets : (mir going (msg 1 6)).cmds = [] ∧ (mir going (msg 1 6)).jobPart (msg 1 6) = some 3 ∧
    (mir going (msg 1 6)).receiving = none ∧ takeHead (isMsg 0x01) [] ((mir going (msg 1 6)).pktsAt (.port 16)) = some (msg 1 6, []) ∧
    (mir going (msg 1 6)).isMe 5 = true ∧
    takeHead (fun p => p.kind == 0x04) [] ((mirPage (pagePkt 4 2)).pktsAt (.port 16)) = some (pagePkt 4 2, []) ∧
    (mirPage (pagePkt 4 2)).needImage 0x2000004 2 = [] ∧ (mirPage (pagePkt 4 2)).mirrorArea 3 = (0x2000000, 0x20000) ∧
    (mir { going with phase := 2 } (msg 2 7)).nextEpoch 3 = 7 := by decide +kernel
theorem test_mirror_packets : (after (.page (.port 16)) (mirPage (pagePkt 4 2))).hbm = [(0x2000004, 7), (0x2000005, 7)] ∧
    (after (.page (.port 16)) (mirPage (pagePkt 0x1FFFF 2))).hbm = [] ∧
    ((after (.epochSent (.port 16)) (mir { going with pagesIn := 2 } (msg 1 (6 + 2 * 0x100000000)))).slot 3).answered = some 6 ∧
    ((after (.epochSent (.port 16)) (mir going (msg 1 (6 + 2 * 0x100000000)))).slot 3).peerSent = some (6, 2) ∧
    ((after (.epochLanded (.port 16)) (mir { going with phase := 2 } (msg 2 7))).slot 3).gotLanded = true ∧
    ((after (.epochLanded (.port 16)) (mir { going with phase := 2 } (msg 2 8))).slot 3).gotLanded = false := by decide +kernel

/-- A job stopped for a restart at step `n` of it; module 4, the partner, is lost. -/
def stopped (n : Nat) : Slot := { going with state := .restoring, restart := n, lost := [4], decided := some 6 }
def may (s : State) : State := s.wr (Reg.mirrorCfg 3) 0x40000

theorem witness_lost : (may (mir going (msg 3 0))).loaded.filter (fun q => (may (mir going (msg 3 0))).inJob q 4) = [3] ∧
    (may (mir going (msg 3 0))).fld (Reg.mirrorStatus 3) 20 8 < (may (mir going (msg 3 0))).fld (Reg.mirrorCfg 3) 16 4 ∧
    takeHead (isMsg 0x03) [] ((may (mir going (msg 3 0))).pktsAt (.port 16)) = some (msg 3 0, []) ∧
    takeHead (isMsg 0x10) [] ((may (with' (job 5 0x30 false going) 2 (msg 0x10 0x40311))).pktsAt (.port 2)) = some (msg 0x10 0x40311, []) ∧
    (may (mir going (msg 3 0))).mirrorPorts = [16] ∧ (job 5 0x30 false going).mirrorPorts = [] ∧
    (job 5 0x30 false going).partner = 4 ∧
    (job 5 0x30 false going).loaded.filter (fun q => (job 5 0x30 false going).inJob q 4) = [3] := by decide +kernel
theorem test_ports_down : ((after .mirrorPortsDownTimeout (job 5 0x30 false going)).slot 3).lost = [4] := by decide +kernel
theorem witness_restart : (job 0 3 false { stopped 1 with lost := [] }).coordinator 3 = true ∧
    (job 0 3 false { stopped 1 with lost := [] }).inJob 3 1 = true ∧ (job 0 3 false { stopped 1 with lost := [] }).isMe 1 = false ∧
    (job 5 0x30 false (stopped 1)).partner = 4 ∧ (job 5 0x30 false (stopped 4)).mirrorPorts = [] ∧
    ((job 5 0x30 false (stopped 3)).slot 3).lost.contains 4 = true := by decide +kernel
theorem test_restart : ((after (.coordinatorAnswerTimeout 3 1) (job 0 3 false { stopped 1 with lost := [] })).slot 3).lost = [1] ∧
    ((after (.epochDecision 3 (.collected [(1, 7)] [])) (job 0 3 false { stopped 1 with lost := [], decided := none })).slot 3).decided = some 7 ∧
    ((after (.epochDecision 3 (.collected [(1, 6)] [])) (job 0 3 false { stopped 1 with lost := [], decided := none })).slot 3).decided = some 6 ∧
    ((after (.rollbackDone 3) { job 5 0x30 false (stopped 2) with hbm := [(0x20005, 9)], undo := [⟨3, 2, 6, [(6, 1)]⟩] }).slot 3).restart = 3 ∧
    (after (.rollbackDone 3) { job 5 0x30 false (stopped 2) with hbm := [(0x20005, 9)], undo := [⟨3, 2, 6, [(6, 1)]⟩] }).hbm = [(0x20006, 1)] ∧
    ((after (.spareRetry 3 (.told [])) (job 5 0x30 false (stopped 3))).slot 3).state = .stopped ∧
    ((after (.spareRetry 3 (.told [(4, 9)])) (job 5 0x30 false (stopped 3))).slot 3).restart = 4 ∧
    (after (.mirrorReconnectTimeout 3) (job 5 0x30 false (stopped 4))).stops.map (fun x => (x.code, x.sub)) = [(0x18, 4)] ∧
    (after (.restartBarrierRelease 3) (job 5 0x30 false (stopped 6))).pc 3 0 = 0x77 := by decide +kernel
/-- A module with an alias and nothing loaded, and a job whose spare has been restored. -/
def spare : State := (with' ((cuff 0 [(Reg.mirrorAlias, 0x80000005), (Reg.fabModuleId, 0x80000009)]).setPort 16 portActive 0) 16
  { msg 4 6 with dstModule := 9 }).setSlot 3 Slot.init
theorem witness_restore : takeHead (isMsg 0x04) [] (spare.pktsAt (.port 16)) = some ({ msg 4 6 with dstModule := 9 }, []) ∧
    spare.isMe 9 = true ∧ spare.loading = none ∧ spare.bit Reg.mirrorAlias 31 = true ∧ (spare.slot 3).tiles = 0 ∧ (spare.slot 3).resetting = false ∧
    spare.receiving = none ∧ (mir { stopped 5 with gotLanded := true } (msg 5 0)).jobPart (msg 5 0) = some 3 ∧
    takeHead (isMsg 0x05) [] ((mir { stopped 5 with gotLanded := true } (msg 5 0)).pktsAt (.port 16)) = some (msg 5 0, []) := by decide +kernel
theorem test_restore : ((after (.restoreBegin (.port 16) 3 8) spare).slot 3).epochStep = 8 ∧
    ((after (.restoreDone (.port 16)) (mir { stopped 5 with gotLanded := true } (msg 5 0))).slot 3).restart = 6 ∧
    ((after (.mirrorCtrlPlanned 3) (job 5 0x30 false going)).slot 3).planned = true := by decide +kernel

/-! ## The host interface (spec 15) -/

/-- Module 5 with its link up, a command ring of 16 entries with one to read, and slot 3 in state `x`. -/
def hosted (x : Slot) (l : List (Nat × Nat)) : State :=
  { (cuff 0 ([(Reg.fabModuleId, 0x80000005), (Reg.collarStatus, 0x800000FF), (Reg.hostCmdCfg, 0x80000004), (Reg.hostCmdTail, 1)] ++ l)).setSlot 3 x with
    rail := true, linkUp := true }
/-- An entry for slot 3; `hbm` is an HBM offset of this module, in the slot's region. -/
def entry (a b n : Nat) : CmdEntry := ⟨3, 0, 0x1234, a, b, n⟩
def inHbm (off : Nat) : Nat := gaHbm 5 off
def slotIn (st : SlotState) (d : Bool) (by' : Nat) : Slot :=
  { Slot.init with state := st, tiles := 8, taskSlots := 4, regions := [(0x10000, 0x20000)], damaged := d, stoppedBy := by' }
def copyCmd (op : Nat) (e : CmdEntry) (begun : Bool) : HostCmd := { n := 0, op := op, entry := e, begun := begun }

theorem witness_commands : (hosted Slot.init []).cmds = [] ∧ (hosted Slot.init []).collarRuns = true ∧ (hosted Slot.init []).cmdOn = true ∧
    (hosted Slot.init []).hostUp = true ∧ (hosted Slot.init []).headNo ≠ ((hosted Slot.init []).rd Reg.hostCmdTail).toNat ∧
    (hosted Slot.init []).loading = none ∧ (hosted Slot.init []).linksUp = true ∧ (entry 0 0 0).slot < 8 ∧ (entry 0 0 0).resv = 0 ∧
    Slot.init.state.busy = false ∧ Slot.init.state = .idle ∧ Slot.init.resetting = false ∧ Slot.init.tiles = 0 ∧
    (slotIn .running false 0).state.busy = true ∧ (hosted Slot.init []).cmdSize = 16 := by decide +kernel
theorem witness_copies : (hosted (slotIn .ready false 0) []).copyOk (copyCmd 5 (entry 0x900 (inHbm 0x10000) 4) false) = true ∧
    (hosted (slotIn .ready false 0) []).copyOk (copyCmd 5 (entry 0x900 (inHbm 0x2FFFE) 4) false) = false ∧
    (hosted (slotIn .ready false 0) []).copyOk (copyCmd 6 (entry (inHbm 0x10000) 0x900 4) false) = true ∧
    (hosted (slotIn .ready false 0) []).copyOk (copyCmd 6 (entry (inHbm 0x8000) 0x900 4) false) = false ∧
    ({ hosted (slotIn .ready false 0) [] with cmds := [copyCmd 5 (entry 0x900 (inHbm 0x10000) 2) true] }).needImage (gaHbmOff (inHbm 0x10000)) 2 = [] := by
  decide +kernel
theorem witness_clean : (hosted (slotIn .ready false 0) []).hbmClean 0x10000 2 := by unfold State.hbmClean; decide +kernel
/-- R472: OPCODE and RESULT of the completion of ring entry 0, in bytes 12 and 13. -/
def completed (c : Instr) (x : Slot) : List Byte := ((tget (after c (hosted x [])).completions [] 0).drop 12).take 2
theorem test_commands : ((after (.load (entry 0x900 64 0)) (hosted Slot.init [])).slot 3).state = .loading ∧
    completed (.load (entry 0x900 64 0)) (slotIn .running false 0) = [1, 2] ∧
    ((after (.run (entry 0 0 0)) (hosted (slotIn .ready false 0) [])).slot 3).atStart = true ∧
    completed (.run (entry 0 0 0)) (slotIn .ready false 0) = [2, 0] ∧
    ((after (.run (entry 0 0 0)) (hosted (slotIn .stopped false 2) [])).slot 3).state = .restoring ∧
    completed (.run (entry 0 0 0)) Slot.init = [2, 2] ∧
    ((after (.drain (entry 0 0 0)) (hosted (slotIn .running false 0) [])).slot 3).state = .draining ∧
    completed (.drain (entry 0 0 0)) (slotIn .ready false 0) = [3, 2] := by decide +kernel
theorem test_kill : completed (.kill (entry 0 0 0)) { slotIn .faulted false 0 with tiles := 0 } = [4, 0] ∧
    completed (.kill (entry 0 0 0)) Slot.init = [4, 2] := by decide +kernel
theorem test_copy_nop : (after (.copyIn (entry 0x900 (inHbm 0x10000) 4)) (hosted (slotIn .ready false 0) [])).cmds.map (·.op) = [5] ∧
    completed (.copyIn (entry 0x900 (inHbm 0x2FFFE) 4)) (slotIn .ready false 0) = [5, 3] ∧
    completed (.copyIn (entry 0x900 (inHbm 0x10000) 4)) (slotIn .running false 0) = [5, 2] ∧
    (after (.copyOut (entry (inHbm 0x10000) 0x900 4)) (hosted (slotIn .running false 0) [])).cmds.map (·.op) = [6] ∧
    completed (.copyOut (entry (inHbm 0x8000) 0x900 4)) (slotIn .running false 0) = [6, 3] ∧
    completed (.commandNop 7 (entry 0 0 0)) Slot.init = [7, 0] ∧ completed (.commandNop 7 ⟨8, 0, 0, 0, 0, 0⟩) Slot.init = [7, 3] ∧
    completed (.commandNop 9 (entry 0 0 0)) Slot.init = [9, 1] := by decide +kernel
theorem test_copy_done :
    (after (.hbmCopyDone 0 (.ok [8, 9])) { hosted (slotIn .ready false 0) [] with cmds := [copyCmd 5 (entry 0x900 (inHbm 0x10000) 2) true] }).hbm =
      [(0x10000, 8), (0x10001, 9)] ∧
    (after (.hbmCopyDone 0 (.ok [])) { hosted (slotIn .ready false 0) [] with
      cmds := [copyCmd 6 (entry (inHbm 0x10000) 0x900 2) true], hbm := [(0x10001, 9)] }).host = [(0x901, 9)] := by decide +kernel
theorem test_tail : (after (.hostCmdTailWrite 16) (hosted Slot.init [])).rd Reg.hostCmdTail = 16 ∧
    (after (.hostCmdTailWrite 17) (hosted Slot.init [])).rd Reg.hostErr = 0x80020000 := by decide +kernel

/-- Slot 3 with its rings on (64 output and 16 sequence entries, one page of partial results) and a service of one sequence of
64 tokens over a vocabulary of 100. -/
def serving (x : Slot) : State := hosted { x with tiles := 8, taskSlots := 4 } [(Reg.hostStatusBase, 0x7000001), (Reg.hostRingCfg 3, 0x84000001),
  (Reg.hostSeqTail 3, 1), (Reg.hostPartBase 3, 0x9000000), (Reg.hostOutBase 3, 0x8000000), (Reg.collarSvcW 3 0, 0x10001), (Reg.collarSvcW 3 1, 0x10001),
  (Reg.collarSvcW 3 2, 64), (Reg.collarSvcW 3 3, 100), (Reg.collarSvcW 3 5, 1), (Reg.collarSvcW 3 7, 4096), (Reg.collarSvcW 3 16, 0x10000),
  (Reg.collarSvcW 3 17, 0x40000280)]
def seqOf (len : Nat) : SeqEntry := ⟨1, 0, 1, 77, 0x600, len, 0, 1, 65536, [], 0⟩
def held (n : Nat) : List (List Byte) := [List.replicate n 5]
theorem witness_rings : (serving Slot.init).cmds = [] ∧ (serving Slot.init).pagesOn = true ∧ (serving Slot.init).ringOn 3 = true ∧
    (hosted Slot.init []).ringOn 3 = false ∧ (serving Slot.init).seqSize 3 = 16 ∧ (serving Slot.init).seqReady 3 = true ∧
    subBad ((serving Slot.init).svc 3) ((serving Slot.init).slot 3).svc (seqOf 1) [99] = false ∧
    subBad ((serving Slot.init).svc 3) ((serving Slot.init).slot 3).svc (seqOf 1) [100] = true ∧
    (serving Slot.init).outSize 3 = 64 ∧ sub32 ((serving Slot.init).slot 3).outTail 0 < 64 := by decide +kernel
theorem witness_partial : (serving { Slot.init with partDue := true }).ringOn 3 = true ∧ ((serving Slot.init).svc 3).partialBytes = 4096 ∧
    ((serving Slot.init).svc 3).partialBytes ≤ (serving Slot.init).fld (Reg.hostRingCfg 3) 0 16 * 4096 ∧
    ((serving Slot.init).svc 3).serviceAddr = inHbm 0x10000 := by decide +kernel
theorem test_pages : tget (after (.statusPageRewrite 4) (serving Slot.init)).pageSeq 0 4 = 2 ∧
    (after (.hostStatusEnable false) (serving Slot.init)).rd Reg.hostStatusBase = 0x7000000 ∧
    (after (.hostRingEnable none false) (serving Slot.init)).cmdOn = false ∧
    (after (.hostRingEnable (some 3) true) (hosted Slot.init [])).ringOn 3 = true ∧
    (after (.hostSeqTailWrite 3 17) (serving Slot.init)).rd (Reg.hostSlotErr 3) = 0x82020000 := by decide +kernel
theorem test_rings : ((after (.submit 3 (seqOf 1) (.ok [7, 0, 0, 0])) (serving Slot.init)).slot 3).svc.waiting.map (·.prompt) = [[7]] ∧
    (after (.submit 3 (seqOf 1) (.error 0)) (serving Slot.init)).ringOn 3 = false ∧
    ((after (.cancel 3 ⟨0, 0, 0, 77, 0, 0, 0, 0, 0, [], 0⟩) (serving Slot.init)).slot 3).cancels = [(0, 77)] ∧
    ((after (.hostOutHeadWrite 3 0) (serving { Slot.init with outHeld := held 32 })).slot 3).outTail = 1 := by decide +kernel
/-- Task (3, 1) waits at a step boundary. -/
def boundary : State := (((serving { Slot.init with state := .running, epoch := 6 }).wr (Reg.cuffTaskStatus 3 1) 0x50000005).wr (Reg.mirrorStatus 3)
  0x10000000).setTask 3 1 { Task.init with arrived := true, bars := true }
theorem witness_boundary : (boundary.slot 3).going = true ∧ boundary.quiet 3 = true ∧ boundary.svcHolds 3 = true ∧
    boundary.epochPoint 3 = false ∧ (boundary.svc 3).serve = true := by decide +kernel

/-- The aperture is open for writes on slot 3, from HBM offset 0. -/
def aperture : State := hosted (slotIn .ready false 0) [(Reg.hostApertureCfg, 0xC0000003)]
theorem witness_aperture : aperture.d3 = false ∧ aperture.apertureOk 0x10000 2 true = true ∧ aperture.apertureOk 0x10000 2 false = true ∧
    aperture.apertureOk 0x2FFFF 2 false = false ∧ aperture.apertureOk 0x2FFFF 2 true = false ∧
    aperture.needImage (aperture.apertureOff 0x10000) 2 = [] := by decide +kernel
theorem test_aperture : (after (.bar2Read 0x10001 2) { aperture with hbm := [(0x10001, 9)] }).reply = [9, 0] ∧
    (after (.bar2Read 0x2FFFF 2) aperture).rd Reg.hostApertureStatus = 1 ∧
    (after (.bar2Write 0x10000 [some 1, some 2]) aperture).hbm = [(0x10000, 1), (0x10001, 2)] ∧
    (after (.bar2Write 0x2FFFF [some 1, some 2]) aperture).hbm = [] := by decide +kernel
theorem test_link : (after .functionLevelReset aperture).rd Reg.hostApertureCfg = 0 ∧ (after .perstAssert aperture).linkUp = false ∧
    (after .perstRelease { aperture with perst := true, linkUp := false }).linkUp = true ∧ (after .pcieLinkDown aperture).linkUp = false ∧
    (after (.pcieCompletionTimeout (.output 3) 0) (serving Slot.init)).ringOn 3 = false ∧
    (after (.pcieConfigurationRequest none) aperture).reply = [2] := by decide +kernel
/-- A read of host memory by queue 2 of tile 3 is outstanding. -/
def hostRead : State := (cuff 0 [(Reg.placketQCfg 3 2, 0x4407)]).setQueue 3 2 { Queue.init with
  xfers := [{ txn := 40, pos := 5, moves := [], slot := none, read := false, remote := none, opening := false }] }
theorem witness_host_read : hostRead.hostXferPos 3 2 40 = some 5 ∧ hostRead.qCancelling 3 2 = false ∧
    hostRead.taskOver 3 (hostRead.qOwner 3 2) = false ∧ aperture.domainOn 30 = true ∧ aperture.perst = false ∧
    aperture.fld Reg.bootStatus 29 3 < 5 ∧ (hosted Slot.init [(Reg.bootStatus, 0xA0000000)]).fld Reg.bootStatus 29 3 = 5 := by decide +kernel
theorem test_host_read : (after (.pcieCompletionTimeout (.dma 3 2 40) 0) hostRead).taskState 3 1 = taskAborted := by decide +kernel

/-! ## Clocks, power, boot and resets (spec 16, 17) -/

theorem witness_clocks : (cuff 0 []).tileBusy 4 = false ∧ (cuff 0 []).tileBusy 3 = true ∧ (cuff 0 []).bit Reg.clkGateCfg (4 / 64) = false ∧
    (cuff 0 [(Reg.clkGateCfg, 1)]).bit Reg.clkGateCfg (4 / 64) = true := by decide +kernel
/-- Panel 1 at 900 MHz and 620 mV in phase `ph` of a change to point 2, of 1,100 MHz and 700 mV, or of 700 MHz and `mv` mV. -/
def panel (ph f mv : Nat) : State := (cuff 0 [(Reg.clkPointTable 1 2, 0x80000000 + mv * 0x10000 + f), (Reg.clkPanelStatus 1, 0x80000000 + 620 * 0x10000 + 900)]).setPanelClk 1
  { phase := ph, target := 2, next := none }
theorem witness_points : ((panel 0 1100 700).panelClk 1).phase = 0 ∧ ((panel 2 1100 700).panelClk 1).phase ≠ 0 ∧ ((panel 1 1100 700).panelClk 1).phase = 1 ∧
    (panel 2 700 600).pointOf 1 2 = (700, 600) ∧ (panel 2 700 600).fld (Reg.clkPanelStatus 1) 16 10 = 620 ∧ (panel 2 700 620).pointOf 1 2 = (700, 620) := by
  decide +kernel
theorem test_points : ((after (.operatingPointSelect 1 2) (panel 0 1100 700)).panelClk 1).phase = 1 ∧
    ((after (.operatingPointSelect 1 2) (panel 0 700 600)).panelClk 1).phase = 2 ∧
    (after (.supplyRampDone 1) (panel 1 1100 700)).fld (Reg.clkPanelStatus 1) 16 10 = 700 ∧
    (after (.clockPauseEnd 1) (panel 2 700 600)).fld (Reg.clkPanelStatus 1) 0 11 = 700 ∧
    (after (.clockPauseEnd 1) (panel 2 700 620)).fld (Reg.clkPanelStatus 1) 28 4 = 2 := by decide +kernel
theorem witness_idle : (cuff 0 []).bit Reg.pwrCtrl 0 = false ∧ (cuff 0 []).allIdle = true ∧ (cuff 0 []).loading = none ∧ (cuff 0 []).pwrState ≠ 3 ∧
    ((cuff 0 []).setSlot 3 { Slot.init with state := .ready }).allIdle = false ∧ (cuff 0 [(Reg.pwrCtrl, 1)]).bit Reg.pwrCtrl 0 = true ∧
    (cuff 0 [(Reg.pwrDomainWaking, 0x10)]).domainWaking (4 + 1) = true ∧
    ((cuff 0 [(Reg.pwrDomainWaking, 0x10)]).setSlot 3 { Slot.init with tiles := 8 }).panelHeld 0 = true ∧
    (cuff 0 [(Reg.pwrComputeAuto, 1)]).fld Reg.pwrComputeAuto 0 20 ≠ 0 ∧
    (∀ j, j < 64 → (cuff 0 []).bit (Reg.seamStatus (64 + j)) 7 = false ∧ (cuff 0 []).bit (Reg.sleeveStatus (64 + j)) 15 = false) := by decide +kernel
theorem test_idle : (after .deepIdleEnter ((cuff 0 []).setSlot 3 { Slot.init with state := .ready })).bit Reg.pwrCtrl 1 = true ∧
    (after .deepIdleLeave (cuff 0 [(Reg.pwrCtrl, 1)])).bit Reg.pwrCtrl 0 = false ∧
    (after (.computeIdleOff 1) (cuff 0 [(Reg.pwrComputeAuto, 1)])).domainOn 6 = false ∧
    (after .calCtrlSet (cuff 0 [(Reg.calSet, 7)])).calSet = some 7 ∧ (after .calSetLoad { cuff 0 [] with calSet := some 7 }).rd64 Reg.calNow = 7 ∧
    (after .supercapacitorHoldLost (st [(Reg.calNow, 9), (Reg.backupMem 3, 5)])).rd (Reg.backupMem 3) = 0 := by decide +kernel

/-- The module at boot step `n` (BOOT_STATUS holds n). -/
def boot (n : Nat) (l : List (Nat × Nat)) : State := { st ((Reg.bootStatus, n * 0x20000000) :: l) with rail := true, resetKind := 5 }
/-- 4 KiB with a firmware slot of SVN 3 and one byte of body, signed with Terbor key 1; the signature was computed outside Lean with the P-384 key 7 and the nonce 2. -/
def fwImg : List Byte := leBytes 4 0x4B465731 ++ leBytes 4 1 ++ [3, 1, 0, 0] ++ (List.range 5).flatMap (fun _ => leBytes 2 1) ++ List.replicate 42 0 ++
  beBytes 48 6192706248650610585029334828875625541601599068644432283392070678800109693834576236172166289842521288047764778176737 ++
  beBytes 48 22850101761352155756627808478921273213930354190738002589669451013939984415721476662192719117631561703668728764493708 ++
  List.replicate 256 0 ++ beBytes 48 1362138308511466522361153706999924933599454966107597910086607881313301390679204654798639248640660900363360053616481 ++
  beBytes 48 10658032980526985672077761789843239626972108484321522208545285838932086443253059818628454655865373742515736038149594 ++ [0x5A] ++ List.replicate 3583 0
def fused (s : State) : State := { s with keyFuses := [(1, 5534000131456908334811240124755022146253889658466856554743957766643397055333821049931138465749221773144302595827690)] }
theorem witness_firmware : (fused State.reset).verifyFw fwImg = fwOk := by decide +kernel
/-- What a slot's verification depends on. -/
theorem verify_of {s t : State} (h1 : s.revoked = t.revoked) (h2 : s.keyFuses = t.keyFuses) (h3 : s.svnMin = t.svnMin) (b : List Byte) :
    s.verifyFw b = t.verifyFw b := by simp only [State.verifyFw, State.keyFuse, h1, h2, h3]
/-- Boot step 4 with the slots `a` and `b`. -/
def slots (a b : List Byte) : State := fused { boot 3 [] with fwSlots := [(0, a), (1, b)] }
theorem witness_slots : (slots fwImg []).verifyFw ((slots fwImg []).fwSlot 0) = fwOk ∧ (slots [] fwImg).verifyFw ((slots [] fwImg).fwSlot 1) = fwOk ∧
    (slots [] fwImg).verifyFw ((slots [] fwImg).fwSlot 0) ≠ fwOk ∧ (slots fwImg []).verifyFw ((slots fwImg []).fwSlot 1) ≠ fwOk ∧
    (slots [] fwImg).selector < 2 ∧ (slots [] fwImg).fld Reg.bootStatus 29 3 = 3 ∧ (slots [] fwImg).bit Reg.bootStatus 28 = false := by
  refine ⟨(verify_of (by decide) (by decide) (by decide) _).trans witness_firmware,
    (verify_of (by decide) (by decide) (by decide) _).trans witness_firmware, ?_⟩
  decide +kernel
theorem test_boot_halts : (after .bootStepComplete (slots [] [])).rd Reg.bootStatus = 0x71220000 := by decide +kernel
theorem witness_boot_steps : (boot 1 []).rd Reg.envStatus = 0 ∧ (boot 1 [(Reg.envStatus, 1)]).rd Reg.envStatus ≠ 0 ∧ (boot 4 []).fld Reg.bootStatus 29 3 = 4 ∧
    (boot 6 []).fld Reg.bootStatus 29 3 = 6 ∧ (boot 6 []).cmds = [] := by decide +kernel
theorem test_boot : (after .railRise State.reset).rd Reg.bootStatus = 0x20000000 ∧ (after .bootStepComplete (boot 1 [])).rd Reg.bootStatus = 0x40000000 ∧
    (after .bootStepComplete (boot 1 [(Reg.envStatus, 1)])).rd Reg.bootStatus = 0x20000000 ∧
    (after .bootStepComplete (boot 6 [])).fld Reg.collarStatus 30 2 = 2 ∧
    (after (.conversionStop true) (boot 1 [(Reg.backupMem 3, 5)])).rd (Reg.backupMem 3) = 5 := by decide +kernel
/-- The Collar runs on firmware slot 0; an update reads `len` bytes of host memory. -/
def updating (l : List (Nat × Nat)) (a b : List Byte) : State := fused { st ([(Reg.bootStatus, 0xE0000000), (Reg.collarStatus, 0x800000FF),
  (Reg.fwUpdateAddr + 4, 0x80000000), (Reg.fwUpdateLen, 4096), (Reg.secKeyAddr + 4, 0x80000000)] ++ l) with rail := true, fwSlots := [(0, a), (1, b)] }
theorem witness_update : (updating [] [] []).collarUp = true ∧ (updating [] [] []).sourceOk ((updating [] [] []).rd64 Reg.fwUpdateAddr) 4096 = true ∧
    (updating [(Reg.fwUpdateStatus, 0x20000000)] [] []).fld Reg.fwUpdateStatus 29 3 = 1 ∧ (updating [] [] []).mayActivate = true ∧
    (updating [(Reg.mirrorFwArm, 3)] [] []).bit Reg.mirrorFwArm 0 = true ∧
    leNat (((updating [] fwImg fwImg).fwSlot 0).drop 8 |>.take 1) = 3 := by decide +kernel
theorem fwImg_length : fwImg.length = 4096 := by
  simp only [fwImg, List.length_append, List.length_replicate]; decide +kernel
theorem witness_source : (updating [] [] []).sourceBytes ((updating [] [] []).rd64 Reg.fwUpdateAddr) 4096 fwImg = fwImg := by
  rw [State.sourceBytes, if_neg (by decide +kernel), List.take_of_length_le (by rw [fwImg_length])]
theorem witness_updated : (updating [(Reg.fwUpdateStatus, 0x20000000)] [] []).verifyFw fwImg = fwOk ∧ (updating [(Reg.mirrorFwArm, 3)] [] fwImg).verifyFw fwImg = fwOk ∧
    (updating [] fwImg fwImg).verifyFw fwImg = fwOk :=
  ⟨(verify_of rfl rfl rfl _).trans witness_firmware, (verify_of rfl rfl rfl _).trans witness_firmware, (verify_of rfl rfl rfl _).trans witness_firmware⟩
theorem test_update : (after .fwUpdateGo (updating [] [] [])).rd Reg.fwUpdateStatus = 0x30000000 ∧
    (after .fwUpdateGo (updating [(Reg.fwUpdateStatus, 0x20000000)] [] [])).rd Reg.fwUpdateStatus = 0x29000000 ∧
    (after (.fwUpdateVerified []) (updating [(Reg.fwUpdateStatus, 0x30000000)] [] [])).fld Reg.fwUpdateStatus 29 3 = 4 ∧
    (after (.firmwareActivate true) (updating [(Reg.mirrorFwArm, 3)] [] [])).rd Reg.mirrorFwArm = 7 ∧
    (after (.svnCommit 0xA5C30001) (updating [] [] [])).rd Reg.secSvn = 0x80000000 ∧
    (after .bootRecoveryGo (boot 3 [(Reg.bootStatus, 0x71000000)])).recovering = true := by decide +kernel
/-- The ROM reads a recovery image of 4 KiB. -/
def recovery : State := fused { boot 3 [(Reg.bootStatus, 0x71000000), (Reg.bootRecoveryCtrl, 1)] with recovering := true }
theorem witness_recovery : recovery.recovering = true ∧ (List.replicate 4096 (0 : Byte)).length = 4096 * recovery.fld Reg.bootRecoveryCtrl 0 13 ∧
    recovery.verifyFw (List.replicate 4096 0) ≠ fwOk ∧ fwImg.length = 4096 ∧ recovery.verifyFw fwImg = fwOk := by
  exact ⟨rfl, by simp only [List.length_replicate]; decide +kernel, by decide +kernel, fwImg_length,
    (verify_of (by decide) (by decide) (by decide) _).trans witness_firmware⟩
/-- A record that stores the first customer key in slot 2. -/
def keyRec (op : Nat) : List Byte := [BitVec.ofNat 8 op, 2, 0xFF, 0] ++ leBytes 4 0 ++ leBytes 24 0 ++ List.replicate 96 9 ++ List.replicate 128 0
theorem witness_key : (updating [] [] []).keyResult ((updating [] [] []).sourceBytes ((updating [] [] []).rd64 Reg.secKeyAddr) 256 (keyRec 1)) = 0 ∧
    (updating [] [] []).keyResult (keyRec 2) ≠ 0 := by decide +kernel
theorem test_key : (after (.secKeyGo (keyRec 1)) (updating [] [] [])).custKeys = [(2, List.replicate 96 9)] ∧
    (after (.secKeyGo (keyRec 2)) (updating [] [] [])).custKeys = [] := by decide +kernel

theorem witness_resets : (cuff 0 []).rstScope = 0 ∧ (cuff 0 []).tileResettable 3 = true ∧ (cuff 0 []).cmds = [] ∧
    (((cuff 0 []).setSlot 3 going).slot 3).resetting = false ∧ ((cuff 0 []).setSlot 3 { going with tiles := 8 }).wipesDone 3 = true ∧
    (updating [] [] []).collarUp = true ∧ (boot 1 []).warmLow = false := by decide +kernel
theorem test_resets :
    (after (.tileReset 0xA5C4 3) (cuff 0 [])).rd Reg.rstStatus = 0x8000000 ∧
    (after (.warmModuleReset 0xA5C3) (cuff 0 [(Reg.envTrip, 8)])).rd Reg.envTrip = 8 ∧
    (after (.coldReset 0xA5C3) (cuff 0 [(Reg.envTrip, 8)])).rd Reg.envTrip = 0 ∧
    (after .collarHangTimeout (updating [] [] [])).rd Reg.bootStatus = 0x20000000 ∧
    (after (.warmRstPin true 9) (boot 7 [])).rd Reg.bootStatus = 0xE0000000 ∧ (after (.warmRstPin true 10) (boot 7 [])).rd Reg.bootStatus = 0x20000000 ∧
    (after (.coldRstPin true 10) (boot 7 [])).coldLow = true ∧ (after (.warmRstPin false 5) { boot 1 [] with warmLow := true }).warmLow = false := by
  decide +kernel
/-- R531: module 0 tells its partner, module 1, over MP0. -/
theorem test_reset_sends_lost :
    (after (.warmModuleReset 0xA5C3) ((job 0 3 false going).setPort 16 portActive 0)).lostSent.map
      (fun p => (p.1, p.2.dstModule, p.2.kind, p.2.aux)) = [(16, 1, 0x31, 3)] := by decide +kernel
theorem test_partition_reset : ((after (.partitionResetDone 3) ((cuff 0 []).setSlot 3 { Slot.init with state := .ready, tiles := 8, resetting := true })).slot 3).tiles = 0 := by
  decide +kernel

/-! ## Faults, monitors and the management buses (spec 18, 19) -/

/-- A job fault of partition 3 waits for the Collar, and a record for the log. -/
def faulty : State := { (may (cuff 0 [])).setSlot 3 { Slot.init with state := .running, taskSlots := 4 } with
  stops := [{ part := 3, code := 0x0D, cls := 3, sub := 2, unit := 10, seq := 1 }] }
theorem witness_stop : faulty.stops.length = 1 ∧ (faulty.slot 3).state = .running ∧ (faulty.slot 3).resetting = false ∧ faulty.cmds = [] ∧
    faulty.fld (Reg.mirrorStatus 3) 20 8 < faulty.fld (Reg.mirrorCfg 3) 16 4 := by decide +kernel
theorem test_log : (after (.flogCtrlClear 0xA5C30001) (st [(Reg.flogNext, 7)])).rd Reg.flogNext = 0 ∧
    (after (.flogCtrlClear 1) (st [(Reg.flogNext, 7)])).rd Reg.flogNext = 7 := by decide +kernel
/-- Sequence number 7 is the next of the log, and a refused aperture access waits to be recorded. -/
def refusedOnce (c d : Instr) : State := after c (after d (hosted Slot.init [(Reg.hostApertureCfg, 0x80000003), (Reg.flogNext, 7)]))
theorem witness_record : (refusedOnce .capability (.bar2Read 0x2FFFF 2)).flogQ.length = 1 := by decide +kernel
theorem test_record : (refusedOnce .faultRecordWrite (.bar2Read 0x2FFFF 2)).rd Reg.flogNext = 8 ∧ (refusedOnce .faultRecordWrite (.bar2Read 0x2FFFF 2)).rd (Reg.flogRecord 7 2) = 7 ∧
    (refusedOnce .faultRecordWrite (.bar2Read 0x2FFFF 2)).flogQ = [] := by decide +kernel
theorem witness_monitors : (boot 1 []).armed = 0 ∧ (0x108#9 ||| 1#9).toNat &&& (boot 1 []).armed = 0 ∧ (8#9 ||| 0#9).toNat &&& (boot 2 []).armed ≠ 0 ∧
    (boot 2 []).stopped = false ∧ (boot 2 []).rail = true := by decide +kernel
theorem test_monitors : (after (.envMonitorTrip 8 0) (boot 1 [])).rd Reg.envStatus = 8 ∧ (after (.envMonitorTrip 8 0) (boot 1 [])).stopped = false ∧
    (after .envWithinLimits (boot 1 [(Reg.envStatus, 8)])).rd Reg.envStatus = 0 := by decide +kernel
/-- Every domain is on; slot 3 holds the HBM from 0x10000 on. -/
def scrubbed : State := hosted (slotIn .running false 0) []
theorem witness_scrub : 32 * 0x800 < hbmBytes ∧ (∀ c : Fin 8, scrubbed.domainOn (18 + c) = true) ∧ tfind scrubbed.hbmErr 0x800 = none ∧
    scrubbed.hbmWhere (32 * 0x800) = (0, 3) ∧ (scrubbed.slot 3).state = .running := by decide +kernel
theorem witness_bus : (boot 2 []).busUp = true ∧ (boot 1 []).busUp = false ∧ pmbusCodes.contains (0x21#8).toNat = false ∧
    ({ boot 2 [] with warmLow := true }).busUp = true := by decide +kernel
theorem test_bus : (after .capability (boot 2 [])).reply = [0xB0] ∧ (after .capability (boot 1 [])).reply = [] ∧
    (after .pmbusRevision (boot 2 [])).reply = [0x44] ∧ (after .idcode (boot 2 [])).reply = [0x01, 0xC0, 0x71, 0x1A] ∧
    (after (.pmbusUnsupportedCommand 0x21) (boot 2 [])).pmbus.cml = 0x80 ∧ (after .extest (boot 2 [])).tap = .samplePreload ∧
    (after .statusWord { boot 2 [] with pmbus := { Pmbus.init with input := 0x10 } }).reply = [8, 0x20] := by decide +kernel

/-! ## The loader, control space and the paired groups (spec 00, 02, 20) -/

/-- A section body padded to a multiple of 64 bytes. -/
def padded (bs : List Byte) : List Byte := bs ++ List.replicate ((64 - bs.length % 64) % 64) 0
/-- The directory (R36) and the bodies from offset `off` on; the last body has no padding after it. -/
def sectionsFrom (off : Nat) : List (Nat × List Byte) → List Byte × List Byte
  | [] => ([], [])
  | (ty, d) :: xs =>
    let body := if xs.isEmpty then d else padded d
    let rest := sectionsFrom (off + body.length) xs
    (leBytes 2 ty ++ leBytes 2 1 ++ leBytes 4 0 ++ leBytes 8 off ++ leBytes 8 d.length ++ leBytes 4 (crc32 d) ++ leBytes 4 0 ++ rest.1,
      body ++ rest.2)
/-- An image (R34-R37) for module 5 and partition 3. -/
def imageOf (xs : List (Nat × List Byte)) : List Byte :=
  let dirEnd := 0x100 + 32 * xs.length
  let start := (dirEnd + 63) / 64 * 64
  let (dir, bodies) := sectionsFrom start xs
  let h0 := leBytes 4 0x474B5349 ++ (List.range 4).flatMap (fun _ => leBytes 2 1) ++ leBytes 2 0x100 ++ leBytes 2 xs.length ++
    leBytes 8 (start + bodies.length) ++ leBytes 8 1 ++ leBytes 8 0x77 ++ leBytes 2 5 ++ [3, 0] ++ leBytes 20 0 ++ leBytes 4 (crc32 dir)
  h0 ++ leBytes 4 (crc32 (h0 ++ List.replicate 188 0)) ++ List.replicate 184 0 ++ dir ++ List.replicate (start - dirEnd) 0 ++ bodies
/-- The least image for tile 3: every section that must be there, with one task slot and no entry point. -/
def least : List (Nat × List Byte) := [
  (0x01, leBytes 32 8 ++ leBytes 16 0 ++ [1] ++ leBytes 15 0),
  (0x02, leBytes 4 1 ++ leBytes 28 0 ++ leBytes 16 0 ++ leBytes 32 8),
  (0x03, leBytes 4 1 ++ leBytes 28 0 ++ [3, 0xFF] ++ leBytes 18 0 ++ leBytes 4 0x400000 ++ leBytes 24 0),
  (0x06, leBytes 4 1 ++ leBytes 28 0 ++ [3, 0xFF, 0, 0] ++ leBytes 4 0x60604 ++ leBytes 8 0),
  (0x07, leBytes 4 1 ++ leBytes 60 0),
  (0x08, leBytes 4 1 ++ leBytes 28 0 ++ [0, 6] ++ leBytes 14 0),
  (0x0C, leBytes 4 1 ++ leBytes 28 0 ++ [0, 0, 0, 0x30, 0, 0, 1, 0] ++ (List.range 8).flatMap (fun _ => leBytes 4 1) ++ leBytes 8 noneAddr ++
    leBytes 8 0 ++ (List.range 9).flatMap (fun _ => leBytes 8 noneAddr)),
  (0x0E, leBytes 4 1 ++ [0, 1, 1, 0] ++ leBytes 8 0 ++ leBytes 8 0x100000 ++ leBytes 8 0x100000 ++ leBytes 8 0x10020000 ++ leBytes 56 0 ++
    leBytes 8 0x140C00000 ++ leBytes 4 1 ++ leBytes 4 0),
  (0x0F, (List.range 4).flatMap (fun _ => leBytes 2 900) ++ leBytes 56 0),
  (0x11, leBytes 0x50 0 ++ leBytes 10 (2 ^ 80 - 1) ++ leBytes 6 0 ++ leBytes 32 (2 ^ 256 - 1)),
  (0x12, leBytes 4 0x1038000 ++ leBytes 4 4 ++ leBytes 8 0 ++ leBytes 32 8 ++ leBytes 4 (fA 0x3F 0 0 0 2))]
def img : List Byte := imageOf least
def loadOf (x : SlotState) (n : Nat) : Load :=
  { part := 3, restore := false, addr := 0x8000000000900000, len := n, prior := x, image := [], commits := [], applied := false, charged := false }
/-- Module 5 with firmware levels 1 and its partner at mirror level 1; a load of `n` bytes of host memory into slot 3 is being checked. -/
def loading (ls : Nat) (x : SlotState) (n : Nat) (l : List (Nat × Nat)) : State :=
  { (st ([(Reg.fabModuleId, 0x80000005), (Reg.collarStatus, 0x800000FF), (Reg.structLevelsFmt, 0x10001), (Reg.structLevelsLink, 0x10001),
      (Reg.structLevelsNum, 1), (Reg.fabPortStatus 16, 0x60000804), (Reg.fabPortPeer 16, 1), (Reg.structLoadStatus, ls), (Reg.pwrDomainOn, 0x3FFFFFFF)] ++ l)).setSlot 3
      { Slot.init with state := .loading } with
    rail := true, loading := some (loadOf x n) }
set_option maxRecDepth 100000 in
theorem witness_image : (loading 1 .idle 1716 []).verdict (loadOf .idle 1716) ⟨img⟩ = none := by decide +kernel
set_option maxRecDepth 100000 in
theorem witness_load : img.length = 1716 ∧ (loading 1 .idle 1716 []).loadState = loadChecking ∧ (loading 1 .idle 1716 []).cmds = [] ∧
    (loading 1 .idle 1716 []).loading = some (loadOf .idle 1716) ∧ (loading 1 .idle 1716 []).sourceImage (loadOf .idle 1716) img = ⟨img⟩ ∧
      (loading 1 .idle 1716 []).readable (loadOf .idle 1716) ⟨img⟩ = true ∧
    (loading 1 .idle 1716 []).domainsOn (⟨img⟩ : Image).domains = true ∧
    (∀ d ∈ (⟨img⟩ : Image).domains, (loading 1 .idle 1716 [(Reg.pwrDomainOn, 0)]).domainOn d = false) ∧ (⟨img⟩ : Image).domains ≠ [] := by
  decide +kernel
def applying (a : Bool) : State :=
  { (loading 2 .idle 1716 []) with loading := (loading 2 .idle 1716 []).loading.map (fun l => { l with image := img, applied := a }) }
set_option maxRecDepth 100000 in
theorem test_load :
    (after .imageApply (applying false)).rd (Reg.pocketSlotBound 3 0) = 0x400000 := by decide +kernel
set_option maxRecDepth 100000 in
/-- The header's MAGIC is wrong; the load of a busy slot. -/
theorem test_rejects : (after (.imageRejected (0 :: img.drop 1)) (loading 1 .idle 1716 [])).fld Reg.structLoadStatus 24 8 = 3 ∧
    ((after (.imageRejected (0 :: img.drop 1)) (loading 1 .idle 1716 [])).slot 3).state = .faulted ∧
    ((after (.imageRejected (0 :: img.drop 1)) (loading 1 .ready 1716 [])).slot 3).state = .ready ∧
    (after (.imageRejected img) (loading 1 .running 1716 [])).fld Reg.structLoadStatus 24 8 = 0x15 := by decide +kernel
theorem test_applied : ((after .imageApplied (applying true)).slot 3).state = .ready := by decide +kernel
theorem test_start : (after (.structLoadStart 3) (cuff 0 [(Reg.structLoadLen, 9)])).loadState = loadChecking ∧
    (after (.structLoadStart 3) (loading 1 .idle 9 [])).bit Reg.structLoadStatus 4 = true := by decide +kernel

/-- Partition 3 holds tile 3; the staged copy of its POCKET_CFG is 1; a commit of `mask` is pending. -/
def staging (x : Slot) (st : Nat) : State := ((cuff 0 [(Reg.structCommitStatus 3, st)]).wrStaged (Reg.pocketCfg 3) 1).setSlot 3 { x with tiles := 8, taskSlots := 4 }
theorem witness_writes : (cuff 0 []).d3 = false ∧ regAt 0x5000000 = none ∧ (cuff 0 []).regOn 0x5000000 = true ∧
    (st []).regOn (Reg.pocketCfg 3) = false ∧ (cuff 0 []).regOn (Reg.cuffTaskArg 3 2) = true ∧
    ((Reg.meshClassSrc : Nat) = Reg.meshClassSrc → (cuff 0 []).regOn Reg.meshClassSrc = true) ∧
    taskReaches 3 0x1048000 = false ∧ (cuff 0 []).canIssue 3 1 = true := by decide +kernel
theorem witness_staged : (staging Slot.init 0).regOn (Reg.pocketCfg 3) = true ∧ (regAt (Reg.pocketCfg 3)).any (fun x => x.1.width == 32 && x.1.group == some 0) = true ∧
    (staging Slot.init 0).wordPart' (Reg.pocketCfg 3) = some 3 ∧ (cuff 0 []).wordPart' (Reg.pocketCfg 3) = none ∧
    (staging Slot.init 1).fld (Reg.structCommitStatus 3) 0 2 = 1 ∧ ({ Slot.init with goMask := 1 } : Slot).goMask.testBit 0 = true := by decide +kernel
theorem test_writes : (after (.registerWrite .bar0 0x1038000 5) (cuff 0 [])).rd 0x1038000 = 5 ∧
    (after (.registerWrite .bar0 (BitVec.ofNat 32 Reg.meshClassSrc) 0xFFFFFFFF) (cuff 0 [])).rd Reg.meshClassSrc = 0xFFFFF ∧
    (after (.registerWrite .bar0 (BitVec.ofNat 32 (Reg.structLoadAddr + 4)) 9) (cuff 0 [])).rd (Reg.structLoadAddr + 4) = 9 ∧
    (after (.registerWrite (.collar 2) (BitVec.ofNat 32 Reg.structLoadAddr) 9) (cuff 0 [])).rd Reg.structLoadAddr = 0 ∧
    (after (.registerWrite (.task 3 1) 0x1048000 0) (cuff 0 [])).taskState 3 1 = taskAborted := by decide +kernel
theorem test_staged : (after (.stagedFieldWrite .bar0 (BitVec.ofNat 32 (Reg.pocketCfg 3)) 0) (staging Slot.init 0)).rdStaged (Reg.pocketCfg 3) = 0 ∧
    (after (.stagedFieldWrite .bar0 (BitVec.ofNat 32 (Reg.pocketCfg 3)) 0) (staging { Slot.init with goMask := 1 } 1)).rd (Reg.structCommitStatus 3) = 9 ∧
    (after .structStageDataRead ((staging Slot.init 0).wr Reg.structStageAddr (BitVec.ofNat 32 (Reg.pocketCfg 3)))).reply = [1, 0, 0, 0] := by decide +kernel
theorem witness_commit : (staging Slot.init 0).fld (Reg.structCommitStatus 3) 0 2 ≠ 1 ∧ fieldOf 0x10005 16 10 ≠ 0 ∧ fieldOf 0x5 16 10 = 0 ∧
    (staging { Slot.init with goMask := 1, goAny := true, atStart := true } 1).commitDue 3 = true ∧
    (staging { Slot.init with goMask := 1, goAny := true, atStart := true } 1).failingGroup 3
      ((staging { Slot.init with goMask := 1, goAny := true, atStart := true } 1).stepAfter 3) = none ∧
    ((staging Slot.init 1).staged.map (·.1)).Nodup := by decide +kernel
theorem witness_failing : ((staging { Slot.init with goMask := 1, goAny := true, atStart := true } 1).wrStaged (Reg.pocketSlotBound 3 0) 0x7FF000).failingGroup 3
    8 = some 0 := by decide +kernel
theorem test_commit : (after (.structCommitGo 3 0x10005) (staging Slot.init 0)).fld (Reg.structCommitStatus 3) 0 2 = 1 ∧
    (after (.structCommitGo 3 0x10005) (staging Slot.init 1)).rd (Reg.structCommitStatus 3) = 5 ∧
    (after (.structCommitAbort 3 2) (staging { Slot.init with goMask := 1 } 1)).rd (Reg.structCommitStatus 3) = 0x203 ∧
    (after (.groupCommitApply 3) (staging { Slot.init with goMask := 1, goAny := true, atStart := true } 1)).rd (Reg.pocketCfg 3) = 1 := by decide +kernel

/-! ## Well-formedness: an ill-formed operand for each check, and the word test of the table -/

def okPkt : Packet := ctrl 0x21 1 9 0
def badPkts : List Packet := [{ okPkt with kind := 256 }, { okPkt with cls := 4 }, { okPkt with dstModule := 2048 }, { okPkt with srcModule := 2048 },
  { okPkt with srcTile := 256 }, { okPkt with req := 256 }, { okPkt with dstTile := 256 }, { okPkt with hops := 256 }, { okPkt with jobTag := 65536 },
  { okPkt with txn := 0x100000000 }, { okPkt with addr := 2 ^ 64 }, { okPkt with addrLo := 2 ^ 64 }, { okPkt with len := 65537 }, { okPkt with win := 16 },
  { okPkt with epoch := 65536 }, { okPkt with aux := 0x100000000 }, { okPkt with part := 8 }]
theorem wf_packet : okPkt.wf = true ∧ badPkts.all (fun p => !p.wf) = true := by decide +kernel
def okFlit : Flit := ⟨0, 0, [0, 0, 0, 0, 0, 0], 0, false, [okPkt]⟩
theorem wf_flit : (Instr.flitData 2 okFlit).wf = true ∧ ([{ okFlit with seq := 4096 }, { okFlit with ack := 4096 }, { okFlit with credits := [0] },
    { okFlit with credits := [32, 0, 0, 0, 0, 0] }, { okFlit with pkts := badPkts }] : List Flit).all
      (fun f => !(Instr.flitData 2 f).wf && !(Instr.flitIdle 2 f).wf && !(Instr.flitNak 2 f 0).wf) = true := by decide +kernel
def okWide : WideReq := ⟨0, 0x10, 8, 2, none⟩
theorem wf_pocket : (Instr.pocketWideAccess 3 (some okWide) (some .inbound)).wf = true ∧
    ([{ okWide with off := 4 }, { okWide with off := 0x400000 }, { okWide with words := 0 }, { okWide with words := 17 }, { okWide with req := 256 },
      { okWide with wr := some [none] }] : List WideReq).all
        (fun r => !(Instr.pocketWideAccess 3 (some r) none).wf && !(Instr.pocketWideAccess 3 none (some (.own r))).wf) = true ∧
    (Instr.pocketReadData 3 [(0x80000, ⟨false, 0⟩)]).wf = false ∧ (Instr.pocketReadData 3 [(0, ⟨false, 256⟩)]).wf = false ∧
    (Instr.scrubStep 3 (some ⟨true, 256⟩)).wf = false := by decide +kernel
theorem wf_queue : (Instr.placketQCtrlRelease 3 2 32 .bar0).wf = false ∧ (Instr.placketQCtrlCommit 3 2 32 .bar0).wf = false ∧
    (Instr.transferReadData 3 2 (.error 65536)).wf = false ∧ (Instr.writeLanded 3 2 (.error 65536)).wf = false ∧
    (Instr.placketQCtrlRelease 3 2 31 .bar0).wf = true := by decide +kernel
theorem wf_credit : (Instr.creditGrantRequest 3 loaderO 0x3FFFFF 0x40000).wf = true ∧
    ([⟨2048, 0, 0, 0⟩, ⟨0, 256, 0, 0⟩, ⟨0, 0, 256, 0⟩, ⟨0, 0, 0, 8⟩] : List Origin).all (fun o => !(Instr.creditEndMark 3 o).wf) = true ∧
    (Instr.creditGrantRequest 3 loaderO 0x400000 1).wf = false ∧ (Instr.creditGrantRequest 3 loaderO 0 0).wf = false ∧
    (Instr.creditGrantRequest 3 loaderO 0 0x40001).wf = false ∧ (Instr.creditGrantRequest 3 ⟨2048, 0, 0, 0⟩ 0 1).wf = false ∧
    (Instr.creditedWrite 3 loaderO 0 []).wf = false ∧ (Instr.creditedWrite 3 loaderO 0 (List.replicate 129 none)).wf = false ∧
    (Instr.creditedWrite 3 loaderO 0x400000 [none]).wf = false ∧ (Instr.creditedWrite 3 ⟨2048, 0, 0, 0⟩ 0 [none]).wf = false := by decide +kernel
theorem wf_fabric : ([⟨64, 0, 0, 0, none⟩, ⟨0, 2048, 0, 0, none⟩, ⟨0, 0, 256, 0, none⟩, ⟨0, 0, 0, 256, none⟩, ⟨0, 0, 0, 0, some 4⟩] : List ArbReq).all
      (fun r => !r.wf) = true ∧ (Instr.requestTimeout 0x100000000).wf = false ∧ (Instr.beforeImageCopy 5859375).wf = false ∧
    (Instr.beforeImageCopy 5859374).wf = true := by decide +kernel
theorem wf_restart : ([.collected [(2048, 0)] [], .collected [(0, 65536)] [], .collected [] [2048], .received 65536 [] ⟨0, 0, 0, 0, 0⟩,
      .received 0 [2048] ⟨0, 0, 0, 0, 0⟩, .received 0 [] ⟨256, 0, 0, 0, 0⟩, .received 0 [] ⟨0, 256, 0, 0, 0⟩, .received 0 [] ⟨0, 0, 256, 0, 0⟩,
      .received 0 [] ⟨0, 0, 0, 2048, 0⟩, .received 0 [] ⟨0, 0, 0, 0, 0x100000000⟩] : List Decision).all (fun d => !(Instr.epochDecision 3 d).wf) = true ∧
    ([.found [⟨2048, true⟩], .told [(2048, 0)], .told [(0, 2048)]] : List SpareFind).all (fun f => !(Instr.spareRetry 3 f).wf) = true ∧
    ([⟨2 ^ 32, 0, 0, []⟩, ⟨0, 65536, 0, []⟩, ⟨0, 0, 1024, []⟩] : List CommitRec).all (fun c => !(Instr.imageChecksPassed [] [c]).wf) = true := by decide +kernel
theorem wf_host : ([⟨256, 0, 0, 0, 0, 0⟩, ⟨0, 0, 2 ^ 64, 0, 0, 0⟩, ⟨0, 0, 0, 2 ^ 64, 0, 0⟩, ⟨0, 0, 0, 0, 2 ^ 64, 0⟩, ⟨0, 0, 0, 0, 0, 2 ^ 64⟩] : List CmdEntry).all
      (fun e => !(Instr.load e).wf && !(Instr.run e).wf && !(Instr.drain e).wf && !(Instr.kill e).wf && !(Instr.copyIn e).wf &&
        !(Instr.copyOut e).wf && !(Instr.commandNop 7 e).wf) = true ∧
    ([⟨256, 0, 0, 0, 0, 0, 0, 0, 0, [0, 0, 0, 0], 0⟩, ⟨0, 256, 0, 0, 0, 0, 0, 0, 0, [0, 0, 0, 0], 0⟩, ⟨0, 0, 2 ^ 32, 0, 0, 0, 0, 0, 0, [0, 0, 0, 0], 0⟩,
      ⟨0, 0, 0, 2 ^ 64, 0, 0, 0, 0, 0, [0, 0, 0, 0], 0⟩, ⟨0, 0, 0, 0, 2 ^ 64, 0, 0, 0, 0, [0, 0, 0, 0], 0⟩, ⟨0, 0, 0, 0, 0, 2 ^ 32, 0, 0, 0, [0, 0, 0, 0], 0⟩,
      ⟨0, 0, 0, 0, 0, 0, 65536, 0, 0, [0, 0, 0, 0], 0⟩, ⟨0, 0, 0, 0, 0, 0, 0, 65536, 0, [0, 0, 0, 0], 0⟩, ⟨0, 0, 0, 0, 0, 0, 0, 0, 2 ^ 32, [0, 0, 0, 0], 0⟩,
      ⟨0, 0, 0, 0, 0, 0, 0, 0, 0, [], 0⟩, ⟨0, 0, 0, 0, 0, 0, 0, 0, 0, [0, 0, 0, 2 ^ 32], 0⟩] : List SeqEntry).all
      (fun e => !(Instr.submit 3 e (.ok [])).wf && !(Instr.cancel 3 e).wf) = true ∧
    (Instr.submit 3 ⟨0, 0, 0, 0, 0, 0, 0, 0, 0, [0, 0, 0, 0], 0⟩ (.error 65536)).wf = false ∧ (Instr.hbmCopyDone 0 (.error 65536)).wf = false ∧
    (Instr.bar2Read 0x1FFFFFFFFF 2).wf = false ∧ (Instr.bar2Read 0 0).wf = false ∧ (Instr.bar2Read 0 4097).wf = false ∧
    (Instr.bar2Write 0x2000000000 [none]).wf = false ∧ (Instr.bar2Write 0 []).wf = false ∧ (Instr.bar2Write 0 (List.replicate 4097 none)).wf = false ∧
    (Instr.hbmScrubStep 12000000000 none).wf = false ∧ (Instr.pcieCompletionTimeout (.dma 3 2 0x100000000) 0).wf = false := by decide +kernel
/-- No row of the table gives bits. -/
theorem test_no_words (n w : Nat) : decodeTableWord n w = none ∧ State.reset.withFetchWord n w = State.reset := ⟨rfl, rfl⟩
end Sys2Proof.Tests
end

section
/-! SUPPORT. The rows of the register map: every tile has the same registers, and what the words hold at reset. Settles O5. -/

namespace Sys2Proof.Machine

/-! ## Rows of the tile block -/

/-- The bytes that one copy of a register spans, from the index terms that follow the tile's. -/
def RegRow.span : List (Nat × Nat) → Nat
  | [] => 8
  | (stride, count) :: _ => stride * count

/-- The row is one of the tile block: its first index is the tile, and what follows stays inside the tile's 64 KiB. -/
def RegRow.perTile (r : RegRow) : Bool :=
  match r.dims with
  | (stride, count) :: ds => 0x1000000 ≤ r.base && stride == 0x10000 && count == 256 &&
      ds.all (fun d => 0 < d.1) && r.base - 0x1000000 + RegRow.span ds ≤ 0x10000
  | [] => false

/-- An offset past the span names no word of the register. -/
theorem RegRow.rest_past_span (ds : List (Nat × Nat)) (x : Nat) (hpos : ds.all (fun d => 0 < d.1) = true)
    (hx : RegRow.span ds ≤ x) : RegRow.rest ds x ≠ some 0 ∧ RegRow.rest ds x ≠ some 4 := by
  cases ds with
  | nil => simp only [RegRow.span] at hx; simp only [RegRow.rest, ne_eq, Option.some.injEq]; omega
  | cons d ds =>
    obtain ⟨stride, count⟩ := d
    simp only [List.all_cons, Bool.and_eq_true, decide_eq_true_eq] at hpos
    have hge : ¬ x / stride < count := by
      rw [Nat.div_lt_iff_lt_mul hpos.1, Nat.mul_comm]
      exact Nat.not_lt.2 hx
    simp [RegRow.rest, hge]

theorem RegRow.wordOf_eq_none {r : RegRow} {a : Nat} (h0 : RegRow.rest r.dims (a - r.base) ≠ some 0)
    (h4 : RegRow.rest r.dims (a - r.base) ≠ some 4) : r.wordOf a = none := by
  unfold RegRow.wordOf
  split
  · rfl
  · split <;> simp_all

/-- A row of the tile block names the same word in every tile. -/
theorem RegRow.wordOf_perTile {r : RegRow} (h : r.perTile = true) {a : Nat} (h1 : 0x1000000 ≤ a) (h2 : a < 0x2000000) :
    r.wordOf a = r.wordOf (0x1000000 + a % 0x10000) := by
  obtain ⟨base, dims, width, reset, rw, w1c, wo, staged, group⟩ := r
  match dims, h with
  | (stride, count) :: ds, h =>
    simp only [RegRow.perTile, Bool.and_eq_true, decide_eq_true_eq, beq_iff_eq] at h
    obtain ⟨⟨⟨⟨hbase, rfl⟩, rfl⟩, hpos⟩, hspan⟩ := h
    by_cases hb : base ≤ 0x1000000 + a % 0x10000
    · have e : (a - base) % 0x10000 = 0x1000000 + a % 0x10000 - base := by omega
      have e' : (0x1000000 + a % 0x10000 - base) % 0x10000 = 0x1000000 + a % 0x10000 - base := by omega
      simp only [RegRow.wordOf, RegRow.rest, e, e', if_pos (by omega : (a - base) / 0x10000 < 256),
        if_pos (by omega : (0x1000000 + a % 0x10000 - base) / 0x10000 < 256),
        if_neg (by omega : ¬ a < base), if_neg (by omega : ¬ 0x1000000 + a % 0x10000 < base)]
    · have hr : RegRow.wordOf ⟨base, (0x10000, 256) :: ds, width, reset, rw, w1c, wo, staged, group⟩
          (0x1000000 + a % 0x10000) = none := if_pos (by simpa using hb)
      rw [hr]
      by_cases ha : a < base
      · exact if_pos ha
      · have hpast := RegRow.rest_past_span ds ((a - base) % 0x10000) hpos (by omega)
        have e : RegRow.rest ((0x10000, 256) :: ds) (a - base) = RegRow.rest ds ((a - base) % 0x10000) :=
          if_pos (by omega)
        exact RegRow.wordOf_eq_none (e ▸ hpast.1) (e ▸ hpast.2)

theorem findRow_congr {rows : List RegRow} {a b : Nat} (h : ∀ r ∈ rows, r.wordOf a = r.wordOf b) :
    findRow rows a = findRow rows b := by
  induction rows with
  | nil => rfl
  | cons r rows ih =>
    rw [findRow, findRow, h r List.mem_cons_self, ih (fun x hx => h x (List.mem_cons_of_mem _ hx))]

/-- The rows that can hold the offset `o` of a tile. -/
def tileRows (o : Nat) : List RegRow :=
  if o < 0x1000 then pocketRows
  else if o < 0x3000 then placketRows
  else if o < 0x4000 then sleeveRows
  else if o < 0x4800 then cuffRows
  else if o < 0x5000 then suitRows
  else windowRows

theorem rowsAt_tile {a : Nat} (h1 : 0x1000000 ≤ a) (h2 : a < 0x2000000) : rowsAt a = tileRows (a % 0x10000) := by
  rw [rowsAt, if_neg (by omega), if_neg (by omega), if_neg (by omega), if_pos h2]
  rfl

theorem tileRows_perTile (o : Nat) : ∀ r ∈ tileRows o, r.perTile = true := by
  unfold tileRows
  split_ifs <;> decide +kernel

/-- Every tile has the same registers (R581): the register at an address of the tile block is that of tile 0. -/
theorem regAt_tile {a : Nat} (h1 : 0x1000000 ≤ a) (h2 : a < 0x2000000) : regAt a = regAt (0x1000000 + a % 0x10000) := by
  have e : rowsAt (0x1000000 + a % 0x10000) = rowsAt a := by
    rw [rowsAt_tile h1 h2, rowsAt_tile (by omega) (by omega)]
    congr 1
    omega
  rw [regAt, regAt, e]
  exact findRow_congr (fun r hr => RegRow.wordOf_perTile (tileRows_perTile _ r (rowsAt_tile h1 h2 ▸ hr)) h1 h2)

/-- A register of tile `t` at offset `o` is that of tile 0. -/
theorem regAt_tile_offset (t : TileId) {a o : Nat} (ho : o < 0x10000) (ha : a = 0x1000000 + 0x10000 * t + o) :
    regAt a = regAt (0x1000000 + o) := by
  rw [regAt_tile (by omega) (by omega), (by omega : a % 0x10000 = o)]

theorem regReset_tile_offset (t : TileId) {a o : Nat} (ho : o < 0x10000) (ha : a = 0x1000000 + 0x10000 * t + o) :
    regReset a = regReset (0x1000000 + o) := by
  rw [regReset, regAt_tile_offset t ho ha, regReset]

theorem regGroup_tile_offset (t : TileId) {a o : Nat} (ho : o < 0x10000) (ha : a = 0x1000000 + 0x10000 * t + o) :
    regGroup a = regGroup (0x1000000 + o) := by
  rw [regGroup, regAt_tile_offset t ho ha, regGroup]

theorem regAt_cuffTaskArg (t : TileId) (k : SlotId) :
    regAt (Reg.cuffTaskArg t k) =
      some (⟨0x100410C, [(0x10000, 256), (0x40, 4)], 32, 0, 0xFFFFFFFF, 0, 0, 0, none⟩, 0) := by
  rw [regAt_tile_offset t (o := 0x410C + 0x40 * k) (by omega) (by unfold Reg.cuffTaskArg; omega)]
  fin_cases k <;> rfl

/-! ## Reset values (R13) -/

@[simp] theorem State.rd_reset (a : Nat) : State.reset.rd a = regReset a := rfl

theorem regReset_pocketPwrStatus (t : TileId) : regReset (Reg.pocketPwrStatus t) = 0xFF :=
  regReset_tile_offset t (o := 0x8) (by omega) (by unfold Reg.pocketPwrStatus; omega)
theorem regReset_pocketScrubCtrl (t : TileId) : regReset (Reg.pocketScrubCtrl t) = 1 :=
  regReset_tile_offset t (o := 0x60) (by omega) (by unfold Reg.pocketScrubCtrl; omega)
theorem regReset_placketBwSplit (t : TileId) : regReset (Reg.placketBwSplit t) = 0x60604 :=
  regReset_tile_offset t (o := 0x1004) (by omega) (by unfold Reg.placketBwSplit; omega)
theorem regReset_arbThreshWp (t : TileId) : regReset (Reg.arbThreshWp t) = 0x10001000 :=
  regReset_tile_offset t (o := 0x7010) (by omega) (by unfold Reg.arbThreshWp; omega)
theorem regReset_arbThreshNp (t : TileId) : regReset (Reg.arbThreshNp t) = 0x1000 :=
  regReset_tile_offset t (o := 0x7014) (by omega) (by unfold Reg.arbThreshNp; omega)
theorem regReset_placketQLimit (t : TileId) (q : QueueId) : regReset (Reg.placketQLimit t q) = 0x10 := by
  rw [regReset_tile_offset t (o := 0x1108 + 0x20 * q) (by omega) (by unfold Reg.placketQLimit; omega)]
  fin_cases q <;> rfl
theorem regReset_placketQStatus (t : TileId) (q : QueueId) : regReset (Reg.placketQStatus t q) = 0x40000000 := by
  rw [regReset_tile_offset t (o := 0x110C + 0x20 * q) (by omega) (by unfold Reg.placketQStatus; omega)]
  fin_cases q <;> rfl
theorem regReset_cuffTaskStatus (t : TileId) (k : SlotId) : regReset (Reg.cuffTaskStatus t k) = 0 := by
  rw [regReset_tile_offset t (o := 0x4104 + 0x40 * k) (by omega) (by unfold Reg.cuffTaskStatus; omega)]
  fin_cases k <;> rfl
theorem regReset_suitStatus (t : TileId) (i : SlotId) : regReset (Reg.suitStatus t i) = 0 := by
  rw [regReset_tile_offset t (o := 0x4800 + 0x10 * i) (by omega) (by unfold Reg.suitStatus; omega)]
  fin_cases i <;> rfl
theorem regReset_clkPanelStatus (p : PanelId) : regReset (Reg.clkPanelStatus p) = 0x26C0384 := by
  fin_cases p <;> rfl
theorem regReset_fabPortStatus (p : PortId) : regReset (Reg.fabPortStatus p) = 0x20000000 := by
  fin_cases p <;> rfl
theorem regReset_fabPortCtrl (p : PortId) : regReset (Reg.fabPortCtrl p) = 1 := by
  fin_cases p <;> rfl

theorem State.reset_taskState (t : TileId) (k : SlotId) : State.reset.taskState t k = taskFree := by
  rw [State.taskState, State.fld, State.rd_reset, regReset_cuffTaskStatus]
  rfl
theorem State.reset_suitState (t : TileId) (i : SlotId) : State.reset.suitState t i = suitFree := by
  rw [State.suitState, State.fld, State.rd_reset, regReset_suitStatus]
  rfl
theorem State.reset_portState (p : PortId) : State.reset.portState p = 1 := by
  rw [State.portState, State.fld, State.rd_reset, regReset_fabPortStatus]
  rfl
theorem State.reset_portEnabled (p : PortId) : State.reset.bit (Reg.fabPortCtrl p) 0 = true := by
  rw [State.bit, State.rd_reset, regReset_fabPortCtrl]
  rfl

/-- Settles O5: a word that no write has touched reads its reset value, and the reset values are those of the rows,
which are the same in every tile. The state at reset is the module before its rail rises (log entry 3, a choice of the
model). -/
theorem resetLeavesResetValues : Obligations.ResetLeavesResetValues := by
  unfold Obligations.ResetLeavesResetValues
  refine ⟨State.rd_reset, fun _ => rfl, fun t q k => ?_, regReset_clkPanelStatus,
    fun p => ⟨State.reset_portState p, State.reset_portEnabled p⟩, rfl, rfl⟩
  exact ⟨State.reset_taskState t k, State.reset_suitState t k, regReset_pocketPwrStatus t, regReset_placketBwSplit t,
    regReset_placketQLimit t q, regReset_placketQStatus t q, regReset_arbThreshWp t, regReset_arbThreshNp t,
    regReset_pocketScrubCtrl t⟩

end Sys2Proof.Machine
end

section
/-! SUPPORT. Writes of control space: who writes, what is dropped, what a plain word, a 64-bit register and a staged
field take, and the abort of a task that writes outside its range. -/

namespace Sys2Proof.Machine

/-! ## Frames of register writes -/

theorem State.onlyRegs.refl (s : State) (as : List Nat) : s.onlyRegs s as := ⟨rfl, fun _ _ => rfl⟩

/-- A write of a listed word keeps the frame. -/
theorem State.onlyRegs.wr {s u : State} {as : List Nat} {a : Nat} (h : s.onlyRegs u as) (ha : a ∈ as) (v : Word) :
    s.onlyRegs (u.wr a v) as :=
  ⟨congrArg (fun x => x.wr a v) h.1, fun b hb => (State.rd_wr_ne u v (fun e => hb (by rwa [e]))).trans (h.2 b hb)⟩

theorem State.onlyRegs.setFld {s u : State} {as : List Nat} {a : Nat} (h : s.onlyRegs u as) (ha : a ∈ as) (lo len v : Nat) :
    s.onlyRegs (u.setFld a lo len v) as := h.wr ha _

theorem State.onlyRegs.setBit {s u : State} {as : List Nat} {a : Nat} (h : s.onlyRegs u as) (ha : a ∈ as) (i : Nat) (b : Bool) :
    s.onlyRegs (u.setBit a i b) as := h.wr ha _

/-- A field that has been set to a value that fits reads back. -/
theorem State.fld_setFld_of_lt (s : State) (a : Nat) {lo len v : Nat} (h : lo + len ≤ 32) (hv : v < 2 ^ len) :
    (s.setFld a lo len v).fld a lo len = v := by
  rw [State.fld_setFld _ _ _ _ _ h, Nat.mod_eq_of_lt hv]

/-- A bit that has been set reads back. -/
theorem State.bit_setBit (s : State) (a i : Nat) (b : Bool) (hi : i < 32) : (s.setBit a i b).bit a i = b := by
  rw [State.bit, State.setBit, State.rd_setFld_self, getLsbD_putField _ _ _ _ _ hi]
  cases b <;> simp

/-- Setting a bit leaves the other bits of the word. -/
theorem State.getLsbD_setBit_ne (s : State) (a i : Nat) (b : Bool) {j : Nat} (hj : j ≠ i) :
    ((s.setBit a i b).rd a).getLsbD j = (s.rd a).getLsbD j := by
  by_cases h32 : j < 32
  · rw [State.setBit, State.rd_setFld_self, getLsbD_putField _ _ _ _ _ h32, if_neg (by omega)]
  · rw [BitVec.getLsbD_of_ge _ _ (by omega), BitVec.getLsbD_of_ge _ _ (by omega)]

theorem State.setBit_sameBits (s : State) (a i : Nat) (b : Bool) : s.sameBits (s.setBit a i b) a (fun j => j ≠ i) :=
  fun _ hj => s.getLsbD_setBit_ne a i b hj

/-! ## Who writes (R11, R464) -/

/-- A write of firmware, or of the host outside D3hot, reaches the register. -/
theorem State.writeFrom_outside {s : State} {w : Requester} (h : w = .bar0 ∧ s.d3 = false ∨ ∃ c, w = .collar c) (a : Nat)
    (v : Word) : s.writeFrom w a v = s.ctlWrite w a v := by
  rcases h with ⟨rfl, hd⟩ | ⟨c, rfl⟩
  · simp [State.writeFrom, hd]
  · rfl

theorem exec_registerWrite {s : State} {w : Requester} (h : w = .bar0 ∧ s.d3 = false ∨ ∃ c, w = .collar c) (a v : Word) :
    exec (.registerWrite w a v) s = .next (s.ctlWrite w a.toNat v) := by
  rw [← State.writeFrom_outside h]
  rfl

/-- A write to a register with staged fields is one act under either name. -/
theorem exec_stagedFieldWrite {s : State} {w : Requester} (h : w = .bar0 ∧ s.d3 = false ∨ ∃ c, w = .collar c) (a v : Word)
    (hg : regGroup a.toNat ≠ none) : exec (.stagedFieldWrite w a v) s = .next (s.ctlWrite w a.toNat v) := by
  rw [← State.writeFrom_outside h]
  exact congrArg Host.Outcome.next (if_neg hg)

theorem exec_registerWrite_d3 {s : State} (h : s.d3 = true) (a v : Word) : exec (.registerWrite .bar0 a v) s = .next s :=
  congrArg Host.Outcome.next (if_pos h)

/-! ## Writes that are dropped, and writes that land (R11, R15, R502) -/

theorem State.ctlWrite_dropped {s : State} {a : Nat} (h : a % 4 ≠ 0 ∨ regAt a = none ∨ s.regOn a = false) (w : Requester)
    (v : Word) : s.ctlWrite w a v = s := by
  unfold State.ctlWrite State.ctl
  rcases h with h | h | h
  · rw [if_neg h]
  · simp [State.regPut, h]
  · simp [h]

theorem State.ctlWrite_lands {s : State} {a : Nat} (h4 : a % 4 = 0) (hon : s.regOn a = true) (w : Requester) (v : Word) :
    s.ctlWrite w a v = s.regPut w a v := by
  rw [State.ctlWrite, if_pos h4, State.ctl, if_pos hon]

/-! ## Words whose fields are all RW (R13) -/

theorem State.putBits_rw {a : Nat} {m : Word} (hrw : rwMask a = m) (hw1c : w1cMask a = 0#32) (s : State) (v : Word) :
    s.putBits a v = s.wr a ((s.rd a &&& ~~~ m) ||| (v &&& m)) := by
  rw [State.putBits, hrw, hw1c, BitVec.and_zero, BitVec.not_zero, BitVec.and_allOnes]

theorem State.putBits_whole {a : Nat} (hrw : rwMask a = BitVec.allOnes 32) (hw1c : w1cMask a = 0#32) (s : State) (v : Word) :
    s.putBits a v = s.wr a v := by
  rw [State.putBits_rw hrw hw1c, BitVec.not_allOnes, BitVec.and_zero, BitVec.zero_or, BitVec.and_allOnes]

/-- The word at `a` has the RW bits `m`, no others that a write changes, and no effect beside. -/
def plainWord (a : Nat) (m : Word) : Prop :=
  a % 4 = 0 ∧ ∀ (s : State) (w : Requester) (v : Word), s.regPut w a v = s.wr a ((s.rd a &&& ~~~ m) ||| (v &&& m))

theorem plainWord_of_mem {a : Nat} {m : Word} (h : (a, m) ∈ [(Reg.meshClassSrc, 0xFFFFF#32), (Reg.pwrComputeAuto, 0xFFFFF#32),
    (Reg.fabTimeout, 0x7FFFFF#32), (Reg.clkGateCfg, 0xF#32)]) : plainWord a m := by
  simp only [List.mem_cons, Prod.mk.injEq, List.not_mem_nil, or_false] at h
  rcases h with ⟨rfl, rfl⟩ | ⟨rfl, rfl⟩ | ⟨rfl, rfl⟩ | ⟨rfl, rfl⟩ <;>
    exact ⟨rfl, fun s _ v => State.putBits_rw rfl rfl s v⟩

/-- A write of the Cuff block of a tile lands there. -/
theorem State.regPut_cuffBlock {s : State} {w : Requester} {r : RegRow} {n : Nat} (t : TileId) {a o : Nat} (v : Word)
    (ha : a = 0x1000000 + 0x10000 * t + o) (ho : 0x4000 ≤ o ∧ o < 0x5000) (hrow : regAt a = some (r, n)) (hw : r.width ≠ 64)
    (hg : r.group = none) : s.regPut w a v = s.cuffRegWrite t a v := by
  have ht : (a - 0x1000000) / 0x10000 = t := by omega
  have hm : a % 0x10000 = o := by omega
  simp only [State.regPut, hrow, if_neg hw, hg, Option.isSome_none, Bool.false_eq_true, if_false,
    if_neg (by omega : ¬ a < 0x100000), if_neg (by omega : ¬ a < 0x1000000), if_pos (by omega : a < 0x2000000),
    State.tileRegWrite, ht, hm, if_neg (by omega : ¬ o < 0x1000), if_neg (by omega : ¬ o < 0x4000), if_pos ho.2]

theorem State.cuffRegWrite_taskArg (s : State) (t : TileId) (k : SlotId) (v : Word) :
    s.cuffRegWrite t (Reg.cuffTaskArg t k) v = s.putBits (Reg.cuffTaskArg t k) v := by
  have ho : Reg.cuffTaskArg t k % 0x10000 = 0x410C + 0x40 * k := by unfold Reg.cuffTaskArg; omega
  have hk : (0x410C + 0x40 * k.val - 0x4100) / 0x40 = k := by omega
  have h1 : Reg.cuffTaskArg t k ≠ Reg.cuffDoorbell t := by unfold Reg.cuffTaskArg Reg.cuffDoorbell; omega
  have h2 : Reg.cuffTaskArg t k ≠ Reg.cuffCtrClear t := by unfold Reg.cuffTaskArg Reg.cuffCtrClear; omega
  have h3 : Reg.cuffTaskArg t k ≠ Reg.cuffTaskCtrl t k := by unfold Reg.cuffTaskArg Reg.cuffTaskCtrl; omega
  have h4 : Reg.cuffTaskArg t k ≠ Reg.cuffTaskErr t k := by unfold Reg.cuffTaskArg Reg.cuffTaskErr; omega
  rw [State.cuffRegWrite, ho, hk, if_neg h1, if_neg h2, if_pos (by omega), if_neg h3, if_neg h4]

theorem plainWord_cuffTaskArg (t : TileId) (k : SlotId) : plainWord (Reg.cuffTaskArg t k) 0xFFFFFFFF#32 := by
  have hrow := regAt_cuffTaskArg t k
  refine ⟨by unfold Reg.cuffTaskArg; omega, fun s w v => ?_⟩
  rw [State.regPut_cuffBlock t (o := 0x410C + 0x40 * k) v (by unfold Reg.cuffTaskArg; omega) (by omega) hrow (by decide) rfl,
    State.cuffRegWrite_taskArg]
  exact State.putBits_rw (by rw [rwMask, hrow]; rfl) (by rw [w1cMask, hrow]; rfl) s v

theorem State.ctlWrite_plainWord {s : State} {a : Nat} {m : Word} (h : plainWord a m) (hon : s.regOn a = true)
    (w : Requester) (v : Word) : s.ctlWrite w a v = s.wr a ((s.rd a &&& ~~~ m) ||| (v &&& m)) := by
  rw [State.ctlWrite_lands h.1 hon, h.2]

/-! ## Words of a 64-bit register (R12, R585) -/

theorem State.ctlWrite_structLoadAddr_low (s : State) (w : Requester) (v : Word) :
    s.ctlWrite w Reg.structLoadAddr v = { s with heldLow := tset s.heldLow (pairKey w Reg.structLoadAddr) v } := rfl

/-- The high word completes the pair: both words of the register take their values. -/
theorem State.ctlWrite_structLoadAddr_high (s : State) (w : Requester) (v : Word) :
    s.ctlWrite w (Reg.structLoadAddr + 4) v =
      { (s.wr Reg.structLoadAddr (tget s.heldLow 0 (pairKey w Reg.structLoadAddr))).wr (Reg.structLoadAddr + 4) v with
        heldLow := tdel s.heldLow (pairKey w Reg.structLoadAddr) } := by
  show ((State.putBits _ Reg.structLoadAddr _).putBits (Reg.structLoadAddr + 4) v) = _
  rw [State.putBits_whole rfl rfl, State.putBits_whole rfl rfl]
  rfl

/-! ## Staged fields (R55, R60) -/

theorem State.rdStaged_wrStaged_self (s : State) (a : Nat) (v : Word) : (s.wrStaged a v).rdStaged a = v := by
  simp [State.rdStaged, State.wrStaged]
theorem State.rdStaged_wrStaged_ne (s : State) {a b : Nat} (v : Word) (h : b ≠ a) :
    (s.wrStaged a v).rdStaged b = s.rdStaged b := by
  simp [State.rdStaged, State.wrStaged, tget_tset_ne _ _ _ h]

/-- The staged fields of the word at `a` take their values from `v`. -/
def State.stage (s : State) (a : Nat) (v : Word) : State :=
  s.wrStaged a ((s.rdStaged a &&& ~~~ stagedMask a) ||| (v &&& stagedMask a))

theorem State.regPut_staged {s : State} {a g n : Nat} {r : RegRow} (hrow : regAt a = some (r, n)) (hw : r.width = 32)
    (hg : r.group = some g) (w : Requester) (v : Word) : s.regPut w a v = s.writeStaged a v := by
  simp only [State.regPut, hrow, hw, hg, Option.isSome_some, if_true, Nat.reduceEqDiff, if_false]

theorem regGroup_of_regAt {a g n : Nat} {r : RegRow} (hrow : regAt a = some (r, n)) (hg : r.group = some g) :
    regGroup a = some g := by
  simp [regGroup, hrow, hg]

/-- While its group is pending a staged write is dropped, and the drop is latched. -/
theorem State.writeStaged_pending {s : State} {a g q : Nat} (hg : regGroup a = some g) (hq : s.wordPart' a = some q)
    (hp : s.fld (Reg.structCommitStatus q) 0 2 = 1 ∧ (s.slot q).goMask.testBit g = true) (v : Word) :
    s.writeStaged a v = s.setBit (Reg.structCommitStatus q) 3 true := by
  simp only [State.writeStaged, hg, hq, if_pos hp]

/-- Otherwise it lands, and its group becomes dirty. -/
theorem State.writeStaged_lands {s : State} {a g q : Nat} (hg : regGroup a = some g) (hq : s.wordPart' a = some q)
    (hp : ¬ (s.fld (Reg.structCommitStatus q) 0 2 = 1 ∧ (s.slot q).goMask.testBit g = true)) (v : Word) :
    s.writeStaged a v = (s.stage a v).setBit (Reg.structCommitDirty q) g true := by
  simp only [State.writeStaged, hg, hq, if_neg hp, State.stage]

/-- The staged fields of a word of no partition land and mark nothing. -/
theorem State.writeStaged_noPart {s : State} {a g : Nat} (hg : regGroup a = some g) (hq : s.wordPart' a = none) (v : Word) :
    s.writeStaged a v = s.stage a v := by
  simp only [State.writeStaged, hg, hq, State.stage]

/-! ## A task's write outside its range (R337) -/

theorem State.setTaskState_taskState (s : State) (t k st reason : Nat) :
    (s.setTaskState t k st reason).taskState t k = st % 2 ^ 3 := by
  have hne : Reg.cuffTaskStatus t k ≠ Reg.cuffStatus t := by unfold Reg.cuffTaskStatus Reg.cuffStatus; omega
  rw [State.taskState, State.setTaskState, State.setBit, State.fld_setFld_out _ _ _ _ _ _ hne,
    State.fld_setFld_ne _ _ _ _ _ _ _ (by omega), State.fld_setFld _ _ _ _ _ (by omega)]

/-- Stopping a job changes no register word. -/
theorem State.stopJob_regs (s : State) (q code cls sub unit seq : Nat) :
    (s.stopJob q code cls sub unit seq).regs = s.regs := by
  unfold State.stopJob
  split <;> rfl

theorem State.taskState_of_regs {s u : State} (h : u.regs = s.regs) (t k : Nat) : u.taskState t k = s.taskState t k := by
  simp only [State.taskState, State.fld, State.rd, h]

theorem State.taskOver_of_canIssue {s : State} {t k : Nat} (h : s.canIssue t k = true) : s.taskOver t k = false := by
  simp only [State.canIssue, Bool.or_eq_true, beq_iff_eq] at h
  rcases h with h | h <;> simp [State.taskOver, h, taskRunning, taskWaiting, taskAborted, taskCancelled]

/-- A fault charged to a task that has not ended aborts it. -/
theorem State.chargeTask_taskState {s : State} {t k : Nat} (h : s.taskOver t k = false) (unit code sub : Nat)
    (latch : State → State) (ctx : State → Nat × Nat × Nat) :
    (s.chargeTask t k unit code sub latch ctx).taskState t k = taskAborted := by
  simp only [State.chargeTask, h, Bool.false_eq_true, if_false]
  split
  · rw [State.taskState_of_regs (State.stopJob_regs ..), State.setTaskState_taskState]
    rfl
  · exact State.setTaskState_taskState ..

theorem State.illegal_taskState {s : State} {t k : Nat} (h : s.taskOver t k = false) (sub : Nat) :
    (s.illegal t k sub).taskState t k = taskAborted := by
  rw [State.illegal, State.cuffFault]
  exact State.chargeTask_taskState h ..

theorem exec_registerWrite_outOfRange {s : State} {t : TileId} {k : SlotId} {a : Word} (hr : taskReaches t a.toNat = false)
    (hi : s.canIssue t k = true) (v : Word) :
    exec (.registerWrite (.task t k) a v) s = .next (s.illegal t k 0x04) := by
  show Host.Outcome.next (s.writeFrom (.task t k) a.toNat v) = _
  simp [State.writeFrom, hr, hi]

end Sys2Proof.Machine
end

section
/-! SUPPORT. The group commit: its requests, and what its application changes and leaves. -/

namespace Sys2Proof.Machine

/-! ## Commit requests (R57, R60) -/

theorem Reg.structCommitStatus_ne_ctrl (q : Nat) : Reg.structCommitStatus q ≠ Reg.structCommitCtrl q := by
  unfold Reg.structCommitStatus Reg.structCommitCtrl
  omega

theorem State.fld_wr_ne (s : State) {a j : Nat} (v : Word) (lo len : Nat) (h : j ≠ a) :
    (s.wr a v).fld j lo len = s.fld j lo len := by
  rw [State.fld, State.rd_wr_ne s v h, State.fld]

/-- The word that STRUCT_COMMIT_GO writes: GO set and ABORT clear. -/
theorem goWord_eq_putField (v : Word) : v &&& ~~~ 3#32 ||| 1#32 = putField v 0 2 1 := rfl

theorem exec_structCommitGo (q : PartId) (v : Word) (s : State) :
    exec (.structCommitGo q v) s = .next (s.commitGo q (putField v 0 2 1)) := by
  show Host.Outcome.next (s.writeCommitCtrl q (v &&& ~~~ 3#32 ||| 1#32)) = _
  rw [goWord_eq_putField, State.writeCommitCtrl, getLsbD_putField _ _ _ _ _ (by omega), getLsbD_putField _ _ _ _ _ (by omega)]
  rfl

theorem goMaskOf_goWord (v : Word) : goMaskOf (putField v 0 2 1) = fieldOf v 16 10 :=
  fieldOf_putField_ne v 0 2 1 16 10 (by omega)

theorem State.commitGo_pending {s : State} {q : Nat} (h : s.fld (Reg.structCommitStatus q) 0 2 = 1) (v : Word) :
    s.commitGo q v = s.setBit (Reg.structCommitStatus q) 2 true := if_pos h

/-- STRUCT_COMMIT_STATUS of a request that is taken: FAIL_CAUSE and FAIL_GROUP at rest. -/
def State.commitTaken (s : State) (q : Nat) (v : Word) : State :=
  ((s.putCommitCtrl q v).setFld (Reg.structCommitStatus q) 8 8 0).setFld (Reg.structCommitStatus q) 16 8 0xFF

theorem State.commitGo_noGroup {s : State} {q : Nat} {v : Word} (h : s.fld (Reg.structCommitStatus q) 0 2 ≠ 1)
    (hm : goMaskOf v = 0) : s.commitGo q v = (s.commitTaken q v).setFld (Reg.structCommitStatus q) 0 2 2 := by
  rw [State.commitGo, if_neg h, if_pos hm, State.commitTaken]

theorem State.commitGo_groups {s : State} {q : Nat} {v : Word} (h : s.fld (Reg.structCommitStatus q) 0 2 ≠ 1)
    (hm : goMaskOf v ≠ 0) : s.commitGo q v = ((s.commitTaken q v).setFld (Reg.structCommitStatus q) 0 2 1).setSlot q
      { s.slot q with goMask := goMaskOf v, goAny := v.getLsbD 2 } := by
  rw [State.commitGo, if_neg h, if_neg hm, State.commitTaken]
  rfl

theorem State.commitTaken_onlyRegs (s : State) (q : Nat) (v : Word) :
    s.onlyRegs (s.commitTaken q v) [Reg.structCommitStatus q, Reg.structCommitCtrl q] :=
  (((State.onlyRegs.refl s _).wr (by simp) _).setFld (by simp) _ _ _).setFld (by simp) _ _ _

/-- ABORT of a pending request whose groups are not live yet. -/
theorem exec_structCommitAbort {s : State} {q : PartId} {v : Word} (h : s.fld (Reg.structCommitStatus q) 0 2 = 1)
    (hw : (s.slot q).commitWait = false) (hv : v.getLsbD 0 = false) :
    exec (.structCommitAbort q v) s = .next ((((s.setFld (Reg.structCommitStatus q) 0 2 3).setFld
      (Reg.structCommitStatus q) 8 8 2)).putCommitCtrl q (v ||| 2#32)) := by
  have h1 : (v ||| 2#32).getLsbD 1 = true := by rw [BitVec.getLsbD_or]; simp
  have h0 : (v ||| 2#32).getLsbD 0 = false := by rw [BitVec.getLsbD_or, hv]; rfl
  show Host.Outcome.next (s.writeCommitCtrl q (v ||| 2#32)) = _
  simp only [State.writeCommitCtrl, h0, h1, if_true, State.commitAbort, h, hw, decide_true, Bool.not_false, Bool.and_self,
    Bool.false_eq_true, if_false]

/-! ## Application (R58, R59) -/

theorem exec_groupCommitApply_due {s : State} {q : PartId} (h : s.commitDue q = true) :
    exec (.groupCommitApply q) s = .next (s.applyCommit q (s.stepAfter q)) := by
  exact congrArg Host.Outcome.next (if_pos h)

/-- What making groups live leaves alone beside the staged words that it writes: the words of registers with staged
fields, the staged copies, and HBM. -/
structure State.sameGroups (s u : State) : Prop where
  rd : ∀ a g, regGroup a = some g → u.rd a = s.rd a
  staged : u.staged = s.staged
  hbm : u.hbm = s.hbm

theorem State.sameGroups.refl (s : State) : s.sameGroups s := ⟨fun _ _ _ => rfl, rfl, rfl⟩

theorem State.sameGroups.wr {s u : State} (h : s.sameGroups u) {a : Nat} (ha : regGroup a = none) (v : Word) :
    s.sameGroups (u.wr a v) where
  rd b g hb := (State.rd_wr_ne u v (fun e => by simp [e, ha] at hb)).trans (h.rd b g hb)
  staged := h.staged
  hbm := h.hbm

theorem State.sameGroups.setBit {s u : State} (h : s.sameGroups u) {a : Nat} (ha : regGroup a = none) (i : Nat) (b : Bool) :
    s.sameGroups (u.setBit a i b) := h.wr ha _

theorem State.sameGroups.zeroPocket {s u : State} (h : s.sameGroups u) (t off len : Nat) :
    s.sameGroups (u.zeroPocket t off len) := ⟨h.rd, h.staged, h.hbm⟩

theorem State.sameGroups.setSlot {s u : State} (h : s.sameGroups u) (q : Nat) (x : Slot) :
    s.sameGroups (u.setSlot q x) := ⟨h.rd, h.staged, h.hbm⟩

theorem regGroup_pocketPwrStatus (t : TileId) : regGroup (Reg.pocketPwrStatus t) = none :=
  regGroup_tile_offset t (o := 0x8) (by omega) (by unfold Reg.pocketPwrStatus; omega)
theorem regGroup_sbStatus (t : TileId) : regGroup (Reg.sbStatus t) = none :=
  regGroup_tile_offset t (o := 0x6000) (by omega) (by unfold Reg.sbStatus; omega)
theorem regGroup_structCommitStatus (q : PartId) : regGroup (Reg.structCommitStatus q) = none := by
  fin_cases q <;> rfl
theorem regGroup_structCommitDirty (q : PartId) : regGroup (Reg.structCommitDirty q) = none := by
  fin_cases q <;> rfl

/-- Bank groups that change power (R78). -/
theorem State.sameGroups.applyPower {s u : State} (h : s.sameGroups u) (t : TileId) : s.sameGroups (u.applyPower t) := by
  have hp := regGroup_pocketPwrStatus t
  unfold State.applyPower
  refine List.foldlRecOn (List.range 8) _ h (fun x hx g _ => ?_)
  dsimp only
  split_ifs
  · exact hx
  · exact hx.setBit hp _ _
  · exact ((hx.setBit hp _ _).setBit hp _ _).zeroPocket _ _ _
  · exact hx

theorem State.lt_of_mem_tilesOf {s : State} {q t : Nat} (h : t ∈ s.tilesOf q) : t < 256 :=
  List.mem_range.1 (List.mem_filter.1 h).1

/-- Tiles that change scoreboard mode (R338). -/
theorem State.sameGroups.refreshModes {s u : State} (h : s.sameGroups u) (q : Nat) : s.sameGroups (u.refreshModes q) :=
  List.foldlRecOn (u.tilesOf q) _ h
    (fun _ hx t ht => hx.setBit (regGroup_sbStatus ⟨t, State.lt_of_mem_tilesOf ht⟩) _ _)

theorem State.sameGroups.afterGroups {s u : State} (h : s.sameGroups u) (q mask : Nat) :
    s.sameGroups (u.afterGroups q mask) := by
  have hpower : s.sameGroups ((u.tilesOf q).foldl State.applyPower u) :=
    List.foldlRecOn (u.tilesOf q) _ h (fun _ hx t ht => hx.applyPower ⟨t, State.lt_of_mem_tilesOf ht⟩)
  unfold State.afterGroups
  split_ifs
  · exact hpower.refreshModes q
  · exact hpower
  · exact h.refreshModes q
  · exact h

theorem State.sameGroups.commitWoken {s u : State} (h : s.sameGroups u) (q : PartId) : s.sameGroups (u.commitWoken q) := by
  unfold State.commitWoken
  split_ifs
  · exact (h.setSlot _ _).wr (regGroup_structCommitStatus q) _
  · exact h

/-- A commit whose groups are live is APPLIED, or waits for bank groups to wake. -/
theorem State.commitWoken_applied_or_waits {s : State} {q : Nat} (h : (s.slot q).commitWait = true) :
    (s.commitWoken q).fld (Reg.structCommitStatus q) 0 2 = 2 ∨ ((s.commitWoken q).slot q).commitWait = true := by
  unfold State.commitWoken
  split_ifs
  · exact .inl (State.fld_setFld _ _ _ _ _ (by omega))
  · exact .inr h

/-! ## The staged words that a commit makes live -/

/-- The words of a list are written one after the other. -/
theorem State.rd_writes_out (l : List (Nat × Word)) (s : State) {b : Nat} (h : b ∉ l.map (·.1)) :
    (l.foldl (fun s e => s.wr e.1 e.2) s).rd b = s.rd b := by
  induction l generalizing s with
  | nil => rfl
  | cons e l ih =>
    simp only [List.map_cons, List.mem_cons, not_or] at h
    rw [List.foldl_cons, ih _ h.2, State.rd_wr_ne _ _ h.1]

theorem State.rd_writes_in (l : List (Nat × Word)) (s : State) (hnd : (l.map (·.1)).Nodup) {b : Nat} {v : Word}
    (h : (b, v) ∈ l) : (l.foldl (fun s e => s.wr e.1 e.2) s).rd b = v := by
  induction l generalizing s with
  | nil => simp at h
  | cons e l ih =>
    simp only [List.map_cons, List.nodup_cons] at hnd
    rw [List.foldl_cons]
    rcases List.mem_cons.1 h with rfl | h
    · rw [State.rd_writes_out l _ hnd.1, State.rd_wr_self]
    · exact ih _ hnd.2 h

theorem mem_of_tfind {α : Type} {t : List (Nat × α)} {k : Nat} {v : α} (h : tfind t k = some v) : (k, v) ∈ t := by
  induction t with
  | nil => simp [tfind] at h
  | cons p t ih =>
    obtain ⟨k', v'⟩ := p
    by_cases hk : k' = k
    · simp_all [tfind]
    · exact List.mem_cons_of_mem _ (ih (by simpa [tfind, hk] using h))

theorem State.groupWords_keys_nodup {s : State} (h : (s.staged.map (·.1)).Nodup) (q mask : Nat) :
    ((s.groupWords q mask).map (·.1)).Nodup := by
  rw [State.groupWords, List.map_map]
  exact h.sublist (List.filter_sublist.map _)

theorem State.mem_groupWords {s : State} {q mask b g : Nat} {w : Word} (hw : tfind s.staged b = some w)
    (hq : s.wordPart' b = some q) (hg : regGroup b = some g) (hm : mask.testBit g = true) :
    (b, (s.rd b &&& ~~~ stagedMask b) ||| (w &&& stagedMask b)) ∈ s.groupWords q mask :=
  List.mem_map.2 ⟨(b, w), List.mem_filter.2 ⟨mem_of_tfind hw, by simp [hq, hg, hm]⟩, rfl⟩

/-- The live word of a committed group takes its staged fields. -/
theorem State.rd_withGroups {s : State} (hnd : (s.staged.map (·.1)).Nodup) {q mask b g : Nat} {w : Word}
    (hw : tfind s.staged b = some w) (hq : s.wordPart' b = some q) (hg : regGroup b = some g) (hm : mask.testBit g = true) :
    (s.withGroups q mask).rd b = (s.rd b &&& ~~~ stagedMask b) ||| (w &&& stagedMask b) :=
  State.rd_writes_in _ s (State.groupWords_keys_nodup hnd q mask) (State.mem_groupWords hw hq hg hm)

theorem State.withGroups_staged_hbm (s : State) (q mask : Nat) :
    (s.withGroups q mask).staged = s.staged ∧ (s.withGroups q mask).hbm = s.hbm :=
  List.foldlRecOn (motive := fun x : State => x.staged = s.staged ∧ x.hbm = s.hbm) (s.groupWords q mask) _ ⟨rfl, rfl⟩
    (fun _ h _ _ => h)

theorem State.applyCommit_fails {s : State} {q step g : Nat} (h : s.failingGroup q step = some g) :
    s.applyCommit q step = ((s.setFld (Reg.structCommitStatus q) 0 2 3).setFld (Reg.structCommitStatus q) 8 8 1).setFld
      (Reg.structCommitStatus q) 16 8 g := by
  simp only [State.applyCommit, h]

/-- A commit that passes changes, beside the words it makes live, no word with staged fields, no staged copy and no HBM;
and it is APPLIED or waits. -/
theorem State.applyCommit_passes {s : State} {q : PartId} {step : Nat} (h : s.failingGroup q step = none) :
    (s.withGroups q (s.slot q).goMask).sameGroups (s.applyCommit q step) ∧
      ((s.applyCommit q step).fld (Reg.structCommitStatus q) 0 2 = 2 ∨ ((s.applyCommit q step).slot q).commitWait = true) := by
  simp only [State.applyCommit, h]
  refine ⟨?_, State.commitWoken_applied_or_waits (by rw [State.slot_setSlot_self])⟩
  exact ((((State.sameGroups.refl _).afterGroups q _).wr (regGroup_structCommitDirty q) _).setSlot _ _).commitWoken q

end Sys2Proof.Machine
end

section
/-! SUPPORT. The clauses of the control-space statement, and the statement. Settles O60. -/

namespace Sys2Proof.Machine

/-! ## The clauses of O60, one by one -/

section Outside
variable {s : State} {w : Requester} (hw : w = .bar0 ∧ s.d3 = false ∨ ∃ c, w = .collar c)
include hw

/-- R13: a write of a word whose fields are all RW. -/
theorem registerWrite_plainWord {a v m : Word} (ha : plainWord a.toNat m) (hon : s.regOn a.toNat = true) :
    Answers (.registerWrite w a v) s (fun u =>
      u.rd a.toNat = (s.rd a.toNat &&& ~~~ m) ||| (v &&& m) ∧ s.onlyRegs u [a.toNat]) := by
  refine ⟨_, exec_registerWrite hw a v, ?_⟩
  rw [State.ctlWrite_plainWord ha hon]
  exact ⟨State.rd_wr_self .., (State.onlyRegs.refl s _).wr List.mem_cons_self _⟩

/-- R12: the low word of a 64-bit register is held. -/
theorem registerWrite_structLoadAddr_low {a v : Word} (ha : a.toNat = Reg.structLoadAddr) :
    Answers (.registerWrite w a v) s (fun u =>
      tget u.heldLow 0 (pairKey w Reg.structLoadAddr) = v ∧ u = { s with heldLow := u.heldLow }) := by
  refine ⟨_, exec_registerWrite hw a v, ?_⟩
  rw [ha, State.ctlWrite_structLoadAddr_low]
  exact ⟨tget_tset_self .., rfl⟩

/-- R12: the high word makes the whole value take effect. -/
theorem registerWrite_structLoadAddr_high {a v : Word} (ha : a.toNat = Reg.structLoadAddr + 4) :
    Answers (.registerWrite w a v) s (fun u =>
      u.rd Reg.structLoadAddr = tget s.heldLow 0 (pairKey w Reg.structLoadAddr) ∧ u.rd (Reg.structLoadAddr + 4) = v ∧
      s.onlyRegs { u with heldLow := s.heldLow } [Reg.structLoadAddr, Reg.structLoadAddr + 4]) := by
  refine ⟨_, exec_registerWrite hw a v, ?_⟩
  rw [ha, State.ctlWrite_structLoadAddr_high]
  refine ⟨?_, State.rd_wr_self .., ((State.onlyRegs.refl s _).wr (by simp) _).wr (by simp) _⟩
  exact (State.rd_wr_ne _ _ (by decide)).trans (State.rd_wr_self ..)

/-- A write of a register with staged fields, under either name, is a write of its staged copy. -/
theorem exec_write_staged {c : Instr} {a v : Word} {r : RegRow} {n g : Nat}
    (hc : c = .registerWrite w a v ∨ c = .stagedFieldWrite w a v) (h4 : a.toNat % 4 = 0) (hon : s.regOn a.toNat = true)
    (hrow : regAt a.toNat = some (r, n)) (hwidth : r.width = 32) (hg : r.group = some g) :
    exec c s = .next (s.writeStaged a.toNat v) := by
  have hgroup : regGroup a.toNat ≠ none := by simp [regGroup_of_regAt hrow hg]
  rw [← State.regPut_staged hrow hwidth hg w v, ← State.ctlWrite_lands h4 hon]
  rcases hc with rfl | rfl
  · exact exec_registerWrite hw a v
  · exact exec_stagedFieldWrite hw a v hgroup

end Outside

/-- R337: a task that writes outside its range aborts. -/
theorem registerWrite_outOfRange {s : State} {t : TileId} {k : SlotId} {a : Word} (hr : taskReaches t a.toNat = false)
    (hi : s.canIssue t k = true) (v : Word) :
    Answers (.registerWrite (.task t k) a v) s (fun u => u.taskState t k = taskAborted) :=
  ⟨_, exec_registerWrite_outOfRange hr hi v, State.illegal_taskState (State.taskOver_of_canIssue hi) 0x04⟩

/-- The staged fields of `a` take the value; every other staged copy stays. -/
theorem State.stage_landed (s : State) (a : Nat) (v : Word) :
    (s.stage a v).rdStaged a = (s.rdStaged a &&& ~~~ stagedMask a) ||| (v &&& stagedMask a) ∧
      ∀ b, b ≠ a → (s.stage a v).rdStaged b = s.rdStaged b :=
  ⟨State.rdStaged_wrStaged_self .., fun _ hb => State.rdStaged_wrStaged_ne s _ hb⟩

/-- R60: a staged write into a pending group. -/
theorem State.writeStaged_pending_result {s : State} {a g q : Nat} (hg : regGroup a = some g) (hq : s.wordPart' a = some q)
    (hp : s.fld (Reg.structCommitStatus q) 0 2 = 1 ∧ (s.slot q).goMask.testBit g = true) (v : Word) :
    (s.writeStaged a v).staged = s.staged ∧ (s.writeStaged a v).bit (Reg.structCommitStatus q) 3 = true ∧
      s.onlyRegs (s.writeStaged a v) [Reg.structCommitStatus q] := by
  rw [State.writeStaged_pending hg hq hp]
  exact ⟨rfl, State.bit_setBit _ _ _ _ (by omega), (State.onlyRegs.refl s _).setBit (by simp) _ _⟩

/-- R55: a staged write into a group that is not pending. -/
theorem State.writeStaged_lands_result {s : State} {a g q : Nat} (hg : regGroup a = some g) (hq : s.wordPart' a = some q)
    (hp : s.fld (Reg.structCommitStatus q) 0 2 ≠ 1 ∨ (s.slot q).goMask.testBit g = false) (v : Word) :
    ((s.writeStaged a v).rdStaged a = (s.rdStaged a &&& ~~~ stagedMask a) ||| (v &&& stagedMask a) ∧
      ∀ b, b ≠ a → (s.writeStaged a v).rdStaged b = s.rdStaged b) ∧
    s.onlyRegs { s.writeStaged a v with staged := s.staged } [Reg.structCommitDirty q] ∧
    (g < 32 → (s.writeStaged a v).bit (Reg.structCommitDirty q) g = true) := by
  have hnot : ¬ (s.fld (Reg.structCommitStatus q) 0 2 = 1 ∧ (s.slot q).goMask.testBit g = true) := by
    rintro ⟨h1, h2⟩
    rcases hp with hp | hp
    · exact hp h1
    · simp [hp] at h2
  rw [State.writeStaged_lands hg hq hnot]
  exact ⟨s.stage_landed a v, (State.onlyRegs.refl s _).setBit (by simp) _ _, State.bit_setBit _ _ _ _⟩

/-- R60: GO while a request is pending is refused. -/
theorem structCommitGo_pending {s : State} {q : PartId} (h : s.fld (Reg.structCommitStatus q) 0 2 = 1) (v : Word) :
    Answers (.structCommitGo q v) s (fun u => u.bit (Reg.structCommitStatus q) 2 = true ∧
      s.sameBits u (Reg.structCommitStatus q) (fun j => j ≠ 2) ∧ s.onlyRegs u [Reg.structCommitStatus q]) := by
  refine ⟨_, exec_structCommitGo q v s, ?_⟩
  rw [State.commitGo_pending h]
  exact ⟨State.bit_setBit _ _ _ _ (by omega), State.setBit_sameBits _ _ _ _, (State.onlyRegs.refl s _).setBit (by simp) _ _⟩

/-- R57: GO with groups makes a pending request. -/
theorem structCommitGo_groups {s : State} {q : PartId} {v : Word} (h : s.fld (Reg.structCommitStatus q) 0 2 ≠ 1)
    (hm : fieldOf v 16 10 ≠ 0) : Answers (.structCommitGo q v) s (fun u => u.fld (Reg.structCommitStatus q) 0 2 = 1 ∧
      (u.slot q).goMask = fieldOf v 16 10 ∧ (u.slot q).goAny = v.getLsbD 2 ∧
      s.onlyRegs { u with slots := s.slots } [Reg.structCommitStatus q, Reg.structCommitCtrl q]) := by
  refine ⟨_, (exec_structCommitGo q v s).trans (congrArg _ (State.commitGo_groups h (by rwa [goMaskOf_goWord]))),
    State.fld_setFld _ _ _ _ _ (by omega), ?_, ?_, (s.commitTaken_onlyRegs q _).setFld (by simp) _ _ _⟩
  · rw [State.slot_setSlot_self]
    exact goMaskOf_goWord v
  · rw [State.slot_setSlot_self]
    exact getLsbD_putField _ _ _ _ _ (by omega)

/-- R57: GO with no group is APPLIED at once. -/
theorem structCommitGo_noGroup {s : State} {q : PartId} {v : Word} (h : s.fld (Reg.structCommitStatus q) 0 2 ≠ 1)
    (hm : fieldOf v 16 10 = 0) : Answers (.structCommitGo q v) s (fun u => u.fld (Reg.structCommitStatus q) 0 2 = 2 ∧
      s.onlyRegs u [Reg.structCommitStatus q, Reg.structCommitCtrl q]) :=
  ⟨_, (exec_structCommitGo q v s).trans (congrArg _ (State.commitGo_noGroup h (by rwa [goMaskOf_goWord]))),
    State.fld_setFld _ _ _ _ _ (by omega), (s.commitTaken_onlyRegs q _).setFld (by simp) _ _ _⟩

/-- R60: ABORT of a pending request. -/
theorem structCommitAbort_pending {s : State} {q : PartId} {v : Word} (h : s.fld (Reg.structCommitStatus q) 0 2 = 1)
    (hw : (s.slot q).commitWait = false) (hv : v.getLsbD 0 = false) :
    Answers (.structCommitAbort q v) s (fun u => u.fld (Reg.structCommitStatus q) 0 2 = 3 ∧
      u.fld (Reg.structCommitStatus q) 8 8 = 2 ∧ s.onlyRegs u [Reg.structCommitStatus q, Reg.structCommitCtrl q]) := by
  have hne := Reg.structCommitStatus_ne_ctrl q
  refine ⟨_, exec_structCommitAbort h hw hv, ?_, ?_,
    (((State.onlyRegs.refl s _).setFld (by simp) _ _ _).setFld (by simp) _ _ _).wr (by simp) _⟩
  · rw [State.putCommitCtrl, State.fld_wr_ne _ _ _ _ hne, State.fld_setFld_ne _ _ _ _ _ _ _ (by omega),
      State.fld_setFld_of_lt _ _ (by omega) (by omega)]
  · rw [State.putCommitCtrl, State.fld_wr_ne _ _ _ _ hne, State.fld_setFld_of_lt _ _ (by omega) (by omega)]

/-- R59: a commit that a rule refuses. -/
theorem groupCommitApply_fails {s : State} {q : PartId} (hd : s.commitDue q = true) {g : Nat} (hg : g < 10)
    (hf : s.failingGroup q (s.stepAfter q) = some g) : Answers (.groupCommitApply q) s (fun u =>
      u.fld (Reg.structCommitStatus q) 0 2 = 3 ∧ u.fld (Reg.structCommitStatus q) 8 8 = 1 ∧
      u.fld (Reg.structCommitStatus q) 16 8 = g ∧ s.onlyRegs u [Reg.structCommitStatus q]) := by
  refine ⟨_, (exec_groupCommitApply_due hd).trans (congrArg _ (State.applyCommit_fails hf)), ?_, ?_, ?_,
    (((State.onlyRegs.refl s _).setFld (by simp) _ _ _).setFld (by simp) _ _ _).setFld (by simp) _ _ _⟩
  · rw [State.fld_setFld_ne _ _ _ _ _ _ _ (by omega), State.fld_setFld_ne _ _ _ _ _ _ _ (by omega),
      State.fld_setFld_of_lt _ _ (by omega) (by omega)]
  · rw [State.fld_setFld_ne _ _ _ _ _ _ _ (by omega), State.fld_setFld_of_lt _ _ (by omega) (by omega)]
  · exact State.fld_setFld_of_lt _ _ (by omega) (by omega)

/-- R58: a commit that passes makes the staged words of its groups live. -/
theorem groupCommitApply_passes {s : State} {q : PartId} (hd : s.commitDue q = true)
    (hf : s.failingGroup q (s.stepAfter q) = none) (hnd : (s.staged.map (·.1)).Nodup) :
    Answers (.groupCommitApply q) s (fun u =>
      (∀ b w g, tfind s.staged b = some w → s.wordPart' b = some q.val → regGroup b = some g →
        (s.slot q).goMask.testBit g = true → u.rd b = (s.rd b &&& ~~~ stagedMask b) ||| (w &&& stagedMask b)) ∧
      u.staged = s.staged ∧ u.hbm = s.hbm ∧
      (u.fld (Reg.structCommitStatus q) 0 2 = 2 ∨ (u.slot q).commitWait = true)) := by
  obtain ⟨hsame, hstatus⟩ := State.applyCommit_passes hf
  obtain ⟨hstaged, hhbm⟩ := s.withGroups_staged_hbm q (s.slot q).goMask
  exact ⟨_, exec_groupCommitApply_due hd,
    fun b w g hw hq hg hm => (hsame.rd b g hg).trans (State.rd_withGroups hnd hw hq hg hm),
    hsame.staged.trans hstaged, hsame.hbm.trans hhbm, hstatus⟩

/-- Settles O60, clause by clause: who writes, which words, staged copies, requests, and their application. That a staged
word of no partition marks no DIRTY bit is log entry 10, and that the mask and ANY_POINT are taken at GO is log entry 39,
both the model's choices. -/
theorem controlSpaceAndGroups : Obligations.ControlSpaceAndGroups := by
  unfold Obligations.ControlSpaceAndGroups
  intro s
  refine ⟨fun w a v hw => ⟨fun hdrop => ?_, fun m hm hon => ?_, registerWrite_structLoadAddr_low hw,
      registerWrite_structLoadAddr_high hw, fun c r n g hc h4 hon hrow hwidth hg => ?_⟩,
    fun hd3 a v => exec_registerWrite_d3 hd3 a v, fun t k a v hr hi => registerWrite_outOfRange hr hi v,
    ⟨_, rfl, rfl⟩, fun q v => ⟨fun h => structCommitGo_pending h v, structCommitGo_groups, structCommitGo_noGroup,
      structCommitAbort_pending, fun hd => ⟨fun g hg hf => groupCommitApply_fails hd hg hf, groupCommitApply_passes hd⟩⟩⟩
  · rw [exec_registerWrite hw, State.ctlWrite_dropped hdrop]
  · refine registerWrite_plainWord hw ?_ hon
    rcases hm with hm | ⟨t, k, ha, rfl⟩
    · exact plainWord_of_mem hm
    · exact ha ▸ plainWord_cuffTaskArg t k
  · have hexec := exec_write_staged hw (v := v) hc h4 hon hrow hwidth hg
    have hgroup := regGroup_of_regAt hrow hg
    refine ⟨fun q hq => ⟨fun hp => ⟨_, hexec, State.writeStaged_pending_result hgroup hq hp v⟩,
      fun hp => ⟨_, hexec, State.writeStaged_lands_result hgroup hq hp v⟩⟩, fun hq => ⟨_, hexec, ?_⟩⟩
    rw [State.writeStaged_noPart hgroup hq]
    exact ⟨s.stage_landed a.toNat v, rfl⟩

end Sys2Proof.Machine
end

section
/-! SUPPORT. The loader: what its shared operations leave alone, and what a slot keeps of its image. -/

namespace Sys2Proof.Machine

/-! ## What the operations around a load leave alone -/

/-- The register words of the loader and of the image (0x0010_0000 up to the tile blocks). -/
def Reg.structBlock : Set Nat := Set.Ico 0x100000 0x1000000

/-- No slot, no load, no host command and no byte of HBM differs, and no register word of `keep`. -/
structure State.sameLoad (s : State) (keep : Set Nat) (u : State) : Prop where
  slots : u.slots = s.slots
  loading : u.loading = s.loading
  cmds : u.cmds = s.cmds
  hbm : u.hbm = s.hbm
  rd : ∀ a ∈ keep, u.rd a = s.rd a

theorem State.sameLoad.refl (s : State) (keep : Set Nat) : s.sameLoad keep s := ⟨rfl, rfl, rfl, rfl, fun _ _ => rfl⟩

section Frame
variable {s u : State} {keep : Set Nat} (h : s.sameLoad keep u)
include h

theorem State.sameLoad.trans {v : State} (h' : u.sameLoad keep v) : s.sameLoad keep v :=
  ⟨h'.slots.trans h.slots, h'.loading.trans h.loading, h'.cmds.trans h.cmds, h'.hbm.trans h.hbm,
    fun a ha => (h'.rd a ha).trans (h.rd a ha)⟩

theorem State.sameLoad.wr {a : Nat} (ha : a ∉ keep) (v : Word) : s.sameLoad keep (u.wr a v) :=
  ⟨h.slots, h.loading, h.cmds, h.hbm, fun b hb => (State.rd_wr_ne u v (ne_of_mem_of_not_mem hb ha)).trans (h.rd b hb)⟩

theorem State.sameLoad.setFld {a : Nat} (ha : a ∉ keep) (lo len v : Nat) : s.sameLoad keep (u.setFld a lo len v) :=
  h.wr ha _

theorem State.sameLoad.setBit {a : Nat} (ha : a ∉ keep) (i : Nat) (b : Bool) : s.sameLoad keep (u.setBit a i b) :=
  h.wr ha _

theorem State.sameLoad.count {a : Nat} (ha : a ∉ keep) (n : Nat) : s.sameLoad keep (u.count a n) := h.wr ha _

theorem State.sameLoad.wrStaged (a : Nat) (v : Word) : s.sameLoad keep (u.wrStaged a v) :=
  ⟨h.slots, h.loading, h.cmds, h.hbm, h.rd⟩

theorem State.sameLoad.setTile (t : Nat) (x : Tile) : s.sameLoad keep (u.setTile t x) :=
  ⟨h.slots, h.loading, h.cmds, h.hbm, h.rd⟩

theorem State.sameLoad.zeroPocket (t off len : Nat) : s.sameLoad keep (u.zeroPocket t off len) :=
  ⟨h.slots, h.loading, h.cmds, h.hbm, h.rd⟩

theorem State.sameLoad.setPanelClk (p : Nat) (c : PanelClk) : s.sameLoad keep (u.setPanelClk p c) :=
  ⟨h.slots, h.loading, h.cmds, h.hbm, h.rd⟩

/-- A record is queued, or counted where the queue is full (R551). -/
theorem State.sameLoad.pushRec (hk : Reg.flogDropped ∉ keep) (r : FaultRec) : s.sameLoad keep (u.pushRec r) := by
  unfold State.pushRec
  split_ifs
  · exact ⟨h.slots, h.loading, h.cmds, h.hbm, h.rd⟩
  · exact h.count hk _

end Frame

theorem State.sameLoad.clear {s u : State} (h : s.sameLoad ∅ u) (as : List Nat) : s.sameLoad ∅ (u.clear as) := by
  induction as generalizing u with
  | nil => exact h
  | cons a as ih => exact ih (h.wr (Set.notMem_empty a) 0)

/-- The shortfall registers are cleared (R52). -/
theorem State.sameLoad.clearShortfall {s u : State} (h : s.sameLoad ∅ u) : s.sameLoad ∅ u.clearShortfall := by
  unfold State.clearShortfall
  exact h.clear _

/-- STRUCT_LOAD_STATUS is written. -/
theorem State.sameLoad.setLoad {s u : State} (h : s.sameLoad ∅ u) (st reason sec sig : Nat) :
    s.sameLoad ∅ (u.setLoad st reason sec sig) :=
  (((h.setFld (Set.notMem_empty _) _ _ _).setFld (Set.notMem_empty _) _ _ _).setFld (Set.notMem_empty _) _ _ _).setFld
    (Set.notMem_empty _) _ _ _

/-- The words of an image are written. -/
theorem State.sameLoad.putAll {s u : State} (h : s.sameLoad ∅ u) (ws : List (Nat × Nat)) : s.sameLoad ∅ (u.putAll ws) := by
  refine List.foldlRecOn ws _ h (fun x hx w _ => ?_)
  show s.sameLoad ∅ (x.put w.1 w.2)
  unfold State.put
  split_ifs
  · exact (hx.wr (Set.notMem_empty _) _).wrStaged _ _
  · exact hx.wr (Set.notMem_empty _) _

/-- A clock point is selected on a panel (R498). -/
theorem State.sameLoad.selectPoint {s u : State} (h : s.sameLoad ∅ u) (p i : Nat) : s.sameLoad ∅ (u.selectPoint p i) := by
  have hpoint := h.setFld (Set.notMem_empty (Reg.clkPanelPoint p)) 0 2 i
  unfold State.selectPoint
  dsimp only
  split_ifs
  · exact (hpoint.setBit (Set.notMem_empty _) _ _).setPanelClk _ _
  · exact hpoint.setPanelClk _ _

theorem State.sameLoad.initialPoints {s u : State} (h : s.sameLoad ∅ u) (q : Nat) (b : Image) :
    s.sameLoad ∅ (u.initialPoints q b) := by
  refine List.foldlRecOn b.panels _ h (fun x hx p _ => ?_)
  split_ifs
  · exact hx
  · exact hx.selectPoint _ _

/-- The words of commit records are written (R61). -/
theorem State.sameLoad.applyCommits {s u : State} (h : s.sameLoad ∅ u) (cs : List CommitRec) :
    s.sameLoad ∅ (u.applyCommits cs) :=
  List.foldlRecOn cs _ h (fun _ hx c _ =>
    List.foldlRecOn c.words _ hx (fun _ hy _ _ => (hy.wr (Set.notMem_empty _) _).wrStaged _ _))

/-- Windows open (R51). -/
theorem State.sameLoad.openWindows {s u : State} (h : s.sameLoad ∅ u) (b : Image) (keepEpoch : Bool) :
    s.sameLoad ∅ (u.openWindows b keepEpoch) := by
  refine List.foldlRecOn _ _ h (fun x hx o _ => ?_)
  refine State.sameLoad.setFld ?_ (Set.notMem_empty _) _ _ _
  split_ifs
  · exact hx
  · exact hx.setFld (Set.notMem_empty _) _ _ _

/-! ## The end of a load -/

/-- A compute or Pocket domain switches off: the words of the loader stay (R503). -/
theorem State.sameLoad.domainOff {s u : State} (h : s.sameLoad Reg.structBlock u) {d : Nat} (hd : d ≤ 12) :
    s.sameLoad Reg.structBlock (u.domainOff d) := by
  have hon : Reg.pwrDomainOn ∉ Reg.structBlock := by simp [Reg.structBlock, Reg.pwrDomainOn]
  have hwaking : Reg.pwrDomainWaking ∉ Reg.structBlock := by simp [Reg.structBlock, Reg.pwrDomainWaking]
  have hpower (t : Nat) : Reg.pocketPwrStatus t ∉ Reg.structBlock := by
    simp only [Reg.structBlock, Reg.pocketPwrStatus, Set.mem_Ico, not_and, not_lt]
    omega
  have hbits := (h.setBit hon (d - 1) false).setBit hwaking (d - 1) false
  unfold State.domainOff
  dsimp only
  rw [if_neg (by omega : ¬ (13 ≤ d ∧ d ≤ 16)), if_neg (by omega : ¬ 26 ≤ d)]
  split_ifs
  · exact List.foldlRecOn _ _ hbits (fun _ hx _ _ => (hx.zeroPocket _ _ _).setFld (hpower _) _ _ _)
  · exact hbits

theorem State.settlePanels_sameLoad (s : State) : s.sameLoad Reg.structBlock s.settlePanels := by
  have hrefl := State.sameLoad.refl s Reg.structBlock
  unfold State.settlePanels
  split_ifs
  · exact hrefl
  · refine List.foldlRecOn (List.range 4) _ hrefl (fun x hx p hp => ?_)
    have hp := List.mem_range.1 hp
    split_ifs
    · exact hx
    · exact (hx.domainOff (by omega)).domainOff (by omega)
    · exact hx

/-- Ending the load leaves no load, and beside that changes only what a panel without a job holds. -/
theorem State.endLoad_sameLoad (s : State) : State.sameLoad { s with loading := none } Reg.structBlock s.endLoad :=
  State.settlePanels_sameLoad _

/-- Where no host command is in progress there is none to go on with. -/
theorem State.settleCmds_of_nil {s : State} (h : s.cmds = []) : s.settleCmds = s := by
  simp only [State.settleCmds, h, List.map_nil, List.foldl_nil]

/-! ## STRUCT_LOAD_STATUS and STRUCT_REJECT_OFFSET (R49) -/

theorem Reg.structLoadStatus_mem_block : Reg.structLoadStatus ∈ Reg.structBlock := by
  simp [Reg.structBlock, Reg.structLoadStatus]

theorem Reg.flogDropped_notMem_block : Reg.flogDropped ∉ Reg.structBlock := by
  simp [Reg.structBlock, Reg.flogDropped]

theorem State.setLoad_loadState (s : State) {st : Nat} (hst : st < 8) (reason sec sig : Nat) :
    (s.setLoad st reason sec sig).loadState = st := by
  rw [State.loadState, State.setLoad, State.fld_setFld_ne _ _ _ _ _ _ _ (by omega),
    State.fld_setFld_ne _ _ _ _ _ _ _ (by omega), State.fld_setFld_ne _ _ _ _ _ _ _ (by omega),
    State.fld_setFld_of_lt _ _ (by omega) hst]

theorem State.setLoad_reason (s : State) (st reason sec sig : Nat) :
    (s.setLoad st reason sec sig).fld Reg.structLoadStatus 24 8 = reason % 256 := by
  rw [State.setLoad, State.fld_setFld_ne _ _ _ _ _ _ _ (by omega), State.fld_setFld_ne _ _ _ _ _ _ _ (by omega),
    State.fld_setFld _ _ _ _ _ (by omega)]
  rfl

theorem State.setLoad_section (s : State) (st reason sec sig : Nat) :
    (s.setLoad st reason sec sig).fld Reg.structLoadStatus 16 8 = sec % 256 := by
  rw [State.setLoad, State.fld_setFld_ne _ _ _ _ _ _ _ (by omega), State.fld_setFld _ _ _ _ _ (by omega)]
  rfl

theorem State.rd64_wr64 (s : State) (a v : Nat) : (s.wr64 a v).rd64 a = v % 2 ^ 64 := by
  rw [State.rd64, State.wr64, State.rd_wr_self, State.rd_wr_ne _ _ (by omega), State.rd_wr_self, BitVec.toNat_ofNat,
    BitVec.toNat_ofNat]
  omega

theorem State.fld_wr64_ne (s : State) {a j : Nat} (v lo len : Nat) (h : j ≠ a) (h4 : j ≠ a + 4) :
    (s.wr64 a v).fld j lo len = s.fld j lo len := by
  rw [State.wr64, State.fld_wr_ne _ _ _ _ h4, State.fld_wr_ne _ _ _ _ h]

/-- The registers of the loader show a refusal, with the reason and what it names. -/
structure State.showsRefusal (u : State) (reason sec off : Nat) : Prop where
  rejected : u.loadState = loadRejected
  reasonField : u.fld Reg.structLoadStatus 24 8 = reason % 256
  sectionField : u.fld Reg.structLoadStatus 16 8 = sec % 256
  offset : u.rd64 Reg.structRejectOffset = off % 2 ^ 64

theorem State.showsRefusal_of_latched (s : State) (reason sec off : Nat) :
    ((s.setLoad loadRejected reason sec 0).wr64 Reg.structRejectOffset off).showsRefusal reason sec off where
  rejected := (State.fld_wr64_ne _ _ _ _ (by decide) (by decide)).trans (s.setLoad_loadState (by decide) _ _ _)
  reasonField := (State.fld_wr64_ne _ _ _ _ (by decide) (by decide)).trans (s.setLoad_reason ..)
  sectionField := (State.fld_wr64_ne _ _ _ _ (by decide) (by decide)).trans (s.setLoad_section ..)
  offset := State.rd64_wr64 ..

theorem State.fld_congr {s u : State} {a : Nat} (h : u.rd a = s.rd a) (lo len : Nat) : u.fld a lo len = s.fld a lo len := by
  rw [State.fld, h, State.fld]

theorem State.showsRefusal.congr {s u : State} {reason sec off : Nat} (hs : s.showsRefusal reason sec off)
    (h : ∀ a ∈ Reg.structBlock, u.rd a = s.rd a) : u.showsRefusal reason sec off := by
  have hstatus := h _ Reg.structLoadStatus_mem_block
  refine ⟨(State.fld_congr hstatus ..).trans hs.rejected, (State.fld_congr hstatus ..).trans hs.reasonField,
    (State.fld_congr hstatus ..).trans hs.sectionField, ?_⟩
  rw [← hs.offset, State.rd64, State.rd64, h _ (by simp [Reg.structBlock, Reg.structRejectOffset]),
    h _ (by simp [Reg.structBlock, Reg.structRejectOffset])]

end Sys2Proof.Machine
end

section
/-! SUPPORT. Application of an image: the placing of bodies, and what a slot keeps of its image through it. -/

namespace Sys2Proof.Machine

/-! ## Writes of Pocket words -/

section Pocket
variable {s u : State} (h : s.sameLoad ∅ u)
include h

theorem State.sameLoad.fixWord (t w : Nat) : s.sameLoad ∅ (u.fixWord t w) := by
  have herr : s.sameLoad ∅ { u with pocketErr := tdel u.pocketErr (wkey t w) } :=
    ⟨h.slots, h.loading, h.cmds, h.hbm, h.rd⟩
  unfold State.fixWord
  dsimp only
  split_ifs
  · exact herr.setTile _ _
  · exact herr

theorem State.sameLoad.putWord (t w : Nat) (bytes : List (Option Byte)) : s.sameLoad ∅ (u.putWord t w bytes) := by
  have hfix := h.fixWord t w
  exact ⟨hfix.slots, hfix.loading, hfix.cmds, hfix.hbm, hfix.rd⟩

theorem State.sameLoad.pocketRecord (t code off ctx : Nat) : s.sameLoad ∅ (u.pocketRecord t code off ctx) :=
  h.pushRec (Set.notMem_empty _) _

theorem State.sameLoad.zeroBadWord (t w : Nat) : s.sameLoad ∅ (u.zeroBadWord t w) := by
  have hfix := (h.pocketRecord t 0x02 (8 * w) (u.rd (Reg.pocketErrAddr t)).toNat).fixWord t w
  exact ⟨hfix.slots, hfix.loading, hfix.cmds, hfix.hbm, hfix.rd⟩

theorem State.sameLoad.latchErrAddr (t w : Nat) (e : WordErr) : s.sameLoad ∅ (u.latchErrAddr t w e) :=
  h.wr (Set.notMem_empty _) _

theorem State.sameLoad.noteUe (t w : Nat) (e : WordErr) : s.sameLoad ∅ (u.noteUe t w e) :=
  ((h.count (Set.notMem_empty _) _).setBit (Set.notMem_empty _) _ _).latchErrAddr t w e

theorem State.sameLoad.noteCe (t w : Nat) (e : WordErr) : s.sameLoad ∅ (u.noteCe t w e) := by
  have hnoted := ((h.count (Set.notMem_empty (Reg.pocketCeCount t)) 1).setBit (Set.notMem_empty (Reg.pocketStatus t)) 4
    true).latchErrAddr t w e
  unfold State.noteCe
  dsimp only
  split_ifs
  · exact hnoted
  · exact hnoted.setTile _ _

/-- A word is written, or left as it was because it is uncorrectable (R81). -/
theorem State.sameLoad.writeWord (t w : Nat) (bytes : List (Option Byte)) : s.sameLoad ∅ (u.writeWord t w bytes).1 := by
  unfold State.writeWord
  dsimp only
  split_ifs
  · exact h
  · exact h.putWord t w bytes
  · split
    · exact h.putWord t w bytes
    · split_ifs
      · exact (h.noteUe t w _).zeroBadWord t w
      · exact h.noteUe t w _
      · exact (h.noteCe t w _).putWord t w bytes

theorem State.sameLoad.markDirty (t : Nat) (ps : List Nat) : s.sameLoad ∅ (u.markDirty t ps) := by
  induction ps generalizing u with
  | nil => exact h
  | cons p ps ih => exact ih ((h.wr (Set.notMem_empty _) _).wr (Set.notMem_empty _) _)

theorem State.sameLoad.writeWords (t : Nat) (ws : List (Nat × List (Option Byte))) :
    s.sameLoad ∅ (u.writeWords t ws).1 := by
  induction ws generalizing u with
  | nil => exact h
  | cons x ws ih => exact ih (h.writeWord t x.1 x.2)

theorem State.sameLoad.pocketWrite (t off : Nat) (bytes : List (Option Byte)) (mark : Bool) :
    s.sameLoad ∅ (u.pocketWrite t off bytes mark).1 := by
  unfold State.pocketWrite
  split
  · exact h
  · exact (h.writeWords t _).markDirty t _

end Pocket

/-! ## What the image gave a slot -/

/-- What an image gives its slot: tiles, job, locks, HBM regions and promotions. -/
def Slot.resources (x : Slot) : Nat × Nat × Nat × List (Nat × Nat) × Nat := (x.tiles, x.jobId, x.locks, x.regions, x.promote)

/-- Every slot has kept what its image gave it. -/
structure State.sameResources (s u : State) : Prop where
  slot : ∀ q, (u.slot q).resources = (s.slot q).resources

theorem State.sameResources.refl (s : State) : s.sameResources s := ⟨fun _ => rfl⟩

theorem State.slot_congr {s u : State} (h : u.slots = s.slots) (q : Nat) : u.slot q = s.slot q := by
  rw [State.slot, h, State.slot]

section Resources
variable {s u : State} (h : s.sameResources u)
include h

theorem State.sameResources.of_slots {v : State} (hv : v.slots = u.slots) : s.sameResources v :=
  ⟨fun q => (congrArg Slot.resources (State.slot_congr hv q)).trans (h.slot q)⟩

theorem State.sameResources.setSlot {q : Nat} {x : Slot} (hx : x.resources = (u.slot q).resources) :
    s.sameResources (u.setSlot q x) := by
  refine ⟨fun r => ?_⟩
  by_cases hr : r = q
  · rw [hr, State.slot_setSlot_self, hx, h.slot]
  · rw [State.slot_setSlot_ne _ _ hr, h.slot]

theorem State.sameResources.setFault (q code sub unit module : Nat) :
    s.sameResources (u.setFault q code sub unit module) := h.setSlot rfl

/-- A job stop may fault a slot, and takes nothing from it (R539, R542). -/
theorem State.sameResources.stopJob (q code cls sub unit seq : Nat) :
    s.sameResources (u.stopJob q code cls sub unit seq) := by
  have hfault := h.setFault q code sub unit u.moduleId
  cases hstate : (u.slot q).state with
  | ready => simp only [State.stopJob, hstate]; exact hfault.setSlot rfl
  | stopped => simp only [State.stopJob, hstate]; exact hfault.setSlot rfl
  | loading => simp only [State.stopJob, hstate]; exact hfault.of_slots rfl
  | running | draining | restoring => simp only [State.stopJob, hstate]; exact h.of_slots rfl
  | idle | faulted => simp only [State.stopJob, hstate]; exact h

theorem State.sameResources.jobFault (q code cls unit sub : Nat) (tile : Option Nat) (addr ctx0 ctx1 : Nat) :
    s.sameResources (u.jobFault q code cls unit sub tile addr ctx0 ctx1) :=
  (h.of_slots ((State.sameLoad.refl u ∅).pushRec (Set.notMem_empty _) _).slots).stopJob ..

theorem State.sameResources.mirrorFail (q sub module : Nat) : s.sameResources (u.mirrorFail q sub module) := by
  have hsend : s.sameResources (u.setSlot q { u.slot q with sendAll := true }) := h.setSlot rfl
  unfold State.mirrorFail
  dsimp only
  refine State.sameResources.jobFault ?_ ..
  split_ifs
  · exact hsend
  · exact hsend.of_slots rfl
  · exact h
  · exact h.of_slots rfl

/-- A before-image is taken, or does not find room (R441). -/
theorem State.sameResources.beforeImage (p : Nat) : s.sameResources (u.beforeImage p) := by
  unfold State.beforeImage
  split
  · exact h
  · split_ifs
    · exact h
    · exact h.mirrorFail _ _ _
    · exact h.of_slots rfl

theorem State.sameResources.hbmWrite (off : Nat) (bytes : List (Option Byte)) :
    s.sameResources (u.hbmWrite off bytes) := by
  have himages : s.sameResources ((u.needImage off bytes.length).foldl State.beforeImage u) :=
    List.foldlRecOn _ _ h (fun _ hx p _ => hx.beforeImage p)
  have hmark (ps : List Nat) {v : State} (hv : s.sameResources v) : s.sameResources (v.markHbm ps) := by
    refine List.foldlRecOn ps _ hv (fun x hx p _ => ?_)
    split
    · split_ifs
      · exact hx
      · exact hx.of_slots rfl
    · exact hx
  unfold State.hbmWrite
  dsimp only
  split_ifs
  · exact hmark _ (himages.of_slots rfl)
  · exact himages

/-- The bodies of CODE and DATA take no resource from a slot. -/
theorem State.sameResources.placeBodies (b : Image) (restore : Bool) : s.sameResources (u.placeBodies b restore) := by
  refine List.foldlRecOn b.secs _ h (fun x hx e _ => ?_)
  dsimp only
  split_ifs
  · exact List.foldlRecOn _ _ hx (fun y hy _ _ => List.foldlRecOn _ _ hy (fun z hz _ _ => hz.of_slots rfl))
  · unfold State.placeData
    dsimp only
    split_ifs
    · exact hx.of_slots ((State.sameLoad.refl x ∅).pocketWrite ..).slots
    · exact hx.hbmWrite _ _
  · exact hx

end Resources

end Sys2Proof.Machine
end

section
/-! SUPPORT. The clauses of the loader statement, and the statement. Settles O59. -/

namespace Sys2Proof.Machine

/-! ## START (R46, R47) -/

theorem exec_structLoadStart (p : PartId) (s : State) : exec (.structLoadStart p) s = .next (s.writeStart p) := rfl

theorem State.writeStart_busy {s : State} (h : s.stopped = false) (hl : s.loading.isSome = true) (q : Nat) :
    s.writeStart q = s.setBit Reg.structLoadStatus 4 true := by
  simp only [State.writeStart, h, hl, Bool.false_eq_true, if_false, if_true]

theorem State.writeStart_begins {s : State} (h : s.stopped = false) (hl : s.loading = none) (q : Nat) :
    s.writeStart q = (s.setFld Reg.structLoadCtrl 1 3 q).startLoad q := by
  simp only [State.writeStart, h, hl, Option.isSome_none, Bool.false_eq_true, if_false]

theorem State.loadState_of_regs {s u : State} (h : u.regs = s.regs) : u.loadState = s.loadState := by
  simp only [State.loadState, State.fld, State.rd, h]

theorem State.rd64_of_regs {s u : State} (h : u.regs = s.regs) (a : Nat) : u.rd64 a = s.rd64 a := by
  simp only [State.rd64, State.rd, h]

/-- The registers of the loader as a load begins. -/
def State.loadBegun (s : State) (q : Nat) : State := (s.setFld Reg.structLoadCtrl 1 3 q).setLoad loadChecking 0 0 0

theorem State.startLoad_regs (s : State) (q : Nat) : (s.startLoad q).regs = (s.loadBegun q).regs := rfl

theorem State.loadBegun_slots (s : State) (q : Nat) : (s.loadBegun q).slots = s.slots := rfl
theorem State.loadBegun_loading (s : State) (q : Nat) : (s.loadBegun q).loading = s.loading := rfl

theorem State.startLoad_eq (s : State) (q : Nat) :
    ∃ x l, s.startLoad q = { (s.loadBegun q).setSlot q x with loading := some l } := ⟨_, _, rfl⟩

/-- A state whose slots and load are put back is the state before. -/
theorem State.slots_loading_restored (v : State) (q : Nat) (x : Slot) (l : Option Load) :
    { ({ v.setSlot q x with loading := l } : State) with slots := v.slots, loading := v.loading } = v := rfl

theorem State.startLoad_frame {s t : State} (h : t.slots = s.slots) (h' : t.loading = s.loading) (q : Nat) :
    { t.startLoad q with slots := s.slots, loading := s.loading } = t.loadBegun q := by
  obtain ⟨x, l, e⟩ := t.startLoad_eq q
  rw [e, ← h, ← h', ← t.loadBegun_slots q, ← t.loadBegun_loading q]
  exact State.slots_loading_restored ..

theorem State.onlyRegs.startLoad {s t : State} {as : List Nat} {q : Nat} (h : s.onlyRegs (t.loadBegun q) as)
    (hs : t.slots = s.slots) (hl : t.loading = s.loading) :
    s.onlyRegs { t.startLoad q with slots := s.slots, loading := s.loading } as := by
  rw [State.startLoad_frame hs hl]
  exact h

theorem State.startLoad_slot (s : State) (q : Nat) : (s.startLoad q).slot q =
    if (s.slot q).state.busy then s.slot q else { s.slot q with state := .loading } := State.slot_setSlot_self ..

theorem State.startLoad_loading (s : State) (q : Nat) : ∃ l, (s.startLoad q).loading = some l ∧ l.part = q ∧
    l.prior = (s.slot q).state ∧ l.addr = (s.loadBegun q).rd64 Reg.structLoadAddr ∧
    l.len = (s.loadBegun q).rd64 Reg.structLoadLen ∧ l.restore = false :=
  ⟨_, rfl, rfl, rfl, State.rd64_of_regs rfl _, State.rd64_of_regs rfl _, rfl⟩

theorem State.onlyRegs.setLoad {s u : State} {as : List Nat} (h : s.onlyRegs u as) (ha : Reg.structLoadStatus ∈ as)
    (st reason sec sig : Nat) : s.onlyRegs (u.setLoad st reason sec sig) as :=
  (((h.setFld ha _ _ _).setFld ha _ _ _).setFld ha _ _ _).setFld ha _ _ _

theorem State.onlyRegs.rd64 {s u : State} {as : List Nat} (h : s.onlyRegs u as) {a : Nat} (ha : a ∉ as) (ha4 : a + 4 ∉ as) :
    u.rd64 a = s.rd64 a := by
  rw [State.rd64, h.2 a ha, h.2 (a + 4) ha4, State.rd64]

/-- R46: START while a load is in progress is refused. -/
theorem structLoadStart_busy {s : State} (p : PartId) (h : s.stopped = false) (hl : s.loading.isSome = true) :
    Answers (.structLoadStart p) s (fun u => u.bit Reg.structLoadStatus 4 = true ∧
      s.sameBits u Reg.structLoadStatus (fun j => j ≠ 4) ∧ s.onlyRegs u [Reg.structLoadStatus]) := by
  refine ⟨_, exec_structLoadStart p s, ?_⟩
  rw [State.writeStart_busy h hl]
  exact ⟨State.bit_setBit _ _ _ _ (by omega), State.setBit_sameBits _ _ _ _, (State.onlyRegs.refl s _).setBit (by simp) _ _⟩

/-- R46, R47: START begins a load of the partition. -/
theorem structLoadStart_begins {s : State} (p : PartId) (h : s.stopped = false) (hl : s.loading = none) :
    Answers (.structLoadStart p) s (fun u => u.loadState = loadChecking ∧
      u.slot p = (if (s.slot p).state.busy then s.slot p else { s.slot p with state := .loading }) ∧
      (∃ l, u.loading = some l ∧ l.part = p.val ∧ l.prior = (s.slot p).state ∧ l.addr = s.rd64 Reg.structLoadAddr ∧
        l.len = s.rd64 Reg.structLoadLen ∧ l.restore = false) ∧
      s.onlyRegs { u with slots := s.slots, loading := s.loading } [Reg.structLoadCtrl, Reg.structLoadStatus]) := by
  have hregs : s.onlyRegs ((s.setFld Reg.structLoadCtrl 1 3 p).loadBegun p) [Reg.structLoadCtrl, Reg.structLoadStatus] :=
    (((State.onlyRegs.refl s _).setFld (by simp) _ _ _).setFld (by simp) _ _ _).setLoad (by simp) _ _ _ _
  obtain ⟨l, hload, hpart, hprior, haddr, hlen, hrestore⟩ := State.startLoad_loading (s.setFld Reg.structLoadCtrl 1 3 p) p
  refine ⟨_, exec_structLoadStart p s, ?_⟩
  rw [State.writeStart_begins h hl]
  exact ⟨(State.loadState_of_regs (State.startLoad_regs ..)).trans (State.setLoad_loadState _ (by decide) _ _ _),
    State.startLoad_slot .., ⟨l, hload, hpart, hprior, haddr.trans (hregs.rd64 (by decide) (by decide)),
    hlen.trans (hregs.rd64 (by decide) (by decide)), hrestore⟩,
    hregs.startLoad rfl rfl⟩

/-! ## Power domains that a load wakes (R503) -/

theorem State.wakeDomain_onlyRegs {s u : State} (h : s.onlyRegs u [Reg.pwrDomainWaking]) (d : Nat) :
    s.onlyRegs (u.wakeDomain d) [Reg.pwrDomainWaking] := by
  unfold State.wakeDomain
  split_ifs
  · exact h
  · exact h.setBit (by simp) _ _

theorem State.wakeDomains_onlyRegs (s : State) (ds : List Nat) : s.onlyRegs (s.wakeDomains ds) [Reg.pwrDomainWaking] :=
  List.foldlRecOn (motive := fun u => s.onlyRegs u _) ds _ (State.onlyRegs.refl s _)
    (fun _ hx d _ => State.wakeDomain_onlyRegs hx d)

/-- A domain that is waking goes on waking. -/
theorem State.wakeDomain_keeps_waking {s : State} {e : Nat} (h : s.domainWaking e = true) (d : Nat) :
    (s.wakeDomain d).domainWaking e = true := by
  unfold State.wakeDomain
  split_ifs
  · exact h
  · rw [State.domainWaking, State.bit] at h ⊢
    by_cases hj : e - 1 = d - 1
    · rw [hj] at h ⊢
      exact State.bit_setBit _ _ _ _ (BitVec.lt_of_getLsbD h)
    · rwa [State.getLsbD_setBit_ne _ _ _ _ hj]

/-- A domain that is off starts to wake. -/
theorem State.wakeDomain_waking {s : State} {d : Nat} (hoff : s.domainOn d = false) (hd : d ≤ 32) :
    (s.wakeDomain d).domainWaking d = true := by
  rw [State.wakeDomain, hoff, if_neg Bool.false_ne_true]
  exact State.bit_setBit _ _ _ _ (by omega)

theorem State.wakeDomains_waking {ds : List Nat} {s : State} (hoff : ∀ d ∈ ds, s.domainOn d = false)
    (hd : ∀ d ∈ ds, d ≤ 32) : ∀ d ∈ ds, (s.wakeDomains ds).domainWaking d = true := by
  induction ds generalizing s with
  | nil => simp
  | cons e ds ih =>
    have hon (d : Nat) : (s.wakeDomain e).domainOn d = s.domainOn d := by
      rw [State.domainOn, State.bit, (State.wakeDomain_onlyRegs (State.onlyRegs.refl s _) e).2 _ (by decide)]
      rfl
    rw [List.forall_mem_cons] at hoff hd ⊢
    exact ⟨List.foldlRecOn (motive := fun u : State => u.domainWaking e = true) ds _
        (State.wakeDomain_waking hoff.1 hd.1) (fun _ hx d _ => State.wakeDomain_keeps_waking hx d),
      ih (fun d hm => (hon d).trans (hoff.2 d hm)) hd.2⟩

/-- The domains of the panels are those numbered 5 to 16. -/
theorem Image.domains_le (b : Image) : ∀ d ∈ b.domains, d ≤ 32 := by
  intro d hd
  obtain ⟨p, hp, hd⟩ := List.mem_flatMap.1 hd
  have hp := List.mem_range.1 (List.mem_filter.1 hp).1
  simp only [List.mem_cons, List.not_mem_nil, or_false] at hd
  omega

/-! ## Refusal (R49) -/

/-- A refusal latches what it names and queues a record. -/
theorem State.pushRec_showsRefusal (s : State) (reason sec off : Nat) (r : FaultRec) :
    s.sameLoad ∅ (((s.setLoad loadRejected reason sec 0).wr64 Reg.structRejectOffset off).pushRec r) ∧
      (((s.setLoad loadRejected reason sec 0).wr64 Reg.structRejectOffset off).pushRec r).showsRefusal reason sec off :=
  ⟨((((State.sameLoad.refl s ∅).setLoad _ _ _ _).wr (Set.notMem_empty _) _).wr (Set.notMem_empty _) _).pushRec
      (Set.notMem_empty _) r,
    (State.showsRefusal_of_latched s reason sec off).congr
      ((State.sameLoad.refl _ Reg.structBlock).pushRec Reg.flogDropped_notMem_block r).rd⟩

/-- PARTITION_BUSY leaves the slot alone. -/
theorem State.refuseLoad_busy (s : State) (l : Load) (reason sec off : Nat) :
    ∃ v : State, s.refuseLoad l reason sec off true = v.endLoad ∧ s.sameLoad ∅ v ∧ v.showsRefusal reason sec off :=
  ⟨_, rfl, s.pushRec_showsRefusal ..⟩

/-- The slot of a load that has been refused. -/
def Slot.refused (x : Slot) (l : Load) (reason module : Nat) : Slot :=
  { x with fault := 0x17, faultSub := reason, faultUnit := 12, faultModule := module, faultStep := x.step,
           state := if l.prior = .idle ∨ l.image ≠ [] then .faulted else l.prior }

/-- The state once the slot of a refused load has its FAULT fields and its state. -/
def State.withRefusedSlot (s : State) (l : Load) (reason : Nat) : State :=
  let u := s.setFault l.part 0x17 reason 12 s.moduleId
  u.setSlot l.part { u.slot l.part with state := if l.prior = .idle ∨ l.image ≠ [] then .faulted else l.prior }

theorem State.withRefusedSlot_rd (s : State) (l : Load) (reason a : Nat) : (s.withRefusedSlot l reason).rd a = s.rd a := rfl
theorem State.withRefusedSlot_cmds (s : State) (l : Load) (reason : Nat) : (s.withRefusedSlot l reason).cmds = s.cmds := rfl
theorem State.withRefusedSlot_hbm (s : State) (l : Load) (reason : Nat) : (s.withRefusedSlot l reason).hbm = s.hbm := rfl
theorem State.withRefusedSlot_slot (s : State) (l : Load) (reason : Nat) :
    (s.withRefusedSlot l reason).slot l.part = (s.slot l.part).refused l reason s.moduleId := by
  rw [State.withRefusedSlot, State.slot_setSlot_self, State.setFault, State.slot_setSlot_self]
  rfl

theorem State.refuseLoad_eq (s : State) {l : Load} (hr : l.restore = false) (reason sec off : Nat) :
    ∃ r, s.refuseLoad l reason sec off false =
      ((((s.setLoad loadRejected reason sec 0).wr64 Reg.structRejectOffset off).pushRec r).withRefusedSlot l reason).endLoad := by
  unfold State.refuseLoad
  simp only [hr, Bool.false_eq_true, if_false]
  exact ⟨_, rfl⟩

/-- Any other refusal returns the slot to the state that it had, with FAULT 0x17. -/
theorem State.refuseLoad_slot (s : State) {l : Load} (hr : l.restore = false) (reason sec off : Nat) :
    ∃ (v : State) (m : Nat), s.refuseLoad l reason sec off false = v.endLoad ∧ v.hbm = s.hbm ∧ v.cmds = s.cmds ∧
      v.showsRefusal reason sec off ∧ v.slot l.part = (s.slot l.part).refused l reason m := by
  obtain ⟨r, hr⟩ := s.refuseLoad_eq hr reason sec off
  obtain ⟨hsame, hshows⟩ := s.pushRec_showsRefusal reason sec off r
  generalize ((s.setLoad loadRejected reason sec 0).wr64 Reg.structRejectOffset off).pushRec r = u at hr hsame hshows
  refine ⟨u.withRefusedSlot l reason, u.moduleId, hr, (u.withRefusedSlot_hbm l reason).trans hsame.hbm,
    (u.withRefusedSlot_cmds l reason).trans hsame.cmds, hshows.congr (fun a _ => u.withRefusedSlot_rd l reason a), ?_⟩
  rw [State.withRefusedSlot_slot, State.slot_congr hsame.slots]

/-- What the end of a load leaves: slots, host commands, HBM and the registers of the loader. -/
theorem State.endLoad_spec (v : State) : v.endLoad.loading = none ∧ v.endLoad.slots = v.slots ∧ v.endLoad.cmds = v.cmds ∧
    v.endLoad.hbm = v.hbm ∧ ∀ a ∈ Reg.structBlock, v.endLoad.rd a = v.rd a := by
  obtain ⟨hslots, hloading, hcmds, hhbm, hrd⟩ := v.endLoad_sameLoad
  exact ⟨hloading, hslots, hcmds, hhbm, hrd⟩

/-- A refusal of the checks, once the shortfall registers have been written (R52). -/
theorem State.rejectLoad_refuses (s : State) (l : Load) (b : Image) (r : Rej) :
    ∃ v : State, s.sameLoad ∅ v ∧ s.rejectLoad l b r = v.refuseLoad l r.reason r.sec r.off (r.reason == 0x15) := by
  have hclear := (State.sameLoad.refl s ∅).clearShortfall
  have htable := List.foldlRecOn (motive := fun u : State => s.sameLoad ∅ u) b.shortfalls
    (fun u x => u.wr (Reg.structShortfallTable x.1) (BitVec.ofNat 32 x.2)) hclear
    (fun _ hu _ _ => hu.wr (Set.notMem_empty _) _)
  unfold State.rejectLoad
  dsimp only
  split_ifs
  · exact ⟨_, (htable.wr (Set.notMem_empty _) _).wr (Set.notMem_empty _) _, rfl⟩
  · exact ⟨_, hclear, rfl⟩

/-! ## Checks (R48, R49) -/

/-- The load `l`, no restore load and with no fault charged to its slot, is being checked, and the bytes `img` can be
those of its image. -/
structure State.checking (s : State) (l : Load) (img : List Byte) : Prop where
  loading : s.loading = some l
  restore : l.restore = false
  charged : l.charged = false
  state : s.loadState = loadChecking
  image : l.image = []
  readable : s.readable l (s.sourceImage l img) = true

theorem Load.sized_of_not_restore {l : Load} (h : l.restore = false) (img : List Byte) : l.sized img = l := by
  rw [Load.sized, h, if_neg Bool.false_ne_true]

theorem State.clearShortfall_pocket (s : State) : s.clearShortfall.pocket = s.pocket := by
  rw [State.clearShortfall, State.clear_eq]

theorem State.setLoad_pocket (s : State) (st reason sec sig : Nat) : (s.setLoad st reason sec sig).pocket = s.pocket := rfl

/-- A load of an IDLE slot waits for no reset: it is APPLYING with its image. -/
theorem State.passLoad_idle {s : State} {l : Load} (h : l.prior = .idle) (b : Image) (cs : List CommitRec) :
    ∃ v, s.passLoad l b cs = { v with loading := some { l with image := b.bytes, commits := cs } } ∧ s.sameLoad ∅ v ∧
      v.pocket = s.pocket ∧ v.loadState = loadApplying := by
  refine ⟨s.clearShortfall.setLoad loadApplying 0 0 (s.sigField b), ?_,
    (State.sameLoad.refl s ∅).clearShortfall.setLoad .., ?_, State.setLoad_loadState _ (by decide) ..⟩
  · simp only [State.passLoad, h]
  · rw [State.setLoad_pocket, State.clearShortfall_pocket]

section Checking
variable {s : State} {l : Load} {img : List Byte} (h : s.checking l img)
include h

theorem exec_imageChecksPassed (hv : s.verdict l (s.sourceImage l img) = none) :
    exec (.imageChecksPassed img []) s = .next (if s.domainsOn (s.sourceImage l img).domains then
      State.settleCmds (s.passLoad l (s.sourceImage l img) []) else s.wakeDomains (s.sourceImage l img).domains) := by
  show execImageChecksPassed img [] s = _
  simp only [execImageChecksPassed, h.loading, Load.sized_of_not_restore h.restore, h.charged, h.state, h.image, h.readable,
    hv, and_self, if_true, h.restore, Bool.false_eq_true, if_false]

theorem exec_imageRejected {r : Rej} (hv : s.verdict l (s.sourceImage l img) = some r) :
    exec (.imageRejected img) s = .next (s.rejectLoad l (s.sourceImage l img) r).settleCmds := by
  show execImageRejected img s = _
  simp only [execImageRejected, h.loading, Load.sized_of_not_restore h.restore, h.charged, h.state, h.image, h.readable,
    hv, and_self, if_true, Bool.false_eq_true, if_false]

/-- R48: an image that passes, for a slot that was IDLE, goes to APPLYING. -/
theorem imageChecksPassed_applying (hc : s.cmds = []) (hv : s.verdict l (s.sourceImage l img) = none) (hp : l.prior = .idle)
    (hon : s.domainsOn (s.sourceImage l img).domains = true) : Answers (.imageChecksPassed img []) s (fun u =>
      u.loadState = loadApplying ∧ u.loading = some { l with image := (s.sourceImage l img).bytes, commits := [] } ∧
      u.slots = s.slots ∧ u.pocket = s.pocket ∧ u.hbm = s.hbm) := by
  obtain ⟨v, hpass, hsame, hpocket, hstate⟩ := State.passLoad_idle (s := s) hp (s.sourceImage l img) []
  refine ⟨_, exec_imageChecksPassed h hv, ?_⟩
  rw [if_pos hon, State.settleCmds_of_nil (by rw [hpass]; exact hsame.cmds.trans hc), hpass]
  exact ⟨hstate, rfl, hsame.slots, hpocket, hsame.hbm⟩

/-- R503: step 8 waits for the power domains of the panels. -/
theorem imageChecksPassed_wakes (hv : s.verdict l (s.sourceImage l img) = none)
    (hoff : ∀ d ∈ (s.sourceImage l img).domains, s.domainOn d = false) (hne : (s.sourceImage l img).domains ≠ []) :
    Answers (.imageChecksPassed img []) s (fun u => (∀ d ∈ (s.sourceImage l img).domains, u.domainWaking d = true) ∧
      s.onlyRegs u [Reg.pwrDomainWaking]) := by
  have hnot : ¬ s.domainsOn (s.sourceImage l img).domains = true := by
    obtain ⟨d, hd⟩ := List.exists_mem_of_ne_nil _ hne
    intro hon
    exact Bool.false_ne_true ((hoff d hd).symm.trans (List.all_eq_true.1 hon d hd))
  refine ⟨_, exec_imageChecksPassed h hv, ?_⟩
  rw [if_neg hnot]
  exact ⟨State.wakeDomains_waking hoff (Image.domains_le _), s.wakeDomains_onlyRegs _⟩

/-- R49: a refused image leaves the slot as it was, with FAULT 0x17. -/
theorem imageRejected_refuses (hc : s.cmds = []) {r : Rej} (hv : s.verdict l (s.sourceImage l img) = some r)
    (hr : r.reason ≠ 0x15) : Answers (.imageRejected img) s (fun u => u.loadState = loadRejected ∧
      u.fld Reg.structLoadStatus 24 8 = r.reason % 256 ∧ u.fld Reg.structLoadStatus 16 8 = r.sec % 256 ∧
      u.rd64 Reg.structRejectOffset = r.off % 2 ^ 64 ∧ u.loading = none ∧
      (u.slot l.part).state = (if l.prior = .idle then .faulted else l.prior) ∧ (u.slot l.part).fault = 0x17 ∧
      (u.slot l.part).faultSub = r.reason ∧ (u.slot l.part).tiles = (s.slot l.part).tiles ∧ u.hbm = s.hbm) := by
  obtain ⟨v, hsame, hreject⟩ := s.rejectLoad_refuses l (s.sourceImage l img) r
  obtain ⟨w, m, hrefuse, hhbm, hcmds, hshows, hslot⟩ := v.refuseLoad_slot h.restore r.reason r.sec r.off
  obtain ⟨hnone, hslots, hcmds', hhbm', hrd⟩ := w.endLoad_spec
  have hend : s.rejectLoad l (s.sourceImage l img) r = w.endLoad := by rw [hreject, beq_false_of_ne hr, hrefuse]
  have hfinal : w.endLoad.slot l.part = (s.slot l.part).refused l r.reason m := by
    rw [State.slot_congr hslots, hslot, State.slot_congr hsame.slots]
  have hshown := hshows.congr hrd
  refine ⟨_, exec_imageRejected h hv, ?_⟩
  rw [hend, State.settleCmds_of_nil (hcmds'.trans (hcmds.trans (hsame.cmds.trans hc)))]
  dsimp only
  rw [hfinal]
  refine ⟨hshown.rejected, hshown.reasonField, hshown.sectionField, hshown.offset, hnone, ?_, rfl, rfl, rfl,
    hhbm'.trans (hhbm.trans hsame.hbm)⟩
  simp [Slot.refused, h.image]

/-- R46, R49: PARTITION_BUSY. -/
theorem imageRejected_busy (hc : s.cmds = []) {r : Rej} (hv : s.verdict l (s.sourceImage l img) = some r)
    (hr : r.reason = 0x15) : Answers (.imageRejected img) s (fun u => u.loadState = loadRejected ∧
      u.fld Reg.structLoadStatus 24 8 = 0x15 ∧ u.loading = none ∧ u.slots = s.slots) := by
  obtain ⟨v, hsame, hreject⟩ := s.rejectLoad_refuses l (s.sourceImage l img) r
  obtain ⟨w, hrefuse, hsame', hshows⟩ := v.refuseLoad_busy l r.reason r.sec r.off
  obtain ⟨hnone, hslots, hcmds, -, hrd⟩ := w.endLoad_spec
  have hend : s.rejectLoad l (s.sourceImage l img) r = w.endLoad := by rw [hreject, beq_iff_eq.2 hr, hrefuse]
  have hkept := hsame.trans hsame'
  have hshown := hshows.congr hrd
  refine ⟨_, exec_imageRejected h hv, ?_⟩
  rw [hend, State.settleCmds_of_nil (hcmds.trans (hkept.cmds.trans hc))]
  exact ⟨hshown.rejected, hshown.reasonField.trans (by rw [hr]), hnone, hslots.trans hkept.slots⟩

end Checking

/-! ## Application (R51) -/

/-- The image of the load `l` is being applied: no reset holds its slot any more, and its bodies are not placed yet. -/
structure State.applying (s : State) (l : Load) : Prop where
  loading : s.loading = some l
  state : s.loadState = loadApplying
  image : l.image ≠ []
  charged : l.charged = false
  resetting : (s.slot l.part).resetting = false
  applied : l.applied = false

/-- The state once the fields of the image are applied, at the first IMAGE_APPLY: until then the slot holds no tile. -/
def State.withFields (s : State) (l : Load) : State :=
  if (s.slot l.part).tiles = 0 then s.applyFields l.part ⟨l.image⟩ else s

/-- The state once the bodies are placed too, with the commit records of a restore load. -/
def State.withBodies (s : State) (l : Load) : State :=
  let u := (s.withFields l).placeBodies ⟨l.image⟩ l.restore
  if l.restore then u.applyCommits l.commits else u

theorem State.withBodies_sameResources (s : State) (l : Load) : (s.withFields l).sameResources (s.withBodies l) := by
  have hbodies := (State.sameResources.refl (s.withFields l)).placeBodies ⟨l.image⟩ l.restore
  unfold State.withBodies
  dsimp only
  split_ifs
  · exact hbodies.of_slots ((State.sameLoad.refl _ ∅).applyCommits _).slots
  · exact hbodies

theorem State.withImage_resources (s : State) (q : Nat) (b : Image) :
    ((s.withImage q b).slot q).resources = (b.tiles, b.jobId, b.locks, b.regions, b.promote) := by
  rw [State.withImage, State.slot_congr ((State.sameLoad.refl _ ∅).putAll _).slots, State.slot_setSlot_self]
  rfl

/-- The slot holds what the image names once its fields are applied. -/
theorem State.applyFields_resources (s : State) (q : Nat) (b : Image) :
    ((s.applyFields q b).slot q).resources = (b.tiles, b.jobId, b.locks, b.regions, b.promote) := by
  have hsame := (State.sameLoad.refl (s.withImage q b) ∅).initialPoints q b
  rw [State.applyFields, State.slot_setSlot_self, ← s.withImage_resources, ← State.slot_congr hsame.slots]
  rfl

section Applying
variable {s : State} {l : Load} (h : s.applying l)
include h

/-- While a bank group wakes, the bodies wait. -/
theorem exec_imageApply_waits (hup : (s.withFields l).groupsUp l.part = false) :
    exec .imageApply s = .next (s.withFields l) := by
  show execImageApply s = _
  unfold State.withFields at hup ⊢
  simp only [execImageApply, h.loading, h.state, h.charged, ne_eq, h.image, h.resetting, h.applied, not_false_eq_true,
    and_self, if_true, hup, Bool.false_eq_true, if_false]

/-- Once every bank group is ON the bodies are placed. -/
theorem exec_imageApply_places (hup : (s.withFields l).groupsUp l.part = true) :
    exec .imageApply s = .next { s.withBodies l with loading := some { l with applied := true } } := by
  show execImageApply s = _
  unfold State.withFields at hup
  unfold State.withBodies State.withFields
  simp only [execImageApply, h.loading, h.state, h.charged, ne_eq, h.image, h.resetting, h.applied, not_false_eq_true,
    and_self, if_true, hup]

/-- R51: the first IMAGE_APPLY gives the slot what the image names. -/
theorem imageApply_takes (ht : (s.slot l.part).tiles = 0) : Answers .imageApply s (fun u =>
    (u.slot l.part).resources = ((⟨l.image⟩ : Image).tiles, (⟨l.image⟩ : Image).jobId, (⟨l.image⟩ : Image).locks,
      (⟨l.image⟩ : Image).regions, (⟨l.image⟩ : Image).promote)) := by
  have hfields := s.applyFields_resources l.part ⟨l.image⟩
  rw [← (if_pos ht : s.withFields l = s.applyFields l.part ⟨l.image⟩)] at hfields
  cases hup : (s.withFields l).groupsUp l.part with
  | false => exact ⟨_, exec_imageApply_waits h hup, hfields⟩
  | true => exact ⟨_, exec_imageApply_places h hup, ((s.withBodies_sameResources l).slot l.part).trans hfields⟩

/-- R51: once every bank group is ON the image is applied. -/
theorem imageApply_applies (ht : (s.slot l.part).tiles ≠ 0) (hup : s.groupsUp l.part = true) :
    Answers .imageApply s (fun u => u.loading = some { l with applied := true } ∧
      (u.slot l.part).tiles = (s.slot l.part).tiles) := by
  have hfields : s.withFields l = s := if_neg ht
  have hkept := (s.withBodies_sameResources l).slot l.part
  rw [hfields] at hkept
  exact ⟨_, exec_imageApply_places h (by rwa [hfields]), rfl, congrArg Prod.fst hkept⟩

end Applying

/-! ## The end of application (R51, R477) -/

/-- The slot as the load ends: READY under the image of record, at epoch 0 and without a fault. -/
def Slot.readied (x : Slot) (l : Load) (mset : List (Nat × Nat)) : Slot :=
  { x with state := .ready, image := l.image, commits := l.commits, mset := mset, epoch := 0,
           fault := 0, faultSub := 0, faultUnit := 0, faultModule := 0, faultStep := 0 }

/-- The state once the windows of the image are open and its partition has no staged change. -/
def State.withWindows (s : State) (l : Load) : State :=
  (s.openWindows ⟨l.image⟩ false).wr (Reg.structCommitDirty l.part) 0

theorem State.withWindows_sameLoad (s : State) (l : Load) : s.sameLoad ∅ (s.withWindows l) :=
  ((State.sameLoad.refl s ∅).openWindows _ _).wr (Set.notMem_empty _) _

/-- The state once the slot has taken the image of record. -/
def State.withReadySlot (s : State) (l : Load) : State :=
  s.setSlot l.part ((s.slot l.part).readied l (s.regionList l.part))

theorem State.withReadySlot_cmds (s : State) (l : Load) : (s.withReadySlot l).cmds = s.cmds := rfl
theorem State.withReadySlot_hbm (s : State) (l : Load) : (s.withReadySlot l).hbm = s.hbm := rfl
theorem State.withReadySlot_slot (s : State) (l : Load) :
    (s.withReadySlot l).slot l.part = (s.slot l.part).readied l (s.regionList l.part) := State.slot_setSlot_self ..

/-- The state of a load that is DONE, before it ends; SIG stays. -/
def State.loadFinished (s : State) (l : Load) : State :=
  let u := (s.withWindows l).withReadySlot l
  u.setLoad loadDone 0 0 (u.fld Reg.structLoadStatus 5 2)

theorem State.loadFinished_spec (s : State) (l : Load) : (s.loadFinished l).loadState = loadDone ∧
    (∃ mset, (s.loadFinished l).slot l.part = (s.slot l.part).readied l mset) ∧ (s.loadFinished l).cmds = s.cmds ∧
    (s.loadFinished l).hbm = s.hbm := by
  unfold State.loadFinished
  dsimp only
  have hsame := s.withWindows_sameLoad l
  have hdone := (State.sameLoad.refl ((s.withWindows l).withReadySlot l) ∅).setLoad loadDone 0 0
    (((s.withWindows l).withReadySlot l).fld Reg.structLoadStatus 5 2)
  have hslot : ((s.withWindows l).withReadySlot l).slot l.part =
      (s.slot l.part).readied l ((s.withWindows l).regionList l.part) := by
    rw [State.withReadySlot_slot, State.slot_congr hsame.slots]
  exact ⟨State.setLoad_loadState _ (by decide) _ _ _, ⟨_, (State.slot_congr hdone.slots _).trans hslot⟩,
    hdone.cmds.trans ((State.withReadySlot_cmds (s.withWindows l) l).trans hsame.cmds),
    hdone.hbm.trans ((State.withReadySlot_hbm (s.withWindows l) l).trans hsame.hbm)⟩

theorem exec_imageApplied {s : State} {l : Load} (hl : s.loading = some l) (ha : l.applied = true) (hc : l.charged = false)
    (hr : l.restore = false) : exec .imageApplied s = .next (s.loadFinished l).endLoad.settleCmds := by
  show execImageApplied s = _
  simp only [execImageApplied, hl, ha, hc, hr, Bool.true_eq_false, Bool.false_eq_true, if_false, State.loadFinished,
    State.withReadySlot, State.withWindows, Slot.readied]

/-- R51: the slot is READY under its image. -/
theorem imageApplied_ready {s : State} {l : Load} (hcmds : s.cmds = []) (hl : s.loading = some l) (ha : l.applied = true)
    (hc : l.charged = false) (hr : l.restore = false) : Answers .imageApplied s (fun u => u.loadState = loadDone ∧
      u.loading = none ∧ (u.slot l.part).state = .ready ∧ (u.slot l.part).image = l.image ∧ (u.slot l.part).fault = 0 ∧
      (u.slot l.part).epoch = 0 ∧ u.hbm = s.hbm) := by
  obtain ⟨hdone, ⟨mset, hslot⟩, hcmds', hhbm⟩ := s.loadFinished_spec l
  obtain ⟨hnone, hslots, hcmds'', hhbm', hrd⟩ := (s.loadFinished l).endLoad_spec
  refine ⟨_, exec_imageApplied hl ha hc hr, ?_⟩
  rw [State.settleCmds_of_nil (hcmds''.trans (hcmds'.trans hcmds))]
  dsimp only
  rw [State.slot_congr hslots, hslot]
  exact ⟨(State.fld_congr (hrd _ Reg.structLoadStatus_mem_block) ..).trans hdone, hnone, rfl, rfl, rfl, rfl, hhbm'.trans hhbm⟩

/-- Settles O59, clause by clause: START, the verdict of the checks, the application of the image, and its end. That
STRUCT_LOAD_STATUS shows APPLYING from the passing of the checks on, and that only a partition that holds tiles is reset
before application, is log entry 38, a choice of the model. -/
theorem loaderRunsImages : Obligations.LoaderRunsImages := by
  unfold Obligations.LoaderRunsImages
  intro s hcmds
  refine ⟨fun p hstop => ⟨structLoadStart_busy p hstop, structLoadStart_begins p hstop⟩,
    fun l img hl hrestore hcharged hstate himage hread => ?_, fun l hl hstate himage hcharged => ⟨fun hreset ha ht => ?_,
      fun hreset ha ht => imageApply_applies ⟨hl, hstate, himage, hcharged, hreset, ha⟩ ht,
      fun ha hr => imageApplied_ready hcmds hl ha hcharged hr⟩⟩
  · have h : s.checking l img := ⟨hl, hrestore, hcharged, hstate, himage, hread⟩
    exact ⟨imageChecksPassed_applying h hcmds, imageChecksPassed_wakes h, fun r => imageRejected_refuses h hcmds,
      fun r => imageRejected_busy h hcmds⟩
  · obtain ⟨u, hexec, hres⟩ := imageApply_takes ⟨hl, hstate, himage, hcharged, hreset, ha⟩ ht
    simp only [Slot.resources, Prod.mk.injEq] at hres
    exact ⟨u, hexec, hres⟩

end Sys2Proof.Machine
end

section
/-! SUPPORT. What the operations of a Pocket do where no access is refused and no word is damaged: frames of a tile, the
admission of an access, and the bytes that a write stores. -/

namespace Sys2Proof.Machine

/-! ## Words of a tile's block -/

/-- Two words of a tile's block at different offsets are different words. -/
theorem tileWord_ne (t : Nat) {a b : Nat} (h : a ≠ b) : a + 0x10000 * t ≠ b + 0x10000 * t := by omega

/-- The words of POCKET_DIRTY, the 64-bit register of mirror pages (R93). -/
def pocketDirtyWords (t : Nat) : List Nat := [Reg.pocketDirty t, Reg.pocketDirty t + 4]

theorem notMem_pocketDirtyWords (t : Nat) {b : Nat} (h : b ≠ 0x1000070) (h4 : b ≠ 0x1000074) :
    b + 0x10000 * t ∉ pocketDirtyWords t := by
  simp only [pocketDirtyWords, Reg.pocketDirty, List.mem_cons, List.not_mem_nil, or_false]
  omega

/-- A counter counts up by one and stops at its highest value. -/
theorem State.rd_count_one (s : State) (a : Nat) :
    ((s.count a 1).rd a).toNat = Min.min 0xFFFFFFFF ((s.rd a).toNat + 1) := by
  rw [State.count, State.rd_wr_self, BitVec.toNat_ofNat]
  omega

theorem State.rd_count_ne (s : State) {a j : Nat} (n : Nat) (h : j ≠ a) : (s.count a n).rd j = s.rd j :=
  State.rd_wr_ne s _ h

theorem State.bit_congr {s u : State} {a : Nat} (h : u.rd a = s.rd a) (i : Nat) : u.bit a i = s.bit a i := by
  rw [State.bit, h, State.bit]

theorem State.rd64_congr {s u : State} {a : Nat} (h : u.rd a = s.rd a) (h4 : u.rd (a + 4) = s.rd (a + 4)) :
    u.rd64 a = s.rd64 a := by
  rw [State.rd64, h, h4, State.rd64]

/-! ## Frames of a tile -/

theorem State.onlyTile.refl (s : State) (t : Nat) (as : List Nat) : s.onlyTile s t as :=
  ⟨rfl, fun _ _ => rfl, fun _ _ => rfl⟩

section Frame
variable {s u : State} {t : Nat} {as : List Nat} (h : s.onlyTile u t as)
include h

theorem State.onlyTile.setTile (x : Tile) : s.onlyTile (u.setTile t x) t as :=
  ⟨congrArg (fun v => v.setTile t x) h.1, fun j hj => (State.tile_setTile_ne u x hj).trans (h.2.1 j hj), h.2.2⟩

theorem State.onlyTile.setPorts (p : Ports) : s.onlyTile (u.setPorts t p) t as := h.setTile _

theorem State.onlyTile.wr {a : Nat} (ha : a ∈ as) (v : Word) : s.onlyTile (u.wr a v) t as :=
  ⟨congrArg (fun x => x.wr a v) h.1, h.2.1,
    fun b hb => (State.rd_wr_ne u v (fun e => hb (by rwa [e]))).trans (h.2.2 b hb)⟩

theorem State.onlyTile.onlyRegs {v : State} (h' : u.onlyRegs v as) : s.onlyTile v t as := by
  obtain ⟨hrest, htiles, hrd⟩ := h
  refine ⟨?_, fun j hj => ?_, fun a ha => (h'.2 a ha).trans (hrd a ha)⟩
  · rw [h'.1, hrest]
  · rw [h'.1]
    exact htiles j hj

end Frame

/-! ## The ports of a tile -/

@[simp] theorem State.ports_setPorts (s : State) (t : Nat) (p : Ports) : (s.setPorts t p).ports t = p := by
  rw [State.setPorts, State.ports, State.tile_setTile_self]

@[simp] theorem State.pocket_setPorts (s : State) (t : Nat) (p : Ports) : (s.setPorts t p).pocket = s.pocket := rfl
@[simp] theorem State.rd_setPorts (s : State) (t : Nat) (p : Ports) (a : Nat) : (s.setPorts t p).rd a = s.rd a := rfl

/-- A key that is written twice holds what was written last. -/
theorem tset_tset {α : Type} (l : List (Nat × α)) (k : Nat) (v v' : α) : tset (tset l k v) k v' = tset l k v' := by
  induction l with
  | nil => simp [tset]
  | cons p l ih =>
    obtain ⟨j, x⟩ := p
    by_cases h1 : k = j
    · simp [tset, h1]
    · by_cases h2 : k < j
      · simp [tset, h1, h2]
      · simp [tset, h1, h2, ih]

/-- Ports that are set twice hold what was set last. -/
@[simp] theorem State.setPorts_setPorts (s : State) (t : Nat) (p p' : Ports) :
    (s.setPorts t p).setPorts t p' = s.setPorts t p' := by
  rw [State.setPorts, State.setPorts, State.setPorts, State.tile_setTile_self, State.setTile, State.setTile, State.setTile]
  dsimp only
  rw [tset_tset]

/-! ## Words of an access -/

/-- The words that bytes touch follow one another. -/
theorem wordsOf_eq_range' {off len : Nat} (h : 0 < len) :
    wordsOf off len = List.range' (off / 8) ((off + len - 1) / 8 - off / 8 + 1) := by
  rw [wordsOf, if_neg (by omega), List.range'_eq_map_range]

/-- The banks of `n` whole words. -/
theorem wordsOf_banks {off n : Nat} (hoff : off % 8 = 0) (hn : 1 ≤ n) :
    (wordsOf off (8 * n)).map (· % 32) = (List.range n).map (fun i => (off / 8 + i) % 32) := by
  rw [wordsOf_eq_range' (by omega), (by omega : (off + 8 * n - 1) / 8 - off / 8 + 1 = n), List.range'_eq_map_range,
    List.map_map]
  rfl

/-! ## Admission (R75, R79, R88) -/

theorem State.pocketRefusal_open {s : State} {t off len : Nat} (h : s.pocketOpen t off len) :
    s.pocketRefusal t off len = none := by
  rw [State.pocketRefusal, if_neg (by simp [h.1]), if_pos (List.all_eq_true.2 h.2)]

theorem State.slotPhys_inBound {s : State} {t k o len : Nat} (h : o + len ≤ (s.rd (Reg.pocketSlotBound t k)).toNat) :
    s.slotPhys t k o len = some ((s.rd (Reg.pocketSlotBase t k)).toNat + o) := if_pos h

/-- Words that do not fail their check are delivered, and the check changes nothing (R80). -/
theorem State.checkWords_clean (s : State) (t : Nat) (ws : List Nat) (h : ∀ w ∈ ws, s.wordErr t w = none) :
    s.checkWords t ws = (s, true, false) := by
  induction ws with
  | nil => rfl
  | cons w ws ih =>
    rw [State.checkWords, h w List.mem_cons_self]
    exact ih (fun x hx => h x (List.mem_cons_of_mem _ hx))

/-! ## Enabled bytes -/

theorem mwriteEn_append (m : List Host.Cell) (a : Nat) (xs ys : List (Option Byte)) :
    mwriteEn m a (xs ++ ys) = mwriteEn (mwriteEn m a xs) (a + xs.length) ys := by
  induction xs generalizing m a with
  | nil => rfl
  | cons x xs ih =>
    rw [List.length_cons, Nat.add_comm xs.length, ← Nat.add_assoc]
    cases x with
    | none => exact ih ..
    | some b => exact ih ..

/-- Bytes that are not enabled are left as they are. -/
theorem mwriteEn_none (m : List Host.Cell) (a : Nat) (xs : List (Option Byte)) (h : ∀ x ∈ xs, x = none) :
    mwriteEn m a xs = m := by
  induction xs generalizing a with
  | nil => rfl
  | cons x xs ih =>
    rw [h x List.mem_cons_self, mwriteEn]
    exact ih _ (fun y hy => h y (List.mem_cons_of_mem _ hy))

theorem mwriteEn_some (m : List Host.Cell) (a : Nat) (bs : List Byte) : mwriteEn m a (bs.map some) = mwrite m a bs := by
  induction bs generalizing m a with
  | nil => rfl
  | cons b bs ih => exact ih _ _

theorem pkey_add (t off i : Nat) : pkey t (off + i) = pkey t off + i := (Nat.add_assoc ..).symm

/-! ## Writes of words (R69, R80) -/

/-- What a write of Pocket words that do not fail their check changes beside the bytes: a word that was written is correct
again, so its write-back is dropped. -/
structure State.wroteWords (s u : State) (t : Nat) : Prop where
  regs : u.regs = s.regs
  ports : ∃ ce, u.ports t = { s.ports t with ceBack := ce }
  clean : ∀ w, s.wordErr t w = none → u.wordErr t w = none

theorem State.wroteWords.refl (s : State) (t : Nat) : s.wroteWords s t :=
  ⟨rfl, ⟨(s.ports t).ceBack, rfl⟩, fun _ h => h⟩

theorem State.wroteWords.trans {s u v : State} {t : Nat} (h : s.wroteWords u t) (h' : u.wroteWords v t) :
    s.wroteWords v t := by
  obtain ⟨ce, hce⟩ := h.ports
  obtain ⟨ce', hce'⟩ := h'.ports
  exact ⟨h'.regs.trans h.regs, ⟨ce', by rw [hce', hce]⟩, fun w hw => h'.clean w (h.clean w hw)⟩

/-- Making a word correct drops its mark and its write-back (R80). -/
theorem State.fixWord_spec (s : State) (t w : Nat) : (s.fixWord t w).regs = s.regs ∧ (s.fixWord t w).pocket = s.pocket ∧
    (s.fixWord t w).pocketErr = tdel s.pocketErr (wkey t w) ∧
    (s.fixWord t w).ports t = { s.ports t with ceBack := (s.ports t).ceBack.filter (· != w) } := by
  have hports : State.ports { s with pocketErr := tdel s.pocketErr (wkey t w) } t = s.ports t := rfl
  unfold State.fixWord
  dsimp only
  split_ifs with hce
  · exact ⟨rfl, rfl, rfl, by rw [State.ports_setPorts, hports]⟩
  · have hkeep : (s.ports t).ceBack.filter (· != w) = (s.ports t).ceBack :=
      List.filter_eq_self.2 (fun x hx => bne_iff_ne.2 (fun e => hce (by simpa [hports, e] using hx)))
    exact ⟨rfl, rfl, rfl, by rw [hports, hkeep]⟩

theorem State.fixWord_wroteWords (s : State) (t w : Nat) : s.wroteWords (s.fixWord t w) t := by
  obtain ⟨hregs, -, herr, hports⟩ := s.fixWord_spec t w
  refine ⟨hregs, ⟨_, hports⟩, fun x hx => ?_⟩
  rw [State.wordErr, herr]
  by_cases hk : wkey t x = wkey t w
  · rw [hk, tfind_tdel_self]
  · rw [tfind_tdel_ne _ hk]
    exact hx

theorem State.putWord_pocket (s : State) (t w : Nat) (bytes : List (Option Byte)) :
    (s.putWord t w bytes).pocket = mwriteEn s.pocket (pkey t (8 * w)) bytes := by
  obtain ⟨-, hpocket, -⟩ := s.fixWord_spec t w
  exact congrArg (fun m => mwriteEn m (pkey t (8 * w)) bytes) hpocket

theorem State.putWord_wroteWords (s : State) (t w : Nat) (bytes : List (Option Byte)) :
    s.wroteWords (s.putWord t w bytes) t :=
  ⟨(s.fixWord_wroteWords t w).regs, (s.fixWord_wroteWords t w).ports, (s.fixWord_wroteWords t w).clean⟩

/-- A word that does not fail its check, or all of whose bytes are enabled, takes the enabled bytes. -/
theorem State.writeWord_lands {s : State} {t w : Nat} {bytes : List (Option Byte)}
    (h : (∀ b ∈ bytes, b.isSome = true) ∨ s.wordErr t w = none) : ∃ u, s.writeWord t w bytes = (u, false) ∧
      u.pocket = mwriteEn s.pocket (pkey t (8 * w)) bytes ∧ s.wroteWords u t := by
  have hput := And.intro (s.putWord_pocket t w bytes) (s.putWord_wroteWords t w bytes)
  by_cases hnone : bytes.all Option.isNone = true
  · refine ⟨s, if_pos hnone, (mwriteEn_none _ _ _ fun b hb => ?_).symm, State.wroteWords.refl s t⟩
    exact Option.isNone_iff_eq_none.1 (List.all_eq_true.1 hnone b hb)
  · refine ⟨s.putWord t w bytes, ?_, hput⟩
    rw [State.writeWord, if_neg hnone]
    rcases h with hsome | hclean
    · rw [if_pos (List.all_eq_true.2 hsome)]
    · rw [hclean, ite_self]

/-- Words that follow one another take the enabled bytes, in order. -/
theorem State.writeWords_lands {t : Nat} (n w : Nat) (s : State) (bytes : List (Option Byte)) (hlen : bytes.length = 8 * n)
    (h : (∀ b ∈ bytes, b.isSome = true) ∨ ∀ x ∈ List.range' w n, s.wordErr t x = none) :
    ∃ u, s.writeWords t ((List.range' w n).zip (cutWords n bytes)) = (u, false) ∧
      u.pocket = mwriteEn s.pocket (pkey t (8 * w)) bytes ∧ s.wroteWords u t := by
  induction n generalizing w s bytes with
  | zero => exact ⟨s, rfl, by rw [List.eq_nil_of_length_eq_zero hlen]; rfl, State.wroteWords.refl s t⟩
  | succ n ih =>
    obtain ⟨v, hv, hvpocket, hvkeep⟩ : ∃ v, s.writeWord t w (bytes.take 8) = (v, false) ∧
        v.pocket = mwriteEn s.pocket (pkey t (8 * w)) (bytes.take 8) ∧ s.wroteWords v t :=
      State.writeWord_lands (h.imp (fun h b hb => h b (List.mem_of_mem_take hb)) (fun h => h w (by simp)))
    obtain ⟨u, hu, hupocket, hukeep⟩ := ih (w + 1) v (bytes.drop 8) (by rw [List.length_drop]; omega)
      (h.imp (fun h b hb => h b (List.mem_of_mem_drop hb))
        (fun h x hx => hvkeep.clean x (h x (by rw [List.range'_succ]; exact List.mem_cons_of_mem _ hx))))
    refine ⟨u, ?_, ?_, hvkeep.trans hukeep⟩
    · rw [List.range'_succ, cutWords, List.zip_cons_cons, State.writeWords, hv]
      simp only [hu, Bool.or_self]
    · have hkey : pkey t (8 * (w + 1)) = pkey t (8 * w) + (bytes.take 8).length := by
        rw [List.length_take, Nat.min_eq_left (by omega), ← pkey_add]
        rfl
      rw [hupocket, hvpocket, hkey, ← mwriteEn_append, List.take_append_drop]

/-! ## Dirty bits (R93) -/

theorem State.markDirty_onlyRegs (s : State) (t : Nat) (ps : List Nat) :
    s.onlyRegs (s.markDirty t ps) (pocketDirtyWords t) := by
  suffices h : ∀ u, s.onlyRegs u (pocketDirtyWords t) → s.onlyRegs (u.markDirty t ps) (pocketDirtyWords t) from
    h s (State.onlyRegs.refl s _)
  induction ps with
  | nil => exact fun _ hu => hu
  | cons p ps ih =>
    exact fun u hu => ih _ ((hu.wr (by simp [pocketDirtyWords]) _).wr (by simp [pocketDirtyWords]) _)

theorem State.testBit_markDirty (s : State) (t : Nat) (ps : List Nat) {p : Nat} (hp : p < 64) :
    ((s.markDirty t ps).rd64 (Reg.pocketDirty t)).testBit p =
      ((s.rd64 (Reg.pocketDirty t)).testBit p || ps.contains p) := by
  induction ps generalizing s with
  | nil => simp [State.markDirty]
  | cons q ps ih =>
    rw [State.markDirty, ih, State.rd64_wr64, Nat.testBit_mod_two_pow, Nat.testBit_or, Nat.testBit_two_pow]
    by_cases hq : q = p
    · simp [hp, hq]
    · simp [hp, hq, Ne.symm hq]

/-! ## Writes of bytes (R69, R93) -/

/-- `bs` has been stored at physical offset `off` of tile `t`'s Pocket: beside the bytes, at most the waiting write-backs of
the tile's ports and POCKET_DIRTY have changed, and of that the bits of the pages with a byte that changed. -/
structure State.wroteBytes (s u : State) (t off : Nat) (bs : List Byte) : Prop where
  pocket : u.pocket = mwrite s.pocket (pkey t off) bs
  ports : ∃ ce, u.ports t = { s.ports t with ceBack := ce }
  rd : ∀ a ∉ pocketDirtyWords t, u.rd a = s.rd a
  dirty : ∀ p < 64, (u.rd64 (Reg.pocketDirty t)).testBit p =
    ((s.rd64 (Reg.pocketDirty t)).testBit p || (changedPages s.pocket u.pocket t off bs.length).contains p)

/-- The bytes of a write lined up with the words that they touch. -/
def linedUp (off : Nat) (bytes : List (Option Byte)) : List (Option Byte) :=
  let all := List.replicate (off % 8) none ++ bytes
  all ++ List.replicate ((8 - all.length % 8) % 8) none

theorem length_linedUp {off : Nat} {bytes : List (Option Byte)} (h : 0 < bytes.length) :
    (linedUp off bytes).length = 8 * ((off + bytes.length - 1) / 8 - off / 8 + 1) := by
  simp only [linedUp, List.length_append, List.length_replicate]
  omega

/-- Whole words need no lining up. -/
theorem linedUp_whole {off : Nat} {bytes : List (Option Byte)} (hoff : off % 8 = 0) (hlen : bytes.length % 8 = 0) :
    linedUp off bytes = bytes := by
  simp [linedUp, hoff, hlen]

theorem mwriteEn_linedUp (m : List Host.Cell) (t off : Nat) (bs : List Byte) :
    mwriteEn m (pkey t (8 * (off / 8))) (linedUp off (bs.map some)) = mwrite m (pkey t off) bs := by
  have hkey : pkey t (8 * (off / 8)) + (List.replicate (off % 8) (none : Option Byte)).length = pkey t off := by
    rw [List.length_replicate, ← pkey_add, Nat.div_add_mod]
  rw [linedUp, mwriteEn_append, mwriteEn_append, hkey, mwriteEn_some, mwriteEn_none _ _ _ fun x hx => List.eq_of_mem_replicate hx,
    mwriteEn_none _ _ _ fun x hx => List.eq_of_mem_replicate hx]

/-- A write of bytes that no rule refuses lands where its words are whole or do not fail their check. -/
theorem State.pocketWrite_lands {s : State} {t off : Nat} {bs : List Byte} (hpos : 0 < bs.length)
    (hopen : s.pocketOpen t off bs.length) (h : (off % 8 = 0 ∧ bs.length % 8 = 0) ∨ s.pocketClean t off bs.length) :
    ∃ u, s.pocketWrite t off (bs.map some) = (u, 0) ∧ s.wroteBytes u t off bs := by
  have hlen : (bs.map some).length = bs.length := List.length_map ..
  have hwords := wordsOf_eq_range' (off := off) hpos
  obtain ⟨v, hv, hpocket, hkeep⟩ := State.writeWords_lands (t := t) ((off + bs.length - 1) / 8 - off / 8 + 1) (off / 8) s
    (linedUp off (bs.map some)) (by rw [length_linedUp (by rwa [hlen]), hlen]) (by
      rcases h with ⟨hoff, hwhole⟩ | hclean
      · rw [linedUp_whole hoff (by rwa [hlen])]
        exact .inl (by simp)
      · exact .inr (hwords ▸ hclean))
  rw [mwriteEn_linedUp] at hpocket
  have hmark := v.markDirty_onlyRegs t (changedPages s.pocket v.pocket t off bs.length)
  have hrd (a : Nat) : v.rd a = s.rd a := by rw [State.rd, hkeep.regs, State.rd]
  refine ⟨v.markDirty t (changedPages s.pocket v.pocket t off bs.length), ?_, ?_⟩
  · rw [State.pocketWrite, hlen, State.pocketRefusal_open hopen]
    dsimp only
    rw [hwords, List.length_range', ← linedUp, hv]
    rfl
  · have hpocket' : (v.markDirty t (changedPages s.pocket v.pocket t off bs.length)).pocket = v.pocket := by rw [hmark.1]
    refine ⟨hpocket'.trans hpocket, ?_, fun a ha => (hmark.2 a ha).trans (hrd a), fun p hp => ?_⟩
    · rw [hmark.1]
      exact hkeep.ports
    · rw [State.testBit_markDirty _ _ _ hp, hpocket', State.rd64, hrd, hrd, State.rd64]

/-- The bytes that were written stand in the Pocket, and every other byte is as it was. -/
theorem State.wroteBytes.stored {s u : State} {t off : Nat} {bs : List Byte} (h : s.wroteBytes u t off bs) :
    s.stored u t off bs := by
  rw [State.stored, h.pocket]
  exact ⟨fun i hi => by rw [pkey_add, mget_mwrite_in _ _ _ _ hi], fun a ha => mget_mwrite_out _ _ _ _ ha⟩

end Sys2Proof.Machine
end

section
/-! SUPPORT. Clears: what a clear command does where its unit has power, and where it has none. Settles O14. -/

namespace Sys2Proof.Machine

/-! ## What a clear changes (R502) -/

/-- Cleared words read 0, and nothing else has changed. -/
theorem State.clear_onlyRegs (s : State) (as : List Nat) :
    (∀ a ∈ as, (s.clear as).rd a = 0) ∧ s.onlyRegs (s.clear as) as :=
  ⟨s.rd_clear_in as, s.clear_eq as, s.rd_clear_out as⟩

/-- A command that clears words of a unit behind its power domain. -/
theorem State.clears_of_ctl {s : State} {c : Instr} {reg : Nat} {as : List Nat}
    (h : exec c s = .next (s.ctl reg (fun u => u.clear as))) : s.clears c reg as := by
  refine ⟨fun hon => ⟨s.clear as, ?_, s.clear_onlyRegs as⟩, fun hoff => ?_⟩
  · rw [h, State.ctl, if_pos hon]
  · rw [h, State.ctl, if_neg (by simp [hoff])]

/-- A command that clears words of a unit that always has power. -/
theorem State.clears_of_regOn {s : State} {c : Instr} {reg : Nat} {as : List Nat} (hon : s.regOn reg = true)
    (h : exec c s = .next (s.clear as)) : s.clears c reg as :=
  State.clears_of_ctl (h.trans (by rw [State.ctl, if_pos hon]))

/-! ## Registers that always have power (R502) -/

theorem State.regOn_fabricOrMirror (s : State) {a : Nat} (h1 : 0x3000000 ≤ a) (h2 : a < 0x3200000) : s.regOn a = true := by
  rw [State.regOn, if_neg (by omega), if_neg (by omega), if_neg (by omega), if_neg (by omega)]

theorem State.regOn_fabPortCtrClear (s : State) (p : PortId) : s.regOn (Reg.fabPortCtrClear p) = true :=
  s.regOn_fabricOrMirror (by unfold Reg.fabPortCtrClear; omega) (by unfold Reg.fabPortCtrClear; omega)

theorem State.regOn_mirrorCtrClear (s : State) (q : PartId) : s.regOn (Reg.mirrorCtrClear q) = true :=
  s.regOn_fabricOrMirror (by unfold Reg.mirrorCtrClear; omega) (by unfold Reg.mirrorCtrClear; omega)

/-! ## The statement -/

/-- Settles O14: each clear command writes 0 to its own words through `State.clear`, behind the power domain of its unit;
the registers of the fabric, the mirror, the clocks and the supplies have no domain that can be off. -/
theorem counterClears : Obligations.CounterClears := by
  unfold Obligations.CounterClears
  refine ⟨fun s t => ?_, fun s => ⟨fun p => State.clears_of_ctl ?_, fun p m => State.clears_of_ctl rfl,
    fun p => State.clears_of_ctl rfl, State.clears_of_ctl rfl,
    fun p => State.clears_of_regOn (s.regOn_fabPortCtrClear p) rfl, State.clears_of_regOn rfl rfl,
    fun q => State.clears_of_regOn (s.regOn_mirrorCtrClear q) rfl, State.clears_of_regOn rfl rfl,
    State.clears_of_regOn rfl rfl, fun c => State.clears_of_ctl rfl⟩⟩
  · refine ⟨?_, ?_, ?_, ?_, ?_, ?_, ?_, ?_, ?_, ?_, ?_, ?_⟩ <;> exact State.clears_of_ctl rfl
  · rw [List.flatMap_def]
    rfl

end Sys2Proof.Machine
end

section
/-! SUPPORT. A cycle of the wide ports: an access alone, a held access, and a conflict. Settles O15 and O16. -/

namespace Sys2Proof.Machine

/-! ## Admission of a task's access (R75, R79, R88) -/

/-- The access that a wide port presents for a task. -/
def wideAccess (r : WideReq) (off : Nat) : PAccess :=
  { src := .task r.task r.req, off := off, len := 8 * r.words, wr := r.wr }

/-- The access as port `port` presents it in its first cycle: no task is to abort for it. -/
def presented (port : Nat) (r : WideReq) (off : Nat) : HeldAccess :=
  { port := port, acc := wideAccess r off, charge := none }

theorem State.admitWide_open {s : State} {t off : Nat} {r : WideReq}
    (hbound : r.off + 8 * r.words ≤ (s.rd (Reg.pocketSlotBound t r.task)).toNat)
    (hoff : off = (s.rd (Reg.pocketSlotBase t r.task)).toNat + r.off) (hopen : s.pocketOpen t off (8 * r.words)) :
    s.admitWide t r = (s, some (wideAccess r off)) := by
  rw [State.admitWide, State.slotPhys_inBound hbound, ← hoff]
  dsimp only
  rw [State.pocketRefusal_open hopen]
  rfl

/-! ## Grants (R68, R69, R72) -/

/-- The ports in the cycle that grants access `a` alone. -/
def Ports.granting (p : Ports) (a : PAccess) : Ports :=
  { p with held := [], busy := a.banks, merging := mergeBanks a }

/-- A read enables no byte. -/
theorem mergeBanks_read {a : PAccess} (h : a.wr = none) : mergeBanks a = [] := by
  rw [mergeBanks, h]

theorem mem_of_mem_cutWords {n : Nat} {bs w : List (Option Byte)} (hw : w ∈ cutWords n bs) : ∀ b ∈ w, b ∈ bs := by
  induction n generalizing bs with
  | zero => simp [cutWords] at hw
  | succ n ih =>
    rcases List.mem_cons.1 hw with rfl | hw
    · exact fun b hb => List.mem_of_mem_take hb
    · exact fun b hb => List.mem_of_mem_drop (ih hw b hb)

/-- A write of whole words holds no bank in the next cycle (R69). -/
theorem mergeBanks_whole {a : PAccess} {bs : List Byte} (hoff : a.off % 8 = 0) (hlen : bs.length % 8 = 0)
    (h : a.wr = some (bs.map some)) : mergeBanks a = [] := by
  have hlined : linedUp a.off (bs.map some) = bs.map some := linedUp_whole hoff (by rwa [List.length_map])
  rw [mergeBanks, h]
  dsimp only
  rw [← linedUp, hlined]
  refine List.filterMap_eq_nil_iff.2 (fun x hx => if_neg ?_)
  have hsome : x.2.all Option.isSome = true := List.all_eq_true.2 fun b hb => by
    obtain ⟨y, -, rfl⟩ := List.mem_map.1 (mem_of_mem_cutWords (List.of_mem_zip hx).2 b hb)
    rfl
  simp [hsome]

/-- An access alone in a cycle in which no bank is in the second cycle of a write is granted. -/
theorem State.wideCycle_alone {s : State} {t : Nat} (h : HeldAccess) (hm : (s.ports t).merging = []) :
    s.wideCycle t [h] = (s.setPorts t ((s.ports t).granting h.acc)).grantWide t h := by
  simp [State.wideCycle, hm, Ports.granting]

/-- The ports as they hold one access more. -/
def Ports.holding (p : Ports) (h : HeldAccess) : Ports := { p with held := p.held ++ [h] }

/-- Of two accesses that need a common bank the first is granted and the second held (R72). -/
theorem State.wideCycle_conflict {s u : State} {t : Nat} {h0 h1 : HeldAccess} {who : Option Nat}
    (hm : (s.ports t).merging = []) (hc : ∃ b, b ∈ h0.acc.banks ∧ b ∈ h1.acc.banks)
    (hconflict : (s.wideCycle t [h0]).conflict t h1.acc h0.acc = (u, who)) :
    s.wideCycle t [h0, h1] = u.setPorts t ((u.ports t).holding { h1 with charge := h1.charge.or who }) := by
  have hany : h0.acc.banks.any h1.acc.banks.contains = true := by
    obtain ⟨b, hb0, hb1⟩ := hc
    exact List.any_eq_true.2 ⟨b, hb0, List.contains_iff_mem.2 hb1⟩
  rw [State.wideCycle_alone h0 hm] at hconflict
  simp only [Ports.granting] at hconflict
  simp [State.wideCycle, hm, hany, hconflict, Ports.holding]

/-- A read that is granted takes the bytes as they stand. -/
def HeldAccess.taken (h : HeldAccess) (s : State) (t : Nat) : ReadPend :=
  { port := h.port, acc := h.acc, data := mread s.pocket (pkey t h.acc.off) h.acc.len, charge := h.charge }

/-- The ports after a cycle that grants a read alone. -/
def Ports.took (p : Ports) (h : HeldAccess) (r : ReadPend) : Ports :=
  { p with held := [], busy := h.acc.banks, merging := [], reads := p.reads ++ [r] }

theorem State.wideCycle_read {s : State} {t : Nat} {h : HeldAccess} (hm : (s.ports t).merging = [])
    (hr : h.acc.wr = none) :
    s.wideCycle t [h] = s.setPorts t ((s.ports t).took h (h.taken s t)) := by
  rw [State.wideCycle_alone h hm, State.grantWide, hr]
  dsimp only
  rw [State.ports_setPorts, State.setPorts_setPorts, Ports.granting, mergeBanks_read hr]
  rfl

/-- A write of whole words lands in the cycle that grants it (R68, R69). -/
theorem State.wideCycle_write {s : State} {t k q port off : Nat} {bs : List Byte} (hm : (s.ports t).merging = [])
    (hpos : 0 < bs.length) (hoff : off % 8 = 0) (hlen : bs.length % 8 = 0) (hopen : s.pocketOpen t off bs.length) :
    let a : PAccess := { src := .task k q, off := off, len := bs.length, wr := some (bs.map some) }
    ∃ ce, s.stored (s.wideCycle t [{ port := port, acc := a, charge := none }]) t off bs ∧
      (s.wideCycle t [{ port := port, acc := a, charge := none }]).ports t =
        { s.ports t with held := [], busy := a.banks, merging := [], ceBack := ce } := by
  intro a
  obtain ⟨u, hu, hwrote⟩ := State.pocketWrite_lands (s := s.setPorts t ((s.ports t).granting a)) hpos hopen
    (.inl ⟨hoff, hlen⟩)
  obtain ⟨ce, hce⟩ := hwrote.ports
  have hcycle : s.wideCycle t [{ port := port, acc := a, charge := none }] = u := by
    rw [State.wideCycle_alone _ hm, State.grantWide]
    simp [a, hu, State.remoteLanded]
  rw [hcycle]
  refine ⟨ce, hwrote.stored, ?_⟩
  rw [hce, State.ports_setPorts, Ports.granting, mergeBanks_whole hoff hlen rfl]

/-! ## The commands -/

section Presented
variable {s : State} {t : TileId} {r : WideReq} {off : Nat} (hheld : (s.ports t).held = [])
  (hadmit : s.admitWide t r = (s, some (wideAccess r off)))
include hheld hadmit

theorem exec_pocketWideAccess_wp0 : exec (.pocketWideAccess t (some r) none) s =
    .next (s.wideCycle t [presented 0 r off]) := by
  show execPocketWideAccess t (some r) none s = _
  simp [execPocketWideAccess, presented, hheld, hadmit]

theorem exec_pocketWideAccess_wp1 : exec (.pocketWideAccess t none (some (.own r))) s =
    .next (s.wideCycle t [presented 1 r off]) := by
  show execPocketWideAccess t none (some (.own r)) s = _
  simp [execPocketWideAccess, presented, hheld, hadmit]

theorem exec_pocketWideAccess_both {r1 : WideReq} {o1 : Nat} (hadmit1 : s.admitWide t r1 = (s, some (wideAccess r1 o1))) :
    exec (.pocketWideAccess t (some r) (some (.own r1))) s = .next (s.wideCycle t
      [presented 0 r off, presented 1 r1 o1]) := by
  show execPocketWideAccess t (some r) (some (.own r1)) s = _
  simp [execPocketWideAccess, presented, hheld, hadmit, hadmit1]

end Presented

/-! ## An access alone -/

/-- Settles O15: the access is admitted and alone in its cycle, so nothing it needs is held. A command is one cycle of the
wide ports (log entry 13, a choice of the model). -/
theorem widePortGrants : Obligations.WidePortGrants := by
  unfold Obligations.WidePortGrants
  intro s t r off hwords _ _ hoff hheld hmerging hbound hphys hopen acc banks
  have hadmit := State.admitWide_open hbound hphys hopen
  have hbanks (port : Nat) : (presented port r off).acc.banks = banks := wordsOf_banks hoff hwords
  have hread (port : Nat) (hr : r.wr = none) : (s.wideCycle t [presented port r off]).ports t =
      { s.ports t with held := [], merging := [], busy := banks, reads := (s.ports t).reads ++
        [{ port := port, acc := acc, data := mread s.pocket (pkey t off) (8 * r.words), charge := none }] } ∧
      s.onlyTile (s.wideCycle t [presented port r off]) t [] := by
    rw [State.wideCycle_read hmerging hr, State.ports_setPorts, Ports.took, hbanks]
    exact ⟨rfl, (State.onlyTile.refl s t []).setPorts _⟩
  refine ⟨fun hr => ⟨_, exec_pocketWideAccess_wp0 hheld hadmit, hread 0 hr⟩,
    fun hr => ⟨_, exec_pocketWideAccess_wp1 hheld hadmit, hread 1 hr⟩,
    fun bs hlen hbs => ⟨_, exec_pocketWideAccess_wp0 hheld hadmit, ?_⟩, fun s' hs' hr => ⟨_, rfl, ?_⟩⟩
  · have hacc : wideAccess r off =
        { src := .task r.task r.req, off := off, len := bs.length, wr := some (bs.map some) } := by rw [wideAccess, hbs, hlen]
    obtain ⟨ce, hstored, hports⟩ := State.wideCycle_write (k := r.task) (q := r.req) (port := 0) hmerging
      (by omega) hoff (by omega) (hlen ▸ hopen)
    rw [← hacc, ← presented] at hstored hports
    dsimp only
    rw [hports]
    exact ⟨hstored, hbanks 0, rfl, rfl, rfl⟩
  · have hports : s'.ports t = { s.ports t with held := [{ port := 1, acc := acc, charge := none }] } := by
      rw [hs', State.ports_setPorts]
    have hpocket : s'.pocket = s.pocket := by rw [hs', State.pocket_setPorts]
    dsimp only
    rw [hports, State.wideCycle_read (by rw [hports, hmerging]) hr, State.ports_setPorts, Ports.took, hports,
      HeldAccess.taken, hpocket]
    exact ⟨rfl, rfl, hpocket⟩

/-! ## Two accesses that need a common bank -/

/-- Bytes that can be accessed stand below the end of the words that POCKET_PWR_STATUS can name. -/
theorem State.pocketOpen.off_lt {s : State} {t off len : Nat} (h : s.pocketOpen t off len) (hlen : 0 < len) :
    off < 0x1000000 := by
  have hbit := h.2 (off / 8) (by rw [wordsOf_eq_range' hlen, List.mem_range'_1]; omega)
  by_contra hge
  rw [State.bit, BitVec.getLsbD_of_ge _ _ (by omega)] at hbit
  exact Bool.false_ne_true hbit

/-- A conflict as it is counted, shown and latched (R72, R73); `v` is the word of POCKET_CONFLICT_INFO. -/
def State.conflictNoted (s : State) (t : Nat) (v : Word) : State :=
  ((s.count (Reg.pocketConflictCount t) 1).setBit (Reg.pocketStatus t) 3 true).wr (Reg.pocketConflictInfo t) v

theorem foldl_min_le (l : List Nat) (a : Nat) : l.foldl Min.min a ≤ a := by
  induction l generalizing a with
  | nil => exact le_rfl
  | cons x l ih => exact (ih _).trans (Nat.min_le_left a x)

/-- Under CONFLICT_ACTION 0 a conflict is noted and charged to the task whose access is held (R73). -/
theorem State.conflict_charges {s : State} {t : Nat} {held earlier : PAccess} {k q : Nat}
    (hact : s.bit (Reg.pocketCfg t) 0 = false) (hsrc : held.src = .task k q) (hk : k < 4) (hoff : held.off < 0x1000000) :
    ∃ v : Word, v.getLsbD 31 = true ∧ s.conflict t held earlier = (s.conflictNoted t v, some k) := by
  have hbank := foldl_min_le (held.banks.filter earlier.banks.contains) 31
  have hcfg (v : Word) : (s.conflictNoted t v).bit (Reg.pocketCfg t) 0 = false := by
    rw [← hact]
    refine State.bit_congr ?_ 0
    rw [State.conflictNoted, State.rd_wr_ne, State.rd_setBit_ne, State.rd_count_ne] <;> exact tileWord_ne t (by decide)
  refine ⟨BitVec.ofNat 32 (0x80000000 + 0 + k * 0x10000000 +
    (held.banks.filter earlier.banks.contains).foldl Min.min 31 * 0x400000 + held.off), ?_, ?_⟩
  · rw [BitVec.getLsbD_ofNat, Nat.testBit_of_two_pow_le_and_two_pow_add_one_gt (by omega) (by omega)]
    rfl
  · simp only [State.conflict, conflictTask, hsrc, Option.getD_some]
    exact if_neg (by simp [← State.conflictNoted.eq_def, hcfg])

@[simp] theorem State.ports_conflictNoted (s : State) (t : Nat) (v : Word) (t' : Nat) :
    (s.conflictNoted t v).ports t' = s.ports t' := rfl

theorem State.onlyTile.conflictNoted {s u : State} {t : Nat} (v : Word)
    (h : s.onlyTile u t [Reg.pocketConflictCount t, Reg.pocketStatus t, Reg.pocketConflictInfo t]) :
    s.onlyTile (u.conflictNoted t v) t [Reg.pocketConflictCount t, Reg.pocketStatus t, Reg.pocketConflictInfo t] :=
  ((h.wr (by simp) _).wr (by simp) _).wr (by simp) _

theorem State.conflictNoted_count (s : State) (t : Nat) (v : Word) :
    ((s.conflictNoted t v).rd (Reg.pocketConflictCount t)).toNat =
      Min.min 0xFFFFFFFF ((s.rd (Reg.pocketConflictCount t)).toNat + 1) := by
  rw [State.conflictNoted, State.rd_wr_ne, State.rd_setBit_ne, State.rd_count_one] <;> exact tileWord_ne t (by decide)

theorem State.conflictNoted_status (s : State) (t : Nat) (v : Word) :
    (s.conflictNoted t v).bit (Reg.pocketStatus t) 3 = true := by
  rw [State.conflictNoted, State.bit_congr (State.rd_wr_ne _ _ ?_), State.bit_setBit _ _ _ _ (by decide)]
  exact tileWord_ne t (by decide)

/-- Settles O16: both accesses are admitted, and WP0 presents the earlier one. The statement is of two reads under
CONFLICT_ACTION 0; the access held is charged to its task. -/
theorem wideConflictHoldsLater : Obligations.WideConflictHoldsLater := by
  unfold Obligations.WideConflictHoldsLater
  intro s t r0 r1 o0 o1 hr0 hr1 _ hwords1 hheld hmerging hbound0 hbound1 hphys0 hphys1 hopen0 hopen1 hact hcommon
  have hread := State.wideCycle_read (h := presented 0 r0 o0) hmerging hr0
  obtain ⟨v, hv, hconflict⟩ := State.conflict_charges (earlier := wideAccess r0 o0) (held := wideAccess r1 o1)
    (s := s.wideCycle t [presented 0 r0 o0]) (t := t) (by rwa [hread]) rfl
    r1.task.isLt (hopen1.off_lt (by omega))
  refine ⟨_, exec_pocketWideAccess_both hheld (State.admitWide_open hbound0 hphys0 hopen0)
    (State.admitWide_open hbound1 hphys1 hopen1), ?_⟩
  dsimp only
  rw [State.wideCycle_conflict (h0 := presented 0 r0 o0) (h1 := presented 1 r1 o1) hmerging hcommon hconflict, hread,
    State.ports_setPorts, State.ports_conflictNoted, State.ports_setPorts]
  refine ⟨?_, ?_, State.conflictNoted_count .., State.conflictNoted_status .., ?_, rfl,
    (((State.onlyTile.refl s t _).setPorts _).conflictNoted v).setPorts _⟩
  · rw [← hr1]
    rfl
  · rw [← hr0]
    rfl
  · rw [State.bit, State.rd_setPorts, State.conflictNoted, State.rd_wr_self, hv]

end Sys2Proof.Machine
end

section
/-! SUPPORT. Delivery of reads, the narrow port, and the write-back of a corrected word. Settles O17. -/

namespace Sys2Proof.Machine

/-! ## Delivery (R69, R70, R80) -/

/-- The oldest granted read is delivered where no word of it fails its check. -/
theorem exec_pocketReadData_clean {s : State} {t : TileId} {r : ReadPend} {rs : List ReadPend} {k q : Nat}
    (hreads : (s.ports t).reads = r :: rs) (hcharge : r.charge = none) (hsrc : r.acc.src = .task k q)
    (hclean : s.pocketClean t r.acc.off r.acc.len) : exec (.pocketReadData t []) s =
      .next (s.setPorts t { s.ports t with reads := rs, delivered := some (r.acc.src, r.data) }) := by
  have hcheck : ((s.setPorts t { s.ports t with reads := rs }).damage t (wordsOf r.acc.off r.acc.len) []).checkWords t
      (wordsOf r.acc.off r.acc.len) = (s.setPorts t { s.ports t with reads := rs }, true, false) :=
    State.checkWords_clean _ _ _ hclean
  show execPocketReadData t [] s = _
  simp only [execPocketReadData, hreads, hcheck, hcharge, hsrc, State.remoteLanded, State.ports_setPorts,
    State.setPorts_setPorts, if_true]

/-! ## The narrow port (R70, R74) -/

/-- The ports after the oldest narrow access has been granted: its bank is held for a second cycle. -/
def Ports.narrowed (p : Ports) (r : NarrowReq) (rest : List NarrowReq) : Ports :=
  { p with posted := rest, merging := [r.acc.off / 8 % 32] }

/-- A narrow write of a task that no rule refuses lands in the cycle that grants it (R70). -/
theorem State.grantNarrow_lands {s : State} {t k q : Nat} {r : NarrowReq} {bs : List Byte} (hsrc : r.acc.src = .task k q)
    (hwr : r.acc.wr = some (bs.map some)) (hpos : 0 < bs.length) (hopen : s.pocketOpen t r.acc.off bs.length)
    (hclean : s.pocketClean t r.acc.off bs.length) (rest : List NarrowReq) :
    (s.setPorts t ((s.ports t).narrowed r rest)).wroteBytes (s.grantNarrow t r rest) t r.acc.off bs := by
  obtain ⟨u, hu, hwrote⟩ := State.pocketWrite_lands (s := s.setPorts t ((s.ports t).narrowed r rest)) hpos hopen (.inr hclean)
  have hgrant : s.grantNarrow t r rest = u := by
    have hu' : (s.setPorts t { s.ports t with posted := rest, merging := banksOf r.acc.off 1 }).pocketWrite t r.acc.off
      (bs.map some) = (u, 0) := hu
    simp only [State.grantNarrow, hwr, Option.getD_some, hu', hsrc, State.chargeAccess, if_true]
  rwa [hgrant]

/-- Whether the bank of the oldest narrow access is held decides what NARROW_ACCESS does. -/
theorem exec_narrowAccess {s : State} {t : TileId} {r : NarrowReq} {rest : List NarrowReq}
    (hposted : (s.ports t).posted = r :: rest) :
    (s.bankFree t r.acc.off → exec (.narrowAccess t) s = .next (s.grantNarrow t r rest)) ∧
    (¬ s.bankFree t r.acc.off → exec (.narrowAccess t) s =
      .next (s.setPorts t { s.ports t with posted := { r with waits := r.waits + 1 } :: rest })) := by
  have hfree : s.bankFree t r.acc.off ↔ ¬ ((s.ports t).busy.contains (r.acc.off / 8 % 32) ||
      (s.ports t).merging.contains (r.acc.off / 8 % 32)) = true := by
    simp [State.bankFree]
  have hexec : exec (.narrowAccess t) s = execNarrowAccess t s := rfl
  rw [hexec, execNarrowAccess, hposted, hfree]
  exact ⟨fun h => if_neg h, fun h => if_pos (not_not.1 h)⟩

/-- NARROW_FORCE as it is counted and shown (R74). -/
def State.forceNoted (s : State) (t : Nat) : State :=
  (s.count (Reg.pocketNarrowForceCount t) 1).setBit (Reg.pocketStatus t) 2 true

theorem exec_narrowForce {s : State} {t : TileId} {r : NarrowReq} {rest : List NarrowReq}
    (hposted : (s.ports t).posted = r :: rest) (hwaits : 16 ≤ r.waits) :
    exec (.narrowForce t) s = .next ((s.forceNoted t).grantNarrow t r rest) := by
  have hexec : exec (.narrowForce t) s = execNarrowForce t s := rfl
  rw [hexec, execNarrowForce, hposted]
  exact if_neg (by omega)

theorem State.forceNoted_pocketOpen {s : State} {t off len : Nat} (h : s.pocketOpen t off len) :
    (s.forceNoted t).pocketOpen t off len := by
  have hstatus : (s.forceNoted t).bit (Reg.pocketStatus t) 7 = s.bit (Reg.pocketStatus t) 7 := by
    rw [State.forceNoted, State.bit, State.getLsbD_setBit_ne _ _ _ _ (by decide), State.rd_count_ne, State.bit]
    exact tileWord_ne t (by decide)
  have hpwr : (s.forceNoted t).rd (Reg.pocketPwrStatus t) = s.rd (Reg.pocketPwrStatus t) := by
    rw [State.forceNoted, State.rd_setBit_ne, State.rd_count_ne] <;> exact tileWord_ne t (by decide)
  exact ⟨hstatus.trans h.1, fun w hw => (State.bit_congr hpwr _).trans (h.2 w hw)⟩

theorem State.forceNoted_count (s : State) (t : Nat) : ((s.forceNoted t).rd (Reg.pocketNarrowForceCount t)).toNat =
    Min.min 0xFFFFFFFF ((s.rd (Reg.pocketNarrowForceCount t)).toNat + 1) := by
  rw [State.forceNoted, State.rd_setBit_ne, State.rd_count_one]
  exact tileWord_ne t (by decide)

/-! ## Write-back (R80) -/

theorem exec_ceWriteBack {s : State} {t : TileId} {w : Nat} {ws : List Nat} (hce : (s.ports t).ceBack = w :: ws)
    (hbusy : w % 32 ∉ (s.ports t).busy) (hmerging : w % 32 ∉ (s.ports t).merging) :
    exec (.ceWriteBack t) s = .next (s.fixWord t w) := by
  have hexec : exec (.ceWriteBack t) s = execCeWriteBack t s := rfl
  rw [hexec, execCeWriteBack, hce]
  exact if_neg (by simp [hbusy, hmerging])

/-! ## The statement -/

/-- Settles O17, clause by clause: a read that is delivered, a narrow access that takes its bank or waits, a forced one, and
the write-back of a corrected word. -/
theorem pocketPortEffects : Obligations.PocketPortEffects := by
  unfold Obligations.PocketPortEffects
  intro s t
  refine ⟨fun r rs k q hreads hcharge hsrc hclean => ⟨_, exec_pocketReadData_clean hreads hcharge hsrc hclean,
    State.ports_setPorts .., (State.onlyTile.refl s t []).setPorts _⟩,
    fun r rest k q bs hposted hsrc hwr hlen hnarrow _ hopen hclean => ?_, fun w ws hce hbusy hmerging => ?_⟩
  · rw [← hlen] at hopen hclean hnarrow
    have hpos : 0 < bs.length := by omega
    obtain ⟨hgrant, hwait⟩ := exec_narrowAccess hposted
    refine ⟨fun hfree => ⟨_, hgrant hfree, ?_⟩, fun hheld => ⟨_, hwait hheld, ?_⟩,
      fun hwaits => ⟨_, exec_narrowForce hposted hwaits, ?_⟩⟩
    · have hwrote := State.grantNarrow_lands hsrc hwr hpos hopen hclean rest
      obtain ⟨ce, hports⟩ := hwrote.ports
      rw [State.ports_setPorts] at hports
      dsimp only
      rw [hports]
      exact ⟨hwrote.stored, rfl, rfl⟩
    · exact ⟨by rw [State.ports_setPorts], (State.onlyTile.refl s t []).setPorts _⟩
    · have hwrote := State.grantNarrow_lands hsrc hwr hpos (State.forceNoted_pocketOpen hopen) hclean rest
      obtain ⟨ce, hports⟩ := hwrote.ports
      rw [State.ports_setPorts] at hports
      refine ⟨hwrote.stored, by rw [hports]; rfl, ?_, ?_⟩
      · rw [hwrote.rd (Reg.pocketNarrowForceCount t) (notMem_pocketDirtyWords t (by decide) (by decide)),
          State.rd_setPorts, State.forceNoted_count]
      · rw [State.bit_congr (hwrote.rd (Reg.pocketStatus t) (notMem_pocketDirtyWords t (by decide) (by decide)))]
        exact State.bit_setBit _ _ _ _ (by decide)
  · obtain ⟨hregs, hpocket, herr, hports⟩ := s.fixWord_spec t w
    refine ⟨_, exec_ceWriteBack hce hbusy hmerging, ?_, fun x hx => ?_, ?_, hpocket, hregs⟩
    · rw [State.wordErr, herr, tfind_tdel_self]
    · rw [herr, tfind_tdel_ne _ hx]
    · rw [hports, hce]
      simp

end Sys2Proof.Machine
end

section
/-! SUPPORT. Scrub, wipe, wake of a bank group, and POCKET_ACC. Settles O18. -/

namespace Sys2Proof.Machine

/-! ## Bytes that are read, zeroed or compared -/

theorem mread_eq_map (m : List Host.Cell) (a n : Nat) : mread m a n = (List.range n).map (fun i => mget m (a + i)) := by
  induction n generalizing a with
  | zero => rfl
  | succ n ih =>
    rw [mread, ih, List.range_succ_eq_map, List.map_cons, List.map_map]
    simp only [Function.comp_def, Nat.add_zero, Nat.succ_eq_add_one, Nat.add_assoc, Nat.add_comm 1]

/-- Zeroed bytes read 0, and the others are as they were. -/
theorem mget_mzero (m : List Host.Cell) (a n j : Nat) :
    mget (mzero m a n) j = if j < a ∨ a + n ≤ j then mget m j else 0 := by
  have h := tfind_filter m (fun k => decide (k < a) || decide (a + n ≤ k)) j
  rw [mget, mzero, tget, h, mget, tget]
  by_cases hj : j < a ∨ a + n ≤ j
  · simp [hj]
  · simp [hj]

theorem mget_zeroPocket_in (s : State) {t off len i : Nat} (h : i < len) :
    mget (s.zeroPocket t off len).pocket (pkey t (off + i)) = 0 := by
  rw [pkey_add]
  exact (mget_mzero ..).trans (if_neg (by omega))

theorem mget_zeroPocket_out (s : State) {t off len a : Nat} (h : a < pkey t off ∨ pkey t off + len ≤ a) :
    mget (s.zeroPocket t off len).pocket a = mget s.pocket a :=
  (mget_mzero ..).trans (if_pos h)

/-- The pages whose bytes a write has changed, where the bytes stand in one page (R93). -/
theorem changedPages_contains (m m' : List Host.Cell) {t off n : Nat} (p : Nat)
    (h : ∀ i < n, (off + i) / 0x10000 = off / 0x10000) : (changedPages m m' t off n).contains p =
      (p == off / 0x10000 && mread m' (pkey t off) n != mread m (pkey t off) n) := by
  rw [Bool.eq_iff_iff, List.contains_iff_mem, changedPages, List.mem_dedup, mread_eq_map, mread_eq_map]
  simp only [List.mem_map, List.mem_filter, List.mem_range, bne_iff_ne, Bool.and_eq_true, beq_iff_eq, ne_eq,
    List.map_inj_left, not_forall, pkey_add]
  constructor
  · rintro ⟨i, ⟨hi, hne⟩, rfl⟩
    exact ⟨h i hi, i, hi, Ne.symm hne⟩
  · rintro ⟨rfl, i, hi, hne⟩
    exact ⟨i, ⟨hi, Ne.symm hne⟩, h i hi⟩

/-! ## Little-endian numbers (R9) -/

theorem leNat_lt (bs : List Byte) : leNat bs < 256 ^ bs.length := by
  induction bs with
  | nil => simp [leNat]
  | cons b bs ih =>
    rw [leNat, List.length_cons, Nat.pow_succ]
    omega

/-- The bytes of the number that bytes spell are those bytes. -/
theorem leBytes_leNat (bs : List Byte) : leBytes bs.length (leNat bs) = bs := by
  induction bs with
  | nil => rfl
  | cons b bs ih =>
    have hlow : BitVec.ofNat 8 (b.toNat + 256 * leNat bs) = b := by
      apply BitVec.eq_of_toNat_eq
      rw [BitVec.toNat_ofNat]
      omega
    have hrest : (b.toNat + 256 * leNat bs) / 256 = leNat bs := by omega
    rw [List.length_cons, leNat, leBytes, hlow, hrest, ih]

theorem leBytes_eq_map (n v : Nat) : leBytes n v = (List.range n).map (fun i => BitVec.ofNat 8 (v / 256 ^ i)) := by
  induction n generalizing v with
  | zero => rfl
  | succ n ih =>
    rw [leBytes, ih, List.range_succ_eq_map, List.map_cons, List.map_map]
    simp only [Function.comp_def, Nat.pow_zero, Nat.div_one, Nat.succ_eq_add_one, Nat.pow_succ', Nat.div_div_eq_div_mul]

/-! ## Scrub (R83) -/

/-- The tile's clock runs (R83). -/
def State.clockOn (s : State) (t : Nat) : State := s.setTile t { s.tile t with clockStopped := false }

/-- What has come to be wrong with the word that the scrub engine reads, as a fault that its check meets. -/
def State.scrubFinds (s : State) (t w : Nat) : Option WordErr → State
  | some e => (s.clockOn t).damage t [w] [(w, e)]
  | none => s.clockOn t

/-- The word under the scrub pointer can be read: the engine is on, no wipe runs, and the word's group is ON and its bank
free. -/
structure State.scrubs (s : State) (t w : Nat) : Prop where
  enabled : s.bit (Reg.pocketScrubCtrl t) 0 = true
  noWipe : s.bit (Reg.pocketStatus t) 7 = false
  pointer : w = s.fld (Reg.pocketScrubPtr t) 3 19
  power : s.bit (Reg.pocketPwrStatus t) (w / 0x10000) = true
  free : s.bankFree t (8 * w)

section Scrub
variable {s : State} {t : TileId} {w : Nat} (h : s.scrubs t w)
include h

theorem State.scrubs.lt : w < 0x80000 := by
  rw [h.pointer]
  exact BitVec.isLt _

theorem State.scrubs.next : s.scrubNext t w = some w := by
  have hlt := h.lt
  have hon : s.bit (Reg.pocketPwrStatus t) (w / 0x10000 % 8) = true := by rw [Nat.mod_eq_of_lt (by omega), h.power]
  exact if_pos hon

theorem State.scrubs.notHeld : w % 32 ∉ (s.ports t).busy ∧ w % 32 ∉ (s.ports t).merging := by
  have hfree := h.free
  rwa [State.bankFree, Nat.mul_div_cancel_left _ (by decide)] at hfree

/-- The word is read, and the pointer moves on from what the check of the word has left. -/
theorem exec_scrubStep {err : Option WordErr} {u : State}
    (hcheck : (s.scrubFinds t w err).checkWords t [w] = (u, true, false)) :
    exec (.scrubStep t err) s = .next (u.scrubAdvance t w) := by
  obtain ⟨hbusy, hmerging⟩ := h.notHeld
  have hexec : exec (.scrubStep t err) s = execScrubStep t err s := rfl
  cases err <;> simp only [State.scrubFinds] at hcheck <;>
    simp [hexec, execScrubStep, h.enabled, h.noWipe, ← h.pointer, h.next, hbusy, hmerging, Nat.mod_eq_of_lt h.lt,
      ← State.clockOn.eq_def, hcheck]

theorem exec_scrubStep_clean (hw : s.wordErr t w = none) :
    exec (.scrubStep t none) s = .next ((s.clockOn t).scrubAdvance t w) :=
  exec_scrubStep h (State.checkWords_clean _ _ _ (fun x hx => by rwa [List.mem_singleton.1 hx]))

/-- A word that is found to have one wrong bit is corrected (R80). -/
theorem exec_scrubStep_corrected {e : WordErr} (he : e.double = false) : exec (.scrubStep t (some e)) s =
    .next (((s.scrubFinds t w (some e)).noteCe t w e).scrubAdvance t w) := by
  have herr : (s.scrubFinds t w (some e)).wordErr t w = some e := by
    simp [State.scrubFinds, State.wordErr, State.damage]
  exact exec_scrubStep h (by simp [State.checkWords, herr, he])

end Scrub

theorem State.scrubAdvance_goesOn (s : State) (t : Nat) {w : Nat} (h : w + 1 < 0x80000) :
    s.scrubAdvance t w = s.wr (Reg.pocketScrubPtr t) (BitVec.ofNat 32 (8 * ((w + 1) % 0x80000))) :=
  if_neg (by omega)

/-- The end of a pass (R84). -/
theorem State.scrubAdvance_wraps (s : State) (t : Nat) {w : Nat} (h : 0x80000 ≤ w + 1) :
    s.scrubAdvance t w = ((s.wr (Reg.pocketScrubPtr t) (BitVec.ofNat 32 (8 * ((w + 1) % 0x80000)))).wr
      (Reg.pocketScrubPasses t) (s.rd (Reg.pocketScrubPasses t) + 1)).setBit (Reg.pocketStatus t) 1 true := by
  rw [State.scrubAdvance, if_pos h, State.rd_wr_ne]
  exact tileWord_ne t (by decide)

/-- What moving the scrub pointer changes: the pointer, the passes, and POCKET_STATUS in its bit 1 alone. -/
structure State.scrubMoved (s u : State) (t w : Nat) : Prop where
  pointer : u.rd (Reg.pocketScrubPtr t) = BitVec.ofNat 32 (8 * ((w + 1) % 0x80000))
  passes : u.rd (Reg.pocketScrubPasses t) = s.rd (Reg.pocketScrubPasses t) + (if w = 0x7FFFF then 1 else 0)
  status : s.sameBits u (Reg.pocketStatus t) (fun j => j ≠ 1)
  frame : s.onlyRegs u [Reg.pocketScrubPtr t, Reg.pocketScrubPasses t, Reg.pocketStatus t]

theorem State.scrubAdvance_scrubMoved (s : State) (t : Nat) {w : Nat} (h : w < 0x80000) :
    s.scrubMoved (s.scrubAdvance t w) t w := by
  have hframe := State.onlyRegs.refl s [Reg.pocketScrubPtr t, Reg.pocketScrubPasses t, Reg.pocketStatus t]
  by_cases hw : w = 0x7FFFF
  · rw [State.scrubAdvance_wraps _ _ (by omega)]
    refine ⟨?_, ?_, fun j hj => ?_, ((hframe.wr (by simp) _).wr (by simp) _).setBit (by simp) _ _⟩
    · rw [State.rd_setBit_ne, State.rd_wr_ne, State.rd_wr_self] <;> exact tileWord_ne t (by decide)
    · rw [State.rd_setBit_ne, State.rd_wr_self, if_pos hw]
      exact tileWord_ne t (by decide)
    · rw [State.getLsbD_setBit_ne _ _ _ _ hj, State.rd_wr_ne, State.rd_wr_ne] <;> exact tileWord_ne t (by decide)
  · rw [State.scrubAdvance_goesOn _ _ (by omega)]
    refine ⟨State.rd_wr_self .., ?_, fun j _ => ?_, hframe.wr (by simp) _⟩
    · rw [State.rd_wr_ne, if_neg hw]
      · exact (BitVec.add_zero _).symm
      · exact tileWord_ne t (by decide)
    · rw [State.rd_wr_ne]
      exact tileWord_ne t (by decide)

/-- A corrected word as it is counted and latched (R80). -/
def State.ceLatched (s : State) (t w : Nat) (e : WordErr) : State :=
  ((s.count (Reg.pocketCeCount t) 1).setBit (Reg.pocketStatus t) 4 true).latchErrAddr t w e

theorem State.noteCe_spec (s : State) (t w : Nat) (e : WordErr) : (s.noteCe t w e).pocket = s.pocket ∧
    w ∈ ((s.noteCe t w e).ports t).ceBack ∧ ∀ a, (s.noteCe t w e).rd a = (s.ceLatched t w e).rd a := by
  rw [State.noteCe]
  dsimp only
  rw [← State.ceLatched]
  have hpocket : (s.ceLatched t w e).pocket = s.pocket := by
    rw [State.ceLatched, State.latchErrAddr, State.wr_pocket, State.setBit_pocket, State.count, State.wr_pocket]
  split_ifs with hce
  · exact ⟨hpocket, List.contains_iff_mem.1 hce, fun _ => rfl⟩
  · refine ⟨by rw [State.pocket_setPorts, hpocket], ?_, fun _ => State.rd_setPorts ..⟩
    rw [State.ports_setPorts]
    exact List.mem_append_right _ List.mem_cons_self

theorem State.ceLatched_count (s : State) (t w : Nat) (e : WordErr) :
    ((s.ceLatched t w e).rd (Reg.pocketCeCount t)).toNat =
      Min.min 0xFFFFFFFF ((s.rd (Reg.pocketCeCount t)).toNat + 1) := by
  rw [State.ceLatched, State.latchErrAddr, State.rd_wr_ne, State.rd_setBit_ne, State.rd_count_one] <;>
    exact tileWord_ne t (by decide)

theorem State.ceLatched_status (s : State) (t w : Nat) (e : WordErr) :
    (s.ceLatched t w e).bit (Reg.pocketStatus t) 4 = true := by
  rw [State.ceLatched, State.latchErrAddr, State.bit_congr (State.rd_wr_ne _ _ ?_), State.bit_setBit _ _ _ _ (by decide)]
  exact tileWord_ne t (by decide)

/-- R83, R84: a step over a word that does not fail its check. -/
theorem scrubStep_clean {s : State} {t : TileId} {w : Nat} (h : s.scrubs t w) (hw : s.wordErr t w = none) :
    Answers (.scrubStep t none) s (fun u =>
      u.rd (Reg.pocketScrubPtr t) = BitVec.ofNat 32 (8 * ((w + 1) % 0x80000)) ∧
      u.rd (Reg.pocketScrubPasses t) = s.rd (Reg.pocketScrubPasses t) + (if w = 0x7FFFF then 1 else 0) ∧
      s.onlyTile u t [Reg.pocketScrubPtr t, Reg.pocketScrubPasses t, Reg.pocketStatus t]) := by
  have hmoved := (s.clockOn t).scrubAdvance_scrubMoved t h.lt
  exact ⟨_, exec_scrubStep_clean h hw, hmoved.pointer, hmoved.passes,
    ((State.onlyTile.refl s t _).setTile _).onlyRegs hmoved.frame⟩

/-- R80, R83: a step over a word whose single wrong bit is found. -/
theorem scrubStep_corrected {s : State} {t : TileId} {w : Nat} (h : s.scrubs t w) {e : WordErr} (he : e.double = false) :
    Answers (.scrubStep t (some e)) s (fun u =>
      u.rd (Reg.pocketScrubPtr t) = BitVec.ofNat 32 (8 * ((w + 1) % 0x80000)) ∧ u.pocket = s.pocket ∧
      w ∈ (u.ports t).ceBack ∧ u.bit (Reg.pocketStatus t) 4 = true ∧
      (u.rd (Reg.pocketCeCount t)).toNat = Min.min 0xFFFFFFFF ((s.rd (Reg.pocketCeCount t)).toNat + 1)) := by
  obtain ⟨hpocket, hback, hrd⟩ := (s.scrubFinds t w (some e)).noteCe_spec t w e
  have hmoved := ((s.scrubFinds t w (some e)).noteCe t w e).scrubAdvance_scrubMoved t h.lt
  refine ⟨_, exec_scrubStep_corrected h he, hmoved.pointer, ?_, ?_, ?_, ?_⟩
  · rw [hmoved.frame.1]
    exact hpocket
  · rw [hmoved.frame.1]
    exact hback
  · rw [State.bit, hmoved.status 4 (by decide), hrd]
    exact State.ceLatched_status ..
  · rw [hmoved.frame.2 _ (by simp [Reg.pocketCeCount, Reg.pocketScrubPtr, Reg.pocketScrubPasses, Reg.pocketStatus]), hrd]
    exact State.ceLatched_count ..

/-! ## The end of a wipe (R87, R90) -/

/-- The words that the end of a wipe clears, beside POCKET_STATUS. -/
def wipeWords (t : Nat) : List Nat :=
  [Reg.pocketConflictCount t, Reg.pocketConflictInfo t, Reg.pocketCeCount t, Reg.pocketUeCount t, Reg.pocketErrAddr t,
    Reg.pocketNarrowForceCount t, Reg.pocketScrubPtr t]

/-- The state of a tile whose wipe is complete. -/
def State.wiped (s : State) (t : Nat) : State :=
  (((s.zeroPocket t 0 pocketBytes).clear (Reg.pocketStatus t :: wipeWords t)).setBit
    (Reg.pocketStatus t) 6 true).wr (Reg.pocketPwrStatus t) 0xFF

theorem exec_wipeDone {s : State} {t : TileId} (h : s.bit (Reg.pocketStatus t) 7 = true) :
    exec (.wipeDone t) s = .next (s.wiped t) := by
  have hexec : exec (.wipeDone t) s = execWipeDone t s := rfl
  rw [hexec, execWipeDone]
  exact if_neg (by simp [h])

theorem State.wiped_pocket (s : State) (t : Nat) : (s.wiped t).pocket = (s.zeroPocket t 0 pocketBytes).pocket := by
  rw [State.wiped, State.wr_pocket, State.setBit_pocket, State.clear_eq]

theorem State.rd_wiped_cleared (s : State) {t a : Nat} (h : a ∈ wipeWords t) : (s.wiped t).rd a = 0 := by
  have hne : a ≠ Reg.pocketPwrStatus t ∧ a ≠ Reg.pocketStatus t := by
    simp only [wipeWords, List.mem_cons, List.not_mem_nil, or_false] at h
    rcases h with rfl | rfl | rfl | rfl | rfl | rfl | rfl <;>
      exact ⟨tileWord_ne t (by decide), tileWord_ne t (by decide)⟩
  rw [State.wiped, State.rd_wr_ne _ _ hne.1, State.rd_setBit_ne _ _ _ hne.2, State.rd_clear_in _ _ _ (List.mem_cons_of_mem _ h)]

/-- A wipe sets no dirty bit (R89). -/
theorem State.rd_wiped_dirty (s : State) {t a : Nat} (h : a ∈ pocketDirtyWords t) : (s.wiped t).rd a = s.rd a := by
  have hout {b : Nat} (hb : b ≠ 0x1000070) (hb4 : b ≠ 0x1000074) : a ≠ b + 0x10000 * t :=
    fun e => notMem_pocketDirtyWords t hb hb4 (e ▸ h)
  have hnot : a ∉ Reg.pocketStatus t :: wipeWords t := by
    simp only [wipeWords, List.mem_cons, List.not_mem_nil, or_false, not_or]
    refine ⟨?_, ?_, ?_, ?_, ?_, ?_, ?_, ?_⟩ <;> exact hout (by decide) (by decide)
  rw [State.wiped, State.rd_wr_ne, State.rd_setBit_ne, State.rd_clear_out _ _ _ hnot]
  · rfl
  · exact hout (by decide) (by decide)
  · exact hout (by decide) (by decide)

theorem State.rd_wiped_status (s : State) (t : Nat) : (s.wiped t).rd (Reg.pocketStatus t) = 0x40 := by
  rw [State.wiped, State.rd_wr_ne, State.setBit, State.rd_setFld_self, State.rd_clear_in _ _ _ List.mem_cons_self]
  · decide
  · exact tileWord_ne t (by decide)

/-- R87, R90: a wipe that is complete. -/
theorem wipeDone_wipes {s : State} {t : TileId} (h : s.bit (Reg.pocketStatus t) 7 = true) :
    Answers (.wipeDone t) s (fun u =>
      (∀ o < 0x400000, mget u.pocket (pkey t o) = 0) ∧
      (∀ a, (a < pkey t 0 ∨ pkey t 0x400000 ≤ a) → mget u.pocket a = mget s.pocket a) ∧
      u.rd (Reg.pocketStatus t) = 0x40 ∧ u.rd (Reg.pocketPwrStatus t) = 0xFF ∧
      u.rd (Reg.pocketConflictCount t) = 0 ∧ u.rd (Reg.pocketCeCount t) = 0 ∧ u.rd (Reg.pocketUeCount t) = 0 ∧
      u.rd (Reg.pocketErrAddr t) = 0 ∧ u.rd64 (Reg.pocketDirty t) = s.rd64 (Reg.pocketDirty t)) := by
  refine ⟨_, exec_wipeDone h, fun o ho => ?_, fun a ha => ?_, s.rd_wiped_status t, State.rd_wr_self ..,
    s.rd_wiped_cleared ?_, s.rd_wiped_cleared ?_, s.rd_wiped_cleared ?_, s.rd_wiped_cleared ?_,
    State.rd64_congr (s.rd_wiped_dirty ?_) (s.rd_wiped_dirty ?_)⟩
  · rw [State.wiped_pocket, ← Nat.zero_add o]
    exact mget_zeroPocket_in s ho
  · rw [State.wiped_pocket]
    exact mget_zeroPocket_out s (by rwa [← pkey_add])
  all_goals simp [wipeWords, pocketDirtyWords]

/-! ## The end of a bank group's wake (R78) -/

/-- A group that was waking is zero and ON. -/
def State.groupWoken (s : State) (t g : Nat) : State :=
  ((s.zeroPocket t (g * 0x80000) 0x80000).setBit (Reg.pocketPwrStatus t) (8 + g) false).setBit (Reg.pocketPwrStatus t) g true

/-- A commit that waited for the group changes, in the register words, its own status alone. -/
theorem State.commitWoken_spec (s : State) (q : Nat) : (s.commitWoken q).pocket = s.pocket ∧
    ∀ a ≠ Reg.structCommitStatus q, (s.commitWoken q).rd a = s.rd a := by
  unfold State.commitWoken
  split_ifs
  · exact ⟨rfl, fun a ha => State.rd_setFld_ne _ _ _ _ ha⟩
  · exact ⟨rfl, fun _ _ => rfl⟩

theorem State.partOf_lt {s : State} {t q : Nat} (h : s.partOf t = some q) : q < 8 :=
  List.mem_range.1 (List.mem_of_find?_eq_some h)

/-- BANK_GROUP_WAKE_DONE answers the state in which the group is ON, but for the status of a commit that waited. -/
theorem exec_bankGroupWakeDone {s : State} {t : TileId} {g : Fin 8} (h : s.bit (Reg.pocketPwrStatus t) (8 + g) = true) :
    ∃ u, exec (.bankGroupWakeDone t g) s = .next u ∧ u.pocket = (s.groupWoken t g).pocket ∧
      ∀ a, 0x1000000 ≤ a → u.rd a = (s.groupWoken t g).rd a := by
  have hexec : exec (.bankGroupWakeDone t g) s = .next (match (s.groupWoken t g).partOf t with
      | some q => (s.groupWoken t g).commitWoken q
      | none => s.groupWoken t g) := by
    have hdef : exec (.bankGroupWakeDone t g) s = execBankGroupWakeDone t g s := rfl
    rw [hdef, execBankGroupWakeDone, if_neg (by simp [h])]
    rfl
  rw [hexec]
  cases hpart : (s.groupWoken t g).partOf t with
  | none => exact ⟨_, rfl, rfl, fun _ _ => rfl⟩
  | some q =>
    obtain ⟨hpocket, hrd⟩ := (s.groupWoken t g).commitWoken_spec q
    have hq := State.partOf_lt hpart
    exact ⟨_, rfl, hpocket, fun a ha => hrd a (by unfold Reg.structCommitStatus; omega)⟩

theorem State.groupWoken_rd_ne (s : State) {t g a : Nat} (h : a ≠ Reg.pocketPwrStatus t) :
    (s.groupWoken t g).rd a = s.rd a := by
  rw [State.groupWoken, State.rd_setBit_ne _ _ _ h, State.rd_setBit_ne _ _ _ h]
  rfl

theorem State.groupWoken_on (s : State) (t : Nat) (g : Fin 8) :
    (s.groupWoken t g).bit (Reg.pocketPwrStatus t) g = true := by
  rw [State.groupWoken, State.bit_setBit _ _ _ _ (by omega)]

theorem State.groupWoken_notWaking (s : State) (t : Nat) (g : Fin 8) :
    (s.groupWoken t g).bit (Reg.pocketPwrStatus t) (8 + g) = false := by
  rw [State.groupWoken, State.bit, State.getLsbD_setBit_ne _ _ _ _ (by omega), ← State.bit,
    State.bit_setBit _ _ _ _ (by omega)]

theorem State.groupWoken_sameBits (s : State) (t g : Nat) :
    s.sameBits (s.groupWoken t g) (Reg.pocketPwrStatus t) (fun j => j ≠ g ∧ j ≠ 8 + g) := by
  intro j hj
  rw [State.groupWoken, State.getLsbD_setBit_ne _ _ _ _ hj.1, State.getLsbD_setBit_ne _ _ _ _ hj.2]
  rfl

/-- R78: a bank group that has woken. -/
theorem bankGroupWakeDone_wakes {s : State} {t : TileId} {g : Fin 8} (h : s.bit (Reg.pocketPwrStatus t) (8 + g) = true) :
    Answers (.bankGroupWakeDone t g) s (fun u =>
      (∀ i < 0x80000, mget u.pocket (pkey t (g * 0x80000 + i)) = 0) ∧
      (∀ a, (a < pkey t (g * 0x80000) ∨ pkey t (g * 0x80000) + 0x80000 ≤ a) → mget u.pocket a = mget s.pocket a) ∧
      u.bit (Reg.pocketPwrStatus t) g = true ∧ u.bit (Reg.pocketPwrStatus t) (8 + g) = false ∧
      s.sameBits u (Reg.pocketPwrStatus t) (fun j => j ≠ g.val ∧ j ≠ 8 + g.val) ∧
      u.rd64 (Reg.pocketDirty t) = s.rd64 (Reg.pocketDirty t)) := by
  obtain ⟨u, hexec, hpocket, hrd⟩ := exec_bankGroupWakeDone h
  have hpwr := hrd (Reg.pocketPwrStatus t) (by unfold Reg.pocketPwrStatus; omega)
  refine ⟨u, hexec, fun i hi => ?_, fun a ha => ?_, (State.bit_congr hpwr _).trans (s.groupWoken_on t g),
    (State.bit_congr hpwr _).trans (s.groupWoken_notWaking t g), fun j hj => ?_, State.rd64_congr ?_ ?_⟩
  · rw [hpocket]
    exact mget_zeroPocket_in s hi
  · rw [hpocket]
    exact mget_zeroPocket_out s ha
  · rw [hpwr]
    exact s.groupWoken_sameBits t g j hj
  all_goals
    rw [hrd _ (by unfold Reg.pocketDirty; omega), State.groupWoken_rd_ne]
    unfold Reg.pocketDirty Reg.pocketPwrStatus
    omega

/-! ## POCKET_ACC (R92) -/

/-- POCKET_ACC_ADDR moves on by a word, within the Pocket. -/
theorem State.rd_accAdvance (s : State) (t : Nat) : ((s.accAdvance t).rd (Reg.pocketAccAddr t)).toNat =
    ((s.rd (Reg.pocketAccAddr t)).toNat + 4) % 0x400000 := by
  rw [State.accAdvance, State.rd_wr_self, BitVec.toNat_ofNat, pocketBytes]
  omega

theorem State.rd_accAdvance_ne (s : State) {t a : Nat} (h : a ≠ Reg.pocketAccAddr t) : (s.accAdvance t).rd a = s.rd a :=
  State.rd_wr_ne s _ h

section Acc
variable {s : State} {t : TileId} {off : Nat} (hon : s.regOn (Reg.pocketAccData t) = true)
  (hoff : off = (s.rd (Reg.pocketAccAddr t)).toNat) (hopen : s.pocketOpen t off 4) (hclean : s.pocketClean t off 4)
include hon hoff hopen hclean

theorem exec_pocketAccRead : exec (.pocketAccRead t) s =
    .next { s.accAdvance t with reply := mread s.pocket (pkey t off) 4 } := by
  have hlen := mread_length s.pocket (pkey t off) 4
  have hword : leBytes 4 (BitVec.ofNat 32 (mreadNat s.pocket (pkey t off) 4)).toNat = mread s.pocket (pkey t off) 4 := by
    have hlt := leNat_lt (mread s.pocket (pkey t off) 4)
    have hbytes := leBytes_leNat (mread s.pocket (pkey t off) 4)
    rw [hlen] at hlt hbytes
    rw [mreadNat, BitVec.toNat_ofNat, Nat.mod_eq_of_lt (by omega), hbytes]
  have hread : s.accRead t = (s.accAdvance t, BitVec.ofNat 32 (mreadNat s.pocket (pkey t off) 4)) := by
    rw [State.accRead, ← hoff]
    simp only [State.pocketRefusal_open hopen, State.checkWords_clean _ _ _ hclean, if_true]
  have hdef : exec (.pocketAccRead t) s = execPocketAccRead t s := rfl
  rw [hdef, execPocketAccRead, if_neg (by simp [hon]), hread]
  dsimp only
  rw [hword]

theorem exec_pocketAccWrite (v : Word) : ∃ u, exec (.pocketAccWrite t v) s = .next (u.accAdvance t) ∧
    s.wroteBytes u t off (leBytes 4 v.toNat) := by
  have hlen : (leBytes 4 v.toNat).length = 4 := by simp [leBytes_eq_map]
  obtain ⟨u, hu, hwrote⟩ := State.pocketWrite_lands (bs := leBytes 4 v.toNat) (by rw [hlen]; decide) (by rwa [hlen])
    (.inr (by rwa [hlen]))
  have hwrite : s.accWrite t v = u.accAdvance t := by
    rw [State.accWrite, ← hoff]
    simp only [hu, if_true]
  have hdef : exec (.pocketAccWrite t v) s = .next (s.ctl (Reg.pocketAccData t) (fun s => s.accWrite t v)) := rfl
  refine ⟨u, ?_, hwrote⟩
  rw [hdef, State.ctl, if_pos hon, hwrite]

/-- R92: the word that POCKET_ACC reads. -/
theorem pocketAccRead_reads : Answers (.pocketAccRead t) s (fun u => u.reply = mread s.pocket (pkey t off) 4 ∧
    (u.rd (Reg.pocketAccAddr t)).toNat = (off + 4) % 0x400000 ∧ u.pocket = s.pocket ∧
    ∀ a, a ≠ Reg.pocketAccAddr t → u.rd a = s.rd a) := by
  refine ⟨_, exec_pocketAccRead hon hoff hopen hclean, rfl, ?_, rfl, fun a ha => s.rd_accAdvance_ne ha⟩
  rw [hoff]
  exact s.rd_accAdvance t

/-- R92, R93: the word that POCKET_ACC writes, and the page that it marks. -/
theorem pocketAccWrite_writes (halign : off % 4 = 0) (v : Word) :
    Answers (.pocketAccWrite t v) s (fun u =>
      s.stored u t off ((List.range 4).map (fun i => BitVec.ofNat 8 (v.toNat / 256 ^ i))) ∧
      (u.rd (Reg.pocketAccAddr t)).toNat = (off + 4) % 0x400000 ∧
      (∀ p < 64, (u.rd64 (Reg.pocketDirty t)).testBit p = ((s.rd64 (Reg.pocketDirty t)).testBit p ||
        (p == off / 0x10000 && mread u.pocket (pkey t off) 4 != mread s.pocket (pkey t off) 4))) ∧
      ∀ a, a ≠ Reg.pocketAccAddr t → a ≠ Reg.pocketDirty t → a ≠ Reg.pocketDirty t + 4 → u.rd a = s.rd a) := by
  obtain ⟨u, hexec, hwrote⟩ := exec_pocketAccWrite hon hoff hopen hclean v
  have haddr : u.rd (Reg.pocketAccAddr t) = s.rd (Reg.pocketAccAddr t) :=
    hwrote.rd (Reg.pocketAccAddr t) (notMem_pocketDirtyWords t (by decide) (by decide))
  have hlen : (leBytes 4 v.toNat).length = 4 := by simp [leBytes_eq_map]
  have hdirty : (u.accAdvance t).rd64 (Reg.pocketDirty t) = u.rd64 (Reg.pocketDirty t) := by
    refine State.rd64_congr (u.rd_accAdvance_ne ?_) (u.rd_accAdvance_ne ?_)
    all_goals
      unfold Reg.pocketDirty Reg.pocketAccAddr
      omega
  refine ⟨_, hexec, ?_, ?_, fun p hp => ?_, fun a ha h0 h4 => ?_⟩
  · rw [← leBytes_eq_map]
    exact hwrote.stored
  · rw [State.rd_accAdvance, haddr, hoff]
  · have hpage (i : Nat) (hi : i < 4) : (off + i) / 0x10000 = off / 0x10000 := by omega
    rw [hdirty, hwrote.dirty p hp, hlen, changedPages_contains _ _ _ hpage]
    rfl
  · rw [State.rd_accAdvance_ne _ ha, hwrote.rd a (by simp [pocketDirtyWords, h0, h4])]

end Acc

/-! ## The statement -/

/-- Settles O18, clause by clause: the scrub engine, the end of a wipe, the end of a bank group's wake, and POCKET_ACC. -/
theorem pocketUpkeepEffects : Obligations.PocketUpkeepEffects := by
  unfold Obligations.PocketUpkeepEffects
  intro s t
  refine ⟨fun hon hwipe w hw hpower hfree => ?_, wipeDone_wipes, fun g => bankGroupWakeDone_wakes,
    fun hon off hoff halign _ hopen hclean => ⟨pocketAccRead_reads hon hoff hopen hclean,
      pocketAccWrite_writes hon hoff hopen hclean halign⟩⟩
  have h : s.scrubs t w := ⟨hon, hwipe, hw, hpower, hfree⟩
  exact ⟨scrubStep_clean h, fun e => scrubStep_corrected h⟩

end Sys2Proof.Machine
end

section
/-! SUPPORT. The suits of a tile in issue order, the steps of a stage, and the frame of a stage that goes on. -/

namespace Sys2Proof.Machine

/-! ## Suits in issue order -/

/-- A fold that puts each element into the list so far, at whatever place, gathers the list that is folded. -/
theorem mem_foldl_insert {α : Type} {f : List α → α → List α} (hf : ∀ l a b, b ∈ f l a ↔ b ∈ l ∨ b = a) (as l : List α)
    (b : α) : b ∈ as.foldl f l ↔ b ∈ l ∨ b ∈ as := by
  induction as generalizing l with
  | nil => simp
  | cons a as ih => rw [List.foldl_cons, ih, hf, List.mem_cons, or_assoc]

theorem mem_insertSuit (l : List (Nat × Suit)) (p b : Nat × Suit) :
    b ∈ l.filter (fun y => y.2.order ≤ p.2.order) ++ [p] ++ l.filter (fun y => p.2.order < y.2.order) ↔ b ∈ l ∨ b = p := by
  have horder := le_or_gt b.2.order p.2.order
  simp only [List.mem_append, List.mem_filter, decide_eq_true_eq, List.mem_singleton]
  tauto

theorem State.mem_runningSuits {s : State} {t : Nat} {p : Nat × Suit} :
    p ∈ s.runningSuits t ↔ p ∈ (s.tile t).suits ∧ s.suitState t p.1 = suitRunning := by
  rw [State.runningSuits, mem_foldl_insert mem_insertSuit]
  simp

theorem State.mem_liveSuits {s : State} {t : Nat} {p : Nat × Suit} :
    p ∈ s.liveSuits t ↔ p ∈ (s.tile t).suits ∧ s.suitLive t p.1 = true := by
  rw [State.liveSuits, mem_foldl_insert mem_insertSuit]
  simp

section Slots
variable {s : State} {t i : Nat} {x : Suit} (hslots : s.suitSlots t)
include hslots

theorem State.suitSlots.running_lt {p : Nat × Suit} (h : p ∈ s.runningSuits t) : p.1 < 4 :=
  hslots p (State.mem_runningSuits.1 h).1

theorem State.suitSlots.seamSuit_lt (h : s.seamSuit t = some (i, x)) : i < 4 :=
  hslots.running_lt (List.mem_of_find?_eq_some h)

theorem State.suitSlots.nextSuit_lt {left : Suit → Bool} (h : s.nextSuit t left = some (i, x)) : i < 4 := by
  unfold State.nextSuit at h
  split at h
  · next j y hfind =>
    split at h
    · cases h
      exact hslots (i, x) (State.mem_liveSuits.1 (List.mem_of_find?_eq_some hfind)).1
    · cases h
  · cases h

theorem State.suitSlots.setSuit (hi : i < 4) (y : Suit) : (s.setSuit t i y).suitSlots t := by
  intro p hp
  rw [State.setSuit, State.tile_setTile_self] at hp
  rcases mem_tset _ _ _ _ hp with rfl | hp
  · exact hi
  · exact hslots p hp

end Slots

theorem State.suitSlots.of_tiles {s u : State} {t : Nat} (h : s.suitSlots t) (e : u.tiles = s.tiles) : u.suitSlots t := by
  rwa [State.suitSlots, State.tile, e]

/-! ## Frames -/

theorem State.onlyRegs.mono {s u : State} {as bs : List Nat} (h : s.onlyRegs u as) (hsub : as ⊆ bs) : s.onlyRegs u bs :=
  ⟨h.1, fun a ha => h.2 a (fun m => ha (hsub m))⟩

theorem State.onlyRegs.count {s u : State} {as : List Nat} {a : Nat} (h : s.onlyRegs u as) (ha : a ∈ as) (n : Nat) :
    s.onlyRegs (u.count a n) as := h.wr ha _

theorem State.onlyRegs.tiles {s u : State} {as : List Nat} (h : s.onlyRegs u as) : u.tiles = s.tiles := by
  rw [h.1]

theorem State.onlyRegs.onlyTile {s u : State} {as : List Nat} (h : s.onlyRegs u as) (t : Nat) : s.onlyTile u t as :=
  (State.onlyTile.refl s t as).onlyRegs h

/-! ## The words in which the stages show themselves -/

theorem suitStatus_mem_suitWords {t i : Nat} (hi : i < 4) : Reg.suitStatus t i ∈ suitWords t :=
  List.mem_append_right _ (List.mem_map_of_mem (List.mem_range.2 hi))

theorem State.onlyRegs.refreshBuf {s u : State} {as : List Nat} {t : Nat} (h : s.onlyRegs u as)
    (ha : Reg.seamBufStatus t ∈ as) : s.onlyRegs (u.refreshBuf t) as := by
  unfold State.refreshBuf
  split <;> exact h.wr ha _

theorem State.refreshSuits_onlyRegs {s : State} {t : Nat} (hslots : s.suitSlots t) :
    s.onlyRegs (s.refreshSuits t) (suitWords t) := by
  unfold State.refreshSuits
  refine State.onlyRegs.refreshBuf ?_ (by simp [suitWords])
  have hstages := List.foldlRecOn (motive := fun u => s.onlyRegs u (suitWords t)) (s.runningSuits t)
    (fun s p => s.setFld (Reg.suitStatus t p.1) 18 6 p.2.running) (State.onlyRegs.refl s _)
    (fun _ hu p hp => hu.setFld (suitStatus_mem_suitWords (hslots.running_lt hp)) _ _ _)
  have hseam : Reg.seamStatus t ∈ suitWords t := by simp [suitWords]
  have hsleeve : Reg.sleeveStatus t ∈ suitWords t := by simp [suitWords]
  dsimp only
  split <;> split <;> exact (hstages.wr hseam _).wr hsleeve _

/-- Every word outside the stages' own differs from them by its offset in the tile's block. -/
theorem notMem_suitWords (t : Nat) {o : Nat} (hlo : 0x1002004 < o) (hhi : o < 0x1003000) : o + 0x10000 * t ∉ suitWords t := by
  simp only [suitWords, Reg.seamStatus, Reg.sleeveStatus, Reg.seamBufStatus, Reg.suitStatus, List.mem_append, List.mem_cons,
    List.not_mem_nil, or_false, List.mem_map, List.mem_range]
  rintro (h | ⟨j, hj, h⟩) <;> omega

/-! ## Steps of a stage -/

@[simp] theorem andThen_ok {α β : Type} (s : State) (a : α) (f : State → α → Step' β) : andThen (s, .ok a) f = f s a := rfl

@[simp] theorem keepRun_ok (t i : Nat) (x : Suit) (s : State) (r : SuitRun) : keepRun t i x (s, .ok r) = s.putRun t i x r := rfl

/-- Steps that all answer and leave the state as it is. -/
theorem each_ok {α β : Type} {f : State → α → Step' β} {s : State} {g : α → β} (as : List α)
    (h : ∀ a ∈ as, f s a = (s, .ok (g a))) : each f s as = (s, .ok (as.map g)) := by
  induction as with
  | nil => rfl
  | cons a as ih =>
    rw [each, h a List.mem_cons_self, andThen_ok, ih (fun b hb => h b (List.mem_cons_of_mem _ hb))]
    rfl

/-! ## A stage that goes on -/

section PutRun
variable {s u : State} {t i : Nat} {as : List Nat} (hslots : s.suitSlots t) (hi : i < 4) (h : s.onlyRegs u as)
include hslots hi h

theorem State.putRun_onlyRegs_setSuit (x : Suit) (r : SuitRun) :
    (u.setSuit t i { x with run := r }).onlyRegs (u.putRun t i x r) (suitWords t) :=
  State.refreshSuits_onlyRegs ((hslots.of_tiles h.tiles).setSuit hi _)

/-- Keeping the stages of a suit, where only words have changed before. -/
theorem State.putRun_stageNow (x : Suit) (r : SuitRun) : s.stageNow (u.putRun t i x r) t i x r as := by
  have hput := State.putRun_onlyRegs_setSuit hslots hi h x r
  refine ⟨?_, ?_⟩
  · rw [State.suit, State.tile, hput.tiles]
    simp [State.setSuit, State.setTile]
  · exact (((h.mono (List.subset_append_right _ _)).onlyTile t).setTile _).onlyRegs
      (hput.mono (List.subset_append_left _ _))

theorem State.rd_putRun (x : Suit) (r : SuitRun) {a : Nat} (ha : a ∉ suitWords t) : (u.putRun t i x r).rd a = u.rd a :=
  (State.putRun_onlyRegs_setSuit hslots hi h x r).2 a ha

end PutRun

end Sys2Proof.Machine
end

section
/-! SUPPORT. The starts of the SEAM and SLEEVE stages (R133, R185, R283, R501). Settles O19. -/

namespace Sys2Proof.Machine

section Start
variable {s : State} {t : TileId} {i : Nat} {x : Suit} (hbound : x.bound = true)
include hbound

theorem exec_seamStageStart (hidle : s.seamSuit t = none)
    (hnext : s.nextSuit t (fun x => x.has stSeam && x.run.seam != 2) = some (i, x)) :
    exec (.seamStageStart t) s = .next (if s.domainOn (5 + t.val / 64) then
      s.putRun t i x { x.run with seam := 1, sPos := s.seamFirst t x } else s.needCompute t) := by
  show execSeamStageStart t s = _
  rw [execSeamStageStart, hidle, hnext]
  simp [hbound]

theorem exec_sleeveStageStart (hidle : s.sleeveSuit t = none) (hnext : s.nextSuit t (fun x => x.run.sleeve != 2) = some (i, x))
    (hon : s.domainOn (5 + t.val / 64) = true) :
    exec (.sleeveStageStart t) s = .next (s.putRun t i x { x.run with
      sleeve := 1, seq := if x.seqField = 0 ∧ s.bit (Reg.sleeveCfg t) 1 = true then 1 else x.seqField,
      sets := [ASet.idle x 0, ASet.idle x 1], parts := List.replicate 4 { q := [], planes := none, nulls := [] } }) := by
  show execSleeveStageStart t s = _
  rw [execSleeveStageStart, hidle, hnext]
  simp [hbound, hon]

end Start

/-- A compute domain that is off and asleep is woken, and the wait is counted (R504). -/
theorem State.needCompute_wakes {s : State} {t : TileId} (h : s.domainWaking (5 + t.val / 64) = false) :
    (s.needCompute t).domainWaking (5 + t.val / 64) = true ∧
      s.onlyRegs (s.needCompute t) [Reg.pwrDomainWaking, Reg.pwrStatWakeWait] := by
  simp only [State.needCompute, h, Bool.false_eq_true, if_false]
  refine ⟨?_, ((State.onlyRegs.refl s _).setBit (by simp) _ _).count (by simp) _⟩
  rw [State.domainWaking, State.bit_congr (State.rd_count_ne _ _ (by decide))]
  exact State.bit_setBit _ _ _ _ (by omega)

/-- Settles O19, stage by stage: a start goes through `putRun`, or wakes the compute domain. -/
theorem stageStarts : Obligations.StageStarts := by
  unfold Obligations.StageStarts
  intro s t i x hslots hbound
  refine ⟨fun hidle hnext => ⟨fun hon => ?_, fun hoff hasleep => ?_⟩, fun hidle hnext hon => ?_⟩
  · refine ⟨_, exec_seamStageStart hbound hidle hnext, ?_⟩
    rw [if_pos hon]
    exact State.putRun_stageNow hslots (hslots.nextSuit_lt hnext) (State.onlyRegs.refl s _) x _
  · refine ⟨_, exec_seamStageStart hbound hidle hnext, ?_⟩
    rw [if_neg (by simp [hoff])]
    exact State.needCompute_wakes hasleep
  · exact ⟨_, exec_sleeveStageStart hbound hidle hnext hon, _,
      State.putRun_stageNow hslots (hslots.nextSuit_lt hnext) (State.onlyRegs.refl s _) x _, rfl, rfl, rfl, rfl, rfl⟩

end Sys2Proof.Machine
end

section
/-! SUPPORT. The Seam unit over DENSE operands: one K block, and the hand-over of records (R136, R137, R150). Settles O20. -/

namespace Sys2Proof.Machine

/-! ## Presence in a whole K block -/

/-- The presence words of 32 rows, each row there in all 16 granules or masked. -/
def densePresence (rows : List (Nat × Nat)) : List Nat :=
  (List.range 32).map (fun i => if (rows.find? (fun p => p.1 == i)).isSome then 0xFFFF else 0)

theorem granMask_whole {nc kb : Nat} (h : 256 * (kb + 1) ≤ nc) : granMask nc kb = 0xFFFF := by
  have hall : granMask nc kb = (List.range 16).foldl (fun m g => m + 2 ^ g) 0 :=
    List.foldl_ext _ _ _ (fun m g hg => if_pos (by have := List.mem_range.1 hg; omega))
  rw [hall]
  rfl

theorem setBits_whole : setBits 0xFFFF 16 = List.range 16 := by decide

section Dense
variable {s : State} {t : Nat} {x : Suit} {side : Nat} (hfmt : (s.sideDesc t x side).format = fmtDense)
include hfmt

/-- A DENSE side has no map, and so no value base (R138). -/
theorem State.halfKey_dense (o kb h : Nat) : s.halfKey t x side o kb h = none := by
  simp [State.halfKey, hfmt, fmtDense, fmtBmap]

theorem State.sideBases_dense (o kb : Nat) (prev : Nat → Option Nat) :
    s.sideBases t x o kb prev side = (s, .ok [0, 0]) := by
  simp [State.sideBases, State.halfBase, State.halfKey_dense hfmt]

/-- Every granule of every unmasked row of a DENSE side without GMAP counts as present (R134). -/
theorem State.scanRows_dense (hgmap : (s.sideDesc t x side).gmap = noneAddr) (hdist : (s.sideDesc t x side).dist = false)
    {o kb : Nat} (hblock : 256 * (kb + 1) ≤ (s.sideDesc t x side).nc) :
    s.scanRows t x side o kb = (s, .ok (densePresence (x.validRows (s.sideDesc t x side) side o), [])) := by
  have hmaps : (s.sideDesc t x side).bearsMaps = false := by simp [TDesc.bearsMaps, hfmt, hgmap, fmtDense, fmtBmap]
  simp only [State.scanRows, hmaps, Bool.false_eq_true, if_false, granMask_whole hblock, setBits_whole, hdist, Bool.not_false,
    Bool.true_or, if_true]
  refine congrArg (fun ws => (s, Except.ok (ws, []))) (List.map_congr_left (fun i _ => ?_))
  cases (x.validRows (s.sideDesc t x side) side o).find? (fun p => p.1 == i) <;> rfl

end Dense

/-- The K-union of words that are 0 or `m`, where one is `m`. -/
theorem foldl_or_eq {m : Nat} (ws : List Nat) (acc : Nat) (hws : ∀ w ∈ ws, w = 0 ∨ w = m) (hacc : acc = 0 ∨ acc = m)
    (h : acc = m ∨ m ∈ ws) : ws.foldl (fun m w => m ||| w) acc = m := by
  induction ws generalizing acc with
  | nil => simpa using h
  | cons w ws ih =>
    have hw := hws w List.mem_cons_self
    rw [List.mem_cons] at h
    refine ih (acc ||| w) (fun v hv => hws v (List.mem_cons_of_mem _ hv)) ?_ ?_
    · rcases hacc with rfl | rfl <;> rcases hw with rfl | rfl <;> simp
    · rcases h with rfl | rfl | h
      · rcases hw with rfl | rfl <;> simp
      · rcases hacc with rfl | rfl <;> simp
      · exact .inr h

theorem Suit.validRows_lt {x : Suit} {d : TDesc} {side o : Nat} {p : Nat × Nat} (h : p ∈ x.validRows d side o) : p.1 < 32 := by
  simp only [Suit.validRows, List.mem_map, List.mem_filter, List.mem_range] at h
  obtain ⟨i, ⟨hi, -⟩, rfl⟩ := h
  exact hi

/-- A side with an unmasked row has every granule of the block in its K-union. -/
theorem union_densePresence {rows : List (Nat × Nat)} (hlt : ∀ p ∈ rows, p.1 < 32) (hne : rows ≠ []) :
    (densePresence rows).foldl (fun m w => m ||| w) 0 = 0xFFFF := by
  obtain ⟨p, hp⟩ := List.exists_mem_of_ne_nil _ hne
  refine foldl_or_eq _ 0 (fun w hw => ?_) (.inl rfl) (.inr (List.mem_map.2 ⟨p.1, List.mem_range.2 (hlt p hp), if_pos ?_⟩))
  · obtain ⟨i, -, rfl⟩ := List.mem_map.1 hw
    exact (ite_eq_or_eq ..).symm
  · exact List.find?_isSome.2 ⟨p, hp, by simp⟩

/-! ## The scan of a K block -/

/-- A side that is DENSE without maps, holds the whole K block and has an unmasked row. -/
structure State.DenseBlock (s : State) (t : Nat) (x : Suit) (side : Nat) : Prop where
  format : (s.sideDesc t x side).format = fmtDense
  gmap : (s.sideDesc t x side).gmap = noneAddr
  dist : (s.sideDesc t x side).dist = false
  whole : 256 * (x.run.sPos + 1) ≤ (s.sideDesc t x side).nc
  rows : x.validRows (s.sideDesc t x side) side x.run.sOp ≠ []

/-- Marking the last record END leaves what the granules are. -/
theorem map_granule_markLast {l : List SeamRec} {q : SeamRec} (h : l.getLast? = some q) :
    (l.dropLast ++ [{ q with last := true }]).map SeamRec.granule = l.map SeamRec.granule := by
  obtain ⟨l', rfl⟩ := List.getLast?_eq_some_iff.1 h
  simp [SeamRec.granule]

theorem State.pend_ite_nextOp (s : State) (t : Nat) (x : Suit) (r : SuitRun) (c : Prop) [Decidable c] :
    (if c then s.nextOp t x r else r).pend = r.pend := by
  split <;> rfl

/-- The counters of a scan whose K-unions are whole. -/
def State.scanCounted (s : State) (t : Nat) : State :=
  ((s.count (Reg.seamStatKblocks t) 1).count (Reg.seamStatGranA t) 16).count (Reg.seamStatGranB t) 16

theorem State.scanCounted_onlyRegs (s : State) (t : Nat) :
    s.onlyRegs (s.scanCounted t) [Reg.seamStatKblocks t, Reg.seamStatGranA t, Reg.seamStatGranB t] :=
  (((State.onlyRegs.refl s _).count (by simp) 1).count (by simp) 16).count (by simp) 16

theorem State.rd_scanCounted (s : State) (t : Nat) : ((s.scanCounted t).rd (Reg.seamStatKblocks t)).toNat =
    Min.min 0xFFFFFFFF ((s.rd (Reg.seamStatKblocks t)).toNat + 1) := by
  rw [State.scanCounted, State.rd_count_ne, State.rd_count_ne, State.rd_count_one] <;> exact tileWord_ne t (by decide)

/-- The scan of such a block keeps all 16 granules. -/
theorem State.scanBlock_dense {s : State} {t : Nat} {x : Suit} (hA : s.DenseBlock t x 0) (hB : s.DenseBlock t x 1) :
    ∃ r, s.scanBlock t x = (s.scanCounted t, .ok r) ∧ r.pend.map SeamRec.granule =
      (List.range 16).map (fun g => some (x.run.sOp, 16 * x.run.sPos + g, false)) := by
  have hbases (prev : Nat → Option Nat) : each (fun s side => s.sideBases t x x.run.sOp x.run.sPos prev side) s [0, 1] =
      (s, .ok [[0, 0], [0, 0]]) :=
    each_ok (g := fun _ => [0, 0]) [0, 1] (by
      simp [State.sideBases_dense hA.format, State.sideBases_dense hB.format])
  rw [State.scanBlock]
  simp only [hbases, andThen_ok, State.scanRows_dense hA.format hA.gmap hA.dist hA.whole,
    State.scanRows_dense hB.format hB.gmap hB.dist hB.whole, union_densePresence (fun _ => Suit.validRows_lt) hA.rows,
    union_densePresence (fun _ => Suit.validRows_lt) hB.rows, Nat.and_self, Nat.or_self, ite_self, setBits_whole]
  refine ⟨_, rfl, ?_⟩
  rw [State.pend_ite_nextOp, if_neg (by decide : List.range 16 ≠ [])]
  dsimp only
  split
  · next q hq =>
    rw [apply_ite (List.map SeamRec.granule), map_granule_markLast hq, ite_self]
    rfl
  · rfl

/-! ## The commands -/

section Scan
variable {s : State} {t : TileId} {i : Nat} {x : Suit} (hseam : s.seamSuit t = some (i, x))
  (hop : x.seamOp = opGint ∨ x.seamOp = opGunion) (hmore : x.run.sOp < x.ops)
include hseam hop hmore

/-- A scan waits and counts while records are held (R150), and else takes a K block. -/
theorem exec_seamKblockScan : exec (.seamKblockScan t) s = .next (if x.run.pend ≠ [] then s.count (Reg.seamStatStallOut t) 1
    else keepRun t i x (s.scanBlock t x)) := by
  have hguard : ¬ ((x.seamOp ≠ opGint ∧ x.seamOp ≠ opGunion) ∨ x.ops ≤ x.run.sOp) := by omega
  show execSeamKblockScan t s = _
  rw [execSeamKblockScan, hseam]
  exact congrArg Host.Outcome.next (if_neg hguard)

theorem seamKblockScan_stalls (hpend : x.run.pend ≠ []) :
    Answers (.seamKblockScan t) s (fun u => s.onlyRegs u [Reg.seamStatStallOut t] ∧
      (u.rd (Reg.seamStatStallOut t)).toNat = Min.min 0xFFFFFFFF ((s.rd (Reg.seamStatStallOut t)).toNat + 1)) := by
  refine ⟨_, exec_seamKblockScan hseam hop hmore, ?_⟩
  rw [if_pos hpend]
  exact ⟨(State.onlyRegs.refl s _).count (by simp) 1, State.rd_count_one ..⟩

theorem seamKblockScan_dense (hslots : s.suitSlots t) (hpend : x.run.pend = []) (hA : s.DenseBlock t x 0)
    (hB : s.DenseBlock t x 1) : Answers (.seamKblockScan t) s (fun u => ∃ r,
      s.stageNow u t i x r [Reg.seamStatKblocks t, Reg.seamStatGranA t, Reg.seamStatGranB t] ∧
      r.pend.map SeamRec.granule = (List.range 16).map (fun g => some (x.run.sOp, 16 * x.run.sPos + g, false)) ∧
      (u.rd (Reg.seamStatKblocks t)).toNat = Min.min 0xFFFFFFFF ((s.rd (Reg.seamStatKblocks t)).toNat + 1)) := by
  obtain ⟨r, hscan, hgranules⟩ := State.scanBlock_dense hA hB
  have hi := hslots.seamSuit_lt hseam
  have hcounted := State.scanCounted_onlyRegs s t
  have hword : Reg.seamStatKblocks t ∉ suitWords t := notMem_suitWords t (by decide) (by decide)
  refine ⟨_, exec_seamKblockScan hseam hop hmore, ?_⟩
  rw [if_neg (not_not.2 hpend), hscan, keepRun_ok]
  refine ⟨r, State.putRun_stageNow hslots hi hcounted x r, hgranules, ?_⟩
  rw [State.rd_putRun hslots hi hcounted x r hword, State.rd_scanCounted]

end Scan

/-! ## The hand-over -/

/-- The counters of written records (R157). -/
def recordCounters (t : Nat) : List Nat :=
  [Reg.seamStatNull t, Reg.seamStatGranOut t, Reg.seamStatNrecOut t, Reg.seamStatElemOut t]

theorem SeamRec.stat_mem (t : Nat) (q : SeamRec) : q.stat t ∈ recordCounters t := by
  unfold SeamRec.stat
  split <;> simp [recordCounters]

theorem State.countRecords_onlyRegs (s : State) (t : Nat) (qs : List SeamRec) :
    s.onlyRegs (qs.foldl (fun s q => s.count (q.stat t) 1) s) (recordCounters t) :=
  List.foldlRecOn (motive := fun u => s.onlyRegs u (recordCounters t)) qs _ (State.onlyRegs.refl s _)
    (fun _ hu q _ => hu.count (q.stat_mem t) 1)

theorem seamRecordWrite_handsOver {s : State} {t : TileId} {i : Nat} {x : Suit} (hslots : s.suitSlots t)
    (hseam : s.seamSuit t = some (i, x)) : Answers (.seamRecordWrite t) s (fun u => ∃ r,
      s.stageNow u t i x r (recordCounters t) ∧
      r.hand = x.run.hand ++ x.run.pend.take (Min.min x.handRate (x.handCap - x.run.hand.length)) ∧
      r.pend = x.run.pend.drop (Min.min x.handRate (x.handCap - x.run.hand.length))) := by
  refine ⟨_, rfl, ?_⟩
  rw [hseam]
  exact ⟨_, State.putRun_stageNow hslots (hslots.seamSuit_lt hseam) (State.countRecords_onlyRegs s t _) x _, rfl, rfl⟩

/-- Settles O20: the scan that waits, the scan of a whole K block of two DENSE sides, and the hand-over. -/
theorem seamScansAndHandsOver : Obligations.SeamScansAndHandsOver := by
  unfold Obligations.SeamScansAndHandsOver
  refine ⟨fun s t i x hslots hseam hop hmore => ⟨seamKblockScan_stalls hseam hop hmore, fun hpend hdense => ?_⟩,
    fun s t i x hslots hseam => seamRecordWrite_handsOver hslots hseam⟩
  have hside (j : Nat) (hj : j < 2) : s.DenseBlock t x j := by
    obtain ⟨hformat, hgmap, hdist, hwhole, hrows⟩ := hdense j hj
    exact ⟨hformat, hgmap, hdist, hwhole, hrows⟩
  exact seamKblockScan_dense hseam hop hmore hslots hpend (hside 0 (by decide)) (hside 1 (by decide))

end Sys2Proof.Machine
end

section
/-! SUPPORT. The records of NMDEC (R140, R147). Settles O21. -/

namespace Sys2Proof.Machine

/-- The columns of the products of each of the 32 rows of a record: `f` of an unmasked row, none of a masked one. -/
def nmCols (rows : List (Nat × Nat)) (f : Nat → Nat → List Nat) : List (List Nat) :=
  (List.range 32).map (fun i => ((rows.find? (fun q => q.1 == i)).map (fun q => f q.1 q.2)).getD [])

theorem getElem?_nmCols {rows : List (Nat × Nat)} (f : Nat → Nat → List Nat) {j row : Nat}
    (h : rows.find? (fun q => q.1 == j) = some (j, row)) (hj : j < 32) : (nmCols rows f)[j]? = some (f j row) := by
  simp [nmCols, hj, h]

/-- The record of the products `p` on, whose first column is `kcol`. -/
def nrecOf (op p kcol : Nat) (last : Bool) (cols : List (List Nat)) : SeamRec :=
  { op := op, last := last, r := .nrec kcol p (cols.all List.isEmpty) (cols.map (fun cs => cs.map (· - kcol))) }

/-- ZERO says of the positions what it says of the columns: every row has none. -/
theorem nrecOf_r (op p kcol : Nat) (last : Bool) (cols : List (List Nat)) : (nrecOf op p kcol last cols).r =
    .nrec kcol p ((cols.map (fun cs => cs.map (· - kcol))).all List.isEmpty) (cols.map (fun cs => cs.map (· - kcol))) := by
  simp [nrecOf, List.all_map, Function.comp_def]

/-- One NREC of `k` products a row, the last of its operation where it reaches the end of the K range. -/
theorem State.nmRecord_ok {s : State} {t : Nat} {x : Suit} {r : SuitRun} {f : Nat → Nat → List Nat} (hmore : r.sOp < x.ops) :
    let d := s.sideDesc t x 0
    let n := (nmRatio d.nmCode).1
    let m := (nmRatio d.nmCode).2
    let top := Min.min x.kHi d.nc * n / m
    let p := r.sPos
    let k := Min.min (s.nmCount t x) (top - p)
    let rows := x.validRows d 0 r.sOp
    let r' := { r with
      pend := r.pend ++ [nrecOf r.sOp p (p / n * m) (top ≤ p + k) (nmCols rows f)], sPos := p + k }
    (∀ q ∈ rows, s.nmRow t x d q.2 p k = (s, .ok (f q.1 q.2))) →
    s.nmRecord t x r = (s, .ok (if top ≤ p + k then s.nextOp t x r' else r')) := by
  intro d n m top p k rows r' hread
  rw [State.nmRecord]
  dsimp only
  rw [if_neg (Nat.not_le.2 hmore), each_ok (g := fun i => ((rows.find? (fun q => q.1 == i)).map (fun q => f q.1 q.2)).getD [])]
  · rfl
  · intro i _
    cases hfind : rows.find? (fun q => q.1 == i) with
    | none => rfl
    | some q => exact hread q (List.mem_of_find?_eq_some hfind)

/-- A decode whose first record ends the operation forms no second one. -/
theorem exec_nmdecDecode {s : State} {t : TileId} {i : Nat} {x : Suit} {r : SuitRun} (hseam : s.seamSuit t = some (i, x))
    (hop : x.seamOp = opNmdec) (hmore : x.run.sOp < x.ops) (hpend : x.run.pend = [])
    (hrecord : s.nmRecord t x x.run = (s, .ok (s.nextOp t x r))) (hr : r.sOp = x.run.sOp) :
    exec (.nmdecDecode t) s = .next (s.putRun t i x (s.nextOp t x r)) := by
  have hguard : ¬ (x.seamOp ≠ opNmdec ∨ x.ops ≤ x.run.sOp) := by omega
  have hover : (s.nextOp t x r).sOp ≠ x.run.sOp := by
    rw [State.nextOp, hr]
    exact Nat.succ_ne_self _
  show execNmdecDecode t s = _
  rw [execNmdecDecode, hseam]
  dsimp only
  rw [if_neg hguard, if_neg (not_not.2 hpend), hrecord, andThen_ok, if_neg hover, keepRun_ok]

/-- Settles O21, for the record that ends an operation: KCOL is the first column of the group of its first product (log
entry 28, a choice of the model), and each row's positions count from it. -/
theorem seamDecodesPositions : Obligations.SeamDecodesPositions := by
  unfold Obligations.SeamDecodesPositions
  intro s t i x f hslots hseam hop hmore hpend d n m top p k hend hread
  have hrecord := State.nmRecord_ok hmore hread
  rw [if_pos hend, hpend] at hrecord
  refine ⟨_, exec_nmdecDecode hseam hop hmore hpend hrecord rfl, _, _,
    State.putRun_stageNow hslots (hslots.seamSuit_lt hseam) (State.onlyRegs.refl s _) x _, rfl, rfl, decide_eq_true hend, rfl,
    (nmCols (x.validRows d 0 x.run.sOp) f).map (fun cs => cs.map (· - p / n * m)), nrecOf_r .., ?_, fun j row hfind hj => ?_⟩
  · simp [nmCols]
  · simp [List.getD, getElem?_nmCols f hfind hj]

end Sys2Proof.Machine
end

section
/-! SUPPORT. One compare cycle of EINT and EUNION (R144, R145). Settles O22. -/

namespace Sys2Proof.Machine

/-! ## Columns -/

theorem mem_insertCol (l : List Nat) (c b : Nat) : b ∈ l.filter (· < c) ++ [c] ++ l.filter (c < ·) ↔ b ∈ l ∨ b = c := by
  have hcases := lt_trichotomy b c
  simp only [List.mem_append, List.mem_filter, decide_eq_true_eq, List.mem_singleton]
  tauto

/-- The union holds the columns of both lists. -/
theorem mem_mergeCols (a b : List Nat) (c : Nat) : c ∈ mergeCols a b ↔ c ∈ a ∨ c ∈ b := by
  rw [mergeCols, mem_foldl_insert mem_insertCol]
  simp only [List.not_mem_nil, false_or, List.mem_append, List.mem_filter, Bool.not_eq_true', List.contains_eq_mem,
    decide_eq_false_iff_not]
  tauto

/-- The columns of a window up to `lim`. -/
theorem mem_cols_le {w : List Coord} {lim c : Nat} :
    c ∈ (w.filter (fun q => q.1 ≤ lim)).map (·.1) ↔ c ≤ lim ∧ c ∈ w.map (·.1) := by
  simp only [List.mem_map, List.mem_filter, decide_eq_true_eq]
  constructor
  · rintro ⟨q, ⟨hq, hlim⟩, rfl⟩
    exact ⟨hlim, q, hq, rfl⟩
  · rintro ⟨hlim, q, hq, rfl⟩
    exact ⟨q, ⟨hq, hlim⟩, rfl⟩

/-- A column has a value index in a list of coordinates where it is one of theirs. -/
theorem isSome_find_col (w : List Coord) (c : Nat) :
    ((w.find? (fun q => q.1 == c)).map (fun q => q.2.1)).isSome = true ↔ c ∈ w.map (·.1) := by
  simp [List.find?_isSome]

/-- The columns of a cycle's records, from the coordinates that it consumes: those in both windows, or those in either. -/
def cycleCols (dot : Bool) (ca cb : List Coord) : List Nat :=
  if dot then (ca.map (·.1)).filter (fun c => ((cb.find? (fun q => q.1 == c)).map (fun q => q.2.1)).isSome)
  else mergeCols (ca.map (·.1)) (cb.map (·.1))

theorem mem_cycleCols (dot : Bool) (wa wb : List Coord) (lim c : Nat) :
    c ∈ cycleCols dot (wa.filter (fun q => q.1 ≤ lim)) (wb.filter (fun q => q.1 ≤ lim)) ↔
      c ≤ lim ∧ (if dot then c ∈ wa.map (·.1) ∧ c ∈ wb.map (·.1) else c ∈ wa.map (·.1) ∨ c ∈ wb.map (·.1)) := by
  cases dot with
  | true =>
    rw [cycleCols, if_pos rfl, if_pos rfl, List.mem_filter, isSome_find_col, mem_cols_le, mem_cols_le]
    tauto
  | false =>
    rw [cycleCols, if_neg Bool.false_ne_true, if_neg Bool.false_ne_true, mem_mergeCols, mem_cols_le, mem_cols_le]
    tauto

/-- One record for each of the columns. -/
theorem exists_erec (op : Nat) (va vb : Nat → Option Nat) (cols : List Nat) (c : Nat) :
    (∃ q ∈ cols.map (fun c => ({ op := op, last := false, r := .erec (va c) (vb c) c } : SeamRec)), ∃ a b, q.r = .erec a b c) ↔
      c ∈ cols := by
  constructor
  · rintro ⟨q, hq, a, b, hr⟩
    obtain ⟨c', hc', rfl⟩ := List.mem_map.1 hq
    cases hr
    exact hc'
  · exact fun hc => ⟨_, List.mem_map_of_mem hc, _, _, rfl⟩

/-! ## The cycle -/

/-- The next window of a side in the column block that the suit has reached. -/
def State.blockWindow (s : State) (t : Nat) (x : Suit) (side row : Nat) (cur : Option (Nat × Nat × Option Nat)) :
    Step' (List Coord × Bool) :=
  s.window t x side row (s.segsOf t x side (s.sideDesc t x side) row (Max.max x.kLo (65536 * x.run.sPos))
    (Min.min x.kHi (65536 * (x.run.sPos + 1)))) cur

/-- Where neither window is empty, the records are of the columns up to the lower of the windows' last ones. -/
theorem State.mergeCycle_ok {s : State} {t : Nat} {x : Suit} {ra rb : Nat} {wa wb : List Coord} {ea eb : Bool}
    (hpair : s.pairAt t x stSeam x.run.sOp = (s, .ok (ra, rb)))
    (hA : s.blockWindow t x 0 ra x.run.curA = (s, .ok (wa, ea)))
    (hB : s.blockWindow t x 1 rb x.run.curB = (s, .ok (wb, eb))) (ha : wa ≠ []) (hb : wb ≠ []) :
    let lim := Min.min ((wa.getLast?.map (·.1)).getD 0) ((wb.getLast?.map (·.1)).getD 0)
    ∃ n r, s.mergeCycle t x = (s.count (Reg.seamStatCoordIn t) n, .ok r) ∧
      ∀ c, (∃ q ∈ r.pend, ∃ a b, q.r = .erec a b c) ↔ c ≤ lim ∧
        (if x.isDot then c ∈ wa.map (·.1) ∧ c ∈ wb.map (·.1) else c ∈ wa.map (·.1) ∨ c ∈ wb.map (·.1)) := by
  rw [State.blockWindow] at hA hB
  have hea : wa.isEmpty = false := by simp [ha]
  have heb : wb.isEmpty = false := by simp [hb]
  rw [State.mergeCycle]
  simp only [hpair, hA, hB, andThen_ok, hea, heb, Bool.false_and, Bool.or_self, ite_self, Bool.false_eq_true, if_false]
  exact ⟨_, _, rfl, fun c => (exists_erec ..).trans (mem_cycleCols ..)⟩

theorem exec_seamMergeCycle {s : State} {t : TileId} {i : Nat} {x : Suit} (hseam : s.seamSuit t = some (i, x))
    (hop : x.isDot = true ∨ x.isMerge = true) (hmore : x.run.sOp < x.ops) (hpend : x.run.pend = []) :
    exec (.seamMergeCycle t) s = .next (keepRun t i x (s.mergeCycle t x)) := by
  have hguard : ¬ ((!x.isDot ∧ !x.isMerge) ∨ x.ops ≤ x.run.sOp) := by
    rintro (⟨hdot, hmerge⟩ | hover)
    · rcases hop with hop | hop <;> simp [hop] at hdot hmerge
    · omega
  show execSeamMergeCycle t s = _
  rw [execSeamMergeCycle, hseam]
  exact congrArg Host.Outcome.next ((if_neg hguard).trans (if_neg (not_not.2 hpend)))

/-- Settles O22: the cycle goes through `mergeCols` or keeps the columns of A that B has too. -/
theorem seamMergesWindows : Obligations.SeamMergesWindows := by
  unfold Obligations.SeamMergesWindows
  intro s t i x ra rb wa wb ea eb hslots hseam hop hmore hpend lo hi hpair hA hB ha hb lim
  obtain ⟨n, r, hcycle, hcols⟩ := State.mergeCycle_ok hpair hA hB ha hb
  refine ⟨_, exec_seamMergeCycle hseam hop hmore hpend, r, ?_, hcols⟩
  rw [hcycle, keepRun_ok]
  exact State.putRun_stageNow hslots (hslots.seamSuit_lt hseam) ((State.onlyRegs.refl s _).count (by simp) n) x r

end Sys2Proof.Machine
end

section
/-! SUPPORT. The Sleeve engine: a record taken, the end of a tile, a row drained, the rerun of a sampled tile (R162, R177, R181,
R228). Settles O24. -/

namespace Sys2Proof.Machine

/-! ## Frames of what the Sleeve engine does beside its suit -/

/-- The register words beyond the tile blocks. -/
def Reg.beyondTiles : Set Nat := Set.Ici 0x2000000

/-- No byte of a Pocket and no suit of tile `t` differs, and no register word of `keep`. -/
structure State.sameSuits (s : State) (t : Nat) (keep : Set Nat) (u : State) : Prop where
  pocket : u.pocket = s.pocket
  suits : (u.tile t).suits = (s.tile t).suits
  rd : ∀ a ∈ keep, u.rd a = s.rd a

theorem State.sameSuits.refl (s : State) (t : Nat) (keep : Set Nat) : s.sameSuits t keep s := ⟨rfl, rfl, fun _ _ => rfl⟩

section Frame
variable {s u : State} {t : Nat} {keep : Set Nat} (h : s.sameSuits t keep u)
include h

theorem State.sameSuits.trans {v : State} (h' : u.sameSuits t keep v) : s.sameSuits t keep v :=
  ⟨h'.pocket.trans h.pocket, h'.suits.trans h.suits, fun a ha => (h'.rd a ha).trans (h.rd a ha)⟩

theorem State.sameSuits.mono {keep' : Set Nat} (hsub : keep' ⊆ keep) : s.sameSuits t keep' u :=
  ⟨h.pocket, h.suits, fun a ha => h.rd a (hsub ha)⟩

theorem State.sameSuits.suitSlots (hslots : s.suitSlots t) : u.suitSlots t := by
  rwa [State.suitSlots, h.suits]

theorem State.sameSuits.wr {a : Nat} (ha : a ∉ keep) (v : Word) : s.sameSuits t keep (u.wr a v) :=
  ⟨h.pocket, h.suits, fun b hb => (State.rd_wr_ne u v (ne_of_mem_of_not_mem hb ha)).trans (h.rd b hb)⟩

theorem State.sameSuits.setFld {a : Nat} (ha : a ∉ keep) (lo len v : Nat) : s.sameSuits t keep (u.setFld a lo len v) :=
  h.wr ha _

theorem State.sameSuits.setBit {a : Nat} (ha : a ∉ keep) (i : Nat) (b : Bool) : s.sameSuits t keep (u.setBit a i b) :=
  h.wr ha _

theorem State.sameSuits.count {a : Nat} (ha : a ∉ keep) (n : Nat) : s.sameSuits t keep (u.count a n) := h.wr ha _

/-- A unit of the tile other than its suits changes. -/
theorem State.sameSuits.setTile {x : Tile} (hx : x.suits = (u.tile t).suits) : s.sameSuits t keep (u.setTile t x) :=
  ⟨h.pocket, by rw [State.tile_setTile_self, hx, h.suits], h.rd⟩

theorem State.sameSuits.setQueue (q : Nat) (x : Queue) : s.sameSuits t keep (u.setQueue t q x) := h.setTile rfl

/-- Fields other than the Pockets, the tiles and the register words change. -/
theorem State.sameSuits.congr {v : State} (hpocket : v.pocket = u.pocket) (htiles : v.tiles = u.tiles)
    (hregs : v.regs = u.regs) : s.sameSuits t keep v := by
  refine ⟨hpocket.trans h.pocket, ?_, fun a ha => ?_⟩
  · rw [State.tile, htiles]
    exact h.suits
  · rw [State.rd, hregs]
    exact h.rd a ha

theorem State.sameSuits.setSampler (l : List (Nat × Nat × Nat × Bool)) : s.sameSuits t keep { u with sampler := l } :=
  h.congr rfl rfl rfl

theorem State.sameSuits.ite {v : State} (h' : s.sameSuits t keep v) (c : Prop) [Decidable c] :
    s.sameSuits t keep (if c then u else v) := by
  split
  · exact h
  · exact h'

/-- A record is queued, or counted where the queue is full (R551). -/
theorem State.sameSuits.pushRec (hk : Reg.flogDropped ∉ keep) (r : FaultRec) : s.sameSuits t keep (u.pushRec r) := by
  unfold State.pushRec
  split_ifs
  · exact h.congr rfl rfl rfl
  · exact h.count hk _

/-- A job that stops is an entry of the stops, or a change of its slot (R539, R542). -/
theorem State.sameSuits.stopJob (q code cls sub unit seq : Nat) :
    s.sameSuits t keep (u.stopJob q code cls sub unit seq) := by
  unfold State.stopJob
  split <;> exact h.congr rfl rfl rfl

theorem State.sameSuits.warnJob (hk : Reg.flogDropped ∉ keep) (q code pb unit sub : Nat) (tile slot : Option Nat)
    (addr ctx0 ctx1 : Nat) : s.sameSuits t keep (u.warnJob q code pb unit sub tile slot addr ctx0 ctx1) := by
  unfold State.warnJob
  dsimp only
  split_ifs
  · exact (h.pushRec hk _).stopJob _ _ _ _ _ _
  · exact h.pushRec hk _

theorem State.sameSuits.markStep (key : Nat) : s.sameSuits t keep (u.markStep t key) := by
  unfold State.markStep
  split_ifs
  · exact h.setTile rfl
  · exact h

end Frame

section NoWord
variable {s u : State} {t : Nat} (h : s.sameSuits t ∅ u)
include h

theorem State.sameSuits.warnTask (k code pb unit sub : Nat) (rec : Bool) (addr c0 c1 : Nat) :
    s.sameSuits t ∅ (u.warnTask t k code pb unit sub rec addr c0 c1) := by
  have hpend := h.setBit (Set.notMem_empty (Reg.cuffIntPend t k)) 1 true
  unfold State.warnTask
  dsimp only
  split
  · exact h
  · split
    · split
      · exact hpend.warnJob (Set.notMem_empty _) ..
      · exact hpend
    · split
      · exact hpend.pushRec (Set.notMem_empty _) _
      · exact hpend

theorem State.sameSuits.raiseSat (x : Suit) (r : SuitRun) (o : Nat) : s.sameSuits t ∅ (u.raiseSat t x r o).1 := by
  unfold State.raiseSat
  split_ifs
  · exact h
  · exact (((h.setBit (Set.notMem_empty _) _ _).count (Set.notMem_empty _) 1).warnTask ..).markStep _

end NoWord

/-! ## Slots that go back (R281) -/

theorem Reg.notMem_beyondTiles {t o : Nat} (ht : t < 256) (ho : o < 0x1010000) : o + 0x10000 * t ∉ Reg.beyondTiles := by
  rw [Reg.beyondTiles, Set.mem_Ici]
  omega

/-- The words in which the stages show themselves lie in the block of their tile. -/
theorem Reg.notMem_suitWords_of_beyondTiles {t a : Nat} (ht : t < 256) (ha : a ∈ Reg.beyondTiles) : a ∉ suitWords t := by
  rw [Reg.beyondTiles, Set.mem_Ici] at ha
  simp only [suitWords, Reg.seamStatus, Reg.sleeveStatus, Reg.seamBufStatus, Reg.suitStatus, List.mem_append, List.mem_cons,
    List.not_mem_nil, or_false, List.mem_map, List.mem_range]
  rintro (h | ⟨j, hj, h⟩) <;> omega

section Release
variable {s u : State} {t : Nat} (h : s.sameSuits t Reg.beyondTiles u) (ht : t < 256)
include h ht

/-- The words of a queue lie in the block of its tile. -/
theorem State.sameSuits.refreshQ {q : Nat} (hq : q < 16) : s.sameSuits t Reg.beyondTiles (u.refreshQ t q) := by
  have hword {o : Nat} (ho : o < 0x1001200) : o + 0x10000 * t + 0x20 * q ∉ Reg.beyondTiles := by
    rw [Reg.beyondTiles, Set.mem_Ici]
    omega
  have hst : Reg.placketQStatus t q ∉ Reg.beyondTiles := hword (by decide)
  exact ((((((h.setBit hst _ _).setBit hst _ _).setFld hst _ _ _).setFld hst _ _ _).wr (hword (by decide)) _).wr
    (hword (by decide)) _).setBit (Reg.notMem_beyondTiles ht (by decide)) _ _

theorem State.sameSuits.release {q : Nat} (hq : q < 16) (n : Nat) :
    s.sameSuits t Reg.beyondTiles ((u.release t q n).getD u) := by
  have hst : Reg.placketQStatus t q ∉ Reg.beyondTiles := by
    rw [Reg.beyondTiles, Set.mem_Ici, Reg.placketQStatus]
    omega
  unfold State.release
  split_ifs
  · exact h
  · exact h
  · exact (((h.setQueue q _).setFld hst _ _ _).setFld hst _ _ _).refreshQ ht hq

theorem State.sameSuits.releaseBound (x : Suit) (r : SuitRun) : s.sameSuits t Reg.beyondTiles (u.releaseBound t x r).1 := by
  have hgive (side : Nat) {v : State} (hv : s.sameSuits t Reg.beyondTiles v) :
      s.sameSuits t Reg.beyondTiles (if x.bind side = true then (v.release t (x.bindQ side) 1).getD v else v) := by
    split_ifs
    · exact hv.release ht (Nat.mod_lt _ (by decide)) 1
    · exact hv
  exact hgive 1 (hgive 0 h)

end Release

/-! ## The suit after a command of the Sleeve engine -/

section Slots
variable {s : State} {t i : Nat} {x : Suit} (hslots : s.suitSlots t)
include hslots

theorem State.suitSlots.sleeveSuit_lt (h : s.sleeveSuit t = some (i, x)) : i < 4 :=
  hslots.running_lt (List.mem_of_find?_eq_some h)

variable (hi : i < 4)
include hi

theorem State.suit_putRun (x : Suit) (r : SuitRun) : (s.putRun t i x r).suit t i = some { x with run := r } :=
  (State.putRun_stageNow hslots hi (State.onlyRegs.refl s []) x r).1

theorem State.pocket_putRun (x : Suit) (r : SuitRun) : (s.putRun t i x r).pocket = s.pocket := by
  rw [(State.putRun_stageNow hslots hi (State.onlyRegs.refl s []) x r).2.1]

end Slots

/-! ## Accumulator sets -/

theorem SuitRun.set_of_sets {r : SuitRun} {sets : List ASet} {j : Nat} {a : ASet} (h : r.sets = sets.set j a)
    (hj : j < sets.length) (x : Suit) : r.set x j = a := by
  rw [SuitRun.set, h, List.getD_eq_getElem _ _ (by simpa using hj), List.getElem_set_self]

/-- A set that the run does not hold is idle. -/
theorem SuitRun.set_of_le {r : SuitRun} {j : Nat} (h : r.sets.length ≤ j) (x : Suit) : r.set x j = ASet.idle x 0 :=
  List.getD_eq_default _ _ h

/-- The array works on a set that has not ended, so the run holds that set. -/
theorem SuitRun.lt_of_not_ended {r : SuitRun} {x : Suit} {j : Nat} (h : (r.set x j).ended = false) : j < r.sets.length := by
  by_contra hj
  rw [SuitRun.set_of_le (Nat.le_of_not_lt hj)] at h
  cases h

/-- A set with rows left to drain is one that the run holds. -/
theorem SuitRun.lt_of_drains {r : SuitRun} {x : Suit} {j : Nat} (h : (r.set x j).dr < x.drainRows) : j < r.sets.length := by
  by_contra hj
  rw [SuitRun.set_of_le (Nat.le_of_not_lt hj)] at h
  exact lt_irrefl _ h

/-- A tile of a product has no more unmasked rows than are drained for it. -/
theorem Suit.tileSize_le_drainRows {x : Suit} (hsum : x.isSum = false) (hdot : x.isDot = false) (o : Nat) :
    (x.tileSize o).1 ≤ x.drainRows := by
  have hunion : x.isUnion = false := (Bool.or_eq_false_iff.1 hsum).1
  simp [Suit.tileSize, Suit.drainRows, Suit.opRows, hdot, hunion]

/-! ## A cycle (R162, R177) -/

/-- What a run is after the record `f` has been taken: it has left the fetched and handed-over records, and its products count. -/
structure SuitRun.Took (r : SuitRun) (f : FedRec) (r' : SuitRun) : Prop where
  fed : r'.fed = r.fed.drop 1
  hand : r'.hand = r.hand.drop 1
  seqPos : r'.seqPos = r.seqPos + f.slices.length
  allIn : r'.allIn = f.last
  tile : r'.tile = r.tile

theorem SuitRun.takeRec_took (r : SuitRun) (x : Suit) (nulls : Nat) (f : FedRec) : r.Took f (r.takeRec x nulls f) := by
  unfold SuitRun.takeRec
  dsimp only
  split
  · generalize x.partAt _ = k
    split <;> exact ⟨rfl, rfl, rfl, rfl, rfl⟩
  · exact ⟨rfl, rfl, rfl, rfl, rfl⟩

/-- The parts' cycles change the parts of the run and nothing else of it. -/
theorem partsCycle_run (x : Suit) (e : Env) (ks : List Nat) (r : SuitRun) (a : ASet) (acts : List PartAct) (sk : Nat) :
    ∃ ps, (partsCycle x e r ks a acts sk).1 = { r with parts := ps } := by
  induction ks generalizing r a acts sk with
  | nil => exact ⟨r.parts, rfl⟩
  | cons k ks ih => exact ih { r with parts := _ } _ _ _

/-- The counters of a cycle (R196). -/
def sleeveCycleWords (t : Nat) : List Nat :=
  [Reg.sleeveStatSeq t, Reg.sleeveStatActive t, Reg.sleeveStatWaitIn t, Reg.sleeveStatNull t, Reg.sleeveStatPlaneSkip t]

/-- Counting under a condition keeps the frame. -/
theorem State.onlyRegs.count_ite {s u : State} {as : List Nat} {a : Nat} (h : s.onlyRegs u as) (ha : a ∈ as) (n : Nat)
    (c : Prop) [Decidable c] : s.onlyRegs (if c then u.count a n else u) as := by
  split_ifs
  · exact h.count ha n
  · exact h

/-- A cycle of a product counts what its parts did. -/
theorem State.productCycle_onlyRegs {s u : State} {t : Nat} (h : s.onlyRegs u (sleeveCycleWords t)) (x : Suit) (e : Env)
    (r : SuitRun) : s.onlyRegs (u.productCycle t x e r).1 (sleeveCycleWords t) := by
  have hactive : Reg.sleeveStatActive t ∈ sleeveCycleWords t := by simp [sleeveCycleWords]
  have hwait : Reg.sleeveStatWaitIn t ∈ sleeveCycleWords t := by simp [sleeveCycleWords]
  have hnull : Reg.sleeveStatNull t ∈ sleeveCycleWords t := by simp [sleeveCycleWords]
  have hskip : Reg.sleeveStatPlaneSkip t ∈ sleeveCycleWords t := by simp [sleeveCycleWords]
  unfold State.productCycle
  dsimp only
  generalize partsCycle _ _ _ _ _ _ _ = out
  obtain ⟨r', a, acts, sk⟩ := out
  dsimp only
  have hfed : s.onlyRegs (if acts.contains .work = true then u.count (Reg.sleeveStatActive t) 1
      else if (acts.contains .wait && !acts.contains .null) = true then u.count (Reg.sleeveStatWaitIn t) 1 else u)
      (sleeveCycleWords t) := by
    split
    · exact h.count hactive 1
    · exact h.count_ite hwait 1 _
  have hnulls := hfed.count_ite hnull 1 (acts.contains .null = true)
  split
  · exact hnulls
  · exact hnulls.count hskip sk

theorem State.productCycle_took (s : State) (t : Nat) {x : Suit} (e : Env) {r : SuitRun} {f : FedRec}
    (hnext : x.nextRec r = some f) : r.Took f (s.productCycle t x e r).2 := by
  unfold State.productCycle
  dsimp only
  rw [hnext]
  dsimp only
  have htook := r.takeRec_took x (x.nullCycles (if isPlane e.da.elem = true then e.da else e.db).width e.da.elem) f
  generalize r.takeRec x _ f = r1 at htook ⊢
  obtain ⟨ps, hparts⟩ := partsCycle_run x e (List.range x.tparts) r1 (r1.set x (r1.tile % 2)) [] 0
  rw [hparts]
  exact ⟨htook.fed, htook.hand, htook.seqPos, htook.allIn, htook.tile⟩

/-- SLEEVE_STAT_SEQ counts the cycles of sequential order mode (R185, R196). -/
def State.seqCounted (s : State) (t : Nat) (x : Suit) : State :=
  if (s.env t x).seqm = true then s.count (Reg.sleeveStatSeq t) 1 else s

/-- With a FETCH stage, a cycle on a set that has not ended is one of a product. -/
theorem exec_sleeveCycle_product {s : State} {t : TileId} {i : Nat} {x : Suit} (hsleeve : s.sleeveSuit t = some (i, x))
    (hsum : x.isSum = false) (hfetch : x.has stFetch = true) (hdot : x.isDot = false)
    (hopen : (x.run.set x (x.run.tile % 2)).ended = false) :
    exec (.sleeveCycle t) s = .next (((s.seqCounted t x).productCycle t x (s.env t x) x.run).1.putRun t i x
      ((s.seqCounted t x).productCycle t x (s.env t x) x.run).2) := by
  show execSleeveCycle t s = _
  rw [execSleeveCycle, hsleeve]
  simp [hsum, hfetch, hdot, hopen, State.seqCounted]

theorem sleeveCycle_takes {s : State} {t : TileId} {i : Nat} {x : Suit} (hslots : s.suitSlots t)
    (hsleeve : s.sleeveSuit t = some (i, x)) (hsum : x.isSum = false) {f : FedRec} (hfetch : x.has stFetch = true)
    (hdot : x.isDot = false) (hopen : (x.run.set x (x.run.tile % 2)).ended = false) (hnext : x.nextRec x.run = some f) :
    Answers (.sleeveCycle t) s (fun u => ∃ r, s.stageNow u t i x r (sleeveCycleWords t) ∧ x.run.Took f r) := by
  have hseq : Reg.sleeveStatSeq t ∈ sleeveCycleWords t := by simp [sleeveCycleWords]
  have hcounted : s.onlyRegs (s.seqCounted t x) (sleeveCycleWords t) := (State.onlyRegs.refl s _).count_ite hseq 1 _
  exact ⟨_, exec_sleeveCycle_product hsleeve hsum hfetch hdot hopen, _,
    State.putRun_stageNow hslots (hslots.sleeveSuit_lt hsleeve) (State.productCycle_onlyRegs hcounted x _ _) x _,
    State.productCycle_took _ t (s.env t x) hnext⟩

/-! ## The end of a tile (R181) -/

/-- The cells of the active set, each part's last chunk sum promoted. -/
def State.promotedCells (s : State) (t : Nat) (x : Suit) : List Cell :=
  let e := s.env t x
  let o := x.run.tile
  (List.range (if x.isDot then 1 else x.tparts)).foldl (fun cs q =>
    (mapCells x o q cs (fun i j c => (c.promote e (e.noise (x.outAt o i j).1 (x.outAt o i j).2), false))).1)
    (x.run.set x (o % 2)).cells

/-- The run goes on to the next tile, and the set of the one that ends drains. -/
def State.endedRun (s : State) (t : Nat) (x : Suit) : SuitRun :=
  ({ x.run with tile := x.run.tile + 1 } : SuitRun).putSet (x.run.tile % 2)
    { x.run.set x (x.run.tile % 2) with cells := s.promotedCells t x, ended := true }

/-- The bound slots go back at the end of the last tile, unless the sampler still needs the suit (R228, R281). -/
def State.afterTile (s : State) (t : Nat) (x : Suit) (r : SuitRun) : State × SuitRun :=
  if r.tile = x.tiles ∧ r.sample = none then s.releaseBound t x r else (s, r)

theorem State.afterTile_sameSuits (s : State) {t : Nat} (ht : t < 256) (x : Suit) (r : SuitRun) :
    s.sameSuits t Reg.beyondTiles (s.afterTile t x r).1 := by
  have hsame := State.sameSuits.refl s t Reg.beyondTiles
  unfold State.afterTile
  split
  · exact hsame.releaseBound ht x r
  · exact hsame

theorem State.afterTile_tile (s : State) (t : Nat) (x : Suit) (r : SuitRun) : (s.afterTile t x r).2.tile = r.tile := by
  unfold State.afterTile
  split <;> rfl

theorem State.afterTile_sets (s : State) (t : Nat) (x : Suit) (r : SuitRun) : (s.afterTile t x r).2.sets = r.sets := by
  unfold State.afterTile
  split <;> rfl

theorem exec_sleeveTileEnd {s : State} {t : TileId} {i : Nat} {x : Suit} (hsleeve : s.sleeveSuit t = some (i, x))
    (hsum : x.isSum = false) (hover : x.tileOver = true) : exec (.sleeveTileEnd t) s =
      .next ((s.afterTile t x (s.endedRun t x)).1.putRun t i x (s.afterTile t x (s.endedRun t x)).2) := by
  show execSleeveTileEnd t s = _
  rw [execSleeveTileEnd, hsleeve]
  simp only [hover, hsum, Bool.not_true, Bool.false_eq_true, if_false]
  rfl

theorem Suit.not_ended_of_tileOver {x : Suit} (hsum : x.isSum = false) (h : x.tileOver = true) :
    (x.run.set x (x.run.tile % 2)).ended = false := by
  simp only [Suit.tileOver, hsum, Bool.false_eq_true, if_false, Bool.and_eq_true, Bool.not_eq_true'] at h
  exact h.1.1

theorem sleeveTileEnd_ends {s : State} {t : TileId} {i : Nat} {x : Suit} (hslots : s.suitSlots t)
    (hsleeve : s.sleeveSuit t = some (i, x)) (hsum : x.isSum = false) (hover : x.tileOver = true) :
    Answers (.sleeveTileEnd t) s (fun u => ∃ y, u.suit t i = some y ∧ y.run.tile = x.run.tile + 1 ∧
      (y.run.set y (x.run.tile % 2)).ended = true ∧ u.pocket = s.pocket) := by
  have hi := hslots.sleeveSuit_lt hsleeve
  have hsame := s.afterTile_sameSuits t.isLt x (s.endedRun t x)
  have hslots' := hsame.suitSlots hslots
  have hheld := SuitRun.lt_of_not_ended (Suit.not_ended_of_tileOver hsum hover)
  refine ⟨_, exec_sleeveTileEnd hsleeve hsum hover, _, State.suit_putRun hslots' hi x _, State.afterTile_tile .., ?_, ?_⟩
  · rw [SuitRun.set_of_sets (State.afterTile_sets ..) hheld]
  · rw [State.pocket_putRun hslots' hi, hsame.pocket]

/-! ## A row drained (R172, R179, R181) -/

theorem ASet.row_vals_one_part {x : Suit} (hdot : x.isDot = false) (hparts : x.tparts = 1) (a : ASet) (e : Env) (i : Nat) :
    (a.row x e i).1 = (List.range (x.tileSize a.tile).2).map (fun j => (a.cells.getD (i * x.tn + j) Cell.zero).tot e) := by
  simp [ASet.row, hdot, hparts, Tot.chain]

/-- The set `j` after its next row has drained. -/
def State.drainedSet (s : State) (t : Nat) (x : Suit) (j : Nat) : ASet :=
  let a := x.run.set x j
  { a with dr := a.dr + 1, sat := a.sat || (a.row x (s.env t x) a.dr).2 }

/-- The run after an unmasked row of set `j` has drained into REDUCE's buffer; the sampler keeps the row of its tile (R228). -/
def State.drainedRun (s : State) (t : Nat) (x : Suit) (j : Nat) : SuitRun :=
  let a := x.run.set x j
  let vals := (a.row x (s.env t x) a.dr).1
  { x.run with
    red := x.run.red ++ [a.orow x vals]
    sets := x.run.sets.set j (s.drainedSet t x j)
    sample := x.run.sample.map (fun p =>
      if p.tile = a.tile then { p with drained := p.drained ++ [vals], sat := (s.drainedSet t x j).sat } else p) }

/-- A tile whose last row has drained is counted, and its saturation raised (R184, R292). -/
def State.afterRow (s : State) (t i : Nat) (x : Suit) (r : SuitRun) (a : ASet) : State × SuitRun :=
  if a.dr = x.drainRows then (s.countTile t i).tileDrained t x r a else (s, r)

theorem exec_sleeveDrainRow {s : State} {t : TileId} {i : Nat} {x : Suit} {j : Nat} (hsleeve : s.sleeveSuit t = some (i, x))
    (hsum : x.isSum = false) (hahead : x.run.ahead = []) (hset : x.run.draining x = some j) (hroom : x.run.red.length < 4)
    (hdot : x.isDot = false) (hrow : (x.run.set x j).dr < (x.tileSize (x.run.set x j).tile).1) :
    exec (.sleeveDrainRow t) s = .next ((s.afterRow t i x (s.drainedRun t x j) (s.drainedSet t x j)).1.putRun t i x
      (s.afterRow t i x (s.drainedRun t x j) (s.drainedSet t x j)).2) := by
  have hload : x.run.loadRow x = x.run := by rw [SuitRun.loadRow, hahead]
  show execSleeveDrainRow t s = _
  rw [execSleeveDrainRow, hsleeve]
  dsimp only
  rw [hsum, hload, hset]
  simp only [Nat.not_le.2 hroom, Nat.not_le.2 hrow, hdot, if_false, Bool.false_eq_true, decide_false, Bool.and_false,
    Bool.not_false, Bool.and_true]
  rfl

/-- Raising TILE_SAT and ending the stage change neither the sets nor the rows that REDUCE waits for. -/
theorem State.raiseSat_rows (s : State) (t : Nat) (x : Suit) (r : SuitRun) (o : Nat) :
    (s.raiseSat t x r o).2.sets = r.sets ∧ (s.raiseSat t x r o).2.red = r.red := by
  unfold State.raiseSat
  split <;> exact ⟨rfl, rfl⟩

theorem State.tileDrained_rows (s : State) (t : Nat) (x : Suit) (r : SuitRun) (a : ASet) :
    (s.tileDrained t x r a).2.sets = r.sets ∧ (s.tileDrained t x r a).2.red = r.red := by
  have hraise := (s.count (Reg.sleeveStatTiles t) 1).raiseSat_rows t x r a.tile
  unfold State.tileDrained
  dsimp only
  split_ifs
  · exact hraise
  · exact hraise
  · exact ⟨rfl, rfl⟩
  · exact ⟨rfl, rfl⟩

theorem State.sameSuits.tileDrained {s u : State} {t : Nat} (h : s.sameSuits t ∅ u) (x : Suit) (r : SuitRun) (a : ASet) :
    s.sameSuits t ∅ (u.tileDrained t x r a).1 := by
  have hcount := h.count (Set.notMem_empty (Reg.sleeveStatTiles t)) 1
  unfold State.tileDrained
  dsimp only
  split
  · exact hcount.raiseSat x r a.tile
  · exact hcount

theorem State.afterRow_rows (s : State) (t i : Nat) (x : Suit) (r : SuitRun) (a : ASet) :
    (s.afterRow t i x r a).2.sets = r.sets ∧ (s.afterRow t i x r a).2.red = r.red := by
  unfold State.afterRow
  split
  · exact State.tileDrained_rows ..
  · exact ⟨rfl, rfl⟩

theorem State.afterRow_sameSuits (s : State) (t i : Nat) (x : Suit) (r : SuitRun) (a : ASet) :
    s.sameSuits t ∅ (s.afterRow t i x r a).1 := by
  have hsame := State.sameSuits.refl s t ∅
  unfold State.afterRow
  split
  · exact (hsame.setFld (Set.notMem_empty _) _ _ _).tileDrained x r a
  · exact hsame

theorem sleeveDrainRow_drains {s : State} {t : TileId} {i : Nat} {x : Suit} {j : Nat} (hslots : s.suitSlots t)
    (hsleeve : s.sleeveSuit t = some (i, x)) (hsum : x.isSum = false) (hahead : x.run.ahead = [])
    (hset : x.run.draining x = some j) (hroom : x.run.red.length < 4) (hdot : x.isDot = false) (hparts : x.tparts = 1)
    (hrow : (x.run.set x j).dr < (x.tileSize (x.run.set x j).tile).1) :
    Answers (.sleeveDrainRow t) s (fun u => ∃ y w, u.suit t i = some y ∧ y.run.red = x.run.red ++ [w] ∧
      (y.run.set y j).dr = (x.run.set x j).dr + 1 ∧ w.tile = (x.run.set x j).tile ∧
      w.vals = (List.range (x.tileSize (x.run.set x j).tile).2).map (fun c => Res.tot
        (((x.run.set x j).cells.getD ((x.run.set x j).dr * x.tn + c) Cell.zero).tot (s.env t x))) ∧
      u.pocket = s.pocket) := by
  have hi := hslots.sleeveSuit_lt hsleeve
  have hsame := s.afterRow_sameSuits t i x (s.drainedRun t x j) (s.drainedSet t x j)
  have hslots' := hsame.suitSlots hslots
  have hheld := SuitRun.lt_of_drains (hrow.trans_le (Suit.tileSize_le_drainRows hsum hdot _))
  obtain ⟨hsets, hred⟩ := s.afterRow_rows t i x (s.drainedRun t x j) (s.drainedSet t x j)
  refine ⟨_, exec_sleeveDrainRow hsleeve hsum hahead hset hroom hdot hrow, _, _, State.suit_putRun hslots' hi x _, hred, ?_, rfl,
    ?_, ?_⟩
  · rw [SuitRun.set_of_sets hsets hheld, State.drainedSet]
  · rw [ASet.orow, ASet.row_vals_one_part hdot hparts, List.map_map]
    rfl
  · rw [State.pocket_putRun hslots' hi, hsame.pocket]

/-! ## The rerun of a sampled tile (R228-R230) -/

/-- The word SAMPLER_TILES of a panel and partition is none of the others that a rerun counts in. -/
theorem Reg.samplerTiles_keep (p q : Nat) : Reg.samplerSatSkipped p q ∉ ({Reg.samplerTiles p q} : Set Nat) ∧
    Reg.samplerDiverged p q ∉ ({Reg.samplerTiles p q} : Set Nat) := by
  simp [Reg.samplerSatSkipped, Reg.samplerDiverged, Reg.samplerTiles]

theorem Reg.samplerHist_keep {p q : Nat} (hq : q < 8) (k b : Nat) :
    Reg.samplerHist p q k b ∉ ({Reg.samplerTiles p q} : Set Nat) := by
  rw [Set.mem_singleton_iff, Reg.samplerHist, Reg.samplerTiles]
  omega

/-- Binning counts in the histogram, and may raise NUMERIC_DIVERGENCE. -/
theorem State.sameSuits.countBins {s u : State} {t p q : Nat} (h : s.sameSuits t {Reg.samplerTiles p q} u) (hq : q < 8)
    (k : Nat) (bins : List Nat) : s.sameSuits t {Reg.samplerTiles p q} (u.countBins t p q k bins) := by
  have hdropped : Reg.flogDropped ∉ ({Reg.samplerTiles p q} : Set Nat) := by
    rw [Set.mem_singleton_iff, Reg.flogDropped, Reg.samplerTiles]
    omega
  have hbins : s.sameSuits t {Reg.samplerTiles p q} (bins.foldl (fun s b => s.count (Reg.samplerHist p q k b) 1) u) :=
    List.foldlRecOn (motive := fun v => s.sameSuits t {Reg.samplerTiles p q} v) bins _ h
      (fun _ hv b _ => hv.count (Reg.samplerHist_keep hq k b) 1)
  exact State.sameSuits.ite (((hbins.setSampler _).warnJob hdropped ..).setBit (Reg.samplerTiles_keep p q).2 _ _)
    (hbins.setSampler _) _

/-- The drained totals of a sampled tile, each with its reference total and whether that saturated (R228). -/
def State.sampleRefs (s : State) (t : Nat) (x : Suit) (p : Sample) : List (Tot × Tot × Bool) :=
  (List.range (x.tileSize p.tile).1).flatMap (fun r => (List.range (x.tileSize p.tile).2).map (fun c =>
    ((p.drained.getD r []).getD c (.int 0), refTotal (s.env t x) p r c)))

/-- The cycles of the rerun are counted, then the sampled tile. -/
def State.rerunCounted (s : State) (t : Nat) (x : Suit) (p : Sample) (q : Nat) : State :=
  let e := s.env t x
  let w := if isPlane e.da.elem then e.da.width else if isPlane e.db.elem then e.db.width else 1
  (s.count (Reg.sleeveStatSeq t) (p.tape.length * w)).count (Reg.samplerTiles (t / 64) q) 1

/-- The elements are binned, unless one of the tile has saturated (R229, R230). -/
def State.rerunBinned (s : State) (t : Nat) (x : Suit) (p : Sample) (q : Nat) : State :=
  let u := s.rerunCounted t x p q
  if p.sat ∨ (s.sampleRefs t x p).any (fun z => z.2.2) then u.count (Reg.samplerSatSkipped (t / 64) q) 1
  else u.countBins t (t / 64) q (u.totalDesc t x).kind ((s.sampleRefs t x p).map (fun z => binOf (s.env t x) z.1 z.2.1))

/-- A rerun after the last tile ends the stage. -/
def State.afterRerun (s : State) (t : Nat) (x : Suit) : State × SuitRun :=
  if x.run.tile = x.tiles then s.releaseBound t x { x.run with sample := none, sleeve := 2, holdA := [], holdB := [] }
  else (s, { x.run with sample := none })

theorem exec_sampledTileRerun {s : State} {t : TileId} {i : Nat} {x : Suit} {p : Sample} {q : Nat}
    (hsleeve : s.sleeveSuit t = some (i, x)) (hsample : x.run.sample = some p) (hpart : s.partOf t = some q)
    (hdrained : x.drainRows ≤ p.drained.length) : exec (.sampledTileRerun t) s =
      .next (((s.rerunBinned t x p q).afterRerun t x).1.putRun t i x ((s.rerunBinned t x p q).afterRerun t x).2) := by
  show execSampledTileRerun t s = _
  rw [execSampledTileRerun, hsleeve]
  simp only [hsample, hpart, Nat.not_lt.2 hdrained, if_false]
  unfold State.afterRerun
  split <;> rfl

theorem State.rerunCounted_same (s : State) (t : Nat) (x : Suit) (p : Sample) (q : Nat) :
    s.sameSuits t ∅ (s.rerunCounted t x p q) :=
  ((State.sameSuits.refl s t ∅).count (Set.notMem_empty _) _).count (Set.notMem_empty _) 1

theorem State.rd_rerunCounted (s : State) (t : Nat) (x : Suit) (p : Sample) (q : Nat) :
    ((s.rerunCounted t x p q).rd (Reg.samplerTiles (t / 64) q)).toNat =
      Min.min 0xFFFFFFFF ((s.rd (Reg.samplerTiles (t / 64) q)).toNat + 1) := by
  have hword : Reg.samplerTiles (t / 64) q ≠ Reg.sleeveStatSeq t := by
    rw [Reg.samplerTiles, Reg.sleeveStatSeq]
    omega
  rw [State.rerunCounted, State.rd_count_one, State.rd_count_ne _ _ hword]

/-- After the tile has been counted, the rerun leaves SAMPLER_TILES alone. -/
theorem State.rerunBinned_same (s : State) (t : Nat) (x : Suit) (p : Sample) {q : Nat} (hq : q < 8) :
    (s.rerunCounted t x p q).sameSuits t {Reg.samplerTiles (t / 64) q} (s.rerunBinned t x p q) := by
  have hsame := State.sameSuits.refl (s.rerunCounted t x p q) t {Reg.samplerTiles (t / 64) q}
  exact (hsame.count (Reg.samplerTiles_keep _ q).1 1).ite (hsame.countBins hq _ _) _

theorem State.afterRerun_same (s : State) {t : Nat} (ht : t < 256) (x : Suit) :
    s.sameSuits t Reg.beyondTiles (s.afterRerun t x).1 := by
  have hsame := State.sameSuits.refl s t Reg.beyondTiles
  unfold State.afterRerun
  split
  · exact hsame.releaseBound ht x _
  · exact hsame

theorem State.afterRerun_sample (s : State) (t : Nat) (x : Suit) : (s.afterRerun t x).2.sample = none := by
  unfold State.afterRerun
  split <;> rfl

theorem sampledTileRerun_counts {s : State} {t : TileId} {i : Nat} {x : Suit} {p : Sample} {q : Nat} (hslots : s.suitSlots t)
    (hsleeve : s.sleeveSuit t = some (i, x)) (hsample : x.run.sample = some p) (hpart : s.partOf t = some q)
    (hdrained : x.drainRows ≤ p.drained.length) :
    Answers (.sampledTileRerun t) s (fun u => ∃ y, u.suit t i = some y ∧ y.run.sample = none ∧ u.pocket = s.pocket ∧
      (u.rd (Reg.samplerTiles (t.val / 64) q)).toNat =
        Min.min 0xFFFFFFFF ((s.rd (Reg.samplerTiles (t.val / 64) q)).toNat + 1)) := by
  have hi := hslots.sleeveSuit_lt hsleeve
  have hcounted := s.rerunCounted_same t x p q
  have hbeyond : {Reg.samplerTiles (t.val / 64) q} ⊆ Reg.beyondTiles := by
    rw [Set.singleton_subset_iff, Reg.beyondTiles, Set.mem_Ici, Reg.samplerTiles]
    omega
  have hrest := (s.rerunBinned_same t x p (State.partOf_lt hpart)).trans
    (((s.rerunBinned t x p q).afterRerun_same t.isLt x).mono hbeyond)
  have hslots' := hrest.suitSlots (hcounted.suitSlots hslots)
  have hword := Reg.notMem_suitWords_of_beyondTiles t.isLt (hbeyond rfl)
  refine ⟨_, exec_sampledTileRerun hsleeve hsample hpart hdrained, _, State.suit_putRun hslots' hi x _,
    State.afterRerun_sample .., ?_, ?_⟩
  · rw [State.pocket_putRun hslots' hi, hrest.pocket, hcounted.pocket]
  · rw [State.rd_putRun hslots' hi (State.onlyRegs.refl _ []) x _ hword, hrest.rd _ rfl, State.rd_rerunCounted]

/-- Settles O24, command by command: a cycle through `takeRec` and the parts' cycles, the end of a tile, a row that drains, and a
rerun through what each leaves alone beside its suit. -/
theorem sleeveTakesAndDrains : Obligations.SleeveTakesAndDrains := by
  unfold Obligations.SleeveTakesAndDrains
  intro s t i x hslots hsleeve hsum
  refine ⟨fun f hfetch hdot hopen hnext => ?_, sleeveTileEnd_ends hslots hsleeve hsum,
    fun j hahead hset hroom hdot hparts hrow =>
      sleeveDrainRow_drains hslots hsleeve hsum hahead hset hroom hdot hparts hrow,
    fun p q hsample hpart hdrained => sampledTileRerun_counts hslots hsleeve hsample hpart hdrained⟩
  obtain ⟨u, hexec, r, hnow, htook⟩ := sleeveCycle_takes hslots hsleeve hsum hfetch hdot hopen hnext
  exact ⟨u, hexec, r, hnow, htook.fed, htook.hand, htook.seqPos, htook.allIn, htook.tile⟩

end Sys2Proof.Machine
end

section
/-! SUPPORT. What a write to a Pocket leaves of the units of its tile. -/

namespace Sys2Proof.Machine

/-- Of the units of tile `t`, at most the ports differ. -/
def State.portsOnly (s u : State) (t : Nat) : Prop := ∃ p, u.tile t = { s.tile t with ports := p }

theorem State.portsOnly.refl (s : State) (t : Nat) : s.portsOnly s t := ⟨(s.tile t).ports, rfl⟩

section PortsOnly
variable {s u : State} {t : Nat} (h : s.portsOnly u t)
include h

theorem State.portsOnly.suits : (u.tile t).suits = (s.tile t).suits := by
  obtain ⟨p, hp⟩ := h
  rw [hp]

theorem State.portsOnly.inbound : (u.tile t).inbound = (s.tile t).inbound := by
  obtain ⟨p, hp⟩ := h
  rw [hp]

theorem State.portsOnly.of_tiles {v : State} (hv : v.tiles = u.tiles) : s.portsOnly v t := by
  obtain ⟨p, hp⟩ := h
  exact ⟨p, by rw [State.tile, hv, ← State.tile, hp]⟩

theorem State.portsOnly.setPorts (p : Ports) : s.portsOnly (u.setPorts t p) t := by
  obtain ⟨p', hp⟩ := h
  exact ⟨p, by rw [State.setPorts, State.tile_setTile_self, hp]⟩

theorem State.portsOnly.fixWord (w : Nat) : s.portsOnly (u.fixWord t w) t := by
  have herr : s.portsOnly { u with pocketErr := tdel u.pocketErr (wkey t w) } t := h.of_tiles rfl
  unfold State.fixWord
  dsimp only
  split_ifs
  · exact herr.setPorts _
  · exact herr

theorem State.portsOnly.putWord (w : Nat) (bytes : List (Option Byte)) : s.portsOnly (u.putWord t w bytes) t :=
  (h.fixWord w).of_tiles rfl

theorem State.portsOnly.pushRec (r : FaultRec) : s.portsOnly (u.pushRec r) t := by
  unfold State.pushRec
  split_ifs <;> exact h.of_tiles rfl

theorem State.portsOnly.zeroBadWord (w : Nat) : s.portsOnly (u.zeroBadWord t w) t :=
  ((h.pushRec _).fixWord w).of_tiles rfl

theorem State.portsOnly.noteUe (w : Nat) (e : WordErr) : s.portsOnly (u.noteUe t w e) t := h.of_tiles rfl

theorem State.portsOnly.noteCe (w : Nat) (e : WordErr) : s.portsOnly (u.noteCe t w e) t := by
  unfold State.noteCe
  dsimp only
  split_ifs
  · exact h.of_tiles rfl
  · exact State.portsOnly.setPorts (h.of_tiles rfl) _

/-- A word is written, or left as it was because it is uncorrectable (R81). -/
theorem State.portsOnly.writeWord (w : Nat) (bytes : List (Option Byte)) : s.portsOnly (u.writeWord t w bytes).1 t := by
  unfold State.writeWord
  dsimp only
  split_ifs
  · exact h
  · exact h.putWord w bytes
  · split
    · exact h.putWord w bytes
    · split_ifs
      · exact (h.noteUe w _).zeroBadWord w
      · exact h.noteUe w _
      · exact (h.noteCe w _).putWord w bytes

theorem State.portsOnly.writeWords (ws : List (Nat × List (Option Byte))) : s.portsOnly (u.writeWords t ws).1 t := by
  induction ws generalizing u with
  | nil => exact h
  | cons x ws ih => exact ih (h.writeWord x.1 x.2)

theorem State.portsOnly.markDirty (ps : List Nat) : s.portsOnly (u.markDirty t ps) t :=
  h.of_tiles (u.markDirty_onlyRegs t ps).tiles

theorem State.portsOnly.pocketWrite (off : Nat) (bytes : List (Option Byte)) (mark : Bool) :
    s.portsOnly (u.pocketWrite t off bytes mark).1 t := by
  unfold State.pocketWrite
  split
  · exact h
  · exact (h.writeWords _).markDirty _

end PortsOnly

@[simp] theorem length_leBytes (n v : Nat) : (leBytes n v).length = n := by simp [leBytes_eq_map]

/-- A write of bytes that no rule refuses and that meets no damaged word stores them, and leaves of the tile's units all but
the ports. -/
theorem State.pocketWrite_stores {s : State} {t off : Nat} {bs : List Byte} (hpos : 0 < bs.length)
    (hopen : s.pocketOpen t off bs.length) (hclean : s.pocketClean t off bs.length) :
    ∃ u, s.pocketWrite t off (bs.map some) = (u, 0) ∧ s.wroteBytes u t off bs ∧ s.portsOnly u t := by
  obtain ⟨u, hu, hwrote⟩ := State.pocketWrite_lands hpos hopen (.inr hclean)
  have hports := (State.portsOnly.refl s t).pocketWrite off (bs.map some) true
  rw [hu] at hports
  exact ⟨u, hu, hwrote, hports⟩

end Sys2Proof.Machine
end

section
/-! SUPPORT. CONVERT of a row of pairs, and STORE of a row of one element (R211, R287). Settles O26. -/

namespace Sys2Proof.Machine

/-! ## CONVERT into a pair tensor (R211) -/

/-- A tensor without scale blocks has no block rows and columns. -/
theorem State.scaleBlock_of_noScale {s : State} {t : Nat} {d : TDesc} (h : d.scale = noneAddr) : s.scaleBlock t d = (0, 0) := by
  unfold State.scaleBlock
  split
  · exact if_pos h
  · rfl

/-- An element on its way into a tensor without scale blocks, from operands whose scales the Sleeve engine took in (R163). -/
def Cvt.unscaled (k : Cvt) (w : ORow) (j : Nat) (v : Res) : CElem :=
  { row := w.row, col := w.col + j, res := v, src := (v.toF k.f).scale 0,
    blk := (w.row / Max.max 1 k.sb.1, (w.col + j) / Max.max 1 k.sb.2), addr := none }

theorem State.cvtElem_unscaled {s : State} {t : Nat} {x : Suit} {k : Cvt} (hfloat : isFloat (s.sideDesc t x 0).elem = true)
    (hsb : k.sb.1 = 0) (w : ORow) (j : Nat) (v : Res) : s.cvtElem t x k w j v = (s, .ok (k.unscaled w j v)) := by
  have hexp : s.inExp t x w j = (s, .ok 0) := if_pos (.inr hfloat)
  have haddr : s.scaleAddr t x k w.row (w.col + j) = (s, .ok none) := if_pos (.inl hsb)
  rw [State.cvtElem, hexp, andThen_ok, haddr, andThen_ok, Cvt.unscaled]

/-- The elements of a row on their way into such a tensor. -/
def Cvt.unscaledRow (k : Cvt) (w : ORow) : List CElem :=
  ((List.range w.vals.length).zip w.vals).map (fun p => k.unscaled w p.1 p.2)

theorem Cvt.res_unscaledRow (k : Cvt) (w : ORow) : (k.unscaledRow w).map (·.res) = w.vals := by
  rw [Cvt.unscaledRow, List.map_map]
  exact List.map_snd_zip (by simp)

/-- No scale byte belongs to them. -/
theorem Cvt.filterMap_addr_unscaledRow {α : Type} (k : Cvt) (w : ORow) (f : CElem → Nat → α) :
    (k.unscaledRow w).filterMap (fun e => e.addr.map (f e)) = [] := by
  refine List.filterMap_eq_nil_iff.2 (fun e he => ?_)
  obtain ⟨p, -, rfl⟩ := List.mem_map.1 he
  rfl

/-- Steps that all answer without looking at the state. -/
theorem each_pure {α β : Type} (g : α → β) (s : State) (as : List α) :
    each (fun s a => (s, .ok (g a))) s as = (s, .ok (as.map g)) :=
  each_ok as (fun _ _ => rfl)

/-- The row that CONVERT hands on where the destination takes the words of a pair as they are. -/
def ORow.pairs (w : ORow) : StRow :=
  { tile := w.tile, row := w.row, col := w.col, vals := w.vals.map Res.words, scales := [], last := w.last }

/-- A row converted for a pair tensor without scale blocks keeps its words, and nothing saturates (R211). -/
theorem State.cvtRows_pairs {s : State} {t : Nat} {x : Suit} {k : Cvt} (hfloat : isFloat (s.sideDesc t x 0).elem = true)
    (hpair : isPair k.d.elem = true) (hsb : k.sb = (0, 0)) (hlining : x.lining = false) (w : ORow) :
    s.cvtRows t x k [w] = (s, .ok ([w.pairs], false)) := by
  have helems : each (fun s (p : Nat × Res) => s.cvtElem t x k w p.1 p.2) s ((List.range w.vals.length).zip w.vals) =
      (s, .ok (k.unscaledRow w)) :=
    each_ok _ (fun p _ => State.cvtElem_unscaled hfloat (by rw [hsb]) w p.1 p.2)
  have hword (exp : Int) (e : CElem) : cvtWord x k exp e = (e.res.words, false) := if_pos hpair
  have hvals : (k.unscaledRow w).map (fun e => e.res.words) = w.vals.map Res.words := by
    rw [← k.res_unscaledRow w, List.map_map]
    rfl
  rw [State.cvtRows]
  simp only [each, helems, andThen_ok, hsb, bne_self_eq_false, Bool.false_and, Bool.false_eq_true, if_false, hlining, hword,
    each_pure]
  simp [k.filterMap_addr_unscaledRow w, hvals, ORow.pairs, Function.comp_def]

theorem exec_convertRow {s : State} {t : TileId} {i : Nat} {x : Suit} {w : ORow} {rest : List ORow}
    (hconvert : s.convertSuit t = some (i, x)) (hcvt : x.run.cvt = w :: rest) (hheld : x.run.held = [])
    (hroom : x.run.sto.length < 4) (hscale : (s.outDesc t x).scale = noneAddr) :
    exec (.convertRow t) s = .next (s.convertOut t i x (s.cvtOf t x) [w] { x.run with cvt := rest }) := by
  have hsb : (s.cvtOf t x).sb = (0, 0) := State.scaleBlock_of_noScale hscale
  have hrun : ({ x.run with cvt := rest } : SuitRun) = { x.run with cvt := rest, held := [] } := by rw [← hheld]
  show execConvertRow t s = _
  rw [execConvertRow, hconvert, hrun]
  simp [hsb, hcvt, hheld, hroom]

/-- R211: a row of pairs goes on to STORE word for word. -/
theorem convertRow_handsOnPairs {s : State} {t : TileId} {i : Nat} {x : Suit} {w : ORow} {rest : List ORow}
    (hslots : s.suitSlots t) (hconvert : s.convertSuit t = some (i, x)) (hcvt : x.run.cvt = w :: rest)
    (hheld : x.run.held = []) (hroom : x.run.sto.length < 4) (hpair : isPair (s.outDesc t x).elem = true)
    (hscale : (s.outDesc t x).scale = noneAddr) (hlining : x.lining = false)
    (hfloat : isFloat (s.sideDesc t x 0).elem = true) :
    Answers (.convertRow t) s (fun u =>
      s.stageNow u t i x { x.run with cvt := rest, sto := x.run.sto ++ [w.pairs] } []) := by
  have hrows : s.cvtRows t x (s.cvtOf t x) [w] = (s, .ok ([w.pairs], false)) :=
    State.cvtRows_pairs hfloat hpair (State.scaleBlock_of_noScale hscale) hlining w
  refine ⟨_, exec_convertRow hconvert hcvt hheld hroom hscale, ?_⟩
  rw [State.convertOut, hrows]
  exact State.putRun_stageNow hslots (hslots.nextSuit_lt hconvert) (State.onlyRegs.refl s []) x _

/-! ## STORE of one element (R287) -/

/-- Element (r, c) of the tensor `d`, of a type that is neither plane nor pair, stands at physical offset `off` of the tile's
Pocket. -/
structure State.elementAt (s : State) (t : Nat) (x : Suit) (d : TDesc) (r c off : Nat) : Prop where
  plane : isPlane d.elem = false
  pair : isPair d.elem = false
  place : ∃ g, s.img t x 2 d r c = some g ∧ g.empty = false ∧ g.d = d ∧
    s.planeAt t x g d.val0 (tySize d.elem * g.dense r c) (tySize d.elem) = some off

/-- The row of one element that an image holds is that element. -/
theorem State.rowWants_one {s : State} {t : Nat} {x : Suit} {d : TDesc} {r c : Nat} {g : Img}
    (himg : s.img t x 2 d r c = some g) (hempty : g.empty = false) :
    s.rowWants t x d r c 1 = [{ g := g, idx := g.dense r c, row := r, col := c }] := by
  simp [State.rowWants, himg, hempty]

theorem tySize_pos (ty : Nat) : 0 < tySize ty := by
  unfold tySize
  split_ifs <;> decide

/-- One value of a type that is neither plane nor pair is written as its bytes. -/
theorem State.writeVals_one {s u : State} {t : Nat} {x : Suit} {stage : Nat} {d : TDesc} {g : Img} {i v : Nat} (hd : g.d = d)
    (hplane : isPlane d.elem = false) (hpair : isPair d.elem = false)
    (hwrite : s.planeWrite t x stage g d.val0 (tySize d.elem * i) (leBytes (tySize d.elem) v) = (u, .ok ())) :
    s.writeVals t x stage g [(i, v, 0)] = (u, .ok ()) := by
  subst hd
  simp [State.writeVals, hplane, hpair, runsOf, each, hwrite]

/-- A row of one such element stores its bytes, and leaves of the tile's units all but the ports. -/
theorem State.writeRow_stores {s : State} {t : Nat} {x : Suit} {d : TDesc} {r c off : Nat} (h : s.elementAt t x d r c off)
    (hopen : s.pocketOpen t off (tySize d.elem)) (hclean : s.pocketClean t off (tySize d.elem)) (stage v : Nat) :
    ∃ u, s.writeRow t x stage d r c [(v, 0)] = (u, .ok ()) ∧ s.wroteBytes u t off (leBytes (tySize d.elem) v) ∧
      s.portsOnly u t := by
  obtain ⟨g, himg, hempty, hd, hplace⟩ := h.place
  obtain ⟨u, hu, hstored⟩ : ∃ u, s.pocketWrite t off ((leBytes (tySize d.elem) v).map some) = (u, 0) ∧
      s.wroteBytes u t off (leBytes (tySize d.elem) v) ∧ s.portsOnly u t :=
    State.pocketWrite_stores (by simpa using tySize_pos _) (by simpa using hopen) (by simpa using hclean)
  have hplane : s.planeWrite t x stage g d.val0 (tySize d.elem * g.dense r c) (leBytes (tySize d.elem) v) = (u, .ok ()) := by
    rw [State.planeWrite, length_leBytes, hplace]
    simp only [State.stageWrite, hu]
  have hvals := State.writeVals_one hd h.plane h.pair hplane
  refine ⟨u, ?_, hstored⟩
  simp [State.writeRow, State.rowWants_one himg hempty, wantGroups, each, hvals]

/-- The next row of STORE, behind CONVERT, goes to its tensor. -/
theorem exec_storeRow {s : State} {t : TileId} {i : Nat} {x : Suit} {w : StRow} {rest : List StRow}
    (hstore : s.storeSuit t = some (i, x)) (hmerge : x.isMerge = false) (hring : x.toRing = false)
    (hconvert : x.has stConvert = true) (hsto : x.run.sto = w :: rest) (hscales : w.scales = []) :
    exec (.storeRow t) s = .next (keepRun t i x (andThen (s.writeRow t x stStore (s.outDesc t x) w.row w.col w.vals)
      (fun s _ => (s, .ok { x.run with sto := rest })))) := by
  show execStoreRow t s = _
  rw [execStoreRow, hstore]
  simp [hmerge, hring, State.nextStore, hconvert, hsto, hscales, State.writeScales, each]

/-- R287: a row of one element is stored at its place, and leaves the suit. -/
theorem storeRow_storesElement {s : State} {t : TileId} {i : Nat} {x : Suit} {w : StRow} {rest : List StRow} {v off : Nat}
    (hslots : s.suitSlots t) (hstore : s.storeSuit t = some (i, x)) (hmerge : x.isMerge = false) (hring : x.toRing = false)
    (hconvert : x.has stConvert = true) (hsto : x.run.sto = w :: rest) (hvals : w.vals = [(v, 0)]) (hscales : w.scales = [])
    (h : s.elementAt t x (s.outDesc t x) w.row w.col off) (hopen : s.pocketOpen t off (tySize (s.outDesc t x).elem))
    (hclean : s.pocketClean t off (tySize (s.outDesc t x).elem)) :
    Answers (.storeRow t) s (fun u => s.stored u t off (leBytes (tySize (s.outDesc t x).elem) v) ∧
      u.suit t i = some { x with run := { x.run with sto := rest } }) := by
  have hi := hslots.nextSuit_lt hstore
  obtain ⟨u, hrow, hwrote, hports⟩ := State.writeRow_stores h hopen hclean stStore v
  have hslots' : u.suitSlots t := by rwa [State.suitSlots, hports.suits]
  refine ⟨_, exec_storeRow hstore hmerge hring hconvert hsto hscales, ?_⟩
  rw [hvals, hrow, andThen_ok, keepRun_ok]
  refine ⟨?_, State.suit_putRun hslots' hi x _⟩
  rw [State.stored, State.pocket_putRun hslots' hi]
  exact hwrote.stored

/-! ## The statement -/

/-- Settles O26, stage by stage: a row of pairs goes through `cvtRows` unchanged, and a row of one element is one write to the
Pocket. -/
theorem convertAndStoreRows : Obligations.ConvertAndStoreRows := by
  unfold Obligations.ConvertAndStoreRows
  intro s t i x hslots
  exact ⟨fun w rest hconvert hcvt hheld hroom hpair hscale hlining _ hfloat =>
      convertRow_handsOnPairs hslots hconvert hcvt hheld hroom hpair hscale hlining hfloat,
    fun w rest v off g hstore hmerge hring hconvert hsto hvals hscales hplane hpair _ himg hempty hd hplace _ hopen hclean =>
      storeRow_storesElement hslots hstore hmerge hring hconvert hsto hvals hscales
        ⟨hplane, hpair, g, himg, hempty, hd, hplace⟩ hopen hclean⟩

end Sys2Proof.Machine
end

section
/-! SUPPORT. The queues of the Placket unit: what setting a queue, showing it, sending its writes and freeing its scoreboard
entries change (R246, R256, R270, R339). -/

namespace Sys2Proof.Machine

/-! ## A queue of a tile -/

@[simp] theorem State.queue_setQueue_self (s : State) (t q : Nat) (x : Queue) : (s.setQueue t q x).queue t q = x := by
  simp [State.setQueue, State.queue]

theorem State.queue_of_tiles {s u : State} (h : u.tiles = s.tiles) (t q : Nat) : u.queue t q = s.queue t q := by
  rw [State.queue, State.tile, h, State.queue, State.tile]

/-- A unit of the tile other than its queues changes. -/
theorem State.queue_setTile {s : State} {t : Nat} {x : Tile} (h : x.queues = (s.tile t).queues) (q : Nat) :
    (s.setTile t x).queue t q = s.queue t q := by
  rw [State.queue, State.tile_setTile_self, h, State.queue]

/-! ## Bits and fields of words -/

/-- Setting a field leaves the bits outside it. -/
theorem State.getLsbD_setFld_out (s : State) (a : Nat) {lo len j : Nat} (v : Nat) (h : j < lo ∨ lo + len ≤ j) :
    ((s.setFld a lo len v).rd a).getLsbD j = (s.rd a).getLsbD j := by
  by_cases h32 : j < 32
  · rw [State.rd_setFld_self, getLsbD_putField _ _ _ _ _ h32, if_neg (by omega)]
  · rw [BitVec.getLsbD_of_ge _ _ (by omega), BitVec.getLsbD_of_ge _ _ (by omega)]

/-- A field whose bits are kept is kept. -/
theorem State.sameBits.fld {s u : State} {a : Nat} {keep : Nat → Prop} (h : s.sameBits u a keep) {lo len : Nat}
    (hkeep : ∀ i < len, keep (lo + i)) : u.fld a lo len = s.fld a lo len := by
  have hbits : (u.rd a).extractLsb' lo len = (s.rd a).extractLsb' lo len := by
    apply BitVec.eq_of_getLsbD_eq
    intro i hi
    rw [BitVec.getLsbD_extractLsb', BitVec.getLsbD_extractLsb', h _ (hkeep i hi)]
  rw [State.fld, fieldOf, hbits, State.fld, fieldOf]

/-! ## How a queue shows itself (R247, R270) -/

theorem State.refreshQ_onlyRegs (s : State) (t q : Nat) : s.onlyRegs (s.refreshQ t q) (queueWords t q) := by
  have hstatus : Reg.placketQStatus t q ∈ queueWords t q := by simp [queueWords]
  exact (((((((State.onlyRegs.refl s _).setBit hstatus _ _).setBit hstatus _ _).setFld hstatus _ _ _).setFld hstatus _ _ _).wr
    (by simp [queueWords]) _).wr (by simp [queueWords]) _).setBit (by simp [queueWords]) _ _

@[simp] theorem State.pocket_refreshQ (s : State) (t q : Nat) : (s.refreshQ t q).pocket = s.pocket := rfl
@[simp] theorem State.answers_refreshQ (s : State) (t q : Nat) : (s.refreshQ t q).answers = s.answers := rfl
@[simp] theorem State.queue_refreshQ (s : State) (t q : Nat) : (s.refreshQ t q).queue t q = s.queue t q := rfl

/-- HEAD, TAIL, FILLED and CANCELLING stand in PLACKET_Q_STATUS itself. -/
theorem State.refreshQ_sameBits (s : State) (t q : Nat) :
    s.sameBits (s.refreshQ t q) (Reg.placketQStatus t q) (fun j => (11 ≤ j ∧ j < 29) ∨ j = 31) := by
  intro j hj
  rw [State.refreshQ]
  rw [State.rd_setBit_ne, State.rd_wr_ne, State.rd_wr_ne, State.getLsbD_setFld_out _ _ _ (by omega),
    State.getLsbD_setFld_out _ _ _ (by omega), State.getLsbD_setBit_ne _ _ _ _ (by omega),
    State.getLsbD_setBit_ne _ _ _ _ (by omega)]
  all_goals
    simp only [Reg.placketQStatus, Reg.placketQHeadlen, Reg.placketQCredits, Reg.placketStatus]
    omega

theorem State.qHead_refreshQ (s : State) (t q : Nat) : (s.refreshQ t q).qHead t q = s.qHead t q :=
  (s.refreshQ_sameBits t q).fld (fun _ _ => by omega)
theorem State.qTail_refreshQ (s : State) (t q : Nat) : (s.refreshQ t q).qTail t q = s.qTail t q :=
  (s.refreshQ_sameBits t q).fld (fun _ _ => by omega)
theorem State.qFilled_refreshQ (s : State) (t q : Nat) :
    (s.refreshQ t q).qFilled t q = s.qFilled t q :=
  (s.refreshQ_sameBits t q).fld (fun _ _ => by omega)
theorem State.qCancelling_refreshQ (s : State) (t q : Nat) :
    (s.refreshQ t q).qCancelling t q = s.qCancelling t q :=
  s.refreshQ_sameBits t q 31 (.inr rfl)

/-- The words of a queue are none of a task's. -/
theorem cuffTaskStatus_notMem_queueWords (t k q : Nat) : Reg.cuffTaskStatus t k ∉ queueWords t q := by
  simp only [queueWords, Reg.cuffTaskStatus, Reg.placketQStatus, Reg.placketQHeadlen, Reg.placketQCredits, Reg.placketStatus,
    List.mem_cons, List.not_mem_nil, or_false]
  omega

theorem State.taskState_refreshQ (s : State) (t k q : Nat) :
    (s.refreshQ t q).taskState t k = s.taskState t k :=
  State.fld_congr ((s.refreshQ_onlyRegs t q).2 _ (cuffTaskStatus_notMem_queueWords t k q)) _ _

/-! ## Writes that are sent (R240, R256, R366) -/

/-- Requests of queue `q` have been sent: no register word, no byte of a Pocket, no answer and no merge buffer has changed. -/
structure State.sent (s u : State) (t q : Nat) : Prop where
  regs : u.regs = s.regs
  pocket : u.pocket = s.pocket
  answers : u.answers = s.answers
  merge : (u.queue t q).merge = (s.queue t q).merge

theorem State.sent.refl (s : State) (t q : Nat) : s.sent s t q := ⟨rfl, rfl, rfl, rfl⟩

theorem State.sent.trans {s u v : State} {t q : Nat} (h : s.sent u t q) (h' : u.sent v t q) : s.sent v t q :=
  ⟨h'.regs.trans h.regs, h'.pocket.trans h.pocket, h'.answers.trans h.answers, h'.merge.trans h.merge⟩

theorem State.setQueue_sent (s : State) (t q : Nat) {x : Queue} (h : x.merge = (s.queue t q).merge) :
    s.sent (s.setQueue t q x) t q :=
  ⟨rfl, rfl, rfl, by rw [State.queue_setQueue_self, h]⟩

/-- Fields other than the register words, the Pockets, the answers and the tiles change. -/
theorem State.sent.congr {s u v : State} {t q : Nat} (h : s.sent u t q) (hregs : v.regs = u.regs) (hpocket : v.pocket = u.pocket)
    (hanswers : v.answers = u.answers) (htiles : v.tiles = u.tiles) : s.sent v t q :=
  h.trans ⟨hregs, hpocket, hanswers, by rw [State.queue_of_tiles htiles]⟩

theorem Queue.grantFor_merge (x : Queue) (m tile kind : Nat) : (x.grantFor m tile kind).2.merge = x.merge := by
  unfold Queue.grantFor
  split <;> rfl

theorem State.sendRequest_sent (s : State) (t q kind addr addrLo aux len : Nat) (data : List (Option Byte)) :
    s.sent (s.sendRequest t q kind addr addrLo aux len data).1 t q := by
  have hgrant : (if (gaSpace addr == 0) = true then (s.queue t q).grantFor (gaModule addr) (gaTile addr) kind
      else (none, s.queue t q)).2.merge = (s.queue t q).merge := by
    split
    · exact Queue.grantFor_merge ..
    · rfl
  unfold State.sendRequest
  dsimp only
  generalize (if (gaSpace addr == 0) = true then (s.queue t q).grantFor (gaModule addr) (gaTile addr) kind
    else (none, s.queue t q)) = p at hgrant ⊢
  obtain ⟨g, x⟩ := p
  have hqueue {y : Queue} (hy : y.merge = x.merge) : s.sent (s.setQueue t q y) t q := s.setQueue_sent t q (hy.trans hgrant)
  dsimp only
  split_ifs <;> exact State.sent.congr (hqueue (by rfl)) rfl rfl rfl rfl

theorem State.sendWrites_sent (s : State) (t q : Nat) : s.sent (s.sendWrites t q) t q := by
  unfold State.sendWrites
  dsimp only
  refine State.sent.trans ?_ (State.setQueue_sent _ t q rfl)
  refine List.foldlRecOn (motive := fun (st : State × List MergeBuf × Bool) => s.sent st.1 t q) _ _ (State.sent.refl s t q)
    (fun st hst m _ => ?_)
  split_ifs
  · exact hst
  · exact hst
  · exact hst.trans (State.sendRequest_sent ..)

/-- With no write flushed there is nothing to send. -/
theorem State.queue_sendWrites_nil {s : State} {t q : Nat} (h : (s.queue t q).writes = []) :
    (s.sendWrites t q).queue t q = s.queue t q := by
  rw [State.sendWrites, h]
  dsimp only [List.foldl_nil]
  rw [State.queue_setQueue_self, ← h]

/-- The flush of a merge buffer leaves the buffer empty (R256). -/
theorem State.flushMerge_spec (s : State) (t q : Nat) : (s.flushMerge t q).regs = s.regs ∧
    (s.flushMerge t q).pocket = s.pocket ∧ ((s.flushMerge t q).queue t q).merge = none := by
  unfold State.flushMerge
  dsimp only
  split
  · next hnone => exact ⟨rfl, rfl, hnone⟩
  · obtain ⟨hregs, hpocket, -, hmerge⟩ := State.sendWrites_sent (s.setQueue t q _) t q
    exact ⟨hregs, hpocket, hmerge.trans (by rw [State.queue_setQueue_self])⟩

/-! ## The scoreboard (R339) -/

/-- The words of scoreboard entries `es`, with SB_STATUS. -/
def sbWords (t : Nat) (es : List Nat) : List Nat :=
  Reg.sbStatus t :: es.flatMap (fun e => [Reg.sbEntryLo t e, Reg.sbEntryHi t e])

theorem State.sbFreeAt_onlyRegs (s : State) (t : Nat) (es : List Nat) : s.onlyRegs (s.sbFreeAt t es) (sbWords t es) := by
  have hstatus : Reg.sbStatus t ∈ sbWords t es := List.mem_cons_self
  have hentry {e : Nat} (he : e ∈ es) : Reg.sbEntryLo t e ∈ sbWords t es ∧ Reg.sbEntryHi t e ∈ sbWords t es := by
    constructor <;> exact List.mem_cons_of_mem _ (List.mem_flatMap.2 ⟨e, he, by simp⟩)
  unfold State.sbFreeAt
  split_ifs
  · exact State.onlyRegs.refl s _
  · refine ((List.foldlRecOn (motive := fun u => s.onlyRegs u (sbWords t es)) es _ (State.onlyRegs.refl s _)
      (fun u hu e he => ?_)).setFld hstatus _ _ _).setFld hstatus _ _ _
    exact (hu.wr (hentry he).1 0).wr (hentry he).2 0

/-- The Placket block of a tile lies below its scoreboard. -/
theorem placketQStatus_notMem_sbWords (t : Nat) {q : Nat} (hq : q < 16) (es : List Nat) :
    Reg.placketQStatus t q ∉ sbWords t es := by
  rw [sbWords, List.mem_cons, List.mem_flatMap]
  simp only [Reg.placketQStatus, Reg.sbStatus, Reg.sbEntryLo, Reg.sbEntryHi, List.mem_cons, List.not_mem_nil, or_false]
  rintro (h | ⟨e, -, h⟩) <;> omega

end Sys2Proof.Machine
end

section
/-! SUPPORT. A fault charged to a task stops its work, and touches no byte of a Pocket and no answer on its way (R351, R537). -/

namespace Sys2Proof.Machine

/-- No byte of a Pocket and no answer on its way to a requester differs. -/
structure State.sameData (s u : State) : Prop where
  pocket : u.pocket = s.pocket
  answers : u.answers = s.answers

theorem State.sameData.refl (s : State) : s.sameData s := ⟨rfl, rfl⟩

theorem State.sameData.trans {s u v : State} (h : s.sameData u) (h' : u.sameData v) : s.sameData v :=
  ⟨h'.pocket.trans h.pocket, h'.answers.trans h.answers⟩

section Frame
variable {s u : State} (h : s.sameData u)
include h

theorem State.sameData.wr (a : Nat) (v : Word) : s.sameData (u.wr a v) := ⟨h.pocket, h.answers⟩
theorem State.sameData.setFld (a lo len v : Nat) : s.sameData (u.setFld a lo len v) := h.wr _ _
theorem State.sameData.setBit (a i : Nat) (b : Bool) : s.sameData (u.setBit a i b) := h.wr _ _
theorem State.sameData.count (a n : Nat) : s.sameData (u.count a n) := h.wr _ _
theorem State.sameData.setTile (t : Nat) (x : Tile) : s.sameData (u.setTile t x) := ⟨h.pocket, h.answers⟩

theorem State.sameData.onlyRegs {v : State} {as : List Nat} (hv : u.onlyRegs v as) : s.sameData v := by
  rw [hv.1]
  exact ⟨h.pocket, h.answers⟩

theorem State.sameData.refreshQ (t q : Nat) : s.sameData (u.refreshQ t q) := h.onlyRegs (u.refreshQ_onlyRegs t q)

theorem State.sameData.sent {v : State} {t q : Nat} (hv : u.sent v t q) : s.sameData v :=
  ⟨hv.pocket.trans h.pocket, hv.answers.trans h.answers⟩

/-- A record is queued, or counted where the queue is full (R551). -/
theorem State.sameData.pushRec (r : FaultRec) : s.sameData (u.pushRec r) := by
  unfold State.pushRec
  split
  · exact ⟨h.pocket, h.answers⟩
  · exact h.count _ _

/-- A job that stops is an entry of the stops, or a change of its slot (R539, R542). -/
theorem State.sameData.stopJob (q code cls sub unit seq : Nat) : s.sameData (u.stopJob q code cls sub unit seq) := by
  unfold State.stopJob
  split <;> exact ⟨h.pocket, h.answers⟩

theorem State.sameData.reqCancel (t q : Nat) : s.sameData (u.reqCancel t q) := by
  unfold State.reqCancel
  split
  · exact h
  · exact (h.setTile _ _).refreshQ t q

theorem State.sameData.sbFree (t kind id : Nat) : s.sameData (u.sbFree t kind id) :=
  h.onlyRegs (u.sbFreeAt_onlyRegs t (u.sbOf t kind id))

/-- A unit of a stage shows itself at rest where it served the suit that ends. -/
theorem State.sameData.wr_ite (c : Prop) [Decidable c] (a : Nat) (v : Word) : s.sameData (if c then u.wr a v else u) := by
  split
  · exact h.wr a v
  · exact h

/-- A suit that ends lets go of its queues, its stages and its scoreboard entries (R289, R290, R339). -/
theorem State.sameData.endSuit (t i st : Nat) : s.sameData (u.endSuit t i st) := by
  have hqueues : s.sameData ((((u.suit t i).map Suit.queues).getD []).foldl (fun s q => s.reqCancel t q) u) :=
    List.foldlRecOn _ _ h (fun _ hv q _ => hv.reqCancel t q)
  have hstatus := (hqueues.setFld (Reg.suitStatus t i) 29 3 st).setFld (Reg.suitStatus t i) 18 6 0
  exact (((((hstatus.wr_ite _ _ 0).wr_ite _ _ 0).wr_ite _ _ 0).sbFree t 0 i).setTile _ _).count _ 1

theorem State.sameData.endSuitsOf (t k st : Nat) : s.sameData (u.endSuitsOf t k st) := by
  refine List.foldlRecOn _ _ h (fun v hv i _ => ?_)
  split
  · exact hv.endSuit t i st
  · exact hv

theorem State.sameData.cancelOwned (t k : Nat) : s.sameData (u.cancelOwned t k) := by
  refine List.foldlRecOn _ _ h (fun v hv q _ => ?_)
  split
  · exact hv.reqCancel t q
  · exact hv

theorem State.sameData.orphanLock (l cause : Nat) : s.sameData (u.orphanLock l cause) := by
  unfold State.orphanLock
  dsimp only
  split
  · exact (h.setFld _ _ _ _).setFld _ _ _ _
  · exact ((h.setFld _ _ _ _).setFld _ _ _ _).setFld _ _ _ _

theorem State.sameData.orphanLocksOf (t k : Nat) : s.sameData (u.orphanLocksOf t k) := by
  refine List.foldlRecOn _ _ h (fun v hv l _ => ?_)
  split
  · exact hv.orphanLock l 1
  · exact hv

theorem State.sameData.setWaiters (l : Nat) (ws : List LockUser) : s.sameData (u.setWaiters l ws) := ⟨h.pocket, h.answers⟩

/-- A task leaves the queues of the locks and of the Yoke (R345, R350, R378). -/
theorem State.sameData.withdraw (t k : Nat) : s.sameData (u.withdraw t k) := by
  have hlocks : s.sameData (u.lockWait.foldl (fun s p =>
      if p.2.contains (.task t k) then s.setWaiters p.1 (p.2.filter (· != .task t k)) else s) u) := by
    refine List.foldlRecOn _ _ h (fun v hv p _ => ?_)
    split
    · exact hv.setWaiters _ _
    · exact hv
  exact ⟨hlocks.pocket, hlocks.answers⟩

theorem State.sameData.stopTask (t k suitEnd : Nat) : s.sameData (u.stopTask t k suitEnd) := by
  unfold State.stopTask
  dsimp only
  refine State.sameData.setTile ?_ _ _
  have hports (p : Ports) : s.sameData (u.setPorts t p) := h.setTile _ _
  have hstopped (p : Ports) := ((((hports p).endSuitsOf t k suitEnd).cancelOwned t k).orphanLocksOf t k).withdraw t k
  split
  · exact (hstopped _).setTile _ _
  · exact hstopped _

theorem State.sameData.latchTaskErr (t k unit code sub : Nat) : s.sameData (u.latchTaskErr t k unit code sub) := by
  unfold State.latchTaskErr
  split
  · exact h
  · exact (h.wr _ _).wr _ _

theorem State.sameData.setTaskState (t k st reason : Nat) : s.sameData (u.setTaskState t k st reason) :=
  ((h.setFld _ _ _ _).setFld _ _ _ _).setBit _ _ _

/-- A fault charged to a task keeps the data where the latch of the reporting unit does. -/
theorem State.sameData.chargeTask (t k unit code sub : Nat) {latch : State → State} (ctx : State → Nat × Nat × Nat)
    (hlatch : s.sameData (latch u)) : s.sameData (u.chargeTask t k unit code sub latch ctx) := by
  have hstopped (r : FaultRec) := ((((hlatch.latchTaskErr t k unit code sub).pushRec r).stopTask t k
    suitAborted).setTaskState t k taskAborted 0)
  unfold State.chargeTask
  dsimp only
  split
  · exact h
  · split
    · exact (hstopped _).stopJob _ _ _ _ _ _
    · exact hstopped _

theorem State.sameData.queueFault (t q code sub pos : Nat) : s.sameData (u.queueFault t q code sub pos) := by
  rw [State.queueFault, State.placketFault]
  refine h.chargeTask _ _ _ _ _ _ ?_
  split
  · exact h
  · exact (h.wr _ _).wr _ _

end Frame

end Sys2Proof.Machine
end

section
/-! SUPPORT. The end of a queue's work and the answers to its remote accesses: cancellation, acknowledgement, refusal, and the
accumulate that is performed for another tile (R258, R264, R360, R369). Settles O32. -/

namespace Sys2Proof.Machine

/-! ## Cancellation is acknowledged (R264) -/

/-- What is left of a queue whose cancellation is acknowledged: no descriptor, no ring slot and no grant, and of the transfers
those that are unread or that a flushed write ends. -/
def Queue.cancelled (x : Queue) : Queue :=
  let y := x.clearGrants
  { y with fifo := [], run := none, fill := [], slotLens := [], cancelReq := false,
           xfers := y.xfers.filter (fun f => !f.read || y.writes.any (fun w => w.txns.contains f.txn)) }

/-- The queue's merge buffer is flushed, its work discarded, and its generator context and the staging buffer are free. -/
def State.queueDropped (s : State) (t q : Nat) : State :=
  let u := s.flushMerge t q
  let v := (u.setQueue t q (u.queue t q).cancelled).freeCtx t ((s.queue t q).run.bind (·.ctx))
  if (v.tile t).stagingBy == some q then v.setTile t { v.tile t with stagingBy := none } else v

/-- The ring starts anew. -/
def State.ringCleared (s : State) (t q : Nat) : State := ((s.setHead t q 0).setTail t q 0).setFilled t q 0

theorem exec_queueCancelAck {s : State} {t : TileId} {q : QueueId} (h : (s.queue t q).cancelReq = true) :
    exec (.queueCancelAck t q) s =
      .next ((((s.queueDropped t q).ringCleared t q).setBit (Reg.placketQStatus t q) 31 true).refreshQ t q) := by
  have hguard : ¬ (!(s.queue t q).cancelReq) = true := by simp [h]
  show execQueueCancelAck t q s = _
  exact if_neg hguard

/-- Freeing a generator context touches no queue. -/
theorem State.freeCtx_spec (s : State) (t : Nat) (c : Option Nat) (q : Nat) :
    (s.freeCtx t c).queue t q = s.queue t q ∧ (s.freeCtx t c).pocket = s.pocket := by
  unfold State.freeCtx
  cases c with
  | none => exact ⟨rfl, rfl⟩
  | some i =>
    have hqueue := State.queue_setTile (s := s) (x := { s.tile t with ctxs := tdel (s.tile t).ctxs i }) rfl q
    exact ⟨(State.queue_of_tiles rfl t q).trans hqueue, rfl⟩

theorem State.queueDropped_spec (s : State) (t q : Nat) :
    (s.queueDropped t q).queue t q = ((s.flushMerge t q).queue t q).cancelled ∧ (s.queueDropped t q).pocket = s.pocket := by
  obtain ⟨-, hflush, -⟩ := s.flushMerge_spec t q
  obtain ⟨hqueue, hpocket⟩ := ((s.flushMerge t q).setQueue t q ((s.flushMerge t q).queue t q).cancelled).freeCtx_spec t
    ((s.queue t q).run.bind (·.ctx)) q
  rw [State.queue_setQueue_self] at hqueue
  unfold State.queueDropped
  dsimp only
  split
  · exact ⟨(State.queue_setTile (by rfl) q).trans hqueue, hpocket.trans hflush⟩
  · exact ⟨hqueue, hpocket.trans hflush⟩

/-- The acknowledgement of a cancellation leaves the queue as the work that it drops leaves it. -/
theorem State.queue_ringCleared (s : State) (t q : Nat) (b : Bool) :
    ((s.ringCleared t q).setBit (Reg.placketQStatus t q) 31 b).queue t q = s.queue t q :=
  State.queue_of_tiles rfl t q

/-- A ring that starts anew has HEAD, TAIL and FILLED at 0, whatever CANCELLING is set to. -/
theorem State.ringCleared_fields (s : State) (t q : Nat) (b : Bool) :
    let u := (s.ringCleared t q).setBit (Reg.placketQStatus t q) 31 b
    u.qHead t q = 0 ∧ u.qTail t q = 0 ∧ u.qFilled t q = 0 := by
  refine ⟨?_, ?_, ?_⟩
  · rw [State.qHead, State.setBit, State.fld_setFld_ne _ _ _ _ _ _ _ (by omega), State.ringCleared, State.setFilled,
      State.fld_setFld_ne _ _ _ _ _ _ _ (by omega), State.setTail, State.fld_setFld_ne _ _ _ _ _ _ _ (by omega),
      State.setHead, State.fld_setFld _ _ _ _ _ (by omega)]
    rfl
  · rw [State.qTail, State.setBit, State.fld_setFld_ne _ _ _ _ _ _ _ (by omega), State.ringCleared, State.setFilled,
      State.fld_setFld_ne _ _ _ _ _ _ _ (by omega), State.setTail, State.fld_setFld _ _ _ _ _ (by omega)]
    rfl
  · rw [State.qFilled, State.setBit, State.fld_setFld_ne _ _ _ _ _ _ _ (by omega), State.ringCleared, State.setFilled,
      State.fld_setFld _ _ _ _ _ (by omega)]
    rfl

/-- R264: the acknowledgement of a cancellation. -/
theorem queueCancelAck_empties {s : State} {t : TileId} {q : QueueId} (h : (s.queue t q).cancelReq = true) :
    Answers (.queueCancelAck t q) s (fun u => u.qCancelling t q = true ∧ (u.queue t q).fifo = [] ∧
      (u.queue t q).run = none ∧ (u.queue t q).merge = none ∧ (u.queue t q).fill = [] ∧ (u.queue t q).slotLens = [] ∧
      (u.queue t q).grants = [] ∧ (u.queue t q).cancelReq = false ∧ u.qHead t q = 0 ∧ u.qTail t q = 0 ∧
      u.qFilled t q = 0 ∧ u.pocket = s.pocket) := by
  obtain ⟨hqueue, hpocket⟩ := s.queueDropped_spec t q
  obtain ⟨-, -, hmerge⟩ := s.flushMerge_spec t q
  obtain ⟨hhead, htail, hfilled⟩ := (s.queueDropped t q).ringCleared_fields t q true
  refine ⟨_, exec_queueCancelAck h, ?_, ?_⟩
  · rw [State.qCancelling_refreshQ]
    exact State.bit_setBit _ _ _ _ (by omega)
  · rw [State.queue_refreshQ, State.queue_ringCleared, hqueue, State.qHead_refreshQ, State.qTail_refreshQ,
      State.qFilled_refreshQ, State.pocket_refreshQ]
    exact ⟨rfl, rfl, hmerge, rfl, rfl, rfl, rfl, hhead, htail, hfilled, hpocket⟩

/-! ## Cancellation ends (R264) -/

theorem exec_queueCancelDone {s : State} {t : TileId} {q : QueueId} (hcancelling : s.qCancelling t q = true)
    (hxfers : (s.queue t q).xfers = []) (hwrites : (s.queue t q).writes = []) (hmerge : (s.queue t q).merge = none) :
    exec (.queueCancelDone t q) s =
      .next (((s.setBit (Reg.placketQStatus t q) 31 false).sbFree t 1 q).refreshQ t q) := by
  show execQueueCancelDone t q s = _
  exact if_pos (by simp [hcancelling, hxfers, hwrites, hmerge])

/-- R264: a cancellation ends once nothing of the queue is outstanding. -/
theorem queueCancelDone_ends {s : State} {t : TileId} {q : QueueId} (hcancelling : s.qCancelling t q = true)
    (hxfers : (s.queue t q).xfers = []) (hwrites : (s.queue t q).writes = []) (hmerge : (s.queue t q).merge = none) :
    Answers (.queueCancelDone t q) s (fun u => u.qCancelling t q = false ∧ u.queue t q = s.queue t q ∧
      u.pocket = s.pocket) := by
  have hfree := (s.setBit (Reg.placketQStatus t q) 31 false).sbFreeAt_onlyRegs t
    ((s.setBit (Reg.placketQStatus t q) 31 false).sbOf t 1 q)
  refine ⟨_, exec_queueCancelDone hcancelling hxfers hwrites hmerge, ?_, ?_, ?_⟩
  · rw [State.qCancelling_refreshQ, State.qCancelling, State.sbFree,
      State.bit_congr (hfree.2 _ (placketQStatus_notMem_sbWords t q.isLt _))]
    exact State.bit_setBit _ _ _ _ (by omega)
  · rw [State.queue_refreshQ]
    exact State.queue_of_tiles hfree.tiles t q
  · exact ((((State.sameData.refl s).setBit _ _ _).sbFree t 1 q).refreshQ t q).pocket

/-! ## A remote write is acknowledged (R360) -/

theorem State.settleRing_spec (s : State) (t q : Nat) : ((s.settleRing t q).queue t q).writes = (s.queue t q).writes ∧
    ((s.settleRing t q).queue t q).xfers = (s.queue t q).xfers ∧ s.sameData (s.settleRing t q) := by
  unfold State.settleRing
  dsimp only
  split
  · have hqueue (x : Queue) (n : Nat) : ((s.setQueue t q x).setFilled t q n).queue t q = x := State.queue_setQueue_self ..
    rw [hqueue]
    exact ⟨rfl, rfl, rfl, rfl⟩
  · rw [State.queue_setQueue_self]
    exact ⟨rfl, rfl, rfl, rfl⟩

/-- The queue once write `m` has landed: neither the write nor a transfer that it ends is left. -/
def State.landedQueue (s : State) (t q : Nat) (m : MergeBuf) : Queue :=
  let x := s.queue t q
  let y := { x with writes := x.writes.filter (· != m), xfers := x.xfers.filter (fun f => !m.txns.contains f.txn) }
  if s.qCancelling t q then y else { y with fill := m.slots.foldl (fun fs (i, n) => landSlot fs i n) y.fill }

theorem State.landedQueue_spec (s : State) (t q : Nat) (m : MergeBuf) :
    (s.landedQueue t q m).writes = (s.queue t q).writes.filter (· != m) ∧
    (s.landedQueue t q m).xfers = (s.queue t q).xfers.filter (fun f => !m.txns.contains f.txn) := by
  unfold State.landedQueue
  dsimp only
  split <;> exact ⟨rfl, rfl⟩

/-- The staging buffer is free once the queue that used it has neither a write nor a descriptor. -/
def State.stagingFreed (s : State) (t q : Nat) : State :=
  if (s.tile t).stagingBy == some q && (s.queue t q).writes.isEmpty && (s.queue t q).run.isNone then
    s.setTile t { s.tile t with stagingBy := none } else s

theorem State.stagingFreed_spec (s : State) (t q : Nat) :
    (s.stagingFreed t q).queue t q = s.queue t q ∧ s.sameData (s.stagingFreed t q) := by
  unfold State.stagingFreed
  split
  · exact ⟨State.queue_setTile (by rfl) q, rfl, rfl⟩
  · exact ⟨rfl, State.sameData.refl s⟩

/-- What a write that lands sets in motion, in order (R242, R246, R339). -/
theorem State.landWrite_eq (s : State) (t q : Nat) (m : MergeBuf) : s.landWrite t q m =
    (((((s.setQueue t q (s.landedQueue t q m)).sbFreeAt t m.frees).settleRing t q).stagingFreed t q).sendWrites t q).refreshQ
      t q := rfl

/-- The only write of a queue lands: no write is left, nor a transfer that ends in it. -/
theorem State.landWrite_only {s : State} {t q : Nat} {m : MergeBuf} (h : (s.queue t q).writes = [m]) :
    ((s.landWrite t q m).queue t q).writes = [] ∧
    ((s.landWrite t q m).queue t q).xfers = (s.queue t q).xfers.filter (fun f => !m.txns.contains f.txn) ∧
    s.sameData (s.landWrite t q m) := by
  obtain ⟨hwrites, hxfers⟩ := s.landedQueue_spec t q m
  have hnone : (s.landedQueue t q m).writes = [] := by simp [hwrites, h]
  have hfreed := (s.setQueue t q (s.landedQueue t q m)).sbFreeAt_onlyRegs t m.frees
  have hqueue : (((s.setQueue t q (s.landedQueue t q m)).sbFreeAt t m.frees).queue t q) = s.landedQueue t q m :=
    (State.queue_of_tiles hfreed.tiles t q).trans (State.queue_setQueue_self ..)
  have hset : s.sameData (s.setQueue t q (s.landedQueue t q m)) := ⟨rfl, rfl⟩
  have hdata : s.sameData ((s.setQueue t q (s.landedQueue t q m)).sbFreeAt t m.frees) :=
    hset.onlyRegs hfreed
  rw [State.landWrite_eq]
  generalize (s.setQueue t q (s.landedQueue t q m)).sbFreeAt t m.frees = u at hqueue hdata ⊢
  obtain ⟨hsettled, hxsettled, hdsettled⟩ := u.settleRing_spec t q
  obtain ⟨hstaging, hdstaging⟩ := (u.settleRing t q).stagingFreed_spec t q
  have hunsent : (((u.settleRing t q).stagingFreed t q).queue t q).writes = [] := by
    rw [hstaging, hsettled, hqueue, hnone]
  rw [State.queue_refreshQ, State.queue_sendWrites_nil hunsent]
  refine ⟨hunsent, by rw [hstaging, hxsettled, hqueue, hxfers], ?_⟩
  exact (((hdata.trans hdsettled).trans hdstaging).sent (State.sendWrites_sent _ t q)).refreshQ t q

theorem State.acknowledge_only {s : State} {t q : Nat} {p : Packet} {rest : List Packet} {w : MergeBuf}
    (htake : takeReply t q 0x12 (fun _ => true) s.answers = some (p, rest)) (hwrites : (s.queue t q).writes = [w])
    (hsent : w.sent = some p.txn) (hopening : w.opening = false) :
    s.acknowledge t q = State.landWrite { s with answers := rest } t q w := by
  have hqueue : State.queue { s with answers := rest } t q = s.queue t q := rfl
  simp [State.acknowledge, htake, hqueue, hwrites, hsent, hopening]

/-- R360: the acknowledgement of the only write of a queue. -/
theorem remoteAcknowledge_lands {s : State} {t : TileId} {q : QueueId} {p : Packet} {rest : List Packet} {w : MergeBuf}
    (htake : takeReply t q 0x12 (fun _ => true) s.answers = some (p, rest)) (hwrites : (s.queue t q).writes = [w])
    (hsent : w.sent = some p.txn) (hopening : w.opening = false) :
    Answers (.remoteAcknowledge t q) s (fun u => u.answers = rest ∧ (u.queue t q).writes = [] ∧
      (∀ f, f ∈ (u.queue t q).xfers ↔ f ∈ (s.queue t q).xfers ∧ f.txn ∉ w.txns) ∧ u.pocket = s.pocket) := by
  obtain ⟨hnone, hxfers, hdata⟩ := State.landWrite_only (s := { s with answers := rest }) hwrites
  refine ⟨_, congrArg Host.Outcome.next (State.acknowledge_only htake hwrites hsent hopening), hdata.answers, hnone,
    fun f => ?_, hdata.pocket⟩
  rw [hxfers, List.mem_filter]
  simp [State.queue, State.tile]

/-! ## A refusal reaches the queue (R369) -/

/-- The refusal has been taken, and the access that it refuses is no longer outstanding. -/
def State.refusalTaken (s : State) (t q : Nat) (p : Packet) (rest : List Packet) : State :=
  let x := s.queue t q
  let gone := ((x.writes.filter (fun w => w.sent == some p.txn)).map (·.txns)).flatten
  State.setQueue { s with answers := rest } t q
    { x with writes := x.writes.filter (fun w => w.sent != some p.txn),
             xfers := x.xfers.filter (fun f => f.txn != p.txn && !gone.contains f.txn) }

/-- The position that a refusal of the access of packet `p` is reported at: that of its write, or of its transfer. -/
def State.refusedPos (s : State) (t q : Nat) (p : Packet) : Nat :=
  match (s.queue t q).writes.find? (fun w => w.sent == some p.txn), (s.queue t q).xfers.find? (fun f => f.txn == p.txn) with
  | some w, _ => w.pos
  | none, some f => f.pos
  | none, none => 0

theorem State.refusalTaken_frame (s : State) (t q : Nat) (p : Packet) (rest : List Packet) :
    (s.refusalTaken t q p rest).regs = s.regs ∧ (s.refusalTaken t q p rest).pocket = s.pocket ∧
    (s.refusalTaken t q p rest).answers = rest := ⟨rfl, rfl, rfl⟩

theorem exec_refusalAnswer {s : State} {t : TileId} {q : QueueId} {p : Packet} {rest : List Packet}
    (htake : takeReply t q 0x13 (fun p => p.aux % 256 != 0x0D) s.answers = some (p, rest))
    (hknown : (s.queue t q).xfers.any (fun f => f.txn == p.txn) = true ∨
      (s.queue t q).writes.any (fun w => w.sent == some p.txn) = true) (hcancelling : s.qCancelling t q = false) :
    exec (.refusalAnswer t q) s = .next ((((s.refusalTaken t q p rest).queueFault t q (p.aux % 256) 0x13
      (s.refusedPos t q p)).sendWrites t q).refreshQ t q) := by
  have hguard : ¬ (!((s.queue t q).writes.any (fun w => w.sent == some p.txn) ||
      (s.queue t q).xfers.any (fun f => f.txn == p.txn))) = true := by
    rcases hknown with h | h <;> simp [h]
  have hcharged : ¬ (s.refusalTaken t q p rest).qCancelling t q = true := by
    rw [State.qCancelling, State.bit, State.rd, (s.refusalTaken_frame t q p rest).1]
    simpa [State.qCancelling, State.bit, State.rd] using hcancelling
  show execRefusalAnswer t q s = _
  rw [execRefusalAnswer, htake]
  refine (if_neg hguard).trans ?_
  exact congrArg (fun u : State => Host.Outcome.next ((u.sendWrites t q).refreshQ t q)) (if_neg hcharged)

theorem State.taskOver_of_regs {s u : State} (h : u.regs = s.regs) (t k : Nat) : u.taskOver t k = s.taskOver t k := by
  rw [State.taskOver, State.taskState_of_regs h, State.taskOver]

theorem State.qOwner_of_regs {s u : State} (h : u.regs = s.regs) (t q : Nat) : u.qOwner t q = s.qOwner t q := by
  rw [State.qOwner, State.fld, State.rd, h, State.qOwner, State.fld, State.rd]

/-- A fault of a queue aborts the task that owns the queue. -/
theorem State.queueFault_taskState {s : State} {t q : Nat} (h : s.taskOver t (s.qOwner t q) = false) (code sub pos : Nat) :
    (s.queueFault t q code sub pos).taskState t (s.qOwner t q) = taskAborted := by
  rw [State.queueFault, State.placketFault]
  exact State.chargeTask_taskState h ..

/-- R369: the task that owns the queue aborts. -/
theorem refusalAnswer_aborts {s : State} {t : TileId} {q : QueueId} {p : Packet} {rest : List Packet}
    (htake : takeReply t q 0x13 (fun p => p.aux % 256 != 0x0D) s.answers = some (p, rest))
    (hknown : (s.queue t q).xfers.any (fun f => f.txn == p.txn) = true ∨
      (s.queue t q).writes.any (fun w => w.sent == some p.txn) = true) (hcancelling : s.qCancelling t q = false)
    (hover : s.taskOver t (s.qOwner t q) = false) :
    Answers (.refusalAnswer t q) s (fun u => u.answers = rest ∧ u.taskState t (s.qOwner t q) = taskAborted ∧
      u.pocket = s.pocket) := by
  have hexec := exec_refusalAnswer htake hknown hcancelling
  obtain ⟨hregs, hpocket, hanswers⟩ := s.refusalTaken_frame t q p rest
  have howner := State.qOwner_of_regs hregs t q
  have hlive : (s.refusalTaken t q p rest).taskOver t ((s.refusalTaken t q p rest).qOwner t q) = false := by
    rw [howner, State.taskOver_of_regs hregs, hover]
  have haborted := State.queueFault_taskState hlive (p.aux % 256) 0x13 (s.refusedPos t q p)
  have hfault := (State.sameData.refl (s.refusalTaken t q p rest)).queueFault t q (p.aux % 256) 0x13 (s.refusedPos t q p)
  rw [howner] at haborted
  generalize (s.refusalTaken t q p rest).queueFault t q (p.aux % 256) 0x13 (s.refusedPos t q p) = v at hexec haborted hfault
  have hsent := v.sendWrites_sent t q
  have hdata := hfault.sent hsent
  refine ⟨_, hexec, ?_, ?_, ?_⟩
  · rw [State.answers_refreshQ, hdata.answers, hanswers]
  · rw [State.taskState_refreshQ, State.taskState_of_regs hsent.regs, haborted]
  · rw [State.pocket_refreshQ, hdata.pocket, hpocket]

/-! ## The accumulate of another tile (R257, R258) -/

/-- Bytes that no rule refuses and that meet no damaged word are read as they stand. -/
theorem State.pocketRead_open {s : State} {t off len : Nat} (hopen : s.pocketOpen t off len)
    (hclean : s.pocketClean t off len) : s.pocketRead t off len = (s, .ok (mread s.pocket (pkey t off) len)) := by
  simp [State.pocketRead, State.pocketRefusal_open hopen, State.checkWords_clean s t _ hclean]

/-- The exact value of an arrival at tile `t`: its source decoded and scaled (R257). -/
def State.accValue (s : State) (t acc : Nat) (bs : List Byte) : FNum :=
  (tyDecode (accSrcTy acc) (leNat bs)).scale (signedOf (bitsOf acc 16 8) 8 - s.fixedExp t (bitsOf acc 11 5))

/-- The element of format `f` at offset `o` of tile `t` with `x` added to it, rounded to nearest even, as it is stored. -/
def State.elemSum (s : State) (t o : Nat) (f : Fmt) (x : FNum) : List Byte :=
  leBytes 2 (f.encode (f.round none ((f.decode (mreadNat s.pocket (pkey t o) 2)).add x)).1)

/-- An accumulate into an FP16 or BF16 element writes its sum with the arrival. -/
theorem State.accElem_float {s : State} {t acc o oLo : Nat} {f : Fmt} (task : Option Nat) (bs : List Byte)
    (hdst : accDstTy acc = tyFP16 ∧ f = fmtFP16 ∨ accDstTy acc = tyBF16 ∧ f = fmtBF16) (hopen : s.pocketOpen t o 2)
    (hclean : s.pocketClean t o 2) :
    s.accElem t acc o oLo task bs = s.pocketWrite t o ((s.elemSum t o f (s.accValue t acc bs)).map some) := by
  have hread := State.pocketRead_open hopen hclean
  rcases hdst with ⟨hty, rfl⟩ | ⟨hty, rfl⟩
  · simp only [State.accElem, hread, hty]
    rfl
  · simp only [State.accElem, hread, hty]
    rfl

/-- A payload of one element accumulates as that element. -/
theorem State.accAll_one (s : State) (t acc : Nat) (task : Option Nat) (o oLo : Nat) {bs : List Byte}
    (hlen : bs.length = tySize (accSrcTy acc)) (hne : bs ≠ []) :
    s.accAll t acc task 1 o oLo (bs.map some) = s.accElem t acc o oLo task bs := by
  have htake : (bs.map some).take (tySize (accSrcTy acc)) = bs.map some := List.take_of_length_le (by simp [hlen])
  have hall : ((bs.map some).all Option.isSome && !(bs.map some).isEmpty) = true := by simp [hne]
  have hvals : (bs.map some).filterMap id = bs := by simp
  rw [State.accAll]
  simp only [htake, hall, hvals, if_true, State.accAll]
  split_ifs with h
  · rfl
  · exact Prod.ext rfl (not_not.1 h).symm

/-- Before the accumulate: the access is taken from those admitted, and counted. -/
def State.inboundTaken (s : State) (t : Nat) (rest : List (Packet × Nat)) : State :=
  (s.setTile t { s.tile t with inbound := rest }).count (Reg.placketStatRemoteIn t) 1

theorem State.rd_inboundTaken {s : State} {t a : Nat} (rest : List (Packet × Nat)) (h : a ≠ Reg.placketStatRemoteIn t) :
    (s.inboundTaken t rest).rd a = s.rd a := State.rd_count_ne _ 1 h

theorem State.fixedExp_inboundTaken (s : State) (t : Nat) (rest : List (Packet × Nat)) (r : Nat) :
    (s.inboundTaken t rest).fixedExp t r = s.fixedExp t r := by
  have hpart : (s.inboundTaken t rest).partOf t = s.partOf t := rfl
  have hword (q : Nat) : (s.inboundTaken t rest).recipeW1 t q r = s.recipeW1 t q r := by
    rw [State.recipeW1, State.rd_inboundTaken rest (by simp only [Reg.recipeW1, Reg.placketStatRemoteIn]; omega),
      State.recipeW1]
  simp only [State.fixedExp, hpart, hword]

theorem State.pocketOpen_inboundTaken {s : State} {t off len : Nat} (rest : List (Packet × Nat))
    (h : s.pocketOpen t off len) : (s.inboundTaken t rest).pocketOpen t off len := by
  have hstatus := State.rd_inboundTaken (s := s) (t := t) rest (a := Reg.pocketStatus t) (tileWord_ne t (by decide))
  have hpower := State.rd_inboundTaken (s := s) (t := t) rest (a := Reg.pocketPwrStatus t) (tileWord_ne t (by decide))
  exact ⟨(State.bit_congr hstatus 7).trans h.1, fun w hw => (State.bit_congr hpower _).trans (h.2 w hw)⟩

theorem exec_remoteAccumulate {s u : State} {t : TileId} {p : Packet} {w : Nat} {rest : List (Packet × Nat)}
    (hin : (s.tile t).inbound = (p, w) :: rest) (hkind : p.kind = 3)
    (hall : (s.inboundTaken t rest).accAll t p.aux none (p.data.length / tySize (accSrcTy p.aux)) p.off
      (p.addrLo % pocketBytes) p.data = (u, 0)) :
    exec (.remoteAccumulate t) s = .next (u.remoteLanded t (.remote p w) []) := by
  rw [State.inboundTaken] at hall
  show execRemoteAccumulate t s = _
  simp only [execRemoteAccumulate, hin, hkind, ne_eq, not_true_eq_false, if_false, hall]

/-- An access that has been performed changes its window's status, and is answered. -/
theorem State.remoteLanded_frame (u : State) (t : Nat) (p : Packet) (w : Nat) (data : List Byte) :
    (u.remoteLanded t (.remote p w) data).tiles = u.tiles ∧ (u.remoteLanded t (.remote p w) data).pocket = u.pocket ∧
    ∀ a ≠ Reg.winStatus t w, (u.remoteLanded t (.remote p w) data).rd a = u.rd a := by
  have hleave : u.onlyRegs (u.leaveWindow t w) [Reg.winStatus t w] := by
    have hcount := (State.onlyRegs.refl u [Reg.winStatus t w]).setFld List.mem_cons_self 16 8
      (u.fld (Reg.winStatus t w) 16 8 - 1)
    unfold State.leaveWindow
    dsimp only
    split
    · exact hcount.setFld List.mem_cons_self 30 2 0
    · exact hcount
  have hanswer (v : State) (kind : Nat) : (v.answer p kind 0 data).tiles = v.tiles ∧
      (v.answer p kind 0 data).pocket = v.pocket ∧ (v.answer p kind 0 data).regs = v.regs := by
    unfold State.answer
    dsimp only
    split <;> exact ⟨rfl, rfl, rfl⟩
  obtain ⟨htiles, hpocket, hregs⟩ := hanswer (u.leaveWindow t w) (if p.kind = 1 then 0x11 else 0x12)
  refine ⟨htiles.trans hleave.tiles, hpocket.trans ((State.sameData.refl u).onlyRegs hleave).pocket, fun a ha => ?_⟩
  rw [State.remoteLanded, State.rd, hregs, ← State.rd]
  exact hleave.2 a (by simpa using ha)

/-- R258: an accumulate of one element adds the scaled source to the element at the packet's offset. -/
theorem remoteAccumulate_adds {s : State} {t : TileId} {p : Packet} {w : Nat} {rest : List (Packet × Nat)} {bs : List Byte}
    {f : Fmt} (hin : (s.tile t).inbound = (p, w) :: rest) (hkind : p.kind = 3) (hdata : p.data = bs.map some)
    (hlen : bs.length = tySize (accSrcTy p.aux)) (hne : bs ≠ [])
    (hdst : accDstTy p.aux = tyFP16 ∧ f = fmtFP16 ∨ accDstTy p.aux = tyBF16 ∧ f = fmtBF16) (hopen : s.pocketOpen t p.off 2)
    (hclean : s.pocketClean t p.off 2) :
    Answers (.remoteAccumulate t) s (fun u => (u.tile t).inbound = rest ∧
      s.stored u t p.off (s.elemSum t p.off f (s.accValue t p.aux bs)) ∧
      (u.rd (Reg.placketStatRemoteIn t)).toNat = Min.min 0xFFFFFFFF ((s.rd (Reg.placketStatRemoteIn t)).toNat + 1)) := by
  have hsum : (s.inboundTaken t rest).elemSum t p.off f ((s.inboundTaken t rest).accValue t p.aux bs) =
      s.elemSum t p.off f (s.accValue t p.aux bs) := by
    rw [State.accValue, State.fixedExp_inboundTaken]
    rfl
  have hcount : ((s.inboundTaken t rest).rd (Reg.placketStatRemoteIn t)).toNat =
      Min.min 0xFFFFFFFF ((s.rd (Reg.placketStatRemoteIn t)).toNat + 1) := State.rd_count_one ..
  have hinbound : ((s.inboundTaken t rest).tile t).inbound = rest := by
    show ((s.setTile t { s.tile t with inbound := rest }).tile t).inbound = rest
    rw [State.tile_setTile_self]
  have hsize : (s.elemSum t p.off f (s.accValue t p.aux bs)).length = 2 := length_leBytes ..
  have hone : p.data.length / tySize (accSrcTy p.aux) = 1 := by
    rw [hdata, List.length_map, hlen, Nat.div_self (hlen ▸ List.length_pos_iff.2 hne)]
  obtain ⟨u, hu, hwrote, hports⟩ := State.pocketWrite_stores (s := s.inboundTaken t rest) (t := t) (off := p.off)
    (bs := s.elemSum t p.off f (s.accValue t p.aux bs)) (by omega)
    (by rw [hsize]; exact State.pocketOpen_inboundTaken rest hopen) (by rw [hsize]; exact hclean)
  have hall : (s.inboundTaken t rest).accAll t p.aux none (p.data.length / tySize (accSrcTy p.aux)) p.off
      (p.addrLo % pocketBytes) p.data = (u, 0) := by
    rw [hone, hdata, State.accAll_one _ _ _ _ _ _ hlen hne,
      State.accElem_float none bs hdst (State.pocketOpen_inboundTaken rest hopen) hclean, hsum, hu]
  obtain ⟨htiles, hpocket, hrd⟩ := u.remoteLanded_frame t p w []
  have hstored := hwrote.stored
  have hwin : Reg.placketStatRemoteIn t ≠ Reg.winStatus t w := by
    simp only [Reg.placketStatRemoteIn, Reg.winStatus]
    omega
  refine ⟨_, exec_remoteAccumulate hin hkind hall, ?_, ?_, ?_⟩
  · rw [State.tile, htiles, ← State.tile, hports.inbound, hinbound]
  · rw [State.stored, hpocket]
    exact hstored
  · rw [hrd _ hwin, hwrote.rd (Reg.placketStatRemoteIn t) (notMem_pocketDirtyWords t (by decide) (by decide)), hcount]

/-! ## The statement -/

/-- Settles O32, by what each command does to its queue: a queue whose cancellation is acknowledged is built anew and has its
merge buffer flushed; a write that lands is the only one, so that nothing is sent after it; a refusal is charged to the
owner by the rule for charged faults; and an accumulate of one element is one write of two bytes. -/
theorem queueEndsAndRemoteAnswers : Obligations.QueueEndsAndRemoteAnswers := by
  unfold Obligations.QueueEndsAndRemoteAnswers
  refine ⟨fun s t q => ⟨queueCancelAck_empties, queueCancelDone_ends, fun p rest w htake hwrites hsent hopening _ =>
    remoteAcknowledge_lands htake hwrites hsent hopening, fun p rest htake hknown hcancelling hover =>
    refusalAnswer_aborts htake hknown hcancelling hover⟩, ?_⟩
  intro s t p w rest bs f hin hkind hdata hlen hne hdst _ hopen hclean
  exact remoteAccumulate_adds hin hkind hdata hlen hne hdst hopen hclean

end Sys2Proof.Machine
end

section
/-! SUPPORT. Address-generating programs: what one instruction of a generator context does where it is neither a load nor an
EMIT (R260-R262). Settles O34. -/

namespace Sys2Proof.Machine

/-! ## A generator context -/

@[simp] theorem State.ctx_setCtx_self (s : State) (t x : Nat) (c : AgpCtx) : (s.setCtx t x c).ctx t x = some c := by
  rw [State.setCtx, State.ctx, State.tile_setTile_self, tfind_tset_self]

theorem State.ctx_setCtx_ne (s : State) (t : Nat) {x j : Nat} (c : AgpCtx) (h : j ≠ x) : (s.setCtx t x c).ctx t j = s.ctx t j := by
  rw [State.setCtx, State.ctx, State.tile_setTile_self, tfind_tset_ne _ _ h, State.ctx]

@[simp] theorem State.queues_setCtx (s : State) (t x : Nat) (c : AgpCtx) :
    ((s.setCtx t x c).tile t).queues = (s.tile t).queues := by
  rw [State.setCtx, State.tile_setTile_self]

@[simp] theorem State.queue_setCtx (s : State) (t x : Nat) (c : AgpCtx) (q : Nat) : (s.setCtx t x c).queue t q = s.queue t q := by
  rw [State.queue, State.queues_setCtx, State.queue]

/-- Setting RD and going on to the next instruction are what the statement calls the context after the instruction (R260). -/
theorem AgpCtx.after_eq (c : AgpCtx) (w v : Word) : { c.setReg (agpRd w) v with pc := c.pc + 1 } = c.after w v := by
  unfold AgpCtx.setReg AgpCtx.after
  split_ifs <;> rfl

/-! ## The counters of the Placket unit (R270) -/

/-- Every word below or above the counters of the Placket block is none of them. -/
theorem notMem_placketCtrs {t a : Nat} (h : a < 0x1001020 + 0x10000 * t ∨ 0x100103C + 0x10000 * t < a) : a ∉ placketCtrs t := by
  simp only [placketCtrs, Reg.placketStatRd, Reg.placketStatWr, Reg.placketStatRemoteIn, Reg.placketStatMerged,
    Reg.placketStatNocredit, Reg.placketStatLimit, Reg.placketStatAgpInstr, Reg.placketStatStaged, List.mem_cons,
    List.not_mem_nil, or_false]
  omega

section Counted
variable {s u : State} {t : Nat} (h : s.onlyRegs u (placketCtrs t))
include h

theorem State.onlyRegs.queue (q : Nat) : u.queue t q = s.queue t q := State.queue_of_tiles h.tiles t q

theorem State.onlyRegs.pocket : u.pocket = s.pocket := by rw [h.1]

theorem State.onlyRegs.placketQCfg (q : Nat) : u.rd (Reg.placketQCfg t q) = s.rd (Reg.placketQCfg t q) :=
  h.2 _ (notMem_placketCtrs (by simp only [Reg.placketQCfg]; omega))

theorem State.onlyRegs.qOwner (q : Nat) : u.qOwner t q = s.qOwner t q := State.fld_congr (h.placketQCfg q) _ _
theorem State.onlyRegs.qMode (q : Nat) : u.qMode t q = s.qMode t q := State.fld_congr (h.placketQCfg q) _ _

theorem State.onlyRegs.taskOver (k : Nat) : u.taskOver t k = s.taskOver t k := by
  have hstate : u.taskState t k = s.taskState t k :=
    State.fld_congr (h.2 _ (notMem_placketCtrs (by simp only [Reg.cuffTaskStatus]; omega))) _ _
  rw [State.taskOver, hstate, State.taskOver]

end Counted

/-! ## One instruction (R261, R262) -/

/-- The instruction has been counted: the state in which it acts. -/
def State.agpCounted (s : State) (t : Nat) : State := s.count (Reg.placketStatAgpInstr t) 1

theorem State.agpCounted_onlyRegs (s : State) (t : Nat) : s.onlyRegs (s.agpCounted t) [Reg.placketStatAgpInstr t] :=
  (State.onlyRegs.refl s _).count List.mem_cons_self 1

theorem State.agpCounted_ctrs (s : State) (t : Nat) : s.onlyRegs (s.agpCounted t) (placketCtrs t) :=
  (s.agpCounted_onlyRegs t).mono (by simp [placketCtrs])

/-- The instruction that a context stands at acts, under the opcode that it has. -/
theorem State.agpAt.agp_eq {s : State} {t x : Nat} {c : AgpCtx} {w : Word} (h : s.agpAt t x c w) {opc : Nat}
    (hop : agpOpc w = opc) (f : Word → AgpCtx → State → State) : s.agp t x opc f = f w c (s.agpCounted t) := by
  obtain ⟨hctx, hprog, hgood, -, hreq⟩ := h
  simp only [State.agp, hctx, hprog, hop, hgood, hreq, and_self, if_true, State.agpCounted]

/-- A context that goes on, where of the registers at most PLACKET_STAT_RD has changed beside the count of instructions. -/
theorem State.agpNow_setCtx {s u : State} {t : Nat} (h : (s.agpCounted t).onlyRegs u [Reg.placketStatRd t]) (x : Nat) (c : AgpCtx) :
    s.agpNow (u.setCtx t x c) t x c := by
  have hwords : s.onlyRegs u [Reg.placketStatAgpInstr t, Reg.placketStatRd t] := by
    refine ⟨by rw [h.1]; rfl, fun a ha => ?_⟩
    simp only [List.mem_cons, List.not_mem_nil, or_false, not_or] at ha
    rw [h.2 a (by simpa using ha.2), (s.agpCounted_onlyRegs t).2 a (by simpa using ha.1)]
  have htile : u.tile t = s.tile t := by rw [State.tile, hwords.tiles, State.tile]
  have hcount : (u.rd (Reg.placketStatAgpInstr t)).toNat =
      Min.min 0xFFFFFFFF ((s.rd (Reg.placketStatAgpInstr t)).toNat + 1) := by
    rw [h.2 (Reg.placketStatAgpInstr t) (mt List.mem_singleton.1 (tileWord_ne t (a := 0x1001038) (b := 0x1001020) (by decide)))]
    exact State.rd_count_one ..
  refine ⟨State.ctx_setCtx_self .., fun j hj => ?_, ?_, hcount, (hwords.onlyTile t).setTile _⟩
  · rw [State.ctx_setCtx_ne _ _ _ hj, State.ctx, htile, State.ctx]
  · rw [State.queues_setCtx, htile]

section Instruction
variable {s : State} {t x : Nat} {c : AgpCtx} {w : Word} {cmd : Instr} {opc : Nat} (h : s.agpAt t x c w) (hop : agpOpc w = opc)
include h hop

/-- An arithmetic instruction sets RD to the function of RA and RB that it names. -/
theorem State.agpAt.sets {f : Word → Word → Word → Word} {v : Word} (hexec : exec cmd s = .next (s.agpAlu t x opc f))
    (hv : f w (c.reg (agpRa w)) (c.reg (agpRb w)) = v) : s.agpSets cmd t x c w v := by
  refine ⟨_, hexec, ?_⟩
  rw [State.agpAlu, h.agp_eq hop, State.agpSet, AgpCtx.after_eq, hv]
  exact State.agpNow_setCtx (State.onlyRegs.refl _ _) x _

/-- A branch goes by IMM where its condition holds of RA and RB, and aborts the owner task where it would leave the program. -/
theorem State.agpAt.jumps {cond : Word → Word → Bool} {p : Prop} (hp : cond (c.reg (agpRa w)) (c.reg (agpRb w)) = true ↔ p)
    (hexec : exec cmd s = .next (s.agpBranch t x opc cond)) : s.agpJumps cmd t x c w p := by
  have himm : (agpSext w).toInt = (w.setWidth 16).toInt := BitVec.toInt_signExtend_of_le (by decide)
  have hnow (c' : AgpCtx) : s.agpNow ((s.agpCounted t).setCtx t x c') t x c' :=
    State.agpNow_setCtx (State.onlyRegs.refl _ _) x c'
  rw [State.agpBranch, h.agp_eq hop] at hexec
  dsimp only at hexec
  rw [himm] at hexec
  refine ⟨fun hnot => ⟨_, hexec, ?_⟩, fun htaken hlow hhigh => ⟨_, hexec, ?_⟩, fun htaken hout hover => ⟨_, hexec, ?_⟩⟩
  · rw [if_neg (hp.not.2 hnot)]
    exact hnow _
  · rw [if_pos (hp.2 htaken), if_pos ⟨hlow, hhigh⟩]
    exact hnow _
  · rw [if_pos (hp.2 htaken), if_neg (by omega)]
    have hctrs := s.agpCounted_ctrs t
    rw [← hctrs.qOwner]
    exact State.queueFault_taskState (by rw [hctrs.qOwner, hctrs.taskOver, hover]) ..

end Instruction

/-! ## Values (R261) -/

/-- LUI joins IMM with the low half of RA. -/
theorem lui_eq (imm : Nat) (a : Word) :
    BitVec.ofNat 32 (imm * 65536) + (a &&& 0xFFFF) = BitVec.ofNat 32 (imm * 65536 + a.toNat % 65536) := by
  have hlow : a &&& 0xFFFF = BitVec.ofNat 32 (a.toNat % 65536) := by
    apply BitVec.eq_of_toNat_eq
    rw [BitVec.toNat_and, BitVec.toNat_ofNat, Nat.mod_eq_of_lt (by omega)]
    exact Nat.and_two_pow_sub_one_eq_mod a.toNat 16
  rw [hlow, BitVec.ofNat_add]

/-- The bits of RA[15:0] that POPC counts. -/
theorem setBits_toNat (a : Word) : setBits a.toNat 16 = (List.range 16).filter (fun i => a.getLsbD i) := rfl

/-! ## The statement -/

/-- Settles O34: each arithmetic instruction by the rule for RD, with its function, and each branch by the rule for branches, with
its condition. -/
theorem agpArithmeticAndBranches : Obligations.AgpArithmeticAndBranches := by
  unfold Obligations.AgpArithmeticAndBranches
  intro s t x c w h a b simm imm
  exact ⟨fun hop => h.sets hop rfl rfl, fun hop => h.sets hop rfl rfl, fun hop => h.sets hop rfl rfl,
    fun hop => h.sets hop rfl rfl, fun hop => h.sets hop rfl rfl, fun hop => h.sets hop rfl rfl, fun hop => h.sets hop rfl rfl,
    fun hop => h.sets hop rfl (lui_eq ..), fun hop => h.sets hop rfl (congrArg (BitVec.ofNat 32 ·.length) (setBits_toNat a)),
    fun hop => h.jumps hop beq_iff_eq rfl, fun hop => h.jumps hop bne_iff_ne rfl,
    fun hop => h.jumps hop BitVec.slt_iff_toInt_lt rfl, fun hop => h.jumps hop BitVec.sle_iff_toInt_le rfl,
    fun hop => h.jumps hop (iff_of_true rfl trivial) rfl⟩

end Sys2Proof.Machine
end

section
/-! SUPPORT. Address-generating programs: index loads, the moves of an EMIT, the end of the stream and the abort of a bad program
(R260-R262). A context keeps a copy of the lines that it reads (log entry 17, a choice of the model). Settles O35. -/

namespace Sys2Proof.Machine

/-! ## Accesses of a Pocket where only counters of the Placket unit have changed -/

theorem fieldOf_lt (w : Word) (lo len : Nat) : fieldOf w lo len < 2 ^ len := (w.extractLsb' lo len).isLt

section Counted
variable {s u : State} {t : Nat} (h : s.onlyRegs u (placketCtrs t))
include h

/-- Where an access of the owner of a queue lies. -/
theorem State.onlyRegs.ownerPhys (q o len : Nat) :
    u.slotPhys t (u.qOwner t q) o len = s.slotPhys t (s.qOwner t q) o len := by
  have howner : s.qOwner t q < 4 := fieldOf_lt ..
  have hbase : u.rd (Reg.pocketSlotBase t (s.qOwner t q)) = s.rd (Reg.pocketSlotBase t (s.qOwner t q)) :=
    h.2 _ (notMem_placketCtrs (by simp only [Reg.pocketSlotBase]; omega))
  have hbound : u.rd (Reg.pocketSlotBound t (s.qOwner t q)) = s.rd (Reg.pocketSlotBound t (s.qOwner t q)) :=
    h.2 _ (notMem_placketCtrs (by simp only [Reg.pocketSlotBound]; omega))
  rw [h.qOwner, State.slotPhys, hbase, hbound, State.slotPhys]

theorem State.onlyRegs.pocketOpen {off len : Nat} (hopen : s.pocketOpen t off len) : u.pocketOpen t off len := by
  have hstatus : u.rd (Reg.pocketStatus t) = s.rd (Reg.pocketStatus t) :=
    h.2 _ (notMem_placketCtrs (by simp only [Reg.pocketStatus]; omega))
  have hpower : u.rd (Reg.pocketPwrStatus t) = s.rd (Reg.pocketPwrStatus t) :=
    h.2 _ (notMem_placketCtrs (by simp only [Reg.pocketPwrStatus]; omega))
  exact ⟨(State.bit_congr hstatus 7).trans hopen.1, fun w hw => (State.bit_congr hpower _).trans (hopen.2 w hw)⟩

theorem State.onlyRegs.pocketClean {off len : Nat} (hclean : s.pocketClean t off len) : u.pocketClean t off len := by
  rw [h.1]
  exact hclean

end Counted

/-! ## Index loads (R261, R262) -/

/-- Bytes of a longer read are a read of their own. -/
theorem take_drop_mread (m : List Host.Cell) (a : Nat) {n i k : Nat} (h : i + k ≤ n) :
    ((mread m a n).drop i).take k = mread m (a + i) k := by
  simp only [mread_eq_map]
  refine List.ext_getElem (by simp; omega) (fun j _ _ => ?_)
  simp [Nat.add_assoc]

/-- A word of a line that the context holds comes from its copy. -/
theorem State.agpLoad_held {u : State} {t b o off : Nat} {c : AgpCtx} {bs : List Byte}
    (hphys : u.slotPhys t (u.qOwner t c.queue) o 2 = some off) (hheld : c.lines.getD b none = some (off / 128 * 128, bs)) :
    u.agpLoad t c b o = (u, some (leNat ((bs.drop (off - off / 128 * 128)).take 2), c)) := by
  simp only [State.agpLoad, hphys, hheld, if_true]

/-- The context holds the line at `line` for base `b`, as the Pocket has it. -/
def State.lineTaken (u : State) (t : Nat) (c : AgpCtx) (b line : Nat) : AgpCtx :=
  { c with lines := c.lines.set b (some (line, mread u.pocket (pkey t line) 128)) }

/-- A base without a line reads that of the word, by one access, and keeps it. -/
theorem State.agpLoad_missing {u : State} {t b o off : Nat} {c : AgpCtx}
    (hphys : u.slotPhys t (u.qOwner t c.queue) o 2 = some off) (heven : off % 2 = 0) (hnone : c.lines.getD b none = none)
    (hopen : u.pocketOpen t (off / 128 * 128) 128) (hclean : u.pocketClean t (off / 128 * 128) 128) :
    u.agpLoad t c b o = (u.count (Reg.placketStatRd t) 1,
      some (mreadNat u.pocket (pkey t off) 2, u.lineTaken t c b (off / 128 * 128))) := by
  have hctrs : u.onlyRegs (u.count (Reg.placketStatRd t) 1) (placketCtrs t) :=
    (State.onlyRegs.refl u _).count (by simp [placketCtrs]) 1
  have hread := State.pocketRead_open (hctrs.pocketOpen hopen) (hctrs.pocketClean hclean)
  rw [hctrs.pocket] at hread
  have hkey : pkey t (off / 128 * 128) + (off - off / 128 * 128) = pkey t off := by
    rw [← pkey_add]
    congr 1
    omega
  have hword : leNat (((mread u.pocket (pkey t (off / 128 * 128)) 128).drop (off - off / 128 * 128)).take 2) =
      mreadNat u.pocket (pkey t off) 2 := by
    rw [take_drop_mread _ _ (by omega), hkey, mreadNat]
  simp only [State.agpLoad, hphys, hnone, State.agpLine, hread, hword, State.lineTaken]

theorem State.agpAt.ctx {s : State} {t x : Nat} {c : AgpCtx} {w : Word} (h : s.agpAt t x c w) : s.ctx t x = some c := h.1

theorem State.agpAt.good {s : State} {t x : Nat} {c : AgpCtx} {w : Word} (h : s.agpAt t x c w) : agpBad w = false := by
  obtain ⟨-, -, hgood, -⟩ := h
  exact hgood

theorem State.agpAt.queue_lt {s : State} {t x : Nat} {c : AgpCtx} {w : Word} (h : s.agpAt t x c w) : c.queue < 16 := by
  obtain ⟨-, -, -, hqueue, -⟩ := h
  exact hqueue

/-- LD16 names one of the four bases. -/
theorem agpRb_lt_of_ld16 {w : Word} (hgood : agpBad w = false) (hop : agpOpc w = 0x10) : agpRb w < 4 := by
  by_contra hrb
  simp [agpBad, hop, Nat.le_of_not_lt hrb] at hgood

/-- EMIT names a number of elements that seven bits hold. -/
theorem agpImm_lt_of_emit {w : Word} (hgood : agpBad w = false) (hop : agpOpc w = 0x18) : agpImm w < 128 := by
  by_contra himm
  simp [agpBad, hop, Nat.le_of_not_lt himm] at hgood

section Load
variable {s u : State} {t : TileId} {x : Fin 4} {c c' : AgpCtx} {w : Word} {v : Nat} (h : s.agpAt t x c w)
include h

theorem exec_agpLd16 (hop : agpOpc w = 0x10)
    (hload : (s.agpCounted t).agpLoad t c (agpRb w) (c.bases.getD (agpRb w) 0 + 2 * (c.reg (agpRa w)).toNat) =
      (u, some (v, c'))) :
    exec (.agpLd16 t x) s = .next (u.setCtx t x (c'.after w (BitVec.ofNat 32 v))) := by
  show execAgpLd16 t x s = _
  rw [execAgpLd16, h.agp_eq hop, Nat.mod_eq_of_lt (agpRb_lt_of_ld16 h.good hop)]
  simp only [hload, State.agpSet, AgpCtx.after_eq]

/-- LDP joins the words of the high and the low plane (R100). -/
theorem exec_agpLdp {hi lo : Nat} (hop : agpOpc w = 0x11)
    (h0 : (s.agpCounted t).agpLoad t c 0 (c.bases.getD 0 0 + 2 * (c.reg (agpRa w)).toNat) = (s.agpCounted t, some (hi, c)))
    (h1 : (s.agpCounted t).agpLoad t c 1 (c.bases.getD 1 0 + 2 * (c.reg (agpRa w)).toNat) = (s.agpCounted t, some (lo, c))) :
    exec (.agpLdp t x) s = .next ((s.agpCounted t).setCtx t x (c.after w (BitVec.ofNat 32 (hi * 65536 + lo)))) := by
  show execAgpLdp t x s = _
  rw [execAgpLdp, h.agp_eq hop]
  simp only [h0, h1, State.agpSet, AgpCtx.after_eq]

end Load

/-! ## EMIT (R261) -/

/-- The moves of an EMIT between memories: consecutive source and destination indices, from RA and RB up. -/
theorem State.emitMoves_spec {u : State} {t q : Nat} {r : Run} (hmode : u.qMode t q = 0) (hpair : r.desc.pair = false)
    (a b : Int) (n : Nat) : (u.emitMoves t q r a b n).length = n ∧
    ∀ j < n, ∃ m, (u.emitMoves t q r a b n)[j]? = some m ∧ m.dstLo = 0 ∧
      (m.src : Int) = ((r.desc.src : Int) + r.desc.esize * (a + j)) % (2 ^ 64 : Nat) ∧
      (m.dst : Int) = ((r.desc.dst : Int) + r.desc.dsize * (b + j)) % (2 ^ 64 : Nat) := by
  have hnonneg (z : Int) : 0 ≤ z % 0x10000000000000000 := Int.emod_nonneg _ (by decide)
  refine ⟨by simp [State.emitMoves], fun j hj => ?_⟩
  simp [State.emitMoves, State.srcRing, State.dstRing, hmode, hpair, hj, hnonneg]

/-- The moves that an EMIT hands to its queue. -/
def State.emitted (s : State) (t : Nat) (c : AgpCtx) (w : Word) (r : Run) : List Move :=
  (s.agpCounted t).emitMoves t c.queue r (c.reg (agpRa w)).toInt (c.reg (agpRb w)).toInt (fieldOf w 0 16)

theorem exec_agpEmit {s : State} {t : TileId} {x : Fin 4} {c : AgpCtx} {w : Word} {r : Run} (h : s.agpAt t x c w)
    (hop : agpOpc w = 0x18) (hrun : (s.queue t c.queue).run = some r) (hnone : r.emitted = []) (hmode : s.qMode t c.queue = 0)
    (hroom : (s.queue t c.queue).xfers.length < s.qLimit t c.queue) : exec (.agpEmit t x) s =
      .next (((s.agpCounted t).setQueue t c.queue
        { s.queue t c.queue with run := some { r with emitted := s.emitted t c w r } }).setCtx t x { c with pc := c.pc + 1 }) := by
  have himm : agpImm w % 128 = fieldOf w 0 16 := Nat.mod_eq_of_lt (agpImm_lt_of_emit h.good hop)
  have hready : s.ringReady t c.queue r (r.pos * r.desc.esize) = true := by simp [State.ringReady, hmode]
  have hguard : (!r.emitted.isEmpty || decide (s.qLimit t c.queue ≤ (s.queue t c.queue).xfers.length) ||
      !s.ringReady t c.queue r (r.pos * r.desc.esize)) = false := by simp [hnone, hready, hroom]
  show execAgpEmit t x s = _
  simp only [execAgpEmit, h.ctx, hrun, hguard, h.agp_eq hop, himm, (s.agpCounted_ctrs t).queue, Bool.false_eq_true, if_false,
    State.emitted]

/-! ## The end of a descriptor (R256, R261) -/

/-- A descriptor whose stream goes on, or that has elements handed over and not yet issued, goes on. -/
theorem State.finishRun_goesOn {u : State} {t q : Nat} {r : Run} (hrun : (u.queue t q).run = some r)
    (h : r.ended = false ∨ r.emitted ≠ []) : u.finishRun t q = u.refreshQ t q := by
  have hguard : (r.ended && r.emitted.isEmpty) = false := by
    rcases h with h | h <;> simp [h]
  simp only [State.finishRun, hrun, hguard, Bool.false_and, Bool.false_eq_true, if_false]

/-- Refreshing the status words of a queue changes of PLACKET_STATUS at most the bit of that queue (R270). -/
theorem State.bit_refreshQ (u : State) (t : Nat) {q j : Nat} (h : j ≠ q) :
    (u.refreshQ t q).bit (Reg.placketStatus t) j = u.bit (Reg.placketStatus t) j := by
  have hword (v : State) (a i : Nat) (b : Bool) (ha : Reg.placketStatus t ≠ a) :
      (v.setBit a i b).rd (Reg.placketStatus t) = v.rd (Reg.placketStatus t) := State.rd_setBit_ne v i b ha
  rw [State.bit, State.refreshQ, State.getLsbD_setBit_ne _ _ _ _ h, State.rd_wr_ne, State.rd_wr_ne, State.rd_setFld_ne,
    State.rd_setFld_ne, State.rd_setBit_ne, State.rd_setBit_ne, State.bit]
  all_goals
    simp only [Reg.placketQStatus, Reg.placketQHeadlen, Reg.placketQCredits, Reg.placketStatus]
    omega

/-- The words of scoreboard entries are none of PLACKET_STATUS. -/
theorem placketStatus_notMem_sbWords (t : Nat) (es : List Nat) : Reg.placketStatus t ∉ sbWords t es := by
  rw [sbWords, List.mem_cons, List.mem_flatMap]
  simp only [Reg.placketStatus, Reg.sbStatus, Reg.sbEntryLo, Reg.sbEntryHi, List.mem_cons, List.not_mem_nil, or_false]
  rintro (h | ⟨e, -, h⟩) <;> omega

/-- A generator context that is freed is no longer there, and does not show in PLACKET_STATUS. -/
theorem State.freeCtx_some {u : State} {t i : Nat} (hi : 16 + i < 32) : (u.freeCtx t (some i)).ctx t i = none ∧
    (u.freeCtx t (some i)).bit (Reg.placketStatus t) (16 + i) = false := by
  refine ⟨?_, State.bit_setBit _ _ _ _ hi⟩
  show tfind ((u.setTile t { u.tile t with ctxs := tdel (u.tile t).ctxs i }).tile t).ctxs i = none
  rw [State.tile_setTile_self, tfind_tdel_self]

/-- The staging buffer is free of the queue. -/
def State.stagingDropped (s : State) (t q : Nat) : State :=
  if (s.tile t).stagingBy == some q && (s.queue t q).writes.isEmpty then s.setTile t { s.tile t with stagingBy := none } else s

theorem State.stagingDropped_frame (s : State) (t q : Nat) : (s.stagingDropped t q).queue t q = s.queue t q ∧
    (∀ i, (s.stagingDropped t q).ctx t i = s.ctx t i) ∧ (s.stagingDropped t q).regs = s.regs ∧
    (s.stagingDropped t q).pocket = s.pocket := by
  unfold State.stagingDropped
  split
  · exact ⟨State.queue_setTile (by rfl) q, fun i => by rw [State.ctx, State.tile_setTile_self, State.ctx], rfl, rfl⟩
  · exact ⟨rfl, fun _ => rfl, rfl, rfl⟩

/-- A descriptor whose stream has ended and of which nothing is outstanding lets go of its generator context and of its
scoreboard entries (R259, R339). -/
theorem State.finishRun_idle {u : State} {t q : Nat} {r : Run} (hrun : (u.queue t q).run = some r) (hended : r.ended = true)
    (hemitted : r.emitted = []) (hstaging : r.staging = []) (hxfers : (u.queue t q).xfers = [])
    (hmerge : (u.queue t q).merge = none) (hwrites : (u.queue t q).writes = []) (hmode : u.qMode t q = 0) :
    u.finishRun t q = ((((((u.setQueue t q { u.queue t q with writes := [], run := none }).setQueue t q
      (({ u.queue t q with writes := [], run := none } : Queue).clearGrants)).freeCtx t r.ctx).sbFreeAt t
      r.desc.entries).stagingDropped t q).refreshQ t q) := by
  have hflush : u.flushMerge t q = u := by simp only [State.flushMerge, hmerge]
  have hring : u.ringEnd t q = u := if_pos hmode
  simp only [State.finishRun, hrun, hended, hemitted, hstaging, hxfers, hflush, hring, hwrites, List.isEmpty_nil, List.all_nil,
    Bool.and_self, if_true, ite_self, List.getLast?_nil, State.queue_setQueue_self]
  rfl

/-- Such a descriptor is gone, and so is its context. -/
theorem State.finishRun_frees {u : State} {t q i : Nat} {r : Run} (hrun : (u.queue t q).run = some r) (hended : r.ended = true)
    (hemitted : r.emitted = []) (hstaging : r.staging = []) (hxfers : (u.queue t q).xfers = [])
    (hmerge : (u.queue t q).merge = none) (hwrites : (u.queue t q).writes = []) (hmode : u.qMode t q = 0)
    (hctx : r.ctx = some i) (hi : 16 + i < 32) (hq : q < 16) :
    ((u.finishRun t q).queue t q).run = none ∧ (u.finishRun t q).ctx t i = none ∧
    (u.finishRun t q).bit (Reg.placketStatus t) (16 + i) = false ∧ (u.finishRun t q).pocket = u.pocket := by
  rw [State.finishRun_idle hrun hended hemitted hstaging hxfers hmerge hwrites hmode, hctx]
  generalize hv : (u.setQueue t q { u.queue t q with writes := [], run := none }).setQueue t q
    (({ u.queue t q with writes := [], run := none } : Queue).clearGrants) = v
  have hvrun : (v.queue t q).run = none := by
    rw [← hv, State.queue_setQueue_self]
    rfl
  have hvpocket : v.pocket = u.pocket := by rw [← hv]; rfl
  obtain ⟨hfqueue, hfpocket⟩ := v.freeCtx_spec t (some i) q
  obtain ⟨hfctx, hfbit⟩ := State.freeCtx_some (u := v) (t := t) hi
  have hsb := (v.freeCtx t (some i)).sbFreeAt_onlyRegs t r.desc.entries
  generalize v.freeCtx t (some i) = w at hfqueue hfpocket hfctx hfbit hsb ⊢
  generalize w.sbFreeAt t r.desc.entries = y at hsb ⊢
  obtain ⟨hqueue, hctxs, hregs, hpocket⟩ := y.stagingDropped_frame t q
  refine ⟨?_, ?_, ?_, ?_⟩
  · rw [State.queue_refreshQ, hqueue, State.queue_of_tiles hsb.tiles, hfqueue, hvrun]
  · show (y.stagingDropped t q).ctx t i = none
    rw [hctxs, State.ctx, State.tile, hsb.tiles]
    exact hfctx
  · rw [State.bit_refreshQ _ _ (by omega), State.bit, State.rd, hregs, ← State.rd, ← State.bit,
      State.bit_congr (hsb.2 _ (placketStatus_notMem_sbWords t _)), hfbit]
  · rw [State.pocket_refreshQ, hpocket, hsb.1]
    exact hfpocket.trans hvpocket

/-- The queue of a descriptor whose program has ended its stream. -/
def State.streamEnded (s : State) (t q : Nat) (r : Run) : Queue := { s.queue t q with run := some { r with ended := true } }

theorem exec_agpEnd {s : State} {t : TileId} {x : Fin 4} {c : AgpCtx} {w : Word} {r : Run} (h : s.agpAt t x c w)
    (hop : agpOpc w = 0x3F) (hrun : (s.queue t c.queue).run = some r) : exec (.agpEnd t x) s =
      .next (((s.agpCounted t).setQueue t c.queue (s.streamEnded t c.queue r)).finishRun t c.queue) := by
  show execAgpEnd t x s = _
  rw [execAgpEnd, h.agp_eq hop]
  simp only [(s.agpCounted_ctrs t).queue, hrun, State.streamEnded]

/-! ## A bad program (R262) -/

theorem exec_agpReservedOpcode {s : State} {t : TileId} {x : Fin 4} {c : AgpCtx} (hctx : s.ctx t x = some c)
    (hbad : c.prog[c.pc]? = none ∨ ∃ v, c.prog[c.pc]? = some v ∧ agpBad v = true) :
    exec (.agpReservedOpcode t x) s = .next (s.agpFault t c) := by
  show execAgpReservedOpcode t x s = _
  rcases hbad with hpast | ⟨v, hv, hbad⟩
  · simp only [execAgpReservedOpcode, hctx, hpast]
  · simp only [execAgpReservedOpcode, hctx, hv, hbad, if_true]

/-! ## The statement -/

/-- Settles O35, instruction by instruction: a load goes through the line of its base, which the context keeps as it was read (log
entry 17); an EMIT hands over the moves that `emitMoves` lists; an END frees the context once nothing of the descriptor is
outstanding; and a bad program is a fault charged to the owner task. -/
theorem agpLoadsAndEmits : Obligations.AgpLoadsAndEmits := by
  unfold Obligations.AgpLoadsAndEmits
  intro s t x c w q a b
  have hctrs := s.agpCounted_ctrs t
  have hphys (o : Nat) {off : Nat} (h : s.slotPhys t (s.qOwner t q) o 2 = some off) :
      (s.agpCounted t).slotPhys t ((s.agpCounted t).qOwner t c.queue) o 2 = some off := (hctrs.ownerPhys ..).trans h
  have hsame := State.agpNow_setCtx (State.onlyRegs.refl (s.agpCounted t) [Reg.placketStatRd t]) x
  refine ⟨fun h hop off line ho heven hline => ⟨fun hnone hopen hclean => ?_, fun bs hheld => ?_⟩,
    fun h hop o0 o1 b0 b1 ho0 ho1 hl0 hl1 => ?_, fun h hop r hrun hnone hmode hroom hpair => ?_,
    fun h hop r hrun hagp hrctx => ⟨fun hleft => ?_, fun hemitted hstaging hxfers hmerge hwrites hmode => ?_⟩,
    fun hctx hbad hover => ?_⟩
  · subst hline
    have hload := State.agpLoad_missing (hphys _ ho) heven hnone (hctrs.pocketOpen hopen) (hctrs.pocketClean hclean)
    exact ⟨_, exec_agpLd16 h hop hload, State.agpNow_setCtx ((State.onlyRegs.refl _ _).count List.mem_cons_self 1) x _⟩
  · subst hline
    exact ⟨_, exec_agpLd16 h hop (State.agpLoad_held (hphys _ ho) hheld), hsame _⟩
  · have hrest (o : Nat) : o % 128 = o - o / 128 * 128 := by omega
    rw [hrest, hrest]
    exact ⟨_, exec_agpLdp h hop (State.agpLoad_held (hphys _ ho0) hl0) (State.agpLoad_held (hphys _ ho1) hl1), hsame _⟩
  · obtain ⟨hlen, hmoves⟩ := State.emitMoves_spec (u := s.agpCounted t) ((hctrs.qMode _).trans hmode) hpair a.toInt b.toInt
      (fieldOf w 0 16)
    refine ⟨_, exec_agpEmit h hop hrun hnone hmode hroom, State.ctx_setCtx_self .., _, ?_, hlen, hmoves, rfl⟩
    rw [State.queue_setCtx, State.queue_setQueue_self]
    rfl
  · have hqueue := State.queue_setQueue_self (s.agpCounted t) t q (s.streamEnded t q r)
    refine ⟨_, exec_agpEnd h hop hrun, ?_⟩
    rw [State.finishRun_goesOn (r := { r with ended := true }) (congrArg Queue.run hqueue) (.inr hleft)]
    exact ⟨hqueue, rfl⟩
  · have hqueue := State.queue_setQueue_self (s.agpCounted t) t q (s.streamEnded t q r)
    exact ⟨_, exec_agpEnd h hop hrun, State.finishRun_frees (congrArg Queue.run hqueue) rfl hemitted hstaging
      ((congrArg Queue.xfers hqueue).trans hxfers) ((congrArg Queue.merge hqueue).trans hmerge)
      ((congrArg Queue.writes hqueue).trans hwrites) ((hctrs.qMode q).trans hmode) hrctx (by omega) h.queue_lt⟩
  · exact ⟨_, exec_agpReservedOpcode hctx hbad, State.queueFault_taskState hover ..,
      ((State.sameData.refl s).queueFault ..).pocket⟩

end Sys2Proof.Machine
end

section
/-! SUPPORT. A descriptor that starts, a transfer that is issued and whose data enter the merge buffer, the flush of the buffer and
the write that lands (R239, R240, R246, R256, R259). How long a transfer is and how a merge buffer is kept are choices of the
model (log entries 15 and 16). Settles O31. -/

namespace Sys2Proof.Machine

/-! ## A queue that changes -/

theorem State.queue_setQueue_ne (s : State) (t : Nat) {q j : Nat} (x : Queue) (h : j ≠ q) :
    (s.setQueue t q x).queue t j = s.queue t j := by
  rw [State.setQueue, State.queue, State.tile_setTile_self, tget_tset_ne _ _ _ h, State.queue]

/-- A queue that is set twice holds what was set last. -/
theorem State.setQueue_setQueue (s : State) (t q : Nat) (x y : Queue) :
    (s.setQueue t q x).setQueue t q y = s.setQueue t q y := by
  rw [State.setQueue, State.setQueue, State.setQueue, State.tile_setTile_self, State.setTile, State.setTile, State.setTile]
  dsimp only
  rw [tset_tset, tset_tset]

theorem State.ctx_setQueue (s : State) (t q i : Nat) (x : Queue) : (s.setQueue t q x).ctx t i = s.ctx t i := by
  rw [State.setQueue, State.ctx, State.tile_setTile_self, State.ctx]

/-- A queue that is set and shown in its words: nothing else changes. -/
theorem State.queueNow_setQueue (s : State) (t q : Nat) (x : Queue) :
    s.queueNow ((s.setQueue t q x).refreshQ t q) t q x [] := by
  have hwords := (s.setQueue t q x).refreshQ_onlyRegs t q
  refine ⟨State.queue_setQueue_self .., fun j hj => ?_, ?_⟩
  · rw [State.queue_of_tiles hwords.tiles, State.queue_setQueue_ne _ _ _ hj]
  · rw [List.append_nil]
    exact ((State.onlyTile.refl s t _).setTile _).onlyRegs hwords

/-! ## A descriptor starts (R240, R259) -/

/-- A descriptor that starts, at the ring slot that its stream begins with. -/
def State.startedRun (s : State) (t q : Nat) (d : Desc) (ctx : Option Nat) : Run :=
  ⟨d, if s.qMode t q = 1 then s.qTail t q else s.qHead t q, 0, ctx, [], false, false, []⟩

section Start
variable {s : State} {t : TileId} {q : QueueId} {d : Desc} {rest : List Desc} (hopen : s.queueOpen t q)
  (hfifo : (s.queue t q).fifo = d :: rest) (hrun : (s.queue t q).run = none) (hfence : d.fence = false)
  (hmode : s.sbMode t = false)
include hopen hfifo hrun hfence hmode

theorem exec_descriptorStart_affine (hplace : s.inPlace t q d = false) (hagp : d.agp = false) (htotal : d.total ≠ 0) :
    exec (.descriptorStart t q) s =
    .next ((s.setQueue t q { s.queue t q with fifo := rest, run := some (s.startedRun t q d none) }).refreshQ t q) := by
  obtain ⟨hcancelling, hreq⟩ := hopen
  show execDescriptorStart t q s = _
  simp only [execDescriptorStart, hfifo, hrun, hcancelling, hreq, hfence, hplace, hmode, hagp, beq_eq_false_iff_ne.2 htotal,
    Bool.or_self, Bool.false_and, Bool.and_false, Bool.false_eq_true, if_false]
  rw [State.finishRun_goesOn (congrArg Queue.run (State.queue_setQueue_self ..)) (.inl rfl)]
  rfl

theorem exec_descriptorStart_agp {i : Nat} (hagp : d.agp = true) (hfree : s.freeCtxOf t = some i) :
    exec (.descriptorStart t q) s = .next ((((s.setCtx t i (s.newCtx t q d)).setBit (Reg.placketStatus t) (16 + i) true).setQueue
      t q { s.queue t q with fifo := rest, run := some (s.startedRun t q d (some i)) }).refreshQ t q) := by
  obtain ⟨hcancelling, hreq⟩ := hopen
  have hnotPlace (u : State) : u.inPlace t q d = false := by simp [State.inPlace, hagp]
  show execDescriptorStart t q s = _
  simp only [execDescriptorStart, hfifo, hrun, hcancelling, hreq, hfence, hnotPlace, hmode, hagp, hfree,
    Bool.or_self, Bool.false_and, Bool.not_true, Bool.false_eq_true, if_false, if_true]
  rw [State.finishRun_goesOn (congrArg Queue.run (State.queue_setQueue_self ..)) (.inl rfl)]
  rfl

theorem descriptorStart_affine (hplace : s.inPlace t q d = false) (hagp : d.agp = false) (htotal : d.total ≠ 0) :
    Answers (.descriptorStart t q) s (fun u => s.queueNow u t q { s.queue t q with fifo := rest, run := some (s.startedRun t q d none) } []) :=
  ⟨_, exec_descriptorStart_affine hopen hfifo hrun hfence hmode hplace hagp htotal, State.queueNow_setQueue ..⟩

/-- R259: the descriptor's program is copied into the first free context, which shows in PLACKET_STATUS. -/
theorem descriptorStart_agp {i : Nat} (hagp : d.agp = true) (hi : i < 4) (hfree : s.freeCtxOf t = some i) :
    Answers (.descriptorStart t q) s (fun u =>
      u.queue t q = { s.queue t q with fifo := rest, run := some (s.startedRun t q d (some i)) } ∧
      u.ctx t i = some (s.newCtx t q d) ∧ u.bit (Reg.placketStatus t) (16 + i) = true ∧
      s.onlyTile u t (queueWords t q)) := by
  have hstatus : Reg.placketStatus t ∈ queueWords t q := by simp [queueWords]
  refine ⟨_, exec_descriptorStart_agp hopen hfifo hrun hfence hmode hagp hfree, State.queue_setQueue_self .., ?_, ?_, ?_⟩
  · show (State.setQueue _ t q _).ctx t i = _
    rw [State.ctx_setQueue]
    exact State.ctx_setCtx_self ..
  · rw [State.bit_refreshQ _ _ (by omega)]
    exact State.bit_setBit _ _ _ _ (by omega)
  · exact ((((State.onlyTile.refl s t _).setTile _).wr hstatus _).setTile _).onlyRegs (State.refreshQ_onlyRegs _ t q)

end Start

/-! ## A transfer is issued (R239, R246) -/

/-- The transfer of the moves `ms`, read from a memory of the tile. -/
def State.issued (s : State) (r : Run) (ms : List Move) : Xfer :=
  { txn := s.nextTxn, pos := r.pos, moves := ms, slot := none, read := false, remote := none, opening := false }

/-- The queue with the transfer outstanding and its descriptor past the elements of the transfer. -/
def State.issuedQueue (s : State) (t q : Nat) (r : Run) (ms : List Move) : Queue :=
  { s.queue t q with
    xfers := (s.queue t q).xfers ++ [s.issued r ms]
    run := some { r with pos := r.pos + ms.length, ended := Decidable.decide (r.pos + ms.length = r.desc.total) } }

theorem exec_transferIssue {s : State} {t : TileId} {q : QueueId} {r : Run} {m : Move} {ms : List Move}
    (hopen : s.queueOpen t q) (hrun : (s.queue t q).run = some r) (hmode : s.qMode t q = 0)
    (hsrc : s.srcGlob t q r.desc = false) (hdst : s.dstGlob t q r.desc = false)
    (hms : transferPrefix r.desc.esize r.desc.dsize (s.nextMoves t q r) = m :: ms)
    (hroom : (s.queue t q).xfers.length < s.qLimit t q) (hagp : r.desc.agp = false) (hpair : r.desc.pair = false)
    (hbound : ∀ v ∈ m :: ms, (s.slotPhys t (s.qOwner t q) v.src r.desc.esize).isSome ∧
      (s.slotPhys t (s.qOwner t q) v.dst r.desc.dsize).isSome) :
    exec (.transferIssue t q) s = .next ((State.setQueue { s with nextTxn := s.nextTxn + 1 } t q
      (s.issuedQueue t q r (m :: ms))).refreshQ t q) := by
  obtain ⟨hcancelling, hreq⟩ := hopen
  have hready : s.ringReady t q r (r.pos * r.desc.esize) = true := by simp [State.ringReady, hmode]
  have hmode' : State.qMode { s with nextTxn := s.nextTxn + 1 } t q = 0 := hmode
  show execTransferIssue t q s = _
  simp only [execTransferIssue, hrun, hms, hcancelling, hreq, hready, hsrc, hdst, Nat.not_le.2 hroom, hagp, hmode',
    State.isRemote, Bool.false_and, Bool.not_true, Bool.or_self, Bool.false_eq_true, if_false, if_true, List.drop_zero]
  split
  · next i hfound =>
    have hbad := List.find?_some hfound
    split at hbad
    · next v hv =>
      obtain ⟨hvsrc, hvdst⟩ := hbound v (List.mem_of_getElem? hv)
      simp [State.endAdmits, hvsrc, hvdst, hpair] at hbad
    · cases hbad
  · exact congrArg (fun u => Host.Outcome.next (State.refreshQ u t q)) (if_pos hmode)

/-! ## Its data come (R246, R256) -/

/-- The counter of WP1 reads of the tile's own descriptors has counted one (R270). -/
theorem State.countRd_ctrs (s : State) (t : Nat) : s.onlyRegs (s.count (Reg.placketStatRd t) 1) (placketCtrs t) :=
  (State.onlyRegs.refl s _).count (by simp [placketCtrs]) 1

/-- An element is read from its place in the owner's slot. -/
theorem State.readSource_local {s : State} {t q off : Nat} {d : Desc} {f : Xfer} {m : Move} (hsrc : s.srcGlob t q d = false)
    (hmoves : f.moves = [m]) (hoff : off = (s.rd (Reg.pocketSlotBase t (s.qOwner t q))).toNat + m.src)
    (hopen : s.pocketOpen t off d.esize) (hclean : s.pocketClean t off d.esize) (host : HostAns) :
    s.readSource t q d f host = (s.count (Reg.placketStatRd t) 1, some (mread s.pocket (pkey t off) d.esize)) := by
  have hctrs := s.countRd_ctrs t
  have hread := State.pocketRead_open (hctrs.pocketOpen hopen) (hctrs.pocketClean hclean)
  rw [hctrs.pocket, hoff] at hread
  simp only [State.readSource, hmoves, hsrc, List.foldl_cons, List.foldl_nil, Nat.min_self, Nat.zero_max,
    Nat.add_sub_cancel_left, Bool.not_false, if_true, hread, hoff]

/-- A merge buffer that plain bytes have entered first (R256). -/
def State.firstBuf (s : State) (t q pos : Nat) (m : Move) (bs : List Byte) : MergeBuf :=
  { glob := false, block := m.dst / 128 * 128, blockLo := m.dstLo / 128 * 128,
    data := List.replicate (m.dst % 128) none ++ bs.map some ++ List.replicate (128 - (m.dst % 128 + bs.length)) none,
    acc := none, pos := pos, txns := [], slots := [], sent := none, opening := false, frees := [],
    suit := (s.queue t q).run.bind (·.desc.suit) }

/-- The first element of a block opens the merge buffer. -/
theorem State.pushElem_first {s : State} {t q : Nat} (hmerge : (s.queue t q).merge = none) (pos : Nat) (m : Move)
    (bs : List Byte) : s.pushElem t q false none pos none m bs =
      s.setQueue t q { s.queue t q with merge := some (s.firstBuf t q pos m bs) } := by
  have hfront : Min.min (m.dst % 128) 128 = m.dst % 128 := by omega
  simp only [State.pushElem, hmerge, Option.isSome_none, Bool.false_eq_true, if_false, Option.getD_none, List.take_replicate,
    List.drop_replicate, hfront, State.firstBuf, -List.reduceReplicate]

theorem State.pushTransfer_first {s : State} {t q : Nat} {d : Desc} (hmerge : (s.queue t q).merge = none)
    (hdst : s.dstGlob t q d = false) (hacc : d.accum = false) (pos : Nat) (m : Move) (bs : List Byte) :
    s.pushTransfer t q d pos none [(m, bs)] none =
      s.setQueue t q { s.queue t q with merge := some (s.firstBuf t q pos m bs) } := by
  unfold State.pushTransfer
  simp only [hmerge, hdst, hacc, Bool.false_eq_true, if_false, List.foldl_cons, List.foldl_nil, State.pushElem_first hmerge,
    State.queue_setQueue_self]

/-- The queue once the data of transfer `f` have been delivered. -/
def State.readQueue (s : State) (t q : Nat) (f : Xfer) : Queue :=
  { s.queue t q with xfers := (s.queue t q).xfers.filter (fun g => g.txn != f.txn) }

/-- The queue once the data of transfer `f`, of one element, have entered its empty merge buffer. -/
def State.mergedQueue (s : State) (t q : Nat) (f : Xfer) (m : Move) (bs : List Byte) : Queue :=
  { s.readQueue t q f with merge := some (s.firstBuf t q f.pos m bs) }

/-- R246: a transfer into the Pocket is no longer outstanding once its data have been delivered. -/
theorem State.afterRead_first {s : State} {t q : Nat} {r : Run} {f : Xfer} {m : Move} {bs : List Byte}
    (hrun : (s.queue t q).run = some r) (hmerge : (s.queue t q).merge = none) (hslot : f.slot = none)
    (hstaged : r.staged = false) (hacc : r.desc.accum = false) (hended : r.ended = false)
    (hdst : s.dstGlob t q r.desc = false) :
    s.afterRead t q f [(m, bs)] = (s.setQueue t q (s.mergedQueue t q f m bs)).refreshQ t q := by
  have hqueue := State.queue_setQueue_self s t q (s.readQueue t q f)
  have hstep : s.afterRead t q f [(m, bs)] =
      ((s.setQueue t q (s.readQueue t q f)).pushTransfer t q r.desc f.pos none [(m, bs)] none).finishRun t q := by
    simp only [State.afterRead, State.readQueue, hrun, hstaged, hdst, hslot, Bool.false_eq_true, if_false]
  have hbuf : (s.setQueue t q (s.readQueue t q f)).firstBuf t q f.pos m bs = s.firstBuf t q f.pos m bs := by
    rw [State.firstBuf, hqueue]
    rfl
  rw [hstep, State.pushTransfer_first ((congrArg Queue.merge hqueue).trans hmerge) hdst hacc, hbuf, hqueue,
    State.setQueue_setQueue]
  exact State.finishRun_goesOn ((congrArg Queue.run (State.queue_setQueue_self ..)).trans hrun) (.inl hended)

section Read
variable {s : State} {t : TileId} {q : QueueId} {r : Run} {f : Xfer} {m : Move} {off : Nat}
  (hopenQ : s.queueOpen t q) (hrun : (s.queue t q).run = some r) (hsrc : s.srcGlob t q r.desc = false)
  (hdst : s.dstGlob t q r.desc = false) (hfind : (s.queue t q).xfers.find? (fun f => !f.read) = some f)
  (hmoves : f.moves = [m]) (hslot : f.slot = none) (hstaged : r.staged = false) (hacc : r.desc.accum = false)
  (hspill : r.desc.spill = false) (hended : r.ended = false) (hmerge : (s.queue t q).merge = none)
  (hoff : off = (s.rd (Reg.pocketSlotBase t (s.qOwner t q))).toNat + m.src) (hopen : s.pocketOpen t off r.desc.esize)
  (hclean : s.pocketClean t off r.desc.esize)
include hopenQ hrun hsrc hdst hfind hmoves hslot hstaged hacc hspill hended hmerge hoff hopen hclean

theorem exec_transferReadData (host : HostAns) : exec (.transferReadData t q host) s =
    .next ((((s.count (Reg.placketStatRd t) 1).setQueue t q (s.mergedQueue t q f m
      (mread s.pocket (pkey t off) r.desc.esize))).refreshQ t q).sendWrites t q) := by
  have hctrs := s.countRd_ctrs t
  have hwhole : (mread s.pocket (pkey t off) r.desc.esize).take r.desc.esize = mread s.pocket (pkey t off) r.desc.esize :=
    List.take_of_length_le (mread_length ..).le
  have hglob : (s.count (Reg.placketStatRd t) 1).dstGlob t q r.desc = false := by
    rw [State.dstGlob, State.dstRing, hctrs.qMode]
    exact hdst
  have hafter := State.afterRead_first (s := s.count (Reg.placketStatRd t) 1) (bs := mread s.pocket (pkey t off) r.desc.esize)
    (m := m) hrun hmerge hslot hstaged hacc hended hglob
  show execTransferReadData t q host s = _
  simp only [execTransferReadData, hfind, hopenQ.1, hrun, State.readSource_local hsrc hmoves hoff hopen hclean, hmoves, hspill,
    List.map_cons, List.map_nil, List.foldl_cons, List.foldl_nil, Nat.min_self, Nat.sub_self, List.drop_zero, hwhole,
    Bool.false_eq_true, if_false]
  rw [hafter]
  rfl

/-- R246, R256: the element's bytes stand at its place in the buffered block. -/
theorem transferReadData_merges (hwrites : (s.queue t q).writes = []) (host : HostAns) :
    Answers (.transferReadData t q host) s (fun u =>
      u.queue t q = s.mergedQueue t q f m (mread s.pocket (pkey t off) r.desc.esize) ∧ u.pocket = s.pocket) := by
  refine ⟨_, exec_transferReadData hopenQ hrun hsrc hdst hfind hmoves hslot hstaged hacc hspill hended hmerge hoff hopen
    hclean host, ?_, (State.sendWrites_sent ..).pocket⟩
  have hqueue := State.queue_setQueue_self (s.count (Reg.placketStatRd t) 1) t q
    (s.mergedQueue t q f m (mread s.pocket (pkey t off) r.desc.esize))
  rw [State.queue_sendWrites_nil (by rw [State.queue_refreshQ, hqueue]; exact hwrites), State.queue_refreshQ, hqueue]

end Read

/-! ## Writes that are flushed (R240, R256) -/

/-- What a flushed write is after those that may go have been sent: of a write to a remote memory, at most how it was sent has
changed. -/
structure State.sentAs (s : State) (m m' : MergeBuf) : Prop where
  data : m'.data = m.data
  block : m'.block = m.block
  glob : m'.glob = m.glob
  kept : s.isRemote m.glob m.block = false → m' = m

theorem State.sentAs.refl (s : State) (m : MergeBuf) : s.sentAs m m := ⟨rfl, rfl, rfl, fun _ => rfl⟩

/-- A fold that appends one result for each element, related to it. -/
theorem forall₂_foldl {α β σ : Type} {I : σ → Prop} {out : σ → List β} {R : α → β → Prop} {step : σ → α → σ}
    (hstep : ∀ st a, I st → I (step st a) ∧ ∃ b, out (step st a) = out st ++ [b] ∧ R a b) (l : List α) (st : σ) (pre : List α)
    (hI : I st) (hpre : List.Forall₂ R pre (out st)) : List.Forall₂ R (pre ++ l) (out (l.foldl step st)) := by
  induction l generalizing st pre with
  | nil => simpa using hpre
  | cons a l ih =>
    obtain ⟨hI', b, hout, hab⟩ := hstep st a hI
    have hnext : List.Forall₂ R (pre ++ [a]) (out (step st a)) := by
      rw [hout]
      exact List.rel_append hpre (.cons hab .nil)
    simpa using ih (step st a) (pre ++ [a]) hI' hnext

theorem State.isRemote_of_regs {s u : State} (h : u.regs = s.regs) (glob : Bool) (a : Nat) :
    u.isRemote glob a = s.isRemote glob a := by
  have hrd (a : Nat) : u.rd a = s.rd a := by rw [State.rd, h, State.rd]
  have hid : u.moduleId = s.moduleId := by
    rw [State.moduleId, State.bit_congr (hrd _), State.fld_congr (hrd _), State.ownId, State.fld_congr (hrd _), State.moduleId,
      State.ownId]
  rw [State.isRemote, hid, State.isRemote]

theorem State.sendWrites_forall₂ (s : State) (t q : Nat) :
    List.Forall₂ s.sentAs (s.queue t q).writes ((s.sendWrites t q).queue t q).writes := by
  unfold State.sendWrites
  dsimp only
  rw [State.queue_setQueue_self]
  refine forall₂_foldl (I := fun st : State × List MergeBuf × Bool => st.1.regs = s.regs) (out := fun st => st.2.1)
    (fun st m hst => ?_) _ (s, [], false) [] rfl .nil
  split_ifs with hstays hblocked
  · exact ⟨hst, m, rfl, .refl s m⟩
  · exact ⟨hst, m, rfl, .refl s m⟩
  · refine ⟨(State.sendRequest_sent ..).regs.trans hst, _, rfl, rfl, rfl, rfl, fun hlocal => ?_⟩
    rw [← State.isRemote_of_regs hst] at hlocal
    simp [hlocal] at hstays

/-- Of two lists that are related element by element, the last elements are related. -/
theorem getLast?_of_forall₂ {α β : Type} {R : α → β → Prop} {l : List α} {a : α} {l' : List β}
    (h : List.Forall₂ R (l ++ [a]) l') : ∃ b, l'.getLast? = some b ∧ R a b := by
  rw [← List.forall₂_reverse_iff, List.reverse_append, List.reverse_singleton, List.singleton_append,
    List.forall₂_cons_left_iff] at h
  obtain ⟨b, rest, hab, -, hrev⟩ := h
  exact ⟨b, by rw [List.getLast?_eq_head?_reverse, hrev, List.head?_cons], hab⟩

/-- The queue with its merge buffer among its writes. -/
def State.flushedQueue (s : State) (t q : Nat) (b : MergeBuf) : Queue :=
  { s.queue t q with merge := none, writes := (s.queue t q).writes ++ [b] }

/-- Of two lists that are related element by element, an element of the second is related to one of the first. -/
theorem exists_mem_of_forall₂ {α β : Type} {R : α → β → Prop} {l : List α} {l' : List β} {b : β} (h : List.Forall₂ R l l')
    (hb : b ∈ l') : ∃ a ∈ l, R a b := by
  induction h with
  | nil => cases hb
  | cons hab _ ih =>
    rcases List.mem_cons.1 hb with rfl | hb
    · exact ⟨_, List.mem_cons_self, hab⟩
    · obtain ⟨a, ha, hr⟩ := ih hb
      exact ⟨a, List.mem_cons_of_mem _ ha, hr⟩

/-- R256: the flush hands the merge buffer on as the last of the queue's writes. -/
theorem mergeBufferFlush_flushes {s : State} {t : TileId} {q : QueueId} {b : MergeBuf} (hmerge : (s.queue t q).merge = some b) :
    Answers (.mergeBufferFlush t q) s (fun u => (u.queue t q).merge = none ∧ u.pocket = s.pocket ∧
      ∃ m, (u.queue t q).writes.getLast? = some m ∧ s.sentAs b m) := by
  obtain ⟨-, hpocket, hnone⟩ := s.flushMerge_spec t q
  have hflush : s.flushMerge t q = (s.setQueue t q (s.flushedQueue t q b)).sendWrites t q := by
    simp only [State.flushMerge, hmerge, State.flushedQueue]
  have hsent := (s.setQueue t q (s.flushedQueue t q b)).sendWrites_forall₂ t q
  rw [← hflush, State.queue_setQueue_self] at hsent
  obtain ⟨m, hlast, hdata, hblock, hglob, hkept⟩ := getLast?_of_forall₂ hsent
  exact ⟨_, rfl, hnone, hpocket, m, hlast, hdata, hblock, hglob, hkept⟩

/-! ## A write lands (R242, R246) -/

theorem State.pocketWrite_nil {s : State} {t off : Nat} (hopen : s.pocketOpen t off 0) : s.pocketWrite t off [] = (s, 0) := by
  have hnone : s.pocketRefusal t off 0 = none := State.pocketRefusal_open hopen
  simp [State.pocketWrite, hnone, wordsOf, State.writeWords, changedPages, State.markDirty]

/-- A write of any number of bytes that no rule refuses and that meets no damaged word stores them; of the register words, at
most POCKET_DIRTY changes. -/
theorem State.pocketWrite_storesAll {s : State} {t off : Nat} {bs : List Byte} (hopen : s.pocketOpen t off bs.length)
    (hclean : s.pocketClean t off bs.length) : ∃ u, s.pocketWrite t off (bs.map some) = (u, 0) ∧ s.stored u t off bs ∧
      ∀ a ∉ pocketDirtyWords t, u.rd a = s.rd a := by
  cases bs with
  | nil => exact ⟨s, State.pocketWrite_nil hopen, ⟨fun i hi => absurd hi (Nat.not_lt_zero i), fun _ _ => rfl⟩, fun _ _ => rfl⟩
  | cons b bs =>
    obtain ⟨u, hu, hwrote, -⟩ := State.pocketWrite_stores (bs := b :: bs) (by simp) hopen hclean
    exact ⟨u, hu, hwrote.stored, hwrote.rd⟩

/-- Settling a ring changes of the register words at most the status of its queue. -/
theorem State.rd_settleRing (s : State) (t q : Nat) {a : Nat} (ha : a ≠ Reg.placketQStatus t q) :
    (s.settleRing t q).rd a = s.rd a := by
  unfold State.settleRing
  dsimp only
  split
  · exact State.rd_setFld_ne _ _ _ _ ha
  · rfl

theorem State.rd_stagingFreed (s : State) (t q a : Nat) : (s.stagingFreed t q).rd a = s.rd a := by
  unfold State.stagingFreed
  split <;> rfl

/-- Of the register words, a write that lands changes those of its queue and of the scoreboard (R246, R339). -/
theorem State.rd_landWrite (s : State) (t q : Nat) (m : MergeBuf) {a : Nat} (hqueue : a ∉ queueWords t q)
    (hsb : a ∉ sbWords t m.frees) : (s.landWrite t q m).rd a = s.rd a := by
  have hstatus : a ≠ Reg.placketQStatus t q := fun h => hqueue (by simp [queueWords, h])
  rw [State.landWrite_eq, (State.refreshQ_onlyRegs _ t q).2 a hqueue, State.rd, (State.sendWrites_sent _ t q).regs, ← State.rd,
    State.rd_stagingFreed, State.rd_settleRing _ _ _ hstatus, (State.sbFreeAt_onlyRegs _ t _).2 a hsb]
  rfl

/-- A write that lands has stored its bytes before: what follows touches no byte. -/
theorem State.landWrite_data (s : State) (t q : Nat) (m : MergeBuf) : s.sameData (s.landWrite t q m) := by
  have hset : s.sameData (s.setQueue t q (s.landedQueue t q m)) := (State.sameData.refl s).setTile ..
  have hfreed := hset.onlyRegs ((s.setQueue t q (s.landedQueue t q m)).sbFreeAt_onlyRegs t m.frees)
  rw [State.landWrite_eq]
  generalize (s.setQueue t q (s.landedQueue t q m)).sbFreeAt t m.frees = u at hfreed ⊢
  obtain ⟨-, -, hsettled⟩ := u.settleRing_spec t q
  obtain ⟨-, hstaging⟩ := (u.settleRing t q).stagingFreed_spec t q
  exact (((hfreed.trans hsettled).trans hstaging).sent (State.sendWrites_sent _ t q)).refreshQ t q

/-- A write to a memory of the tile that has landed is not among the writes of its queue: no other write becomes it by being sent. -/
theorem State.landWrite_gone (s : State) (t q : Nat) {m : MergeBuf} (hglob : m.glob = false) :
    m ∉ ((s.landWrite t q m).queue t q).writes := by
  have hqueue : (((s.setQueue t q (s.landedQueue t q m)).sbFreeAt t m.frees).queue t q).writes =
      (s.queue t q).writes.filter (· != m) := by
    rw [State.queue_of_tiles ((s.setQueue t q (s.landedQueue t q m)).sbFreeAt_onlyRegs t m.frees).tiles,
      State.queue_setQueue_self, (s.landedQueue_spec t q m).1]
  rw [State.landWrite_eq, State.queue_refreshQ]
  generalize (s.setQueue t q (s.landedQueue t q m)).sbFreeAt t m.frees = u at hqueue ⊢
  obtain ⟨hsettled, -, -⟩ := u.settleRing_spec t q
  obtain ⟨hstaging, -⟩ := (u.settleRing t q).stagingFreed_spec t q
  have hsent := ((u.settleRing t q).stagingFreed t q).sendWrites_forall₂ t q
  rw [hstaging, hsettled, hqueue] at hsent
  intro hmem
  obtain ⟨w, hw, hwm⟩ := exists_mem_of_forall₂ hsent hmem
  have hsame : m = w := hwm.kept (by rw [← hwm.glob, hglob]; rfl)
  simp [hsame] at hw

theorem exec_writeLanded {s u : State} {t : TileId} {q : QueueId} {m : MergeBuf} {o oLo : Nat} {bs : List (Option Byte)}
    (hfind : (s.queue t q).writes.find? (fun m => !s.isRemote m.glob m.block) = some m) (hglob : m.glob = false)
    (hacc : m.acc = none) (hspan : m.span = (o, oLo, bs))
    (hwrite : (s.count (Reg.placketStatWr t) 1).pocketWrite t
      ((s.rd (Reg.pocketSlotBase t (s.qOwner t q))).toNat + o) bs = (u, 0)) (host : HostAns) :
    exec (.writeLanded t q host) s = .next (u.landWrite t q m) := by
  show execWriteLanded t q host s = _
  simp only [execWriteLanded, hfind, State.performWrite, hspan, hglob, hacc, Bool.not_false, if_true, hwrite]

/-- R246: the bytes of a plain write to the owner's slot stand in the Pocket, and the write is counted. -/
theorem writeLanded_stores {s : State} {t : TileId} {q : QueueId} {m : MergeBuf} {o oLo off : Nat} {bs : List Byte}
    (hfind : (s.queue t q).writes.find? (fun m => !s.isRemote m.glob m.block) = some m) (hglob : m.glob = false)
    (hacc : m.acc = none) (hspan : m.span = (o, oLo, bs.map some))
    (hoff : off = (s.rd (Reg.pocketSlotBase t (s.qOwner t q))).toNat + o) (hopen : s.pocketOpen t off bs.length)
    (hclean : s.pocketClean t off bs.length) (host : HostAns) :
    Answers (.writeLanded t q host) s (fun u => s.stored u t off bs ∧ m ∉ (u.queue t q).writes ∧
      (u.rd (Reg.placketStatWr t)).toNat = Min.min 0xFFFFFFFF ((s.rd (Reg.placketStatWr t)).toNat + 1)) := by
  have hctrs : s.onlyRegs (s.count (Reg.placketStatWr t) 1) (placketCtrs t) :=
    (State.onlyRegs.refl s _).count (by simp [placketCtrs]) 1
  obtain ⟨u, hu, hstored, hrd⟩ := State.pocketWrite_storesAll (hctrs.pocketOpen hopen) (hctrs.pocketClean hclean)
  rw [hoff] at hu
  have hqueue : Reg.placketStatWr t ∉ queueWords t q := by
    simp only [queueWords, Reg.placketStatWr, Reg.placketQStatus, Reg.placketQHeadlen, Reg.placketQCredits, Reg.placketStatus,
      List.mem_cons, List.not_mem_nil, or_false]
    omega
  have hsb : Reg.placketStatWr t ∉ sbWords t m.frees := by
    rw [sbWords, List.mem_cons, List.mem_flatMap]
    simp only [Reg.placketStatWr, Reg.sbStatus, Reg.sbEntryLo, Reg.sbEntryHi, List.mem_cons, List.not_mem_nil, or_false]
    rintro (h | ⟨e, -, h⟩) <;> omega
  refine ⟨_, exec_writeLanded hfind hglob hacc hspan hu host, ?_, State.landWrite_gone _ t q hglob, ?_⟩
  · rw [State.stored, (u.landWrite_data t q m).pocket]
    exact hstored
  · rw [State.rd_landWrite _ _ _ _ hqueue hsb, hrd (Reg.placketStatWr t)
      (notMem_pocketDirtyWords t (by decide) (by decide)), State.rd_count_one]

/-! ## The statement -/

/-- Settles O31, command by command along the way of the bytes: the descriptor that starts goes on, because its stream has not
ended; a transfer between memories of the tile is issued without a request; its data are the first to enter the merge
buffer; the flush makes the buffer the last write of the queue; and the write that lands is a write of its bytes. -/
theorem descriptorMovesData : Obligations.DescriptorMovesData := by
  unfold Obligations.DescriptorMovesData
  intro s t q hopenQ x
  refine ⟨?_, fun r hrun hmode hsrc hdst => ⟨?_, ?_⟩, fun b hmerge => ?_,
    fun m o oLo off bs hfind hglob hacc hspan _ hoff hopen hclean host =>
      writeLanded_stores hfind hglob hacc hspan hoff hopen hclean host⟩
  · intro d rest hfifo hrun hfence hplace hmode first r
    exact ⟨fun hagp htotal => descriptorStart_affine hopenQ hfifo hrun hfence hmode hplace hagp htotal,
      fun hagp i hi hfree => descriptorStart_agp hopenQ hfifo hrun hfence hmode hagp hi hfree⟩
  · intro m ms hms hroom hagp hpair hbound p
    exact ⟨_, exec_transferIssue hopenQ hrun hmode hsrc hdst hms hroom hagp hpair hbound, s.issued r (m :: ms), rfl, rfl, rfl,
      rfl, rfl, State.queue_setQueue_self ..⟩
  · intro f m off hfind hmoves hslot hstaged hacc hspill hended _ hmerge hwrites hoff hopen hclean host
    obtain ⟨u, hexec, hqueue, hpocket⟩ := transferReadData_merges hopenQ hrun hsrc hdst hfind hmoves hslot hstaged hacc hspill
      hended hmerge hoff hopen hclean hwrites host
    refine ⟨u, hexec, s.firstBuf t q f.pos m (mread s.pocket (pkey t off) r.desc.esize), by rw [hqueue]; rfl, rfl, rfl, rfl, ?_,
      fun g => ?_, hpocket⟩
    · rw [State.firstBuf, mread_length]
    · rw [hqueue]
      show g ∈ (s.queue t q).xfers.filter (fun g => g.txn != f.txn) ↔ _
      rw [List.mem_filter, bne_iff_ne]
  · obtain ⟨u, hexec, hnone, hpocket, m, hlast, hsent⟩ := mergeBufferFlush_flushes hmerge
    exact ⟨u, hexec, hnone, hpocket, m, hlast, hsent.data, hsent.block, hsent.kept⟩

end Sys2Proof.Machine
end

section
/-! SUPPORT. FETCH: the ring slot that a side is bound to, and a K block of DENSE columns in one run (R281, R285). Settles O23. -/

namespace Sys2Proof.Machine

/-! ## Binding (R281) -/

theorem State.suitSlots.bindSuit_lt {s : State} {t i side : Nat} {x : Suit} (hslots : s.suitSlots t)
    (h : s.bindSuit t side = some (i, x)) : i < 4 := hslots.running_lt (List.mem_of_find?_eq_some h)

/-- The side that FETCH_SLOT_BIND names: B where `b`. -/
def sideOf (b : Bool) : Nat := if b then 1 else 0

/-- The stages with ring slot `n` bound to that side. -/
def SuitRun.boundTo (r : SuitRun) (b : Bool) (n : Nat) : SuitRun :=
  if b then { r with bindB := some n } else { r with bindA := some n }

/-- A side takes the slot at HEAD of its queue where that ring has a filled one. -/
theorem fetchSlotBind_binds {s : State} {t : TileId} {i : Nat} {x : Suit} {b : Bool} (hslots : s.suitSlots t)
    (hbind : s.bindSuit t (sideOf b) = some (i, x)) (hfilled : s.qFilled t (x.bindQ (sideOf b)) ≠ 0) :
    Answers (.fetchSlotBind t b) s (fun u =>
      s.stageNow u t i x (x.run.boundTo b (s.qHead t (x.bindQ (sideOf b)))) []) := by
  have hexec : exec (.fetchSlotBind t b) s =
      .next (s.putRun t i x (x.run.boundTo b (s.qHead t (x.bindQ (sideOf b))))) := by
    rw [sideOf] at hbind hfilled
    show execFetchSlotBind t b s = _
    simp only [execFetchSlotBind, hbind]
    rw [if_neg hfilled]
    rfl
  exact ⟨_, hexec, State.putRun_stageNow hslots (hslots.bindSuit_lt hbind) (State.onlyRegs.refl s []) x _⟩

/-! ## A K block of DENSE columns (R285) -/

/-- First column of the next DENSE block, and the column after its last. -/
def Suit.denseLo (x : Suit) : Nat := x.kLo + x.run.fPos
def Suit.denseHi (x : Suit) : Nat := Min.min x.kHi (x.denseLo / 256 * 256 + 256)

/-- The columns of the next DENSE block. -/
def Suit.denseCols (x : Suit) : List Nat := (List.range (x.denseHi - x.denseLo)).map (fun j => x.denseLo + j)

/-- What the next DENSE block needs of a side. -/
def State.blockWants (s : State) (t : Nat) (x : Suit) (side : Nat) : List (Nat × List Want) :=
  (x.validRows (s.sideDesc t x side) side x.run.fOp).map (fun p => (p.1, s.denseWants t x side p.2 x.denseCols))

/-- The record of the next DENSE block, of the elements fetched for A and B. -/
def Suit.denseRec (x : Suit) (ta tb : List (Nat × List (Nat × Opnd))) : FedRec :=
  { op := x.run.fOp, last := decide (x.kHi ≤ x.denseHi), col := x.denseLo, null := false,
    slices := x.denseCols.map (fun c =>
      { a := (List.range x.tm).map (fun i => fetched ta i c), b := (List.range x.tn).map (fun j => [fetched tb j c]),
        pos := [] }) }

/-- Stages `r` with the record `f` fed and the suit's next DENSE block behind it. -/
def Suit.pastDense (x : Suit) (r : SuitRun) (f : FedRec) : SuitRun :=
  { r with
    fed := r.fed ++ [f]
    fOp := if x.kHi ≤ x.denseHi then x.run.fOp + 1 else x.run.fOp
    fPos := if x.kHi ≤ x.denseHi then 0 else x.denseHi - x.kLo }

/-- Columns of one chunk are cut nowhere. -/
theorem chunkCuts_one_chunk {lo k c : Nat} {cs : List Nat} (h : ∀ d ∈ c :: cs, (d - lo) / 128 = k) :
    chunkCuts lo (c :: cs) = [c :: cs] := by
  have hkeys : ((c :: cs).map (fun d => (d - lo) / 128)).eraseDups = [k] := by
    have hnone : (cs.map (fun d => (d - lo) / 128)).filter (fun b => !b == k) = [] := by
      refine List.filter_eq_nil_iff.2 (fun b hb => ?_)
      obtain ⟨d, hd, rfl⟩ := List.mem_map.1 hb
      simp [h d (List.mem_cons_of_mem _ hd)]
    rw [List.map_cons, h c List.mem_cons_self, List.eraseDups_cons, hnone, List.eraseDups_nil]
  have hall : (c :: cs).filter (fun d => (d - lo) / 128 == k) = c :: cs :=
    List.filter_eq_self.2 (fun d hd => by simp [h d hd])
  rw [chunkCuts, hkeys, List.map_singleton, hall]

section Dense
variable {x : Suit} (hchunk : x.run.fPos % 128 = 0) (hlo : x.denseLo < x.denseHi) (hhi : x.denseHi ≤ x.denseLo + 128)
include hlo

theorem Suit.denseCols_eq_cons : ∃ cs, x.denseCols = x.denseLo :: cs := by
  obtain ⟨n, hn⟩ : ∃ n, x.denseHi - x.denseLo = n + 1 := ⟨x.denseHi - x.denseLo - 1, by omega⟩
  exact ⟨_, by rw [Suit.denseCols, hn, List.range_succ_eq_map, List.map_cons, Nat.add_zero]⟩

include hchunk hhi

/-- A block of at most 128 columns that begins at a chunk lies in that chunk. -/
theorem Suit.chunkCuts_denseCols : chunkCuts x.kLo x.denseCols = [x.denseCols] := by
  obtain ⟨cs, hcs⟩ := Suit.denseCols_eq_cons hlo
  have hkey : ∀ c ∈ x.denseCols, (c - x.kLo) / 128 = x.run.fPos / 128 := by
    intro c hc
    obtain ⟨j, hj, rfl⟩ := List.mem_map.1 hc
    have hlt := List.mem_range.1 hj
    rw [Suit.denseLo] at hlt hhi ⊢
    omega
  rw [hcs] at hkey ⊢
  exact chunkCuts_one_chunk hkey

/-- Such a block comes as one record. -/
theorem State.fetchDense_one_chunk {s : State} {t : Nat} {r0 r1 : SuitRun} {ta tb : List (Nat × List (Nat × Opnd))}
    (hmore : x.run.fOp < x.tiles)
    (hA : s.fetchSide t x x.run 0 x.run.fOp true (s.blockWants t x 0) = (s, .ok (r0, ta)))
    (hB : s.fetchSide t x r0 1 x.run.fOp true (s.blockWants t x 1) = (s, .ok (r1, tb))) :
    s.fetchDense t x x.run = (s, .ok (x.pastDense r1 (x.denseRec ta tb))) := by
  have hhead : x.denseCols.headD x.denseLo = x.denseLo := by
    obtain ⟨cs, hcs⟩ := Suit.denseCols_eq_cons hlo
    rw [hcs, List.headD_cons]
  have hcuts := Suit.chunkCuts_denseCols hchunk hlo hhi
  rw [State.fetchDense, if_neg (Nat.not_le.2 hmore)]
  refine (congrArg (andThen · _) hA).trans ?_
  rw [andThen_ok]
  refine (congrArg (andThen · _) hB).trans ?_
  rw [andThen_ok]
  simp only [Suit.denseCols, Suit.denseHi, Suit.denseLo] at hcuts hhead
  simp only [hcuts, List.map_cons, List.map_nil, List.getLast?_singleton, List.dropLast_singleton, List.nil_append, hhead]
  rfl

end Dense

theorem exec_fetchBlock_dense {s : State} {t : TileId} {i : Nat} {x : Suit} {r : SuitRun}
    (hnext : s.nextSuit t (fun x => x.has stFetch && !x.fetchDone) = some (i, x)) (hbound : x.bound = true)
    (hseam : x.has stSeam = false) (hfed : x.run.fed = []) (hfetch : s.fetchDense t x x.run = (s, .ok r)) :
    exec (.fetchBlock t) s = .next (s.putRun t i x r) := by
  show execFetchBlock t s = _
  rw [execFetchBlock, hnext]
  simp [hbound, hseam, hfed, State.fetchStep, hfetch]

/-- Settles O23: a side is bound to the slot at HEAD, and a DENSE block within one chunk comes as one record. -/
theorem fetchDelivers : Obligations.FetchDelivers := by
  unfold Obligations.FetchDelivers
  intro s t i x hslots
  refine ⟨fetchSlotBind_binds (b := false) hslots, fetchSlotBind_binds (b := true) hslots, ?_⟩
  intro r0 r1 ta tb hnext hbound hseam hmore hchunk hfed lo hi hlo hhi cols wants hA hB hfed1
  have hfetch : s.fetchDense t x x.run = (s, .ok (x.pastDense r1 (x.denseRec ta tb))) :=
    State.fetchDense_one_chunk hchunk hlo hhi hmore hA hB
  exact ⟨_, exec_fetchBlock_dense hnext hbound hseam hfed hfetch, x.pastDense r1 (x.denseRec ta tb), x.denseRec ta tb,
    State.putRun_stageNow hslots (hslots.nextSuit_lt hnext) (State.onlyRegs.refl s []) x _,
    by rw [Suit.pastDense, hfed1, List.nil_append], rfl, rfl, rfl, rfl, rfl, rfl⟩

end Sys2Proof.Machine
end

section
/-! SUPPORT. REDUCE: the running totals of a row read ahead, and a drained row handed on (R286). Settles O25. -/

namespace Sys2Proof.Machine

/-- The stages once the running-total row `row` of tile `o` has been read ahead. -/
def SuitRun.readAhead (r : SuitRun) (o : Nat) (row : List Tot) : SuitRun :=
  { r with ahead := r.ahead ++ [(o, row)], redPos := r.redPos + 1 }

/-- The totals of `n` columns from `c` on: an element that TOTAL does not hold counts as zero. -/
def totalRow (d : TDesc) (c n : Nat) (vs : List (Nat × Opnd)) : List Tot :=
  (List.range n).map (fun j => ((tfind vs (c + j)).map (Tot.ofOpnd d)).getD (Tot.zero d))

theorem State.suitSlots.reduceSuit_lt {s : State} {t i : Nat} {x : Suit} (hslots : s.suitSlots t)
    (h : s.reduceSuit t = some (i, x)) : i < 4 := hslots.nextSuit_lt h

section Read
variable {s : State} {t : TileId} {i : Nat} {x : Suit} (hreduce : s.reduceSuit t = some (i, x)) (hdot : x.isDot = false)
  (hinit : x.init = false) (hroom : x.run.ahead.length < 4) (hmore : x.run.redPos / x.tm < x.tiles)
include hreduce hdot hinit hroom hmore

/-- A row past the rows of its tile is masked, and is not read. -/
theorem exec_reduceRowRead_masked (hmask : (x.tileSize (x.run.redPos / x.tm)).1 ≤ x.run.redPos % x.tm) :
    exec (.reduceRowRead t) s = .next (s.putRun t i x (x.run.readAhead (x.run.redPos / x.tm) [])) := by
  have hrows : x.drainRows = x.tm := by simp [Suit.drainRows, hdot]
  show execReduceRowRead t s = _
  rw [execReduceRowRead, hreduce]
  simp [hrows, hinit, hdot, Nat.not_le.2 hroom, Nat.not_le.2 hmore, hmask, SuitRun.readAhead]

theorem exec_reduceRowRead_row {vs : List (Nat × Opnd)}
    (hrow : x.run.redPos % x.tm < (x.tileSize (x.run.redPos / x.tm)).1) :
    let o := x.run.redPos / x.tm
    let d := s.totalDesc t x
    let p := x.outAt o (x.run.redPos % x.tm) 0
    let n := (x.tileSize o).2
    s.readRow t x stReduce d p.1 p.2 n = (s, .ok vs) →
    exec (.reduceRowRead t) s = .next (s.putRun t i x (x.run.readAhead o (totalRow d p.2 n vs))) := by
  intro o d p n hread
  have hrows : x.drainRows = x.tm := by simp [Suit.drainRows, hdot]
  show execReduceRowRead t s = _
  rw [execReduceRowRead, hreduce]
  simp [hrows, hinit, hdot, Nat.not_le.2 hroom, Nat.not_le.2 hmore, Nat.not_le.2 hrow, hread, d, p, n, o,
    SuitRun.readAhead, totalRow]

end Read

theorem exec_reduceRowWriteback_handsOn {s : State} {t : TileId} {i : Nat} {x : Suit} {w : ORow} {rest : List ORow}
    (hreduce : s.reduceSuit t = some (i, x)) (hred : x.run.red = w :: rest) (hback : x.writeback = false)
    (hroom : x.run.cvt.length < 4) (hstore : x.has stStore = true) :
    exec (.reduceRowWriteback t) s = .next (s.putRun t i x { x.run with red := rest, cvt := x.run.cvt ++ [w] }) := by
  show execReduceRowWriteback t s = _
  rw [execReduceRowWriteback, hreduce]
  simp [hred, hback, hstore, Nat.not_le.2 hroom]

/-- Settles O25: a masked row stands empty, a row of TOTAL is read with zeros where it has no element, and without WRITEBACK a
drained row only goes on. -/
theorem reduceRows : Obligations.ReduceRows := by
  unfold Obligations.ReduceRows
  intro s t i x hslots hreduce hdot
  have hput (r : SuitRun) : s.stageNow (s.putRun t i x r) t i x r [] :=
    State.putRun_stageNow hslots (hslots.reduceSuit_lt hreduce) (State.onlyRegs.refl s []) x r
  refine ⟨fun hinit hroom hmore => ⟨fun hmask => ?_, fun vs hrow hread => ?_⟩, fun w rest hred hback hroom hstore => ?_⟩
  · exact ⟨_, exec_reduceRowRead_masked hreduce hdot hinit hroom hmore hmask, hput _⟩
  · exact ⟨_, exec_reduceRowRead_row hreduce hdot hinit hroom hmore hrow hread, hput _⟩
  · exact ⟨_, exec_reduceRowWriteback_handsOn hreduce hred hback hroom hstore, hput _⟩

end Sys2Proof.Machine
end

section
/-! SUPPORT. STORE_POST: the post descriptor of a suit that has drained joins its queue (R254, R288). Settles O33. -/

namespace Sys2Proof.Machine

/-! ## What a stage reads (R80) -/

theorem State.stageRead_open {s : State} {t off n : Nat} (hopen : s.pocketOpen t off n) (hclean : s.pocketClean t off n)
    (stage : Nat) : s.stageRead t stage off n = (s, .ok (mread s.pocket (pkey t off) n)) := by
  rw [State.stageRead, State.pocketRead_open hopen hclean]

theorem State.slotRead_open {s : State} {t o off n : Nat} {x : Suit} (hphys : s.slotPhys t x.task o n = some off)
    (hopen : s.pocketOpen t off n) (hclean : s.pocketClean t off n) (stage : Nat) :
    s.slotRead t x stage o n = (s, .ok (mread s.pocket (pkey t off) n)) := by
  rw [State.slotRead, hphys]
  exact State.stageRead_open hopen hclean stage

/-! ## A stage that goes on beside a queue that changes -/

theorem State.onlyTile.mono {s u : State} {t : Nat} {as bs : List Nat} (h : s.onlyTile u t as) (hsub : as ⊆ bs) :
    s.onlyTile u t bs :=
  ⟨h.1, h.2.1, fun a ha => h.2.2 a (fun m => ha (hsub m))⟩

section PutRun
variable {s u : State} {t i : Nat} (hslots : u.suitSlots t) (hi : i < 4) (x : Suit) (r : SuitRun)
include hslots hi

theorem State.queue_putRun (q : Nat) : (u.putRun t i x r).queue t q = u.queue t q :=
  (State.queue_of_tiles (State.putRun_onlyRegs_setSuit hslots hi (State.onlyRegs.refl u []) x r).tiles t q).trans
    (State.queue_setTile (by rfl) q)

theorem State.queueNow.putRun {q : Nat} {y : Queue} (h : s.queueNow u t q y []) :
    s.queueNow (u.putRun t i x r) t q y (suitWords t) := by
  obtain ⟨hq, hothers, htile⟩ := h
  refine ⟨?_, fun j hj => ?_, ?_⟩
  · rw [State.queue_putRun hslots hi, hq]
  · rw [State.queue_putRun hslots hi, hothers j hj]
  · have hsuit := State.putRun_onlyRegs_setSuit hslots hi (State.onlyRegs.refl u []) x r
    exact ((htile.mono (by simp)).setTile _).onlyRegs (hsuit.mono (List.subset_append_right _ _))

end PutRun

theorem State.suitSlots.setQueue {s : State} {t : Nat} (h : s.suitSlots t) (q : Nat) (y : Queue) :
    (s.setQueue t q y).suitSlots t := by
  rwa [State.suitSlots, State.setQueue, State.tile_setTile_self]

theorem State.suitSlots.enqueue {s : State} {t : Nat} (h : s.suitSlots t) (q : Nat) (d : Desc) : (s.enqueue t q d).suitSlots t :=
  (h.setQueue q _).of_tiles (State.refreshQ_onlyRegs _ t q).tiles

/-! ## The post descriptor (R254, R288) -/

/-- The descriptor in the 128 bytes at physical offset `off`, issued by suit `i`. -/
def State.postAt (s : State) (t i off : Nat) : Desc :=
  { bytes := mread s.pocket (pkey t off) 128, suit := some i, spill := false, entries := [] }

theorem exec_storePost {s : State} {t : TileId} {i off : Nat} {x : Suit}
    (hpost : (s.runningSuits t).find? (fun p => p.2.post && !p.2.run.posted) = some (i, x)) (hdrained : x.drained = true)
    (hqueue : s.queueOpen t x.queuePost) (hroom : (s.queue t x.queuePost).fifo.length < 4)
    (hphys : s.slotPhys t x.task x.postDesc 128 = some off) (hopen : s.pocketOpen t off 128)
    (hclean : s.pocketClean t off 128) (hcheck : s.descCheck t x.queuePost x.task (s.postAt t i off) = none) :
    exec (.storePost t) s =
      .next ((s.enqueue t x.queuePost (s.postAt t i off)).putRun t i x { x.run with posted := true }) := by
  obtain ⟨hcancelling, hreq⟩ := hqueue
  rw [State.postAt] at hcheck
  show execStorePost t s = _
  rw [execStorePost, hpost]
  simp [hdrained, hcancelling, hreq, Nat.not_le.2 hroom, State.slotRead_open hphys hopen hclean, hcheck, State.postAt]

/-- Settles O33: the descriptor is read as it stands, passes the issue checks, and joins the FIFO. -/
theorem suitPosts : Obligations.SuitPosts := by
  unfold Obligations.SuitPosts
  intro s t i x off hslots hpost hdrained q hqueue hroom hphys hopen hclean d hcheck
  have hi : i < 4 := hslots.running_lt (List.mem_of_find?_eq_some hpost)
  have hslots' := hslots.enqueue q d
  exact ⟨_, exec_storePost hpost hdrained hqueue hroom hphys hopen hclean hcheck, State.suit_putRun hslots' hi x _,
    State.queueNow.putRun hslots' hi x _ (State.queueNow_setQueue s t q _)⟩

end Sys2Proof.Machine
end

section
/-! SUPPORT. How a suit shows itself, and how it leaves its slot: the display of the stages, a suit that enters RUNNING, and the
end of a suit that is DONE or cancelled (R283, R288, R290, R293). -/

namespace Sys2Proof.Machine

theorem State.onlyRegs.trans {s u v : State} {as : List Nat} (h : s.onlyRegs u as) (h' : u.onlyRegs v as) : s.onlyRegs v as := by
  refine ⟨?_, fun a ha => (h'.2 a ha).trans (h.2 a ha)⟩
  rw [h'.1, h.1]

/-! ## The display of the stages (R157, R196, R293) -/

/-- The words of the tile's Seam unit, Sleeve engine and hand-over buffer. -/
def unitWords (t : Nat) : List Nat := [Reg.seamStatus t, Reg.sleeveStatus t, Reg.seamBufStatus t]

/-- STAGES_RUNNING of every suit that is RUNNING. -/
def State.stagesShown (s : State) (t : Nat) : State :=
  (s.runningSuits t).foldl (fun s p => s.setFld (Reg.suitStatus t p.1) 18 6 p.2.running) s

theorem State.stagesShown_sameBits (s : State) (t a : Nat) :
    s.sameBits (s.stagesShown t) a (fun j => j < 18 ∨ 24 ≤ j) := by
  refine List.foldlRecOn (motive := fun u => s.sameBits u a (fun j => j < 18 ∨ 24 ≤ j)) _ _ (fun _ _ => rfl)
    (fun u hu p _ j hj => ?_)
  by_cases h : a = Reg.suitStatus t p.1
  · rw [h, State.getLsbD_setFld_out _ _ _ (by omega), ← h, hu j hj]
  · rw [State.rd_setFld_ne _ _ _ _ h, hu j hj]

theorem State.refreshSuits_units (s : State) (t : Nat) : (s.stagesShown t).onlyRegs (s.refreshSuits t) (unitWords t) := by
  have hseam : Reg.seamStatus t ∈ unitWords t := by simp [unitWords]
  have hsleeve : Reg.sleeveStatus t ∈ unitWords t := by simp [unitWords]
  unfold State.refreshSuits
  refine State.onlyRegs.refreshBuf ?_ (by simp [unitWords])
  dsimp only
  split <;> split <;> exact ((State.onlyRegs.refl (s.stagesShown t) _).wr hseam _).wr hsleeve _

theorem suitStatus_notMem_unitWords (t i : Nat) : Reg.suitStatus t i ∉ unitWords t := by
  simp only [unitWords, Reg.suitStatus, Reg.seamStatus, Reg.sleeveStatus, Reg.seamBufStatus, List.mem_cons, List.not_mem_nil,
    or_false]
  omega

/-- The display leaves what state a suit slot is in. -/
@[simp] theorem State.suitState_refreshSuits (s : State) (t i : Nat) : (s.refreshSuits t).suitState t i = s.suitState t i :=
  (State.fld_congr ((s.refreshSuits_units t).2 _ (suitStatus_notMem_unitWords t i)) _ _).trans
    ((s.stagesShown_sameBits t _).fld (fun _ _ => by omega))

/-! ## A suit enters RUNNING (R283) -/

theorem State.runSuit_suitState (s : State) (t i : Nat) : (s.runSuit t i).suitState t i = suitRunning := by
  rw [State.runSuit, State.suitState_refreshSuits]
  exact State.fld_setFld_of_lt _ _ (by decide) (by decide)

theorem State.runSuit_onlyRegs {s : State} {t i : Nat} (hslots : s.suitSlots t) (hi : i < 4) :
    s.onlyRegs (s.runSuit t i) (suitWords t) := by
  have hstate := (State.onlyRegs.refl s (suitWords t)).setFld (suitStatus_mem_suitWords hi) 29 3 suitRunning
  exact hstate.trans (State.refreshSuits_onlyRegs (hslots.of_tiles hstate.tiles))

/-! ## A suit leaves its slot -/

/-- Words of the tile's suits and of the tasks' own block are none of the scoreboard. -/
theorem notMem_sbWords {t a : Nat} (h : a < 0x1006000 + 0x10000 * t) (es : List Nat) : a ∉ sbWords t es := by
  rw [sbWords, List.mem_cons, List.mem_flatMap]
  simp only [Reg.sbStatus, Reg.sbEntryLo, Reg.sbEntryHi, List.mem_cons, List.not_mem_nil, or_false]
  rintro (h | ⟨e, -, h⟩) <;> omega

/-- Words beside SUIT_STATUS in the tile's block above the Sleeve engine. -/
theorem notMem_suitWords_above {t a : Nat} (h : 0x1003000 + 0x10000 * t < a)
    (hout : a < 0x1004800 + 0x10000 * t ∨ 0x1004830 + 0x10000 * t < a) : a ∉ suitWords t := by
  simp only [suitWords, Reg.seamStatus, Reg.sleeveStatus, Reg.seamBufStatus, Reg.suitStatus, List.mem_append, List.mem_cons,
    List.not_mem_nil, or_false, List.mem_map, List.mem_range]
  rintro (h | ⟨j, hj, h⟩) <;> omega

theorem State.suit_of_tiles {s u : State} (h : u.tiles = s.tiles) (t i : Nat) : u.suit t i = s.suit t i := by
  rw [State.suit, State.tile, h, State.suit, State.tile]

theorem State.suit_setSuit_self (s : State) (t i : Nat) (x : Suit) : (s.setSuit t i x).suit t i = some x := by
  rw [State.setSuit, State.suit, State.tile_setTile_self, tfind_tset_self]

theorem State.suit_dropSuit_self (s : State) (t i : Nat) : (s.dropSuit t i).suit t i = none := by
  rw [State.dropSuit, State.suit, State.tile_setTile_self, tfind_tdel_self]

theorem State.suitSlots.dropSuit {s : State} {t : Nat} (h : s.suitSlots t) (i : Nat) : (s.dropSuit t i).suitSlots t := by
  intro p hp
  rw [State.dropSuit, State.tile_setTile_self] at hp
  exact h p (List.mem_filter.1 hp).1

/-- SUIT_STATUS of slot `i` shows `st`, and no stage running. -/
def State.suitShown (s : State) (t i st : Nat) : State :=
  (s.setFld (Reg.suitStatus t i) 29 3 st).setFld (Reg.suitStatus t i) 18 6 0

theorem State.suitShown_suitState (s : State) (t i : Nat) {st : Nat} (hst : st < 8) :
    (s.suitShown t i st).suitState t i = st := by
  rw [State.suitShown, State.suitState, State.fld_setFld_ne _ _ _ _ _ _ _ (by omega)]
  exact State.fld_setFld_of_lt _ _ (by decide) hst

theorem State.suitShown_onlyRegs (s : State) (t i st : Nat) : s.onlyRegs (s.suitShown t i st) [Reg.suitStatus t i] :=
  ((State.onlyRegs.refl s _).setFld (by simp) _ _ _).setFld (by simp) _ _ _

/-- Suit `i` has left its slot, which shows `st`; no byte of a Pocket has changed. -/
structure State.suitLeft (s u : State) (t i st : Nat) : Prop where
  state : u.suitState t i = st
  gone : u.suit t i = none
  pocket : u.pocket = s.pocket

theorem State.suitLeft.refreshSuits {s u : State} {t i st : Nat} (h : s.suitLeft u t i st) (hslots : u.suitSlots t) :
    s.suitLeft (u.refreshSuits t) t i st where
  state := (u.suitState_refreshSuits t i).trans h.state
  gone := (State.suit_of_tiles (State.refreshSuits_onlyRegs hslots).tiles t i).trans h.gone
  pocket := by rw [(State.refreshSuits_onlyRegs hslots).1, ← h.pocket]

theorem State.suitLeft.onlyRegs {s u v : State} {t i st : Nat} {as : List Nat} (h : s.suitLeft u t i st) (hv : u.onlyRegs v as)
    (has : Reg.suitStatus t i ∉ as) : s.suitLeft v t i st where
  state := (State.fld_congr (hv.2 _ has) _ _).trans h.state
  gone := (State.suit_of_tiles hv.tiles t i).trans h.gone
  pocket := by rw [hv.1, ← h.pocket]

theorem State.suitLeft.count {s u : State} {t i st : Nat} (h : s.suitLeft u t i st) {a : Nat} (ha : Reg.suitStatus t i ≠ a)
    (n : Nat) : s.suitLeft (u.count a n) t i st :=
  h.onlyRegs ((State.onlyRegs.refl u [a]).count (List.mem_singleton_self a) n) (by simpa using ha)

/-! ## A suit that is DONE (R288) -/

/-- A suit that has ended: its scoreboard entries are free, and its slot shows DONE. -/
def State.suitFinished (s : State) (t i : Nat) : State := ((s.sbFree t 0 i).dropSuit t i).suitShown t i suitDone

theorem State.suitFinished_left (s : State) (t i : Nat) : s.suitLeft (s.suitFinished t i) t i suitDone where
  state := State.suitShown_suitState _ t i (by decide)
  gone := State.suit_dropSuit_self _ t i
  pocket := ((State.sameData.refl s).sbFree t 0 i).pocket

theorem State.suitFinished_suitSlots {s : State} {t : Nat} (h : s.suitSlots t) (i : Nat) : (s.suitFinished t i).suitSlots t :=
  ((h.of_tiles (s.sbFreeAt_onlyRegs t _).tiles).dropSuit i).of_tiles rfl

theorem State.rd_suitFinished (s : State) {t i a : Nat} (ha : a ≠ Reg.suitStatus t i) (hsb : a < 0x1006000 + 0x10000 * t) :
    (s.suitFinished t i).rd a = s.rd a :=
  ((State.suitShown_onlyRegs _ t i suitDone).2 a (by simpa using ha)).trans
    ((s.sbFreeAt_onlyRegs t _).2 a (notMem_sbWords hsb _))

/-! ## A suit that is cancelled or aborted (R289, R290) -/

/-- The register words of the tile's Cuff core, up to its suits. -/
def Reg.cuffBlock (t : Nat) : Set Nat := Set.Ico (0x1004000 + 0x10000 * t) (0x1004800 + 0x10000 * t)

/-- The words of the tile's block above the Placket unit. -/
def Reg.abovePlacket (t : Nat) : Set Nat := Set.Ici (0x1002000 + 0x10000 * t)

theorem Reg.cuffBlock_subset_abovePlacket (t : Nat) : Reg.cuffBlock t ⊆ Reg.abovePlacket t := by
  intro a ha
  rw [Reg.cuffBlock, Set.mem_Ico] at ha
  rw [Reg.abovePlacket, Set.mem_Ici]
  omega

theorem State.sameSuits.onlyRegs {s u v : State} {t : Nat} {keep : Set Nat} {as : List Nat} (h : s.sameSuits t keep u)
    (hv : u.onlyRegs v as) (has : ∀ a ∈ as, a ∉ keep) : s.sameSuits t keep v := by
  refine h.trans ⟨by rw [hv.1], by rw [State.tile, hv.tiles, State.tile], fun a ha => hv.2 a (fun m => has a m ha)⟩

theorem notMem_abovePlacket_of_queueWords {t q a : Nat} (hq : q < 16) (ha : a ∈ queueWords t q) : a ∉ Reg.abovePlacket t := by
  simp only [queueWords, Reg.placketQStatus, Reg.placketQCredits, Reg.placketQHeadlen, Reg.placketStatus, List.mem_cons,
    List.not_mem_nil, or_false] at ha
  rw [Reg.abovePlacket, Set.mem_Ici]
  omega

theorem State.sameSuits.reqCancel {s u : State} {t q : Nat} (h : s.sameSuits t (Reg.abovePlacket t) u) (hq : q < 16) :
    s.sameSuits t (Reg.abovePlacket t) (u.reqCancel t q) := by
  unfold State.reqCancel
  split
  · exact h
  · exact (h.setQueue q _).onlyRegs (State.refreshQ_onlyRegs _ t q) (fun _ => notMem_abovePlacket_of_queueWords hq)

theorem Suit.lt_of_mem_queues {x : Suit} {q : Nat} (h : q ∈ x.queues) : q < 16 := by
  have hbits (w lo : Nat) : bitsOf w lo 4 < 16 := Nat.mod_lt _ (by decide)
  have hone {c : Prop} [Decidable c] {w lo : Nat} (hm : q ∈ if c then [bitsOf w lo 4] else []) : q < 16 := by
    split at hm
    · exact List.mem_singleton.1 hm ▸ hbits w lo
    · cases hm
  simp only [Suit.queues, List.mem_append] at h
  rcases h with ((h | h) | h) | h <;> exact hone h

/-- The queues that a suit names have been asked to cancel. -/
def State.queuesStopped (s : State) (t i : Nat) : State :=
  (((s.suit t i).map Suit.queues).getD []).foldl (fun s q => s.reqCancel t q) s

theorem State.queuesStopped_sameSuits (s : State) (t i : Nat) : s.sameSuits t (Reg.abovePlacket t) (s.queuesStopped t i) := by
  refine List.foldlRecOn (motive := s.sameSuits t (Reg.abovePlacket t)) _ _ (State.sameSuits.refl s t _)
    (fun u hu q hq => hu.reqCancel ?_)
  cases hx : s.suit t i with
  | none => simp [hx] at hq
  | some x => exact Suit.lt_of_mem_queues (x := x) (by simpa [hx] using hq)

/-- The units that served suit `i` show themselves at rest. -/
def State.unitsLeft (s : State) (t i : Nat) : State :=
  let s := if s.bit (Reg.seamStatus t) 7 && s.fld (Reg.seamStatus t) 0 2 == i then s.wr (Reg.seamStatus t) 0 else s
  let s := if s.bit (Reg.sleeveStatus t) 15 && s.fld (Reg.sleeveStatus t) 0 2 == i then s.wr (Reg.sleeveStatus t) 0 else s
  if (s.suit t i).any (fun x => !x.run.hand.isEmpty) then s.wr (Reg.seamBufStatus t) 0 else s

theorem State.onlyRegs.wr_ite {s u : State} {as : List Nat} {a : Nat} (h : s.onlyRegs u as) (ha : a ∈ as) (v : Word) (c : Prop)
    [Decidable c] : s.onlyRegs (if c then u.wr a v else u) as := by
  split
  · exact h.wr ha v
  · exact h

theorem State.unitsLeft_onlyRegs (s : State) (t i : Nat) : s.onlyRegs (s.unitsLeft t i) (unitWords t) :=
  (((State.onlyRegs.refl s (unitWords t)).wr_ite (by simp [unitWords]) 0 _).wr_ite (by simp [unitWords]) 0 _).wr_ite
    (by simp [unitWords]) 0 _

/-- What ends with a suit, while it still stands in its slot. -/
def State.suitStopped (s : State) (t i st : Nat) : State :=
  (((s.queuesStopped t i).suitShown t i st).unitsLeft t i).sbFree t 0 i

theorem State.endSuit_eq (s : State) (t i st : Nat) : s.endSuit t i st = ((s.suitStopped t i st).dropSuit t i).count
    (if st = suitAborted then Reg.suitStatAborted t else Reg.suitStatCancelled t) 1 := rfl

theorem State.suitStopped_sameSuits (s : State) (t i st : Nat) : s.sameSuits t (Reg.cuffBlock t) (s.suitStopped t i st) := by
  have hout {a : Nat} (h : a < 0x1004000 + 0x10000 * t ∨ 0x1004800 + 0x10000 * t ≤ a) : a ∉ Reg.cuffBlock t := by
    rw [Reg.cuffBlock, Set.mem_Ico]
    omega
  have hstatus : ∀ a ∈ [Reg.suitStatus t i], a ∉ Reg.cuffBlock t := by
    intro a ha
    rw [List.mem_singleton.1 ha, Reg.suitStatus]
    exact hout (by omega)
  have hunits : ∀ a ∈ unitWords t, a ∉ Reg.cuffBlock t := by
    intro a ha
    simp only [unitWords, Reg.seamStatus, Reg.sleeveStatus, Reg.seamBufStatus, List.mem_cons, List.not_mem_nil, or_false] at ha
    exact hout (by omega)
  have hsb (es : List Nat) : ∀ a ∈ sbWords t es, a ∉ Reg.cuffBlock t := by
    intro a ha hmem
    rw [Reg.cuffBlock, Set.mem_Ico] at hmem
    exact notMem_sbWords (by omega) es ha
  exact ((((s.queuesStopped_sameSuits t i).mono (Reg.cuffBlock_subset_abovePlacket t)).onlyRegs
    (State.suitShown_onlyRegs _ t i st) hstatus).onlyRegs (State.unitsLeft_onlyRegs _ t i) hunits).onlyRegs
    (State.sbFreeAt_onlyRegs _ t _) (hsb _)

theorem State.suitStopped_suitState (s : State) (t : Nat) {i st : Nat} (hi : i < 4) (hst : st < 8) :
    (s.suitStopped t i st).suitState t i = st := by
  have hsb : Reg.suitStatus t i < 0x1006000 + 0x10000 * t := by
    rw [Reg.suitStatus]
    omega
  exact (State.fld_congr ((State.sbFreeAt_onlyRegs _ t _).2 _ (notMem_sbWords hsb _)) _ _).trans
    ((State.fld_congr ((State.unitsLeft_onlyRegs _ t i).2 _ (suitStatus_notMem_unitWords t i)) _ _).trans
      (State.suitShown_suitState _ t i hst))

theorem State.endSuit_sameCuff (s : State) (t i st : Nat) : ∀ a ∈ Reg.cuffBlock t, (s.endSuit t i st).rd a = s.rd a := by
  intro a ha
  have hctr : a ≠ (if st = suitAborted then Reg.suitStatAborted t else Reg.suitStatCancelled t) := by
    rw [Reg.cuffBlock, Set.mem_Ico] at ha
    split <;> simp only [Reg.suitStatAborted, Reg.suitStatCancelled] <;> omega
  rw [State.endSuit_eq, State.rd_count_ne _ _ hctr]
  exact (s.suitStopped_sameSuits t i st).rd a ha

theorem State.endSuit_suitSlots {s : State} {t : Nat} (hslots : s.suitSlots t) (i st : Nat) : (s.endSuit t i st).suitSlots t :=
  (((s.suitStopped_sameSuits t i st).suitSlots hslots).dropSuit i).of_tiles rfl

theorem State.endSuit_left (s : State) (t : Nat) {i st : Nat} (hi : i < 4) (hst : st < 8) :
    s.suitLeft (s.endSuit t i st) t i st := by
  have hdropped : s.suitLeft ((s.suitStopped t i st).dropSuit t i) t i st :=
    ⟨s.suitStopped_suitState t hi hst, State.suit_dropSuit_self _ t i, (s.suitStopped_sameSuits t i st).pocket⟩
  rw [State.endSuit_eq]
  refine hdropped.count ?_ 1
  split <;> simp only [Reg.suitStatus, Reg.suitStatAborted, Reg.suitStatCancelled] <;> omega

/-- A suit that is cancelled leaves its slot, and the tasks of the tile as they were (R290). -/
theorem State.endSuit_refreshed {s : State} {t i st : Nat} (hslots : s.suitSlots t) (hi : i < 4) (hst : st < 8) :
    s.suitLeft ((s.endSuit t i st).refreshSuits t) t i st ∧
      ∀ a ∈ Reg.cuffBlock t, ((s.endSuit t i st).refreshSuits t).rd a = s.rd a := by
  have hslots' := State.endSuit_suitSlots hslots i st
  refine ⟨(s.endSuit_left t hi hst).refreshSuits hslots', fun a ha => ?_⟩
  have hmem := Set.mem_Ico.1 ha
  rw [(State.refreshSuits_onlyRegs hslots').2 a (notMem_suitWords_above (by omega) (by omega)),
    State.endSuit_sameCuff s t i st a ha]

end Sys2Proof.Machine
end

section
/-! SUPPORT. The life of a suit: the checks of its issue, the wait of scoreboard mode, its end, and SUIT_CTRL.CANCEL (R277, R282,
R283, R288, R290). Settles O27. -/

namespace Sys2Proof.Machine

/-! ## The checks (R282) -/

/-- No LENGTH_EXCEEDED where the K range is within 2^25 and within KTOTAL (R207). -/
theorem State.lengthWarn_within {x : Suit} (hspan : x.kHi - x.kLo ≤ 0x2000000) (htotal : x.ktotal ≤ 0x2000000)
    (hin : x.ktotal = 0 ∨ x.kHi - x.kLo ≤ x.ktotal) (s : State) (t : Nat) : s.lengthWarn t x = s := by
  exact if_neg (by omega)

/-- The suit `x` has passed its checks outside scoreboard mode. -/
def Suit.passed (x : Suit) : Suit := { x with checked := true, entered := true }

theorem State.passSuit_runs {s : State} {t : Nat} {x : Suit} (hwarn : s.lengthWarn t x = s) (hmode : s.sbMode t = false)
    (hover : s.taskOver t x.task = false) (i : Nat) : s.passSuit t i x = (s.setSuit t i x.passed).runSuit t i := by
  simp [State.passSuit, hwarn, hmode, hover, Suit.passed]

/-- The suit `x` with the operand block that stands at physical offset `off`. -/
def State.withBlock (s : State) (t off : Nat) (x : Suit) : Suit := { x with op := mread s.pocket (pkey t off) 128 }

section Checks
variable {s : State} {t : TileId} {i : SlotId} {x : Suit} (hx : s.suit t i = some x)
  (hstate : s.suitState t i = suitWaiting) (hchecked : x.checked = false)
include hx hstate hchecked

theorem exec_suitIssueChecks_passes {off : Nat} (hvalid : x.w 0 31 1 = 1) (halign : x.opOff % 128 = 0)
    (hphys : s.slotPhys t x.task x.opOff 128 = some off) (hopen : s.pocketOpen t off 128) (hclean : s.pocketClean t off 128)
    (hpass : (s.setSuit t i (s.withBlock t off x)).suitChecks t (s.withBlock t off x) = none) :
    exec (.suitIssueChecks t i) s =
      .next ((s.setSuit t i (s.withBlock t off x)).passSuit t i (s.withBlock t off x)) := by
  rw [State.withBlock] at hpass
  show execSuitIssueChecks t i s = _
  simp only [execSuitIssueChecks, hx]
  rw [if_neg (by simp [hstate, hchecked]), if_neg (by simp [hvalid]), if_neg (by simp [halign]), hphys]
  simp only [State.stageRead_open hopen hclean, hpass]
  rfl

theorem exec_suitIssueChecks_notValid (hvalid : x.w 0 31 1 = 0) :
    exec (.suitIssueChecks t i) s = .next (s.suitFault t i (suitErr 0x01 0x12)) := by
  show execSuitIssueChecks t i s = _
  simp only [execSuitIssueChecks, hx]
  simp [hstate, hchecked, hvalid]

end Checks

/-- A suit set in its slot that then enters RUNNING. -/
theorem State.setSuit_runSuit {s : State} {t i : Nat} (hslots : s.suitSlots t) (hi : i < 4) (x y : Suit) :
    let u := ((s.setSuit t i x).setSuit t i y).runSuit t i
    u.suitState t i = suitRunning ∧ u.suit t i = some y ∧ s.onlyTile u t (suitWords t) := by
  have hrun := State.runSuit_onlyRegs ((hslots.setSuit hi x).setSuit hi y) hi
  refine ⟨State.runSuit_suitState .., ?_, (((State.onlyTile.refl s t _).setTile _).setTile _).onlyRegs hrun⟩
  rw [State.suit_of_tiles hrun.tiles, State.suit_setSuit_self]

theorem suitIssueChecks_runs {s : State} {t : TileId} {i : SlotId} {x : Suit} {off : Nat} (hslots : s.suitSlots t)
    (hx : s.suit t i = some x) (hstate : s.suitState t i = suitWaiting) (hchecked : x.checked = false)
    (hvalid : x.w 0 31 1 = 1) (halign : x.opOff % 128 = 0) (hphys : s.slotPhys t x.task x.opOff 128 = some off)
    (hopen : s.pocketOpen t off 128) (hclean : s.pocketClean t off 128)
    (hpass : (s.setSuit t i (s.withBlock t off x)).suitChecks t (s.withBlock t off x) = none) (hmode : s.sbMode t = false)
    (hover : s.taskOver t x.task = false) (hwarn : (s.setSuit t i (s.withBlock t off x)).lengthWarn t (s.withBlock t off x) =
      s.setSuit t i (s.withBlock t off x)) :
    Answers (.suitIssueChecks t i) s (fun u => u.suitState t i = suitRunning ∧
      u.suit t i = some (s.withBlock t off x).passed ∧ s.onlyTile u t (suitWords t)) := by
  refine ⟨_, exec_suitIssueChecks_passes hx hstate hchecked hvalid halign hphys hopen hclean hpass, ?_⟩
  rw [State.passSuit_runs hwarn hmode hover]
  exact State.setSuit_runSuit hslots i.isLt _ _

/-- A fault of a suit aborts its task (R289). -/
theorem State.suitFault_taskState {s : State} {t i : Nat} {x : Suit} (hx : s.suit t i = some x)
    (hover : s.taskOver t x.task = false) (f : Flt) : (s.suitFault t i f).taskState t x.task = taskAborted := by
  simp only [State.suitFault, hx]
  exact State.chargeTask_taskState hover ..

/-! ## The wait of scoreboard mode (R283, R340) -/

/-- Some input range of the suit overlaps a pending output range. -/
def State.inputWaits (s : State) (t i : Nat) (x : Suit) : Bool :=
  (s.suitRanges t x false).any (fun r => s.sbOverlap t r.1 r.2 (s.sbOf t 0 i))

theorem exec_suitRunning {s : State} {t : TileId} {i : SlotId} {x : Suit} (hx : s.suit t i = some x)
    (hstate : s.suitState t i = suitWaiting) (hchecked : x.checked = true) (hentered : x.entered = true) :
    exec (.suitRunning t i) s = .next (if s.inputWaits t i x then s.sbWaitCycle t else s.runSuit t i) := by
  have hguard : ¬ (s.suitState t i ≠ suitWaiting ∨ (!x.checked) = true ∨ (!x.entered) = true) := by
    simp [hstate, hchecked, hentered]
  show execSuitRunning t i s = _
  simp only [execSuitRunning, hx]
  rw [if_neg hguard]
  exact (apply_ite Host.Outcome.next ..).symm

theorem State.inputWaits_eq_false {s : State} {t i : Nat} {x : Suit}
    (h : (s.suitRanges t x false).all (fun r => !s.sbOverlap t r.1 r.2 (s.sbOf t 0 i)) = true) : s.inputWaits t i x = false := by
  rw [State.inputWaits, List.any_eq_not_all_not, h]
  rfl

/-! ## The end (R288) -/

theorem exec_suitDone {s : State} {t : TileId} {i : SlotId} {x : Suit} (hx : s.suit t i = some x)
    (hstate : s.suitState t i = suitRunning) (hdrained : x.drained = true) (hbindA : x.bind 0 = false) (hbindB : x.bind 1 = false)
    (hpost : x.post = false) :
    exec (.suitDone t i) s = .next (((s.suitFinished t i).count (Reg.suitStatDone t) 1).refreshSuits t) := by
  have hlanded : s.postLanded t i x = true := by simp [State.postLanded, hpost]
  show execSuitDone t i s = _
  simp only [execSuitDone, hx]
  rw [if_pos ⟨hstate, hdrained, by simp [hbindA, hbindB], hlanded⟩]
  rfl

theorem Reg.suitStatus_ne_statDone (t i : Nat) : Reg.suitStatus t i ≠ Reg.suitStatDone t := by
  rw [Reg.suitStatus, Reg.suitStatDone]
  omega

theorem State.suitDone_counts {s : State} {t : Nat} (hslots : s.suitSlots t) (i : Nat) :
    let u := ((s.suitFinished t i).count (Reg.suitStatDone t) 1).refreshSuits t
    s.suitLeft u t i suitDone ∧
      (u.rd (Reg.suitStatDone t)).toNat = Min.min 0xFFFFFFFF ((s.rd (Reg.suitStatDone t)).toNat + 1) := by
  have hslots' : ((s.suitFinished t i).count (Reg.suitStatDone t) 1).suitSlots t :=
    (State.suitFinished_suitSlots hslots i).of_tiles rfl
  have hword : Reg.suitStatDone t ∉ suitWords t := by
    rw [Reg.suitStatDone]
    exact notMem_suitWords_above (by omega) (by omega)
  refine ⟨((s.suitFinished_left t i).count (Reg.suitStatus_ne_statDone t i) 1).refreshSuits hslots', ?_⟩
  rw [(State.refreshSuits_onlyRegs hslots').2 _ hword, State.rd_count_one,
    State.rd_suitFinished s (Reg.suitStatus_ne_statDone t i).symm (by rw [Reg.suitStatDone]; omega)]

/-! ## SUIT_CTRL.CANCEL (R290) -/

theorem exec_suitCtrlCancel {s : State} {t : TileId} {i : SlotId} (hon : s.regOn (Reg.suitCtrl t) = true)
    (hlive : s.suitLive t i = true) :
    exec (.suitCtrlCancel t i) s = .next ((s.endSuit t i suitCancelled).refreshSuits t) := by
  show execSuitCtrlCancel t i s = _
  rw [execSuitCtrlCancel, State.ctl, if_pos hon, State.cancelSuit, if_pos hlive]

/-! ## The statement -/

/-- Settles O27, clause by clause: checks that pass or a template that is not VALID, the wait of scoreboard mode, DONE, and the
cancellation. -/
theorem suitLifeCycle : Obligations.SuitLifeCycle := by
  unfold Obligations.SuitLifeCycle
  intro s t i x hslots hx
  refine ⟨?passes, ?notValid, ?running, ?done, ?cancel⟩
  case passes =>
    intro off hstate hchecked hvalid halign hphys hopen hclean y hpass hmode hover hspan htotal hin
    exact suitIssueChecks_runs hslots hx hstate hchecked hvalid halign hphys hopen hclean hpass hmode hover
      (State.lengthWarn_within (x := y) hspan htotal hin _ t)
  case notValid =>
    intro hstate hchecked hvalid _ hover
    exact ⟨_, exec_suitIssueChecks_notValid hx hstate hchecked hvalid, State.suitFault_taskState hx hover _⟩
  case running =>
    intro hstate hchecked hentered
    refine ⟨fun hfree => ⟨_, exec_suitRunning hx hstate hchecked hentered, ?_⟩,
      fun hwaits => ⟨_, exec_suitRunning hx hstate hchecked hentered, ?_⟩⟩
    · rw [State.inputWaits_eq_false hfree]
      exact ⟨State.runSuit_suitState .., (State.runSuit_onlyRegs hslots i.isLt).onlyTile t⟩
    · have hoverlap : s.inputWaits t i x = true := hwaits
      rw [if_pos hoverlap]
      exact (State.onlyRegs.refl s _).count (by simp) 1
  case done =>
    intro hstate hdrained hbindA hbindB hpost
    obtain ⟨hleft, hcount⟩ := State.suitDone_counts hslots i
    exact ⟨_, exec_suitDone hx hstate hdrained hbindA hbindB hpost, hleft.state, hleft.gone, hleft.pocket, hcount⟩
  case cancel =>
    intro hon hlive
    obtain ⟨hleft, -⟩ := State.endSuit_refreshed hslots i.isLt (st := suitCancelled) (by decide)
    exact ⟨_, exec_suitCtrlCancel hon hlive, hleft.state, hleft.gone, hleft.pocket⟩

end Sys2Proof.Machine
end

section
/-! SUPPORT. What an instruction of the Cuff core does to its task: it is issued and counted, writes RD and goes on, or waits
(R325, R332, R347, R356). -/

namespace Sys2Proof.Machine

/-! ## Words of a task -/

theorem Reg.cuffTaskStatus_ne_cuffStatus (t k : Nat) : Reg.cuffTaskStatus t k ≠ Reg.cuffStatus t := by
  rw [Reg.cuffTaskStatus, Reg.cuffStatus]
  omega

theorem Reg.cuffTaskStatus_ne_statInstr (t k : Nat) : Reg.cuffTaskStatus t k ≠ Reg.cuffStatInstr t := by
  rw [Reg.cuffTaskStatus, Reg.cuffStatInstr]
  omega

theorem Reg.cuffStatus_ne_statInstr (t : Nat) : Reg.cuffStatus t ≠ Reg.cuffStatInstr t := by
  rw [Reg.cuffStatus, Reg.cuffStatInstr]
  omega

/-- The registers of a task lie above the words that show its state. -/
theorem Reg.cuffTaskReg_notMem_taskWords (t : Nat) {k : Nat} (hk : k < 4) (i : Nat) :
    Reg.cuffTaskReg t k i ∉ [Reg.cuffTaskStatus t k, Reg.cuffStatus t] := by
  simp only [Reg.cuffTaskReg, Reg.cuffTaskStatus, Reg.cuffStatus, List.mem_cons, List.not_mem_nil, or_false]
  omega

theorem Reg.cuffStatInstr_notMem_taskWords (t k : Nat) :
    Reg.cuffStatInstr t ∉ [Reg.cuffTaskStatus t k, Reg.cuffStatus t] := by
  simp [(Reg.cuffTaskStatus_ne_statInstr t k).symm, (Reg.cuffStatus_ne_statInstr t).symm]

theorem State.creg_congr {s u : State} {t k i : Nat} (h : u.rd (Reg.cuffTaskReg t k i) = s.rd (Reg.cuffTaskReg t k i)) :
    u.creg t k i = s.creg t k i := by
  rw [State.creg, State.creg, h]

theorem State.creg_setCreg (s : State) (t k rd i : Nat) (v : Word) :
    (s.setCreg t k rd v).creg t k i = if i = rd ∧ rd ≠ 0 then v else s.creg t k i := by
  have hreg (h : i ≠ rd) : Reg.cuffTaskReg t k i ≠ Reg.cuffTaskReg t k rd := by
    rw [Reg.cuffTaskReg, Reg.cuffTaskReg]
    omega
  by_cases hrd : rd = 0
  · simp [State.setCreg, hrd]
  · by_cases hi : i = rd
    · simp [State.setCreg, State.creg, hrd, hi]
    · rw [if_neg (fun h => hi h.1), State.setCreg, if_neg hrd]
      exact State.creg_congr (State.rd_wr_ne _ _ (hreg hi))

/-- The word of RD, where it is not c0. -/
def rdWords (t k rd : Nat) : List Nat := if rd = 0 then [] else [Reg.cuffTaskReg t k rd]

theorem State.setCreg_onlyRegs (s : State) (t k rd : Nat) (v : Word) : s.onlyRegs (s.setCreg t k rd v) (rdWords t k rd) := by
  by_cases hrd : rd = 0
  · rw [State.setCreg, if_pos hrd]
    exact State.onlyRegs.refl s _
  · rw [State.setCreg, if_neg hrd, rdWords, if_neg hrd]
    exact (State.onlyRegs.refl s _).wr (by simp) v

theorem notMem_rdWords {t k a : Nat} (rd : Nat) (h : a < 0x1004200 + 0x10000 * t + 0x80 * k) : a ∉ rdWords t k rd := by
  unfold rdWords
  split
  · exact List.not_mem_nil
  · rw [List.mem_singleton, Reg.cuffTaskReg]
    omega

/-! ## The state of a task (R347) -/

section TaskState
variable (s : State) (t k st reason : Nat)

theorem State.setTaskState_onlyRegs : s.onlyRegs (s.setTaskState t k st reason) [Reg.cuffTaskStatus t k, Reg.cuffStatus t] :=
  (((State.onlyRegs.refl s _).setFld (by simp) _ _ _).setFld (by simp) _ _ _).setBit (by simp) _ _

theorem State.setTaskState_reason {reason : Nat} (h : reason < 16) :
    (s.setTaskState t k st reason).fld (Reg.cuffTaskStatus t k) 25 4 = reason := by
  rw [State.setTaskState, State.setBit, State.fld_setFld_out _ _ _ _ _ _ (Reg.cuffTaskStatus_ne_cuffStatus t k)]
  exact State.fld_setFld_of_lt _ _ (by decide) h

theorem State.setTaskState_statusBits : s.sameBits (s.setTaskState t k st reason) (Reg.cuffTaskStatus t k) (fun j => j < 25) := by
  intro j hj
  rw [State.setTaskState, State.rd_setBit_ne _ _ _ (Reg.cuffTaskStatus_ne_cuffStatus t k),
    State.getLsbD_setFld_out _ _ _ (by omega), State.getLsbD_setFld_out _ _ _ (by omega)]

theorem State.setTaskState_activeBits : s.sameBits (s.setTaskState t k st reason) (Reg.cuffStatus t) (fun j => j ≠ k) := by
  intro j hj
  have hne := (Reg.cuffTaskStatus_ne_cuffStatus t k).symm
  rw [State.setTaskState, State.getLsbD_setBit_ne _ _ _ _ hj, State.rd_setFld_ne _ _ _ _ hne, State.rd_setFld_ne _ _ _ _ hne]

theorem State.setTaskState_pc : (s.setTaskState t k st reason).pc t k = s.pc t k :=
  (s.setTaskState_statusBits t k st reason).fld (fun _ _ => by omega)

end TaskState

/-! ## Completion (R332) -/

theorem State.complete_of_lt {s : State} {t k : Nat} (h : s.pc t k < 4095) :
    s.complete t k = (s.setPc t k (s.pc t k + 1)).setTaskState t k taskRunning 0 := by
  rw [State.complete, State.goto, if_pos (by omega)]
  rfl

theorem State.complete_of_last {s : State} {t k : Nat} (h : s.pc t k = 4095) : s.complete t k = s.illegal t k 0x03 := by
  rw [State.complete, State.goto, if_neg (by omega)]

/-- The task has gone on to the next word: beside PC, STATE and the wait reason nothing of it has changed. -/
structure State.movedOn (s u : State) (t k : Nat) : Prop where
  pc : u.pc t k = s.pc t k + 1
  state : u.taskState t k = taskRunning
  statusBits : s.sameBits u (Reg.cuffTaskStatus t k) (fun j => 12 ≤ j ∧ j < 25)
  activeBits : s.sameBits u (Reg.cuffStatus t) (fun j => j ≠ k)
  frame : s.onlyRegs u [Reg.cuffTaskStatus t k, Reg.cuffStatus t]

theorem State.complete_movedOn {s : State} {t k : Nat} (h : s.pc t k < 4095) : s.movedOn (s.complete t k) t k := by
  rw [State.complete_of_lt h]
  refine ⟨?_, State.setTaskState_taskState .., fun j hj => ?_, fun j hj => ?_, ?_⟩
  · rw [State.setTaskState_pc]
    exact State.fld_setFld_of_lt _ _ (by decide) (by omega)
  · rw [State.setTaskState_statusBits _ _ _ _ _ j hj.2, State.setPc, State.getLsbD_setFld_out _ _ _ (by omega)]
  · rw [State.setTaskState_activeBits _ _ _ _ _ j hj, State.setPc, State.rd_setFld_ne _ _ _ _
      (Reg.cuffTaskStatus_ne_cuffStatus t k).symm]
  · exact ((((State.onlyRegs.refl s _).setFld (by simp) _ _ _).setFld (by simp) _ _ _).setFld (by simp) _ _ _).setBit
      (by simp) _ _

/-! ## Issue (R356) -/

/-- CUFF_STAT_INSTR has counted an instruction. -/
def State.instrCounted (s : State) (t : Nat) : State := s.count (Reg.cuffStatInstr t) 1

theorem State.rd_instrCounted (s : State) {t a : Nat} (h : a ≠ Reg.cuffStatInstr t) : (s.instrCounted t).rd a = s.rd a :=
  State.rd_count_ne s 1 h

theorem State.instrCounted_onlyRegs (s : State) (t : Nat) : s.onlyRegs (s.instrCounted t) [Reg.cuffStatInstr t] :=
  (State.onlyRegs.refl s _).count (by simp) 1

theorem State.creg_instrCounted (s : State) (t k i : Nat) : (s.instrCounted t).creg t k i = s.creg t k i := by
  refine State.creg_congr (s.rd_instrCounted ?_)
  rw [Reg.cuffTaskReg, Reg.cuffStatInstr]
  omega

theorem State.pc_instrCounted (s : State) (t k : Nat) : (s.instrCounted t).pc t k = s.pc t k :=
  State.fld_congr (s.rd_instrCounted (Reg.cuffTaskStatus_ne_statInstr t k)) _ _

theorem State.taskOver_of_running {s : State} {t k : Nat} (h : s.taskState t k = taskRunning) : s.taskOver t k = false :=
  State.taskOver_of_canIssue (by simp [State.canIssue, h])

section Issue
variable {s : State} {t k : Nat} {w : Word} (h : s.runs t k w)
include h

theorem State.runs.taskOver : (s.instrCounted t).taskOver t k = false :=
  State.taskOver_of_running
    ((State.fld_congr (s.rd_instrCounted (Reg.cuffTaskStatus_ne_statInstr t k)) _ _).trans h.1)

/-- A task that runs issues the instruction at its PC. -/
theorem State.runs.issue_eq {c : Nat} (hc : cuffCode w = some c) (f : Word → State → State) :
    s.issue t k c f = f w (s.instrCounted t) := by
  obtain ⟨hstate, hfetch⟩ := h
  simp [State.issue, State.canIssue, hstate, hfetch, hc, State.instrCounted]

end Issue

/-! ## An instruction that writes RD -/

/-- The instruction `w` has been counted, and its RD has taken `v`. -/
def State.rdTaken (s : State) (t k : Nat) (w v : Word) : State := (s.instrCounted t).setCreg t k (rdOf w) v

theorem State.setRd_instrCounted (s : State) (t k : Nat) (w v : Word) :
    (s.instrCounted t).setRd t k w v = (s.rdTaken t k w v).complete t k := rfl

/-- The words that a completed instruction may change (R325, R356). -/
def rdCuffWords (t k rd : Nat) : List Nat := rdWords t k rd ++ [Reg.cuffTaskStatus t k, Reg.cuffStatus t, Reg.cuffStatInstr t]

section RdTaken
variable (s : State) (t k : Nat) (w v : Word)

theorem State.rd_rdTaken_low {a : Nat} (ha : a < 0x1004200 + 0x10000 * t + 0x80 * k) :
    (s.rdTaken t k w v).rd a = (s.instrCounted t).rd a :=
  (State.setCreg_onlyRegs _ t k (rdOf w) v).2 a (notMem_rdWords _ ha)

theorem State.rd_cuffTaskStatus_rdTaken : (s.rdTaken t k w v).rd (Reg.cuffTaskStatus t k) = s.rd (Reg.cuffTaskStatus t k) :=
  (s.rd_rdTaken_low t k w v (by rw [Reg.cuffTaskStatus]; omega)).trans
    (s.rd_instrCounted (Reg.cuffTaskStatus_ne_statInstr t k))

theorem State.rd_cuffStatus_rdTaken : (s.rdTaken t k w v).rd (Reg.cuffStatus t) = s.rd (Reg.cuffStatus t) :=
  (s.rd_rdTaken_low t k w v (by rw [Reg.cuffStatus]; omega)).trans (s.rd_instrCounted (Reg.cuffStatus_ne_statInstr t))

theorem State.rd_cuffStatInstr_rdTaken : ((s.rdTaken t k w v).rd (Reg.cuffStatInstr t)).toNat =
    Min.min 0xFFFFFFFF ((s.rd (Reg.cuffStatInstr t)).toNat + 1) := by
  rw [s.rd_rdTaken_low t k w v (by rw [Reg.cuffStatInstr]; omega)]
  exact State.rd_count_one s _

theorem State.pc_rdTaken : (s.rdTaken t k w v).pc t k = s.pc t k := State.fld_congr (s.rd_cuffTaskStatus_rdTaken t k w v) _ _

theorem State.creg_rdTaken (i : Nat) :
    (s.rdTaken t k w v).creg t k i = if i = rdOf w ∧ rdOf w ≠ 0 then v else s.creg t k i := by
  rw [State.rdTaken, State.creg_setCreg, State.creg_instrCounted]

theorem State.rdTaken_onlyRegs : s.onlyRegs (s.rdTaken t k w v) (rdCuffWords t k (rdOf w)) :=
  ((s.instrCounted_onlyRegs t).mono (by simp [rdCuffWords])).trans
    ((State.setCreg_onlyRegs _ t k (rdOf w) v).mono (List.subset_append_left _ _))

end RdTaken

section Issue
variable {s : State} {t k : Nat} {w : Word}

/-- RD takes `v` and the task goes on. -/
theorem State.setRd_wentOn (hk : k < 4) (hpc : s.pc t k < 4095) (w v : Word) :
    s.wentOn ((s.instrCounted t).setRd t k w v) t k (rdOf w) v (s.pc t k + 1) := by
  have hmoved := State.complete_movedOn ((s.pc_rdTaken t k w v).trans_lt hpc)
  rw [State.setRd_instrCounted]
  refine ⟨fun i => ?_, hmoved.pc.trans (congrArg (· + 1) (s.pc_rdTaken t k w v)), hmoved.state,
    fun j hj => ?_, fun j hj => ?_, ?_, ?_⟩
  · rw [State.creg_congr (hmoved.frame.2 _ (Reg.cuffTaskReg_notMem_taskWords t hk i)), State.creg_rdTaken]
  · rw [hmoved.statusBits j hj, State.rd_cuffTaskStatus_rdTaken]
  · rw [hmoved.activeBits j hj, State.rd_cuffStatus_rdTaken]
  · rw [hmoved.frame.2 _ (Reg.cuffStatInstr_notMem_taskWords t k), State.rd_cuffStatInstr_rdTaken]
  · exact (s.rdTaken_onlyRegs t k w v).trans (hmoved.frame.mono (by simp [rdCuffWords]))

/-- An instruction whose effect is to write RD does so and goes on, and aborts past word 4,095. -/
theorem State.runs.writesRd (h : s.runs t k w) {cmd : Instr} (hk : k < 4) {v : Word}
    (hexec : exec cmd s = .next ((s.instrCounted t).setRd t k w v)) : s.writesRd cmd t k w v := by
  refine ⟨fun hpc => ⟨_, hexec, State.setRd_wentOn hk hpc w v⟩, fun hpc => ⟨_, hexec, ?_⟩⟩
  have hstate : (s.rdTaken t k w v).taskState t k = taskRunning :=
    (State.fld_congr (s.rd_cuffTaskStatus_rdTaken t k w v) _ _).trans h.1
  rw [State.setRd_instrCounted, State.complete_of_last ((s.pc_rdTaken t k w v).trans hpc)]
  exact State.illegal_taskState (State.taskOver_of_running hstate) _

end Issue

/-! ## An instruction that waits (R347) -/

theorem State.wait_waitsIn (s : State) (t k : Nat) {reason : Nat} (h : reason < 16) :
    s.waitsIn ((s.instrCounted t).wait t k reason) t k reason := by
  refine ⟨State.setTaskState_taskState .., State.setTaskState_reason _ _ _ _ h, fun j hj => ?_, State.onlyRegs.onlyTile ?_ t⟩
  · rw [State.wait, State.setTaskState_statusBits _ _ _ _ _ j hj, s.rd_instrCounted (Reg.cuffTaskStatus_ne_statInstr t k)]
  · exact ((((State.onlyRegs.refl s _).count (by simp) 1).setFld (by simp) _ _ _).setFld (by simp) _ _ _).setBit (by simp) _ _

end Sys2Proof.Machine
end

section
/-! SUPPORT. SUIT, SUCAN, SUWAIT and SUSTAT (R277, R334). Settles O28. -/

namespace Sys2Proof.Machine

/-- The word of OP 0x38 names an instruction where every register that its function does not use is 0 (R334). -/
theorem cuffCode_unit {w : Word} {fn : Nat} {d a b : Bool} (hop : opOf w = 0x38) (hfn : fnOf w = fn)
    (huses : unitUses fn = some (d, a, b)) (hd : d = true ∨ rdOf w = 0) (ha : a = true ∨ raOf w = 0)
    (hb : b = true ∨ rbOf w = 0) : cuffCode w = some (code 0x38 fn) := by
  subst hfn
  simp [cuffCode, hop, huses, hd, ha, hb]

/-! ## What counting the instruction leaves -/

section Counted
variable (s : State) (t k i : Nat)

theorem State.rd_suitStatus_instrCounted : (s.instrCounted t).rd (Reg.suitStatus t i) = s.rd (Reg.suitStatus t i) := by
  refine s.rd_instrCounted ?_
  rw [Reg.suitStatus, Reg.cuffStatInstr]
  omega

theorem State.tile_instrCounted : (s.instrCounted t).tile t = s.tile t := State.tile_wr ..

theorem State.pocket_instrCounted : (s.instrCounted t).pocket = s.pocket := State.wr_pocket ..

theorem State.suitLive_instrCounted : (s.instrCounted t).suitLive t i = s.suitLive t i := by
  simp only [State.suitLive, State.suitState, State.fld_congr (s.rd_suitStatus_instrCounted t i)]

theorem State.suitTask_instrCounted : (s.instrCounted t).suitTask t i = s.suitTask t i :=
  State.fld_congr (s.rd_suitStatus_instrCounted t i) _ _

theorem State.freeSuit_instrCounted : (s.instrCounted t).freeSuit t = s.freeSuit t := by
  simp only [State.freeSuit, State.suitLive_instrCounted]

theorem State.opA_instrCounted (w : Word) : (s.instrCounted t).opA t k w = s.creg t k (raOf w) := s.creg_instrCounted t k _

theorem State.opB_instrCounted (w : Word) : (s.instrCounted t).opB t k w = s.creg t k (rbOf w) := s.creg_instrCounted t k _

end Counted

/-! ## SUIT (R277) -/

/-- The suit of task `k` as it stands at issue: the template's words copied, its checks to come. -/
def State.issuedSuit (s : State) (t k tpl off : Nat) : Suit :=
  { task := k, order := (s.tile t).suitSeq, tplIdx := tpl,
    tpl := [(s.rd (Reg.suitTplW0 t tpl)).toNat, (s.rd (Reg.suitTplW1 t tpl)).toNat, (s.rd (Reg.suitTplW2 t tpl)).toNat,
            (s.rd (Reg.suitTplW3 t tpl)).toNat],
    opOff := off, op := [], checked := false, entered := false, run := SuitRun.init }

theorem State.takeSuit_suit (s : State) (t k i tpl off : Nat) :
    (s.takeSuit t k i tpl off).suit t i = some (s.issuedSuit t k tpl off) := by
  have htiles : (s.takeSuit t k i tpl off).tiles = (s.setTile t { s.tile t with
      suitSeq := (s.tile t).suitSeq + 1, suits := tset (s.tile t).suits i (s.issuedSuit t k tpl off) }).tiles := rfl
  rw [State.suit_of_tiles htiles, State.suit, State.tile_setTile_self, tfind_tset_self]

theorem State.pocket_takeSuit (s : State) (t k i tpl off : Nat) : (s.takeSuit t k i tpl off).pocket = s.pocket := rfl

/-- The word in which a suit slot shows a suit that waits. -/
theorem fieldOf_waitingStatus {tpl k : Nat} (htpl : tpl < 32) (hk : k < 4) :
    fieldOf (BitVec.ofNat 32 (suitWaiting * 0x20000000 + tpl * 0x1000000 + k * 0x10000)) 29 3 = suitWaiting := by
  have h : (BitVec.ofNat 32 (suitWaiting * 0x20000000 + tpl * 0x1000000 + k * 0x10000)).toNat / 2 ^ 29 % 2 ^ 3 =
      suitWaiting := by
    rw [BitVec.toNat_ofNat, suitWaiting]
    omega
  rw [fieldOf, BitVec.extractLsb'_toNat, Nat.shiftRight_eq_div_pow, h]

theorem State.takeSuit_suitState (s : State) (t : Nat) {k tpl : Nat} (i off : Nat) (hk : k < 4) (htpl : tpl < 32) :
    (s.takeSuit t k i tpl off).suitState t i = suitWaiting := by
  have hissued : Reg.suitStatus t i ≠ Reg.suitStatIssued t := by
    rw [Reg.suitStatus, Reg.suitStatIssued]
    omega
  have haddr : Reg.suitStatus t i ≠ Reg.suitOpaddr t i := by
    rw [Reg.suitStatus, Reg.suitOpaddr]
    omega
  rw [State.takeSuit, State.suitState, State.fld, State.rd_count_ne _ _ hissued, State.rd_wr_ne _ _ haddr, State.rd_wr_self]
  exact fieldOf_waitingStatus htpl hk

theorem State.suit_setTask (s : State) (t k i : Nat) (x : Task) : (s.setTask t k x).suit t i = s.suit t i := by
  rw [State.setTask, State.suit, State.tile_setTile_self, State.suit]

theorem State.suitState_setTask (s : State) (t k i : Nat) (x : Task) : (s.setTask t k x).suitState t i = s.suitState t i :=
  State.fld_congr (s.rd_setTile t _ _) _ _

theorem State.task_of_tiles {s u : State} (h : u.tiles = s.tiles) (t k : Nat) : u.task t k = s.task t k := by
  rw [State.task, State.tile, h, State.task, State.tile]

theorem State.task_setTask_self (s : State) (t k : Nat) (x : Task) : (s.setTask t k x).task t k = x := by
  rw [State.setTask, State.task, State.tile_setTile_self, tget_tset_self]

/-- The suit that the word `w` issues has taken slot `i`, and its task names it. -/
def State.suitTaken (s : State) (t k : Nat) (w : Word) (i : Nat) : State :=
  let u := s.takeSuit t k i ((s.opB t k w).toNat % 32) (s.opA t k w).toNat
  u.setTask t k { u.task t k with suit := some (i, (s.tile t).suitSeq) }

section SuitTaken
variable (s : State) (t k : Nat) (w : Word) (i : Nat)

theorem State.task_suitTaken : ((s.suitTaken t k w i).task t k).suit = some (i, (s.tile t).suitSeq) := by
  rw [State.suitTaken, State.task_setTask_self]

theorem State.pocket_suitTaken : (s.suitTaken t k w i).pocket = s.pocket := by
  rw [State.suitTaken, State.setTask, State.setTile, State.pocket_takeSuit]

theorem State.suit_suitTaken :
    (s.suitTaken t k w i).suit t i = some (s.issuedSuit t k ((s.opB t k w).toNat % 32) (s.opA t k w).toNat) := by
  rw [State.suitTaken, State.suit_setTask, State.takeSuit_suit]

theorem State.suitState_suitTaken (hk : k < 4) : (s.suitTaken t k w i).suitState t i = suitWaiting := by
  rw [State.suitTaken, State.suitState_setTask]
  exact s.takeSuit_suitState t i _ hk (Nat.mod_lt _ (by decide))

end SuitTaken

theorem Reg.suitStatus_notMem_taskWords (t k i : Nat) :
    Reg.suitStatus t i ∉ [Reg.cuffTaskStatus t k, Reg.cuffStatus t] := by
  simp only [Reg.suitStatus, Reg.cuffTaskStatus, Reg.cuffStatus, List.mem_cons, List.not_mem_nil, or_false]
  omega

section Instruction
variable {s : State} {t : TileId} {k : SlotId} {w : Word} (hruns : s.runs t k w) (hop : opOf w = 0x38)
include hruns hop

theorem exec_suit_takes {i : Nat} (hfn : fnOf w = 0) (hnone : (s.task t k).suit = none) (hstores : s.storesWait t k = false)
    (hfree : s.freeSuit t = some i) : exec (.suit t k) s = .next (((s.instrCounted t).suitTaken t k w i).wait t k 1) := by
  have hcode := cuffCode_unit hop hfn rfl (.inl rfl) (.inl rfl) (.inl rfl)
  have hfree' : (s.instrCounted t).freeSuit t = some i := (s.freeSuit_instrCounted t).trans hfree
  have hnone' : ((s.instrCounted t).task t k).suit = none := hnone
  have hstores' : (s.instrCounted t).storesWait t k = false := hstores
  show execSuit t k s = _
  rw [execSuit, hruns.issue_eq hcode]
  simp only [hnone', hstores', hfree', Bool.false_eq_true, if_false]
  rfl

theorem suit_takesSlot {i : Nat} (hfn : fnOf w = 0) (hnone : (s.task t k).suit = none) (hstores : s.storesWait t k = false)
    (hfree : s.freeSuit t = some i) : Answers (.suit t k) s (fun u => u.suitState t i = suitWaiting ∧
      (u.task t k).suit = some (i, (s.tile t).suitSeq) ∧ u.taskState t k = taskWaiting ∧ u.pocket = s.pocket ∧
      ∃ x, u.suit t i = some x ∧ x.task = k.val ∧ x.opOff = (s.creg t k (raOf w)).toNat ∧
        x.tplIdx = (s.creg t k (rbOf w)).toNat % 32 ∧ x.checked = false) := by
  have hwait := State.setTaskState_onlyRegs ((s.instrCounted t).suitTaken t k w i) t k taskWaiting 1
  refine ⟨_, exec_suit_takes hruns hop hfn hnone hstores hfree, ?_, ?_, State.setTaskState_taskState .., ?_,
    (s.instrCounted t).issuedSuit t k ((s.creg t k (rbOf w)).toNat % 32) (s.creg t k (raOf w)).toNat, ?_, rfl, rfl, rfl, rfl⟩
  · exact (State.fld_congr (hwait.2 _ (Reg.suitStatus_notMem_taskWords t k i)) _ _).trans
      (State.suitState_suitTaken _ t k w i k.isLt)
  · rw [State.wait, State.task_of_tiles hwait.tiles, State.task_suitTaken, State.tile_instrCounted]
  · rw [State.wait, hwait.1, State.pocket_suitTaken, State.pocket_instrCounted]
  · rw [State.wait, State.suit_of_tiles hwait.tiles, State.suit_suitTaken, State.opA_instrCounted, State.opB_instrCounted]

/-! ## SUCAN (R290) -/

theorem exec_sucan_own (hfn : fnOf w = 1) (hrd : rdOf w = 0) (hrb : rbOf w = 0)
    (hlive : s.suitLive t ((s.creg t k (raOf w)).toNat % 4) = true)
    (htask : s.suitTask t ((s.creg t k (raOf w)).toNat % 4) = k.val) :
    exec (.sucan t k) s = .next ((((s.instrCounted t).endSuit t ((s.creg t k (raOf w)).toNat % 4)
      suitCancelled).refreshSuits t).complete t k) := by
  have hcode := cuffCode_unit hop hfn rfl (.inr hrd) (.inl rfl) (.inr hrb)
  show execSucan t k s = _
  rw [execSucan, hruns.issue_eq hcode, State.opA_instrCounted]
  simp only [State.suitLive_instrCounted, State.suitTask_instrCounted, hlive, htask, if_true]

theorem exec_sucan_foreign (hfn : fnOf w = 1) (hrd : rdOf w = 0) (hrb : rbOf w = 0)
    (hlive : s.suitLive t ((s.creg t k (raOf w)).toNat % 4) = true)
    (htask : s.suitTask t ((s.creg t k (raOf w)).toNat % 4) ≠ k.val) :
    exec (.sucan t k) s = .next ((s.instrCounted t).illegal t k 0x05) := by
  have hcode := cuffCode_unit hop hfn rfl (.inr hrd) (.inl rfl) (.inr hrb)
  show execSucan t k s = _
  rw [execSucan, hruns.issue_eq hcode, State.opA_instrCounted]
  simp only [State.suitLive_instrCounted, State.suitTask_instrCounted, hlive, htask, if_true, if_false]

theorem sucan_cancels (hslots : s.suitSlots t) (hfn : fnOf w = 1) (hrd : rdOf w = 0) (hrb : rbOf w = 0)
    (hlive : s.suitLive t ((s.creg t k (raOf w)).toNat % 4) = true)
    (htask : s.suitTask t ((s.creg t k (raOf w)).toNat % 4) = k.val) (hpc : s.pc t k < 4095) :
    Answers (.sucan t k) s (fun u => u.suitState t ((s.creg t k (raOf w)).toNat % 4) = suitCancelled ∧
      u.suit t ((s.creg t k (raOf w)).toNat % 4) = none ∧ u.pc t k = s.pc t k + 1 ∧ u.pocket = s.pocket) := by
  have hslots' : (s.instrCounted t).suitSlots t := hslots
  obtain ⟨hleft, hcuff⟩ := State.endSuit_refreshed hslots' (Nat.mod_lt (s.creg t k (raOf w)).toNat (by decide : 0 < 4))
    (st := suitCancelled) (by decide)
  have hstatus : Reg.cuffTaskStatus t k ∈ Reg.cuffBlock t := by
    have hk := k.isLt
    rw [Reg.cuffBlock, Set.mem_Ico, Reg.cuffTaskStatus]
    omega
  have hpc' := (State.fld_congr (hcuff _ hstatus) 0 12).trans (s.pc_instrCounted t k)
  have hmoved := State.complete_movedOn (hpc'.trans_lt hpc)
  have hleft' := hleft.onlyRegs hmoved.frame (Reg.suitStatus_notMem_taskWords t k _)
  exact ⟨_, exec_sucan_own hruns hop hfn hrd hrb hlive htask, hleft'.state, hleft'.gone,
    hmoved.pc.trans (congrArg (· + 1) hpc'), hleft'.pocket⟩

/-! ## SUWAIT and SUSTAT -/

theorem exec_suwait (hfn : fnOf w = 2) (hrb : rbOf w = 0) : exec (.suwait t k) s =
    .next (if s.suitLive t ((s.creg t k (raOf w)).toNat % 4) then (s.instrCounted t).wait t k 10
      else (s.instrCounted t).setRd t k w (s.rd (Reg.suitStatus t ((s.creg t k (raOf w)).toNat % 4)))) := by
  have hcode := cuffCode_unit hop hfn rfl (.inl rfl) (.inl rfl) (.inr hrb)
  show execSuwait t k s = _
  rw [execSuwait, hruns.issue_eq hcode, State.opA_instrCounted]
  simp only [State.suitLive_instrCounted, State.rd_suitStatus_instrCounted]

theorem exec_sustat (hfn : fnOf w = 3) (hrb : rbOf w = 0) : exec (.sustat t k) s =
    .next ((s.instrCounted t).setRd t k w (s.rd (Reg.suitStatus t ((s.creg t k (raOf w)).toNat % 4)))) := by
  have hcode := cuffCode_unit hop hfn rfl (.inl rfl) (.inl rfl) (.inr hrb)
  show execSustat t k s = _
  rw [execSustat, hruns.issue_eq hcode, State.opA_instrCounted, State.rd_suitStatus_instrCounted]

end Instruction

/-! ## The statement -/

/-- Settles O28, instruction by instruction. -/
theorem suitInstructions : Obligations.SuitInstructions := by
  unfold Obligations.SuitInstructions
  intro s t k w hruns hop i
  refine ⟨fun hfn hnone hstores j hfree => suit_takesSlot hruns hop hfn hnone hstores hfree,
    fun hfn hrd hrb hlive htask hpc hslots => sucan_cancels hruns hop hslots hfn hrd hrb hlive htask hpc,
    fun hfn hrd hrb hlive htask => ⟨_, exec_sucan_foreign hruns hop hfn hrd hrb hlive htask,
      State.illegal_taskState hruns.taskOver _⟩,
    fun hfn hrb hended => hruns.writesRd k.isLt ?_, fun hfn hrb hlive => ⟨_, exec_suwait hruns hop hfn hrb, ?_⟩,
    fun hfn hrb => hruns.writesRd k.isLt (exec_sustat hruns hop hfn hrb)⟩
  · rw [exec_suwait hruns hop hfn hrb, if_neg (by simpa using hended)]
  · rw [if_pos hlive]
    exact s.wait_waitsIn t k (by decide)

end Sys2Proof.Machine
end

section
/-! SUPPORT. The Shawl ring of a tile: the words that describe it, its mover, and an instruction of the Cuff core that completes
or faults (R309-R314, R320, R332). -/

namespace Sys2Proof.Machine

/-! ## An instruction that completes or faults -/

/-- The task goes on with the next word after an effect that left its status as it was. -/
theorem State.complete_nextWord {s u : State} {t k : Nat} (h : u.rd (Reg.cuffTaskStatus t k) = s.rd (Reg.cuffTaskStatus t k))
    (hpc : s.pc t k < 4095) : s.nextWord (u.complete t k) t k := by
  have hpc' : u.pc t k = s.pc t k := State.fld_congr h _ _
  have hmoved := State.complete_movedOn (hpc'.trans_lt hpc)
  exact ⟨hmoved.state, hmoved.pc.trans (congrArg (· + 1) hpc')⟩

theorem State.complete_onlyRegs {s u : State} {t k : Nat} (h : u.rd (Reg.cuffTaskStatus t k) = s.rd (Reg.cuffTaskStatus t k))
    (hpc : s.pc t k < 4095) : u.onlyRegs (u.complete t k) [Reg.cuffTaskStatus t k, Reg.cuffStatus t] :=
  (State.complete_movedOn ((State.fld_congr h 0 12).trans_lt hpc)).frame

/-- A Yoke or Shawl fault aborts the task it is charged to (R320). -/
theorem State.yokeFault_taskState {s : State} {t k : Nat} (h : s.taskOver t k = false) (code sub : Nat) :
    (s.yokeFault t k code sub).taskState t k = taskAborted := by
  rw [State.yokeFault]
  exact State.chargeTask_taskState h ..

theorem State.taskOver_congr {s u : State} {t k : Nat} (h : u.rd (Reg.cuffTaskStatus t k) = s.rd (Reg.cuffTaskStatus t k)) :
    u.taskOver t k = s.taskOver t k := by
  have hstate : u.taskState t k = s.taskState t k := State.fld_congr h _ _
  rw [State.taskOver, hstate, State.taskOver]

/-- A word of a panel block is none in which the Cuff core of a tile shows a task. -/
theorem notMem_cuffWords_of_panel (t : TileId) (k : SlotId) {a : Nat} (ha : 0x2000000 ≤ a) : a ∉ cuffWords t k := by
  have ht := t.isLt
  have hk := k.isLt
  simp only [cuffWords, Reg.cuffTaskStatus, Reg.cuffStatus, Reg.cuffStatInstr, List.mem_cons, List.not_mem_nil, or_false]
  omega

theorem cuffTaskStatus_ne_panel (t : TileId) (k : SlotId) {a : Nat} (ha : 0x2000000 ≤ a) : Reg.cuffTaskStatus t k ≠ a :=
  fun e => notMem_cuffWords_of_panel t k ha (e ▸ List.mem_cons_self)

theorem State.rd_instrCounted_panel (s : State) (t : TileId) {a : Nat} (ha : 0x2000000 ≤ a) :
    (s.instrCounted t).rd a = s.rd a := by
  refine s.rd_instrCounted ?_
  have ht := t.isLt
  rw [Reg.cuffStatInstr]
  omega

theorem State.rd_complete_panel {s u : State} {t : TileId} {k : SlotId}
    (h : u.rd (Reg.cuffTaskStatus t k) = s.rd (Reg.cuffTaskStatus t k)) (hpc : s.pc t k < 4095) {a : Nat} (ha : 0x2000000 ≤ a) :
    (u.complete t k).rd a = u.rd a := by
  refine (State.complete_onlyRegs h hpc).2 a (fun hmem => notMem_cuffWords_of_panel t k ha ?_)
  exact List.mem_append_left [Reg.cuffStatInstr t] hmem

/-! ## The words that describe a ring (R309) -/

/-- The RESIDENCY entry of tile `t` stands in both states. -/
def State.sameRing (s u : State) (t : Nat) : Prop :=
  ∀ i < 8, u.rd (Reg.shawlTileW (t / 64) (t % 64) i) = s.rd (Reg.shawlTileW (t / 64) (t % 64) i)

section Ring
variable {s u : State} {t : Nat} (h : s.sameRing u t)
include h

theorem State.sameRing.shW {i : Nat} (hi : i < 8) : u.shW t i = s.shW t i := by rw [State.shW, h i hi, State.shW]
theorem State.sameRing.shF : u.shF t = s.shF t := by rw [State.shF, h.shW (by decide), State.shF]
theorem State.sameRing.shSlot : u.shSlot t = s.shSlot t := by rw [State.shSlot, h.shW (by decide), State.shSlot]
theorem State.sameRing.shQueue : u.shQueue t = s.shQueue t := by rw [State.shQueue, h.shW (by decide), State.shQueue]
theorem State.sameRing.shRlen : u.shRlen t = s.shRlen t := by rw [State.shRlen, h.shW (by decide), State.shRlen]
theorem State.sameRing.shG : u.shG t = s.shG t := by rw [State.shG, h.shW (by decide), State.shG]
theorem State.sameRing.shNseg : u.shNseg t = s.shNseg t := by rw [State.shNseg, h.shF, State.shNseg]

theorem State.sameRing.shawlSlot : u.shawlSlot t = s.shawlSlot t := by
  have hall : (List.range 8).all (fun i => u.rd (Reg.shawlTileW (t / 64) (t % 64) i) == 0) =
      (List.range 8).all (fun i => s.rd (Reg.shawlTileW (t / 64) (t % 64) i) == 0) := by
    rw [Bool.eq_iff_iff, List.all_eq_true, List.all_eq_true]
    exact forall₂_congr (fun i hi => by rw [h i (List.mem_range.1 hi)])
  rw [State.shawlSlot, hall, State.fld_congr (h 1 (by decide)), State.shawlSlot]

/-- The offset of a segment slot hangs on the ring's words and on the base of its task's slot (R311). -/
theorem State.sameRing.shSlotOff
    (hbase : u.rd (Reg.pocketSlotBase t (s.shSlot t)) = s.rd (Reg.pocketSlotBase t (s.shSlot t))) (k : Nat) :
    u.shSlotOff t k = s.shSlotOff t k := by
  rw [State.shSlotOff, h.shSlot, hbase, h.shNseg, h.shW (by decide), h.shW (by decide), h.shG, State.shSlotOff]

theorem State.sameRing.trans {v : State} (h' : u.sameRing v t) : s.sameRing v t := fun i hi => (h' i hi).trans (h i hi)

end Ring

/-- The RESIDENCY entries stand where only words outside them have changed. -/
theorem State.sameRing_of_rd {s u : State} (t : Nat) (h : ∀ a, 0x2000000 ≤ a → a % 0x10000 < 0x6800 → u.rd a = s.rd a) :
    s.sameRing u t := fun i hi => by
  refine h _ ?_ ?_ <;> rw [Reg.shawlTileW] <;> omega

theorem shStat_ne_shProg (t : Nat) : shStat t ≠ shProg t := by
  rw [shStat, shProg, Reg.shawlStatus, Reg.shawlProgress]
  omega

theorem shStat_panel (t : Nat) : 0x2000000 ≤ shStat t := by
  rw [shStat, Reg.shawlStatus]
  omega

theorem shProg_panel (t : Nat) : 0x2000000 ≤ shProg t := by
  rw [shProg, Reg.shawlProgress]
  omega

theorem State.shTurn_congr {s u : State} {t : Nat} (h : u.rd (shStat t) = s.rd (shStat t)) : u.shTurn t = s.shTurn t :=
  State.fld_congr h _ _

/-! ## The mover of a tile -/

@[simp] theorem State.shawl_setShawl_self (s : State) (t : Nat) (x : Shawl) : (s.setShawl t x).shawl t = x := by
  rw [State.setShawl, State.shawl, State.tile_setTile_self]

theorem State.shawl_setShawl_ne (s : State) {t j : Nat} (x : Shawl) (h : j ≠ t) : (s.setShawl t x).shawl j = s.shawl j := by
  rw [State.setShawl, State.shawl, State.tile_setTile_ne _ _ h, State.shawl]

theorem State.shawl_of_tiles {s u : State} (h : u.tiles = s.tiles) (t : Nat) : u.shawl t = s.shawl t := by
  rw [State.shawl, State.tile, h, State.shawl, State.tile]

theorem State.shawl_setSends (s : State) (t : Nat) (x : Shawl) : (s.setSends t x).shawl t = x :=
  (State.shawl_of_tiles rfl t).trans (s.shawl_setShawl_self t x)

theorem State.rd_setSends (s : State) {t a : Nat} (x : Shawl) (h : a ≠ shProg t) : (s.setSends t x).rd a = s.rd a :=
  State.rd_setFld_ne _ _ _ _ h

/-- A revolution with a segment still to be sent goes on (R314). -/
theorem State.shSettle_of_sends {s : State} {t : Nat} (h : (s.shawl t).sends ≠ []) : s.shSettle t = s := by
  rw [State.shSettle]
  simp [h]

/-- Settling touches no byte, no segment on its way, and of the register words at most ACTIVE (R314). -/
theorem State.shSettle_spec (s : State) (t : Nat) : (s.shSettle t).pocket = s.pocket ∧
    (∀ j, ((s.shSettle t).shawl j).arriving = (s.shawl j).arriving) ∧ (∀ a ≠ shStat t, (s.shSettle t).rd a = s.rd a) ∧
    s.sameBits (s.shSettle t) (shStat t) (fun j => j ≠ 31) := by
  unfold State.shSettle
  dsimp only
  split
  · refine ⟨rfl, fun j => ?_, fun a ha => State.rd_setBit_ne _ _ _ ha, fun j hj => State.getLsbD_setBit_ne _ _ _ _ hj⟩
    change ((s.setShawl t { s.shawl t with free := [] }).shawl j).arriving = _
    by_cases hj : j = t
    · rw [hj, State.shawl_setShawl_self]
    · rw [State.shawl_setShawl_ne _ _ hj]
  · exact ⟨rfl, fun _ => rfl, fun _ _ => rfl, fun _ _ => rfl⟩

theorem State.fld_shSettle (s : State) (t a : Nat) {lo len : Nat} (h : lo + len ≤ 31) :
    (s.shSettle t).fld a lo len = s.fld a lo len := by
  obtain ⟨-, -, hrd, hbits⟩ := s.shSettle_spec t
  by_cases ha : a = shStat t
  · rw [ha]
    exact hbits.fld (fun _ _ => by omega)
  · exact State.fld_congr (hrd a ha) _ _

end Sys2Proof.Machine
end

section
/-! SUPPORT. SHBEG, SHREL, SHQRY and SHWAIT (R312, R314, R317). Settles O38. -/

namespace Sys2Proof.Machine

/-! ## What counting the instruction leaves of the ring -/

theorem State.sameRing_instrCounted (s : State) (t : TileId) : s.sameRing (s.instrCounted t) t :=
  State.sameRing_of_rd t (fun _ ha _ => s.rd_instrCounted_panel t ha)

theorem State.rd_shStat_instrCounted (s : State) (t : TileId) : (s.instrCounted t).rd (shStat t) = s.rd (shStat t) :=
  s.rd_instrCounted_panel t (shStat_panel t)

theorem State.rd_shProg_instrCounted (s : State) (t : TileId) : (s.instrCounted t).rd (shProg t) = s.rd (shProg t) :=
  s.rd_instrCounted_panel t (shProg_panel t)

theorem State.rd_taskStatus_instrCounted (s : State) (t k : Nat) :
    (s.instrCounted t).rd (Reg.cuffTaskStatus t k) = s.rd (Reg.cuffTaskStatus t k) :=
  s.rd_instrCounted (Reg.cuffTaskStatus_ne_statInstr t k)

theorem State.rd_placketQCfg_instrCounted (s : State) (t q : Nat) :
    (s.instrCounted t).rd (Reg.placketQCfg t q) = s.rd (Reg.placketQCfg t q) := by
  refine s.rd_instrCounted ?_
  rw [Reg.placketQCfg, Reg.cuffStatInstr]
  omega

/-! ## The four ring operations are for the ring's slot (R312) -/

section RingOp
variable {s : State} {t : TileId} {k : SlotId} {w : Word} (hruns : s.runs t k w) {cmd : Instr} {c : Nat}
  {f : Word → State → State} (hexec : exec cmd s = .next (s.issue t k c (fun w s => s.shOwn t k (f w))))
  (hcode : cuffCode w = some c)

include hruns hexec hcode

theorem ringOp_foreign_aborts (hslot : s.shawlSlot t ≠ some k.val) :
    Answers cmd s (fun u => u.taskState t k = taskAborted) := by
  refine ⟨_, hexec, ?_⟩
  rw [hruns.issue_eq hcode, State.shOwn, if_neg (by rwa [(s.sameRing_instrCounted t).shawlSlot])]
  exact State.yokeFault_taskState hruns.taskOver _ _

theorem exec_ringOp_own (hslot : s.shawlSlot t = some k.val) : exec cmd s = .next (f w (s.instrCounted t)) := by
  rw [hexec, hruns.issue_eq hcode, State.shOwn, if_pos (by rwa [(s.sameRing_instrCounted t).shawlSlot])]

end RingOp

/-! ## The spill descriptors (R254, R317) -/

theorem State.shQueue_lt (s : State) (t : Nat) : s.shQueue t < 16 := Nat.mod_lt _ (by decide)

theorem notMem_queueWords_of_panel (t : TileId) {q a : Nat} (hq : q < 16) (ha : 0x2000000 ≤ a) : a ∉ queueWords t q := by
  have ht := t.isLt
  simp only [queueWords, Reg.placketQStatus, Reg.placketQHeadlen, Reg.placketQCredits, Reg.placketStatus, List.mem_cons,
    List.not_mem_nil, or_false]
  omega

theorem placketQCfg_notMem_queueWords (t : Nat) (q j : Nat) : Reg.placketQCfg t q ∉ queueWords t j := by
  simp only [queueWords, Reg.placketQCfg, Reg.placketQStatus, Reg.placketQHeadlen, Reg.placketQCredits, Reg.placketStatus,
    List.mem_cons, List.not_mem_nil, or_false]
  omega

theorem placketQCfg_below_panel (t : TileId) {q : Nat} (hq : q < 16) : Reg.placketQCfg t q < 0x2000000 := by
  have ht := t.isLt
  rw [Reg.placketQCfg]
  omega

/-- The descriptors `ds` have entered the ring's spill queue; of the register words, at most that queue's differ. -/
structure State.spilled (s u : State) (t : Nat) (ds : List Desc) : Prop where
  rd : ∀ a ∉ queueWords t (s.shQueue t), u.rd a = s.rd a
  fifo : (u.queue t (s.shQueue t)).fifo = (s.queue t (s.shQueue t)).fifo ++ ds

theorem State.enqueue_spilled (s : State) (t : Nat) (d : Desc) : s.spilled (s.enqueue t (s.shQueue t) d) t [d] where
  rd := (State.refreshQ_onlyRegs _ t (s.shQueue t)).2
  fifo := by rw [State.enqueue, State.queue_refreshQ, State.queue_setQueue_self]

section Spilled
variable {s u : State} {t : TileId} {ds : List Desc} (h : s.spilled u t ds)
include h

theorem State.spilled.rd_panel {a : Nat} (ha : 0x2000000 ≤ a) : u.rd a = s.rd a :=
  h.rd a (notMem_queueWords_of_panel t (s.shQueue_lt t) ha)

theorem State.spilled.sameRing : s.sameRing u t := State.sameRing_of_rd t (fun _ ha _ => h.rd_panel ha)

theorem State.spilled.qOwner : u.qOwner t (s.shQueue t) = s.qOwner t (s.shQueue t) :=
  State.fld_congr (h.rd _ (placketQCfg_notMem_queueWords t _ _)) _ _

theorem State.spilled.taskStatus (k : Nat) : u.rd (Reg.cuffTaskStatus t k) = s.rd (Reg.cuffTaskStatus t k) :=
  h.rd _ (cuffTaskStatus_notMem_queueWords t k _)

theorem State.spilled.trans {v : State} {es : List Desc} (h' : u.spilled v t es) : s.spilled v t (ds ++ es) := by
  have hrd := h'.rd
  have hfifo := h'.fifo
  rw [h.sameRing.shQueue] at hrd hfifo
  exact ⟨fun a ha => (hrd a ha).trans (h.rd a ha), by rw [hfifo, h.fifo, List.append_assoc]⟩

end Spilled

theorem State.issueSpill_of_resident {s : State} {t : Nat} (h : s.shF t = 0) (turn : Nat) : s.issueSpill t turn = s := if_pos h

/-- A spill descriptor that fails a check aborts the queue's owner; any other enters the queue (R254). -/
theorem State.issueSpill_cases {s : State} {t k : Nat} (hF : s.shF t ≠ 0) (howner : s.qOwner t (s.shQueue t) = k)
    (hover : s.taskOver t k = false) (turn : Nat) :
    (s.issueSpill t turn).taskState t k = taskAborted ∨ ∃ d, s.spilled (s.issueSpill t turn) t [d] := by
  rw [State.issueSpill, if_neg hF]
  dsimp only
  split
  · rw [← howner] at hover ⊢
    exact .inl (State.queueFault_taskState hover _ _ _)
  · exact .inr ⟨_, s.enqueue_spilled t _⟩

theorem State.taskOver_of_aborted {s : State} {t k : Nat} (h : s.taskState t k = taskAborted) : s.taskOver t k = true := by
  simp [State.taskOver, h]

/-! ## SHBEG (R312, R317) -/

/-- The revolution stands at turn 0 with every resident segment in place, and the landing slot is free. -/
def State.shBegun (s : State) (t : Nat) : State :=
  let u := s.wr (shStat t) (BitVec.ofNat 32 (0x80000000 + s.shNseg t * 0x200))
  (u.wr (shProg t) 0).setShawl t { Shawl.init with free := [u.shNseg t] }

/-- The spill descriptors of the first two turns are issued, and the instruction completes where none has failed. -/
def State.spillsIssued (s : State) (t k : Nat) : State :=
  let s := s.issueSpill t 0
  let s := if s.taskOver t k || s.shRlen t ≤ 1 then s else s.issueSpill t 1
  if s.taskOver t k then s else s.complete t k

theorem State.rd_shBegun (s : State) {t a : Nat} (h : a ≠ shStat t) (h' : a ≠ shProg t) : (s.shBegun t).rd a = s.rd a :=
  (State.rd_wr_ne _ _ h').trans (State.rd_wr_ne _ _ h)

theorem State.rd_shStat_shBegun (s : State) (t : Nat) :
    (s.shBegun t).rd (shStat t) = BitVec.ofNat 32 (0x80000000 + s.shNseg t * 0x200) :=
  (State.rd_wr_ne _ _ (shStat_ne_shProg t)).trans (State.rd_wr_self ..)

theorem State.rd_shProg_shBegun (s : State) (t : Nat) : (s.shBegun t).rd (shProg t) = 0 := State.rd_wr_self ..

theorem State.sameRing_wr_shStat (s : State) (t : Nat) (v : Word) : s.sameRing (s.wr (shStat t) v) t :=
  State.sameRing_of_rd t (fun a _ ha => State.rd_wr_ne _ _ (fun e => by
    rw [e, shStat, Reg.shawlStatus] at ha
    omega))

theorem State.sameRing_shBegun (s : State) (t : Nat) : s.sameRing (s.shBegun t) t :=
  State.sameRing_of_rd t (fun a _ ha => s.rd_shBegun
    (fun e => by
      rw [e, shStat, Reg.shawlStatus] at ha
      omega)
    (fun e => by
      rw [e, shProg, Reg.shawlProgress] at ha
      omega))

theorem State.shawl_shBegun (s : State) (t : Nat) : (s.shBegun t).shawl t = { Shawl.init with free := [s.shNseg t] } := by
  rw [State.shBegun, State.shawl_setShawl_self, (s.sameRing_wr_shStat t _).shNseg]

theorem State.rd_cuff_shBegun (s : State) (t : TileId) (k : SlotId) {a : Nat} (ha : a ∈ cuffWords t k) :
    (s.shBegun t).rd a = s.rd a := by
  refine s.rd_shBegun ?_ ?_ <;> rintro rfl
  · exact notMem_cuffWords_of_panel t k (shStat_panel t) ha
  · exact notMem_cuffWords_of_panel t k (shProg_panel t) ha

theorem State.queue_setShawl (s : State) (t q : Nat) (x : Shawl) : (s.setShawl t x).queue t q = s.queue t q :=
  State.queue_setTile (by rfl) q

theorem State.spillsIssued_of_resident {s : State} {t k : Nat} (hF : s.shF t = 0) (hover : s.taskOver t k = false) :
    s.spillsIssued t k = s.complete t k := by
  simp only [State.spillsIssued, State.issueSpill_of_resident hF, ite_self, hover, Bool.false_eq_true, if_false]

/-- Either a spill descriptor has failed and the task has aborted, or the descriptors stand in the queue. -/
theorem State.spillsIssued_cases {s : State} {t : TileId} {k : SlotId} (hF : s.shF t ≠ 0)
    (howner : s.qOwner t (s.shQueue t) = k) (hover : s.taskOver t k = false) :
    (s.spillsIssued t k).taskState t k = taskAborted ∨
      ∃ v ds, ds ≠ [] ∧ s.spilled v t ds ∧ s.spillsIssued t k = v.complete t k := by
  unfold State.spillsIssued
  dsimp only
  rcases State.issueSpill_cases hF howner hover 0 with habort | ⟨d, hd⟩
  · simp only [State.taskOver_of_aborted habort, Bool.true_or, if_true]
    exact .inl habort
  · have hover' := (State.taskOver_congr (hd.taskStatus k)).trans hover
    simp only [hover', Bool.false_or, decide_eq_true_eq]
    split
    · exact .inr ⟨_, [d], by simp, hd, if_neg (by simp [hover'])⟩
    · have howner' : (s.issueSpill t 0).qOwner t ((s.issueSpill t 0).shQueue t) = k := by
        rw [hd.sameRing.shQueue, hd.qOwner, howner]
      rcases State.issueSpill_cases (by rwa [hd.sameRing.shF]) howner' hover' 1 with habort | ⟨d', hd'⟩
      · rw [State.taskOver_of_aborted habort, if_pos rfl]
        exact .inl habort
      · have hover'' := (State.taskOver_congr (hd'.taskStatus k)).trans hover'
        exact .inr ⟨_, [d, d'], by simp, hd.trans hd', if_neg (by simp [hover''])⟩

section Instruction
variable {s : State} {t : TileId} {k : SlotId} {w : Word} (hruns : s.runs t k w) (hop : opOf w = 0x38)
include hruns hop

theorem exec_shbeg_begins (hfn : fnOf w = 0x30) (hrd : rdOf w = 0) (hra : raOf w = 0) (hrb : rbOf w = 0)
    (hslot : s.shawlSlot t = some k.val) (hactive : s.shawlActive t = false)
    (hqueue : s.shF t = 0 ∨ s.qMode t (s.shQueue t) = 1 ∧ s.qOwner t (s.shQueue t) = k) :
    exec (.shbeg t k) s = .next (((s.instrCounted t).shBegun t).spillsIssued t k) := by
  have hcode := cuffCode_unit hop hfn rfl (.inr hrd) (.inr hra) (.inr hrb)
  have hring := s.sameRing_instrCounted t
  have hactive' : (s.instrCounted t).shawlActive t = false :=
    (State.bit_congr (s.rd_shStat_instrCounted t) 31).trans hactive
  have hqueue' : ¬ ((s.instrCounted t).shF t ≠ 0 ∧ ¬ ((s.instrCounted t).qMode t ((s.instrCounted t).shQueue t) = 1 ∧
      (s.instrCounted t).qOwner t ((s.instrCounted t).shQueue t) = k)) := by
    rw [hring.shF, hring.shQueue, State.qMode, State.qOwner, State.fld, State.fld, s.rd_placketQCfg_instrCounted t _]
    exact fun h => h.2 (hqueue.resolve_left h.1)
  rw [exec_ringOp_own hruns rfl hcode hslot, hactive', if_neg (by decide), if_neg hqueue']
  rfl

theorem shbeg_resident (hfn : fnOf w = 0x30) (hrd : rdOf w = 0) (hra : raOf w = 0) (hrb : rbOf w = 0) (hpc : s.pc t k < 4095)
    (hslot : s.shawlSlot t = some k.val) (hactive : s.shawlActive t = false) (hF : s.shF t = 0) :
    Answers (.shbeg t k) s (fun u => s.nextWord u t k ∧ u.rd (shStat t) = BitVec.ofNat 32 (0x80000000 + 256 * 0x200) ∧
      u.rd (shProg t) = 0 ∧ u.shawl t = { Shawl.init with free := [256] } ∧
      s.onlyTile u t (shStat t :: shProg t :: cuffWords t k)) := by
  have hring := s.sameRing_instrCounted t
  have hnseg : (s.instrCounted t).shNseg t = 256 := by rw [hring.shNseg, State.shNseg, hF]
  have hstatus : ((s.instrCounted t).shBegun t).rd (Reg.cuffTaskStatus t k) = s.rd (Reg.cuffTaskStatus t k) :=
    (State.rd_cuff_shBegun _ t k (by simp [cuffWords])).trans (s.rd_taskStatus_instrCounted t k)
  have hexec := exec_shbeg_begins hruns hop hfn hrd hra hrb hslot hactive (.inl hF)
  rw [State.spillsIssued_of_resident (by rw [(State.sameRing_shBegun _ t).shF, hring.shF, hF])
    ((State.taskOver_congr hstatus).trans (State.taskOver_of_running hruns.1))] at hexec
  have hframe := State.complete_onlyRegs hstatus hpc
  refine ⟨_, hexec, State.complete_nextWord hstatus hpc, ?_, ?_, ?_, ?_⟩
  · rw [State.rd_complete_panel hstatus hpc (shStat_panel t), State.rd_shStat_shBegun, hnseg]
  · rw [State.rd_complete_panel hstatus hpc (shProg_panel t), State.rd_shProg_shBegun]
  · rw [State.shawl_of_tiles hframe.tiles, State.shawl_shBegun, hnseg]
  · have hcounted := ((s.instrCounted_onlyRegs t).mono (bs := shStat t :: shProg t :: cuffWords t k)
      (by simp [cuffWords])).onlyTile t
    exact (((hcounted.wr (by simp) _).wr (by simp) _).setTile _).onlyRegs (hframe.mono (by simp [cuffWords]))

theorem shbeg_spills (hfn : fnOf w = 0x30) (hrd : rdOf w = 0) (hra : raOf w = 0) (hrb : rbOf w = 0) (hpc : s.pc t k < 4095)
    (hslot : s.shawlSlot t = some k.val) (hactive : s.shawlActive t = false) (hF : s.shF t ≠ 0)
    (hmode : s.qMode t (s.shQueue t) = 1) (howner : s.qOwner t (s.shQueue t) = k) :
    Answers (.shbeg t k) s (fun u => u.taskState t k = taskAborted ∨ (s.nextWord u t k ∧
      u.rd (shStat t) = BitVec.ofNat 32 (0x80000000 + s.shNseg t * 0x200) ∧
      ∃ ds, ds ≠ [] ∧ (u.queue t (s.shQueue t)).fifo = (s.queue t (s.shQueue t)).fifo ++ ds)) := by
  have hring := (s.sameRing_instrCounted t).trans (State.sameRing_shBegun _ t)
  have hstatus : ((s.instrCounted t).shBegun t).rd (Reg.cuffTaskStatus t k) = s.rd (Reg.cuffTaskStatus t k) :=
    (State.rd_cuff_shBegun _ t k (by simp [cuffWords])).trans (s.rd_taskStatus_instrCounted t k)
  have howner' : ((s.instrCounted t).shBegun t).qOwner t (((s.instrCounted t).shBegun t).shQueue t) = k := by
    rw [hring.shQueue, ← howner]
    have hlow := placketQCfg_below_panel t (s.shQueue_lt t)
    exact State.fld_congr ((State.rd_shBegun _ (hlow.trans_le (shStat_panel t)).ne (hlow.trans_le (shProg_panel t)).ne).trans
      (s.rd_placketQCfg_instrCounted t _)) _ _
  refine ⟨_, exec_shbeg_begins hruns hop hfn hrd hra hrb hslot hactive (.inr ⟨hmode, howner⟩), ?_⟩
  refine (State.spillsIssued_cases (by rwa [hring.shF]) howner'
    ((State.taskOver_congr hstatus).trans (State.taskOver_of_running hruns.1))).imp_right ?_
  rintro ⟨v, ds, hds, hspilled, hv⟩
  have hstatus' := (hspilled.taskStatus k).trans hstatus
  rw [hv]
  refine ⟨State.complete_nextWord hstatus' hpc, ?_, ds, hds, ?_⟩
  · rw [State.rd_complete_panel hstatus' hpc (shStat_panel t), hspilled.rd_panel (shStat_panel t), State.rd_shStat_shBegun,
      (s.sameRing_instrCounted t).shNseg]
  · have hqueue (q : Nat) : ((s.instrCounted t).shBegun t).queue t q = s.queue t q := State.queue_setShawl _ t q _
    have hfifo := hspilled.fifo
    rw [hring.shQueue, hqueue] at hfifo
    rw [State.queue_of_tiles (State.complete_onlyRegs hstatus' hpc).tiles, hfifo]

end Instruction

/-! ## The turn moves on (R312, R314) -/

/-- The words of a ring that a turn's last release changes. -/
def turnWords (t : Nat) : List Nat := [shStat t, shProg t, Reg.shawlStatTurns (t / 64) (t % 64)]

/-- The turn `next` has come: what was on its way is available, nothing of it is released yet, and the turn is counted. -/
def State.turnMoved (s : State) (t next : Nat) : State :=
  ((((s.setFld (shStat t) 23 8 next).setFld (shStat t) 9 9 (s.fld (shStat t) 0 9)).setFld (shStat t) 0 9 0).setFld
    (shProg t) 9 9 0).count (Reg.shawlStatTurns (t / 64) (t % 64)) 1

theorem statTurns_ne_shStat (t : Nat) : Reg.shawlStatTurns (t / 64) (t % 64) ≠ shStat t := by
  rw [Reg.shawlStatTurns, shStat, Reg.shawlStatus]
  omega

theorem statTurns_ne_shProg (t : Nat) : Reg.shawlStatTurns (t / 64) (t % 64) ≠ shProg t := by
  rw [Reg.shawlStatTurns, shProg, Reg.shawlProgress]
  omega

section Turn
variable (s : State) (t next : Nat)

theorem State.turnMoved_onlyRegs : s.onlyRegs (s.turnMoved t next) (turnWords t) :=
  (((((State.onlyRegs.refl s _).setFld (by simp [turnWords]) _ _ _).setFld (by simp [turnWords]) _ _ _).setFld
    (by simp [turnWords]) _ _ _).setFld (by simp [turnWords]) _ _ _).count (by simp [turnWords]) 1

theorem State.rd_shStat_turnMoved : (s.turnMoved t next).rd (shStat t) =
    (((s.setFld (shStat t) 23 8 next).setFld (shStat t) 9 9 (s.fld (shStat t) 0 9)).setFld (shStat t) 0 9 0).rd (shStat t) :=
  (State.rd_count_ne _ _ (statTurns_ne_shStat t).symm).trans (State.rd_setFld_ne _ _ _ _ (shStat_ne_shProg t))

theorem State.shTurn_turnMoved {next : Nat} (h : next < 256) : (s.turnMoved t next).shTurn t = next := by
  rw [State.shTurn_congr (s.rd_shStat_turnMoved t next), State.shTurn, ← shStat, State.fld_setFld_ne _ _ _ _ _ _ _ (by omega),
    State.fld_setFld_ne _ _ _ _ _ _ _ (by omega), State.fld_setFld_of_lt _ _ (by decide) h]

theorem State.avail_turnMoved : (s.turnMoved t next).fld (shStat t) 9 9 = s.fld (shStat t) 0 9 := by
  rw [State.fld_congr (s.rd_shStat_turnMoved t next), State.fld_setFld_ne _ _ _ _ _ _ _ (by omega),
    State.fld_setFld_of_lt _ _ (by decide) (show s.fld (shStat t) 0 9 < 2 ^ 9 from fieldOf_lt ..)]

theorem State.ahead_turnMoved : (s.turnMoved t next).fld (shStat t) 0 9 = 0 := by
  rw [State.fld_congr (s.rd_shStat_turnMoved t next), State.fld_setFld_of_lt _ _ (by decide) (by decide)]

theorem State.released_turnMoved : (s.turnMoved t next).fld (shProg t) 9 9 = 0 := by
  rw [State.turnMoved, State.fld_congr (State.rd_count_ne _ _ (statTurns_ne_shProg t).symm),
    State.fld_setFld_of_lt _ _ (by decide) (by decide)]

theorem State.turns_turnMoved : ((s.turnMoved t next).rd (Reg.shawlStatTurns (t / 64) (t % 64))).toNat =
    Min.min 0xFFFFFFFF ((s.rd (Reg.shawlStatTurns (t / 64) (t % 64))).toNat + 1) := by
  rw [State.turnMoved, State.rd_count_one, State.rd_setFld_ne _ _ _ _ (statTurns_ne_shProg t),
    State.rd_setFld_ne _ _ _ _ (statTurns_ne_shStat t), State.rd_setFld_ne _ _ _ _ (statTurns_ne_shStat t),
    State.rd_setFld_ne _ _ _ _ (statTurns_ne_shStat t)]

theorem State.sameRing_turnMoved : s.sameRing (s.turnMoved t next) t :=
  State.sameRing_of_rd t (fun a _ ha => (s.turnMoved_onlyRegs t next).2 a (fun hmem => by
    simp only [turnWords, shStat, shProg, Reg.shawlStatus, Reg.shawlProgress, Reg.shawlStatTurns, List.mem_cons,
      List.not_mem_nil, or_false] at hmem
    omega))

end Turn

/-- The turn `next` has come after the release of a turn's last segment: what was on its way is available, and nothing of the
turn is released yet. -/
structure State.turnCame (s u : State) (t next : Nat) : Prop where
  turn : u.shTurn t = next
  avail : u.fld (shStat t) 9 9 = s.fld (shStat t) 0 9
  ahead : u.fld (shStat t) 0 9 = 0
  released : u.fld (shProg t) 9 9 = 0
  turns : (u.rd (Reg.shawlStatTurns (t / 64) (t % 64))).toNat =
    Min.min 0xFFFFFFFF ((s.rd (Reg.shawlStatTurns (t / 64) (t % 64))).toNat + 1)

theorem State.turnMoved_turnCame (s : State) (t : Nat) {next : Nat} (h : next < 256) : s.turnCame (s.turnMoved t next) t next :=
  ⟨s.shTurn_turnMoved t h, s.avail_turnMoved t next, s.ahead_turnMoved t next, s.released_turnMoved t next,
    s.turns_turnMoved t next⟩

/-- A turn that came shows itself in the ring's words alone. -/
theorem State.turnCame.congr {s s' u u' : State} {t next : Nat} (h : s.turnCame u t next)
    (hs : ∀ a ∈ turnWords t, a ≠ shProg t → s.rd a = s'.rd a) (hu : ∀ a ∈ turnWords t, u'.rd a = u.rd a) :
    s'.turnCame u' t next := by
  have hstat : shStat t ∈ turnWords t := by simp [turnWords]
  have hprog : shProg t ∈ turnWords t := by simp [turnWords]
  have hturns : Reg.shawlStatTurns (t / 64) (t % 64) ∈ turnWords t := by simp [turnWords]
  obtain ⟨hturn, havail, hahead, hreleased, hcount⟩ := h
  rw [State.fld_congr (hs _ hstat (shStat_ne_shProg t))] at havail
  rw [hs _ hturns (statTurns_ne_shProg t)] at hcount
  exact ⟨(State.shTurn_congr (hu _ hstat)).trans hturn, (State.fld_congr (hu _ hstat) _ _).trans havail,
    (State.fld_congr (hu _ hstat) _ _).trans hahead, (State.fld_congr (hu _ hprog) _ _).trans hreleased,
    by rw [hu _ hturns, hcount]⟩

theorem le_of_mem_turnWords {t a : Nat} (h : a ∈ turnWords t) : 0x2000000 ≤ a := by
  simp only [turnWords, shStat, shProg, Reg.shawlStatus, Reg.shawlProgress, Reg.shawlStatTurns, List.mem_cons,
    List.not_mem_nil, or_false] at h
  omega

section Advance
variable {s : State} {t : Nat} (hsends : (s.shawl t).sends ≠ [])
include hsends

theorem State.shAdvance_last (hturn : s.shTurn t + 1 = s.shRlen t) :
    s.shAdvance t = (s.turnMoved t 0).setShawl t { s.shawl t with ended := true } := by
  have hlast : (s.shTurn t + 1 == s.shRlen t) = true := by simpa using hturn
  unfold State.shAdvance
  simp only [hlast, if_true]
  exact State.shSettle_of_sends (s := (s.turnMoved t 0).setShawl t { s.shawl t with ended := true })
    (by rwa [State.shawl_setShawl_self])

theorem State.shAdvance_goesOn (hturn : s.shTurn t + 1 < s.shRlen t) (hF : s.shF t = 0) :
    s.shAdvance t = s.turnMoved t (s.shTurn t + 1) := by
  have hlast : (s.shTurn t + 1 == s.shRlen t) = false := by simpa using hturn.ne
  have hspill := State.issueSpill_of_resident (((s.sameRing_turnMoved t (s.shTurn t + 1)).shF).trans hF) (s.shTurn t + 1 + 1)
  have hsettle : (s.turnMoved t (s.shTurn t + 1)).shSettle t = s.turnMoved t (s.shTurn t + 1) :=
    State.shSettle_of_sends (by rwa [State.shawl_of_tiles (s.turnMoved_onlyRegs t _).tiles])
  unfold State.shAdvance
  simp only [hlast, Bool.false_eq_true, if_false]
  refine Eq.trans (congrArg (fun v : State => v.shSettle t) ?_) hsettle
  split
  · exact hspill
  · rfl

end Advance

/-! ## SHREL (R312) -/

/-- Segment `j` of the turn is released: it joins the segments to be sent. -/
def State.segmentReleased (s : State) (t j : Nat) : State :=
  (s.setSends t { s.shawl t with sends := (s.shawl t).sends ++ [(s.shTurn t, j)] }).setFld (shProg t) 9 9 (j + 1)

section Released
variable (s : State) (t j : Nat)

theorem State.rd_segmentReleased {a : Nat} (h : a ≠ shProg t) : (s.segmentReleased t j).rd a = s.rd a :=
  (State.rd_setFld_ne _ _ _ _ h).trans (s.rd_setSends _ h)

theorem State.shawl_segmentReleased :
    (s.segmentReleased t j).shawl t = { s.shawl t with sends := (s.shawl t).sends ++ [(s.shTurn t, j)] } :=
  (State.shawl_of_tiles rfl t).trans (s.shawl_setSends t _)

theorem State.sends_segmentReleased : ((s.segmentReleased t j).shawl t).sends ≠ [] := by simp [State.shawl_segmentReleased]

theorem State.sameRing_segmentReleased : s.sameRing (s.segmentReleased t j) t :=
  State.sameRing_of_rd t (fun a _ ha => s.rd_segmentReleased t j (fun e => by
    rw [e, shProg, Reg.shawlProgress] at ha
    omega))

theorem State.shTurn_segmentReleased : (s.segmentReleased t j).shTurn t = s.shTurn t :=
  State.shTurn_congr (s.rd_segmentReleased t j (shStat_ne_shProg t))

end Released

section Shrel
variable {s : State} {t : TileId} {k : SlotId} {w : Word} (hruns : s.runs t k w) (hop : opOf w = 0x38) (hfn : fnOf w = 0x31)
  (hrd : rdOf w = 0) (hrb : rbOf w = 0) (hslot : s.shawlSlot t = some k.val)
include hruns hop hfn hrd hrb hslot

theorem exec_shrel_outOfOrder (hactive : s.shawlActive t = true) (hended : (s.shawl t).ended = false)
    (horder : s.fld (shProg t) 9 9 ≠ (s.creg t k (raOf w)).toNat % 512 ∨ s.shNseg t ≤ (s.creg t k (raOf w)).toNat % 512) :
    exec (.shrel t k) s = .next ((s.instrCounted t).yokeFault t k 0x0A 0x11) := by
  have hactive' := (State.bit_congr (s.rd_shStat_instrCounted t) 31).trans hactive
  have hended' : ((s.instrCounted t).shawl t).ended = false := hended
  have horder' := horder.imp_left Ne.symm
  rw [← State.fld_congr (s.rd_shProg_instrCounted t), ← (s.sameRing_instrCounted t).shNseg, ← s.opA_instrCounted] at horder'
  rw [exec_ringOp_own hruns rfl (cuffCode_unit hop hfn rfl (.inr hrd) (.inl rfl) (.inr hrb)) hslot, if_neg, if_pos horder']
  rw [State.shawlActive, ← shStat, hactive', hended']
  decide

/-- The next segment of the turn is released; `v` is the state once the turn has moved on with its last. -/
theorem exec_shrel_releases {j : Nat} {v : State} (hj : (s.creg t k (raOf w)).toNat % 512 = j)
    (hactive : s.shawlActive t = true) (hended : (s.shawl t).ended = false) (hnext : s.fld (shProg t) 9 9 = j)
    (hlt : j < s.shNseg t) (hv : (if j + 1 = s.shNseg t then ((s.instrCounted t).segmentReleased t j).shAdvance t
      else (s.instrCounted t).segmentReleased t j) = v)
    (hstatus : v.rd (Reg.cuffTaskStatus t k) = s.rd (Reg.cuffTaskStatus t k)) :
    exec (.shrel t k) s = .next (v.complete t k) := by
  have hactive' := (State.bit_congr (s.rd_shStat_instrCounted t) 31).trans hactive
  have hended' : ((s.instrCounted t).shawl t).ended = false := hended
  have hover : v.taskOver t k = false := (State.taskOver_congr hstatus).trans (State.taskOver_of_running hruns.1)
  have hring := s.sameRing_instrCounted t
  have hnseg := (hring.trans (State.sameRing_segmentReleased _ t j)).shNseg
  have horder : ¬ (j ≠ (s.instrCounted t).fld (shProg t) 9 9 ∨ (s.instrCounted t).shNseg t ≤ j) := by
    rw [State.fld_congr (s.rd_shProg_instrCounted t), hring.shNseg]
    omega
  rw [exec_ringOp_own hruns rfl (cuffCode_unit hop hfn rfl (.inr hrd) (.inl rfl) (.inr hrb)) hslot, if_neg,
    State.opA_instrCounted, hj, if_neg horder]
  · change Host.Outcome.next (let u := if j + 1 = ((s.instrCounted t).segmentReleased t j).shNseg t then
        ((s.instrCounted t).segmentReleased t j).shAdvance t else (s.instrCounted t).segmentReleased t j
      if u.taskOver t k then u else u.complete t k) = _
    simp only [hnseg, hv, hover, Bool.false_eq_true, if_false]
  · rw [State.shawlActive, ← shStat, hactive', hended']
    decide

theorem shrel_withinTurn (hpc : s.pc t k < 4095) {j : Nat} (hj : (s.creg t k (raOf w)).toNat % 512 = j)
    (hactive : s.shawlActive t = true) (hended : (s.shawl t).ended = false) (hnext : s.fld (shProg t) 9 9 = j)
    (hlt : j + 1 < s.shNseg t) : Answers (.shrel t k) s (fun u => s.nextWord u t k ∧ u.fld (shProg t) 9 9 = j + 1 ∧
      u.shawl t = { s.shawl t with sends := (s.shawl t).sends ++ [(s.shTurn t, j)] } ∧ u.rd (shStat t) = s.rd (shStat t)) := by
  have hstatus : ((s.instrCounted t).segmentReleased t j).rd (Reg.cuffTaskStatus t k) = s.rd (Reg.cuffTaskStatus t k) :=
    (State.rd_segmentReleased _ t j (cuffTaskStatus_ne_panel t k (shProg_panel t))).trans (s.rd_taskStatus_instrCounted t k)
  have hexec := exec_shrel_releases hruns hop hfn hrd hrb hslot hj hactive hended hnext (by omega)
    (if_neg hlt.ne) hstatus
  have hsize : s.shNseg t ≤ 256 := Nat.sub_le _ _
  refine ⟨_, hexec, State.complete_nextWord hstatus hpc, ?_, ?_, ?_⟩
  · rw [State.fld_congr (State.rd_complete_panel hstatus hpc (shProg_panel t))]
    exact State.fld_setFld_of_lt _ _ (by decide) (by omega)
  · rw [State.shawl_of_tiles (State.complete_onlyRegs hstatus hpc).tiles, State.shawl_segmentReleased,
      State.shTurn_congr (s.rd_shStat_instrCounted t)]
    rfl
  · rw [State.rd_complete_panel hstatus hpc (shStat_panel t), State.rd_segmentReleased _ t j (shStat_ne_shProg t),
      s.rd_shStat_instrCounted]

/-- The release of a turn's last segment, where the turn `next` comes. -/
theorem shrel_endsTurn (hpc : s.pc t k < 4095) {j next : Nat} {v : State} (hj : (s.creg t k (raOf w)).toNat % 512 = j)
    (hactive : s.shawlActive t = true) (hended : (s.shawl t).ended = false) (hprog : s.fld (shProg t) 9 9 = j)
    (hlast : j + 1 = s.shNseg t) (hv : ((s.instrCounted t).segmentReleased t j).shAdvance t = v)
    (hregs : v.regs = (((s.instrCounted t).segmentReleased t j).turnMoved t next).regs) (hnext : next < 256) :
    Answers (.shrel t k) s (fun u => s.nextWord u t k ∧ u.shawl t = v.shawl t ∧ s.turnCame u t next) := by
  have hword (a : Nat) : v.rd a = (((s.instrCounted t).segmentReleased t j).turnMoved t next).rd a := by
    rw [State.rd, hregs, State.rd]
  have hpanel (a : Nat) (ha : a ∈ turnWords t) := le_of_mem_turnWords ha
  have hstatus : v.rd (Reg.cuffTaskStatus t k) = s.rd (Reg.cuffTaskStatus t k) := by
    rw [hword, (State.turnMoved_onlyRegs _ t next).2 _ (fun h => cuffTaskStatus_ne_panel t k (hpanel _ h) rfl),
      State.rd_segmentReleased _ t j (cuffTaskStatus_ne_panel t k (shProg_panel t)), s.rd_taskStatus_instrCounted]
  have hexec := exec_shrel_releases hruns hop hfn hrd hrb hslot hj hactive hended hprog (by omega)
    ((if_pos hlast).trans hv) hstatus
  refine ⟨_, hexec, State.complete_nextWord hstatus hpc,
    State.shawl_of_tiles (State.complete_onlyRegs hstatus hpc).tiles t, ?_⟩
  refine (State.turnMoved_turnCame ((s.instrCounted t).segmentReleased t j) t hnext).congr (fun a ha hne => ?_) (fun a ha => ?_)
  · rw [State.rd_segmentReleased _ t j hne, s.rd_instrCounted_panel t (hpanel a ha)]
  · rw [State.rd_complete_panel hstatus hpc (hpanel a ha), hword]

/-- The release that ends the last turn ends the revolution, and the turn is 0 again (R312). -/
theorem shrel_endsRevolution (hpc : s.pc t k < 4095) {j : Nat} (hj : (s.creg t k (raOf w)).toNat % 512 = j)
    (hactive : s.shawlActive t = true) (hended : (s.shawl t).ended = false) (hprog : s.fld (shProg t) 9 9 = j)
    (hlast : j + 1 = s.shNseg t) (hturn : s.shTurn t + 1 = s.shRlen t) : Answers (.shrel t k) s (fun u => s.nextWord u t k ∧
      u.shawl t = { s.shawl t with sends := (s.shawl t).sends ++ [(s.shTurn t, j)], ended := true } ∧ s.turnCame u t 0) := by
  have hring := (s.sameRing_instrCounted t).trans (State.sameRing_segmentReleased _ t j)
  have hcounted := State.shTurn_congr (s.rd_shStat_instrCounted t)
  obtain ⟨u, hexec, hword, hshawl, hcame⟩ := shrel_endsTurn hruns hop hfn hrd hrb hslot hpc hj hactive hended hprog hlast
    (State.shAdvance_last (State.sends_segmentReleased _ t j)
      (by rw [State.shTurn_segmentReleased, hcounted, hring.shRlen, hturn])) rfl (by decide)
  refine ⟨u, hexec, hword, ?_, hcame⟩
  rw [hshawl, State.shawl_setShawl_self, State.shawl_segmentReleased, hcounted]
  rfl

/-- The release that ends a turn within the revolution brings the next turn (R312). -/
theorem shrel_turnsOn (hpc : s.pc t k < 4095) {j : Nat} (hj : (s.creg t k (raOf w)).toNat % 512 = j)
    (hactive : s.shawlActive t = true) (hended : (s.shawl t).ended = false) (hprog : s.fld (shProg t) 9 9 = j)
    (hlast : j + 1 = s.shNseg t) (hturn : s.shTurn t + 1 < s.shRlen t) (hF : s.shF t = 0) :
    Answers (.shrel t k) s (fun u => s.nextWord u t k ∧
      u.shawl t = { s.shawl t with sends := (s.shawl t).sends ++ [(s.shTurn t, j)] } ∧ s.turnCame u t (s.shTurn t + 1)) := by
  have hring := (s.sameRing_instrCounted t).trans (State.sameRing_segmentReleased _ t j)
  have hcounted := State.shTurn_congr (s.rd_shStat_instrCounted t)
  have hreleased : ((s.instrCounted t).segmentReleased t j).shTurn t = s.shTurn t := by
    rw [State.shTurn_segmentReleased, hcounted]
  have hadvance := State.shAdvance_goesOn (State.sends_segmentReleased (s.instrCounted t) t j)
    (by rwa [hreleased, hring.shRlen]) (hring.shF.trans hF)
  rw [hreleased] at hadvance
  have hlength : s.shRlen t ≤ 256 := Nat.mod_lt _ (by decide)
  obtain ⟨u, hexec, hword, hshawl, hcame⟩ := shrel_endsTurn hruns hop hfn hrd hrb hslot hpc hj hactive hended hprog hlast
    hadvance rfl (by omega)
  refine ⟨u, hexec, hword, ?_, hcame⟩
  rw [hshawl, State.shawl_of_tiles (State.turnMoved_onlyRegs _ t _).tiles, State.shawl_segmentReleased, hcounted]
  rfl

end Shrel

/-! ## SHWAIT (R314) -/

section Shwait
variable {s : State} {t : TileId} {k : SlotId} {w : Word} (hruns : s.runs t k w) (hop : opOf w = 0x38) (hfn : fnOf w = 0x33)
  (hrd : rdOf w = 0) (hrb : rbOf w = 0) (hslot : s.shawlSlot t = some k.val)
include hruns hop hfn hrd hrb hslot

theorem exec_shwait : exec (.shwait t k) s = .next (if (s.creg t k (raOf w)).toNat % 512 < s.fld (shStat t) 9 9 then
    (s.instrCounted t).complete t k else (s.instrCounted t).wait t k 6) := by
  rw [exec_ringOp_own hruns rfl (cuffCode_unit hop hfn rfl (.inr hrd) (.inl rfl) (.inr hrb)) hslot, State.opA_instrCounted,
    State.fld_congr (s.rd_shStat_instrCounted t)]

theorem shwait_available (hpc : s.pc t k < 4095) (havail : (s.creg t k (raOf w)).toNat % 512 < s.fld (shStat t) 9 9) :
    Answers (.shwait t k) s (fun u => s.nextWord u t k ∧ s.onlyTile u t (cuffWords t k)) := by
  have hexec := exec_shwait hruns hop hfn hrd hrb hslot
  rw [if_pos havail] at hexec
  have hstatus := s.rd_taskStatus_instrCounted t k
  have hcounted : s.onlyRegs (s.instrCounted t) (cuffWords t k) := (s.instrCounted_onlyRegs t).mono (by simp [cuffWords])
  exact ⟨_, hexec, State.complete_nextWord hstatus hpc,
    (hcounted.trans ((State.complete_onlyRegs hstatus hpc).mono (by simp [cuffWords]))).onlyTile t⟩

theorem shwait_waits (havail : s.fld (shStat t) 9 9 ≤ (s.creg t k (raOf w)).toNat % 512) :
    Answers (.shwait t k) s (fun u => s.waitsIn u t k 6) := by
  refine ⟨_, exec_shwait hruns hop hfn hrd hrb hslot, ?_⟩
  rw [if_neg havail.not_gt]
  exact s.wait_waitsIn t k (by decide)

end Shwait

/-! ## The statement -/

/-- Settles O38, instruction by instruction. -/
theorem shawlInstructions : Obligations.ShawlInstructions := by
  unfold Obligations.ShawlInstructions
  intro s t k w hruns hop hpc hrb st pr j x
  refine ⟨fun hslot => ⟨fun hfn hrd hra => ?_, fun hfn hrd => ?_, fun hfn hra => ?_, fun hfn hrd => ?_⟩,
    fun hslot => ⟨fun hfn hrd hra hactive => ⟨fun hF => ?_, fun hF hmode howner => ?_⟩,
      fun hfn hrd hactive hended hprog => ⟨fun hlt => ?_, fun hlast hturn => ?_, fun hlast hturn hF => ?_⟩,
      fun hfn hrd hactive hended horder => ?_, fun hfn hra => ?_, fun hfn hrd => ⟨fun havail => ?_, fun havail => ?_⟩⟩⟩
  · exact ringOp_foreign_aborts hruns rfl (cuffCode_unit hop hfn rfl (.inr hrd) (.inr hra) (.inr hrb)) hslot
  · exact ringOp_foreign_aborts hruns rfl (cuffCode_unit hop hfn rfl (.inr hrd) (.inl rfl) (.inr hrb)) hslot
  · exact ringOp_foreign_aborts hruns rfl (cuffCode_unit hop hfn rfl (.inl rfl) (.inr hra) (.inr hrb)) hslot
  · exact ringOp_foreign_aborts hruns rfl (cuffCode_unit hop hfn rfl (.inr hrd) (.inl rfl) (.inr hrb)) hslot
  · exact shbeg_resident hruns hop hfn hrd hra hrb hpc hslot hactive hF
  · exact shbeg_spills hruns hop hfn hrd hra hrb hpc hslot hactive hF hmode howner
  · exact shrel_withinTurn hruns hop hfn hrd hrb hslot hpc rfl hactive hended hprog hlt
  · obtain ⟨u, hexec, hword, hshawl, hcame⟩ :=
      shrel_endsRevolution hruns hop hfn hrd hrb hslot hpc rfl hactive hended hprog hlast hturn
    exact ⟨u, hexec, hword, hshawl, hcame.turn, hcame.avail, hcame.ahead, hcame.released, hcame.turns⟩
  · obtain ⟨u, hexec, hword, hshawl, hcame⟩ :=
      shrel_turnsOn hruns hop hfn hrd hrb hslot hpc rfl hactive hended hprog hlast hturn hF
    exact ⟨u, hexec, hword, hshawl, hcame.turn, hcame.avail, hcame.ahead, hcame.released⟩
  · exact ⟨_, exec_shrel_outOfOrder hruns hop hfn hrd hrb hslot hactive hended horder,
      State.yokeFault_taskState hruns.taskOver _ _⟩
  · refine hruns.writesRd k.isLt ?_
    rw [exec_ringOp_own hruns rfl (cuffCode_unit hop hfn rfl (.inl rfl) (.inr hra) (.inr hrb)) hslot,
      s.rd_shStat_instrCounted]
    rfl
  · exact shwait_available hruns hop hfn hrd hrb hslot hpc havail
  · exact shwait_waits hruns hop hfn hrd hrb hslot havail

end Sys2Proof.Machine
end

section
/-! SUPPORT. The Shawl mover: a segment that is sent under a credit, and a segment that arrives (R311, R313, R314, R374). Settles
O39. -/

namespace Sys2Proof.Machine

/-! ## A segment is sent (R313, R374) -/

section Credit
variable (s : State) (t e : Nat) (o : Origin) (off len pending : Nat) (ended : Bool)

/-- A grant is an entry of the tile that gives it. -/
theorem State.tile_giveCredit_self : (s.giveCredit t e o off len pending ended).tile t = { s.tile t with
    grants := tset (s.tile t).grants e { src := o, off := off, len := len, pending := pending, ended := ended } } :=
  s.tile_setTile_self t _

theorem State.tile_giveCredit_ne {j : Nat} (h : j ≠ t) : (s.giveCredit t e o off len pending ended).tile j = s.tile j :=
  s.tile_setTile_ne _ h

theorem State.shawl_giveCredit (j : Nat) : (s.giveCredit t e o off len pending ended).shawl j = s.shawl j := by
  by_cases h : j = t
  · rw [State.shawl, h, State.tile_giveCredit_self, State.shawl]
  · rw [State.shawl, State.tile_giveCredit_ne _ _ _ _ _ _ _ _ h, State.shawl]

end Credit

/-- The mover of tile `t` has sent `g` to tile `v` under credit entry `e`: its own slot `here` is free. -/
def State.segmentSent (s : State) (t v e : Nat) (o : Origin) (g : Segment) (rest : List (Nat × Nat)) (here : Nat) : State :=
  let s := s.giveCredit v e o (s.shSlotOff v g.slot) (s.shG t) 1 true
  let y := s.shawl v
  let s := s.setShawl v { y with free := y.free.filter (· != g.slot), arriving := y.arriving ++ [g] }
  let x := s.shawl t
  s.setSends t { x with sends := rest, free := x.free ++ [here], flying := x.flying + 1 }

section Sent
variable (s : State) {t v : Nat} (e : Nat) (o : Origin) (g : Segment) (rest : List (Nat × Nat)) (here : Nat)

theorem State.pocket_segmentSent : (s.segmentSent t v e o g rest here).pocket = s.pocket := rfl

variable (h : v ≠ t)
include h

theorem State.shawl_segmentSent_sender : (s.segmentSent t v e o g rest here).shawl t =
    { s.shawl t with sends := rest, free := (s.shawl t).free ++ [here], flying := (s.shawl t).flying + 1 } := by
  rw [State.segmentSent, State.shawl_setSends, State.shawl_setShawl_ne _ _ h.symm, State.shawl_giveCredit]

theorem State.tile_segmentSent_receiver : (s.segmentSent t v e o g rest here).tile v =
    { s.tile v with
      grants := tset (s.tile v).grants e
        { src := o, off := s.shSlotOff v g.slot, len := s.shG t, pending := 1, ended := true },
      shawl := { s.shawl v with
        free := (s.shawl v).free.filter (· != g.slot), arriving := (s.shawl v).arriving ++ [g] } } := by
  have hsends (u : State) (x : Shawl) : (u.setSends t x).tile v = u.tile v := u.tile_setTile_ne _ h
  rw [State.segmentSent, hsends, State.setShawl, State.tile_setTile_self, State.tile_giveCredit_self, State.shawl_giveCredit]

theorem State.shawl_segmentSent_receiver : (s.segmentSent t v e o g rest here).shawl v =
    { s.shawl v with free := (s.shawl v).free.filter (· != g.slot), arriving := (s.shawl v).arriving ++ [g] } := by
  rw [State.shawl, State.tile_segmentSent_receiver _ _ _ _ _ _ h]

theorem State.grant_segmentSent : tfind ((s.segmentSent t v e o g rest here).tile v).grants e =
    some { src := o, off := s.shSlotOff v g.slot, len := s.shG t, pending := 1, ended := true } := by
  rw [State.tile_segmentSent_receiver _ _ _ _ _ _ h]
  exact tfind_tset_self ..

end Sent

/-- The words that describe a ring and its slots do not count the accesses of the Placket unit. -/
theorem State.sameRing_countRd (s : State) (t : TileId) (j n : Nat) : s.sameRing (s.count (Reg.placketStatRd t) n) j :=
  State.sameRing_of_rd j (fun a ha _ => State.rd_count_ne _ _ (by
    have ht := t.isLt
    rw [Reg.placketStatRd]
    omega))

theorem State.shSlotOff_countRd (s : State) (t : TileId) (j n k : Nat) :
    (s.count (Reg.placketStatRd t) n).shSlotOff j k = s.shSlotOff j k := by
  have hslot : s.shSlot j < 4 := Nat.mod_lt _ (by decide)
  refine (s.sameRing_countRd t j n).shSlotOff (State.rd_count_ne _ _ ?_) k
  rw [Reg.pocketSlotBase, Reg.placketStatRd]
  omega

theorem State.countRd_placketCtrs (s : State) (t n : Nat) :
    s.onlyRegs (s.count (Reg.placketStatRd t) n) (placketCtrs t) :=
  (State.onlyRegs.refl s _).count (by simp [placketCtrs]) n

/-- The oldest released segment is read out where its slot at the successor is free and a grant entry can be had. -/
theorem exec_shawlSend {s : State} {t : TileId} {turn j here there e : Nat} {rest : List (Nat × Nat)}
    (hsends : (s.shawl t).sends = (turn, j) :: rest)
    (hhere : (j + (s.shNseg t + 1) * 256 - turn) % (s.shNseg t + 1) = here)
    (hthere : (j + (s.shNseg t + 1) * 256 - turn - 1) % (s.shNseg t + 1) = there)
    (hfree : (s.shawl (s.shSucc t)).free.contains there = true) (hcredit : s.creditFree (s.shSucc t) = some e)
    (hopen : s.pocketOpen t (s.shSlotOff t here) (s.shG t)) (hclean : s.pocketClean t (s.shSlotOff t here) (s.shG t)) :
    exec (.shawlSend t) s = .next ((s.count (Reg.placketStatRd t) (blocksOf (s.shSlotOff t here) (s.shG t))).segmentSent t
      (s.shSucc t) e { module := s.moduleId, tile := t, req := 0x20, part := (s.partOf t).getD 0 }
      ⟨turn, j, there, t, mread s.pocket (pkey t (s.shSlotOff t here)) (s.shG t)⟩ rest here) := by
  have hcounted := s.countRd_placketCtrs t (blocksOf (s.shSlotOff t here) (s.shG t))
  have hread := State.pocketRead_open (hcounted.pocketOpen hopen) (hcounted.pocketClean hclean)
  show execShawlSend t s = _
  rw [execShawlSend, hsends]
  simp only [hhere, hthere, hfree, hcredit, hread, Bool.not_true, Bool.false_eq_true, if_false]
  rfl

/-- R313: the segment leaves its slot for the successor's. -/
theorem shawlSend_sends {s : State} {t : TileId} {turn j here there e : Nat} {rest : List (Nat × Nat)}
    (hsends : (s.shawl t).sends = (turn, j) :: rest)
    (hhere : (j + (s.shNseg t + 1) * 256 - turn) % (s.shNseg t + 1) = here)
    (hthere : (j + (s.shNseg t + 1) * 256 - turn - 1) % (s.shNseg t + 1) = there) (hother : s.shSucc t ≠ t.val)
    (hfree : (s.shawl (s.shSucc t)).free.contains there = true) (hcredit : s.creditFree (s.shSucc t) = some e)
    (hopen : s.pocketOpen t (s.shSlotOff t here) (s.shG t)) (hclean : s.pocketClean t (s.shSlotOff t here) (s.shG t)) :
    Answers (.shawlSend t) s (fun u =>
      u.shawl t = { s.shawl t with sends := rest, free := (s.shawl t).free ++ [here], flying := (s.shawl t).flying + 1 } ∧
      u.shawl (s.shSucc t) = { s.shawl (s.shSucc t) with
        free := (s.shawl (s.shSucc t)).free.filter (· != there),
        arriving := (s.shawl (s.shSucc t)).arriving ++
          [⟨turn, j, there, t, mread s.pocket (pkey t (s.shSlotOff t here)) (s.shG t)⟩] } ∧
      (∃ g, tfind (u.tile (s.shSucc t)).grants e = some g ∧ g.off = s.shSlotOff (s.shSucc t) there ∧ g.len = s.shG t) ∧
      u.pocket = s.pocket) := by
  refine ⟨_, exec_shawlSend hsends hhere hthere hfree hcredit hopen hclean,
    State.shawl_segmentSent_sender _ e _ _ rest here hother, State.shawl_segmentSent_receiver _ e _ _ rest here hother,
    ⟨_, State.grant_segmentSent _ e _ _ rest here hother, s.shSlotOff_countRd t _ _ _, (s.sameRing_countRd t t _).shG⟩,
    State.pocket_segmentSent ..⟩

/-! ## A segment arrives (R314, R374) -/

/-- The oldest segment on its way is taken, its grant is free again, and its sender counts one less on its way. -/
def State.arrivalTaken (s : State) (t : Nat) (g : Segment) (rest : List Segment) : State :=
  let off := s.shSlotOff t g.slot
  let s := s.setShawl t { s.shawl t with arriving := rest }
  let s := match (s.tile t).grants.find? (fun (_, x) => x.src.req == 0x20 && x.src.tile == g.src && x.off == off) with
    | some (e, _) => s.freeEntry t e
    | none => s
  s.setShawl g.src { s.shawl g.src with flying := (s.shawl g.src).flying - 1 }

/-- The segment counts as available for the turn it belongs to (R314). -/
def State.segmentCounted (s : State) (t : Nat) (g : Segment) : State :=
  if (g.turn + 1) % s.shRlen t = s.shTurn t then s.setFld (shStat t) 9 9 (s.fld (shStat t) 9 9 + 1)
  else s.setFld (shStat t) 0 9 (s.fld (shStat t) 0 9 + 1)

theorem State.shawl_freeEntry (s : State) (t e : Nat) : (s.freeEntry t e).shawl t = s.shawl t := by
  change ((s.setTile t { s.tile t with grants := tdel (s.tile t).grants e }).tile t).shawl = _
  rw [State.tile_setTile_self, State.shawl]

theorem State.arrivalTaken_spec (s : State) (t : Nat) (g : Segment) (rest : List Segment) :
    (s.arrivalTaken t g rest).pocket = s.pocket ∧ (s.arrivalTaken t g rest).pocketErr = s.pocketErr ∧
    ((s.arrivalTaken t g rest).shawl t).arriving = rest ∧
    ∀ a ≠ Reg.creditStatus t, (s.arrivalTaken t g rest).rd a = s.rd a := by
  have hflying (u : State) (hu : (u.shawl t).arriving = rest) :
      ((u.setShawl g.src { u.shawl g.src with flying := (u.shawl g.src).flying - 1 }).shawl t).arriving = rest := by
    by_cases hsrc : t = g.src
    · rw [← hsrc, State.shawl_setShawl_self, hu]
    · rw [State.shawl_setShawl_ne _ _ hsrc, hu]
  unfold State.arrivalTaken
  dsimp only
  split
  · refine ⟨rfl, rfl, hflying _ ?_, fun a ha => State.rd_wr_ne _ _ ha⟩
    rw [State.shawl_freeEntry, State.shawl_setShawl_self]
  · exact ⟨rfl, rfl, hflying _ (by rw [State.shawl_setShawl_self]), fun _ _ => rfl⟩

/-- The bytes of a store are those of the Pockets. -/
theorem State.stored.congr {s s' u u' : State} {t off : Nat} {bs : List Byte} (h : s.stored u t off bs)
    (hs : s.pocket = s'.pocket) (hu : u'.pocket = u.pocket) : s'.stored u' t off bs := by
  rw [State.stored, hu, ← hs]
  exact h

theorem exec_shawlSegmentArrive {s u : State} {t : TileId} {g : Segment} {rest : List Segment}
    (harriving : (s.shawl t).arriving = g :: rest)
    (hwrite : ((s.arrivalTaken t g rest).count (Reg.placketStatRemoteIn t) (blocksOf (s.shSlotOff t g.slot)
      g.data.length)).pocketWrite t (s.shSlotOff t g.slot) (g.data.map some) = (u, 0)) :
    exec (.shawlSegmentArrive t) s = .next (((u.segmentCounted t g).shSettle t).shSettle g.src) := by
  show execShawlSegmentArrive t s = _
  rw [execShawlSegmentArrive, harriving]
  dsimp only
  split
  · next v hv =>
    cases (hv.symm.trans hwrite : (v, 0) = (u, 0))
    rfl
  · next v c hne hv =>
    cases (hv.symm.trans hwrite : (v, c) = (u, 0))
    exact absurd rfl hne

theorem State.portsOnly.shawl {s u : State} {t : Nat} (h : s.portsOnly u t) : u.shawl t = s.shawl t := by
  obtain ⟨p, hp⟩ := h
  rw [State.shawl, hp, State.shawl]

/-- The segment `g` stands in its slot, and is on its way no more; what the ring's words say is unchanged. -/
structure State.segmentLanded (s u : State) (t : Nat) (g : Segment) (rest : List Segment) : Prop where
  stored : s.stored u t (s.shSlotOff t g.slot) g.data
  arriving : (u.shawl t).arriving = rest
  rd : ∀ a, 0x2000000 ≤ a → u.rd a = s.rd a

theorem State.arrivalTaken_lands {s : State} {t : TileId} {g : Segment} {rest : List Segment}
    (hopen : s.pocketOpen t (s.shSlotOff t g.slot) g.data.length)
    (hclean : s.pocketClean t (s.shSlotOff t g.slot) g.data.length) (n : Nat) :
    ∃ u, ((s.arrivalTaken t g rest).count (Reg.placketStatRemoteIn t) n).pocketWrite t (s.shSlotOff t g.slot)
      (g.data.map some) = (u, 0) ∧ s.segmentLanded u t g rest := by
  obtain ⟨hpocket, herr, hrest, hrd⟩ := s.arrivalTaken_spec t g rest
  have ht := t.isLt
  have hcounted : (s.arrivalTaken t g rest).onlyRegs ((s.arrivalTaken t g rest).count (Reg.placketStatRemoteIn t) n)
      (placketCtrs t) := (State.onlyRegs.refl _ _).count (by simp [placketCtrs]) n
  have hopen' : (s.arrivalTaken t g rest).pocketOpen t (s.shSlotOff t g.slot) g.data.length :=
    ⟨(State.bit_congr (hrd (Reg.pocketStatus t) (tileWord_ne t (by decide))) 7).trans hopen.1, fun w hw =>
      (State.bit_congr (hrd (Reg.pocketPwrStatus t) (tileWord_ne t (by decide))) _).trans (hopen.2 w hw)⟩
  have hclean' : (s.arrivalTaken t g rest).pocketClean t (s.shSlotOff t g.slot) g.data.length := fun w hw => by
    rw [State.wordErr, herr]
    exact hclean w hw
  obtain ⟨u, hwrite, hstored, hurd⟩ :=
    State.pocketWrite_storesAll (hcounted.pocketOpen hopen') (hcounted.pocketClean hclean')
  have hports := (State.portsOnly.refl ((s.arrivalTaken t g rest).count (Reg.placketStatRemoteIn t) n) t).pocketWrite
    (s.shSlotOff t g.slot) (g.data.map some) true
  rw [hwrite] at hports
  refine ⟨u, hwrite, hstored.congr (hcounted.pocket.trans hpocket) rfl, ?_, fun a ha => ?_⟩
  · exact (congrArg Shawl.arriving (hports.shawl.trans (State.shawl_of_tiles hcounted.tiles t))).trans hrest
  · have hdirty : a ∉ pocketDirtyWords t := by
      simp only [pocketDirtyWords, Reg.pocketDirty, List.mem_cons, List.not_mem_nil, or_false]
      omega
    refine (hurd a hdirty).trans ((hcounted.2 a (notMem_placketCtrs (.inr (by omega)))).trans (hrd a ?_))
    rw [Reg.creditStatus]
    omega

/-- Counting a segment changes of the register words SHAWL_STATUS alone. -/
theorem State.segmentCounted_eq {s : State} {t : Nat} {g : Segment} {lo : Nat}
    (hlo : (if (g.turn + 1) % s.shRlen t = s.shTurn t then 9 else 0) = lo) :
    s.segmentCounted t g = s.setFld (shStat t) lo 9 (s.fld (shStat t) lo 9 + 1) := by
  subst hlo
  unfold State.segmentCounted
  split <;> rfl

/-- R314: the segment stands in its slot and counts as available for the turn it belongs to. -/
theorem shawlSegmentArrive_stores {s : State} {t : TileId} {g : Segment} {rest : List Segment} {lo : Nat}
    (harriving : (s.shawl t).arriving = g :: rest) (hopen : s.pocketOpen t (s.shSlotOff t g.slot) g.data.length)
    (hclean : s.pocketClean t (s.shSlotOff t g.slot) g.data.length)
    (hlo : (if (g.turn + 1) % s.shRlen t = s.shTurn t then 9 else 0) = lo) (hroom : s.fld (shStat t) lo 9 < 511) :
    Answers (.shawlSegmentArrive t) s (fun u => s.stored u t (s.shSlotOff t g.slot) g.data ∧ (u.shawl t).arriving = rest ∧
      u.fld (shStat t) lo 9 = s.fld (shStat t) lo 9 + 1) := by
  obtain ⟨u, hwrite, hstored, hrest, hrd⟩ := State.arrivalTaken_lands (rest := rest) hopen hclean
    (blocksOf (s.shSlotOff t g.slot) g.data.length)
  have hcounted : u.segmentCounted t g = u.setFld (shStat t) lo 9 (s.fld (shStat t) lo 9 + 1) := by
    have hstat := hrd _ (shStat_panel t)
    rw [← State.fld_congr hstat]
    refine State.segmentCounted_eq ?_
    rw [(State.sameRing_of_rd t (fun a ha _ => hrd a ha)).shRlen, State.shTurn_congr hstat, hlo]
  have hlow : lo + 9 ≤ 31 := by
    rw [← hlo]
    split <;> decide
  refine ⟨_, exec_shawlSegmentArrive harriving hwrite, ?_⟩
  rw [hcounted]
  obtain ⟨hpocket, harrive, -⟩ := (u.setFld (shStat t) lo 9 (s.fld (shStat t) lo 9 + 1)).shSettle_spec t
  obtain ⟨hpocket', harrive', -⟩ := ((u.setFld (shStat t) lo 9 (s.fld (shStat t) lo 9 + 1)).shSettle t).shSettle_spec g.src
  refine ⟨hstored.congr rfl (hpocket'.trans hpocket), ?_, ?_⟩
  · rw [harrive', harrive]
    exact hrest
  · rw [State.fld_shSettle _ _ _ hlow, State.fld_shSettle _ _ _ hlow]
    exact State.fld_setFld_of_lt _ _ (by omega) (by omega)

/-! ## The statement -/

/-- Settles O39. -/
theorem shawlMoverSendsAndStores : Obligations.ShawlMoverSendsAndStores := by
  unfold Obligations.ShawlMoverSendsAndStores
  intro s t
  refine ⟨?_, ?_⟩
  · intro turn j rest e off hsends n here there v hother hfree hcredit hoff hopen hclean
    subst hoff
    exact shawlSend_sends hsends rfl rfl hother hfree hcredit hopen hclean
  · intro g rest off harriving hoff hopen hclean st lo hroom
    subst hoff
    exact shawlSegmentArrive_stores harriving hopen hclean rfl hroom

end Sys2Proof.Machine
end

section
/-! SUPPORT. The Yokes: the cut of an assignment into the home lists of its tiles, a take that is served, and the end of a
reservation (R298-R305). Settles O37. -/

namespace Sys2Proof.Machine

/-! ## Instances -/

@[simp] theorem State.inst_setInst_self (s : State) (q a : Nat) (x : Inst) : (s.setInst q a x).inst q a = some x :=
  tfind_tset_self ..

theorem State.inst_setInst_ne (s : State) {q a j b : Nat} (x : Inst) (h : instKey j b ≠ instKey q a) :
    (s.setInst q a x).inst j b = s.inst j b := tfind_tset_ne _ _ h

theorem State.inst_of_insts {s u : State} (h : u.insts = s.insts) (q a : Nat) : u.inst q a = s.inst q a := by
  rw [State.inst, h, State.inst]

/-- Partitions have 16 assignments each, so their instances do not meet. -/
theorem instKey_ne {q a j b : Nat} (ha : a < 16) (hb : b < 16) (h : (j, b) ≠ (q, a)) : instKey j b ≠ instKey q a := by
  rw [Ne, Prod.mk.injEq] at h
  rw [instKey, instKey]
  omega

/-! ## The cut (R298-R301) -/

/-- The home list of each member: the pieces cut for it. -/
def homeLists (ms : List Nat) (ps : List (Nat × Piece)) : List (Nat × List Nat) :=
  ms.map (fun m => (m, (ps.filter (fun p => p.2.home == m)).map (·.1)))

theorem tfind_map_pair {α : Type} (f : Nat → α) {ms : List Nat} {m : Nat} (h : m ∈ ms) :
    tfind (ms.map (fun m => (m, f m))) m = some (f m) := by
  induction ms with
  | nil => simp at h
  | cons j ms ih =>
    by_cases hj : j = m
    · simp [tfind, hj]
    · rw [List.map_cons, tfind, if_neg hj]
      exact ih ((List.mem_cons.1 h).resolve_left (Ne.symm hj))

theorem mem_homeLists {ms : List Nat} {ps : List (Nat × Piece)} {m : Nat} (h : m ∈ ms) (n : Nat) :
    n ∈ tget (homeLists ms ps) [] m ↔ ∃ p, (n, p) ∈ ps ∧ p.home = m := by
  rw [tget, homeLists, tfind_map_pair _ h, Option.getD_some]
  simp

/-- The opened assignment once the lead Yoke has cut it. -/
def Inst.cutInto (x : Inst) (ps : List (Nat × Piece)) : Inst :=
  { x with computing := false, pieces := ps, lists := homeLists x.members ps }

/-- The cut has ended: the lead Yoke counts the quanta split and shows the pieces that are open. -/
def State.cutEnded (s : State) (q a lead : Nat) (y : Inst) (split : Nat) : State :=
  ((s.setInst q a y).count (Reg.yokeStatSplit lead) split).refreshYoke lead

theorem exec_yokeCutDone {s : State} {q : PartId} {a : Fin 16} {x : Inst} {cs : List Nat} (hx : s.inst q a = some x)
    (hcomputing : x.computing = true)
    (hcs : (s.setBit (Reg.yokeStatus x.lead) 31 false).workCounts x.lead q a = .ok cs) :
    exec (.yokeCutDone q a) s = .next ((s.setBit (Reg.yokeStatus x.lead) 31 false).cutEnded q a x.lead
      (x.cutInto (((s.setBit (Reg.yokeStatus x.lead) 31 false).cutArgs x.lead q a).pieces cs).1)
      (((s.setBit (Reg.yokeStatus x.lead) 31 false).cutArgs x.lead q a).pieces cs).2) := by
  show execYokeCutDone q a s = _
  rw [execYokeCutDone, hx]
  simp only [hcomputing, hcs, Bool.not_true, Bool.false_eq_true, if_false]
  rfl

section CutEnded
variable (s : State) (q a lead : Nat) (y : Inst) (split : Nat)

theorem State.inst_cutEnded : (s.cutEnded q a lead y split).inst q a = some y := s.inst_setInst_self q a y

/-- Beside the pieces, the end of the cut shows in two words of the lead Yoke. -/
theorem State.cutEnded_onlyRegs : s.onlyRegs { s.cutEnded q a lead y split with insts := s.insts }
    [Reg.yokeStatus lead, Reg.yokeStatSplit lead] :=
  ((State.onlyRegs.refl s [Reg.yokeStatus lead, Reg.yokeStatSplit lead]).count (by simp) split).setFld
    (a := Reg.yokeStatus lead) (by simp) 0 13 _

/-- The display of the open pieces leaves BUSY as it was. -/
theorem State.busy_cutEnded : (s.cutEnded q a lead y split).bit (Reg.yokeStatus lead) 31 = s.bit (Reg.yokeStatus lead) 31 := by
  have hsplit : Reg.yokeStatus lead ≠ Reg.yokeStatSplit lead := by
    rw [Reg.yokeStatus, Reg.yokeStatSplit]
    omega
  rw [State.bit, State.cutEnded, State.refreshYoke, State.getLsbD_setFld_out _ _ _ (by omega), State.rd_count_ne _ _ hsplit]
  rfl

end CutEnded

theorem yokeCutDone_cuts {s : State} {q : PartId} {a : Fin 16} {x : Inst} {cs : List Nat} (hx : s.inst q a = some x)
    (hcomputing : x.computing = true)
    (hcs : (s.setBit (Reg.yokeStatus x.lead) 31 false).workCounts x.lead q a = .ok cs) :
    Answers (.yokeCutDone q a) s (fun u => ∃ y, u.inst q a = some y ∧ y.computing = false ∧
      y.pieces = (((s.setBit (Reg.yokeStatus x.lead) 31 false).cutArgs x.lead q a).pieces cs).1 ∧
      (∀ m ∈ x.members, ∀ n, n ∈ tget y.lists [] m ↔
        ∃ p, (n, p) ∈ (((s.setBit (Reg.yokeStatus x.lead) 31 false).cutArgs x.lead q a).pieces cs).1 ∧ p.home = m) ∧
      u.bit (Reg.yokeStatus x.lead) 31 = false ∧
      s.onlyRegs { u with insts := s.insts } [Reg.yokeStatus x.lead, Reg.yokeStatSplit x.lead]) := by
  have hbusy : s.onlyRegs (s.setBit (Reg.yokeStatus x.lead) 31 false) [Reg.yokeStatus x.lead, Reg.yokeStatSplit x.lead] :=
    (State.onlyRegs.refl s _).setBit (by simp) _ _
  refine ⟨_, exec_yokeCutDone hx hcomputing hcs, _, State.inst_cutEnded .., rfl, rfl, fun m hm n => mem_homeLists hm n, ?_,
    hbusy.trans (State.cutEnded_onlyRegs ..)⟩
  rw [State.busy_cutEnded]
  exact s.bit_setBit _ 31 false (by decide)

/-! ## The registers of a take (R303) -/

/-- The words `ws` have been written to the `n` registers from `rd` on. -/
def State.setCregs (s : State) (t k rd : Nat) (ws : List Word) (n : Nat) : State :=
  (List.range n).foldl (fun s i => s.setCreg t k (rd + i) (ws.getD i 0)) s

section SetCregs
variable (s : State) (t k : Nat) {rd : Nat} (ws : List Word) (n : Nat)

theorem State.creg_setCregs (hrd : 1 ≤ rd) (i : Nat) :
    (s.setCregs t k rd ws n).creg t k i = if rd ≤ i ∧ i < rd + n then ws.getD (i - rd) 0 else s.creg t k i := by
  induction n with
  | zero =>
    rw [if_neg (by omega)]
    rfl
  | succ n ih =>
    have hstep : s.setCregs t k rd ws (n + 1) = (s.setCregs t k rd ws n).setCreg t k (rd + n) (ws.getD n 0) := by
      rw [State.setCregs, List.range_succ, List.foldl_append]
      rfl
    rw [hstep, State.creg_setCreg, ih]
    by_cases hi : i = rd + n
    · rw [if_pos ⟨hi, by omega⟩, if_pos (by omega), hi, Nat.add_sub_cancel_left]
    · rw [if_neg (fun h => hi h.1)]
      exact if_congr (by omega) rfl rfl

theorem State.setCregs_onlyRegs (rd : Nat) :
    s.onlyRegs (s.setCregs t k rd ws n) ((List.range n).map (fun i => Reg.cuffTaskReg t k (rd + i))) := by
  refine List.foldlRecOn (motive := fun u => s.onlyRegs u ((List.range n).map (fun i => Reg.cuffTaskReg t k (rd + i))))
    (List.range n) _ (State.onlyRegs.refl s _) (fun u hu i hi => ?_)
  refine hu.trans ((u.setCreg_onlyRegs t k (rd + i) _).mono ?_)
  unfold rdWords
  split
  · exact List.nil_subset _
  · exact fun a ha => List.mem_singleton.1 ha ▸ List.mem_map.2 ⟨i, hi, rfl⟩

theorem State.rd_setCregs (rd : Nat) {a : Nat} (ha : a < 0x1004200 + 0x10000 * t + 0x80 * k) :
    (s.setCregs t k rd ws n).rd a = s.rd a := by
  refine (s.setCregs_onlyRegs t k ws n rd).2 a (fun hmem => ?_)
  obtain ⟨i, -, rfl⟩ := List.mem_map.1 hmem
  rw [Reg.cuffTaskReg] at ha
  omega

end SetCregs

theorem State.finishTake_eq (s : State) (t k : Nat) (ws : List Word) :
    s.finishTake t k ws = (s.setCregs t k (rdOf (s.fetch t k)) ws 5).complete t k := rfl

/-- A take that completes has written its five words, and the task goes on. -/
theorem State.finishTake_took {s : State} {t k rd : Nat} (hk : k < 4) (hpc : s.pc t k < 4095) (hfetch : rdOf (s.fetch t k) = rd)
    (hrd : 1 ≤ rd) (ws : List Word) :
    (∀ i, (s.finishTake t k ws).creg t k i = if rd ≤ i ∧ i < rd + 5 then ws.getD (i - rd) 0 else s.creg t k i) ∧
      s.nextWord (s.finishTake t k ws) t k ∧ (s.finishTake t k ws).pocket = s.pocket ∧
      (s.finishTake t k ws).insts = s.insts := by
  have hstatus : (s.setCregs t k rd ws 5).rd (Reg.cuffTaskStatus t k) = s.rd (Reg.cuffTaskStatus t k) :=
    s.rd_setCregs t k ws 5 rd (by rw [Reg.cuffTaskStatus]; omega)
  have hregs := s.setCregs_onlyRegs t k ws 5 rd
  have hframe := State.complete_onlyRegs hstatus hpc
  rw [State.finishTake_eq, hfetch]
  refine ⟨fun i => ?_, State.complete_nextWord hstatus hpc, ?_, ?_⟩
  · rw [State.creg_congr (hframe.2 _ (Reg.cuffTaskReg_notMem_taskWords t hk i)), State.creg_setCregs _ _ _ _ _ hrd]
  · rw [hframe.1, hregs.1]
  · rw [hframe.1, hregs.1]

/-! ## A piece is handed out (R303-R305) -/

theorem tfind_map {α β : Type} (f : α → β) (l : List (Nat × α)) (k : Nat) :
    tfind (l.map (fun p => (p.1, f p.2))) k = (tfind l k).map f := by
  induction l with
  | nil => rfl
  | cons p l ih =>
    rw [List.map_cons, tfind, tfind, ih]
    split <;> rfl

/-- A piece that is no longer reserved for tile `t`. -/
def Piece.unreserved (p : Piece) (t : Nat) : Piece := if p.reserved = some t then { p with reserved := none } else p

/-- Task `k` of tile `t` holds piece `n`: it is in no list, the tile has no reservation and the task waits no more. -/
def Inst.handOut (x : Inst) (t k n : Nat) (p : Piece) : Inst :=
  { x with lists := x.lists.map (fun l => (l.1, l.2.filter (· != n))),
           pieces := (tset x.pieces n { p with state := .held t k, reserved := none }).map (fun p => (p.1, p.2.unreserved t)),
           waiting := x.waiting.filter (· != (t, k)) }

theorem Inst.handOut_handedOut (x : Inst) (t k n : Nat) (p : Piece) : (x.handOut t k n p).handedOut t k n := by
  refine ⟨⟨{ p with state := .held t k, reserved := none }, ?_, rfl, rfl⟩, fun l hl => ?_⟩
  · refine (tfind_map (fun p : Piece => p.unreserved t) _ n).trans ?_
    rw [tfind_tset_self]
    rfl
  · obtain ⟨l', -, rfl⟩ := List.mem_map.1 hl
    simp

theorem Inst.notMem_waiting_handOut (x : Inst) (t k n : Nat) (p : Piece) : (t, k) ∉ (x.handOut t k n p).waiting := by
  simp [Inst.handOut]

/-- The Yoke that held the piece counts it, and whether another tile took it (R305). -/
def State.pieceCounted (s : State) (t owner home : Nat) : State :=
  let s := s.count (Reg.yokeStatPieces (owner / 64)) 1
  if home = t then s
  else s.count (if owner / 64 = t / 64 then Reg.yokeStatStealLocal (owner / 64) else Reg.yokeStatStealRemote (owner / 64)) 1

theorem State.pieceCounted_frame (s : State) (t owner home : Nat) : (s.pieceCounted t owner home).pocket = s.pocket ∧
    (s.pieceCounted t owner home).insts = s.insts ∧ ∀ a < 0x2000000, (s.pieceCounted t owner home).rd a = s.rd a := by
  have hcount {u : State} {a b : Nat} (ha : a < 0x2000000) (hb : 0x2000000 ≤ b) : (u.count b 1).rd a = u.rd a :=
    State.rd_count_ne _ _ (by omega)
  have hpieces : 0x2000000 ≤ Reg.yokeStatPieces (owner / 64) := by
    rw [Reg.yokeStatPieces]
    omega
  have hsteal : 0x2000000 ≤ (if owner / 64 = t / 64 then Reg.yokeStatStealLocal (owner / 64)
      else Reg.yokeStatStealRemote (owner / 64)) := by
    rw [Reg.yokeStatStealLocal, Reg.yokeStatStealRemote]
    split <;> omega
  unfold State.pieceCounted
  dsimp only
  split
  · exact ⟨rfl, rfl, fun a ha => hcount ha hpieces⟩
  · exact ⟨rfl, rfl, fun a ha => (hcount ha hsteal).trans (hcount ha hpieces)⟩

theorem State.serveTake_hands {s : State} {q a t k n : Nat} {x : Inst} {p : Piece} (hcomputing : x.computing = false)
    (hpick : x.pick t = some n) (hp : tfind x.pieces n = some p) : s.serveTake q a t k x =
      (((s.setInst q a (x.handOut t k n p)).pieceCounted t (x.listOf n) p.home).finishTake t k (pieceWords t n p), true) := by
  have hclear : (fun pp : Nat × Piece => if pp.2.reserved = some t then (pp.1, { pp.2 with reserved := none }) else pp) =
      fun pp => (pp.1, pp.2.unreserved t) := by
    funext pp
    unfold Piece.unreserved
    split <;> rfl
  unfold State.serveTake
  dsimp only
  rw [if_neg (by simp [hcomputing])]
  simp only [hpick, hp, hclear]
  rfl

/-- The words of a task's core lie below the panel blocks. -/
theorem State.fetch_congr {s u : State} {t : Nat} (k : Nat) (ht : t < 256) (hk : k < 4)
    (h : ∀ a < 0x2000000, u.rd a = s.rd a) : u.fetch t k = s.fetch t k := by
  have hpc : u.pc t k = s.pc t k := State.fld_congr (h _ (by rw [Reg.cuffTaskStatus]; omega)) _ _
  have hlt : s.pc t k < 4096 := fieldOf_lt ..
  rw [State.fetch, hpc, State.fetch]
  refine h _ ?_
  rw [Reg.cuffImem]
  omega

/-- A take that is served with piece `n` (R303, R304). -/
theorem State.serveTake_tookPiece {s : State} {q a t k n : Nat} {x : Inst} {p : Piece} (ht : t < 256) (hk : k < 4)
    (hpc : s.pc t k < 4095) (hrd : 1 ≤ rdOf (s.fetch t k)) (hcomputing : x.computing = false) (hpick : x.pick t = some n)
    (hp : tfind x.pieces n = some p) : ∃ u, s.serveTake q a t k x = (u, true) ∧
      s.tookPiece u t k (rdOf (s.fetch t k)) n p ∧ u.inst q a = some (x.handOut t k n p) := by
  set v := (s.setInst q a (x.handOut t k n p)).pieceCounted t (x.listOf n) p.home with hv
  obtain ⟨hpocket, hinsts, hlow⟩ := (s.setInst q a (x.handOut t k n p)).pieceCounted_frame t (x.listOf n) p.home
  rw [← hv] at hpocket hinsts hlow
  have hlow' (b : Nat) (hb : b < 0x2000000) : v.rd b = s.rd b := hlow b hb
  have hvpc : v.pc t k = s.pc t k := State.fld_congr (hlow' _ (by rw [Reg.cuffTaskStatus]; omega)) _ _
  have hcreg (i : Nat) (hi : i < 32) : v.creg t k i = s.creg t k i :=
    State.creg_congr (hlow' _ (by rw [Reg.cuffTaskReg]; omega))
  obtain ⟨htook, ⟨hrun, hnext⟩, hpocket', hinsts'⟩ := State.finishTake_took hk (hvpc.trans_lt hpc)
    (congrArg rdOf (State.fetch_congr k ht hk hlow')) hrd (pieceWords t n p)
  have hword {i : Nat} (hi : i < 5) : (v.finishTake t k (pieceWords t n p)).creg t k (rdOf (s.fetch t k) + i) =
      (pieceWords t n p).getD i 0 := by
    rw [htook, if_pos (by omega), Nat.add_sub_cancel_left]
  refine ⟨_, State.serveTake_hands hcomputing hpick hp, ⟨hword (i := 0) (by decide), hword (i := 1) (by decide),
    hword (i := 2) (by decide), hword (i := 3) (by decide), hword (i := 4) (by decide), fun i hi h32 => ?_,
    ⟨hrun, hnext.trans (congrArg (· + 1) hvpc)⟩, hpocket'.trans hpocket⟩, ?_⟩
  · rw [htook, if_neg (by omega), hcreg i h32]
  · rw [State.inst_of_insts (hinsts'.trans hinsts), State.inst_setInst_self]

/-! ## The first waiting take is served (R305, R306) -/

theorem yokeTakeServed_serves {s : State} {q : PartId} {a : Fin 16} {x : Inst} {t k n : Nat} {ws : List (Nat × Nat)}
    {p : Piece} (hx : s.inst q a = some x) (hfirst : sortTakes x.waiting = (t, k) :: ws) (ht : t < 256) (hk : k < 4)
    (hpc : s.pc t k < 4095) (hrd : 1 ≤ rdOf (s.fetch t k)) (hcomputing : x.computing = false) (hpick : x.pick t = some n)
    (hp : tfind x.pieces n = some p) : Answers (.yokeTakeServed q a) s (fun u =>
      s.tookPiece u t k (rdOf (s.fetch t k)) n p ∧ ∃ y, u.inst q a = some y ∧ y.handedOut t k n ∧ (t, k) ∉ y.waiting) := by
  obtain ⟨u, hserve, htook, hinst⟩ := State.serveTake_tookPiece (q := q) (a := a) ht hk hpc hrd hcomputing hpick hp
  refine ⟨u, ?_, htook, _, hinst, x.handOut_handedOut t k n p, x.notMem_waiting_handOut t k n p⟩
  show execYokeTakeServed q a s = _
  rw [execYokeTakeServed, hx]
  dsimp only
  rw [hfirst, State.serveFirst, hserve]

/-! ## A reservation ends (R302) -/

theorem exec_chainReservationExpire {s : State} {q : PartId} {a : Fin 16} {x : Inst} {n : Nat} {p : Piece}
    (hx : s.inst q a = some x) (hp : tfind x.pieces n = some p) : exec (.chainReservationExpire q a n) s =
      .next (s.setInst q a { x with pieces := tset x.pieces n { p with reserved := none } }) := by
  show execChainReservationExpire q a n s = _
  rw [execChainReservationExpire, hx]
  dsimp only
  rw [hp]

/-! ## The statement -/

/-- Settles O37. -/
theorem yokeEvents : Obligations.YokeEvents := by
  unfold Obligations.YokeEvents
  intro s q a x hx
  refine ⟨?_, ?_, ?_⟩
  · intro cs hcomputing _ s1 hcs ps
    exact yokeCutDone_cuts hx hcomputing hcs
  · intro t k ws n p hfirst ht hk _ hpc hrd _ hcomputing hpick hp
    exact yokeTakeServed_serves hx hfirst ht hk hpc hrd hcomputing hpick hp
  · intro n p hp
    exact ⟨_, exec_chainReservationExpire hx hp, rfl, State.inst_setInst_self ..,
      fun j b hne hb => State.inst_setInst_ne s _ (instKey_ne a.isLt hb hne)⟩

end Sys2Proof.Machine
end

section
/-! SUPPORT. YSTART by a task of a tile outside the ensemble: the fault takes the task out of every Yoke queue, so the instances
need not stay as they were (R307, R320, R350). Refutes O36. -/

namespace Sys2Proof.Machine

/-! ## A task that is stopped waits in no Yoke queue (R350) -/

/-- Task `k` of tile `t` waits for no piece. -/
def State.leftYokes (s : State) (t k : Nat) : Prop := ∀ p ∈ s.insts, (t, k) ∉ p.2.waiting

theorem State.leftYokes.of_insts {s u : State} {t k : Nat} (h : s.leftYokes t k) (hinsts : u.insts = s.insts) :
    u.leftYokes t k := by
  rw [State.leftYokes, hinsts]
  exact h

theorem State.leftYokes.setTile {s : State} {t k : Nat} (h : s.leftYokes t k) (j : Nat) (x : Tile) :
    (s.setTile j x).leftYokes t k := h

theorem State.withdraw_leftYokes (s : State) (t k : Nat) : (s.withdraw t k).leftYokes t k := by
  intro p hp
  obtain ⟨p', -, rfl⟩ := List.mem_map.1 hp
  simp

theorem State.stopTask_leftYokes (s : State) (t k suitEnd : Nat) : (s.stopTask t k suitEnd).leftYokes t k := by
  unfold State.stopTask
  dsimp only
  refine State.leftYokes.setTile ?_ _ _
  split
  · exact (State.withdraw_leftYokes _ t k).setTile _ _
  · exact State.withdraw_leftYokes _ t k

/-- Stopping a job leaves the instances as they are. -/
theorem State.stopJob_insts (s : State) (q code cls sub unit seq : Nat) :
    (s.stopJob q code cls sub unit seq).insts = s.insts := by
  unfold State.stopJob
  split <;> rfl

/-- A fault charged to a task that has not ended takes it out of every Yoke queue. -/
theorem State.chargeTask_leftYokes {s : State} {t k : Nat} (h : s.taskOver t k = false) (unit code sub : Nat)
    (latch : State → State) (ctx : State → Nat × Nat × Nat) : (s.chargeTask t k unit code sub latch ctx).leftYokes t k := by
  have hstopped (u : State) : ((u.stopTask t k suitAborted).setTaskState t k taskAborted 0).leftYokes t k :=
    (u.stopTask_leftYokes t k suitAborted).of_insts rfl
  simp only [State.chargeTask, h, Bool.false_eq_true, if_false]
  split
  · exact (hstopped _).of_insts (State.stopJob_insts ..)
  · exact hstopped _

/-! ## YSTART by an outsider (R307) -/

/-- Membership hangs on words of the panel blocks alone. -/
theorem State.isMember_congr {s u : State} (h : ∀ a, 0x2000000 ≤ a → u.rd a = s.rd a) (t q a : Nat) :
    u.isMember t q a = s.isMember t q a := by
  have hasg (p i : Nat) : u.rd (Reg.yokeAsgW p q a i) = s.rd (Reg.yokeAsgW p q a i) := h _ (by rw [Reg.yokeAsgW]; omega)
  have hcfg (p e : Nat) : u.rd (Reg.yokeEnsCfg p q e) = s.rd (Reg.yokeEnsCfg p q e) := h _ (by rw [Reg.yokeEnsCfg]; omega)
  have hmask (p e i : Nat) : u.rd (Reg.yokeEnsMask p q e i) = s.rd (Reg.yokeEnsMask p q e i) :=
    h _ (by rw [Reg.yokeEnsMask]; omega)
  have hmembers (p e : Nat) : u.ensMembers p q e = s.ensMembers p q e := by
    rw [State.ensMembers, State.bit_congr (hcfg p e), State.ensMembers]
    exact if_congr Iff.rfl (List.filter_congr (fun i _ => State.bit_congr (hmask p e _) _)) rfl
  simp only [State.isMember, State.asgValid, State.asgEns, State.asgW, hasg, hmembers]

section Outsider
variable {s : State} {t : TileId} {k : SlotId} {w : Word} {q : Nat} (hruns : s.runs t k w) (hop : opOf w = 0x38)
  (hfn : fnOf w = 0x20) (hrd : rdOf w = 0) (hrb : rbOf w = 0) (hpart : s.partOf t = some q)
  (hmember : s.isMember t q ((s.creg t k (raOf w)).toNat % 16) = false)
include hruns hop hfn hrd hrb hpart hmember

theorem exec_ystart_outsider : exec (.ystart t k) s = .next ((s.instrCounted t).yokeFault t k 0x12 0x01) := by
  have hcode := cuffCode_unit hop hfn rfl (.inr hrd) (.inl rfl) (.inr hrb)
  have hpart' : (s.instrCounted t).partOf t = some q := hpart
  have hmember' := (State.isMember_congr (fun a ha => s.rd_instrCounted_panel t ha) t q _).trans hmember
  show execYstart t k s = _
  rw [execYstart, hruns.issue_eq hcode, State.opA_instrCounted]
  simp only [hpart', hmember', Bool.not_false, if_true]

/-- The task aborts, and waits in no Yoke queue any more. -/
theorem ystart_outsider_leavesYokes :
    Answers (.ystart t k) s (fun u => u.taskState t k = taskAborted ∧ u.leftYokes t k) := by
  refine ⟨_, exec_ystart_outsider hruns hop hfn hrd hrb hpart hmember, State.yokeFault_taskState hruns.taskOver _ _, ?_⟩
  rw [State.yokeFault]
  exact State.chargeTask_leftYokes hruns.taskOver _ _ _ _ _

end Outsider

/-! ## The statement -/

/-- Task (0, 0) of partition 0 runs at YSTART of assignment 0, which serves no ensemble, and stands in the queue of that
assignment's takes. -/
def queuedOutsider : State :=
  { ((State.reset.wr (Reg.cuffTaskStatus 0 0) 0x20000000).wr (Reg.cuffImem 0 0) 0xE0000020).setSlot 0
      { Slot.init with tiles := 1 } with
    insts := [(0, { members := [], lead := 0, steal := 0, starter := (0, 0), computing := true, pieces := [], lists := [],
                    waiting := [(0, 0)] })] }

theorem queuedOutsider_runs : queuedOutsider.runs 0 0 0xE0000020 := by
  unfold State.runs
  decide

theorem queuedOutsider_partOf : queuedOutsider.partOf 0 = some 0 := by decide

theorem queuedOutsider_isMember : queuedOutsider.isMember 0 0 0 = false := by decide

/-- Refutes O36: a task outside the ensemble that stands in the queue of a take runs YSTART. Its abort takes it out of that
queue (R350), so the instances do not stay as they were; the statement does not ask that a running task waits for no piece. -/
theorem not_yokeInstructions : ¬ Obligations.YokeInstructions := by
  unfold Obligations.YokeInstructions
  intro h
  have hpc : queuedOutsider.pc 0 0 < 4095 := by decide
  obtain ⟨hystart, -⟩ := h queuedOutsider 0 0 0xE0000020 0 0 queuedOutsider_runs (by decide) hpc (by decide)
    queuedOutsider_partOf rfl
  obtain ⟨-, -, houtside⟩ := hystart (by decide) (by decide)
  obtain ⟨u, hexec, -, hinsts⟩ := houtside queuedOutsider_isMember
  obtain ⟨v, hexec', -, hleft⟩ := ystart_outsider_leavesYokes (t := 0) (k := 0) queuedOutsider_runs (by decide) (by decide)
    (by decide) (by decide) queuedOutsider_partOf queuedOutsider_isMember
  obtain rfl : v = u := Host.Outcome.next.inj (hexec'.symm.trans hexec)
  exact hleft.of_insts hinsts.symm _ List.mem_cons_self List.mem_cons_self

end Sys2Proof.Machine
end

section
/-! SUPPORT. Words of the Cuff core's register and immediate classes: which instruction a word encodes, and what the functions
of R329 and R330 compute (R327-R330). Settles O7. -/

namespace Sys2Proof.Machine

/-! ## Decoding (R328-R332) -/

/-- A word of the register class names the instruction of its FUNC; a one-operand function wants RB 0 (R329). -/
theorem cuffCode_register {w : Word} {fn : Nat} (hop : opOf w = 0x01) (hfn : fnOf w = fn)
    (h : fn ≤ 0x10 ∨ fn ≤ 0x13 ∧ rbOf w = 0) : cuffCode w = some (code 0x01 fn) := by
  subst hfn
  by_cases hlow : fnOf w ≤ 0x10
  · simp [cuffCode, hop, hlow]
  · simp [cuffCode, hop, hlow, h.resolve_left hlow]

/-- The register class reserves the functions above CTZ, and RB of a one-operand function (R329). -/
theorem cuffCode_register_reserved {w : Word} (hop : opOf w = 0x01) (h : 0x13 < fnOf w ∨ 0x11 ≤ fnOf w ∧ rbOf w ≠ 0) :
    cuffCode w = none := by
  have hlow : ¬ fnOf w ≤ 0x10 := by omega
  have hone : ¬ (fnOf w ≤ 0x13 ∧ rbOf w = 0) := by omega
  simp only [cuffCode, hop, hlow, hone, if_true, if_false]

/-- An opcode whose form has no unused field names its instruction by itself (R330-R333). -/
theorem cuffCode_opcode {w : Word} {op : Nat} (hop : opOf w = op)
    (h : 0x02 ≤ op ∧ op ≤ 0x07 ∨ 0x10 ≤ op ∧ op ≤ 0x14 ∨ 0x18 ≤ op ∧ op ≤ 0x1A ∨ 0x20 ≤ op ∧ op ≤ 0x27) :
    cuffCode w = some (code op 0) := by
  have h1 : op ≠ 0x01 := by omega
  obtain h | h | h | h := h
  · simp only [cuffCode, hop, h1, h, if_false, if_true, and_self]
  all_goals
    have h7 : ¬ (0x02 ≤ op ∧ op ≤ 0x07) := by omega
    have hA : ¬ (0x08 ≤ op ∧ op ≤ 0x0A) := by omega
    have hB : op ≠ 0x0B := by omega
  · simp only [cuffCode, hop, h1, h7, hA, hB, h, if_false, if_true, and_self, true_or]
  · simp only [cuffCode, hop, h1, h7, hA, hB, h, if_false, if_true, and_self, or_true]
  · have hm : ¬ (0x10 ≤ op ∧ op ≤ 0x14 ∨ 0x18 ≤ op ∧ op ≤ 0x1A) := by omega
    simp only [cuffCode, hop, h1, h7, hA, hB, hm, h, if_false, if_true, and_self]

/-- A shift of an immediate wants IMM16[15:5] 0 (R330). -/
theorem cuffCode_shiftImm {w : Word} {op : Nat} (hop : opOf w = op) (h : 0x08 ≤ op ∧ op ≤ 0x0A) :
    cuffCode w = if fieldOf w 5 11 = 0 then some (code op 0) else none := by
  have h1 : op ≠ 0x01 := by omega
  have h7 : ¬ (0x02 ≤ op ∧ op ≤ 0x07) := by omega
  simp only [cuffCode, hop, h1, h7, h, if_false, if_true, and_self]

/-- LUI has no RA (R330). -/
theorem cuffCode_lui {w : Word} (hop : opOf w = 0x0B) : cuffCode w = if raOf w = 0 then some (code 0x0B 0) else none := by
  simp [cuffCode, hop]

/-! ## Immediates (R330) -/

theorem sext16_eq (w : Word) : sext16 w = BitVec.ofInt 32 (w.setWidth 16).toInt := rfl

theorem zext16_eq (w : Word) : zext16 w = BitVec.ofNat 32 (w.toNat % 0x10000) := by
  apply BitVec.eq_of_toNat_eq
  simp [zext16]

theorem fieldOf_low (w : Word) (len : Nat) : fieldOf w 0 len = w.toNat % 2 ^ len := by
  simp [fieldOf]

/-! ## The functions of R329 as numbers -/

theorem shiftLeft_eq_ofNat (a : Word) (n : Nat) : a <<< n = BitVec.ofNat 32 (a.toNat * 2 ^ n) := by
  apply BitVec.eq_of_toNat_eq
  simp [Nat.shiftLeft_eq]

theorem shiftRight_eq_ofNat (a : Word) (n : Nat) : a >>> n = BitVec.ofNat 32 (a.toNat / 2 ^ n) := by
  apply BitVec.eq_of_toNat_eq
  rw [BitVec.toNat_ushiftRight, Nat.shiftRight_eq_div_pow, BitVec.toNat_ofNat,
    Nat.mod_eq_of_lt ((Nat.div_le_self _ _).trans_lt a.isLt)]

theorem sshiftRight_eq_ofInt (a : Word) (n : Nat) : a.sshiftRight n = BitVec.ofInt 32 (a.toInt / 2 ^ n) := by
  rw [BitVec.sshiftRight, Int.shiftRight_eq_div_pow]
  norm_cast

theorem aluSlt_eq (a b : Word) : aluSlt a b = if a.toInt < b.toInt then 1 else 0 :=
  if_congr BitVec.slt_iff_toInt_lt rfl rfl

theorem aluSltu_eq (a b : Word) : aluSltu a b = if a.toNat < b.toNat then 1 else 0 :=
  if_congr BitVec.ult_iff_toNat_lt rfl rfl

theorem aluMin_eq (a b : Word) : aluMin a b = BitVec.ofInt 32 (Min.min a.toInt b.toInt) := by
  rw [aluMin]
  split
  · next h => rw [min_eq_left (BitVec.slt_iff_toInt_lt.1 h).le, BitVec.ofInt_toInt]
  · next h => rw [min_eq_right (not_lt.1 (mt BitVec.slt_iff_toInt_lt.2 h)), BitVec.ofInt_toInt]

theorem aluMax_eq (a b : Word) : aluMax a b = BitVec.ofInt 32 (Max.max a.toInt b.toInt) := by
  rw [aluMax]
  split
  · next h => rw [max_eq_right (BitVec.slt_iff_toInt_lt.1 h).le, BitVec.ofInt_toInt]
  · next h => rw [max_eq_left (not_lt.1 (mt BitVec.slt_iff_toInt_lt.2 h)), BitVec.ofInt_toInt]

theorem aluMinu_eq (a b : Word) : aluMinu a b = BitVec.ofNat 32 (Min.min a.toNat b.toNat) := by
  rw [aluMinu]
  split
  · next h => rw [min_eq_left (BitVec.ult_iff_toNat_lt.1 h).le, BitVec.ofNat_toNat, BitVec.setWidth_eq]
  · next h => rw [min_eq_right (not_lt.1 (mt BitVec.ult_iff_toNat_lt.2 h)), BitVec.ofNat_toNat, BitVec.setWidth_eq]

theorem aluMaxu_eq (a b : Word) : aluMaxu a b = BitVec.ofNat 32 (Max.max a.toNat b.toNat) := by
  rw [aluMaxu]
  split
  · next h => rw [max_eq_right (BitVec.ult_iff_toNat_lt.1 h).le, BitVec.ofNat_toNat, BitVec.setWidth_eq]
  · next h => rw [max_eq_left (not_lt.1 (mt BitVec.ult_iff_toNat_lt.2 h)), BitVec.ofNat_toNat, BitVec.setWidth_eq]

theorem aluPopc_eq (a : Word) : aluPopc a = BitVec.ofNat 32 ((List.range 32).countP (fun i => a.getLsbD i)) := by
  rw [aluPopc, setBits, List.countP_eq_length_filter]
  rfl

/-- The numbers below `n` that a scan from 0 passes: `p` holds of each of them and fails at the next. -/
theorem length_takeWhile_range (p : Nat → Bool) (n : Nat) : let z := ((List.range n).takeWhile p).length
    z ≤ n ∧ (∀ i < z, p i = true) ∧ (z < n → p z = false) := by
  have hlen := List.findIdx_le_length (p := fun i => !p i) (xs := List.range n)
  have hz : ((List.range n).takeWhile p).length = (List.range n).findIdx (fun i => !p i) := by
    rw [List.takeWhile_eq_take_findIdx_not, List.length_take, min_eq_left hlen]
  rw [List.length_range] at hlen
  dsimp only
  rw [hz]
  refine ⟨hlen, fun i hi => ?_, fun hn => ?_⟩
  · simpa using List.not_of_lt_findIdx hi
  · have h := List.findIdx_getElem (p := fun i => !p i) (xs := List.range n) (w := by rwa [List.length_range])
    rw [List.getElem_range] at h
    simpa using h

theorem leadingZeros_spec (a : Word) : leadingZeros a ≤ 32 ∧ (∀ i < leadingZeros a, a.getLsbD (31 - i) = false) ∧
    (leadingZeros a < 32 → a.getLsbD (31 - leadingZeros a) = true) := by
  simpa [leadingZeros] using length_takeWhile_range (fun i => !a.getLsbD (31 - i)) 32

theorem trailingZeros_spec (a : Word) : trailingZeros a ≤ 32 ∧ (∀ i < trailingZeros a, a.getLsbD i = false) ∧
    (trailingZeros a < 32 → a.getLsbD (trailingZeros a) = true) := by
  simpa [trailingZeros] using length_takeWhile_range (fun i => !a.getLsbD i) 32

theorem zext16_shiftLeft (w : Word) : zext16 w <<< 16 = BitVec.ofNat 32 (w.toNat % 0x10000 * 0x10000) := by
  rw [zext16_eq, shiftLeft_eq_ofNat, BitVec.toNat_ofNat, Nat.mod_eq_of_lt (by omega)]
  rfl

/-! ## An instruction that computes RD -/

section Compute
variable {s : State} {t : TileId} {k : SlotId} {w : Word} (hruns : s.runs t k w) {cmd : Instr} {c : Nat}
  (hcode : cuffCode w = some c) {v : Word}
include hruns hcode

/-- RD takes the function of RA and RB. -/
theorem State.runs.computes (f : Word → Word → Word)
    (hexec : exec cmd s = .next (s.issue t k c (fun w s => s.setRd t k w (f (s.opA t k w) (s.opB t k w)))))
    (hv : f (s.creg t k (raOf w)) (s.creg t k (rbOf w)) = v) : s.writesRd cmd t k w v := by
  refine hruns.writesRd k.isLt ?_
  rw [hexec, hruns.issue_eq hcode, State.opA_instrCounted, State.opB_instrCounted, hv]

/-- RD takes the function of RA and the word's own fields. -/
theorem State.runs.computesImm (f : Word → Word → Word)
    (hexec : exec cmd s = .next (s.issue t k c (fun w s => s.setRd t k w (f (s.opA t k w) w))))
    (hv : f (s.creg t k (raOf w)) w = v) : s.writesRd cmd t k w v := by
  refine hruns.writesRd k.isLt ?_
  rw [hexec, hruns.issue_eq hcode, State.opA_instrCounted, hv]

end Compute

/-! ## The statement -/

/-- Settles O7, instruction by instruction: each is issued under its code and writes RD with its function, which is the number
that the statement gives. -/
theorem aluResults : Obligations.AluResults := by
  unfold Obligations.AluResults
  refine ⟨fun s t k w hruns hop => ?_, fun s t k w hruns => ?_⟩
  · have two {fn : Nat} (hfn : fnOf w = fn) (h : fn ≤ 0x10) := cuffCode_register hop hfn (.inl h)
    have one {fn : Nat} (hfn : fnOf w = fn) (h : fn ≤ 0x13) (hrb : rbOf w = 0) := cuffCode_register hop hfn (.inr ⟨h, hrb⟩)
    refine ⟨fun hfn => hruns.computes (two hfn (by decide)) aluAdd rfl rfl,
      fun hfn => hruns.computes (two hfn (by decide)) aluSub rfl rfl,
      fun hfn => hruns.computes (two hfn (by decide)) aluAnd rfl rfl,
      fun hfn => hruns.computes (two hfn (by decide)) aluOr rfl rfl,
      fun hfn => hruns.computes (two hfn (by decide)) aluXor rfl rfl,
      fun hfn => hruns.computes (two hfn (by decide)) aluShl rfl (shiftLeft_eq_ofNat _ _),
      fun hfn => hruns.computes (two hfn (by decide)) aluShr rfl (shiftRight_eq_ofNat _ _),
      fun hfn => hruns.computes (two hfn (by decide)) aluSra rfl (sshiftRight_eq_ofInt _ _),
      fun hfn => hruns.computes (two hfn (by decide)) aluSlt rfl (aluSlt_eq _ _),
      fun hfn => hruns.computes (two hfn (by decide)) aluSltu rfl (aluSltu_eq _ _),
      fun hfn => hruns.computes (two hfn (by decide)) aluMul rfl rfl,
      fun hfn => hruns.computes (two hfn (by decide)) aluMulh rfl rfl,
      fun hfn => hruns.computes (two hfn (by decide)) aluMulhu rfl rfl,
      fun hfn => hruns.computes (two hfn (by decide)) aluMin rfl (aluMin_eq _ _),
      fun hfn => hruns.computes (two hfn (by decide)) aluMax rfl (aluMax_eq _ _),
      fun hfn => hruns.computes (two hfn (by decide)) aluMinu rfl (aluMinu_eq _ _),
      fun hfn => hruns.computes (two hfn (by decide)) aluMaxu rfl (aluMaxu_eq _ _),
      fun hrb => ⟨fun hfn => ?_, fun hfn => ?_, fun hfn => ?_⟩, cuffCode_register_reserved hop⟩
    · exact hruns.computesImm (one hfn (by decide) hrb) (fun a _ => aluPopc a) rfl (aluPopc_eq _)
    · obtain ⟨hle, hzeros, hone⟩ := leadingZeros_spec (s.creg t k (raOf w))
      exact ⟨_, hle, hzeros, hone, hruns.computesImm (one hfn (by decide) hrb) (fun a _ => aluClz a) rfl rfl⟩
    · obtain ⟨hle, hzeros, hone⟩ := trailingZeros_spec (s.creg t k (raOf w))
      exact ⟨_, hle, hzeros, hone, hruns.computesImm (one hfn (by decide) hrb) (fun a _ => aluCtz a) rfl rfl⟩
  · have plain {op : Nat} (hop : opOf w = op) (h : 0x02 ≤ op ∧ op ≤ 0x07) := cuffCode_opcode hop (.inl h)
    have shift {op : Nat} (hzero : fieldOf w 5 11 = 0) (hop : opOf w = op) (h : 0x08 ≤ op ∧ op ≤ 0x0A) :=
      (cuffCode_shiftImm hop h).trans (if_pos hzero)
    have hamount : fieldOf w 0 5 = w.toNat % 32 := fieldOf_low w 5
    refine ⟨fun hop => hruns.computesImm (plain hop (by decide)) aluAddi rfl rfl,
      fun hop => hruns.computesImm (plain hop (by decide)) aluAndi rfl (by rw [aluAndi, zext16_eq]),
      fun hop => hruns.computesImm (plain hop (by decide)) aluOri rfl (by rw [aluOri, zext16_eq]),
      fun hop => hruns.computesImm (plain hop (by decide)) aluXori rfl (by rw [aluXori, zext16_eq]),
      fun hop => hruns.computesImm (plain hop (by decide)) aluSlti rfl (aluSlt_eq _ _),
      fun hop => hruns.computesImm (plain hop (by decide)) aluSltiu rfl (aluSltu_eq _ _),
      fun hzero => ⟨fun hop => ?_, fun hop => ?_, fun hop => ?_⟩, fun hop hra => ?_, ?_⟩
    · exact hruns.computesImm (shift hzero hop (by decide)) aluShli rfl (by rw [aluShli, shiftLeft_eq_ofNat, hamount])
    · exact hruns.computesImm (shift hzero hop (by decide)) aluShri rfl (by rw [aluShri, shiftRight_eq_ofNat, hamount])
    · exact hruns.computesImm (shift hzero hop (by decide)) aluSrai rfl (by rw [aluSrai, sshiftRight_eq_ofInt, hamount])
    · exact hruns.computesImm ((cuffCode_lui hop).trans (if_pos hra)) (fun _ w => zext16 w <<< 16) rfl (zext16_shiftLeft w)
    · rintro (⟨hlow, hhigh, hfield⟩ | ⟨hop, hra⟩)
      · exact (cuffCode_shiftImm rfl ⟨hlow, hhigh⟩).trans (if_neg hfield)
      · exact (cuffCode_lui hop).trans (if_neg hra)

end Sys2Proof.Machine
end

section
/-! SUPPORT. Narrow accesses of the Cuff core: where they lie, what a load reads and what a store posts (R331, R336). Settles O8. -/

namespace Sys2Proof.Machine

/-! ## What counting the instruction leaves of an access -/

section Counted
variable (s : State) (t : Nat)

theorem State.rd_slotBase_instrCounted (k : SlotId) :
    (s.instrCounted t).rd (Reg.pocketSlotBase t k) = s.rd (Reg.pocketSlotBase t k) :=
  s.rd_instrCounted (by rw [Reg.pocketSlotBase, Reg.cuffStatInstr]; omega)

theorem State.rd_slotBound_instrCounted (k : SlotId) :
    (s.instrCounted t).rd (Reg.pocketSlotBound t k) = s.rd (Reg.pocketSlotBound t k) :=
  s.rd_instrCounted (by rw [Reg.pocketSlotBound, Reg.cuffStatInstr]; omega)

theorem State.sbMode_instrCounted : (s.instrCounted t).sbMode t = s.sbMode t :=
  State.bit_congr (s.rd_instrCounted (by rw [Reg.sbStatus, Reg.cuffStatInstr]; omega)) _

theorem State.sbOverlap_instrCounted (off len : Nat) (own : List Nat) :
    (s.instrCounted t).sbOverlap t off len own = s.sbOverlap t off len own := by
  have hlo (e : Nat) : (s.instrCounted t).rd (Reg.sbEntryLo t e) = s.rd (Reg.sbEntryLo t e) :=
    s.rd_instrCounted (by rw [Reg.sbEntryLo, Reg.cuffStatInstr]; omega)
  have hhi (e : Nat) : (s.instrCounted t).rd (Reg.sbEntryHi t e) = s.rd (Reg.sbEntryHi t e) :=
    s.rd_instrCounted (by rw [Reg.sbEntryHi, Reg.cuffStatInstr]; omega)
  unfold State.sbOverlap
  congr
  funext e
  rw [hlo, State.fld_congr (hhi e)]

theorem State.pocketOpen_instrCounted {off len : Nat} (h : s.pocketOpen t off len) : (s.instrCounted t).pocketOpen t off len := by
  have hstatus := s.rd_instrCounted (t := t) (a := Reg.pocketStatus t) (by rw [Reg.pocketStatus, Reg.cuffStatInstr]; omega)
  have hpower := s.rd_instrCounted (t := t) (a := Reg.pocketPwrStatus t)
    (by rw [Reg.pocketPwrStatus, Reg.cuffStatInstr]; omega)
  exact ⟨(State.bit_congr hstatus 7).trans h.1, fun w hw => (State.bit_congr hpower _).trans (h.2 w hw)⟩

theorem State.narrowTo_instrCounted {k : SlotId} {w : Word} {len off : Nat} (h : s.narrowTo t k w len off) :
    (s.instrCounted t).narrowTo t k w len off := by
  obtain ⟨o, ho, halign, hbound, hoff, hfree⟩ := h
  refine ⟨o, ?_, halign, ?_, ?_, fun hmode => ?_⟩
  · rw [State.creg_instrCounted, ho]
  · rwa [State.rd_slotBound_instrCounted]
  · rwa [State.rd_slotBase_instrCounted]
  · rw [State.sbMode_instrCounted] at hmode
    rw [State.sbOverlap_instrCounted, hfree hmode]

end Counted

/-! ## The checks (R336) -/

/-- An access that passes the checks goes to its physical offset. -/
theorem State.narrow_of_narrowTo {s : State} {t k len off : Nat} {w : Word} (h : s.narrowTo t k w len off)
    (f : State → Nat → State) : s.narrow t k w len f = f s off := by
  obtain ⟨o, ho, halign, hbound, hoff, hfree⟩ := h
  have hnowait : ¬ (s.sbMode t && s.sbOverlap t off len []) = true := by
    rw [Bool.and_eq_true, not_and, Bool.not_eq_true]
    exact hfree
  rw [State.narrow, State.opA, sext16_eq, ← ho, if_neg (not_not.2 halign), State.slotPhys_inBound hbound, ← hoff]
  exact if_neg hnowait

/-- The slot-relative offset of a narrow access (R331). -/
def State.narrowOffset (s : State) (t k : Nat) (w : Word) : Nat :=
  (s.creg t k (raOf w) + BitVec.ofInt 32 (w.setWidth 16).toInt).toNat

/-- A misaligned access, and one past the slot bound, abort the task. -/
theorem State.narrow_taskState {s : State} {t k len : Nat} {w : Word} (hover : s.taskOver t k = false)
    (h : s.narrowOffset t k w % len ≠ 0 ∨ (s.rd (Reg.pocketSlotBound t k)).toNat < s.narrowOffset t k w + len)
    (f : State → Nat → State) :
    (s.narrow t k w len f).taskState t k = taskAborted := by
  rw [State.narrowOffset] at h
  rw [State.narrow, State.opA, sext16_eq]
  split
  · exact State.illegal_taskState hover _
  · next halign =>
    rw [State.slotPhys, if_neg (not_le.2 (h.resolve_left halign))]
    exact State.chargeTask_taskState hover ..

/-! ## Loads and stores -/

/-- A store of the low `len` bytes of `v` stands behind the accesses that the tile has posted. -/
def State.storePosted (s : State) (t k off len : Nat) (v : Word) : State :=
  s.setPorts t { s.ports t with posted := (s.ports t).posted ++ [{ waits := 0, acc :=
    { src := .task k (0x30 + k), off := off, len := len,
      wr := some ((List.range len).map (fun i => some (BitVec.ofNat 8 (v.toNat / 256 ^ i)))) } }] }

section Access
variable {s : State} {t : TileId} {k : SlotId} {w : Word} (hruns : s.runs t k w) {cmd : Instr} {c len : Nat}
  (hcode : cuffCode w = some c)
include hruns hcode

/-- A load that passes the checks and finds no store of its task before it writes RD with the number it reads. -/
theorem State.runs.loads {ext ext' : Nat → Word}
    (hexec : exec cmd s = .next (s.issue t k c (fun w s => s.load t k w len ext'))) (hext : ∀ n < 256 ^ len, ext' n = ext n) :
    s.loads cmd t k w len ext := by
  intro off hto hstores hopen hclean
  refine hruns.writesRd k.isLt ?_
  have hread := State.pocketRead_open (s.pocketOpen_instrCounted t hopen) (hclean : (s.instrCounted t).pocketClean t off len)
  have hdrain : (s.instrCounted t).drainStores t k = s.instrCounted t := by
    have hstores' : (s.instrCounted t).storesWait t k = false := hstores
    rw [State.drainStores, hstores']
    rfl
  have hlt : mreadNat s.pocket (pkey t off) len < 256 ^ len := by
    simpa [mread_length, mreadNat] using leNat_lt (mread s.pocket (pkey t off) len)
  rw [hexec, hruns.issue_eq hcode, State.load, State.narrow_of_narrowTo (s.narrowTo_instrCounted t hto)]
  simp only [hdrain, hruns.taskOver, hread, State.pocket_instrCounted, Bool.false_eq_true, if_false]
  rw [← hext _ hlt]
  rfl

/-- A store that passes the checks joins the posted accesses of its tile. -/
theorem State.runs.posts (hexec : exec cmd s = .next (s.issue t k c (fun w s => s.store t k w len))) :
    s.posts cmd t k w len (s.creg t k (rdOf w)) := by
  intro off hto hpc
  have hcomplete : exec cmd s =
      .next (((s.instrCounted t).storePosted t k off len (s.creg t k (rdOf w))).complete t k) := by
    rw [hexec, hruns.issue_eq hcode, State.store, State.narrow_of_narrowTo (s.narrowTo_instrCounted t hto),
      State.creg_instrCounted, leBytes_eq_map, List.map_map]
    rfl
  have hpc' : ((s.instrCounted t).storePosted t k off len (s.creg t k (rdOf w))).pc t k = s.pc t k :=
    (State.fld_congr (State.rd_setPorts ..) _ _).trans (s.pc_instrCounted t k)
  have hmoved := State.complete_movedOn (hpc'.trans_lt hpc)
  refine ⟨_, hcomplete, ?_, hmoved.pc.trans (congrArg (· + 1) hpc'), hmoved.state, ?_⟩
  · rw [State.tile, hmoved.frame.tiles]
    exact State.tile_setTile_self ..
  · exact (((State.onlyTile.refl s t _).wr (by simp) _).setPorts _).onlyRegs (hmoved.frame.mono (by simp))

end Access

/-! ## The sign of what a load reads (R331) -/

theorem signExtend_eq_ofInt {v n : Nat} (h : n < 2 ^ (v + 1)) : (BitVec.ofNat (v + 1) n).signExtend 32 =
    BitVec.ofInt 32 (if n < 2 ^ v then n else n - 2 ^ (v + 1) : Int) := by
  have hhalf : 2 * n < 2 ^ (v + 1) ↔ n < 2 ^ v := by
    rw [pow_succ]
    omega
  rw [BitVec.signExtend, BitVec.toInt_eq_toNat_cond, BitVec.toNat_ofNat, Nat.mod_eq_of_lt h, if_congr hhalf rfl rfl]
  push_cast
  rfl

/-! ## The statement -/

/-- Settles O8: a load reads the number at its address (log entry 12: at once), and a store is posted, each by the rule for its
kind. -/
theorem loadsAndStores : Obligations.LoadsAndStores := by
  unfold Obligations.LoadsAndStores
  refine ⟨fun s t k w hruns => ?_, fun s t k w hruns => ?_⟩
  · have hcode {op : Nat} (hop : opOf w = op) (h : 0x10 ≤ op ∧ op ≤ 0x14) := cuffCode_opcode hop (.inr (.inl h))
    exact ⟨fun hop => hruns.loads (hcode hop (by decide)) rfl (fun n hn => signExtend_eq_ofInt (v := 7) hn),
      fun hop => hruns.loads (hcode hop (by decide)) rfl (fun _ _ => rfl),
      fun hop => hruns.loads (hcode hop (by decide)) rfl (fun n hn => signExtend_eq_ofInt (v := 15) hn),
      fun hop => hruns.loads (hcode hop (by decide)) rfl (fun _ _ => rfl),
      fun hop => hruns.loads (hcode hop (by decide)) rfl (fun _ _ => rfl)⟩
  · have hcode {op : Nat} (hop : opOf w = op) (h : 0x18 ≤ op ∧ op ≤ 0x1A) := cuffCode_opcode hop (.inr (.inr (.inl h)))
    exact ⟨fun hop => hruns.posts (hcode hop (by decide)) rfl, fun hop => hruns.posts (hcode hop (by decide)) rfl,
      fun hop => hruns.posts (hcode hop (by decide)) rfl⟩

end Sys2Proof.Machine
end

section
/-! SUPPORT. What aborts a task: an access that fails its checks, and a word that encodes no instruction (R328,
R336). Settles O9. -/

namespace Sys2Proof.Machine

/-! ## Words that encode no instruction (R328, R332, R335) -/

/-- An opcode that the table leaves out. -/
theorem cuffCode_reservedOpcode {w : Word} (h : opOf w = 0x00 ∨ 0x0C ≤ opOf w ∧ opOf w ≤ 0x0F ∨ 0x15 ≤ opOf w ∧ opOf w ≤ 0x17 ∨
    0x1B ≤ opOf w ∧ opOf w ≤ 0x1F ∨ 0x29 ≤ opOf w ∧ opOf w ≤ 0x2F ∨ 0x32 ≤ opOf w ∧ opOf w ≤ 0x37 ∨
    0x39 ≤ opOf w ∧ opOf w ≤ 0x3E) : cuffCode w = none := by
  have h1 : opOf w ≠ 0x01 := by omega
  have h7 : ¬ (0x02 ≤ opOf w ∧ opOf w ≤ 0x07) := by omega
  have hA : ¬ (0x08 ≤ opOf w ∧ opOf w ≤ 0x0A) := by omega
  have hB : opOf w ≠ 0x0B := by omega
  have hmem : ¬ (0x10 ≤ opOf w ∧ opOf w ≤ 0x14 ∨ 0x18 ≤ opOf w ∧ opOf w ≤ 0x1A) := by omega
  have hjump : ¬ (0x20 ≤ opOf w ∧ opOf w ≤ 0x27) := by omega
  have hjr : opOf w ≠ 0x28 := by omega
  have hcsr : ¬ (opOf w = 0x30 ∨ opOf w = 0x31) := by omega
  have hunit : opOf w ≠ 0x38 := by omega
  have hcore : opOf w ≠ 0x3F := by omega
  simp only [cuffCode, h1, h7, hA, hB, hmem, hjump, hjr, hcsr, hunit, hcore, if_false]

/-- JR has neither RB nor FUNC (R332). -/
theorem cuffCode_jr {w : Word} (hop : opOf w = 0x28) :
    cuffCode w = if rbOf w = 0 ∧ fnOf w = 0 then some (code 0x28 0) else none := by
  simp [cuffCode, hop]

/-- A word of the core class names the instruction of its FUNC and no register (R335). -/
theorem cuffCode_core {w : Word} (hop : opOf w = 0x3F) :
    cuffCode w = if fnOf w ≤ 5 ∧ rdOf w = 0 ∧ raOf w = 0 ∧ rbOf w = 0 then some (code 0x3F (fnOf w)) else none := by
  simp [cuffCode, hop]

/-! ## What aborts -/

section Aborts
variable {s : State} {t : TileId} {k : SlotId} {w : Word} (hruns : s.runs t k w)
include hruns

/-- A narrow access that is misaligned or leaves the slot aborts its task. -/
theorem State.runs.narrowAborts {cmd : Instr} {c len : Nat} (hcode : cuffCode w = some c) {f : Word → State → Nat → State}
    (hexec : exec cmd s = .next (s.issue t k c (fun w s => s.narrow t k w len (f w))))
    (h : s.narrowOffset t k w % len ≠ 0 ∨ (s.rd (Reg.pocketSlotBound t k)).toNat < s.narrowOffset t k w + len) :
    Answers cmd s (fun u => u.taskState t k = taskAborted) := by
  refine ⟨_, hexec, ?_⟩
  rw [hruns.issue_eq hcode]
  refine State.narrow_taskState hruns.taskOver ?_ _
  rwa [State.narrowOffset, State.creg_instrCounted, State.rd_slotBound_instrCounted]

/-- A word that encodes no instruction aborts its task. -/
theorem State.runs.reservedAborts (hcode : cuffCode w = none) :
    Answers (.reservedInstruction t k) s (fun u => u.taskState t k = taskAborted) := by
  have hexec : exec (.reservedInstruction t k) s = .next ((s.instrCounted t).illegal t k 0x01) := by
    obtain ⟨hstate, hfetch⟩ := hruns
    show execReservedInstruction t k s = _
    simp [execReservedInstruction, State.canIssue, hstate, hfetch, hcode, State.instrCounted]
  exact ⟨_, hexec, State.illegal_taskState hruns.taskOver _⟩

end Aborts

/-! ## The statement -/

/-- Settles O9: a load or store goes through the checks of a narrow access, and each of the words listed encodes no
instruction. -/
theorem trapsAbortTheTask : Obligations.TrapsAbortTheTask := by
  unfold Obligations.TrapsAbortTheTask
  refine ⟨fun s t k w hruns => ?_, fun s t k w hruns h => hruns.reservedAborts ?_⟩
  · have load {op : Nat} (hop : opOf w = op) (h : 0x10 ≤ op ∧ op ≤ 0x14) := cuffCode_opcode hop (.inr (.inl h))
    have store {op : Nat} (hop : opOf w = op) (h : 0x18 ≤ op ∧ op ≤ 0x1A) := cuffCode_opcode hop (.inr (.inr (.inl h)))
    exact ⟨fun hop h => hruns.narrowAborts (load hop (by decide)) rfl (.inr h),
      fun hop h => hruns.narrowAborts (load hop (by decide)) rfl (.inr h),
      fun hop h => hruns.narrowAborts (load hop (by decide)) rfl h,
      fun hop h => hruns.narrowAborts (load hop (by decide)) rfl h,
      fun hop h => hruns.narrowAborts (load hop (by decide)) rfl h,
      fun hop h => hruns.narrowAborts (store hop (by decide)) rfl (.inr h),
      fun hop h => hruns.narrowAborts (store hop (by decide)) rfl h,
      fun hop h => hruns.narrowAborts (store hop (by decide)) rfl h⟩
  · obtain h | h | h | h | h | h | h | ⟨hop, hfn⟩ | ⟨hop, hused⟩ | ⟨hop, hra⟩ | ⟨hop, hused⟩ := h
    iterate 7 exact cuffCode_reservedOpcode (by omega)
    · exact cuffCode_register_reserved hop (.inl hfn)
    · exact (cuffCode_core hop).trans (if_neg (by omega))
    · exact (cuffCode_lui hop).trans (if_neg hra)
    · exact (cuffCode_jr hop).trans (if_neg (by omega))

end Sys2Proof.Machine
end

section
/-! SUPPORT. Branches, jumps and links: where a task goes on, and the link register that it writes (R332). Settles O10. -/

namespace Sys2Proof.Machine

/-! ## Going on at a word -/

/-- The task has gone on to word `p`: beside PC, STATE and the wait reason nothing of it has changed. -/
structure State.movedTo (s u : State) (t k p : Nat) : Prop where
  pc : u.pc t k = p
  state : u.taskState t k = taskRunning
  statusBits : s.sameBits u (Reg.cuffTaskStatus t k) (fun j => 12 ≤ j ∧ j < 25)
  activeBits : s.sameBits u (Reg.cuffStatus t) (fun j => j ≠ k)
  frame : s.onlyRegs u [Reg.cuffTaskStatus t k, Reg.cuffStatus t]

theorem State.goto_movedTo (s : State) (t k : Nat) {p : Int} (hlow : 0 ≤ p) (hhigh : p ≤ 4095) :
    s.movedTo (s.goto t k p) t k p.toNat := by
  rw [State.goto, if_pos (by omega)]
  refine ⟨?_, State.setTaskState_taskState .., fun j hj => ?_, fun j hj => ?_, ?_⟩
  · rw [State.setTaskState_pc]
    exact State.fld_setFld_of_lt _ _ (by decide) (by omega)
  · rw [State.setTaskState_statusBits _ _ _ _ _ j hj.2, State.setPc, State.getLsbD_setFld_out _ _ _ (by omega)]
  · rw [State.setTaskState_activeBits _ _ _ _ _ j hj, State.setPc, State.rd_setFld_ne _ _ _ _
      (Reg.cuffTaskStatus_ne_cuffStatus t k).symm]
  · exact ((State.onlyRegs.refl s _).setFld (by simp) _ _ _).trans (State.setTaskState_onlyRegs ..)

/-- A target outside the instruction store aborts the task. -/
theorem State.goto_outside {s : State} {t k : Nat} (hover : s.taskOver t k = false) {p : Int} (h : p < 0 ∨ 4095 < p) :
    (s.goto t k p).taskState t k = taskAborted := by
  rw [State.goto, if_neg (by omega)]
  exact State.illegal_taskState hover _

/-- RD takes `v` and the task goes on at word `p`. -/
theorem State.goto_wentOn (s : State) (t : Nat) {k : Nat} (hk : k < 4) (w v : Word) {p : Int} (hlow : 0 ≤ p) (hhigh : p ≤ 4095) :
    s.wentOn ((s.rdTaken t k w v).goto t k p) t k (rdOf w) v p.toNat := by
  obtain ⟨hpc, hstate, hstatus, hactive, hframe⟩ := (s.rdTaken t k w v).goto_movedTo t k hlow hhigh
  refine ⟨fun i => ?_, hpc, hstate, fun j hj => ?_, fun j hj => ?_, ?_, ?_⟩
  · rw [State.creg_congr (hframe.2 _ (Reg.cuffTaskReg_notMem_taskWords t hk i)), State.creg_rdTaken]
  · rw [hstatus j hj, State.rd_cuffTaskStatus_rdTaken]
  · rw [hactive j hj, State.rd_cuffStatus_rdTaken]
  · rw [hframe.2 _ (Reg.cuffStatInstr_notMem_taskWords t k), State.rd_cuffStatInstr_rdTaken]
  · exact (s.rdTaken_onlyRegs t k w v).trans (hframe.mono (by simp [rdCuffWords]))

/-- Every register number stands as RD in some word. -/
theorem exists_rdOf_eq {rd : Nat} (h : rd < 32) : ∃ w, rdOf w = rd := by
  refine ⟨putField 0 21 5 rd, ?_⟩
  rw [rdOf, fieldOf_putField _ _ _ _ (by decide)]
  exact Nat.mod_eq_of_lt h

/-! ## Conditions -/

theorem condBge_iff (a b : Word) : condBge a b = true ↔ b.toInt ≤ a.toInt := by
  rw [condBge, Bool.not_eq_true', ← Bool.not_eq_true, BitVec.slt_iff_toInt_lt, not_lt]

theorem condBgeu_iff (a b : Word) : condBgeu a b = true ↔ b.toNat ≤ a.toNat := by
  rw [condBgeu, Bool.not_eq_true', ← Bool.not_eq_true, BitVec.ult_iff_toNat_lt, not_lt]

/-! ## An instruction that goes elsewhere -/

section Instruction
variable {s : State} {t : TileId} {k : SlotId} {w : Word} (hruns : s.runs t k w) {cmd : Instr}
include hruns

/-- An instruction goes to a target in the store with its register written, and to one outside with none. -/
theorem State.runs.jumps {rd : Nat} {v : Word} {p : Int} (hrd : rd < 32)
    (hinside : 0 ≤ p → p ≤ 4095 → exec cmd s = .next (((s.instrCounted t).setCreg t k rd v).goto t k p))
    (houtside : p < 0 ∨ 4095 < p → exec cmd s = .next ((s.instrCounted t).goto t k p)) : s.jumps cmd t k rd v p := by
  obtain ⟨r, rfl⟩ := exists_rdOf_eq hrd
  exact ⟨fun h => ⟨_, hinside h.1 h.2, s.goto_wentOn t k.isLt r v h.1 h.2⟩,
    fun h => ⟨_, houtside h, State.goto_outside hruns.taskOver h⟩⟩

theorem State.runs.goes {p : Int} (hexec : exec cmd s = .next ((s.instrCounted t).goto t k p)) : s.jumps cmd t k 0 0 p :=
  hruns.jumps (by decide) (fun _ _ => hexec) (fun _ => hexec)

/-- A jump with a link writes PC + 1. -/
theorem State.runs.links {rd : Nat} {p : Int} (hrd : rd < 32)
    (hexec : exec cmd s = .next ((s.instrCounted t).jumpLink t k rd p)) :
    s.jumps cmd t k rd (BitVec.ofNat 32 (s.pc t k + 1)) p := by
  refine hruns.jumps hrd (fun hlow hhigh => ?_) (fun hout => ?_)
  · rw [hexec, State.jumpLink, if_pos (by omega), State.pc_instrCounted]
  · rw [hexec, State.jumpLink, if_neg (by omega)]

/-- A branch is taken where its condition holds of its two registers. -/
theorem State.runs.branches {op : Nat} (hop : opOf w = op) (hclass : 0x20 ≤ op ∧ op ≤ 0x27) {cond : Word → Word → Bool}
    {taken : Prop} [Decidable taken]
    (hexec : exec cmd s = .next (s.issue t k (code op 0)
      (fun w s => s.branch t k w (cond (s.creg t k (raB w)) (s.creg t k (rbB w))))))
    (hcond : cond (s.creg t k (fieldOf w 21 5)) (s.creg t k (fieldOf w 16 5)) = true ↔ taken) :
    s.jumps cmd t k 0 0 (if taken then (s.pc t k : Int) + (w.setWidth 16).toInt else s.pc t k + 1) := by
  refine hruns.goes ?_
  rw [hexec, hruns.issue_eq (cuffCode_opcode hop (.inr (.inr (.inr hclass)))), State.branch, State.creg_instrCounted,
    State.creg_instrCounted, State.complete, State.pc_instrCounted, raB, rbB, if_congr hcond rfl rfl, immB]
  split <;> rfl

end Instruction

/-! ## The statement -/

/-- Settles O10: each branch by the rule for branches with its condition, and each jump by its target and link. -/
theorem controlFlowTargets : Obligations.ControlFlowTargets := by
  unfold Obligations.ControlFlowTargets
  intro s t k w hruns a b pc far jump link
  have hcode {op : Nat} (hop : opOf w = op) (h : 0x20 ≤ op ∧ op ≤ 0x27) := cuffCode_opcode hop (.inr (.inr (.inr h)))
  refine ⟨fun hop => hruns.branches hop (by decide) (cond := condBeq) rfl beq_iff_eq,
    fun hop => hruns.branches hop (by decide) (cond := condBne) rfl bne_iff_ne,
    fun hop => hruns.branches hop (by decide) (cond := condBlt) rfl BitVec.slt_iff_toInt_lt,
    fun hop => hruns.branches hop (by decide) (cond := condBge) rfl (condBge_iff _ _),
    fun hop => hruns.branches hop (by decide) (cond := condBltu) rfl BitVec.ult_iff_toNat_lt,
    fun hop => hruns.branches hop (by decide) (cond := condBgeu) rfl (condBgeu_iff _ _),
    fun hop => hruns.goes ?_, fun hop => hruns.links (by decide) ?_, fun hop hrb hfn => hruns.links (fieldOf_lt ..) ?_⟩
  · show execJmp t k s = _
    rw [execJmp, hruns.issue_eq (hcode hop (by decide)), State.pc_instrCounted]
    rfl
  · show execJal t k s = _
    rw [execJal, hruns.issue_eq (hcode hop (by decide)), State.pc_instrCounted]
    rfl
  · show execJr t k s = _
    rw [execJr, hruns.issue_eq ((cuffCode_jr hop).trans (if_pos ⟨hrb, hfn⟩)), State.opA_instrCounted]

end Sys2Proof.Machine
end

section
/-! SUPPORT. NOP, the barriers, TEND, WFI and IRET (R335, R343, R345, R349). Settles O12. -/

namespace Sys2Proof.Machine

/-! ## What counting the instruction leaves of a task's work -/

section Counted
variable (s : State) (t : TileId) (k : Nat)

theorem State.queueBusy_instrCounted (q : Nat) : (s.instrCounted t).queueBusy t q = s.queueBusy t q := by
  have hcancelling : (s.instrCounted t).qCancelling t q = s.qCancelling t q :=
    State.bit_congr (s.rd_instrCounted (by rw [Reg.placketQStatus, Reg.cuffStatInstr]; omega)) _
  rw [State.queueBusy, hcancelling, State.queue_of_tiles (s.instrCounted_onlyRegs t).tiles, State.queueBusy]

theorem State.workEnded_instrCounted : (s.instrCounted t).workEnded t k = s.workEnded t k := by
  have howner (q : Nat) : (s.instrCounted t).qOwner t q = s.qOwner t q :=
    State.fld_congr (s.rd_placketQCfg_instrCounted t q) _ _
  simp only [State.workEnded, State.suitLive_instrCounted, State.suitTask_instrCounted, howner, State.queueBusy_instrCounted]

theorem State.tendForbidden_instrCounted : (s.instrCounted t).tendForbidden t k = s.tendForbidden t k := by
  have hlocks : (s.instrCounted t).fld (Reg.cuffTaskStatus t k) 12 8 = s.fld (Reg.cuffTaskStatus t k) 12 8 :=
    State.fld_congr (s.rd_taskStatus_instrCounted t k) _ _
  have hactive : (s.instrCounted t).shawlActive t = s.shawlActive t := State.bit_congr (s.rd_shStat_instrCounted t) _
  have hpiece : (s.instrCounted t).holdsPiece t k = s.holdsPiece t k := rfl
  rw [State.tendForbidden, hpiece, hlocks, (s.sameRing_instrCounted t).shawlSlot, hactive, State.tendForbidden]

theorem State.rd_intEn_instrCounted : (s.instrCounted t).rd (Reg.cuffIntEn t k) = s.rd (Reg.cuffIntEn t k) :=
  s.rd_instrCounted (by rw [Reg.cuffIntEn, Reg.cuffStatInstr]; omega)

theorem State.intReady_instrCounted : (s.instrCounted t).intReady t k = s.intReady t k := by
  have hpend : (s.instrCounted t).rd (Reg.cuffIntPend t k) = s.rd (Reg.cuffIntPend t k) :=
    s.rd_instrCounted (by rw [Reg.cuffIntPend, Reg.cuffStatInstr]; omega)
  rw [State.intReady, hpend, s.rd_intEn_instrCounted, State.intReady]

end Counted

/-! ## Ends, waits and returns -/

/-- An instruction without RD that completes is one that writes c0. -/
theorem State.setRd_of_zero (s : State) (t k : Nat) {w : Word} (h : rdOf w = 0) (v : Word) : s.setRd t k w v = s.complete t k := by
  rw [State.setRd, State.setCreg, if_pos h]

/-- A task that arrives at the layer barrier waits for its release (R343). -/
theorem State.arrive_waitsIn (s : State) (t k : Nat) (bars : Bool) : s.waitsIn ((s.instrCounted t).arrive t k bars) t k 8 ∧
    (((s.instrCounted t).arrive t k bars).task t k).arrived = true ∧
    (((s.instrCounted t).arrive t k bars).task t k).bars = bars := by
  rw [State.arrive, State.wait]
  set u := (s.instrCounted t).setTask t k { (s.instrCounted t).task t k with arrived := true, bars := bars }
  have hframe := u.setTaskState_onlyRegs t k taskWaiting 8
  have htask : (u.setTaskState t k taskWaiting 8).task t k = { (s.instrCounted t).task t k with arrived := true, bars := bars } := by
    rw [State.task_of_tiles hframe.tiles, State.task_setTask_self]
  refine ⟨⟨State.setTaskState_taskState .., State.setTaskState_reason _ _ _ _ (by decide), fun j hj => ?_, ?_⟩, ?_, ?_⟩
  · rw [State.setTaskState_statusBits _ _ _ _ _ j hj]
    exact congrArg (BitVec.getLsbD · j) (s.rd_taskStatus_instrCounted t k)
  · exact (((State.onlyTile.refl s t _).wr (by simp) _).setTile _).onlyRegs (hframe.mono (by simp))
  · rw [htask]
  · rw [htask]

/-- The end of a task changes the words that show it (R349). -/
theorem State.ended_onlyRegs (s : State) (t k : Nat) :
    s.onlyRegs ((s.instrCounted t).setTaskState t k taskEnded 0) [Reg.cuffTaskStatus t k, Reg.cuffStatus t, Reg.cuffStatInstr t] :=
  ((s.instrCounted_onlyRegs t).mono (by simp)).trans ((State.setTaskState_onlyRegs ..).mono (by simp))

/-- A handler returns to EPC with IN_HANDLER cleared (R335). -/
theorem State.handlerLeft (s : State) (t k : Nat) {p : Nat} (hp : p < 4096) :
    let u := ((s.instrCounted t).setBit (Reg.cuffTaskStatus t k) 24 false).goto t k p
    u.pc t k = p ∧ u.bit (Reg.cuffTaskStatus t k) 24 = false ∧ u.taskState t k = taskRunning ∧
    s.onlyRegs u [Reg.cuffTaskStatus t k, Reg.cuffStatus t, Reg.cuffStatInstr t] := by
  obtain ⟨hpc, hstate, hstatus, -, hframe⟩ := State.goto_movedTo
    ((s.instrCounted t).setBit (Reg.cuffTaskStatus t k) 24 false) t k (p := p) (by omega) (by omega)
  refine ⟨hpc, ?_, hstate, ?_⟩
  · exact (hstatus 24 (by decide)).trans (State.bit_setBit _ _ _ _ (by decide))
  · exact (((s.instrCounted_onlyRegs t).mono (by simp)).setBit (by simp) _ _).trans (hframe.mono (by simp))

/-! ## The instructions of the core class -/

section Instruction
variable {s : State} {t : TileId} {k : SlotId} {w : Word} (hruns : s.runs t k w)
  (hcode : ∀ fn ≤ 5, fnOf w = fn → cuffCode w = some (code 0x3F fn))
include hruns hcode

theorem exec_nop (hfn : fnOf w = 5) : exec (.nop t k) s = .next ((s.instrCounted t).complete t k) := by
  show execNop t k s = _
  rw [execNop, hruns.issue_eq (hcode 5 (by decide) hfn)]

theorem exec_bar (hfn : fnOf w = 0) : exec (.bar t k) s = .next ((s.instrCounted t).arrive t k false) := by
  show execBar t k s = _
  rw [execBar, hruns.issue_eq (hcode 0 (by decide) hfn)]

theorem exec_bars (hfn : fnOf w = 1) : exec (.bars t k) s = .next ((s.instrCounted t).arrive t k true) := by
  show execBars t k s = _
  rw [execBars, hruns.issue_eq (hcode 1 (by decide) hfn)]

theorem exec_tend (hfn : fnOf w = 2) : exec (.tend t k) s = .next (
    if s.tendForbidden t k then (s.instrCounted t).illegal t k 0x08
    else if s.workEnded t k then (s.instrCounted t).setTaskState t k taskEnded 0
    else (s.instrCounted t).wait t k 10) := by
  show execTend t k s = _
  rw [execTend, hruns.issue_eq (hcode 2 (by decide) hfn), State.tendForbidden_instrCounted, State.workEnded_instrCounted]

theorem exec_wfi (hfn : fnOf w = 3) : exec (.wfi t k) s = .next (
    if s.rd (Reg.cuffIntEn t k) = 0 then (s.instrCounted t).illegal t k 0x07
    else if s.intReady t k then (s.instrCounted t).complete t k
    else (s.instrCounted t).wait t k 9) := by
  show execWfi t k s = _
  rw [execWfi, hruns.issue_eq (hcode 3 (by decide) hfn), State.rd_intEn_instrCounted, State.intReady_instrCounted]

theorem exec_iret (hfn : fnOf w = 4) : exec (.iret t k) s = .next (
    if s.bit (Reg.cuffTaskStatus t k) 24 then
      ((s.instrCounted t).setBit (Reg.cuffTaskStatus t k) 24 false).goto t k (s.fld (Reg.cuffIntEpc t k) 0 12)
    else (s.instrCounted t).illegal t k 0x06) := by
  have hepc : (s.instrCounted t).rd (Reg.cuffIntEpc t k) = s.rd (Reg.cuffIntEpc t k) :=
    s.rd_instrCounted (by rw [Reg.cuffIntEpc, Reg.cuffStatInstr]; omega)
  show execIret t k s = _
  rw [execIret, hruns.issue_eq (hcode 4 (by decide) hfn), State.bit_congr (s.rd_taskStatus_instrCounted t k),
    State.fld_congr hepc]

end Instruction

/-! ## The statement -/

/-- Settles O12, instruction by instruction and case by case. -/
theorem coreControlResults : Obligations.CoreControlResults := by
  unfold Obligations.CoreControlResults
  intro s t k w hruns hop hrd hra hrb
  have hcode (fn : Nat) (h : fn ≤ 5) (hfn : fnOf w = fn) : cuffCode w = some (code 0x3F fn) := by
    rw [cuffCode_core hop, hfn, if_pos ⟨h, hrd, hra, hrb⟩]
  have hready : s.intReady t k = true ↔ s.rd (Reg.cuffIntPend t k) &&& s.rd (Reg.cuffIntEn t k) ≠ 0 := bne_iff_ne
  have haborts (sub : Nat) : ((s.instrCounted t).illegal t k sub).taskState t k = taskAborted :=
    State.illegal_taskState hruns.taskOver sub
  refine ⟨fun hfn => hruns.writesRd k.isLt ?_, fun hfn => ⟨_, exec_bar hruns hcode hfn, s.arrive_waitsIn t k false⟩,
    fun hfn => ⟨_, exec_bars hruns hcode hfn, s.arrive_waitsIn t k true⟩,
    fun hfn hallowed hended => ⟨_, exec_tend hruns hcode hfn, ?_⟩, fun hfn hallowed hbusy => ⟨_, exec_tend hruns hcode hfn, ?_⟩,
    fun hfn hforbidden => ⟨_, exec_tend hruns hcode hfn, ?_⟩, fun hfn hpending => hruns.writesRd k.isLt ?_,
    fun hfn hen hnone => ⟨_, exec_wfi hruns hcode hfn, ?_⟩, fun hfn hen => ⟨_, exec_wfi hruns hcode hfn, ?_⟩,
    fun hfn hhandler => ⟨_, exec_iret hruns hcode hfn, ?_⟩, fun hfn hnone => ⟨_, exec_iret hruns hcode hfn, ?_⟩⟩
  · rw [exec_nop hruns hcode hfn, State.setRd_of_zero _ _ _ hrd]
  · rw [if_neg (by simp [hallowed]), if_pos hended]
    exact ⟨State.setTaskState_taskState .., s.ended_onlyRegs t k⟩
  · rw [if_neg (by simp [hallowed]), if_neg (by simp [hbusy])]
    exact s.wait_waitsIn t k (by decide)
  · rw [if_pos hforbidden]
    exact haborts _
  · have hen : s.rd (Reg.cuffIntEn t k) ≠ 0 := fun h => hpending (by simp [h])
    rw [exec_wfi hruns hcode hfn, if_neg hen, if_pos (hready.2 hpending), State.setRd_of_zero _ _ _ hrd]
  · rw [if_neg hen, if_neg (fun h => hready.1 h hnone)]
    exact s.wait_waitsIn t k (by decide)
  · rw [if_pos hen]
    exact haborts _
  · rw [if_pos hhandler]
    exact s.handlerLeft t k (fieldOf_lt ..)
  · rw [if_neg (by simp [hnone])]
    exact haborts _

end Sys2Proof.Machine
end

section
/-! SUPPORT. What happens to a task from outside its program: its end, interrupts, timer, doorbell, start, cancel and the
scoreboard's timeout (R341, R343, R345, R348-R350). Settles O13. -/

namespace Sys2Proof.Machine

/-! ## Interrupts (R345) -/

/-- Leaving the queues of the locks and of the Yoke changes no register of a tile. -/
theorem State.rd_withdraw (s : State) (t k : Nat) {a : Nat} (ha : a < 0x2000000) : (s.withdraw t k).rd a = s.rd a := by
  have hlock (l : Nat) : a ≠ lockReg l := by
    rw [lockReg, Reg.lockState]
    omega
  refine List.foldlRecOn (motive := fun u : State => u.rd a = s.rd a) s.lockWait _ rfl (fun u hu p _ => ?_)
  dsimp only
  split
  · exact (State.rd_setFld_ne _ _ _ _ (hlock p.1)).trans hu
  · exact hu

/-- The task has left every queue it waited in, and its arrival at the barrier is withdrawn. -/
def State.waitsLeft (s : State) (t k : Nat) : State :=
  (s.withdraw t k).setTask t k { s.task t k with arrived := false, bars := false }

/-- The task stands in its handler, at INT_VEC, with the PC of the interrupted word in EPC. -/
def State.handlerEntered (s : State) (t k : Nat) : State :=
  let u := s.setFld (Reg.cuffIntEpc t k) 0 12 (s.pc t k)
  ((u.setPc t k (u.fld (Reg.cuffIntVec t k) 0 12)).setBit (Reg.cuffTaskStatus t k) 24 true).setTaskState t k taskRunning 0

theorem exec_interruptTake {s : State} {t : TileId} {k : SlotId} (hissue : s.canIssue t k = true)
    (hout : s.bit (Reg.cuffTaskStatus t k) 24 = false) (hready : s.intReady t k = true) (hsuit : (s.task t k).suit = none) :
    exec (.interruptTake t k) s = .next ((s.waitsLeft t k).handlerEntered t k) := by
  have hnone : (s.task t k).suit.isNone = true := by rw [hsuit]; rfl
  show execInterruptTake t k s = _
  rw [execInterruptTake, if_pos (by rw [hissue, hout, hready, hnone]; rfl)]
  rfl

theorem State.handlerEntered_spec (s : State) (t k : Nat) :
    (s.handlerEntered t k).pc t k = s.fld (Reg.cuffIntVec t k) 0 12 ∧
    (s.handlerEntered t k).fld (Reg.cuffIntEpc t k) 0 12 = s.pc t k ∧
    (s.handlerEntered t k).bit (Reg.cuffTaskStatus t k) 24 = true ∧ (s.handlerEntered t k).taskState t k = taskRunning := by
  rw [State.handlerEntered]
  set u := s.setFld (Reg.cuffIntEpc t k) 0 12 (s.pc t k)
  set v := (u.setPc t k (u.fld (Reg.cuffIntVec t k) 0 12)).setBit (Reg.cuffTaskStatus t k) 24 true
  have hvec : u.fld (Reg.cuffIntVec t k) 0 12 = s.fld (Reg.cuffIntVec t k) 0 12 :=
    State.fld_setFld_out _ _ _ _ _ _ (by rw [Reg.cuffIntVec, Reg.cuffIntEpc]; omega)
  have hepc : Reg.cuffIntEpc t k ∉ [Reg.cuffTaskStatus t k, Reg.cuffStatus t] := by
    simp only [Reg.cuffIntEpc, Reg.cuffTaskStatus, Reg.cuffStatus, List.mem_cons, List.not_mem_nil, or_false]
    omega
  have hframe : u.onlyRegs (v.setTaskState t k taskRunning 0) [Reg.cuffTaskStatus t k, Reg.cuffStatus t] :=
    (((State.onlyRegs.refl u _).setFld (by simp) _ _ _).setBit (by simp) _ _).trans (State.setTaskState_onlyRegs ..)
  refine ⟨?_, ?_, ?_, State.setTaskState_taskState ..⟩
  · rw [State.setTaskState_pc, ← hvec]
    exact (State.fld_setFld_ne _ _ _ _ _ _ _ (by decide)).trans (State.fld_setFld_of_lt _ _ (by decide) (fieldOf_lt ..))
  · rw [State.fld_congr (hframe.2 _ hepc)]
    exact State.fld_setFld_of_lt _ _ (by decide) (fieldOf_lt ..)
  · exact (State.setTaskState_statusBits v t k taskRunning 0 24 (by decide)).trans (State.bit_setBit _ _ _ _ (by decide))

theorem interruptTake_enters {s : State} {t : TileId} {k : SlotId} (hissue : s.canIssue t k = true)
    (hout : s.bit (Reg.cuffTaskStatus t k) 24 = false) (hready : s.intReady t k = true) (hsuit : (s.task t k).suit = none) :
    Answers (.interruptTake t k) s (fun u => u.pc t k = s.fld (Reg.cuffIntVec t k) 0 12 ∧
      u.fld (Reg.cuffIntEpc t k) 0 12 = s.pc t k ∧ u.bit (Reg.cuffTaskStatus t k) 24 = true ∧ u.taskState t k = taskRunning) := by
  have hvec : (s.waitsLeft t k).rd (Reg.cuffIntVec t k) = s.rd (Reg.cuffIntVec t k) :=
    s.rd_withdraw t k (by rw [Reg.cuffIntVec]; omega)
  have hstatus : (s.waitsLeft t k).rd (Reg.cuffTaskStatus t k) = s.rd (Reg.cuffTaskStatus t k) :=
    s.rd_withdraw t k (by rw [Reg.cuffTaskStatus]; omega)
  obtain ⟨hpc, hepc, hbit, hstate⟩ := (s.waitsLeft t k).handlerEntered_spec t k
  exact ⟨_, exec_interruptTake hissue hout hready hsuit, hpc.trans (State.fld_congr hvec _ _),
    hepc.trans (State.fld_congr hstatus _ _), hbit, hstate⟩

/-! ## The timer and the doorbell (R345) -/

theorem taskTimerExpire_pends {s : State} {t : TileId} {k : SlotId} (h : s.rd (Reg.cuffTaskTimer t k) ≠ 0) :
    Answers (.taskTimerExpire t k) s (fun u => u.rd (Reg.cuffTaskTimer t k) = 0 ∧ u.bit (Reg.cuffIntPend t k) 3 = true ∧
      s.sameBits u (Reg.cuffIntPend t k) (fun j => j ≠ 3) ∧ s.onlyTile u t [Reg.cuffTaskTimer t k, Reg.cuffIntPend t k]) := by
  have hne : Reg.cuffTaskTimer t k ≠ Reg.cuffIntPend t k := by
    rw [Reg.cuffTaskTimer, Reg.cuffIntPend]
    omega
  have hexec : exec (.taskTimerExpire t k) s =
      .next (((s.wr (Reg.cuffTaskTimer t k) 0).setBit (Reg.cuffIntPend t k) 3 true).wakeTile t) := by
    show execTaskTimerExpire t k s = _
    rw [execTaskTimerExpire, if_neg h]
  refine ⟨_, hexec, ?_, State.bit_setBit _ _ _ _ (by decide), fun j hj => ?_, ?_⟩
  · exact (State.rd_setBit_ne _ _ _ hne).trans (State.rd_wr_self ..)
  · exact (State.getLsbD_setBit_ne _ _ _ _ hj).trans (congrArg (BitVec.getLsbD · j) (State.rd_wr_ne _ _ hne.symm))
  · exact (((State.onlyTile.refl s t _).wr (by simp) _).wr (by simp) _).setTile _

/-- The doorbell sets the DOORBELL cause of each of the tasks listed whose bit is 1. -/
def State.rung (s : State) (t ring : Nat) (ks : List Nat) : State :=
  ks.foldl (fun s k => if ring.testBit k then s.setBit (Reg.cuffIntPend t k) 2 true else s) s

theorem State.bit_rung (s : State) (t ring j : Nat) (ks : List Nat) : (s.rung t ring ks).bit (Reg.cuffIntPend t j) 2 =
    (s.bit (Reg.cuffIntPend t j) 2 || (ks.contains j && ring.testBit j)) := by
  induction ks generalizing s with
  | nil => simp [State.rung]
  | cons k ks ih =>
    refine (ih _).trans ?_
    by_cases hj : j = k
    · subst hj
      cases hring : ring.testBit j <;> simp [hring, State.bit_setBit]
    · have hne : Reg.cuffIntPend t j ≠ Reg.cuffIntPend t k := by
        rw [Reg.cuffIntPend, Reg.cuffIntPend]
        omega
      cases hring : ring.testBit k <;> simp [hj, hring, State.bit_congr (State.rd_setBit_ne s 2 true hne)]

theorem State.rung_onlyTile (s : State) (t ring : Nat) (ks : List Nat) :
    s.onlyTile (s.rung t ring ks) t (ks.map (fun k => Reg.cuffIntPend t k)) := by
  refine List.foldlRecOn (motive := fun u : State => s.onlyTile u t _) ks _ (State.onlyTile.refl s t _) (fun u hu k hk => ?_)
  split
  · exact hu.wr (List.mem_map_of_mem hk) _
  · exact hu

theorem cuffDoorbell_rings {s : State} {t : TileId} (hon : s.regOn (Reg.cuffDoorbell t) = true) (ring : BitVec 4) :
    Answers (.cuffDoorbell t ring) s (fun u =>
      (∀ j : SlotId, u.bit (Reg.cuffIntPend t j) 2 = (s.bit (Reg.cuffIntPend t j) 2 || ring.getLsbD j)) ∧
      s.onlyTile u t ((List.range 4).map (fun j => Reg.cuffIntPend t j))) := by
  have hexec : exec (.cuffDoorbell t ring) s = .next ((s.rung t ring.toNat (List.range 4)).wakeTile t) := by
    show execCuffDoorbell t ring s = _
    rw [execCuffDoorbell, State.ctl, if_pos hon]
    rfl
  refine ⟨_, hexec, fun j => ?_, (s.rung_onlyTile t ring.toNat _).setTile _⟩
  have hmem : (List.range 4).contains j.val = true := List.contains_iff_mem.2 (List.mem_range.2 j.isLt)
  rw [← BitVec.testBit_toNat]
  exact (s.bit_rung t ring.toNat j _).trans (by rw [hmem, Bool.true_and])

/-! ## Start (R348) -/

/-- The registers of a task, cleared. -/
def State.cregsCleared (s : State) (t k : Nat) (rs : List Nat) : State := rs.foldl (fun s i => s.setCreg t k i 0) s

theorem State.creg_cregsCleared (s : State) (t k i : Nat) (rs : List Nat) :
    (s.cregsCleared t k rs).creg t k i = if i ∈ rs then 0 else s.creg t k i := by
  induction rs generalizing s with
  | nil => simp [State.cregsCleared]
  | cons r rs ih =>
    refine (ih _).trans ?_
    rw [State.creg_setCreg]
    by_cases hr : r = 0
    · subst hr
      by_cases hi : i = 0 <;> simp [hi, State.creg]
    · by_cases hi : i = r <;> simp [hi, hr]

theorem State.rd_setCreg_low (s : State) {t k a : Nat} (ha : a < 0x1004200 + 0x10000 * t + 0x80 * k) (i : Nat) (v : Word) :
    (s.setCreg t k i v).rd a = s.rd a := (s.setCreg_onlyRegs t k i v).2 a (notMem_rdWords i ha)

theorem State.rd_cregsCleared (s : State) {t k a : Nat} (ha : a < 0x1004200 + 0x10000 * t + 0x80 * k) (rs : List Nat) :
    (s.cregsCleared t k rs).rd a = s.rd a :=
  List.foldlRecOn (motive := fun u : State => u.rd a = s.rd a) rs _ rfl (fun u hu i _ => (u.rd_setCreg_low ha i 0).trans hu)

/-- The registers of a task as it starts: c1 holds TASK_ARG and the others 0. -/
def State.cregsStarted (s : State) (t k : Nat) : State :=
  (s.cregsCleared t k (List.range 32)).setCreg t k 1 ((s.cregsCleared t k (List.range 32)).rd (Reg.cuffTaskArg t k))

theorem State.rd_wakeTile (s : State) (t a : Nat) : (s.wakeTile t).rd a = s.rd a := rfl

/-- Nothing is pending, and no handler runs. -/
def State.interruptsCleared (s : State) (t k : Nat) : State :=
  (s.wr (Reg.cuffIntPend t k) 0).setBit (Reg.cuffTaskStatus t k) 24 false

/-- The task runs from its entry. -/
def State.entered (s : State) (t k : Nat) : State :=
  ((s.setPc t k (s.fld (Reg.cuffTaskEntry t k) 0 12)).setTask t k Task.init).setTaskState t k taskRunning 0

/-- START of a task that can start. -/
def State.taskStarted (s : State) (t k : Nat) : State := (((s.cregsStarted t k).interruptsCleared t k).entered t k).wakeTile t

theorem State.startTask_of_startable {s : State} {t k : Nat}
    (hstate : s.taskState t k = taskFree ∨ s.taskState t k = taskEnded ∨ s.taskState t k = taskCancelled)
    (hentry : s.bit (Reg.cuffTaskEntry t k) 31 = true) (hslot : ∀ q, s.partOf t = some q → k < (s.slot q).taskSlots) :
    s.startTask t k = s.taskStarted t k := by
  have hstate' : (s.taskState t k == taskFree || s.taskState t k == taskEnded || s.taskState t k == taskCancelled) = true := by
    simpa [or_assoc] using hstate
  have hslot' : (match s.partOf t with | some q => Decidable.decide (k < (s.slot q).taskSlots) | none => true) = true := by
    cases hpart : s.partOf t with
    | none => rfl
    | some q => exact decide_eq_true (hslot q hpart)
  rw [State.startTask]
  refine if_pos ?_
  rw [hstate', hentry]
  exact hslot'

section Start
variable (s : State) (t : Nat) {k : Nat}

theorem State.rd_cregsStarted_low {a : Nat} (ha : a < 0x1004200 + 0x10000 * t + 0x80 * k) :
    (s.cregsStarted t k).rd a = s.rd a := (State.rd_setCreg_low _ ha _ _).trans (s.rd_cregsCleared ha _)

theorem State.creg_cregsStarted (hk : k < 4) : (s.cregsStarted t k).creg t k 1 = s.rd (Reg.cuffTaskArg t k) ∧
    ∀ i, 2 ≤ i → i < 32 → (s.cregsStarted t k).creg t k i = 0 := by
  refine ⟨?_, fun i h2 h32 => ?_⟩
  · rw [State.cregsStarted, State.creg_setCreg, if_pos ⟨rfl, one_ne_zero⟩]
    exact s.rd_cregsCleared (by rw [Reg.cuffTaskArg]; omega) _
  · rw [State.cregsStarted, State.creg_setCreg, if_neg (by omega), State.creg_cregsCleared, if_pos (List.mem_range.2 h32)]

theorem State.interruptsCleared_onlyRegs :
    s.onlyRegs (s.interruptsCleared t k) [Reg.cuffIntPend t k, Reg.cuffTaskStatus t k] :=
  ((State.onlyRegs.refl s _).wr (by simp) _).setBit (by simp) _ _

theorem State.rd_intPend_interruptsCleared : (s.interruptsCleared t k).rd (Reg.cuffIntPend t k) = 0 := by
  rw [State.interruptsCleared, State.rd_setBit_ne _ _ _ (by rw [Reg.cuffIntPend, Reg.cuffTaskStatus]; omega), State.rd_wr_self]

theorem State.entered_rd {a : Nat} (ha : a ∉ [Reg.cuffTaskStatus t k, Reg.cuffStatus t]) : (s.entered t k).rd a = s.rd a := by
  have hpc : s.onlyRegs (s.setPc t k (s.fld (Reg.cuffTaskEntry t k) 0 12)) [Reg.cuffTaskStatus t k, Reg.cuffStatus t] :=
    (State.onlyRegs.refl s _).setFld (by simp) _ _ _
  exact ((State.setTaskState_onlyRegs ..).2 a ha).trans (hpc.2 a ha)

theorem State.entered_pc : (s.entered t k).pc t k = s.fld (Reg.cuffTaskEntry t k) 0 12 :=
  (State.setTaskState_pc ..).trans (State.fld_setFld_of_lt _ _ (by decide) (fieldOf_lt ..))

theorem State.entered_inHandler : (s.entered t k).bit (Reg.cuffTaskStatus t k) 24 = s.bit (Reg.cuffTaskStatus t k) 24 :=
  (State.setTaskState_statusBits _ t k taskRunning 0 24 (by decide)).trans (State.getLsbD_setFld_out _ _ _ (by omega))

/-- What a task shows once it has started. -/
theorem State.taskStarted_spec (hk : k < 4) : (s.taskStarted t k).taskState t k = taskRunning ∧
    (s.taskStarted t k).pc t k = s.fld (Reg.cuffTaskEntry t k) 0 12 ∧
    (s.taskStarted t k).creg t k 1 = s.rd (Reg.cuffTaskArg t k) ∧
    (∀ i, 2 ≤ i → i < 32 → (s.taskStarted t k).creg t k i = 0) ∧
    (s.taskStarted t k).rd (Reg.cuffIntPend t k) = 0 ∧ (s.taskStarted t k).bit (Reg.cuffTaskStatus t k) 24 = false := by
  have hpend : Reg.cuffIntPend t k ∉ [Reg.cuffTaskStatus t k, Reg.cuffStatus t] := by
    simp only [Reg.cuffIntPend, Reg.cuffTaskStatus, Reg.cuffStatus, List.mem_cons, List.not_mem_nil, or_false]
    omega
  have hentry : Reg.cuffTaskEntry t k ∉ [Reg.cuffIntPend t k, Reg.cuffTaskStatus t k] := by
    simp only [Reg.cuffTaskEntry, Reg.cuffIntPend, Reg.cuffTaskStatus, List.mem_cons, List.not_mem_nil, or_false]
    omega
  have hregs (i : Nat) : Reg.cuffTaskReg t k i ∉ [Reg.cuffIntPend t k, Reg.cuffTaskStatus t k] := by
    simp only [Reg.cuffTaskReg, Reg.cuffIntPend, Reg.cuffTaskStatus, List.mem_cons, List.not_mem_nil, or_false]
    omega
  have hcleared := (s.cregsStarted t k).interruptsCleared_onlyRegs t (k := k)
  have hrd (a : Nat) : (s.taskStarted t k).rd a = (((s.cregsStarted t k).interruptsCleared t k).entered t k).rd a :=
    State.rd_wakeTile _ t a
  have hcreg (i : Nat) : (s.taskStarted t k).creg t k i = (s.cregsStarted t k).creg t k i :=
    State.creg_congr ((hrd _).trans ((State.entered_rd _ t (Reg.cuffTaskReg_notMem_taskWords t hk i)).trans
      (hcleared.2 _ (hregs i))))
  obtain ⟨harg, hzero⟩ := s.creg_cregsStarted t hk
  refine ⟨?_, ?_, (hcreg 1).trans harg, fun i h2 h32 => (hcreg i).trans (hzero i h2 h32), ?_, ?_⟩
  · exact (State.fld_congr (hrd _) _ _).trans (State.setTaskState_taskState ..)
  · refine (State.fld_congr (hrd _) _ _).trans ((State.entered_pc _ t).trans (State.fld_congr ?_ _ _))
    exact (hcleared.2 _ hentry).trans (s.rd_cregsStarted_low t (by rw [Reg.cuffTaskEntry]; omega))
  · exact (hrd _).trans ((State.entered_rd _ t hpend).trans (State.rd_intPend_interruptsCleared _ t))
  · exact (State.bit_congr (hrd _) _).trans ((State.entered_inHandler _ t).trans (State.bit_setBit _ _ _ _ (by decide)))

end Start

/-! ## The statement -/

/-- Settles O13, event by event. That the timer expires from any value is the command's own (log entry 8). -/
theorem taskEvents : Obligations.TaskEvents := by
  unfold Obligations.TaskEvents
  intro s t k
  have hissue (h : s.taskState t k = taskRunning ∨ s.taskState t k = taskWaiting) : s.canIssue t k = true := by
    simpa [State.canIssue] using h
  refine ⟨fun hwaits hcode hended => ⟨_, ?_, State.setTaskState_taskState .., s.setTaskState_onlyRegs t k taskEnded 0⟩,
    fun hstate hout hpending hsuit => interruptTake_enters (hissue hstate) hout (bne_iff_ne.2 hpending) hsuit,
    taskTimerExpire_pends, fun ring hon => cuffDoorbell_rings hon ring,
    fun hon hstate hentry hslot => ⟨_, ?_, s.taskStarted_spec t k.isLt⟩,
    fun hon hstate => ⟨(s.stopTask t k suitCancelled).setTaskState t k taskCancelled 0, ?_,
      State.setTaskState_taskState ..⟩, fun hwaits hreason => ⟨s.cuffFault t k 0x0B 0x0A, ?_, ?_⟩⟩
  · show execTaskEnded t k s = _
    rw [execTaskEnded, if_pos (by simp [hwaits, hcode, hended])]
  · show execCuffTaskStart t k s = _
    rw [execCuffTaskStart, State.ctl, if_pos hon, State.startTask_of_startable hstate hentry hslot]
  · show execCuffTaskCancel t k s = _
    rw [execCuffTaskCancel, State.ctl, if_pos hon, State.cancelTask, if_pos (by simpa using hstate)]
  · show execScoreboardFull t k s = _
    rw [execScoreboardFull, if_pos (by simp [hwaits, hreason])]
  · exact State.chargeTask_taskState (State.taskOver_of_canIssue (hissue (.inr hwaits))) ..

end Sys2Proof.Machine
end

section
/-! SUPPORT. An arrival of the barrier tree that has crossed 32 links: the router drops it before the Collar sees it (R414), so the
partition does not take it down. Refutes O48. -/

namespace Sys2Proof.Machine

/-! ## Packets at HOPS 32 (R414) -/

/-- A packet that comes to a fabric port with HOPS at 32 is dropped, whatever command takes it. -/
theorem State.onPacket_dropped {s : State} {i : PortId} {want : Packet → Bool} {p : Packet} {rest : List Packet}
    (htake : takeHead want [] (s.pktsAt (.port i)) = some (p, rest)) (hi : i.val < 16) (hkind : p.kind ≠ 0x04)
    (hhops : 32 ≤ p.hops) (deliver : Packet → State → State) :
    s.onPacket (.port i) want deliver = (s.setPktsAt (.port i) rest).dropPacket p := by
  rw [State.onPacket, htake]
  dsimp only
  rw [if_neg (by omega), if_neg hkind, if_pos hhops]

/-- Dropping a packet leaves the slots and the commands of the host. -/
theorem State.dropPacket_kept (s : State) (p : Packet) :
    (s.dropPacket p).slots = s.slots ∧ (s.dropPacket p).cmds = s.cmds := by
  unfold State.dropPacket
  dsimp only
  split <;> exact ⟨rfl, rfl⟩

/-- BARRIER_ARRIVE changes no slot where the arrival has crossed 32 links. -/
theorem exec_barrierArrive_dropped {s : State} {i : PortId} {p : Packet} {rest : List Packet} (hcmds : s.cmds = [])
    (htake : takeHead (fun p => p.kind == 0x21) [] (s.pktsAt (.port i)) = some (p, rest)) (hi : i.val < 16)
    (hkind : p.kind ≠ 0x04) (hhops : 32 ≤ p.hops) :
    ∃ u, exec (.barrierArrive (.port i)) s = .next u ∧ u.slots = s.slots := by
  obtain ⟨hslots, hcmds'⟩ := (s.setPktsAt (.port i) rest).dropPacket_kept p
  refine ⟨(s.setPktsAt (.port i) rest).dropPacket p, ?_, hslots⟩
  show execBarrierArrive (.port i) s = _
  rw [execBarrierArrive, State.onPacket_dropped htake hi hkind hhops, State.settleCmds_of_nil (hcmds'.trans hcmds)]

/-! ## The statement -/

/-- The arrival of module 1 under tag 0, at HOPS 32. -/
def farArrival : Packet :=
  { kind := 0x21, cls := 0, vcset := false, dstModule := 0, srcModule := 1, srcTile := 0, req := 0x50, dstTile := 0, hops := 32,
    jobTag := 0, txn := 0, addr := 0, addrLo := 0, len := 0, tagged := false, win := 0, epoch := 0, aux := 0, part := 0, data := [] }

/-- Module 0 runs the job of tag 0 in partition 0 with module 1, whose arrival stands at port 0. -/
def farArrivalComes : State :=
  (((State.reset.wr (Reg.fabJobtag 0) 0x80000000).wr (Reg.fabJobmap 0 0) 3).setSlot 0 { Slot.init with state := .running }).setFab 0
    { FabPort.init with inbox := [farArrival] }

theorem farArrivalComes_comes : farArrivalComes.comes (.port 0) (fun p => p.kind == 0x21) farArrival [] := by
  unfold State.comes
  decide

theorem farArrivalComes_jobPart : farArrivalComes.jobPart farArrival = some 0 := by decide

theorem farArrivalComes_quiet : farArrivalComes.quiet 0 = false := by decide

/-- Refutes O48: the arrival of a child stands at a fabric port with HOPS at 32, which R414 has the router drop, so the partition
does not hold it after BARRIER_ARRIVE; the statement does not ask that the packet has HOPS below 32. -/
theorem not_barrierArrivesAndReleases : ¬ Obligations.BarrierArrivesAndReleases := by
  unfold Obligations.BarrierArrivesAndReleases
  intro h
  obtain ⟨-, -, -, harrives, -⟩ := h farArrivalComes 0 rfl (by decide)
  obtain ⟨hholds, -⟩ := harrives (.port 0) farArrival [] farArrivalComes_comes farArrivalComes_jobPart
  obtain ⟨u, hexec, -, -, -, hslot⟩ := hholds farArrivalComes_quiet rfl
  obtain ⟨v, hexec', hslots⟩ := exec_barrierArrive_dropped (s := farArrivalComes) rfl farArrivalComes_comes.1 (by decide)
    (by decide) (by decide)
  obtain rfl : v = u := Host.Outcome.next.inj (hexec'.symm.trans hexec)
  have hkept : (v.slot 0).kids = [] := by
    rw [State.slot, hslots]
    rfl
  exact List.append_ne_nil_of_right_ne_nil _ (List.cons_ne_nil _ _) ((congrArg Slot.kids hslot).symm.trans hkept)

end Sys2Proof.Machine
end

section
/-! SUPPORT. OPEN and CLOSE of a write window; a task that a refused OPEN aborts leaves the words of every window as they were
(R54, R351, R364). Settles O40. -/

namespace Sys2Proof.Machine

/-! ## The words of the windows -/

/-- The words of the window units of all tiles. -/
def Reg.windowBlock : Set Nat := {a | 0x1000000 ≤ a ∧ a < 0x2000000 ∧ 0x5000 ≤ a % 0x10000 ∧ a % 0x10000 < 0x6000}

theorem Reg.mem_windowBlock {a : Nat} : a ∈ Reg.windowBlock ↔
    0x1000000 ≤ a ∧ a < 0x2000000 ∧ 0x5000 ≤ a % 0x10000 ∧ a % 0x10000 < 0x6000 := Iff.rfl

theorem Reg.winStatus_mem_windowBlock (t : TileId) (w : WinId) : Reg.winStatus t w ∈ Reg.windowBlock := by
  have ht := t.isLt
  have hw := w.isLt
  rw [Reg.mem_windowBlock, Reg.winStatus]
  omega

/-- A word of a tile's block at an offset outside the window unit. -/
theorem Reg.notMem_windowBlock {a : Nat} (h : a % 0x10000 < 0x5000 ∨ 0x6000 ≤ a % 0x10000) : a ∉ Reg.windowBlock := by
  rw [Reg.mem_windowBlock]
  omega

theorem Reg.notMem_windowBlock_outside {a : Nat} (h : a < 0x1000000 ∨ 0x2000000 ≤ a) : a ∉ Reg.windowBlock := by
  rw [Reg.mem_windowBlock]
  omega

theorem cuffTaskStatus_notMem_windowBlock (t : Nat) {k : Nat} (hk : k < 4) : Reg.cuffTaskStatus t k ∉ Reg.windowBlock :=
  Reg.notMem_windowBlock (by rw [Reg.cuffTaskStatus]; omega)

theorem queueWords_notMem_windowBlock {t q a : Nat} (hq : q < 16) (ha : a ∈ queueWords t q) : a ∉ Reg.windowBlock := by
  simp only [queueWords, Reg.placketQStatus, Reg.placketQCredits, Reg.placketQHeadlen, Reg.placketStatus, List.mem_cons,
    List.not_mem_nil, or_false] at ha
  exact Reg.notMem_windowBlock (by omega)

theorem unitWords_notMem_windowBlock {t a : Nat} (ha : a ∈ unitWords t) : a ∉ Reg.windowBlock := by
  simp only [unitWords, Reg.seamStatus, Reg.sleeveStatus, Reg.seamBufStatus, List.mem_cons, List.not_mem_nil, or_false] at ha
  exact Reg.notMem_windowBlock (by omega)

theorem sbWords_notMem_windowBlock {t a : Nat} {es : List Nat} (hes : ∀ e ∈ es, e < 16) (ha : a ∈ sbWords t es) :
    a ∉ Reg.windowBlock := by
  simp only [sbWords, List.mem_cons, List.mem_flatMap, List.not_mem_nil, or_false] at ha
  rcases ha with rfl | ⟨e, he, rfl | rfl⟩
  · exact Reg.notMem_windowBlock (by rw [Reg.sbStatus]; omega)
  · have := hes e he
    exact Reg.notMem_windowBlock (by rw [Reg.sbEntryLo]; omega)
  · have := hes e he
    exact Reg.notMem_windowBlock (by rw [Reg.sbEntryHi]; omega)

/-! ## A fault charged to a task leaves the windows (R351) -/

theorem State.refuseWrite_task (s : State) (t : TileId) (k : SlotId) (tile : Option Nat) (unit code sub : Nat)
    (ctx : Nat × Nat × Nat) : s.refuseWrite (.task t k) tile unit code sub ctx =
      s.chargeTask t k unit code sub id (fun _ => ctx) := rfl

/-- No word of a window unit differs. -/
structure State.sameWindows (s u : State) : Prop where
  rd : ∀ a ∈ Reg.windowBlock, u.rd a = s.rd a

theorem State.sameWindows.refl (s : State) : s.sameWindows s := ⟨fun _ _ => rfl⟩

section Frame
variable {s u : State} (h : s.sameWindows u)
include h

theorem State.sameWindows.wr {a : Nat} (ha : a ∉ Reg.windowBlock) (v : Word) : s.sameWindows (u.wr a v) :=
  ⟨fun b hb => (State.rd_wr_ne u v (ne_of_mem_of_not_mem hb ha)).trans (h.rd b hb)⟩

theorem State.sameWindows.setTile (t : Nat) (x : Tile) : s.sameWindows (u.setTile t x) := ⟨h.rd⟩

theorem State.sameWindows.onlyRegs {v : State} {as : List Nat} (hv : u.onlyRegs v as) (has : ∀ a ∈ as, a ∉ Reg.windowBlock) :
    s.sameWindows v :=
  ⟨fun b hb => (hv.2 b (fun m => has b m hb)).trans (h.rd b hb)⟩

theorem State.sameWindows.of_regs {v : State} (hv : v.regs = u.regs) : s.sameWindows v := by
  refine ⟨fun a ha => ?_⟩
  rw [State.rd, hv]
  exact h.rd a ha

theorem State.sameWindows.pushRec (r : FaultRec) : s.sameWindows (u.pushRec r) := by
  unfold State.pushRec
  split
  · exact h.of_regs rfl
  · exact h.wr (Reg.notMem_windowBlock_outside (by rw [Reg.flogDropped]; omega)) _

theorem State.sameWindows.reqCancel (t : Nat) {q : Nat} (hq : q < 16) : s.sameWindows (u.reqCancel t q) := by
  unfold State.reqCancel
  split
  · exact h
  · exact (h.setTile t _).onlyRegs (State.refreshQ_onlyRegs _ t q) (fun _ => queueWords_notMem_windowBlock hq)

/-- A suit that ends changes words of its queues, of the stages and of the scoreboard (R289, R290, R339). -/
theorem State.sameWindows.endSuit (t : Nat) {i : Nat} (hi : i < 4) (st : Nat) : s.sameWindows (u.endSuit t i st) := by
  have hqueues : s.sameWindows (u.queuesStopped t i) := by
    refine List.foldlRecOn (motive := s.sameWindows) _ _ h (fun v hv q hq => hv.reqCancel t ?_)
    cases hx : u.suit t i with
    | none => simp [hx] at hq
    | some x => exact Suit.lt_of_mem_queues (x := x) (by simpa [hx] using hq)
  have hstatus : ∀ a ∈ [Reg.suitStatus t i], a ∉ Reg.windowBlock := by
    intro a ha
    rw [List.mem_singleton.1 ha, Reg.suitStatus]
    exact Reg.notMem_windowBlock (by omega)
  have hentries (v : State) : ∀ e ∈ v.sbOf t 0 i, e < 16 := fun e he => List.mem_range.1 (List.mem_filter.1 he).1
  have hstopped : s.sameWindows (u.suitStopped t i st) :=
    ((hqueues.onlyRegs (State.suitShown_onlyRegs _ t i st) hstatus).onlyRegs (State.unitsLeft_onlyRegs _ t i)
      (fun _ => unitWords_notMem_windowBlock)).onlyRegs (State.sbFreeAt_onlyRegs _ t _)
      (fun _ => sbWords_notMem_windowBlock (hentries _))
  rw [State.endSuit_eq]
  refine (hstopped.setTile t _).wr (Reg.notMem_windowBlock ?_) _
  split <;> simp only [Reg.suitStatAborted, Reg.suitStatCancelled] <;> omega

theorem State.sameWindows.endSuitsOf (t k st : Nat) : s.sameWindows (u.endSuitsOf t k st) := by
  refine List.foldlRecOn (motive := s.sameWindows) _ _ h (fun v hv i hi => ?_)
  split
  · exact hv.endSuit t (List.mem_range.1 hi) st
  · exact hv

theorem State.sameWindows.cancelOwned (t k : Nat) : s.sameWindows (u.cancelOwned t k) := by
  refine List.foldlRecOn (motive := s.sameWindows) _ _ h (fun v hv q hq => ?_)
  split
  · exact hv.reqCancel t (List.mem_range.1 hq)
  · exact hv

theorem State.sameWindows.orphanLock (l cause : Nat) : s.sameWindows (u.orphanLock l cause) := by
  have hlock : lockReg l ∉ Reg.windowBlock :=
    Reg.notMem_windowBlock_outside (by rw [lockReg, Reg.lockState]; omega)
  have htask (o : Nat) := cuffTaskStatus_notMem_windowBlock (o / 4) (Nat.mod_lt o (by decide : 0 < 4))
  unfold State.orphanLock
  dsimp only
  split
  · exact (h.wr hlock _).wr hlock _
  · exact ((h.wr (htask _) _).wr hlock _).wr hlock _

theorem State.sameWindows.orphanLocksOf (t k : Nat) : s.sameWindows (u.orphanLocksOf t k) := by
  refine List.foldlRecOn (motive := s.sameWindows) _ _ h (fun v hv l _ => ?_)
  split
  · exact hv.orphanLock l 1
  · exact hv

theorem State.sameWindows.withdraw (t k : Nat) : s.sameWindows (u.withdraw t k) :=
  ⟨fun a ha => (u.rd_withdraw t k ha.2.1).trans (h.rd a ha)⟩

theorem State.sameWindows.stopTask (t k suitEnd : Nat) : s.sameWindows (u.stopTask t k suitEnd) := by
  have hports (p : Ports) : s.sameWindows (u.setPorts t p) := h.setTile t _
  have hstopped (p : Ports) := ((((hports p).endSuitsOf t k suitEnd).cancelOwned t k).orphanLocksOf t k).withdraw t k
  unfold State.stopTask
  dsimp only
  refine State.sameWindows.setTile ?_ _ _
  split
  · exact (hstopped _).setTile _ _
  · exact hstopped _

theorem State.sameWindows.latchTaskErr (t : Nat) {k : Nat} (hk : k < 4) (unit code sub : Nat) :
    s.sameWindows (u.latchTaskErr t k unit code sub) := by
  unfold State.latchTaskErr
  split
  · exact h
  · exact (h.wr (Reg.notMem_windowBlock (by rw [Reg.cuffTaskErr]; omega)) _).wr
      (Reg.notMem_windowBlock (by rw [Reg.cuffTaskErrPc]; omega)) _

theorem State.sameWindows.setTaskState (t : Nat) {k : Nat} (hk : k < 4) (st reason : Nat) :
    s.sameWindows (u.setTaskState t k st reason) := by
  refine h.onlyRegs (State.setTaskState_onlyRegs u t k st reason) (fun a ha => Reg.notMem_windowBlock ?_)
  simp only [Reg.cuffTaskStatus, Reg.cuffStatus, List.mem_cons, List.not_mem_nil, or_false] at ha
  omega

/-- A fault charged to a task leaves the windows where the latch of the reporting unit does. -/
theorem State.sameWindows.chargeTask (t : Nat) {k : Nat} (hk : k < 4) (unit code sub : Nat) {latch : State → State}
    (ctx : State → Nat × Nat × Nat) (hlatch : s.sameWindows (latch u)) :
    s.sameWindows (u.chargeTask t k unit code sub latch ctx) := by
  have hstopped (r : FaultRec) := ((((hlatch.latchTaskErr t hk unit code sub).pushRec r).stopTask t k
    suitAborted).setTaskState t hk taskAborted 0)
  unfold State.chargeTask
  dsimp only
  split
  · exact h
  · split
    · exact (hstopped _).of_regs (State.stopJob_regs ..)
    · exact hstopped _

theorem State.sameWindows.refuseWrite (r : Requester) (tile : Option Nat) (unit code sub : Nat) (ctx : Nat × Nat × Nat) :
    s.sameWindows (u.refuseWrite r tile unit code sub ctx) := by
  cases r with
  | collar c => exact h.pushRec _
  | bar0 => exact h.pushRec _
  | task t k =>
    rw [State.refuseWrite_task]
    exact h.chargeTask t.val k.isLt unit code sub _ h

end Frame

/-! ## OPEN and CLOSE (R364) -/

section Window
variable {s : State} {t : TileId} {w : WinId} {r : Requester}

theorem State.winMayOpen_iff (s : State) (t w : Nat) : s.winMayOpen t w = true ↔
    s.winLo t w < s.winHi t w ∧ s.winHi t w ≤ 0x400000 ∧ s.winMode t w ≠ 0 ∧ s.winMask t w ≠ 0 := by
  simp only [State.winMayOpen, Bool.and_eq_true, decide_eq_true_eq, bne_iff_ne, and_assoc]
  exact Iff.rfl

theorem exec_winCtrlOpen (hon : s.regOn (Reg.winCtrl t w) = true) :
    exec (.winCtrlOpen t w r) s = .next (s.openWindow r t w) := by
  show execWinCtrlOpen t w r s = _
  rw [execWinCtrlOpen, State.ctl, if_pos hon]

theorem exec_winCtrlClose (hon : s.regOn (Reg.winCtrl t w) = true) :
    exec (.winCtrlClose t w) s = .next (s.closeWindow t w) := by
  show execWinCtrlClose t w s = _
  rw [execWinCtrlClose, State.ctl, if_pos hon]

theorem State.openWindow_opens (hclosed : s.winState t w = 0) (hmay : s.winMayOpen t w = true) :
    s.openWindow r t w = s.setFld (Reg.winStatus t w) 30 2 winOpen := by
  rw [State.openWindow, winClosed, if_pos hclosed, if_pos hmay]

theorem State.openWindow_refused (hclosed : s.winState t w = 0) (hmay : s.winMayOpen t w = false) :
    s.openWindow r t w = s.refuseWrite r (some t) 7 0x04 0 (s.winCtx t) := by
  rw [State.openWindow, winClosed, if_pos hclosed, if_neg (by simp [hmay])]

theorem State.openWindow_notClosed (h : s.winState t w ≠ 0) : s.openWindow r t w = s := if_neg h

theorem State.closeWindow_notOpen (h : s.winState t w ≠ 1) : s.closeWindow t w = s := if_neg h

/-- R364: the window is OPEN, its epoch and its count as they were. -/
theorem winCtrlOpen_opens (hon : s.regOn (Reg.winCtrl t w) = true) (hclosed : s.winState t w = 0)
    (hmay : s.winMayOpen t w = true) : Answers (.winCtrlOpen t w r) s (fun u => u.winState t w = 1 ∧
      s.sameBits u (Reg.winStatus t w) (fun j => j < 30) ∧ s.onlyRegs u [Reg.winStatus t w]) :=
  ⟨_, (exec_winCtrlOpen hon).trans (congrArg _ (State.openWindow_opens hclosed hmay)),
    State.fld_setFld_of_lt _ _ (by decide) (by decide), fun _ hj => State.getLsbD_setFld_out _ _ _ (.inl hj),
    (State.onlyRegs.refl s _).setFld List.mem_cons_self _ _ _⟩

/-- R54, R364: a window without bounds, mode or mask stays CLOSED, and the task that would open it aborts. -/
theorem winCtrlOpen_refused (hon : s.regOn (Reg.winCtrl t w) = true) (hclosed : s.winState t w = 0)
    (hmay : s.winMayOpen t w = false) : Answers (.winCtrlOpen t w r) s (fun u => u.winState t w = 0 ∧
      ∀ t' k, r = .task t' k → s.taskOver t' k = false → u.taskState t' k = taskAborted) := by
  refine ⟨_, (exec_winCtrlOpen hon).trans (congrArg _ (State.openWindow_refused hclosed hmay)), ?_, ?_⟩
  · have hsame := (State.sameWindows.refl s).refuseWrite r (some t.val) 7 0x04 0 (s.winCtx t)
    exact (State.fld_congr (hsame.rd _ (Reg.winStatus_mem_windowBlock t w)) _ _).trans hclosed
  · rintro t' k rfl hover
    rw [State.refuseWrite_task]
    exact State.chargeTask_taskState hover ..

/-- The window has left OPEN: its epoch has moved on, and it is CLOSED where nothing admitted is outstanding. -/
def State.windowClosed (s : State) (t w : Nat) : State :=
  (s.setFld (Reg.winStatus t w) 0 16 (s.winEpoch t w + 1)).setFld (Reg.winStatus t w) 30 2
    (if s.fld (Reg.winStatus t w) 16 8 = 0 then winClosed else winClosing)

theorem State.closeWindow_open (h : s.winState t w = 1) : s.closeWindow t w = s.windowClosed t w := by
  have hcount : (s.setFld (Reg.winStatus t w) 0 16 (s.winEpoch t w + 1)).fld (Reg.winStatus t w) 16 8 =
      s.fld (Reg.winStatus t w) 16 8 := State.fld_setFld_ne _ _ _ _ _ _ _ (by decide)
  rw [State.closeWindow, winOpen, if_pos h]
  dsimp only
  rw [hcount, State.windowClosed]

/-- R364: the epoch moves on at once; what has been admitted keeps the window CLOSING. -/
theorem winCtrlClose_closes (hon : s.regOn (Reg.winCtrl t w) = true) (hopen : s.winState t w = 1) :
    Answers (.winCtrlClose t w) s (fun u => u.winEpoch t w = (s.winEpoch t w + 1) % 65536 ∧
      u.winState t w = (if s.fld (Reg.winStatus t w) 16 8 = 0 then 0 else 2) ∧
      s.sameBits u (Reg.winStatus t w) (fun j => 16 ≤ j ∧ j < 30) ∧ s.onlyRegs u [Reg.winStatus t w]) := by
  refine ⟨_, (exec_winCtrlClose hon).trans (congrArg _ (State.closeWindow_open hopen)), ?_, ?_, fun j hj => ?_, ?_⟩
  · exact (State.fld_setFld_ne _ _ _ _ _ _ _ (by decide)).trans (State.fld_setFld _ _ _ _ _ (by decide))
  · refine State.fld_setFld_of_lt _ _ (by decide) ?_
    split <;> decide
  · exact (State.getLsbD_setFld_out _ _ _ (.inl hj.2)).trans (State.getLsbD_setFld_out _ _ _ (.inr hj.1))
  · exact ((State.onlyRegs.refl s _).setFld List.mem_cons_self _ _ _).setFld List.mem_cons_self _ _ _

end Window

/-! ## The statement -/

/-- Settles O40, clause by clause; a refused OPEN changes no word of a window, whoever writes it. -/
theorem windowsOpenAndClose : Obligations.WindowsOpenAndClose := by
  unfold Obligations.WindowsOpenAndClose
  intro s t w r hon
  have hmay := s.winMayOpen_iff t w
  refine ⟨fun hclosed hok => winCtrlOpen_opens hon hclosed (hmay.2 hok),
    fun hclosed hno => winCtrlOpen_refused hon hclosed (Bool.eq_false_iff.2 (fun h => hno (hmay.1 h))),
    fun h => ?_, fun hopen => winCtrlClose_closes hon hopen, fun h => ?_⟩
  · rw [exec_winCtrlOpen hon, State.openWindow_notClosed h]
  · rw [exec_winCtrlClose hon, State.closeWindow_notOpen h]

end Sys2Proof.Machine
end

section
/-! SUPPORT. The checks of requests that reach a tile: an opening access and a tagged one are admitted, or answered with REFUSE
(R357, R367-R370). Settles O41. -/

namespace Sys2Proof.Machine

/-! ## The windows that fit (R367, R368) -/

theorem State.winFits_iff (s : State) (t w : Nat) (p : Packet) : s.winFits t w p ↔
    (s.winState t w == winOpen && s.winMode t w == p.kind && (s.winMask t w).testBit p.part &&
      s.winLo t w ≤ p.off && p.off < s.winHi t w) = true := by
  simp only [State.winFits, winOpen, Bool.and_eq_true, decide_eq_true_eq, beq_iff_eq, and_assoc]

section Check
variable {s : State} {t w : Nat} {p : Packet}

theorem State.winFor_eq_some (hw : w < 16) (hfits : s.winFits t w p) (hlowest : ∀ v, v < w → ¬ s.winFits t v p) :
    s.winFor t p = some w := by
  simp only [State.winFits_iff] at hfits hlowest
  exact List.find?_range_eq_some.2 ⟨hfits, List.mem_range.2 hw,
    fun v hv => (Bool.not_eq_true' _).mpr (Bool.eq_false_iff.2 (hlowest v hv))⟩

theorem State.winFor_eq_none (h : ∀ v, v < 16 → ¬ s.winFits t v p) : s.winFor t p = none := by
  simp only [State.winFits_iff] at h
  exact List.find?_range_eq_none.2 (fun v hv => (Bool.not_eq_true' _).mpr (Bool.eq_false_iff.2 (h v hv)))

theorem State.winCheck_opening (htag : p.tagged = false) (hfor : s.winFor t p = some w) :
    s.winCheck t p = if s.winCovers t w p then (w, none) else (w, some 0x10) := by
  rw [State.winCheck, if_neg (by simp [htag]), hfor]

theorem State.winCheck_opening_none (htag : p.tagged = false) (hfor : s.winFor t p = none) : s.winCheck t p = (0, some 0x04) := by
  rw [State.winCheck, if_neg (by simp [htag]), hfor]

theorem State.winCheck_stale (htag : p.tagged = true) (hepoch : p.epoch ≠ s.winEpoch t p.win) :
    s.winCheck t p = (p.win, some 0x0F) := by
  rw [State.winCheck, if_pos htag, if_pos hepoch]

section Epoch
variable (htag : p.tagged = true) (hepoch : p.epoch = s.winEpoch t p.win)
include htag hepoch

theorem State.winCheck_unfit (hfits : ¬ (s.winMode t p.win = p.kind ∧ (s.winMask t p.win).testBit p.part = true)) :
    s.winCheck t p = (p.win, some 0x04) := by
  rw [State.winCheck, if_pos htag, if_neg (not_not.2 hepoch), if_pos]
  rwa [ne_eq, ← Bool.not_eq_true, ← not_and_or]

theorem State.winCheck_fit (hfits : s.winMode t p.win = p.kind ∧ (s.winMask t p.win).testBit p.part = true) :
    s.winCheck t p = if s.winCovers t p.win p then (p.win, none) else (p.win, some 0x10) := by
  rw [State.winCheck, if_pos htag, if_neg (not_not.2 hepoch), if_neg]
  rwa [ne_eq, ← Bool.not_eq_true, ← not_and_or, not_not]

end Epoch

theorem State.findRefusal_open (h : s.rangesOpen t p) :
    (reqRanges p).findSome? (fun (o, n) => s.pocketRefusal t o n) = none :=
  List.findSome?_eq_none_iff.2 (fun r hr => State.pocketRefusal_open (h r hr))

end Check

/-! ## Admission and refusal (R369, R370) -/

/-- The request has left the mesh. -/
def State.netTaken (s : State) (rest : List Packet) : State := { s with net := rest }

/-- The request stands among the admitted ones of window `w`, under its epoch. -/
def State.requestAdmitted (s : State) (t w : Nat) (p : Packet) : State :=
  let u := (s.count (Reg.winStatAdmitted t) 1).setFld (Reg.winStatus t w) 16 8
    ((s.count (Reg.winStatAdmitted t) 1).fld (Reg.winStatus t w) 16 8 + 1)
  u.setTile t { u.tile t with inbound := (u.tile t).inbound ++ [({ p with win := w, epoch := s.winEpoch t w }, w)] }

section Checked
variable {s : State} {t w : Nat} {p : Packet}

theorem State.checkInbound_admits (hcheck : s.winCheck t p = (w, none)) (hopen : s.rangesOpen t p) :
    s.checkInbound t p = s.requestAdmitted t w p := by
  unfold State.checkInbound
  rw [hcheck]
  dsimp only
  rw [State.findRefusal_open hopen]
  rfl

theorem State.checkInbound_refuses {code : Nat} (hcheck : s.winCheck t p = (w, some code)) :
    s.checkInbound t p = s.refuseRemote t p w code := by
  unfold State.checkInbound
  rw [hcheck]

/-- An admitted request counts in its window and in the tile, and joins the inbound ones (R370). -/
theorem State.requestAdmitted_admitted (rest : List Packet) (hw : w < 16) (hroom : s.fld (Reg.winStatus t w) 16 8 < 255) :
    s.admitted ((s.netTaken rest).requestAdmitted t w p) t w p rest := by
  have hne : Reg.winStatus t w ≠ Reg.winStatAdmitted t := by
    rw [Reg.winStatus, Reg.winStatAdmitted]
    omega
  have hcount : ((s.netTaken rest).count (Reg.winStatAdmitted t) 1).fld (Reg.winStatus t w) 16 8 =
      s.fld (Reg.winStatus t w) 16 8 := State.fld_congr (State.rd_count_ne _ _ hne) _ _
  refine ⟨rfl, State.tile_setTile_self .., ?_, ?_, ?_⟩
  · refine (State.fld_setFld_of_lt _ _ (by decide) (Nat.add_one_le_iff.1 ?_)).trans (congrArg (· + 1) hcount)
    rw [hcount]
    omega
  · exact (congrArg BitVec.toNat (State.rd_setFld_ne _ _ _ _ hne.symm)).trans (State.rd_count_one (s.netTaken rest) _)
  · exact (((State.onlyTile.refl s t _).wr (by simp) _).wr (by simp) _).setTile _

/-- The counter of the refusals of a tile's windows, or of its credited channels. -/
def refusalCtr (t : Nat) (credited : Bool) : Nat := if credited then Reg.creditStatRefused t else Reg.winStatRefused t

/-- The words in which a tile latches a refusal. -/
def refusalLatch (t : Nat) : List Nat := [Reg.winErrInfo t, Reg.winErrSrc t, Reg.winErrAddr t]

theorem refusalCtr_range (t : Nat) (credited : Bool) :
    0x1005210 + 0x10000 * t ≤ refusalCtr t credited ∧ refusalCtr t credited < 0x1005220 + 0x10000 * t := by
  cases credited <;> simp only [refusalCtr, Reg.creditStatRefused, Reg.winStatRefused, if_true, if_false, Bool.false_eq_true] <;>
    omega

theorem refusalLatch_range {t a : Nat} (ha : a ∈ refusalLatch t) :
    0x1005200 + 0x10000 * t ≤ a ∧ a < 0x1005210 + 0x10000 * t := by
  simp only [refusalLatch, Reg.winErrInfo, Reg.winErrSrc, Reg.winErrAddr, List.mem_cons, List.not_mem_nil, or_false] at ha
  omega

section Latch
variable (s : State) (t : Nat) (o : Origin) (credited : Bool) (win code off : Nat)

/-- The refusal is latched where no earlier one is. -/
theorem State.latchRefusal_counted :
    (s.count (refusalCtr t credited) 1).onlyRegs (s.latchRefusal t o credited win code off) (refusalLatch t) := by
  have hcounted := State.onlyRegs.refl (s.count (refusalCtr t credited) 1) (refusalLatch t)
  unfold State.latchRefusal
  dsimp only
  rw [← refusalCtr]
  split
  · exact hcounted
  · exact ((hcounted.wr (a := Reg.winErrInfo t) (by simp [refusalLatch]) _).wr (a := Reg.winErrSrc t)
      (by simp [refusalLatch]) _).wr (a := Reg.winErrAddr t) (by simp [refusalLatch]) _

theorem State.latchRefusal_onlyRegs :
    s.onlyRegs (s.latchRefusal t o credited win code off) (refusalCtr t credited :: refusalLatch t) :=
  ((State.onlyRegs.refl s _).count List.mem_cons_self 1).trans
    ((s.latchRefusal_counted t o credited win code off).mono (List.subset_cons_self _ _))

/-- A refusal is counted once (R369, R375). -/
theorem State.rd_latchRefusal : ((s.latchRefusal t o credited win code off).rd (refusalCtr t credited)).toNat =
    Min.min 0xFFFFFFFF ((s.rd (refusalCtr t credited)).toNat + 1) := by
  have hout : refusalCtr t credited ∉ refusalLatch t := fun hmem => by
    have := refusalLatch_range hmem
    have := refusalCtr_range t credited
    omega
  rw [(s.latchRefusal_counted t o credited win code off).2 _ hout, State.rd_count_one]

end Latch

/-- Words of the tiles do not name the module (R407, R450). -/
theorem State.moduleId_congr {s u : State} (h : ∀ a, 0x2000000 ≤ a → u.rd a = s.rd a) : u.moduleId = s.moduleId := by
  have halias : u.rd Reg.mirrorAlias = s.rd Reg.mirrorAlias := h _ (by decide)
  have hown : u.rd Reg.fabModuleId = s.rd Reg.fabModuleId := h _ (by decide)
  rw [State.moduleId, State.bit_congr halias, State.ownId, State.fld_congr hown, State.fld_congr halias, State.moduleId,
    State.ownId]

/-- The answer of this module to a request. -/
def State.answerTo (s : State) (p : Packet) (kind code : Nat) (data : List Byte) : Packet :=
  { p with kind := kind, dstModule := p.srcModule, dstTile := p.srcTile, srcModule := s.moduleId, srcTile := p.dstTile, hops := 0,
           vcset := false, aux := code, data := data.map some }

theorem State.answer_eq (s : State) (p : Packet) (kind code : Nat) (data : List Byte) : s.answer p kind code data =
    if p.srcModule = s.moduleId then { s with answers := s.answers ++ [s.answerTo p kind code data] }
    else { s with fabOut := s.fabOut ++ [s.answerTo p kind code data] } := rfl

/-- The answer to a request goes to its sender, through the mesh or through the fabric (R360, R411). -/
theorem State.onlyRegs.turnedAway {v : State} {rest : List Packet} {as : List Nat} (hv : (s.netTaken rest).onlyRegs v as)
    (has : ∀ a ∈ as, a < 0x2000000) (code : Nat) : s.turnedAway (v.answer p 0x13 code []) t p rest code := by
  have hmodule : v.moduleId = s.moduleId :=
    State.moduleId_congr (fun a ha => hv.2 a (fun hmem => absurd (has a hmem) (by omega)))
  have hanswers : v.answers = s.answers := by rw [hv.1]; rfl
  have hfab : v.fabOut = s.fabOut := by rw [hv.1]; rfl
  have hnet : v.net = rest := by rw [hv.1]; rfl
  have htile : v.tile t = s.tile t := by rw [hv.1]; rfl
  have hpocket : v.pocket = s.pocket := by rw [hv.1]; rfl
  rw [State.answer_eq]
  split
  · next hlocal =>
    refine ⟨hnet, htile, hpocket, v.answerTo p 0x13 code [], rfl, rfl, rfl, rfl, rfl, fun _ => ?_, fun hne => ?_⟩
    · exact congrArg (· ++ _) hanswers
    · exact absurd (hlocal.trans hmodule) hne
  · next hforeign =>
    refine ⟨hnet, htile, hpocket, v.answerTo p 0x13 code [], rfl, rfl, rfl, rfl, rfl, fun heq => ?_, fun _ => ?_⟩
    · exact absurd (heq.trans hmodule.symm) hforeign
    · exact congrArg (· ++ _) hfab

theorem State.regs_answer (s : State) (p : Packet) (kind code : Nat) (data : List Byte) :
    (s.answer p kind code data).regs = s.regs := by
  rw [State.answer_eq]
  split <;> rfl

/-- A refused request is answered with its code, and counted at the destination (R369). -/
theorem State.refuseRemote_turnedAway (s : State) {t : Nat} (ht : t < 256) (p : Packet) (rest : List Packet) (w code : Nat) :
    s.turnedAway ((s.netTaken rest).refuseRemote t p w code) t p rest code :=
  State.onlyRegs.turnedAway (State.latchRefusal_onlyRegs _ t _ false w code _) (fun a ha => by
    have := refusalCtr_range t false
    rcases List.mem_cons.1 ha with rfl | ha
    · omega
    · have := refusalLatch_range ha
      omega) code

theorem State.refuseRemote_count (s : State) (t : Nat) (p : Packet) (w code : Nat) :
    ((s.refuseRemote t p w code).rd (Reg.winStatRefused t)).toNat =
      Min.min 0xFFFFFFFF ((s.rd (Reg.winStatRefused t)).toNat + 1) := by
  rw [State.refuseRemote, State.rd, State.regs_answer, ← State.rd]
  exact s.rd_latchRefusal t p.origin false w code p.off

end Checked

/-! ## The commands -/

/-- `c` is the command that has tile `t` check the request `p`, whose flits have come whole. -/
def checksAccess (t : TileId) (p : Packet) (c : Instr) : Prop :=
  p.tagged = false ∧ c = .openingAccess t .none ∨ p.tagged = true ∧ c = .taggedAccess t .none

section Commands
variable {s : State} {t : TileId} {p : Packet} {rest : List Packet} (htake : takeFor t s.net = some (p, rest))
include htake

theorem exec_openingAccess (htag : p.tagged = false) (e : FlitErr) :
    exec (.openingAccess t e) s = .next ((s.netTaken rest).arriveAt t p e) := by
  show execOpeningAccess t e s = _
  simp only [execOpeningAccess, htake, htag, Bool.false_eq_true, if_false]
  rfl

theorem exec_taggedAccess (htag : p.tagged = true) (e : FlitErr) :
    exec (.taggedAccess t e) s = .next ((s.netTaken rest).arriveAt t p e) := by
  show execTaggedAccess t e s = _
  simp only [execTaggedAccess, htake, htag, if_true]
  rfl

theorem exec_access {c : Instr} (hc : checksAccess t p c) : exec c s =
    .next ((s.netTaken rest).checkInbound t p) := by
  rcases hc with ⟨htag, rfl⟩ | ⟨htag, rfl⟩
  · exact exec_openingAccess htake htag .none
  · exact exec_taggedAccess htake htag .none

section Access
variable {c : Instr} {w : Nat} (hc : checksAccess t p c)
include hc

/-- R370: the window admits the request. -/
theorem access_admitted (hw : w < 16) (hcheck : s.winCheck t p = (w, none)) (hopen : s.rangesOpen t p)
    (hroom : s.fld (Reg.winStatus t w) 16 8 < 255) : Answers c s (fun u => s.admitted u t w p rest) :=
  ⟨_, (exec_access htake hc).trans (congrArg _ (State.checkInbound_admits (s := s.netTaken rest) hcheck hopen)),
    State.requestAdmitted_admitted rest hw hroom⟩

/-- R369: the window refuses the request. -/
theorem access_refused {code : Nat} (hcheck : s.winCheck t p = (w, some code)) : Answers c s (fun u =>
    s.turnedAway u t p rest code ∧
    (u.rd (Reg.winStatRefused t)).toNat = Min.min 0xFFFFFFFF ((s.rd (Reg.winStatRefused t)).toNat + 1)) :=
  ⟨_, (exec_access htake hc).trans (congrArg _ (State.checkInbound_refuses (s := s.netTaken rest) hcheck)),
    s.refuseRemote_turnedAway t.isLt p rest w code, (s.netTaken rest).refuseRemote_count t p w code⟩

theorem access_turnedAway {code : Nat} (hcheck : s.winCheck t p = (w, some code)) :
    Answers c s (fun u => s.turnedAway u t p rest code) := by
  obtain ⟨u, hexec, haway, -⟩ := access_refused htake hc hcheck
  exact ⟨u, hexec, haway⟩

end Access

/-- R357: a request with an uncorrectable flit is dropped, and its sender told so. -/
theorem openingAccess_uncorrectable (htag : p.tagged = false) : Answers (.openingAccess t .uncorrectable) s (fun u =>
    s.turnedAway u t p rest 0x02 ∧ u.regs = s.regs) :=
  ⟨_, exec_openingAccess htake htag .uncorrectable,
    State.onlyRegs.turnedAway (as := []) (State.onlyRegs.refl _ _) (fun _ ha => absurd ha List.not_mem_nil) 0x02,
    State.regs_answer ..⟩

end Commands

/-! ## The statement -/

/-- Settles O41: what the windows answer to the request decides the clause. -/
theorem remoteAccessChecks : Obligations.RemoteAccessChecks := by
  unfold Obligations.RemoteAccessChecks
  intro s t p rest htake
  refine ⟨fun htag => ⟨fun w hw hfits hlowest => ?_, fun hnone => ?_, openingAccess_uncorrectable htake htag⟩,
    fun htag hw => ⟨fun hepoch hfits hcovers hopen hroom => ?_, fun hepoch => ?_, fun hepoch hunfit => ?_,
      fun hepoch hfits hcovers => ?_⟩⟩
  · have hcheck := State.winCheck_opening htag (State.winFor_eq_some hw hfits hlowest)
    exact ⟨fun hcovers => access_admitted htake (.inl ⟨htag, rfl⟩) hw (hcheck.trans (if_pos hcovers)),
      fun hcovers => access_turnedAway htake (.inl ⟨htag, rfl⟩) (hcheck.trans (if_neg (by simp [hcovers])))⟩
  · exact access_refused htake (.inl ⟨htag, rfl⟩) (State.winCheck_opening_none htag (State.winFor_eq_none hnone))
  · have hcheck := (State.winCheck_fit htag hepoch hfits).trans (if_pos hcovers)
    exact access_admitted htake (.inr ⟨htag, rfl⟩) hw hcheck hopen hroom
  · exact access_turnedAway htake (.inr ⟨htag, rfl⟩) (State.winCheck_stale htag hepoch)
  · exact access_turnedAway htake (.inr ⟨htag, rfl⟩) (State.winCheck_unfit htag hepoch hunfit)
  · exact access_turnedAway htake (.inr ⟨htag, rfl⟩)
      ((State.winCheck_fit htag hepoch hfits).trans (if_neg (by simp [hcovers])))

end Sys2Proof.Machine
end

section
/-! SUPPORT. Credited channels: a grant is given or waits, a write lands within a grant and is refused outside, a grant ends and
its entry is free again (R373-R375). Settles O42. -/

namespace Sys2Proof.Machine

/-! ## Grants (R374) -/

section Grant
variable (s : State) (t e : Nat)

theorem State.refreshCredits_onlyRegs : s.onlyRegs (s.refreshCredits t) [Reg.creditStatus t] :=
  (State.onlyRegs.refl s _).wr List.mem_cons_self _

/-- A grant is an entry of its tile, shown in CREDIT_STATUS and counted. -/
theorem State.giveCredit_onlyTile (o : Origin) (off len pending : Nat) (ended : Bool) :
    s.onlyTile (s.giveCredit t e o off len pending ended) t [Reg.creditStatus t, Reg.creditStatGrants t] :=
  (((State.onlyTile.refl s t _).setTile _).wr (by simp) _).wr (by simp) _

theorem State.grant_giveCredit (o : Origin) (off len pending : Nat) (ended : Bool) :
    tfind ((s.giveCredit t e o off len pending ended).tile t).grants e =
      some { src := o, off := off, len := len, pending := pending, ended := ended } := by
  rw [State.tile_giveCredit_self]
  exact tfind_tset_self ..

theorem State.rd_giveCredit (o : Origin) (off len pending : Nat) (ended : Bool) :
    ((s.giveCredit t e o off len pending ended).rd (Reg.creditStatGrants t)).toNat =
      Min.min 0xFFFFFFFF ((s.rd (Reg.creditStatGrants t)).toNat + 1) := by
  have hne : Reg.creditStatGrants t ≠ Reg.creditStatus t := by
    rw [Reg.creditStatGrants, Reg.creditStatus]
    omega
  refine (State.rd_count_one _ _).trans ?_
  rw [(State.refreshCredits_onlyRegs _ t).2 _ (by simpa using hne), State.rd_setTile]

/-- An entry that has been freed holds no grant. -/
theorem State.grant_freeEntry : tfind ((s.freeEntry t e).tile t).grants e = none :=
  (congrArg (fun x : Tile => tfind x.grants e) (State.tile_setTile_self s t _)).trans (tfind_tdel_self _ e)

theorem State.freeEntry_onlyTile : s.onlyTile (s.freeEntry t e) t [Reg.creditStatus t] :=
  ((State.onlyTile.refl s t _).setTile _).wr (by simp) _

end Grant

section Request
variable {s : State} {t : TileId} {o : Origin} {off len : Nat}

/-- The request waits behind those already waiting. -/
def State.creditWaits (s : State) (t : Nat) (o : Origin) (off len : Nat) : State :=
  s.setTile t { s.tile t with creditWait := (s.tile t).creditWait ++ [⟨o, off, len⟩] }

theorem exec_creditGrantRequest_gives {e : Nat} (hscope : s.creditScope t o off len = true) (hfree : s.creditFree t = some e)
    (hslot : s.creditSlotFree t o off = true) (hnone : (s.tile t).creditWait = []) :
    exec (.creditGrantRequest t o off len) s = .next (s.giveCredit t e o off len 0 false) := by
  show execCreditGrantRequest t o off len s = _
  simp [execCreditGrantRequest, hscope, hfree, hslot, hnone]

theorem exec_creditGrantRequest_waits (hscope : s.creditScope t o off len = true) (hfree : s.creditFree t = none) :
    exec (.creditGrantRequest t o off len) s = .next (s.creditWaits t o off len) := by
  show execCreditGrantRequest t o off len s = _
  simp [execCreditGrantRequest, hscope, hfree, State.creditWaits]

theorem exec_creditGrantRequest_refused (hscope : s.creditScope t o off len = false) :
    exec (.creditGrantRequest t o off len) s = .next (s.creditRefuse t o off len 0x0A 7) := by
  show execCreditGrantRequest t o off len s = _
  simp [execCreditGrantRequest, hscope]

theorem exec_creditGrant {r : CreditReq} {rest : List CreditReq} {e : Nat} (hwait : (s.tile t).creditWait = r :: rest)
    (hfree : s.creditFree t = some e) (hslot : s.creditSlotFree t r.src r.off = true) : exec (.creditGrant t) s =
      .next ((s.setTile t { s.tile t with creditWait := rest }).giveCredit t e r.src r.off r.len 0 false) := by
  show execCreditGrant t s = _
  rw [execCreditGrant, hwait, State.creditServe, hfree]
  dsimp only
  rw [if_pos hslot, List.nil_append]

/-- R374: the source holds a free entry. -/
theorem creditGrantRequest_gives {e : Nat} (hscope : s.creditScope t o off len = true) (hfree : s.creditFree t = some e)
    (hslot : s.creditSlotFree t o off = true) (hnone : (s.tile t).creditWait = []) :
    Answers (.creditGrantRequest t o off len) s (fun u => tfind (u.tile t).grants e = some ⟨o, off, len, 0, false⟩ ∧
      (u.rd (Reg.creditStatGrants t)).toNat = Min.min 0xFFFFFFFF ((s.rd (Reg.creditStatGrants t)).toNat + 1) ∧
      s.onlyTile u t [Reg.creditStatus t, Reg.creditStatGrants t]) :=
  ⟨_, exec_creditGrantRequest_gives hscope hfree hslot hnone, State.grant_giveCredit .., State.rd_giveCredit ..,
    State.giveCredit_onlyTile ..⟩

/-- R374: the first waiting request receives an entry. -/
theorem creditGrant_serves {r : CreditReq} {rest : List CreditReq} {e : Nat} (hwait : (s.tile t).creditWait = r :: rest)
    (hfree : s.creditFree t = some e) (hslot : s.creditSlotFree t r.src r.off = true) :
    Answers (.creditGrant t) s (fun u => tfind (u.tile t).grants e = some ⟨r.src, r.off, r.len, 0, false⟩ ∧
      (u.tile t).creditWait = rest ∧ s.onlyTile u t [Reg.creditStatus t, Reg.creditStatGrants t]) := by
  refine ⟨_, exec_creditGrant hwait hfree hslot, State.grant_giveCredit .., ?_, ?_⟩
  · rw [State.tile_giveCredit_self, State.tile_setTile_self]
  · exact ((((State.onlyTile.refl s t _).setTile _).setTile _).wr (by simp) _).wr (by simp) _

end Request

/-! ## Refusals (R375) -/

/-- Register words hold no byte of a Pocket. -/
theorem State.onlyRegs.samePocket {s u : State} {as : List Nat} (h : s.onlyRegs u as) : u.pocket = s.pocket := by rw [h.1]

/-- A refusal that is charged to no task leaves the Pockets and the tiles, and is counted. -/
theorem State.creditRefuse_counted (s : State) (t : Nat) {o : Origin} (off len code : Nat) (hsrc : o.req ≠ 0x20) :
    (s.creditRefuse t o off len code 7).tile t = s.tile t ∧ (s.creditRefuse t o off len code 7).pocket = s.pocket ∧
    ((s.creditRefuse t o off len code 7).rd (Reg.creditStatRefused t)).toNat =
      Min.min 0xFFFFFFFF ((s.rd (Reg.creditStatRefused t)).toNat + 1) := by
  have hlatched := s.latchRefusal_onlyRegs t o true 0 code off
  have hcount := s.rd_latchRefusal t o true 0 code off
  have hdropped : Reg.creditStatRefused t ≠ Reg.flogDropped := by
    rw [Reg.creditStatRefused, Reg.flogDropped]
    omega
  rw [State.creditRefuse, if_neg hsrc, if_neg (by decide)]
  generalize s.latchRefusal t o true 0 code off = u at hlatched hcount
  have hpushed (r : FaultRec) : (u.pushRec r).tile t = u.tile t ∧ (u.pushRec r).pocket = u.pocket ∧
      (u.pushRec r).rd (Reg.creditStatRefused t) = u.rd (Reg.creditStatRefused t) := by
    unfold State.pushRec
    split
    · exact ⟨rfl, rfl, rfl⟩
    · exact ⟨rfl, rfl, State.rd_count_ne _ _ hdropped⟩
  obtain ⟨htile, hpocket, hrd⟩ := hpushed { u.record code 1 7 0 (some t) (u.partOf t) none (u.winCtx t).1 (u.winCtx t).2.1
    (u.winCtx t).2.2 with noJob := true }
  refine ⟨htile.trans ?_, hpocket.trans hlatched.samePocket, (congrArg BitVec.toNat hrd).trans hcount⟩
  rw [State.tile, hlatched.tiles, State.tile]

/-! ## Credited writes (R375) -/

/-- Whether a write marks the mirror pages changes neither what it stores nor its answer (R93). -/
theorem State.pocketWrite_mark (s : State) (t off : Nat) (bytes : List (Option Byte)) (mark : Bool) :
    (s.pocketWrite t off bytes mark).1.pocket = (s.pocketWrite t off bytes).1.pocket ∧
    (s.pocketWrite t off bytes mark).2 = (s.pocketWrite t off bytes).2 := by
  have hmark (u : State) (ps : List Nat) : (u.markDirty t ps).pocket = u.pocket := (u.markDirty_onlyRegs t ps).samePocket
  unfold State.pocketWrite
  split
  · exact ⟨rfl, rfl⟩
  · exact ⟨(hmark _ _).trans (hmark _ _).symm, rfl⟩

theorem State.pocketWrite_storesGrants {s : State} {t off : Nat} {bs : List Byte} (hopen : s.pocketOpen t off bs.length)
    (hclean : s.pocketClean t off bs.length) (mark : Bool) : ∃ u, s.pocketWrite t off (bs.map some) mark = (u, 0) ∧
      s.stored u t off bs ∧ (u.tile t).grants = (s.tile t).grants := by
  obtain ⟨u, hu, hstored, -⟩ := State.pocketWrite_storesAll hopen hclean
  obtain ⟨hpocket, hcode⟩ := s.pocketWrite_mark t off (bs.map some) mark
  rw [hu] at hpocket hcode
  obtain ⟨p, hports⟩ := (State.portsOnly.refl s t).pocketWrite off (bs.map some) mark
  refine ⟨(s.pocketWrite t off (bs.map some) mark).1, Prod.ext rfl hcode, ?_, by rw [hports]⟩
  rwa [State.stored, hpocket, ← State.stored]

section Write
variable {s : State} {t : TileId} {o : Origin} {off : Nat} {bs : List Byte}

theorem exec_creditedWrite_outside (hheld : s.creditHeld t o off bs.length = false) :
    exec (.creditedWrite t o off (bs.map some)) s = .next (s.creditRefuse t o off bs.length 0x0A 7) := by
  show execCreditedWrite t o off (bs.map some) s = _
  rw [execCreditedWrite, List.length_map, hheld]
  rfl

theorem exec_creditedWrite_within {u : State} (hheld : s.creditHeld t o off bs.length = true)
    (hwrite : (s.count (Reg.placketStatRemoteIn t) (blocksOf off bs.length)).pocketWrite t off (bs.map some) (o.req != 0x50) =
      (u, 0)) : exec (.creditedWrite t o off (bs.map some)) s = .next u := by
  show execCreditedWrite t o off (bs.map some) s = _
  rw [execCreditedWrite, List.length_map, hheld, hwrite]
  rfl

/-- The words that an access depends on are none that counts inbound accesses. -/
theorem State.countRemoteIn_ctrs (s : State) (t n : Nat) :
    s.onlyRegs (s.count (Reg.placketStatRemoteIn t) n) (placketCtrs t) :=
  (State.onlyRegs.refl s _).count (by simp [placketCtrs]) n

/-- R375: a write within a grant of its source lands. -/
theorem creditedWrite_lands (hopen : s.pocketOpen t off bs.length) (hclean : s.pocketClean t off bs.length)
    (hheld : s.creditHeld t o off bs.length = true) : Answers (.creditedWrite t o off (bs.map some)) s (fun u =>
      s.stored u t off bs ∧ (u.tile t).grants = (s.tile t).grants) := by
  have hctrs := s.countRemoteIn_ctrs t (blocksOf off bs.length)
  obtain ⟨u, hwrite, hstored, hgrants⟩ :=
    State.pocketWrite_storesGrants (hctrs.pocketOpen hopen) (hctrs.pocketClean hclean) (o.req != 0x50)
  exact ⟨u, exec_creditedWrite_within hheld hwrite, hstored, hgrants⟩

end Write

/-! ## The end of a grant (R374) -/

section End
variable {s : State} {t : TileId}

theorem creditEndMark_ends {o : Origin} {e : Nat} {g : CreditGrant}
    (hfind : (s.tile t).grants.find? (fun p => p.2.src == o && !p.2.ended) = some (e, g)) :
    Answers (.creditEndMark t o) s (fun u => tfind (u.tile t).grants e = some { g with ended := true } ∧ s.onlyTile u t []) := by
  have hexec : exec (.creditEndMark t o) s =
      .next (s.setTile t { s.tile t with grants := tset (s.tile t).grants e { g with ended := true } }) := by
    show execCreditEndMark t o s = _
    rw [execCreditEndMark, hfind]
  refine ⟨_, hexec, ?_, (State.onlyTile.refl s t _).setTile _⟩
  rw [State.tile_setTile_self]
  exact tfind_tset_self ..

theorem exec_creditEntryFree {e : Fin 8} {g : CreditGrant} (hg : tfind (s.tile t).grants e = some g) :
    exec (.creditEntryFree t e) s = .next (if g.ended && g.pending = 0 then s.freeEntry t e else s) := by
  show execCreditEntryFree t e s = _
  rw [execCreditEntryFree, hg]

end End

/-! ## The statement -/

/-- Settles O42, clause by clause. -/
theorem creditedChannel : Obligations.CreditedChannel := by
  unfold Obligations.CreditedChannel
  intro s t o
  refine ⟨fun off len hscope => ⟨fun _ => creditGrantRequest_gives hscope, fun hfree => ?_⟩,
    fun off len hscope hsrc => ⟨_, exec_creditGrantRequest_refused hscope, s.creditRefuse_counted t off len 0x0A hsrc⟩,
    fun _ _ _ => creditGrant_serves,
    fun off bs hopen hclean => ⟨creditedWrite_lands hopen hclean, fun hheld hsrc => ?_⟩,
    fun _ _ => creditEndMark_ends, fun e g hg => ⟨fun hended hpending => ?_, fun h => ?_⟩⟩
  · exact ⟨_, exec_creditGrantRequest_waits hscope hfree, State.tile_setTile_self .., (State.onlyTile.refl s t _).setTile _⟩
  · obtain ⟨htile, hpocket, hcount⟩ := s.creditRefuse_counted t off bs.length 0x0A hsrc
    exact ⟨_, exec_creditedWrite_outside hheld, hpocket, htile, hcount⟩
  · refine ⟨_, (exec_creditEntryFree hg).trans ?_, s.grant_freeEntry t e, s.freeEntry_onlyTile t e⟩
    rw [if_pos (by simp [hended, hpending])]
  · rw [exec_creditEntryFree hg, if_neg]
    rcases h with h | h <;> simp [h]

end Sys2Proof.Machine
end

section
/-! SUPPORT. A lock: who may use it, how it is taken and how it turns ORPHANED, and what that leaves of a task (R376, R377,
R380). -/

namespace Sys2Proof.Machine

/-! ## Words of a lock -/

theorem lockReg_panel (l : Nat) : 0x2000000 ≤ lockReg l := by
  rw [lockReg, Reg.lockState]
  omega

theorem Reg.lockCfg_panel (p i : Nat) : 0x2000000 ≤ Reg.lockCfg p i := by
  rw [Reg.lockCfg]
  omega

theorem Reg.lockStatAcq_panel (p : Nat) : 0x2000000 ≤ Reg.lockStatAcq p := by
  rw [Reg.lockStatAcq]
  omega

theorem lockReg_ne_statAcq (l : Nat) : lockReg l ≠ Reg.lockStatAcq (l / 32) := by
  rw [lockReg, Reg.lockState, Reg.lockStatAcq]
  omega

/-- Lock `l` is held by `v` where it is HELD and names `v`. -/
theorem State.heldBy_iff (s : State) (l : Nat) (v : LockUser) :
    s.heldBy l v ↔ s.lockStateOf l = 1 ∧ s.lockOwnedBy l v = true := by
  rw [State.heldBy, State.lockStateOf, State.lockOwnedBy, Bool.and_eq_true, beq_iff_eq, beq_iff_eq]

theorem State.lockUsable_iff (s : State) (l t k : Nat) : s.lockUsable l (.task t k) = true ↔
    s.bit (Reg.lockCfg (l / 32) (l % 32)) 31 = true ∧ s.partOf t = some (s.fld (Reg.lockCfg (l / 32) (l % 32)) 0 3) := by
  rw [State.lockUsable, Bool.and_eq_true, beq_iff_eq]

theorem State.rd_of_regs {s u : State} (h : u.regs = s.regs) (a : Nat) : u.rd a = s.rd a := by rw [State.rd, h, State.rd]

theorem State.heldBy_of_rd {s u : State} {l : Nat} {v : LockUser} (h : u.rd (lockReg l) = s.rd (lockReg l)) (hheld : s.heldBy l v) :
    u.heldBy l v := by
  rwa [State.heldBy, State.fld_congr h, State.fld_congr h, State.bit_congr h, ← State.heldBy]

section Panel
variable {s u : State} (h : ∀ a, 0x2000000 ≤ a → u.rd a = s.rd a) (l : Nat)
include h

theorem State.lockStateOf_congr : u.lockStateOf l = s.lockStateOf l := State.fld_congr (h _ (lockReg_panel l)) _ _

theorem State.lockOwnedBy_congr (v : LockUser) : u.lockOwnedBy l v = s.lockOwnedBy l v := by
  have hlock := h _ (lockReg_panel l)
  rw [State.lockOwnedBy, State.fld_congr hlock, State.bit_congr hlock, State.lockOwnedBy]

theorem State.heldBy_congr {v : LockUser} (hheld : s.heldBy l v) : u.heldBy l v :=
  State.heldBy_of_rd (h _ (lockReg_panel l)) hheld

theorem State.lockUsable_congr (hslots : u.slots = s.slots) (v : LockUser) : u.lockUsable l v = s.lockUsable l v := by
  cases v with
  | collar c => rfl
  | task t k =>
    have hcfg := h _ (Reg.lockCfg_panel (l / 32) (l % 32))
    have hpart : u.partOf t = s.partOf t := by simp only [State.partOf, State.slot, hslots]
    simp only [State.lockUsable, State.bit_congr hcfg, State.fld_congr hcfg, hpart]

end Panel

/-! ## Waiting (R378) -/

@[simp] theorem State.waiters_setWaiters (s : State) (l : Nat) (ws : List LockUser) : (s.setWaiters l ws).waiters l = ws := by
  by_cases h : ws = []
  · simp [State.waiters, State.setWaiters, h, tget, tfind_tdel_self]
  · simp [State.waiters, State.setWaiters, h]

theorem State.rd_setWaiters (s : State) {l a : Nat} (ws : List LockUser) (h : a ≠ lockReg l) :
    (s.setWaiters l ws).rd a = s.rd a := State.rd_setFld_ne _ _ _ _ h

theorem State.lockStateOf_setWaiters (s : State) (l : Nat) (ws : List LockUser) :
    (s.setWaiters l ws).lockStateOf l = s.lockStateOf l := State.fld_setFld_ne _ _ _ _ _ _ _ (by decide)

theorem State.waiters_of_lockWait {s u : State} (h : u.lockWait = s.lockWait) (l : Nat) : u.waiters l = s.waiters l := by
  rw [State.waiters, h, State.waiters]

/-! ## Taking (R377) -/

/-- LOCK_STATE of lock `l` shows it HELD by `v`. -/
def State.lockTaken (s : State) (l : Nat) (v : LockUser) : State :=
  ((((s.setFld (lockReg l) 30 2 lockHeld).setFld (lockReg l) 28 2 0).setFld (lockReg l) 17 3 (s.userPart v)).setBit (lockReg l) 16
    (lockIsCollar v)).setFld (lockReg l) 0 10 (lockOwner v)

theorem State.lockTaken_heldBy (s : State) (l : Nat) {v : LockUser} (h : lockOwner v < 1024) : (s.lockTaken l v).heldBy l v := by
  refine ⟨?_, State.fld_setFld_of_lt _ _ (by decide) h, ?_⟩
  · exact (State.fld_setFld_ne _ _ _ _ _ _ _ (by decide)).trans ((State.fld_setFld_ne _ _ _ _ _ _ _ (by decide)).trans
      ((State.fld_setFld_ne _ _ _ _ _ _ _ (by decide)).trans ((State.fld_setFld_ne _ _ _ _ _ _ _ (by decide)).trans
        (State.fld_setFld_of_lt _ _ (by decide) (by decide)))))
  · exact (State.getLsbD_setFld_out _ _ _ (by decide)).trans (State.bit_setBit _ _ _ _ (by decide))

theorem State.lockTaken_onlyRegs (s : State) (l : Nat) (v : LockUser) : s.onlyRegs (s.lockTaken l v) [lockReg l] :=
  (((((State.onlyRegs.refl s _).setFld (by simp) _ _ _).setFld (by simp) _ _ _).setFld (by simp) _ _ _).setBit (by simp) _
    _).setFld (by simp) _ _ _

/-- The lock counts as taken in its panel, and among the locks of a task. -/
def State.lockCounted (s : State) (l : Nat) (v : LockUser) : State :=
  let s := (s.lockTaken l v).count (Reg.lockStatAcq (l / 32)) 1
  match v with
  | .task t k => s.setLocks t k (s.fld (Reg.cuffTaskStatus t k) 12 8 + 1)
  | .collar _ => s

/-- The warning that the lock was ORPHANED when `v` took it (R377). -/
def State.orphanWarned (s : State) (l : Nat) (v : LockUser) : State :=
  let s := s.count (Reg.lockStatOrphan (l / 32)) 1
  let info := (s.rd (Reg.lockErrInfo (l / 32))).toNat
  match v with
  | .task t k => s.warnTask t k 0x0C 2 7 0 true 0 info 0
  | .collar _ => s.recordOnly 0x0C 7 0 none none 0 info 0 0

theorem State.takeLock_eq (s : State) (l : Nat) (v : LockUser) : s.takeLock l v =
    if s.lockStateOf l == lockOrphaned then ((s.lockCounted l v).orphanWarned l v, 1) else (s.lockCounted l v, 0) := rfl

theorem State.takeLock_free {s : State} {l : Nat} (h : s.lockStateOf l = 0) (v : LockUser) :
    s.takeLock l v = (s.lockCounted l v, 0) := by
  rw [State.takeLock_eq, h]
  rfl

theorem State.takeLock_orphaned {s : State} {l : Nat} (h : s.lockStateOf l = 2) (v : LockUser) :
    s.takeLock l v = ((s.lockCounted l v).orphanWarned l v, 1) := by
  rw [State.takeLock_eq, h]
  rfl

/-- Lock `l` has passed to task `k` of tile `t`: the task counts one lock more, and the panel one lock taken. -/
structure State.lockPassed (s u : State) (l t k : Nat) : Prop where
  held : u.heldBy l (.task t k)
  status : u.rd (Reg.cuffTaskStatus t k) = putField (s.rd (Reg.cuffTaskStatus t k)) 12 8 (Min.min 255 (s.locksOf t k + 1))
  counted : (u.rd (Reg.lockStatAcq (l / 32))).toNat = Min.min 0xFFFFFFFF ((s.rd (Reg.lockStatAcq (l / 32))).toNat + 1)
  pocket : u.pocket = s.pocket

/-- Register words hold no queue of a lock. -/
theorem State.onlyRegs.waiters {s u : State} {as : List Nat} (h : s.onlyRegs u as) (l : Nat) : u.waiters l = s.waiters l :=
  State.waiters_of_lockWait (by rw [h.1]) l

section Task
variable (s : State) (l : Nat) (t : TileId) (k : SlotId)

theorem State.lockCounted_onlyRegs : s.onlyRegs (s.lockCounted l (.task t k))
    [lockReg l, Reg.lockStatAcq (l / 32), Reg.cuffTaskStatus t k] :=
  ((((s.lockTaken_onlyRegs l _).mono (by simp)).count (by simp) 1).setFld (by simp) _ _ _)

theorem State.lockCounted_passed : s.lockPassed (s.lockCounted l (.task t k)) l t k := by
  set u := (s.lockTaken l (.task t k)).count (Reg.lockStatAcq (l / 32)) 1 with hu
  have howner : lockOwner (.task t k) < 1024 := by
    have ht := t.isLt
    have hk := k.isLt
    show 4 * t.val + k.val < 1024
    omega
  have htask {a : Nat} (ha : 0x2000000 ≤ a) : a ≠ Reg.cuffTaskStatus t k := (cuffTaskStatus_ne_panel t k ha).symm
  have hcounted : s.lockCounted l (.task t k) = u.setLocks t k (u.fld (Reg.cuffTaskStatus t k) 12 8 + 1) := rfl
  have hpanel (a : Nat) (ha : 0x2000000 ≤ a) : (s.lockCounted l (.task t k)).rd a = u.rd a :=
    State.rd_setFld_ne _ _ _ _ (htask ha)
  have hstatus : u.rd (Reg.cuffTaskStatus t k) = s.rd (Reg.cuffTaskStatus t k) := by
    rw [hu, State.rd_count_ne _ _ (htask (Reg.lockStatAcq_panel _)).symm]
    exact (s.lockTaken_onlyRegs l _).2 _ (by simpa using (htask (lockReg_panel l)).symm)
  have hheld : u.heldBy l (.task t k) :=
    State.heldBy_of_rd (State.rd_count_ne _ _ (lockReg_ne_statAcq l)) (s.lockTaken_heldBy l howner)
  refine ⟨State.heldBy_congr hpanel l hheld, ?_, ?_, (s.lockCounted_onlyRegs l t k).samePocket⟩
  · rw [hcounted, State.setLocks, State.rd_setFld_self, State.fld_congr hstatus, hstatus, State.locksOf]
  · rw [hpanel _ (Reg.lockStatAcq_panel _), hu, State.rd_count_one, (s.lockTaken_onlyRegs l _).2 _
      (by simpa using (lockReg_ne_statAcq l).symm)]

end Task

/-- A warning charged to a task changes of the register words its WARN cause and the count of dropped records (R345, R551). -/
theorem State.warnTask_sameSuits (s : State) (t k code pb unit sub : Nat) (rec : Bool) (addr c0 c1 : Nat) {keep : Set Nat}
    (hpend : Reg.cuffIntPend t k ∉ keep) (hdropped : Reg.flogDropped ∉ keep) :
    s.sameSuits t keep (s.warnTask t k code pb unit sub rec addr c0 c1) := by
  have hset := (State.sameSuits.refl s t keep).setBit hpend 1 true
  unfold State.warnTask
  dsimp only
  split
  · exact State.sameSuits.refl s t keep
  · split
    · split
      · exact hset.warnJob hdropped ..
      · exact hset
    · split
      · exact hset.pushRec hdropped _
      · exact hset

/-- The words that a warning about lock `l` for task `k` of tile `t` may change. -/
def orphanWords (l t k : Nat) : List Nat := [Reg.lockStatOrphan (l / 32), Reg.cuffIntPend t k, Reg.flogDropped]

theorem State.orphanWarned_frame (s : State) (l t k : Nat) : (s.orphanWarned l (.task t k)).pocket = s.pocket ∧
    ∀ a ∉ orphanWords l t k, (s.orphanWarned l (.task t k)).rd a = s.rd a := by
  have hwarned := (s.count (Reg.lockStatOrphan (l / 32)) 1).warnTask_sameSuits t k 0x0C 2 7 0 true 0
    ((s.count (Reg.lockStatOrphan (l / 32)) 1).rd (Reg.lockErrInfo (l / 32))).toNat 0
    (keep := {a | a ∉ orphanWords l t k}) (fun h => h (by simp [orphanWords])) (fun h => h (by simp [orphanWords]))
  refine ⟨hwarned.pocket, fun a ha => (hwarned.rd a ha).trans (State.rd_count_ne _ _ (fun e => ha ?_))⟩
  simp [e, orphanWords]

theorem State.lockPassed.orphanWarned {s u : State} {l : Nat} {t : TileId} {k : SlotId} (h : s.lockPassed u l t k) :
    s.lockPassed (u.orphanWarned l (.task t k)) l t k := by
  obtain ⟨hpocket, hrd⟩ := u.orphanWarned_frame l t k
  have ht := t.isLt
  have hk := k.isLt
  have hlock : lockReg l ∉ orphanWords l t k := by
    simp only [orphanWords, lockReg, Reg.lockState, Reg.lockStatOrphan, Reg.cuffIntPend, Reg.flogDropped, List.mem_cons,
      List.not_mem_nil, or_false]
    omega
  have hacq : Reg.lockStatAcq (l / 32) ∉ orphanWords l t k := by
    simp only [orphanWords, Reg.lockStatAcq, Reg.lockStatOrphan, Reg.cuffIntPend, Reg.flogDropped, List.mem_cons,
      List.not_mem_nil, or_false]
    omega
  have hstatus : Reg.cuffTaskStatus t k ∉ orphanWords l t k := by
    simp only [orphanWords, Reg.cuffTaskStatus, Reg.lockStatOrphan, Reg.cuffIntPend, Reg.flogDropped, List.mem_cons,
      List.not_mem_nil, or_false]
    omega
  exact ⟨State.heldBy_of_rd (hrd _ hlock) h.held, (hrd _ hstatus).trans h.status,
    (congrArg BitVec.toNat (hrd _ hacq)).trans h.counted, hpocket.trans h.pocket⟩

/-- A FREE or ORPHANED lock is taken; the status is 1 where it was ORPHANED. -/
theorem State.takeLock_passed (s : State) (l : Nat) (t : TileId) (k : SlotId) :
    s.lockPassed (s.takeLock l (.task t k)).1 l t k := by
  rw [State.takeLock_eq]
  split
  · exact (s.lockCounted_passed l t k).orphanWarned
  · exact s.lockCounted_passed l t k

/-! ## The task that has taken a lock goes on -/

section GoesOn
variable {s u : State} {l : Nat} {t : TileId} {k : SlotId} (h : s.lockPassed u l t k)
include h

theorem State.lockPassed.pc : u.pc t k = s.pc t k := by
  rw [State.pc, State.fld, h.status, fieldOf_putField_ne _ _ _ _ _ _ (by decide), State.pc, State.fld]

theorem State.lockPassed.taskState : u.taskState t k = s.taskState t k := by
  rw [State.taskState, State.fld, h.status, fieldOf_putField_ne _ _ _ _ _ _ (by decide), State.taskState, State.fld]

theorem State.lockPassed.locksOf : u.locksOf t k = Min.min 255 (s.locksOf t k + 1) := by
  rw [State.locksOf, State.fld, h.status, fieldOf_putField _ _ _ _ (by decide)]
  omega

/-- RD takes the status of the LKACQ, and the task goes on with the lock. -/
theorem State.lockPassed.setRd (hpc : s.pc t k < 4095) (w v : Word) :
    (u.setRd t k w v).heldBy l (.task t k) ∧ s.nextWord (u.setRd t k w v) t k ∧
    (u.setRd t k w v).creg t k (rdOf w) = (if rdOf w = 0 then 0 else v) ∧
    (u.setRd t k w v).locksOf t k = Min.min 255 (s.locksOf t k + 1) ∧
    ((u.setRd t k w v).rd (Reg.lockStatAcq (l / 32))).toNat =
      Min.min 0xFFFFFFFF ((s.rd (Reg.lockStatAcq (l / 32))).toNat + 1) ∧
    (u.setRd t k w v).pocket = s.pocket := by
  have ht := t.isLt
  have hk := k.isLt
  have hrd : rdOf w < 32 := fieldOf_lt ..
  have hreg := u.setCreg_onlyRegs t k (rdOf w) v
  have hstatus : (u.setCreg t k (rdOf w) v).rd (Reg.cuffTaskStatus t k) = u.rd (Reg.cuffTaskStatus t k) :=
    hreg.2 _ (notMem_rdWords _ (by rw [Reg.cuffTaskStatus]; omega))
  have hpc' : (u.setCreg t k (rdOf w) v).pc t k < 4095 := ((State.fld_congr hstatus 0 12).trans h.pc).trans_lt hpc
  have hmoved := State.complete_movedOn hpc'
  have hpanel (a : Nat) (ha : 0x2000000 ≤ a) : (u.setRd t k w v).rd a = u.rd a := by
    refine (State.rd_complete_panel rfl hpc' ha).trans (hreg.2 a (fun hmem => ?_))
    unfold rdWords at hmem
    split at hmem
    · cases hmem
    · rw [List.mem_singleton.1 hmem, Reg.cuffTaskReg] at ha
      omega
  refine ⟨State.heldBy_congr hpanel l h.held, ⟨hmoved.state, ?_⟩, ?_, ?_, ?_, ?_⟩
  · exact hmoved.pc.trans (congrArg (· + 1) ((State.fld_congr hstatus 0 12).trans h.pc))
  · rw [State.setRd, State.creg_congr (hmoved.frame.2 _ (Reg.cuffTaskReg_notMem_taskWords t hk _)), State.creg_setCreg]
    by_cases hzero : rdOf w = 0 <;> simp [hzero, State.creg]
  · exact (hmoved.statusBits.fld (fun i hi => by omega)).trans ((State.fld_congr hstatus 12 8).trans h.locksOf)
  · rw [hpanel _ (Reg.lockStatAcq_panel _), h.counted]
  · exact hmoved.frame.samePocket.trans (hreg.samePocket.trans h.pocket)

end GoesOn

/-! ## ORPHANED (R377, R380) -/

/-- The lock is ORPHANED for `cause`; no byte of a Pocket has changed. -/
structure State.lockOrphanedBy (s u : State) (l cause : Nat) : Prop where
  state : u.lockStateOf l = 2
  cause : u.fld (lockReg l) 28 2 = cause
  pocket : u.pocket = s.pocket

theorem State.orphanLock_orphaned (s : State) (l : Nat) {cause : Nat} (h : cause < 4) :
    s.lockOrphanedBy (s.orphanLock l cause) l cause := by
  have hset (u : State) (hu : u.pocket = s.pocket) :
      s.lockOrphanedBy ((u.setFld (lockReg l) 30 2 lockOrphaned).setFld (lockReg l) 28 2 cause) l cause :=
    ⟨(State.fld_setFld_ne _ _ _ _ _ _ _ (by decide)).trans (State.fld_setFld_of_lt _ _ (by decide) (by decide)),
      State.fld_setFld_of_lt _ _ (by decide) h, hu⟩
  unfold State.orphanLock
  dsimp only
  split
  · exact hset s rfl
  · exact hset _ rfl

theorem State.lockOrphanedBy.sameSuits {s u v : State} {l cause t : Nat} (h : s.lockOrphanedBy u l cause)
    (hv : u.sameSuits t Reg.beyondTiles v) : s.lockOrphanedBy v l cause := by
  have hlock : v.rd (lockReg l) = u.rd (lockReg l) := hv.rd _ (lockReg_panel l)
  exact ⟨(State.fld_congr hlock _ _).trans h.state, (State.fld_congr hlock _ _).trans h.cause, hv.pocket.trans h.pocket⟩

end Sys2Proof.Machine
end

section
/-! SUPPORT. LKACQ, LKREL, the grant of a freed lock, the expiry of a lease and LOCK_CTRL (R376-R381). Settles O43. -/

namespace Sys2Proof.Machine

/-! ## Acquiring (R377, R378, R381) -/

section Acquire
variable {s : State} {l : Nat} {v : LockUser} {refused granted : State → Nat → State} {waits : State → State}

theorem State.acquire_unusable (h : s.lockUsable l v = false) : s.acquire l v refused granted waits = refused s 1 := by
  rw [State.acquire, h]
  rfl

theorem State.acquire_own (husable : s.lockUsable l v = true) (hheld : s.heldBy l v) :
    s.acquire l v refused granted waits = refused s 2 := by
  obtain ⟨hstate, howned⟩ := (s.heldBy_iff l v).1 hheld
  rw [State.acquire, husable, hstate, howned]
  rfl

theorem State.acquire_held (husable : s.lockUsable l v = true) (hstate : s.lockStateOf l = 1) (hother : ¬ s.heldBy l v)
    (hnew : v ∉ s.waiters l) : s.acquire l v refused granted waits = waits (s.setWaiters l (s.waiters l ++ [v])) := by
  have howned : s.lockOwnedBy l v = false := Bool.eq_false_iff.2 (fun h => hother ((s.heldBy_iff l v).2 ⟨hstate, h⟩))
  have hcontains : (s.waiters l).contains v = false := by simpa using hnew
  rw [State.acquire, husable, hstate, howned, hcontains]
  rfl

theorem State.acquire_granted (husable : s.lockUsable l v = true) (hstate : s.lockStateOf l ≠ 1) (hnone : s.waiters l = []) :
    s.acquire l v refused granted waits = granted (s.takeLock l v).1 (s.takeLock l v).2 := by
  have hnot : (s.lockStateOf l == lockHeld) = false := by simpa [lockHeld] using hstate
  rw [State.acquire, husable, hnot, hnone]
  rfl

theorem State.refuseLock_taskState {t k : Nat} (h : s.taskOver t k = false) (sub : Nat) :
    (s.refuseLock l (.task t k) sub).taskState t k = taskAborted := by
  rw [State.refuseLock]
  exact State.chargeTask_taskState h ..

end Acquire

/-! ## Releasing (R379, R381) -/

section Release
variable {s : State} {l : Nat} {v : LockUser}

theorem State.releaseLock_task {t k : Nat} (husable : s.lockUsable l (.task t k) = true) (hheld : s.heldBy l (.task t k)) :
    s.releaseLock l (.task t k) = (s.setFld (lockReg l) 30 2 lockFree).setLocks t k
      ((s.setFld (lockReg l) 30 2 lockFree).fld (Reg.cuffTaskStatus t k) 12 8 - 1) := by
  obtain ⟨hstate, howned⟩ := (s.heldBy_iff l _).1 hheld
  rw [State.releaseLock, husable, hstate, howned]
  rfl

theorem State.releaseLock_collar {c : Nat} (hheld : s.heldBy l (.collar c)) :
    s.releaseLock l (.collar c) = s.setFld (lockReg l) 30 2 lockFree := by
  obtain ⟨hstate, howned⟩ := (s.heldBy_iff l _).1 hheld
  rw [State.releaseLock, hstate, howned]
  rfl

theorem State.releaseLock_foreign (husable : s.lockUsable l v = true) (h : s.lockStateOf l = 0 ∨ s.lockOwnedBy l v = false) :
    s.releaseLock l v = s.refuseLock l v 3 := by
  rw [State.releaseLock, husable]
  rcases h with hfree | hforeign
  · rw [hfree]
    simp [lockHeld, lockOrphaned]
  · rw [hforeign]
    rfl

end Release

/-! ## LKACQ and LKREL of a task -/

section Instruction
variable {s : State} {t : TileId} {k : SlotId} {w : Word} {l : LockId} (hruns : s.runs t k w) (hop : opOf w = 0x38)
  (hrb : rbOf w = 0) (hl : l.val = (s.creg t k (raOf w)).toNat % 128)
include hruns hop hrb hl

theorem exec_lkacq (hfn : fnOf w = 0x40) : exec (.lkacq (.task t k)) s =
    .next ((s.instrCounted t).acquire l (.task t k) (fun s sub => s.refuseLock l (.task t k) sub)
      (fun s st => s.setRd t k w (BitVec.ofNat 32 st)) (fun s => s.wait t k 7)) := by
  have hcode := cuffCode_unit hop hfn rfl (.inl rfl) (.inl rfl) (.inr hrb)
  show execLkacq (.task t k) s = _
  simp only [execLkacq, hruns.issue_eq hcode, State.opA_instrCounted, hl]

theorem exec_lkrel (hfn : fnOf w = 0x41) (hrd : rdOf w = 0) : exec (.lkrel (.task t k)) s =
    .next (if ((s.instrCounted t).releaseLock l (.task t k)).taskOver t k then (s.instrCounted t).releaseLock l (.task t k)
      else ((s.instrCounted t).releaseLock l (.task t k)).complete t k) := by
  have hcode := cuffCode_unit hop hfn rfl (.inr hrd) (.inl rfl) (.inr hrb)
  show execLkrel (.task t k) s = _
  simp only [execLkrel, hruns.issue_eq hcode, State.opA_instrCounted, hl]

end Instruction

section Counted
variable (s : State) (t : TileId) (k : SlotId) (l : Nat) (v : LockUser)

theorem State.lockStateOf_instrCounted : (s.instrCounted t).lockStateOf l = s.lockStateOf l :=
  State.lockStateOf_congr (fun _ => s.rd_instrCounted_panel t) l

theorem State.lockOwnedBy_instrCounted : (s.instrCounted t).lockOwnedBy l v = s.lockOwnedBy l v :=
  State.lockOwnedBy_congr (fun _ => s.rd_instrCounted_panel t) l v

theorem State.heldBy_instrCounted : (s.instrCounted t).heldBy l v ↔ s.heldBy l v := by
  rw [State.heldBy_iff, State.lockStateOf_instrCounted, State.lockOwnedBy_instrCounted, State.heldBy_iff]

theorem State.lockUsable_instrCounted : (s.instrCounted t).lockUsable l v = s.lockUsable l v :=
  State.lockUsable_congr (fun _ => s.rd_instrCounted_panel t) l rfl v

theorem State.waiters_instrCounted : (s.instrCounted t).waiters l = s.waiters l := rfl

theorem State.rd_cuffTaskStatus_instrCounted :
    (s.instrCounted t).rd (Reg.cuffTaskStatus t k) = s.rd (Reg.cuffTaskStatus t k) :=
  s.rd_instrCounted (Reg.cuffTaskStatus_ne_statInstr t k)

/-- What a lock passes to a task from, once the instruction is counted. -/
theorem State.lockPassed.of_instrCounted {s u : State} {l : Nat} {t : TileId} {k : SlotId}
    (h : (s.instrCounted t).lockPassed u l t k) : s.lockPassed u l t k := by
  have hstatus := s.rd_cuffTaskStatus_instrCounted t k
  refine ⟨h.held, ?_, ?_, h.pocket⟩
  · rw [h.status, hstatus, State.locksOf, State.fld_congr hstatus, State.locksOf]
  · rw [h.counted, s.rd_instrCounted_panel t (Reg.lockStatAcq_panel _)]

end Counted

section Acquired
variable {s : State} {t : TileId} {k : SlotId} {w : Word} {l : LockId} (hruns : s.runs t k w) (hop : opOf w = 0x38)
  (hrb : rbOf w = 0) (hl : l.val = (s.creg t k (raOf w)).toNat % 128) (hfn : fnOf w = 0x40)
include hruns hop hrb hl hfn

/-- R377: a lock that no one holds and no one waits for passes to the task, with status 1 where it was ORPHANED. -/
theorem lkacq_grants (hpc : s.pc t k < 4095) (husable : s.lockUsable l (.task t k) = true) (hnone : s.waiters l = []) {st : Nat}
    (hstate : s.lockStateOf l = 0 ∧ st = 0 ∨ s.lockStateOf l = 2 ∧ st = 1) : Answers (.lkacq (.task t k)) s (fun u =>
      u.heldBy l (.task t k) ∧ s.nextWord u t k ∧ u.creg t k (rdOf w) = (if rdOf w = 0 then 0 else BitVec.ofNat 32 st) ∧
      u.locksOf t k = Min.min 255 (s.locksOf t k + 1) ∧
      (u.rd (Reg.lockStatAcq (l / 32))).toNat = Min.min 0xFFFFFFFF ((s.rd (Reg.lockStatAcq (l / 32))).toNat + 1) ∧
      u.pocket = s.pocket) := by
  have hcounted := s.lockStateOf_instrCounted t l
  have hstatus : ((s.instrCounted t).takeLock l (.task t k)).2 = st := by
    rcases hstate with ⟨hfree, rfl⟩ | ⟨horphaned, rfl⟩
    · rw [State.takeLock_free (hcounted.trans hfree)]
    · rw [State.takeLock_orphaned (hcounted.trans horphaned)]
  have hnot : (s.instrCounted t).lockStateOf l ≠ 1 := by
    rcases hstate with ⟨h, -⟩ | ⟨h, -⟩ <;> rw [hcounted, h] <;> decide
  have hpassed := ((s.instrCounted t).takeLock_passed l t k).of_instrCounted
  refine ⟨_, (exec_lkacq hruns hop hrb hl hfn).trans (congrArg _ (State.acquire_granted
    ((s.lockUsable_instrCounted t l _).trans husable) hnot hnone)), ?_⟩
  rw [hstatus]
  exact hpassed.setRd hpc w _

/-- R378: the task waits behind those already waiting for a lock that is held. -/
theorem lkacq_waits (husable : s.lockUsable l (.task t k) = true) (hstate : s.lockStateOf l = 1)
    (hother : ¬ s.heldBy l (.task t k)) (hnew : .task t.val k.val ∉ s.waiters l) : Answers (.lkacq (.task t k)) s (fun u =>
      u.taskState t k = taskWaiting ∧ u.fld (Reg.cuffTaskStatus t k) 25 4 = 7 ∧ u.pc t k = s.pc t k ∧
      u.waiters l = s.waiters l ++ [.task t.val k.val]) := by
  have hwaiters := s.waiters_instrCounted t l
  have hqueued := State.acquire_held (refused := fun s sub => s.refuseLock l (.task t k) sub)
    (granted := fun s st => s.setRd t k w (BitVec.ofNat 32 st)) (waits := fun s => s.wait t k 7)
    ((s.lockUsable_instrCounted t l _).trans husable) ((s.lockStateOf_instrCounted t l).trans hstate)
    (fun h => hother ((s.heldBy_instrCounted t l _).1 h)) (hwaiters ▸ hnew)
  rw [hwaiters] at hqueued
  set u := (s.instrCounted t).setWaiters l (s.waiters l ++ [.task t.val k.val]) with hu
  have hstatus : u.rd (Reg.cuffTaskStatus t k) = s.rd (Reg.cuffTaskStatus t k) :=
    (State.rd_setWaiters _ _ (cuffTaskStatus_ne_panel t k (lockReg_panel l))).trans (s.rd_cuffTaskStatus_instrCounted t k)
  refine ⟨u.wait t k 7, (exec_lkacq hruns hop hrb hl hfn).trans (congrArg _ hqueued), State.setTaskState_taskState ..,
    State.setTaskState_reason _ _ _ _ (by decide), (State.setTaskState_pc ..).trans (State.fld_congr hstatus _ _), ?_⟩
  exact ((u.setTaskState_onlyRegs t k taskWaiting 7).waiters l).trans (State.waiters_setWaiters ..)

/-- R376, R381: a lock of another partition and a lock that the task holds already are refused. -/
theorem lkacq_aborts (h : s.lockUsable l (.task t k) = false ∨ s.heldBy l (.task t k)) :
    Answers (.lkacq (.task t k)) s (fun u => u.taskState t k = taskAborted) := by
  have hcounted := s.lockUsable_instrCounted t l (.task t k)
  refine ⟨_, exec_lkacq hruns hop hrb hl hfn, ?_⟩
  cases husable : s.lockUsable l (.task t k) with
  | false =>
    rw [State.acquire_unusable (hcounted.trans husable)]
    exact State.refuseLock_taskState hruns.taskOver 1
  | true =>
    have hheld := h.resolve_left (by simp [husable])
    rw [State.acquire_own (hcounted.trans husable) ((s.heldBy_instrCounted t l _).2 hheld)]
    exact State.refuseLock_taskState hruns.taskOver 2

end Acquired

section Released
variable {s : State} {t : TileId} {k : SlotId} {w : Word} {l : LockId} (hruns : s.runs t k w) (hop : opOf w = 0x38)
  (hrb : rbOf w = 0) (hl : l.val = (s.creg t k (raOf w)).toNat % 128) (hfn : fnOf w = 0x41) (hrd : rdOf w = 0)
  (husable : s.lockUsable l (.task t k) = true)
include hruns hop hrb hl hfn hrd husable

/-- R379: the lock is FREE, and the task goes on with one lock less. -/
theorem lkrel_releases (hpc : s.pc t k < 4095) (hheld : s.heldBy l (.task t k)) : Answers (.lkrel (.task t k)) s (fun u =>
    u.lockStateOf l = 0 ∧ s.nextWord u t k ∧ u.locksOf t k = s.locksOf t k - 1 ∧ u.pocket = s.pocket) := by
  set c := (s.instrCounted t).setFld (lockReg l) 30 2 lockFree with hc
  set u := c.setLocks t k (c.fld (Reg.cuffTaskStatus t k) 12 8 - 1) with hu
  have hrelease : (s.instrCounted t).releaseLock l (.task t k) = u :=
    State.releaseLock_task ((s.lockUsable_instrCounted t l _).trans husable) ((s.heldBy_instrCounted t l _).2 hheld)
  have hstatus : c.rd (Reg.cuffTaskStatus t k) = s.rd (Reg.cuffTaskStatus t k) :=
    (State.rd_setFld_ne _ _ _ _ (cuffTaskStatus_ne_panel t k (lockReg_panel l))).trans (s.rd_cuffTaskStatus_instrCounted t k)
  have hkept (lo len : Nat) (h : lo + len ≤ 12 ∨ 20 ≤ lo) :
      u.fld (Reg.cuffTaskStatus t k) lo len = s.fld (Reg.cuffTaskStatus t k) lo len :=
    (State.fld_setFld_ne _ _ _ _ _ _ _ h).trans (State.fld_congr hstatus _ _)
  have hover : u.taskOver t k = false := State.taskOver_of_running ((hkept 29 3 (by decide)).trans hruns.1)
  have hupc : u.pc t k = s.pc t k := hkept 0 12 (by decide)
  have hmoved := State.complete_movedOn (hupc.trans_lt hpc)
  have hlock : (u.complete t k).rd (lockReg l) = c.rd (lockReg l) :=
    (State.rd_complete_panel rfl (hupc.trans_lt hpc) (lockReg_panel l)).trans
      (State.rd_setFld_ne _ _ _ _ (cuffTaskStatus_ne_panel t k (lockReg_panel l)).symm)
  have hlocks : u.locksOf t k = s.locksOf t k - 1 := by
    have hlt : s.locksOf t k < 256 := fieldOf_lt ..
    have hcount : c.fld (Reg.cuffTaskStatus t k) 12 8 = s.locksOf t k := State.fld_congr hstatus _ _
    rw [State.locksOf, hu, State.setLocks, State.fld_setFld _ _ _ _ _ (by decide), hcount]
    omega
  refine ⟨u.complete t k, ?_, ?_, ⟨hmoved.state, hmoved.pc.trans (congrArg (· + 1) hupc)⟩, ?_, hmoved.frame.samePocket⟩
  · rw [exec_lkrel hruns hop hrb hl hfn hrd, hrelease, hover, if_neg Bool.false_ne_true]
  · exact (State.fld_congr hlock _ _).trans (State.fld_setFld_of_lt _ _ (by decide) (by decide))
  · exact (hmoved.statusBits.fld (fun i hi => by omega)).trans hlocks

/-- R381: a lock that the task does not hold is not released. -/
theorem lkrel_aborts (h : s.lockStateOf l = 0 ∨ s.lockOwnedBy l (.task t k) = false) :
    Answers (.lkrel (.task t k)) s (fun u => u.taskState t k = taskAborted) := by
  have hrelease : (s.instrCounted t).releaseLock l (.task t k) = (s.instrCounted t).refuseLock l (.task t k) 3 :=
    State.releaseLock_foreign ((s.lockUsable_instrCounted t l _).trans husable)
      (by rwa [State.lockStateOf_instrCounted, State.lockOwnedBy_instrCounted])
  have haborted : ((s.instrCounted t).refuseLock l (.task t k) 3).taskState t k = taskAborted :=
    State.refuseLock_taskState hruns.taskOver 3
  refine ⟨_, exec_lkrel hruns hop hrb hl hfn hrd, ?_⟩
  rw [hrelease, if_pos (by rw [State.taskOver, haborted]; rfl)]
  exact haborted

end Released

/-! ## Locks of the Collar (R376) -/

section Collar
variable {s : State} {l : LockId} (c : Fin 8)

/-- The Collar core is answered with the status of its LKACQ. -/
def State.lockReplied (s : State) (st : Nat) : State := { s with reply := leBytes 4 st }

theorem State.rd_lockReplied (s : State) (st a : Nat) : (s.lockReplied st).rd a = s.rd a := State.rd_of_regs rfl a

theorem collar_lkacq_takes (hfree : s.lockStateOf l = 0) (hnone : s.waiters l = []) :
    Answers (.lkacq (.collar c l)) s (fun u => u.heldBy l (.collar c) ∧ u.reply = leBytes 4 0) := by
  have husable : s.lockUsable l (.collar c) = true := rfl
  have hexec : exec (.lkacq (.collar c l)) s = .next ((s.lockCounted l (.collar c)).lockReplied 0) := by
    show execLkacq (.collar c l) s = _
    simp only [execLkacq, State.acquire_granted husable (by rw [hfree]; decide) hnone, State.takeLock_free hfree]
    rfl
  have howner : lockOwner (.collar c) < 1024 := lt_trans c.isLt (by decide)
  have hlock : (s.lockCounted l (.collar c)).rd (lockReg l) = (s.lockTaken l (.collar c)).rd (lockReg l) :=
    State.rd_count_ne _ _ (lockReg_ne_statAcq l)
  exact ⟨_, hexec, State.heldBy_of_rd ((State.rd_lockReplied ..).trans hlock) (s.lockTaken_heldBy l howner), rfl⟩

theorem collar_lkrel_releases (hheld : s.heldBy l (.collar c)) : Answers (.lkrel (.collar c l)) s (fun u =>
    u.lockStateOf l = 0 ∧ s.onlyRegs u [lockReg l]) := by
  refine ⟨_, congrArg Host.Outcome.next (State.releaseLock_collar hheld), State.fld_setFld_of_lt _ _ (by decide) (by decide),
    (State.onlyRegs.refl s _).setFld List.mem_cons_self _ _ _⟩

end Collar

/-! ## A freed lock passes on (R378) -/

section Passes
variable {s : State} {l : LockId} {t : TileId} {k : SlotId} {vs : List LockUser}

/-- The first waiter has left the queue and taken the lock. -/
def State.passedOn (s : State) (l t k : Nat) (vs : List LockUser) : State := (s.setWaiters l vs).lockCounted l (.task t k)

theorem State.passedOn_passed (s : State) (l : Nat) (t : TileId) (k : SlotId) (vs : List LockUser) :
    s.lockPassed (s.passedOn l t k vs) l t k := by
  have hpassed := (s.setWaiters l vs).lockCounted_passed l t k
  have hstatus : (s.setWaiters l vs).rd (Reg.cuffTaskStatus t k) = s.rd (Reg.cuffTaskStatus t k) :=
    State.rd_setWaiters _ _ (cuffTaskStatus_ne_panel t k (lockReg_panel l))
  refine ⟨hpassed.held, ?_, ?_, hpassed.pocket⟩
  · rw [State.passedOn, hpassed.status, hstatus, State.locksOf, State.fld_congr hstatus, State.locksOf]
  · rw [State.passedOn, hpassed.counted, State.rd_setWaiters _ _ (lockReg_ne_statAcq l).symm]

theorem State.waiters_passedOn (s : State) (l : Nat) (t : TileId) (k : SlotId) (vs : List LockUser) :
    (s.passedOn l t k vs).waiters l = vs := by
  have hframe := (s.setWaiters l vs).lockCounted_onlyRegs l t k
  exact (hframe.waiters l).trans (State.waiters_setWaiters ..)

theorem State.fetch_passedOn (s : State) (l : Nat) (t : TileId) (k : SlotId) (vs : List LockUser) :
    (s.passedOn l t k vs).fetch t k = s.fetch t k := by
  have ht := t.isLt
  have hk := k.isLt
  have hpc : s.pc t k < 4096 := fieldOf_lt ..
  have hlow : Reg.cuffImem t (s.pc t k) < 0x2000000 := by
    rw [Reg.cuffImem]
    omega
  have hpanel {a : Nat} (ha : 0x2000000 ≤ a) : Reg.cuffImem t (s.pc t k) ≠ a := by omega
  have hstatus : Reg.cuffImem t (s.pc t k) ≠ Reg.cuffTaskStatus t k := by
    rw [Reg.cuffImem, Reg.cuffTaskStatus]
    omega
  rw [State.fetch, (s.passedOn_passed l t k vs).pc, State.passedOn, ((s.setWaiters l vs).lockCounted_onlyRegs l t k).2 _
    (by simp [hpanel (lockReg_panel l), hpanel (Reg.lockStatAcq_panel _), hstatus]),
    State.rd_setWaiters _ _ (hpanel (lockReg_panel l)), State.fetch]

theorem exec_lockGrant (hwait : s.waiters l = .task t k :: vs) (hfree : s.lockStateOf l = 0)
    (hstate : s.taskState t k = taskWaiting) :
    exec (.lockGrant l) s = .next ((s.passedOn l t k vs).setRd t k (s.fetch t k) 0) := by
  have hover : (s.passedOn l t k vs).taskOver t k = false :=
    State.taskOver_of_canIssue (by simp [State.canIssue, (s.passedOn_passed l t k vs).taskState, hstate])
  have htake := State.takeLock_free ((s.lockStateOf_setWaiters l vs).trans hfree) (.task t.val k.val)
  rw [← State.passedOn] at htake
  show execLockGrant l s = _
  rw [execLockGrant, hwait]
  simp only [hfree, htake, hover, s.fetch_passedOn l t k vs, lockHeld, Bool.false_eq_true, if_false]
  rfl

theorem lockGrant_passes (hwait : s.waiters l = .task t k :: vs) (hfree : s.lockStateOf l = 0)
    (hstate : s.taskState t k = taskWaiting) (hpc : s.pc t k < 4095) : Answers (.lockGrant l) s (fun u =>
      u.heldBy l (.task t k) ∧ u.waiters l = vs ∧ s.nextWord u t k ∧ u.creg t k (rdOf (s.fetch t k)) = 0) := by
  have hpassed := s.passedOn_passed l t k vs
  obtain ⟨hheld, hnext, hreg, -, -, -⟩ := hpassed.setRd hpc (s.fetch t k) 0
  refine ⟨_, exec_lockGrant hwait hfree hstate, hheld, ?_, hnext, hreg.trans (ite_self 0)⟩
  have hreg := (s.passedOn l t k vs).setCreg_onlyRegs t k (rdOf (s.fetch t k)) 0
  have hcreg : ((s.passedOn l t k vs).setCreg t k (rdOf (s.fetch t k)) 0).pc t k < 4095 := by
    have hstatus := hreg.2 (Reg.cuffTaskStatus t k) (notMem_rdWords _ (by have := k.isLt; rw [Reg.cuffTaskStatus]; omega))
    exact ((State.fld_congr hstatus 0 12).trans hpassed.pc).trans_lt hpc
  exact ((State.complete_movedOn hcreg).frame.waiters l).trans ((hreg.waiters l).trans (s.waiters_passedOn l t k vs))

end Passes

/-! ## A held lock turns ORPHANED (R377, R380) -/

section Orphaned
variable {s : State} {l : LockId}

theorem Reg.flogDropped_notMem_beyondTiles : Reg.flogDropped ∉ Reg.beyondTiles := by
  rw [Reg.flogDropped, Reg.beyondTiles, Set.mem_Ici]
  decide

/-- The warning that a lease has expired, for the lock's holder `o`. -/
def State.leaseWarned (s : State) (l o : Nat) (collar : Bool) : State :=
  let info := (s.rd (Reg.lockErrInfo (l / 32))).toNat
  if collar then s.recordOnly 0x0C 7 0 none none 0 info 0 0 else s.warnTask (o / 4) (o % 4) 0x0C 2 7 0 true 0 info 0

theorem State.leaseWarned_sameSuits (s : State) (l : Nat) {o : Nat} (ho : o < 1024) (collar : Bool) :
    s.sameSuits (o / 4) Reg.beyondTiles (s.leaseWarned l o collar) := by
  have hpend : Reg.cuffIntPend (o / 4) (o % 4) ∉ Reg.beyondTiles := by
    rw [Reg.cuffIntPend, Reg.beyondTiles, Set.mem_Ici]
    omega
  rw [State.leaseWarned]
  cases collar with
  | true => exact (State.sameSuits.refl s _ _).pushRec Reg.flogDropped_notMem_beyondTiles _
  | false => exact s.warnTask_sameSuits _ _ _ _ _ _ _ _ _ _ hpend Reg.flogDropped_notMem_beyondTiles

theorem exec_lockLeaseExpire (hheld : s.lockStateOf l = 1) (hlease : s.rd (Reg.lockLease (l / 32) (l % 32)) ≠ 0xFFFFFFFF) :
    exec (.lockLeaseExpire l) s =
      .next ((s.orphanLock l 2).leaseWarned l (s.fld (lockReg l) 0 10) (s.bit (lockReg l) 16)) := by
  show execLockLeaseExpire l s = _
  rw [execLockLeaseExpire, hheld, if_pos (by simpa [lockHeld] using hlease)]
  rfl

/-- R380: the lease of a held lock has run out. -/
theorem lockLeaseExpire_orphans (hheld : s.lockStateOf l = 1)
    (hlease : s.rd (Reg.lockLease (l / 32) (l % 32)) ≠ 0xFFFFFFFF) : Answers (.lockLeaseExpire l) s (fun u =>
      u.lockStateOf l = 2 ∧ u.fld (lockReg l) 28 2 = 2 ∧ u.pocket = s.pocket) := by
  obtain ⟨hstate, hcause, hpocket⟩ := (s.orphanLock_orphaned l (cause := 2) (by decide)).sameSuits
    ((s.orphanLock l 2).leaseWarned_sameSuits l (o := s.fld (lockReg l) 0 10) (fieldOf_lt ..) (s.bit (lockReg l) 16))
  exact ⟨_, exec_lockLeaseExpire hheld hlease, hstate, hcause, hpocket⟩

/-- A lease of all ones does not run out. -/
theorem exec_lockLeaseExpire_endless (hlease : s.rd (Reg.lockLease (l / 32) (l % 32)) = 0xFFFFFFFF) :
    exec (.lockLeaseExpire l) s = .next s := by
  show execLockLeaseExpire l s = _
  rw [execLockLeaseExpire, if_neg (by simp [hlease])]

/-- R377: LOCK_CTRL.ORPHAN. -/
theorem lockCtrlOrphan_orphans {p : PanelId} {i : Fin 32} (hl : l.val = 32 * p + i) (hon : s.regOn (Reg.lockCtrl p) = true)
    (hheld : s.lockStateOf l = 1) : Answers (.lockCtrlOrphan p i) s (fun u =>
      u.lockStateOf l = 2 ∧ u.fld (lockReg l) 28 2 = 3 ∧ u.pocket = s.pocket) := by
  have hexec : exec (.lockCtrlOrphan p i) s = .next (s.orphanLock l 3) := by
    show execLockCtrlOrphan p i s = _
    rw [execLockCtrlOrphan, State.ctl, if_pos hon, ← hl, State.forceOrphan, hheld]
    rfl
  obtain ⟨hstate, hcause, hpocket⟩ := s.orphanLock_orphaned l (cause := 3) (by decide)
  exact ⟨_, hexec, hstate, hcause, hpocket⟩

end Orphaned

/-! ## The statement -/

/-- Settles O43, command by command. -/
theorem locksPassAndOrphan : Obligations.LocksPassAndOrphan := by
  unfold Obligations.LocksPassAndOrphan
  intro s l usable
  refine ⟨fun t k w hruns hop hrb hpc hl => ?_,
    fun c => ⟨collar_lkacq_takes c, collar_lkrel_releases c⟩, fun _ _ _ => lockGrant_passes,
    fun hheld => ⟨lockLeaseExpire_orphans hheld, exec_lockLeaseExpire_endless,
      fun _ _ hl hon => lockCtrlOrphan_orphans hl hon hheld⟩⟩
  have husable : s.lockUsable l (.task t k) = true ↔ usable t := s.lockUsable_iff l t k
  refine ⟨fun hfn hus hnone => ⟨fun hfree => ?_, fun horphaned => ?_⟩, fun hfn hus hstate hother hnew => ?_, fun hfn h => ?_,
    fun hfn hrd hus => ⟨fun hheld => ?_, fun h => ?_⟩⟩
  · exact lkacq_grants hruns hop hrb hl hfn hpc (husable.2 hus) hnone (.inl ⟨hfree, rfl⟩)
  · exact lkacq_grants hruns hop hrb hl hfn hpc (husable.2 hus) hnone (.inr ⟨horphaned, rfl⟩)
  · exact lkacq_waits hruns hop hrb hl hfn (husable.2 hus) hstate hother hnew
  · exact lkacq_aborts hruns hop hrb hl hfn (h.imp_left (fun hno => Bool.eq_false_iff.2 (fun hyes => hno (husable.1 hyes))))
  · exact lkrel_releases hruns hop hrb hl hfn hrd (husable.2 hus) hpc hheld
  · exact lkrel_aborts hruns hop hrb hl hfn hrd (husable.2 hus) h

end Sys2Proof.Machine
end

section
/-! SUPPORT. A round of an arbiter: the requester that it grants, the waits of the others, and STARVATION (R384-R387). Settles
O44. -/

namespace Sys2Proof.Machine

/-! ## The requester that is granted (R385) -/

/-- A fold that keeps the lesser of what it has and what it meets finds the least element. -/
theorem foldl_eq_min? {f : Option Nat → Nat → Option Nat} (hnone : ∀ o, f none o = some o)
    (hsome : ∀ x o, f (some x) o = some (min x o)) (l : List Nat) : l.foldl f none = l.min? := by
  have hkeep (l : List Nat) (x : Nat) : l.foldl f (some x) = some (l.foldl min x) := by
    induction l generalizing x with
    | nil => rfl
    | cons y l ih => rw [List.foldl_cons, hsome, ih, List.foldl_cons]
  cases l with
  | nil => rfl
  | cons x l => rw [List.foldl_cons, hnone, hkeep, List.min?_cons']

/-- The order number that follows `last` in a class: the least beyond it, or the least of all. -/
def nextInTurn (last : Option Nat) (os : List Nat) : Option Nat :=
  match last with
  | some l => (os.filter (l < ·)).min?.or os.min?
  | none => os.min?

theorem nextInTurn_none {os : List Nat} {o : Nat} (h : nextInTurn none os = some o) : o ∈ os ∧ ∀ x ∈ os, o ≤ x :=
  List.min?_eq_some_iff.1 h

theorem nextInTurn_some {l : Nat} {os : List Nat} {o : Nat} (h : nextInTurn (some l) os = some o) :
    o ∈ os ∧ ∀ x ∈ os, (l < o ∧ (l < x → o ≤ x)) ∨ (o ≤ l ∧ x ≤ l ∧ o ≤ x) := by
  rw [nextInTurn] at h
  cases hbeyond : (os.filter (l < ·)).min? with
  | some y =>
    obtain rfl : y = o := by simpa [hbeyond] using h
    obtain ⟨hmem, hleast⟩ := List.min?_eq_some_iff.1 hbeyond
    obtain ⟨hmem, hlt⟩ := List.mem_filter.1 hmem
    exact ⟨hmem, fun x hx => .inl ⟨of_decide_eq_true hlt, fun hxl => hleast x (List.mem_filter.2 ⟨hx, decide_eq_true hxl⟩)⟩⟩
  | none =>
    have hno : ∀ x ∈ os, x ≤ l := fun x hx => Nat.le_of_not_lt (fun hlt =>
      List.not_mem_nil ((List.min?_eq_none_iff.1 hbeyond) ▸ List.mem_filter.2 ⟨hx, decide_eq_true hlt⟩))
    obtain ⟨hmem, hleast⟩ := List.min?_eq_some_iff.1 (show os.min? = some o by simpa [hbeyond] using h)
    exact ⟨hmem, fun x hx => .inr ⟨hno o hmem, hno x hx, hleast x hx⟩⟩

theorem nextInTurn_mem {last : Option Nat} {os : List Nat} {o : Nat} (h : nextInTurn last os = some o) : o ∈ os := by
  cases last with
  | none => exact (nextInTurn_none h).1
  | some l => exact (nextInTurn_some h).1

/-- The highest class raised. -/
def State.topClass (s : State) (site : ArbSite) (reqs : List ArbReq) : Nat := reqs.foldl (fun c r => max c (s.arbClass site r)) 0

/-- A fold that keeps the greater of what it has and what it meets ends above both. -/
theorem le_foldl_max {α : Type} (f : α → Nat) (l : List α) (c : Nat) :
    c ≤ l.foldl (fun c a => max c (f a)) c ∧ ∀ a ∈ l, f a ≤ l.foldl (fun c a => max c (f a)) c := by
  induction l generalizing c with
  | nil => exact ⟨le_refl c, fun a ha => absurd ha List.not_mem_nil⟩
  | cons b l ih =>
    obtain ⟨hstart, hmem⟩ := ih (max c (f b))
    refine ⟨(le_max_left ..).trans hstart, fun a ha => ?_⟩
    rcases List.mem_cons.1 ha with rfl | ha
    · exact (le_max_right ..).trans hstart
    · exact hmem a ha

theorem State.arbClass_le_topClass (s : State) (site : ArbSite) {reqs : List ArbReq} {r : ArbReq} (h : r ∈ reqs) :
    s.arbClass site r ≤ s.topClass site reqs := (le_foldl_max (s.arbClass site) reqs 0).2 r h

/-- The order numbers of the requests of a class. -/
def State.classOrders (s : State) (site : ArbSite) (reqs : List ArbReq) (cls : Nat) : List Nat :=
  (reqs.filter (fun r => s.arbClass site r == cls)).map (arbOrder site)

theorem State.mem_classOrders {s : State} {site : ArbSite} {reqs : List ArbReq} {cls o : Nat} :
    o ∈ s.classOrders site reqs cls ↔ ∃ r ∈ reqs, s.arbClass site r = cls ∧ arbOrder site r = o := by
  simp [State.classOrders, and_assoc]

theorem State.arbWinner_eq {s : State} {site : ArbSite} {reqs : List ArbReq} (h : reqs ≠ []) : s.arbWinner site reqs =
    (nextInTurn (tfind (s.arb site).last (s.topClass site reqs)) (s.classOrders site reqs (s.topClass site reqs))).map
      (fun o => (s.topClass site reqs, o)) := by
  have hleast (os : List Nat) := foldl_eq_min? (f := fun m o => some (match m with | some x => min x o | none => o))
    (fun _ => rfl) (fun _ _ => rfl) os
  cases reqs with
  | nil => exact absurd rfl h
  | cons r rs =>
    unfold State.arbWinner nextInTurn
    dsimp only
    rw [← State.topClass, ← State.classOrders]
    cases tfind (s.arb site).last (s.topClass site (r :: rs)) with
    | none => exact congrArg (Option.map _) (hleast _)
    | some l => exact congrArg (Option.map _) (congrArg₂ Option.or (hleast _) (hleast _))

section Winner
variable {s : State} {site : ArbSite} {reqs : List ArbReq} {cls o : Nat} (h : s.arbWinner site reqs = some (cls, o))
include h

theorem State.arbWinner_next : cls = s.topClass site reqs ∧
    nextInTurn (tfind (s.arb site).last cls) (s.classOrders site reqs cls) = some o := by
  have hne : reqs ≠ [] := by
    rintro rfl
    cases h
  rw [State.arbWinner_eq hne] at h
  obtain ⟨x, hnext, hpair⟩ := Option.map_eq_some_iff.1 h
  obtain ⟨rfl, rfl⟩ := Prod.mk.inj hpair
  exact ⟨rfl, hnext⟩

theorem State.arbWinner_raised : ∃ r ∈ reqs, s.arbClass site r = cls ∧ arbOrder site r = o :=
  State.mem_classOrders.1 (nextInTurn_mem (State.arbWinner_next h).2)

theorem State.arbWinner_highest : ∀ r ∈ reqs, s.arbClass site r ≤ cls := fun _ hr =>
  (s.arbClass_le_topClass site hr).trans_eq (State.arbWinner_next h).1.symm

theorem State.arbWinner_inTurn : ∀ r ∈ reqs, s.arbClass site r = cls → match tfind (s.arb site).last cls with
    | none => o ≤ arbOrder site r
    | some l => (l < o ∧ (l < arbOrder site r → o ≤ arbOrder site r)) ∨
        (o ≤ l ∧ arbOrder site r ≤ l ∧ o ≤ arbOrder site r) := by
  intro r hr hcls
  have hmem : arbOrder site r ∈ s.classOrders site reqs cls := State.mem_classOrders.2 ⟨r, hr, hcls, rfl⟩
  have hnext := (State.arbWinner_next h).2
  cases hlast : tfind (s.arb site).last cls with
  | none => exact (nextInTurn_none (hlast ▸ hnext)).2 _ hmem
  | some l => exact (nextInTurn_some (hlast ▸ hnext)).2 _ hmem

end Winner

/-! ## The round (R385-R387) -/

/-- The requests that are not granted. -/
def losersOf (site : ArbSite) (reqs : List ArbReq) (o : Nat) : List ArbReq := reqs.filter (fun r => arbOrder site r != o)

/-- The wait counters after a round that `losers` have not won. -/
def waitsAfter (site : ArbSite) (old : List (Nat × Nat)) (losers : List ArbReq) (m : List (Nat × Nat)) : List (Nat × Nat) :=
  losers.foldl (fun m r => tset m (arbOrder site r) (tget old 0 (arbOrder site r) + 1)) m

theorem tget_waitsAfter (site : ArbSite) (old : List (Nat × Nat)) (losers : List ArbReq) (m : List (Nat × Nat)) (n : Nat) :
    tget (waitsAfter site old losers m) 0 n =
      if ∃ r ∈ losers, arbOrder site r = n then tget old 0 n + 1 else tget m 0 n := by
  induction losers generalizing m with
  | nil => simp [waitsAfter]
  | cons r rs ih =>
    have hstep : waitsAfter site old (r :: rs) m =
        waitsAfter site old rs (tset m (arbOrder site r) (tget old 0 (arbOrder site r) + 1)) := rfl
    rw [hstep, ih]
    by_cases hrest : ∃ r ∈ rs, arbOrder site r = n
    · rw [if_pos hrest, if_pos (hrest.imp fun x hx => ⟨List.mem_cons_of_mem _ hx.1, hx.2⟩)]
    · rw [if_neg hrest]
      by_cases hr : arbOrder site r = n
      · rw [if_pos ⟨r, List.mem_cons_self, hr⟩, hr, tget_tset_self]
      · rw [if_neg, tget_tset_ne _ _ _ (Ne.symm hr)]
        rintro ⟨x, hx, hxn⟩
        rcases List.mem_cons.1 hx with rfl | hx
        · exact hr hxn
        · exact hrest ⟨x, hx, hxn⟩

/-- The requesters of an episode of STARVATION that still wait. -/
def stillRaised (site : ArbSite) (raised : List Nat) (losers : List ArbReq) : List Nat :=
  raised.filter (fun x => losers.any (fun r => arbOrder site r == x))

/-- The requests whose waits have reached threshold `th` in this round. -/
def newlyStarved (site : ArbSite) (th : Nat) (waits : List (Nat × Nat)) (raised : List Nat) (losers : List ArbReq) : List ArbReq :=
  losers.filter (fun r => th != 0 && th ≤ tget waits 0 (arbOrder site r) && !raised.contains (arbOrder site r))

/-- The arbiter after a round in which it granted `o` of class `cls`, with `starved` newly starved. -/
def Arb.granted (a : Arb) (site : ArbSite) (cls o : Nat) (losers starved : List ArbReq) : Arb :=
  { a with last := tset a.last cls o, waits := waitsAfter site a.waits losers [],
           raised := stillRaised site a.raised losers ++ starved.map (arbOrder site) }

/-- The requests that this round finds starved. -/
def State.starvedIn (s : State) (site : ArbSite) (losers : List ArbReq) : List ArbReq :=
  newlyStarved site (s.arbThreshold site) (waitsAfter site (s.arb site).waits losers [])
    (stillRaised site (s.arb site).raised losers) losers

theorem exec_arbitrationRound {s : State} {site : ArbSite} {reqs : List ArbReq} {cls o : Nat}
    (h : s.arbWinner site reqs = some (cls, o)) (ms : Nat) : exec (.arbitrationRound site reqs ms) s =
      .next ((s.starvedIn site (losersOf site reqs o)).foldl (fun s r => s.starve site r ms)
        (s.setArb site ((s.arb site).granted site cls o (losersOf site reqs o) (s.starvedIn site (losersOf site reqs o))))) := by
  show execArbitrationRound site reqs ms s = _
  rw [execArbitrationRound, State.arbRound, h]
  rfl

theorem State.arb_setArb_self (s : State) (site : ArbSite) (a : Arb) : (s.setArb site a).arb site = a := tget_tset_self ..

/-- With threshold 0 no requester starves (R387). -/
theorem State.starvedIn_disabled {s : State} {site : ArbSite} (h : s.arbThreshold site = 0) (losers : List ArbReq) :
    s.starvedIn site losers = [] := by
  simp [State.starvedIn, newlyStarved, h]

/-- R385, R387: the round grants `o`, and counts a wait for every other requester. -/
theorem arbitrationRound_grants {s : State} {site : ArbSite} {reqs : List ArbReq} {cls o : Nat}
    (h : s.arbWinner site reqs = some (cls, o)) (hth : s.arbThreshold site = 0) (ms : Nat) :
    Answers (.arbitrationRound site reqs ms) s (fun u => u = { s with arbs := u.arbs } ∧
      tfind (u.arb site).last cls = some o ∧ (u.arb site).recorded = (s.arb site).recorded ∧
      ∀ n, tget (u.arb site).waits 0 n =
        (if n ≠ o ∧ ∃ r ∈ reqs, arbOrder site r = n then tget (s.arb site).waits 0 n + 1 else 0)) := by
  have hexec := exec_arbitrationRound h ms
  rw [State.starvedIn_disabled hth, List.foldl_nil] at hexec
  refine ⟨_, hexec, rfl, ?_, ?_, fun n => ?_⟩ <;> rw [State.arb_setArb_self]
  · exact tfind_tset_self ..
  · rfl
  · refine (tget_waitsAfter ..).trans (if_congr ?_ rfl rfl)
    constructor
    · rintro ⟨r, hr, rfl⟩
      obtain ⟨hr, hne⟩ := List.mem_filter.1 hr
      exact ⟨by simpa using hne, r, hr, rfl⟩
    · rintro ⟨hne, r, hr, rfl⟩
      exact ⟨r, List.mem_filter.2 ⟨hr, by simpa using hne⟩, rfl⟩

/-! ## STARVATION at a port (R387) -/

/-- No byte of a Pocket, no arbiter and no register word but the count of dropped records differs. -/
structure State.sameRound (s u : State) : Prop where
  pocket : u.pocket = s.pocket
  arbs : u.arbs = s.arbs
  rd : ∀ a, a ≠ Reg.flogDropped → u.rd a = s.rd a

theorem State.sameRound.refl (s : State) : s.sameRound s := ⟨rfl, rfl, fun _ _ => rfl⟩

section Recorded
variable {s u : State} (h : s.sameRound u)
include h

theorem State.sameRound.pushRec (r : FaultRec) : s.sameRound (u.pushRec r) := by
  unfold State.pushRec
  split
  · exact ⟨h.pocket, h.arbs, h.rd⟩
  · exact ⟨h.pocket, h.arbs, fun a ha => (State.rd_count_ne _ _ ha).trans (h.rd a ha)⟩

theorem State.sameRound.stopJob (q code cls sub unit seq : Nat) : s.sameRound (u.stopJob q code cls sub unit seq) := by
  unfold State.stopJob
  split <;> exact ⟨h.pocket, h.arbs, h.rd⟩

theorem State.sameRound.warnJob (q code pb unit sub : Nat) (tile slot : Option Nat) (addr ctx0 ctx1 : Nat) :
    s.sameRound (u.warnJob q code pb unit sub tile slot addr ctx0 ctx1) := by
  unfold State.warnJob
  dsimp only
  split
  · exact (h.pushRec _).stopJob ..
  · exact h.pushRec _

theorem State.sameRound.markStep (t key : Nat) : s.sameRound (u.markStep t key) := by
  unfold State.markStep
  split
  · exact ⟨h.pocket, h.arbs, h.rd⟩
  · exact h

end Recorded

/-- A port's STARVATION is counted, and latched where none is. -/
def State.starvationLatched (s : State) (t p : Nat) (r : ArbReq) : State :=
  let s := s.count (Reg.arbStarveCount t) 1
  if s.bit (Reg.arbStarveInfo t) 31 then s
  else s.wr (Reg.arbStarveInfo t)
    (BitVec.ofNat 32 (0x80000000 + p * 0x20000000 + r.module * 0x40000 + r.req * 0x100 + r.tile))

/-- It is a cause of the task that the tile routes it to. -/
def State.starvationShown (s : State) (t p : Nat) (r : ArbReq) : State :=
  (s.starvationLatched t p r).setBit (Reg.cuffIntPend t ((s.starvationLatched t p r).fld (Reg.cuffIntRoute t) 0 2)) 0 true

theorem State.starve_port (s : State) (t : TileId) (p : Fin 3) (r : ArbReq) (ms : Nat) :
    (s.starvationShown t p r).sameRound (s.starve (.port t p) r ms) := by
  have hshown := State.sameRound.refl (s.starvationShown t p r)
  unfold State.starve
  dsimp only
  rw [← State.starvationLatched, ← State.starvationShown]
  refine State.sameRound.markStep ?_ _ _
  split
  · split
    · exact hshown.warnJob ..
    · exact hshown
  · split
    · exact hshown.pushRec _
    · exact hshown

section Shown
variable (s : State) (t p : Nat) (r : ArbReq)

theorem State.starvationLatched_counted :
    (s.count (Reg.arbStarveCount t) 1).onlyRegs (s.starvationLatched t p r) [Reg.arbStarveInfo t] := by
  unfold State.starvationLatched
  dsimp only
  split
  · exact State.onlyRegs.refl _ _
  · exact (State.onlyRegs.refl _ _).wr List.mem_cons_self _

theorem State.starvationShown_onlyRegs : s.onlyRegs (s.starvationShown t p r) [Reg.arbStarveCount t, Reg.arbStarveInfo t,
    Reg.cuffIntPend t ((s.starvationLatched t p r).fld (Reg.cuffIntRoute t) 0 2)] :=
  (((State.onlyRegs.refl s _).count (by simp) 1).trans ((s.starvationLatched_counted t p r).mono (by simp))).setBit (by simp) _ _

theorem State.rd_starvationShown : ((s.starvationShown t p r).rd (Reg.arbStarveCount t)).toNat =
    Min.min 0xFFFFFFFF ((s.rd (Reg.arbStarveCount t)).toNat + 1) := by
  have hinfo : Reg.arbStarveCount t ≠ Reg.arbStarveInfo t := by
    rw [Reg.arbStarveCount, Reg.arbStarveInfo]
    omega
  have hpend {k : Nat} (hk : k < 4) : Reg.arbStarveCount t ≠ Reg.cuffIntPend t k := by
    rw [Reg.arbStarveCount, Reg.cuffIntPend]
    omega
  rw [State.starvationShown, State.rd_setBit_ne _ _ _ (hpend (fieldOf_lt ..)),
    (s.starvationLatched_counted t p r).2 _ (by simpa using hinfo), State.rd_count_one]

theorem State.bit_starvationShown :
    (s.starvationShown t p r).bit (Reg.cuffIntPend t (s.fld (Reg.cuffIntRoute t) 0 2)) 0 = true := by
  have hroute : Reg.cuffIntRoute t ≠ Reg.arbStarveInfo t ∧ Reg.cuffIntRoute t ≠ Reg.arbStarveCount t := by
    rw [Reg.cuffIntRoute, Reg.arbStarveInfo, Reg.arbStarveCount]
    omega
  have hrd : (s.starvationLatched t p r).rd (Reg.cuffIntRoute t) = s.rd (Reg.cuffIntRoute t) :=
    ((s.starvationLatched_counted t p r).2 _ (by simpa using hroute.1)).trans (State.rd_count_ne _ _ hroute.2)
  rw [State.starvationShown, State.fld_congr hrd]
  exact State.bit_setBit _ _ _ _ (by decide)

end Shown

/-- STARVATION at a port, as its registers show it. -/
theorem State.starve_shows (s : State) (t : TileId) (p : Fin 3) (r : ArbReq) (ms : Nat) :
    (s.starve (.port t p) r ms).pocket = s.pocket ∧ (s.starve (.port t p) r ms).arbs = s.arbs ∧
    ((s.starve (.port t p) r ms).rd (Reg.arbStarveCount t)).toNat =
      Min.min 0xFFFFFFFF ((s.rd (Reg.arbStarveCount t)).toNat + 1) ∧
    (s.starve (.port t p) r ms).bit (Reg.cuffIntPend t (s.fld (Reg.cuffIntRoute t) 0 2)) 0 = true := by
  have hrecorded := s.starve_port t p r ms
  have hshown := s.starvationShown_onlyRegs t p r
  have hcount : Reg.arbStarveCount t ≠ Reg.flogDropped := by
    rw [Reg.arbStarveCount, Reg.flogDropped]
    omega
  have hpend (k : Nat) : Reg.cuffIntPend t k ≠ Reg.flogDropped := by
    rw [Reg.cuffIntPend, Reg.flogDropped]
    omega
  refine ⟨hrecorded.pocket.trans hshown.samePocket, hrecorded.arbs.trans (by rw [hshown.1]), ?_, ?_⟩
  · rw [hrecorded.rd _ hcount, State.rd_starvationShown]
  · rw [State.bit_congr (hrecorded.rd _ (hpend _)), State.bit_starvationShown]

/-- A single loser whose wait reaches the threshold, and that has not starved before, starves (R387). -/
theorem State.starvedIn_single {s : State} {site : ArbSite} {r : ArbReq} (hth : 0 < s.arbThreshold site)
    (hwait : s.arbThreshold site ≤ tget (s.arb site).waits 0 (arbOrder site r) + 1) (hraised : (s.arb site).raised = []) :
    s.starvedIn site [r] = [r] := by
  have hwaits : tget (waitsAfter site (s.arb site).waits [r] []) 0 (arbOrder site r) =
      tget (s.arb site).waits 0 (arbOrder site r) + 1 :=
    (tget_waitsAfter ..).trans (if_pos ⟨r, List.mem_cons_self, rfl⟩)
  have hnone : stillRaised site (s.arb site).raised [r] = [] := by rw [hraised]; rfl
  rw [State.starvedIn, newlyStarved, hnone, List.filter_cons_of_pos, List.filter_nil]
  simp [hwaits, hwait, Nat.ne_of_gt hth]

/-- R387: the only loser of a round at a port reaches the threshold. -/
theorem arbitrationRound_starves {s : State} {t : TileId} {p : Fin 3} {reqs : List ArbReq} {cls o : Nat} {r : ArbReq}
    (h : s.arbWinner (.port t p) reqs = some (cls, o)) (hloser : losersOf (.port t p) reqs o = [r])
    (hth : 0 < s.arbThreshold (.port t p))
    (hwait : s.arbThreshold (.port t p) ≤ tget (s.arb (.port t p)).waits 0 (arbOrder (.port t p) r) + 1)
    (hraised : (s.arb (.port t p)).raised = []) (ms : Nat) : Answers (.arbitrationRound (.port t p) reqs ms) s (fun u =>
      u.pocket = s.pocket ∧
      (u.rd (Reg.arbStarveCount t)).toNat = Min.min 0xFFFFFFFF ((s.rd (Reg.arbStarveCount t)).toNat + 1) ∧
      u.bit (Reg.cuffIntPend t (s.fld (Reg.cuffIntRoute t) 0 2)) 0 = true ∧
      (u.arb (.port t p)).raised = [arbOrder (.port t p) r]) := by
  have hexec := exec_arbitrationRound h ms
  rw [hloser, State.starvedIn_single hth hwait hraised, List.foldl_cons, List.foldl_nil] at hexec
  obtain ⟨hpocket, harbs, hcount, hbit⟩ := (s.setArb (.port t p)
    ((s.arb (.port t p)).granted (.port t p) cls o [r] [r])).starve_shows t p r ms
  refine ⟨_, hexec, hpocket, hcount, hbit, ?_⟩
  rw [State.arb, harbs, ← State.arb, State.arb_setArb_self, Arb.granted, hraised]
  rfl

/-! ## The statement -/

/-- Settles O44, from what the fold over the requests finds. -/
theorem arbitersGrantInTurn : Obligations.ArbitersGrantInTurn := by
  unfold Obligations.ArbitersGrantInTurn
  intro s site reqs ms cls o h
  refine ⟨State.arbWinner_raised h, State.arbWinner_highest h, State.arbWinner_inTurn h,
    fun hth => arbitrationRound_grants h hth ms, ?_⟩
  rintro t p r rfl hloser hth hwait hraised
  exact arbitrationRound_starves h hloser hth hwait hraised ms

end Sys2Proof.Machine
end

section
/-! SUPPORT. What every command and every step keep (the queue behind it, the canonical memories, the fuses), and that each
command answers. Settles O1, O2, O3, O4 and O6. -/

namespace Sys2Proof.Machine

/-! ## Every command -/

/-- Every command keeps the commands behind it, the canonical memories and the fuses. -/
theorem exec_keeps (c : Instr) (s : State) : KeepsOut s (exec c s) :=
  have h := Keeps.refl s
  match c with
  | .structLoadStart p => execStructLoadStart_keeps p s h
  | .imageChecksPassed img commits => execImageChecksPassed_keeps img commits s h
  | .imageRejected img => execImageRejected_keeps img s h
  | .imageApply => execImageApply_keeps s h
  | .imageApplied => execImageApplied_keeps s h
  | .registerWrite u a v => execRegisterWrite_keeps u a v s h
  | .stagedFieldWrite u a v => execStagedFieldWrite_keeps u a v s h
  | .structStageDataRead => execStructStageDataRead_keeps s h
  | .structCommitGo q v => execStructCommitGo_keeps q v s h
  | .structCommitAbort q v => execStructCommitAbort_keeps q v s h
  | .groupCommitApply q => execGroupCommitApply_keeps q s h
  | .pocketWideAccess t a0 a1 => execPocketWideAccess_keeps t a0 a1 s h
  | .heldAccessGrant t => execHeldAccessGrant_keeps t s h
  | .pocketReadData t errs => execPocketReadData_keeps t errs s h
  | .narrowAccess t => execNarrowAccess_keeps t s h
  | .narrowForce t => execNarrowForce_keeps t s h
  | .ceWriteBack t => execCeWriteBack_keeps t s h
  | .scrubStep t err => execScrubStep_keeps t err s h
  | .wipeDone t => execWipeDone_keeps t s h
  | .bankGroupWakeDone t g => execBankGroupWakeDone_keeps t g s h
  | .pocketAccRead t => execPocketAccRead_keeps t s h
  | .pocketAccWrite t v => execPocketAccWrite_keeps t v s h
  | .pocketCtrClearConflict t => execPocketCtrClearConflict_keeps t s h
  | .pocketCtrClearCe t => execPocketCtrClearCe_keeps t s h
  | .pocketCtrClearUe t => execPocketCtrClearUe_keeps t s h
  | .pocketCtrClearNarrow t => execPocketCtrClearNarrow_keeps t s h
  | .seamStageStart t => execSeamStageStart_keeps t s h
  | .seamKblockScan t => execSeamKblockScan_keeps t s h
  | .nmdecDecode t => execNmdecDecode_keeps t s h
  | .seamMergeCycle t => execSeamMergeCycle_keeps t s h
  | .seamRecordWrite t => execSeamRecordWrite_keeps t s h
  | .seamCtrClear t => execSeamCtrClear_keeps t s h
  | .sleeveStageStart t => execSleeveStageStart_keeps t s h
  | .sleeveCycle t => execSleeveCycle_keeps t s h
  | .sleeveTileEnd t => execSleeveTileEnd_keeps t s h
  | .sleeveDrainRow t => execSleeveDrainRow_keeps t s h
  | .sampledTileRerun t => execSampledTileRerun_keeps t s h
  | .sleeveCtrClearAll t => execSleeveCtrClearAll_keeps t s h
  | .sleeveCtrClearSat t => execSleeveCtrClearSat_keeps t s h
  | .samplerCtrClear p mask => execSamplerCtrClear_keeps p mask s h
  | .suitIssueChecks t j => execSuitIssueChecks_keeps t j s h
  | .suitRunning t j => execSuitRunning_keeps t j s h
  | .fetchSlotBind t b => execFetchSlotBind_keeps t b s h
  | .fetchBlock t => execFetchBlock_keeps t s h
  | .reduceRowRead t => execReduceRowRead_keeps t s h
  | .reduceRowWriteback t => execReduceRowWriteback_keeps t s h
  | .convertRow t => execConvertRow_keeps t s h
  | .storeRow t => execStoreRow_keeps t s h
  | .storePost t => execStorePost_keeps t s h
  | .suitDone t j => execSuitDone_keeps t j s h
  | .suitCtrlCancel t j => execSuitCtrlCancel_keeps t j s h
  | .suitCtrClear t => execSuitCtrClear_keeps t s h
  | .placketQCtrlRelease t q n u => execPlacketQCtrlRelease_keeps t q n u s h
  | .placketQCtrlCommit t q n u => execPlacketQCtrlCommit_keeps t q n u s h
  | .placketQCtrlCancel t q => execPlacketQCtrlCancel_keeps t q s h
  | .descriptorStart t q => execDescriptorStart_keeps t q s h
  | .transferIssue t q => execTransferIssue_keeps t q s h
  | .transferReadData t q host => execTransferReadData_keeps t q host s h
  | .writeLanded t q host => execWriteLanded_keeps t q host s h
  | .mergeBufferFlush t q => execMergeBufferFlush_keeps t q s h
  | .queueCancelAck t q => execQueueCancelAck_keeps t q s h
  | .queueCancelDone t q => execQueueCancelDone_keeps t q s h
  | .placketCtrClear t => execPlacketCtrClear_keeps t s h
  | .agpAdd t x => execAgpAdd_keeps t x s h
  | .agpSub t x => execAgpSub_keeps t x s h
  | .agpAddi t x => execAgpAddi_keeps t x s h
  | .agpMuli t x => execAgpMuli_keeps t x s h
  | .agpShli t x => execAgpShli_keeps t x s h
  | .agpShri t x => execAgpShri_keeps t x s h
  | .agpAndi t x => execAgpAndi_keeps t x s h
  | .agpLui t x => execAgpLui_keeps t x s h
  | .agpPopc t x => execAgpPopc_keeps t x s h
  | .agpLd16 t x => execAgpLd16_keeps t x s h
  | .agpLdp t x => execAgpLdp_keeps t x s h
  | .agpEmit t x => execAgpEmit_keeps t x s h
  | .agpBeq t x => execAgpBeq_keeps t x s h
  | .agpBne t x => execAgpBne_keeps t x s h
  | .agpBlt t x => execAgpBlt_keeps t x s h
  | .agpBge t x => execAgpBge_keeps t x s h
  | .agpJmp t x => execAgpJmp_keeps t x s h
  | .agpEnd t x => execAgpEnd_keeps t x s h
  | .agpReservedOpcode t x => execAgpReservedOpcode_keeps t x s h
  | .yokeCutDone q a => execYokeCutDone_keeps q a s h
  | .yokeTakeServed q a => execYokeTakeServed_keeps q a s h
  | .chainReservationExpire q a p => execChainReservationExpire_keeps q a p s h
  | .shawlSend t => execShawlSend_keeps t s h
  | .shawlSegmentArrive t => execShawlSegmentArrive_keeps t s h
  | .yokeCtrClear p => execYokeCtrClear_keeps p s h
  | .add t k => execAdd_keeps t k s h
  | .sub t k => execSub_keeps t k s h
  | .and t k => execAnd_keeps t k s h
  | .or t k => execOr_keeps t k s h
  | .xor t k => execXor_keeps t k s h
  | .shl t k => execShl_keeps t k s h
  | .shr t k => execShr_keeps t k s h
  | .sra t k => execSra_keeps t k s h
  | .slt t k => execSlt_keeps t k s h
  | .sltu t k => execSltu_keeps t k s h
  | .mul t k => execMul_keeps t k s h
  | .mulh t k => execMulh_keeps t k s h
  | .mulhu t k => execMulhu_keeps t k s h
  | .min t k => execMin_keeps t k s h
  | .max t k => execMax_keeps t k s h
  | .minu t k => execMinu_keeps t k s h
  | .maxu t k => execMaxu_keeps t k s h
  | .popc t k => execPopc_keeps t k s h
  | .clz t k => execClz_keeps t k s h
  | .ctz t k => execCtz_keeps t k s h
  | .addi t k => execAddi_keeps t k s h
  | .andi t k => execAndi_keeps t k s h
  | .ori t k => execOri_keeps t k s h
  | .xori t k => execXori_keeps t k s h
  | .slti t k => execSlti_keeps t k s h
  | .sltiu t k => execSltiu_keeps t k s h
  | .shli t k => execShli_keeps t k s h
  | .shri t k => execShri_keeps t k s h
  | .srai t k => execSrai_keeps t k s h
  | .lui t k => execLui_keeps t k s h
  | .lb t k => execLb_keeps t k s h
  | .lbu t k => execLbu_keeps t k s h
  | .lh t k => execLh_keeps t k s h
  | .lhu t k => execLhu_keeps t k s h
  | .lw t k => execLw_keeps t k s h
  | .sb t k => execSb_keeps t k s h
  | .sh t k => execSh_keeps t k s h
  | .sw t k => execSw_keeps t k s h
  | .beq t k => execBeq_keeps t k s h
  | .bne t k => execBne_keeps t k s h
  | .blt t k => execBlt_keeps t k s h
  | .bge t k => execBge_keeps t k s h
  | .bltu t k => execBltu_keeps t k s h
  | .bgeu t k => execBgeu_keeps t k s h
  | .jmp t k => execJmp_keeps t k s h
  | .jal t k => execJal_keeps t k s h
  | .jr t k => execJr_keeps t k s h
  | .csrr t k => execCsrr_keeps t k s h
  | .csrw t k => execCsrw_keeps t k s h
  | .suit t k => execSuit_keeps t k s h
  | .sucan t k => execSucan_keeps t k s h
  | .suwait t k => execSuwait_keeps t k s h
  | .sustat t k => execSustat_keeps t k s h
  | .qissue t k => execQissue_keeps t k s h
  | .qrel t k => execQrel_keeps t k s h
  | .qcommit t k => execQcommit_keeps t k s h
  | .qcancel t k => execQcancel_keeps t k s h
  | .qcred t k => execQcred_keeps t k s h
  | .qwait t k => execQwait_keeps t k s h
  | .ystart t k => execYstart_keeps t k s h
  | .ytake t k => execYtake_keeps t k s h
  | .ydone t k => execYdone_keeps t k s h
  | .yret t k => execYret_keeps t k s h
  | .shbeg t k => execShbeg_keeps t k s h
  | .shrel t k => execShrel_keeps t k s h
  | .shqry t k => execShqry_keeps t k s h
  | .shwait t k => execShwait_keeps t k s h
  | .lkacq u => execLkacq_keeps u s h
  | .lkrel u => execLkrel_keeps u s h
  | .bar t k => execBar_keeps t k s h
  | .bars t k => execBars_keeps t k s h
  | .tend t k => execTend_keeps t k s h
  | .wfi t k => execWfi_keeps t k s h
  | .iret t k => execIret_keeps t k s h
  | .nop t k => execNop_keeps t k s h
  | .reservedInstruction t k => execReservedInstruction_keeps t k s h
  | .taskEnded t k => execTaskEnded_keeps t k s h
  | .interruptTake t k => execInterruptTake_keeps t k s h
  | .taskTimerExpire t k => execTaskTimerExpire_keeps t k s h
  | .cuffDoorbell t ring => execCuffDoorbell_keeps t ring s h
  | .cuffTaskStart t k => execCuffTaskStart_keeps t k s h
  | .cuffTaskCancel t k => execCuffTaskCancel_keeps t k s h
  | .scoreboardFull t k => execScoreboardFull_keeps t k s h
  | .cuffCtrClear t => execCuffCtrClear_keeps t s h
  | .layerBarrierRelease q => execLayerBarrierRelease_keeps q s h
  | .winCtrlOpen t w u => execWinCtrlOpen_keeps t w u s h
  | .winCtrlClose t w => execWinCtrlClose_keeps t w s h
  | .openingAccess t e => execOpeningAccess_keeps t e s h
  | .taggedAccess t e => execTaggedAccess_keeps t e s h
  | .refusalAnswer t q => execRefusalAnswer_keeps t q s h
  | .remoteAcknowledge t q => execRemoteAcknowledge_keeps t q s h
  | .remoteAccumulate t => execRemoteAccumulate_keeps t s h
  | .creditGrantRequest t src off len => execCreditGrantRequest_keeps t src off len s h
  | .creditGrant t => execCreditGrant_keeps t s h
  | .creditedWrite t src off data => execCreditedWrite_keeps t src off data s h
  | .creditEndMark t src => execCreditEndMark_keeps t src s h
  | .creditEntryFree t e => execCreditEntryFree_keeps t e s h
  | .lockGrant l => execLockGrant_keeps l s h
  | .lockLeaseExpire l => execLockLeaseExpire_keeps l s h
  | .lockCtrlOrphan p j => execLockCtrlOrphan_keeps p j s h
  | .arbitrationRound site reqs ms => execArbitrationRound_keeps site reqs ms s h
  | .winCtrClearAll t => execWinCtrClearAll_keeps t s h
  | .winCtrClearStarve t => execWinCtrClearStarve_keeps t s h
  | .lockCtrClear p => execLockCtrClear_keeps p s h
  | .meshCtrClear => execMeshCtrClear_keeps s h
  | .fabPortEnable p b => execFabPortEnable_keeps p b s h
  | .fabPortRetrain p us => execFabPortRetrain_keeps p us s h
  | .linkTrainingStart p => execLinkTrainingStart_keeps p s h
  | .linkTrainingDone p => execLinkTrainingDone_keeps p s h
  | .laneLockTimeout p lanes => execLaneLockTimeout_keeps p lanes s h
  | .laneLockLoss p lane us => execLaneLockLoss_keeps p lane us s h
  | .retrainDone p => execRetrainDone_keeps p s h
  | .retrainTimeout p => execRetrainTimeout_keeps p s h
  | .peerOrderlyClose p => execPeerOrderlyClose_keeps p s h
  | .flitData p f => execFlitData_keeps p f s h
  | .flitIdle p f => execFlitIdle_keeps p f s h
  | .flitNak p f us => execFlitNak_keeps p f us s h
  | .flitTrain p id coll mir => execFlitTrain_keeps p id coll mir s h
  | .read place => execRead_keeps place s h
  | .write place => execWrite_keeps place s h
  | .accumulate place => execAccumulate_keeps place s h
  | .page place => execPage_keeps place s h
  | .readData place => execReadData_keeps place s h
  | .ack place => execAck_keeps place s h
  | .refuse place => execRefuse_keeps place s h
  | .barrierArrive place => execBarrierArrive_keeps place s h
  | .barrierRelease place => execBarrierRelease_keeps place s h
  | .epochSent place => execEpochSent_keeps place s h
  | .epochLanded place => execEpochLanded_keeps place s h
  | .lost place => execLost_keeps place s h
  | .restoreBegin place q step => execRestoreBegin_keeps place q step s h
  | .restoreDone place => execRestoreDone_keeps place s h
  | .jobStop place => execJobStop_keeps place s h
  | .requestTimeout txn => execRequestTimeout_keeps txn s h
  | .fabModuleIdWrite v => execFabModuleIdWrite_keeps v s h
  | .fabPortCtrClear p => execFabPortCtrClear_keeps p s h
  | .fabCtrClear => execFabCtrClear_keeps s h
  | .epochBoundary q => execEpochBoundary_keeps q s h
  | .beforeImageCopy page => execBeforeImageCopy_keeps page s h
  | .mirrorPortsDownTimeout => execMirrorPortsDownTimeout_keeps s h
  | .coordinatorAnswerTimeout q m => execCoordinatorAnswerTimeout_keeps q m s h
  | .epochDecision q d => execEpochDecision_keeps q d s h
  | .rollbackDone q => execRollbackDone_keeps q s h
  | .spareRetry q f => execSpareRetry_keeps q f s h
  | .mirrorReconnectTimeout q => execMirrorReconnectTimeout_keeps q s h
  | .restartBarrierRelease q => execRestartBarrierRelease_keeps q s h
  | .mirrorCtrlPlanned q => execMirrorCtrlPlanned_keeps q s h
  | .firmwareActivate armed => execFirmwareActivate_keeps armed s h
  | .mirrorCtrClear q => execMirrorCtrClear_keeps q s h
  | .hostCmdTailWrite v => execHostCmdTailWrite_keeps v s h
  | .load e => execLoad_keeps e s h
  | .run e => execRun_keeps e s h
  | .drain e => execDrain_keeps e s h
  | .kill e => execKill_keeps e s h
  | .copyIn e => execCopyIn_keeps e s h
  | .copyOut e => execCopyOut_keeps e s h
  | .commandNop op e => execCommandNop_keeps op e s h
  | .hbmCopyDone n ans => execHbmCopyDone_keeps n ans s h
  | .statusPageRewrite p => execStatusPageRewrite_keeps p s h
  | .hostStatusEnable b => execHostStatusEnable_keeps b s h
  | .hostRingEnable r b => execHostRingEnable_keeps r b s h
  | .hostSeqTailWrite q v => execHostSeqTailWrite_keeps q v s h
  | .submit q e prompt => execSubmit_keeps q e prompt s h
  | .cancel q e => execCancel_keeps q e s h
  | .stepBoundaryService q us => execStepBoundaryService_keeps q us s h
  | .partialHostCopy q => execPartialHostCopy_keeps q s h
  | .hostOutHeadWrite q v => execHostOutHeadWrite_keeps q v s h
  | .bar2Read off len => execBar2Read_keeps off len s h
  | .bar2Write off data => execBar2Write_keeps off data s h
  | .functionLevelReset => execFunctionLevelReset_keeps s h
  | .perstAssert => execPerstAssert_keeps s h
  | .tileClockStop t => execTileClockStop_keeps t s h
  | .operatingPointSelect p j => execOperatingPointSelect_keeps p j s h
  | .supplyRampDone p => execSupplyRampDone_keeps p s h
  | .clockPauseEnd p => execClockPauseEnd_keeps p s h
  | .deepIdleEnter => execDeepIdleEnter_keeps s h
  | .deepIdleLeave => execDeepIdleLeave_keeps s h
  | .powerDomainWakeDone d => execPowerDomainWakeDone_keeps d s h
  | .computeIdleOff p => execComputeIdleOff_keeps p s h
  | .calCtrlSet => execCalCtrlSet_keeps s h
  | .calSetLoad => execCalSetLoad_keeps s h
  | .clkCtrClear => execClkCtrClear_keeps s h
  | .pwrCtrClear => execPwrCtrClear_keeps s h
  | .railRise => execRailRise_keeps s h
  | .conversionStop high => execConversionStop_keeps high s h
  | .bootStepComplete => execBootStepComplete_keeps s h
  | .bootRecoveryGo => execBootRecoveryGo_keeps s h
  | .recoveryImageVerified img => execRecoveryImageVerified_keeps img s h
  | .fwUpdateGo => execFwUpdateGo_keeps s h
  | .fwUpdateVerified img => execFwUpdateVerified_keeps img s h
  | .secKeyGo rec => execSecKeyGo_keeps rec s h
  | .svnCommit v => execSvnCommit_keeps v s h
  | .tileReset key t => execTileReset_keeps key t s h
  | .partitionReset key q => execPartitionReset_keeps key q s h
  | .warmModuleReset key => execWarmModuleReset_keeps key s h
  | .coldReset key => execColdReset_keeps key s h
  | .partitionResetDone q => execPartitionResetDone_keeps q s h
  | .warmRstPin low us => execWarmRstPin_keeps low us s h
  | .coldRstPin low us => execColdRstPin_keeps low us s h
  | .collarHangTimeout => execCollarHangTimeout_keeps s h
  | .faultJobStop => execFaultJobStop_keeps s h
  | .envMonitorTrip high below => execEnvMonitorTrip_keeps high below s h
  | .faultRecordWrite => execFaultRecordWrite_keeps s h
  | .flogCtrlClear v => execFlogCtrlClear_keeps v s h
  | .hbmScrubStep w err => execHbmScrubStep_keeps w err s h
  | .hbmCtrClear c => execHbmCtrClear_keeps c s h
  | .clearFaults => execClearFaults_keeps s h
  | .capability => execCapability_keeps s h
  | .statusWord => execStatusWord_keeps s h
  | .statusInput => execStatusInput_keeps s h
  | .statusTemperature => execStatusTemperature_keeps s h
  | .statusCml => execStatusCml_keeps s h
  | .readVin => execReadVin_keeps s h
  | .readIin => execReadIin_keeps s h
  | .readTemperature1 => execReadTemperature1_keeps s h
  | .readTemperature2 => execReadTemperature2_keeps s h
  | .readPin => execReadPin_keeps s h
  | .pmbusRevision => execPmbusRevision_keeps s h
  | .mfrId => execMfrId_keeps s h
  | .mfrModel => execMfrModel_keeps s h
  | .mfrSerial => execMfrSerial_keeps s h
  | .pmbusUnsupportedCommand code => execPmbusUnsupportedCommand_keeps code s h
  | .pmbusTelemetryRefresh x => execPmbusTelemetryRefresh_keeps x s h
  | .bypass => execBypass_keeps s h
  | .samplePreload => execSamplePreload_keeps s h
  | .extest => execExtest_keeps s h
  | .idcode => execIdcode_keeps s h
  | .supercapacitorHoldLost => execSupercapacitorHoldLost_keeps s h
  | .envWithinLimits => execEnvWithinLimits_keeps s h
  | .perstRelease => execPerstRelease_keeps s h
  | .pcieLinkDown => execPcieLinkDown_keeps s h
  | .pcieCompletionTimeout r status => execPcieCompletionTimeout_keeps r status s h
  | .pcieConfigurationRequest d3 => execPcieConfigurationRequest_keeps d3 s h

/-- Every command answers a next state. The commands named first take the state apart before they answer, and each of their
branches answers. -/
theorem exec_answers (c : Instr) (s : State) : ∃ u, exec c s = .next u := by
  cases c with
  | pocketReadData | narrowAccess | narrowForce | ceWriteBack | scrubStep | wipeDone | bankGroupWakeDone | pocketAccRead
  | suitIssueChecks | suitRunning | suitDone | descriptorStart | transferIssue | transferReadData | writeLanded
  | queueCancelAck | queueCancelDone | agpEmit | agpReservedOpcode | yokeCutDone | yokeTakeServed | chainReservationExpire
  | lkacq | lkrel | interruptTake | taskTimerExpire | openingAccess | taggedAccess | refusalAnswer | remoteAccumulate
  | lockGrant | lockLeaseExpire =>
    simp only [exec, execPocketReadData, execNarrowAccess, execNarrowForce, execCeWriteBack, execScrubStep, execWipeDone,
      execBankGroupWakeDone, execPocketAccRead, execSuitIssueChecks, execSuitRunning, execSuitDone, execDescriptorStart,
      execTransferIssue, execTransferReadData, execWriteLanded, execQueueCancelAck, execQueueCancelDone, execAgpEmit,
      execAgpReservedOpcode, execYokeCutDone, execYokeTakeServed, execChainReservationExpire, execLkacq, execLkrel,
      execInterruptTake, execTaskTimerExpire, execOpeningAccess, execTaggedAccess, execRefusalAnswer,
      execRemoteAccumulate, execLockGrant, execLockLeaseExpire]
    repeat' split
    all_goals exact ⟨_, rfl⟩
  | _ => exact ⟨_, rfl⟩

/-! ## Every step -/

theorem State.withPending_keeps (s : State) (cs : List Instr) {u : State} (h : Keeps (s.withPending cs) u) :
    u.pending = cs ∧ (s.memOk = true → u.memOk = true) ∧ s.fusesKept u := ⟨h.pending, h.mem, h.fuses⟩

/-- A step leaves the rest of the queue, and keeps the canonical memories and the fuses. -/
theorem step_keeps {s u : State} (h : step s = .next u) :
    u.pending = s.pending.tail ∧ (s.memOk = true → u.memOk = true) ∧ s.fusesKept u := by
  cases hp : s.pending with
  | nil =>
    rw [step_nil s hp] at h
    cases h
    exact ⟨hp, id, (Keeps.refl s).fuses⟩
  | cons c cs =>
    rw [step_cons s c cs hp] at h
    exact s.withPending_keeps cs (exec_keeps c _ u h)

/-! ## The statements -/

/-- Settles O1, by the two equations of a step. -/
theorem stepRunsFrontCommand : Obligations.StepRunsFrontCommand := by
  unfold Obligations.StepRunsFrontCommand
  exact ⟨fun c cs s h => step_cons s c cs h, step_nil⟩

/-- Settles O2, by what every step keeps. -/
theorem stepLeavesQueueRest : Obligations.StepLeavesQueueRest := by
  unfold Obligations.StepLeavesQueueRest
  intro c cs s u hp h
  rw [(step_keeps h).1, hp, List.tail_cons]

/-- Settles O3, command by command. That no row answers a fault or a refusal is a choice of the model (log entry 7). -/
theorem everyCommandAnswers : Obligations.EveryCommandAnswers := by
  unfold Obligations.EveryCommandAnswers
  exact exec_answers

/-- Settles O4: at reset every memory and the queue are empty. -/
theorem resetMeetsInvariant : Obligations.ResetMeetsInvariant := by
  unfold Obligations.ResetMeetsInvariant
  rfl

/-- Settles O6: a step keeps the memories canonical, and the commands that wait after it waited before it. -/
theorem stepKeepsInvariant : Obligations.StepKeepsInvariant := by
  unfold Obligations.StepKeepsInvariant
  intro s u hinv h
  obtain ⟨hpending, hmem, -⟩ := step_keeps h
  simp only [State.inv, State.queueOk, Bool.and_eq_true, List.all_eq_true] at hinv ⊢
  exact ⟨hmem hinv.1, fun c hc => hinv.2 c (List.mem_of_mem_tail (hpending ▸ hc))⟩

end Sys2Proof.Machine
end

section
/-! SUPPORT. A request that comes to a fabric port after 32 links: the router drops it before it is admitted or refused (R414). Refutes
O47. -/

namespace Sys2Proof.Machine

/-- A packet that is dropped is counted (R412). -/
theorem State.rd_dropPacket_noroute (s : State) (p : Packet) :
    ((s.dropPacket p).rd Reg.fabStatNoroute).toNat = min 0xFFFFFFFF ((s.rd Reg.fabStatNoroute).toNat + 1) := by
  unfold State.dropPacket
  dsimp only
  split <;> exact State.rd_count_one s _

/-- A READ for module 0 under tag 0, sent by module 1, at HOPS 32. -/
def farRead : Packet := { farArrival with kind := 0x01 }

/-- Module 0 runs no job, and the request stands at port 0. -/
def farReadComes : State := State.reset.setFab 0 { FabPort.init with inbox := [farRead] }

theorem farReadComes_comes : farReadComes.comes (.port 0) (fun p => p.kind == 1) farRead [] := by
  unfold State.comes
  decide

theorem farReadComes_jobPart : farReadComes.jobPart farRead = none := by decide

/-- READ drops the request and counts it. -/
theorem exec_read_farReadComes : ∃ u, exec (.read (.port 0)) farReadComes = .next u ∧ (u.rd Reg.fabStatNoroute).toNat = 1 := by
  refine ⟨_, congrArg Host.Outcome.next
    (State.onPacket_dropped farReadComes_comes.1 (by decide) (by decide) (by decide) _), ?_⟩
  exact State.rd_dropPacket_noroute _ _

/-- Refutes O47: the request of a module of no job stands at a fabric port with HOPS at 32, so READ drops it as R414 has it and
counts the drop, where the statement leaves every register word as it was; the statement does not ask that the packet has
HOPS below 32. -/
theorem not_packetsAdmittedAndAnswered : ¬ Obligations.PacketsAdmittedAndAnswered := by
  unfold Obligations.PacketsAdmittedAndAnswered
  intro h
  obtain ⟨hrequests, -⟩ := h farReadComes (.port 0) farRead []
  obtain ⟨-, hnoJob⟩ := hrequests (.read (.port 0)) 1 (.inl ⟨rfl, rfl⟩) farReadComes_comes
  obtain ⟨u, hexec, -, -, hregs, -⟩ := hnoJob farReadComes_jobPart
  obtain ⟨v, hexec', hcount⟩ := exec_read_farReadComes
  obtain rfl : v = u := Host.Outcome.next.inj (hexec'.symm.trans hexec)
  rw [State.rd, hregs] at hcount
  exact absurd hcount (by decide)

end Sys2Proof.Machine
end

section
/-! SUPPORT. A JOB_STOP that comes to a fabric port after 32 links: the router drops it before the Collar sees it (R414), so the job
goes on. Refutes O50. -/

namespace Sys2Proof.Machine

/-- JOB_STOP changes no slot where the message has crossed 32 links. -/
theorem exec_jobStop_dropped {s : State} {i : PortId} {p : Packet} {rest : List Packet} (hcmds : s.cmds = [])
    (htake : takeHead (isMsg 0x10) [] (s.pktsAt (.port i)) = some (p, rest)) (hi : i.val < 16) (hkind : p.kind ≠ 0x04)
    (hhops : 32 ≤ p.hops) : ∃ u, exec (.jobStop (.port i)) s = .next u ∧ u.slots = s.slots := by
  obtain ⟨hslots, hcmds'⟩ := (s.setPktsAt (.port i) rest).dropPacket_kept p
  refine ⟨(s.setPktsAt (.port i) rest).dropPacket p, ?_, hslots⟩
  show execJobStop (.port i) s = _
  rw [execJobStop, State.onPacket_dropped htake hi hkind hhops, State.settleCmds_of_nil (hcmds'.trans hcmds)]

/-- JOB_STOP of module 1 under tag 0, code 1, at HOPS 32. -/
def farStop : Packet := { farArrival with kind := 0x31, addr := 1, aux := 0x10 }

/-- Module 0 runs the job of tag 0 in partition 0 with module 1 and may restart it once; the message stands at port 0. -/
def farStopComes : State :=
  (farArrivalComes.wr (Reg.mirrorCfg 0) 0x10000).setFab 0 { FabPort.init with inbox := [farStop] }

theorem farStopComes_comes : farStopComes.comes (.port 0) (isMsg 0x10) farStop [] := by
  unfold State.comes
  decide

theorem farStopComes_jobPart : farStopComes.jobPart farStop = some 0 := by decide

/-- Refutes O50: the JOB_STOP of another module stands at a fabric port with HOPS at 32, which R414 has the router drop, so the
slot still shows RUNNING after JOB_STOP; the statement does not ask that the packet has HOPS below 32. -/
theorem not_restartStepsInOrder : ¬ Obligations.RestartStepsInOrder := by
  unfold Obligations.RestartStepsInOrder
  intro h
  obtain ⟨hstops, -⟩ := h farStopComes 0 rfl
  obtain ⟨-, hjobStop⟩ := hstops (.port 0) farStop [] rfl rfl rfl (by decide)
  obtain ⟨u, hexec, hrestoring, -⟩ := hjobStop farStopComes_comes farStopComes_jobPart
  obtain ⟨v, hexec', hslots⟩ := exec_jobStop_dropped (s := farStopComes) rfl farStopComes_comes.1 (by decide) (by decide) (by decide)
  obtain rfl : v = u := Host.Outcome.next.inj (hexec'.symm.trans hexec)
  have hrunning : (v.slot 0).state = .running := by
    rw [State.slot, hslots]
    rfl
  exact absurd (hrunning.symm.trans hrestoring) (by decide)

end Sys2Proof.Machine
end

section
/-! SUPPORT. The PMBus and the test access port (R566, R567): what each command answers from boot step 2 on. The bit positions are
those of PMBus 1.4 (log entry 53), and that CHARGE moves with the telemetry is a choice of the model (log entry 45). Settles O58. -/

namespace Sys2Proof.Machine

theorem leNat_leBytes (n v : Nat) : leNat (leBytes n v) = v % 256 ^ n := by
  induction n generalizing v with
  | zero => rw [leBytes, leNat, pow_zero, Nat.mod_one]
  | succ n ih => rw [leBytes, leNat, ih, BitVec.toNat_ofNat, pow_succ' 256 n]; exact Nat.mod_mul.symm

theorem leBytes_length (n v : Nat) : (leBytes n v).length = n := by
  rw [leBytes_eq_map, List.length_map, List.length_range]

/-! ## Commands of the PMBus -/

theorem State.pmb_up {s : State} (h : s.busUp = true) (f : State → State) : s.pmb f = f s := if_pos h

theorem State.pmb_down {s : State} (h : s.busUp = false) (f : State → State) : s.pmb f = { s with reply := [] } :=
  if_neg (by simp [h])

/-- A read answers its bytes from boot step 2 on. -/
theorem State.replies_up {s : State} (h : s.busUp = true) {c : Instr} {bs : List Byte}
    (hc : exec c s = .next (s.pmb (fun s => s.answerBytes bs))) : s.replies c bs := by
  rw [State.pmb_up h] at hc
  exact ⟨_, hc, rfl⟩

/-- Before boot step 2 a command is NACKed. -/
theorem State.replies_down {s : State} (h : s.busUp = false) {c : Instr} {f : State → State}
    (hc : exec c s = .next (s.pmb f)) : s.replies c [] := by
  rw [State.pmb_down h] at hc
  exact ⟨_, hc, rfl⟩

/-- STATUS_WORD from its summary bits: input, undervoltage, temperature, CML and the remaining low bit. -/
def statusBits (input uv temp cml low : Bool) : Nat :=
  (if input then 0x2000 else 0) + (if uv then 0x08 else 0) + (if temp then 0x04 else 0) + (if cml then 0x02 else 0) +
    (if low then 0x01 else 0)

theorem testBit_statusBits (input uv temp cml low : Bool) : let w := statusBits input uv temp cml low
    w < 256 ^ 2 ∧ w.testBit 13 = input ∧ w.testBit 3 = uv ∧ w.testBit 2 = temp ∧ w.testBit 1 = cml := by
  cases input <;> cases uv <;> cases temp <;> cases cml <;> cases low <;> decide

theorem statusWord_answers {s : State} (h : s.busUp = true) : Answers .statusWord s (fun u => u = { s with reply := u.reply } ∧
    u.reply.length = 2 ∧ ((leNat u.reply).testBit 13 = (s.pmbus.input != 0)) ∧
    ((leNat u.reply).testBit 3 = s.pmbus.input.getLsbD 4) ∧ ((leNat u.reply).testBit 2 = (s.pmbus.temp != 0)) ∧
    ((leNat u.reply).testBit 1 = (s.pmbus.cml != 0))) := by
  obtain ⟨hlt, hbits⟩ := testBit_statusBits (s.pmbus.input != 0) (s.pmbus.input.getLsbD 4) (s.pmbus.temp != 0) (s.pmbus.cml != 0)
    (s.pmbus.input != 0 && !s.pmbus.input.getLsbD 4 && s.pmbus.temp == 0 && s.pmbus.cml == 0)
  refine ⟨_, congrArg Host.Outcome.next (State.pmb_up h _), rfl, leBytes_length 2 _, ?_⟩
  have hword : leNat (leBytes 2 s.pmbus.statusWord) = s.pmbus.statusWord := (leNat_leBytes 2 _).trans (Nat.mod_eq_of_lt hlt)
  dsimp only [State.answerBytes]
  rw [hword]
  exact hbits

/-- The characters of ID_SERIAL are at most 16. -/
theorem mfrSerial_answers {s : State} (h : s.busUp = true) : Answers .mfrSerial s (fun u => u = { s with reply := u.reply } ∧
    ∃ n bs, u.reply = n :: bs ∧ bs.length = n.toNat ∧
      bs = ((List.range 4).flatMap (fun i => leBytes 4 (s.rd (Reg.idSerial i)).toNat)).filter (· != 0)) := by
  refine ⟨_, congrArg Host.Outcome.next (State.pmb_up h _), rfl, _, _, rfl, ?_, rfl⟩
  have hle : (((List.range 4).flatMap (fun i => leBytes 4 (s.rd (Reg.idSerial i)).toNat)).filter (· != 0)).length ≤ 16 := by
    refine (List.length_filter_le _ _).trans (le_of_eq ?_)
    rw [List.length_flatMap]
    simp only [leBytes_length]
    rfl
  rw [BitVec.toNat_ofNat, Nat.mod_eq_of_lt (by omega)]

theorem pmbusUnsupportedCommand_answers {s : State} (h : s.busUp = true) {code : BitVec 8} (hcode : pmbusCodes.contains code.toNat = false) :
    Answers (.pmbusUnsupportedCommand code) s (fun u =>
      u = { s with reply := [], pmbus := { s.pmbus with cml := s.pmbus.cml ||| 0x80 } }) :=
  ⟨_, congrArg Host.Outcome.next ((if_neg (by rw [hcode]; decide)).trans (State.pmb_up h _)), rfl⟩

theorem pmbusTelemetryRefresh_shows {s : State} (h : s.busUp = true) (x : Telemetry) : Answers (.pmbusTelemetryRefresh x) s (fun u =>
    u.rd Reg.pwrInput = x.input ∧ u.fld Reg.calStatus 0 8 = x.charge.val ∧
    u.pmbus = { s.pmbus with vin := x.vin, iin := x.iin, temp1 := x.temp1, temp2 := x.temp2, pin := x.pin } ∧
    s.onlyRegs { u with pmbus := s.pmbus } [Reg.pwrInput, Reg.calStatus]) := by
  refine ⟨_, congrArg Host.Outcome.next (if_pos h), ?_, ?_, rfl, ?_⟩
  · exact (State.rd_setFld_ne _ _ _ _ (by decide)).trans (State.rd_wr_self ..)
  · exact State.fld_setFld_of_lt _ _ (by decide) (by omega)
  · exact ((State.onlyRegs.refl s _).wr List.mem_cons_self x.input).setFld (List.mem_cons_of_mem _ List.mem_cons_self) 0 8 x.charge.val

/-! ## The test access port -/

theorem State.setTap_up {s : State} (h : s.busUp = true) (i : TapInstr) (bs : List Byte) :
    s.setTap i bs = { s with tap := i, reply := bs } := if_pos h

theorem extest_inReset {s : State} (h : s.warmLow = true ∨ s.coldLow = true) :
    Answers .extest s (fun u => u = { s with tap := .extest, reply := [] }) :=
  ⟨_, congrArg Host.Outcome.next (if_pos (by simpa using h)), rfl⟩

theorem extest_samples {s : State} (h : s.busUp = true) (hwarm : s.warmLow = false) (hcold : s.coldLow = false) :
    Answers .extest s (fun u => u = { s with tap := .samplePreload, reply := [] }) :=
  ⟨_, congrArg Host.Outcome.next ((if_neg (by simp [hwarm, hcold])).trans (State.setTap_up h _ _)), rfl⟩

/-! ## The statement -/

/-- Settles O58, command by command. -/
theorem managementBusAnswers : Obligations.ManagementBusAnswers := by
  unfold Obligations.ManagementBusAnswers
  intro s
  refine ⟨fun h => ?_, extest_inReset, fun h => ?_⟩
  · exact ⟨⟨_, congrArg Host.Outcome.next (State.pmb_up h _), rfl⟩, State.replies_up h rfl, statusWord_answers h,
      State.replies_up h rfl, State.replies_up h rfl, State.replies_up h rfl, State.replies_up h rfl, State.replies_up h rfl,
      State.replies_up h rfl, State.replies_up h rfl, State.replies_up h rfl, State.replies_up h rfl, State.replies_up h rfl,
      State.replies_up h rfl, mfrSerial_answers h, fun _ => pmbusUnsupportedCommand_answers h, pmbusTelemetryRefresh_shows h,
      ⟨_, congrArg Host.Outcome.next (State.setTap_up h _ _), rfl⟩, ⟨_, congrArg Host.Outcome.next (State.setTap_up h _ _), rfl⟩,
      ⟨_, congrArg Host.Outcome.next (State.setTap_up h _ _), rfl⟩, extest_samples h⟩
  · exact ⟨State.replies_down h rfl, State.replies_down h rfl, State.replies_down h rfl, State.replies_down h rfl,
      fun code hcode => State.replies_down h (congrArg Host.Outcome.next (if_neg (by rw [hcode]; decide)))⟩

end Sys2Proof.Machine
end

section
/-! SUPPORT. The ports of the fabric: what setting a port, dropping its link and letting it send change and leave (R400-R402), and
the frame of a port. -/

namespace Sys2Proof.Machine

/-! ## The frame of a port -/

/-- `u` differs from `s` only in the link layer of port `p` and in the register words listed. -/
structure State.onlyPort (s u : State) (p : Nat) (as : List Nat) : Prop where
  others : ∀ j, j ≠ p → u.fab j = s.fab j
  regs : s.onlyRegs { u with fabPorts := s.fabPorts } as

variable {s u : State} {p : Nat} {as : List Nat}

theorem State.onlyPort.refl (s : State) (p : Nat) (as : List Nat) : s.onlyPort s p as := ⟨fun _ _ => rfl, State.onlyRegs.refl s as⟩

theorem State.onlyPort.mono {bs : List Nat} (h : s.onlyPort u p as) (hsub : as ⊆ bs) : s.onlyPort u p bs :=
  ⟨h.others, h.regs.mono hsub⟩

theorem State.onlyPort.wr (h : s.onlyPort u p as) {a : Nat} (ha : a ∈ as) (v : Word) : s.onlyPort (u.wr a v) p as :=
  ⟨h.others, h.regs.wr ha v⟩

theorem State.onlyPort.setFld (h : s.onlyPort u p as) {a : Nat} (ha : a ∈ as) (lo len v : Nat) :
    s.onlyPort (u.setFld a lo len v) p as := h.wr ha _

theorem State.onlyPort.setBit (h : s.onlyPort u p as) {a : Nat} (ha : a ∈ as) (i : Nat) (b : Bool) :
    s.onlyPort (u.setBit a i b) p as := h.wr ha _

theorem State.onlyPort.count (h : s.onlyPort u p as) {a : Nat} (ha : a ∈ as) (n : Nat) : s.onlyPort (u.count a n) p as := h.wr ha _

theorem State.onlyPort.setFab (h : s.onlyPort u p as) (x : FabPort) : s.onlyPort (u.setFab p x) p as :=
  ⟨fun j hj => (tget_tset_ne _ _ _ hj).trans (h.others j hj), h.regs⟩

theorem State.onlyPort.dropLink (h : s.onlyPort u p as) : s.onlyPort (u.dropLink p) p as := h.setFab _

theorem State.onlyPort.pump (h : s.onlyPort u p as) : s.onlyPort (u.pump p) p as := by
  unfold State.pump
  split
  · exact h.setFab _
  · exact h

theorem State.onlyPort.setPort (h : s.onlyPort u p as) (hst : Reg.fabPortStatus p ∈ as) (hmir : Reg.mirrorLinkStatus ∈ as)
    (st c : Nat) : s.onlyPort (u.setPort p st c) p as := by
  have hset := (h.setFld hst 29 3 st).setFld hst 26 3 c
  unfold State.setPort
  dsimp only
  split
  · exact hset.setBit hmir _ _
  · exact hset

/-! ## What the link layer holds -/

@[simp] theorem State.fab_setFab_self (s : State) (p : Nat) (x : FabPort) : (s.setFab p x).fab p = x := tget_tset_self ..
@[simp] theorem State.rd_setFab (s : State) (p : Nat) (x : FabPort) (a : Nat) : (s.setFab p x).rd a = s.rd a := rfl
@[simp] theorem State.rd_dropLink (s : State) (p a : Nat) : (s.dropLink p).rd a = s.rd a := rfl
@[simp] theorem State.fab_dropLink_self (s : State) (p : Nat) :
    (s.dropLink p).fab p = { FabPort.init with retrains := (s.fab p).retrains } := tget_tset_self ..

@[simp] theorem State.rd_pump (s : State) (p a : Nat) : (s.pump p).rd a = s.rd a := by
  unfold State.pump
  split <;> rfl

theorem State.slots_pump (s : State) (p : Nat) : (s.pump p).slots = s.slots := by
  unfold State.pump
  split <;> rfl

/-! ## The state of a port -/

theorem State.portState_congr {s u : State} {p : Nat} (h : u.rd (Reg.fabPortStatus p) = s.rd (Reg.fabPortStatus p)) :
    u.portState p = s.portState p := State.fld_congr h 29 3

/-- Setting a port sets the two fields of its status word, and for a mirror port its bit of MIRROR_LINK_STATUS (R463). -/
theorem State.rd_setPort_status (s : State) {p : Nat} (hp : p < 18) (st c : Nat) : (s.setPort p st c).rd (Reg.fabPortStatus p) =
    putField (putField (s.rd (Reg.fabPortStatus p)) 29 3 st) 26 3 c := by
  have hne : Reg.fabPortStatus p ≠ Reg.mirrorLinkStatus := by
    unfold Reg.fabPortStatus Reg.mirrorLinkStatus
    omega
  have hset : ((s.setFld (Reg.fabPortStatus p) 29 3 st).setFld (Reg.fabPortStatus p) 26 3 c).rd (Reg.fabPortStatus p) =
      putField (putField (s.rd (Reg.fabPortStatus p)) 29 3 st) 26 3 c := by
    rw [State.rd_setFld_self, State.rd_setFld_self]
  unfold State.setPort
  dsimp only
  split
  · rw [State.rd_setBit_ne _ _ _ hne, hset]
  · exact hset

theorem State.rd_setPort_ne (s : State) {p a : Nat} (st c : Nat) (ha : a ≠ Reg.fabPortStatus p) (ham : a ≠ Reg.mirrorLinkStatus) :
    (s.setPort p st c).rd a = s.rd a :=
  ((State.onlyPort.refl s p [Reg.fabPortStatus p, Reg.mirrorLinkStatus]).setPort (by simp) (by simp) st c).regs.2 a (by simp [ha, ham])

theorem State.portState_setPort (s : State) {p : Nat} (hp : p < 18) {st : Nat} (hst : st < 8) (c : Nat) :
    (s.setPort p st c).portState p = st := by
  rw [State.portState, State.fld, State.rd_setPort_status s hp, fieldOf_putField_ne _ _ _ _ _ _ (by omega),
    fieldOf_putField _ _ _ _ (by omega), Nat.mod_eq_of_lt (by omega)]

theorem State.cause_setPort (s : State) {p : Nat} (hp : p < 18) (st : Nat) {c : Nat} (hc : c < 8) :
    (s.setPort p st c).fld (Reg.fabPortStatus p) 26 3 = c := by
  rw [State.fld, State.rd_setPort_status s hp, fieldOf_putField _ _ _ _ (by omega), Nat.mod_eq_of_lt (by omega)]

/-- A port that is set shows its state and cause, and keeps its frame; what acts on it afterwards leaves its status word. -/
theorem State.portNow_of (hp : p < 18) {st c : Nat} (hst : st < 8) (hc : c < 8) {t : State} {as : List Nat}
    (hstatus : u.rd (Reg.fabPortStatus p) = (t.setPort p st c).rd (Reg.fabPortStatus p))
    (hframe : s.onlyPort u p (portWords p ++ as)) : s.portNow u p st c as :=
  ⟨(State.portState_congr hstatus).trans (t.portState_setPort hp hst c),
    (State.fld_congr hstatus _ _).trans (t.cause_setPort hp st hc), hframe.others, hframe.regs⟩

end Sys2Proof.Machine
end

section
/-! SUPPORT. The states of a fabric port and their causes (R400-R402, R407, R507). That FLIT_TRAIN sets the peer's fields, and that a
port that is disabled drops what it holds, are choices of the model (log entry 33). Settles O45. -/

namespace Sys2Proof.Machine

/-! ## Words that the records of a fault leave -/

theorem State.rd_pushRec_ne (s : State) (r : FaultRec) {a : Nat} (ha : a ≠ Reg.flogDropped) : (s.pushRec r).rd a = s.rd a := by
  unfold State.pushRec
  split
  · rfl
  · exact State.rd_count_ne s 1 ha

theorem State.rd_stopJob (s : State) (q code cls sub unit seq a : Nat) : (s.stopJob q code cls sub unit seq).rd a = s.rd a :=
  State.rd_of_regs (State.stopJob_regs ..) a

theorem State.rd_jobFault_ne (s : State) (q code cls unit sub : Nat) (tile : Option Nat) (addr c0 c1 : Nat) {a : Nat}
    (ha : a ≠ Reg.flogDropped) : (s.jobFault q code cls unit sub tile addr c0 c1).rd a = s.rd a :=
  (State.rd_stopJob ..).trans (State.rd_pushRec_ne _ _ ha)

theorem State.rd_latchFabErr_ne (s : State) (q sub port dst req tile : Nat) {a : Nat} (h1 : a ≠ Reg.fabErrInfo)
    (h2 : a ≠ Reg.fabErrSrc) : (s.latchFabErr q sub port dst req tile).rd a = s.rd a := by
  unfold State.latchFabErr
  split
  · rfl
  · exact (State.rd_wr_ne _ _ h2).trans (State.rd_wr_ne _ _ h1)

/-- The words that the records of the fabric may change. -/
def fabFaultWords : List Nat := [Reg.flogDropped, Reg.fabErrInfo, Reg.fabErrSrc]

theorem State.rd_portFailedFault_ne (s : State) (p : Nat) {a : Nat} (ha : a ∉ fabFaultWords) :
    (s.portFailedFault p).rd a = s.rd a := by
  simp only [fabFaultWords, List.mem_cons, List.not_mem_nil, or_false, not_or] at ha
  obtain ⟨hdropped, hinfo, hsrc⟩ := ha
  have hlatch := s.rd_latchFabErr_ne (s.loaded.headD 0) 1 p 0 0 0 hinfo hsrc
  have hfaults (f : State → Nat → State) (hf : ∀ t q, (f t q).rd a = t.rd a) (qs : List Nat) (t : State) :
      (qs.foldl f t).rd a = t.rd a := by
    induction qs generalizing t with
    | nil => rfl
    | cons q qs ih => exact (ih _).trans (hf t q)
  unfold State.portFailedFault
  dsimp only
  split
  · exact (State.rd_pushRec_ne _ _ hdropped).trans hlatch
  · exact (hfaults _ (fun t q => State.rd_jobFault_ne t q _ _ _ _ _ _ _ _ hdropped) _ _).trans hlatch

/-! ## Fields of a word -/

/-- A field within a field that has been set. -/
theorem fieldOf_putField_within (w : Word) (v : Nat) {lo len lo' len' : Nat} (hlo : lo ≤ lo') (hhi : lo' + len' ≤ lo + len)
    (h32 : lo + len ≤ 32) : fieldOf (putField w lo len v) lo' len' = v / 2 ^ (lo' - lo) % 2 ^ len' := by
  have e : (putField w lo len v).extractLsb' lo' len' = BitVec.ofNat len' (v / 2 ^ (lo' - lo)) := by
    apply BitVec.eq_of_getLsbD_eq
    intro i hi
    rw [BitVec.getLsbD_extractLsb', getLsbD_putField _ _ _ _ _ (by omega), if_pos (by omega), BitVec.getLsbD_ofNat,
      Nat.testBit_div_two_pow]
    simp [hi]
    congr 1
    omega
  rw [fieldOf, e, BitVec.toNat_ofNat]

/-! ## Failing and retraining -/

/-- A port that fails in training only shows it. -/
theorem State.failPort_training {s : State} {p : Nat} (h : s.portState p = 2) (c : Nat) :
    s.failPort p c = (s.setPort p 5 c).dropLink p := by
  unfold State.failPort
  rw [h]
  rfl

/-- A port that has carried packets raises PORT_FAILED as well. -/
theorem State.failPort_live {s : State} {p : Nat} (h : s.portState p = 3 ∨ s.portState p = 4) (c : Nat) :
    s.failPort p c = ((s.setPort p 5 c).dropLink p).portFailedFault p := by
  unfold State.failPort
  rcases h with h | h <;> rw [h] <;> rfl

theorem fabPort_notMem_fabFaultWords {a : Nat} (h : 0x3000000 ≤ a ∧ a < 0x3030000) : a ∉ fabFaultWords := by
  simp only [fabFaultWords, Reg.flogDropped, Reg.fabErrInfo, Reg.fabErrSrc, List.mem_cons, List.not_mem_nil, or_false]
  omega

section Port
variable {s : State} {p : PortId}

theorem Reg.fabPortStatus_range (p : PortId) : 0x3000000 ≤ Reg.fabPortStatus p ∧ Reg.fabPortStatus p < 0x3030000 := by
  unfold Reg.fabPortStatus
  omega

/-- A live port that fails shows FAILED with its cause. -/
theorem State.failPort_live_shows (h : s.portState p = 3 ∨ s.portState p = 4) {c : Nat} (hc : c < 8) :
    (s.failPort p c).portState p = 5 ∧ (s.failPort p c).fld (Reg.fabPortStatus p) 26 3 = c := by
  have hstatus : (s.failPort p c).rd (Reg.fabPortStatus p) = (s.setPort p 5 c).rd (Reg.fabPortStatus p) := by
    rw [State.failPort_live h, State.rd_portFailedFault_ne _ _ (fabPort_notMem_fabFaultWords (Reg.fabPortStatus_range p)), State.rd_dropLink]
  exact ⟨(State.portState_congr hstatus).trans (s.portState_setPort p.isLt (by decide) c),
    (State.fld_congr hstatus _ _).trans (s.cause_setPort p.isLt 5 hc)⟩

/-- The entries into RETRAIN of the last second, with the one at `us`. -/
def State.retrainedAt (s : State) (p us : Nat) : State :=
  (s.count (Reg.fabPortStatRetrain p) 1).setFab p { s.fab p with
    retrains := (s.fab p).retrains.filter (fun t => us < t + 1000000) ++ [us], replays := 0 }

theorem State.enterRetrain_again {us : Nat} (h : s.portState p = 3) (hrecent : s.recent p us < 3) :
    s.enterRetrain p us = (s.retrainedAt p us).setPort p 4 0 := by
  have hlen : ¬ 4 ≤ ((s.fab p).retrains.filter (fun t => us < t + 1000000) ++ [us]).length := by
    rw [List.length_append, List.length_singleton]
    unfold State.recent at hrecent
    omega
  exact (if_pos h).trans (if_neg hlen)

theorem State.enterRetrain_fails {us : Nat} (h : s.portState p = 3) (hrecent : 3 ≤ s.recent p us) :
    s.enterRetrain p us = (s.retrainedAt p us).failPort p 5 := by
  have hlen : 4 ≤ ((s.fab p).retrains.filter (fun t => us < t + 1000000) ++ [us]).length := by
    rw [List.length_append, List.length_singleton]
    unfold State.recent at hrecent
    omega
  exact (if_pos h).trans (if_pos hlen)

theorem State.onlyPort.retrainedAt {u : State} {as : List Nat} (h : s.onlyPort u p as) (ha : Reg.fabPortStatRetrain p ∈ as)
    (us : Nat) : s.onlyPort (u.retrainedAt p us) p as := (h.count ha 1).setFab _

theorem State.rd_retrainedAt (s : State) (p us : Nat) : ((s.retrainedAt p us).rd (Reg.fabPortStatRetrain p)).toNat =
    min 0xFFFFFFFF ((s.rd (Reg.fabPortStatRetrain p)).toNat + 1) := State.rd_count_one s _

theorem State.rd_retrainedAt_ne (s : State) (p us : Nat) {a : Nat} (ha : a ≠ Reg.fabPortStatRetrain p) :
    (s.retrainedAt p us).rd a = s.rd a := State.rd_count_ne s 1 ha

theorem State.rd_setPort_ctrl (s : State) (p : PortId) (st c : Nat) :
    (s.setPort p st c).rd (Reg.fabPortCtrl p) = s.rd (Reg.fabPortCtrl p) :=
  State.rd_setPort_ne _ _ _ (by unfold Reg.fabPortStatus Reg.fabPortCtrl; omega)
    (by unfold Reg.mirrorLinkStatus Reg.fabPortCtrl; omega)

/-! ## The commands -/

theorem fabPortEnable_enables (hon : s.domainOn (portDomain p) = true) (hst : s.portState p = 0) :
    Answers (.fabPortEnable p true) s (fun u => s.portNow u p 1 0 [] ∧ u.bit (Reg.fabPortCtrl p) 0 = true) := by
  have hbit : (s.setBit (Reg.fabPortCtrl p) 0 true).bit (Reg.fabPortCtrl p) 0 = true := State.bit_setBit _ _ _ _ (by decide)
  have hdomain : (s.setBit (Reg.fabPortCtrl p) 0 true).domainOn (portDomain p) = true := by
    rw [← hon]
    exact State.bit_congr (State.rd_setBit_ne _ _ _ (by unfold Reg.pwrDomainOn Reg.fabPortCtrl; omega)) _
  have hdown : (s.setBit (Reg.fabPortCtrl p) 0 true).portState p = 0 := by
    rw [← hst]
    exact State.portState_congr (State.rd_setBit_ne _ _ _ (by unfold Reg.fabPortStatus Reg.fabPortCtrl; omega))
  have hexec : exec (.fabPortEnable p true) s = .next ((s.setBit (Reg.fabPortCtrl p) 0 true).setPort p 1 0) := by
    refine congrArg Host.Outcome.next ?_
    unfold State.enablePort
    dsimp only
    rw [if_neg (by simp [hdomain]), State.settlePort, if_pos (by simp [hbit, hdomain])]
    exact if_pos hdown
  refine ⟨_, hexec, State.portNow_of p.isLt (by decide) (by decide) rfl ?_, ?_⟩
  · exact ((State.onlyPort.refl s p _).setBit (by simp [portWords]) _ _).setPort (by simp [portWords]) (by simp [portWords]) _ _
  · exact (State.bit_congr (State.rd_setPort_ctrl ..) 0).trans hbit

theorem fabPortEnable_disables (hst : s.portState p ≠ 0) : Answers (.fabPortEnable p false) s (fun u => s.portNow u p 0 0 [] ∧
    u.bit (Reg.fabPortCtrl p) 0 = false ∧ (u.fab p).tx = [] ∧ (u.fab p).inbox = []) := by
  have hbit : (s.setBit (Reg.fabPortCtrl p) 0 false).bit (Reg.fabPortCtrl p) 0 = false := State.bit_setBit _ _ _ _ (by decide)
  have hup : ¬ (s.setBit (Reg.fabPortCtrl p) 0 false).portState p = portDisabled := by
    rw [State.portState_congr (State.rd_setBit_ne _ _ _ (by unfold Reg.fabPortStatus Reg.fabPortCtrl; omega))]
    exact hst
  have hexec : exec (.fabPortEnable p false) s =
      .next (((s.setBit (Reg.fabPortCtrl p) 0 false).setPort p 0 0).dropLink p) := by
    refine congrArg Host.Outcome.next ?_
    unfold State.enablePort
    dsimp only
    rw [if_neg (by simp), State.settlePort, if_neg (by simp [hbit]), if_neg hup]
    rfl
  refine ⟨_, hexec, State.portNow_of p.isLt (by decide) (by decide) (State.rd_dropLink ..) ?_, ?_, ?_⟩
  · exact (((State.onlyPort.refl s p _).setBit (by simp [portWords]) _ _).setPort (by simp [portWords]) (by simp [portWords]) _ _).dropLink
  · exact (State.bit_congr (State.rd_setPort_ctrl ..) 0).trans hbit
  · rw [State.fab_dropLink_self]
    exact ⟨rfl, rfl⟩

theorem linkTrainingStart_trains (hst : s.portState p = 1) (hid : s.bit Reg.fabModuleId 31 = true) :
    Answers (.linkTrainingStart p) s (fun u => s.portNow u p 2 0 [] ∧ u.rd (Reg.fabPortLanes p) = 0) := by
  have hne : Reg.fabPortStatus p ≠ Reg.fabPortLanes p := by unfold Reg.fabPortStatus Reg.fabPortLanes; omega
  refine ⟨_, congrArg Host.Outcome.next (if_pos ⟨hst, hid⟩),
    State.portNow_of p.isLt (t := s) (by decide) (by decide) (State.rd_wr_ne _ _ hne) ?_, State.rd_wr_self ..⟩
  exact (((State.onlyPort.refl s p _).setPort (by simp [portWords]) (by simp [portWords]) _ _).dropLink).wr (by simp [portWords]) _

theorem linkTrainingStart_noId (hid : s.bit Reg.fabModuleId 31 = false) : exec (.linkTrainingStart p) s = .next s :=
  congrArg Host.Outcome.next (if_neg (by simp [hid]))

theorem flitTrain_shows (hst : s.portState p = 2) (id : Fin 2048) (coll mir : BitVec 16) :
    Answers (.flitTrain p id coll mir) s (fun u =>
      (u.fab p).peer = some (id.val, coll.toNat, mir.toNat) ∧ u.fld (Reg.fabPortStatus p) 0 11 = id.val ∧
      u.bit (Reg.fabPortStatus p) 11 = true ∧ u.rd (Reg.fabPortPeer p) = BitVec.ofNat 32 (coll.toNat * 0x10000 + mir.toNat) ∧
      u.portState p = 2) := by
  have hne : Reg.fabPortStatus p ≠ Reg.fabPortPeer p := by unfold Reg.fabPortStatus Reg.fabPortPeer; omega
  refine ⟨_, congrArg Host.Outcome.next (if_pos hst), congrArg FabPort.peer (State.fab_setFab_self s p _), ?_, ?_, State.rd_wr_self .., ?_⟩
  · rw [State.fld_wr_ne _ _ _ _ hne, State.fld, State.rd_setFld_self, fieldOf_putField_within _ _ (by omega) (by omega) (by omega)]
    omega
  · rw [State.bit, State.rd_wr_ne _ _ hne, State.rd_setFld_self, getLsbD_putField _ _ _ _ _ (by omega), if_pos (by omega)]
    exact (Nat.testBit_two_pow_add_eq id.val 11).trans (by rw [Nat.testBit_lt_two_pow id.isLt]; rfl)
  · rw [← hst]
    refine (State.portState_congr (State.rd_wr_ne _ _ hne)).trans ?_
    exact State.fld_setFld_ne _ _ _ _ _ _ _ (by omega)

/-! ### The end of training (R401) -/

theorem State.trained_eq {id coll mir : Nat} (hst : s.portState p = 2) (hpeer : (s.fab p).peer = some (id, coll, mir)) :
    s.trained p = if s.trainCause p id coll mir = 0 then ((s.setPort p 3 0).setFld (Reg.fabPortLanes p) 0 16 0xFFFF).pump p
      else s.failPort p (s.trainCause p id coll mir) := by
  unfold State.trained
  rw [hpeer]
  exact if_pos hst

/-- With no partner waiting for a spare, LINK_TRAINING_DONE only ends the training. -/
theorem exec_linkTrainingDone (hwait : ∀ q, q < 8 → ((s.trained p).slot q).restart ≠ 4) :
    exec (.linkTrainingDone p) s = .next (s.trained p) := by
  refine congrArg Host.Outcome.next ?_
  dsimp only
  split
  · have hskip : ∀ qs : List Nat, (∀ q ∈ qs, q < 8) → qs.foldl (fun s q =>
        if (s.slot q).restart = 4 ∧ (s.slot q).state = .restoring then s.beginRestore q else s) (s.trained p) = s.trained p := by
      intro qs hqs
      induction qs with
      | nil => rfl
      | cons q qs ih =>
        rw [List.foldl_cons, if_neg (fun h => hwait q (hqs q List.mem_cons_self) h.1)]
        exact ih (fun r hr => hqs r (List.mem_cons_of_mem _ hr))
    exact hskip _ (fun q hq => List.mem_range.1 hq)
  · rfl

theorem exec_linkTrainingDone_of_slots {u : State} (htrained : s.trained p = u) (hslots : u.slots = s.slots)
    (hwait : ∀ q, q < 8 → (s.slot q).restart ≠ 4) : exec (.linkTrainingDone p) s = .next u := by
  subst htrained
  refine exec_linkTrainingDone (fun q hq => ?_)
  rw [State.slot, hslots]
  exact hwait q hq

theorem State.slots_setPort (s : State) (p st c : Nat) : (s.setPort p st c).slots = s.slots := by
  unfold State.setPort
  dsimp only
  split <;> rfl

/-- ACTIVE: every lane is locked, and the port may send. -/
theorem State.portNow_active (hp : p.val < 18) : s.portNow (((s.setPort p 3 0).setFld (Reg.fabPortLanes p) 0 16 0xFFFF).pump p) p 3 0 [] ∧
    (((s.setPort p 3 0).setFld (Reg.fabPortLanes p) 0 16 0xFFFF).pump p).fld (Reg.fabPortLanes p) 0 16 = 0xFFFF := by
  have hne : Reg.fabPortStatus p ≠ Reg.fabPortLanes p := by unfold Reg.fabPortStatus Reg.fabPortLanes; omega
  refine ⟨State.portNow_of hp (t := s) (by decide) (by decide) ((State.rd_pump ..).trans (State.rd_setFld_ne _ _ _ _ hne)) ?_, ?_⟩
  · exact (((State.onlyPort.refl s p _).setPort (by simp [portWords]) (by simp [portWords]) _ _).setFld (by simp [portWords]) _ _ _).pump
  · rw [State.fld_congr (State.rd_pump ..)]
    exact State.fld_setFld_of_lt _ _ (by decide) (by decide)

/-- FAILED from training. -/
theorem State.portNow_failed {c : Nat} (hc : c < 8) : s.portNow ((s.setPort p 5 c).dropLink p) p 5 c [] :=
  State.portNow_of p.isLt (t := s) (by decide) hc (State.rd_dropLink ..)
    (((State.onlyPort.refl s p _).setPort (by simp [portWords]) (by simp [portWords]) _ _).dropLink)

theorem linkTrainingDone_active {id coll mir : Nat} (hst : s.portState p = 2) (hpeer : (s.fab p).peer = some (id, coll, mir))
    (hwait : ∀ q, q < 8 → (s.slot q).restart ≠ 4) (hcause : s.trainCause p id coll mir = 0) :
    Answers (.linkTrainingDone p) s (fun u => s.portNow u p 3 0 [] ∧ u.fld (Reg.fabPortLanes p) 0 16 = 0xFFFF) :=
  ⟨_, exec_linkTrainingDone_of_slots ((State.trained_eq hst hpeer).trans (if_pos hcause))
    ((State.slots_pump ..).trans (State.slots_setPort ..)) hwait, State.portNow_active p.isLt⟩

theorem linkTrainingDone_fails {id coll mir c : Nat} (hst : s.portState p = 2) (hpeer : (s.fab p).peer = some (id, coll, mir))
    (hwait : ∀ q, q < 8 → (s.slot q).restart ≠ 4) (hcause : s.trainCause p id coll mir = c) (h0 : c ≠ 0) (hc : c < 8) :
    Answers (.linkTrainingDone p) s (fun u => s.portNow u p 5 c []) := by
  have htrained : s.trained p = (s.setPort p 5 c).dropLink p := by
    rw [State.trained_eq hst hpeer, hcause, if_neg h0, State.failPort_training hst]
  exact ⟨_, exec_linkTrainingDone_of_slots htrained (State.slots_setPort ..) hwait, State.portNow_failed hc⟩

/-- The order in which training compares the peer (the table of R401). -/
theorem State.trainCause_eq (s : State) (p : PortId) (id coll mir : Nat) : let own := s.fld Reg.structLevelsLink 16 16
    let levels := coll ≤ own + 1 ∧ own ≤ coll + 1
    let idOk := if p.val < 16 then id ≠ s.ownId else id = s.partner
    let mirOk := 16 ≤ p.val → mir = s.fld Reg.structLevelsLink 0 16
    (levels → idOk → mirOk → s.trainCause p id coll mir = 0) ∧ (¬ levels → s.trainCause p id coll mir = 1) ∧
    (levels → ¬ idOk → s.trainCause p id coll mir = 2) ∧ (levels → idOk → ¬ mirOk → s.trainCause p id coll mir = 3) := by
  intro own levels idOk mirOk
  have hlevels : (own + 1 < coll ∨ coll + 1 < own) ↔ ¬ levels := by omega
  have hid : (if p.val < 16 then id = s.ownId else id ≠ s.partner) ↔ ¬ idOk := by
    dsimp only [idOk]
    split <;> simp
  have hmir : (16 ≤ p.val ∧ mir ≠ s.fld Reg.structLevelsLink 0 16) ↔ ¬ mirOk := by simp [mirOk]
  have hcause : s.trainCause p id coll mir = if ¬ levels then 1 else if ¬ idOk then 2 else if ¬ mirOk then 3 else 0 := by
    unfold State.trainCause
    simp only [← hlevels, ← hid, ← hmir]
    rfl
  rw [hcause]
  refine ⟨fun h1 h2 h3 => ?_, fun h1 => ?_, fun h1 h2 => ?_, fun h1 h2 h3 => ?_⟩ <;> simp [*]

theorem laneLockTimeout_fails (hst : s.portState p = 2) (lanes : BitVec 16) (hlanes : lanes ≠ 0) :
    Answers (.laneLockTimeout p lanes) s (fun u => s.portNow u p 5 4 [] ∧ u.fld (Reg.fabPortLanes p) 0 16 = 0xFFFF - lanes.toNat) := by
  have hne : Reg.fabPortStatus p ≠ Reg.fabPortLanes p := by unfold Reg.fabPortStatus Reg.fabPortLanes; omega
  have hexec : exec (.laneLockTimeout p lanes) s =
      .next (((s.setPort p 5 4).dropLink p).setFld (Reg.fabPortLanes p) 0 16 (0xFFFF - lanes.toNat)) := by
    refine congrArg Host.Outcome.next ?_
    rw [if_pos ⟨hst, hlanes⟩, State.failPort_training hst]
  refine ⟨_, hexec, State.portNow_of p.isLt (t := s) (by decide) (by decide) (State.rd_setFld_ne _ _ _ _ hne) ?_,
    State.fld_setFld_of_lt _ _ (by decide) (by omega)⟩
  exact (((State.onlyPort.refl s p _).setPort (by simp [portWords]) (by simp [portWords]) _ _).dropLink).setFld (by simp [portWords]) _ _ _

/-! ### RETRAIN (R402) -/

theorem fabPortStatRetrain_ne_status (p : PortId) : Reg.fabPortStatRetrain p ≠ Reg.fabPortStatus p := by
  unfold Reg.fabPortStatRetrain Reg.fabPortStatus
  omega

theorem fabPortStatRetrain_ne_mirror (p : PortId) : Reg.fabPortStatRetrain p ≠ Reg.mirrorLinkStatus := by
  unfold Reg.fabPortStatRetrain Reg.mirrorLinkStatus
  omega

/-- A port that enters RETRAIN, from a state that differs from `s` in the port's words alone. -/
theorem State.retrains_portNow {t : State} (us : Nat) (ht : s.onlyPort t p (portWords p)) :
    s.portNow ((t.retrainedAt p us).setPort p 4 0) p 4 0 [] ∧
    (((t.retrainedAt p us).setPort p 4 0).rd (Reg.fabPortStatRetrain p)).toNat =
      min 0xFFFFFFFF ((t.rd (Reg.fabPortStatRetrain p)).toNat + 1) := by
  refine ⟨State.portNow_of p.isLt (by decide) (by decide) rfl ?_, ?_⟩
  · rw [List.append_nil]
    exact (ht.retrainedAt (by simp [portWords]) us).setPort (by simp [portWords]) (by simp [portWords]) _ _
  · rw [State.rd_setPort_ne _ _ _ (fabPortStatRetrain_ne_status p) (fabPortStatRetrain_ne_mirror p), State.rd_retrainedAt]

theorem State.fab_setPort (s : State) (p st c j : Nat) : (s.setPort p st c).fab j = s.fab j := by
  unfold State.setPort
  dsimp only
  split <;> rfl

theorem fabPortRetrain_retrains (hst : s.portState p = 3) {us : Nat} (hrecent : s.recent p us < 3) :
    Answers (.fabPortRetrain p us) s (fun u => s.portNow u p 4 0 [] ∧
      (u.rd (Reg.fabPortStatRetrain p)).toNat = min 0xFFFFFFFF ((s.rd (Reg.fabPortStatRetrain p)).toNat + 1) ∧
      (u.fab p).unacked = (s.fab p).unacked ∧ (u.fab p).tx = (s.fab p).tx) := by
  obtain ⟨hnow, hcount⟩ := State.retrains_portNow us (State.onlyPort.refl s p _)
  refine ⟨_, congrArg Host.Outcome.next (State.enterRetrain_again hst hrecent), hnow, hcount, ?_⟩
  rw [State.fab_setPort, State.retrainedAt, State.fab_setFab_self]
  exact ⟨rfl, rfl⟩

theorem fabPortRetrain_fails (hst : s.portState p = 3) {us : Nat} (hrecent : 3 ≤ s.recent p us) :
    Answers (.fabPortRetrain p us) s (fun u => u.portState p = 5 ∧ u.fld (Reg.fabPortStatus p) 26 3 = 5 ∧
      (u.rd (Reg.fabPortStatRetrain p)).toNat = min 0xFFFFFFFF ((s.rd (Reg.fabPortStatRetrain p)).toNat + 1)) := by
  have hlive : (s.retrainedAt p us).portState p = 3 :=
    (State.portState_congr (State.rd_retrainedAt_ne _ _ _ (fabPortStatRetrain_ne_status p).symm)).trans hst
  obtain ⟨hstate, hcause⟩ := State.failPort_live_shows (.inl hlive) (c := 5) (by decide)
  refine ⟨_, congrArg Host.Outcome.next (State.enterRetrain_fails hst hrecent), hstate, hcause, ?_⟩
  rw [State.failPort_live (.inl hlive), State.rd_portFailedFault_ne _ _ (fabPort_notMem_fabFaultWords
    (by unfold Reg.fabPortStatRetrain; omega)), State.rd_dropLink,
    State.rd_setPort_ne _ _ _ (fabPortStatRetrain_ne_status p) (fabPortStatRetrain_ne_mirror p), State.rd_retrainedAt]

/-- The lane that has lost its lock. -/
def State.laneLost (s : State) (p lane : Nat) : State :=
  (s.setBit (Reg.fabPortLanes p) lane false).setBit (Reg.fabPortLanes p) (16 + lane) true

theorem laneLockLoss_retrains (hst : s.portState p = 3) {us : Nat} (lane : Fin 16) (hrecent : s.recent p us < 3) :
    Answers (.laneLockLoss p lane us) s (fun u => s.portNow u p 4 0 [] ∧
      (u.rd (Reg.fabPortStatRetrain p)).toNat = min 0xFFFFFFFF ((s.rd (Reg.fabPortStatRetrain p)).toNat + 1) ∧
      u.bit (Reg.fabPortLanes p) lane = false ∧ u.bit (Reg.fabPortLanes p) (16 + lane) = true) := by
  have hrd {a : Nat} (ha : a ≠ Reg.fabPortLanes p) : (s.laneLost p lane).rd a = s.rd a :=
    (State.rd_setBit_ne _ _ _ ha).trans (State.rd_setBit_ne _ _ _ ha)
  have hactive : (s.laneLost p lane).portState p = 3 :=
    (State.portState_congr (hrd (by unfold Reg.fabPortStatus Reg.fabPortLanes; omega))).trans hst
  have hframe : s.onlyPort (s.laneLost p lane) p (portWords p) :=
    ((State.onlyPort.refl s p _).setBit (by simp [portWords]) _ _).setBit (by simp [portWords]) _ _
  have hlanes : (((s.laneLost p lane).retrainedAt p us).setPort p 4 0).rd (Reg.fabPortLanes p) =
      (s.laneLost p lane).rd (Reg.fabPortLanes p) := by
    rw [State.rd_setPort_ne _ _ _ (by unfold Reg.fabPortStatus Reg.fabPortLanes; omega)
      (by unfold Reg.mirrorLinkStatus Reg.fabPortLanes; omega),
      State.rd_retrainedAt_ne _ _ _ (by unfold Reg.fabPortStatRetrain Reg.fabPortLanes; omega)]
  have hexec : exec (.laneLockLoss p lane us) s = .next (((s.laneLost p lane).retrainedAt p us).setPort p 4 0) :=
    congrArg Host.Outcome.next ((if_pos (.inl hst)).trans (State.enterRetrain_again hactive hrecent))
  obtain ⟨hnow, hcount⟩ := State.retrains_portNow us hframe
  refine ⟨_, hexec, hnow, ?_, ?_, ?_⟩
  · rw [hcount, hrd (by unfold Reg.fabPortStatRetrain Reg.fabPortLanes; omega)]
  · rw [State.bit_congr hlanes, State.laneLost, State.bit, State.getLsbD_setBit_ne _ _ _ _ (by omega)]
    exact State.bit_setBit _ _ _ _ (by omega)
  · rw [State.bit_congr hlanes]
    exact State.bit_setBit _ _ _ _ (by omega)

theorem retrainDone_active (hst : s.portState p = 4) : Answers (.retrainDone p) s (fun u =>
    s.portNow u p 3 0 [] ∧ u.fld (Reg.fabPortLanes p) 0 16 = 0xFFFF) :=
  ⟨_, congrArg Host.Outcome.next (if_pos hst), State.portNow_active p.isLt⟩

theorem retrainTimeout_fails (hst : s.portState p = 4) : Answers (.retrainTimeout p) s (fun u =>
    u.portState p = 5 ∧ u.fld (Reg.fabPortStatus p) 26 3 = 5) :=
  ⟨_, congrArg Host.Outcome.next (if_pos hst), State.failPort_live_shows (.inr hst) (by decide)⟩

theorem peerOrderlyClose_closes (hst : s.portState p = 2 ∨ s.portState p = 3 ∨ s.portState p = 4) :
    Answers (.peerOrderlyClose p) s (fun u => s.portNow u p 1 0 [] ∧ (u.fab p).tx = [] ∧ (u.fab p).unacked = []) := by
  refine ⟨_, congrArg Host.Outcome.next (if_pos hst), State.portNow_of p.isLt (t := s) (by decide) (by decide) (State.rd_dropLink ..)
    (((State.onlyPort.refl s p _).setPort (by simp [portWords]) (by simp [portWords]) _ _).dropLink), ?_⟩
  rw [State.fab_dropLink_self]
  exact ⟨rfl, rfl⟩

end Port

/-! ## The statement -/

/-- Settles O45, command by command. -/
theorem linksTrainAndFail : Obligations.LinksTrainAndFail := by
  unfold Obligations.LinksTrainAndFail
  intro s p
  refine ⟨fabPortEnable_enables, fabPortEnable_disables, linkTrainingStart_trains, fun _ => linkTrainingStart_noId,
    flitTrain_shows, ?_, laneLockTimeout_fails, ?_, ?_, peerOrderlyClose_closes⟩
  · intro hst id coll mir hpeer hwait
    obtain ⟨hactive, hlevels, hid, hmir⟩ := s.trainCause_eq p id coll mir
    exact ⟨fun h1 h2 h3 => linkTrainingDone_active hst hpeer hwait (hactive h1 h2 h3),
      fun h1 => linkTrainingDone_fails hst hpeer hwait (hlevels h1) (by decide) (by decide),
      fun h1 h2 => linkTrainingDone_fails hst hpeer hwait (hid h1 h2) (by decide) (by decide),
      fun h1 h2 h3 => linkTrainingDone_fails hst hpeer hwait (hmir h1 h2 h3) (by decide) (by decide)⟩
  · intro hst us
    exact ⟨fabPortRetrain_retrains hst, fabPortRetrain_fails hst, laneLockLoss_retrains hst⟩
  · intro hst
    exact ⟨retrainDone_active hst, retrainTimeout_fails hst⟩

end Sys2Proof.Machine
end

section
/-! SUPPORT. The flits of a fabric port and FAB_MODULE_ID (R403-R407, R434). That packets end in a flit, what ACK means and when
replays are counted are choices of the model (log entry 33), and so is that a write of 1 clears WRITE_IGNORED while any other later
write sets it (log entry 34). Settles O46. -/

namespace Sys2Proof.Machine

theorem State.rd_count_self (s : State) (a n : Nat) : ((s.count a n).rd a).toNat = min 0xFFFFFFFF ((s.rd a).toNat + n) := by
  rw [State.count, State.rd_wr_self, BitVec.toNat_ofNat, Nat.mod_eq_of_lt (by omega)]

/-! ## What sending leaves of the link layer -/

/-- Sending moves packets from the waiting to the unacknowledged and leaves the receiving side. -/
theorem FabPort.pump_receives (n : Nat) (x : FabPort) : (x.pump n).inbox = x.inbox ∧ (x.pump n).recvSeq = x.recvSeq := by
  induction n generalizing x with
  | zero => exact ⟨rfl, rfl⟩
  | succ n ih =>
    rw [FabPort.pump]
    split
    case h_2 => exact ⟨rfl, rfl⟩
    case h_1 y hy =>
      have hkept : y.inbox = x.inbox ∧ y.recvSeq = x.recvSeq := by
        unfold FabPort.sendOne at hy
        split at hy
        · cases hy
        · obtain ⟨_, _, rfl⟩ := Option.map_eq_some_iff.1 hy
          exact ⟨rfl, rfl⟩
      exact ⟨(ih y).1.trans hkept.1, (ih y).2.trans hkept.2⟩

/-- With no packet waiting nothing is sent. -/
theorem FabPort.pump_idle (n : Nat) {x : FabPort} (h : x.tx = []) : x.pump n = x := by
  have hnone : x.sendOne = none := by
    unfold FabPort.sendOne
    split
    · rfl
    · rw [h]
      rfl
  cases n with
  | zero => rfl
  | succ n => rw [FabPort.pump, hnone]

theorem State.fab_pump_receives (s : State) (p : Nat) :
    ((s.pump p).fab p).inbox = (s.fab p).inbox ∧ ((s.pump p).fab p).recvSeq = (s.fab p).recvSeq := by
  unfold State.pump
  split
  · rw [State.fab_setFab_self]
    exact FabPort.pump_receives 512 _
  · exact ⟨rfl, rfl⟩

theorem State.fab_pump_idle {s : State} {p : Nat} (h : (s.fab p).tx = []) : (s.pump p).fab p = s.fab p := by
  unfold State.pump
  split
  · rw [State.fab_setFab_self, FabPort.pump_idle _ h]
  · rfl

theorem FabPort.acked_receives (x : FabPort) (ack : Nat) : (x.acked ack).inbox = x.inbox ∧ (x.acked ack).recvSeq = x.recvSeq ∧
    (x.acked ack).tx = x.tx ∧ (x.acked ack).credits = x.credits := by
  unfold FabPort.acked
  split <;> exact ⟨rfl, rfl, rfl, rfl⟩

/-- A SEQ that names no flit acknowledges nothing. -/
theorem FabPort.acked_none {x : FabPort} {ack : Nat} (h : x.unacked.findIdx? (fun g => g.1 == ack) = none) : x.acked ack = x := by
  rw [FabPort.acked, h]

/-! ## The commands -/

section Port
variable {s : State} {p : PortId} (h : s.portState p = 3) (f : Flit)

/-- The corrected codewords of a flit are counted (R404). -/
def State.flitCounted (s : State) (p : Nat) (f : Flit) : State := s.count (Reg.fabPortStatCe p) f.corrected.val

theorem State.rd_flitCounted (s : State) (p : Nat) (f : Flit) : ((s.flitCounted p f).rd (Reg.fabPortStatCe p)).toNat =
    min 0xFFFFFFFF ((s.rd (Reg.fabPortStatCe p)).toNat + f.corrected.val) := State.rd_count_self ..

theorem State.flitCounted_onlyPort (s : State) (p : Nat) (f : Flit) :
    s.onlyPort (s.flitCounted p f) p [Reg.fabPortStatCe p] := (State.onlyPort.refl s p _).count List.mem_cons_self _

theorem State.portState_flitCounted (s : State) (p : PortId) (f : Flit) : (s.flitCounted p f).portState p = s.portState p :=
  State.portState_congr (State.rd_count_ne _ _ (by unfold Reg.fabPortStatus Reg.fabPortStatCe; omega))

theorem State.onlyPort.flitBack {s u : State} {p : Nat} {as : List Nat} (hu : s.onlyPort u p as) (f : Flit) :
    s.onlyPort (u.flitBack p f) p as := (hu.setFab _).pump

theorem State.rd_flitBack (s : State) (p : Nat) (f : Flit) (a : Nat) : (s.flitBack p f).rd a = s.rd a := State.rd_pump ..

theorem State.fab_flitBack_receives (s : State) (p : Nat) (f : Flit) :
    ((s.flitBack p f).fab p).inbox = (s.fab p).inbox ∧ ((s.flitBack p f).fab p).recvSeq = (s.fab p).recvSeq := by
  obtain ⟨hinbox, hrecv⟩ := State.fab_pump_receives (s.setFab p (((s.fab p).acked f.ack).credited f.credits)) p
  obtain ⟨hinbox', hrecv', -⟩ := (s.fab p).acked_receives f.ack
  rw [State.fab_setFab_self] at hinbox hrecv
  exact ⟨hinbox.trans hinbox', hrecv.trans hrecv'⟩

/-- The packets of a flit in sequence join those received. -/
def State.flitTaken (s : State) (p : Nat) (f : Flit) : State :=
  ((s.flitCounted p f).flitBack p f).setFab p { ((s.flitCounted p f).flitBack p f).fab p with
    recvSeq := (((s.flitCounted p f).flitBack p f).fab p).recvSeq.succ % 4096, nakSent := false,
    inbox := (((s.flitCounted p f).flitBack p f).fab p).inbox ++ f.pkts }

include h

theorem exec_flitData_good {f : Flit} (hbad : f.bad = false) (hseq : f.seq = (s.fab p).recvSeq)
    (hknown : ∀ k ∈ f.pkts, knownPacket k = true) : exec (.flitData p f) s = .next (s.flitTaken p f) := by
  have hall : f.pkts.filter knownPacket = f.pkts := List.filter_eq_self.2 hknown
  have hnone : f.pkts.filter (fun k => !knownPacket k) = [] := List.filter_eq_nil_iff.2 (by simpa using hknown)
  refine congrArg Host.Outcome.next ((if_pos h).trans ?_)
  dsimp only
  refine (if_pos ?_).trans ?_
  · simp only [hbad, Bool.not_false, Bool.true_and, beq_iff_eq]
    exact hseq
  · rw [hall, hnone]
    exact ite_self _

theorem flitData_taken {f : Flit} (hbad : f.bad = false) (hseq : f.seq = (s.fab p).recvSeq)
    (hknown : ∀ k ∈ f.pkts, knownPacket k = true) : Answers (.flitData p f) s (fun u =>
      (u.fab p).inbox = (s.fab p).inbox ++ f.pkts ∧ (u.fab p).recvSeq = ((s.fab p).recvSeq + 1) % 4096 ∧ (u.fab p).nakSent = false ∧
      (u.rd (Reg.fabPortStatCe p)).toNat = min 0xFFFFFFFF ((s.rd (Reg.fabPortStatCe p)).toNat + f.corrected.val) ∧
      s.onlyRegs { u with fabPorts := s.fabPorts } [Reg.fabPortStatCe p]) := by
  obtain ⟨hinbox, hrecv⟩ := (s.flitCounted p f).fab_flitBack_receives p f
  have hframe := (((s.flitCounted_onlyPort p f).flitBack f).setFab
    { ((s.flitCounted p f).flitBack p f).fab p with
      recvSeq := (((s.flitCounted p f).flitBack p f).fab p).recvSeq.succ % 4096, nakSent := false,
      inbox := (((s.flitCounted p f).flitBack p f).fab p).inbox ++ f.pkts })
  refine ⟨_, exec_flitData_good h hbad hseq hknown, ?_, ?_, ?_, ?_, hframe.regs⟩
  · rw [State.flitTaken, State.fab_setFab_self]
    exact congrArg (· ++ f.pkts) hinbox
  · rw [State.flitTaken, State.fab_setFab_self]
    exact congrArg (fun n => (n + 1) % 4096) hrecv
  · rw [State.flitTaken, State.fab_setFab_self]
  · rw [State.flitTaken, State.rd_setFab, State.rd_flitBack, State.rd_flitCounted]

theorem flitData_refused {f : Flit} (hbad : f.bad = true ∨ f.seq ≠ (s.fab p).recvSeq) : Answers (.flitData p f) s (fun u =>
      u.fab p = { s.fab p with nakSent := true } ∧
      (u.rd (Reg.fabPortStatCe p)).toNat = min 0xFFFFFFFF ((s.rd (Reg.fabPortStatCe p)).toNat + f.corrected.val) ∧
      s.onlyRegs { u with fabPorts := s.fabPorts } [Reg.fabPortStatCe p]) := by
  have hexec : exec (.flitData p f) s = .next ((s.flitCounted p f).setFab p { s.fab p with nakSent := true }) := by
    refine congrArg Host.Outcome.next ((if_pos h).trans (if_neg ?_))
    simp only [Bool.and_eq_true, Bool.not_eq_true', beq_iff_eq, not_and]
    intro hgood
    exact hbad.resolve_left (by simp [hgood])
  exact ⟨_, hexec, State.fab_setFab_self .., s.rd_flitCounted p f,
    ((s.flitCounted_onlyPort p f).setFab _).regs⟩

theorem flitIdle_acknowledges (htx : (s.fab p).tx = []) {f : Flit} (hbad : f.bad = false) : Answers (.flitIdle p f) s (fun u =>
      (u.fab p).unacked = ((s.fab p).acked f.ack).unacked ∧
      (u.fab p).credits = (List.range 6).map (fun v => min 256 ((s.fab p).credits.getD v 0 + f.credits.getD v 0)) ∧
      (u.fab p).inbox = (s.fab p).inbox ∧ (u.fab p).recvSeq = (s.fab p).recvSeq ∧
      (u.rd (Reg.fabPortStatCe p)).toNat = min 0xFFFFFFFF ((s.rd (Reg.fabPortStatCe p)).toNat + f.corrected.val) ∧
      s.onlyRegs { u with fabPorts := s.fabPorts } [Reg.fabPortStatCe p]) := by
  have hexec : exec (.flitIdle p f) s = .next ((s.flitCounted p f).flitBack p f) :=
    congrArg Host.Outcome.next ((if_pos h).trans (if_neg (by simp [hbad])))
  obtain ⟨hinbox, hrecv, htx', hcredits⟩ := (s.fab p).acked_receives f.ack
  have hfab : ((s.flitCounted p f).flitBack p f).fab p = ((s.fab p).acked f.ack).credited f.credits := by
    have hidle : (((s.flitCounted p f).setFab p (((s.fab p).acked f.ack).credited f.credits)).fab p).tx = [] := by
      rw [State.fab_setFab_self]
      exact htx'.trans htx
    exact (State.fab_pump_idle hidle).trans (State.fab_setFab_self ..)
  refine ⟨_, hexec, ?_, ?_, ?_, ?_, ?_, ((s.flitCounted_onlyPort p f).flitBack f).regs⟩
  · rw [hfab, FabPort.credited]
  · rw [hfab, FabPort.credited, hcredits]
  · rw [hfab]
    exact hinbox
  · rw [hfab]
    exact hrecv
  · rw [State.rd_flitBack, State.rd_flitCounted]

/-- A NAK that acknowledges nothing has every unacknowledged flit sent again, and is counted in a row with those before it. -/
def State.nakTaken (s : State) (p : Nat) (f : Flit) : State :=
  ((s.flitCounted p f).setFab p { (s.fab p).credited f.credits with replays := (s.fab p).replays + 1 }).count
    (Reg.fabPortStatReplay p) (s.fab p).unacked.length

omit h in
theorem State.portState_nakTaken (s : State) (p : PortId) (f : Flit) : (s.nakTaken p f).portState p = s.portState p := by
  rw [← s.portState_flitCounted p f]
  exact State.portState_congr (State.rd_count_ne _ _ (by unfold Reg.fabPortStatus Reg.fabPortStatReplay; omega))

omit h in
theorem State.fab_nakTaken (s : State) (p : Nat) (f : Flit) :
    (s.nakTaken p f).fab p = { (s.fab p).credited f.credits with replays := (s.fab p).replays + 1 } := State.fab_setFab_self ..

omit h in
theorem State.rd_nakTaken (s : State) (p : PortId) (f : Flit) : ((s.nakTaken p f).rd (Reg.fabPortStatReplay p)).toNat =
    min 0xFFFFFFFF ((s.rd (Reg.fabPortStatReplay p)).toNat + (s.fab p).unacked.length) := by
  have hce : Reg.fabPortStatReplay p ≠ Reg.fabPortStatCe p := by unfold Reg.fabPortStatReplay Reg.fabPortStatCe; omega
  rw [State.nakTaken, State.rd_count_self, State.rd_setFab, State.flitCounted, State.rd_count_ne _ _ hce]

theorem exec_flitNak {f : Flit} (hbad : f.bad = false)
    (hnone : (s.fab p).unacked.findIdx? (fun g => g.1 == (f.seq + 4095) % 4096) = none) (us : Nat) :
    exec (.flitNak p f us) s = .next (if 8 ≤ (s.fab p).replays + 1 then (s.nakTaken p f).enterRetrain p us
      else (s.nakTaken p f).pump p) := by
  refine congrArg Host.Outcome.next ((if_pos h).trans ((if_neg (by simp [hbad])).trans ?_))
  have hacked : ((s.flitCounted p f).fab p).acked ((f.seq + 4095) % 4096) = s.fab p := FabPort.acked_none hnone
  have hreplays : ((s.nakTaken p f).fab p).replays = (s.fab p).replays + 1 := congrArg FabPort.replays (s.fab_nakTaken p f)
  rw [← hreplays]
  dsimp only [State.flitCounted] at hacked
  dsimp only
  rw [hacked]
  rfl

theorem flitNak_replays {f : Flit} {us : Nat} (hbad : f.bad = false)
    (hnone : (s.fab p).unacked.findIdx? (fun g => g.1 == (f.seq + 4095) % 4096) = none) (hfew : (s.fab p).replays < 7)
    (htx : (s.fab p).tx = []) : Answers (.flitNak p f us) s (fun u => (u.fab p).replays = (s.fab p).replays + 1 ∧
      (u.fab p).unacked = (s.fab p).unacked ∧ u.portState p = 3 ∧ (u.rd (Reg.fabPortStatReplay p)).toNat =
        min 0xFFFFFFFF ((s.rd (Reg.fabPortStatReplay p)).toNat + (s.fab p).unacked.length)) := by
  have hfab : ((s.nakTaken p f).pump p).fab p = { (s.fab p).credited f.credits with replays := (s.fab p).replays + 1 } := by
    rw [State.fab_pump_idle (by rw [State.fab_nakTaken]; exact htx), State.fab_nakTaken]
  refine ⟨_, (exec_flitNak h hbad hnone us).trans (congrArg Host.Outcome.next (if_neg (by omega))), ?_, ?_, ?_, ?_⟩
  · rw [hfab]
  · rw [hfab]
    rfl
  · exact (State.portState_congr (State.rd_pump ..)).trans ((s.portState_nakTaken p f).trans h)
  · rw [State.rd_pump, State.rd_nakTaken]

theorem flitNak_retrains {f : Flit} {us : Nat} (hbad : f.bad = false)
    (hnone : (s.fab p).unacked.findIdx? (fun g => g.1 == (f.seq + 4095) % 4096) = none) (hmany : 7 ≤ (s.fab p).replays)
    (hrecent : s.recent p us < 3) : Answers (.flitNak p f us) s (fun u => u.portState p = 4) := by
  have hactive : (s.nakTaken p f).portState p = 3 := (s.portState_nakTaken p f).trans h
  have hrecent' : (s.nakTaken p f).recent p us < 3 := by
    rw [State.recent, State.fab_nakTaken]
    exact hrecent
  refine ⟨_, (exec_flitNak h hbad hnone us).trans (congrArg Host.Outcome.next (if_pos (by omega))), ?_⟩
  rw [State.enterRetrain_again hactive hrecent']
  exact State.portState_setPort _ p.isLt (by decide) _

end Port

/-! ## FAB_MODULE_ID (R407, R434) -/

theorem fabModuleIdWrite_first {s : State} (h : s.bit Reg.fabModuleId 31 = false) (v : Word) :
    Answers (.fabModuleIdWrite v) s (fun u => u.ownId = fieldOf v 0 11 ∧ u.bit Reg.fabModuleId 31 = true ∧
      s.sameBits u Reg.fabModuleId (fun j => 11 ≤ j ∧ j < 31) ∧ s.onlyRegs u [Reg.fabModuleId]) := by
  refine ⟨_, congrArg Host.Outcome.next (if_neg (by simp [h])), ?_, State.bit_setBit _ _ _ _ (by decide), ?_,
    ((State.onlyRegs.refl s _).setFld List.mem_cons_self _ _ _).setBit List.mem_cons_self _ _⟩
  · rw [State.ownId, State.setBit, State.fld_setFld_ne _ _ _ _ _ _ _ (by omega),
      State.fld_setFld_of_lt _ _ (by decide) (fieldOf_lt ..)]
  · intro j hj
    rw [State.getLsbD_setBit_ne _ _ _ _ (by omega), State.getLsbD_setFld_out _ _ _ (by omega)]

theorem fabModuleIdWrite_later {s : State} (h : s.bit Reg.fabModuleId 31 = true) (v : Word) :
    Answers (.fabModuleIdWrite v) s (fun u => u.bit Reg.fabModuleId 30 = !v.getLsbD 30 ∧
      s.sameBits u Reg.fabModuleId (fun j => j ≠ 30) ∧ s.onlyRegs u [Reg.fabModuleId]) :=
  ⟨_, congrArg Host.Outcome.next (if_pos h), State.bit_setBit _ _ _ _ (by decide), s.setBit_sameBits _ 30 _,
    (State.onlyRegs.refl s _).setBit List.mem_cons_self _ _⟩

/-- Settles O46, flit by flit. -/
theorem flitsInSequence : Obligations.FlitsInSequence := by
  unfold Obligations.FlitsInSequence
  intro s
  refine ⟨fun p f h => ⟨flitData_taken h, flitData_refused h, fun htx hbad => ?_, fun us hbad hnone => ?_⟩,
    fun v => ⟨fun h => fabModuleIdWrite_first h v, fun h => fabModuleIdWrite_later h v⟩⟩
  · obtain ⟨u, hexec, hleft, hrest⟩ := flitIdle_acknowledges h htx hbad
    refine ⟨u, hexec, hleft.trans ?_, hrest⟩
    cases hfind : (s.fab p).unacked.findIdx? (fun g => g.1 == f.ack) <;> simp only [FabPort.acked, hfind]
  · exact ⟨flitNak_replays h hbad hnone, flitNak_retrains h hbad hnone⟩

end Sys2Proof.Machine
end

section
/-! SUPPORT. SVN_COMMIT (R521): the conditions under which it blows the fuses, and what it shows in SEC_SVN. Settles O55. -/

namespace Sys2Proof.Machine

theorem State.fwActive_lt (s : State) : s.fwActive < 2 := fieldOf_lt ..

/-- The SVN of firmware slot `i`. -/
def State.fwSvn (s : State) (i : Nat) : Nat := leNat (((s.fwSlot i).drop 8).take 1)

/-- The active slot has KEY_INDEX 1 and REVOKE_KEY0 set. -/
def State.revokesKey0 (s : State) : Bool :=
  leNat (((s.fwSlot s.fwActive).drop 9).take 1) == 1 && (leNat (((s.fwSlot s.fwActive).drop 10).take 1)).testBit 0

/-- Both slots verify, with an SVN at or above that of the active one. -/
def State.svnReady (s : State) : Bool :=
  [0, 1].all (fun i => s.verifyFw (s.fwSlot i) == fwOk && s.fwSvn s.fwActive ≤ s.fwSvn i)

/-- The SVN of the active slot meets its own bound, so the other slot decides. -/
theorem State.svnReady_iff (s : State) : s.svnReady = true ↔
    s.verifyFw (s.fwSlot 0) = fwOk ∧ s.verifyFw (s.fwSlot 1) = fwOk ∧ s.fwSvn s.fwActive ≤ s.fwSvn (1 - s.fwActive) := by
  have hactive : s.fwActive = 0 ∨ s.fwActive = 1 := by have := s.fwActive_lt; omega
  simp only [State.svnReady, List.all_cons, List.all_nil, Bool.and_true, Bool.and_eq_true, beq_iff_eq, decide_eq_true_eq]
  rcases hactive with h | h
  · simp only [h, le_refl, and_true, Nat.sub_zero]
  · simp only [h, le_refl, and_true, Nat.sub_self, and_assoc]
    tauto

theorem State.svnCommit_ignored {s : State} {v : Word} (h : fieldOf v 16 16 ≠ 0xA5C3 ∨ v.getLsbD 0 = false) : s.svnCommit v = s := by
  refine if_pos ?_
  simpa using h

/-- The fuses are blown and shown. -/
def State.svnBlown (s : State) : State :=
  State.showSvn { s with svnMin := s.fwSvn s.fwActive, revoked := if s.revokesKey0 then s.revoked ||| 1 else s.revoked }

theorem State.svnCommit_accepted {s : State} {v : Word} (hkey : fieldOf v 16 16 = 0xA5C3) (hbit : v.getLsbD 0 = true) :
    s.svnCommit v = if s.svnReady then s.svnBlown else s.setBit Reg.secSvn 31 true := by
  refine (if_neg ?_).trans rfl
  simp [hkey, hbit]

theorem State.showSvn_onlyRegs (s : State) : s.onlyRegs s.showSvn [Reg.secSvn] :=
  (((State.onlyRegs.refl s _).setFld List.mem_cons_self _ _ _).setFld List.mem_cons_self _ _ _).setFld List.mem_cons_self _ _ _

theorem exec_svnCommit_ignored {s : State} {v : Word} (h : fieldOf v 16 16 ≠ 0xA5C3 ∨ v.getLsbD 0 = false) :
    exec (.svnCommit v) s = .next s :=
  congrArg Host.Outcome.next ((congrArg (ite _ · s) (State.svnCommit_ignored h)).trans (ite_self s))

section Accepted
variable {s : State} {v : Word} (hkey : fieldOf v 16 16 = 0xA5C3) (hbit : v.getLsbD 0 = true) (hup : s.collarUp = true)
include hkey hbit hup

theorem svnCommit_blows (hready : s.svnReady = true) : Answers (.svnCommit v) s (fun u => u.svnMin = s.fwSvn s.fwActive ∧
    u.revoked = (if s.revokesKey0 then s.revoked ||| 1 else s.revoked) ∧ u.fwSlots = s.fwSlots ∧
    s.onlyRegs { u with svnMin := s.svnMin, revoked := s.revoked } [Reg.secSvn]) := by
  have hexec : exec (.svnCommit v) s = .next s.svnBlown :=
    congrArg Host.Outcome.next ((if_pos hup).trans ((State.svnCommit_accepted hkey hbit).trans (if_pos hready)))
  exact ⟨_, hexec, rfl, rfl, rfl, rfl, (State.showSvn_onlyRegs _).2⟩

theorem svnCommit_refused (hready : s.svnReady = false) : Answers (.svnCommit v) s (fun u => u.svnMin = s.svnMin ∧
    u.revoked = s.revoked ∧ u.bit Reg.secSvn 31 = true ∧ s.sameBits u Reg.secSvn (fun j => j ≠ 31) ∧ s.onlyRegs u [Reg.secSvn]) := by
  have hexec : exec (.svnCommit v) s = .next (s.setBit Reg.secSvn 31 true) :=
    congrArg Host.Outcome.next ((if_pos hup).trans ((State.svnCommit_accepted hkey hbit).trans (if_neg (by simp [hready]))))
  exact ⟨_, hexec, rfl, rfl, State.bit_setBit _ _ _ _ (by decide), s.setBit_sameBits _ 31 _,
    (State.onlyRegs.refl s _).setBit List.mem_cons_self _ _⟩

end Accepted

/-- Settles O55: SVN_COMMIT blows the fuses where both slots are ready, and no step takes a fuse back. -/
theorem svnCommitBlowsFuses : Obligations.SvnCommitBlowsFuses := by
  unfold Obligations.SvnCommitBlowsFuses
  refine ⟨fun s v => ⟨exec_svnCommit_ignored, fun hkey hbit hup => ⟨fun hok => ?_, fun hok => ?_⟩⟩, fun s u h => (step_keeps h).2.2⟩
  · obtain ⟨u, hexec, hmin, hrevoked, hrest⟩ := svnCommit_blows hkey hbit hup (s.svnReady_iff.2 hok)
    refine ⟨u, hexec, hmin, hrevoked.trans ?_, hrest⟩
    simp only [State.revokesKey0, Bool.and_eq_true, beq_iff_eq]
  · exact svnCommit_refused hkey hbit hup (Bool.eq_false_iff.2 (fun h => hok (s.svnReady_iff.1 h)))

end Sys2Proof.Machine
end

section
/-! SUPPORT. Power domains (R501-R504, R507): what switching a domain changes and leaves, and the frame of the operations that
switch units off. -/

namespace Sys2Proof.Machine

/-! ## The frame of what units hold -/

/-- The state without what tiles, panels and ports hold. -/
def State.outsideUnits (s : State) : State :=
  { s with regs := [], staged := [], pocket := [], pocketErr := [], tiles := [], insts := [], lockWait := [], fabWait := [],
           answers := [], fabPorts := [] }

/-- `u` differs from `s` only in what tiles, panels and ports hold and in register words outside `keep`; the Pockets are as
they were where `mem` says so. -/
structure State.onlyUnits (s : State) (mem : Prop) (keep : Set Nat) (u : State) : Prop where
  rest : u.outsideUnits = s.outsideUnits
  pocket : mem → u.pocket = s.pocket
  rd : ∀ a ∈ keep, u.rd a = s.rd a

theorem State.onlyUnits.refl (s : State) (mem : Prop) (keep : Set Nat) : s.onlyUnits mem keep s :=
  ⟨rfl, fun _ => rfl, fun _ _ => rfl⟩

section Frame
variable {s u : State} {mem : Prop} {keep : Set Nat} (h : s.onlyUnits mem keep u)
include h

theorem State.onlyUnits.trans {v : State} (h' : u.onlyUnits mem keep v) : s.onlyUnits mem keep v :=
  ⟨h'.rest.trans h.rest, fun hm => (h'.pocket hm).trans (h.pocket hm), fun a ha => (h'.rd a ha).trans (h.rd a ha)⟩

theorem State.onlyUnits.mono {keep' : Set Nat} (hsub : keep' ⊆ keep) : s.onlyUnits mem keep' u :=
  ⟨h.rest, h.pocket, fun a ha => h.rd a (hsub ha)⟩

theorem State.onlyUnits.weaken {mem' : Prop} (hmem : mem' → mem) : s.onlyUnits mem' keep u :=
  ⟨h.rest, fun hm => h.pocket (hmem hm), h.rd⟩

/-- Registers and Pockets are as in the state before. -/
theorem State.onlyUnits.unitsSet {v : State} (hrest : v.outsideUnits = u.outsideUnits) (hpocket : v.pocket = u.pocket)
    (hregs : v.regs = u.regs) : s.onlyUnits mem keep v :=
  ⟨hrest.trans h.rest, fun hm => hpocket.trans (h.pocket hm), fun a ha => (State.rd_of_regs hregs a).trans (h.rd a ha)⟩

theorem State.onlyUnits.wr {a : Nat} (ha : a ∉ keep) (v : Word) : s.onlyUnits mem keep (u.wr a v) :=
  ⟨h.rest, h.pocket, fun b hb => (State.rd_wr_ne u v (ne_of_mem_of_not_mem hb ha)).trans (h.rd b hb)⟩

theorem State.onlyUnits.setFld {a : Nat} (ha : a ∉ keep) (lo len v : Nat) : s.onlyUnits mem keep (u.setFld a lo len v) :=
  h.wr ha _

theorem State.onlyUnits.setBit {a : Nat} (ha : a ∉ keep) (i : Nat) (b : Bool) : s.onlyUnits mem keep (u.setBit a i b) :=
  h.wr ha _

theorem State.onlyUnits.setTile (t : Nat) (x : Tile) : s.onlyUnits mem keep (u.setTile t x) := h.unitsSet rfl rfl rfl

/-- Words outside the kept ones return to their reset values. -/
theorem State.onlyUnits.forget {p : Nat → Bool} (hp : ∀ a ∈ keep, p a = false) : s.onlyUnits mem keep (u.forget p) := by
  refine ⟨h.rest, h.pocket, fun a ha => ?_⟩
  have hkept : (u.forget p).rd a = u.rd a := by
    have := tfind_filter u.regs (fun a => !p a) a
    rw [hp a ha] at this
    rw [State.rd, State.forget, tget, this]
    rfl
  exact hkept.trans (h.rd a ha)

theorem State.onlyUnits.dropLink (p : Nat) : s.onlyUnits mem keep (u.dropLink p) := h.unitsSet rfl rfl rfl

theorem State.onlyUnits.setPort {p : Nat} (hst : Reg.fabPortStatus p ∉ keep) (hmirror : Reg.mirrorLinkStatus ∉ keep)
    (st c : Nat) : s.onlyUnits mem keep (u.setPort p st c) := by
  have hset := (h.setFld hst 29 3 st).setFld hst 26 3 c
  unfold State.setPort
  dsimp only
  split
  · exact hset.setBit hmirror _ _
  · exact hset

theorem State.onlyUnits.slots : u.slots = s.slots := (congrArg State.slots h.rest : _)
theorem State.onlyUnits.cmds : u.cmds = s.cmds := (congrArg State.cmds h.rest : _)
theorem State.onlyUnits.hbm : u.hbm = s.hbm := (congrArg State.hbm h.rest : _)
theorem State.onlyUnits.loading : u.loading = s.loading := (congrArg State.loading h.rest : _)
theorem State.onlyUnits.perst : u.perst = s.perst := (congrArg State.perst h.rest : _)
theorem State.onlyUnits.fwSlots : u.fwSlots = s.fwSlots := (congrArg State.fwSlots h.rest : _)
theorem State.onlyUnits.stops : u.stops = s.stops := (congrArg State.stops h.rest : _)
theorem State.onlyUnits.stopped : u.stopped = s.stopped := (congrArg State.stopped h.rest : _)

theorem State.onlyUnits.slot (q : Nat) : u.slot q = s.slot q := by
  rw [State.slot, h.slots, State.slot]

end Frame

theorem State.onlyUnits.zeroPocket {s u : State} {keep : Set Nat} (h : s.onlyUnits False keep u) (t off len : Nat) :
    s.onlyUnits False keep (u.zeroPocket t off len) :=
  ⟨h.rest, False.elim, h.rd⟩

/-! ## Switching a domain (R501) -/

/-- The words of tiles and panels, with those that the number of a lock can name. -/
def Reg.unitBlock : Set Nat := {a | 0x1000000 ≤ a ∧ (a < 0x2040000 ∨ 0xC000 ≤ a % 0x10000 ∧ a % 0x10000 < 0xC080)}

/-- The words that switching a power domain leaves: all but those of tiles and panels, and the states of the ports. -/
def Reg.poweredBlock : Set Nat :=
  {a | a ∉ Reg.unitBlock ∧ a ≠ Reg.mirrorLinkStatus ∧ ∀ p, p < 18 → a ≠ Reg.fabPortStatus p}

theorem Reg.mem_poweredBlock_of_lt {a : Nat} (h : a < 0x1000000) : a ∈ Reg.poweredBlock := by
  refine ⟨fun hu => ?_, ?_, fun p _ => ?_⟩
  · have := hu.1
    omega
  · rw [Reg.mirrorLinkStatus]
    omega
  · rw [Reg.fabPortStatus]
    omega

theorem Reg.mem_poweredBlock_of_ge {a : Nat} (h : 0x4000000 ≤ a) (hlock : a % 0x10000 < 0xC000) : a ∈ Reg.poweredBlock := by
  refine ⟨fun hu => ?_, ?_, fun p hp => ?_⟩
  · have := hu.2
    omega
  · rw [Reg.mirrorLinkStatus]
    omega
  · rw [Reg.fabPortStatus]
    omega

theorem Reg.pocketPwrStatus_notMem_poweredBlock {t : Nat} (h : t < 256) : Reg.pocketPwrStatus t ∉ Reg.poweredBlock := by
  refine fun hm => hm.1 ⟨?_, Or.inl ?_⟩ <;> rw [Reg.pocketPwrStatus] <;> omega

theorem Reg.fabPortStatus_notMem_poweredBlock {p : Nat} (h : p < 18) : Reg.fabPortStatus p ∉ Reg.poweredBlock :=
  fun hm => hm.2.2 p h rfl

theorem Reg.mirrorLinkStatus_notMem_poweredBlock : Reg.mirrorLinkStatus ∉ Reg.poweredBlock := fun hm => hm.2.1 rfl

section Power
variable {s u : State} (h : s.onlyUnits False Reg.poweredBlock u)
include h

theorem State.onlyUnits.closePort {p : Nat} (hp : p < 18) : s.onlyUnits False Reg.poweredBlock (u.closePort p) :=
  (h.setPort (Reg.fabPortStatus_notMem_poweredBlock hp) Reg.mirrorLinkStatus_notMem_poweredBlock _ _).dropLink p

theorem State.onlyUnits.settlePort {p : Nat} (hp : p < 18) : s.onlyUnits False Reg.poweredBlock (u.settlePort p) := by
  unfold State.settlePort
  split_ifs
  · exact h.setPort (Reg.fabPortStatus_notMem_poweredBlock hp) Reg.mirrorLinkStatus_notMem_poweredBlock _ _
  · exact h
  · exact h
  · exact h.closePort hp

theorem State.onlyUnits.settlePorts (d : Nat) : s.onlyUnits False Reg.poweredBlock
    ((List.range 18).foldl (fun s p => if portDomain p = d then s.settlePort p else s) u) := by
  refine List.foldlRecOn (List.range 18) _ h (fun v hv p hp => ?_)
  split_ifs
  · exact hv.settlePort (List.mem_range.1 hp)
  · exact hv

end Power

/-- The bits of domain `d` in PWR_DOMAIN_ON and PWR_DOMAIN_WAKING are set: it is on or off, and it does not wake. -/
def State.switched (s : State) (d : Nat) (on : Bool) : State :=
  (s.setBit Reg.pwrDomainOn (d - 1) on).setBit Reg.pwrDomainWaking (d - 1) false

/-- The words of the tiles of panel `p` and of the panel itself. -/
def panelBlockWord (p a : Nat) : Bool :=
  (0x1000000 + 0x400000 * p ≤ a && a < 0x1000000 + 0x400000 * (p + 1)) ||
    (0x2000000 + 0x10000 * p ≤ a && a < 0x2000000 + 0x10000 * (p + 1))

theorem panelBlockWord_eq_false {p a : Nat} (ha : a ∈ Reg.poweredBlock) (hp : p < 4) : panelBlockWord p a = false := by
  have hout : ¬ (0x1000000 ≤ a ∧ a < 0x2040000) := fun hin => ha.1 ⟨hin.1, Or.inl hin.2⟩
  rw [panelBlockWord, Bool.or_eq_false_iff, Bool.and_eq_false_iff, Bool.and_eq_false_iff]
  simp only [decide_eq_false_iff_not]
  omega

/-- Beside its two bits, a domain that switches off changes what its units hold. -/
theorem State.domainOff_switched (s : State) (d : Nat) : (s.switched d false).onlyUnits False Reg.poweredBlock (s.domainOff d) := by
  have hrefl := State.onlyUnits.refl (s.switched d false) False Reg.poweredBlock
  unfold State.domainOff
  dsimp only
  split_ifs with hpocket hcompute hport
  · refine List.foldlRecOn (List.range 64) _ hrefl (fun v hv j hj => ?_)
    have hj := List.mem_range.1 hj
    exact (hv.zeroPocket _ _ _).setFld (Reg.pocketPwrStatus_notMem_poweredBlock (by omega)) _ _ _
  · exact (hrefl.forget (p := panelBlockWord (d - 13)) (fun a ha => panelBlockWord_eq_false ha (by omega))).unitsSet rfl rfl rfl
  · exact hrefl.settlePorts d
  · exact hrefl

/-- Beside its two bits, a domain that is on again changes what its units hold. -/
theorem State.domainUp_switched (s : State) (d : Nat) : (s.switched d true).onlyUnits False Reg.poweredBlock (s.domainUp d) := by
  have hrefl := State.onlyUnits.refl (s.switched d true) False Reg.poweredBlock
  unfold State.domainUp
  dsimp only
  split_ifs with hpocket hport
  · refine List.foldlRecOn (List.range 64) _ hrefl (fun v hv j hj => ?_)
    have hj := List.mem_range.1 hj
    exact hv.setFld (Reg.pocketPwrStatus_notMem_poweredBlock (by omega)) _ _ _
  · exact hrefl.settlePorts d
  · exact hrefl

/-! ## Which domains are on -/

/-- A domain switched with another is as it was. -/
theorem State.domainOn_switched (s : State) (d e : Nat) (on : Bool) (hd : d ≤ 32) :
    (s.switched d on).domainOn e = if e - 1 = d - 1 then on else s.domainOn e := by
  have hword : (s.switched d on).rd Reg.pwrDomainOn = (s.setBit Reg.pwrDomainOn (d - 1) on).rd Reg.pwrDomainOn :=
    State.rd_setBit_ne _ _ _ (by decide)
  rw [State.domainOn, State.bit_congr hword]
  split
  · next heq => rw [heq, State.bit_setBit _ _ _ _ (by omega)]
  · next hne => exact State.getLsbD_setBit_ne _ _ _ _ hne

theorem State.domainWaking_switched (s : State) (d e : Nat) (on : Bool) (hd : d ≤ 32) :
    (s.switched d on).domainWaking e = if e - 1 = d - 1 then false else s.domainWaking e := by
  have hword : (s.setBit Reg.pwrDomainOn (d - 1) on).rd Reg.pwrDomainWaking = s.rd Reg.pwrDomainWaking :=
    State.rd_setBit_ne _ _ _ (by decide)
  rw [State.domainWaking, State.switched]
  split
  · next heq => rw [heq, State.bit_setBit _ _ _ _ (by omega)]
  · next hne =>
    rw [State.bit, State.getLsbD_setBit_ne _ _ _ _ hne, hword]
    rfl

theorem Reg.pwrDomainOn_mem : Reg.pwrDomainOn ∈ Reg.poweredBlock := Reg.mem_poweredBlock_of_lt (by decide)
theorem Reg.pwrDomainWaking_mem : Reg.pwrDomainWaking ∈ Reg.poweredBlock := Reg.mem_poweredBlock_of_lt (by decide)

theorem State.onlyUnits.domainOn {s u : State} {mem : Prop} (h : s.onlyUnits mem Reg.poweredBlock u) (e : Nat) :
    u.domainOn e = s.domainOn e :=
  State.bit_congr (h.rd _ Reg.pwrDomainOn_mem) _

theorem State.onlyUnits.domainWaking {s u : State} {mem : Prop} (h : s.onlyUnits mem Reg.poweredBlock u) (e : Nat) :
    u.domainWaking e = s.domainWaking e :=
  State.bit_congr (h.rd _ Reg.pwrDomainWaking_mem) _

theorem State.domainOn_domainOff (s : State) {d : Nat} (e : Nat) (hd : d ≤ 32) :
    (s.domainOff d).domainOn e = if e - 1 = d - 1 then false else s.domainOn e :=
  ((s.domainOff_switched d).domainOn e).trans (s.domainOn_switched d e false hd)

theorem State.domainWaking_domainOff (s : State) {d : Nat} (e : Nat) (hd : d ≤ 32) :
    (s.domainOff d).domainWaking e = if e - 1 = d - 1 then false else s.domainWaking e :=
  ((s.domainOff_switched d).domainWaking e).trans (s.domainWaking_switched d e false hd)

theorem State.domainOn_domainUp (s : State) {d : Nat} (e : Nat) (hd : d ≤ 32) :
    (s.domainUp d).domainOn e = if e - 1 = d - 1 then true else s.domainOn e :=
  ((s.domainUp_switched d).domainOn e).trans (s.domainOn_switched d e true hd)

theorem State.domainWaking_domainUp (s : State) {d : Nat} (e : Nat) (hd : d ≤ 32) :
    (s.domainUp d).domainWaking e = if e - 1 = d - 1 then false else s.domainWaking e :=
  ((s.domainUp_switched d).domainWaking e).trans (s.domainWaking_switched d e true hd)

/-! ## Frames of the switches -/

/-- The words that a switch of domains leaves: those of `poweredBlock` but the two that show the domains. -/
def Reg.switchedBlock : Set Nat := {a | a ∈ Reg.poweredBlock ∧ a ≠ Reg.pwrDomainOn ∧ a ≠ Reg.pwrDomainWaking}

theorem Reg.pwrDomainOn_notMem_switchedBlock : Reg.pwrDomainOn ∉ Reg.switchedBlock := fun h => h.2.1 rfl
theorem Reg.pwrDomainWaking_notMem_switchedBlock : Reg.pwrDomainWaking ∉ Reg.switchedBlock := fun h => h.2.2 rfl
theorem Reg.switchedBlock_subset : Reg.switchedBlock ⊆ Reg.poweredBlock := fun _ h => h.1

section Switch
variable {s u : State} (h : s.onlyUnits False Reg.switchedBlock u)
include h

theorem State.onlyUnits.switched (d : Nat) (on : Bool) : s.onlyUnits False Reg.switchedBlock (u.switched d on) :=
  (h.setBit Reg.pwrDomainOn_notMem_switchedBlock _ _).setBit Reg.pwrDomainWaking_notMem_switchedBlock _ _

theorem State.onlyUnits.domainOff (d : Nat) : s.onlyUnits False Reg.switchedBlock (u.domainOff d) :=
  (h.switched d false).trans ((u.domainOff_switched d).mono Reg.switchedBlock_subset)

theorem State.onlyUnits.domainUp (d : Nat) : s.onlyUnits False Reg.switchedBlock (u.domainUp d) :=
  (h.switched d true).trans ((u.domainUp_switched d).mono Reg.switchedBlock_subset)

theorem State.onlyUnits.domainsOff (ds : List Nat) : s.onlyUnits False Reg.switchedBlock (u.domainsOff ds) :=
  List.foldlRecOn ds _ h (fun _ hv d _ => hv.domainOff d)

theorem State.onlyUnits.domainsUp (ds : List Nat) : s.onlyUnits False Reg.switchedBlock (ds.foldl State.domainUp u) :=
  List.foldlRecOn ds _ h (fun _ hv d _ => hv.domainUp d)

theorem State.onlyUnits.settlePanels : s.onlyUnits False Reg.switchedBlock u.settlePanels := by
  unfold State.settlePanels
  split
  · exact h
  · refine List.foldlRecOn (List.range 4) _ h (fun v hv p _ => ?_)
    split_ifs
    · exact hv
    · exact hv.domainsOff _
    · exact hv

end Switch

/-! ## Domains together -/

theorem State.domainOn_domainsOff {ds : List Nat} (hds : ∀ d ∈ ds, d ≤ 32) (s : State) (e : Nat) :
    (s.domainsOff ds).domainOn e = (s.domainOn e && ds.all (fun d => e - 1 ≠ d - 1)) := by
  induction ds generalizing s with
  | nil => simp [State.domainsOff]
  | cons d ds ih =>
    rw [List.forall_mem_cons] at hds
    have hrest := ih hds.2 (s.domainOff d)
    rw [State.domainOn_domainOff _ _ hds.1] at hrest
    refine hrest.trans ?_
    by_cases he : e - 1 = d - 1 <;> simp [he]

theorem State.domainsOff_off {ds : List Nat} (hds : ∀ d ∈ ds, d ≤ 32) (s : State) :
    ∀ d ∈ ds, (s.domainsOff ds).domainOn d = false := by
  intro d hd
  rw [State.domainOn_domainsOff hds, Bool.and_eq_false_iff]
  refine Or.inr (List.all_eq_false.2 ⟨d, hd, by simp⟩)

theorem idleDomains_le : ∀ d ∈ idleDomains, d ≤ 32 := by decide

/-- Domains that are switched on stay on while others are. -/
theorem State.domainOn_domainsUp {ds : List Nat} (hds : ∀ d ∈ ds, d ≤ 32) (s : State) (e : Nat) :
    (ds.foldl State.domainUp s).domainOn e = (s.domainOn e || ds.any (fun d => e - 1 = d - 1)) := by
  induction ds generalizing s with
  | nil => simp
  | cons d ds ih =>
    rw [List.forall_mem_cons] at hds
    rw [List.foldl_cons, ih hds.2, State.domainOn_domainUp _ _ hds.1]
    by_cases he : e - 1 = d - 1 <;> simp [he]

theorem State.domainsUp_on {ds : List Nat} (hds : ∀ d ∈ ds, d ≤ 32) (s : State) {d : Nat} (hd : d ∈ ds) :
    (ds.foldl State.domainUp s).domainOn d = true := by
  rw [State.domainOn_domainsUp hds, Bool.or_eq_true]
  exact Or.inr (List.any_eq_true.2 ⟨d, hd, by simp⟩)

/-- Settling the panels switches off no domain but the compute and Pocket domains of panels that no loaded partition
uses (R503). -/
theorem State.settlePanels_domain (s : State) {e : Nat} (he : 1 ≤ e)
    (hheld : ∀ p, p < 4 → e = 5 + p ∨ e = 9 + p → s.panelHeld p = true) :
    s.settlePanels.domainOn e = s.domainOn e ∧ s.settlePanels.domainWaking e = s.domainWaking e := by
  unfold State.settlePanels
  split
  · exact ⟨rfl, rfl⟩
  · refine (List.foldlRecOn (motive := fun v : State => v.slots = s.slots ∧ v.domainOn e = s.domainOn e ∧
      v.domainWaking e = s.domainWaking e) (List.range 4) _ ⟨rfl, rfl, rfl⟩ (fun v hv p hp => ?_)).2
    obtain ⟨hslots, hon, hwaking⟩ := hv
    have hp := List.mem_range.1 hp
    have hsame : v.panelHeld p = s.panelHeld p := by simp only [State.panelHeld, State.slot, hslots]
    split_ifs with hv1 hv2
    · exact ⟨hslots, hon, hwaking⟩
    · have hne : e ≠ 5 + p ∧ e ≠ 9 + p := by
        constructor <;> (rintro rfl; exact hv1 (hsame.trans (hheld p hp (by omega))))
      have h5 : ¬ e - 1 = 5 + p - 1 := by omega
      have h9 : ¬ e - 1 = 9 + p - 1 := by omega
      refine ⟨(((State.onlyUnits.refl v False Reg.switchedBlock).domainsOff _).slots).trans hslots, ?_, ?_⟩
      · show ((v.domainOff (5 + p)).domainOff (9 + p)).domainOn e = _
        rw [State.domainOn_domainOff _ _ (by omega), if_neg h9, State.domainOn_domainOff _ _ (by omega), if_neg h5, hon]
      · show ((v.domainOff (5 + p)).domainOff (9 + p)).domainWaking e = _
        rw [State.domainWaking_domainOff _ _ (by omega), if_neg h9, State.domainWaking_domainOff _ _ (by omega), if_neg h5,
          hwaking]
    · exact ⟨hslots, hon, hwaking⟩

end Sys2Proof.Machine
end

section
/-! SUPPORT. Clocks, operating points, deep idle and the calendar (R492-R512). Settles O53. -/

namespace Sys2Proof.Machine

/-! ## Operating points (R495-R499) -/

@[simp] theorem State.panelClk_setPanelClk_self (s : State) (p : Nat) (c : PanelClk) : (s.setPanelClk p c).panelClk p = c :=
  tget_tset_self ..

@[simp] theorem State.rd_setPanelClk (s : State) (p : Nat) (c : PanelClk) (a : Nat) : (s.setPanelClk p c).rd a = s.rd a := rfl

theorem State.pointOf_congr {s u : State} {p i : Nat} (h : u.rd (Reg.clkPointTable p i) = s.rd (Reg.clkPointTable p i)) :
    u.pointOf p i = s.pointOf p i := by
  simp only [State.pointOf, State.bit_congr h, State.fld_congr h]

/-- A supply is given in 10 bits and a frequency in 11. -/
theorem State.pointOf_lt (s : State) (p i : Nat) : (s.pointOf p i).1 < 2 ^ 11 ∧ (s.pointOf p i).2 < 2 ^ 10 := by
  unfold State.pointOf
  dsimp only
  split
  · exact ⟨fieldOf_lt .., fieldOf_lt ..⟩
  · decide

theorem State.onlyRegs.setPanelClk {s u : State} {as : List Nat} (h : s.onlyRegs { u with panelClks := s.panelClks } as)
    (p : Nat) (c : PanelClk) : s.onlyRegs { u.setPanelClk p c with panelClks := s.panelClks } as := h

section Points
variable {s : State} {p : PanelId}

/-- A selection while no transition is in progress begins one (R498). -/
theorem State.selectPoint_begins (i : Fin 4) (h : (s.panelClk p).phase = 0) :
    s.selectPoint p i = (s.setFld (Reg.clkPanelPoint p) 0 2 i).beginPoint p i := if_pos h

theorem operatingPointSelect_begins (i : Fin 4) (h : (s.panelClk p).phase = 0) :
    Answers (.operatingPointSelect p i) s (fun u =>
      u.fld (Reg.clkPanelPoint p) 0 2 = i.val ∧ u.bit (Reg.clkPanelStatus p) 31 = true ∧
      s.sameBits u (Reg.clkPanelStatus p) (fun j => j < 31) ∧
      u.panelClk p = { phase := if s.fld (Reg.clkPanelStatus p) 16 10 < (s.pointOf p i).2 then 1 else 2, target := i.val,
                       next := none } ∧
      s.onlyRegs { u with panelClks := s.panelClks } [Reg.clkPanelPoint p, Reg.clkPanelStatus p]) := by
  have hne : Reg.clkPanelStatus p ≠ Reg.clkPanelPoint p := by rw [Reg.clkPanelStatus, Reg.clkPanelPoint]; omega
  have htable : Reg.clkPointTable p i ≠ Reg.clkPanelPoint p := by rw [Reg.clkPointTable, Reg.clkPanelPoint]; omega
  have hstatus : (s.setFld (Reg.clkPanelPoint p) 0 2 i).rd (Reg.clkPanelStatus p) = s.rd (Reg.clkPanelStatus p) :=
    State.rd_setFld_ne _ _ _ _ hne
  have hpoint : (s.setFld (Reg.clkPanelPoint p) 0 2 i).pointOf p i = s.pointOf p i :=
    State.pointOf_congr (State.rd_setFld_ne _ _ _ _ htable)
  refine ⟨_, congrArg Host.Outcome.next (State.selectPoint_begins i h), ?_, State.bit_setBit _ _ _ _ (by decide), fun j hj => ?_, ?_,
    ((State.onlyRegs.refl s _).setFld (by simp) _ _ _).setBit (by simp) _ _⟩
  · exact (State.fld_setFld_out _ _ _ _ _ _ hne.symm).trans (State.fld_setFld_of_lt _ _ (by decide) i.isLt)
  · exact (State.getLsbD_setBit_ne _ _ _ _ (by omega)).trans (by rw [hstatus])
  · refine (State.panelClk_setPanelClk_self ..).trans ?_
    rw [State.fld_congr hstatus, hpoint]

/-- A selection during a transition waits for its end (R499). -/
theorem operatingPointSelect_waits (i : Fin 4) (h : (s.panelClk p).phase ≠ 0) :
    Answers (.operatingPointSelect p i) s (fun u =>
      u.panelClk p = { s.panelClk p with next := some i.val } ∧ u.rd (Reg.clkPanelStatus p) = s.rd (Reg.clkPanelStatus p)) :=
  ⟨_, congrArg Host.Outcome.next (if_neg h), State.panelClk_setPanelClk_self ..,
    State.rd_setFld_ne _ _ _ _ (by rw [Reg.clkPanelStatus, Reg.clkPanelPoint]; omega)⟩

theorem supplyRampDone_up (h : (s.panelClk p).phase = 1) : Answers (.supplyRampDone p) s (fun u =>
    u.fld (Reg.clkPanelStatus p) 16 10 = (s.pointOf p (s.panelClk p).target).2 ∧
    u.fld (Reg.clkPanelStatus p) 0 11 = s.fld (Reg.clkPanelStatus p) 0 11 ∧
    u.panelClk p = { s.panelClk p with phase := 2 } ∧ s.onlyRegs { u with panelClks := s.panelClks } [Reg.clkPanelStatus p]) :=
  ⟨_, congrArg Host.Outcome.next (if_pos h), State.fld_setFld_of_lt _ _ (by decide) (s.pointOf_lt p _).2,
    State.fld_setFld_ne _ _ _ _ _ _ _ (by decide), State.panelClk_setPanelClk_self ..,
    (State.onlyRegs.refl s _).setFld List.mem_cons_self _ _ _⟩

theorem clockPauseEnd_ramps (h : (s.panelClk p).phase = 2)
    (hdown : (s.pointOf p (s.panelClk p).target).2 < s.fld (Reg.clkPanelStatus p) 16 10) :
    Answers (.clockPauseEnd p) s (fun u => u.fld (Reg.clkPanelStatus p) 0 11 = (s.pointOf p (s.panelClk p).target).1 ∧
      u.fld (Reg.clkPanelStatus p) 16 10 = s.fld (Reg.clkPanelStatus p) 16 10 ∧
      u.panelClk p = { s.panelClk p with phase := 3 } ∧
      s.onlyRegs { u with panelClks := s.panelClks } [Reg.clkPanelStatus p]) := by
  have hsupply (f : Nat) : (s.setFld (Reg.clkPanelStatus p) 0 11 f).fld (Reg.clkPanelStatus p) 16 10 =
      s.fld (Reg.clkPanelStatus p) 16 10 := State.fld_setFld_ne _ _ _ _ _ _ _ (by decide)
  exact ⟨_, congrArg Host.Outcome.next ((if_pos h).trans (if_pos (by rwa [hsupply]))),
    State.fld_setFld_of_lt _ _ (by decide) (s.pointOf_lt p _).1, hsupply _, State.panelClk_setPanelClk_self ..,
    (State.onlyRegs.refl s _).setFld List.mem_cons_self _ _ _⟩

/-- The target is shown as reached (R499). -/
def State.pointShown (s : State) (p : Nat) : State :=
  (s.setFld (Reg.clkPanelStatus p) 28 2 (s.panelClk p).target).setBit (Reg.clkPanelStatus p) 30
    (!s.bit (Reg.clkPointTable p (s.panelClk p).target) 31)

/-- A transition with no further selection ends (R499). -/
theorem State.reachPoint_last (h : (s.panelClk p).next = none) : s.reachPoint p =
    (((s.pointShown p).count Reg.clkStatTransitions 1).setBit (Reg.clkPanelStatus p) 31 false).setPanelClk p
      { s.panelClk p with phase := 0 } := by
  have hclk : ({ s.panelClk p with phase := 0, next := none } : PanelClk) = { s.panelClk p with phase := 0 } := by rw [← h]
  rw [← hclk]
  show (s.pointShown p).endPoint p = _
  have hnext : ((s.pointShown p).panelClk p).next = none := h
  rw [State.endPoint, hnext]
  rfl

theorem clkPanelStatus_ne_clkStatTransitions (p : PanelId) : Reg.clkPanelStatus p ≠ Reg.clkStatTransitions := by
  rw [Reg.clkPanelStatus, Reg.clkStatTransitions]
  omega

/-- A field of the panel's status below the point keeps its value. -/
theorem State.fld_reachPoint (h : (s.panelClk p).next = none) {lo len : Nat} (hlow : lo + len ≤ 28) :
    (s.reachPoint p).fld (Reg.clkPanelStatus p) lo len = s.fld (Reg.clkPanelStatus p) lo len := by
  have hcount := State.rd_count_ne (s.pointShown p) 1 (clkPanelStatus_ne_clkStatTransitions p)
  rw [State.reachPoint_last h, State.fld_congr (State.rd_setPanelClk ..), State.setBit, State.fld_setFld_ne _ _ _ _ _ _ _ (by omega),
    State.fld_congr hcount, State.pointShown, State.setBit, State.fld_setFld_ne _ _ _ _ _ _ _ (by omega),
    State.fld_setFld_ne _ _ _ _ _ _ _ (by omega)]

theorem State.reachPoint_target (h : (s.panelClk p).next = none) (htarget : (s.panelClk p).target < 4) :
    (s.reachPoint p).fld (Reg.clkPanelStatus p) 28 2 = (s.panelClk p).target := by
  have hcount := State.rd_count_ne (s.pointShown p) 1 (clkPanelStatus_ne_clkStatTransitions p)
  rw [State.reachPoint_last h, State.fld_congr (State.rd_setPanelClk ..), State.setBit, State.fld_setFld_ne _ _ _ _ _ _ _ (by omega),
    State.fld_congr hcount, State.pointShown, State.setBit, State.fld_setFld_ne _ _ _ _ _ _ _ (by omega),
    State.fld_setFld_of_lt _ _ (by omega) htarget]

theorem State.reachPoint_counts (h : (s.panelClk p).next = none) : ((s.reachPoint p).rd Reg.clkStatTransitions).toNat =
    Min.min 0xFFFFFFFF ((s.rd Reg.clkStatTransitions).toNat + 1) := by
  have hne := (clkPanelStatus_ne_clkStatTransitions p).symm
  rw [State.reachPoint_last h, State.rd_setPanelClk, State.rd_setBit_ne _ _ _ hne, State.rd_count_one, State.pointShown,
    State.rd_setBit_ne _ _ _ hne, State.rd_setFld_ne _ _ _ _ hne]

theorem clockPauseEnd_ends (h : (s.panelClk p).phase = 2)
    (hsame : s.fld (Reg.clkPanelStatus p) 16 10 = (s.pointOf p (s.panelClk p).target).2)
    (hnext : (s.panelClk p).next = none) (htarget : (s.panelClk p).target < 4) :
    Answers (.clockPauseEnd p) s (fun u => u.fld (Reg.clkPanelStatus p) 0 11 = (s.pointOf p (s.panelClk p).target).1 ∧
      u.fld (Reg.clkPanelStatus p) 28 2 = (s.panelClk p).target ∧ u.bit (Reg.clkPanelStatus p) 31 = false ∧
      u.panelClk p = { s.panelClk p with phase := 0 } ∧
      (u.rd Reg.clkStatTransitions).toNat = Min.min 0xFFFFFFFF ((s.rd Reg.clkStatTransitions).toNat + 1)) := by
  have hsupply (f : Nat) : (s.setFld (Reg.clkPanelStatus p) 0 11 f).fld (Reg.clkPanelStatus p) 16 10 =
      s.fld (Reg.clkPanelStatus p) 16 10 := State.fld_setFld_ne _ _ _ _ _ _ _ (by decide)
  have hstays : ¬ (s.pointOf p (s.panelClk p).target).2 <
      (s.setFld (Reg.clkPanelStatus p) 0 11 (s.pointOf p (s.panelClk p).target).1).fld (Reg.clkPanelStatus p) 16 10 := by
    rw [hsupply, hsame]
    omega
  have hlast (f : Nat) : ((s.setFld (Reg.clkPanelStatus p) 0 11 f).panelClk p).next = none := hnext
  have hexec : exec (.clockPauseEnd p) s = .next
      ((s.setFld (Reg.clkPanelStatus p) 0 11 (s.pointOf p (s.panelClk p).target).1).reachPoint p) :=
    congrArg Host.Outcome.next ((if_pos h).trans (if_neg hstays))
  refine ⟨_, hexec, ?_, State.reachPoint_target (hlast _) htarget, ?_, ?_, ?_⟩
  · exact (State.fld_reachPoint (hlast _) (by decide)).trans (State.fld_setFld_of_lt _ _ (by decide) (s.pointOf_lt p _).1)
  · rw [State.reachPoint_last (hlast _), State.bit_congr (State.rd_setPanelClk ..)]
    exact State.bit_setBit _ _ _ _ (by decide)
  · rw [State.reachPoint_last (hlast _)]
    exact State.panelClk_setPanelClk_self ..
  · rw [State.reachPoint_counts (hlast _), State.rd_setFld_ne _ _ _ _ (clkPanelStatus_ne_clkStatTransitions p).symm]

end Points

/-! ## Deep idle (R507, R508) -/

theorem State.portState_closePort_self (s : State) {p : Nat} (hp : p < 18) : (s.closePort p).portState p = 0 :=
  State.portState_setPort s hp (by decide) 0

theorem State.portState_closePort_ne (s : State) {p j : Nat} (hj : j < 18) (h : j ≠ p) :
    (s.closePort p).portState j = s.portState j :=
  State.portState_congr (State.rd_setPort_ne s _ _ (by simp only [Reg.fabPortStatus]; omega)
    (by simp only [Reg.fabPortStatus, Reg.mirrorLinkStatus]; omega))

/-- Ports that are DISABLED stay so when domains switch off. -/
theorem State.portState_settlePort_off (s : State) {p j : Nat} (hp : p < 18) (hj : j < 18) (hoff : s.domainOn (portDomain p) = false)
    (hst : s.portState j = 0) : (s.settlePort p).portState j = 0 := by
  unfold State.settlePort
  rw [hoff, Bool.and_false, if_neg Bool.false_ne_true]
  split
  · exact hst
  · by_cases hjp : j = p
    · subst hjp
      exact s.portState_closePort_self hp
    · exact (s.portState_closePort_ne hj hjp).trans hst

theorem State.portState_domainOff (s : State) {d j : Nat} (hd : d ≤ 32) (hj : j < 18) (hst : s.portState j = 0) :
    (s.domainOff d).portState j = 0 := by
  have hswitched : (s.switched d false).portState j = 0 := by
    refine (State.portState_congr ((State.rd_setBit_ne _ _ _ ?_).trans (State.rd_setBit_ne _ _ _ ?_))).trans hst <;>
      simp only [Reg.fabPortStatus, Reg.pwrDomainOn, Reg.pwrDomainWaking] <;> omega
  have htile {v : State} (t v' : Nat) (ht : t < 256) (hv : v.portState j = 0) :
      ((v.zeroPocket t 0 pocketBytes).setFld (Reg.pocketPwrStatus t) 0 16 v').portState j = 0 :=
    (State.portState_congr (State.rd_setFld_ne _ _ _ _ (by rw [Reg.fabPortStatus, Reg.pocketPwrStatus]; omega))).trans hv
  unfold State.domainOff
  dsimp only
  split_ifs with hpocket hcompute hport
  · refine List.foldlRecOn (motive := fun v : State => v.portState j = 0) (List.range 64) _ hswitched (fun v hv i hi => ?_)
    have hi := List.mem_range.1 hi
    exact htile _ _ (by omega) hv
  · refine (State.portState_congr ?_).trans hswitched
    have hforget := (State.onlyUnits.refl (s.switched d false) True {Reg.fabPortStatus j}).forget
      (p := panelBlockWord (d - 13)) (fun a ha => by
        rw [Set.mem_singleton_iff.1 ha, panelBlockWord, Reg.fabPortStatus, Bool.or_eq_false_iff, Bool.and_eq_false_iff,
          Bool.and_eq_false_iff]
        simp only [decide_eq_false_iff_not]
        omega)
    exact hforget.rd _ rfl
  · refine (List.foldlRecOn (motive := fun v : State => v.domainOn d = false ∧ v.portState j = 0) (List.range 18) _
      ⟨?_, hswitched⟩ (fun v hv p hp => ?_)).2
    · exact (s.domainOn_switched d d false hd).trans (if_pos rfl)
    · have hp := List.mem_range.1 hp
      split_ifs with hdom
      · exact ⟨(((State.onlyUnits.refl v False _).settlePort hp).domainOn d).trans hv.1,
          v.portState_settlePort_off hp hj (hdom ▸ hv.1) hv.2⟩
      · exact hv
  · exact hswitched

theorem State.portState_domainsOff {ds : List Nat} (hds : ∀ d ∈ ds, d ≤ 32) (s : State) {j : Nat} (hj : j < 18)
    (hst : s.portState j = 0) : (s.domainsOff ds).portState j = 0 :=
  List.foldlRecOn (motive := fun v : State => v.portState j = 0) ds _ hst
    (fun v hv d hd => v.portState_domainOff (hds d hd) hj hv)

/-- Every enabled port is closed in order (R507). -/
def State.portsClosed (s : State) : State :=
  (List.range 16).foldl (fun s p => if s.bit (Reg.fabPortCtrl p) 0 then s.closePort p else s) s

/-- Closing a port leaves the words that enable ports. -/
theorem State.rd_closePort_ctrl (s : State) (p j : Nat) :
    (s.closePort p).rd (Reg.fabPortCtrl j) = s.rd (Reg.fabPortCtrl j) :=
  State.rd_setPort_ne s _ _ (by simp only [Reg.fabPortCtrl, Reg.fabPortStatus]; omega)
    (by simp only [Reg.fabPortCtrl, Reg.mirrorLinkStatus]; omega)

theorem State.portsClosed_portState (s : State) {p : Nat} (hp : p < 16) (hon : s.bit (Reg.fabPortCtrl p) 0 = true) :
    s.portsClosed.portState p = 0 := by
  have hprefix : ∀ n ≤ 16, (∀ j, ((List.range n).foldl (fun s p => if s.bit (Reg.fabPortCtrl p) 0 then s.closePort p else s) s).rd
      (Reg.fabPortCtrl j) = s.rd (Reg.fabPortCtrl j)) ∧ (p < n →
      ((List.range n).foldl (fun s p => if s.bit (Reg.fabPortCtrl p) 0 then s.closePort p else s) s).portState p = 0) := by
    intro n
    induction n with
    | zero => exact fun _ => ⟨fun _ => rfl, fun h => absurd h (by omega)⟩
    | succ n ih =>
      intro hn
      obtain ⟨hctrl, hclosed⟩ := ih (by omega)
      rw [List.range_succ, List.foldl_append, List.foldl_cons, List.foldl_nil]
      refine ⟨fun j => ?_, fun hpn => ?_⟩
      · split
        · exact (State.rd_closePort_ctrl _ _ j).trans (hctrl j)
        · exact hctrl j
      · by_cases hlast : p = n
        · subst hlast
          rw [if_pos (by rwa [State.bit_congr (hctrl p)])]
          exact State.portState_closePort_self _ (by omega)
        · have hearlier := hclosed (by omega)
          split
          · exact (State.portState_closePort_ne _ (by omega) hlast).trans hearlier
          · exact hearlier
  exact (hprefix 16 (le_refl _)).2 hp

theorem State.portsClosed_onlyUnits (s : State) : s.onlyUnits False Reg.switchedBlock s.portsClosed := by
  refine ((List.foldlRecOn (motive := s.onlyUnits False Reg.poweredBlock) (List.range 16) _ (State.onlyUnits.refl s False _)
    (fun v hv p hp => ?_))).mono Reg.switchedBlock_subset
  have hp := List.mem_range.1 hp
  split
  · exact hv.closePort (by omega)
  · exact hv

/-- Every port is closed and the domains of deep idle are off. -/
def State.idleOff (s : State) : State := s.portsClosed.domainsOff idleDomains

theorem State.enterIdle_enters {s : State} (hout : s.bit Reg.pwrCtrl 0 = false) (hidle : s.allIdle = true)
    (hload : s.loading = none) (hstate : s.pwrState ≠ 3) :
    s.enterIdle = (s.idleOff.setBit Reg.pwrCtrl 0 true).wr Reg.pwrState 2 := by
  refine (if_neg (by simp [hout])).trans (if_pos ?_)
  simp [hidle, hload, hstate]

theorem State.enterIdle_refused {s : State} (hout : s.bit Reg.pwrCtrl 0 = false)
    (hbusy : s.allIdle = false ∨ s.loading.isSome = true) : s.enterIdle = s.setBit Reg.pwrCtrl 1 true := by
  refine (if_neg (by simp [hout])).trans (if_neg ?_)
  rcases hbusy with h | h
  · simp [h]
  · simp [Option.isNone_iff_eq_none, Option.isSome_iff_ne_none.1 h]

theorem deepIdleEnter_enters {s : State} (hout : s.bit Reg.pwrCtrl 0 = false) (hidle : s.allIdle = true)
    (hload : s.loading = none) (hstate : s.pwrState ≠ 3) : Answers .deepIdleEnter s (fun u =>
      u.bit Reg.pwrCtrl 0 = true ∧ (∀ d ∈ idleDomains, u.domainOn d = false) ∧
      (∀ p, p < 16 → s.bit (Reg.fabPortCtrl p) 0 = true → u.portState p = 0) ∧ u.hbm = s.hbm ∧ u.slots = s.slots) := by
  have hoff : s.onlyUnits False Reg.switchedBlock s.idleOff := s.portsClosed_onlyUnits.domainsOff idleDomains
  have hword {a : Nat} (hctrl : a ≠ Reg.pwrCtrl) (hst : a ≠ Reg.pwrState) :
      ((s.idleOff.setBit Reg.pwrCtrl 0 true).wr Reg.pwrState 2).rd a = s.idleOff.rd a :=
    (State.rd_wr_ne _ _ hst).trans (State.rd_setBit_ne _ _ _ hctrl)
  refine ⟨_, congrArg Host.Outcome.next (State.enterIdle_enters hout hidle hload hstate), ?_, fun d hd => ?_, fun p hp hon => ?_,
    hoff.hbm, hoff.slots⟩
  · exact (State.bit_congr (State.rd_wr_ne _ _ (by decide)) _).trans (State.bit_setBit _ _ _ _ (by decide))
  · exact (State.bit_congr (hword (by decide) (by decide)) _).trans (State.domainsOff_off idleDomains_le _ d hd)
  · refine (State.portState_congr (hword ?_ ?_)).trans (State.portState_domainsOff idleDomains_le _ (by omega)
      (s.portsClosed_portState hp hon))
    · rw [Reg.fabPortStatus, Reg.pwrCtrl]
      omega
    · rw [Reg.fabPortStatus, Reg.pwrState]
      omega

theorem deepIdleEnter_refused {s : State} (hout : s.bit Reg.pwrCtrl 0 = false)
    (hbusy : s.allIdle = false ∨ s.loading.isSome = true) : Answers .deepIdleEnter s (fun u =>
      u.bit Reg.pwrCtrl 1 = true ∧ s.sameBits u Reg.pwrCtrl (fun j => j ≠ 1) ∧ s.onlyRegs u [Reg.pwrCtrl]) :=
  ⟨_, congrArg Host.Outcome.next (State.enterIdle_refused hout hbusy), State.bit_setBit _ _ _ _ (by decide),
    s.setBit_sameBits _ _ _, (State.onlyRegs.refl s _).setBit List.mem_cons_self _ _⟩

/-- A domain that is off starts to wake, whatever the others of the list do. -/
theorem State.wakeDomains_waking_of_mem {ds : List Nat} {s : State} {d : Nat} (hd : d ∈ ds) (hle : d ≤ 32)
    (hoff : s.domainOn d = false) : (s.wakeDomains ds).domainWaking d = true := by
  induction ds generalizing s with
  | nil => exact absurd hd List.not_mem_nil
  | cons e ds ih =>
    rcases List.mem_cons.1 hd with rfl | hmem
    · exact List.foldlRecOn (motive := fun u : State => u.domainWaking d = true) ds _ (State.wakeDomain_waking hoff hle)
        (fun _ hx e _ => State.wakeDomain_keeps_waking hx e)
    · refine ih hmem ?_
      exact (State.bit_congr ((State.wakeDomain_onlyRegs (State.onlyRegs.refl s _) e).2 _ (by decide)) _).trans hoff

theorem deepIdleLeave_leaves {s : State} (hin : s.bit Reg.pwrCtrl 0 = true) : Answers .deepIdleLeave s (fun u =>
    u.bit Reg.pwrCtrl 0 = false ∧ (∀ d ∈ idleDomains, s.domainOn d = false → u.domainWaking d = true) ∧
    s.onlyRegs u [Reg.pwrCtrl, Reg.pwrState, Reg.pwrDomainWaking]) := by
  have hwakes := ((s.setBit Reg.pwrCtrl 0 false).wr Reg.pwrState 3).wakeDomains_onlyRegs idleDomains
  refine ⟨_, congrArg Host.Outcome.next (if_pos hin), ?_, fun d hd hoff => ?_, ?_⟩
  · exact (State.bit_congr ((hwakes.2 _ (by decide)).trans (State.rd_wr_ne _ _ (by decide))) _).trans
      (State.bit_setBit _ _ _ _ (by decide))
  · refine State.wakeDomains_waking_of_mem hd (idleDomains_le d hd) ?_
    exact (State.bit_congr ((State.rd_wr_ne _ _ (by decide)).trans (State.rd_setBit_ne _ _ _ (by decide))) _).trans hoff
  · exact (((State.onlyRegs.refl s _).setBit (by simp) _ _).wr (by simp) _).trans (hwakes.mono (by simp))

/-! ## Domains that come up or switch off (R501-R504) -/

theorem powerDomainWakeDone_on {s : State} (d : Fin 30) (hwaking : s.domainWaking (d.val + 1) = true) (hcmds : s.cmds = [])
    (hheld : ∀ p, p < 4 → d.val + 1 = 5 + p ∨ d.val + 1 = 9 + p → s.panelHeld p = true) :
    Answers (.powerDomainWakeDone d) s (fun u => u.domainOn (d.val + 1) = true ∧ u.domainWaking (d.val + 1) = false ∧
      u.slots = s.slots ∧ u.hbm = s.hbm) := by
  have hup : s.onlyUnits False Reg.switchedBlock (s.domainUp (d.val + 1)) := (State.onlyUnits.refl s False _).domainUp _
  have hon : (s.domainUp (d.val + 1)).domainOn (d.val + 1) = true :=
    (s.domainOn_domainUp _ (by omega)).trans (if_pos rfl)
  have hwoken : (s.domainUp (d.val + 1)).domainWaking (d.val + 1) = false :=
    (s.domainWaking_domainUp _ (by omega)).trans (if_pos rfl)
  have hused : ∀ p, p < 4 → d.val + 1 = 5 + p ∨ d.val + 1 = 9 + p → (s.domainUp (d.val + 1)).panelHeld p = true := by
    intro p hp hd
    rw [← hheld p hp hd]
    simp only [State.panelHeld, hup.slot]
  refine ⟨_, congrArg Host.Outcome.next (if_pos hwaking), ?_⟩
  dsimp only
  split
  · rw [State.settleCmds_of_nil (hup.cmds.trans hcmds)]
    exact ⟨hon, hwoken, hup.slots, hup.hbm⟩
  · have hsettled := hup.settlePanels
    obtain ⟨hkeepsOn, hkeepsWaking⟩ := (s.domainUp (d.val + 1)).settlePanels_domain (by omega) hused
    rw [State.settleCmds_of_nil (hsettled.cmds.trans hcmds)]
    exact ⟨hkeepsOn.trans hon, hkeepsWaking.trans hwoken, hsettled.slots, hsettled.hbm⟩

theorem computeIdleOff_off {s : State} (p : PanelId) (hauto : s.fld Reg.pwrComputeAuto 0 20 ≠ 0)
    (hidle : ∀ j, j < 64 → s.bit (Reg.seamStatus (64 * p + j)) 7 = false ∧ s.bit (Reg.sleeveStatus (64 * p + j)) 15 = false) :
    Answers (.computeIdleOff p) s (fun u => u.domainOn (5 + p) = false ∧
      s.sameBits u Reg.pwrDomainOn (fun j => j ≠ 4 + p.val) ∧ s.onlyRegs u [Reg.pwrDomainOn, Reg.pwrDomainWaking]) := by
  have hp : p.val < 4 := p.isLt
  have hcond : (s.fld Reg.pwrComputeAuto 0 20 != 0 && (List.range 64).all (fun j =>
      !s.bit (Reg.seamStatus (64 * p.val + j)) 7 && !s.bit (Reg.sleeveStatus (64 * p.val + j)) 15)) = true := by
    simp only [Bool.and_eq_true, bne_iff_ne, List.all_eq_true, List.mem_range, Bool.not_eq_true']
    exact ⟨hauto, hidle⟩
  have hoff : s.domainOff (5 + p) = s.switched (5 + p) false := by
    refine (if_neg (by omega)).trans ((if_neg (by omega)).trans (if_neg (by omega)))
  refine ⟨_, congrArg Host.Outcome.next (if_pos hcond), ?_⟩
  rw [hoff]
  refine ⟨(s.domainOn_switched _ _ false (by omega)).trans (if_pos rfl), fun j hj => ?_,
    ((State.onlyRegs.refl s _).setBit (by simp) _ _).setBit (by simp) _ _⟩
  refine (congrArg (fun v : Word => v.getLsbD j) (State.rd_setBit_ne _ _ _ (by decide))).trans
    (State.getLsbD_setBit_ne _ _ _ _ ?_)
  omega

/-! ## The calendar (R511-R513) -/

theorem calSetLoad_loads {s : State} {v : Nat} (hset : s.calSet = some v) : Answers .calSetLoad s (fun u =>
    u.rd64 Reg.calNow = v % 2 ^ 64 ∧ u.bit Reg.calStatus 31 = true ∧ u.calSet = none ∧
    s.onlyRegs { u with calSet := s.calSet } [Reg.calNow, Reg.calNow + 4, Reg.calStatus]) := by
  have hexec : exec .calSetLoad s = .next ((State.wr64 { s with calSet := none } Reg.calNow v).setBit Reg.calStatus 31 true) := by
    refine congrArg Host.Outcome.next ?_
    rw [hset]
  refine ⟨_, hexec, ?_, State.bit_setBit _ _ _ _ (by decide), rfl,
    (((State.onlyRegs.refl s _).wr (by simp) _).wr (by simp) _).setBit (by simp) _ _⟩
  exact (State.rd64_congr (State.rd_setBit_ne _ _ _ (by decide)) (State.rd_setBit_ne _ _ _ (by decide))).trans
    (State.rd64_wr64 ..)

theorem State.rd_forget (s : State) (p : Nat → Bool) (a : Nat) : (s.forget p).rd a = if p a then regReset a else s.rd a := by
  have h := tfind_filter s.regs (fun a => !p a) a
  rw [State.rd, State.forget, tget, h]
  cases p a <;> rfl

theorem regReset_backupMem (i : Fin 64) : regReset (Reg.backupMem i) = 0 := by
  fin_cases i <;> rfl

/-- CHARGE and ON_BACKUP, which the supercapacitor shows. -/
def State.calKept (s : State) : Word := s.rd Reg.calStatus &&& 0x200000FF

theorem State.loseBackup_onlyUnits (s : State) (lost : Bool) :
    { s with calSet := none, backupBad := [] }.onlyUnits True {a | backupWord a = false} (s.loseBackup lost) := by
  have hcal : Reg.calStatus ∉ {a | backupWord a = false} := by simp [backupWord, Reg.calStatus]
  exact ((State.onlyUnits.refl { s with calSet := none, backupBad := [] } True {a | backupWord a = false}).forget (p := backupWord)
    (fun _ ha => ha)).unitsSet (v := { s.forget backupWord with calSet := none, backupBad := [] }) rfl rfl rfl |>.wr hcal _ |>.setBit hcal _ _

/-- The backup domain reads as reset but for CAL_STATUS. -/
theorem State.rd_loseBackup (s : State) (lost : Bool) {a : Nat} (hback : backupWord a = true) (hcal : a ≠ Reg.calStatus) :
    (s.loseBackup lost).rd a = regReset a := by
  refine (State.rd_setBit_ne _ _ _ hcal).trans ((State.rd_wr_ne _ _ hcal).trans ?_)
  exact (s.rd_forget backupWord a).trans (if_pos hback)

theorem State.calStatus_loseBackup (s : State) (lost : Bool) : (s.loseBackup lost).rd Reg.calStatus =
    putField s.calKept 30 1 (if lost then 1 else 0) :=
  (State.rd_setFld_self ..).trans (congrArg (fun v => putField v 30 1 (if lost then 1 else 0)) (State.rd_wr_self ..))

theorem supercapacitorHoldLost_loses {s : State} (hrail : s.rail = false) : Answers .supercapacitorHoldLost s (fun u =>
    u.rd64 Reg.calNow = 0 ∧ u.bit Reg.calStatus 31 = false ∧ u.bit Reg.calStatus 30 = true ∧
    (∀ i, i < 64 → u.rd (Reg.backupMem i) = 0) ∧ (∀ a, backupWord a = false → u.rd a = s.rd a) ∧ u.hbm = s.hbm) := by
  have hback := s.loseBackup_onlyUnits true
  refine ⟨_, congrArg Host.Outcome.next (if_neg (by simp [hrail])), ?_, ?_, ?_, fun i hi => ?_, hback.rd, hback.hbm⟩
  · rw [State.rd64, s.rd_loseBackup true rfl (by decide), s.rd_loseBackup true rfl (by decide)]
    decide
  · rw [State.bit, s.calStatus_loseBackup, getLsbD_putField _ _ _ _ _ (by decide), State.calKept]
    simp
  · exact State.bit_setBit _ _ _ _ (by decide)
  · have hword : backupWord (Reg.backupMem i) = true := by
      rw [backupWord, Reg.backupMem, Bool.and_eq_true]
      exact ⟨decide_eq_true (by omega), decide_eq_true (by omega)⟩
    rw [s.rd_loseBackup true hword (by simp only [Reg.backupMem, Reg.calStatus]; omega)]
    exact regReset_backupMem ⟨i, hi⟩

end Sys2Proof.Machine

open Sys2Proof.Machine in
/-- Settles O53: clocks stop and operating points change step by step, domains and deep idle switch, the calendar is set. Which
tasks keep the tile clock running, the computed PWR_STATE and the settling of panels are the model's choice (log entry 50). -/
theorem clocksAndPowerChange : Obligations.ClocksAndPowerChange := by
  unfold Obligations.ClocksAndPowerChange
  intro s
  refine ⟨fun t => ⟨fun hidle hgate => ⟨_, congrArg Host.Outcome.next (if_neg (by simp [hidle, hgate])), rfl⟩, fun h =>
      congrArg Host.Outcome.next (if_pos (by simpa using h))⟩,
    fun p => ⟨fun i h => operatingPointSelect_begins i h, fun i h => operatingPointSelect_waits i h, supplyRampDone_up,
      clockPauseEnd_ramps, clockPauseEnd_ends⟩,
    fun hout => ⟨fun ⟨hidle, hload, hstate⟩ => deepIdleEnter_enters hout hidle hload hstate, deepIdleEnter_refused hout⟩,
    deepIdleLeave_leaves, fun d hwaking hcmds hheld => powerDomainWakeDone_on d hwaking hcmds hheld, computeIdleOff_off,
    ⟨_, rfl, rfl⟩, fun v => calSetLoad_loads, supercapacitorHoldLost_loses⟩
end

section
/-! SUPPORT. Resets of tiles and the stop of a partition (R90, R353, R392, R448): what they change and leave. -/

namespace Sys2Proof.Machine

/-! ## Words of tiles -/

/-- The words in which the tasks of tiles show themselves. -/
def Reg.taskBlock : Set Nat := {a | ∃ t k, t < 256 ∧ k < 4 ∧ a = Reg.cuffTaskStatus t k}

theorem Reg.mem_unitBlock {a : Nat} (hin : 0x1000000 ≤ a) (hend : a < 0x2040000) : a ∈ Reg.unitBlock := ⟨hin, Or.inl hend⟩

/-- The words that a reset of tiles leaves until their task words return to reset values. -/
def Reg.stoppedBlock : Set Nat := Reg.unitBlockᶜ ∪ Reg.taskBlock

/-- A word of a tile outside the task blocks of its Cuff. -/
theorem Reg.notMem_stoppedBlock_tile {t a : Nat} (ht : t < 256) (hin : 0x1000000 + 0x10000 * t ≤ a)
    (hend : a < 0x1000000 + 0x10000 * t + 0x10000)
    (htask : a < 0x1004100 + 0x10000 * t ∨ 0x1004200 + 0x10000 * t ≤ a) : a ∉ Reg.stoppedBlock := by
  have hlt : a < 0x2040000 := by omega
  rintro (hunit | ⟨t', k, _, hk, rfl⟩)
  · exact hunit (Reg.mem_unitBlock (by omega) hlt)
  · rw [Reg.cuffTaskStatus] at hin hend htask
    omega

theorem Reg.notMem_stoppedBlock_panel {a : Nat} (hin : 0x2000000 ≤ a) (hend : a < 0x2040000) : a ∉ Reg.stoppedBlock := by
  rintro (hunit | ⟨t, k, ht, hk, rfl⟩)
  · exact hunit (Reg.mem_unitBlock (by omega) hend)
  · rw [Reg.cuffTaskStatus] at hin
    omega

theorem lockReg_notMem_stoppedBlock (l : Nat) : lockReg l ∉ Reg.stoppedBlock := by
  rintro (hunit | ⟨t, k, ht, hk, h⟩)
  · refine hunit ⟨?_, Or.inr ?_⟩ <;> rw [lockReg, Reg.lockState] <;> omega
  · rw [lockReg, Reg.lockState, Reg.cuffTaskStatus] at h
    omega

theorem Reg.unitBlock_compl_subset : Reg.unitBlockᶜ ⊆ Reg.stoppedBlock := Set.subset_union_left

theorem Reg.cuffTaskStatus_mem_stoppedBlock {t k : Nat} (ht : t < 256) (hk : k < 4) : Reg.cuffTaskStatus t k ∈ Reg.stoppedBlock :=
  Or.inr ⟨t, k, ht, hk, rfl⟩

theorem Reg.mem_unitBlock_compl_of_lt {a : Nat} (h : a < 0x1000000) : a ∈ Reg.unitBlockᶜ := fun hu => absurd hu.1 (by omega)

/-! ## The parts of a reset -/

section Parts
variable {s u : State} (h : s.onlyUnits True Reg.stoppedBlock u)
include h

theorem State.onlyUnits.onlyRegs {v : State} {as : List Nat} (hv : u.onlyRegs v as) (has : ∀ a ∈ as, a ∉ Reg.stoppedBlock) :
    s.onlyUnits True Reg.stoppedBlock v := by
  refine ⟨?_, fun _ => (congrArg State.pocket hv.1).trans (h.pocket trivial), fun a ha => (hv.2 a (fun hm => has a hm ha)).trans (h.rd a ha)⟩
  rw [hv.1]
  exact h.rest

theorem State.onlyUnits.setWaiters (l : Nat) (ws : List LockUser) : s.onlyUnits True Reg.stoppedBlock (u.setWaiters l ws) :=
  State.onlyUnits.setFld (h.unitsSet (v := { u with lockWait := if ws = [] then tdel u.lockWait l else tset u.lockWait l ws })
    rfl rfl rfl) (lockReg_notMem_stoppedBlock l) _ _ _

theorem State.onlyUnits.withdraw (t k : Nat) : s.onlyUnits True Reg.stoppedBlock (u.withdraw t k) := by
  refine State.onlyUnits.unitsSet (List.foldlRecOn u.lockWait _ h (fun v hv p _ => ?_)) rfl rfl rfl
  show s.onlyUnits True Reg.stoppedBlock (if p.2.contains (.task t k) then v.setWaiters p.1 (p.2.filter (· != .task t k)) else v)
  split
  · exact hv.setWaiters _ _
  · exact hv

theorem State.onlyUnits.dropInsts (ts : List Nat) : s.onlyUnits True Reg.stoppedBlock (u.dropInsts ts) := by
  refine List.foldlRecOn (List.range 4) _ (h.unitsSet rfl rfl rfl) (fun v hv p hp => ?_)
  have hp := List.mem_range.1 hp
  refine hv.setFld (Reg.notMem_stoppedBlock_panel ?_ ?_) _ _ _ <;> rw [Reg.yokeStatus] <;> omega

theorem State.onlyUnits.closeWindow {t w : Nat} (ht : t < 256) (hw : w < 16) :
    s.onlyUnits True Reg.stoppedBlock (u.closeWindow t w) := by
  have hword : Reg.winStatus t w ∉ Reg.stoppedBlock := by
    refine Reg.notMem_stoppedBlock_tile ht ?_ ?_ ?_ <;> rw [Reg.winStatus] <;> omega
  unfold State.closeWindow
  split
  · exact (h.setFld hword _ _ _).setFld hword _ _ _
  · exact h

theorem State.onlyUnits.closeWindows {t : Nat} (ht : t < 256) : s.onlyUnits True Reg.stoppedBlock (u.closeWindows t) := by
  have hcredit : Reg.creditStatus t ∉ Reg.stoppedBlock := by
    refine Reg.notMem_stoppedBlock_tile ht ?_ ?_ ?_ <;> rw [Reg.creditStatus] <;> omega
  refine State.onlyUnits.wr (List.foldlRecOn (List.range 16) _ (h.setTile t _) (fun v hv w hw => ?_)) hcredit _
  have hw := List.mem_range.1 hw
  have hword : Reg.winStatus t w ∉ Reg.stoppedBlock := by
    refine Reg.notMem_stoppedBlock_tile ht ?_ ?_ ?_ <;> rw [Reg.winStatus] <;> omega
  have hclosed := (hv.setFld hword 16 8 0).closeWindow ht hw
  dsimp only
  split
  · exact hclosed.setFld hword _ _ _
  · exact hclosed

theorem State.onlyUnits.emptyPlacket {t : Nat} (ht : t < 256) : s.onlyUnits True Reg.stoppedBlock (u.emptyPlacket t) := by
  unfold State.emptyPlacket
  refine List.foldlRecOn (List.range 16) _ (h.setTile t _) (fun v hv q hq => ?_)
  have hq := List.mem_range.1 hq
  have hwords : ∀ a ∈ queueWords t q, a ∉ Reg.stoppedBlock := by
    intro a ha
    simp only [queueWords, List.mem_cons, List.not_mem_nil, or_false] at ha
    refine Reg.notMem_stoppedBlock_tile ht ?_ ?_ ?_ <;>
      rcases ha with rfl | rfl | rfl | rfl <;>
      simp only [Reg.placketQStatus, Reg.placketQCredits, Reg.placketQHeadlen, Reg.placketStatus] <;> omega
  exact (hv.wr (hwords _ (by simp [queueWords])) _).onlyRegs (State.refreshQ_onlyRegs _ t q) hwords

theorem State.onlyUnits.emptySb {t : Nat} (ht : t < 256) : s.onlyUnits True Reg.stoppedBlock (u.emptySb t) := by
  have hstatus : Reg.sbStatus t ∉ Reg.stoppedBlock := by
    refine Reg.notMem_stoppedBlock_tile ht ?_ ?_ ?_ <;> rw [Reg.sbStatus] <;> omega
  have hentries : s.onlyUnits True Reg.stoppedBlock
      ((List.range 16).foldl (fun s e => (s.wr (Reg.sbEntryLo t e) 0).wr (Reg.sbEntryHi t e) 0) u) := by
    refine List.foldlRecOn (List.range 16) _ h (fun v hv e he => ?_)
    have he := List.mem_range.1 he
    refine (hv.wr (Reg.notMem_stoppedBlock_tile ht ?_ ?_ ?_) _).wr (Reg.notMem_stoppedBlock_tile ht ?_ ?_ ?_) _ <;>
      simp only [Reg.sbEntryLo, Reg.sbEntryHi] <;> omega
  exact (hentries.setFld hstatus _ _ _).setFld hstatus _ _ _

end Parts

/-! ## Locks that turn ORPHANED -/

section Locks
variable {s u : State} (h : s.onlyUnits True Reg.unitBlockᶜ u)
include h

/-- A lock that turns ORPHANED shows so, and in the count of the task that held it. -/
theorem State.onlyUnits.orphanLock {l : Nat} (hl : l < 128) (cause : Nat) : s.onlyUnits True Reg.unitBlockᶜ (u.orphanLock l cause) := by
  have hlock : lockReg l ∉ Reg.unitBlockᶜ := fun hm => hm (Reg.mem_unitBlock (by rw [lockReg, Reg.lockState]; omega)
    (by rw [lockReg, Reg.lockState]; omega))
  have htask {o : Nat} (ho : o < 1024) : Reg.cuffTaskStatus (o / 4) (o % 4) ∉ Reg.unitBlockᶜ := fun hm => hm
    (Reg.mem_unitBlock (by rw [Reg.cuffTaskStatus]; omega) (by rw [Reg.cuffTaskStatus]; omega))
  have howner : u.fld (lockReg l) 0 10 < 1024 := fieldOf_lt ..
  unfold State.orphanLock
  dsimp only
  split
  · exact (h.setFld hlock _ _ _).setFld hlock _ _ _
  · exact ((h.setFld (htask howner) _ _ _).setFld hlock _ _ _).setFld hlock _ _ _

theorem State.onlyUnits.orphanLocksOf (t k : Nat) : s.onlyUnits True Reg.unitBlockᶜ (u.orphanLocksOf t k) := by
  refine List.foldlRecOn (List.range 128) _ h (fun v hv l hl => ?_)
  split
  · exact hv.orphanLock (List.mem_range.1 hl) 1
  · exact hv

end Locks

theorem lockReg_ne_cuffTaskStatus (l t : Nat) {k : Nat} (hk : k < 4) : Reg.cuffTaskStatus t k ≠ lockReg l := by
  rw [lockReg, Reg.lockState, Reg.cuffTaskStatus]
  omega

/-- The count of locks held is no part of a task's state (R347). -/
theorem State.taskState_orphanLock (s : State) (l cause t : Nat) {k : Nat} (hk : k < 4) :
    (s.orphanLock l cause).taskState t k = s.taskState t k := by
  have hne := lockReg_ne_cuffTaskStatus l t hk
  have hshown (v : State) : ((v.setFld (lockReg l) 30 2 lockOrphaned).setFld (lockReg l) 28 2 cause).taskState t k =
      v.taskState t k := by
    rw [State.taskState, State.fld_setFld_out _ _ _ _ _ _ hne, State.fld_setFld_out _ _ _ _ _ _ hne, State.taskState]
  unfold State.orphanLock
  dsimp only
  rw [hshown]
  split
  · rfl
  · by_cases htask : Reg.cuffTaskStatus t k =
        Reg.cuffTaskStatus (s.fld (lockReg l) 0 10 / 4) (s.fld (lockReg l) 0 10 % 4)
    · rw [State.taskState, State.setLocks, ← htask, State.fld_setFld_ne _ _ _ _ _ _ _ (by omega), State.taskState]
    · exact State.fld_setFld_out _ _ _ _ _ _ htask

theorem State.taskState_orphanLocksOf (s : State) (t' k' t : Nat) {k : Nat} (hk : k < 4) :
    (s.orphanLocksOf t' k').taskState t k = s.taskState t k := by
  refine List.foldlRecOn (motive := fun v : State => v.taskState t k = s.taskState t k) (List.range 128) _ rfl (fun v hv l _ => ?_)
  split
  · exact (v.taskState_orphanLock l 1 t hk).trans hv
  · exact hv

theorem State.onlyUnits.taskState {s u : State} {mem : Prop} (h : s.onlyUnits mem Reg.stoppedBlock u) {t k : Nat} (ht : t < 256)
    (hk : k < 4) : u.taskState t k = s.taskState t k :=
  State.fld_congr (h.rd _ (Reg.cuffTaskStatus_mem_stoppedBlock ht hk)) _ _

/-! ## Tiles beside the one that is reset -/

/-- No other tile's plain state differs. -/
def State.sameTilesBut (s : State) (t : Nat) (u : State) : Prop := ∀ j, j ≠ t → u.tile j = s.tile j

theorem State.sameTilesBut.setTile {s u : State} {t : Nat} (h : s.sameTilesBut t u) (x : Tile) : s.sameTilesBut t (u.setTile t x) :=
  fun j hj => (tget_tset_ne _ _ _ hj).trans (h j hj)

theorem State.tile_of_tiles {s u : State} (h : u.tiles = s.tiles) (j : Nat) : u.tile j = s.tile j := by
  rw [State.tile, h, State.tile]

theorem State.sameTilesBut.of_tiles {s u v : State} {t : Nat} (h : s.sameTilesBut t u) (hv : v.tiles = u.tiles) :
    s.sameTilesBut t v := fun j hj => (State.tile_of_tiles hv j).trans (h j hj)

theorem State.tiles_orphanLocksOf (s : State) (t k : Nat) : (s.orphanLocksOf t k).tiles = s.tiles := by
  refine List.foldlRecOn (motive := fun v : State => v.tiles = s.tiles) (List.range 128) _ rfl (fun v hv l _ => ?_)
  split
  · refine Eq.trans ?_ hv
    unfold State.orphanLock
    dsimp only
    split <;> rfl
  · exact hv

theorem State.tiles_withdraw (s : State) (t k : Nat) : (s.withdraw t k).tiles = s.tiles := by
  refine List.foldlRecOn (motive := fun v : State => v.tiles = s.tiles) s.lockWait _ rfl (fun v hv p _ => ?_)
  show (if p.2.contains (.task t k) then v.setWaiters p.1 (p.2.filter (· != .task t k)) else v).tiles = s.tiles
  split
  · exact hv
  · exact hv

theorem State.tiles_closeWindow (s : State) (t w : Nat) : (s.closeWindow t w).tiles = s.tiles := by
  unfold State.closeWindow
  split <;> rfl

theorem State.sameTilesBut.closeWindows {s u : State} {t : Nat} (h : s.sameTilesBut t u) : s.sameTilesBut t (u.closeWindows t) := by
  refine State.sameTilesBut.of_tiles (List.foldlRecOn (motive := s.sameTilesBut t) (List.range 16) _ (h.setTile _)
    (fun v hv w _ => ?_)) rfl
  have hclosed := hv.of_tiles (State.tiles_closeWindow (v.setFld (Reg.winStatus t w) 16 8 0) t w)
  dsimp only
  split
  · exact hclosed.of_tiles rfl
  · exact hclosed

theorem State.tiles_dropInsts (s : State) (ts : List Nat) : (s.dropInsts ts).tiles = s.tiles := by
  unfold State.dropInsts
  exact List.foldlRecOn (motive := fun v : State => v.tiles = s.tiles) (List.range 4) _ rfl (fun _ hv _ _ => hv)

/-- An emptied Placket unit: only the queues, contexts and staging buffer of the tile's plain state change. -/
theorem State.tiles_emptyPlacket (s : State) (t : Nat) :
    (s.emptyPlacket t).tiles = (s.setTile t { s.tile t with queues := [], ctxs := [], stagingBy := none }).tiles := by
  unfold State.emptyPlacket
  refine List.foldlRecOn (motive := fun v : State => v.tiles =
    (s.setTile t { s.tile t with queues := [], ctxs := [], stagingBy := none }).tiles) (List.range 16) _ rfl (fun v hv q _ => ?_)
  rw [(State.refreshQ_onlyRegs _ t q).tiles]
  exact hv

theorem State.tiles_emptySb (s : State) (t : Nat) : (s.emptySb t).tiles = s.tiles := by
  unfold State.emptySb State.refreshSb
  dsimp only [State.setFld_tiles]
  exact List.foldlRecOn (motive := fun v : State => v.tiles = s.tiles) (List.range 16) _ rfl (fun _ hv _ _ => hv)

/-! ## The reset of a tile -/

/-- The locks that the tile's tasks hold are ORPHANED and its tasks wait for none (R350). -/
def State.tasksGone (s : State) (t : Nat) : State := (List.range 4).foldl (fun s k => (s.orphanLocksOf t k).withdraw t k) s

/-- The units of the tile stop, as far as the task words go. -/
def State.unitsStopped (s : State) (t : Nat) : State := (((s.dropInsts [t]).closeWindows t).emptyPlacket t).emptySb t

/-- A tile without what its units hold. -/
def Tile.emptied (x : Tile) : Tile :=
  { x with ports := { Ports.init with ceBack := x.ports.ceBack }, tasks := [], shawl := Shawl.init, suits := [] }

theorem Tile.emptied_of_queues {x : Tile} (h : x.queues = []) :
    x.emptied = { x.emptied with tasks := [], suits := [], queues := [] } := by
  rw [← h]
  rfl

/-- No answer is on its way to the tile, and no request of it is tracked. -/
def State.answersGone (s : State) (t : Nat) : State :=
  { s with fabWait := s.fabWait.filter (fun r => r.tile != t), answers := s.answers.filter (fun p => p.dstTile != t) }

/-- The tile is emptied, and answers to it are gone. -/
def State.tileEmptied (s : State) (t : Nat) : State :=
  (((s.setTile t (s.tile t).emptied).wr (shStat t) 0).wr (shProg t) 0).answersGone t

/-- A word of tile `t` that its reset returns to its reset value. -/
def tileForgets (t a : Nat) : Bool := (tileOff t a).any tileResetWord

/-- What the reset of a tile does once its units have stopped. -/
def State.tileCleared (s : State) (t : Nat) : State :=
  let s := s.setTile t { s.tile t with ports := { Ports.init with ceBack := (s.ports t).ceBack }, tasks := [],
                                       shawl := Shawl.init, suits := [] }
  let s := (s.wr (shStat t) 0).wr (shProg t) 0
  let s := { s with fabWait := s.fabWait.filter (fun r => r.tile != t), answers := s.answers.filter (fun p => p.dstTile != t) }
  s.forget (fun a => tileForgets t a)

theorem State.tileCleared_eq (s : State) (t : Nat) : s.tileCleared t = (s.tileEmptied t).forget (fun a => tileForgets t a) := rfl

theorem State.tileReset_cleared (s : State) (t : Nat) : s.tileReset t = ((s.tasksGone t).unitsStopped t).tileCleared t := rfl

theorem State.tileReset_eq (s : State) (t : Nat) :
    s.tileReset t = (((s.tasksGone t).unitsStopped t).tileEmptied t).forget (fun a => tileForgets t a) := by
  rw [State.tileReset_cleared, State.tileCleared_eq]

theorem State.tiles_tileEmptied (s : State) (t : Nat) : (s.tileEmptied t).tiles = (s.setTile t (s.tile t).emptied).tiles :=
  (State.wr_tiles ((s.setTile t (s.tile t).emptied).wr (shStat t) 0) (shProg t) 0).trans (State.wr_tiles ..)

/-- The plain state of a tile after its reset. -/
theorem State.tiles_tileReset (s : State) (t : Nat) : (s.tileReset t).tiles =
    (((s.tasksGone t).unitsStopped t).setTile t (((s.tasksGone t).unitsStopped t).tile t).emptied).tiles := by
  rw [State.tileReset_eq, ← State.tiles_tileEmptied, State.forget]

theorem tileForgets_taskStatus {t t' k : Nat} (hk : k < 4) : tileForgets t (Reg.cuffTaskStatus t' k) = decide (t' = t) := by
  unfold tileForgets tileOff
  by_cases h : t' = t
  · subst h
    rw [if_pos (by simp only [Reg.cuffTaskStatus]; omega)]
    have hoff : Reg.cuffTaskStatus t' k - 0x1000000 - 0x10000 * t' = 0x4104 + 0x40 * k := by
      rw [Reg.cuffTaskStatus]
      omega
    rw [hoff, decide_eq_true rfl, Option.any_some]
    interval_cases k <;> rfl
  · rw [if_neg (by simp only [Reg.cuffTaskStatus]; omega), decide_eq_false h, Option.any_none]

theorem tileForgets_suitStatus {t i : Nat} (hi : i < 4) : tileForgets t (Reg.suitStatus t i) = true := by
  unfold tileForgets tileOff
  rw [if_pos (by simp only [Reg.suitStatus]; omega)]
  have hoff : Reg.suitStatus t i - 0x1000000 - 0x10000 * t = 0x4800 + 0x10 * i := by
    rw [Reg.suitStatus]
    omega
  rw [hoff, Option.any_some]
  interval_cases i <;> rfl

theorem tileForgets_outside {t a : Nat} (ht : t < 256) (ha : a ∈ Reg.unitBlockᶜ) : tileForgets t a = false := by
  unfold tileForgets tileOff
  rw [if_neg (fun hin => ha (Reg.mem_unitBlock (by omega) (by omega))), Option.any_none]

section Reset
variable {t : Nat} (ht : t < 256)

theorem State.tasksGone_onlyUnits (s : State) (t : Nat) : s.onlyUnits True Reg.unitBlockᶜ (s.tasksGone t) :=
  List.foldlRecOn (List.range 4) _ (State.onlyUnits.refl s True _) (fun _ hv k _ =>
    (hv.orphanLocksOf t k).trans (((State.onlyUnits.refl _ True _).withdraw t k).mono Reg.unitBlock_compl_subset))

include ht

theorem State.unitsStopped_onlyUnits (s : State) : s.onlyUnits True Reg.stoppedBlock (s.unitsStopped t) :=
  ((((State.onlyUnits.refl s True _).dropInsts [t]).closeWindows ht).emptyPlacket ht).emptySb ht

theorem State.tileEmptied_onlyUnits (s : State) : s.onlyUnits True Reg.stoppedBlock (s.tileEmptied t) := by
  have hstat : shStat t ∉ Reg.stoppedBlock := by
    refine Reg.notMem_stoppedBlock_panel ?_ ?_ <;> rw [shStat, Reg.shawlStatus] <;> omega
  have hprog : shProg t ∉ Reg.stoppedBlock := by
    refine Reg.notMem_stoppedBlock_panel ?_ ?_ <;> rw [shProg, Reg.shawlProgress] <;> omega
  exact ((((State.onlyUnits.refl s True _).setTile t _).wr hstat _).wr hprog _).unitsSet rfl rfl rfl

theorem State.tileReset_onlyUnits (s : State) : s.onlyUnits True Reg.unitBlockᶜ (s.tileReset t) := by
  have hemptied := ((State.unitsStopped_onlyUnits ht (s.tasksGone t)).trans (State.tileEmptied_onlyUnits ht _)).mono
    Reg.unitBlock_compl_subset
  rw [State.tileReset_eq]
  exact ((s.tasksGone_onlyUnits t).trans hemptied).forget (fun a ha => tileForgets_outside ht ha)

/-- A tile reset frees the tile's task slots and leaves those of other tiles. -/
theorem State.taskState_tileReset (s : State) {t' k : Nat} (ht' : t' < 256) (hk : k < 4) :
    (s.tileReset t).taskState t' k = if t' = t then taskFree else s.taskState t' k := by
  rw [State.tileReset_eq, State.taskState, State.fld, State.rd_forget, tileForgets_taskStatus hk]
  split
  · next heq =>
    rw [if_pos (of_decide_eq_true heq), regReset_cuffTaskStatus ⟨t', ht'⟩ ⟨k, hk⟩]
    rfl
  · next hne =>
    rw [if_neg (by simpa using hne)]
    have hgone : (s.tasksGone t).taskState t' k = s.taskState t' k :=
      List.foldlRecOn (motive := fun v : State => v.taskState t' k = s.taskState t' k) (List.range 4) _ rfl (fun v hv k' _ =>
        (((State.onlyUnits.refl _ True _).withdraw t k').taskState ht' hk).trans ((v.taskState_orphanLocksOf t k' t' hk).trans hv))
    exact ((State.tileEmptied_onlyUnits ht _).taskState ht' hk).trans
      (((State.unitsStopped_onlyUnits ht _).taskState ht' hk).trans hgone)

theorem State.suitState_tileReset (s : State) {i : Nat} (hi : i < 4) : (s.tileReset t).suitState t i = suitFree := by
  rw [State.tileReset_eq, State.suitState, State.fld, State.rd_forget, tileForgets_suitStatus hi, if_pos rfl,
    regReset_suitStatus ⟨t, ht⟩ ⟨i, hi⟩]
  rfl

omit ht

theorem State.sameTilesBut_tileReset (s : State) (t : Nat) : s.sameTilesBut t (s.tileReset t) := by
  have hgone : s.sameTilesBut t (s.tasksGone t) :=
    List.foldlRecOn (motive := s.sameTilesBut t) (List.range 4) _ (fun _ _ => rfl) (fun v hv k _ =>
      hv.of_tiles ((State.tiles_withdraw _ t k).trans (v.tiles_orphanLocksOf t k)))
  have hdropped : s.sameTilesBut t ((s.tasksGone t).dropInsts [t]) := hgone.of_tiles (State.tiles_dropInsts _ [t])
  have hplacket := ((hdropped.closeWindows).setTile _).of_tiles (State.tiles_emptyPlacket _ t)
  have hunits : s.sameTilesBut t ((s.tasksGone t).unitsStopped t) := hplacket.of_tiles (State.tiles_emptySb _ t)
  exact (hunits.setTile _).of_tiles (s.tiles_tileReset t)

theorem State.queues_unitsStopped (s : State) (t : Nat) : ((s.unitsStopped t).tile t).queues = [] := by
  have hunits := (State.tiles_emptySb (((s.dropInsts [t]).closeWindows t).emptyPlacket t) t).trans (State.tiles_emptyPlacket _ t)
  rw [State.unitsStopped, State.tile_of_tiles hunits, State.tile_setTile_self]

/-- The tile holds no task, suit or queue any more. -/
theorem State.tile_tileReset (s : State) (t : Nat) : (s.tileReset t).tile t =
    { (s.tileReset t).tile t with tasks := [], suits := [], queues := [] } := by
  have hreset : (s.tileReset t).tile t = (((s.tasksGone t).unitsStopped t).tile t).emptied :=
    (State.tile_of_tiles (s.tiles_tileReset t) t).trans (State.tile_setTile_self ..)
  rw [hreset]
  exact Tile.emptied_of_queues (State.queues_unitsStopped _ t)

end Reset

/-! ## The stop of a partition (R448) -/

theorem State.freeLocks_onlyUnits (s : State) (q : Nat) : s.onlyUnits True Reg.stoppedBlock (s.freeLocks q) :=
  List.foldlRecOn (setBits (s.slot q).locks 128) _ (State.onlyUnits.refl s True _) (fun _ hv l _ =>
    (hv.setWaiters l []).wr (lockReg_notMem_stoppedBlock l) _)

theorem State.tilesReset_onlyUnits {ts : List Nat} (hts : ∀ t ∈ ts, t < 256) (s : State) :
    s.onlyUnits True Reg.unitBlockᶜ (ts.foldl State.tileReset s) :=
  List.foldlRecOn (motive := s.onlyUnits True Reg.unitBlockᶜ) ts _ (State.onlyUnits.refl s True _)
    (fun v hv t ht => hv.trans (v.tileReset_onlyUnits (hts t ht)))

theorem State.stopPartition_onlyUnits (s : State) (q : Nat) : s.onlyUnits True Reg.unitBlockᶜ (s.stopPartition q) :=
  (s.tilesReset_onlyUnits (fun _ ht => State.lt_of_mem_tilesOf ht)).trans
    ((State.freeLocks_onlyUnits _ q).mono Reg.unitBlock_compl_subset)

/-- Every task slot of tiles that have been reset is free. -/
theorem State.taskState_tilesReset {ts : List Nat} (hts : ∀ t ∈ ts, t < 256) (s : State) {t k : Nat} (ht : t < 256) (hk : k < 4) :
    (ts.foldl State.tileReset s).taskState t k = if t ∈ ts then taskFree else s.taskState t k := by
  induction ts generalizing s with
  | nil => rfl
  | cons e ts ih =>
    rw [List.forall_mem_cons] at hts
    rw [List.foldl_cons, ih hts.2, State.taskState_tileReset hts.1 s ht hk]
    by_cases hmem : t ∈ ts
    · rw [if_pos hmem, if_pos (List.mem_cons_of_mem _ hmem)]
    · rw [if_neg hmem]
      by_cases heq : t = e <;> simp [heq, hmem]

theorem State.taskState_stopPartition (s : State) {q t k : Nat} (ht : t ∈ s.tilesOf q) (hk : k < 4) :
    (s.stopPartition q).taskState t k = taskFree := by
  have hlt := State.lt_of_mem_tilesOf ht
  exact ((State.freeLocks_onlyUnits _ q).taskState hlt hk).trans
    ((s.taskState_tilesReset (fun _ h => State.lt_of_mem_tilesOf h) hlt hk).trans (if_pos ht))

end Sys2Proof.Machine
end

section
/-! SUPPORT. The module stop (R545): what it leaves, and how the slots, ports and domains stand afterwards. -/

namespace Sys2Proof.Machine

/-! ## What the units and the link layers leave alone -/

theorem State.sameLoad.of_onlyUnits {s u v : State} {mem : Prop} {keep keep' : Set Nat} (h : s.sameLoad keep u)
    (hv : u.onlyUnits mem keep' v) (hsub : keep ⊆ keep') : s.sameLoad keep v :=
  h.trans ⟨hv.slots, hv.loading, hv.cmds, hv.hbm, fun a ha => hv.rd a (hsub ha)⟩

section Frame
variable {s u : State} {keep : Set Nat} (h : s.sameLoad keep u)
include h

/-- No register, slot, load, host command or byte of HBM differs from the state before. -/
theorem State.sameLoad.sent {v : State} (hslots : v.slots = u.slots) (hload : v.loading = u.loading) (hcmds : v.cmds = u.cmds)
    (hhbm : v.hbm = u.hbm) (hregs : v.regs = u.regs) : s.sameLoad keep v :=
  h.trans ⟨hslots, hload, hcmds, hhbm, fun a _ => State.rd_of_regs hregs a⟩

theorem State.sameLoad.setFab (p : Nat) (x : FabPort) : s.sameLoad keep (u.setFab p x) := h.sent rfl rfl rfl rfl rfl

theorem State.sameLoad.pump (p : Nat) : s.sameLoad keep (u.pump p) := by
  unfold State.pump
  split
  · exact h.setFab _ _
  · exact h

theorem State.sameLoad.sendVia (p : Nat) (pkt : Packet) : s.sameLoad keep (u.sendVia p pkt) := (h.setFab _ _).pump p

theorem State.sameLoad.dropPacket (hk : Reg.fabStatNoroute ∉ keep) (pkt : Packet) : s.sameLoad keep (u.dropPacket pkt) := by
  have hcount := h.count hk 1
  unfold State.dropPacket
  dsimp only
  split
  · exact hcount.sent rfl rfl rfl rfl rfl
  · exact hcount

theorem State.sameLoad.forward (hk : Reg.fabStatNoroute ∉ keep) (pkt : Packet) : s.sameLoad keep (u.forward pkt) := by
  unfold State.forward
  split
  · exact h.dropPacket hk pkt
  · split
    · exact h.sendVia _ _
    · exact h.dropPacket hk pkt

theorem State.sameLoad.sendLost (q code : Nat) : s.sameLoad keep (u.sendLost q code) :=
  List.foldlRecOn u.mirrorPorts _ h (fun _ hv p _ => hv.sendVia p _)

theorem State.sameLoad.tellPartner (code : Nat) : s.sameLoad keep (u.tellPartner code) :=
  List.foldlRecOn _ _ h (fun _ hv q _ => hv.sendLost q code)

theorem State.sameLoad.sendJobStop (q code cls module seq : Nat) (except : List Nat) :
    s.sameLoad keep (u.sendJobStop q code cls module seq except) := by
  refine List.foldlRecOn (u.jobModules q) _ h (fun v hv m _ => ?_)
  split
  · exact hv
  · exact hv.sent rfl rfl rfl rfl rfl

theorem State.sameLoad.hostStore (a : Nat) (bs : List Byte) : s.sameLoad keep (u.hostStore a bs) := by
  unfold State.hostStore
  split
  · exact h.sent rfl rfl rfl rfl rfl
  · exact h

theorem State.sameLoad.rewritePage (p : Nat) : s.sameLoad keep (u.rewritePage p) :=
  (h.hostStore _ _).sent rfl rfl rfl rfl rfl

end Frame

theorem State.sameLoad.slot {s u : State} {keep : Set Nat} (h : s.sameLoad keep u) (q : Nat) : u.slot q = s.slot q := by
  rw [State.slot, h.slots, State.slot]

/-! ## The parts of the module stop -/

/-- The words below the loader's that the module stop leaves: all but the count of dropped records and the state of the power
domains. -/
def Reg.stopKept : Set Nat := {a | a < 0x100000 ∧ a ≠ Reg.flogDropped ∧ a ≠ Reg.pwrDomainOn ∧ a ≠ Reg.pwrDomainWaking}

theorem Reg.stopKept_subset_unit : Reg.stopKept ⊆ Reg.unitBlockᶜ := fun _ ha => Reg.mem_unitBlock_compl_of_lt (by
  have := ha.1
  omega)

theorem Reg.stopKept_subset_switched : Reg.stopKept ⊆ Reg.switchedBlock := fun _ ha =>
  ⟨Reg.mem_poweredBlock_of_lt (by have := ha.1; omega), ha.2.2⟩

theorem Reg.notMem_stopKept_of_ge {a : Nat} (h : 0x100000 ≤ a) : a ∉ Reg.stopKept := fun hm => absurd hm.1 (by omega)

/-- The slot shows the class M fault, a pending commit of it ends, and the other modules of its job learn of the stop. -/
def State.slotStopped (seq : Nat) (s : State) (q : Nat) : State :=
  let s := (s.setFault q 0x14 0 14 s.moduleId).endCommit q 3
  (s.setSlot q { s.slot q with state := .faulted }).sendJobStop q 0x14 3 s.moduleId seq []

/-- Every partition stops, the partner and the job learn of it, and the record is queued. -/
def State.stopAnnounced (s : State) : State :=
  let qs := s.loaded
  let s := (qs.foldl State.stopPartition s).tellPartner 0x14
  let seq := s.nextSeq
  let s := s.pushRec (s.record 0x14 3 14 0 none none none 0 (s.rd Reg.envTrip).toNat (s.rd Reg.envStatus).toNat)
  qs.foldl (State.slotStopped seq) s

/-- What waits at the die edge goes to the ports, and the status pages are written once more. -/
def State.lastWords (s : State) (pages : Bool) : State :=
  let s := s.fabOut.foldl State.forward { s with fabOut := [] }
  if pages && s.pagesOn then (List.range 9).foldl State.rewritePage s else s

/-- The fabric ports are DISABLED, and nothing is left to stop or to load. -/
def State.portsDisabled (s : State) : State := (List.range 16).foldl (fun s p => s.setPort p portDisabled 0) s

def State.halted (s : State) : State := { s with stopped := true, pagesFinal := true, stops := [], loading := none }

@[simp] theorem State.rd_halted (s : State) (a : Nat) : s.halted.rd a = s.rd a := rfl
@[simp] theorem State.slot_halted (s : State) (q : Nat) : s.halted.slot q = s.slot q := rfl

theorem State.moduleStop_eq (s : State) (pages : Bool) :
    s.moduleStop pages = (((s.stopAnnounced.lastWords pages).portsDisabled).halted).domainsOff idleDomains := rfl

/-! ## Registers through the stop -/

/-- A pending commit that ends changes its status word and its slot (R60). -/
theorem State.rd_endCommit (s : State) (q reason : Nat) {a : Nat} (ha : a ≠ Reg.structCommitStatus q) :
    (s.endCommit q reason).rd a = s.rd a := by
  unfold State.endCommit
  split
  · exact (State.rd_setFld_ne _ _ _ _ ha).trans (State.rd_setFld_ne _ _ _ _ ha)
  · rfl

theorem State.slotStopped_rd (s : State) (seq q : Nat) {a : Nat} (ha : a ∈ Reg.stopKept) : (s.slotStopped seq q).rd a = s.rd a := by
  have hne : a ≠ Reg.structCommitStatus q := by
    have := ha.1
    rw [Reg.structCommitStatus]
    omega
  exact ((State.sameLoad.refl _ {a}).sendJobStop _ _ _ _ _ _).rd a rfl |>.trans
    (State.rd_endCommit (s.setFault q 0x14 0 14 s.moduleId) q 3 hne)

theorem State.partitionsStopped_rd (s : State) (qs : List Nat) {a : Nat} (ha : a ∈ Reg.stopKept) :
    (qs.foldl State.stopPartition s).rd a = s.rd a :=
  List.foldlRecOn (motive := fun v : State => v.rd a = s.rd a) qs _ rfl
    (fun v hv q _ => ((v.stopPartition_onlyUnits q).rd a (Reg.stopKept_subset_unit ha)).trans hv)

theorem State.stopAnnounced_rd (s : State) {a : Nat} (ha : a ∈ Reg.stopKept) : s.stopAnnounced.rd a = s.rd a := by
  have hdropped : Reg.flogDropped ∉ Reg.stopKept := fun hm => hm.2.1 rfl
  have htold := ((State.sameLoad.refl (s.loaded.foldl State.stopPartition s) Reg.stopKept).tellPartner 0x14)
  refine (List.foldlRecOn (motive := fun v : State => v.rd a = s.rd a) s.loaded _ ?_
    (fun v hv q _ => (v.slotStopped_rd _ q ha).trans hv))
  exact ((htold.pushRec hdropped _).rd a ha).trans (s.partitionsStopped_rd s.loaded ha)

theorem State.lastWords_sameLoad (s : State) (pages : Bool) : s.sameLoad Reg.stopKept (s.lastWords pages) := by
  have hroute : Reg.fabStatNoroute ∉ Reg.stopKept := Reg.notMem_stopKept_of_ge (by decide)
  have hsent : s.sameLoad Reg.stopKept (s.fabOut.foldl State.forward { s with fabOut := [] }) :=
    List.foldlRecOn s.fabOut _ ((State.sameLoad.refl s _).sent rfl rfl rfl rfl rfl) (fun _ hv p _ => hv.forward hroute p)
  unfold State.lastWords
  dsimp only
  split
  · exact List.foldlRecOn (List.range 9) _ hsent (fun _ hv p _ => hv.rewritePage p)
  · exact hsent

theorem State.portsDisabled_onlyUnits (s : State) : s.onlyUnits False Reg.switchedBlock s.portsDisabled := by
  refine ((List.foldlRecOn (motive := s.onlyUnits False Reg.poweredBlock) (List.range 16) _ (State.onlyUnits.refl s False _)
    (fun v hv p hp => ?_))).mono Reg.switchedBlock_subset
  have hp := List.mem_range.1 hp
  exact hv.setPort (Reg.fabPortStatus_notMem_poweredBlock (by omega)) Reg.mirrorLinkStatus_notMem_poweredBlock _ _

/-- The frame of the end of the stop, once nothing is left to stop. -/
theorem State.moduleStop_switched (s : State) (pages : Bool) :
    (((s.stopAnnounced.lastWords pages).portsDisabled).halted).onlyUnits False Reg.switchedBlock (s.moduleStop pages) := by
  rw [State.moduleStop_eq]
  exact (State.onlyUnits.refl _ False _).domainsOff idleDomains

/-- The words of identity, boot, backup domain, log and monitors stay (R545). -/
theorem State.rd_moduleStop (s : State) (pages : Bool) {a : Nat} (ha : a ∈ Reg.stopKept) : (s.moduleStop pages).rd a = s.rd a := by
  rw [(s.moduleStop_switched pages).rd a (Reg.stopKept_subset_switched ha), State.rd_halted,
    (State.portsDisabled_onlyUnits _).rd a (Reg.stopKept_subset_switched ha), (State.lastWords_sameLoad _ pages).rd a ha,
    s.stopAnnounced_rd ha]

/-! ## Slots -/

/-- The slot shows the class M fault. -/
def Slot.stoppedM (x : Slot) : Prop := x.state = .faulted ∧ x.fault = 0x14

theorem State.endCommit_fault (s : State) (q reason : Nat) : ((s.endCommit q reason).slot q).fault = (s.slot q).fault := by
  unfold State.endCommit
  split
  · rw [State.slot, State.setSlot, tget_tset_self]
  · rfl

theorem State.endCommit_slot_ne (s : State) {q j : Nat} (reason : Nat) (h : j ≠ q) : (s.endCommit q reason).slot j = s.slot j := by
  unfold State.endCommit
  split
  · exact (tget_tset_ne _ _ _ h).trans rfl
  · rfl

theorem State.slotStopped_self (s : State) (seq q : Nat) : ((s.slotStopped seq q).slot q).stoppedM := by
  have hslot := ((State.sameLoad.refl (((s.setFault q 0x14 0 14 s.moduleId).endCommit q 3).setSlot q
    { ((s.setFault q 0x14 0 14 s.moduleId).endCommit q 3).slot q with state := .faulted }) ∅).sendJobStop q 0x14 3
    ((s.setFault q 0x14 0 14 s.moduleId).endCommit q 3).moduleId seq []).slot q
  rw [State.slotStopped, hslot, State.slot_setSlot_self]
  refine ⟨rfl, (State.endCommit_fault _ q 3).trans ?_⟩
  rw [State.setFault, State.slot_setSlot_self]

theorem State.slotStopped_ne (s : State) (seq : Nat) {q j : Nat} (h : j ≠ q) : (s.slotStopped seq q).slot j = s.slot j := by
  refine (((State.sameLoad.refl _ ∅).sendJobStop _ _ _ _ _ _).slot j).trans ?_
  exact (tget_tset_ne _ _ _ h).trans (((s.setFault q 0x14 0 14 s.moduleId).endCommit_slot_ne 3 h).trans (tget_tset_ne _ _ _ h))

theorem State.slotsStopped (seq : Nat) (qs : List Nat) (s : State) {q : Nat} (h : q ∈ qs ∨ (s.slot q).stoppedM) :
    ((qs.foldl (State.slotStopped seq) s).slot q).stoppedM := by
  induction qs generalizing s with
  | nil => exact h.resolve_left List.not_mem_nil
  | cons e qs ih =>
    refine ih _ ?_
    by_cases heq : q = e
    · subst heq
      exact Or.inr (s.slotStopped_self seq q)
    · refine (h.imp (fun hm => (List.mem_cons.1 hm).resolve_left heq) (fun hs => ?_))
      rwa [s.slotStopped_ne seq heq]

/-- Every slot that holds an image is FAULTED (R545). -/
theorem State.slot_moduleStop (s : State) (pages : Bool) {q : Nat} (hq : q < 8) (ht : (s.slot q).tiles ≠ 0) :
    ((s.moduleStop pages).slot q).stoppedM := by
  have hloaded : q ∈ s.loaded := List.mem_filter.2 ⟨List.mem_range.2 hq, by simpa using ht⟩
  have hannounced : (s.stopAnnounced.slot q).stoppedM := State.slotsStopped _ _ _ (Or.inl hloaded)
  rw [(s.moduleStop_switched pages).slot, State.slot_halted, (State.portsDisabled_onlyUnits _).slot,
    (State.lastWords_sameLoad _ pages).slot]
  exact hannounced

theorem State.moduleStop_stopped (s : State) (pages : Bool) : (s.moduleStop pages).stopped = true ∧ (s.moduleStop pages).stops = [] :=
  ⟨(s.moduleStop_switched pages).stopped, (s.moduleStop_switched pages).stops⟩

/-! ## Ports and domains -/

theorem State.moduleStop_domains (s : State) (pages : Bool) : ∀ d ∈ idleDomains, (s.moduleStop pages).domainOn d = false := by
  rw [State.moduleStop_eq]
  exact State.domainsOff_off idleDomains_le _

theorem State.portsDisabled_portState (s : State) {p : Nat} (hp : p < 16) : s.portsDisabled.portState p = 0 := by
  have hprefix : ∀ n ≤ 16, p < n → ((List.range n).foldl (fun s p => s.setPort p portDisabled 0) s).portState p = 0 := by
    intro n
    induction n with
    | zero => exact fun _ h => absurd h (by omega)
    | succ n ih =>
      intro hn hpn
      rw [List.range_succ, List.foldl_append, List.foldl_cons, List.foldl_nil]
      by_cases hlast : p = n
      · subst hlast
        exact State.portState_setPort _ (by omega) (by decide) 0
      · refine (State.portState_congr (State.rd_setPort_ne _ _ _ ?_ ?_)).trans (ih (by omega) (by omega)) <;>
          simp only [Reg.fabPortStatus, Reg.mirrorLinkStatus] <;> omega
  exact hprefix 16 (le_refl _) hp

theorem State.moduleStop_portState (s : State) (pages : Bool) {p : Nat} (hp : p < 16) : (s.moduleStop pages).portState p = 0 := by
  rw [State.moduleStop_eq]
  exact State.portState_domainsOff idleDomains_le _ (by omega)
    ((State.portState_congr (State.rd_halted ..)).trans (State.portsDisabled_portState _ hp))

end Sys2Proof.Machine
end

section
/-! SUPPORT. The module's resets and the loss of the rail (R457, R513, R516, R530, R531, R561): what they keep and what stands at
its reset value afterwards. -/

namespace Sys2Proof.Machine

/-- What a loss keeps stands, every other word is at its reset value. -/
theorem State.rd_lose (s : State) (keep : Nat → Bool) (log : Bool) (a : Nat) :
    (s.lose keep log).rd a = if keep a then s.rd a else regReset a := by
  have h := tfind_filter s.regs keep a
  rw [State.rd, State.lose, tget, h]
  cases keep a <;> rfl

theorem State.rd_beginBoot (s : State) (kind : Nat) {a : Nat} (hboot : a ≠ Reg.bootStatus) (hcollar : a ≠ Reg.collarStatus) :
    (s.beginBoot kind).rd a = s.rd a := (State.rd_wr_ne _ _ hcollar).trans (State.rd_wr_ne _ _ hboot)

theorem State.rd_beginBoot_bootStatus (s : State) (kind : Nat) : (s.beginBoot kind).rd Reg.bootStatus = 0x20000000 :=
  (State.rd_wr_ne _ _ (by decide)).trans (State.rd_wr_self ..)

theorem State.rd_beginBoot_collarStatus (s : State) (kind : Nat) : (s.beginBoot kind).rd Reg.collarStatus = 0x40000000 :=
  State.rd_wr_self ..

/-- A word that a test does not select is not one that it selects. -/
theorem ne_of_keep {keep : Nat → Bool} {a b : Nat} (ha : keep a = true) (hb : keep b = false) : a ≠ b := by
  rintro rfl
  exact absurd ha (by simp [hb])

/-! ## The warm reset (R530) -/

/-- What a warm reset takes is gone, before boot begins: an armed slot is armed no longer for a refused activation (R457). -/
def State.warmLost (s : State) : State :=
  { s.lose (fun a => warmKeeps a || a == Reg.mirrorFwArm) true with lostSent := s.lostNow 0 }.setBit Reg.mirrorFwArm 2 false

theorem State.warmReset_eq (s : State) : s.warmReset = s.warmLost.beginBoot 3 := rfl

theorem State.rd_warmLost (s : State) {a : Nat} (ha : a ≠ Reg.mirrorFwArm) :
    s.warmLost.rd a = if warmKeeps a then s.rd a else regReset a := by
  refine (State.rd_setBit_ne _ _ _ ha).trans ((s.rd_lose (fun a => warmKeeps a || a == Reg.mirrorFwArm) true a).trans ?_)
  simp [ha]

theorem State.warmReset_started (s : State) : s.warmStarted s.warmReset := by
  rw [State.warmReset_eq]
  refine ⟨⟨rfl, State.rd_beginBoot_bootStatus .., State.rd_beginBoot_collarStatus .., rfl, rfl, rfl, fun _ => rfl, rfl, rfl, rfl,
    rfl, fun a ha => ?_, fun a ha hboot hcollar hout => ?_⟩, ?_⟩
  · rw [State.rd_beginBoot _ _ (ne_of_keep ha rfl) (ne_of_keep ha rfl), s.rd_warmLost (ne_of_keep ha rfl), if_pos ha]
  · rw [State.rd_beginBoot _ _ hboot hcollar, s.rd_warmLost (List.ne_of_not_mem_cons hout), ha, if_neg Bool.false_ne_true]
  · have harm : (s.lose (fun a => warmKeeps a || a == Reg.mirrorFwArm) true).rd Reg.mirrorFwArm = s.rd Reg.mirrorFwArm :=
      (s.rd_lose _ true _).trans (if_pos rfl)
    rw [State.bit_congr (State.rd_beginBoot _ _ (by decide) (by decide))]
    exact (State.getLsbD_setBit_ne _ _ _ _ (by decide)).trans (State.bit_congr harm 0)

/-! ## The cold reset (R513, R516) -/

/-- What a cold reset keeps: identity and ENV_STATUS. -/
def coldKeeps (a : Nat) : Bool := a < 0x40 || a == Reg.envStatus

theorem backupWord_of_coldKeeps {a : Nat} (h : coldKeeps a = true) : backupWord a = false := by
  rw [coldKeeps, Bool.or_eq_true, decide_eq_true_iff, beq_iff_eq] at h
  rcases h with hlow | rfl
  · rw [backupWord, Bool.and_eq_false_iff, decide_eq_false_iff_not]
    exact Or.inl (by omega)
  · rfl

/-- A cold reset before the backup domain goes as well. -/
def State.coldLost (s : State) : State :=
  { s.lose (fun a => a < 0x40 || backupWord a || a == Reg.envStatus) false with lostSent := s.lostNow 0 }

theorem State.coldReset_eq (s : State) : s.coldReset = (s.coldLost.loseBackup false).beginBoot 4 := rfl

theorem State.rd_coldLost (s : State) (a : Nat) :
    s.coldLost.rd a = if coldKeeps a || backupWord a then s.rd a else regReset a := by
  refine (s.rd_lose (fun a => a < 0x40 || backupWord a || a == Reg.envStatus) false a).trans ?_
  rw [coldKeeps, Bool.or_right_comm]

/-- CHARGE and ON_BACKUP stay, and nothing was held. -/
theorem putField_calKept (v : Word) : putField (v &&& 0x200000FF) 30 1 0 = v &&& 0x200000FF := by
  refine BitVec.eq_of_getLsbD_eq (fun j hj => ?_)
  rw [getLsbD_putField _ _ _ _ _ hj]
  split
  · next h =>
    have hj30 : j = 30 := by omega
    subst hj30
    simp
  · rfl

theorem State.coldReset_started (s : State) : s.coldStarted s.coldReset := by
  rw [State.coldReset_eq]
  have hback := s.coldLost.loseBackup_onlyUnits false
  refine ⟨⟨rfl, State.rd_beginBoot_bootStatus .., State.rd_beginBoot_collarStatus .., rfl, rfl, rfl, fun _ => rfl, rfl, rfl, rfl,
    rfl, fun a ha => ?_, fun a ha hboot hcollar hout => ?_⟩, ?_⟩
  · have hkeep : coldKeeps a = true := ha
    rw [State.rd_beginBoot _ _ (ne_of_keep hkeep rfl) (ne_of_keep hkeep rfl), hback.rd a (backupWord_of_coldKeeps hkeep)]
    exact (s.rd_coldLost a).trans (if_pos (by rw [hkeep, Bool.true_or]))
  · rw [State.rd_beginBoot _ _ hboot hcollar]
    by_cases hword : backupWord a = true
    · exact s.coldLost.rd_loseBackup false hword (List.ne_of_not_mem_cons hout)
    · rw [Bool.not_eq_true] at hword
      rw [hback.rd a hword]
      have hkeep : coldKeeps a = false := ha
      exact (s.rd_coldLost a).trans (if_neg (by rw [hkeep, hword]; decide))
  · have hkept : s.coldLost.calKept = s.rd Reg.calStatus &&& 0x200000FF :=
      congrArg (fun v : Word => v &&& 0x200000FF) ((s.rd_coldLost Reg.calStatus).trans (if_pos rfl))
    rw [State.rd_beginBoot _ _ (by decide) (by decide), s.coldLost.calStatus_loseBackup, hkept]
    exact putField_calKept _

/-! ## The supply (R561) -/

theorem railRise_boots {s : State} (hrail : s.rail = false) : Answers .railRise s (fun u => u.rail = true ∧ u.resetKind = 5 ∧
    u.rd Reg.bootStatus = 0x20000000 ∧ u.bit Reg.calStatus 29 = false ∧
    s.onlyRegs { u with rail := false, resetKind := s.resetKind } [Reg.bootStatus, Reg.collarStatus, Reg.calStatus]) := by
  refine ⟨_, congrArg Host.Outcome.next (if_neg (by simp [hrail])), rfl, rfl, State.rd_beginBoot_bootStatus .., ?_, ?_⟩
  · rw [State.bit_congr (State.rd_beginBoot _ _ (by decide) (by decide))]
    exact State.bit_setBit _ _ _ _ (by decide)
  · have hrefl : s.onlyRegs { s with rail := false, resetKind := s.resetKind } [Reg.bootStatus, Reg.collarStatus, Reg.calStatus] := by
      rw [← hrail]
      exact State.onlyRegs.refl s _
    exact ((hrefl.setBit (a := Reg.calStatus) (by simp) 29 false).wr (a := Reg.bootStatus) (by simp) _).wr
      (a := Reg.collarStatus) (by simp) _

/-- The module is stopped, if it was not. -/
def State.halting (s : State) : State := if s.stopped then s else s.moduleStop false

theorem State.rd_halting (s : State) {a : Nat} (ha : a ∈ Reg.stopKept) : s.halting.rd a = s.rd a := by
  unfold State.halting
  split
  · rfl
  · exact s.rd_moduleStop false ha

/-- LOST leaves on the mirror ports unless the module had stopped before (R545, R561). -/
def State.lastLost (s : State) : List (Nat × Packet) := if s.stopped then [] else s.lostNow 0x14

theorem exec_conversionStop {s : State} (high : Bool) (hrail : s.rail = true) : exec (.conversionStop high) s =
    .next ({ s.halting.lose backupWord false with rail := false, lostSent := s.lastLost }.setBit Reg.calStatus 29 true) :=
  congrArg Host.Outcome.next (if_neg (by simp [hrail]))

theorem conversionStop_loses {s : State} (high : Bool) (hrail : s.rail = true) : Answers (.conversionStop high) s (fun u =>
    u.rail = false ∧ u.pocket = [] ∧ u.hbm = [] ∧ u.tiles = [] ∧ u.lostSent = (if s.stopped then [] else s.lostNow 0x14) ∧
    u.bit Reg.calStatus 29 = true ∧ (∀ i, i < 64 → u.rd (Reg.backupMem i) = s.rd (Reg.backupMem i)) ∧
    ∀ a, backupWord a = false → u.rd a = regReset a) := by
  refine ⟨_, exec_conversionStop high hrail, rfl, rfl, rfl, rfl, rfl, State.bit_setBit _ _ _ _ (by decide), fun i hi => ?_,
    fun a ha => ?_⟩
  · have hword : backupWord (Reg.backupMem i) = true := by
      rw [backupWord, Reg.backupMem, Bool.and_eq_true]
      exact ⟨decide_eq_true (by omega), decide_eq_true (by omega)⟩
    have hkept : Reg.backupMem i ∈ Reg.stopKept := by
      refine ⟨?_, ?_, ?_, ?_⟩ <;> simp only [Reg.backupMem, Reg.flogDropped, Reg.pwrDomainOn, Reg.pwrDomainWaking] <;> omega
    rw [State.rd_setBit_ne _ _ _ (by simp only [Reg.backupMem, Reg.calStatus]; omega)]
    exact (State.rd_lose s.halting backupWord false _).trans ((if_pos hword).trans (s.rd_halting hkept))
  · rw [State.rd_setBit_ne _ _ _ (fun heq => absurd ha (by simp [heq, backupWord, Reg.calStatus]))]
    exact (State.rd_lose s.halting backupWord false a).trans (if_neg (by simp [ha]))

end Sys2Proof.Machine
end

section
/-! SUPPORT. The steps of boot (R517, R518), and the start of the Collar. -/

namespace Sys2Proof.Machine

/-! ## The Collar starts (R63, R517, R522) -/

/-- The words that a start of the Collar writes. -/
def collarWords : List Nat :=
  [Reg.bootStatus, Reg.collarStatus, Reg.structLevelsFmt, Reg.structLevelsLink, Reg.structLevelsNum, Reg.backupMem 0, Reg.secSvn]

/-- The Collar shows its slot and runs. -/
def State.collarShown (s : State) (i : Nat) : State :=
  ((s.setFld Reg.bootStatus 26 1 i).setFld Reg.collarStatus 8 1 i).setFld Reg.collarStatus 0 8 0xFF

/-- The levels of the firmware that the slot holds. -/
def State.levelsShown (s : State) (h : List Byte) : State :=
  let n (off : Nat) : Nat := leNat ((h.drop off).take 2)
  ((s.wr Reg.structLevelsFmt (BitVec.ofNat 32 (n 0x0C + n 0x0E * 65536))).wr Reg.structLevelsLink
    (BitVec.ofNat 32 (n 0x12 + n 0x10 * 65536))).wr Reg.structLevelsNum (BitVec.ofNat 32 (n 0x14))

/-- The boot counter counts. -/
def State.bootCounted (s : State) : State := s.wr (Reg.backupMem 0) (s.rd (Reg.backupMem 0) + 1)

theorem State.startCollar_eq (s : State) (i : Nat) :
    s.startCollar i = (((s.collarShown i).levelsShown (s.fwSlot i)).bootCounted).showSvn := rfl

theorem State.onlyRegs.showSvn {s u : State} {as : List Nat} (h : s.onlyRegs u as) (ha : Reg.secSvn ∈ as) :
    s.onlyRegs u.showSvn as := ((h.setFld ha _ _ _).setFld ha _ _ _).setFld ha _ _ _

theorem State.collarShown_onlyRegs (s : State) (i : Nat) : s.onlyRegs (s.collarShown i) [Reg.bootStatus, Reg.collarStatus] :=
  (((State.onlyRegs.refl s _).setFld (by simp) _ _ _).setFld (by simp) _ _ _).setFld (by simp) _ _ _

theorem State.levelsShown_onlyRegs (s : State) (h : List Byte) :
    s.onlyRegs (s.levelsShown h) [Reg.structLevelsFmt, Reg.structLevelsLink, Reg.structLevelsNum] :=
  (((State.onlyRegs.refl s _).wr (by simp) _).wr (by simp) _).wr (by simp) _

theorem State.startCollar_onlyRegs (s : State) (i : Nat) : s.onlyRegs (s.startCollar i) collarWords := by
  have hlevels := ((s.collarShown_onlyRegs i).mono (by simp [collarWords])).trans
    ((State.levelsShown_onlyRegs (s.collarShown i) (s.fwSlot i)).mono (bs := collarWords) (by simp [collarWords]))
  rw [State.startCollar_eq]
  exact (hlevels.wr (by simp [collarWords]) _).showSvn (by simp [collarWords])

/-- Boot and Collar status are as the Collar showed them, whatever follows. -/
theorem State.rd_startCollar_shown (s : State) (i : Nat) {a : Nat} (ha : a = Reg.bootStatus ∨ a = Reg.collarStatus) :
    (s.startCollar i).rd a = (s.collarShown i).rd a := by
  rw [State.startCollar_eq]
  rcases ha with rfl | rfl
  · rw [(State.showSvn_onlyRegs _).2 _ (by decide), State.bootCounted, State.rd_wr_ne _ _ (by decide),
      (State.levelsShown_onlyRegs _ _).2 _ (by decide)]
  · rw [(State.showSvn_onlyRegs _).2 _ (by decide), State.bootCounted, State.rd_wr_ne _ _ (by decide),
      (State.levelsShown_onlyRegs _ _).2 _ (by decide)]

theorem State.startCollar_active (s : State) {i : Nat} (hi : i < 2) : (s.startCollar i).fwActive = i := by
  rw [State.fwActive, State.fld_congr (s.rd_startCollar_shown i (Or.inl rfl)), State.collarShown,
    State.fld_setFld_out _ _ _ _ _ _ (by decide), State.fld_setFld_out _ _ _ _ _ _ (by decide),
    State.fld_setFld_of_lt _ _ (by decide) hi]

theorem State.startCollar_up (s : State) (i : Nat) : (s.startCollar i).fld Reg.collarStatus 0 8 = 0xFF := by
  rw [State.fld_congr (s.rd_startCollar_shown i (Or.inr rfl)), State.collarShown, State.fld_setFld_of_lt _ _ (by decide) (by decide)]

theorem State.startCollar_counter (s : State) (i : Nat) :
    (s.startCollar i).rd (Reg.backupMem 0) = s.rd (Reg.backupMem 0) + 1 := by
  rw [State.startCollar_eq, (State.showSvn_onlyRegs _).2 _ (by decide), State.bootCounted, State.rd_wr_self,
    (State.levelsShown_onlyRegs _ _).2 _ (by decide), (State.collarShown_onlyRegs _ _).2 _ (by decide)]

/-! ## Boot steps (R517, R518) -/

/-- What a boot step waits for. -/
structure State.boots (s : State) : Prop where
  rail : s.rail = true
  warm : s.warmLow = false
  cold : s.coldLow = false
  running : s.stopped = false
  halted : s.bit Reg.bootStatus 28 = false

/-- The number of the boot step that is complete. -/
def State.step (s : State) : Nat := s.fld Reg.bootStatus 29 3

section Boot
variable {s : State} (h : s.boots)
include h

theorem State.boots.exec (hmonitors : ¬ (s.step = 1 ∧ s.rd Reg.envStatus ≠ 0)) :
    exec .bootStepComplete s = .next (s.bootStep s.step) :=
  congrArg Host.Outcome.next ((if_neg (by simp [h.rail, h.warm, h.cold, h.running, h.halted])).trans (if_neg hmonitors))

theorem State.boots.exec_of_step {n : Nat} (hstep : s.step = n) (hn : n ≠ 1) :
    Machine.exec .bootStepComplete s = .next (s.bootStep n) := by
  rw [h.exec (fun hm => hn (hstep.symm.trans hm.1)), hstep]

omit h in
/-- Boot step 2: the management and host domains are on. -/
def State.bootFirst (s : State) : State :=
  { ((s.domainUp 4).domainUp 30).setFld Reg.bootStatus 29 3 2 with linkUp := !((s.domainUp 4).domainUp 30).perst }

omit h in
theorem State.bootStep1_eq (s : State) : s.bootStep 1 = s.bootFirst := rfl

theorem boot_step1 (hstep : s.step = 1) (henv : s.rd Reg.envStatus = 0) : Answers .bootStepComplete s (fun u =>
    u.step = 2 ∧ u.domainOn 4 = true ∧ u.domainOn 30 = true ∧ u.linkUp = !s.perst) := by
  have hup := ((State.onlyUnits.refl s False _).domainUp 4).domainUp 30
  have hexec : Machine.exec .bootStepComplete s = .next s.bootFirst := by
    rw [h.exec (fun hm => hm.2 henv), hstep, State.bootStep1_eq]
  have hword (d : Nat) : s.bootFirst.domainOn d = ((s.domainUp 4).domainUp 30).domainOn d :=
    State.bit_congr (State.rd_setFld_ne _ _ _ _ (by decide)) _
  refine ⟨s.bootFirst, hexec, State.fld_setFld_of_lt _ _ (by decide) (by decide), ?_, ?_, congrArg not hup.perst⟩
  · rw [hword, State.domainOn_domainUp _ _ (by decide), if_neg (by decide), State.domainOn_domainUp _ _ (by decide), if_pos rfl]
  · rw [hword, State.domainOn_domainUp _ _ (by decide), if_pos rfl]

theorem boot_step1_held (hstep : s.step = 1) (henv : s.rd Reg.envStatus ≠ 0) : exec .bootStepComplete s = .next s :=
  congrArg Host.Outcome.next ((if_neg (by simp [h.rail, h.warm, h.cold, h.running, h.halted])).trans (if_pos ⟨hstep, henv⟩))

/-- The result of the check of a slot stands in its field of BOOT_STATUS. -/
def State.bootResult (s : State) (i c : Nat) : State := s.setFld Reg.bootStatus (if i = 0 then 20 else 16) 4 c

omit h in
theorem State.bootResult_onlyRegs (s : State) (i c : Nat) : s.onlyRegs (s.bootResult i c) [Reg.bootStatus] :=
  (State.onlyRegs.refl s _).setFld List.mem_cons_self _ _ _

omit h in
/-- The result fields lie below the flags and the step. -/
theorem State.fld_bootResult (s : State) (i c : Nat) {lo : Nat} (len : Nat) (hlo : 24 ≤ lo) :
    (s.bootResult i c).fld Reg.bootStatus lo len = s.fld Reg.bootStatus lo len := by
  unfold State.bootResult
  split <;> exact State.fld_setFld_ne _ _ _ _ _ _ _ (by omega)

omit h in
/-- A slot has been chosen: it is the active one, and step 4 is complete. -/
def State.slotChosen (s : State) (i : Nat) : State := (s.setFld Reg.bootStatus 26 1 i).setFld Reg.bootStatus 29 3 4

omit h in
theorem State.slotChosen_step (s : State) (i : Nat) : (s.slotChosen i).step = 4 :=
  State.fld_setFld_of_lt _ _ (by decide) (by decide)

omit h in
theorem State.slotChosen_active (s : State) {i : Nat} (hi : i < 2) : (s.slotChosen i).fwActive = i :=
  (State.fld_setFld_ne _ _ _ _ _ _ _ (by decide)).trans (State.fld_setFld_of_lt _ _ (by decide) hi)

omit h in
/-- The other slot has been chosen, which FALLBACK shows. -/
def State.fallbackChosen (s : State) (i : Nat) : State :=
  ((s.setFld Reg.bootStatus 26 1 i).setBit Reg.bootStatus 27 true).setFld Reg.bootStatus 29 3 4

omit h in
/-- No slot passes: the ROM waits in recovery mode (R523). -/
def State.recoveryHalted (s : State) : State := (s.setBit Reg.bootStatus 28 true).setBit Reg.bootStatus 24 true

omit h in
/-- The choice of a slot (R519): the one that the selector names, then the other. -/
theorem State.bootVerify_eq (hsel : s.selector < 2) : s.bootVerify =
    if s.verifyFw (s.fwSlot s.selector) = fwOk then
      (s.bootResult s.selector (s.verifyFw (s.fwSlot s.selector))).slotChosen s.selector
    else if s.verifyFw (s.fwSlot (1 - s.selector)) = fwOk then
      ((s.bootResult s.selector (s.verifyFw (s.fwSlot s.selector))).bootResult (1 - s.selector)
        (s.verifyFw (s.fwSlot (1 - s.selector)))).fallbackChosen (1 - s.selector)
    else ((s.bootResult s.selector (s.verifyFw (s.fwSlot s.selector))).bootResult (1 - s.selector)
        (s.verifyFw (s.fwSlot (1 - s.selector)))).recoveryHalted := by
  have hmod : s.selector % 2 = s.selector := Nat.mod_eq_of_lt hsel
  unfold State.bootVerify
  rw [hmod]
  rfl

theorem exec_boot_step3 (hstep : s.step = 3) : Machine.exec .bootStepComplete s = .next s.bootVerify :=
  h.exec_of_step hstep (by decide)

theorem boot_step3_first (hstep : s.step = 3) (hsel : s.selector < 2) (hok : s.verifyFw (s.fwSlot s.selector) = fwOk) :
    Answers .bootStepComplete s (fun u => u.step = 4 ∧ u.fwActive = s.selector ∧ s.onlyRegs u [Reg.bootStatus]) := by
  have hexec := exec_boot_step3 h hstep
  rw [State.bootVerify_eq hsel, if_pos hok] at hexec
  exact ⟨_, hexec, State.slotChosen_step .., State.slotChosen_active _ hsel,
    ((s.bootResult_onlyRegs _ _).setFld List.mem_cons_self _ _ _).setFld List.mem_cons_self _ _ _⟩

theorem boot_step3_second (hstep : s.step = 3) (hsel : s.selector < 2) (hbad : s.verifyFw (s.fwSlot s.selector) ≠ fwOk)
    (hok : s.verifyFw (s.fwSlot (1 - s.selector)) = fwOk) : Answers .bootStepComplete s (fun u =>
      u.step = 4 ∧ u.fwActive = 1 - s.selector ∧ u.bit Reg.bootStatus 27 = true) := by
  have hexec := exec_boot_step3 h hstep
  rw [State.bootVerify_eq hsel, if_neg hbad, if_pos hok] at hexec
  refine ⟨_, hexec, State.fld_setFld_of_lt _ _ (by decide) (by decide), ?_, ?_⟩
  · exact (State.fld_setFld_ne _ _ _ _ _ _ _ (by decide)).trans ((State.fld_setFld_ne _ _ _ _ _ _ _ (by decide)).trans
      (State.fld_setFld_of_lt _ _ (by decide) (by omega)))
  · exact (State.getLsbD_setFld_out _ _ _ (by decide)).trans (State.bit_setBit _ _ _ _ (by decide))

theorem boot_step3_halts (hstep : s.step = 3) (hsel : s.selector < 2) (hbad0 : s.verifyFw (s.fwSlot 0) ≠ fwOk)
    (hbad1 : s.verifyFw (s.fwSlot 1) ≠ fwOk) : Answers .bootStepComplete s (fun u =>
      u.step = 3 ∧ u.bit Reg.bootStatus 28 = true ∧ u.bit Reg.bootStatus 24 = true) := by
  have hbad {i : Nat} (hi : i < 2) : s.verifyFw (s.fwSlot i) ≠ fwOk := by
    interval_cases i
    · exact hbad0
    · exact hbad1
  have hexec := exec_boot_step3 h hstep
  rw [State.bootVerify_eq hsel, if_neg (hbad hsel), if_neg (hbad (by omega))] at hexec
  refine ⟨_, hexec, ?_, ?_, State.bit_setBit _ _ _ _ (by decide)⟩
  · exact (State.fld_setFld_ne _ _ _ _ _ _ _ (by decide)).trans ((State.fld_setFld_ne _ _ _ _ _ _ _ (by decide)).trans
      ((State.fld_bootResult _ _ _ _ (by decide)).trans ((State.fld_bootResult _ _ _ _ (by decide)).trans hstep)))
  · exact (State.getLsbD_setBit_ne _ _ _ _ (by decide)).trans (State.bit_setBit _ _ _ _ (by decide))

omit h in
/-- Boot step 5: the domains of the Collar, the mesh, HBM and the host come up. -/
def State.bootDomains (s : State) : State := (3 :: (List.range 13).map (· + 17)).foldl State.domainUp s

omit h in
theorem State.bootStep4_eq (s : State) : s.bootStep 4 =
    let v := (s.bootDomains.startCollar s.bootDomains.fwActive).setFld Reg.bootStatus 29 3 5
    v.wr (Reg.backupMem 1) (v.rd Reg.bootStatus) := rfl

theorem boot_step4 (hstep : s.step = 4) : Answers .bootStepComplete s (fun u => u.step = 5 ∧
    u.fld Reg.collarStatus 0 8 = 0xFF ∧ u.rd (Reg.backupMem 0) = s.rd (Reg.backupMem 0) + 1 ∧ u.domainOn 17 = true) := by
  have hup : s.onlyUnits False Reg.switchedBlock s.bootDomains := (State.onlyUnits.refl s False _).domainsUp _
  have hcounter : Reg.backupMem 0 ∈ Reg.switchedBlock := ⟨Reg.mem_poweredBlock_of_lt (by decide), by decide, by decide⟩
  refine ⟨_, (h.exec_of_step hstep (by decide)).trans (congrArg Host.Outcome.next s.bootStep4_eq), ?_, ?_, ?_, ?_⟩
  · exact (State.fld_congr (State.rd_wr_ne _ _ (by decide)) _ _).trans (State.fld_setFld_of_lt _ _ (by decide) (by decide))
  · exact (State.fld_congr ((State.rd_wr_ne _ _ (by decide)).trans (State.rd_setFld_ne _ _ _ _ (by decide))) _ _).trans
      (State.startCollar_up _ _)
  · refine (State.rd_wr_ne _ _ (by decide)).trans ((State.rd_setFld_ne _ _ _ _ (by decide)).trans ?_)
    rw [State.startCollar_counter, hup.rd _ hcounter]
  · refine (State.bit_congr ((State.rd_wr_ne _ _ (by decide)).trans (State.rd_setFld_ne _ _ _ _ (by decide))) _).trans ?_
    refine (State.bit_congr ((State.startCollar_onlyRegs _ _).2 _ (by decide)) _).trans ?_
    exact State.domainsUp_on (by decide) s (d := 17) (by decide)

omit h in
/-- A Pocket without bytes stays without when domains switch off. -/
theorem State.pocket_domainOff {s : State} (hs : s.pocket = []) (d : Nat) : (s.domainOff d).pocket = [] := by
  have hport (v : State) (p : Nat) (hv : v.pocket = []) : (v.settlePort p).pocket = [] := by
    have hset (st c : Nat) : (v.setPort p st c).pocket = [] := by
      unfold State.setPort
      dsimp only
      split <;> exact hv
    unfold State.settlePort
    split_ifs
    · exact hset _ _
    · exact hv
    · exact hv
    · exact hset _ _
  unfold State.domainOff
  dsimp only
  split_ifs
  · refine List.foldlRecOn (motive := fun v : State => v.pocket = []) (List.range 64) _ hs (fun v hv j _ => ?_)
    show mzero v.pocket _ _ = []
    rw [hv]
    rfl
  · exact hs
  · refine List.foldlRecOn (motive := fun v : State => v.pocket = []) (List.range 18) _ hs (fun v hv p _ => ?_)
    split
    · exact hport v p hv
    · exact hv
  · exact hs

omit h in
theorem State.pocket_settlePanels {s : State} (hs : s.pocket = []) : s.settlePanels.pocket = [] := by
  unfold State.settlePanels
  split
  · exact hs
  · refine List.foldlRecOn (motive := fun v : State => v.pocket = []) (List.range 4) _ hs (fun v hv p _ => ?_)
    split_ifs
    · exact hv
    · exact State.pocket_domainOff (State.pocket_domainOff hv _) _
    · exact hv

omit h in
/-- The tiles leave reset with their Pockets wiped. -/
def State.tilesUp (s : State) : State :=
  (List.range 256).foldl (fun s t => s.wr (Reg.pocketStatus t) 0x40) (((List.range 12).map (· + 5)).foldl State.domainUp s)

omit h in
def State.memoryZeroed (s : State) : State := { s with hbm := [], hbmErr := [], pocket := [], pocketErr := [] }

omit h in
theorem State.bootTiles_eq (s : State) : s.bootTiles = s.tilesUp.memoryZeroed.settlePanels := rfl

omit h in
theorem State.domainOn_tilesUp (s : State) {d : Nat} (hd : d ∈ (List.range 12).map (· + 5)) : s.tilesUp.domainOn d = true := by
  have hle : ∀ e ∈ (List.range 12).map (· + 5), e ≤ 32 := by decide
  refine List.foldlRecOn (motive := fun v : State => v.domainOn d = true) (List.range 256) _ (State.domainsUp_on hle s hd)
    (fun v hv t _ => (State.bit_congr (State.rd_wr_ne _ _ ?_) _).trans hv)
  rw [Reg.pwrDomainOn, Reg.pocketStatus]
  omega

omit h in
theorem State.bootStep5_eq (s : State) : s.bootStep 5 = s.bootTiles.setFld Reg.bootStatus 29 3 6 := rfl

omit h in
theorem State.pocket_bootTiles (s : State) : s.bootTiles.pocket = [] := by
  rw [State.bootTiles_eq]
  exact State.pocket_settlePanels rfl

omit h in
theorem State.hbm_bootTiles (s : State) : s.bootTiles.hbm = [] := by
  rw [State.bootTiles_eq, (State.onlyUnits.refl s.tilesUp.memoryZeroed False Reg.switchedBlock).settlePanels.hbm,
    State.memoryZeroed]

omit h in
@[simp] theorem State.domainOn_memoryZeroed (s : State) (d : Nat) : s.memoryZeroed.domainOn d = s.domainOn d := rfl

omit h in
/-- The control domains of the panels stay on. -/
theorem State.domainOn_bootTiles (s : State) {p : Nat} (hp : p < 4) : s.bootTiles.domainOn (13 + p) = true := by
  rw [State.bootTiles_eq, (State.settlePanels_domain _ (by omega) (fun p' hp' he => absurd he (by omega))).1,
    State.domainOn_memoryZeroed]
  exact s.domainOn_tilesUp (List.mem_map.2 ⟨8 + p, List.mem_range.2 (by omega), by omega⟩)

theorem boot_step5 (hstep : s.step = 5) : Answers .bootStepComplete s (fun u => u.step = 6 ∧ u.pocket = [] ∧ u.hbm = [] ∧
    ∀ p, p < 4 → u.domainOn (13 + p) = true) := by
  have hexec := h.exec_of_step hstep (by decide)
  rw [State.bootStep5_eq] at hexec
  exact ⟨_, hexec, State.fld_setFld_of_lt _ _ (by decide) (by decide),
    (State.setFld_pocket ..).trans s.pocket_bootTiles, (State.setFld_hbm ..).trans s.hbm_bootTiles, fun p hp =>
    (State.bit_congr (State.rd_setFld_ne _ _ _ _ (by decide)) _).trans (s.domainOn_bootTiles hp)⟩

theorem boot_step6 (hstep : s.step = 6) (hcmds : s.cmds = []) : Answers .bootStepComplete s (fun u => u.step = 7 ∧
    u.fld Reg.collarStatus 30 2 = 2 ∧ u.resetKind = 0) := by
  have hboot : s.bootStep 6 = { (s.setFld Reg.collarStatus 30 2 2).setFld Reg.bootStatus 29 3 7 with resetKind := 0 } :=
    State.settleCmds_of_nil hcmds
  refine ⟨_, (h.exec_of_step hstep (by decide)).trans (congrArg Host.Outcome.next hboot),
    State.fld_setFld_of_lt _ _ (by decide) (by decide), ?_, rfl⟩
  exact (State.fld_setFld_out _ _ _ _ _ _ (by decide)).trans (State.fld_setFld_of_lt _ _ (by decide) (by decide))

end Boot

end Sys2Proof.Machine
end

section
/-! SUPPORT. Firmware slots, recovery, update, activation and the key store (R457, R521-R526). Settles O54. -/

namespace Sys2Proof.Machine

/-! ## Recovery and updates (R521-R524) -/

/-- A slot of the firmware flash is written. -/
def State.writeFw (s : State) (i : Nat) (bytes : List Byte) : State := { s with fwSlots := tset s.fwSlots i bytes }

@[simp] theorem State.rd_writeFw (s : State) (i : Nat) (bytes : List Byte) (a : Nat) : (s.writeFw i bytes).rd a = s.rd a := rfl

theorem State.fwSlot_writeFw_self (s : State) (i : Nat) (bytes : List Byte) : (s.writeFw i bytes).fwSlot i = bytes :=
  congrArg (fun x => x.getD (Config.fwFactory i)) (tfind_tset_self s.fwSlots i bytes)

theorem State.fwSlot_writeFw_ne (s : State) {i j : Nat} (bytes : List Byte) (h : j ≠ i) :
    (s.writeFw i bytes).fwSlot j = s.fwSlot j :=
  congrArg (fun x => x.getD (Config.fwFactory j)) (tfind_tset_ne s.fwSlots bytes h)

theorem State.fwSlot_setFld (s : State) (a lo len v i : Nat) : (s.setFld a lo len v).fwSlot i = s.fwSlot i := rfl

@[simp] theorem State.writeFw_selector (s : State) (i : Nat) (bytes : List Byte) : (s.writeFw i bytes).selector = s.selector := rfl

/-- The slot selector is set. -/
def State.withSelector (s : State) (i : Nat) : State := { s with selector := i }

@[simp] theorem State.rd_withSelector (s : State) (i a : Nat) : (s.withSelector i).rd a = s.rd a := rfl

@[simp] theorem State.withSelector_selector (s : State) (i : Nat) : (s.withSelector i).selector = i := rfl

@[simp] theorem State.withSelector_slots (s : State) (i : Nat) : (s.withSelector i).slots = s.slots := rfl

@[simp] theorem State.withSelector_hbm (s : State) (i : Nat) : (s.withSelector i).hbm = s.hbm := rfl

/-- The length of a recovery image that BOOT_RECOVERY_CTRL asks for. -/
def State.recoveryLen (s : State) : Nat :=
  4096 * (if s.fld Reg.bootRecoveryCtrl 0 13 = 0 then 8192 else s.fld Reg.bootRecoveryCtrl 0 13)

/-- A verified recovery image stands in slot A, which the selector names. -/
def State.recovered (s : State) (img : List Byte) : State :=
  { s with recovering := false, fwSlots := tset s.fwSlots 0 img, selector := 0 }

/-- What the ROM does with the bytes it was given. -/
def State.recoveryRead (s : State) (img : List Byte) : State :=
  if (if img.length < s.recoveryLen then 2 else s.verifyFw (img.take s.recoveryLen)) = fwOk then
    (s.recovered (img.take s.recoveryLen)).warmReset
  else State.setFld { s with recovering := false } Reg.bootRecoveryCtrl 24 4
    (if img.length < s.recoveryLen then 2 else s.verifyFw (img.take s.recoveryLen))

/-- What the ROM does with an image of the length asked for. -/
def State.recoveryTried (s : State) (img : List Byte) : State :=
  if s.verifyFw img = fwOk then (s.recovered img).warmReset
  else State.setFld { s with recovering := false } Reg.bootRecoveryCtrl 24 4 (s.verifyFw img)

section Recovery
variable {s : State} {img : List Byte} (hrec : s.recovering = true) (hlen : img.length = s.recoveryLen)
include hrec hlen

theorem exec_recoveryImageVerified : exec (.recoveryImageVerified img) s = .next (s.recoveryTried img) := by
  have hwhole : img.take s.recoveryLen = img := by rw [← hlen, List.take_length]
  have hexec : exec (.recoveryImageVerified img) s = .next (if !s.recovering then s else s.recoveryRead img) := rfl
  have hcode : (if img.length < s.recoveryLen then 2 else s.verifyFw (img.take s.recoveryLen)) = s.verifyFw img := by
    rw [if_neg (by omega), hwhole]
  rw [hexec, hrec, if_neg (by decide)]
  rw [State.recoveryRead, hcode, hwhole, State.recoveryTried]

theorem recoveryImageVerified_passes (hok : s.verifyFw img = fwOk) : Answers (.recoveryImageVerified img) s (fun u =>
    s.warmStarted u ∧ u.fwSlot 0 = img ∧ u.selector = 0) :=
  ⟨_, (exec_recoveryImageVerified hrec hlen).trans (congrArg Host.Outcome.next (if_pos hok)),
    (s.recovered img).warmReset_started, s.fwSlot_writeFw_self 0 img, rfl⟩

theorem recoveryImageVerified_fails (hbad : s.verifyFw img ≠ fwOk) : Answers (.recoveryImageVerified img) s (fun u =>
    u.recovering = false ∧ u.fwSlots = s.fwSlots ∧ s.onlyRegs { u with recovering := true } [Reg.bootRecoveryCtrl]) := by
  refine ⟨_, (exec_recoveryImageVerified hrec hlen).trans (congrArg Host.Outcome.next (if_neg hbad)), rfl, rfl, ?_⟩
  have hrefl : s.onlyRegs { s with recovering := true } [Reg.bootRecoveryCtrl] := by
    rw [← hrec]
    exact State.onlyRegs.refl s _
  exact hrefl.setFld (a := Reg.bootRecoveryCtrl) List.mem_cons_self _ _ _

end Recovery

section Update
variable {s : State}

theorem exec_fwUpdateGo (hup : s.collarUp = true) : exec .fwUpdateGo s = .next s.fwGo := congrArg Host.Outcome.next (if_pos hup)

theorem fwUpdateGo_busy (hup : s.collarUp = true) (hst : s.fld Reg.fwUpdateStatus 29 3 = 1) : Answers .fwUpdateGo s (fun u =>
    u.fld Reg.fwUpdateStatus 24 4 = 9 ∧ u.fld Reg.fwUpdateStatus 29 3 = 1 ∧ s.onlyRegs u [Reg.fwUpdateStatus]) :=
  ⟨_, (exec_fwUpdateGo hup).trans (congrArg Host.Outcome.next (if_pos (Or.inl hst))),
    State.fld_setFld_of_lt _ _ (by decide) (by decide), (State.fld_setFld_ne _ _ _ _ _ _ _ (by decide)).trans hst,
    (State.onlyRegs.refl s _).setFld List.mem_cons_self _ _ _⟩

/-- Which sources are admitted depends on the module's ID alone (R45). -/
theorem State.sourceOk_congr {s u : State} (h : ∀ a, 0x2000000 ≤ a → u.rd a = s.rd a) (a len : Nat) :
    u.sourceOk a len = s.sourceOk a len := by
  have hown : u.ownId = s.ownId := State.fld_congr (h _ (by decide)) _ _
  simp only [State.sourceOk, State.isMe, hown, State.moduleId_congr h]

/-- An update of the inactive slot begins. -/
def State.updateBegun (s : State) : State :=
  ((s.setFld Reg.fwUpdateStatus 28 1 s.fwInactive).setFld Reg.fwUpdateStatus 29 3 1).setFld Reg.fwUpdateStatus 24 4 0

/-- The slot is armed no longer where it is the one to be written. -/
def State.updateDisarmed (s : State) (i : Nat) : State :=
  if s.fld Reg.mirrorFwArm 1 1 = i then s.setBit Reg.mirrorFwArm 0 false else s

theorem State.updateDisarmed_onlyRegs (s : State) (i : Nat) : s.onlyRegs (s.updateDisarmed i) [Reg.mirrorFwArm] := by
  unfold State.updateDisarmed
  split
  · exact (State.onlyRegs.refl s _).setBit List.mem_cons_self _ _
  · exact State.onlyRegs.refl s _

theorem State.updateBegun_onlyRegs (s : State) : s.onlyRegs s.updateBegun [Reg.fwUpdateStatus] :=
  (((State.onlyRegs.refl s _).setFld List.mem_cons_self _ _ _).setFld List.mem_cons_self _ _ _).setFld List.mem_cons_self _ _ _

theorem fwUpdateGo_begins (hup : s.collarUp = true) (hst : s.fld Reg.fwUpdateStatus 29 3 = 0)
    (hsource : s.sourceOk (s.rd64 Reg.fwUpdateAddr) (s.rd Reg.fwUpdateLen).toNat = true) : Answers .fwUpdateGo s (fun u =>
      u.fld Reg.fwUpdateStatus 29 3 = 1 ∧ u.fld Reg.fwUpdateStatus 28 1 = 1 - s.fwActive ∧
      s.onlyRegs u [Reg.fwUpdateStatus, Reg.mirrorFwArm]) := by
  have hslot : (s.setFld Reg.fwUpdateStatus 28 1 s.fwInactive).sourceOk
      ((s.setFld Reg.fwUpdateStatus 28 1 s.fwInactive).rd64 Reg.fwUpdateAddr)
      ((s.setFld Reg.fwUpdateStatus 28 1 s.fwInactive).rd Reg.fwUpdateLen).toNat = true := by
    rw [State.rd64_congr (State.rd_setFld_ne _ _ _ _ (by decide)) (State.rd_setFld_ne _ _ _ _ (by decide)),
      State.rd_setFld_ne _ _ _ _ (by decide), ← hsource]
    refine State.sourceOk_congr (fun a ha => State.rd_setFld_ne _ _ _ _ ?_) _ _
    rw [Reg.fwUpdateStatus]
    omega
  have hgo : s.fwGo = s.updateBegun.updateDisarmed s.fwInactive :=
    (if_neg (by simp [hst])).trans (if_pos hslot)
  have hdisarmed := State.updateDisarmed_onlyRegs s.updateBegun s.fwInactive
  refine ⟨_, (exec_fwUpdateGo hup).trans (congrArg Host.Outcome.next hgo), ?_, ?_,
    (s.updateBegun_onlyRegs.mono (by simp)).trans (hdisarmed.mono (by simp))⟩
  · rw [State.fld_congr (hdisarmed.2 _ (by decide)), State.updateBegun, State.fld_setFld_ne _ _ _ _ _ _ _ (by decide),
      State.fld_setFld_of_lt _ _ (by decide) (by decide)]
  · have hactive := s.fwActive_lt
    rw [State.fld_congr (hdisarmed.2 _ (by decide)), State.updateBegun, State.fld_setFld_ne _ _ _ _ _ _ _ (by decide),
      State.fld_setFld_ne _ _ _ _ _ _ _ (by decide), State.fld_setFld_of_lt _ _ (by decide) (by rw [State.fwInactive]; omega)]
    rfl

/-- The bytes that the update has read. -/
def State.updateBytes (s : State) (img : List Byte) : List Byte :=
  s.sourceBytes (s.rd64 Reg.fwUpdateAddr) (s.rd Reg.fwUpdateLen).toNat img

/-- The update ends with result `c` in state `st`, and the slot holds `bytes`. -/
def State.updateEnds (s : State) (c st : Nat) (bytes : List Byte) : State :=
  ((s.setFld Reg.fwUpdateStatus 24 4 c).setFld Reg.fwUpdateStatus 29 3 st).writeFw (s.fld Reg.fwUpdateStatus 28 1) bytes

theorem exec_fwUpdateVerified (hst : s.fld Reg.fwUpdateStatus 29 3 = 1) (img : List Byte) : exec (.fwUpdateVerified img) s =
    .next (if s.verifyFw (s.updateBytes img) = fwOk then s.updateEnds (s.verifyFw (s.updateBytes img)) 3 (s.updateBytes img)
      else s.updateEnds (s.verifyFw (s.updateBytes img)) 4 (List.replicate 512 0 ++ (s.updateBytes img).drop 512)) := by
  change execFwUpdateVerified img s = _
  simp only [execFwUpdateVerified, State.updateEnds, State.updateBytes, State.writeFw, hst, ne_eq, not_true_eq_false, false_and, if_false,
    State.setFld_fwSlots]
  rfl

theorem State.updateEnds_slot (s : State) (c st : Nat) (bytes : List Byte) :
    (s.updateEnds c st bytes).fwSlot (s.fld Reg.fwUpdateStatus 28 1) = bytes ∧
    (s.updateEnds c st bytes).fwSlot (1 - s.fld Reg.fwUpdateStatus 28 1) = s.fwSlot (1 - s.fld Reg.fwUpdateStatus 28 1) := by
  have hslot : s.fld Reg.fwUpdateStatus 28 1 < 2 := fieldOf_lt _ 28 1
  rw [State.updateEnds]
  exact ⟨State.fwSlot_writeFw_self _ _ _, by
    rw [State.fwSlot_writeFw_ne _ _ (by omega), State.fwSlot_setFld, State.fwSlot_setFld]⟩

theorem State.updateEnds_status (s : State) (c : Nat) {st : Nat} (hst : st < 8) (bytes : List Byte) :
    (s.updateEnds c st bytes).fld Reg.fwUpdateStatus 29 3 = st := by
  rw [State.updateEnds, State.fld_congr (State.rd_writeFw ..), State.fld_setFld_of_lt _ _ (by decide) hst]

theorem fwUpdateVerified_passes (hst : s.fld Reg.fwUpdateStatus 29 3 = 1) (img : List Byte)
    (hok : s.verifyFw (s.updateBytes img) = fwOk) : Answers (.fwUpdateVerified img) s (fun u =>
      u.fwSlot (s.fld Reg.fwUpdateStatus 28 1) = s.updateBytes img ∧
      u.fwSlot (1 - s.fld Reg.fwUpdateStatus 28 1) = s.fwSlot (1 - s.fld Reg.fwUpdateStatus 28 1) ∧
      u.fld Reg.fwUpdateStatus 29 3 = 3 ∧ u.selector = s.selector) := by
  have hexec := exec_fwUpdateVerified hst img
  rw [if_pos hok] at hexec
  exact ⟨_, hexec, (s.updateEnds_slot ..).1, (s.updateEnds_slot ..).2, s.updateEnds_status _ (by decide) _, by
    rw [State.updateEnds, State.writeFw_selector, State.setFld_selector, State.setFld_selector]⟩

theorem fwUpdateVerified_fails (hst : s.fld Reg.fwUpdateStatus 29 3 = 1) (img : List Byte)
    (hbad : s.verifyFw (s.updateBytes img) ≠ fwOk) : Answers (.fwUpdateVerified img) s (fun u =>
      u.fld Reg.fwUpdateStatus 29 3 = 4 ∧ (u.fwSlot (s.fld Reg.fwUpdateStatus 28 1)).take 512 = List.replicate 512 0 ∧
      u.fwSlot (1 - s.fld Reg.fwUpdateStatus 28 1) = s.fwSlot (1 - s.fld Reg.fwUpdateStatus 28 1)) := by
  have hexec := exec_fwUpdateVerified hst img
  rw [if_neg hbad] at hexec
  refine ⟨_, hexec, s.updateEnds_status _ (by decide) _, ?_, (s.updateEnds_slot ..).2⟩
  rw [(s.updateEnds_slot ..).1]
  exact List.take_left' (List.length_replicate ..)

/-! ## Activation (R457) -/

/-- The armed slot is active: the Collar runs it (R457). -/
def State.activated (s : State) (i : Nat) : State := ((s.startCollar i).setBit Reg.mirrorFwArm 0 false).withSelector i

theorem exec_firmwareActivate (hup : s.collarUp = true) (harmed : s.bit Reg.mirrorFwArm 0 = true) (hmay : s.mayActivate = true) :
    exec (.firmwareActivate true) s = .next
      (if s.verifyFw (s.fwSlot (s.fld Reg.mirrorFwArm 1 1)) = fwOk then s.activated (s.fld Reg.mirrorFwArm 1 1)
       else s.setBit Reg.mirrorFwArm 2 true) := by
  have hexec : exec (.firmwareActivate true) s = .next (if s.collarUp && true && s.bit Reg.mirrorFwArm 0 && s.mayActivate then
      (if s.verifyFw (s.fwSlot (s.fld Reg.mirrorFwArm 1 1)) = fwOk then s.activated (s.fld Reg.mirrorFwArm 1 1)
       else s.setBit Reg.mirrorFwArm 2 true) else s) := rfl
  rw [hexec, hup, harmed, hmay]
  rfl

theorem firmwareActivate_activates (hup : s.collarUp = true) (harmed : s.bit Reg.mirrorFwArm 0 = true) (hmay : s.mayActivate = true)
    (hok : s.verifyFw (s.fwSlot (s.fld Reg.mirrorFwArm 1 1)) = fwOk) : Answers (.firmwareActivate true) s (fun u =>
      u.selector = s.fld Reg.mirrorFwArm 1 1 ∧ u.fwActive = s.fld Reg.mirrorFwArm 1 1 ∧ u.bit Reg.mirrorFwArm 0 = false ∧
      u.slots = s.slots ∧ u.hbm = s.hbm) := by
  have hstart := s.startCollar_onlyRegs (s.fld Reg.mirrorFwArm 1 1)
  have hslots : (s.startCollar (s.fld Reg.mirrorFwArm 1 1)).slots = s.slots := by rw [hstart.1]
  have hhbm : (s.startCollar (s.fld Reg.mirrorFwArm 1 1)).hbm = s.hbm := by rw [hstart.1]
  have hexec := exec_firmwareActivate hup harmed hmay
  rw [if_pos hok] at hexec
  refine ⟨_, hexec, State.withSelector_selector .., ?_, ?_, ?_, ?_⟩
  · rw [State.fwActive, State.activated, State.fld_congr ((State.rd_withSelector ..).trans (State.rd_setBit_ne _ _ _ (by decide)))]
    exact s.startCollar_active (fieldOf_lt ..)
  · rw [State.activated, State.bit_congr (State.rd_withSelector ..), State.bit_setBit _ _ _ _ (by decide)]
  · rw [State.activated, State.withSelector_slots, State.setBit_slots, hslots]
  · rw [State.activated, State.withSelector_hbm, State.setBit_hbm, hhbm]

theorem firmwareActivate_refused (hup : s.collarUp = true) (harmed : s.bit Reg.mirrorFwArm 0 = true) (hmay : s.mayActivate = true)
    (hbad : s.verifyFw (s.fwSlot (s.fld Reg.mirrorFwArm 1 1)) ≠ fwOk) : Answers (.firmwareActivate true) s (fun u =>
      u.bit Reg.mirrorFwArm 2 = true ∧ s.sameBits u Reg.mirrorFwArm (fun j => j ≠ 2) ∧ s.onlyRegs u [Reg.mirrorFwArm]) :=
  ⟨_, (exec_firmwareActivate hup harmed hmay).trans (congrArg Host.Outcome.next (if_neg hbad)), State.bit_setBit _ _ _ _ (by decide),
    s.setBit_sameBits _ _ _, (State.onlyRegs.refl s _).setBit List.mem_cons_self _ _⟩

end Update

/-! ## The key store (R525, R526) -/

/-- The customer keys after a record that is carried out. -/
def State.keysAfter (s : State) (r : List Byte) : List (Nat × List Byte) :=
  if leNat (r.take 1) = 1 then tset s.custKeys (leNat ((r.drop 1).take 1)) ((r.drop 0x20).take 96)
  else tdel s.custKeys (leNat ((r.drop 1).take 1))

/-- The key store counts and shows what it holds. -/
def State.keysShown (s : State) : State :=
  ((s.wr Reg.secKeyCounter (BitVec.ofNat 32 s.keyCount)).setFld Reg.secKeyStatus 0 4
    (s.custKeys.foldl (fun m k => m + 2 ^ k.1) 0)).setFld Reg.secKeyStatus 30 2 2

/-- A key record has been carried out. -/
def State.keyStored (s : State) (r : List Byte) (c : Nat) : State :=
  State.keysShown { s.setFld Reg.secKeyStatus 24 4 c with custKeys := s.keysAfter r, keyCount := (s.keyCount + 1) % 0x100000000 }

/-- The record that the Collar reads. -/
def State.keyRecord (s : State) (rec' : List Byte) : List Byte := s.sourceBytes (s.rd64 Reg.secKeyAddr) 256 rec'

section Keys
variable {s : State} (hup : s.collarUp = true) (rec' : List Byte)
include hup

theorem exec_secKeyGo : exec (.secKeyGo rec') s = .next (if s.keyResult (s.keyRecord rec') != 0 then
      (s.setFld Reg.secKeyStatus 24 4 (s.keyResult (s.keyRecord rec'))).setFld Reg.secKeyStatus 30 2 3
    else s.keyStored (s.keyRecord rec') (s.keyResult (s.keyRecord rec'))) := by
  have hexec : exec (.secKeyGo rec') s = .next (if !s.collarUp then s
    else if s.keyResult (s.keyRecord rec') != 0 then
      (s.setFld Reg.secKeyStatus 24 4 (s.keyResult (s.keyRecord rec'))).setFld Reg.secKeyStatus 30 2 3
    else s.keyStored (s.keyRecord rec') (s.keyResult (s.keyRecord rec'))) := rfl
  rw [hexec, hup, if_neg (by decide)]

theorem secKeyGo_accepted (hok : s.keyResult (s.keyRecord rec') = 0) :
    let r := s.keyRecord rec'
    let slot := leNat ((r.drop 1).take 1)
    Answers (.secKeyGo rec') s (fun u => u.keyCount = (s.keyCount + 1) % 0x100000000 ∧
      u.rd Reg.secKeyCounter = BitVec.ofNat 32 (s.keyCount + 1) ∧ u.fld Reg.secKeyStatus 30 2 = 2 ∧
      (leNat (r.take 1) = 1 → tfind u.custKeys slot = some ((r.drop 0x20).take 96)) ∧
      (leNat (r.take 1) ≠ 1 → tfind u.custKeys slot = none) ∧
      ∀ j, j ≠ slot → tfind u.custKeys j = tfind s.custKeys j) := by
  intro r slot
  have hkeys (c : Nat) : (s.keyStored r c).custKeys = s.keysAfter r := rfl
  have hexec := exec_secKeyGo hup rec'
  rw [hok, if_neg (by decide)] at hexec
  refine ⟨_, hexec, rfl, ?_, State.fld_setFld_of_lt _ _ (by decide) (by decide), fun hput => ?_, fun hdel => ?_,
    fun j hj => ?_⟩
  · refine (State.rd_setFld_ne _ _ _ _ (by decide)).trans ((State.rd_setFld_ne _ _ _ _ (by decide)).trans
      ((State.rd_wr_self ..).trans ?_))
    show BitVec.ofNat 32 ((s.keyCount + 1) % 0x100000000) = _
    rw [← BitVec.toNat_inj, BitVec.toNat_ofNat, BitVec.toNat_ofNat]
    omega
  · rw [hkeys, State.keysAfter, if_pos hput, tfind_tset_self]
  · rw [hkeys, State.keysAfter, if_neg hdel, tfind_tdel_self]
  · rw [hkeys, State.keysAfter]
    split
    · exact tfind_tset_ne _ _ hj
    · exact tfind_tdel_ne _ hj

theorem secKeyGo_refused (hbad : s.keyResult (s.keyRecord rec') ≠ 0) :
    Answers (.secKeyGo rec') s (fun u => u.custKeys = s.custKeys ∧ u.keyCount = s.keyCount ∧
      u.fld Reg.secKeyStatus 30 2 = 3 ∧ s.onlyRegs u [Reg.secKeyStatus]) := by
  have hexec := exec_secKeyGo hup rec'
  rw [if_pos (bne_iff_ne.2 hbad)] at hexec
  exact ⟨_, hexec, rfl, rfl, State.fld_setFld_of_lt _ _ (by decide) (by decide),
    ((State.onlyRegs.refl s _).setFld List.mem_cons_self _ _ _).setFld List.mem_cons_self _ _ _⟩

end Keys

end Sys2Proof.Machine

open Sys2Proof.Machine in
/-- Settles O54: the steps of boot, the choice of a firmware slot, recovery, updates, activation and the key store. The loss in the
row that begins a reset (log entry 41), CORES_UP, the link at step 2 and activation during a restart (log entry 51) and the key
counter modulo 2^32 (log entry 52) are the model's choice. -/
theorem bootAndFirmwareSteps : Obligations.BootAndFirmwareSteps := by
  unfold Obligations.BootAndFirmwareSteps
  intro s
  refine ⟨railRise_boots, conversionStop_loses, fun hrail hwarm hcold hrun hhalt => ?_, fun hrec => ⟨_, congrArg Host.Outcome.next
      (if_pos hrec), rfl⟩, fun hrec => congrArg Host.Outcome.next (if_neg (by simp [hrec])),
    fun hrec img want hlen hwant => ⟨recoveryImageVerified_passes hrec (hlen.trans hwant),
      recoveryImageVerified_fails hrec (hlen.trans hwant)⟩,
    fun hup => ⟨fwUpdateGo_busy hup, fwUpdateGo_begins hup⟩,
    fun hst img => ⟨fwUpdateVerified_passes hst img, fwUpdateVerified_fails hst img⟩,
    fun hup harmed hmay => ⟨firmwareActivate_activates hup harmed hmay, firmwareActivate_refused hup harmed hmay⟩,
    fun rec' hup => ⟨secKeyGo_accepted hup rec', secKeyGo_refused hup rec'⟩⟩
  have h : s.boots := ⟨hrail, hwarm, hcold, hrun, hhalt⟩
  exact ⟨boot_step1 h, boot_step1_held h, boot_step3_first h, boot_step3_second h, boot_step3_halts h, boot_step4 h, boot_step5 h,
    boot_step6 h⟩
end

section
/-! SUPPORT. The reset of a partition (R468, R531, R532): what its start keeps, the tiles that it wipes, and its end. -/

namespace Sys2Proof.Machine

/-! ## The frame of slots and host commands -/

/-- `u` has the slots, the host commands, their completions and the words `keep` of `s`. -/
structure State.sameDesk (s : State) (keep : Set Nat) (u : State) : Prop where
  slots : u.slots = s.slots
  cmds : u.cmds = s.cmds
  completions : u.completions = s.completions
  rd : ∀ a ∈ keep, u.rd a = s.rd a

theorem State.sameDesk.refl (s : State) (keep : Set Nat) : s.sameDesk keep s := ⟨rfl, rfl, rfl, fun _ _ => rfl⟩

section Desk
variable {s u : State} {keep : Set Nat} (h : s.sameDesk keep u)
include h

theorem State.sameDesk.trans {v : State} (h' : u.sameDesk keep v) : s.sameDesk keep v :=
  ⟨h'.slots.trans h.slots, h'.cmds.trans h.cmds, h'.completions.trans h.completions,
    fun a ha => (h'.rd a ha).trans (h.rd a ha)⟩

theorem State.sameDesk.mono {keep' : Set Nat} (hsub : keep' ⊆ keep) : s.sameDesk keep' u :=
  ⟨h.slots, h.cmds, h.completions, fun a ha => h.rd a (hsub ha)⟩

theorem State.sameDesk.of_eq {v : State} (hslots : v.slots = u.slots) (hcmds : v.cmds = u.cmds)
    (hcompletions : v.completions = u.completions) (hregs : v.regs = u.regs) : s.sameDesk keep v :=
  ⟨hslots.trans h.slots, hcmds.trans h.cmds, hcompletions.trans h.completions,
    fun a ha => (State.rd_of_regs hregs a).trans (h.rd a ha)⟩

theorem State.sameDesk.wr {a : Nat} (ha : a ∉ keep) (v : Word) : s.sameDesk keep (u.wr a v) :=
  ⟨h.slots, h.cmds, h.completions, fun b hb => (State.rd_wr_ne u v (ne_of_mem_of_not_mem hb ha)).trans (h.rd b hb)⟩

theorem State.sameDesk.setFld {a : Nat} (ha : a ∉ keep) (lo len v : Nat) : s.sameDesk keep (u.setFld a lo len v) := h.wr ha _

theorem State.sameDesk.setBit {a : Nat} (ha : a ∉ keep) (i : Nat) (b : Bool) : s.sameDesk keep (u.setBit a i b) := h.wr ha _

theorem State.sameDesk.setLoad (ha : Reg.structLoadStatus ∉ keep) (st reason sec sig : Nat) :
    s.sameDesk keep (u.setLoad st reason sec sig) := (((h.setFld ha _ _ _).setFld ha _ _ _).setFld ha _ _ _).setFld ha _ _ _

theorem State.sameDesk.forget {p : Nat → Bool} (hp : ∀ a ∈ keep, p a = false) : s.sameDesk keep (u.forget p) :=
  ⟨h.slots, h.cmds, h.completions, fun a ha => (State.rd_forget u p a).trans
    ((if_neg (by rw [hp a ha]; exact Bool.false_ne_true)).trans (h.rd a ha))⟩

theorem State.sameDesk.clear {as : List Nat} (has : ∀ a ∈ as, a ∉ keep) : s.sameDesk keep (u.clear as) := by
  induction as generalizing u with
  | nil => exact h
  | cons a as ih =>
    rw [List.forall_mem_cons] at has
    exact ih (h.wr has.1 _) has.2

theorem State.sameDesk.slot (q : Nat) : u.slot q = s.slot q := by
  rw [State.slot, State.slot, h.slots]

theorem State.sameDesk.tilesOf (q : Nat) : u.tilesOf q = s.tilesOf q := by
  rw [State.tilesOf, State.tilesOf, h.slot q]

/-- What units hold is no part of the host's view. -/
theorem State.sameDesk.of_onlyUnits {v : State} {mem : Prop} {keep' : Set Nat} (hv : u.onlyUnits mem keep' v)
    (hsub : keep ⊆ keep') : s.sameDesk keep v :=
  ⟨hv.slots.trans h.slots, hv.cmds.trans h.cmds, (congrArg State.completions hv.rest : _).trans h.completions,
    fun a ha => (hv.rd a (hsub ha)).trans (h.rd a ha)⟩

end Desk

/-! ## The start of a partition reset -/

/-- The words of the host and of RST_STATUS that a partition reset keeps. -/
def Reg.resetBlock : Set Nat := {a | a = Reg.rstStatus ∨ (0x4000000 ≤ a ∧ a < 0x4002000)}

/-- Action 1 of R532 has been noted in RST_STATUS, and a pending commit has ended. -/
def State.partResetNoted (s : State) (q : Nat) : State :=
  ((((s.setFld Reg.rstStatus 28 4 0xA).setFld Reg.rstStatus 0 8 q).endCommit q 3).wr (Reg.structCommitDirty q) 0)

/-- The packets, stops and before-images of partition `q`, whose tiles are `ts`, are gone. -/
def State.partDropped (s : State) (q : Nat) (ts : List Nat) : State :=
  { s with
    net := s.net.filter (fun p => !s.ofPart q p), fabOut := s.fabOut.filter (fun p => !s.ofPart q p),
    fabWait := s.fabWait.filter (fun r => r.part != q), stops := s.stops.filter (fun r => r.part != q),
    undo := s.undo.filter (fun u => u.part != q),
    hbmDirty := s.hbmDirty.filter (fun p => s.mirrorPart p != some q),
    pageSlots := s.pageSlots.filter (fun e => !ts.contains (e.1 / 64)) }

/-- The HBM ranges of partition `q` are zero. -/
def State.partHbmZeroed (s : State) (q : Nat) : State := (s.partHbm q).foldl (fun s (b, n) => s.zeroHbm b n) s

/-- The words that the resets tables name for partition `q` with tiles `ts` and locks `ls`. -/
def partForgets (q : Nat) (ts ls : List Nat) (a : Nat) : Bool :=
  partWord q a || ts.any (fun t => shawlWord t a || (tileOff t a).any (fun o => !keepWord o)) || ls.any (fun l => lockWord l a)

/-- The error words of the panels that name a tile of `ts` are 0. -/
def State.panelErrorsCleared (s : State) (ts : List Nat) : State :=
  (List.range 4).foldl (fun s p =>
    let s := if ts.contains (s.fld (Reg.yokeErrInfo p) 0 8) then s.wr (Reg.yokeErrInfo p) 0 else s
    if ts.contains (s.fld (Reg.lockErrInfo p) 0 8) then s.wr (Reg.lockErrInfo p) 0 else s) s

/-- The samples of partition `q` are gone. -/
def State.samplesDropped (s : State) (q : Nat) : State := { s with sampler := s.sampler.filter (fun e => e.1 / 8 % 8 != q) }

/-- The wipe of each tile has begun. -/
def State.wipesBegun (s : State) (ts : List Nat) : State :=
  ts.foldl (fun s t => (s.setTile t { s.tile t with suitSeq := 0, stepRecs := [] }).startWipe t) s

/-- The reset runs. -/
def State.partResetting (s : State) (q : Nat) : State := s.setSlot q { s.slot q with resetting := true, mset := [], damaged := false }

/-- The partition has stopped and what it holds outside its own words is gone. -/
def State.partEmptied (s : State) (q : Nat) : State :=
  (((s.partResetNoted q).stopPartition q).partDropped q (s.tilesOf q)).partHbmZeroed q

/-- The words of the partition are at their reset values. -/
def State.partForgotten (s : State) (q : Nat) : State :=
  (((s.partEmptied q).forget (partForgets q (s.tilesOf q) (setBits ((s.partEmptied q).slot q).locks 128))).panelErrorsCleared
    (s.tilesOf q)).samplesDropped q

theorem State.beginPartReset_eq (s : State) (q : Nat) :
    s.beginPartReset q = ((s.partForgotten q).wipesBegun (s.tilesOf q)).partResetting q := rfl

theorem Reg.resetBlock_subset : Reg.resetBlock ⊆ Reg.unitBlockᶜ := by
  rintro a (rfl | ⟨hlow, hhigh⟩)
  · exact Reg.mem_unitBlock_compl_of_lt (by decide)
  · rintro ⟨-, hunit⟩
    omega

/-- Words below the host's, other than RST_STATUS, are no words of `Reg.resetBlock`. -/
theorem Reg.notMem_resetBlock {a : Nat} (hne : a ≠ Reg.rstStatus) (hlt : a < 0x4000000) : a ∉ Reg.resetBlock := by
  rintro (heq | hin)
  · exact hne heq
  · exact absurd hin.1 (by omega)

section PartReset
variable (s : State) (q : Nat)

theorem State.partResetNoted_slot {p : Nat} (hp : p ≠ q) : (s.partResetNoted q).slot p = s.slot p :=
  (State.endCommit_slot_ne _ 3 hp : _)

theorem State.endCommit_tiles (s : State) (q reason : Nat) : ((s.endCommit q reason).slot q).tiles = (s.slot q).tiles := by
  unfold State.endCommit
  split_ifs
  · rw [State.slot_setSlot_self]
  · rfl

theorem State.endCommit_cmds (s : State) (q reason : Nat) :
    (s.endCommit q reason).cmds = s.cmds ∧ (s.endCommit q reason).completions = s.completions := by
  unfold State.endCommit
  split_ifs <;> exact ⟨rfl, rfl⟩

theorem State.partResetNoted_tilesOf : (s.partResetNoted q).tilesOf q = s.tilesOf q := by
  have htiles : ((s.partResetNoted q).slot q).tiles = (s.slot q).tiles := State.endCommit_tiles _ q 3
  rw [State.tilesOf, State.tilesOf, htiles]

theorem State.partResetNoted_cmds : (s.partResetNoted q).cmds = s.cmds ∧ (s.partResetNoted q).completions = s.completions :=
  State.endCommit_cmds _ q 3

theorem State.partResetNoted_rd {a : Nat} (hlow : 0x4000000 ≤ a) (hq : q < 8) : (s.partResetNoted q).rd a = s.rd a := by
  have hdirty : a ≠ Reg.structCommitDirty q := by rw [Reg.structCommitDirty]; omega
  have hcommit : a ≠ Reg.structCommitStatus q := by rw [Reg.structCommitStatus]; omega
  have hrst : a ≠ Reg.rstStatus := by rw [Reg.rstStatus]; omega
  exact (State.rd_wr_ne _ _ hdirty).trans ((State.rd_endCommit _ q 3 hcommit).trans
    ((State.rd_wr_ne _ _ hrst).trans (State.rd_wr_ne _ _ hrst)))

theorem State.partResetNoted_target (hq : q < 8) : (s.partResetNoted q).fld Reg.rstStatus 0 8 = q := by
  have hkept : (s.partResetNoted q).rd Reg.rstStatus = ((s.setFld Reg.rstStatus 28 4 0xA).setFld Reg.rstStatus 0 8 q).rd Reg.rstStatus :=
    (State.rd_wr_ne _ _ (by rw [Reg.structCommitDirty, Reg.rstStatus]; omega)).trans
      (State.rd_endCommit _ q 3 (by rw [Reg.structCommitStatus, Reg.rstStatus]; omega))
  rw [State.fld_congr hkept, State.fld_setFld_of_lt _ _ (by decide) (by omega)]

theorem State.sameDesk.partHbmZeroed {s u : State} {keep : Set Nat} (h : s.sameDesk keep u) (q : Nat) :
    s.sameDesk keep (u.partHbmZeroed q) :=
  List.foldlRecOn (motive := fun v : State => s.sameDesk keep v) (u.partHbm q) _ h (fun _ hv _ _ => hv.of_eq rfl rfl rfl rfl)

theorem State.rd_partHbmZeroed (s : State) (q a : Nat) : (s.partHbmZeroed q).rd a = s.rd a :=
  List.foldlRecOn (motive := fun v : State => v.rd a = s.rd a) (s.partHbm q) _ rfl (fun _ hv _ _ => hv)

theorem State.partEmptied_desk : (s.partResetNoted q).sameDesk Reg.resetBlock (s.partEmptied q) :=
  (((State.sameDesk.refl _ _).of_onlyUnits (State.stopPartition_onlyUnits _ q) Reg.resetBlock_subset).of_eq
    (v := ((s.partResetNoted q).stopPartition q).partDropped q (s.tilesOf q)) rfl rfl rfl rfl).partHbmZeroed q

theorem State.taskState_partEmptied {t k : Nat} (ht : t ∈ s.tilesOf q) (hk : k < 4) : (s.partEmptied q).taskState t k = taskFree := by
  rw [State.taskState, State.partEmptied, State.fld_congr (State.rd_partHbmZeroed ..)]
  exact State.taskState_stopPartition (s.partResetNoted q) (by rwa [State.partResetNoted_tilesOf]) hk

theorem panelPartWord_outside (q : Nat) {a : Nat} (ha : a < 0x2000000 ∨ 0x2040000 ≤ a) : panelPartWord q a = false := by
  unfold panelPartWord
  rw [Bool.and_eq_false_iff, Bool.and_eq_false_iff, decide_eq_false_iff_not, decide_eq_false_iff_not]
  omega

/-- The words of partitions lie in the panels, in the fabric and mirror blocks and from 0x4002000 on. -/
theorem partWord_outside {q : Nat} (hq : q < 8) {a : Nat} (ha : a < 0x1000000 ∨ (0x4000000 ≤ a ∧ a < 0x4002000)) :
    partWord q a = false := by
  unfold partWord
  rw [panelPartWord_outside q (by omega), Reg.fabJobtag, Reg.fabJobmap, Reg.fabJobmap]
  simp only [Bool.or_eq_false_iff, Bool.and_eq_false_iff, beq_eq_false_iff_ne, decide_eq_false_iff_not]
  refine ⟨⟨⟨⟨⟨trivial, ?_⟩, ?_⟩, Or.inl ?_⟩, ?_⟩, ?_⟩ <;> omega

theorem shawlWord_outside {t a : Nat} (ht : t < 256) (ha : a < 0x2000000 ∨ 0x2040000 ≤ a) : shawlWord t a = false := by
  unfold shawlWord
  rw [Bool.or_eq_false_iff, List.any_eq_false, ← Bool.not_eq_true, List.contains_iff_mem]
  refine ⟨fun i hi heq => ?_, fun hmem => ?_⟩
  · rw [beq_iff_eq, Reg.shawlTileW] at heq
    have := List.mem_range.1 hi
    omega
  · simp only [List.mem_cons, List.not_mem_nil, or_false, shStat, shProg, Reg.shawlStatus, Reg.shawlProgress, Reg.shawlStatSpill,
      Reg.shawlStatTurns] at hmem
    omega

theorem lockWord_outside {l a : Nat} (hl : l < 128) (ha : a < 0x2000000 ∨ 0x2040000 ≤ a) : lockWord l a = false := by
  unfold lockWord
  rw [← Bool.not_eq_true, List.contains_iff_mem]
  intro hmem
  simp only [List.mem_cons, List.not_mem_nil, or_false, lockReg, Reg.lockState, Reg.lockLease, Reg.lockCfg] at hmem
  omega

theorem partForgets_resetBlock {q : Nat} (hq : q < 8) {ts ls : List Nat} (hts : ∀ t ∈ ts, t < 256) (hls : ∀ l ∈ ls, l < 128)
    {a : Nat} (ha : a ∈ Reg.resetBlock) : partForgets q ts ls a = false := by
  have hplace : a < 0x1000000 ∨ (0x4000000 ≤ a ∧ a < 0x4002000) := by
    rcases ha with rfl | hin
    · exact Or.inl (by decide)
    · exact Or.inr hin
  have hpart := partWord_outside hq hplace
  have hshawl : ∀ t ∈ ts, shawlWord t a = false := fun t ht => shawlWord_outside (hts t ht) (by omega)
  have htile : ∀ t ∈ ts, tileOff t a = none := fun t ht => if_neg (by have := hts t ht; omega)
  have hlock : ∀ l ∈ ls, lockWord l a = false := fun l hl => lockWord_outside (hls l hl) (by omega)
  simp +contextual [partForgets, hpart, hshawl, htile, hlock]

theorem State.panelErrorsCleared_desk {keep : Set Nat} (hyoke : ∀ p < 4, Reg.yokeErrInfo p ∉ keep)
    (hlock : ∀ p < 4, Reg.lockErrInfo p ∉ keep) (s : State) (ts : List Nat) : s.sameDesk keep (s.panelErrorsCleared ts) := by
  unfold State.panelErrorsCleared
  refine List.foldlRecOn (motive := fun v : State => s.sameDesk keep v) (List.range 4) _ (State.sameDesk.refl s keep)
    (fun v hv p hp => ?_)
  have hp := List.mem_range.1 hp
  dsimp only
  split_ifs
  · exact (hv.wr (hyoke p hp) _).wr (hlock p hp) _
  · exact hv.wr (hyoke p hp) _
  · exact hv.wr (hlock p hp) _
  · exact hv

/-- The words of tasks, and those that a partition reset keeps. -/
def Reg.taskDesk : Set Nat := Reg.resetBlock ∪ Reg.taskBlock

/-- Words of tiles outside the task blocks, and words of panels. -/
theorem Reg.notMem_taskDesk {a : Nat} (hin : 0x1000000 ≤ a) (hend : a < 0x2040000)
    (htask : 0x2000000 ≤ a ∨ a % 0x10000 < 0x4104 ∨ 0x4200 ≤ a % 0x10000) : a ∉ Reg.taskDesk := by
  rintro (hreset | ⟨t, k, ht, hk, rfl⟩)
  · exact Reg.notMem_resetBlock (by rw [Reg.rstStatus]; omega) (by omega) hreset
  · rw [Reg.cuffTaskStatus] at hin hend htask
    omega

theorem State.sameDesk.panelErrors {s u : State} (h : s.sameDesk Reg.taskDesk u) (ts : List Nat) :
    s.sameDesk Reg.taskDesk (u.panelErrorsCleared ts) :=
  h.trans (u.panelErrorsCleared_desk
    (fun p _ => Reg.notMem_taskDesk (by rw [Reg.yokeErrInfo]; omega) (by rw [Reg.yokeErrInfo]; omega)
      (Or.inl (by rw [Reg.yokeErrInfo]; omega)))
    (fun p _ => Reg.notMem_taskDesk (by rw [Reg.lockErrInfo]; omega) (by rw [Reg.lockErrInfo]; omega)
      (Or.inl (by rw [Reg.lockErrInfo]; omega))) ts)

theorem State.partForgotten_desk (hq : q < 8) : (s.partResetNoted q).sameDesk Reg.resetBlock (s.partForgotten q) := by
  have hforget := (s.partEmptied_desk q).forget (fun a ha => partForgets_resetBlock hq (ts := s.tilesOf q)
    (ls := setBits ((s.partEmptied q).slot q).locks 128) (fun _ ht => State.lt_of_mem_tilesOf ht)
    (fun l hl => List.mem_range.1 (List.mem_filter.1 hl).1) ha)
  exact (hforget.trans (((State.sameDesk.refl _ _).panelErrors (s.tilesOf q)).mono Set.subset_union_left)).of_eq rfl rfl rfl rfl

theorem State.taskState_partForgotten {t k : Nat} (ht : t ∈ s.tilesOf q) (hk : k < 4) :
    (s.partForgotten q).taskState t k = taskFree := by
  have hlt := State.lt_of_mem_tilesOf ht
  have hkept : ∀ u : State, ((u.panelErrorsCleared (s.tilesOf q)).samplesDropped q).rd (Reg.cuffTaskStatus t k) =
      u.rd (Reg.cuffTaskStatus t k) := fun u =>
    ((State.sameDesk.refl u Reg.taskDesk).panelErrors (s.tilesOf q)).rd _ (Or.inr ⟨t, k, hlt, hk, rfl⟩)
  rw [State.taskState, State.partForgotten, State.fld_congr (hkept _), State.fld, State.rd_forget]
  split
  · rw [regReset_cuffTaskStatus ⟨t, hlt⟩ ⟨k, hk⟩]
    rfl
  · exact s.taskState_partEmptied q ht hk

/-! ## The wipes -/

theorem State.sameDesk.wipeBegun {s u : State} (h : s.sameDesk Reg.taskDesk u) {t : Nat} (ht : t < 256) (x : Tile) :
    s.sameDesk Reg.taskDesk ((u.setTile t x).startWipe t) := by
  have hstatus : Reg.pocketStatus t ∉ Reg.taskDesk := by apply Reg.notMem_taskDesk <;> rw [Reg.pocketStatus] <;> omega
  have hmask : Reg.pocketPwrMask t ∉ Reg.taskDesk := by apply Reg.notMem_taskDesk <;> rw [Reg.pocketPwrMask] <;> omega
  have hpower : Reg.pocketPwrStatus t ∉ Reg.taskDesk := by apply Reg.notMem_taskDesk <;> rw [Reg.pocketPwrStatus] <;> omega
  have htile : s.sameDesk Reg.taskDesk (u.setTile t x) := h.of_eq rfl rfl rfl rfl
  exact (((htile.setBit hstatus 7 true).wr hmask 0xFF).setFld hpower 8 8 _).of_eq rfl rfl rfl rfl

theorem State.wipesBegun_desk {ts : List Nat} (hts : ∀ t ∈ ts, t < 256) (s : State) : s.sameDesk Reg.taskDesk (s.wipesBegun ts) :=
  List.foldlRecOn (motive := fun v : State => s.sameDesk Reg.taskDesk v) ts _ (State.sameDesk.refl s _)
    (fun _ hv t ht => hv.wipeBegun (hts t ht) _)

/-- A wipe that begins shows itself in POCKET_STATUS and leaves the status of other Pockets. -/
theorem State.wiping_startWipe (s : State) (x : Tile) (t j : Nat) : ((s.setTile t x).startWipe t).bit (Reg.pocketStatus j) 7 =
    (j == t || s.bit (Reg.pocketStatus j) 7) := by
  have hmask : Reg.pocketStatus j ≠ Reg.pocketPwrMask t := by rw [Reg.pocketStatus, Reg.pocketPwrMask]; omega
  have hpower : Reg.pocketStatus j ≠ Reg.pocketPwrStatus t := by rw [Reg.pocketStatus, Reg.pocketPwrStatus]; omega
  have hkept : ((s.setTile t x).startWipe t).rd (Reg.pocketStatus j) = (s.setBit (Reg.pocketStatus t) 7 true).rd (Reg.pocketStatus j) :=
    (State.rd_wr_ne _ _ hpower).trans (State.rd_wr_ne _ _ hmask)
  rw [State.bit_congr hkept]
  by_cases heq : j = t
  · rw [heq, State.bit_setBit _ _ _ _ (by decide)]
    simp
  · rw [State.bit_congr (State.rd_setBit_ne _ _ _ (by rw [Reg.pocketStatus, Reg.pocketStatus]; omega)),
      beq_false_of_ne heq, Bool.false_or]

theorem State.wiping_wipesBegun (ts : List Nat) (s : State) (j : Nat) : (s.wipesBegun ts).bit (Reg.pocketStatus j) 7 =
    (ts.contains j || s.bit (Reg.pocketStatus j) 7) := by
  induction ts generalizing s with
  | nil => rfl
  | cons t ts ih =>
    rw [State.wipesBegun, List.foldl_cons]
    refine (ih _).trans ?_
    rw [State.wiping_startWipe, List.contains_cons]
    cases ts.contains j <;> simp

/-! ## What the start of a partition reset leaves -/

/-- The reset of partition `q` has begun: its tiles are being wiped, their tasks are gone, the slot shows the reset; other slots,
the host's commands and words are unchanged. -/
structure State.partResetBegun (s : State) (q : Nat) (u : State) : Prop where
  resetting : (u.slot q).resetting = true
  other : ∀ p, p ≠ q → u.slot p = s.slot p
  target : u.fld Reg.rstStatus 0 8 = q
  wiping : ∀ t ∈ s.tilesOf q, u.bit (Reg.pocketStatus t) 7 = true
  tasks : ∀ t ∈ s.tilesOf q, ∀ k, k < 4 → u.taskState t k = taskFree
  cmds : u.cmds = s.cmds
  completions : u.completions = s.completions
  rd : ∀ a, 0x4000000 ≤ a → a < 0x4002000 → u.rd a = s.rd a

theorem State.beginPartReset_begun (hq : q < 8) : s.partResetBegun q (s.beginPartReset q) := by
  have htiles : ∀ t ∈ s.tilesOf q, t < 256 := fun _ ht => State.lt_of_mem_tilesOf ht
  have hwipes := State.wipesBegun_desk htiles (s.partForgotten q)
  have hdesk := (s.partForgotten_desk q hq).trans (hwipes.mono Set.subset_union_left)
  obtain ⟨hcmds, hcompletions⟩ := s.partResetNoted_cmds q
  rw [State.beginPartReset_eq]
  exact {
    resetting := by rw [State.partResetting, State.slot_setSlot_self]
    other := fun p hp => (State.slot_setSlot_ne _ _ hp).trans ((hdesk.slot p).trans (s.partResetNoted_slot q hp))
    target := (State.fld_congr (hdesk.rd _ (Or.inl rfl)) _ _).trans (s.partResetNoted_target q hq)
    wiping := fun t ht => by
      refine (State.wiping_wipesBegun _ _ t).trans ?_
      rw [List.contains_iff_mem.2 ht, Bool.true_or]
    tasks := fun t ht k hk =>
      (State.fld_congr (hwipes.rd _ (Or.inr ⟨t, k, htiles t ht, hk, rfl⟩)) _ _).trans (s.taskState_partForgotten q ht hk)
    cmds := hdesk.cmds.trans hcmds
    completions := hdesk.completions.trans hcompletions
    rd := fun a hlow hhigh => (hdesk.rd a (Or.inr ⟨hlow, hhigh⟩)).trans (s.partResetNoted_rd q hlow hq) }

/-- What stands before the reset begins but leaves slots and host untouched is part of it. -/
theorem State.partResetBegun.of_desk {s v u : State} {q : Nat} (hv : s.sameDesk {a | 0x4000000 ≤ a} v) (h : v.partResetBegun q u) :
    s.partResetBegun q u where
  resetting := h.resetting
  other := fun p hp => (h.other p hp).trans (hv.slot p)
  target := h.target
  wiping := fun t ht => h.wiping t (by rwa [hv.tilesOf])
  tasks := fun t ht => h.tasks t (by rwa [hv.tilesOf])
  cmds := h.cmds.trans hv.cmds
  completions := h.completions.trans hv.completions
  rd := fun a hlow hhigh => (h.rd a hlow hhigh).trans (hv.rd a hlow)

/-- The load of partition `q`, if it is the one that runs, is abandoned. -/
def State.loadDropped (s : State) (q : Nat) : State :=
  if s.loading.any (fun l => l.part == q) then { s.setLoad loadIdle 0 0 0 with loading := none } else s

theorem State.killSlot_eq (s : State) (q : Nat) : s.killSlot q = if ((s.loadDropped q).slot q).resetting then s.loadDropped q
    else if ((s.loadDropped q).slot q).tiles = 0 then
      ((s.loadDropped q).setSlot q ((s.loadDropped q).slot q).freed).settlePanels
    else (s.loadDropped q).beginPartReset q := rfl

theorem State.loadDropped_desk (s : State) (q : Nat) : s.sameDesk {a | 0x4000000 ≤ a} (s.loadDropped q) := by
  unfold State.loadDropped
  split_ifs
  · exact ((State.sameDesk.refl s {a | 0x4000000 ≤ a}).setLoad (by decide) loadIdle 0 0 0).of_eq rfl rfl rfl rfl
  · exact State.sameDesk.refl s _

/-- KILL of a slot that holds tiles begins its reset (R468, R469). -/
theorem State.killSlot_begun (hq : q < 8) (htiles : (s.slot q).tiles ≠ 0) (hres : (s.slot q).resetting = false) :
    s.partResetBegun q (s.killSlot q) := by
  have hdesk := s.loadDropped_desk q
  rw [State.killSlot_eq, hdesk.slot, hres, if_neg Bool.false_ne_true, if_neg htiles]
  exact ((s.loadDropped q).beginPartReset_begun q hq).of_desk hdesk

end PartReset

/-! ## The end of a partition reset (R532) -/

theorem State.sameLoad.toReset {s u : State} (h : s.sameLoad ∅ u) (as : List Nat) : s.sameLoad ∅ (u.toReset as) := by
  induction as generalizing u with
  | nil => exact h
  | cons a as ih => exact ih (h.wr (Set.notMem_empty _) _)

theorem State.freePoints_sameLoad (s : State) (tiles : Nat) : s.sameLoad ∅ (s.freePoints tiles) := by
  refine List.foldlRecOn (motive := fun v : State => s.sameLoad ∅ v) (List.range 4) _ (State.sameLoad.refl s ∅) (fun v hv p _ => ?_)
  dsimp only
  split_ifs
  · exact hv.toReset _
  · exact (hv.toReset _).selectPoint _ _
  · exact hv

/-- The resources of partition `q` have returned to the pool, and its slot is `x`. -/
def State.partFreed (s : State) (q : Nat) (x : Slot) : State :=
  ((((s.forget (fun a => 0x3101040 + 0x100 * q ≤ a && a < 0x3101060 + 0x100 * q)).setSlot q x.freed).freePoints x.tiles).settlePanels)

theorem State.partFreed_slots (s : State) (q : Nat) (x : Slot) :
    (s.partFreed q x).slots = (s.setSlot q x.freed).slots ∧ (s.partFreed q x).cmds = s.cmds := by
  have hpoints := State.freePoints_sameLoad ((s.forget (fun a => 0x3101040 + 0x100 * q ≤ a && a < 0x3101060 + 0x100 * q)).setSlot q
    x.freed) x.tiles
  have hpanels := State.settlePanels_sameLoad (((s.forget (fun a => 0x3101040 + 0x100 * q ≤ a && a < 0x3101060 + 0x100 * q)).setSlot q
    x.freed).freePoints x.tiles)
  exact ⟨hpanels.slots.trans hpoints.slots, hpanels.cmds.trans hpoints.cmds⟩

/-- RST_STATUS shows no reset once none runs. -/
def State.resetShown (s : State) : State :=
  if (List.range 8).any (fun r => (s.slot r).resetting) then s else s.setBit Reg.rstStatus 31 false

theorem State.resetShown_slots (s : State) : s.resetShown.slots = s.slots ∧ s.resetShown.cmds = s.cmds := by
  unfold State.resetShown
  split_ifs <;> exact ⟨rfl, rfl⟩

theorem exec_partitionResetDone {s : State} {q : PartId} (hres : (s.slot q).resetting = true) (hwipes : s.wipesDone q = true)
    (hload : s.loading = none) :
    exec (.partitionResetDone q) s = .next ((s.partFreed q (s.slot q)).resetShown.settleCmds) := by
  change execPartitionResetDone q s = _
  have hforget : ∀ p, (s.forget p).loading = none := fun _ => hload
  simp only [execPartitionResetDone, hres, hwipes, Bool.and_self, if_true, hforget]
  rfl

theorem partitionResetDone_frees {s : State} {q : PartId} (hres : (s.slot q).resetting = true) (hwipes : s.wipesDone q = true)
    (hload : s.loading = none) (hcmds : s.cmds = []) : Answers (.partitionResetDone q) s (fun u =>
      u.slot q = (s.slot q).freed ∧ ∀ p, p ≠ q.val → u.slot p = s.slot p) := by
  obtain ⟨hslots, hcmds'⟩ := s.partFreed_slots q (s.slot q)
  obtain ⟨hslots', hcmds''⟩ := (s.partFreed q (s.slot q)).resetShown_slots
  have hslot : ∀ p, ((s.partFreed q (s.slot q)).resetShown).slot p = (s.setSlot q (s.slot q).freed).slot p := fun p => by
    rw [State.slot, hslots', hslots]
    rfl
  refine ⟨_, exec_partitionResetDone hres hwipes hload, ?_⟩
  rw [State.settleCmds_of_nil (hcmds''.trans (hcmds'.trans hcmds))]
  exact ⟨(hslot q).trans (State.slot_setSlot_self ..), fun p hp => (hslot p).trans (State.slot_setSlot_ne _ _ hp)⟩

end Sys2Proof.Machine
end

section
/-! SUPPORT. Reset requests, the reset lands and a hang of the Collar (R513, R516, R530-R532, R565). Settles O56. -/

namespace Sys2Proof.Machine

/-! ## Requests through RST_CTRL -/

theorem State.rstCtrl_of_mayReset {s : State} {key : BitVec 16} (h : s.mayReset key) (k : Nat) (f : State → State) :
    s.rstCtrl key k f = f s := by
  obtain ⟨hkey, hscope⟩ := h
  rw [State.rstCtrl, hkey, hscope]
  rfl

theorem State.rstCtrl_of_wrongKey (s : State) {key : BitVec 16} (h : key ≠ 0xA5C3#16) (k : Nat) (f : State → State) :
    s.rstCtrl key k f = s.rstRefused := by
  have hkey : (key.toNat != 0xA5C3) = true := bne_iff_ne.2 (fun heq => h (BitVec.eq_of_toNat_eq heq))
  rw [State.rstCtrl, hkey, Bool.true_or, if_pos rfl]

/-- A refused request shows itself in RST_STATUS and changes nothing else. -/
theorem State.rstRefused_shows (s : State) : s.rstRefused.bit Reg.rstStatus 27 = true ∧
    s.sameBits s.rstRefused Reg.rstStatus (fun j => j ≠ 27) ∧ s.onlyRegs s.rstRefused [Reg.rstStatus] :=
  ⟨State.bit_setBit _ _ _ _ (by decide), s.setBit_sameBits _ _ _, (State.onlyRegs.refl s _).setBit List.mem_cons_self _ _⟩

/-! ## A tile reset -/

/-- RST_STATUS names the reset of tile `t`. -/
def State.tileResetShown (s : State) (t : Nat) : State := (s.setFld Reg.rstStatus 28 4 1).setFld Reg.rstStatus 0 8 t

theorem State.tileResetShown_rd (s : State) (t : Nat) {a : Nat} (ha : a ≠ Reg.rstStatus) : (s.tileResetShown t).rd a = s.rd a :=
  (State.rd_wr_ne _ _ ha).trans (State.rd_wr_ne _ _ ha)

theorem State.tileResetShown_status (s : State) {t : Nat} (ht : t < 256) :
    (s.tileResetShown t).fld Reg.rstStatus 28 4 = 1 ∧ (s.tileResetShown t).fld Reg.rstStatus 0 8 = t := by
  rw [State.tileResetShown]
  constructor
  · rw [State.fld_setFld_ne _ _ _ _ _ _ _ (by decide), State.fld_setFld_of_lt _ _ (by decide) (by decide)]
  · rw [State.fld_setFld_of_lt _ _ (by decide) (by omega)]

theorem State.tileResetShown_tile (s : State) (t j : Nat) : (s.tileResetShown t).tile j = s.tile j := rfl

theorem State.tileResetShown_onlyUnits (s : State) (t : Nat) : s.onlyUnits True ∅ (s.tileResetShown t) :=
  ((State.onlyUnits.refl s True ∅).setFld (Set.notMem_empty _) _ _ _).setFld (Set.notMem_empty _) _ _ _

theorem exec_tileReset {s : State} {key : BitVec 16} {t : TileId} (h : s.mayReset key) (ht : s.tileResettable t = true) :
    exec (.tileReset key t) s = .next ((s.tileReset t).tileResetShown t) := by
  change execTileReset key t s = _
  rw [execTileReset, State.rstTile, State.rstCtrl_of_mayReset h]
  rw [if_pos ht]
  rfl

theorem tileReset_resets {s : State} (key : BitVec 16) (t : TileId) (h : s.mayReset key) (ht : s.tileResettable t = true) :
    Answers (.tileReset key t) s (fun u =>
      (∀ k, k < 4 → u.taskState t k = taskFree ∧ u.suitState t k = suitFree) ∧ u.tile t = { u.tile t with tasks := [], suits := [], queues := [] } ∧
      u.fld Reg.rstStatus 28 4 = 1 ∧ u.fld Reg.rstStatus 0 8 = t.val ∧ u.pocket = s.pocket ∧ u.hbm = s.hbm ∧
      u.slots = s.slots ∧ ∀ j, j ≠ t.val → u.tile j = s.tile j) := by
  have hunits := ((s.tileReset_onlyUnits t.isLt).mono (Set.empty_subset _)).trans ((s.tileReset t).tileResetShown_onlyUnits t)
  obtain ⟨hkind, htarget⟩ := (s.tileReset t).tileResetShown_status t.isLt
  refine ⟨_, exec_tileReset h ht, fun k hk => ⟨?_, ?_⟩, ?_, hkind, htarget, hunits.pocket trivial, hunits.hbm, hunits.slots,
    fun j hj => (State.tileResetShown_tile ..).trans (s.sameTilesBut_tileReset t j hj)⟩
  · rw [State.taskState, State.fld_congr (State.tileResetShown_rd _ _ (by rw [Reg.cuffTaskStatus, Reg.rstStatus]; omega))]
    exact (s.taskState_tileReset t.isLt t.isLt hk).trans (if_pos rfl)
  · rw [State.suitState, State.fld_congr (State.tileResetShown_rd _ _ (by rw [Reg.suitStatus, Reg.rstStatus]; omega))]
    exact s.suitState_tileReset t.isLt hk
  · rw [State.tileResetShown_tile]
    exact s.tile_tileReset t

/-! ## A partition reset -/

/-- RST_STATUS names the reset of partition `q`. -/
def State.partResetShown (s : State) (q : Nat) : State := (s.setFld Reg.rstStatus 28 4 2).setFld Reg.rstStatus 0 8 q

theorem State.partResetShown_desk (s : State) (q : Nat) : s.sameDesk {a | 0x4000000 ≤ a} (s.partResetShown q) :=
  ((State.sameDesk.refl s {a | 0x4000000 ≤ a}).setFld (by decide) 28 4 2).setFld (by decide) 0 8 q

theorem exec_partitionReset {s : State} {key : BitVec 16} {q : PartId} (h : s.mayReset key) (hstate : (s.slot q).state ≠ .idle) :
    exec (.partitionReset key q) s = .next (((s.partResetShown q).killSlot q).settleCmds) := by
  change execPartitionReset key q s = _
  rw [execPartitionReset, State.rstPart, State.rstCtrl_of_mayReset h]
  rw [if_neg (by simpa using hstate)]
  rfl

theorem partitionReset_begins {s : State} (key : BitVec 16) (q : PartId) (h : s.mayReset key) (hcmds : s.cmds = [])
    (hstate : (s.slot q).state ≠ .idle) (htiles : (s.slot q).tiles ≠ 0) (hres : (s.slot q).resetting = false) :
    Answers (.partitionReset key q) s (fun u => (u.slot q).resetting = true ∧ u.fld Reg.rstStatus 0 8 = q.val ∧
      (∀ t ∈ s.tilesOf q, u.bit (Reg.pocketStatus t) 7 = true ∧ ∀ k, k < 4 → u.taskState t k = taskFree) ∧
      ∀ p, p ≠ q.val → u.slot p = s.slot p) := by
  have hbegun := (State.killSlot_begun (s.partResetShown q) q q.isLt htiles hres).of_desk (s.partResetShown_desk q)
  refine ⟨_, exec_partitionReset h hstate, ?_⟩
  rw [State.settleCmds_of_nil (hbegun.cmds.trans hcmds)]
  exact ⟨hbegun.resetting, hbegun.target, fun t ht => ⟨hbegun.wiping t ht, hbegun.tasks t ht⟩, hbegun.other⟩

/-! ## The module's resets and the reset lands -/

/-- The state of the warm land. -/
def State.withWarmLow (s : State) (b : Bool) : State := { s with warmLow := b }
/-- The state of the cold land. -/
def State.withColdLow (s : State) (b : Bool) : State := { s with coldLow := b }

@[simp] theorem State.withWarmLow_warmLow (s : State) (b : Bool) : (s.withWarmLow b).warmLow = b := rfl
@[simp] theorem State.withColdLow_coldLow (s : State) (b : Bool) : (s.withColdLow b).coldLow = b := rfl

theorem State.warmStarted.withWarmLow {s u : State} (h : s.warmStarted u) (b : Bool) : s.warmStarted (u.withWarmLow b) := h
theorem State.coldStarted.withColdLow {s u : State} (h : s.coldStarted u) (b : Bool) : s.coldStarted (u.withColdLow b) := h

theorem State.beginBoot_rail (s : State) (kind : Nat) :
    (s.beginBoot kind).rail = s.rail ∧ (s.beginBoot kind).warmLow = s.warmLow := ⟨rfl, rfl⟩

theorem State.lose_rail (s : State) (keep : Nat → Bool) (log : Bool) :
    (s.lose keep log).rail = s.rail ∧ (s.lose keep log).warmLow = s.warmLow := ⟨rfl, rfl⟩

/-- A warm reset leaves the rail and the warm land as they are. -/
theorem State.warmReset_rail (s : State) : s.warmReset.rail = s.rail ∧ s.warmReset.warmLow = s.warmLow := by
  rw [State.warmReset_eq]
  exact s.warmLost.beginBoot_rail 3

theorem State.coldReset_rail (s : State) : s.coldReset.rail = s.rail := by
  rw [State.coldReset_eq]
  exact (State.beginBoot_rail _ 4).1

theorem exec_warmRstPin (s : State) (low : Bool) (us : Nat) : exec (.warmRstPin low us) s =
    .next (s.resetPin low s.warmLow us State.withWarmLow State.warmReset) := rfl

theorem exec_coldRstPin (s : State) (low : Bool) (us : Nat) : exec (.coldRstPin low us) s =
    .next (s.resetPin low s.coldLow us State.withColdLow State.coldReset) := rfl

section Lands
variable (s : State) {us : Nat} (hold : State → Bool → State) (reset : State → State)

/-- A land low for less than 10 µs is ignored. -/
theorem State.resetPin_short (hus : us < 10) (held : Bool) : s.resetPin true held us hold reset = s := by
  simp [State.resetPin, hus]

/-- A land low for 10 µs resets the module and holds it there. -/
theorem State.resetPin_low (hus : 10 ≤ us) (hrail : s.rail = true) :
    s.resetPin true false us hold reset = hold (reset s) true := by
  simp [State.resetPin, Nat.not_lt.2 hus, hrail]

/-- A land that rises after 10 µs has reset the module. -/
theorem State.resetPin_pulse (hus : 10 ≤ us) (hrail : s.rail = true) : s.resetPin false false us hold reset = reset s := by
  simp [State.resetPin, Nat.not_lt.2 hus, hrail]

/-- A land that rises ends the reset that it held. -/
theorem State.resetPin_rise (us : Nat) : s.resetPin false true us hold reset = hold s false := rfl

end Lands

theorem warmRstPin_resets {s : State} {us : Nat} (hus : 10 ≤ us) (hrail : s.rail = true) (hlow : s.warmLow = false) :
    Answers (.warmRstPin true us) s (fun u => s.warmStarted u ∧ u.warmLow = true) ∧
    Answers (.warmRstPin false us) s (fun u => s.warmStarted u ∧ u.warmLow = false) := by
  have hpin (low : Bool) := exec_warmRstPin s low us
  simp only [hlow] at hpin
  exact ⟨⟨_, (hpin true).trans (congrArg Host.Outcome.next (s.resetPin_low _ _ hus hrail)),
      s.warmReset_started.withWarmLow true, State.withWarmLow_warmLow ..⟩,
    ⟨_, (hpin false).trans (congrArg Host.Outcome.next (s.resetPin_pulse _ _ hus hrail)), s.warmReset_started,
      s.warmReset_rail.2.trans hlow⟩⟩

theorem coldRstPin_resets {s : State} {us : Nat} (hus : 10 ≤ us) (hrail : s.rail = true) (hlow : s.coldLow = false) :
    Answers (.coldRstPin true us) s (fun u => s.coldStarted u ∧ u.coldLow = true) := by
  have hpin := exec_coldRstPin s true us
  rw [hlow] at hpin
  exact ⟨_, hpin.trans (congrArg Host.Outcome.next (s.resetPin_low _ _ hus hrail)), s.coldReset_started.withColdLow true,
    State.withColdLow_coldLow ..⟩

theorem moduleResets {s : State} (key : BitVec 16) (h : s.mayReset key) :
    Answers (.warmModuleReset key) s (fun u => s.warmStarted u ∧ u.rail = s.rail) ∧
    Answers (.coldReset key) s (fun u => s.coldStarted u ∧ u.rail = s.rail) :=
  ⟨⟨_, congrArg Host.Outcome.next (State.rstCtrl_of_mayReset h 3 State.warmReset), s.warmReset_started, s.warmReset_rail.1⟩,
    ⟨_, congrArg Host.Outcome.next (State.rstCtrl_of_mayReset h 4 State.coldReset), s.coldReset_started, s.coldReset_rail⟩⟩

/-- A request with a wrong key is refused. -/
theorem exec_wrongKey (s : State) {key : BitVec 16} (h : key ≠ 0xA5C3#16) {c : Instr}
    (hc : (∃ t, c = .tileReset key t) ∨ c = .warmModuleReset key ∨ c = .coldReset key) : exec c s = .next s.rstRefused := by
  rcases hc with ⟨t, rfl⟩ | rfl | rfl
  · exact congrArg Host.Outcome.next (s.rstCtrl_of_wrongKey h 1 _)
  · exact congrArg Host.Outcome.next (s.rstCtrl_of_wrongKey h 3 _)
  · exact congrArg Host.Outcome.next (s.rstCtrl_of_wrongKey h 4 _)

end Sys2Proof.Machine

open Sys2Proof.Machine in
/-- Settles O56: what a tile reset, a partition reset, the module's resets, the reset lands and a hang of the Collar do, and the
refusal of a wrong key. That what a reset takes is gone in the row that begins it, that ENV_STATUS is kept, and that a land low for
10 µs resets at once are the model's choice (log entry 41). -/
theorem resetsByScope : Obligations.ResetsByScope := by
  unfold Obligations.ResetsByScope
  intro s
  refine ⟨tileReset_resets, partitionReset_begins, fun q hres hwipes hload hcmds => ?_, moduleResets,
    fun key hkey c hc => ⟨_, exec_wrongKey s hkey hc, s.rstRefused_shows⟩,
    fun hup => ⟨_, congrArg Host.Outcome.next (if_pos hup), s.warmReset_started⟩,
    fun us => ⟨fun hus => ⟨congrArg Host.Outcome.next (s.resetPin_short _ _ hus _),
        congrArg Host.Outcome.next (s.resetPin_short _ _ hus _)⟩,
      fun hus hrail => ⟨warmRstPin_resets hus hrail, coldRstPin_resets hus hrail⟩⟩,
    fun us hlow => ⟨_, (exec_warmRstPin s false us).trans (by rw [hlow, State.resetPin_rise]; rfl), rfl⟩⟩
  obtain ⟨u, hexec, hself, hother⟩ := partitionResetDone_frees hres hwipes hload hcmds
  exact ⟨u, hexec, by rw [hself]; rfl, by rw [hself]; rfl, by rw [hself]; rfl, by rw [hself]; rfl, by rw [hself]; rfl, hother⟩
end

section
/-! SUPPORT. The fault log (R548-R553): the words of a record and the clearing of the log. -/

namespace Sys2Proof.Machine

/-! ## Words of bytes -/

/-- The word that four bytes of a record spell. -/
def wordAt (bs : List Byte) (i : Nat) : Word := BitVec.ofNat 32 (leNat ((bs.drop (4 * i)).take 4))

/-- Four bytes that begin after `4 * i` others are the word `i`. -/
theorem wordAt_append {pre : List Byte} {i : Nat} (hpre : pre.length = 4 * i) (n : Nat) (rest : List Byte) :
    wordAt (pre ++ (leBytes 4 n ++ rest)) i = BitVec.ofNat 32 n := by
  have hn : leNat (leBytes 4 n) = n % 2 ^ 32 := leNat_leBytes 4 n
  rw [wordAt, List.drop_left' hpre, List.take_left' (length_leBytes 4 n), hn]
  exact BitVec.eq_of_toNat_eq (by simp)

/-- The low byte of a word is the first of its four bytes. -/
theorem wordAt_low {pre : List Byte} {i : Nat} (hpre : pre.length = 4 * i) (c : Nat) (rest : List Byte) :
    (wordAt (pre ++ (leBytes 1 c ++ rest)) i).toNat % 256 = c % 256 := by
  have hfirst : (leBytes 1 c ++ rest).take 4 = BitVec.ofNat 8 c :: rest.take 3 := rfl
  rw [wordAt, List.drop_left' hpre, hfirst, leNat, BitVec.toNat_ofNat, BitVec.toNat_ofNat]
  omega

/-- The words of a list that has been written byte by byte after `4 * m` others. -/
theorem wordAt_flatMap {pre : List Byte} {m : Nat} (hpre : pre.length = 4 * m) (ws : List Word) {i : Nat} (hi : i < ws.length) :
    wordAt (pre ++ ws.flatMap (fun w => leBytes 4 w.toNat)) (m + i) = ws[i] := by
  induction ws generalizing pre m i with
  | nil => exact absurd hi (Nat.not_lt_zero i)
  | cons w ws ih =>
    rw [List.flatMap_cons]
    cases i with
    | zero => exact (wordAt_append hpre _ _).trans (BitVec.ofNat_toNat _ w |>.trans (BitVec.setWidth_eq w))
    | succ i =>
      rw [← List.append_assoc, show m + (i + 1) = m + 1 + i by omega]
      exact ih (by rw [List.length_append, hpre, length_leBytes]; omega) (Nat.lt_of_succ_lt_succ hi)

/-! ## A row of words -/

/-- Words `f 0` to `f (n - 1)` are written. -/
def State.wrRow (s : State) (f : Nat → Nat) (g : Nat → Word) (n : Nat) : State :=
  (List.range n).foldl (fun s i => s.wr (f i) (g i)) s

theorem State.wrRow_succ (s : State) (f : Nat → Nat) (g : Nat → Word) (n : Nat) :
    s.wrRow f g (n + 1) = (s.wrRow f g n).wr (f n) (g n) := by
  rw [State.wrRow, List.range_succ, List.foldl_append]
  rfl

theorem State.rd_wrRow {f : Nat → Nat} (hf : Function.Injective f) (s : State) (g : Nat → Word) {n i : Nat} (hi : i < n) :
    (s.wrRow f g n).rd (f i) = g i := by
  induction n with
  | zero => exact absurd hi (Nat.not_lt_zero i)
  | succ n ih =>
    rw [State.wrRow_succ]
    by_cases heq : i = n
    · rw [heq, State.rd_wr_self]
    · rw [State.rd_wr_ne _ _ (fun h => heq (hf h)), ih (by omega)]

theorem State.wrRow_onlyRegs (s : State) (f : Nat → Nat) (g : Nat → Word) (n : Nat) :
    s.onlyRegs (s.wrRow f g n) ((List.range n).map f) :=
  List.foldlRecOn (motive := fun v : State => s.onlyRegs v ((List.range n).map f)) (List.range n) _ (State.onlyRegs.refl s _)
    (fun _ hv _ hi => hv.wr (List.mem_map_of_mem hi) _)

/-! ## The record -/

/-- The first 12 bytes of a record under SEQ `n`. -/
def recordStart (r : FaultRec) (n : Nat) : List Byte := leBytes 8 r.cal ++ leBytes 4 n

/-- Bytes 13 to 63 of a record: what follows its code and stands before the identity. -/
def State.recordMiddle (s : State) (r : FaultRec) : List Byte :=
  let b (x : Bool) (v : Nat) : Nat := if x then v else 0
  leBytes 1 (r.cls + b r.promoted 4 + b r.calValid 8 + b r.noJob 16) ++ leBytes 1 r.unit ++ leBytes 1 r.sub ++
    leBytes 2 ((r.tile.map s.physTile).getD 0xFFFF) ++ leBytes 1 (r.tile.getD 0) ++
    leBytes 1 (((r.part.map (fun p => 0x80 + 0x10 * p)).getD 0) + ((r.slot.map (fun k => 8 + k)).getD 0)) ++
    leBytes 2 r.module ++ leBytes 2 r.epoch ++ leBytes 4 r.step ++ leBytes 4 0 ++ leBytes 8 r.jobId ++ leBytes 8 r.addr ++
    leBytes 8 r.ctx0 ++ leBytes 8 r.ctx1

theorem State.recordBytes_eq (s : State) (r : FaultRec) (n : Nat) : s.recordBytes r n = recordStart r n ++ (leBytes 1 r.code ++
    (s.recordMiddle r ++ s.identity.flatMap (fun w => leBytes 4 w.toNat))) := by
  simp only [State.recordBytes, recordStart, State.recordMiddle, List.append_assoc]

theorem recordStart_length (r : FaultRec) (n : Nat) : (recordStart r n).length = 4 * 3 := by
  rw [recordStart, List.length_append, length_leBytes, length_leBytes]

theorem State.recordHead_length (s : State) (r : FaultRec) (n : Nat) :
    (recordStart r n ++ leBytes 1 r.code ++ s.recordMiddle r).length = 4 * 16 := by
  simp only [State.recordMiddle, recordStart, List.length_append, length_leBytes]

theorem State.recordBytes_seq (s : State) (r : FaultRec) (n : Nat) : wordAt (s.recordBytes r n) 2 = BitVec.ofNat 32 n := by
  rw [State.recordBytes_eq, recordStart, List.append_assoc]
  exact wordAt_append (length_leBytes 8 r.cal) n _

theorem State.recordBytes_code (s : State) (r : FaultRec) (n : Nat) : (wordAt (s.recordBytes r n) 3).toNat % 256 = r.code % 256 := by
  rw [State.recordBytes_eq]
  exact wordAt_low (recordStart_length r n) _ _

theorem State.recordBytes_identity (s : State) (r : FaultRec) (n : Nat) {i : Nat} (hi : i < 16) :
    wordAt (s.recordBytes r n) (16 + i) = s.rd (4 * i) := by
  rw [State.recordBytes_eq, ← List.append_assoc, ← List.append_assoc, wordAt_flatMap (s.recordHead_length r n) _
    (by rw [State.identity, List.length_map, List.length_range]; exact hi)]
  simp [State.identity]

/-! ## The write of a record (R551) -/

/-- The oldest record has left the queue. -/
def State.withFlogQ (s : State) (rest : List FaultRec) : State := { s with flogQ := rest }

@[simp] theorem State.withFlogQ_flogQ (s : State) (rest : List FaultRec) : (s.withFlogQ rest).flogQ = rest := rfl

/-- The record `r` stands in the log under SEQ `n`. -/
def State.recordWritten (s : State) (r : FaultRec) (rest : List FaultRec) (n : Nat) : State :=
  ((s.withFlogQ rest).wrRow (Reg.flogRecord (n % 4096)) (wordAt (s.recordBytes r n)) 32).wr Reg.flogNext (BitVec.ofNat 32 (n + 1))

theorem Reg.flogRecord_injective (n : Nat) : Function.Injective (Reg.flogRecord n) := by
  intro i j h
  unfold Reg.flogRecord at h
  split at h <;> omega

theorem exec_faultRecordWrite {s : State} {r : FaultRec} {rest : List FaultRec} (h : s.flogQ = r :: rest) :
    exec .faultRecordWrite s = .next (s.recordWritten r rest (s.rd Reg.flogNext).toNat) := by
  change execFaultRecordWrite s = _
  rw [execFaultRecordWrite, h]
  rfl

theorem Reg.flogRecord_range (n i : Nat) (hn : n < 4096) (hi : i < 32) : 0x50000 ≤ Reg.flogRecord n i := by
  unfold Reg.flogRecord
  split <;> omega

theorem State.recordWritten_rd (s : State) (r : FaultRec) (rest : List FaultRec) (n : Nat) {i : Nat} (hi : i < 32) :
    (s.recordWritten r rest n).rd (Reg.flogRecord (n % 4096) i) = wordAt (s.recordBytes r n) i := by
  have hnext : Reg.flogRecord (n % 4096) i ≠ Reg.flogNext := by
    have := Reg.flogRecord_range (n % 4096) i (Nat.mod_lt _ (by decide)) hi
    rw [Reg.flogNext]
    omega
  exact (State.rd_wr_ne _ _ hnext).trans (State.rd_wrRow (Reg.flogRecord_injective _) _ _ hi)

/-- Beside the queue of records, only words differ. -/
theorem State.onlyRegs.withFlogQ {s u : State} {rest : List FaultRec} {as : List Nat} (h : (s.withFlogQ rest).onlyRegs u as) :
    s.onlyRegs (u.withFlogQ s.flogQ) as := ⟨congrArg (fun v : State => v.withFlogQ s.flogQ) h.1, h.2⟩

theorem State.onlyRegs.flogQ {s u : State} {as : List Nat} (h : s.onlyRegs u as) : u.flogQ = s.flogQ := by rw [h.1]

theorem State.recordWritten_rest (s : State) (r : FaultRec) (rest : List FaultRec) (n : Nat) :
    (s.withFlogQ rest).onlyRegs (s.recordWritten r rest n)
      (Reg.flogNext :: (List.range 32).map (fun i => Reg.flogRecord (n % 4096) i)) :=
  ((State.wrRow_onlyRegs _ _ _ 32).mono (List.subset_cons_self _ _)).wr List.mem_cons_self _

theorem faultRecordWrite_writes {s : State} {r : FaultRec} {rest : List FaultRec} (h : s.flogQ = r :: rest) :
    Answers .faultRecordWrite s (fun u =>
      let n := (s.rd Reg.flogNext).toNat
      u.flogQ = rest ∧ (u.rd Reg.flogNext).toNat = (n + 1) % 0x100000000 ∧
      (u.rd (Reg.flogRecord (n % 4096) 2)).toNat = n ∧ (u.rd (Reg.flogRecord (n % 4096) 3)).toNat % 256 = r.code % 256 ∧
      (∀ i, i < 16 → u.rd (Reg.flogRecord (n % 4096) (16 + i)) = s.rd (4 * i)) ∧
      s.onlyRegs { u with flogQ := s.flogQ } (Reg.flogNext :: (List.range 32).map (fun i => Reg.flogRecord (n % 4096) i))) := by
  have hseq : (s.rd Reg.flogNext).toNat < 2 ^ 32 := (s.rd Reg.flogNext).isLt
  refine ⟨_, exec_faultRecordWrite h, ?_⟩
  generalize (s.rd Reg.flogNext).toNat = n at hseq
  refine ⟨?_, ?_, ?_, ?_, fun i hi => ?_, (s.recordWritten_rest r rest n).withFlogQ⟩
  · exact (s.recordWritten_rest r rest n).flogQ.trans (s.withFlogQ_flogQ rest)
  · rw [State.recordWritten, State.rd_wr_self]
    exact BitVec.toNat_ofNat ..
  · rw [s.recordWritten_rd r rest n (by decide), s.recordBytes_seq r n, BitVec.toNat_ofNat, Nat.mod_eq_of_lt hseq]
  · rw [s.recordWritten_rd r rest n (by decide), s.recordBytes_code r n]
  · rw [s.recordWritten_rd r rest n (by omega), s.recordBytes_identity r n hi]

/-! ## The clearing of the log (R553) -/

theorem flogCtrlClear_clears (s : State) (v : Word) :
    (fieldOf v 16 16 = 0xA5C3 → v.getLsbD 0 = true → Answers (.flogCtrlClear v) s (fun u =>
        (∀ a, logWord a = true → u.rd a = regReset a) ∧ (∀ a, logWord a = false → u.rd a = s.rd a) ∧ u.flogQ = s.flogQ)) ∧
    (fieldOf v 16 16 ≠ 0xA5C3 ∨ v.getLsbD 0 = false → exec (.flogCtrlClear v) s = .next s) := by
  refine ⟨fun hkey hclear => ⟨_, congrArg Host.Outcome.next (if_pos ⟨hkey, hclear⟩),
    fun a ha => (s.rd_forget logWord a).trans (if_pos ha), fun a ha => (s.rd_forget logWord a).trans (if_neg (by simp [ha])), rfl⟩,
    fun hno => congrArg Host.Outcome.next (if_neg ?_)⟩
  rintro ⟨hkey, hclear⟩
  rcases hno with hno | hno
  · exact hno hkey
  · exact absurd (hclear.symm.trans hno) (by decide)

end Sys2Proof.Machine
end

section
/-! SUPPORT. The environment monitors (R546, R547), the HBM pass (R543) and job stops (R539). Settles O57. -/

namespace Sys2Proof.Machine

/-! ## Environment monitors (R546) -/

/-- ENV_STATUS shows the quantities of `out` out of their limits. -/
def State.envNoted (s : State) (out : Nat) : State := s.wr Reg.envStatus (s.rd Reg.envStatus ||| BitVec.ofNat 32 out)

/-- The PMBus shows an input, coolant or junction trip (R566). -/
def State.tripShown (s : State) (high below : BitVec 9) : State :=
  let b (x : Bool) (v : BitVec 8) : BitVec 8 := if x then v else 0
  { s with pmbus := { s.pmbus with
      input := s.pmbus.input ||| b (high.getLsbD 0) 0x80 ||| b (below.getLsbD 0) 0x10,
      temp := s.pmbus.temp ||| b (high.getLsbD 1 || high.getLsbD 2) 0x80 ||| b (below.getLsbD 1) 0x10 } }

theorem State.tripShown_rd (s : State) (high below : BitVec 9) (a : Nat) : (s.tripShown high below).rd a = s.rd a := rfl
theorem State.tripShown_slot (s : State) (high below : BitVec 9) (q : Nat) : (s.tripShown high below).slot q = s.slot q := rfl

/-- The monitors of `trips` have tripped. -/
def State.envTripped (s : State) (high below : BitVec 9) (trips : Nat) : State :=
  (s.wr Reg.envTrip (s.rd Reg.envTrip ||| BitVec.ofNat 32 trips)).tripShown high below

/-- A trip of a module that has stopped is recorded alone. -/
def State.tripRecorded (s : State) : State :=
  s.pushRec (s.record 0x14 3 14 0 none none none 0 (s.rd Reg.envTrip).toNat (s.rd Reg.envStatus).toNat)

theorem exec_envMonitorTrip (s : State) (high below : BitVec 9) : exec (.envMonitorTrip high below) s = .next (
    if !s.rail then s
    else if (high ||| below).toNat &&& s.armed = 0 then s.envNoted (high ||| below).toNat
    else if s.stopped then
      ((s.envNoted (high ||| below).toNat).envTripped high below ((high ||| below).toNat &&& s.armed)).tripRecorded
    else ((s.envNoted (high ||| below).toNat).envTripped high below ((high ||| below).toNat &&& s.armed)).moduleStop true) := rfl

section Env
variable {s : State} {high below : BitVec 9} (hrail : s.rail = true)
include hrail

theorem exec_envMonitorTrip_none (htrips : (high ||| below).toNat &&& s.armed = 0) :
    exec (.envMonitorTrip high below) s = .next (s.envNoted (high ||| below).toNat) := by
  rw [exec_envMonitorTrip, hrail, if_neg (by decide), if_pos htrips]

theorem exec_envMonitorTrip_stop (htrips : (high ||| below).toNat &&& s.armed ≠ 0) (hstopped : s.stopped = false) :
    exec (.envMonitorTrip high below) s = .next (((s.envNoted (high ||| below).toNat).envTripped high below
      ((high ||| below).toNat &&& s.armed)).moduleStop true) := by
  rw [exec_envMonitorTrip, hrail, if_neg (by decide), if_neg htrips, hstopped, if_neg (by decide)]

theorem envMonitorTrip_stops (htrips : (high ||| below).toNat &&& s.armed ≠ 0) (hstopped : s.stopped = false) :
    Answers (.envMonitorTrip high below) s (fun u => u.stopped = true ∧
      u.rd Reg.envTrip = s.rd Reg.envTrip ||| BitVec.ofNat 32 ((high ||| below).toNat &&& s.armed) ∧ u.stops = [] ∧
      (∀ q, q < 8 → (s.slot q).tiles ≠ 0 → (u.slot q).state = .faulted ∧ (u.slot q).fault = 0x14) ∧
      (∀ d ∈ idleDomains, u.domainOn d = false) ∧ ∀ p, p < 16 → u.portState p = 0) := by
  refine ⟨_, exec_envMonitorTrip_stop hrail htrips hstopped, ?_⟩
  generalize (high ||| below).toNat &&& s.armed = trips
  refine ⟨(State.moduleStop_stopped _ true).1, ?_, (State.moduleStop_stopped _ true).2,
    fun q hq htiles => State.slot_moduleStop _ true hq htiles, State.moduleStop_domains _ true,
    fun p hp => State.moduleStop_portState _ true hp⟩
  have htrip : Reg.envTrip ∈ Reg.stopKept := by
    refine ⟨?_, ?_, ?_, ?_⟩ <;> decide
  rw [State.rd_moduleStop _ true htrip, State.envTripped, State.tripShown_rd, State.rd_wr_self, State.envNoted,
    State.rd_wr_ne _ _ (by decide)]

end Env

/-! ## The HBM pass (R543) -/

/-- What is wrong with word `w` of HBM is noted. -/
def State.withHbmErr (s : State) (w : Nat) (e : Bool) : State := { s with hbmErr := tset s.hbmErr w e }
/-- Word `w` of HBM is correct. -/
def State.hbmCorrected (s : State) (w : Nat) : State := { s with hbmErr := tdel s.hbmErr w }

theorem exec_hbmScrubStep {s : State} {w : Nat} (hw : 32 * w < hbmBytes) (hon : s.domainOn (18 + hbmController (32 * w)) = true)
    (err : Option Bool) : exec (.hbmScrubStep w err) s = .next (match err with
      | some e => ((s.withHbmErr w (e || (tfind s.hbmErr w).getD false)).hbmCheck true [w]).1
      | none => (s.hbmCheck true [w]).1) := by
  change execHbmScrubStep w err s = _
  unfold execHbmScrubStep
  rw [hon, Bool.not_true, Bool.or_false, if_neg (by simpa using hw)]
  cases err <;> rfl

/-- A correct word is left alone. -/
theorem State.hbmCheck_correct {s : State} {w : Nat} (h : tfind s.hbmErr w = none) (scrub : Bool) :
    (s.hbmCheck scrub [w]).1 = s := by
  simp [State.hbmCheck, h]

/-- A corrected word is counted and written back. -/
theorem State.hbmCheck_corrected {s : State} {w : Nat} (h : tfind s.hbmErr w = some false) (scrub : Bool) :
    (s.hbmCheck scrub [w]).1 = (s.hbmCorrected w).count (Reg.hbmCeCount (hbmController (32 * w))) 1 := by
  simp [State.hbmCheck, h, State.hbmCorrected]

/-- An uncorrectable word is charged. -/
theorem State.hbmCheck_bad {s : State} {w : Nat} (h : tfind s.hbmErr w = some true) (scrub : Bool) :
    (s.hbmCheck scrub [w]).1 = s.hbmBad w scrub := by
  simp [State.hbmCheck, h]

section Scrub
variable {s : State} {w : Nat} (hw : 32 * w < hbmBytes) (hon : s.domainOn (18 + hbmController (32 * w)) = true)
include hw hon

theorem hbmScrubStep_correct (hgood : tfind s.hbmErr w = none) : exec (.hbmScrubStep w none) s = .next s :=
  (exec_hbmScrubStep hw hon none).trans (congrArg Host.Outcome.next (State.hbmCheck_correct hgood true))

theorem hbmScrubStep_corrects (hgood : tfind s.hbmErr w = none) : Answers (.hbmScrubStep w (some false)) s (fun u =>
    tfind u.hbmErr w = none ∧ u.hbm = s.hbm ∧
    (u.rd (Reg.hbmCeCount (hbmController (32 * w)))).toNat =
      Min.min 0xFFFFFFFF ((s.rd (Reg.hbmCeCount (hbmController (32 * w)))).toNat + 1) ∧
    s.onlyRegs { u with hbmErr := s.hbmErr } [Reg.hbmCeCount (hbmController (32 * w))]) := by
  have hexec := exec_hbmScrubStep hw hon (some false)
  simp only [hgood, Option.getD_none, Bool.or_self] at hexec
  rw [State.hbmCheck_corrected (tfind_tset_self ..)] at hexec
  exact ⟨_, hexec, tfind_tdel_self _ w, rfl, State.rd_count_one ((s.withHbmErr w false).hbmCorrected w) _,
    ⟨rfl, ((State.onlyRegs.refl s [Reg.hbmCeCount (hbmController (32 * w))]).count List.mem_cons_self 1).2⟩⟩

end Scrub

/-- The partition whose regions hold the offset. -/
theorem State.hbmWhere_lt {s : State} {off q : Nat} (h : s.hbmWhere off = (0, q)) : q < 8 := by
  unfold State.hbmWhere at h
  split at h
  · next heq =>
    cases h
    exact List.mem_range.1 (List.mem_of_find?_eq_some heq)
  all_goals cases h

/-- An uncorrectable word of a job's region has been counted and latched. -/
def State.ueLatched (s : State) (w : Nat) (scrub : Bool) : State :=
  (s.count (Reg.hbmUeCount (hbmController (32 * w))) 1).latchHbm (32 * w) scrub

theorem State.hbmBad_region {s : State} {w q : Nat} (h : s.hbmWhere (32 * w) = (0, q)) (scrub : Bool) :
    s.hbmBad w scrub = (s.ueLatched w scrub).jobFault q 0x0E 2 9 0 none (gaHbm (s.ueLatched w scrub).moduleId (32 * w))
      ((s.ueLatched w scrub).rd (Reg.hbmErrInfo (hbmController (32 * w)))).toNat 0 := by
  simp only [State.hbmBad, h]
  rfl

theorem State.hbmWhere_region (s : State) (off q : Nat) :
    s.hbmWhere off = (0, q) ↔ (List.range 8).find? (fun q => s.inRegion q off 32) = some q := by
  unfold State.hbmWhere
  generalize (List.range 8).find? (fun q => s.inRegion q off 32) = region
  cases region with
  | some p => simp
  | none => refine ⟨fun h => ?_, fun h => nomatch h⟩; split at h <;> simp_all

theorem State.hbmWhere_count {s : State} {off q : Nat} (h : s.hbmWhere off = (0, q)) (a n : Nat) :
    (s.count a n).hbmWhere off = (0, q) :=
  (State.hbmWhere_region _ off q).2 ((s.hbmWhere_region off q).1 h)

section Ue
variable {s : State} {w q : Nat} (h : s.hbmWhere (32 * w) = (0, q)) (scrub : Bool)

/-- The word that HBM_ERR_INFO latches for a word of a region. -/
theorem hbmErrInfo_valid (hq : q < 8) (n : Nat) (hn : n ≤ 0x8000000) :
    (BitVec.ofNat 32 (0x80000000 + 0 * 0x10000000 + n + q * 0x1000000)).getLsbD 31 = true := by
  have hlt : 0x80000000 + 0 * 0x10000000 + n + q * 0x1000000 < 2 ^ 32 := by omega
  rw [BitVec.getLsbD_ofNat, Nat.testBit_eq_decide_div_mod_eq]
  simp
  omega

theorem State.ueLatched_rd {a : Nat} (hinfo : a ≠ Reg.hbmErrInfo (hbmController (32 * w))) (hlo : a ≠ Reg.hbmErrAddr (hbmController (32 * w)))
    (hhi : a ≠ Reg.hbmErrAddr (hbmController (32 * w)) + 4) : (s.ueLatched w scrub).rd a =
      (s.count (Reg.hbmUeCount (hbmController (32 * w))) 1).rd a := by
  unfold State.ueLatched State.latchHbm
  dsimp only
  split
  · rfl
  · exact (State.rd_wr_ne _ _ hhi).trans ((State.rd_wr_ne _ _ hlo).trans (State.rd_wr_ne _ _ hinfo))

include h in
theorem State.ueLatched_valid : (s.ueLatched w scrub).bit (Reg.hbmErrInfo (hbmController (32 * w))) 31 = true := by
  unfold State.ueLatched State.latchHbm
  dsimp only
  split
  · next hvalid => exact hvalid
  · have hword : ∀ v, ((s.count (Reg.hbmUeCount (hbmController (32 * w))) 1).wr (Reg.hbmErrInfo (hbmController (32 * w))) v
      |>.wr64 (Reg.hbmErrAddr (hbmController (32 * w))) (gaHbm (s.count (Reg.hbmUeCount (hbmController (32 * w))) 1).moduleId
        (32 * w))).rd (Reg.hbmErrInfo (hbmController (32 * w))) = v := fun v =>
      (State.rd_wr_ne _ _ (by rw [Reg.hbmErrInfo, Reg.hbmErrAddr]; omega)).trans
        ((State.rd_wr_ne _ _ (by rw [Reg.hbmErrInfo, Reg.hbmErrAddr]; omega)).trans (State.rd_wr_self ..))
    rw [State.bit, hword, State.hbmWhere_count h]
    exact hbmErrInfo_valid (State.hbmWhere_lt h) _ (by split <;> decide)

end Ue

/-- A fault charged to the job of a running partition asks for its stop. -/
theorem State.jobFault_running {s : State} {q : Nat} (hrun : (s.slot q).state = .running) (code cls unit sub : Nat) (tile : Option Nat)
    (addr c0 c1 : Nat) : (∃ st, (s.jobFault q code cls unit sub tile addr c0 c1).stops = s.stops ++ [st] ∧ st.part = q ∧ st.code = code ∧
      st.sub = sub) ∧ (s.jobFault q code cls unit sub tile addr c0 c1).hbm = s.hbm ∧
      (s.jobFault q code cls unit sub tile addr c0 c1).undo = s.undo := by
  have hpush : ∀ r, (s.pushRec r).stops = s.stops ∧ (s.pushRec r).hbm = s.hbm ∧ (s.pushRec r).undo = s.undo ∧
      (s.pushRec r).slot q = s.slot q := fun r => by
    unfold State.pushRec
    split <;> exact ⟨rfl, rfl, rfl, rfl⟩
  obtain ⟨hstops, hhbm, hundo, hslot⟩ := hpush (s.record code cls unit sub tile (some q) none addr c0 c1)
  rw [State.jobFault, State.stopJob, hslot, hrun]
  exact ⟨⟨_, congrArg (· ++ _) hstops, rfl, rfl, rfl⟩, hhbm, hundo⟩

theorem State.ueLatched_units (s : State) (w : Nat) (scrub : Bool) : (s.ueLatched w scrub).slots = s.slots ∧
    (s.ueLatched w scrub).stops = s.stops ∧ (s.ueLatched w scrub).hbm = s.hbm := by
  unfold State.ueLatched State.latchHbm
  dsimp only
  split <;> exact ⟨rfl, rfl, rfl⟩

theorem hbmScrubStep_charges {s : State} {w : Nat} (hw : 32 * w < hbmBytes)
    (hon : s.domainOn (18 + hbmController (32 * w)) = true) {q : Nat} (hwhere : s.hbmWhere (32 * w) = (0, q))
    (hrun : (s.slot q).state = .running) : Answers (.hbmScrubStep w (some true)) s (fun u =>
      (u.rd (Reg.hbmUeCount (hbmController (32 * w)))).toNat =
        Min.min 0xFFFFFFFF ((s.rd (Reg.hbmUeCount (hbmController (32 * w)))).toNat + 1) ∧
      u.bit (Reg.hbmErrInfo (hbmController (32 * w))) 31 = true ∧ u.hbm = s.hbm ∧
      ∃ st, u.stops = s.stops ++ [st] ∧ st.part = q ∧ st.code = 0x0E) := by
  have hexec := exec_hbmScrubStep hw hon (some true)
  simp only [Bool.true_or] at hexec
  have hwhere' : (s.withHbmErr w true).hbmWhere (32 * w) = (0, q) := hwhere
  rw [State.hbmCheck_bad (tfind_tset_self ..), State.hbmBad_region hwhere'] at hexec
  obtain ⟨hslots, hstops, hhbm⟩ := (s.withHbmErr w true).ueLatched_units w true
  have hrun' : (((s.withHbmErr w true).ueLatched w true).slot q).state = .running := by
    rw [State.slot, hslots]
    exact hrun
  refine ⟨_, hexec, ?_, ?_, ?_, ?_⟩
  · rw [State.rd_jobFault_ne _ _ _ _ _ _ _ _ _ _ (by rw [Reg.hbmUeCount, Reg.flogDropped]; omega),
      State.ueLatched_rd _ (by rw [Reg.hbmUeCount, Reg.hbmErrInfo]; omega) (by rw [Reg.hbmUeCount, Reg.hbmErrAddr]; omega)
        (by rw [Reg.hbmUeCount, Reg.hbmErrAddr]; omega)]
    exact State.rd_count_one (s.withHbmErr w true) _
  · rw [State.bit_congr (State.rd_jobFault_ne _ _ _ _ _ _ _ _ _ _ (by rw [Reg.hbmErrInfo, Reg.flogDropped]; omega))]
    exact State.ueLatched_valid hwhere' true
  · exact (State.jobFault_running hrun' ..).2.1.trans hhbm
  · obtain ⟨st, heq, hpart, hcode, _⟩ := (State.jobFault_running hrun' 0x0E 2 9 0 none _ _ 0).1
    exact ⟨st, heq.trans (congrArg (· ++ [st]) hstops), hpart, hcode⟩

/-! ## Job stops (R448, R539) -/

/-- The slot at step 1 of a restart that a fault of its job begins. -/
def Slot.stopping (x : Slot) : Slot :=
  { x with restart := 1, kids := [], arrivedUp := false, released := none, served := false, uncounted := false, planned := false,
           decided := none, drainSeen := false }

/-- A pending commit has ended and the partition has stopped. -/
def State.jobHalted (s : State) (q : Nat) : State := (s.endCommit q 3).stopPartition q

/-- The restart of the job counts as its `n`th. -/
def State.restartNumbered (s : State) (q n : Nat) : State :=
  (s.setSlot q (s.slot q).stopping).setFld (Reg.mirrorStatus q) 20 8 n

/-- The slot shows the fault `c` and restores. -/
def State.restoresFor (s : State) (q c sub unit m : Nat) : State :=
  (s.setFault q c sub unit m).setSlot q { (s.setFault q c sub unit m).slot q with state := .restoring }

section Stop
variable {s : State} {q : Nat}

theorem Reg.mirrorCfg_mem_unitBlock_compl (hq : q < 8) : Reg.mirrorCfg q ∈ Reg.unitBlockᶜ := by
  rintro ⟨-, hunit⟩
  rw [Reg.mirrorCfg] at hunit
  omega

theorem State.jobHalted_rd_mirrorCfg (hq : q < 8) : (s.jobHalted q).rd (Reg.mirrorCfg q) = s.rd (Reg.mirrorCfg q) :=
  ((State.stopPartition_onlyUnits _ q).rd _ (Reg.mirrorCfg_mem_unitBlock_compl hq)).trans
    (s.rd_endCommit q 3 (by rw [Reg.mirrorCfg, Reg.structCommitStatus]; omega))

/-- Step 1 of R448 for a running job that may restart once more. -/
theorem State.beginStop_running (hq : q < 8) (hrun : (s.slot q).state = .running) (hres : (s.slot q).resetting = false)
    (hmade : s.fld (Reg.mirrorStatus q) 20 8 < s.fld (Reg.mirrorCfg q) 16 4) (c sub unit m : Nat) :
    s.beginStop q (some (c, sub, unit, m)) true =
      ((s.jobHalted q).restartNumbered q (s.fld (Reg.mirrorStatus q) 20 8 + 1)).restoresFor q c sub unit m := by
  have hcfg : ((s.jobHalted q).setSlot q ((s.jobHalted q).slot q).stopping).fld (Reg.mirrorCfg q) 16 4 = s.fld (Reg.mirrorCfg q) 16 4 :=
    State.fld_congr (State.jobHalted_rd_mirrorCfg hq) _ _
  have hbegin : s.beginStop q (some (c, sub, unit, m)) true =
      if (true && Decidable.decide (((s.jobHalted q).setSlot q ((s.jobHalted q).slot q).stopping).fld (Reg.mirrorCfg q) 16 4 ≤
        s.fld (Reg.mirrorStatus q) 20 8)) = true then
        ((s.jobHalted q).setSlot q ((s.jobHalted q).slot q).stopping).mirrorEnd q 6
          ((s.jobHalted q).setSlot q ((s.jobHalted q).slot q).stopping).partner .stopped 3
      else ((s.jobHalted q).restartNumbered q (s.fld (Reg.mirrorStatus q) 20 8 + 1)).restoresFor q c sub unit m := by
    unfold State.beginStop
    simp only [hres, hrun]
    rfl
  rw [hbegin, hcfg, if_neg (by simpa using hmade)]

/-- The halt of a job leaves stops, host commands, memory and HBM. -/
theorem State.jobHalted_keeps (s : State) (q : Nat) : (s.jobHalted q).stops = s.stops ∧ (s.jobHalted q).cmds = s.cmds ∧
    (s.jobHalted q).pocket = s.pocket ∧ (s.jobHalted q).hbm = s.hbm := by
  have hcommit : (s.endCommit q 3).stops = s.stops ∧ (s.endCommit q 3).cmds = s.cmds ∧ (s.endCommit q 3).pocket = s.pocket ∧
      (s.endCommit q 3).hbm = s.hbm := by
    unfold State.endCommit
    split <;> exact ⟨rfl, rfl, rfl, rfl⟩
  have hunits := (s.endCommit q 3).stopPartition_onlyUnits q
  obtain ⟨hstops, hcmds, hpocket, hhbm⟩ := hcommit
  exact ⟨hunits.stops.trans hstops, hunits.cmds.trans hcmds, (hunits.pocket trivial).trans hpocket, hunits.hbm.trans hhbm⟩

theorem State.taskState_jobHalted {t k : Nat} (ht : t ∈ s.tilesOf q) (hk : k < 4) : (s.jobHalted q).taskState t k = taskFree := by
  refine State.taskState_stopPartition _ ?_ hk
  rwa [State.tilesOf, State.endCommit_tiles]

/-- The restart of a job leaves stops, host commands, memory, HBM and task words. -/
theorem State.restoresFor_keeps (s : State) (q n c sub unit m : Nat) :
    ((s.restartNumbered q n).restoresFor q c sub unit m).stops = s.stops ∧
    ((s.restartNumbered q n).restoresFor q c sub unit m).cmds = s.cmds ∧
    ((s.restartNumbered q n).restoresFor q c sub unit m).pocket = s.pocket ∧
    ((s.restartNumbered q n).restoresFor q c sub unit m).hbm = s.hbm := ⟨rfl, rfl, rfl, rfl⟩

theorem State.taskState_restoresFor (s : State) (q n c sub unit m t k : Nat) :
    ((s.restartNumbered q n).restoresFor q c sub unit m).taskState t k = s.taskState t k :=
  State.fld_congr (State.rd_wr_ne _ _ (by rw [Reg.cuffTaskStatus, Reg.mirrorStatus]; omega)) _ _

theorem State.slot_restartNumbered (s : State) (q n : Nat) : (s.restartNumbered q n).slot q = (s.slot q).stopping :=
  State.slot_setSlot_self ..

/-- The slot of a job whose restart has begun. -/
theorem State.slot_restoresFor (s : State) (q n c sub unit m : Nat) :
    ((s.restartNumbered q n).restoresFor q c sub unit m).slot q = { (s.slot q).stopping with
      state := .restoring, fault := c, faultSub := sub, faultUnit := unit, faultModule := m,
      faultStep := (s.slot q).stopping.step } := by
  rw [State.restoresFor, State.slot_setSlot_self, State.setFault, State.slot_setSlot_self, State.slot_restartNumbered]

/-- Packets that leave for the fabric. -/
def State.withFabOut (s : State) (out : List Packet) : State := { s with fabOut := out }

/-- JOB_STOP to other modules only queues packets. -/
theorem State.sendJobStop_withFabOut (s : State) (q code cls module seq : Nat) (except : List Nat) :
    ∃ out, s.sendJobStop q code cls module seq except = s.withFabOut out :=
  List.foldlRecOn (motive := fun v : State => ∃ out, v = s.withFabOut out) (s.jobModules q) _ ⟨s.fabOut, rfl⟩ (fun v hv m _ => by
    obtain ⟨out, rfl⟩ := hv
    split
    · exact ⟨out, rfl⟩
    · exact ⟨_, rfl⟩)

/-- The oldest stop has been taken. -/
def State.withStops (s : State) (rest : List StopReq) : State := { s with stops := rest }

/-- Beside packets for other modules, FAULT_JOB_STOP begins the restart of the job. -/
theorem exec_faultJobStop {r : StopReq} {rest : List StopReq} (h : s.stops = r :: rest)
    (hcmds : ((s.withStops rest).beginStop r.part (some (r.code, r.sub, r.unit, s.moduleId)) true).cmds = []) :
    ∃ out, exec .faultJobStop s =
      .next (((s.withStops rest).beginStop r.part (some (r.code, r.sub, r.unit, s.moduleId)) true).withFabOut out) := by
  have hexec : exec .faultJobStop s = .next (State.settleCmds
      (if (s.slot r.part).going || ((s.slot r.part).state == .restoring && 2 ≤ (s.slot r.part).restart) then
        ((s.withStops rest).beginStop r.part (some (r.code, r.sub, r.unit, s.moduleId)) true).sendJobStop r.part r.code r.cls
          ((s.withStops rest).beginStop r.part (some (r.code, r.sub, r.unit, s.moduleId)) true).moduleId r.seq []
      else (s.withStops rest).beginStop r.part (some (r.code, r.sub, r.unit, s.moduleId)) true)) := by
    change execFaultJobStop s = _
    rw [execFaultJobStop, h]
    rfl
  revert hexec
  generalize (s.withStops rest).beginStop r.part (some (r.code, r.sub, r.unit, s.moduleId)) true = v at hcmds
  intro hexec
  obtain ⟨out, hout⟩ := v.sendJobStop_withFabOut r.part r.code r.cls v.moduleId r.seq []
  rw [hexec]
  split
  · exact ⟨out, by rw [hout, State.settleCmds_of_nil (s := v.withFabOut out) hcmds]⟩
  · exact ⟨v.fabOut, by rw [State.settleCmds_of_nil hcmds]; rfl⟩

theorem faultJobStop_restarts {r : StopReq} {rest : List StopReq} (h : s.stops = r :: rest) (hq : r.part < 8) (hcmds : s.cmds = [])
    (hrun : (s.slot r.part).state = .running) (hres : (s.slot r.part).resetting = false)
    (hmade : s.fld (Reg.mirrorStatus r.part) 20 8 < s.fld (Reg.mirrorCfg r.part) 16 4) : Answers .faultJobStop s (fun u =>
      u.stops = rest ∧ (u.slot r.part).state = .restoring ∧ (u.slot r.part).restart = 1 ∧ (u.slot r.part).fault = r.code ∧
      (u.slot r.part).faultSub = r.sub ∧ (u.slot r.part).faultUnit = r.unit ∧
      (∀ t ∈ s.tilesOf r.part, ∀ k, k < 4 → u.taskState t k = taskFree) ∧ u.pocket = s.pocket ∧ u.hbm = s.hbm) := by
  have hbegin := State.beginStop_running (s := s.withStops rest) hq hrun hres hmade r.code r.sub r.unit s.moduleId
  obtain ⟨hstops, hcmds', hpocket, hhbm⟩ := (s.withStops rest).jobHalted_keeps r.part
  have htasks : ∀ t ∈ s.tilesOf r.part, ∀ k, k < 4 → ((s.withStops rest).jobHalted r.part).taskState t k = taskFree :=
    fun t ht k hk => State.taskState_jobHalted (s := s.withStops rest) ht hk
  generalize hv : (s.withStops rest).jobHalted r.part = v at hbegin hstops hcmds' hpocket hhbm htasks
  obtain ⟨hstops', hcmds'', hpocket', hhbm'⟩ := v.restoresFor_keeps r.part ((s.withStops rest).fld (Reg.mirrorStatus r.part) 20 8 + 1)
    r.code r.sub r.unit s.moduleId
  have hslot := v.slot_restoresFor r.part ((s.withStops rest).fld (Reg.mirrorStatus r.part) 20 8 + 1) r.code r.sub r.unit s.moduleId
  have htasks' := fun t (ht : t ∈ s.tilesOf r.part) k (hk : k < 4) => (v.taskState_restoresFor r.part
    ((s.withStops rest).fld (Reg.mirrorStatus r.part) 20 8 + 1) r.code r.sub r.unit s.moduleId t k).trans
      (htasks t ht k hk)
  rw [← hbegin] at hstops' hcmds'' hpocket' hhbm' hslot htasks'
  obtain ⟨out, hexec⟩ := exec_faultJobStop h (hcmds''.trans (hcmds'.trans hcmds))
  revert hexec hstops' hpocket' hhbm' hslot htasks'
  generalize (s.withStops rest).beginStop r.part (some (r.code, r.sub, r.unit, s.moduleId)) true = u
  intro hstops' hpocket' hhbm' hslot htasks' hexec
  have hslot' : (u.withFabOut out).slot r.part = _ := hslot
  exact ⟨_, hexec, hstops'.trans hstops, congrArg Slot.state hslot', congrArg Slot.restart hslot', congrArg Slot.fault hslot',
    congrArg Slot.faultSub hslot', congrArg Slot.faultUnit hslot', htasks', hpocket'.trans hpocket, hhbm'.trans hhbm⟩

end Stop

end Sys2Proof.Machine

open Sys2Proof.Machine in
/-- Settles O57: the Collar takes the oldest stop; the log takes records in order and is cleared by its key; a monitor that trips
stops the module; the HBM pass corrects a word or charges it. That the whole module stop happens in one row (log entry 55) and which
fields a record carries (log entry 57) are the model's choice. -/
theorem faultsLogAndMonitors : Obligations.FaultsLogAndMonitors := by
  unfold Obligations.FaultsLogAndMonitors
  intro s
  refine ⟨fun hnone => ?_, fun r rest h hq hcmds hrun hres hmade => faultJobStop_restarts h hq hcmds hrun hres hmade,
    fun hnone => ?_, fun r rest h => faultRecordWrite_writes h, flogCtrlClear_clears s,
    fun high below hrail => ⟨fun htrips => ⟨_, exec_envMonitorTrip_none hrail htrips, State.rd_wr_self ..,
        (State.onlyRegs.refl s _).wr List.mem_cons_self _⟩, fun htrips hstopped => envMonitorTrip_stops hrail htrips hstopped⟩,
    ⟨_, rfl, State.rd_wr_self .., (State.onlyRegs.refl s _).wr List.mem_cons_self _⟩,
    fun w hw hon => ⟨hbmScrubStep_correct hw hon, hbmScrubStep_corrects hw hon, fun q => hbmScrubStep_charges hw hon⟩⟩
  · change execFaultJobStop s = _
    rw [execFaultJobStop, hnone]
  · change execFaultRecordWrite s = _
    rw [execFaultRecordWrite, hnone]
end

section
/-! SUPPORT. The command ring (R468-R472): a command that has been read alone, how it begins and ends. -/

namespace Sys2Proof.Machine

/-! ## One command in the queue -/

/-- The command that has been begun. -/
def HostCmd.started (c : HostCmd) : HostCmd := { c with begun := true }

section Single
variable {s : State} {c : HostCmd} (hcmds : s.cmds = [c])
include hcmds

theorem State.find_single (p : HostCmd → Bool) : s.cmds.find? p = if p c then some c else none := by
  rw [hcmds, List.find?_singleton]

theorem State.markBegun_single : (s.markBegun c).cmds = [c.started] := by
  simp [State.markBegun, hcmds, HostCmd.started]

theorem State.finishCmd_single {result reason : Nat} : (s.finishCmd c result reason).cmds = [] := by
  simp [State.finishCmd, hcmds]

/-- A command alone in the queue waits for no other. -/
theorem State.cmdWaits_single : s.cmdWaits c = false := by
  simp [State.cmdWaits, hcmds]

/-- A command that has been begun is carried on. -/
theorem State.settleCmd_begun (hbegun : c.begun = true) : s.settleCmd c.n = s.endCmd c := by
  simp [State.settleCmd, hcmds, hbegun]

/-- A command that is completed as it begins. -/
theorem State.settleCmd_done (hnew : c.begun = false) (hdone : (s.beginCmd c).cmds = []) : s.settleCmd c.n = s.beginCmd c := by
  simp [State.settleCmd, hcmds, hnew, State.cmdWaits_single hcmds, hdone]

/-- A command that begins is carried on at once. -/
theorem State.settleCmd_goes (hnew : c.begun = false) (hgoes : (s.beginCmd c).cmds = [c.started]) :
    s.settleCmd c.n = (s.beginCmd c).endCmd c.started := by
  simp [State.settleCmd, hcmds, hnew, State.cmdWaits_single hcmds, hgoes, HostCmd.started]

/-- The queue after one round: nothing is left, or a command that stays. -/
theorem State.settleCmds_of_empty {v : State} (hfirst : s.settleCmd c.n = v) (hv : v.cmds = []) : s.settleCmds = v := by
  simp [State.settleCmds, hcmds, hfirst, hv]

theorem State.settleCmds_of_started {v : State} (hfirst : s.settleCmd c.n = v) (hv : v.cmds = [c.started])
    (hstays : v.endCmd c.started = v) : s.settleCmds = v := by
  have hsecond : v.settleCmd c.n = v := (State.settleCmd_begun hv rfl).trans hstays
  simp [State.settleCmds, hcmds, hfirst, hv, HostCmd.started, hsecond]

end Single

/-- A command completes as it begins. -/
theorem State.settleCmds_done {s v : State} {c : HostCmd} {result reason : Nat} (hcmds : s.cmds = [c]) (hnew : c.begun = false)
    (hbegin : s.beginCmd c = v.finishCmd c result reason) (hv : v.cmds = [c]) : s.settleCmds = v.finishCmd c result reason :=
  have hdone : (v.finishCmd c result reason).cmds = [] := State.finishCmd_single hv
  State.settleCmds_of_empty hcmds ((State.settleCmd_done hcmds hnew (by rw [hbegin, hdone])).trans hbegin) hdone

/-- A command begins and stays in progress. -/
theorem State.settleCmds_goes {s v : State} {c : HostCmd} (hcmds : s.cmds = [c]) (hnew : c.begun = false) (hbegin : s.beginCmd c = v)
    (hv : v.cmds = [c.started]) (hstays : v.endCmd c.started = v) : s.settleCmds = v := by
  subst hbegin
  exact State.settleCmds_of_started hcmds ((State.settleCmd_goes hcmds hnew hv).trans hstays) hv hstays

/-- A command begins and completes in the same round. -/
theorem State.settleCmds_ends {s v : State} {c : HostCmd} {result reason : Nat} (hcmds : s.cmds = [c]) (hnew : c.begun = false)
    (hbegin : s.beginCmd c = v) (hv : v.cmds = [c.started]) (hends : v.endCmd c.started = v.finishCmd c.started result reason) :
    s.settleCmds = v.finishCmd c.started result reason := by
  subst hbegin
  exact State.settleCmds_of_empty hcmds ((State.settleCmd_goes hcmds hnew hv).trans hends) (State.finishCmd_single hv)

/-! ## The read of the ring (R471) -/

/-- The command of the ring entry at HEAD. -/
def State.headCmd (s : State) (op : Nat) (e : CmdEntry) : HostCmd := { n := s.headNo, op := op, entry := e, begun := false }

/-- The Collar has read the entry at HEAD; no other command is in progress. -/
def State.cmdRead (s : State) (op : Nat) (e : CmdEntry) : State :=
  { s.wr Reg.hostCmdHead (BitVec.ofNat 32 (s.headNo + 1)) with cmds := [s.headCmd op e] }

theorem State.cmdRead_cmds (s : State) (op : Nat) (e : CmdEntry) : (s.cmdRead op e).cmds = [s.headCmd op e] := rfl
theorem State.cmdRead_slot (s : State) (op : Nat) (e : CmdEntry) (q : Nat) : (s.cmdRead op e).slot q = s.slot q := rfl
theorem State.cmdRead_completions (s : State) (op : Nat) (e : CmdEntry) : (s.cmdRead op e).completions = s.completions := rfl
theorem State.cmdRead_loading (s : State) (op : Nat) (e : CmdEntry) : (s.cmdRead op e).loading = s.loading := rfl
theorem State.cmdRead_tilesOf (s : State) (op : Nat) (e : CmdEntry) (q : Nat) : (s.cmdRead op e).tilesOf q = s.tilesOf q := rfl

theorem State.cmdRead_rd (s : State) (op : Nat) (e : CmdEntry) {a : Nat} (ha : a ≠ Reg.hostCmdHead) :
    (s.cmdRead op e).rd a = s.rd a := State.rd_wr_ne s _ ha

theorem State.cmdRead_headNo (s : State) (op : Nat) (e : CmdEntry) : (s.cmdRead op e).headNo = (s.headNo + 1) % 0x100000000 := by
  have hword : (s.cmdRead op e).rd Reg.hostCmdHead = BitVec.ofNat 32 (s.headNo + 1) := State.rd_wr_self s _ _
  rw [State.headNo, hword]
  exact BitVec.toNat_ofNat ..

/-- The host may be served, and an entry waits. -/
structure State.mayRead (s : State) : Prop where
  cmds : s.cmds = []
  runs : s.collarRuns = true
  on : s.cmdOn = true
  up : s.hostUp = true
  waits : s.headNo ≠ (s.rd Reg.hostCmdTail).toNat

theorem State.mayRead.readCmd {s : State} (h : s.mayRead) (op : Nat) (e : CmdEntry) : s.readCmd op e = (s.cmdRead op e).settleCmds := by
  obtain ⟨hcmds, hruns, hon, hup, hwaits⟩ := h
  have hwaits' : ((s.rd Reg.hostCmdHead).toNat != (s.rd Reg.hostCmdTail).toNat) = true := bne_iff_ne.2 hwaits
  unfold State.readCmd
  simp only [hruns, hon, hup, hwaits', Bool.and_self, if_true, State.wr_cmds, hcmds, List.nil_append]
  rfl

/-- The rows that read a ring entry. -/
def readsEntry (op : Nat) (e : CmdEntry) (c : Instr) : Prop := ∀ s : State, exec c s = .next (s.readCmd op e)

theorem State.mayRead.carriesOut {s : State} (h : s.mayRead) {op : Nat} {e : CmdEntry} {c : Instr} (hc : readsEntry op e c) :
    exec c s = .next (s.cmdRead op e).settleCmds := (hc s).trans (congrArg Host.Outcome.next (h.readCmd op e))

/-! ## Completions -/

/-- A completed command leaves its completion in the module page, and the entry after it is next. -/
theorem State.completes_finish {s v : State} {op : Nat} {e : CmdEntry} {c : HostCmd} (hc : c.n = s.headNo ∧ c.op = op ∧ c.entry = e)
    (result : Nat) (hcmds : v.cmds = [c]) (hhead : v.headNo = (s.headNo + 1) % 0x100000000) :
    s.completes (v.finishCmd c result 0) op e result := by
  obtain ⟨hn, hop, hentry⟩ := hc
  refine ⟨State.finishCmd_single hcmds, ?_, hhead⟩
  rw [← hn, ← hop, ← hentry]
  exact tget_tset_self ..

/-- A command that only completes. -/
theorem State.completesOnly_finish (s : State) (op : Nat) (e : CmdEntry) (result : Nat) :
    s.completesOnly ((s.cmdRead op e).finishCmd (s.headCmd op e) result 0) op e result :=
  ⟨State.completes_finish ⟨rfl, rfl, rfl⟩ result rfl (s.cmdRead_headNo op e), rfl, fun _ ha =>
    s.cmdRead_rd op e (List.ne_of_not_mem_cons ha)⟩

/-- A row whose command completes as it begins. -/
theorem State.mayRead.completesOnly {s : State} (h : s.mayRead) {op : Nat} {e : CmdEntry} {c : Instr} (hc : readsEntry op e c)
    {result : Nat} (hbegin : (s.cmdRead op e).beginCmd (s.headCmd op e) = (s.cmdRead op e).finishCmd (s.headCmd op e) result 0) :
    Answers c s (fun u => s.completesOnly u op e result) :=
  ⟨_, (h.carriesOut hc).trans (congrArg Host.Outcome.next (State.settleCmds_done (s.cmdRead_cmds op e) rfl hbegin rfl)),
    s.completesOnly_finish op e result⟩

/-- A row whose command begins and stays in progress. -/
theorem State.mayRead.goes {s : State} (h : s.mayRead) {op : Nat} {e : CmdEntry} {c : Instr} (hc : readsEntry op e c) {v : State}
    (hbegin : (s.cmdRead op e).beginCmd (s.headCmd op e) = v) (hv : v.cmds = [(s.headCmd op e).started])
    (hstays : v.endCmd (s.headCmd op e).started = v) : exec c s = .next v :=
  (h.carriesOut hc).trans (congrArg Host.Outcome.next (State.settleCmds_goes (s.cmdRead_cmds op e) rfl hbegin hv hstays))

end Sys2Proof.Machine
end

section
/-! SUPPORT. The commands of the ring by the state of their slot (R468-R472), and the end of a copy. Settles O51. -/

namespace Sys2Proof.Machine

/-! ## What the effect of a command depends on -/

section Words
variable {s u : State} (hrd : ∀ a, a < 0x4000000 → u.rd a = s.rd a)
include hrd

theorem State.linksUp_congr : u.linksUp = s.linksUp := by
  have hwaking : u.rd Reg.pwrDomainWaking = s.rd Reg.pwrDomainWaking := hrd _ (by decide)
  have hport : ∀ p ∈ List.range 16, (!u.bit (Reg.fabPortCtrl p) 0 || u.portState p != portTraining) =
      (!s.bit (Reg.fabPortCtrl p) 0 || s.portState p != portTraining) := fun p hp => by
    have := List.mem_range.1 hp
    rw [State.bit_congr (hrd _ (by rw [Reg.fabPortCtrl]; omega)), State.portState, State.portState,
      State.fld_congr (hrd _ (by rw [Reg.fabPortStatus]; omega))]
  have hports : ((List.range 16).all fun p => !u.bit (Reg.fabPortCtrl p) 0 || u.portState p != portTraining) =
      (List.range 16).all fun p => !s.bit (Reg.fabPortCtrl p) 0 || s.portState p != portTraining := by
    rw [Bool.eq_iff_iff, List.all_eq_true, List.all_eq_true]
    exact forall₂_congr (fun p hp => by rw [hport p hp])
  unfold State.linksUp State.domainWaking
  rw [hports]
  simp only [State.bit_congr hwaking]

theorem State.isMe_congr (m : Nat) : u.isMe m = s.isMe m := by
  have halias : u.rd Reg.mirrorAlias = s.rd Reg.mirrorAlias := hrd _ (by decide)
  have hid : u.rd Reg.fabModuleId = s.rd Reg.fabModuleId := hrd _ (by decide)
  simp only [State.isMe, State.moduleId, State.ownId, State.bit_congr halias, State.fld_congr halias, State.fld_congr hid]

theorem State.areas_congr {q : Nat} (hq : q < 8) : u.mirrorArea q = s.mirrorArea q ∧ u.undoArea q = s.undoArea q := by
  have h64 : ∀ a, a < 0x3fffffc → u.rd64 a = s.rd64 a := fun a ha => State.rd64_congr (hrd a (by omega)) (hrd (a + 4) (by omega))
  unfold State.mirrorArea State.undoArea
  rw [h64, h64, h64, h64]
  · exact ⟨rfl, rfl⟩
  · rw [Reg.mirrorUndoBytes]; omega
  · rw [Reg.mirrorUndoBase]; omega
  · rw [Reg.mirrorAreaBytes]; omega
  · rw [Reg.mirrorAreaBase]; omega

theorem State.copyOk_congr (hslots : u.slots = s.slots) (c : HostCmd) : u.copyOk c = s.copyOk c := by
  have harea : ∀ off len, u.areaOf off len = s.areaOf off len := fun off len =>
    List.find?_congr (fun q hq => by
      obtain ⟨hmirror, hundo⟩ := State.areas_congr hrd (List.mem_range.1 hq)
      rw [hmirror, hundo])
  have hslot : ∀ q, u.slot q = s.slot q := fun q => by rw [State.slot, hslots, State.slot]
  simp only [State.copyOk, State.isMe_congr hrd, State.hbmAdmits, State.inRegion, harea, hslot]

end Words

theorem State.cmdRead_linksUp (s : State) (op : Nat) (e : CmdEntry) : (s.cmdRead op e).linksUp = s.linksUp :=
  State.linksUp_congr (fun _ ha => s.cmdRead_rd op e (by rw [Reg.hostCmdHead]; omega))

theorem State.cmdRead_copyOk (s : State) (op : Nat) (e : CmdEntry) (c : HostCmd) : (s.cmdRead op e).copyOk c = s.copyOk c :=
  State.copyOk_congr (fun _ ha => s.cmdRead_rd op e (by rw [Reg.hostCmdHead]; omega)) rfl c

/-! ## How a command begins -/

/-- An opcode that no command has. -/
theorem State.beginCmd_opcode (s : State) {c : HostCmd} (hop : c.op = 0 ∨ 7 < c.op) : s.beginCmd c = s.finishCmd c resOpcode 0 := by
  have hcond : (c.op = 0 || 7 < c.op) = true := by simpa using hop
  unfold State.beginCmd
  dsimp only
  rw [if_pos hcond]

section Begin
variable {s : State} {c : HostCmd}

theorem State.beginCmd_field (hop : c.op = 7) (hbad : 7 < c.entry.slot ∨ c.entry.resv ≠ 0) :
    s.beginCmd c = s.finishCmd c resField 0 := by
  have hcond : (c.entry.resv != 0 || 7 < c.entry.slot) = true := by simpa [or_comm] using hbad
  unfold State.beginCmd
  dsimp only
  rw [if_neg (by simp [hop]), if_pos hcond]

variable (hq : c.entry.slot < 8) (hresv : c.entry.resv = 0)
include hq hresv

/-- The effect of a command of a good entry, by its opcode. -/
theorem State.beginCmd_good (hop : 1 ≤ c.op ∧ c.op ≤ 7) : s.beginCmd c =
    (let q := c.entry.slot
     let x := s.slot q
     if c.op = 7 then s.finishCmd c resOk 0
     else if c.op = 1 then
       if x.state.busy then s.finishCmd c resState 0
       else if s.loading.isSome || x.resetting then s
       else
         let s := s.leaveIdle
         let s := (s.wr64 Reg.structLoadAddr c.entry.arg0).wr64 Reg.structLoadLen c.entry.arg1
         (s.markBegun c).startLoad q
     else if c.op = 2 then
       if x.state != .ready && x.state != .stopped then s.finishCmd c resState 0
       else if !s.linksUp then s
       else if x.state == .ready then (s.runReady q).finishCmd c resOk 0
       else (s.runStopped q).finishCmd c resOk 0
     else if c.op = 3 then
       if x.state != .running then s.finishCmd c resState 0
       else (s.setSlot q { x with state := .draining, drainAsked := true }).markBegun c
     else if c.op = 4 then
       if x.state == .idle then s.finishCmd c resState 0 else (s.killSlot q).markBegun c
     else if c.op = 5 then
       if x.state != .ready && x.state != .stopped then s.finishCmd c resState 0
       else if !s.copyOk c then s.finishCmd c resField 0
       else s.markBegun c
     else
       if x.state == .idle || x.state == .loading then s.finishCmd c resState 0
       else if !s.copyOk c then s.finishCmd c resField 0
       else s.markBegun c) := by
  unfold State.beginCmd
  dsimp only
  rw [if_neg (by simp; omega), if_neg (by simp [hresv]; omega)]

theorem State.beginCmd_nop (hop : c.op = 7) : s.beginCmd c = s.finishCmd c resOk 0 := by
  simp [State.beginCmd_good hq hresv (by omega), hop]

theorem State.beginCmd_load_busy (hop : c.op = 1) (hbusy : (s.slot c.entry.slot).state.busy = true) :
    s.beginCmd c = s.finishCmd c resState 0 := by
  simp [State.beginCmd_good hq hresv (by omega), hop, hbusy]

theorem State.beginCmd_load (hop : c.op = 1) (hbusy : (s.slot c.entry.slot).state.busy = false)
    (hres : (s.slot c.entry.slot).resetting = false) (hload : s.loading = none) :
    s.beginCmd c = (((s.leaveIdle.wr64 Reg.structLoadAddr c.entry.arg0).wr64 Reg.structLoadLen c.entry.arg1).markBegun c).startLoad
      c.entry.slot := by
  simp [State.beginCmd_good hq hresv (by omega), hop, hbusy, hres, hload]

theorem State.beginCmd_run_bad (hop : c.op = 2) (hready : (s.slot c.entry.slot).state ≠ .ready)
    (hstopped : (s.slot c.entry.slot).state ≠ .stopped) : s.beginCmd c = s.finishCmd c resState 0 := by
  simp [State.beginCmd_good hq hresv (by omega), hop, hready, hstopped]

theorem State.beginCmd_run_ready (hop : c.op = 2) (hready : (s.slot c.entry.slot).state = .ready) (hlinks : s.linksUp = true) :
    s.beginCmd c = (s.runReady c.entry.slot).finishCmd c resOk 0 := by
  simp [State.beginCmd_good hq hresv (by omega), hop, hready, hlinks]

theorem State.beginCmd_run_stopped (hop : c.op = 2) (hstopped : (s.slot c.entry.slot).state = .stopped) (hlinks : s.linksUp = true) :
    s.beginCmd c = (s.runStopped c.entry.slot).finishCmd c resOk 0 := by
  simp [State.beginCmd_good hq hresv (by omega), hop, hstopped, hlinks]

theorem State.beginCmd_drain_bad (hop : c.op = 3) (hrun : (s.slot c.entry.slot).state ≠ .running) :
    s.beginCmd c = s.finishCmd c resState 0 := by
  simp [State.beginCmd_good hq hresv (by omega), hop, hrun]

theorem State.beginCmd_drain (hop : c.op = 3) (hrun : (s.slot c.entry.slot).state = .running) : s.beginCmd c =
    (s.setSlot c.entry.slot { s.slot c.entry.slot with state := .draining, drainAsked := true }).markBegun c := by
  simp [State.beginCmd_good hq hresv (by omega), hop, hrun]

theorem State.beginCmd_kill_idle (hop : c.op = 4) (hidle : (s.slot c.entry.slot).state = .idle) :
    s.beginCmd c = s.finishCmd c resState 0 := by
  simp [State.beginCmd_good hq hresv (by omega), hop, hidle]

theorem State.beginCmd_kill (hop : c.op = 4) (hidle : (s.slot c.entry.slot).state ≠ .idle) :
    s.beginCmd c = (s.killSlot c.entry.slot).markBegun c := by
  simp [State.beginCmd_good hq hresv (by omega), hop, hidle]

theorem State.beginCmd_copyIn_bad (hop : c.op = 5) (hready : (s.slot c.entry.slot).state ≠ .ready)
    (hstopped : (s.slot c.entry.slot).state ≠ .stopped) : s.beginCmd c = s.finishCmd c resState 0 := by
  simp [State.beginCmd_good hq hresv (by omega), hop, hready, hstopped]

theorem State.beginCmd_copyIn (hop : c.op = 5)
    (hstate : (s.slot c.entry.slot).state = .ready ∨ (s.slot c.entry.slot).state = .stopped) :
    s.beginCmd c = if s.copyOk c then s.markBegun c else s.finishCmd c resField 0 := by
  rw [State.beginCmd_good hq hresv (by omega)]
  rcases hstate with h | h <;> cases s.copyOk c <;> simp [hop, h]

theorem State.beginCmd_copyOut (hop : c.op = 6) (hidle : (s.slot c.entry.slot).state ≠ .idle)
    (hloading : (s.slot c.entry.slot).state ≠ .loading) :
    s.beginCmd c = if s.copyOk c then s.markBegun c else s.finishCmd c resField 0 := by
  rw [State.beginCmd_good hq hresv (by omega)]
  cases s.copyOk c <;> simp [hop, hidle, hloading]

end Begin

/-! ## How a command goes on -/

theorem State.endCmd_load {s : State} {c : HostCmd} (hop : c.op = 1) {l : Load} (hload : s.loading = some l)
    (hpart : l.part = c.entry.slot) : s.endCmd c = s := by
  simp [State.endCmd, hop, hload, hpart]

theorem State.endCmd_drain {s : State} {c : HostCmd} (hop : c.op = 3) (hdraining : (s.slot c.entry.slot).state = .draining) :
    s.endCmd c = s := by
  simp [State.endCmd, hop, hdraining]

theorem State.endCmd_kill {s : State} {c : HostCmd} (hop : c.op = 4) :
    s.endCmd c = if (s.slot c.entry.slot).resetting then s else s.finishCmd c resOk 0 := by
  simp [State.endCmd, hop]

theorem State.endCmd_copy {s : State} {c : HostCmd} (hop : 5 ≤ c.op) : s.endCmd c = s := by
  unfold State.endCmd
  dsimp only
  rw [if_neg (by omega), if_neg (by omega), if_neg (by omega)]

/-! ## LOAD (R468, R471) -/

theorem State.leaveIdle_desk (s : State) : s.sameDesk {a | 0x100000 ≤ a} s.leaveIdle := by
  have hrefl := State.sameDesk.refl s {a | 0x100000 ≤ a}
  have hwake : ∀ (v : State), s.sameDesk {a | 0x100000 ≤ a} v → s.sameDesk {a | 0x100000 ≤ a} (v.wakeDomains idleDomains) :=
    fun v hv => List.foldlRecOn (motive := fun v : State => s.sameDesk {a | 0x100000 ≤ a} v) idleDomains _ hv (fun w hw d _ => by
      unfold State.wakeDomain
      split
      · exact hw
      · exact hw.setBit (by decide) _ _)
  unfold State.leaveIdle
  split
  · exact hwake _ ((hrefl.setBit (by decide) 0 false).wr (by decide) 3)
  · exact hrefl

/-- The module is awake and the loader has its image. -/
def State.loadTaken (s : State) (c : HostCmd) : State :=
  ((s.leaveIdle.wr64 Reg.structLoadAddr c.entry.arg0).wr64 Reg.structLoadLen c.entry.arg1).markBegun c

theorem State.loadTaken_desk (s : State) (c : HostCmd) : (s.loadTaken c).slots = s.slots ∧
    (s.loadTaken c).cmds = (s.markBegun c).cmds ∧ (s.loadTaken c).completions = s.completions ∧
    (s.loadTaken c).headNo = s.headNo := by
  have h := s.leaveIdle_desk
  have hhead : (s.loadTaken c).rd Reg.hostCmdHead = s.rd Reg.hostCmdHead :=
    (State.rd_wr_ne _ _ (by decide)).trans ((State.rd_wr_ne _ _ (by decide)).trans ((State.rd_wr_ne _ _ (by decide)).trans
      ((State.rd_wr_ne _ _ (by decide)).trans (h.rd Reg.hostCmdHead (by decide)))))
  exact ⟨h.slots, congrArg (List.map _) h.cmds, h.completions, congrArg BitVec.toNat hhead⟩

theorem State.loadTaken_rd64 (s : State) (c : HostCmd) : (s.loadTaken c).rd64 Reg.structLoadAddr = c.entry.arg0 % 2 ^ 64 ∧
    (s.loadTaken c).rd64 Reg.structLoadLen = c.entry.arg1 % 2 ^ 64 := by
  refine ⟨?_, State.rd64_wr64 _ _ _⟩
  have haddr : (s.loadTaken c).rd64 Reg.structLoadAddr = (s.leaveIdle.wr64 Reg.structLoadAddr c.entry.arg0).rd64 Reg.structLoadAddr :=
    State.rd64_congr ((State.rd_wr_ne _ _ (by decide)).trans (State.rd_wr_ne _ _ (by decide)))
      ((State.rd_wr_ne _ _ (by decide)).trans (State.rd_wr_ne _ _ (by decide)))
  exact haddr.trans (State.rd64_wr64 ..)

/-- What the loader shows of a load that it takes. -/
theorem State.startLoad_rd (s : State) (q : Nat) {a : Nat} (hctrl : a ≠ Reg.structLoadCtrl) (hstatus : a ≠ Reg.structLoadStatus) :
    (s.startLoad q).rd a = s.rd a :=
  (State.rd_of_regs (s.startLoad_regs q) a).trans ((State.rd_wr_ne _ _ hstatus).trans ((State.rd_wr_ne _ _ hstatus).trans
    ((State.rd_wr_ne _ _ hstatus).trans ((State.rd_wr_ne _ _ hstatus).trans (State.rd_wr_ne _ _ hctrl)))))

theorem State.startLoad_loadState (s : State) (q : Nat) : (s.startLoad q).loadState = loadChecking :=
  (State.fld_congr (State.rd_of_regs (s.startLoad_regs q) _) _ _).trans (State.setLoad_loadState _ (by decide) _ _ _)

theorem State.startLoad_desk (s : State) (q : Nat) : (s.startLoad q).cmds = s.cmds ∧ (s.startLoad q).completions = s.completions :=
  ⟨rfl, rfl⟩

theorem exec_load_reads (e : CmdEntry) : readsEntry 1 e (.load e) := fun _ => rfl
theorem exec_run_reads (e : CmdEntry) : readsEntry 2 e (.run e) := fun _ => rfl
theorem exec_drain_reads (e : CmdEntry) : readsEntry 3 e (.drain e) := fun _ => rfl
theorem exec_kill_reads (e : CmdEntry) : readsEntry 4 e (.kill e) := fun _ => rfl
theorem exec_copyIn_reads (e : CmdEntry) : readsEntry 5 e (.copyIn e) := fun _ => rfl
theorem exec_copyOut_reads (e : CmdEntry) : readsEntry 6 e (.copyOut e) := fun _ => rfl
theorem exec_commandNop_reads (e : CmdEntry) {op : BitVec 8} (hop : op.toNat = 0 ∨ 7 ≤ op.toNat) :
    readsEntry op.toNat e (.commandNop op e) := fun _ => congrArg Host.Outcome.next (if_neg (by omega))

section Commands
variable {s : State} {e : CmdEntry} (h : s.mayRead) (hq : e.slot < 8) (hresv : e.resv = 0)
include h hq hresv

theorem load_begins (hbusy : (s.slot e.slot).state.busy = false) (hres : (s.slot e.slot).resetting = false)
    (hload : s.loading = none) : Answers (.load e) s (fun u => s.inProgress u 1 e ∧
      (u.slot e.slot).state = .loading ∧ u.rd64 Reg.structLoadAddr = e.arg0 % 2 ^ 64 ∧ u.rd64 Reg.structLoadLen = e.arg1 % 2 ^ 64 ∧
      u.loadState = loadChecking ∧ ∃ l, u.loading = some l ∧ l.part = e.slot) := by
  have hbegin : (s.cmdRead 1 e).beginCmd (s.headCmd 1 e) = ((s.cmdRead 1 e).loadTaken (s.headCmd 1 e)).startLoad e.slot :=
    State.beginCmd_load hq hresv rfl hbusy hres hload
  obtain ⟨hslots, hcmds, hcompletions, hhead⟩ := (s.cmdRead 1 e).loadTaken_desk (s.headCmd 1 e)
  obtain ⟨haddr, hlen⟩ := (s.cmdRead 1 e).loadTaken_rd64 (s.headCmd 1 e)
  obtain ⟨hcmds', hcompletions'⟩ := ((s.cmdRead 1 e).loadTaken (s.headCmd 1 e)).startLoad_desk e.slot
  obtain ⟨l, hloading, hpart, -⟩ := ((s.cmdRead 1 e).loadTaken (s.headCmd 1 e)).startLoad_loading e.slot
  have hslot : ((s.cmdRead 1 e).loadTaken (s.headCmd 1 e)).slot e.slot = s.slot e.slot := by
    rw [State.slot, hslots]
    exact s.cmdRead_slot 1 e e.slot
  have hstarted := State.markBegun_single (s.cmdRead_cmds 1 e)
  have hrd : ∀ a, a ≠ Reg.structLoadCtrl → a ≠ Reg.structLoadStatus →
      (((s.cmdRead 1 e).loadTaken (s.headCmd 1 e)).startLoad e.slot).rd a = ((s.cmdRead 1 e).loadTaken (s.headCmd 1 e)).rd a :=
    fun _ hctrl hstatus => State.startLoad_rd _ _ hctrl hstatus
  refine ⟨_, h.goes (exec_load_reads e) hbegin (hcmds'.trans (hcmds.trans hstarted)) (State.endCmd_load rfl hloading hpart),
    ⟨hcmds'.trans (hcmds.trans hstarted), hcompletions'.trans hcompletions, ?_⟩, ?_, ?_, ?_, State.startLoad_loadState .., l, hloading,
    hpart⟩
  · exact (congrArg BitVec.toNat (hrd _ (by decide) (by decide))).trans (hhead.trans (s.cmdRead_headNo 1 e))
  · refine (congrArg Slot.state (State.startLoad_slot ..)).trans ?_
    rw [hslot, hbusy]
    rfl
  · exact (State.rd64_congr (hrd _ (by decide) (by decide)) (hrd _ (by decide) (by decide))).trans haddr
  · exact (State.rd64_congr (hrd _ (by decide) (by decide)) (hrd _ (by decide) (by decide))).trans hlen

theorem load_busy (hbusy : (s.slot e.slot).state.busy = true) : Answers (.load e) s (fun u => s.completesOnly u 1 e 2) :=
  h.completesOnly (exec_load_reads e) (State.beginCmd_load_busy hq hresv rfl hbusy)

/-! ### RUN -/

theorem run_ready (hready : (s.slot e.slot).state = .ready) (hlinks : s.linksUp = true) :
    Answers (.run e) s (fun u => s.completes u 2 e 0 ∧ (u.slot e.slot).state = .running ∧
      (u.slot e.slot).atStart = true ∧ (u.slot e.slot).sendAll = true ∧ (u.slot e.slot).barriers = 0 ∧
      u.fld (Reg.mirrorStatus e.slot) 28 4 = 1 ∧
      s.onlyRegs { u with cmds := s.cmds, completions := s.completions, slots := s.slots }
        [Reg.hostCmdHead, Reg.mirrorStatus e.slot]) := by
  have hbegin := State.beginCmd_run_ready (s := s.cmdRead 2 e) (c := s.headCmd 2 e) hq hresv rfl hready
    ((s.cmdRead_linksUp 2 e).trans hlinks)
  have hhead : Reg.hostCmdHead ≠ Reg.mirrorStatus e.slot := by rw [Reg.hostCmdHead, Reg.mirrorStatus]; omega
  have hno : ((s.cmdRead 2 e).runReady e.slot).headNo = (s.headNo + 1) % 0x100000000 :=
    (congrArg BitVec.toNat (State.rd_wr_ne _ _ hhead)).trans (s.cmdRead_headNo 2 e)
  have hdone := State.settleCmds_done (s.cmdRead_cmds 2 e) rfl hbegin rfl
  refine ⟨_, (h.carriesOut (exec_run_reads e)).trans (congrArg Host.Outcome.next hdone),
    State.completes_finish ⟨rfl, rfl, rfl⟩ resOk rfl hno, ?_, ?_, ?_, ?_, ?_, rfl, fun a ha => ?_⟩
  · exact congrArg Slot.state (State.slot_setSlot_self ..)
  · exact congrArg Slot.atStart (State.slot_setSlot_self ..)
  · exact congrArg Slot.sendAll (State.slot_setSlot_self ..)
  · exact congrArg Slot.barriers (State.slot_setSlot_self ..)
  · exact State.fld_setFld_of_lt _ _ (by decide) (by decide)
  · rw [List.mem_cons, List.mem_singleton, not_or] at ha
    exact (State.rd_wr_ne _ _ ha.2).trans (s.cmdRead_rd 2 e ha.1)

/-- RUN from STOPPED where no word is damaged and the slot was not drained. -/
def State.restartResumed (s : State) (q : Nat) : State :=
  (s.setSlot q { s.slot q with state := .restoring, stoppedBy := 0, uncounted := true }).setMirror q
    (if (s.slot q).stoppedBy = 3 then 4 else 7)

omit h hq hresv in
theorem State.runStopped_resumes {s : State} {q : Nat} (hdamaged : (s.slot q).damaged = false) (hby : (s.slot q).stoppedBy ≠ 1) :
    s.runStopped q = s.restartResumed q := by
  unfold State.runStopped
  dsimp only
  rw [if_neg (by rw [hdamaged]; exact Bool.false_ne_true), if_neg hby]
  rfl

theorem run_stopped (hstopped : (s.slot e.slot).state = .stopped) (hdamaged : (s.slot e.slot).damaged = false)
    (hby : (s.slot e.slot).stoppedBy ≠ 1) (hlinks : s.linksUp = true) : Answers (.run e) s (fun u =>
      s.completes u 2 e 0 ∧ (u.slot e.slot).state = .restoring ∧
      u.fld (Reg.mirrorStatus e.slot) 28 4 = (if (s.slot e.slot).stoppedBy = 3 then 4 else 7)) := by
  have hbegin := (State.beginCmd_run_stopped (s := s.cmdRead 2 e) (c := s.headCmd 2 e) hq hresv rfl hstopped
    ((s.cmdRead_linksUp 2 e).trans hlinks)).trans (congrArg (fun v : State => v.finishCmd (s.headCmd 2 e) resOk 0)
      (State.runStopped_resumes (s := s.cmdRead 2 e) hdamaged hby))
  have hhead : Reg.hostCmdHead ≠ Reg.mirrorStatus e.slot := by rw [Reg.hostCmdHead, Reg.mirrorStatus]; omega
  have hno : ((s.cmdRead 2 e).restartResumed e.slot).headNo = (s.headNo + 1) % 0x100000000 :=
    (congrArg BitVec.toNat (State.rd_wr_ne _ _ hhead)).trans (s.cmdRead_headNo 2 e)
  have hdone := State.settleCmds_done (s.cmdRead_cmds 2 e) rfl hbegin rfl
  exact ⟨_, (h.carriesOut (exec_run_reads e)).trans (congrArg Host.Outcome.next hdone),
    State.completes_finish ⟨rfl, rfl, rfl⟩ resOk rfl hno, congrArg Slot.state (State.slot_setSlot_self ..),
    State.fld_setFld_of_lt _ _ (by decide) (by split <;> decide)⟩

theorem run_badState (hready : (s.slot e.slot).state ≠ .ready) (hstopped : (s.slot e.slot).state ≠ .stopped) :
    Answers (.run e) s (fun u => s.completesOnly u 2 e 2) :=
  h.completesOnly (exec_run_reads e) (State.beginCmd_run_bad hq hresv rfl hready hstopped)

/-! ### DRAIN -/

/-- The slot drains (R470). -/
def State.draining (s : State) (q : Nat) : State := s.setSlot q { s.slot q with state := .draining, drainAsked := true }

theorem drain_begins (hrun : (s.slot e.slot).state = .running) : Answers (.drain e) s (fun u => s.inProgress u 3 e ∧
    u.slot e.slot = { s.slot e.slot with state := .draining, drainAsked := true } ∧
    s.onlyRegs { u with cmds := s.cmds, slots := s.slots } [Reg.hostCmdHead]) := by
  have hbegin : (s.cmdRead 3 e).beginCmd (s.headCmd 3 e) = ((s.cmdRead 3 e).draining e.slot).markBegun (s.headCmd 3 e) :=
    State.beginCmd_drain hq hresv rfl hrun
  have hstarted : (((s.cmdRead 3 e).draining e.slot).markBegun (s.headCmd 3 e)).cmds = [(s.headCmd 3 e).started] :=
    State.markBegun_single (s.cmdRead_cmds 3 e)
  have hslot : (((s.cmdRead 3 e).draining e.slot).markBegun (s.headCmd 3 e)).slot e.slot =
      { s.slot e.slot with state := .draining, drainAsked := true } := State.slot_setSlot_self ..
  exact ⟨_, h.goes (exec_drain_reads e) hbegin hstarted (State.endCmd_drain rfl (congrArg Slot.state hslot)),
    ⟨hstarted, rfl, s.cmdRead_headNo 3 e⟩, hslot, rfl, fun a ha => s.cmdRead_rd 3 e (List.ne_of_not_mem_cons ha)⟩

theorem drain_badState (hrun : (s.slot e.slot).state ≠ .running) : Answers (.drain e) s (fun u => s.completesOnly u 3 e 2) :=
  h.completesOnly (exec_drain_reads e) (State.beginCmd_drain_bad hq hresv rfl hrun)

/-! ### KILL -/

omit h hq hresv in
/-- KILL of a slot that holds no tile frees it at once (R469). -/
theorem State.killSlot_frees {s : State} {q : Nat} (htiles : (s.slot q).tiles = 0) (hres : (s.slot q).resetting = false) :
    (s.killSlot q).slot q = (s.slot q).freed ∧ (s.killSlot q).cmds = s.cmds ∧ (s.killSlot q).completions = s.completions ∧
    (s.killSlot q).headNo = s.headNo := by
  have hdrop := s.loadDropped_desk q
  have hhead : Reg.hostCmdHead ∈ Reg.switchedBlock :=
    ⟨Reg.mem_poweredBlock_of_ge (by decide) (by decide), by decide, by decide⟩
  have hpanels : ((s.loadDropped q).setSlot q (s.slot q).freed).sameDesk {Reg.hostCmdHead}
      ((s.loadDropped q).setSlot q (s.slot q).freed).settlePanels :=
    (State.sameDesk.refl _ _).of_onlyUnits ((State.onlyUnits.refl _ _ _).settlePanels) (Set.singleton_subset_iff.2 hhead)
  have hkill : s.killSlot q = ((s.loadDropped q).setSlot q (s.slot q).freed).settlePanels := by
    rw [State.killSlot_eq, hdrop.slot, hres, if_neg Bool.false_ne_true, if_pos htiles]
  rw [hkill]
  exact ⟨(hpanels.slot q).trans (State.slot_setSlot_self ..), hpanels.cmds.trans hdrop.cmds,
    hpanels.completions.trans hdrop.completions,
    congrArg BitVec.toNat ((hpanels.rd _ rfl).trans (hdrop.rd Reg.hostCmdHead (by decide)))⟩

omit h hq hresv in
theorem State.markBegun_slot (s : State) (c : HostCmd) (q : Nat) : (s.markBegun c).slot q = s.slot q := rfl

theorem kill_frees (hidle : (s.slot e.slot).state ≠ .idle) (hres : (s.slot e.slot).resetting = false)
    (htiles : (s.slot e.slot).tiles = 0) : Answers (.kill e) s (fun u => s.completes u 4 e 0 ∧
      (u.slot e.slot).state = .idle ∧ (u.slot e.slot).fault = 0) := by
  have hbegin : (s.cmdRead 4 e).beginCmd (s.headCmd 4 e) = ((s.cmdRead 4 e).killSlot e.slot).markBegun (s.headCmd 4 e) :=
    State.beginCmd_kill hq hresv rfl hidle
  obtain ⟨hslot, hcmds, -, hhead⟩ := State.killSlot_frees (s := s.cmdRead 4 e) htiles hres
  have hstarted : (((s.cmdRead 4 e).killSlot e.slot).markBegun (s.headCmd 4 e)).cmds = [(s.headCmd 4 e).started] :=
    State.markBegun_single (hcmds.trans (s.cmdRead_cmds 4 e))
  have hslot' : (((s.cmdRead 4 e).killSlot e.slot).markBegun (s.headCmd 4 e)).slot e.slot = ((s.cmdRead 4 e).slot e.slot).freed :=
    hslot
  have hend := State.endCmd_kill (s := ((s.cmdRead 4 e).killSlot e.slot).markBegun (s.headCmd 4 e)) (c := (s.headCmd 4 e).started) rfl
  rw [show (s.headCmd 4 e).started.entry.slot = e.slot from rfl, hslot', if_neg (by simp [Slot.freed, Slot.init])] at hend
  refine ⟨_, (h.carriesOut (exec_kill_reads e)).trans (congrArg Host.Outcome.next
      (State.settleCmds_ends (s.cmdRead_cmds 4 e) rfl hbegin hstarted hend)),
    State.completes_finish ⟨rfl, rfl, rfl⟩ resOk hstarted (hhead.trans (s.cmdRead_headNo 4 e)), ?_, ?_⟩
  · exact congrArg Slot.state hslot'
  · exact congrArg Slot.fault hslot'

theorem kill_resets (hidle : (s.slot e.slot).state ≠ .idle) (hres : (s.slot e.slot).resetting = false)
    (htiles : (s.slot e.slot).tiles ≠ 0) : Answers (.kill e) s (fun u => s.inProgress u 4 e ∧ (u.slot e.slot).resetting = true ∧
      ∀ t ∈ s.tilesOf e.slot, ∀ k, k < 4 → u.taskState t k = taskFree) := by
  have hbegin : (s.cmdRead 4 e).beginCmd (s.headCmd 4 e) = ((s.cmdRead 4 e).killSlot e.slot).markBegun (s.headCmd 4 e) :=
    State.beginCmd_kill hq hresv rfl hidle
  have hbegun := State.killSlot_begun (s.cmdRead 4 e) e.slot hq htiles hres
  have hstarted : (((s.cmdRead 4 e).killSlot e.slot).markBegun (s.headCmd 4 e)).cmds = [(s.headCmd 4 e).started] :=
    State.markBegun_single (hbegun.cmds.trans (s.cmdRead_cmds 4 e))
  have hresetting : ((((s.cmdRead 4 e).killSlot e.slot).markBegun (s.headCmd 4 e)).slot e.slot).resetting = true := hbegun.resetting
  have hend := State.endCmd_kill (s := ((s.cmdRead 4 e).killSlot e.slot).markBegun (s.headCmd 4 e)) (c := (s.headCmd 4 e).started) rfl
  rw [show (s.headCmd 4 e).started.entry.slot = e.slot from rfl, hresetting, if_pos rfl] at hend
  exact ⟨_, h.goes (exec_kill_reads e) hbegin hstarted hend, ⟨hstarted, hbegun.completions, (congrArg BitVec.toNat
    (hbegun.rd Reg.hostCmdHead (by decide) (by decide))).trans (s.cmdRead_headNo 4 e)⟩, hresetting, hbegun.tasks⟩

theorem kill_idle (hidle : (s.slot e.slot).state = .idle) : Answers (.kill e) s (fun u => s.completesOnly u 4 e 2) :=
  h.completesOnly (exec_kill_reads e) (State.beginCmd_kill_idle hq hresv rfl hidle)

/-! ### COPY_IN and COPY_OUT -/

omit hq hresv in
/-- A copy whose ends are in order begins. -/
theorem copy_begins {op : Nat} (hop : 5 ≤ op) {c : Instr} (hc : readsEntry op e c)
    (hbegin : (s.cmdRead op e).beginCmd (s.headCmd op e) = (s.cmdRead op e).markBegun (s.headCmd op e)) :
    Answers c s (fun u => s.inProgress u op e ∧ s.onlyRegs { u with cmds := s.cmds } [Reg.hostCmdHead]) := by
  have hstarted : ((s.cmdRead op e).markBegun (s.headCmd op e)).cmds = [(s.headCmd op e).started] :=
    State.markBegun_single (s.cmdRead_cmds op e)
  exact ⟨_, h.goes hc hbegin hstarted (State.endCmd_copy hop), ⟨hstarted, rfl, s.cmdRead_headNo op e⟩, rfl,
    fun a ha => s.cmdRead_rd op e (List.ne_of_not_mem_cons ha)⟩

theorem copyIn_answers (hstate : (s.slot e.slot).state = .ready ∨ (s.slot e.slot).state = .stopped) :
    (s.copyOk (s.headCmd 5 e) = true → Answers (.copyIn e) s (fun u => s.inProgress u 5 e ∧
      s.onlyRegs { u with cmds := s.cmds } [Reg.hostCmdHead])) ∧
    (s.copyOk (s.headCmd 5 e) = false → Answers (.copyIn e) s (fun u => s.completesOnly u 5 e 3)) := by
  have hbegin := State.beginCmd_copyIn (s := s.cmdRead 5 e) (c := s.headCmd 5 e) hq hresv rfl hstate
  rw [State.cmdRead_copyOk] at hbegin
  exact ⟨fun hok => copy_begins h (by decide) (exec_copyIn_reads e) (hbegin.trans (if_pos hok)),
    fun hbad => h.completesOnly (exec_copyIn_reads e) (hbegin.trans (if_neg (by simp [hbad])))⟩

theorem copyIn_badState (hready : (s.slot e.slot).state ≠ .ready) (hstopped : (s.slot e.slot).state ≠ .stopped) :
    Answers (.copyIn e) s (fun u => s.completesOnly u 5 e 2) :=
  h.completesOnly (exec_copyIn_reads e) (State.beginCmd_copyIn_bad hq hresv rfl hready hstopped)

theorem copyOut_answers (hidle : (s.slot e.slot).state ≠ .idle) (hloading : (s.slot e.slot).state ≠ .loading) :
    (s.copyOk (s.headCmd 6 e) = true → Answers (.copyOut e) s (fun u => s.inProgress u 6 e ∧
      s.onlyRegs { u with cmds := s.cmds } [Reg.hostCmdHead])) ∧
    (s.copyOk (s.headCmd 6 e) = false → Answers (.copyOut e) s (fun u => s.completesOnly u 6 e 3)) := by
  have hbegin := State.beginCmd_copyOut (s := s.cmdRead 6 e) (c := s.headCmd 6 e) hq hresv rfl hidle hloading
  rw [State.cmdRead_copyOk] at hbegin
  exact ⟨fun hok => copy_begins h (by decide) (exec_copyOut_reads e) (hbegin.trans (if_pos hok)),
    fun hbad => h.completesOnly (exec_copyOut_reads e) (hbegin.trans (if_neg (by simp [hbad])))⟩

end Commands

/-! ## The end of a copy (R471) -/

/-- The state in which only the command `c` is in progress. -/
def State.withCmds (s : State) (cs : List HostCmd) : State := { s with cmds := cs }

/-- A command has ended with `result`: its completion is in the module page, and no slot is changed. -/
def State.cmdEnded (s : State) (c : HostCmd) (e : CmdEntry) (u : State) (result : Nat) : Prop :=
  u.cmds = [] ∧ tget u.completions [] (c.n % 16) = completionOf c.n c.op e result ∧ u.slots = s.slots

section Copy
variable {s : State} {n : Word} {c : HostCmd} {e : CmdEntry} (hn : c.n = n.toNat) (hbegun : c.begun = true) (hentry : c.entry = e)

include hentry in
theorem State.cmdEnded_finish {v : State} (result : Nat) (hcmds : v.cmds = [c]) (hslots : v.slots = s.slots) :
    s.cmdEnded c e (v.finishCmd c result 0) result := by
  refine ⟨State.finishCmd_single hcmds, ?_, hslots⟩
  rw [← hentry]
  exact tget_tset_self ..

include hn hbegun

/-- The row that ends a copy: where the copy completes its command, no other is in progress. -/
theorem exec_hbmCopyDone (hop : c.op = 5 ∨ c.op = 6) {ans : HostAns} {v : State} {result : Nat} (hcmds : v.cmds = [c])
    (hdone : (s.withCmds [c]).copyDone c ans = v.finishCmd c result 0) :
    exec (.hbmCopyDone n ans) (s.withCmds [c]) = .next (v.finishCmd c result 0) := by
  have hfind : (s.withCmds [c]).cmds.find? (fun d => d.n == n.toNat) = some c := by
    rw [State.find_single rfl, if_pos (by simpa using hn)]
  have hgo : (c.begun && (c.op == 5 || c.op == 6)) = true := by
    rcases hop with h | h <;> simp [hbegun, h]
  change execHbmCopyDone n ans (s.withCmds [c]) = _
  rw [execHbmCopyDone, hfind]
  dsimp only
  rw [if_pos hgo, hdone, State.settleCmds_of_nil (State.finishCmd_single hcmds)]

include hentry

theorem hbmCopyDone_fails (hop : c.op = 5 ∨ c.op = 6) (st : Nat) : Answers (.hbmCopyDone n (.error st)) (s.withCmds [c]) (fun u =>
    s.cmdEnded c e u 5 ∧ u.hbm = s.hbm ∧ u.host = s.host ∧ u.regs = s.regs) :=
  ⟨_, exec_hbmCopyDone hn hbegun hop (v := s.withCmds [c]) rfl rfl, State.cmdEnded_finish hentry resPcie rfl rfl, rfl, rfl, rfl⟩

omit hn hbegun hentry in
/-- Marking pages dirty changes nothing else. -/
theorem State.markHbm_only (s : State) (ps : List Nat) : ∃ d, s.markHbm ps = { s with hbmDirty := d } :=
  List.foldlRecOn (motive := fun v : State => ∃ d, v = { s with hbmDirty := d }) ps _ ⟨s.hbmDirty, rfl⟩ (fun v hv p _ => by
    obtain ⟨d, rfl⟩ := hv
    split
    · split
      · exact ⟨d, rfl⟩
      · exact ⟨_, rfl⟩
    · exact ⟨d, rfl⟩)

omit hn hbegun hentry in
/-- A write that takes no before-image stores its bytes, and beside HBM and its checks only dirty pages change. -/
theorem State.hbmWrite_stores {s : State} {off : Nat} {bytes : List Byte} (himage : s.needImage off bytes.length = []) :
    ∃ err dirty, s.hbmWrite off (bytes.map some) = { s with hbm := mwrite s.hbm off bytes, hbmErr := err, hbmDirty := dirty } := by
  have himage' : s.needImage off (bytes.map some).length = [] := by rw [List.length_map, himage]
  unfold State.hbmWrite
  simp only [himage', List.foldl_nil, List.isEmpty_nil, if_true, mwriteEn_some]
  obtain ⟨d, hd⟩ := State.markHbm_only _ _
  exact ⟨_, d, hd⟩

omit hn hbegun hentry in
theorem hbmStored_mwrite (s : State) {u : State} {off : Nat} {bs : List Byte} (hu : u.hbm = mwrite s.hbm off bs) :
    s.hbmStored u off bs :=
  ⟨fun i hi => by rw [hu]; exact mget_mwrite_in _ _ _ i hi, fun a ha => by rw [hu]; exact mget_mwrite_out _ _ _ _ ha⟩

/-- COPY_IN: the bytes of the host stand in HBM. -/
theorem hbmCopyDone_copiesIn (hop : c.op = 5) {data : List Byte} (hlen : c.entry.arg2 = data.length)
    (himage : s.needImage (gaHbmOff e.arg1) data.length = []) : Answers (.hbmCopyDone n (.ok data)) (s.withCmds [c]) (fun u =>
      s.cmdEnded c e u 0 ∧ s.hbmStored u (gaHbmOff e.arg1) data ∧ u.regs = s.regs ∧ u.pocket = s.pocket) := by
  obtain ⟨err, dirty, hwrite⟩ := State.hbmWrite_stores (s := s.withCmds [c]) himage
  have hdone : (s.withCmds [c]).copyDone c (.ok data) =
      ((s.withCmds [c]).hbmWrite (gaHbmOff e.arg1) (data.map some)).finishCmd c resOk 0 := by
    have htake : data.take e.arg2 = data := by rw [← hentry, hlen, List.take_length]
    unfold State.copyDone HostCmd.copyHbm
    simp only [hop, if_true, hentry, htake]
  rw [hwrite] at hdone
  exact ⟨_, exec_hbmCopyDone hn hbegun (Or.inl hop) rfl hdone, State.cmdEnded_finish hentry resOk rfl rfl,
    hbmStored_mwrite s rfl, rfl, rfl⟩

omit hn hbegun hentry in
theorem State.hbmCheck_clean {s : State} (scrub : Bool) {ws : List Nat} (h : ∀ w ∈ ws, tfind s.hbmErr w = none) :
    s.hbmCheck scrub ws = (s, true) := by
  induction ws with
  | nil => rfl
  | cons w ws ih =>
    rw [List.forall_mem_cons] at h
    rw [State.hbmCheck, h.1]
    exact ih h.2

omit hn hbegun hentry in
theorem State.hbmRead_clean {s : State} {off len : Nat} (h : s.hbmClean off len) :
    s.hbmRead off len = (s, some (mread s.hbm off len)) := by
  rw [State.hbmRead, State.hbmCheck_clean false h]
  rfl

/-- COPY_OUT: the bytes of HBM stand in host memory. -/
theorem hbmCopyDone_copiesOut (hop : c.op = 6) {data : List Byte} (hlen : c.entry.arg2 = data.length)
    (hclean : s.hbmClean (gaHbmOff e.arg0) data.length) (hup : s.hostUp = true) :
    Answers (.hbmCopyDone n (.ok [])) (s.withCmds [c]) (fun u => s.cmdEnded c e u 0 ∧
      mread u.host e.arg1 data.length = mread s.hbm (gaHbmOff e.arg0) data.length ∧ u.regs = s.regs ∧ u.hbm = s.hbm) := by
  have hread := State.hbmRead_clean (s := s.withCmds [c]) hclean
  have hdone : (s.withCmds [c]).copyDone c (.ok []) =
      ((s.withCmds [c]).hostStore e.arg1 (mread s.hbm (gaHbmOff e.arg0) data.length)).finishCmd c resOk 0 := by
    unfold State.copyDone HostCmd.copyHbm HostCmd.copyHost
    simp only [hop, hentry] at hlen ⊢
    rw [if_neg (by decide), if_neg (by decide), if_neg (by decide), hlen, hread]
    rfl
  have hstore : (s.withCmds [c]).hostStore e.arg1 (mread s.hbm (gaHbmOff e.arg0) data.length) =
      { s.withCmds [c] with host := mwrite s.host e.arg1 (mread s.hbm (gaHbmOff e.arg0) data.length) } := if_pos hup
  rw [hstore] at hdone
  refine ⟨_, exec_hbmCopyDone hn hbegun (Or.inr hop) rfl hdone, State.cmdEnded_finish hentry resOk rfl rfl, ?_, rfl, rfl⟩
  have hback := mread_mwrite s.host e.arg1 (mread s.hbm (gaHbmOff e.arg0) data.length)
  rwa [mread_length] at hback

end Copy

/-! ## HOST_CMD_TAIL (R471, R488) -/

theorem hostCmdTailWrite_answers (s : State) (v : Word) :
    (sub32 v.toNat s.headNo ≤ s.cmdSize → Answers (.hostCmdTailWrite v) s (fun u =>
      u.rd Reg.hostCmdTail = v ∧ s.onlyRegs u [Reg.hostCmdTail])) ∧
    (s.cmdSize < sub32 v.toNat s.headNo → s.bit Reg.hostErr 31 = false → Answers (.hostCmdTailWrite v) s (fun u =>
      u.rd Reg.hostErr = 0x80020000 ∧ s.onlyRegs u [Reg.hostErr])) := by
  refine ⟨fun hroom => ⟨_, congrArg Host.Outcome.next (if_neg (Nat.not_lt.2 hroom)), State.rd_wr_self ..,
    (State.onlyRegs.refl s _).wr List.mem_cons_self _⟩, fun hfull hvalid => ?_⟩
  have hlatch : s.latchHostErr 0 2 0 = s.wr Reg.hostErr 0x80020000 := if_neg (by simp [hvalid])
  exact ⟨_, (congrArg Host.Outcome.next (if_pos hfull)).trans (congrArg Host.Outcome.next hlatch), State.rd_wr_self ..,
    (State.onlyRegs.refl s _).wr List.mem_cons_self _⟩

end Sys2Proof.Machine

open Sys2Proof.Machine in
/-- Settles O51: the effect of each command of the ring in the states that allow it, its completion code in any other and for a wrong
entry, and the end of a copy. That a COPY_OUT source lies in the slot's regions, and the order in which commands of the ring begin, are
the model's choice (log entry 46). -/
theorem hostCommandsComplete : Obligations.HostCommandsComplete := by
  unfold Obligations.HostCommandsComplete
  intro s e hcmds
  refine ⟨fun hruns hon hup hwaits => ?_, fun n c data hn hbegun hentry hlen =>
    ⟨fun hop himage => hbmCopyDone_copiesIn hn hbegun hentry hop hlen himage,
      fun hop hclean hup => hbmCopyDone_copiesOut hn hbegun hentry hop hlen hclean hup,
      fun hop st => hbmCopyDone_fails hn hbegun hentry hop st⟩, hostCmdTailWrite_answers s⟩
  have h : s.mayRead := ⟨hcmds, hruns, hon, hup, hwaits⟩
  refine ⟨fun hq hresv => ?_, fun hbad => h.completesOnly (exec_commandNop_reads e (op := 7) (Or.inr (by decide)))
      (State.beginCmd_field rfl hbad), fun op hop => h.completesOnly (exec_commandNop_reads e (hop.imp (by rintro rfl; rfl) Nat.le_of_lt))
      (State.beginCmd_opcode _ (hop.imp (by rintro rfl; rfl) id))⟩
  refine ⟨load_begins h hq hresv, load_busy h hq hresv, run_ready h hq hresv, run_stopped h hq hresv, run_badState h hq hresv,
    drain_begins h hq hresv, drain_badState h hq hresv, fun hidle hres => ⟨kill_frees h hq hresv hidle hres,
    kill_resets h hq hresv hidle hres⟩, kill_idle h hq hresv, ?_, ?_,
    h.completesOnly (exec_commandNop_reads e (op := 7) (Or.inr (by decide))) (State.beginCmd_nop hq hresv rfl)⟩
  · rintro c rfl
    exact ⟨fun hstate => (copyIn_answers h hq hresv hstate).1, fun hstate => (copyIn_answers h hq hresv hstate).2,
      copyIn_badState h hq hresv⟩
  · rintro c rfl hidle hloading
    exact copyOut_answers h hq hresv hidle hloading
end

section
/-! SUPPORT. What reads and writes of memory by the Collar and by the mirror engine leave of the slot of a job that runs: a word that
fails its check, or an undo area that is full, asks for the job's stop and no more (R81, R441, R456, R543). -/

namespace Sys2Proof.Machine

/-- What the mirror has sent of the slot is as in `y`. -/
def Slot.mirrorSent (x y : Slot) : Slot := { x with sendAll := y.sendAll, pagesOut := y.pagesOut, pagesSent := y.pagesSent }

/-- No host command and nothing of slot `q` differs, except what the mirror has sent of it. -/
structure State.sameWork (s : State) (q : Nat) (u : State) : Prop where
  cmds : u.cmds = s.cmds
  slot : u.slot q = (s.slot q).mirrorSent (u.slot q)

/-- The job runs or drains. -/
def Slot.runs (x : Slot) : Prop := x.state = .running ∨ x.state = .draining

theorem State.sameWork.refl (s : State) (q : Nat) : s.sameWork q s := ⟨rfl, rfl⟩

section Work
variable {s u : State} {q : Nat} (h : s.sameWork q u)
include h

theorem State.sameWork.trans {v : State} (h' : u.sameWork q v) : s.sameWork q v := by
  refine ⟨h'.cmds.trans h.cmds, ?_⟩
  have hslot := h'.slot
  rw [h.slot] at hslot
  exact hslot

theorem State.sameWork.of_eq {v : State} (hslots : v.slots = u.slots) (hcmds : v.cmds = u.cmds) : s.sameWork q v := by
  have hslot : v.slot q = u.slot q := State.slot_congr hslots q
  exact ⟨hcmds.trans h.cmds, by rw [hslot]; exact h.slot⟩

theorem State.sameWork.sameLoad {v : State} {keep : Set Nat} (hv : u.sameLoad keep v) : s.sameWork q v := h.of_eq hv.slots hv.cmds

/-- Another slot changes. -/
theorem State.sameWork.setSlot_ne {p : Nat} (hp : q ≠ p) (x : Slot) : s.sameWork q (u.setSlot p x) :=
  ⟨h.cmds, by rw [State.slot_setSlot_ne _ _ hp]; exact h.slot⟩

theorem State.sameWork.sendAll (p : Nat) : s.sameWork q (u.setSlot p { u.slot p with sendAll := true }) := by
  by_cases hp : q = p
  · subst hp
    refine h.trans ⟨rfl, ?_⟩
    rw [State.slot_setSlot_self]
    rfl
  · exact h.setSlot_ne hp _

variable (hruns : (s.slot q).runs)
include hruns

theorem State.sameWork.runs : (u.slot q).runs := by
  have hstate : (u.slot q).state = (s.slot q).state := (congrArg Slot.state h.slot : _)
  rwa [Slot.runs, hstate]

theorem State.sameWork.stopJob (p code cls sub unit seq : Nat) : s.sameWork q (u.stopJob p code cls sub unit seq) := by
  have hsame : ∀ v : State, v.slots = u.slots → v.cmds = u.cmds → s.sameWork q v := fun v => h.of_eq
  by_cases hp : q = p
  · subst hp
    unfold State.stopJob
    rcases h.runs hruns with hrun | hdrain
    · rw [hrun]
      exact hsame _ rfl rfl
    · rw [hdrain]
      exact hsame _ rfl rfl
  · have hfault : s.sameWork q (u.setFault p code sub unit u.moduleId) := h.setSlot_ne hp _
    unfold State.stopJob
    split
    · exact hsame _ rfl rfl
    · exact hsame _ rfl rfl
    · exact hsame _ rfl rfl
    · exact hfault.setSlot_ne hp _
    · exact hfault.setSlot_ne hp _
    · exact hfault.of_eq rfl rfl
    · exact h
    · exact h

theorem State.sameWork.jobFault (p code cls unit sub : Nat) (tile : Option Nat) (addr c0 c1 : Nat) :
    s.sameWork q (u.jobFault p code cls unit sub tile addr c0 c1) :=
  (h.sameLoad ((State.sameLoad.refl u ∅).pushRec (Set.notMem_empty _) _)).stopJob hruns ..

theorem State.sameWork.mirrorFail (p sub module : Nat) : s.sameWork q (u.mirrorFail p sub module) := by
  have hsend := h.sendAll p
  unfold State.mirrorFail
  dsimp only
  refine State.sameWork.jobFault ?_ hruns ..
  split_ifs
  · exact hsend
  · exact hsend.of_eq rfl rfl
  · exact h
  · exact h.of_eq rfl rfl

theorem State.sameWork.beforeImage (p : Nat) : s.sameWork q (u.beforeImage p) := by
  unfold State.beforeImage
  split
  · exact h
  · split_ifs
    · exact h
    · exact h.mirrorFail hruns _ _ _
    · exact h.of_eq rfl rfl

theorem State.sameWork.beforeImages (ps : List Nat) : s.sameWork q (ps.foldl State.beforeImage u) :=
  List.foldlRecOn (motive := fun v : State => s.sameWork q v) ps _ h (fun _ hv p _ => hv.beforeImage hruns p)

omit hruns in
theorem State.sameWork.markHbm (ps : List Nat) : s.sameWork q (u.markHbm ps) := by
  obtain ⟨d, hd⟩ := u.markHbm_only ps
  rw [hd]
  exact h.of_eq rfl rfl

theorem State.sameWork.hbmWrite (off : Nat) (bytes : List (Option Byte)) : s.sameWork q (u.hbmWrite off bytes) := by
  have himages := h.beforeImages hruns (u.needImage off bytes.length)
  unfold State.hbmWrite
  dsimp only
  split_ifs
  · refine State.sameWork.markHbm ?_ _
    exact himages.of_eq rfl rfl
  · exact himages

theorem State.sameWork.hbmBad (w : Nat) (scrub : Bool) : s.sameWork q (u.hbmBad w scrub) := by
  have hlatched : s.sameWork q (u.ueLatched w scrub) := by
    unfold State.ueLatched State.latchHbm
    dsimp only
    split <;> exact h.of_eq rfl rfl
  unfold State.hbmBad
  dsimp only
  rw [← State.ueLatched]
  split_ifs
  · exact hlatched.jobFault hruns ..
  · exact (hlatched.sameLoad ((State.sameLoad.refl _ ∅).pushRec (Set.notMem_empty _) _)).of_eq rfl rfl
  · exact hlatched.mirrorFail hruns ..

theorem State.sameWork.hbmCheck (scrub : Bool) (ws : List Nat) : s.sameWork q (u.hbmCheck scrub ws).1 := by
  induction ws generalizing u with
  | nil => exact h
  | cons w ws ih =>
    unfold State.hbmCheck
    split
    · exact ih h
    · exact ih (h.of_eq rfl rfl)
    · exact ih (h.hbmBad hruns w scrub)

theorem State.sameWork.hbmRead (off len : Nat) : s.sameWork q (u.hbmRead off len).1 := h.hbmCheck hruns false _

omit h hruns in
theorem State.sameLoad.checkWords {s u : State} (h : s.sameLoad ∅ u) (t : Nat) (ws : List Nat) :
    s.sameLoad ∅ (u.checkWords t ws).1 := by
  induction ws generalizing u with
  | nil => exact h
  | cons w ws ih =>
    unfold State.checkWords
    split
    · exact ih h
    · dsimp only
      split_ifs
      · exact ih ((h.noteUe t w _).zeroBadWord t w)
      · exact ih (h.noteUe t w _)
      · exact ih (h.noteCe t w _)

omit h hruns in
theorem State.sameLoad.pocketRead {s u : State} (h : s.sameLoad ∅ u) (t off len : Nat) : s.sameLoad ∅ (u.pocketRead t off len).1 := by
  have hcheck := h.checkWords t (wordsOf off len)
  unfold State.pocketRead
  split
  · exact h
  · dsimp only
    split <;> exact hcheck

theorem State.sameWork.collarRead (p a n : Nat) : s.sameWork q (u.collarRead p a n).1 := by
  have hread := h.sameLoad ((State.sameLoad.refl u ∅).pocketRead (gaTile a) (gaPocketOff a) n)
  unfold State.collarRead
  split
  · split
    · next heq => rw [heq] at hread; exact hread
    · next heq => rw [heq] at hread; exact hread.jobFault hruns ..
    · next heq => rw [heq] at hread; exact hread
  · exact h.hbmRead hruns _ _

theorem State.sameWork.collarWrite (a : Nat) (bytes : List Byte) : s.sameWork q (u.collarWrite a bytes) := by
  unfold State.collarWrite
  split
  · exact h.sameLoad ((State.sameLoad.refl u ∅).pocketWrite ..)
  · exact h.hbmWrite hruns _ _

theorem State.sameWork.putPair (d : TDesc) (r c : Nat) (x : Int) : s.sameWork q (u.putPair d r c x) :=
  (h.collarWrite hruns _ _).collarWrite hruns _ _

omit hruns in
theorem State.sameWork.freeW : s.sameWork q u.freeW.2 := h.of_eq rfl rfl

/-- The service tensors are written (R486). -/
theorem State.sameWork.writeTensors (p : Nat) (x : Svc) : s.sameWork q (u.writeTensors p x) := by
  unfold State.writeTensors
  dsimp only
  split
  · refine List.foldlRecOn (motive := fun v : State => s.sameWork q v) (List.range x.maxSeqs) _ ?_ (fun v hv k _ => ?_)
    · refine List.foldlRecOn (motive := fun v : State => s.sameWork q v) (List.range x.batchRows) _ h (fun v hv r _ => ?_)
      split
      · exact (((hv.putPair hruns ..).putPair hruns ..).putPair hruns ..).putPair hruns ..
      · exact ((((hv.freeW.freeW).putPair hruns ..).putPair hruns ..).putPair hruns ..).putPair hruns ..
    · exact List.foldlRecOn (motive := fun v : State => s.sameWork q v) (List.range (x.context / 64)) _ hv
        (fun w hw i _ => hw.putPair hruns ..)
  · exact h

/-- The planes of an item are copied, one after another (R487). -/
theorem State.sameWork.copyPlanes (p base : Nat) (ps : List (Nat × Nat)) (off : Nat) : s.sameWork q
    (ps.foldl (fun (st : State × Nat) b =>
      match st.1.collarRead p b.1 b.2 with
      | (s, some d) => (s.collarWrite (base + st.2) d, st.2 + b.2)
      | (s, none) => (s, st.2 + b.2)) (u, off)).1 := by
  refine List.foldlRecOn (motive := fun v : State × Nat => s.sameWork q v.1) ps _ h (fun v hv b _ => ?_)
  have hread := hv.collarRead hruns p b.1 b.2
  split
  · next heq => rw [heq] at hread; exact hread.collarWrite hruns ..
  · next heq => rw [heq] at hread; exact hread

end Work

/-- The staging copy has been written at SERVICE_ADDR (R487). -/
def State.partialStaged (s : State) (q : Nat) : State :=
  let x := s.svc q
  let items := (List.range x.partialCount).map (fun i => (x.partialTid i, s.partialPlanes q (x.partialTid i)))
  let sizes := items.map (fun it => it.2.foldl (fun n p => n + p.2) 0)
  let head := leBytes 8 ((s.slot q).partSeq + 2) ++ leBytes 4 (s.stepAfter q) ++ leBytes 2 (s.slot q).epoch ++ leBytes 2 x.partialCount
  let s := s.collarWrite x.serviceAddr head
  (items.zipIdx).foldl (fun s ((tid, ps), i) =>
    let off := Config.partialOffset sizes i
    let n := sizes.getD i 0
    let fits := off + n ≤ x.partialBytes
    let s := s.collarWrite (x.serviceAddr + 0x10 + 16 * i)
      (leBytes 2 tid ++ leBytes 2 0 ++ leBytes 4 off ++ leBytes 8 (if fits then n else 0))
    if fits then
      (ps.foldl (fun (st : State × Nat) p =>
        match st.1.collarRead q p.1 p.2 with
        | (s, some d) => (s.collarWrite (x.serviceAddr + st.2) d, st.2 + p.2)
        | (s, none) => (s, st.2 + p.2)) (s, off)).1
    else s) s

theorem State.writePartial_eq (s : State) (q : Nat) : s.writePartial q =
    (s.partialStaged q).setSlot q { (s.partialStaged q).slot q with partSeq := (s.slot q).partSeq + 2, partDue := true } := rfl

theorem State.sameWork.partialStaged {s u : State} {q : Nat} (h : s.sameWork q u) (hruns : (s.slot q).runs) (p : Nat) :
    s.sameWork q (u.partialStaged p) := by
  unfold State.partialStaged
  dsimp only
  refine List.foldlRecOn (motive := fun v : State => s.sameWork q v) _ _ (h.collarWrite hruns ..) (fun v hv it _ => ?_)
  split
  · exact (hv.collarWrite hruns ..).copyPlanes hruns ..
  · exact hv.collarWrite hruns ..

/-! ## What the mirror sends -/

section Sent
variable {s u : State} {q : Nat} (h : s.sameWork q u)
include h

theorem State.sameWork.sendVia (p : Nat) (pkt : Packet) : s.sameWork q (u.sendVia p pkt) :=
  h.sameLoad ((State.sameLoad.refl u ∅).sendVia p pkt)

theorem State.sameWork.sendMirror (p code addr : Nat) : s.sameWork q (u.sendMirror p code addr) := by
  unfold State.sendMirror
  split
  · exact h.sendVia ..
  · exact h

/-- A page of slot `p` is sent (R435). -/
theorem State.sameWork.sendPage (p place : Nat) (bytes : List Byte) : s.sameWork q (u.sendPage p place bytes) := by
  have hnoted : s.sameWork q (({ u with nextTxn := u.nextTxn + 1 } : State).setSlot p
      { u.slot p with pagesOut := (u.slot p).pagesOut ++ [u.nextTxn], pagesSent := (u.slot p).pagesSent + 1 }) := by
    by_cases hp : q = p
    · subst hp
      refine h.trans ⟨rfl, ?_⟩
      rw [State.slot_setSlot_self]
      rfl
    · exact (h.of_eq (v := { u with nextTxn := u.nextTxn + 1 }) rfl rfl).setSlot_ne hp _
  have hcounted := hnoted.sameLoad ((State.sameLoad.refl _ ∅).count (Set.notMem_empty (Reg.mirrorStatPages p)) 1)
  unfold State.sendPage
  dsimp only
  split
  · exact hcounted.sendVia ..
  · exact hcounted

theorem State.sameWork.clearDirty (a : Nat) : s.sameWork q (u.clearDirty a) := by
  unfold State.clearDirty
  split <;> exact h.of_eq rfl rfl

theorem State.sameWork.sendSetPage (hruns : (s.slot q).runs) (p place m a : Nat) : s.sameWork q (u.sendSetPage p place m a) := by
  have hclear := h.clearDirty a
  have hsaved : s.sameWork q (if gaSpace a = 0 then (u.clearDirty a).savePage (gaTile a) (gaPocketOff a / 0x10000) m
      else u.clearDirty a) := by
    split
    · exact hclear.of_eq rfl rfl
    · exact hclear
  have hread := hsaved.collarRead hruns p a 0x10000
  unfold State.sendSetPage
  dsimp only
  split
  · next heq => rw [heq] at hread; exact hread.sendPage ..
  · next heq => rw [heq] at hread; exact hread

end Sent

end Sys2Proof.Machine
end

section
/-! SUPPORT. The rings of a slot, its output and its services at a step boundary (R478-R482, R487, R488). -/

namespace Sys2Proof.Machine

/-- Where the job has released no point, nothing opens. -/
theorem State.tryRelease_of_none {s : State} {q : Nat} (h : (s.slot q).released = none) : s.tryRelease q = s := by
  unfold State.tryRelease
  dsimp only
  rw [h, if_neg (by simp)]

/-- Nothing follows where the job has released no point and no host command is in progress. -/
theorem State.released_settles {s : State} {q : Nat} (h : (s.slot q).released = none) (hcmds : s.cmds = []) :
    (s.tryRelease q).settleCmds = s := by
  rw [State.tryRelease_of_none h, State.settleCmds_of_nil hcmds]

/-! ## The output ring (R482) -/

/-- The slot holds the entries `es` for its ring. -/
def Slot.withHeld (x : Slot) (es : List (List Byte)) : Slot := { x with outHeld := es }

theorem State.flushOut_empty {s : State} {q : Nat} (h : (s.slot q).outHeld = []) :
    s.flushOut q = s.setSlot q ((s.slot q).withHeld []) := by
  rw [State.flushOut, h, State.flushGo]
  rfl

/-- The ring takes another entry. -/
def State.outRoom (s : State) (q : Nat) : Prop :=
  s.ringOn q = true ∧ s.hostUp = true ∧ sub32 (s.slot q).outTail (s.rd (Reg.hostOutHead q)).toNat < s.outSize q

/-- An entry stands in the ring of slot `q`. -/
def State.outPut (s : State) (q : Nat) (e : List Byte) : State :=
  ((s.hostStore (s.rd64 (Reg.hostOutBase q) + 32 * ((s.slot q).outTail % s.outSize q)) e).setSlot q
    { s.slot q with outTail := ((s.slot q).outTail + 1) % 0x100000000 }).countEntry q e

theorem State.flushGo_room {s : State} {q : Nat} (h : s.outRoom q) (e : List Byte) (es : List (List Byte)) :
    s.flushGo q (e :: es) = (s.outPut q e).flushGo q es := by
  obtain ⟨hon, hup, hroom⟩ := h
  rw [State.flushGo]
  simp only [hon, hup, hroom, Bool.and_self, decide_true, if_true]
  rfl

theorem State.flushGo_full {s : State} {q : Nat} (h : ¬ s.outRoom q) (e : List Byte) (es : List (List Byte)) :
    s.flushGo q (e :: es) = s.setSlot q ((s.slot q).withHeld (e :: es)) := by
  rw [State.flushGo]
  dsimp only
  rw [if_neg (by simpa [State.outRoom, and_assoc] using h)]
  rfl

/-- Counting an entry changes the counts of delivered tokens alone. -/
theorem State.countEntry_eq (s : State) (q : Nat) (e : List Byte) : ∃ tokens delivered,
    s.countEntry q e = s ∨ s.countEntry q e = s.setSlot q { s.slot q with tokens := tokens, delivered := delivered } := by
  unfold State.countEntry
  dsimp only
  split
  · exact ⟨0, [], Or.inl rfl⟩
  · exact ⟨_, _, Or.inr rfl⟩

/-- Entries written or held change the host's memory and slot `q` alone. -/
structure State.onlyOutput (s : State) (q : Nat) (u : State) : Prop where
  rest : { u with slots := s.slots, host := s.host } = s
  released : (u.slot q).released = (s.slot q).released
  svc : (u.slot q).svc = (s.slot q).svc
  seqRead : (u.slot q).seqRead = (s.slot q).seqRead

theorem State.onlyOutput.refl (s : State) (q : Nat) : s.onlyOutput q s := ⟨rfl, rfl, rfl, rfl⟩

section Output
variable {s u : State} {q : Nat} (h : s.onlyOutput q u)
include h

theorem State.onlyOutput.setSlot {x : Slot} (hreleased : x.released = (u.slot q).released) (hsvc : x.svc = (u.slot q).svc)
    (hread : x.seqRead = (u.slot q).seqRead) : s.onlyOutput q (u.setSlot q x) := by
  refine ⟨h.rest, ?_, ?_, ?_⟩ <;> rw [State.slot_setSlot_self]
  · rw [hreleased, h.released]
  · rw [hsvc, h.svc]
  · rw [hread, h.seqRead]

theorem State.onlyOutput.hostStore (a : Nat) (bs : List Byte) : s.onlyOutput q (u.hostStore a bs) := by
  unfold State.hostStore
  split
  · exact ⟨h.rest, h.released, h.svc, h.seqRead⟩
  · exact h

theorem State.onlyOutput.countEntry (e : List Byte) : s.onlyOutput q (u.countEntry q e) := by
  obtain ⟨tokens, delivered, heq | heq⟩ := u.countEntry_eq q e
  · rw [heq]; exact h
  · rw [heq]; exact h.setSlot rfl rfl rfl

theorem State.onlyOutput.outPut (e : List Byte) : s.onlyOutput q (u.outPut q e) := by
  have hstore := h.hostStore (u.rd64 (Reg.hostOutBase q) + 32 * ((u.slot q).outTail % u.outSize q)) e
  have hslot : ∀ a, (u.hostStore a e).slot q = u.slot q := fun a => ((State.sameLoad.refl u ∅).hostStore a e).slot q
  refine State.onlyOutput.countEntry (hstore.setSlot ?_ ?_ ?_) e <;> rw [hslot]

theorem State.onlyOutput.flushGo (es : List (List Byte)) : s.onlyOutput q (u.flushGo q es) := by
  induction es generalizing u with
  | nil => exact h.setSlot rfl rfl rfl
  | cons e es ih =>
    by_cases hroom : u.outRoom q
    · rw [State.flushGo_room hroom]
      exact ih (h.outPut e)
    · rw [State.flushGo_full hroom]
      exact h.setSlot rfl rfl rfl

theorem State.onlyOutput.regs : u.regs = s.regs := (congrArg State.regs h.rest : _)
theorem State.onlyOutput.cmds : u.cmds = s.cmds := (congrArg State.cmds h.rest : _)

end Output

theorem State.output_only (s : State) (q : Nat) (es : List (List Byte)) : s.onlyOutput q (s.output q es) :=
  ((State.onlyOutput.refl s q).setSlot (x := { s.slot q with outHeld := (s.slot q).outHeld ++ es }) rfl rfl rfl).flushGo _

/-- Entries that are no first entry of a token are not counted. -/
theorem State.flushGo_tokens {q : Nat} {es : List (List Byte)} (hes : ∀ e ∈ es, ∀ s : State, s.countEntry q e = s) (s : State) :
    ((s.flushGo q es).slot q).tokens = (s.slot q).tokens := by
  induction es generalizing s with
  | nil => rw [State.flushGo, State.slot_setSlot_self]
  | cons e es ih =>
    rw [List.forall_mem_cons] at hes
    by_cases hroom : s.outRoom q
    · rw [State.flushGo_room hroom, ih hes.2, State.outPut, hes.1, State.slot_setSlot_self]
    · rw [State.flushGo_full hroom, State.slot_setSlot_self]
      rfl

/-- An entry that ends a sequence without a token is not counted (R482). -/
theorem State.countEntry_end (s : State) (q key pos tok : Nat) {reason : Nat} (hlow : 4 ≤ reason) (hhigh : reason < 16) :
    s.countEntry q (outEntry key pos tok reason 0 false false true []) = s := by
  have hword : tok % 0x100000 + reason * 0x100000 + 0 * 0x1000000 + 0 + 0 + 0x80000000 =
      tok % 0x100000 + reason * 0x100000 + 0x80000000 := by omega
  have hbytes : ((outEntry key pos tok reason 0 false false true []).drop 12).take 4 =
      leBytes 4 (tok % 0x100000 + reason * 0x100000 + 0x80000000) := by
    have hpre : (leBytes 8 key ++ leBytes 4 pos).length = 12 := by rw [List.length_append, length_leBytes, length_leBytes]
    simp only [outEntry, List.append_assoc, Bool.false_eq_true, if_false, if_true, hword]
    rw [← List.append_assoc, List.drop_left' hpre, List.take_left' (length_leBytes 4 _)]
  have hbits : 4 ≤ bitsOf (leNat (leBytes 4 (tok % 0x100000 + reason * 0x100000 + 0x80000000))) 20 4 := by
    have htok : tok % 0x100000 < 0x100000 := Nat.mod_lt _ (by decide)
    rw [leNat_leBytes, bitsOf]
    generalize tok % 0x100000 = t at htok
    norm_num
    omega
  unfold State.countEntry
  dsimp only
  rw [hbytes, if_pos (by simp [hbits])]

/-! ## ENABLE and TAIL of a ring (R478, R488) -/

/-- The ring of slot `q` goes on at SEQ_HEAD (log entry 48). -/
def Slot.ringRestarted (x : Slot) : Slot :=
  { x with seqRead := x.svc.head, cancels := x.cancels.filter (fun c => c.1 < x.svc.head),
           svc := { x.svc with waiting := x.svc.waiting.filter (fun u => u.idx < x.svc.head) } }

theorem exec_hostRingEnable_off (s : State) (q : PartId) :
    exec (.hostRingEnable (some q) false) s = .next (s.setBit (Reg.hostRingCfg q) 31 false) := rfl

theorem exec_hostRingEnable_on {s : State} {q : PartId} (hoff : s.ringOn q = false) : exec (.hostRingEnable (some q) true) s =
    .next ((((((s.setBit (Reg.hostRingCfg q) 31 true).setSlot q (s.slot q).ringRestarted).flushOut q).tryRelease q)).settleCmds) := by
  have hexec : exec (.hostRingEnable (some q) true) s = .next (if (true && !s.ringOn q) = true then
      (((((s.setBit (Reg.hostRingCfg q) 31 true).setSlot q (s.slot q).ringRestarted).flushOut q).tryRelease q)).settleCmds
      else s.setBit (Reg.hostRingCfg q) 31 true) := rfl
  rw [hexec, hoff, if_pos (by decide)]

theorem hostRingEnable_disables (s : State) (q : PartId) : Answers (.hostRingEnable (some q) false) s (fun u =>
    u.ringOn q = false ∧ s.sameBits u (Reg.hostRingCfg q) (fun j => j ≠ 31) ∧ s.onlyRegs u [Reg.hostRingCfg q]) :=
  ⟨_, exec_hostRingEnable_off s q, State.bit_setBit _ _ _ _ (by decide), s.setBit_sameBits _ _ _,
    (State.onlyRegs.refl s _).setBit List.mem_cons_self _ _⟩

theorem hostRingEnable_enables {s : State} {q : PartId} (hcmds : s.cmds = []) (hoff : s.ringOn q = false)
    (hheld : (s.slot q).outHeld = []) (hreleased : (s.slot q).released = none) :
    Answers (.hostRingEnable (some q) true) s (fun u => u.ringOn q = true ∧ (u.slot q).seqRead = (s.slot q).svc.head ∧
      s.onlyRegs { u with slots := s.slots } [Reg.hostRingCfg q]) := by
  have hslot : ((s.setBit (Reg.hostRingCfg q) 31 true).setSlot q (s.slot q).ringRestarted).slot q = (s.slot q).ringRestarted :=
    State.slot_setSlot_self ..
  have hflush := State.flushOut_empty (congrArg Slot.outHeld hslot |>.trans hheld)
  rw [hslot] at hflush
  have hsettled := State.released_settles (q := q) (s := ((s.setBit (Reg.hostRingCfg q) 31 true).setSlot q
    (s.slot q).ringRestarted).setSlot q ((s.slot q).ringRestarted.withHeld [])) (by rw [State.slot_setSlot_self]; exact hreleased) hcmds
  have hexec := exec_hostRingEnable_on hoff
  rw [hflush, hsettled] at hexec
  refine ⟨_, hexec, State.bit_setBit _ _ _ _ (by decide), ?_, rfl,
    ((State.onlyRegs.refl s [Reg.hostRingCfg q]).setBit List.mem_cons_self 31 true).2⟩
  rw [State.slot_setSlot_self]
  rfl

theorem hostSeqTailWrite_answers (s : State) (q : PartId) (v : Word) :
    (sub32 v.toNat (s.slot q).svcSaved.head ≤ s.seqSize q → Answers (.hostSeqTailWrite q v) s (fun u =>
      u.rd (Reg.hostSeqTail q) = v ∧ s.onlyRegs u [Reg.hostSeqTail q])) ∧
    (s.seqSize q < sub32 v.toNat (s.slot q).svcSaved.head → s.bit (Reg.hostSlotErr q) 31 = false →
      Answers (.hostSeqTailWrite q v) s (fun u => u.rd (Reg.hostSlotErr q) = 0x82020000 ∧ s.onlyRegs u [Reg.hostSlotErr q])) := by
  refine ⟨fun hroom => ⟨_, congrArg Host.Outcome.next (if_neg (Nat.not_lt.2 hroom)), State.rd_wr_self ..,
    (State.onlyRegs.refl s _).wr List.mem_cons_self _⟩, fun hfull hvalid => ?_⟩
  have hlatch : s.latchRingErr q 2 2 0 = s.wr (Reg.hostSlotErr q) 0x82020000 := if_neg (by simp [hvalid])
  exact ⟨_, (congrArg Host.Outcome.next (if_pos hfull)).trans (congrArg Host.Outcome.next hlatch), State.rd_wr_self ..,
    (State.onlyRegs.refl s _).wr List.mem_cons_self _⟩

/-! ## A request that fails (R488) -/

theorem State.latchRingErr_valid (s : State) (q ring kind status : Nat) (hring : ring < 16) (hkind : kind < 16) :
    (s.latchRingErr q ring kind status).bit (Reg.hostSlotErr q) 31 = true := by
  unfold State.latchRingErr
  split
  · next h => exact h
  · rw [State.bit, State.rd_wr_self, BitVec.getLsbD_ofNat, Nat.testBit_eq_decide_div_mod_eq]
    have hstatus := Nat.mod_lt status (show 65536 > 0 by decide)
    simp
    omega

theorem State.latchHostErr_valid (s : State) (ring kind status : Nat) (hring : ring < 16) (hkind : kind < 16) :
    (s.latchHostErr ring kind status).bit Reg.hostErr 31 = true := by
  unfold State.latchHostErr
  split
  · next h => exact h
  · rw [State.bit, State.rd_wr_self, BitVec.getLsbD_ofNat, Nat.testBit_eq_decide_div_mod_eq]
    have hstatus := Nat.mod_lt status (show 65536 > 0 by decide)
    simp
    omega

theorem State.rd_hostRecord (s : State) (part : Option Nat) (ctx : Nat) {a : Nat} (ha : a ≠ Reg.flogDropped) :
    (s.hostRecord part ctx).rd a = s.rd a := State.rd_pushRec_ne _ _ ha

/-- A ring whose request failed is disabled and its error is latched. -/
def State.ringFailed (s : State) (q ring status : Nat) : State := (s.setBit (Reg.hostRingCfg q) 31 false).latchRingErr q ring 1 status

theorem State.ringFailed_shows (s : State) (q ring status : Nat) (hring : ring < 16) (ctx : Nat) :
    ((s.ringFailed q ring status).hostRecord (some q) ctx).ringOn q = false ∧
    ((s.ringFailed q ring status).hostRecord (some q) ctx).bit (Reg.hostSlotErr q) 31 = true := by
  have hcfg : (s.ringFailed q ring status).rd (Reg.hostRingCfg q) = (s.setBit (Reg.hostRingCfg q) 31 false).rd (Reg.hostRingCfg q) := by
    unfold State.ringFailed State.latchRingErr
    split
    · rfl
    · exact State.rd_wr_ne _ _ (by rw [Reg.hostRingCfg, Reg.hostSlotErr]; omega)
  constructor
  · rw [State.ringOn, State.bit_congr (State.rd_hostRecord _ _ _ (by rw [Reg.hostRingCfg, Reg.flogDropped]; omega)),
      State.bit_congr hcfg, State.bit_setBit _ _ _ _ (by decide)]
  · rw [State.bit_congr (State.rd_hostRecord _ _ _ (by rw [Reg.hostSlotErr, Reg.flogDropped]; omega))]
    exact State.latchRingErr_valid _ q ring 1 status hring (by decide)

theorem State.ringFails_sequence (s : State) (q : PartId) (st : Nat) : (s.ringFails (.sequence q) st).ringOn q = false ∧
    (s.ringFails (.sequence q) st).bit (Reg.hostSlotErr q) 31 = true := s.ringFailed_shows q 2 st (by decide) _

theorem State.ringFails_output (s : State) (q : PartId) (st : Nat) : (s.ringFails (.output q) st).ringOn q = false ∧
    (s.ringFails (.output q) st).bit (Reg.hostSlotErr q) 31 = true := s.ringFailed_shows q 3 st (by decide) _

/-! ## SUBMIT and CANCEL (R478-R480) -/

/-- The read position of the slot's ring is at the next entry. -/
def Slot.readOn (x : Slot) : Slot := { x with seqRead := (x.seqRead + 1) % 0x100000000 }

/-- The Collar has taken the entry at the read position. -/
def State.seqTaken (s : State) (q : Nat) : State := s.setSlot q (s.slot q).readOn

/-- The tokens of a prompt of 32-bit IDs (R484). -/
def idTokens (e : SeqEntry) (data : List Byte) : List Nat := (List.range e.len).map (fun i => leNat ((data.drop (4 * i)).take 4))

/-- A submission at the read position of slot `x`. -/
def Slot.subOf (x : Slot) (e : SeqEntry) (toks : List Nat) : Sub :=
  { idx := x.seqRead, key := e.key, maxNew := e.maxNew, temp := e.temp, topK := e.topK, topP := e.topP,
    stops := e.stops.take e.nstop, prompt := toks }

theorem exec_submit {s : State} {q : PartId} (hready : s.seqReady q = true) {e : SeqEntry} (hinput : e.input = 1) (data : List Byte) :
    exec (.submit q e (.ok data)) s = .next (if subBad (s.svc q) (s.slot q).svc e (idTokens e data) then
        ((s.seqTaken q).endEntry q e.key 0 5).settleCmds
      else (s.seqTaken q).setSlot q { (s.seqTaken q).slot q with svc :=
        { (s.slot q).svc with waiting := (s.slot q).svc.waiting ++ [(s.slot q).subOf e (idTokens e data)] } }) := by
  have hexec : exec (.submit q e (.ok data)) s = .next (if (!s.seqReady q) = true then s else
      match s.promptTokens q e data with
      | (s, toks) => if subBad ((s.seqTaken q).svc q) (s.slot q).svc e toks then ((s.seqTaken q).endEntry q e.key 0 5).settleCmds
        else (s.seqTaken q).setSlot q { (s.seqTaken q).slot q with svc :=
          { (s.slot q).svc with waiting := (s.slot q).svc.waiting ++ [(s.slot q).subOf e toks] } }) := rfl
  have htoks : s.promptTokens q e data = (s, idTokens e data) := if_pos hinput
  rw [hexec, hready, htoks, if_neg (by decide)]
  rfl

section Submit
variable {s : State} {q : PartId} {e : SeqEntry} {data : List Byte} (hready : s.seqReady q = true) (hinput : e.input = 1)
include hready hinput

theorem submit_waits (hgood : subBad (s.svc q) (s.slot q).svc e (idTokens e data) = false) :
    Answers (.submit q e (.ok data)) s (fun u => u.regs = s.regs ∧
      (u.slot q).seqRead = ((s.slot q).seqRead + 1) % 0x100000000 ∧ (u.slot q).svc.seqs = (s.slot q).svc.seqs ∧
      ∃ v : Sub, (u.slot q).svc.waiting = (s.slot q).svc.waiting ++ [v] ∧ v.key = e.key ∧ v.prompt = idTokens e data ∧
        v.maxNew = e.maxNew) := by
  have hexec := exec_submit hready hinput data
  rw [hgood, if_neg Bool.false_ne_true] at hexec
  refine ⟨_, hexec, rfl, ?_, ?_, (s.slot q).subOf e (idTokens e data), ?_, rfl, rfl, rfl⟩ <;> rw [State.slot_setSlot_self]
  rw [State.seqTaken, State.slot_setSlot_self, Slot.readOn]

theorem submit_rejected (hcmds : s.cmds = []) (hbad : subBad (s.svc q) (s.slot q).svc e (idTokens e data) = true)
    (hheld : (s.slot q).outHeld = []) : Answers (.submit q e (.ok data)) s (fun u => u.regs = s.regs ∧
      (u.slot q).seqRead = ((s.slot q).seqRead + 1) % 0x100000000 ∧ (u.slot q).svc = (s.slot q).svc ∧
      (u.slot q).tokens = (s.slot q).tokens) := by
  have htaken : (s.seqTaken q).slot q = (s.slot q).readOn := State.slot_setSlot_self ..
  have hexec := exec_submit hready hinput data
  rw [hbad, if_pos rfl] at hexec
  have hout := (s.seqTaken q).freeW.2.output_only q [outEntry e.key 0 (s.seqTaken q).freeW.1.toNat 5 0 false false true []]
  have htokens : (((s.seqTaken q).endEntry q e.key 0 5).slot q).tokens = (s.slot q).tokens := by
    have hheld' : ((s.seqTaken q).freeW.2.slot q).outHeld = [] := (congrArg Slot.outHeld htaken).trans hheld
    unfold State.endEntry State.output State.flushOut
    dsimp only
    rw [State.slot_setSlot_self, hheld', List.nil_append]
    refine (State.flushGo_tokens (List.forall_mem_singleton.2 fun v => State.countEntry_end v q _ _ _ (by decide) (by decide)) _).trans ?_
    rw [State.slot_setSlot_self]
    exact (congrArg Slot.tokens htaken : _)
  have hsettled : ((s.seqTaken q).endEntry q e.key 0 5).settleCmds = (s.seqTaken q).endEntry q e.key 0 5 :=
    State.settleCmds_of_nil (hout.cmds.trans hcmds)
  rw [hsettled] at hexec
  exact ⟨_, hexec, hout.regs, hout.seqRead.trans (congrArg Slot.seqRead htaken), hout.svc.trans (congrArg Slot.svc htaken : _), htokens⟩

end Submit

theorem submit_fails {s : State} {q : PartId} (hready : s.seqReady q = true) (e : SeqEntry) (st : Nat) :
    Answers (.submit q e (.error st)) s (fun u => u.ringOn q = false ∧ u.bit (Reg.hostSlotErr q) 31 = true) :=
  ⟨_, congrArg Host.Outcome.next (if_neg (by simp [hready])), s.ringFails_sequence q st⟩

theorem cancel_noted {s : State} {q : PartId} (key : Nat) (hready : s.seqReady q = true) :
    Answers (.cancel q ⟨0, 0, 0, key, 0, 0, 0, 0, 0, [], 0⟩) s (fun u =>
      u.slot q = { s.slot q with seqRead := ((s.slot q).seqRead + 1) % 0x100000000,
                                 cancels := (s.slot q).cancels ++ [((s.slot q).seqRead, key)] } ∧ u.regs = s.regs) :=
  ⟨_, congrArg Host.Outcome.next (if_neg (by simp [hready])), State.slot_setSlot_self .., rfl⟩

end Sys2Proof.Machine
end

section
/-! SUPPORT. A read of held output, the copy of partial results and the services at a step boundary (R481, R482, R487). -/

namespace Sys2Proof.Machine

/-! ## HOST_OUT_HEAD (R482) -/

/-- An entry that is written stands in host memory, and the tail is one further. -/
theorem State.outPut_writes {s : State} {q : Nat} (hup : s.hostUp = true) (e : List Byte) :
    (s.outPut q e).host = mwrite s.host (s.rd64 (Reg.hostOutBase q) + 32 * ((s.slot q).outTail % s.outSize q)) e ∧
    ((s.outPut q e).slot q).outTail = ((s.slot q).outTail + 1) % 0x100000000 := by
  have hstore : ∀ a, (s.hostStore a e).host = mwrite s.host a e := fun a => congrArg State.host (if_pos hup)
  unfold State.outPut
  generalize hv : s.hostStore (s.rd64 (Reg.hostOutBase q) + 32 * ((s.slot q).outTail % s.outSize q)) e = v
  have hhost : v.host = _ := hv ▸ hstore _
  obtain ⟨tokens, delivered, heq | heq⟩ := State.countEntry_eq
    (v.setSlot q { s.slot q with outTail := ((s.slot q).outTail + 1) % 0x100000000 }) q e
  · rw [heq]
    exact ⟨hhost, congrArg Slot.outTail (State.slot_setSlot_self ..)⟩
  · rw [heq, State.slot_setSlot_self, State.slot_setSlot_self]
    exact ⟨hhost, rfl⟩

/-- Beside host memory and the slot, only words differ. -/
theorem State.onlyOutput.onlyRegs {s v u : State} {q : Nat} {as : List Nat} (h : v.onlyOutput q u) (hv : s.onlyRegs v as) :
    s.onlyRegs { u with slots := s.slots, host := s.host } as := by
  have hslots : v.slots = s.slots := by rw [hv.1]
  have hhost : v.host = s.host := by rw [hv.1]
  have hrest := h.rest
  rw [hslots, hhost] at hrest
  rw [hrest]
  exact hv

section OutHead
variable {s : State} {q : PartId} {v : Word} {ent : List Byte}

theorem exec_hostOutHeadWrite (s : State) (q : PartId) (v : Word) : exec (.hostOutHeadWrite q v) s =
    .next ((((s.wr (Reg.hostOutHead q) v).flushOut q).tryRelease q).settleCmds) := rfl

theorem hostOutHeadWrite_writes (hcmds : s.cmds = []) (hheld : (s.slot q).outHeld = [ent]) (hlen : ent.length = 32)
    (hon : s.ringOn q = true) (hup : s.hostUp = true) (hreleased : (s.slot q).released = none)
    (hroom : sub32 (s.slot q).outTail v.toNat < s.outSize q) : Answers (.hostOutHeadWrite q v) s (fun u =>
      u.rd (Reg.hostOutHead q) = v ∧ (u.slot q).outHeld = [] ∧ (u.slot q).outTail = ((s.slot q).outTail + 1) % 0x100000000 ∧
      mread u.host (s.rd64 (Reg.hostOutBase q) + 32 * ((s.slot q).outTail % s.outSize q)) 32 = ent ∧
      s.onlyRegs { u with slots := s.slots, host := s.host } [Reg.hostOutHead q]) := by
  have hcfg : (s.wr (Reg.hostOutHead q) v).rd (Reg.hostRingCfg q) = s.rd (Reg.hostRingCfg q) :=
    State.rd_wr_ne _ _ (by rw [Reg.hostRingCfg, Reg.hostOutHead]; omega)
  have hsize : (s.wr (Reg.hostOutHead q) v).outSize q = s.outSize q := by rw [State.outSize, State.fld_congr hcfg, State.outSize]
  have hbase : (s.wr (Reg.hostOutHead q) v).rd64 (Reg.hostOutBase q) = s.rd64 (Reg.hostOutBase q) :=
    State.rd64_congr (State.rd_wr_ne _ _ (by rw [Reg.hostOutBase, Reg.hostOutHead]; omega))
      (State.rd_wr_ne _ _ (by rw [Reg.hostOutBase, Reg.hostOutHead]; omega))
  have hfits : (s.wr (Reg.hostOutHead q) v).outRoom q := by
    refine ⟨(State.bit_congr hcfg 31).trans hon, hup, ?_⟩
    rw [State.rd_wr_self, hsize]
    exact hroom
  have hflush : (s.wr (Reg.hostOutHead q) v).flushOut q = ((s.wr (Reg.hostOutHead q) v).outPut q ent).flushGo q [] := by
    rw [State.flushOut, State.slot_wr, hheld, State.flushGo_room hfits]
  have honly := (State.onlyOutput.refl (s.wr (Reg.hostOutHead q) v) q).flushGo [ent]
  rw [State.flushGo_room hfits] at honly
  obtain ⟨hhost, htail⟩ := State.outPut_writes (s := s.wr (Reg.hostOutHead q) v) (q := q) hup ent
  rw [hbase, hsize, State.slot_wr] at hhost
  have hexec := exec_hostOutHeadWrite s q v
  rw [hflush, State.released_settles (honly.released.trans hreleased) (honly.cmds.trans hcmds)] at hexec
  refine ⟨_, hexec, ?_, ?_, ?_, ?_, honly.onlyRegs ((State.onlyRegs.refl s _).wr List.mem_cons_self v)⟩
  · exact (State.rd_of_regs honly.regs _).trans (State.rd_wr_self ..)
  · rw [State.flushGo, State.slot_setSlot_self]
  · rw [State.flushGo, State.slot_setSlot_self]
    exact htail
  · have hback := mread_mwrite s.host (s.rd64 (Reg.hostOutBase q) + 32 * ((s.slot q).outTail % s.outSize q)) ent
    rw [hlen] at hback
    exact (congrArg (fun m => mread m _ 32) hhost).trans hback

end OutHead

/-! ## A read that delivers depends on no slot -/

section Deliver
variable {s : State} (p : Nat) (y : Slot)

theorem State.noteCe_eq (s : State) (t w : Nat) (e : WordErr) :
    s.noteCe t w e = if ((s.ceLatched t w e).ports t).ceBack.contains w then s.ceLatched t w e
      else (s.ceLatched t w e).setPorts t
        { (s.ceLatched t w e).ports t with ceBack := ((s.ceLatched t w e).ports t).ceBack ++ [w] } := rfl

theorem State.setPorts_setSlot (s : State) (t : Nat) (x : Ports) : (s.setSlot p y).setPorts t x = (s.setPorts t x).setSlot p y := rfl

theorem State.count_setSlot (s : State) (a n : Nat) : (s.setSlot p y).count a n = (s.count a n).setSlot p y := rfl

theorem State.setBit_setSlot (s : State) (a i : Nat) (b : Bool) : (s.setSlot p y).setBit a i b = (s.setBit a i b).setSlot p y := rfl

theorem State.latchErrAddr_setSlot (s : State) (t w : Nat) (e : WordErr) :
    (s.setSlot p y).latchErrAddr t w e = (s.latchErrAddr t w e).setSlot p y := rfl

theorem State.ceLatched_setSlot (s : State) (t w : Nat) (e : WordErr) :
    (s.setSlot p y).ceLatched t w e = (s.ceLatched t w e).setSlot p y := by
  rw [State.ceLatched, State.count_setSlot, State.setBit_setSlot, State.latchErrAddr_setSlot, State.ceLatched]

theorem State.ports_setSlot (s : State) (t : Nat) : (s.setSlot p y).ports t = s.ports t := rfl

theorem State.noteCe_setSlot (s : State) (t w : Nat) (e : WordErr) : (s.setSlot p y).noteCe t w e = (s.noteCe t w e).setSlot p y := by
  rw [State.noteCe_eq, State.noteCe_eq, State.ceLatched_setSlot, State.ports_setSlot]
  split
  · rfl
  · rw [State.setPorts_setSlot]

theorem State.checkWords_setSlot {t : Nat} {ws : List Nat} (h : (s.checkWords t ws).2.1 = true) :
    (s.setSlot p y).checkWords t ws = ((s.checkWords t ws).1.setSlot p y, (s.checkWords t ws).2) := by
  induction ws generalizing s with
  | nil => rfl
  | cons w ws ih =>
    have herr : (s.setSlot p y).wordErr t w = s.wordErr t w := rfl
    unfold State.checkWords at h ⊢
    rw [herr]
    cases hword : s.wordErr t w with
    | none =>
      rw [hword] at h
      exact ih h
    | some e =>
      rw [hword] at h
      dsimp only at h ⊢
      cases hdouble : e.double with
      | true =>
        rw [hdouble, if_pos rfl] at h
        split at h <;> exact absurd h (by simp)
      | false =>
        rw [hdouble, if_neg Bool.false_ne_true] at h
        rw [if_neg Bool.false_ne_true, if_neg Bool.false_ne_true, State.noteCe_setSlot]
        exact ih h

theorem State.pocketRead_setSlot {t off len : Nat} {v : State} {d : List Byte} (h : s.pocketRead t off len = (v, .ok d)) :
    (s.setSlot p y).pocketRead t off len = (v.setSlot p y, .ok d) := by
  have hrefusal : (s.setSlot p y).pocketRefusal t off len = s.pocketRefusal t off len := rfl
  unfold State.pocketRead at h ⊢
  rw [hrefusal]
  cases hr : s.pocketRefusal t off len with
  | some c =>
    rw [hr] at h
    cases h
  | none =>
    rw [hr] at h
    dsimp only at h ⊢
    cases hok : (s.checkWords t (wordsOf off len)).2.1 with
    | false =>
      rw [hok, if_neg Bool.false_ne_true] at h
      cases h
    | true =>
      rw [hok, if_pos rfl] at h
      rw [State.checkWords_setSlot p y hok, hok, if_pos rfl]
      cases h
      rfl

theorem State.hbmCheck_setSlot {scrub : Bool} {ws : List Nat} (h : (s.hbmCheck scrub ws).2 = true) :
    (s.setSlot p y).hbmCheck scrub ws = ((s.hbmCheck scrub ws).1.setSlot p y, true) := by
  induction ws generalizing s with
  | nil => rfl
  | cons w ws ih =>
    have herr : tfind (s.setSlot p y).hbmErr w = tfind s.hbmErr w := rfl
    unfold State.hbmCheck at h ⊢
    rw [herr]
    cases hword : tfind s.hbmErr w with
    | none =>
      rw [hword] at h
      exact ih h
    | some double =>
      rw [hword] at h
      cases double with
      | true => exact absurd h Bool.false_ne_true
      | false => exact ih (s := (s.hbmCorrected w).count (Reg.hbmCeCount (hbmController (32 * w))) 1) h

theorem State.hbmRead_setSlot {off len : Nat} {v : State} {d : List Byte} (h : s.hbmRead off len = (v, some d)) :
    (s.setSlot p y).hbmRead off len = (v.setSlot p y, some d) := by
  unfold State.hbmRead at h ⊢
  dsimp only at h ⊢
  cases hok : (s.hbmCheck false (hbmWordsOf off len)).2 with
  | false =>
    rw [hok] at h
    cases h
  | true =>
    rw [hok] at h
    rw [State.hbmCheck_setSlot p y hok]
    cases h
    rfl

theorem State.collarRead_setSlot {q a n : Nat} {v : State} {d : List Byte} (h : s.collarRead q a n = (v, some d)) :
    (s.setSlot p y).collarRead q a n = (v.setSlot p y, some d) := by
  unfold State.collarRead at h ⊢
  split at h
  · next hspace =>
    rw [if_pos hspace]
    split at h
    · next hread =>
      cases h
      rw [State.pocketRead_setSlot p y hread]
    all_goals cases h
  · next hspace =>
    rw [if_neg hspace]
    exact State.hbmRead_setSlot p y h

end Deliver

/-! ## The copy of partial results (R487) -/

/-- The copy is due no more. -/
def Slot.copyTaken (x : Slot) : Slot := { x with partDue := false }

/-- The copy stands at the host under SEQ `seq`. -/
def State.partialCopied (s : State) (q seq : Nat) (bs : List Byte) : State :=
  ((s.setSlot q (s.slot q).copyTaken).hostStore (s.rd64 (Reg.hostPartBase q) / 4096 * 4096) (leBytes 8 seq ++ bs.drop 8)).setSlot q
    { (s.slot q).copyTaken with partHostSeq := seq, partValid := true }

theorem partialHostCopy_copies {s : State} {q : PartId} {bs : List Byte} (hdue : (s.slot q).partDue = true)
    (hserved : (s.slot q).served = false) (hon : s.ringOn q = true) (hup : s.hostUp = true)
    (hfits : (s.svc q).partialBytes ≤ s.fld (Reg.hostRingCfg q) 0 16 * 4096)
    (hread : s.collarRead q (s.svc q).serviceAddr (s.svc q).partialBytes = (s, some bs)) :
    Answers (.partialHostCopy q) s (fun u => let base := s.rd64 (Reg.hostPartBase q) / 4096 * 4096
      u.slot q = { s.slot q with partDue := false, partHostSeq := (s.slot q).partHostSeq + 2, partValid := true } ∧
      mread u.host base (8 + (bs.drop 8).length) = leBytes 8 ((s.slot q).partHostSeq + 2) ++ bs.drop 8 ∧ u.regs = s.regs) := by
  have hread' := State.collarRead_setSlot q (s.slot q).copyTaken hread
  have hgo : ¬ (!(s.slot q).partDue || (s.slot q).served || !s.ringOn q || !s.hostUp) = true := by simp [hdue, hserved, hon, hup]
  have hfld : (s.setSlot q (s.slot q).copyTaken).fld (Reg.hostRingCfg q) 0 16 = s.fld (Reg.hostRingCfg q) 0 16 := rfl
  have hstore : ∀ v : State, v.hostUp = true → ∀ a b, (v.hostStore a b).host = mwrite v.host a b ∧ (v.hostStore a b).regs = v.regs ∧
      (v.hostStore a b).slots = v.slots := fun v hv a b => by
    rw [State.hostStore, if_pos hv]
    exact ⟨rfl, rfl, rfl⟩
  obtain ⟨hhost, hregs, hslots⟩ := hstore (s.setSlot q (s.slot q).copyTaken) hup (s.rd64 (Reg.hostPartBase q) / 4096 * 4096)
    (leBytes 8 ((s.slot q).partHostSeq + 2) ++ bs.drop 8)
  have hslot : ((s.setSlot q (s.slot q).copyTaken).hostStore (s.rd64 (Reg.hostPartBase q) / 4096 * 4096)
      (leBytes 8 ((s.slot q).partHostSeq + 2) ++ bs.drop 8)).slot q = (s.slot q).copyTaken :=
    (State.slot_congr hslots q).trans (State.slot_setSlot_self ..)
  have hexec : exec (.partialHostCopy q) s = .next (s.partialCopied q ((s.slot q).partHostSeq + 2) bs) := by
    change execPartialHostCopy q s = _
    unfold execPartialHostCopy
    dsimp only
    rw [if_neg hgo, ← Slot.copyTaken, hfld, if_neg (Nat.not_lt.2 hfits), hread']
    exact congrArg (fun x : Slot => Host.Outcome.next (((s.setSlot q (s.slot q).copyTaken).hostStore
      (s.rd64 (Reg.hostPartBase q) / 4096 * 4096) (leBytes 8 ((s.slot q).partHostSeq + 2) ++ bs.drop 8)).setSlot q
      { x with partHostSeq := (s.slot q).partHostSeq + 2, partValid := true })) hslot
  refine ⟨_, hexec, State.slot_setSlot_self .., ?_, hregs⟩
  have hback := mread_mwrite s.host (s.rd64 (Reg.hostPartBase q) / 4096 * 4096) (leBytes 8 ((s.slot q).partHostSeq + 2) ++ bs.drop 8)
  rw [List.length_append, length_leBytes] at hback
  exact (congrArg (fun m => mread m _ _) hhost).trans hback

end Sys2Proof.Machine
end

section
/-! SUPPORT. The services at a step boundary (R481, R487). -/

namespace Sys2Proof.Machine

section Boundary
variable {s : State} {q : Nat}

/-- The rows of the next step, taken from the sequences of the slot (R481). -/
def Slot.batched (x : Slot) (c : Svc) (words : List Word) : Slot :=
  { x with svc := { x.svc with rows := (assignGo c c.batchRows x.svc.seqs).1, seqs := (assignGo c c.batchRows x.svc.seqs).2,
                               cfg := words } }

/-- The Collar has held the barrier for `us` µs. -/
def Slot.servedFor (x : Slot) (us : Nat) : Slot := { x with served := true, holdUs := us }

theorem Slot.runs_of_going {x : Slot} (h : x.going = true) : x.runs := by
  have hstate := (Bool.and_eq_true_iff.mp (Bool.and_eq_true_iff.mp h).1).1
  rcases (Bool.or_eq_true_iff.mp hstate) with hrun | hdrain
  · exact Or.inl (eq_of_beq hrun)
  · exact Or.inr (eq_of_beq hdrain)

/-- Without a row in flight and without a cancellation, a served boundary assigns the rows and writes the service tensors. -/
theorem State.serveStep_assigns (hserve : (s.svc q).serve = true) (hrows : (s.slot q).svc.rows = []) (hcancels : (s.slot q).cancels = []) :
    s.serveStep q = (s.setSlot q ((s.slot q).batched (s.svc q)
      ((List.range 32).map (fun i => s.rd (Reg.collarSvcW q i))))).writeTensors q (s.svc q) := by
  have hkept : (s.slot q).svc.seqs.map (fun e =>
      if (s.slot q).cancels.any (fun c => c.2 == e.sub.key) then { e with cancelled := true } else e) = (s.slot q).svc.seqs := by
    rw [hcancels]
    exact List.map_id _
  unfold State.serveStep
  dsimp only
  rw [hkept, hrows, List.zipIdx_nil, List.foldl_nil]
  have hcfg : ∀ y, (s.setSlot q y).svc q = s.svc q := fun _ => rfl
  rw [hcfg, if_pos hserve, State.slot_setSlot_self]
  have hagain : ∀ y z, (s.setSlot q y).setSlot q z = s.setSlot q z := fun y z =>
    congrArg (fun l => { s with slots := l }) (tset_tset ..)
  rw [hagain]
  rfl

/-- What a copy that is due changes of the slot (R487). -/
theorem State.writePartial_work {u : State} (hruns : (u.slot q).runs) : (u.writePartial q).cmds = u.cmds ∧
    ((u.writePartial q).slot q).svc = (u.slot q).svc ∧ ((u.writePartial q).slot q).released = (u.slot q).released := by
  have hstaged := (State.sameWork.refl u q).partialStaged hruns q
  have hslot := hstaged.slot
  rw [State.writePartial_eq, State.slot_setSlot_self]
  exact ⟨hstaged.cmds, (congrArg Slot.svc hslot : _), (congrArg Slot.released hslot : _)⟩

theorem stepBoundaryService_serves (q : PartId) (us : Nat) (hcmds : s.cmds = []) (hcollar : s.collarRuns = true)
    (hgoing : (s.slot q).going = true) (hquiet : s.quiet q = true) (hholds : s.svcHolds q = true) (hpoint : s.epochPoint q = false)
    (hserve : (s.svc q).serve = true) (hrows : (s.slot q).svc.rows = []) (hcancels : (s.slot q).cancels = [])
    (hreleased : (s.slot q).released = none) :
    Answers (.stepBoundaryService q us) s (fun u => (u.slot q).served = true ∧ (u.slot q).holdUs = us ∧
      (u.slot q).svc.rows = (assignGo (s.svc q) (s.svc q).batchRows (s.slot q).svc.seqs).1) := by
  have hexec : exec (.stepBoundaryService q us) s = .next (
      if s.collarRuns && (s.slot q).going && s.quiet q && s.svcHolds q && (!s.epochPoint q || (s.slot q).phase == 1) then
        let v := if (s.svc q).serve || !(s.slot q).svc.rows.isEmpty then s.serveStep q else s
        let v := if v.partialDue q then v.writePartial q else v
        ((v.setSlot q ((v.slot q).servedFor us)).tryRelease q).settleCmds
      else s) := rfl
  rw [if_pos (by simp [hcollar, hgoing, hquiet, hholds, hpoint]), if_pos (by simp [hserve]),
    State.serveStep_assigns hserve hrows hcancels] at hexec
  generalize hv : ((s.setSlot q ((s.slot q).batched (s.svc q)
      ((List.range 32).map (fun i => s.rd (Reg.collarSvcW q i))))).writeTensors q (s.svc q)) = v at hexec
  have hbatched : (s.setSlot q ((s.slot q).batched (s.svc q)
      ((List.range 32).map (fun i => s.rd (Reg.collarSvcW q i))))).slot q = _ := State.slot_setSlot_self ..
  have hwork := (State.sameWork.refl (s.setSlot q ((s.slot q).batched (s.svc q)
    ((List.range 32).map (fun i => s.rd (Reg.collarSvcW q i))))) q).writeTensors
      (by rw [hbatched]; exact Slot.runs_of_going hgoing) q (s.svc q)
  rw [hv] at hwork
  have hslot := hwork.slot
  rw [hbatched] at hslot
  have hvruns : (v.slot q).runs := hwork.runs (by rw [hbatched]; exact Slot.runs_of_going hgoing)
  have hvrows : (v.slot q).svc.rows = _ := (congrArg (fun y => y.svc.rows) hslot : _)
  have hvreleased : (v.slot q).released = none := ((congrArg Slot.released hslot : _) : _ = (s.slot q).released).trans hreleased
  have hvcmds : v.cmds = [] := hwork.cmds.trans hcmds
  dsimp only at hexec
  generalize hw : (if v.partialDue q then v.writePartial q else v) = w at hexec
  have hwpart : w.cmds = v.cmds ∧ (w.slot q).svc = (v.slot q).svc ∧ (w.slot q).released = (v.slot q).released := by
    rw [← hw]
    split_ifs
    · exact State.writePartial_work hvruns
    · exact ⟨rfl, rfl, rfl⟩
  obtain ⟨hwcmds, hwsvc, hwreleased⟩ := hwpart
  have hheld : (w.setSlot q ((w.slot q).servedFor us)).slot q = (w.slot q).servedFor us := State.slot_setSlot_self ..
  have hsettles := State.released_settles (s := w.setSlot q ((w.slot q).servedFor us)) (q := q)
    (by rw [hheld]; exact hwreleased.trans hvreleased) (hwcmds.trans hvcmds)
  rw [hsettles] at hexec
  refine ⟨_, hexec, ?_⟩
  dsimp only
  rw [hheld]
  exact ⟨rfl, rfl, (congrArg Service.rows hwsvc : _).trans hvrows⟩

end Boundary

end Sys2Proof.Machine
end

section
/-! SUPPORT. The status pages in host memory, and accesses through BAR2 (R466, R473, R475, R476). -/

namespace Sys2Proof.Machine

/-! ## Status pages (R473, R475, R476) -/

/-- A part of the bytes of one store reads back at its own place. -/
theorem mread_mwrite_part (m : List Host.Cell) (a : Nat) (xs ys zs : List Byte) :
    mread (mwrite m a (xs ++ (ys ++ zs))) (a + xs.length) ys.length = ys := by
  rw [← take_drop_mread (mwrite m a (xs ++ (ys ++ zs))) a (n := (xs ++ (ys ++ zs)).length)
    (by simp only [List.length_append]; omega), mread_mwrite, List.drop_left, List.take_left]

/-- A number of `n` bytes in the bytes of one store. -/
theorem mreadNat_mwrite_part (m : List Host.Cell) (a : Nat) (xs zs : List Byte) (n v : Nat) :
    mreadNat (mwrite m a (xs ++ (leBytes n v ++ zs))) (a + xs.length) n = v % 256 ^ n := by
  have hread := mread_mwrite_part m a xs (leBytes n v) zs
  rw [length_leBytes] at hread
  rw [mreadNat, hread, leNat_leBytes]

theorem State.hostStore_of_up {s : State} (h : s.hostUp = true) (a : Nat) (bs : List Byte) :
    s.hostStore a bs = { s with host := mwrite s.host a bs } := if_pos h

theorem length_padTo (n : Nat) (bs : List Byte) : (padTo n bs).length = max n bs.length := by
  rw [padTo, List.length_append, List.length_replicate]
  omega

theorem length_flatMap_const {α : Type} (l : List α) (f : α → List Byte) {n : Nat} (h : ∀ x, (f x).length = n) :
    (l.flatMap f).length = l.length * n := by
  induction l with
  | nil => simp
  | cons x l ih => rw [List.flatMap_cons, List.length_append, h, ih, List.length_cons]; ring

/-- The page of a slot fills its 4096 bytes with SEQ. -/
theorem State.slotPage_length (s : State) (q : Nat) : (s.slotPage q).length = 4088 := by
  have hbins : ((List.range 7).flatMap (fun k => (List.range 16).flatMap (fun b => leBytes 4 (s.samplerSum q k b)))).length = 448 :=
    length_flatMap_const (n := 64) _ _ (fun k => length_flatMap_const _ _ (fun b => length_leBytes ..))
  rw [State.slotPage, length_padTo, List.length_append, hbins, length_padTo]
  simp only [List.length_append, length_leBytes]
  decide

theorem State.slotPage_starts (s : State) (q : Nat) : ∃ rest, s.slotPage q = leBytes 8 (s.slot q).statusWord ++ rest := by
  simp only [State.slotPage, padTo, List.append_assoc]
  exact ⟨_, rfl⟩

theorem State.modulePage_starts (s : State) : ∃ rest, s.modulePage = leBytes 4 s.headNo ++ rest := by
  simp only [State.modulePage, padTo, List.append_assoc]
  exact ⟨_, rfl⟩

/-- Bytes 0x008 onward of page `p`. -/
def State.pageBody (s : State) (p : Nat) : List Byte := if p = 0 then s.modulePage else s.slotPage (p - 1)

/-- Where page `p` stands in host memory. -/
def State.pageAt (s : State) (p : Nat) : Nat := s.rd64 Reg.hostStatusBase / 4096 * 4096 + 4096 * p

/-- The bytes of page `p`, under the next SEQ. -/
def State.pageBytes (s : State) (p : Nat) : List Byte := leBytes 8 (tget s.pageSeq 0 p + 2) ++ s.pageBody p

/-- The host bytes `bs` stand at `a`, and page `p` bears SEQ `n`. -/
def State.withPage (s : State) (p n a : Nat) (bs : List Byte) : State :=
  { s with host := mwrite s.host a bs, pageSeq := tset s.pageSeq p n }

/-- Page `p` stands in host memory with the next SEQ. -/
def State.pageWritten (s : State) (p : Nat) : State := s.withPage p (tget s.pageSeq 0 p + 2) (s.pageAt p) (s.pageBytes p)

theorem State.rewritePage_of_up {s : State} (h : s.hostUp = true) (p : Nat) : s.rewritePage p = s.pageWritten p := by
  have hstore := s.hostStore_of_up h (s.pageAt p) (s.pageBytes p)
  have hrewrite : s.rewritePage p = { s.hostStore (s.pageAt p) (s.pageBytes p) with pageSeq := tset s.pageSeq p (tget s.pageSeq 0 p + 2) } := rfl
  rw [hrewrite, hstore]
  rfl

theorem exec_statusPageRewrite {s : State} (hon : s.pagesOn = true) (p : Fin 9) :
    exec (.statusPageRewrite p) s = .next (s.pageWritten p) := by
  have hup : s.hostUp = true := by
    simp only [State.pagesOn, Bool.and_eq_true] at hon
    obtain ⟨⟨⟨_, hup⟩, _⟩, _⟩ := hon
    exact hup
  exact (congrArg Host.Outcome.next (if_pos hon)).trans (congrArg Host.Outcome.next (State.rewritePage_of_up hup p))

section Page
variable {s : State} {p : Fin 9}

theorem State.pageWritten_seq : tget (s.pageWritten p).pageSeq 0 p = tget s.pageSeq 0 p + 2 := tget_tset_self ..

theorem State.pageWritten_shows : mreadNat (s.pageWritten p).host (s.pageAt p) 8 = (tget s.pageSeq 0 p + 2) % 2 ^ 64 := by
  have hword := mreadNat_mwrite_part s.host (s.pageAt p) [] (s.pageBody p) 8 (tget s.pageSeq 0 p + 2)
  rw [List.nil_append, List.length_nil, Nat.add_zero (s.pageAt p), ← State.pageBytes, show 256 ^ 8 = 2 ^ 64 from by norm_num] at hword
  exact hword

/-- The number that follows SEQ in the page. -/
theorem State.pageWritten_second {n v : Nat} {rest : List Byte} (h : s.pageBody p = leBytes n v ++ rest) :
    mreadNat (s.pageWritten p).host (s.pageAt p + 8) n = v % 256 ^ n := by
  have hword := mreadNat_mwrite_part s.host (s.pageAt p) (leBytes 8 (tget s.pageSeq 0 p + 2)) rest n v
  rw [length_leBytes, ← h] at hword
  exact hword

theorem State.pageWritten_outside (hlen : (s.pageBody p).length = 4088) {a : Nat} (ha : a < s.pageAt p ∨ s.pageAt p + 4096 ≤ a) :
    mget (s.pageWritten p).host a = mget s.host a := by
  refine mget_mwrite_out s.host (s.pageAt p) (s.pageBytes p) a ?_
  rw [State.pageBytes, List.length_append, length_leBytes, hlen]
  exact ha

end Page

theorem statusPageRewrite_writes {s : State} (hon : s.pagesOn = true) (p : Fin 9) :
    Answers (.statusPageRewrite p) s (fun u =>
      let base := s.rd64 Reg.hostStatusBase / 4096 * 4096 + 4096 * p
      let seq := tget s.pageSeq 0 p + 2
      tget u.pageSeq 0 p = seq ∧ mreadNat u.host base 8 = seq % 2 ^ 64 ∧
      (∀ q : PartId, p.val = q + 1 → mreadNat u.host (base + 8) 8 = (s.slot q).statusWord % 2 ^ 64 ∧
        (∀ a, a < base ∨ base + 4096 ≤ a → mget u.host a = mget s.host a)) ∧
      (p.val = 0 → mreadNat u.host (base + 8) 4 = s.headNo) ∧ u.regs = s.regs ∧ u.slots = s.slots) := by
  refine ⟨_, exec_statusPageRewrite hon p, State.pageWritten_seq, State.pageWritten_shows, fun q hq => ?_, fun hp => ?_, rfl, rfl⟩
  · have hbody : s.pageBody p = s.slotPage q := by rw [State.pageBody, if_neg (by omega), hq]; rfl
    obtain ⟨rest, hrest⟩ := s.slotPage_starts q
    exact ⟨State.pageWritten_second (hbody.trans hrest), fun a => State.pageWritten_outside (by rw [hbody, s.slotPage_length])⟩
  · have hbody : s.pageBody p = s.modulePage := if_pos hp
    obtain ⟨rest, hrest⟩ := s.modulePage_starts
    have hhead := Nat.mod_eq_of_lt (show s.headNo < 256 ^ 4 from (s.rd Reg.hostCmdHead).isLt)
    exact (State.pageWritten_second (hbody.trans hrest)).trans hhead

/-! ## ENABLE of the status pages and of the command ring (R473, R488) -/

theorem hostStatusEnable_sets (s : State) (b : Bool) : Answers (.hostStatusEnable b) s (fun u =>
    u.bit Reg.hostStatusBase 0 = b ∧ s.sameBits u Reg.hostStatusBase (fun j => j ≠ 0) ∧
    u.pageSeq = (if b = true ∧ s.bit Reg.hostStatusBase 0 = false then [] else s.pageSeq) ∧
    s.onlyRegs { u with pageSeq := s.pageSeq } [Reg.hostStatusBase]) := by
  have honly := (State.onlyRegs.refl s [Reg.hostStatusBase]).setBit List.mem_cons_self 0 b
  have hbits := s.setBit_sameBits Reg.hostStatusBase 0 b
  by_cases hstart : b = true ∧ s.bit Reg.hostStatusBase 0 = false
  · have hguard : (b && !s.bit Reg.hostStatusBase 0) = true := by simp [hstart]
    rw [if_pos hstart]
    refine ⟨({ s with pageSeq := [] } : State).setBit Reg.hostStatusBase 0 b, ?_, State.bit_setBit _ _ _ _ (by decide), hbits, rfl, honly⟩
    exact congrArg (fun v : State => Host.Outcome.next (v.setBit Reg.hostStatusBase 0 b)) (if_pos hguard)
  · have hguard : ¬ (b && !s.bit Reg.hostStatusBase 0) = true := by simpa using hstart
    rw [if_neg hstart]
    refine ⟨s.setBit Reg.hostStatusBase 0 b, ?_, State.bit_setBit _ _ _ _ (by decide), hbits, rfl, honly⟩
    exact congrArg (fun v : State => Host.Outcome.next (v.setBit Reg.hostStatusBase 0 b)) (if_neg hguard)

theorem hostRingEnable_command (s : State) (b : Bool) : Answers (.hostRingEnable none b) s (fun u => u.bit Reg.hostCmdCfg 31 = b ∧
    s.sameBits u Reg.hostCmdCfg (fun j => j ≠ 31) ∧ s.onlyRegs u [Reg.hostCmdCfg]) :=
  ⟨_, rfl, State.bit_setBit _ _ _ _ (by decide), s.setBit_sameBits _ _ _, (State.onlyRegs.refl s _).setBit List.mem_cons_self _ _⟩

/-! ## BAR2 (R466) -/

theorem State.sameLoad.hostRecord {s u : State} (h : s.sameLoad ∅ u) (part : Option Nat) (ctx : Nat) :
    s.sameLoad ∅ (u.hostRecord part ctx) :=
  State.sameLoad.pushRec (u := { u with freeCtr := u.freeCtr + 1 }) ⟨h.slots, h.loading, h.cmds, h.hbm, h.rd⟩
    (Set.notMem_empty _) _

theorem State.apertureRefused_shows (s : State) : s.apertureRefused.bit Reg.hostApertureStatus 0 = true ∧
    s.apertureRefused.hbm = s.hbm := by
  have hbit : (s.setBit Reg.hostApertureStatus 0 true).bit Reg.hostApertureStatus 0 = true := State.bit_setBit _ _ _ _ (by decide)
  unfold State.apertureRefused
  dsimp only
  split
  · refine ⟨?_, ((State.sameLoad.refl _ ∅).hostRecord none _).hbm⟩
    rw [State.bit_congr (State.rd_hostRecord _ _ _ (by decide))]
    exact hbit
  · exact ⟨hbit, rfl⟩

section Bar2
variable {s : State} {off len : Nat} (hd3 : s.d3 = false)
include hd3

theorem bar2Read_reads (hok : s.apertureOk off len false = true) (hclean : s.hbmClean (s.apertureOff off) len) :
    Answers (.bar2Read off len) s (fun u => u = { s with reply := mread s.hbm (s.apertureOff off) len }) := by
  have hread := State.hbmRead_clean hclean
  refine ⟨_, ?_, rfl⟩
  show execBar2Read off len s = _
  simp only [execBar2Read, hd3, hok, hread, Bool.false_eq_true, Bool.not_true, if_false]

theorem bar2Read_refused (hok : s.apertureOk off len false = false) : Answers (.bar2Read off len) s (fun u =>
    u.reply = List.replicate len 0 ∧ u.bit Reg.hostApertureStatus 0 = true ∧ u.hbm = s.hbm) := by
  obtain ⟨hbit, hhbm⟩ := s.apertureRefused_shows
  refine ⟨{ s.apertureRefused with reply := List.replicate len 0 }, ?_, rfl, hbit, hhbm⟩
  show execBar2Read off len s = _
  unfold execBar2Read
  rw [hd3, if_neg Bool.false_ne_true, hok, if_pos (by decide)]

theorem bar2Write_writes (bs : List Byte) (hok : s.apertureOk off bs.length true = true)
    (himage : s.needImage (s.apertureOff off) bs.length = []) :
    Answers (.bar2Write off (bs.map some)) s (fun u => s.hbmStored u (s.apertureOff off) bs ∧ u.regs = s.regs) := by
  obtain ⟨err, dirty, hwrite⟩ := State.hbmWrite_stores himage
  have hexec : exec (.bar2Write off (bs.map some)) s = .next (s.hbmWrite (s.apertureOff off) (bs.map some)) := by
    show execBar2Write off (bs.map some) s = _
    unfold execBar2Write
    rw [hd3, if_neg Bool.false_ne_true, List.length_map, hok, if_neg (by decide)]
  rw [hwrite] at hexec
  exact ⟨_, hexec, hbmStored_mwrite s rfl, rfl⟩

theorem bar2Write_refused (bs : List Byte) (hok : s.apertureOk off bs.length true = false) :
    Answers (.bar2Write off (bs.map some)) s (fun u => u.hbm = s.hbm ∧ u.bit Reg.hostApertureStatus 0 = true) := by
  obtain ⟨hbit, hhbm⟩ := s.apertureRefused_shows
  refine ⟨s.apertureRefused, ?_, hhbm, hbit⟩
  show execBar2Write off (bs.map some) s = _
  unfold execBar2Write
  rw [hd3, if_neg Bool.false_ne_true, List.length_map, hok, if_pos (by decide)]

end Bar2

end Sys2Proof.Machine
end

section
/-! SUPPORT. The PCIe link, and requests of the device that get no completion (R464, R467, R488, R489, R564). Settles O52. -/

namespace Sys2Proof.Machine

/-! ## The link (R489, R564) -/

/-- The PCIe function after a reset, with PERST# and the link as given. -/
def State.linkLost (s : State) (perst up : Bool) : State := { s.functionReset with perst := perst, linkUp := up }

theorem State.functionReset_linkLost (s : State) : s.functionReset = s.linkLost s.perst s.linkUp := rfl

theorem State.linkLost_isReset (s : State) (perst up : Bool) : s.functionIsReset (s.linkLost perst up) :=
  ⟨rfl, rfl, fun a ha => (s.rd_forget hostWord a).trans (if_pos ha),
    fun a ha => (s.rd_forget hostWord a).trans (if_neg (by simp [ha])), rfl, rfl, rfl, rfl⟩

theorem functionLevelReset_resets (s : State) :
    Answers .functionLevelReset s (fun u => s.functionIsReset u ∧ u.perst = s.perst ∧ u.linkUp = s.linkUp) :=
  ⟨s.linkLost s.perst s.linkUp, congrArg Host.Outcome.next s.functionReset_linkLost, s.linkLost_isReset _ _, rfl, rfl⟩

theorem perstAssert_resets {s : State} (h : s.rail = true) :
    Answers .perstAssert s (fun u => s.functionIsReset u ∧ u.perst = true ∧ u.linkUp = false) :=
  ⟨s.linkLost true false, congrArg Host.Outcome.next (if_pos h), s.linkLost_isReset _ _, rfl, rfl⟩

theorem perstAssert_ignored {s : State} (h : s.rail = false) : exec .perstAssert s = .next s :=
  congrArg Host.Outcome.next (if_neg (by simp [h]))

theorem perstRelease_trains {s : State} (h : s.rail = true) :
    Answers .perstRelease s (fun u => u = { s with perst := false, linkUp := s.domainOn 30 }) :=
  ⟨_, congrArg Host.Outcome.next (if_pos h), rfl⟩

theorem pcieLinkDown_resets (s : State) : Answers .pcieLinkDown s (fun u => s.functionIsReset u ∧ u.linkUp = false) :=
  ⟨s.linkLost s.perst false, rfl, s.linkLost_isReset _ _, rfl⟩

section Configuration
variable {s : State} (hon : s.domainOn 30 = true) (hperst : s.perst = false) (d : Option Bool)
include hon hperst

theorem exec_pcieConfigurationRequest : exec (.pcieConfigurationRequest d) s = .next (
    if s.fld Reg.bootStatus 29 3 < 5 then { s with reply := [2], linkUp := true }
    else { s with reply := [0], linkUp := true, d3 := d.getD s.d3 }) :=
  congrArg Host.Outcome.next (if_neg (by simp [hon, hperst]))

theorem pcieConfigurationRequest_retries (hstep : s.fld Reg.bootStatus 29 3 < 5) : Answers (.pcieConfigurationRequest d) s (fun u =>
    u = { s with reply := [2], linkUp := true }) :=
  ⟨_, (exec_pcieConfigurationRequest hon hperst d).trans (congrArg Host.Outcome.next (if_pos hstep)), rfl⟩

theorem pcieConfigurationRequest_completes (hstep : 5 ≤ s.fld Reg.bootStatus 29 3) : Answers (.pcieConfigurationRequest d) s (fun u =>
    u = { s with reply := [0], linkUp := true, d3 := d.getD s.d3 }) :=
  ⟨_, (exec_pcieConfigurationRequest hon hperst d).trans (congrArg Host.Outcome.next (if_neg (Nat.not_lt.2 hstep))), rfl⟩

end Configuration

/-! ## Requests without a completion (R467, R488) -/

/-- A request of the module's own rings fails: the enable bit of word `a` goes, and HOST_ERR latches. -/
def State.moduleFailed (s : State) (a i ring status : Nat) : State := (s.setBit a i false).latchHostErr ring 1 status

/-- The failure with its record. -/
def State.moduleFailRecorded (s : State) (a i ring status : Nat) : State :=
  (s.moduleFailed a i ring status).hostRecord none ((s.moduleFailed a i ring status).rd Reg.hostErr).toNat

section ModuleFailed
variable (s : State) {a : Nat} (i ring status : Nat) (ha : a ≠ Reg.hostErr) (hrec : a ≠ Reg.flogDropped)
include ha hrec

theorem State.moduleFailRecorded_rd : (s.moduleFailRecorded a i ring status).rd a = (s.setBit a i false).rd a := by
  have hlatch : (s.moduleFailed a i ring status).rd a = (s.setBit a i false).rd a := by
    unfold State.moduleFailed State.latchHostErr
    split
    · rfl
    · exact State.rd_wr_ne _ _ ha
  exact (State.rd_hostRecord _ _ _ hrec).trans hlatch

theorem State.moduleFailRecorded_shows (hi : i < 32) (hring : ring < 16) :
    (s.moduleFailRecorded a i ring status).bit a i = false ∧ (s.moduleFailRecorded a i ring status).bit Reg.hostErr 31 = true ∧
    s.sameBits (s.moduleFailRecorded a i ring status) a (fun j => j ≠ i) := by
  have hrd := s.moduleFailRecorded_rd i ring status ha hrec
  refine ⟨(State.bit_congr hrd _).trans (State.bit_setBit _ _ _ _ hi), ?_, fun j hj => ?_⟩
  · rw [State.moduleFailRecorded, State.bit_congr (State.rd_hostRecord _ _ _ (by decide))]
    exact State.latchHostErr_valid _ ring 1 status hring (by decide)
  · rw [hrd]
    exact s.setBit_sameBits a i false j hj

end ModuleFailed

theorem pcieCompletionTimeout_command (s : State) (st : BitVec 16) : Answers (.pcieCompletionTimeout .command st) s (fun u =>
    u.cmdOn = false ∧ u.bit Reg.hostErr 31 = true ∧ s.sameBits u Reg.hostCmdCfg (fun j => j ≠ 31)) :=
  ⟨s.moduleFailRecorded Reg.hostCmdCfg 31 0 st.toNat, rfl,
    s.moduleFailRecorded_shows 31 0 st.toNat (by decide) (by decide) (by decide) (by decide)⟩

theorem pcieCompletionTimeout_status (s : State) (st : BitVec 16) : Answers (.pcieCompletionTimeout .status st) s (fun u =>
    u.bit Reg.hostStatusBase 0 = false ∧ u.bit Reg.hostErr 31 = true) := by
  obtain ⟨henable, hvalid, _⟩ := s.moduleFailRecorded_shows (a := Reg.hostStatusBase) 0 1 st.toNat (by decide) (by decide) (by decide)
    (by decide)
  exact ⟨s.moduleFailRecorded Reg.hostStatusBase 0 1 st.toNat, rfl, henable, hvalid⟩

theorem pcieCompletionTimeout_output (s : State) (q : PartId) (st : BitVec 16) : Answers (.pcieCompletionTimeout (.output q) st) s
    (fun u => u.ringOn q = false ∧ u.bit (Reg.hostSlotErr q) 31 = true) := ⟨_, rfl, s.ringFails_output q st.toNat⟩

/-- HOST_SLOT_ERR latches the failed transfer of a tile that a slot holds. -/
def State.xferLatched (s : State) (t status : Nat) : State :=
  match s.partOf t with
  | some p => s.latchSlotErr p 5 1 status
  | none => s

theorem State.rd_xferLatched (s : State) (t status : Nat) {a : Nat} (ha : a < 0x4001034) : (s.xferLatched t status).rd a = s.rd a := by
  unfold State.xferLatched
  split
  · next p _ =>
    unfold State.latchSlotErr
    split
    · rfl
    · exact State.rd_wr_ne _ _ (by rw [Reg.hostSlotErr]; omega)
  · rfl

theorem State.hostFail_eq (s : State) (t q pos status : Nat) :
    s.hostFail t q pos status = (s.xferLatched t status).queueFault t q 0x04 0 pos := rfl

/-- R467: the task that owns the queue aborts. -/
theorem State.hostFail_aborts {s : State} {t : TileId} {q : QueueId} (h : s.taskOver t (s.qOwner t q) = false) (pos status : Nat) :
    (s.hostFail t q pos status).taskState t (s.qOwner t q) = taskAborted := by
  have htile := t.isLt
  have hqueue := q.isLt
  have howner : (s.xferLatched t status).qOwner t q = s.qOwner t q :=
    State.fld_congr (s.rd_xferLatched t status (by rw [Reg.placketQCfg]; omega)) _ _
  have hlt : s.qOwner t q < 4 := fieldOf_lt ..
  have hstate : (s.xferLatched t status).taskState t (s.qOwner t q) = s.taskState t (s.qOwner t q) :=
    State.fld_congr (s.rd_xferLatched t status (by rw [Reg.cuffTaskStatus]; omega)) _ _
  have hlive : (s.xferLatched t status).taskOver t ((s.xferLatched t status).qOwner t q) = false := by
    rw [howner, State.taskOver, hstate]
    exact h
  have haborts := State.queueFault_taskState hlive 0x04 0 pos
  rw [howner] at haborts
  exact haborts

theorem pcieCompletionTimeout_dma {s : State} {t : TileId} {q : QueueId} {txn pos : Nat} (hpos : s.hostXferPos t q txn = some pos)
    (hover : s.taskOver t (s.qOwner t q) = false) (st : BitVec 16) : Answers (.pcieCompletionTimeout (.dma t q txn) st) s (fun u =>
      u.taskState t (s.qOwner t q) = taskAborted) := by
  refine ⟨s.hostFail t q pos st.toNat, ?_, State.hostFail_aborts hover pos st.toNat⟩
  show execPcieCompletionTimeout (.dma t q txn) st s = _
  simp only [execPcieCompletionTimeout, hpos]

end Sys2Proof.Machine

open Sys2Proof.Machine in
/-- Settles O52, ring by ring and event by event. The choices behind the clauses are the model's own: the corners of a step's
batch are log entry 47, a re-enabled ring that reads from SEQ_HEAD is log entry 48, and the link that a configuration request
shows to be up is log entry 51. -/
theorem hostRingsPagesAndLink : Obligations.HostRingsPagesAndLink := by
  unfold Obligations.HostRingsPagesAndLink
  intro s hcmds
  refine ⟨fun p hon => statusPageRewrite_writes hon p, hostStatusEnable_sets s, hostRingEnable_command s, fun q => ?_,
    fun off len hd3 => ⟨bar2Read_reads hd3, bar2Read_refused hd3, bar2Write_writes hd3, bar2Write_refused hd3⟩,
    ⟨functionLevelReset_resets s, perstAssert_resets, perstAssert_ignored, perstRelease_trains, pcieLinkDown_resets s⟩,
    fun st => ⟨pcieCompletionTimeout_command s st, pcieCompletionTimeout_status s st,
      fun q => pcieCompletionTimeout_output s q st, fun t q txn pos hpos _ hover => pcieCompletionTimeout_dma hpos hover st⟩,
    fun hon hperst d => ⟨pcieConfigurationRequest_retries hon hperst d, pcieConfigurationRequest_completes hon hperst d⟩⟩
  refine ⟨hostRingEnable_disables s q, hostRingEnable_enables hcmds, hostSeqTailWrite_answers s q,
    fun e data hready hinput => ⟨submit_waits hready hinput, submit_rejected hready hinput hcmds, submit_fails hready e⟩,
    fun key hready => cancel_noted key hready, ?_, ?_, ?_⟩
  · intro us hcollar hgoing hquiet hholds hpoint hserve hrows hcancels hreleased
    exact stepBoundaryService_serves q us hcmds hcollar hgoing hquiet hholds hpoint hserve hrows hcancels hreleased
  · intro bs hdue hserved hon hup hfits hread
    exact partialHostCopy_copies hdue hserved hon hup hfits hread
  · intro v ent hheld hlen hon hup hreleased hroom
    exact hostOutHeadWrite_writes hcmds hheld hlen hon hup hreleased hroom
end

section
/-! SUPPORT. Before-images (R441) and the phases of an epoch boundary (R443). -/

namespace Sys2Proof.Machine

/-! ## Before-images (R441) -/

/-- The cells of HBM page `p`, by offset. -/
def State.pageImage (s : State) (p : Nat) : List Host.Cell :=
  (s.hbm.filter (fun c => p * 0x10000 ≤ c.1 && c.1 < (p + 1) * 0x10000)).map (fun c => (c.1 - p * 0x10000, c.2))

theorem tfind_shift {α : Type} {t : List (Nat × α)} {k : Nat} (h : ∀ x ∈ t, k ≤ x.1) (o : Nat) :
    tfind (t.map (fun x => (x.1 - k, x.2))) o = tfind t (k + o) := by
  induction t with
  | nil => rfl
  | cons x t ih =>
    obtain ⟨k', v⟩ := x
    have hk : k ≤ k' := h _ List.mem_cons_self
    have hiff : k' - k = o ↔ k' = k + o := by omega
    rw [List.map_cons, tfind, tfind, ih (fun y hy => h y (List.mem_cons_of_mem _ hy))]
    exact if_congr hiff rfl rfl

theorem State.mget_pageImage (s : State) (p : Nat) {o : Nat} (ho : o < 0x10000) : mget (s.pageImage p) o = mget s.hbm (0x10000 * p + o) := by
  have hfilter := tfind_filter s.hbm (fun a => Decidable.decide (p * 0x10000 ≤ a) && Decidable.decide (a < (p + 1) * 0x10000)) (p * 0x10000 + o)
  rw [if_pos (by simp; omega)] at hfilter
  have hshift := tfind_shift (t := s.hbm.filter (fun c => Decidable.decide (p * 0x10000 ≤ c.1) && Decidable.decide (c.1 < (p + 1) * 0x10000)))
    (k := p * 0x10000) (fun x hx => by simp at hx; exact hx.2.1) o
  rw [mget, tget, State.pageImage, hshift, hfilter, mget, tget, Nat.mul_comm]

/-- The before-image of page `p` for partition `q`. -/
def State.imageRec (s : State) (q p : Nat) : UndoRec := { part := q, page := p, epoch := s.imageEpoch q p, data := s.pageImage p }

/-- A before-image is taken. -/
def State.withBefore (s : State) (r : UndoRec) : State := { s with undo := s.undo ++ [r] }

section Image
variable {s : State} {q : PartId} {page : Nat} (hpart : s.mirrorPart page = some q.val) (himage : s.hasImage page = false)
include hpart himage

theorem State.beforeImage_eq : s.beforeImage page =
    if (s.undoArea q).2 / 0x10000 ≤ s.undoUsed q then s.mirrorFail q 2 (s.moduleId ^^^ 1)
    else (s.withBefore (s.imageRec q page)).refreshUndo q := by
  rw [State.beforeImage, hpart]
  dsimp only
  rw [himage, if_neg Bool.false_ne_true]
  rfl

theorem beforeImageCopy_takes (hroom : s.undoUsed q < (s.undoArea q).2 / 0x10000) : Answers (.beforeImageCopy page) s (fun u =>
    u.hbm = s.hbm ∧ (∃ r, u.undo = s.undo ++ [r] ∧ r.part = q.val ∧ r.page = page ∧ r.epoch = s.imageEpoch q page ∧
      ∀ o, o < 0x10000 → mget r.data o = mget s.hbm (0x10000 * page + o)) ∧
    s.onlyRegs { u with undo := s.undo } [Reg.mirrorUndoUsed q]) := by
  have hexec := (State.beforeImage_eq hpart himage).trans (if_neg (Nat.not_le.2 hroom))
  refine ⟨_, congrArg Host.Outcome.next hexec, rfl, ⟨s.imageRec q page, rfl, rfl, rfl, rfl, fun o => s.mget_pageImage page⟩, rfl, ?_⟩
  exact ((State.onlyRegs.refl s [Reg.mirrorUndoUsed q]).wr List.mem_cons_self
    (BitVec.ofNat 32 ((s.withBefore (s.imageRec q page)).undoUsed q))).2

theorem beforeImageCopy_full (hfull : (s.undoArea q).2 / 0x10000 ≤ s.undoUsed q) (hrun : (s.slot q).state = .running) :
    Answers (.beforeImageCopy page) s (fun u =>
      u.undo = s.undo ∧ ∃ st, u.stops = s.stops ++ [st] ∧ st.part = q.val ∧ st.code = 0x18 ∧ st.sub = 2) := by
  have hexec := (State.beforeImage_eq hpart himage).trans (if_pos hfull)
  have hlatched : ∃ v : State, s.mirrorFail q 2 (s.moduleId ^^^ 1) = v.jobFault q 0x18 2 11 2 none 0
      (v.rd (Reg.mirrorErrInfo q)).toNat (v.rd (Reg.mirrorStatus q)).toNat ∧ v.undo = s.undo ∧ v.stops = s.stops ∧
      v.slot q = s.slot q := by
    refine ⟨if s.bit (Reg.mirrorErrInfo q) 31 then s else s.wr (Reg.mirrorErrInfo q)
      (BitVec.ofNat 32 (0x80000000 + (s.moduleId ^^^ 1) * 0x10000 + 2 * 0x100 + 0x18)), rfl, ?_⟩
    split <;> exact ⟨rfl, rfl, rfl⟩
  obtain ⟨v, hfail, hundo, hstops, hslot⟩ := hlatched
  obtain ⟨⟨st, heq, hst⟩, _, hkept⟩ := State.jobFault_running (s := v) (by rw [hslot]; exact hrun) 0x18 2 11 2 none 0
    (v.rd (Reg.mirrorErrInfo q)).toNat (v.rd (Reg.mirrorStatus q)).toNat
  rw [hfail] at hexec
  exact ⟨_, congrArg Host.Outcome.next hexec, hkept.trans hundo, st, heq.trans (congrArg (· ++ [st]) hstops), hst⟩

end Image

/-! ## What a point depends on (R343, R442) -/

/-- The slot at phase `n` of its epoch boundary. -/
def Slot.atPhase (x : Slot) (n : Nat) : Slot := { x with phase := n }

/-- Of what the barrier of slot `q` depends on, only the phase of its epoch boundary and MIRROR_STATUS differ. -/
structure State.samePoint (s : State) (q : Nat) (v : State) : Prop where
  tiles : v.tiles = s.tiles
  insts : v.insts = s.insts
  slot : v.slot q = (s.slot q).atPhase (v.slot q).phase
  rd : ∀ a, (∀ p, a ≠ Reg.mirrorStatus p) → v.rd a = s.rd a

section Point
variable {s v : State} {q : Nat} (h : s.samePoint q v)
include h

theorem State.samePoint.tile (t : Nat) : v.tile t = s.tile t := by rw [State.tile, h.tiles, State.tile]

theorem State.samePoint.taskState (t k : Nat) : v.taskState t k = s.taskState t k :=
  State.fld_congr (h.rd _ (fun p => by rw [Reg.cuffTaskStatus, Reg.mirrorStatus]; omega)) _ _

theorem State.samePoint.task (t k : Nat) : v.task t k = s.task t k := by rw [State.task, h.tile, State.task]

theorem State.samePoint.countsArrived (t k : Nat) : v.countsArrived t k = s.countsArrived t k := by
  rw [State.countsArrived, h.taskState, h.task, State.countsArrived]

theorem State.samePoint.atBarrier (t k : Nat) : v.atBarrier t k = s.atBarrier t k := by
  rw [State.atBarrier, h.taskState, h.task, State.atBarrier]

theorem State.samePoint.suitLive (t i : Nat) : v.suitLive t i = s.suitLive t i := by
  have hstate : v.suitState t i = s.suitState t i :=
    State.fld_congr (h.rd _ (fun p => by rw [Reg.suitStatus, Reg.mirrorStatus]; omega)) _ _
  rw [State.suitLive, hstate, State.suitLive]

theorem State.samePoint.suitTask (t i : Nat) : v.suitTask t i = s.suitTask t i :=
  State.fld_congr (h.rd _ (fun p => by rw [Reg.suitStatus, Reg.mirrorStatus]; omega)) _ _

theorem State.samePoint.qOwner (t i : Nat) : v.qOwner t i = s.qOwner t i :=
  State.fld_congr (h.rd _ (fun p => by rw [Reg.placketQCfg, Reg.mirrorStatus]; omega)) _ _

theorem State.samePoint.queueBusy (t i : Nat) : v.queueBusy t i = s.queueBusy t i := by
  have hqueue : v.queue t i = s.queue t i := by rw [State.queue, h.tile, State.queue]
  have hcancelling : v.qCancelling t i = s.qCancelling t i :=
    State.bit_congr (h.rd _ (fun p => by rw [Reg.placketQStatus, Reg.mirrorStatus]; omega)) _
  rw [State.queueBusy, hqueue, hcancelling, State.queueBusy]

theorem State.samePoint.workEnded (t k : Nat) : v.workEnded t k = s.workEnded t k := by
  simp only [State.workEnded, h.suitLive, h.suitTask, h.qOwner, h.queueBusy]

theorem State.samePoint.shawlActive (t : Nat) : v.shawlActive t = s.shawlActive t :=
  State.bit_congr (h.rd _ (fun p => by rw [Reg.shawlStatus, Reg.mirrorStatus]; omega)) _

theorem State.samePoint.atStart : (v.slot q).atStart = (s.slot q).atStart := (congrArg Slot.atStart h.slot : _)
theorem State.samePoint.barriers : (v.slot q).barriers = (s.slot q).barriers := (congrArg Slot.barriers h.slot : _)
theorem State.samePoint.step : (v.slot q).step = (s.slot q).step := (congrArg Slot.step h.slot : _)
theorem State.samePoint.epochNext : (v.slot q).epochNext = (s.slot q).epochNext := (congrArg Slot.epochNext h.slot : _)

theorem State.samePoint.tilesOf : v.tilesOf q = s.tilesOf q := by
  have htiles : (v.slot q).tiles = (s.slot q).tiles := (congrArg Slot.tiles h.slot : _)
  rw [State.tilesOf, htiles, State.tilesOf]

theorem State.samePoint.tasksOf : v.tasksOf q = s.tasksOf q := by rw [State.tasksOf, h.tilesOf, State.tasksOf]

theorem State.samePoint.instOpen : v.instOpen q = s.instOpen q := by rw [State.instOpen, h.insts, State.instOpen]

theorem State.samePoint.quiet : v.quiet q = s.quiet q := by
  simp only [State.quiet, h.atStart, h.tasksOf, h.atBarrier, h.countsArrived, h.workEnded, h.instOpen, h.tilesOf, h.shawlActive]

theorem State.samePoint.atStep : v.atStep q = s.atStep q := by
  simp only [State.atStep, h.atStart, h.tasksOf, h.atBarrier, h.task]

theorem State.samePoint.stepAfter : v.stepAfter q = s.stepAfter q := by rw [State.stepAfter, h.atStep, h.step, State.stepAfter]

theorem State.samePoint.epochPoint : v.epochPoint q = s.epochPoint q := by
  have hcfg : v.rd (Reg.mirrorCfg q) = s.rd (Reg.mirrorCfg q) := h.rd _ (fun p => by rw [Reg.mirrorCfg, Reg.mirrorStatus]; omega)
  simp only [State.epochPoint, h.atStart, h.epochNext, h.atStep, h.barriers, h.stepAfter, State.fld_congr hcfg, State.bit_congr hcfg]

theorem State.samePoint.moduleId : v.moduleId = s.moduleId := by
  have halias : v.rd Reg.mirrorAlias = s.rd Reg.mirrorAlias := h.rd _ (fun p => by rw [Reg.mirrorAlias, Reg.mirrorStatus]; omega)
  have hown : v.rd Reg.fabModuleId = s.rd Reg.fabModuleId := h.rd _ (fun p => by rw [Reg.fabModuleId, Reg.mirrorStatus]; omega)
  simp only [State.moduleId, State.ownId, State.bit_congr halias, State.fld_congr halias, State.fld_congr hown]

theorem State.samePoint.jobModules (hq : q < 8) : v.jobModules q = s.jobModules q := by
  unfold State.jobModules
  simp only [List.flatMap_def]
  refine congrArg List.flatten (List.map_congr_left (fun i hi => ?_))
  rw [h.rd (Reg.fabJobmap q i) (fun p => by have hlt := List.mem_range.1 hi; rw [Reg.fabJobmap, Reg.mirrorStatus]; omega)]

theorem State.samePoint.rank (hq : q < 8) : v.rank q = s.rank q := by rw [State.rank, h.jobModules hq, h.moduleId, State.rank]

theorem State.samePoint.barKids (hq : q < 8) : v.barKids q = s.barKids q := by
  rw [State.barKids, h.jobModules hq, h.rank hq, State.barKids]

theorem State.samePoint.barParent (hq : q < 8) : v.barParent q = s.barParent q := by
  rw [State.barParent, h.jobModules hq, h.rank hq, State.barParent]

end Point

end Sys2Proof.Machine
end

section
/-! SUPPORT. The stages of an epoch boundary (R443). -/

namespace Sys2Proof.Machine

/-- The slot as the boundary takes its mirror set. -/
def Slot.setTaken (x : Slot) (l : List (Nat × Nat)) : Slot := { x with mset := l, sendAll := x.sendAll || l != x.mset, phase := 1 }

/-- The slot after its admissions, where nothing was cancelled and nothing submitted. -/
def Slot.nothingAdmitted (x : Slot) : Slot := { x with cancels := [], svc := { x.svc with waiting := [], head := x.seqRead } }

section Boundary
variable {s : State} {q : PartId} (hcmds : s.cmds = []) (hgoing : (s.slot q).going = true) (harrived : (s.slot q).arrivedUp = false)
  (hreleased : (s.slot q).released = none) (hquiet : s.quiet q = true) (hpoint : s.epochPoint q = true)
include hgoing harrived hreleased hquiet hpoint

theorem State.epochStep_eq : s.epochStep q = match (s.slot q).phase with
    | 0 => if s.commitHolds q then s else (s.setSlot q ((s.slot q).setTaken (s.regionList q))).applyAdmissions q
    | 1 => if s.svcHolds q then s else s.sendEpoch q
    | 2 => if (s.slot q).gotLanded && (s.slot q).answered == some (s.nextEpoch q) then
        ((s.setSlot q ((s.slot q).atPhase 3)).setMirror q 3).barrier q else s
    | _ => s := if_pos (by simp [hgoing, harrived, hreleased, hquiet, hpoint])

theorem State.epochStep_takes (hphase : (s.slot q).phase = 0) (hholds : s.commitHolds q = false) :
    s.epochStep q = (s.setSlot q ((s.slot q).setTaken (s.regionList q))).applyAdmissions q := by
  refine (State.epochStep_eq hgoing harrived hreleased hquiet hpoint).trans ?_
  rw [hphase]
  exact if_neg (by simp [hholds])

theorem State.epochStep_sends (hphase : (s.slot q).phase = 1) (hholds : s.svcHolds q = false) : s.epochStep q = s.sendEpoch q := by
  refine (State.epochStep_eq hgoing harrived hreleased hquiet hpoint).trans ?_
  rw [hphase]
  exact if_neg (by simp [hholds])

theorem State.epochStep_prepares (hphase : (s.slot q).phase = 2) (hlanded : (s.slot q).gotLanded = true)
    (hanswered : (s.slot q).answered = some (s.nextEpoch q)) :
    s.epochStep q = ((s.setSlot q ((s.slot q).atPhase 3)).setMirror q 3).barrier q := by
  refine (State.epochStep_eq hgoing harrived hreleased hquiet hpoint).trans ?_
  rw [hphase]
  exact if_pos (by simp [hlanded, hanswered])

omit hgoing harrived hreleased hquiet hpoint in
theorem exec_epochBoundary {v : State} (hstep : s.epochStep q = v) (hv : v.cmds = []) : exec (.epochBoundary q) s = .next v := by
  have hexec : exec (.epochBoundary q) s = .next (s.epochStep q).settleCmds := rfl
  rw [hexec, hstep, State.settleCmds_of_nil hv]

/-! ## The mirror set is taken (step 1) -/

omit hgoing harrived hreleased hquiet hpoint in
/-- With nothing cancelled and nothing submitted, the admissions change only the head of the ring. -/
theorem State.applyAdmissions_none {v : State} {q : Nat} (hcancels : (v.slot q).cancels = []) (hwaiting : (v.slot q).svc.waiting = []) :
    v.applyAdmissions q = v.setSlot q (v.slot q).nothingAdmitted := by
  unfold State.applyAdmissions
  rw [hcancels, List.foldl_nil]
  dsimp only
  rw [hwaiting]
  rfl

include hcmds in
theorem epochBoundary_takesSet (hphase : (s.slot q).phase = 0) (hholds : s.commitHolds q = false)
    (hcancels : (s.slot q).cancels = []) (hwaiting : (s.slot q).svc.waiting = []) :
    Answers (.epochBoundary q) s (fun u => u.regs = s.regs ∧ u.tiles = s.tiles ∧ (u.slot q).phase = 1 ∧
      (u.slot q).mset = s.regionList q) := by
  have hstep := State.epochStep_takes hgoing harrived hreleased hquiet hpoint hphase hholds
  have htaken : (s.setSlot q ((s.slot q).setTaken (s.regionList q))).slot q = (s.slot q).setTaken (s.regionList q) :=
    State.slot_setSlot_self ..
  have hadmit := State.applyAdmissions_none (v := s.setSlot q ((s.slot q).setTaken (s.regionList q))) (q := q)
    (by rw [htaken]; exact hcancels) (by rw [htaken]; exact hwaiting)
  rw [htaken] at hadmit
  refine ⟨_, exec_epochBoundary (hstep.trans hadmit) hcmds, rfl, rfl, ?_, ?_⟩ <;> rw [State.slot_setSlot_self] <;> rfl

/-! ## The mirror set is sent (steps 2 and 3) -/

/-- The slot as the boundary begins to send. -/
def Slot.sending (x : Slot) (len step : Nat) : Slot :=
  { x with pagesOut := [], pagesSent := 0, gotLanded := false, recSent := len, preStep := step, phase := 2 }

omit hgoing harrived hreleased hquiet hpoint in
theorem sendEpoch_work {s : State} {q : Nat} (hruns : (s.slot q).runs) : ∃ v : State, s.sendEpoch q = v.setMirror q 2 ∧
    (s.setSlot q ((s.slot q).sending (recordBytes (s.slot q).image (s.slot q).commits).length (s.stepAfter q))).sameWork q v := by
  refine ⟨_, rfl, ?_⟩
  have hbegun := State.sameWork.refl
    (s.setSlot q ((s.slot q).sending (recordBytes (s.slot q).image (s.slot q).commits).length (s.stepAfter q))) q
  have hbegunRuns : ((s.setSlot q ((s.slot q).sending (recordBytes (s.slot q).image (s.slot q).commits).length
      (s.stepAfter q))).slot q).runs := by
    rw [State.slot_setSlot_self]
    exact hruns
  refine State.sameWork.sendMirror ?_ ..
  refine List.foldlRecOn (motive := fun v : State => State.sameWork _ q v) _ _ ?_ (fun v hv p _ => ?_)
  · exact List.foldlRecOn (motive := fun v : State => State.sameWork _ q v) _ _ hbegun (fun v hv k _ => hv.sendPage ..)
  · dsimp only
    split
    · exact hv.sendSetPage hbegunRuns ..
    · exact hv

include hcmds in
theorem epochBoundary_sends (hphase : (s.slot q).phase = 1) (hholds : s.svcHolds q = false) :
    Answers (.epochBoundary q) s (fun u => (u.slot q).phase = 2 ∧ (u.slot q).preStep = s.stepAfter q ∧
      u.fld (Reg.mirrorStatus q) 28 4 = 2) := by
  have hstep := State.epochStep_sends hgoing harrived hreleased hquiet hpoint hphase hholds
  obtain ⟨v, hsend, hwork⟩ := sendEpoch_work (Slot.runs_of_going hgoing)
  rw [hsend] at hstep
  have hslot := hwork.slot
  rw [State.slot_setSlot_self] at hslot
  exact ⟨_, exec_epochBoundary hstep (hwork.cmds.trans hcmds), (congrArg Slot.phase hslot : _), (congrArg Slot.preStep hslot : _), State.fld_setFld_of_lt _ _ (by decide) (by decide)⟩

/-! ## The module is PREPARED, and arrives (step 4) -/

/-- The module is PREPARED. -/
def State.prepared (s : State) (q : Nat) : State := (s.setSlot q ((s.slot q).atPhase 3)).setMirror q 3

omit hgoing harrived hreleased hquiet hpoint in
theorem State.prepared_slot (s : State) (q : Nat) : (s.prepared q).slot q = (s.slot q).atPhase 3 := State.slot_setSlot_self ..

omit hgoing harrived hreleased hquiet hpoint in
theorem State.prepared_samePoint (s : State) (q : Nat) : s.samePoint q (s.prepared q) :=
  ⟨rfl, rfl, by rw [s.prepared_slot q]; rfl, fun _ ha => State.rd_wr_ne _ _ (ha q)⟩

omit hgoing harrived hreleased hquiet hpoint in
/-- The arrival at an epoch boundary carries PREPARED (R443). -/
theorem State.barAux_prepared {v : State} {q : Nat} (h : v.epochPoint q = true) : (v.barAux q).testBit 1 = true := by
  have hbits : ∀ a c d : Bool, ((if a then 1 else 0) + 2 + (if c then 4 else 0) + (if d then 8 else 0) : Nat).testBit 1 = true := by decide
  unfold State.barAux
  dsimp only
  rw [h, if_pos rfl]
  exact hbits ..

/-- The slot once its module has arrived. -/
def Slot.hasArrived (x : Slot) : Slot := { x with kids := [], arrivedUp := true }

omit hgoing harrived hreleased hquiet hpoint in
/-- A node without children arrives at its parent as soon as its own conditions hold (R423). -/
theorem State.tryArrive_leaf {v : State} {q m : Nat} (hgoing : (v.slot q).going = true) (harrived : (v.slot q).arrivedUp = false)
    (hreleased : (v.slot q).released = none) (hquiet : v.quiet q = true) (hphase : (v.slot q).phase = 3) (hkids : v.barKids q = [])
    (hnone : (v.slot q).kids = []) (hparent : v.barParent q = some m) :
    v.tryArrive q = (v.setSlot q (v.slot q).hasArrived).sendCtrl q 0x21 m (v.barAddr q) (v.barAux q) := by
  unfold State.tryArrive
  dsimp only
  rw [if_pos (by simp [hgoing, harrived, hreleased, hquiet, hphase, hkids]), hnone, hparent]
  rfl

include hcmds in
theorem epochBoundary_prepares (hphase : (s.slot q).phase = 2) (hlanded : (s.slot q).gotLanded = true)
    (hanswered : (s.slot q).answered = some (s.nextEpoch q)) (hkids : s.barKids q = []) (hnone : (s.slot q).kids = []) {m : Nat}
    (hparent : s.barParent q = some m) : Answers (.epochBoundary q) s (fun u => (u.slot q).phase = 3 ∧
      (u.slot q).arrivedUp = true ∧ u.fld (Reg.mirrorStatus q) 28 4 = 3 ∧ s.onlyRegs { u with slots := s.slots, fabOut := s.fabOut }
        [Reg.mirrorStatus q] ∧ ∃ p, u.fabOut = s.fabOut ++ [p] ∧ p.kind = 0x21 ∧ p.dstModule = m ∧ p.aux.testBit 1 = true) := by
  have hstep := State.epochStep_prepares hgoing harrived hreleased hquiet hpoint hphase hlanded hanswered
  rw [← State.prepared] at hstep
  have hsame := s.prepared_samePoint q
  have hslot := s.prepared_slot q
  have harrives := State.tryArrive_leaf (v := s.prepared q) (q := q) (m := m) (by rw [hslot]; exact hgoing) (by rw [hslot]; exact harrived)
    (by rw [hslot]; exact hreleased) (hsame.quiet.trans hquiet) (by rw [hslot]; rfl) ((hsame.barKids q.isLt).trans hkids)
    (by rw [hslot]; exact hnone) ((hsame.barParent q.isLt).trans hparent)
  have haux := State.barAux_prepared (hsame.epochPoint.trans hpoint)
  generalize (s.prepared q).barAux q = aux at harrives haux
  generalize (s.prepared q).barAddr q = addr at harrives
  rw [hslot] at harrives
  have hheld : (((s.prepared q).setSlot q ((s.slot q).atPhase 3).hasArrived).sendCtrl q 0x21 m addr aux).slot q =
    ((s.slot q).atPhase 3).hasArrived := State.slot_setSlot_self ..
  rw [State.barrier, harrives, State.tryRelease_of_none (by rw [hheld]; exact hreleased)] at hstep
  refine ⟨_, exec_epochBoundary hstep hcmds, by rw [hheld]; rfl, by rw [hheld]; rfl, State.fld_setFld_of_lt _ _ (by decide) (by decide), ⟨rfl, ?_⟩, _, rfl, rfl, rfl, haux⟩
  exact ((State.onlyRegs.refl s [Reg.mirrorStatus q]).setFld List.mem_cons_self 28 4 3).2

end Boundary

end Sys2Proof.Machine
end

section
/-! SUPPORT. Pages of the partner, and the messages of an epoch boundary, as they come over a mirror port (R441, R443, R452).
Settles O49. -/

namespace Sys2Proof.Machine

/-! ## Mirror ports (R411, R452) -/

/-- The fabric ports hold `l`. -/
def State.withFab (s : State) (l : List (Nat × FabPort)) : State := { s with fabPorts := l }

theorem State.pump_fab (s : State) (p : Nat) : ∃ l, s.pump p = s.withFab l := by
  unfold State.pump
  split
  · exact ⟨_, rfl⟩
  · exact ⟨s.fabPorts, rfl⟩

theorem State.sendVia_fab (s : State) (p : Nat) (pkt : Packet) : ∃ l, s.sendVia p pkt = s.withFab l := by
  obtain ⟨l, hl⟩ := (s.setFab p { s.fab p with tx := (s.fab p).tx ++
    [({ pkt with hops := pkt.hops + 1 }, ({ pkt with hops := pkt.hops + 1 } : Packet).units)] }).pump_fab p
  exact ⟨l, hl⟩

theorem State.sendMirror_fab (s : State) (q code addr : Nat) : ∃ l, s.sendMirror q code addr = s.withFab l := by
  unfold State.sendMirror
  split
  · exact s.sendVia_fab ..
  · exact ⟨s.fabPorts, rfl⟩

/-- The answer to a page that came over a fabric port. -/
theorem State.pageReply_fab (s : State) (i : PortId) (p : Packet) (kind code : Nat) :
    ∃ l, s.pageReply (.port i) p kind code = s.withFab l := s.sendVia_fab ..

/-- What comes over a mirror port is delivered. -/
theorem State.comesTo_delivers {s : State} {place : PktAt} {want : Packet → Bool} {p : Packet} {rest : List Packet}
    (h : s.comesTo place want p rest) (htraffic : mirrorTraffic p = true) (deliver : Packet → State → State) :
    ∃ (i : PortId) (l : List (Nat × FabPort)), place = .port i ∧ s.onPacket place want deliver = deliver p (s.withFab l) := by
  obtain ⟨htake, hme, i, rfl, hi⟩ := h
  refine ⟨i, tset s.fabPorts i.val { s.fab i.val with inbox := rest }, rfl, ?_⟩
  rw [State.onPacket, htake]
  dsimp only
  rw [if_pos hi, if_pos (by rw [hme, htraffic]; rfl)]
  rfl

theorem takeHead_wanted {want : Packet → Bool} {seen : List Nat} {ps : List Packet} {p : Packet} {rest : List Packet}
    (h : takeHead want seen ps = some (p, rest)) : want p = true := by
  induction ps generalizing seen rest with
  | nil => cases h
  | cons x ps ih =>
    rw [takeHead] at h
    split at h
    · next hwant =>
      cases h
      exact (Bool.and_eq_true_iff.mp hwant).2
    · obtain ⟨⟨y, r⟩, hy, heq⟩ := Option.map_eq_some_iff.1 h
      cases heq
      exact ih hy

section Arrives
variable {s : State} {q : PartId} {place : PktAt} {p : Packet} {rest : List Packet} (hcmds : s.cmds = [])
  (hpart : s.jobPart p = some q.val)

/-! ## Pages (R436, R441) -/

/-- The bytes of a page stand in the mirror area. -/
def State.pageStored (s : State) (off : Nat) (bs : List Byte) : State :=
  { s with hbm := mwrite s.hbm off bs, hbmErr := s.hbmErr.filter (fun e => e.1 < off / 32 || (off + bs.length) / 32 ≤ e.1) }

/-- One more page of the partner has landed. -/
def Slot.pageLanded (x : Slot) : Slot := { x with pagesIn := x.pagesIn + 1 }

theorem State.landPage_stores {v : State} {q : Nat} {bs : List Byte} (hdata : p.data = bs.map some)
    (hfits : p.addr + bs.length ≤ (v.mirrorArea q).2) (hrestart : (v.slot q).restart < 3)
    (himage : v.needImage ((v.mirrorArea q).1 + p.addr) bs.length = []) (i : PortId) : v.landPage (.port i) q p =
      (((v.pageStored ((v.mirrorArea q).1 + p.addr) bs).setSlot q (v.slot q).pageLanded).pageReply (.port i) p 0x12 0).tryLanded q := by
  have hlen : p.data.length = bs.length := by rw [hdata, List.length_map]
  unfold State.landPage
  dsimp only
  rw [hlen, if_neg (Nat.not_lt.2 hfits), if_neg (Nat.not_le.2 hrestart), himage, List.foldl_nil, himage, if_pos (by rfl), hdata,
    mwriteEn_some]
  rfl

theorem State.tryLanded_none {v : State} {q : Nat} (h : (v.slot q).peerSent = none) : v.tryLanded q = v := by
  unfold State.tryLanded
  dsimp only
  rw [h]

theorem State.prepare_of_ne {v : State} {q : Nat} (h : (v.slot q).phase ≠ 2) : v.prepare q = v := if_neg h

include hpart in
theorem exec_page (hcomes : s.comesTo place (fun p => p.kind == 0x04) p rest) (hreceiving : s.receiving = none) :
    ∃ (i : PortId) (l : List (Nat × FabPort)), place = .port i ∧
      exec (.page place) s = .next (((s.withFab l).landPage (.port i) q p).prepare q).settleCmds := by
  have hkind : p.kind == 0x04 := takeHead_wanted hcomes.1
  obtain ⟨i, l, rfl, hpkt⟩ := State.comesTo_delivers hcomes (by rw [mirrorTraffic, hkind]; rfl) (fun p s =>
    match s.receiving, s.jobPart p with
    | some q, _ => (s.restorePage place q p).tryRestored q
    | none, some q => (s.landPage place q p).prepare q
    | none, none => s.pageReply place p 0x13 0x10)
  refine ⟨i, l, rfl, ?_⟩
  have hreceiving' : (s.withFab l).receiving = none := hreceiving
  have hpart' : (s.withFab l).jobPart p = some q.val := hpart
  rw [hreceiving', hpart'] at hpkt
  show execPage (.port i) s = _
  unfold execPage
  rw [hreceiving, if_neg (by simp)]
  exact congrArg (fun v : State => Host.Outcome.next v.settleCmds) hpkt

include hcmds hpart

theorem page_lands (hcomes : s.comesTo place (fun p => p.kind == 0x04) p rest) (hreceiving : s.receiving = none)
    (hphase : (s.slot q).phase ≠ 2) {bs : List Byte} (hdata : p.data = bs.map some)
    (hfits : p.addr + bs.length ≤ (s.mirrorArea q).2) (hrestart : (s.slot q).restart < 3)
    (himage : s.needImage ((s.mirrorArea q).1 + p.addr) bs.length = []) (hpeer : (s.slot q).peerSent = none) :
    Answers (.page place) s (fun u =>
      (∀ i (h : i < bs.length), mget u.hbm ((s.mirrorArea q).1 + p.addr + i) = bs[i]) ∧
      (∀ a, a < (s.mirrorArea q).1 + p.addr ∨ (s.mirrorArea q).1 + p.addr + bs.length ≤ a → mget u.hbm a = mget s.hbm a) ∧
      u.slot q = { s.slot q with pagesIn := (s.slot q).pagesIn + 1 } ∧ u.regs = s.regs ∧ u.hbmDirty = s.hbmDirty) := by
  obtain ⟨i, l, rfl, hexec⟩ := exec_page hpart hcomes hreceiving
  have hstores := State.landPage_stores (v := s.withFab l) hdata hfits hrestart himage i
  obtain ⟨l', hreply⟩ := State.pageReply_fab ((((s.withFab l).pageStored ((s.mirrorArea q).1 + p.addr) bs).setSlot q
    (s.slot q).pageLanded)) i p 0x12 0
  have hslot : ((((s.withFab l).pageStored ((s.mirrorArea q).1 + p.addr) bs).setSlot q (s.slot q).pageLanded).withFab l').slot q =
    (s.slot q).pageLanded := State.slot_setSlot_self ..
  have hlands : (s.withFab l).landPage (.port i) q p =
      (((s.withFab l).pageStored ((s.mirrorArea q).1 + p.addr) bs).setSlot q (s.slot q).pageLanded).withFab l' :=
    hstores.trans ((congrArg (fun v : State => v.tryLanded q) hreply).trans (State.tryLanded_none (by rw [hslot]; exact hpeer)))
  rw [hlands, State.prepare_of_ne (by rw [hslot]; exact hphase), State.settleCmds_of_nil (by exact hcmds)] at hexec
  exact ⟨_, hexec, fun j hj => mget_mwrite_in _ _ _ _ hj, fun a ha => mget_mwrite_out _ _ _ a ha, hslot, rfl, rfl⟩

theorem page_refused (hcomes : s.comesTo place (fun p => p.kind == 0x04) p rest) (hreceiving : s.receiving = none)
    (hphase : (s.slot q).phase ≠ 2) (hbeyond : (s.mirrorArea q).2 < p.addr + p.data.length) :
    Answers (.page place) s (fun u => u.hbm = s.hbm ∧ u.slots = s.slots ∧ u.regs = s.regs) := by
  obtain ⟨i, l, rfl, hexec⟩ := exec_page hpart hcomes hreceiving
  obtain ⟨l', hreply⟩ := (s.withFab l).pageReply_fab i p 0x13 0x10
  have hlands : (s.withFab l).landPage (.port i) q p = (s.withFab l).withFab l' := (if_pos hbeyond).trans hreply
  rw [hlands, State.prepare_of_ne (v := (s.withFab l).withFab l') hphase,
    State.settleCmds_of_nil (by exact hcmds)] at hexec
  exact ⟨_, hexec, rfl, rfl, rfl⟩

/-! ## EPOCH_SENT and EPOCH_LANDED (R443, R452) -/

omit hcmds hpart in
theorem mirrorTraffic_of_isMsg {c : Nat} (h : isMsg c p = true) (hc : c ≤ 5) : mirrorTraffic p = true := by
  obtain ⟨hkind, hcode⟩ := Bool.and_eq_true_iff.mp h
  have hle : p.aux % 256 ≤ 5 := (eq_of_beq hcode).trans_le hc
  simp [mirrorTraffic, mirrorMsg, eq_of_beq hkind, hle]

/-- The slot knows that the partner has sent `c` pages of epoch `e`. -/
def Slot.heard (x : Slot) (e c : Nat) : Slot := { x with peerSent := some (e, c) }

/-- The slot once the pages of the partner's epoch `e` have landed. -/
def Slot.hasAnswered (x : Slot) (e c : Nat) : Slot := { x with pagesIn := x.pagesIn - c, peerSent := none, answered := some e }

omit hcmds in
theorem exec_epochSent (hcomes : s.comesTo place (isMsg 0x01) p rest) : ∃ l, exec (.epochSent place) s = .next
    (((((s.withFab l).setSlot q ((s.slot q).heard (p.addr % 65536) (p.addr / 0x100000000))).tryLanded q).prepare q)).settleCmds := by
  obtain ⟨i, l, rfl, hpkt⟩ := State.comesTo_delivers hcomes (mirrorTraffic_of_isMsg (takeHead_wanted hcomes.1) (by decide))
    (fun p s =>
    match s.jobPart p with
    | none => s
    | some q =>
      let s := s.setSlot q { s.slot q with peerSent := some (p.addr % 65536, p.addr / 0x100000000) }
      (s.tryLanded q).prepare q)
  have hpart' : (s.withFab l).jobPart p = some q.val := hpart
  rw [hpart'] at hpkt
  exact ⟨l, congrArg (fun v : State => Host.Outcome.next v.settleCmds) hpkt⟩

theorem epochSent_answers (hcomes : s.comesTo place (isMsg 0x01) p rest) (hphase : (s.slot q).phase ≠ 2)
    (hlanded : p.addr / 0x100000000 ≤ (s.slot q).pagesIn) : Answers (.epochSent place) s (fun u => u.regs = s.regs ∧
      u.slot q = { s.slot q with pagesIn := (s.slot q).pagesIn - p.addr / 0x100000000, peerSent := none,
                                 answered := some (p.addr % 65536) }) := by
  obtain ⟨l, hexec⟩ := exec_epochSent hpart hcomes
  generalize p.addr % 65536 = e at hexec
  generalize p.addr / 0x100000000 = c at hexec hlanded
  have hheard : ((s.withFab l).setSlot q ((s.slot q).heard e c)).slot q = (s.slot q).heard e c := State.slot_setSlot_self ..
  obtain ⟨l', hsend⟩ := State.sendMirror_fab (((s.withFab l).setSlot q ((s.slot q).heard e c)).setSlot q ((s.slot q).hasAnswered e c))
    q 0x02 e
  have hanswers : ((s.withFab l).setSlot q ((s.slot q).heard e c)).tryLanded q =
      (((s.withFab l).setSlot q ((s.slot q).heard e c)).setSlot q ((s.slot q).hasAnswered e c)).sendMirror q 0x02 e := by
    unfold State.tryLanded
    dsimp only
    rw [hheard]
    exact if_pos hlanded
  have hslot : ((((s.withFab l).setSlot q ((s.slot q).heard e c)).setSlot q ((s.slot q).hasAnswered e c)).withFab l').slot q =
    (s.slot q).hasAnswered e c := State.slot_setSlot_self ..
  rw [hanswers, hsend, State.prepare_of_ne (by rw [hslot]; exact hphase), State.settleCmds_of_nil (by exact hcmds)] at hexec
  exact ⟨_, hexec, rfl, hslot⟩

theorem epochSent_waits (hcomes : s.comesTo place (isMsg 0x01) p rest) (hphase : (s.slot q).phase ≠ 2)
    (hmissing : (s.slot q).pagesIn < p.addr / 0x100000000) : Answers (.epochSent place) s (fun u => u.regs = s.regs ∧
      u.slot q = { s.slot q with peerSent := some (p.addr % 65536, p.addr / 0x100000000) }) := by
  obtain ⟨l, hexec⟩ := exec_epochSent hpart hcomes
  generalize p.addr % 65536 = e at hexec
  generalize p.addr / 0x100000000 = c at hexec hmissing
  have hheard : ((s.withFab l).setSlot q ((s.slot q).heard e c)).slot q = (s.slot q).heard e c := State.slot_setSlot_self ..
  have hwaits : ((s.withFab l).setSlot q ((s.slot q).heard e c)).tryLanded q = (s.withFab l).setSlot q ((s.slot q).heard e c) := by
    unfold State.tryLanded
    dsimp only
    rw [hheard]
    exact if_neg (Nat.not_le.2 hmissing)
  rw [hwaits, State.prepare_of_ne (by rw [hheard]; exact hphase),
    State.settleCmds_of_nil (by exact hcmds)] at hexec
  exact ⟨_, hexec, rfl, hheard⟩

/-- The slot knows that its own pages have landed. -/
def Slot.ownLanded (x : Slot) : Slot := { x with gotLanded := true }

omit hcmds in
theorem exec_epochLanded (hcomes : s.comesTo place (isMsg 0x02) p rest) : ∃ l, exec (.epochLanded place) s = .next
    (if (s.slot q).phase = 2 ∧ p.addr % 65536 = s.nextEpoch q then ((s.withFab l).setSlot q (s.slot q).ownLanded).prepare q
      else s.withFab l).settleCmds := by
  obtain ⟨i, l, rfl, hpkt⟩ := State.comesTo_delivers hcomes (mirrorTraffic_of_isMsg (takeHead_wanted hcomes.1) (by decide))
    (fun p s =>
    match s.jobPart p with
    | none => s
    | some q =>
      if (s.slot q).phase = 2 ∧ p.addr % 65536 = s.nextEpoch q then
        (s.setSlot q { s.slot q with gotLanded := true }).prepare q
      else s)
  have hpart' : (s.withFab l).jobPart p = some q.val := hpart
  rw [hpart'] at hpkt
  exact ⟨l, congrArg (fun v : State => Host.Outcome.next v.settleCmds) hpkt⟩

omit hcmds hpart in
/-- The boundary waits until the module has answered the partner's epoch. -/
theorem State.prepare_unanswered {v : State} {q : Nat} (hphase : (v.slot q).phase = 2)
    (hanswered : (v.slot q).answered ≠ some (v.nextEpoch q)) : v.prepare q = v := by
  refine (if_pos hphase).trans ?_
  unfold State.epochStep
  dsimp only
  rw [hphase]
  split
  · exact if_neg (by simp [hanswered])
  · rfl

theorem epochLanded_notes (hcomes : s.comesTo place (isMsg 0x02) p rest) (hphase : (s.slot q).phase = 2)
    (hanswered : (s.slot q).answered ≠ some (s.nextEpoch q)) (hepoch : p.addr % 65536 = s.nextEpoch q) :
    Answers (.epochLanded place) s (fun u => u.regs = s.regs ∧ u.slot q = { s.slot q with gotLanded := true }) := by
  obtain ⟨l, hexec⟩ := exec_epochLanded hpart hcomes
  have hslot : ((s.withFab l).setSlot q (s.slot q).ownLanded).slot q = (s.slot q).ownLanded := State.slot_setSlot_self ..
  have hnext : ((s.withFab l).setSlot q (s.slot q).ownLanded).nextEpoch q = s.nextEpoch q := by
    unfold State.nextEpoch
    rw [hslot]
    rfl
  rw [if_pos ⟨hphase, hepoch⟩, State.prepare_unanswered (by rw [hslot]; exact hphase) (by rw [hslot, hnext]; exact hanswered),
    State.settleCmds_of_nil (by exact hcmds)] at hexec
  exact ⟨_, hexec, rfl, hslot⟩

theorem epochLanded_ignored (hcomes : s.comesTo place (isMsg 0x02) p rest) (hepoch : p.addr % 65536 ≠ s.nextEpoch q) :
    Answers (.epochLanded place) s (fun u => u.regs = s.regs ∧ u.slot q = s.slot q) := by
  obtain ⟨l, hexec⟩ := exec_epochLanded hpart hcomes
  rw [if_neg (fun h => hepoch h.2), State.settleCmds_of_nil (by exact hcmds)] at hexec
  exact ⟨_, hexec, rfl, rfl⟩

end Arrives

end Sys2Proof.Machine

open Sys2Proof.Machine in
/-- Settles O49, stage by stage and message by message. The pages that the undo area counts are log entry 14 and the epoch that
tags a before-image is log entry 42, both the model's own choices. -/
theorem epochsCommitAndPagesLand : Obligations.EpochsCommitAndPagesLand := by
  unfold Obligations.EpochsCommitAndPagesLand
  intro s q hcmds
  refine ⟨fun hgoing harrived hreleased hquiet hpoint => ⟨?_, ?_, ?_⟩, fun page hpart himage =>
    ⟨beforeImageCopy_takes hpart himage, beforeImageCopy_full hpart himage⟩, fun place p rest hpart hreceiving =>
    ⟨fun hcomes hphase => ⟨fun bs hdata hfits hrestart himage hpeer => ?_, page_refused hcmds hpart hcomes hreceiving hphase⟩,
      fun hcomes hphase => ⟨epochSent_answers hcmds hpart hcomes hphase, epochSent_waits hcmds hpart hcomes hphase⟩,
      fun hcomes hphase hanswered => ⟨epochLanded_notes hcmds hpart hcomes hphase hanswered, epochLanded_ignored hcmds hpart hcomes⟩⟩⟩
  · exact epochBoundary_takesSet hcmds hgoing harrived hreleased hquiet hpoint
  · exact epochBoundary_sends hcmds hgoing harrived hreleased hquiet hpoint
  · intro hphase hlanded hanswered hkids hnone m hparent
    exact epochBoundary_prepares hcmds hgoing harrived hreleased hquiet hpoint hphase hlanded hanswered hkids hnone hparent
  · exact page_lands hcmds hpart hcomes hreceiving hphase hdata hfits hrestart himage hpeer
end
